-- ==== Sys2Proof/Word.lean ====
section
/-! DEFINITION. Word types of the Abtal A8 and their plainest helpers.

The manual writes a bit field [msb:lsb] with bit 0 least significant (R12); registers and host
structures are little-endian, Proane records and backbone frames big-endian (R13). -/

namespace Sys2Proof

/-- One byte. -/
abbrev Byte := BitVec 8
/-- A 16-bit word. -/
abbrev W16 := BitVec 16
/-- A 32-bit register word. -/
abbrev W32 := BitVec 32
/-- A 48-bit word (GTC, MAC address). -/
abbrev W48 := BitVec 48
/-- A 64-bit word (serial, SEQ, host address). -/
abbrev W64 := BitVec 64
/-- An outlet, 0 to 7 (R1). -/
abbrev Outlet8 := Fin 8
/-- A graticule group of slots: 0 to 7 the outlets, 8 the feeder. -/
abbrev Group := Fin 9
/-- A count of ticks in the running GTC series, or a tick of that series. -/
abbrev Tick := Nat

end Sys2Proof
end

