-- ==== Sys2Proof/Syntax.lean ====
section
/-! DEFINITION. The commands of the A8: one constructor per row of spec/opcode_table.json.

A command is one step of the part, whole and indivisible (95_what_each_step_holds.md). Its operands
are what comes from outside the part: the value a host writes, the samples of a tick, the fields of
a received message. A descriptor opcode (SYS_NOP, ...) has no operand: it is the DISPATCH, in
foreground C, of the next descriptor in flight, and its parameters lie in the 64 bytes that
DESCRIPTOR_FETCH brought (R54, R77). -/

namespace Sys2Proof

/-- A host ring (R69): 16 submission rings, 16 completion rings, one event ring. -/
inductive Ring where
  | sq (n : Fin 16) | cq (n : Fin 16) | evq
  deriving DecidableEq, Repr

/-- A ring that the A8 writes: a completion ring or the event ring. -/
inductive OutRing where
  | cq (n : Fin 16) | evq
  deriving DecidableEq, Repr

/-- The two windows that the host writes: BAR0 holds the registers, BAR2 the doorbells and the MSI-X
table and pending bits (R65). -/
inductive Bar where
  | bar0 | bar2
  deriving DecidableEq, Repr

/-- Which of a ring's four registers is written (R68). -/
inductive RingReg where
  | baseLo | baseHi | cfg | index
  deriving DecidableEq, Repr

/-- What the read of a descriptor's input buffer gave (R77). -/
inductive BufRead where
  | none | ok (bytes : List Byte) | failed
  deriving DecidableEq, Repr

/-- Which read of the host latches a 64-bit journal number (R85). -/
inductive JnlEnd where
  | head | tail
  deriving DecidableEq, Repr

/-- The windows and units that can overrun (R60, R63). -/
inductive Overrun where
  | fgSafety | fgMeter | fgHost | bg | fn (cls : Byte)
  deriving DecidableEq, Repr

/-- The three ways to the same reset of the host interface unit (R67). -/
inductive LinkReset where
  | hotReset | linkDown | d3hot
  deriving DecidableEq, Repr

/-- Readback of the two coil switches of an outlet and of the coil current (R212, R213). -/
structure CoilRb where
  high : Bool
  low : Bool
  current : Bool
  deriving DecidableEq, Repr

/-- One sample of a stop input: open at the sample instant, and the opening edges that its counter
registered since the previous sample (R234). -/
structure StopIn where
  isOpen : Bool
  edges : Nat
  deriving DecidableEq, Repr

/-- The three memories of R415 with their numbers of R425. -/
inductive MemId where
  | mram | appSram | metSram
  deriving DecidableEq, Repr

/-- A bit of a stored word that has flipped: 0 to 63 data, 64 to 71 check, 72 poison, 73 to 75 the
three copies of the valid bit (R415). -/
structure Upset where
  mem : MemId
  addr : Nat
  bit : Nat
  deriving DecidableEq, Repr

/-- Owners of a record held in three copies (R419). -/
inductive Owner where
  | billing (n : Outlet8) | account (n : Outlet8) | safety | key (k : Fin 32) | tokens | helper
  deriving DecidableEq, Repr

/-- Consumers of a poisoned word with their numbers of R433 (DATA[21]). -/
inductive Consumer where
  | dma (seq : W64) | regRead | copy (o : Owner) (j : Fin 3) | sample (k : Fin 72) | lockstep
  | fn (cls : Byte) | bootCheck
  deriving DecidableEq, Repr

/-- How a stored copy of a three-copy record is found when it is looked at: sound, with a failing
CRC-32C or tag, or cut so that it still holds the state before the last commit (R143, R144). -/
inductive CopyHurt where
  | badCrc | stale
  deriving DecidableEq, Repr

/-- What the outside world gives the A8 in one tick (R50: latched at cycle 0, or polled). Lists run
over the slots or outlets in ascending order. -/
structure TickIn where
  /-- The 96 modulator bits of each of the 72 slots that complete the sample written in this tick
  (R91, R96, R101); bit 0 is the oldest. -/
  mods : List (BitVec 96)
  /-- CP_SNS_n, in mV, 10 µs after the edge (R197). -/
  cp : List Int
  /-- Resistance between PP_n and protective earth, in Ω (R202). -/
  pp : List Nat
  /-- MIR_n is low (R214). -/
  mirLow : List Bool
  /-- LOCK_FB_n is high (R219). -/
  lockHigh : List Bool
  /-- Coil switch readback (R213). -/
  coil : List CoilRb
  /-- ESTOP0_A, ESTOP0_B, ESTOP1_A, ESTOP1_B (R233). -/
  stop : List StopIn
  /-- The lockstep comparator found a mismatch in this tick's windows (R232). -/
  mismatch : Bool
  /-- The link accepts the completion, event and buffer writes of this tick (R77, R474). -/
  linkOk : Bool
  /-- The link reports no error for the buffer writes of this tick, as by an error completion (R77). -/
  bufOk : Bool
  /-- Bits that flipped in the stored words since the last tick (R415). -/
  upsets : List Upset
  /-- Copies of three-copy records that were hurt since the last tick (R144, R247, R396). -/
  hurts : List (Owner × Fin 3 × CopyHurt)
  /-- Poisoned words that a consumer meets in this tick (R418). -/
  consumes : List (Consumer × MemId × Nat)
  /-- Cycle at which foreground C completes, and at which the last background step does (R49, R60, R63). -/
  fgEnd : Nat
  bgEnd : Nat
  deriving DecidableEq, Repr

/-- Cipher suites of the TLS profiles of R262, and any other. -/
inductive TlsSuite where
  | ecdheEcdsaAes128CbcSha256 | aes128GcmSha256 | other
  deriving DecidableEq, Repr

/-- What a vehicle's ClientHello offers (R262): versions, cipher suites, whether secp256r1 is among its groups, what it would like beside
(a resumed session, early data, compression, a server name), and whether it gives a client certificate when asked. -/
structure TlsHello where
  tls12 : Bool
  tls13 : Bool
  suites : List TlsSuite
  p256 : Bool
  resume : Bool
  earlyData : Bool
  compression : Bool
  serverName : List Byte
  clientCert : Bool
  deriving DecidableEq, Repr

/-- Transport security that a vehicle asks for and can carry (R261, R262). -/
inductive TlsAsk where
  | none | hello (h : TlsHello)
  deriving DecidableEq, Repr

/-- Payload types of V2GTP: of the handshake, DIN SPEC 70121 and ISO 15118-2; of ISO 15118-20 in general and for AC; and any other (R261). -/
inductive PayloadType where
  | exi | main20 | ac20 | other
  deriving DecidableEq, Repr

/-- The header of a V2GTP frame: its version, its payload type and the length of its payload (R261). -/
structure V2gtpHeader where
  version : Byte
  ptype : PayloadType
  len : Nat
  deriving DecidableEq, Repr

/-- The application protocols with their PROTO numbers 1 to 3 (R263, R273). -/
inductive Proto where
  | din | iso2 | iso20
  deriving DecidableEq, Repr

/-- One entry of SupportedAppProtocolReq: the protocol, the versions and the vehicle's priority (1 best). -/
structure AppOffer where
  proto : Proto
  major : Nat
  minor : Nat
  priority : Nat
  deriving DecidableEq, Repr

/-- A contract chain as PaymentDetails carries it: the certificates in DER, the leaf first and without the root, and the EMAID
(R265, R273). -/
structure ContractChain where
  certs : List (List Byte)
  emaid : List Byte
  deriving DecidableEq, Repr

/-- The vehicle's parameter exchange (R273, KIND 2). -/
structure EvParams where
  evMax : Nat
  evMin : Nat
  energyWh : Nat
  departure : Nat
  evMaxDischarge : Nat
  dynamic : Bool
  deriving DecidableEq, Repr

/-- Requests of the supported set that V2G_REQUEST covers (R263), and any other. -/
inductive V2gKind where
  | serviceDiscovery | serviceDetail (service : Nat) | serviceSelection (bpt : Bool)
  | paymentServiceSelection (contract : Bool) | authorizationSetup
  /-- AC_ChargeParameterDiscovery of ISO 15118-20: maximum, minimum and maximum discharge current, in 0.1 A. -/
  | acChargeParameters (evMax evMin evMaxDischarge : Nat)
  | powerDeliveryStart | powerDeliveryRenegotiate | powerDeliveryStop
  /-- A message that does not decode under the negotiated schema (R267). -/
  | undecodable
  | other
  deriving DecidableEq, Repr

/-- A token message of R296 without its type. -/
structure TokMsg where
  phase : Fin 3
  count : Nat
  sender : W64
  receiver : W64
  xid : W32
  deadline : W32
  result : Nat
  deriving DecidableEq, Repr

/-- An open outgoing transfer as a member reports it (R300): state 1 offered, 2 COMMIT sent, 3 in doubt. -/
structure XferRep where
  xid : W32
  receiver : W64
  phase : Fin 3
  state : Nat
  count : Nat
  deadline : W32
  deriving DecidableEq, Repr

/-- An outlet's want as a member reports it: the site phases it uses, the tokens wanted per phase,
and the tick order of its entry into AUTHORISING (R291, R300, R304). -/
structure WantRep where
  phases : List (Fin 3)
  want : Nat
  entry : Nat
  deriving DecidableEq, Repr

/-- A member's report (R300). -/
structure Report where
  serial : W64
  held : List Nat
  transit : List Nat
  doubt : List Nat
  xfers : List XferRep
  wants : List WantRep
  senders : List W64
  budgetEd : W32
  budget : List Nat
  deriving DecidableEq, Repr

/-- The ledger digest of R302, and what the coordinator's ledger records as HELD of the node polled, which a node in LEDGER_DOUBT takes
back (R297; log 90). -/
structure Digest where
  dfn : W32
  budgetEd : W32
  budget : List Nat
  lsum : List Nat
  members : Nat
  absent : Nat
  lcrc : W32
  own : List Nat := []
  deriving DecidableEq, Repr

/-- A release entry of R303. -/
structure Release where
  sender : W64
  closed : W32
  deriving DecidableEq, Repr

/-- The frame header of R316. -/
structure Header where
  dfn : W32
  coord : W64
  station : W48
  domain : W32
  uOwner : Byte
  uRole : Nat
  target : Byte
  gw : Bool
  retry : Bool
  depth : Nat
  rate : Nat
  tmap : Byte
  crcOk : Bool
  deriving DecidableEq, Repr

/-- What a receiver sees of a segment: the noise floor over the preceding frame, the energy on the quiet carriers in each symbol, whether
the bits outside erased symbols are free of errors, and the bits per symbol of the tone map in use (R313, R314); for a relay, the
containers that it carries, and those heard in U of the frame before (R322). -/
structure SegmentRx where
  floor : Nat
  quiet : List Nat
  clean : Bool
  bps : Nat
  bytes : List Byte := []
  uBefore : List Byte := []
  deriving DecidableEq, Repr

/-- What a join request was answered with (R321, R295, R307). -/
inductive JoinReply where
  | slot (k : Fin 64) | refused | retired
  deriving DecidableEq, Repr

/-- An uplink envelope of R329. -/
structure Envelope where
  kind : Nat
  serial : W64
  epoch : W16
  seq : W32
  ack : W32
  payload : List Byte
  /-- PATH and FLAGS[0]. -/
  path : Nat := 0
  dual : Bool := false
  deriving DecidableEq, Repr

/-- A network path of the uplink. -/
inductive NetPath where
  | a | b
  deriving DecidableEq, Repr

/-- A link that a survey reports: the slots at its ends and its bits per symbol (R324). -/
structure LinkRep where
  src : Fin 64
  dst : Fin 64
  bps : Nat
  map : List Nat
  deriving DecidableEq, Repr

/-- A card that a poll resolved (R341): its type KTYPE 1 to 3, its identity, and whether it is an
ISO/IEC 14443-4 card. -/
structure Card where
  ktype : Nat
  ident : List Byte
  isoDep : Bool
  /-- Highest bit rate that the card offers, coded as MAXRATE. -/
  rate : Nat := 0
  deriving DecidableEq, Repr

/-- The outcome of a poll's anticollision (R340). -/
inductive PollHit where
  | nothing | one (c : Card) | several (ktype : Nat)
  deriving DecidableEq, Repr

/-- What the loader finds in the slot under check: its header, whether its tiles pass, and whether its signature verifies, which count
where the model does not hold the stored pieces (R410). -/
structure BootIn where
  header : List Byte
  tilesOk : Bool
  sigOk : Bool
  deriving DecidableEq, Repr

/-- What a level-0 start reads from the root array (R390): its 2,048 cells, block b in bits 128b to 128b + 127. -/
structure StartIn where
  cells : BitVec 2048
  deriving DecidableEq, Repr

/-- An MRAM transfer of 1 to 64 words (R428): the words written, or a read of count words. -/
inductive Xfer where
  | write (addr : Nat) (words : List (W64 × Bool)) | writeBytes (addr : Nat) (mask : Byte) (data : W64)
  | read (addr : Nat) (count : Nat)
  deriving DecidableEq, Repr

/-- The requests present in one cycle (R429): requester and transfer. -/
structure PortReq where
  requester : Fin 8
  xfer : Xfer
  deriving DecidableEq, Repr

/-- The brown-out detectors of sources 1 to 3 (R442). -/
inductive Brown where
  | sys | dig | ana
  deriving DecidableEq, Repr

/-- Which duplicated state disagreed (source 11, R442). -/
inductive Critical where
  | config | coilLatch | keyAttr
  deriving DecidableEq, Repr

/-- A condition that the captured power-fail warning saw (R437). -/
structure PfIn where
  vsysLow : Bool
  pfailLevel : Bool
  deriving DecidableEq, Repr

/-- The commands. Each is one row of spec/opcode_table.json, in the table's order. -/
inductive Instr where
  | tickEdge (i : TickIn)                                    -- TICK_EDGE R48
  | gtcStart (locked : Bool × Bool) (i : TickIn)             -- GTC_START R45: the lock of each PLL, the tick with GTC 0
  | longOperationDone                                        -- LONG_OPERATION_DONE R56
  | telemetrySnapshot                                        -- TELEMETRY_SNAPSHOT R59
  | tickOverrun (w : Overrun)                                -- TICK_OVERRUN R61
  | genGtcLoRead                                             -- GEN_GTC_LO_READ R47
  | genTickHwmRead                                           -- GEN_TICK_HWM_READ R63
  | registerWrite (bar : Bar) (off : W16) (v : W32)          -- REGISTER_WRITE R16
  | functionReady (bit : Fin 19)                             -- FUNCTION_READY R24
  | pcieReset (k : LinkReset)                                -- PCIE_RESET R67
  | hifRunSet                                                -- HIF_RUN_SET R68
  | hifRunClear                                              -- HIF_RUN_CLEAR R68
  | ringEnable (r : Ring)                                    -- RING_ENABLE R69
  | ringDisable (r : Ring)                                   -- RING_DISABLE R69
  | ringCfgWrite (r : Ring) (g : RingReg) (v : W32)          -- RING_CFG_WRITE R68
  | sqDoorbellWrite (n : Fin 16) (v : W32)                   -- SQ_DOORBELL_WRITE R71
  | cqDoorbellWrite (r : OutRing) (v : W32)                  -- CQ_DOORBELL_WRITE R71
  | descriptorFetch (sq : Fin 16) (raw : List Byte) (readOk : Bool) (buf : BufRead) (torn : Bool) -- DESCRIPTOR_FETCH R472
  | msixCoalTimeout (r : OutRing)                            -- MSIX_COAL_TIMEOUT R79
  | jnlSeqLoRead (e : JnlEnd)                                -- JNL_SEQ_LO_READ R85
  | jnlSelHiWrite (v : W32)                                  -- JNL_SEL_HI_WRITE R85
  | sysNop                                                   -- SYS_NOP R86
  | sysJournalRead                                           -- SYS_JOURNAL_READ R87
  | sysJournalInfo                                           -- SYS_JOURNAL_INFO R86
  | sysReplaceAck                                            -- SYS_REPLACE_ACK R88
  | sysReadySnapshot                                         -- SYS_READY_SNAPSHOT R86
  | mtrChcfgWrite (k : Fin 72) (v : W32)                     -- MTR_CHCFG_WRITE R94
  | mtrGcfgWrite (v : W32)                                   -- MTR_GCFG_WRITE R94
  | mtrSealSet                                               -- MTR_SEAL_SET R95
  | settlingEnd (g : Group)                                  -- SETTLING_END R94
  | mtrOverload (k : Fin 72) (neg : Bool)                    -- MTR_OVERLOAD R105
  | benchmarkCalibration                                     -- BENCHMARK_CALIBRATION R106
  | benchGainSave                                            -- BENCH_GAIN_SAVE R106
  | mtrTmpFirstWrite                                         -- MTR_TMP_FIRST_WRITE R108
  | mtrRawCapture                                            -- MTR_RAW_CAPTURE R112
  | rawCaptureDone                                           -- RAW_CAPTURE_DONE R112
  | mtrRawAbort                                              -- MTR_RAW_ABORT R112
  | mtrUnseal                                                -- MTR_UNSEAL R113
  | mtrCorrWrite                                             -- MTR_CORR_WRITE R116
  | mtrCorrRead                                              -- MTR_CORR_READ R116
  | mtrPhmapWrite (n : Outlet8) (v : W32)                    -- MTR_PHMAP_WRITE R119
  | cycleEnd (g : Group)                                     -- CYCLE_END R130
  | mtrPulseWrite (n : Outlet8) (v : W32)                    -- MTR_PULSE_WRITE R127
  | pulseEnd (n : Outlet8)                                   -- PULSE_END R126
  | mtrQuantRead                                             -- MTR_QUANT_READ R133
  | mtrAccRead                                               -- MTR_ACC_READ R134
  | mtrWatchRead                                             -- MTR_WATCH_READ R139
  | watchStart                                               -- WATCH_START R136
  | watchWindowEnd (mods : List (BitVec 51200))              -- WATCH_WINDOW_END R137: bits of 3 phases of 8 outlets, bit 0 oldest
  | watchHoursExpiry                                         -- WATCH_HOURS_EXPIRY R138
  | watchCellLow                                             -- WATCH_CELL_LOW R138
  | rtcSecondEdge                                            -- RTC_SECOND_EDGE R159
  | rtcMinuteEdge                                            -- RTC_MINUTE_EDGE R150
  | rtcTempCorrection (temp : Int)                           -- RTC_TEMP_CORRECTION R158: BTD sensor, 1/16 °C
  | intervalBoundary                                         -- INTERVAL_BOUNDARY R160
  | bilCfgWrite (v : W32)                                    -- BIL_CFG_WRITE R157
  | bilTimeSet                                               -- BIL_TIME_SET R161
  | clockStep                                                -- CLOCK_STEP R163
  | slewDone                                                 -- SLEW_DONE R162
  | retroClose                                               -- RETRO_CLOSE R164
  | bilRegRead                                               -- BIL_REG_READ R170
  | bilShortRead                                             -- BIL_SHORT_READ R171
  | bilIntervalRead                                          -- BIL_INTERVAL_READ R172
  | bilPowerRead                                             -- BIL_POWER_READ R172
  | bilTimeRead                                              -- BIL_TIME_READ R173
  | bilCalendarWrite                                         -- BIL_CALENDAR_WRITE R152
  | bilCalendarRead                                          -- BIL_CALENDAR_READ R173
  | bilMdReset                                               -- BIL_MD_RESET R173
  | prnEndSnapshot (n : Outlet8)                             -- PRN_END_SNAPSHOT R176
  | bilPrnSign                                               -- BIL_PRN_SIGN R179
  | bilPrnFetch                                              -- BIL_PRN_FETCH R179
  | bilPrnKeyRead                                            -- BIL_PRN_KEY_READ R180
  | bilPrnCertRead                                           -- BIL_PRN_CERT_READ R180
  | bilPpyConfig                                             -- BIL_PPY_CONFIG R181
  | bilPpyEmergency                                          -- BIL_PPY_EMERGENCY R184
  | emergencyActivate (n : Outlet8)                          -- EMERGENCY_ACTIVATE R184
  | bilPpyTopup                                              -- BIL_PPY_TOPUP R186
  | topupApply                                               -- TOPUP_APPLY R186
  | bilPpyRead                                               -- BIL_PPY_READ R189
  | tamperSample (coverHigh termHigh : Bool)                 -- TAMPER_SAMPLE R190
  | tamperChatterEnd (input : Fin 2)                         -- TAMPER_CHATTER_END R190
  | tamperCopy                                               -- TAMPER_COPY R191
  | bilTamperRead                                            -- BIL_TAMPER_READ R192
  | sesOcfgWrite (n : Outlet8) (v : W32)                     -- SES_OCFG_WRITE R194
  | sesCoilWrite (n : Outlet8) (v : W32)                     -- SES_COIL_WRITE R194
  | pilotStateRecognised (n : Outlet8)                       -- PILOT_STATE_RECOGNISED R198
  | pilotFault (n : Outlet8)                                 -- PILOT_FAULT R199
  | proximityNoneTimeout (n : Outlet8)                       -- PROXIMITY_NONE_TIMEOUT R204
  | authTimeout (n : Outlet8)                                -- AUTH_TIMEOUT R204
  | preauthExpiry (n : Outlet8)                              -- PREAUTH_EXPIRY R207
  | stoppingTimeout (n : Outlet8)                            -- STOPPING_TIMEOUT R204
  | faultDriveEnd (n : Outlet8)                              -- FAULT_DRIVE_END R203
  | stateMachineRequest (n : Outlet8)                        -- STATE_MACHINE_REQUEST R205
  | coilPullInEnd (n : Outlet8)                              -- COIL_PULL_IN_END R212
  | mirrorConfirm (n : Outlet8)                              -- MIRROR_CONFIRM R214
  | mirrorTimeout (n : Outlet8)                              -- MIRROR_TIMEOUT R214
  | shuntTripRelease                                         -- SHUNT_TRIP_RELEASE R217
  | lockConfirm (n : Outlet8)                                -- LOCK_CONFIRM R219
  | lockDriveEnd (n : Outlet8)                               -- LOCK_DRIVE_END R219
  | lockDriveTimeout (n : Outlet8)                           -- LOCK_DRIVE_TIMEOUT R219
  | lockRetry (n : Outlet8)                                  -- LOCK_RETRY R219
  | rcdTrip (n : Outlet8)                                    -- RCD_TRIP R222
  | rcdSelfTestPhaseEnd (n : Outlet8)                        -- RCD_SELF_TEST_PHASE_END R223
  | evOvercurrent (n : Outlet8)                              -- EV_OVERCURRENT R225
  | sesAuthorise                                             -- SES_AUTHORISE R207
  | sesStop                                                  -- SES_STOP R226
  | sesLimit                                                 -- SES_LIMIT R226
  | sesRead                                                  -- SES_READ R227
  | sesFaultClear                                            -- SES_FAULT_CLEAR R218
  | sesUnlock                                                -- SES_UNLOCK R226
  | estopContactRecognised (c : Fin 4)                       -- ESTOP_CONTACT_RECOGNISED R234
  | estopDiscrepancy (p : Fin 2)                             -- ESTOP_DISCREPANCY R236
  | estopChatterClear (p : Fin 2)                            -- ESTOP_CHATTER_CLEAR R237
  | safEstopRead                                             -- SAF_ESTOP_READ R16
  | safBlockWrite                                            -- SAF_BLOCK_WRITE R248
  | safBlockRead                                             -- SAF_BLOCK_READ R252
  | safCommission                                            -- SAF_COMMISSION R249
  | safPendingExpiry                                         -- SAF_PENDING_EXPIRY R250
  | safEstopRelease                                          -- SAF_ESTOP_RELEASE R239
  | safStatusRead                                            -- SAF_STATUS_READ R252
  | cmSlacParmReq (n : Outlet8) (vmac : W48) (runId : W64)   -- CM_SLAC_PARM_REQ R257
  | slacSounding (runId : W64) (atten : List (Option Nat))   -- SLAC_SOUNDING R258: dB per chain, none where not heard
  | cmSlacMatchReq (n : Outlet8) (vmac : W48) (runId : W64)  -- CM_SLAC_MATCH_REQ R259
  | cmValidateReq (n : Outlet8)                              -- CM_VALIDATE_REQ R259
  | slacTimeout (n : Outlet8)                                -- SLAC_TIMEOUT R259
  | slacWaitTimeout (n : Outlet8)                            -- SLAC_WAIT_TIMEOUT R268
  | sdpRequest (n : Outlet8) (tls : Bool)                    -- SDP_REQUEST R260
  | tcpConnect (n : Outlet8) (ask : TlsAsk)                  -- TCP_CONNECT R261
  | v2gtpFrame (n : Outlet8) (f : V2gtpHeader)               -- V2GTP_FRAME R261
  | supportedAppProtocolReq (n : Outlet8) (offers : List AppOffer) -- SUPPORTED_APP_PROTOCOL_REQ R263
  | sessionSetupReq (n : Outlet8) (sessionId : W64) (evccid : W48) -- SESSION_SETUP_REQ R281
  | paymentDetailsReq (n : Outlet8) (c : ContractChain)      -- PAYMENT_DETAILS_REQ R265
  | authorizationReq (n : Outlet8) (contract : Bool)         -- AUTHORIZATION_REQ R273
  | chargeParameterDiscoveryReq (n : Outlet8) (p : EvParams) -- CHARGE_PARAMETER_DISCOVERY_REQ R273
  | certificateInstallationReq (n : Outlet8) (update : Bool) (body : List Byte) -- CERTIFICATE_INSTALLATION_REQ R273
  | chargingStatusReq (n : Outlet8)                          -- CHARGING_STATUS_REQ R271
  | sessionStopReq (n : Outlet8) (pause : Bool)              -- SESSION_STOP_REQ R279
  | v2gRequest (n : Outlet8) (k : V2gKind)                   -- V2G_REQUEST R266
  | decisionDeadline (reqId : W32)                           -- DECISION_DEADLINE R274
  | v2gIdleTimeout (n : Outlet8)                             -- V2G_IDLE_TIMEOUT R280
  | tcpConnectionLost (n : Outlet8)                          -- TCP_CONNECTION_LOST R280
  | resumeTimeout (n : Outlet8)                              -- RESUME_TIMEOUT R281
  | vlkCertWrite                                             -- VLK_CERT_WRITE R283
  | vlkCertRead                                              -- VLK_CERT_READ R283
  | vlkDecisionWait                                          -- VLK_DECISION_WAIT R272
  | decisionWaitTimeout                                      -- DECISION_WAIT_TIMEOUT R272
  | vlkDecisionAnswer                                        -- VLK_DECISION_ANSWER R275
  | vlkRenegotiate                                           -- VLK_RENEGOTIATE R277
  | vlkSessionRead                                           -- VLK_SESSION_READ R283
  | offer (m : TokMsg)                                       -- OFFER R297
  | accept (m : TokMsg)                                      -- ACCEPT R297
  | refuse (m : TokMsg)                                      -- REFUSE R297
  | commit (m : TokMsg)                                      -- COMMIT R297
  | ack (m : TokMsg)                                         -- ACK R297
  | move (m : TokMsg)                                        -- MOVE R297
  | query (m : TokMsg)                                       -- QUERY R297
  | status (m : TokMsg)                                      -- STATUS R301
  | resolve (m : TokMsg)                                     -- RESOLVE R297
  | transferDeadline                                         -- TRANSFER_DEADLINE R297
  | memberReport (slot : Fin 64) (r : Report)                -- MEMBER_REPORT R300
  | ledgerDigest (d : Digest) (rel : List Release)           -- LEDGER_DIGEST R302
  | sharingComputation                                       -- SHARING_COMPUTATION R304
  | coolingEnd                                               -- COOLING_END R290
  | capacityStop (n : Outlet8)                               -- CAPACITY_STOP R292
  | joinRetry                                                -- JOIN_RETRY R295
  | budgetRequest (target : List Nat) (edition : W32)        -- BUDGET_REQUEST R306
  | sctModeWrite (v : W32)                                   -- SCT_MODE_WRITE R294
  | sctLocalWrite (p : Fin 3) (v : W32)                      -- SCT_LOCAL_WRITE R293
  | sctBudgetSet                                             -- SCT_BUDGET_SET R306
  | sctRead                                                  -- SCT_READ R310
  | sctLedgerRead                                            -- SCT_LEDGER_READ R310
  | sctRetire                                                -- SCT_RETIRE R307
  | backboneFrame                                            -- BACKBONE_FRAME R315
  | frameHeader (f : Header × SegmentRx)                     -- FRAME_HEADER R320: the header of a frame and its D segment
  | pollResponse (slot : Fin 64) (u : Option SegmentRx) (missed : List Nat) (lacking : Option Nat) -- POLL_RESPONSE R323: the U segment, none where missing; pieces lacking where armed
  | joinRequest (serial : W64) (count : W32)                 -- JOIN_REQUEST R321
  | joinAnswer (domain : W32) (coord : W64) (r : JoinReply)  -- JOIN_ANSWER R294
  | becomeCoordinator                                        -- BECOME_COORDINATOR R318
  | headerLossRejoin                                         -- HEADER_LOSS_REJOIN R321
  | sounding (src : Fin 64) (snr : List Nat)                 -- SOUNDING R324: SNR in dB per carrier
  | surveyReport (links : List LinkRep)                      -- SURVEY_REPORT R325
  | routeFailedExpiry                                        -- ROUTE_FAILED_EXPIRY R325
  | firmwarePiece (imageId : W32) (idx : Nat) (data : List Byte) -- FIRMWARE_PIECE R327
  | bkbCfgWrite (domain : Bool) (v : W32)                    -- BKB_CFG_WRITE R336: BKB_CFG, or BKB_DOMAIN
  | bkbNotchWrite (k : Fin 16) (v : W32)                     -- BKB_NOTCH_WRITE R316
  | bkbUplCfgWrite (v : W32)                                 -- BKB_UPL_CFG_WRITE R336
  | uplinkEnvelope (p : NetPath) (e : Envelope)              -- UPLINK_ENVELOPE R330
  | envelopeRetransmit                                       -- ENVELOPE_RETRANSMIT R330
  | ackEnvelopeSend                                          -- ACK_ENVELOPE_SEND R330
  | phyLinkDown                                              -- PHY_LINK_DOWN R331
  | gatewaySilent (p : NetPath)                              -- GATEWAY_SILENT R331
  | hingeProofTimeout                                        -- HINGE_PROOF_TIMEOUT R333
  | pathTrySwitch                                            -- PATH_TRY_SWITCH R333
  | bkbUplSend                                               -- BKB_UPL_SEND R330
  | bkbUplRecv                                               -- BKB_UPL_RECV R337
  | bkbUplSwitch                                             -- BKB_UPL_SWITCH R335
  | drillTimeout                                             -- DRILL_TIMEOUT R335
  | bkbAtlasRead                                             -- BKB_ATLAS_READ R326
  | bkbRelayStart                                            -- BKB_RELAY_START R327
  | bkbRelayStop                                             -- BKB_RELAY_STOP R337
  | nfcPing (amp : Nat) (cards : List Card)                  -- NFC_PING R339: amplitude, and the cards in the field
  | nfcFieldHoldEnd                                          -- NFC_FIELD_HOLD_END R343
  | nfcExchange                                              -- NFC_EXCHANGE R343
  | nfcListWrite                                             -- NFC_LIST_WRITE R346
  | nfcListDelete                                            -- NFC_LIST_DELETE R358
  | nfcListClear                                             -- NFC_LIST_CLEAR R358
  | nfcListLookup                                            -- NFC_LIST_LOOKUP R345
  | nfcListRead                                              -- NFC_LIST_READ R358
  | listRecencySave                                          -- LIST_RECENCY_SAVE R347
  | authListExpiry                                           -- AUTH_LIST_EXPIRY R348
  | nfcTagRead                                               -- NFC_TAG_READ R356
  | nfcTagWrite                                              -- NFC_TAG_WRITE R356
  | nfcTagArea                                               -- NFC_TAG_AREA R358
  | nfcTagUnlock                                             -- NFC_TAG_UNLOCK R353
  | tagStatusRecordWrite                                     -- TAG_STATUS_RECORD_WRITE R351
  | tagFieldOn                                               -- TAG_FIELD_ON R354
  | tagFieldOff                                              -- TAG_FIELD_OFF R354
  | fdOutRelease                                             -- FD_OUT_RELEASE R354
  | tagPowerUp                                               -- TAG_POWER_UP R355
  | inventory (afi : Option Byte)                            -- INVENTORY R352
  | stayQuiet (uid : W64)                                    -- STAY_QUIET R352
  | select (uid : W64)                                       -- SELECT R352
  | resetToReady (uid : Option W64)                          -- RESET_TO_READY R352
  | getSystemInformation                                     -- GET_SYSTEM_INFORMATION R352
  | readSingleBlock (b : Nat)                                -- READ_SINGLE_BLOCK R352
  | readMultipleBlocks (b count : Nat)                       -- READ_MULTIPLE_BLOCKS R352
  | writeSingleBlock (b : Nat) (data : List Byte) (cut : Nat) -- WRITE_SINGLE_BLOCK R355: step at which the field collapses, 0 none
  | writeMultipleBlocks (b : Nat) (data : List Byte) (cut : Nat) -- WRITE_MULTIPLE_BLOCKS R355
  | presentPassword (mfr : Byte) (area : Byte) (pw : W32) (cut : Nat) -- PRESENT_PASSWORD R353: step of R355 of the first or second (+ 5) commit that is cut, 0 none
  | tagUnsupportedCommand (code : Byte)                      -- TAG_UNSUPPORTED_COMMAND R352
  | lcdLegendWrite                                           -- LCD_LEGEND_WRITE R359
  | lcdWaveWrite                                             -- LCD_WAVE_WRITE R361
  | lcdDraw                                                  -- LCD_DRAW R363
  | lcdPhaseEnd                                              -- LCD_PHASE_END R362
  | lcdCfgWrite (v : W32)                                    -- LCD_CFG_WRITE R364
  | lcdDischargeEnd                                          -- LCD_DISCHARGE_END R364
  | crackCheck (loopOhm landOhm : Nat)                       -- CRACK_CHECK R366
  | lmpGammaWrite                                            -- LMP_GAMMA_WRITE R368
  | lmpSet                                                   -- LMP_SET R369
  | lampBlinkPhase (n : Outlet8)                             -- LAMP_BLINK_PHASE R369
  | lswSet                                                   -- LSW_SET R375
  | lswClear                                                 -- LSW_CLEAR R381
  | lswRead                                                  -- LSW_READ R389
  | lswChcfgWrite (k : Fin 24) (v : W32)                     -- LSW_CHCFG_WRITE R388
  | pwmInputEdge (j : Fin 4) (high : Bool) (us : Nat)        -- PWM_INPUT_EDGE R377: time in µs
  | pwmFastClear (j : Fin 4)                                 -- PWM_FAST_CLEAR R377
  | lswOvercurrent (k : Fin 24)                              -- LSW_OVERCURRENT R379
  | lswRetry (k : Fin 24)                                    -- LSW_RETRY R379
  | lswRetriesReset (k : Fin 24)                             -- LSW_RETRIES_RESET R379
  | lswThermalLatch (k : Fin 24)                             -- LSW_THERMAL_LATCH R380
  | lswFoldBack (g : Fin 4)                                  -- LSW_FOLD_BACK R383
  | lswFoldRestore (g : Fin 4)                               -- LSW_FOLD_RESTORE R383
  | lswMeasurement (ma : List Nat) (limit : BitVec 24) (hot : List Int) (grp : List Int) (wholeOn : BitVec 24) (vaux : Nat) -- LSW_MEASUREMENT R384
  | vauxUndervoltage (dv : Nat)                              -- VAUX_UNDERVOLTAGE R385: VAUX in 0.1 V
  | vauxOvervoltage (dv : Nat)                               -- VAUX_OVERVOLTAGE R385
  | vauxRestore (dv : Nat)                                   -- VAUX_RESTORE R386
  | keyGenerate                                              -- KEY_GENERATE R402
  | keyImport                                                -- KEY_IMPORT R395
  | keyPublicRead                                            -- KEY_PUBLIC_READ R402
  | keySign                                                  -- KEY_SIGN R402
  | keyVerify                                                -- KEY_VERIFY R401
  | keyEcdh                                                  -- KEY_ECDH R402
  | keyAesGcm                                                -- KEY_AES_GCM R402
  | keyHmac                                                  -- KEY_HMAC R402
  | keyHash                                                  -- KEY_HASH R402
  | keyRandom                                                -- KEY_RANDOM R401
  | keyDestroy                                               -- KEY_DESTROY R398
  | keyLock                                                  -- KEY_LOCK R399
  | pufHealthCheck (err : List Nat)                          -- PUF_HEALTH_CHECK R392: bit errors of the 4 blocks
  | entropyFailure (failed : Bool)                           -- ENTROPY_FAILURE R401
  | updArm                                                   -- UPD_ARM R405
  | updPieceWrite                                            -- UPD_PIECE_WRITE R407
  | updBitmapRead                                            -- UPD_BITMAP_READ R414
  | updActivate                                              -- UPD_ACTIVATE R408
  | updConfirm                                               -- UPD_CONFIRM R412
  | updRevert                                                -- UPD_REVERT R412
  | updStatusRead                                            -- UPD_STATUS_READ R414
  | imageBootCheck (b : BootIn)                              -- IMAGE_BOOT_CHECK R410
  | trialExpiry                                              -- TRIAL_EXPIRY R412
  | ceRateWindowEnd                                          -- CE_RATE_WINDOW_END R424
  | mramPortRequest (reqs : List PortReq)                    -- MRAM_PORT_REQUEST R429
  | arbPrioWrite (k : Fin 8) (v : W32)                       -- ARB_PRIO_WRITE R432
  | memLogRead                                               -- MEM_LOG_READ R425
  | powerGood                                                -- POWER_GOOD R435
  | brownOut (b : Brown) (deep : Bool) (cell : Bool) (hurts : List (Owner × Fin 3 × CopyHurt)) -- BROWN_OUT R442
  | rstPin                                                   -- RST_PIN R442
  | pllLockLoss (pllB : Bool)                                -- PLL_LOCK_LOSS R44
  | wdtMsdExpiry                                             -- WDT_MSD_EXPIRY R442
  | wdtApdExpiry                                             -- WDT_APD_EXPIRY R442
  | criticalStateMismatch (c : Critical)                     -- CRITICAL_STATE_MISMATCH R397
  | resetRelease (i : StartIn)                               -- RESET_RELEASE R444
  | powerFailWarning (i : PfIn)                              -- POWER_FAIL_WARNING R439
  | powerFailClear                                           -- POWER_FAIL_CLEAR R437
  | railRangeChange (vp12 vn12 : Bool)                       -- RAIL_RANGE_CHANGE R436
  | vbatMeasurement (mv : Nat)                               -- VBAT_MEASUREMENT R440
  | sysResetRequest                                          -- SYS_RESET_REQUEST R448
  | sysResetMap                                              -- SYS_RESET_MAP R449
  | phyLinkUp (speed : Fin 3)                                -- PHY_LINK_UP R331
  | memberAbsent (slot : Fin 64)                             -- MEMBER_ABSENT R302
  | bkbUplRecvTimeout                                        -- BKB_UPL_RECV_TIMEOUT R337
  | sctBudgetSetTimeout                                      -- SCT_BUDGET_SET_TIMEOUT R310
  | sctRetireTimeout                                         -- SCT_RETIRE_TIMEOUT R310
  | nfcExchangeAnswer (answer : List Byte)                   -- NFC_EXCHANGE_ANSWER R343
  | nfcExchangeTimeout                                       -- NFC_EXCHANGE_TIMEOUT R343
  | isoDepCardLeft                                           -- ISO_DEP_CARD_LEFT R343
  deriving DecidableEq, Repr

end Sys2Proof
end

