-- ==== Sys2Proof/Config.lean ====
section
/-! DEFINITION. What the manual leaves open, as constants without a body: nothing in Lean can know a
value of one, so a statement about them holds whatever they are.

Each constant says which rule leaves the value open; the assumption log names every one. -/

namespace Sys2Proof.Config

/-- Bytes that the manual does not fix: byte i of draw n (State.free counts the draws). Random bytes of
the entropy source (R401), keys that are generated (R402), and values it leaves unstated. -/
opaque freeByte : Nat → Nat → Byte

/-- Numbers that the manual does not fix, one for each draw (State.free counts the draws). -/
opaque freeNat : Nat → Nat

/-- Whether an event that the manual leaves open happens, one answer for each draw. -/
opaque freeBool : Nat → Bool

/-- R104: the compensation stage that follows the integrator of a TYPE 3 slot, from its state and the
integrator's value; the manual gives its purpose, not its coefficients. -/
opaque rogowskiComp : Int → Int → Int × Int

/-- R98: the 24-bit sample of stage 8 where the rounded word does not fit 24 bits; the manual gives
saturation for stages 2 to 7 only. -/
opaque stage8Over : Int → Int

/-- R106: the factory table E(T) of the benchmark as a stage-4 word, at a temperature in 1/16 °C. -/
opaque benchTable : Int → Rat

/-- R158: the correction of the RTC for a temperature in 1/16 °C, in units of 0.1 ppm. -/
opaque rtcCurve : Int → Int

/-- R324: which of the loadings 0, 1, 2, 3, 4, 6, 8 and 10 bits a carrier takes at an SNR in dB; the manual gives the aim, not the
thresholds. -/
opaque toneLoad : Nat → Fin 8

/-- R316: coded bit i, 0 to 447, of the 28 bytes of a header; the manual names the header code, not its matrix. -/
opaque headerCode : List Byte → Nat → Bool

/-- R317: the content of a container of TYPE 0x04 to 0x08, from its TYPE and the numbers that it has to carry; the manual gives what it
carries, not its layout. -/
opaque containerBody : Nat → List Nat → List Byte

/-- R316, R325: the number that the header gives the tone map formed for D; the manual gives number 0 to the robust map only. -/
opaque dToneMap : List Nat → Nat

/-- R410: the vendor's image verification key, SEC 1 uncompressed. -/
opaque imageKey : List Byte

/-- R419: numbers from which the places of a record's three copies follow (copyTile); the manual gives no addresses. -/
opaque place : Nat → Nat → Nat

/-- R403: numbers from which the places of the two image slots in the MRAM follow (slotTile); the manual gives no addresses. -/
opaque slotPlace : Nat → Nat

/-- R419, R427: the MRAM bank of a spare tile; the manual puts the spare tiles outside the 8 MiB and gives no bank. -/
opaque spareBank : Nat → Fin 4

end Sys2Proof.Config
end

