-- ==== Sys2Proof/Machine/Operands.lean ====
section
/-! DEFINITION. Operand forms: bytes and numbers in either order, bits, signed fields, rounding.

Registers and host structures are little-endian, Proane records and backbone frames big-endian (R13);
a bit field is written [msb:lsb] (R12). -/

namespace Sys2Proof.Machine

/-- The n low bytes of a number, least significant first (R13). -/
def leBytes : Nat → Nat → List Byte
  | 0, _ => []
  | n + 1, v => BitVec.ofNat 8 v :: leBytes n (v / 256)

/-- The n low bytes of a number, most significant first (R13). -/
def beBytes (n v : Nat) : List Byte := (leBytes n v).reverse

/-- The number that little-endian bytes hold (R13). -/
def leNat : List Byte → Nat
  | [] => 0
  | b :: bs => b.toNat + 256 * leNat bs

/-- The number that big-endian bytes hold (R13). -/
def beNat (bs : List Byte) : Nat := leNat bs.reverse

/-- n bytes of a list from offset o; bytes past its end read 0. -/
def slice (bs : List Byte) (o n : Nat) : List Byte :=
  ((bs.drop o).take n) ++ List.replicate (n - ((bs.drop o).take n).length) 0

/-- The little-endian number in bytes o to o + n − 1. -/
def leAt (bs : List Byte) (o n : Nat) : Nat := leNat (slice bs o n)

/-- The big-endian number in bytes o to o + n − 1. -/
def beAt (bs : List Byte) (o n : Nat) : Nat := beNat (slice bs o n)

/-- Byte o of a list, 0 past its end. -/
def byteAt (bs : List Byte) (o : Nat) : Nat := leAt bs o 1

/-- Bits [lo + w − 1:lo] of a number (R12). -/
def bitsOf (v lo w : Nat) : Nat := v / 2 ^ lo % 2 ^ w

/-- Bit [i] of a number (R12). -/
def bitAt (v i : Nat) : Bool := bitsOf v i 1 == 1

/-- A field of w bits read as a two's-complement number. -/
def signed (w v : Nat) : Int := if v % 2 ^ w < 2 ^ (w - 1) then (v % 2 ^ w : Nat) else ((v % 2 ^ w : Nat) : Int) - (2 ^ w : Nat)

/-- A number as a two's-complement field of w bits. -/
def unsigned (w : Nat) (v : Int) : Nat := (v % (2 ^ w : Nat)).toNat

/-- 1 for true. -/
def b2n (b : Bool) : Nat := if b then 1 else 0

/-- n / d rounded to the nearest integer, a tie to the even one (R98), for d > 0. -/
def roundDiv (n : Int) (d : Nat) : Int :=
  let q := n / (d : Int)
  let r := n % (d : Int)
  if 2 * r < d then q else if 2 * r > d then q + 1 else if q % 2 = 0 then q else q + 1

/-- A rational rounded to the nearest integer, a tie to the even one (R98). -/
def roundRat (r : Rat) : Int := roundDiv r.num r.den

/-- A value limited to lo to hi (R98). -/
def clampInt (lo hi v : Int) : Int := if v < lo then lo else if v > hi then hi else v

/-- Whole square root, rounded down, by bisection on at most `fuel` bits. -/
def sqrtBits : Nat → Nat → Nat → Nat
  | 0, _, acc => acc
  | fuel + 1, v, acc =>
    let t := acc + 2 ^ fuel
    sqrtBits fuel v (if t * t ≤ v then t else acc)

/-- Whole square root of a number below 2^128, rounded down. -/
def isqrt (v : Nat) : Nat := sqrtBits 64 v 0

/-- Square root of a non-negative rational, rounded to the nearest integer (a tie cannot be told apart
from its square and goes to the even one). -/
def roundSqrt (r : Rat) : Nat :=
  let f := isqrt (r.num.toNat / r.den)
  let h : Rat := (f : Rat) + 1 / 2
  if h * h < r then f + 1 else if h * h > r then f else if f % 2 = 0 then f else f + 1

/-- Elements of a list padded or cut to a vector. -/
def toVec {α : Type} (n : Nat) (d : α) (l : List α) : Vector α n := Vector.ofFn fun i => l.getD i.val d

end Sys2Proof.Machine
end

