-- ==== Sys2Proof/Machine/Shipped.lean ====
section
/-! DEFINITION. The attestation certificates that are written at manufacture (R7, R180), in DER. The manual gives what they hold; the other
fields and the layout of the names are the model's (log 155). -/

namespace Sys2Proof.Machine

/-- A DER element of at most 65,535 bytes. -/
def derTlv (tag : Byte) (body : List Byte) : List Byte :=
  let n := body.length
  tag :: ((if n < 128 then beBytes 1 n else if n < 256 then 0x81 :: beBytes 1 n else 0x82 :: beBytes 2 n) ++ body)

/-- A positive DER INTEGER, from its bytes. -/
def derUInt (b : List Byte) : List Byte := derTlv 2 (if 128 ≤ byteAt b 0 then 0 :: b else b)

/-- One name attribute id-at-k with a PrintableString. -/
def derAttr (k : Byte) (text : List Byte) : List Byte :=
  derTlv 0x31 (derTlv 0x30 ([6, 3, 0x55, 4, k] ++ derTlv 0x13 text))

/-- The algorithm ecdsa-with-SHA256. -/
def derAlg : List Byte := derTlv 0x30 [6, 8, 0x2A, 0x86, 0x48, 0xCE, 0x3D, 4, 3, 2]

/-- A P-256 key as subject key. -/
def derP256Key (pub : List Byte) : List Byte :=
  derTlv 0x30 (derTlv 0x30 [6, 7, 0x2A, 0x86, 0x48, 0xCE, 0x3D, 2, 1, 6, 8, 0x2A, 0x86, 0x48, 0xCE, 0x3D, 3, 1, 7] ++
    derTlv 3 (0 :: pub))

/-- From 2025-01-01 on, without a known end. -/
def derValid : List Byte :=
  derTlv 0x30 (derTlv 0x17 [0x32, 0x35, 0x30, 0x31, 0x30, 0x31, 0x30, 0x30, 0x30, 0x30, 0x30, 0x30, 0x5A] ++
    derTlv 0x18 [0x39, 0x39, 0x39, 0x39, 0x31, 0x32, 0x33, 0x31, 0x32, 0x33, 0x35, 0x39, 0x35, 0x39, 0x5A])

/-- An X.509 v3 certificate from its number, names, key and signature. -/
def x509 (num : Nat) (issuer subject pub r q : List Byte) : List Byte :=
  derTlv 0x30 (derTlv 0x30 (derTlv 0xA0 (derUInt [2]) ++ derUInt (beBytes 1 num) ++ derAlg ++ derTlv 0x30 issuer ++ derValid ++
      derTlv 0x30 subject ++ derP256Key pub) ++
    derAlg ++ derTlv 3 (0 :: derTlv 0x30 (derUInt r ++ derUInt q)))

/-- The 16 hexadecimal digits of a serial number, or the 4 of a silicon revision, as text. -/
def hexText (n v : Nat) : List Byte :=
  (List.range n).map fun i => let d := v / 16 ^ (n - 1 - i) % 16; BitVec.ofNat 8 (if d < 10 then 48 + d else 55 + d)

/-- Subject of the device certificate: ordering code, silicon revision and serial number (R7, R180). -/
def deviceName (order : List Byte) (silicon serial : Nat) : List Byte :=
  derAttr 3 order ++ derAttr 11 (hexText 4 silicon) ++ derAttr 5 (hexText 16 serial)

/-- Name of the vendor's issuing certificate. -/
def issuerName : List Byte := derAttr 3 [0x55, 0x6C, 0x75, 0x6F, 0x6D, 0x20, 0x69, 0x73, 0x73, 0x75, 0x69, 0x6E, 0x67]

/-- The vendor issuing certificate as shipped, signed by the vendor's root, which the device does not hold (R180). -/
def shippedIssCert : List Byte :=
  x509 1 (derAttr 3 [0x55, 0x6C, 0x75, 0x6F, 0x6D, 0x20, 0x72, 0x6F, 0x6F, 0x74]) issuerName
    (4 :: beBytes 64 0x7CF27B188D034F7E8A52380304B51AC3C08969E277F21B35A60B48FC4766997807775510DB8ED040293D9AC69F7430DBBA7DADE63CE982299E04B79D227873D1)
    (beBytes 32 0x51590B7A515140D2D784C85608668FDFEF8C82FD1F5BE52421554A0DC3D033ED)
    (beBytes 32 0x54F3CF7A3A9D7B5CFFA9F93256E90DD72AD68C15A99EB04C1556B68862B97E18)

/-- The device attestation certificate as shipped: the ordering code AB8-24-IL, silicon revision and serial number of Fuse and the public
key of slot 0, signed with the key of the issuing certificate (R7, R180). -/
def shippedDevCert : List Byte :=
  x509 2 issuerName (deviceName [0x41, 0x42, 0x38, 0x2D, 0x32, 0x34, 0x2D, 0x49, 0x4C] 0x0100 1)
    (4 :: beBytes 64 0x6B17D1F2E12C4247F8BCE6E563A440F277037D812DEB33A0F4A13945D898C2964FE342E2FE1A7F9B8EE7EB4A7C0F9E162BCE33576B315ECECBB6406837BF51F5)
    (beBytes 32 0x8E533B6FA0BF7B4625BB30667C01FB607EF9F8B8A80FEF5B300628703187B2A3)
    (beBytes 32 0x5EADCF14F42220F9F42806515E525D515CCB47C668D330BBD9356C61D611F67D)

end Sys2Proof.Machine
end

