-- ==== Sys2Proof/Machine/StateHost.lean ====
section
/-! DEFINITION. State blocks of the general registers, resets, supplies and the host interface.

Every field has its value at reset as its default. The letter at the end of a field's text says where
that value comes from: [S] the rule states it; [H] the rule gives a working value that a level-0 reset
clears and states no number (log 1); [K] kept in MRAM, fuses or BTD, as shipped, where the rule states
no number (log 2); [F] fixed or fused at manufacture, the number is the model's (log 3); [M] the
model's own field, not the manual's (log 4). -/

namespace Sys2Proof.Machine

/-- Status codes of R81; their numbers are in `Status.code`. -/
inductive Status where
  | ok | busy | invalid | notReady | denied | tableFull | integrity | poisoned | timeout | aborted
  | conflict | frozen | unsupported
  deriving DecidableEq, Repr

/-- The sixteen reset sources of R442, in the order of their numbers. -/
inductive Source where
  | por | borSys | borDig | borAna | pin | clock | wdtMsd | wdtApd | lockstep | ovrMsd | ovrFn
  | critical | poison | host | update | pcie
  deriving DecidableEq, Repr

/-- Values of a telemetry snapshot for one outlet (R59); the manual does not list them: the model
takes what one outlet's foregrounds A and B settle (log 11). -/
structure TeleOutlet where
  state : Nat := 0
  iLim : Nat := 0
  total : Nat := 0
  deriving DecidableEq, Repr

/-- How far the windows of the present tick have come (R48): it has begun and no window has run, foreground A has run and B has
not begun, B has begun, C has begun, the background window has begun, or all have run. -/
inductive Window where
  | entry | safety | metering | host | back | done
  deriving DecidableEq, Repr

/-- The windows in their order. -/
def Window.num : Window → Nat
  | .entry => 0 | .safety => 1 | .metering => 2 | .host => 3 | .back => 4 | .done => 5

/-- The GEN block and what stands behind it. -/
structure Gen where
  /-- R45: the tick counter. [S] -/
  gtc : W48 := 0
  /-- R47: GEN_GTC_HI, as latched by the last read of GEN_GTC_LO. [S] -/
  gtcHi : W16 := 0
  /-- R27: GEN_READY bits [18:0]; BTD is always 1. [S] -/
  ready : BitVec 19 := 1
  /-- R34: GEN_REPLACE cause bits, kept; 0 as shipped. [S] -/
  replace : BitVec 9 := 0
  /-- R34: GEN_REPL_MASK. [S] -/
  replMask : BitVec 9 := 0x1FF
  /-- R32: MSD has read the stored causes, so REPL_N may be driven. [S] -/
  replRead : Bool := false
  /-- R63: GEN_OVERRUN bits [4:0], kept. [K] -/
  ovr : BitVec 5 := 0
  /-- R63: GEN_OVERRUN.FUNC, kept. [K] -/
  ovrFunc : BitVec 5 := 0
  /-- R63: GEN_OVERRUN.COUNT, kept, saturating. [K] -/
  ovrCount : Byte := 0
  /-- R63: GEN_OVERRUN_GTC, kept. [K] -/
  ovrGtc : W32 := 0
  /-- R63: GEN_TICK_HWM.FG_END. [S] -/
  fgEnd : BitVec 13 := 0
  /-- R63: GEN_TICK_HWM.BG_END. [S] -/
  bgEnd : BitVec 13 := 0
  /-- R59: GTC and outlets of the last telemetry snapshot. [H] -/
  tele : Option (Nat × List TeleOutlet) := none
  /-- R59: values at the end of foreground B of the present tick, from which a snapshot is taken. [H] -/
  teleSrc : List TeleOutlet := []
  /-- R232: inputs of a tick whose windows a mismatch has discarded; they run again in the next tick. [H] -/
  lost : Option TickIn := none
  /-- R53, R193, R228, R253: events that wait for their window or for others of it, oldest first: safety and session events for
  foreground A, prepayment and tamper events for the billing events, those of APD and COD for the poll of the mailboxes. [H] -/
  lateEv : List (Nat × Nat × List Byte) := []
  /-- R53, R173, R184, R186: completions of foreground B that leave when foreground C opens, behind the events of foreground B: descriptor,
  status and data. [H] -/
  lateDone : List (Nat × Status × List Byte) := []
  /-- R48: the window that the present tick has reached; while MSD is in reset there is no tick. [M] -/
  win : Window := .done
  /-- R50: the inputs of the present tick, for its windows that are still to run. [M] -/
  tin : Option TickIn := none
  /-- R61: an MSD window overran and the reset of that tick is in force, so an APD or COD overrun of the same tick still counts. [H] -/
  ovrNow : Bool := false
  deriving DecidableEq, Repr

/-- What is fixed at manufacture. -/
structure Fuse where
  /-- R66: GEN_REV.SILICON. [F] -/
  silicon : W16 := 0x0100
  /-- R66: GEN_REV.ROM. [F] -/
  rom : Byte := 1
  /-- R66: GEN_REV.GRADE: false AB8-24-IL, true AB8-24-XL. [F] -/
  gradeX : Bool := false
  /-- R66: serial number. [F] -/
  serial : W64 := 1
  /-- R352: UID of the service tag (ISO/IEC 15693), whose byte 6 is the manufacturer code. [F] -/
  tagUid : W64 := 0xE001000000000001
  /-- R4: outlets switched into DC metering mode by fuse. [F] -/
  dcMask : Byte := 0
  /-- R442, R449: RST_MAP, level of each source; as shipped. [S] -/
  rstMap : Vector Nat 16 := #v[0, 0, 0, 0, 0, 0, 0, 1, 0, 0, 3, 0, 3, 1, 1, 3]
  /-- R449: RST_FUSE_CHG. [S] -/
  rstChg : W16 := 0
  deriving DecidableEq, Repr

/-- One asserted reset source and its hold (R443). -/
structure Hold where
  src : Source
  level : Nat
  /-- FUNC of RST_LAST: function class, 0x10 for the host interface unit, 0 otherwise. -/
  func : Byte := 0
  /-- First tick edge at which the hold no longer reaches anything. -/
  untilTick : Tick
  /-- The source is still asserted (PCIE while the link is down). -/
  asserted : Bool := false
  deriving DecidableEq, Repr

/-- Reset and supply state. -/
structure Rst where
  /-- R19, R443: a level-0 hold is in force; GTC is held at 0. [S] -/
  held0 : Bool := true
  /-- R443: the level-0 hold waits for power-good (POR or a brown-out). [S] -/
  waitGood : Bool := true
  /-- R443: VSYS has fallen below 1.5 V since the last power-good, so POR asserts at the next. [S] -/
  porArmed : Bool := true
  /-- R444: MSD has been released and its start-up work done. [S] -/
  msdUp : Bool := false
  /-- R444: APD has been released. [S] -/
  apdUp : Bool := false
  /-- R444: COD has been released. [S] -/
  codUp : Bool := false
  /-- R444: function classes held in reset at level 3. [H] -/
  fnHeld : List Byte := []
  /-- R443: holds of sources of levels 1 to 3 in force. [S] -/
  holds : List Hold := []
  /-- R448: resets that SYS_RESET_REQUEST has asked for in this foreground C, as level, function class and HOLD_MS, oldest first. [H] -/
  hostReq : List (Nat × Nat × Nat) := []
  /-- RST_CAUSE, kept. [K] -/
  cause : W16 := 0
  /-- RST_LAST.SOURCE, kept. [K] -/
  lastSrc : Source := .por
  /-- RST_LAST.LEVEL, kept. [K] -/
  lastLevel : Nat := 0
  /-- RST_LAST.FUNC, kept. [K] -/
  lastFunc : Byte := 0
  /-- RST_LAST.COUNT0, kept, saturating. [K] -/
  count0 : W16 := 0
  /-- RST_CFG, kept; as shipped only OUT_L1. [S] -/
  outCfg : BitVec 3 := 1
  /-- R473: source of the level-0 hold whose RESET event is still to be produced, with the GTC of its
  assertion (all ones where MSD could not record it), kept. [K] -/
  event0 : Option (Source × W48) := none
  /-- R232: consecutive ticks with a lockstep mismatch. [H] -/
  mismatchRun : Nat := 0
  /-- R437: the power-fail warning is in force, as captured. [S] -/
  pfw : Bool := false
  /-- PWR_STATUS.PFAIL_IN. [S] -/
  pfailIn : Bool := false
  /-- PWR_STATUS.VP12_OK. [S] -/
  vp12 : Bool := false
  /-- PWR_STATUS.VN12_OK. [S] -/
  vn12 : Bool := false
  /-- R436: VP12 and VN12 are in range at the lands, shown in PWR_STATUS from the SYS bit on. [K] -/
  vp12In : Bool := true
  vn12In : Bool := true
  /-- PWR_STATUS.VBAT_LOW. [S] -/
  vbatLow : Bool := false
  /-- PWR_STATUS.VBAT_ABSENT. [S] -/
  vbatAbsent : Bool := false
  /-- PWR_VBAT.MV. [S] -/
  vbatMv : BitVec 12 := 0
  /-- R440: tick of the last VBAT measurement. [H] -/
  vbatTick : Option Tick := none
  /-- PWR_CFG.PFAIL_EN, kept. [S] -/
  pfailEn : Bool := false
  /-- PWR_CFG.PFAIL_POL, kept. [S] -/
  pfailPol : Bool := false
  deriving DecidableEq, Repr

/-- A descriptor in flight (R74, R77): fetched, not yet completed. -/
structure Flight where
  seq : Nat
  sq : Fin 16
  sqIndex : Nat
  cq : Fin 16
  opcode : W16
  tag : W16
  fence : Bool
  target : Byte
  bufLen : Nat
  bufAddr : W64
  /-- PARAM, bytes 16 to 63 of the descriptor. -/
  param : List Byte
  /-- The input buffer, read in full before dispatch (R77). -/
  inBuf : List Byte
  /-- It has been dispatched and waits for a long operation, a peer or the host. -/
  running : Bool := false
  /-- Fetched before a reset of the host interface unit, or RUN went to 0: no completion is written. -/
  noCq : Bool := false
  /-- R54: the first tick whose foreground C may dispatch it. -/
  intake : Tick := 0
  deriving DecidableEq, Repr

/-- Who asked for a long operation, and so where its result goes (R56). -/
inductive Requester where
  | flight (seq : Nat)
  | prn (rctr : Nat)
  | topup (seq : Nat)
  | unseal (seq : Nat)
  /-- The vehicle link, for the TLS handshake of an outlet (R262, R400). -/
  | tls (n : Outlet8)
  /-- The start of the post, for the check of an image (R410). -/
  | boot
  deriving DecidableEq, Repr

/-- A completion of R78 but for PHASE and SQ_HEAD, which are taken when it is written. -/
structure Completion where
  tag : W16
  status : Status
  detail : Byte
  sq : Fin 16
  seq : Nat
  sqIndex : Nat
  data : List Byte
  deriving DecidableEq, Repr

/-- An event of R80 but for PHASE. -/
structure Event where
  code : W16
  target : Byte
  evseq : W32
  gtc : W48
  data : List Byte
  deriving DecidableEq, Repr

/-- A submission ring (R68, R69). -/
structure Sq where
  /-- R68: base address. [S] -/
  base : W64 := 0
  /-- R68: EN. [S] -/
  en : Bool := false
  /-- R68: PRIO. [S] -/
  prio : Bool := false
  /-- R68: SIZE_LOG2. [S] -/
  sizeLog2 : Nat := 4
  /-- R68: CQ. [S] -/
  cq : Fin 16 := 0
  /-- R68: HEAD. [S] -/
  head : Nat := 0
  /-- R70: doorbell, the tail last accepted. [S] -/
  tail : Nat := 0
  deriving DecidableEq, Repr

/-- A completion ring or the event ring (R68, R69). -/
structure OutQ where
  /-- R68: base address. [S] -/
  base : W64 := 0
  /-- R68: EN. [S] -/
  en : Bool := false
  /-- R68: IRQ_EN. [S] -/
  irqEn : Bool := false
  /-- R68: SIZE_LOG2. [S] -/
  sizeLog2 : Nat := 4
  /-- R68: VECTOR. [S] -/
  vector : Fin 32 := 0
  /-- R68: COAL_COUNT. [S] -/
  coalCount : Byte := 0
  /-- R68: COAL_TICKS. [S] -/
  coalTicks : Byte := 1
  /-- R70: doorbell, the head last accepted. [S] -/
  head : Nat := 0
  /-- R68: TAIL. [S] -/
  tail : Nat := 0
  /-- R68: PHASE. [S] -/
  phase : Bool := true
  /-- R73: entries reserved for descriptors in flight (0 for the event ring). [H] -/
  reserved : Nat := 0
  /-- R79: entries written since the last message. [H] -/
  unsignalled : Nat := 0
  /-- R79: tick of the first entry not yet signalled. [H] -/
  firstTick : Tick := 0
  /-- R474: completions that the link has not accepted, first first (empty for the event ring). [H] -/
  waiting : List Completion := []
  /-- R474: the write of the first waiting entry has set WRITE_FAIL. [H] -/
  failed : Bool := false
  deriving DecidableEq, Repr

/-- One entry of the MSI-X table (R65). -/
structure MsixEntry where
  /-- Message address, PCI Express Base. [H] -/
  addr : W64 := 0
  /-- Message data. [H] -/
  data : W32 := 0
  /-- Vector control: the mask bit, 1 after reset by PCI Express Base (log 5). [H] -/
  mask : Bool := true
  deriving DecidableEq, Repr

/-- The host interface unit (R21). -/
structure Hif where
  /-- R68: HIF_CTRL.RUN. [S] -/
  run : Bool := false
  /-- R68: HIF_ERR bits [4:0]. [S] -/
  err : BitVec 5 := 0
  /-- R68: HIF_ERR.RING. [S] -/
  errRing : BitVec 6 := 0
  /-- R68: the submission rings. [S] -/
  sq : Vector Sq 16 := Vector.replicate 16 {}
  /-- R68: the completion rings. [S] -/
  cq : Vector OutQ 16 := Vector.replicate 16 {}
  /-- R68: the event ring. [S] -/
  evq : OutQ := {}
  /-- R72: SQ served last at high priority. [H] -/
  lastHi : Option (Fin 16) := none
  /-- R72: SQ served last at low priority. [H] -/
  lastLo : Option (Fin 16) := none
  /-- R74: descriptors in flight, in fetch order. [S] -/
  inflight : List Flight := []
  /-- R80: EVSEQ of the next event produced; the first after a level-0 reset is 1. [S] -/
  evNext : W32 := 1
  /-- R80, R474: an event whose write the link did not accept, at the head of the event ring. [H] -/
  evWaiting : List Event := []
  /-- R80: staging of 512 events, oldest first. [S] -/
  staging : List Event := []
  /-- R80, R473: held OVERRUN and RESET events, in the order of EVSEQ. [S] -/
  heldEv : List Event := []
  /-- R80: events discarded since the last EVENTS_LOST, and EVSEQ of the first of them. [S] -/
  lost : Nat := 0
  lostFirst : W32 := 0
  /-- R474: the link accepts writes, as of the last tick edge. [M] -/
  linkOk : Bool := true
  /-- R77: buffer writes meet no error, as of the last tick edge. [M] -/
  bufOk : Bool := true
  /-- R65: base addresses of BAR0 and BAR2, as configuration writes of the host set them. [M] -/
  bar0 : W32 := 0
  bar2 : W32 := 0
  /-- R65: MSI-X table. [H] -/
  msix : Vector MsixEntry 32 := Vector.replicate 32 {}
  /-- R65: MSI-X pending-bit array. [H] -/
  pba : W32 := 0
  deriving DecidableEq, Repr

/-- A journal entry (R83). -/
structure JEntry where
  seq : Nat
  gtcAcc : W48
  opcode : W16
  tag : W16
  ring : Fin 16
  fence : Bool
  sqIndex : Nat
  /-- GTC_DONE and RESULT, none while open (R84). -/
  done : Option (W48 × W16) := none
  /-- The first three words reached MRAM (R84). -/
  whole : Bool := true
  deriving DecidableEq, Repr

/-- The command journal (R85). -/
structure Journal where
  /-- R85: retained entries, newest first; kept. [S] -/
  entries : List JEntry := []
  /-- R85: journal tail, the next SEQ; 1 at manufacture; kept. [S] -/
  tail : Nat := 1
  /-- R85: JNL_HEAD_HI as latched, kept. [K] -/
  headHi : W32 := 0
  /-- R85: JNL_TAIL_HI as latched, kept. [K] -/
  tailHi : W32 := 0
  /-- R85: JNL_SEL. [S] -/
  sel : W64 := 0
  /-- R85: JNL_SEL_STATUS.STATE. [S] -/
  selState : Fin 4 := 0
  /-- R85: the snapshot entry, 32 bytes; read as JNL_DATA in state 1. [S] -/
  snap : List Byte := []
  deriving DecidableEq, Repr

end Sys2Proof.Machine
end

