-- ==== Sys2Proof/Machine/StateMeter.lean ====
section
/-! DEFINITION. State blocks of the sensing chain and of the energy computation.

The letters at the end of a field's text are those of StateHost. Codes, sums and energies are exact
integers or rationals: the manual forms each result exactly and rounds it once (R98, R120). -/

namespace Sys2Proof.Machine

/-- TYPE and INV of one slot (R92). -/
structure SlotCfg where
  /-- R95: MTR_CHCFGk.TYPE, kept; 0 as shipped, fixed 6 and 7 on slots 70 and 71. [S] -/
  type : Nat := 0
  /-- R95: MTR_CHCFGk.INV, kept. [S] -/
  inv : Bool := false
  deriving DecidableEq, Repr

/-- What the decimation engine remembers of one slot between samples (R96). -/
structure SlotDec where
  /-- R96: the modulator bits still inside the sinc⁵, newest last. [H] -/
  bits : BitVec 128 := 0
  /-- R96: stage-2 words still inside half-band 1, newest first. [H] -/
  s2 : List Int := []
  /-- R96: stage-3 words still inside half-band 2, newest first. [H] -/
  s3 : List Int := []
  /-- R104: integrator y, in units of 2⁻¹⁶ of the 32-bit word, its last input, and the compensation. [H] -/
  y : Int := 0
  xPrev : Int := 0
  comp : Int := 0
  /-- R105: ticks for which the sample is still held at the limit, and the sign held. [H] -/
  holdTicks : Nat := 0
  holdNeg : Bool := false
  /-- R105: a detection of this tick, with the sign of its input; its hold begins with the next tick. [H] -/
  holdNext : Option Bool := none
  /-- R96: the sample of the present tick, 24 bits. [H] -/
  sample : Int := 0
  /-- R111: stage-4 output of the present tick reduced to 24 bits, tap 0. [H] -/
  tap0 : Int := 0
  /-- R105, R112: the sample of the present tick was clamped. [H] -/
  clamped : Bool := false
  deriving DecidableEq, Repr

/-- A running raw capture (R112). -/
structure Capture where
  seq : Nat
  first : Tick
  slots : List (Fin 72)
  tap : Nat
  count : Nat
  /-- Words written so far, newest first, and ticks captured. -/
  words : List (BitVec 32) := []
  done : Nat := 0
  clamped : Bool := false
  early : Bool := false
  cfgChange : Bool := false
  aborted : Bool := false
  /-- Tick of the last sample where the capture was aborted. -/
  abortTick : Tick := 0
  deriving DecidableEq, Repr

/-- The sensing chain. -/
structure Adc where
  /-- R95: MTR_GCFG.NOM_F, kept; true is 60 Hz. [S] -/
  nomF60 : Bool := false
  /-- R95: MTR_SEAL.SEALED, kept. [S] -/
  sealed : Bool := false
  /-- R95: MTR_SEAL.COUNT, kept. [S] -/
  sealCount : W16 := 0
  /-- R95: channel configuration, kept. [S] -/
  cfg : Vector SlotCfg 72 := Vector.ofFn fun k =>
    { type := if k.val = 70 then 6 else if k.val = 71 then 7 else 0 }
  /-- R94: accepted channel writes that take effect at the next tick edge. [H] -/
  pendCfg : List (Fin 72 × SlotCfg) := []
  /-- R94: an accepted MTR_GCFG write that takes effect at the next tick edge. [H] -/
  pendNomF : Option Bool := none
  /-- MTR_STATUS.CFG_REJECT. [S] -/
  cfgReject : Bool := false
  /-- R94: tick at which the slots of an outlet, or of the feeder, end settling. [S] -/
  settleEnd : Vector (Option Tick) 9 := Vector.replicate 9 none
  /-- MTR_OVL0 to MTR_OVL2, bit k of 72. [S] -/
  ovl : BitVec 72 := 0
  /-- R96: the chains of the 72 slots. [H] -/
  dec : Vector SlotDec 72 := Vector.replicate 72 {}
  /-- R106: applied gain G, saved and restored as R106 lays down; 1 as shipped. [K] -/
  gain : Rat := 1
  /-- R106: the value of G saved to MRAM, and the tick of the last save. [K] -/
  gainSaved : Rat := 1
  gainSaveTick : Tick := 0
  /-- R106: G formed by the last step, applied from the next tick edge. [H] -/
  gainNext : Option Rat := none
  /-- R106: filtered value of g. [H] -/
  gFilt : Option Rat := none
  /-- R107: MTR_BENCH.CLAMP and FAULT, and the steps since each condition was last present. [S] -/
  clamp : Bool := false
  fault : Bool := false
  clampAbsent : Nat := 0
  faultAbsent : Nat := 0
  /-- R106: running sums of the stage-4 outputs of slots 70 and 71 over the second. [H] -/
  sumRef : Int := 0
  sumTmp : Int := 0
  /-- R106: the sums of the second just ended, until a step takes them. [H] -/
  second : Option (Int × Int) := none
  /-- R108: MTR_TMP, 1/16 °C. [S] -/
  tmp : Int := 0
  /-- R108: sum and number of slot-71 samples of the 64 ticks after the MTR bit set. [H] -/
  tmpFirst : Option (Int × Nat) := none
  /-- R109: first tick whose samples the quantity engine closes. [H] -/
  mtrTick : Option Tick := none
  /-- R112: the running capture. [H] -/
  capture : Option Capture := none
  deriving DecidableEq, Repr

/-- A correction record (R115); breakpoints as (IBP, GAIN_DEV, PHASE). -/
structure Corr where
  /-- R115: FS, kept. [S] -/
  fs : Nat := 0
  /-- R115: OFFSET, kept. [S] -/
  offset : Int := 0
  /-- R115: breakpoints in use, kept. [S] -/
  bps : List (Nat × Int × Int) := [(0, 0, 0)]
  deriving DecidableEq, Repr

/-- Gain deviation in 10⁻⁹ and delay in 10⁻⁶ sample applied to a slot (R117). -/
structure GainDelay where
  g : Int := 0
  d : Int := 0
  deriving DecidableEq, Repr

/-- Sums over the samples of a cycle (R130), weighted as the crossings cut them, in V, A and W. -/
structure CycleSums where
  ticks : Nat := 0
  weight : Rat := 0
  v2 : Vector Rat 3 := Vector.replicate 3 0
  i2 : Vector Rat 4 := Vector.replicate 4 0
  /-- R117: squares of the stored samples minus OFFSET, scaled by FS, in A². -/
  raw2 : Vector Rat 4 := Vector.replicate 4 0
  ires2 : Rat := 0
  p : Vector Rat 3 := Vector.replicate 3 0
  q : Vector Rat 3 := Vector.replicate 3 0
  /-- R132: squares of iA + iB + iC. -/
  sum2 : Rat := 0
  /-- R122: sums of v and i of a DC outlet. -/
  vDc : Rat := 0
  iDc : Rat := 0
  deriving DecidableEq, Repr

/-- A cycle that has ended and waits for CYCLE_END (R130). -/
structure CycleDue where
  sums : CycleSums
  endTick : Tick
  /-- R129: interval between the last two crossing instants, in samples, where both are crossings. -/
  period : Option Rat
  fixed : Bool
  /-- R130: last counted crossing instants of VA, VB and VC before the cycle end. -/
  cross : Vector (Option Rat) 3
  /-- R130: the counted crossing instant of VA before its last one. -/
  aCross1 : Option Rat := none
  /-- R130: the last counted crossing instant of VA before those of VA, VB and VC. -/
  base : Vector (Option Rat) 3 := Vector.replicate 3 none
  deriving DecidableEq, Repr

/-- Cycle quantities of R133 in the units of its buffer. -/
structure Quant where
  gtcEnd : Nat := 0
  ticks : Nat := 0
  freq : Nat := 0
  v : Vector Int 3 := Vector.replicate 3 0
  i : Vector Int 4 := Vector.replicate 4 0
  ires : Nat := 0
  p : Vector Int 3 := Vector.replicate 3 0
  q : Vector Int 3 := Vector.replicate 3 0
  s : Vector Nat 3 := Vector.replicate 3 0
  pf : Vector Int 3 := Vector.replicate 3 0
  phi : Vector Int 3 := Vector.replicate 3 0
  angB : Int := 0
  angC : Int := 0
  freqValid : Bool := false
  fixedWindow : Bool := false
  creep : Bool := false
  /-- Exact mean squares and mean power that the checks compare (V², A², W): own voltages, phase currents. -/
  v2 : Vector Rat 3 := Vector.replicate 3 0
  i2 : Vector Rat 3 := Vector.replicate 3 0
  pNet : Rat := 0
  deriving DecidableEq, Repr

/-- Cycle state of one outlet or of the feeder (R129 to R132). -/
structure Cycle where
  /-- R130: sums of the running cycle. [H] -/
  run : CycleSums := {}
  /-- R129: tick of the last boundary. [H] -/
  lastTick : Option Tick := none
  /-- R129: last two counted crossing instants of the reference, in samples, the newer with its boundary tick. [H] -/
  cross0 : Option (Rat × Tick) := none
  cross1 : Option Rat := none
  /-- R130: last counted crossing instant and its tick of VA, VB and VC. [H] -/
  vCross : Vector (Option (Rat × Tick)) 3 := Vector.replicate 3 none
  /-- R130: the counted crossing instant of VA before its last one. [H] -/
  aCross1 : Option Rat := none
  /-- R130: the last counted crossing instant of VA before those of VA, VB and VC. [H] -/
  vBase : Vector (Option Rat) 3 := Vector.replicate 3 none
  /-- R129: sums of the running cycle over its first fixed number of ticks, set aside until a crossing or its absence decides. [H] -/
  set_ : Option CycleSums := none
  /-- R123: last valid period in samples. [H] -/
  period : Option Rat := none
  /-- R129: a cycle that has ended and waits for CYCLE_END. [H] -/
  due : Option CycleDue := none
  /-- R133: the quantities of the last cycle. [S] -/
  quant : Option Quant := none
  /-- R133: the tick in which they were formed. [H] -/
  quantTick : Tick := 0
  /-- R121: energy of the running cycle is forced to 0. [S] -/
  creep : Bool := false
  /-- R131: consecutive contradicting and agreeing cycles, and SEQ_WRONG. [S] -/
  wrongRun : Nat := 0
  rightRun : Nat := 0
  seqWrong : Bool := false
  /-- R132: consecutive matching and non-matching cycles, and NEUTRAL_MISSING. [S] -/
  matchRun : Nat := 0
  clearRun : Nat := 0
  neutral : Bool := false
  deriving DecidableEq, Repr

/-- MTR_PULSEn and the pulse output (R126, R127). -/
structure Pulse where
  /-- R127: CONST, kept. [S] -/
  const : Nat := 1000
  /-- R127: SRC, kept. [S] -/
  src : Nat := 0
  /-- R127: POL, kept. [S] -/
  pol : Bool := false
  /-- R127: WIDTH, kept. [S] -/
  width : Nat := 120
  /-- R127: EN, kept. [S] -/
  en : Bool := false
  /-- R126: partial count, committed. [K] -/
  part : Nat := 0
  /-- R126: PENDING, committed. [K] -/
  pending : Nat := 0
  /-- R126: EMITTED since manufacture, committed. [K] -/
  emitted : Nat := 0
  /-- R36: pulse spills produced since manufacture. [K] -/
  produced : Nat := 0
  /-- R126: the output is active, or will be from leadTick on. [S] -/
  active : Bool := false
  /-- R126: tick edge of the last leading edge. [H] -/
  leadTick : Tick := 0
  /-- R126: tick edge at which the output last went inactive. [H] -/
  idleTick : Option Tick := none
  deriving DecidableEq, Repr

/-- Fine accumulators of an outlet in units of 2⁻¹⁶ nWh and nvarh (R124). -/
structure Fine where
  /-- R124: FA, committed. [K] -/
  fa : Int := 0
  /-- R124: FR, committed. [K] -/
  fr : Int := 0
  deriving DecidableEq, Repr

/-- MTR_PHMAPn (R119). -/
structure PhMap where
  /-- R119: voltage paired with each current, kept. [S] -/
  vsel : Vector (Fin 3) 3 := #v[0, 1, 2]
  /-- R119: site phase of each outlet phase, kept. [S] -/
  site : Vector (Fin 3) 3 := #v[0, 1, 2]
  deriving DecidableEq, Repr

/-- The energy computation. -/
structure Energy where
  /-- R115: correction records, kept. [S] -/
  corr : Vector Corr 70 := Vector.replicate 70 {}
  /-- R116: records that take effect at the next tick edge. [H] -/
  pendCorr : List (Fin 70 × Corr) := []
  /-- R117: gain and delay applied in this tick. [H] -/
  gd : Vector GainDelay 70 := Vector.replicate 70 {}
  /-- R117: gain and delay that take effect at the next tick edge. [H] -/
  pendGd : List (Fin 70 × GainDelay) := []
  /-- R117: RMS current of the last completed cycle of a slot, squared, in mA². [H] -/
  lastI2 : Vector Rat 70 := Vector.replicate 70 0
  /-- R118: corrected codes of the last four ticks of each slot, newest first, in units of 10⁻⁹. [H] -/
  hist : Vector (List Int) 70 := Vector.replicate 70 []
  /-- R123: corrected codes of the voltage slots back over a quarter period, newest first. [H] -/
  vHist : Vector (List Int) 70 := Vector.replicate 70 []
  /-- R119: phase maps, kept. [S] -/
  phmap : Vector PhMap 8 := Vector.replicate 8 {}
  /-- R119: accepted maps that take effect at the next tick edge. [H] -/
  pendMap : List (Outlet8 × PhMap) := []
  /-- R121: MTR_CREEP.THRESH, kept. [S] -/
  creep : Nat := 10
  /-- R120, R123: closed energies of the last tick, in 2⁻¹⁶ nWh and nvarh. [H] -/
  closed : Vector (Int × Int) 9 := Vector.replicate 9 (0, 0)
  /-- R124: fine accumulators, committed. [K] -/
  fine : Vector Fine 8 := Vector.replicate 8 {}
  /-- R125: accumulator of the feeder, committed. [K] -/
  feeder : Int := 0
  /-- R127: pulse outputs. [S] -/
  pulse : Vector Pulse 8 := Vector.replicate 8 {}
  /-- R129: cycles of the outlets and of the feeder. [S] -/
  cyc : Vector Cycle 9 := Vector.replicate 9 {}
  deriving DecidableEq, Repr

/-- A current-without-supply record (R137, R139); times are seconds and 1/64,000 s of the RTC. -/
structure WatchRec where
  outlet : Outlet8
  phases : BitVec 3
  endKind : Nat
  startS : Nat
  startFrac : Nat
  endS : Nat
  endFrac : Nat
  peak : Nat
  /-- Charge in mA × 0.2 s. -/
  charge : Nat
  recSeq : Nat
  deriving DecidableEq, Repr

/-- The watch of one outlet (R137). -/
structure WatchOutlet where
  /-- R137: consecutive windows above 100 mA, and consecutive windows below 80 mA. [H] -/
  above : Nat := 0
  below : Nat := 0
  /-- R137: the open record. [H] -/
  openRec : Option WatchRec := none
  deriving DecidableEq, Repr

/-- A bit stream of mean 0, which the sinc³ of the watch is taken to hold when the watch starts (R136, log 151). -/
def quietBits : BitVec 126 := BitVec.ofNat 126 (0x55555555555555555555555555555555 % 2 ^ 126)

/-- The current-only watch in BTD (R136 to R139). -/
structure Watch where
  /-- R139: MTR_WATCH.HOURS. [S] -/
  hours : Nat := 72
  /-- R139: MTR_WATCH.OUTLETS. [S] -/
  outlets : Byte := 0xFF
  /-- R139: HOURS and OUTLETS mirrored in MRAM. [S] -/
  mirror : Nat × Byte := (72, 0xFF)
  /-- R136: armed, with the outlets, hours and phases watched (bit p of outlet n) as held at the warning. [H] -/
  armed : Option (Nat × Byte × List (BitVec 3)) := none
  /-- R136: TYPE, FS and OFFSET of the slots, as held at the warning, phase A of outlet 0 first. [H] -/
  slots : List (Nat × Nat × Int) := []
  /-- R136: the modulator bits still inside the sinc³ of each slot, newest last. [H] -/
  bits : Vector (BitVec 126) 24 := Vector.replicate 24 quietBits
  /-- R136: VSYS has fallen below the brown-out threshold with the watch armed, start pending. [H] -/
  starting : Bool := false
  /-- R136: the watch runs. [S] -/
  running : Bool := false
  /-- R138: 200 ms windows since the start. [H] -/
  windows : Nat := 0
  /-- R138: tamper-only watch. [H] -/
  tamperOnly : Bool := false
  /-- R137: watch of each outlet. [H] -/
  out : Vector WatchOutlet 8 := Vector.replicate 8 {}
  /-- R137: log in BTD, newest first, at most 64. [H] -/
  log : List WatchRec := []
  /-- R139: next RECSEQ, from 1 at manufacture. [S] -/
  nextSeq : Nat := 1
  /-- R139: copy of the log in MRAM, kept. [K] -/
  copy : List WatchRec := []
  /-- R139: RECSEQ last posted, kept in MRAM. [K] -/
  posted : Nat := 0
  deriving DecidableEq, Repr

end Sys2Proof.Machine
end

