-- ==== Sys2Proof/Machine/StateBill.lean ====
section
/-! DEFINITION. State blocks of billing, time, signed records, prepayment and tamper records.

The letters at the end of a field's text are those of StateHost. Times of day are RTC seconds and
1/64,000 s since the last second edge (R159). -/

namespace Sys2Proof.Machine

/-- The open part of an interval, or the open retrograde record (R154, R155). -/
structure OpenPart where
  part : Nat
  ivlS : Nat
  openS : Nat
  openMs : Nat
  ticks : Nat := 0
  imp : Nat := 0
  exp : Nat := 0
  rq : Vector Nat 4 := Vector.replicate 4 0
  flags : W16 := 0
  rateOpen : Nat := 0
  retro : Bool := false
  deriving DecidableEq, Repr

/-- A closed interval record (R155). -/
structure IRec where
  irseq : Nat
  flags : W16
  rateOpen : Nat
  rateClose : Nat
  part : Nat
  ivlS : Nat
  openS : Nat
  openMs : Nat
  ticks : Nat
  imp : Nat
  exp : Nat
  rq : Vector Nat 4
  demImp : Nat
  demExp : Nat
  deriving DecidableEq, Repr

/-- An RTYPE 2 snapshot that is due (R176): its tick and the session it belongs to. -/
structure PrnDue where
  tick : Tick
  session : Nat
  authRef : W64
  /-- Values of a snapshot tick that had passed when the session ended (R206). -/
  body : Option (List Byte) := none
  /-- R176: a level-0 reset came before the snapshot tick; the snapshot is taken at the end of this foreground B. [H] -/
  late : Bool := false
  deriving DecidableEq, Repr

/-- The billing registers of one outlet (R141) and what its image holds beside them (R143). -/
structure BillRegs where
  /-- R141: IMP[r] and EXP[r]. [S] -/
  imp : Vector Nat 8 := Vector.replicate 8 0
  exp : Vector Nat 8 := Vector.replicate 8 0
  /-- R141: IMP_TOT, EXP_TOT. [S] -/
  impTot : Nat := 0
  expTot : Nat := 0
  /-- R141: RQ1 to RQ4. [S] -/
  rq : Vector Nat 4 := Vector.replicate 4 0
  /-- R141: T. [S] -/
  t : Nat := 0
  /-- R141: maximum demands with the start of their interval. [S] -/
  mdImp : Vector (Nat × Nat) 8 := Vector.replicate 8 (0, 0)
  mdExp : Vector (Nat × Nat) 8 := Vector.replicate 8 (0, 0)
  /-- R170: MD_RESETS. [K] -/
  mdResets : Nat := 0
  /-- R128: WRAPS of the 23 short views. [K] -/
  wraps : Vector Nat 23 := Vector.replicate 23 0
  /-- R154: the open part or retrograde record. [S] -/
  part : Option OpenPart := none
  /-- R156: quanta and ticks of the parts of the open interval that are closed, and their number. [K] -/
  ivlImp : Nat := 0
  ivlExp : Nat := 0
  ivlTicks : Nat := 0
  ivlParts : Nat := 0
  /-- R143: rate in force. [S] -/
  rate : Nat := 0
  deriving DecidableEq, Repr

/-- Counters that are committed with the image (R125): FA, FR and the pulse counters. -/
structure Counters where
  fa : Int := 0
  fr : Int := 0
  part : Nat := 0
  pending : Nat := 0
  emitted : Nat := 0
  produced : Nat := 0
  deriving DecidableEq, Repr

/-- The quarantine accumulator Q of a frozen outlet (R146). -/
structure Quarantine where
  imp : Nat := 0
  exp : Nat := 0
  rq : Vector Nat 4 := Vector.replicate 4 0
  deriving DecidableEq, Repr

/-- A billing image as committed (R143). With the open part it holds what the records around it need, so that a commit cut off tears no
record (R154): the next IRSEQ, the last closed boundary, the length in force and whether a retrograde record is open. -/
structure BillImage where
  seq : Nat := 0
  regs : BillRegs := {}
  cnt : Counters := {}
  nextIr : Nat := 1
  lastClosed : Nat := 0
  ivlActive : Nat := 2
  retro : Bool := false
  deriving DecidableEq, Repr

/-- The quarantine block of a frozen outlet as committed, with its sequence (R146). -/
structure QtImage where
  seq : Nat := 0
  q : Quarantine := {}
  deriving DecidableEq, Repr

/-- FA, FR and the pulse counters of a frozen outlet as committed, with their sequence (R146). -/
structure CntImage where
  seq : Nat := 0
  cnt : Counters := {}
  deriving DecidableEq, Repr

/-- R144, R418: a stored copy of a record held three times: its content and whether its CRC-32C or tag holds. -/
structure Copy (α : Type) where
  image : α
  crcOk : Bool := true
  deriving DecidableEq, Repr

/-- Billing of one outlet. -/
structure Bill where
  /-- R141: working registers, those of the last commit. [S] -/
  regs : BillRegs := {}
  /-- R143: commit sequence. [K] -/
  seq : Nat := 0
  /-- R143: the three copies in MRAM. [K] -/
  copies : Vector (Copy BillImage) 3 := Vector.replicate 3 { image := {} }
  /-- R143: the image before the last commit, which a copy cut off still holds. [K] -/
  prev : BillImage := {}
  /-- R146: billing is frozen. [S] -/
  frozen : Bool := false
  /-- R146: no copy was valid at the freeze. [K] -/
  noCopy : Bool := false
  /-- R170: the highest-sequence valid copy as it stood at the freeze. [K] -/
  frozenImg : BillImage := {}
  /-- R146: quarantine accumulator, its commit sequence, its copies and the image before. [S] -/
  q : Quarantine := {}
  qSeq : Nat := 0
  qCopies : Vector (Copy QtImage) 3 := Vector.replicate 3 { image := {} }
  qPrev : QtImage := {}
  /-- R146: after a freeze, commit sequence, copies and image before of FA, FR and the pulse counters, a block of their own. [K] -/
  cSeq : Nat := 0
  cCopies : Vector (Copy CntImage) 3 := Vector.replicate 3 { image := {} }
  cPrev : CntImage := {}
  /-- R147: QT_DOUBT. [S] -/
  qtDoubt : Bool := false
  /-- R154: closed records, newest first, at most 2,880; kept. [S] -/
  recs : List IRec := []
  /-- R155: next IRSEQ. [S] -/
  nextIr : Nat := 1
  /-- R176: RTYPE 2 snapshot marked as due. [K] -/
  due : Option PrnDue := none
  /-- R176: billing froze at this start; the RTYPE 3 snapshot is taken at the end of foreground B. [H] -/
  freezeDue : Bool := false
  /-- R143: something of the image changed in this foreground B. [H] -/
  dirty : Bool := false
  /-- R170, R176: registers, commit sequence and STATUS of a Proane record as committed at the end of foreground B of this tick. [H] -/
  endRegs : BillRegs := {}
  endSeq : Nat := 0
  endStatus : Nat := 0
  deriving DecidableEq, Repr

/-- An entry of the power log (R168). -/
structure PowerEntry where
  pseq : Nat
  downS : Nat
  downMs : Nat
  downGtc : W48
  up : Option (Nat × Nat) := none
  cleared : Bool := false
  rtcInvalid : Bool := false
  deriving DecidableEq, Repr

/-- A step that waits for the next foreground B (R163). -/
structure StepPend where
  delta : Int
  /-- Tick of the dispatch. -/
  tick : Tick
  /-- The BIL_TIME_SETs that complete with the step, each with its own Δ (R173). -/
  flights : List (Nat × Int) := []
  deriving DecidableEq, Repr

/-- The RTC, the intervals, the calendar and the power log. -/
structure Clock where
  /-- R158: UTC seconds, in BTD; 0 at the first power-up. [S] -/
  sec : Nat := 0
  /-- R159: 1/64,000 s since the last second edge. [H] -/
  frac : Nat := 0
  /-- R158: the RTC has not been set since it last became invalid. [S] -/
  unsynced : Bool := true
  /-- R158: correction for temperature in 0.1 ppm, as last formed with TRIM. [H] -/
  corr : Int := 0
  /-- R169: BIL_CLK.STEP_LIMIT, kept. [S] -/
  stepLimit : Nat := 8
  /-- R169: BIL_CLK.TRIM, kept, 0.1 ppm. [S] -/
  trim : Int := 0
  /-- R162: slew remaining in ms, none where no slew is in progress; kept. [S] -/
  slew : Option Int := none
  /-- R162: the Δ with which the slew in progress started. [K] -/
  slewDelta : Int := 0
  /-- R163: a step that takes effect in the next foreground B. [H] -/
  stepPend : Option StepPend := none
  /-- R169: BIL_CFG.IVL, kept. [S] -/
  ivl : Nat := 2
  /-- R169: BIL_CFG.IVL_ACTIVE, kept. [S] -/
  ivlActive : Nat := 2
  /-- R153: last closed boundary, UTC seconds. [K] -/
  lastClosed : Nat := 0
  /-- R160: a second edge has come and its boundaries and minute edge are still to be handled. [H] -/
  ivlDue : Bool := false
  minuteDue : Bool := false
  /-- R165: the RTC has restarted at 0 and no step has taken effect since. [K] -/
  restarted : Bool := false
  /-- R164: a retrograde record is open. [S] -/
  retro : Bool := false
  /-- R150: rate in force. [S] -/
  rate : Nat := 0
  /-- R151: daylight time as of the last evaluation. [H] -/
  dst : Bool := false
  /-- R152: active calendar, 768 bytes, kept. [S] -/
  active : Option (List Byte) := none
  /-- R152: passive calendar, kept. [S] -/
  passive : Option (List Byte) := none
  /-- BIL_STATUS.CFG_REJECT. [S] -/
  cfgReject : Bool := false
  /-- R168: power log, newest first, at most 64; kept. [S] -/
  power : List PowerEntry := []
  /-- R168: next PSEQ. [S] -/
  nextP : Nat := 1
  /-- R167: the power-up work of a level-0 start is still to be done. [H] -/
  upDue : Bool := true
  /-- R167: the power-up entry of a cleared warning follows in this tick. [H] -/
  clearDue : Option Tick := none
  deriving DecidableEq, Repr

/-- A Proane record in the store (R175, R178): 208 bytes, and 64 bytes of signature once signed. -/
structure PrnRec where
  rctr : Nat
  rtype : Nat
  outlet : Outlet8
  body : List Byte
  sig : Option (List Byte) := none
  /-- R178: signed after a restart. -/
  late : Bool := false
  /-- The BIL_PRN_SIGN that asked for it, while it waits. -/
  flight : Option Nat := none
  /-- Its signature has been queued (R177, R400). -/
  queued : Bool := false
  deriving DecidableEq, Repr

/-- Proane records. -/
structure Prn where
  /-- R176: next RCTR. [S] -/
  rctr : Nat := 1
  /-- R178: record store, newest first, kept. [S] -/
  store : List PrnRec := []
  /-- R7, R180: device certificate and issuing certificate, DER, as written at manufacture (Shipped.lean, log 155). [F] -/
  devCert : List Byte := []
  issCert : List Byte := []
  deriving DecidableEq, Repr

/-- Settings of a prepayment account (R181). -/
structure PpySet where
  enable : Bool := false
  keyslot : Nat := 0
  recovery : Nat := 0
  autoEmg : Bool := false
  emgAmount : Nat := 0
  emgThresh : Nat := 0
  price : Vector Nat 8 := Vector.replicate 8 0
  /-- Weekday mask, start and end minute. -/
  friendly : Vector (Byte × Nat × Nat) 4 := Vector.replicate 4 (0, 0, 0)
  /-- Year, month and day. -/
  holiday : Vector (Nat × Nat × Nat) 32 := Vector.replicate 32 (0, 0, 0)
  deriving DecidableEq, Repr

/-- A prepayment account as committed (R183 to R189). -/
structure Account where
  /-- R187: commit sequence. [K] -/
  seq : Nat := 0
  /-- R181: settings. [S] -/
  set : PpySet := {}
  /-- R181: C, E and D. [S] -/
  c : Nat := 0
  e : Nat := 0
  d : Nat := 0
  /-- R183: f. [S] -/
  f : Nat := 0
  /-- R187: TOPUP_SUM and COST_SUM. [S] -/
  topup : Nat := 0
  cost : Nat := 0
  /-- R186: highest TSEQ accepted and the window mask. [S] -/
  h : Nat := 0
  mask : W64 := 0
  /-- R184: EMG_USED. [S] -/
  emgUsed : Bool := false
  /-- R184: emergency credit is available. [S] -/
  emgAvail : Bool := false
  /-- R183: CREDIT_OUT. [S] -/
  creditOut : Bool := false
  /-- R182: friendly time is in force. [S] -/
  friendly : Bool := false
  /-- R188: the account is in doubt. [S] -/
  doubt : Bool := false
  deriving DecidableEq, Repr

/-- An account with its copies and requests. -/
structure Ppy where
  /-- R183: the working account. [S] -/
  acc : Account := {}
  /-- R187: the three copies in MRAM, and the account before the last commit. [K] -/
  copies : Vector (Copy Account) 3 := Vector.replicate 3 { image := {} }
  prev : Account := {}
  /-- R181: settings that take effect in the next foreground B. [H] -/
  pendSet : Option PpySet := none
  /-- R184: recorded activation requests with the tick of their dispatch, oldest first. [H] -/
  emgReq : List (Nat × Tick) := []
  /-- R186: verified tokens that wait for foreground B: descriptor, TSEQ, AMOUNT and the tick of the
  verification result, oldest first. [H] -/
  apply : List (Nat × Nat × Nat × Tick) := []
  /-- R188, R189: BIL_PPY_STATUS.ENABLED, kept beside the copies. [K] -/
  enabled : Bool := false
  /-- R187: something of the account changed in this foreground B. [H] -/
  dirty : Bool := false
  deriving DecidableEq, Repr

/-- A tamper entry (R192). -/
structure TamperRec where
  input : Fin 2
  state : Nat
  power : Nat
  sec : Nat
  ms : Nat
  openings : Nat
  tseq : Nat
  /-- Tick in which BTD recorded it while MSD ran (R191); 0 where it did not run. -/
  tick : Tick := 0
  deriving DecidableEq, Repr

/-- One tamper input (R190). -/
structure TamperIn where
  /-- R192: COVER_EN or TERM_EN. [S] -/
  en : Bool := false
  /-- R192: COVER_POL or TERM_POL. [S] -/
  pol : Bool := false
  /-- R192: COVER_OPEN or TERM_OPEN. [K] -/
  isOpen : Bool := false
  /-- R190: consecutive samples that differ from the state, with the time of the first. [H] -/
  differ : Nat := 0
  firstAt : Nat × Nat := (0, 0)
  /-- R190: sample numbers of the last changes, newest first. [H] -/
  changes : List Nat := []
  /-- R190: chattering, and the sample number of the last change of the input. [H] -/
  chatter : Bool := false
  lastChange : Nat := 0
  /-- R190: level of the last sample. [H] -/
  last : Bool := false
  /-- R192: openings since manufacture. [S] -/
  openings : Nat := 0
  deriving DecidableEq, Repr

/-- Tamper records (R190 to R192). -/
structure Tamper where
  /-- R190: TAMP_COVER and TAMP_TERM, in BTD. [S] -/
  inp : Vector TamperIn 2 := Vector.replicate 2 {}
  /-- R192: enables and polarities mirrored in MRAM. [S] -/
  mirror : Vector (Bool × Bool) 2 := Vector.replicate 2 (false, false)
  /-- R190: number of samples taken. [H] -/
  samples : Nat := 0
  /-- R191: log in BTD, newest first, at most 64. [K] -/
  log : List TamperRec := []
  /-- R192: next TSEQ. [S] -/
  nextSeq : Nat := 1
  /-- R191: log in MRAM, newest first, at most 256; kept. [S] -/
  copy : List TamperRec := []
  /-- R191: TSEQ last posted, kept. [K] -/
  posted : Nat := 0
  /-- R190: 1/64,000 s of sampling since the last window of the current-only watch ended. [H] -/
  since : Nat := 0
  deriving DecidableEq, Repr

end Sys2Proof.Machine
end

