-- ==== Sys2Proof/Machine/StateSession.lean ====
section
/-! DEFINITION. State blocks of the charge session, the safety functions and the vehicle link.

The letters at the end of a field's text are those of StateHost. -/

namespace Sys2Proof.Machine

/-- The states of R203, in the order of their numbers. -/
inductive SesState where
  | idle | connected | locking | selfTest | authorising | ready | closing | charging | stopping
  | opening | ended | fault | welded | disabled
  deriving DecidableEq, Repr

/-- The stop reasons of R209. -/
inductive Reason where
  | none | unplug | hostStop | creditOut | authDenied | authTimeout | proximityNone | lockFail
  | rcdTest | vlink | capacity | restart | evOvercurrent
  | rcdDc | rcdAc | pilotE | diode | pilotHw | contactorFb | coilDriver | lockLost | welded | safety
  | loadVoltage | proximity
  deriving DecidableEq, Repr

/-- Pilot drive (R196): constant +12 V or −12 V, or oscillation at a duty in per mille. -/
inductive Drive where
  | plus | minus | osc (duty : Nat)
  deriving DecidableEq, Repr

/-- Detected pilot states (R198). -/
inductive Pilot where
  | a | b | c | d | e
  deriving DecidableEq, Repr

/-- Pilot readback faults (R199). -/
inductive PilotErr where
  | diode | hw
  deriving DecidableEq, Repr

/-- What a row of R204 waits for beside the state of the outlet: a recorded stop request, a timeout, an accepted SES_FAULT_CLEAR. -/
inductive Trig where
  | request | proximityNone | authTimeout | stoppingTimeout | faultClear
  deriving DecidableEq, Repr

/-- The opening checks (R216). -/
inductive Checks where
  | idle | running | passed | failed
  deriving DecidableEq, Repr

/-- A lock or unlock drive (R219). -/
structure LockDrive where
  toLock : Bool
  /-- Tick of its start, number of the attempt (1 or 2). -/
  start : Tick
  attempt : Nat := 1
  /-- Tick of the confirmation, from which it runs 20 ms more. -/
  confirmed : Option Tick := none
  /-- It has failed once and the second attempt starts at this tick. -/
  retryAt : Option Tick := none
  deriving DecidableEq, Repr

/-- The residual-current self-test (R223): step 1 to 3, its start and the sum over its window. -/
structure SelfTest where
  step : Nat
  start : Tick
  sum : Rat := 0
  count : Nat := 0
  b : Rat := 0
  /-- Result of the test: passed, or failed at a step. -/
  done : Option Bool := none
  deriving DecidableEq, Repr

/-- A held pre-authorisation (R207). -/
structure PreAuth where
  authRef : W64
  limit : Nat
  untilTick : Tick
  deriving DecidableEq, Repr

/-- One outlet. -/
structure Outlet where
  /-- R194: SES_OCFGn, kept. [S] -/
  ocfg : W32 := 0x001E2070
  /-- R194: SES_COILn, kept. [S] -/
  coil : W32 := 0x00002864
  /-- R194: accepted writes that take effect at the next tick edge. [H] -/
  pendOcfg : Option W32 := none
  pendCoil : Option W32 := none
  /-- R203: state of the session state machine; it begins at the SES ready time, before that the
  register reads 0. [S] -/
  state : SesState := .idle
  /-- R204: tick of entry into the state, and of the last transition. [H] -/
  entry : Tick := 0
  lastTrans : Option Tick := none
  /-- R196, R446: pilot drive; −12 V from reset. [S] -/
  drive : Drive := .minus
  /-- R196: a drive that waits for the next tick edge (true) or the next period start (false). [H] -/
  pendDrive : Option (Drive × Bool) := none
  /-- R198: last detected pilot state, none before the first since the reset (shown as 0). [S] -/
  det : Option Pilot := none
  /-- R198: consecutive ticks in each entry band. [H] -/
  bandRun : Vector Nat 5 := Vector.replicate 5 0
  /-- R199: consecutive ticks in each fault condition, in the order of the table. [H] -/
  errRun : Vector Nat 4 := Vector.replicate 4 0
  /-- R199: the readback fault acted on. [H] -/
  pilotErr : Option PilotErr := none
  /-- R197: sums and counts of the plateau samples of the running period, mV. [H] -/
  posSum : Int := 0
  posN : Nat := 0
  negSum : Int := 0
  negN : Nat := 0
  /-- R197: samples of the last 64 ticks under constant +12 V drive, newest first, mV. [H] -/
  conPos : List Int := []
  /-- R210: SES_PILOTn.POS and NEG, 0.1 V. [S] -/
  pos : Int := 0
  neg : Int := 0
  /-- R202: last 8 proximity values, newest first, Ω. [H] -/
  ppVals : List Nat := []
  /-- R202: PP code. [S] -/
  pp : Nat := 0
  /-- R202: cable rating in force for the session, 0.1 A. [H] -/
  cable : Nat := 0
  /-- R202: bound of the rating until the next session, after a rise while the latches were set. [H] -/
  ppCap : Option Nat := none
  /-- R214: last mirror sample shows closed, its run, and the confirmed position (closed). [H] -/
  mirLast : Bool := false
  mirRun : Nat := 0
  mirror : Option Bool := none
  /-- R206: tick of the last confirmation. [H] -/
  mirTick : Tick := 0
  /-- R214: a commanded position that waits for its confirmation: tick and closed. [H] -/
  mirWait : Option (Tick × Bool) := none
  /-- R219: last lock sample shows locked, its run, and the confirmed position (locked). [H] -/
  lockLast : Bool := false
  lockRun : Nat := 0
  lock : Option Bool := none
  /-- R219: the drive of the lock bridge in progress, and the last drive failed. [H] -/
  lockDrive : Option LockDrive := none
  lockFailed : Bool := false
  /-- R219: the last unlock drive has failed twice, so that LOCK reads 2 until the next drive. [H] -/
  unlockFailed : Bool := false
  /-- R220: lock samples since the start, at most 3, and a drive that waits for them. [H] -/
  lockSeen : Nat := 0
  lockAsk : Option Bool := none
  /-- R211: latch A and latch B. [S] -/
  latchA : Bool := false
  latchB : Bool := false
  /-- R212: the pre-close test has passed and the coil has passed to HOLD duty. [H] -/
  preDone : Bool := false
  coilHold : Bool := false
  /-- R213: consecutive ticks of disagreement of the high-side and low-side switch. [H] -/
  disHigh : Nat := 0
  disLow : Nat := 0
  /-- R215: tick in which both latches were set, the first check made, and per phase the consecutive
  cycles below 50 %. [H] -/
  setTick : Option Tick := none
  loadChecked : Bool := false
  loadLow : Vector Nat 3 := Vector.replicate 3 0
  /-- R216: tick of the clearing, and the two opening checks. [H] -/
  clrTick : Option Tick := none
  chkMirror : Checks := .idle
  chkVolt : Checks := .idle
  /-- R218: consecutive cycles with every voltage slot below 50 V. [H] -/
  quietCycles : Nat := 0
  /-- R210: REASON. [S] -/
  reason : Reason := .none
  /-- R204: faults raised and not yet acted on. [H] -/
  faults : List Reason := []
  /-- R205: a stop request recorded and not yet acted on, with the tick that recorded it. [H] -/
  stopReq : Option (Tick × Reason) := none
  /-- R205: accepted SES_FAULT_CLEARs with the ticks of their dispatch, oldest first. [H] -/
  clearReq : List (Tick × Nat) := []
  /-- R204: what the next evaluation of the rows finds due. [H] -/
  trigs : List Trig := []
  /-- R203: the opening checks of a fault have passed and foreground A is to release the lock. [H] -/
  relDue : Bool := false
  /-- R227: SUBSTATE ending and resuming. [H] -/
  ending : Bool := false
  resuming : Bool := false
  /-- R206: the session open on the outlet, 0 where none; kept so that R210 can close it. [K] -/
  session : Nat := 0
  /-- R206: the session whose RTYPE 2 record is still to come, with its AUTH_REF. [K] -/
  record : Option (Nat × W64) := none
  /-- R227: AUTH_REF of the open session. [K] -/
  authRef : W64 := 0
  /-- R207: authorised, denied. [S] -/
  authed : Bool := false
  denied : Bool := false
  /-- R207: held pre-authorisation. [S] -/
  preAuth : Option PreAuth := none
  /-- R226: host limit in 0.1 A, none is 0xFFFF; kept through levels 1 to 3. [S] -/
  iHost : Option Nat := none
  /-- R207: limit given with the authorisation, for the session. [H] -/
  iSes : Option Nat := none
  /-- R200: token limit I_tok in 0.1 A, as the agent last handed it over. [H] -/
  iTok : Nat := 0
  /-- R200: I_lim in 0.1 A. [H] -/
  iLim : Nat := 0
  /-- R225: values of I_lim of the last 5 s with the tick from which each held, newest first. [H] -/
  iHist : List (Tick × Nat) := []
  /-- R225: consecutive cycles above the limit, per phase. [H] -/
  overRun : Vector Nat 3 := Vector.replicate 3 0
  /-- R221: corrected IRES samples of the window in A, newest first. [H] -/
  ires : List Rat := []
  /-- R221: I_DC in A, and the square of I_AC. [H] -/
  iDc : Rat := 0
  iAc2 : Rat := 0
  /-- R222: consecutive ticks in which each criterion's level is reached, in the order of the table. [H] -/
  rcdRun : Vector Nat 6 := Vector.replicate 6 0
  /-- R223: baseline b in A, the running self-test, and its result for the session. [H] -/
  baseline : Rat := 0
  test : Option SelfTest := none
  testOk : Bool := false
  /-- R278: the V2G stop exchange has ended. [H] -/
  stopDone : Bool := false
  /-- R269: the outlet has been in CLOSING in this session, so the mode is fixed. [H] -/
  modeFixed : Bool := false
  /-- R268: tick of the session's entry into CONNECTED. [H] -/
  connTick : Tick := 0
  /-- R195, R204: end of the wait in AUTHORISING, by AUTH_TIMEOUT_S at its entry. [H] -/
  authEnd : Tick := 0
  /-- R203: the 3 s of −12 V in FAULT have ended. [H] -/
  faultHigh : Bool := false
  /-- R226: SES_UNLOCK descriptor that waits for the drive, and the tick of its dispatch while the drive is to start (R205). [H] -/
  unlockSeq : Option Nat := none
  unlockAsk : Option Tick := none
  /-- R206: values at the fourth tick after the last confirmed opening, for the RTYPE 2 record of a session that goes on. [H] -/
  endVals : Option (List Byte) := none
  deriving DecidableEq, Repr

/-- The session block. -/
structure Ses where
  /-- R195: the outlets. [S] -/
  out : Vector Outlet 8 := Vector.replicate 8 {}
  /-- R195: SES_CFG.PREAUTH_S, kept. [S] -/
  preauthS : Nat := 60
  /-- R195: SES_CFG.AUTH_TIMEOUT_S, kept. [S] -/
  authTimeoutS : Nat := 120
  /-- SES_STATUS.CFG_REJECT. [S] -/
  cfgReject : Bool := false
  /-- R217: SHUNT_TRIP_N is asserted, and the tick of its assertion. [S] -/
  shunt : Bool := false
  shuntTick : Tick := 0
  /-- R206: next SESSION_NO, 1 at manufacture; kept. [S] -/
  nextSession : Nat := 1
  /-- R227: what SES_READ returns, as it stood at the end of foreground A of the present tick. [H] -/
  readImg : Vector (List Byte) 8 := Vector.replicate 8 []
  /-- R210: the state machine has begun. [S] -/
  started : Bool := false
  deriving DecidableEq, Repr

/-- One stop input (R234). -/
structure StopInput where
  /-- R234: recognised state (open), none while unrecognised. [S] -/
  recog : Option Bool := none
  /-- R234: consecutive open and closed samples. [H] -/
  openRun : Nat := 0
  closedRun : Nat := 0
  /-- R236: tick of the last recognition. [H] -/
  tick : Tick := 0
  /-- R236: tick of the first recognition as open, or as closed, after which the partner is still awaited. [H] -/
  waitOpen : Option Tick := none
  waitClosed : Option Tick := none
  /-- R237: samples with opening edges in the last 1,000, newest first, as sample number and edges. [H] -/
  edges : List (Nat × Nat) := []
  /-- R237: sample number from which the input has read closed without an edge. [H] -/
  quietFrom : Nat := 0
  deriving DecidableEq, Repr

/-- One stop pair (R235 to R240). -/
structure StopPair where
  /-- R240: stop in force, kept. [K] -/
  stop : Bool := false
  /-- R240: discrepancy fault, kept. [K] -/
  disc : Bool := false
  /-- R240: chatter fault, kept. [K] -/
  chat : Bool := false
  /-- R236: both channels have opened within DISC of each other since the fault. [H] -/
  openOk : Bool := false
  deriving DecidableEq, Repr

/-- A pending safety block (R248). -/
structure PendBlock where
  bytes : List Byte
  edition : W32
  tick : Tick
  /-- R249: commissioned, active from the next tick edge. -/
  go : Bool := false
  deriving DecidableEq, Repr

/-- The safety block and the stop inputs. -/
structure Saf where
  /-- R246: the active block as the lockstep pair works with it. [K] -/
  active : Option (List Byte) := none
  /-- R246: its three copies in MRAM. [K] -/
  copies : Vector (Copy (List Byte)) 3 := Vector.replicate 3 { image := [] }
  /-- SAF_CHECK, kept. [S] -/
  check : W32 := 0
  /-- SAF_EDITION, kept. [S] -/
  edition : W32 := 0
  /-- R248: count of accepted writes since manufacture, kept. [K] -/
  editions : W32 := 0
  /-- SAF_STATUS.CONFIRMED, kept. [S] -/
  confirmed : Bool := false
  /-- SAF_STATUS.MISMATCH, kept. [K] -/
  mismatch : Bool := false
  /-- R248: the pending block. [S] -/
  pend : Option PendBlock := none
  /-- R249: commissioned blocks of this tick that a new pending block has followed, oldest first. [H] -/
  armed : List PendBlock := []
  /-- SAF_STATUS.UNCONF. [S] -/
  unconf : Byte := 0xFF
  /-- R234: the four inputs. [S] -/
  inp : Vector StopInput 4 := Vector.replicate 4 {}
  /-- R235: the two pairs. [K] -/
  pair : Vector StopPair 2 := Vector.replicate 2 {}
  /-- R233: number of samples taken. [H] -/
  samples : Nat := 0
  /-- SAF_ESTOP.EDGES_MAX. [S] -/
  edgesMax : Nat := 0
  deriving DecidableEq, Repr

/-- A period of a charging schedule (R275); none is 0xFFFF or 0xFFFF_FFFF. -/
structure Period where
  start : Nat
  imax : Option Nat
  dmax : Nat
  price : Option Nat
  deriving DecidableEq, Repr

/-- What a vehicle says of itself (R273, R283); currents in 0.1 A. -/
structure Vehicle where
  evccid : W48 := 0
  evMax : Nat := 0
  evMin : Nat := 0
  evMaxDis : Nat := 0
  energyWh : Nat := 0
  departure : Nat := 0
  dynamic : Bool := false
  deriving DecidableEq, Repr

/-- The vehicle link's state in MSD for one outlet (R270). Beside what R270 lists it holds the rest of VLK_LINKn, which R282 rebuilds from
it, and the vehicle's parameters, which the limits last agreed of R29 rest on (log 158). -/
structure Mirror where
  /-- R270: the mode, and that the outlet is released. [S] -/
  digital : Bool := false
  released : Bool := false
  /-- R270: the match: the vehicle's modem MAC, NMK and NID; its mean attenuation for VLK_LINKn. [S] -/
  matched : Bool := false
  mac : W48 := 0
  nmk : List Byte := []
  nid : List Byte := []
  atten : Nat := 0
  /-- R270: the V2G SessionID, 0 where none, the protocol and TLS use. [S] -/
  sessionId : W64 := 0
  proto : Nat := 0
  tls : Bool := false
  tls13 : Bool := false
  /-- R282: VLK_LINKn.PNC and BPT. [S] -/
  pnc : Bool := false
  bpt : Bool := false
  /-- R270: the schedule in force, since when, with its currency (R275). [S] -/
  schedule : List Period := []
  currency : List Byte := []
  schedTick : Tick := 0
  /-- R270: the last I_v sent, in 0.1 A. [S] -/
  iV : Nat := 0
  /-- R264, R270, R283: EVCCID and the vehicle's parameters. [S] -/
  ev : Vehicle := {}
  /-- R273: an EVCCID request has been made in the session. [H] -/
  evccidAsked : Bool := false
  deriving DecidableEq, Repr

/-- Where the dialogue of a V2G connection stands (R266): the requests of R263 in their order. -/
inductive V2gPhase where
  | idle | agreed | setup | services | payment | details | authSetup | authorise | authorised | params | schedule | ready | charging
  | renegotiate | stopped
  deriving DecidableEq, Repr

/-- A decision request (R272, R273). -/
structure Decision where
  reqId : Nat
  kind : Nat
  outlet : Outlet8
  proto : Nat
  flags : Byte
  session : Nat
  /-- The V2G session that needs it. -/
  sid : W64
  deadline : Tick
  /-- Kind fields, bytes 32 to 63, and the body. -/
  fields : List Byte
  body : List Byte
  delivered : Bool := false
  deriving DecidableEq, Repr

/-- VLK_LINKn and the running dialogue of one outlet. -/
structure Link where
  /-- VLK_LINKn.SLAC. [S] -/
  slac : Nat := 0
  /-- VLK_LINKn.PROTO. [S] -/
  proto : Nat := 0
  /-- VLK_LINKn.TLS and TLS13. [S] -/
  tls : Bool := false
  tls13 : Bool := false
  /-- VLK_LINKn.PNC and BPT. [S] -/
  pnc : Bool := false
  bpt : Bool := false
  /-- VLK_LINKn.ATTEN. [S] -/
  atten : Nat := 0
  /-- R257: RunID and MAC of the matching in progress. [H] -/
  runId : W64 := 0
  mac : W48 := 0
  /-- R260: security asked for and answered by SDP. [H] -/
  sdpTls : Bool := false
  /-- R261: TCP connection open, and the vehicle gave a client certificate (R262). [H] -/
  tcp : Bool := false
  clientCert : Bool := false
  /-- R262: a TLS handshake waits for the signature of slot 1: it is of TLS 1.3. [H] -/
  hand : Option Bool := none
  /-- R283: SECC chain and trust roots as they stood when the handshake of this connection started. [H] -/
  handSecc : List Byte := []
  handRoots : Vector (List Byte) 8 := Vector.replicate 8 []
  /-- R266: where the dialogue stands. [H] -/
  phase : V2gPhase := .idle
  /-- V2G session established, and its SessionID. [S] -/
  v2g : Bool := false
  sessionId : W64 := 0
  /-- R264: a DIN SPEC 70121 session has reached SessionSetupRes. [H] -/
  dinDone : Bool := false
  /-- R265: contract chain verified: root index, leaf hash and EMAID. [H] -/
  contract : Option (Nat × List Byte × List Byte) := none
  /-- R273: an EVCCID request has been made in the session. [H] -/
  evccidAsked : Bool := false
  /-- R283: EVCCID and the vehicle's parameters. [S] -/
  ev : Vehicle := {}
  /-- R275: the schedule that an accepted SCHEDULE decision gives at the next exchange. [H] -/
  schedReady : Bool := false
  /-- R273: a schedule has been agreed in this V2G session, so a further exchange renegotiates. [H] -/
  agreedOnce : Bool := false
  /-- R275: the host has denied a schedule; the vehicle's next polls are answered FAILED. [H] -/
  schedDenied : Bool := false
  /-- R277: renegotiation asked for, and under way. [H] -/
  reneg : Bool := false
  /-- R280, R283: tick of the vehicle's last request, 0 before one. [S] -/
  lastReq : Tick := 0
  /-- R280: tick in which the connection opened, from which 60 s run before a first request. [H] -/
  openTick : Tick := 0
  /-- R281: waits for the vehicle to rejoin until this tick. [H] -/
  resumeUntil : Option Tick := none
  deriving DecidableEq, Repr

/-- The vehicle link. -/
structure Vlk where
  /-- R282: VLK_CFG bits [6:0], kept; DIN_EN, ISO2_EN, ISO20_EN and PLAIN_EIM as shipped. [S] -/
  cfg : BitVec 7 := 0b0010111
  /-- R282: VLK_CFG.SLAC_WAIT_S, kept. [S] -/
  slacWaitS : Nat := 20
  /-- R282: VLK_TIMING.AUTH_DL, SCHED_DL, CERT_DL and RESUME_S, kept. [S] -/
  authDl : Nat := 10
  schedDl : Nat := 5
  certDl : Nat := 3
  resumeS : Nat := 30
  /-- R282: VLK_CFG and SLAC_WAIT_S as each outlet took them at its entry into CONNECTED. [H] -/
  outCfg : Vector (BitVec 7 × Nat) 8 := Vector.replicate 8 (0b0010111, 20)
  /-- R282: RESUME_S as each outlet took it at its entry into CONNECTED. [H] -/
  outResume : Vector Nat 8 := Vector.replicate 8 30
  /-- VLK_STATUS.CFG_REJECT. [S] -/
  cfgReject : Bool := false
  /-- VLK_MACBASE. [F] -/
  macBase : W48 := 0
  /-- VLK_LINKn and dialogues. [S] -/
  link : Vector Link 8 := Vector.replicate 8 {}
  /-- R270: MSD mirrors, reset only at level 0. [S] -/
  mirror : Vector Mirror 8 := Vector.replicate 8 {}
  /-- R272: next REQ_ID, 1 at manufacture; kept. [S] -/
  nextReq : Nat := 1
  /-- R272: open decision requests, oldest first. [S] -/
  open_ : List Decision := []
  /-- R276: REQ_IDs resolved by their default, kept through levels 1 to 3. [H] -/
  defaulted : List Nat := []
  /-- R272: waiting VLK_DECISION_WAIT descriptors with their deadlines, oldest first. [H] -/
  waits : List (Nat × Tick) := []
  /-- R400: outlets whose TLS signature waits for a place in the queue of long operations, oldest first. [H] -/
  tlsWait : List Outlet8 := []
  /-- R283: SECC chain and trust roots in DER, kept. [K] -/
  secc : List Byte := []
  roots : Vector (List Byte) 8 := Vector.replicate 8 []
  deriving DecidableEq, Repr

end Sys2Proof.Machine
end

