-- ==== Sys2Proof/Machine/StateSite.lean ====
section
/-! DEFINITION. State blocks of site current sharing, the backbone and the uplink.

The letters at the end of a field's text are those of StateHost. -/

namespace Sys2Proof.Machine

/-- States of an outgoing transfer (R297), numbered 1 to 3 in SCT_READ. -/
inductive XState where
  | offered | commitSent | inDoubt
  deriving DecidableEq, Repr

/-- An open outgoing transfer (R297). -/
structure OutXfer where
  xid : Nat
  receiver : W64
  phase : Fin 3
  count : Nat
  deadline : Nat
  state : XState
  deriving DecidableEq, Repr

/-- States of a receiver record (R297). -/
inductive RState where
  | accepted | committed | expired
  deriving DecidableEq, Repr

/-- A receiver record (R297, R298). -/
structure RecvRec where
  sender : W64
  xid : Nat
  phase : Fin 3
  count : Nat
  deadline : Nat
  state : RState
  deriving DecidableEq, Repr

/-- A transfer of a retired member that the coordinator has taken over into its own DOUBT (R307). -/
structure TakenOver where
  sender : W64
  receiver : W64
  xid : Nat
  phase : Fin 3
  count : Nat
  deadline : Nat
  deriving DecidableEq, Repr

/-- Tokens waiting out the release delay (R290). -/
structure Cooling where
  phase : Fin 3
  count : Nat
  untilTick : Tick
  deriving DecidableEq, Repr

/-- What the node keeps of its tokens in MRAM, in three copies (R297). -/
structure Tokens where
  /-- R286: SPARE. [S] -/
  spare : Vector Nat 3 := Vector.replicate 3 0
  /-- R286, R289: tokens assigned to each outlet on each site phase. [S] -/
  assigned : Vector (Vector Nat 3) 8 := Vector.replicate 8 (Vector.replicate 3 0)
  /-- R286, R290: tokens that cool. [S] -/
  cooling : List Cooling := []
  /-- R297: open outgoing transfers, at most 8. [S] -/
  xfers : List OutXfer := []
  /-- R307: transfers taken over. [H] -/
  taken : List TakenOver := []
  /-- R298: receiver records, at most 256. [S] -/
  recs : List RecvRec := []
  /-- R294: BKB_DOMAIN under which the tokens are held. [K] -/
  domain : W32 := 0
  /-- R288: domain budget and its edition. [K] -/
  budget : Vector Nat 3 := Vector.replicate 3 0
  budgetEd : W32 := 0
  /-- R306: amount owed per phase, on the coordinator. [H] -/
  owed : Vector Nat 3 := Vector.replicate 3 0
  /-- R297: LEDGER_DOUBT stands: the holdings are still to be taken back. [K] -/
  lost : Bool := false
  deriving DecidableEq, Repr

/-- State of a ledger slot, numbered 0 to 3 in SCT_LEDGER_READ (R310). -/
inductive SlotState where
  | free | present | absent | retiring
  deriving DecidableEq, Repr

/-- A ledger entry (R300). -/
structure LedgerEntry where
  serial : W64 := 0
  state : SlotState := .free
  lastDfn : Nat := 0
  lastTick : Tick := 0
  held : Vector Nat 3 := Vector.replicate 3 0
  transit : Vector Nat 3 := Vector.replicate 3 0
  doubt : Vector Nat 3 := Vector.replicate 3 0
  xfers : List XferRep := []
  wants : List WantRep := []
  senders : List W64 := []
  /-- R303: polls that have named senders. -/
  relAt : Nat := 0
  target : Vector Nat 3 := Vector.replicate 3 0
  deriving DecidableEq, Repr

/-- An answer that the coordinator knows for a transfer (R301, R307): true is committed. -/
structure Verdict where
  sender : W64
  xid : Nat
  committed : Bool
  /-- Decided at the retirement of the receiver, so kept as the receiver's answer. -/
  kept : Bool := false
  deriving DecidableEq, Repr

/-- A retirement in progress (R307). -/
structure Retiring where
  slot : Fin 64
  /-- The SCT_RETIREs that asked for it, each with the tick of its dispatch. -/
  flights : List (Nat × Tick)
  /-- Transfers of the member not yet answered. -/
  asking : List XferRep
  /-- COUNT per phase of those answered not committed. -/
  back : Vector Nat 3 := Vector.replicate 3 0
  deriving DecidableEq, Repr

/-- Site current sharing. -/
structure Sct where
  /-- R309: MODE (true is domain), CAP_STOP_S and XFER_EXP, kept. [S] -/
  domainMode : Bool := false
  capStopS : Nat := 0
  xferExp : Nat := 50
  /-- SCT_STATUS.CFG_REJECT. [S] -/
  cfgReject : Bool := false
  /-- R309: SCT_LOCALp, kept. [S] -/
  localTok : Vector Nat 3 := Vector.replicate 3 0
  /-- R297: the working counts, transfers and records. [S] -/
  tok : Tokens := {}
  /-- R296: next XID, from its own counter in MRAM, 1 at manufacture. [S] -/
  nextXid : Nat := 1
  /-- R297: commit sequence and the three copies in MRAM, and the state before the last commit. [K] -/
  seq : Nat := 0
  copies : Vector (Copy (Nat × Tokens)) 3 := Vector.replicate 3 { image := (0, {}) }
  prev : Nat × Tokens := (0, {})
  /-- SCT_STATUS.ROLE as 3 where the node has been refused. [H] -/
  refused : Bool := false
  /-- R295: tick at which a refused node asks again. [H] -/
  askAt : Option Tick := none
  /-- R309: SCT_ASSIGNn has been restored since level 0. [H] -/
  assignUp : Bool := false
  /-- SCT_STATUS.LEDGER_DOUBT. [S] -/
  ledgerDoubt : Bool := false
  /-- R302: last digest, taken or sent, kept. [K] -/
  digest : Option Digest := none
  /-- R297: HELD of the node's own last report, kept. [K] -/
  ownHeld : Vector Nat 3 := Vector.replicate 3 0
  /-- R304, R305: own target per phase, as the coordinator computed it or a MOVE made it known. [H] -/
  target : Vector (Option Nat) 3 := Vector.replicate 3 none
  /-- R300: the coordinator's ledger. [H] -/
  ledger : Vector LedgerEntry 64 := Vector.replicate 64 {}
  /-- R301: answers known. [H] -/
  verdicts : List Verdict := []
  /-- R303: highest XID relayed per sender. [H] -/
  relayed : List (W64 × Nat) := []
  /-- R307: ACKs relayed, as sender and XID. [H] -/
  ackRelayed : List (W64 × Nat) := []
  /-- R307: retirements in progress. [H] -/
  retiring : List Retiring := []
  /-- R307: serials that have been retired and not told so yet. [H] -/
  retired : List W64 := []
  /-- R306, R310: SCT_BUDGET_SET descriptors that wait: descriptor, edition, target, tick. [H] -/
  budgetWait : List (Nat × W32 × List Nat × Tick) := []
  /-- R306: a reduction is owed and SCT_BUDGET is still to be posted. [H] -/
  budgetOpen : Bool := false
  /-- R292: tick since which I_tok of an outlet has been below 60. [H] -/
  capSince : Vector (Option Tick) 8 := Vector.replicate 8 none
  /-- R291: highest phase cycle RMS in 0.1 A per second of the last 60 s, newest first. [H] -/
  peaks : Vector (List Nat) 8 := Vector.replicate 8 []
  /-- R304: order of entry into AUTHORISING. [H] -/
  authTick : Vector Tick 8 := Vector.replicate 8 0
  deriving DecidableEq, Repr

/-- A notch (R336). -/
structure Notch where
  /-- BKB_NOTCHk.FIRST and LAST, kept. [K] -/
  first : Nat := 0
  last : Nat := 0
  /-- BKB_NOTCHk.EN, kept. [S] -/
  en : Bool := false
  deriving DecidableEq, Repr

/-- A route of the atlas (R325). -/
structure Route where
  relays : List (Fin 64) := []
  cost : Nat := 0
  /-- R325: consecutive exchanges that failed, and the tick until which the route is marked failed. -/
  fails : Nat := 0
  failedUntil : Option Tick := none
  deriving DecidableEq, Repr

/-- The poll in progress (R322, R323). -/
structure Poll where
  slot : Fin 64
  relays : List (Fin 64)
  /-- Frames of the exchange still to come, and retries made. -/
  left : Nat
  retries : Nat := 0
  /-- R323: the next frame asks for the response again. -/
  retry : Bool := false
  deriving DecidableEq, Repr

/-- A firmware relay (R327). -/
structure Relay where
  imageId : W32
  pieces : Nat
  /-- R405: the image slot that is the source. -/
  slot : Fin 2 := 0
  /-- R327: the piece that goes out next. -/
  next : Nat := 0
  /-- Pieces that members lack, none where a member has not armed reception of the image. -/
  lacking : List (Fin 64 × Option Nat) := []
  deriving DecidableEq, Repr

/-- A node's path to a domain (R318). -/
inductive JoinState where
  | off | listening (since : Tick) | asking | joined
  deriving DecidableEq, Repr

/-- What a node of the backbone sends in a frame (R317). -/
inductive BkbOut where
  | header (h : Header) (carriers : List Bool) | sounding | joinRequest (serial : W64) (count : W32) (delay : Nat)
  | joinAnswer (serial : W64) (r : JoinReply) | tok (mtype : Nat) (m : TokMsg) | report (r : Report)
  | digest (d : Digest) (rel : List Release) | survey (links : List LinkRep) | arq (missed : List Nat)
  | piece (imageId : W32) (idx : Nat) (data : List Byte) | envelope (e : Envelope)
  | fragment (part count : Nat) (data : List Byte) | segment (codewords fill : Nat)
  | budget (target : List Nat) (edition : W32) | lacking (n : Nat) | relayed (down : Bool) (target : Byte) (data : List Byte)
  deriving DecidableEq, Repr

/-- A symbol of the D stream that a node holds: its stream position, whether it was erased, and whether its other bits are free of errors
(R314, R315). -/
structure DSym where
  pos : Nat
  erased : Bool
  clean : Bool
  deriving DecidableEq, Repr

/-- The Warik backbone. -/
structure Bkb where
  /-- R336: BKB_CFG.EN and COORD_EN, kept. [S] -/
  en : Bool := false
  coordEn : Bool := true
  /-- R336: DEPTH, RATE and RELAY_SHARE, kept. [S] -/
  depth : Nat := 1
  rate : Nat := 1
  relayShare : Nat := 4
  /-- R336: DEPTH and RATE in force on the coordinator. [H] -/
  depthNow : Nat := 1
  rateNow : Nat := 1
  /-- R336: BKB_DOMAIN, kept. [S] -/
  domain : W32 := 0
  /-- BKB_STATUS.CFG_REJECT. [S] -/
  cfgReject : Bool := false
  /-- BKB_STATUS.ROLE: 0 not joined, 1 member, 2 coordinator, 3 refused or stopped. [S] -/
  role : Nat := 0
  /-- BKB_STATUS.GW. [S] -/
  gw : Bool := false
  /-- BKB_STATUS.SLOT. [S] -/
  slot : Fin 64 := 0
  /-- BKB_STATUS.POLL_FRAMES. [S] -/
  pollFrames : Nat := 0
  /-- R336: DFN of the last poll of this node. [H] -/
  lastPoll : Option Nat := none
  /-- R320: local frame count, BKB_DFN. [S] -/
  dfn : Nat := 0
  /-- R320: last DFN accepted as a member. [H] -/
  lastDfn : Option Nat := none
  /-- R315, R320: tick at which the running frame began. [H] -/
  frameTick : Tick := 0
  /-- R318: path to a domain. [H] -/
  join : JoinState := .off
  /-- R318, R321: tick of the last valid header of the domain. [H] -/
  headerTick : Tick := 0
  /-- R319: serial of the coordinator. [S] -/
  coord : W64 := 0
  /-- R319: position in the run of 64 frames in which a coordinator stays silent. [H] -/
  silentAt : Nat := 0
  /-- R336: BKB_NOTCHk, kept; in force from the next frame. [K] -/
  notch : Vector Notch 16 := Vector.replicate 16 {}
  notchNow : Vector Notch 16 := Vector.replicate 16 {}
  /-- R322: slot polled last and the poll in progress. [H] -/
  lastSlot : Fin 64 := 0
  poll : Option Poll := none
  /-- R322: tick of the last second's poll of absent members, those still due, and the last poll was of one. [H] -/
  absentTick : Tick := 0
  absentDue : List (Fin 64) := []
  lastAbsent : Bool := false
  /-- R324: slot that sounded last. [H] -/
  lastSound : Fin 64 := 0
  /-- R324: tone maps the node has formed: peer slot, bits per carrier. [H] -/
  maps : List (Fin 64 × List Nat) := []
  /-- R324, R325: links reported to the coordinator. [H] -/
  links : List LinkRep := []
  /-- R325: tone map of D, empty before the first survey. [H] -/
  dMap : List Nat := []
  /-- R325: atlas, up to 4 routes per slot. [H] -/
  atlas : Vector (List Route) 64 := Vector.replicate 64 []
  /-- R322: token messages that wait for the poll of each slot, with their MTYPE. [H] -/
  down : List (Fin 64 × TokMsg × Nat) := []
  /-- R317: containers that wait for space in D, with their SLOT. [H] -/
  dQueue : List (Byte × BkbOut) := []
  /-- R323: those that D has carried to a member, with the DFN of their frame, until their blocks are reported. [H] -/
  sent : List (Nat × Byte × BkbOut) := []
  /-- R323: containers that the next poll of a member repeats. [H] -/
  again : List (Fin 64 × BkbOut) := []
  /-- R317: messages waiting for the node's next response, as MTYPE and body. [H] -/
  up : List (Nat × TokMsg) := []
  /-- R315: D symbols of blocks that are not complete. [H] -/
  dSyms : List DSym := []
  /-- R323: stream position up to which the D blocks have been settled. [H] -/
  dPos : Option Nat := none
  /-- R322: DFN, U_ROLE and TARGET of the last header accepted. [H] -/
  lastU : Option (Nat × Nat × Byte) := none
  /-- R323: stream positions of the D blocks that the node could not decode since its last response. [H] -/
  missed : List Nat := []
  /-- R327: relay of an image from this node, and pieces from other sources that wait for D. [H] -/
  relay : Option Relay := none
  pieces : List (W32 × Nat × List Byte) := []
  /-- R327: run of 16 frames, and pieces put into D in it. [H] -/
  pieceRun : Nat × Nat := (0, 0)
  /-- R323: the node's last response, which RETRY repeats. [H] -/
  lastResp : List BkbOut := []
  /-- BKB_ETH_CFG.PHYAD, VLAN_EN and TXDLY, kept. [S] -/
  phyad : BitVec 5 := 0
  vlanEn : Bool := false
  txdly : Bool := false
  /-- BKB_ETH_CFG.VID, kept. [K] -/
  vid : Nat := 1
  /-- BKB_ETH_CFG.SPEED, 3 is no link. [S] -/
  speed : Nat := 3
  deriving DecidableEq, Repr

/-- An outbound envelope not yet acknowledged (R330). -/
structure OutEnv where
  seq : Nat
  payload : List Byte
  sentTick : Option Tick := none
  deriving DecidableEq, Repr

/-- An inbound envelope that waits for BKB_UPL_RECV (R330). -/
structure InEnv where
  seq : Nat
  payload : List Byte
  path : Nat
  deriving DecidableEq, Repr

/-- A drill in progress (R335). -/
structure Drill where
  flight : Nat
  /-- PARAM[16] of BKB_UPL_SWITCH. -/
  mode : Nat
  start : Tick
  /-- 0 hinging out, 1 waiting for the gateway, 2 hinging back. -/
  step : Nat := 0
  passed : Bool := false
  deriving DecidableEq, Repr

/-- The uplink (R328 to R335). Its context stands in the MSD mirror of R332, so a COD reset leaves it. -/
structure Upl where
  /-- BKB_UPL_CFG.EN, MODE (true is dual-send) and PREFER (true is B), kept. [S] -/
  en : Bool := false
  dual : Bool := false
  preferB : Bool := false
  /-- BKB_UPL_STATUS.ACTIVE (true is B), A_OK and B_OK. [S] -/
  activeB : Bool := false
  aOk : Bool := false
  bOk : Bool := false
  /-- BKB_UPL_STATUS.CFG_REJECT. [S] -/
  cfgReject : Bool := false
  /-- R336: the fields of BKB_UPL_STATUS have been rebuilt since the last reset that reaches COD. [H] -/
  shown : Bool := false
  /-- BKB_UPL_STATUS.HINGES, kept, saturating. [K] -/
  hinges : Nat := 0
  /-- BKB_UPL_GW, kept. [K] -/
  gw : W48 := 0
  /-- R329: EPOCH, level-0 start count modulo 65,536, kept. [K] -/
  epoch : W16 := 0
  /-- R329: next SEQ outbound. [S] -/
  nextSeq : Nat := 1
  /-- R330: outbound envelopes not yet acknowledged, oldest first, at most 64. [S] -/
  out : List OutEnv := []
  /-- R330: highest SEQ up to which every inbound envelope has been received, and those above it. [S] -/
  inAck : Nat := 0
  inAhead : List Nat := []
  /-- R329: EPOCH last accepted from the gateway. [H] -/
  inEpoch : Option W16 := none
  /-- R330: inbound queue, oldest first, at most 64. [S] -/
  inbound : List InEnv := []
  /-- R337: waiting BKB_UPL_RECV descriptors with their deadlines. [H] -/
  waits : List (Nat × Tick) := []
  /-- R330: data from the gateway has not been acknowledged since this tick; tick of the last acknowledgement. [H] -/
  ackOwed : Option Tick := none
  ackTick : Tick := 0
  /-- R330: path on which the gateway was last heard. [H] -/
  heardB : Bool := false
  /-- R331: tick of the last envelope from the gateway on A and B. [H] -/
  lastA : Tick := 0
  lastB : Tick := 0
  /-- R332: hinge in progress: tick d, the path it moves to (true is B) and the condition. [H] -/
  hinge : Option (Tick × Bool × Nat) := none
  /-- R333: the new path waits for its proof until this tick; paths are tried in turn. [H] -/
  proveBy : Option Tick := none
  trying : Option Tick := none
  /-- R335: drill in progress. [S] -/
  drill : Option Drill := none
  /-- R332: envelopes that leave on path B at the node's next poll. [H] -/
  bQueue : List Envelope := []
  deriving DecidableEq, Repr

end Sys2Proof.Machine
end

