-- ==== Sys2Proof/Machine/StateIo.lean ====
section
/-! DEFINITION. State blocks of the card reader, the service tag, the display, the lamps and the
load switches.

The letters at the end of a field's text are those of StateHost. A table with an index (list entries,
tag pages, image pieces, memory words) is a list of index and value, indexes strictly rising, in which
no entry has the value that an unlisted index reads as. -/

namespace Sys2Proof.Machine

/-- An entry of the authorisation list (R344). -/
structure ListEntry where
  ktype : Nat := 0
  pinned : Bool := false
  klen : Nat := 0
  /-- KEY, 16 bytes. -/
  key : List Byte := []
  authRef : W64 := 0
  limit : Nat := 0
  expiry : Nat := 0
  deriving DecidableEq, Repr

/-- The card reader and the authorisation list. -/
structure Nfc where
  /-- R357: PING_MS, THRESH, EN, EN_A, EN_B, EN_V, LEARN and MAXRATE, kept. [S] -/
  pingMs : Nat := 250
  thresh : Nat := 4
  en : Bool := true
  enA : Bool := true
  enB : Bool := true
  enV : Bool := true
  learn : Bool := false
  maxRate : Nat := 3
  /-- R357: an accepted NFC_CFG write that takes effect at the next ping. [H] -/
  pendCfg : Option W32 := none
  /-- NFC_STATUS.CFG_REJECT. [S] -/
  cfgReject : Bool := false
  /-- R339: amplitudes of the last 8 pings that triggered no poll, newest first. [H] -/
  pings : List Nat := []
  /-- R339: baseline set by three polls that found nothing, until 8 new pings replace it. [H] -/
  misses : Nat := 0
  /-- R340: consecutive pings within THRESH since the last report, and a report is outstanding. [H] -/
  calm : Nat := 0
  reported : Bool := false
  /-- R339: tick of the last ping. [H] -/
  pingTick : Option Tick := none
  /-- R343: an ISO-DEP card is held in the field until this tick. [S] -/
  heldUntil : Option Tick := none
  /-- R341: bit rate agreed with the held card, coded as MAXRATE. [H] -/
  rate : Nat := 0
  /-- R343: exchange in progress: descriptor and tick of its start. [H] -/
  exchange : Option (Nat × Tick) := none
  /-- R344: the list, by index. [S] -/
  entries : List (Nat × ListEntry) := []
  /-- R346: indexes in use, most recently used first. [S] -/
  recency : List Nat := []
  /-- R347: recency order as saved in MRAM, and the tick of the save. [K] -/
  saved : List Nat := []
  saveTick : Tick := 0
  deriving DecidableEq, Repr

/-- A page of the tag's memory (R355): two copies, the pointer and the commit flag. -/
structure Page where
  a : List Byte := List.replicate 16 0
  b : List Byte := List.replicate 16 0
  /-- The valid copy is b. -/
  ptrB : Bool := false
  /-- Commit flag, naming the copy b (true) or a; none while clear or with a failing CRC. -/
  flag : Option Bool := none
  deriving DecidableEq, Repr

/-- An area 1 to 3 of the tag with password (R350, R353), in the tag's own memory. -/
structure TagArea where
  /-- NFC_TAG_CFG LIMITk, RPk and WPk, kept. [S] -/
  limit : Nat := 5
  rp : Bool := false
  wp : Bool := true
  /-- R357: password, kept. [S] -/
  password : W32 := 0
  /-- R353: tumbler, kept. [K] -/
  tumbler : Nat := 0
  /-- R353: locked out, kept. [K] -/
  locked : Bool := false
  /-- R352: open to the field. [S] -/
  isOpen : Bool := false
  deriving DecidableEq, Repr

/-- What a host descriptor writes into the tag's memory in one pass of the steps of R355: a page, an area's settings, or the end of lockouts. -/
inductive TagWrite where
  | page (p : Nat) (bytes : List Byte) | area (k limit : Nat) (rp wp : Bool) (password : W32) (fdEn : Bool) | unlock (mask : Nat)
  deriving DecidableEq, Repr

/-- A host descriptor that writes into the tag's memory (R355, R356). -/
structure TagJob where
  flight : Nat
  /-- Writes still to do; the first one is under way, in the given step. -/
  todo : List TagWrite
  step : Nat := 2
  /-- Writes done. -/
  written : Nat := 0
  deriving DecidableEq, Repr

/-- The service tag (R350 to R356); its memory needs no supply. -/
structure Tag where
  /-- R355: pages of the tag, by number. [K] -/
  pages : List (Nat × Page) := []
  /-- R350: areas 1 to 3. [S] -/
  area : Vector TagArea 3 := Vector.replicate 3 {}
  /-- NFC_TAG_CFG.FD_EN, kept. [S] -/
  fdEn : Bool := true
  /-- R355: the copy of the area settings and FD_EN that is not valid, and the commit flag that names it. [K] -/
  other : Vector TagArea 3 × Bool := (Vector.replicate 3 {}, true)
  setFlag : Bool := false
  /-- R356: host descriptors that write, oldest first; a write that a reset or the loss of supply has cut, with its step. [H] -/
  jobs : List TagJob := []
  cut : Option (TagWrite × Nat) := none
  /-- R356: pages that the field holds: tick of its command, first page and count. [H] -/
  hold : Option (Tick × Nat × Nat) := none
  /-- R354: FD_OUT is still to be driven low, 1 ms after the field was detected. [H] -/
  onDue : Bool := false
  /-- NFC_TAG_STATUS.FIELD, with the tick of its last change. [S] -/
  field : Bool := false
  fieldTick : Tick := 0
  /-- R354: FD_OUT is driven low. [S] -/
  fd : Bool := false
  /-- R352: quiet and selected states of ISO/IEC 15693. [H] -/
  quiet : Bool := false
  selected : Bool := false
  /-- R354: the field has collapsed and FD_OUT is still to be released. [H] -/
  offDue : Bool := false
  /-- R351: tick of the last status record, and GEN_REPLACE and SAF_CHECK it carried. [H] -/
  statusTick : Option Tick := none
  statusOf : BitVec 9 × W32 := (0, 0)
  deriving DecidableEq, Repr

/-- A waveform band entry (R361). -/
structure Wave where
  vh : Nat
  th : Nat
  vp : Nat
  vf : Nat
  ts : Nat
  te : Nat
  fdrive : Nat
  deriving DecidableEq, Repr

/-- Phases of a display update (R362) and the discharge (R364). -/
inductive LcdPhase where
  | reset | select (i : Nat) | settle
  deriving DecidableEq, Repr

/-- What drives the lines of the panel: a reset of some commons at VH, the selection of one common with its segment lines at VP or VF, every line
at 0 V, ground through the discharge path, or nothing. Voltages in 0.1 V, with the drive frequency in Hz (R362, R364). -/
inductive LcdDrive where
  | reset (commons : List Nat) (vh fdrive : Nat) | select (common : Nat) (on : BitVec 64) (vp vf fdrive : Nat)
  | zero | ground | highZ
  deriving DecidableEq, Repr

/-- What an update is for: a draw, or one of the two updates of the redraw (R365). -/
inductive LcdWhy where
  | draw | allOff | redraw
  deriving DecidableEq, Repr

/-- A running update (R362). -/
structure LcdUpdate where
  image : BitVec 256
  why : LcdWhy := .draw
  full : Bool
  flight : Option Nat
  band : Nat
  /-- R361: the band's entry as it stood when the update began. -/
  wave : Wave
  /-- R362: commons rewritten, ascending. -/
  commons : List Nat
  phase : LcdPhase := .reset
  start : Tick
  phaseEnd : Tick
  deriving DecidableEq, Repr

/-- A pending image (R363). -/
structure LcdPending where
  image : BitVec 256
  full : Bool
  flight : Option Nat
  deriving DecidableEq, Repr

/-- The display. -/
structure Lcd where
  /-- LCD_CFG.EN, CRACK_EN and TOFS, kept. [S] -/
  en : Bool := true
  crackEn : Bool := false
  tofs : Int := 0
  /-- LCD_STATUS.CFG_REJECT. [S] -/
  cfgReject : Bool := false
  /-- R359: legend, kept; byte s is s as shipped. [S] -/
  legend : Vector Byte 256 := Vector.ofFn fun s => BitVec.ofNat 8 s.val
  /-- R359: the next update is a full one. [K] -/
  newLegend : Bool := false
  /-- R361: waveform tables, kept. [S] -/
  wave : Vector Wave 6 := #v[⟨380, 400, 240, 140, 250, 300, 100⟩, ⟨360, 160, 220, 130, 100, 120, 200⟩,
    ⟨340, 80, 200, 120, 50, 60, 400⟩, ⟨320, 50, 190, 110, 30, 40, 500⟩,
    ⟨300, 40, 180, 100, 24, 30, 500⟩, ⟨280, 30, 170, 90, 20, 24, 500⟩]
  /-- R363: last image stored, logical, kept. [K] -/
  stored : BitVec 256 := 0
  /-- R362: physical image shown on the panel, kept by the panel itself. [K] -/
  shown : BitVec 256 := 0
  /-- R365: update-open mark, kept. [K] -/
  mark : Bool := false
  /-- R362: the running update. [S] -/
  upd : Option LcdUpdate := none
  /-- R363: the pending image. [S] -/
  pend : Option LcdPending := none
  /-- R363: the image whose update starts at the next tick edge. [H] -/
  next : Option LcdPending := none
  /-- R362, R364: what drives the lines. [S] -/
  drive : LcdDrive := .highZ
  /-- LCD_STATUS.INDET. [S] -/
  indet : Bool := false
  /-- R360: band latched by the last update; none before the first after a level-0 start. [S] -/
  band : Option Nat := none
  /-- LCD_STATUS.BAND. [S] -/
  bandRead : Nat := 0
  /-- R364: no further phase starts; the discharge runs until this tick. [H] -/
  stopping : Bool := false
  discharge : Option Tick := none
  /-- LCD_STATUS.CRACK, and consecutive failed and passed checks. [S] -/
  crack : Bool := false
  crackBad : Nat := 0
  crackGood : Nat := 0
  /-- R366: tick of the last check. [H] -/
  crackTick : Option Tick := none
  deriving DecidableEq, Repr

/-- One status lamp (R369); dark until its first LMP_SET. -/
structure Lamp where
  isSet : Bool := false
  c1 : Vector Nat 3 := Vector.replicate 3 0
  c2 : Vector Nat 3 := Vector.replicate 3 0
  on : Nat := 0
  off : Nat := 0
  /-- The lamp shows its second colour, since this tick. -/
  second : Bool := false
  since : Tick := 0
  deriving DecidableEq, Repr

/-- The lamps. -/
structure Lmp where
  /-- LMP_CFG.FS_R, FS_G and FS_B, kept. [S] -/
  fs : Vector Nat 3 := Vector.replicate 3 7
  /-- R368: gamma tables, kept; g[k] = 65 k as shipped. [S] -/
  gamma : Vector (Vector Nat 64) 3 := Vector.replicate 3 (Vector.ofFn fun k => 65 * k.val)
  /-- R369: the lamps. [S] -/
  lamp : Vector Lamp 8 := Vector.replicate 8 {}
  /-- R369: settings that take effect at the next PWM period. [H] -/
  pend : Vector (Option Lamp) 8 := Vector.replicate 8 none
  /-- R367, R370: full scale and drive value of each sink in its running PWM period. [S] -/
  sink : Vector (Nat × Nat) 24 := Vector.replicate 24 (0, 0)
  deriving DecidableEq, Repr

/-- Modes of a load-switch channel (R375). -/
inductive LswMode where
  | off | high | low | follow | followInv | pushPull
  deriving DecidableEq, Repr

/-- One load-switch channel. -/
structure Channel where
  /-- LSW_CHCFGk, kept. [S] -/
  ilim : Nat := 8
  slew : Nat := 5
  blank : Nat := 2
  olTh : Nat := 0
  retryMax : Nat := 3
  retryDly : Nat := 9
  /-- R388: an accepted write that takes effect at the next tick edge. [H] -/
  pendCfg : Option W32 := none
  /-- LSW_STATk.MODE and INPUT. [S] -/
  mode : LswMode := .off
  input : Fin 4 := 0
  /-- R375: mode, input and descriptors that take effect at the next tick edge. [H] -/
  pendMode : Option (LswMode × Fin 4 × List Nat) := none
  /-- R376: tick of the last change of mode. [H] -/
  modeTick : Option Tick := none
  /-- LSW_STATk.LIMIT. [S] -/
  limit : Bool := false
  /-- LSW_STATk.OC_LATCH. [S] -/
  oc : Bool := false
  /-- LSW_STATk.TH_LATCH. [S] -/
  th : Bool := false
  /-- LSW_STATk.OPEN. [S] -/
  openLoad : Bool := false
  /-- LSW_STATk.FOLDED. [S] -/
  folded : Bool := false
  /-- LSW_STATk.RETRIES. [S] -/
  retries : Nat := 0
  /-- LSW_STATk.CURRENT. [S] -/
  current : Nat := 0
  /-- R384: consecutive measurements below and at or above OL_TH. [H] -/
  lowRun : Nat := 0
  highRun : Nat := 0
  /-- R379: off after an overcurrent, to be turned on again at this tick. [H] -/
  retryAt : Option Tick := none
  /-- R379: tick since which the channel has been on without being in limit outside blanking. [H] -/
  onSince : Option Tick := none
  /-- R379: end of the blanking in progress. [H] -/
  blankEnd : Tick := 0
  /-- R381: hot spot as last measured, °C. [H] -/
  hot : Int := 0
  /-- R386: turned off by a dip of VAUX and not yet restored. [H] -/
  dipped : Bool := false
  /-- R387: OC_LATCH, TH_LATCH, FOLDED and OPEN when the LSW function was last ready. [H] -/
  seen : Bool × Bool × Bool × Bool := (false, false, false, false)
  deriving DecidableEq, Repr

/-- One PWM input (R377). -/
structure PwmIn where
  high : Bool := false
  /-- Times in µs of the last rising edges, newest first. -/
  edges : List Nat := []
  /-- Time in µs of an edge that is not yet known to last 2 µs; the filtered level is still `high`. -/
  edgeAt : Option Nat := none
  /-- LSW_STATUS.PWM_FAST. [S] -/
  fast : Bool := false
  /-- Time in µs of the last window with more than 4 rising edges. -/
  fastUs : Nat := 0
  deriving DecidableEq, Repr

/-- The load switches. -/
structure Lsw where
  /-- R372: the channels. [S] -/
  ch : Vector Channel 24 := Vector.replicate 24 {}
  /-- R377: PWM inputs. [S] -/
  pwm : Vector PwmIn 4 := Vector.replicate 4 {}
  /-- LSW_TEMPg.TEMP, 1/16 °C. [S] -/
  temp : Vector Int 4 := Vector.replicate 4 0
  /-- R383: folded channels of each group, last folded first, with the tick of the last move. [S] -/
  folds : Vector (List (Fin 24)) 4 := Vector.replicate 4 []
  foldTick : Vector (Option Tick) 4 := Vector.replicate 4 none
  /-- LSW_STATUS.UV and OV. [S] -/
  uv : Bool := false
  ov : Bool := false
  /-- LSW_STATUS.CFG_REJECT. [S] -/
  cfgReject : Bool := false
  /-- R387: the LSW bit has not set since the last reset, so `seen` stands until it does. [H] -/
  owed : Bool := true
  /-- R385: VAUX as last measured, 0.1 V. [H] -/
  vaux : Nat := 240
  deriving DecidableEq, Repr

end Sys2Proof.Machine
end

