-- ==== Sys2Proof/Machine/StateCore.lean ====
section
/-! DEFINITION. State blocks of the key engine, of updates, and of the memories with their port.

The letters at the end of a field's text are those of StateHost. -/

namespace Sys2Proof.Machine

/-- Key types of R393, in the order of their numbers. -/
inductive KeyType where
  | empty | pair | pub | aes128 | aes256 | hmac
  deriving DecidableEq, Repr

/-- The content of a key slot's record (R393, R396). -/
structure KeyRec where
  /-- KEY_ATTRk.TYPE. [S] -/
  type : KeyType := .empty
  /-- KEY_ATTRk.USAGE. [S] -/
  usage : BitVec 5 := 0
  /-- KEY_ATTRk.ORIGIN. [S] -/
  origin : Nat := 0
  /-- KEY_ATTRk.VOLATILE. [S] -/
  volatile : Bool := false
  /-- KEY_ATTRk.LOCKED. [S] -/
  locked : Bool := false
  /-- KEY_ATTRk.RETIRED. [S] -/
  retired : Bool := false
  /-- R396: the key, in the engine only: private key or secret, big-endian. [F] -/
  secret : List Byte := []
  /-- R402: public key, SEC 1 uncompressed. [F] -/
  pub : List Byte := []
  /-- R396: generation. [K] -/
  gen : Nat := 0
  /-- R396: the root from which the key that wraps the copies is derived; the tag of a copy verifies under no other. [K] -/
  under : BitVec 256 := 0
  deriving DecidableEq, Repr

/-- What enrolment wrote (R390): the cells to which each block's code offset decodes, and the check value, held as the root that it
belongs to (log 188). -/
structure Helper where
  cells : BitVec 2048 := 0
  check : BitVec 256 := 0
  deriving DecidableEq, Repr

/-- Root of a part whose enrolled cells are all 0: SHA-256 of 256 zero bytes (log 188). -/
def shippedRoot : BitVec 256 := 0x5341e6b2646979a70e57653007a1f310169421ec9bdd9f1a5648f75ade005af1

/-- A key slot: the working record and its three wrapped copies (R396). -/
structure KeySlot where
  rec_ : KeyRec := {}
  copies : Vector (Copy KeyRec) 3 := Vector.replicate 3 { image := {} }
  prev : KeyRec := {}
  /-- KEY_ATTRk.UNUSABLE. [S] -/
  unusable : Bool := false
  deriving DecidableEq, Repr

/-- What a long operation computes (R400); its operands are those of its requester. -/
inductive OpKind where
  | sign | verify | ecdh | generate | hash | hmac | gcm | prn | unseal | topup | tls | boot
  deriving DecidableEq, Repr

/-- A long operation (R56). -/
structure LongOp where
  kind : OpKind
  steps : Nat
  req : Requester
  /-- Tick of the request. -/
  tick : Tick
  /-- Key slots it uses, for R398 and R399. -/
  slots : List (Fin 32)
  /-- R57, R398: dropped at the next step boundary. -/
  dropped : Bool := false
  /-- R56: tick of the last step, once it has run. -/
  doneAt : Option Tick := none
  deriving DecidableEq, Repr

/-- The key engine. -/
structure Key where
  /-- R393: the 32 slots; slot 0 is the meter key as shipped, its numbers are the model's. [S] -/
  slot : Vector KeySlot 32 := Vector.ofFn fun k =>
    if k.val = 0 then
      let r : KeyRec := { type := .pair, usage := 1, origin := 0, locked := true, under := shippedRoot,
                          secret := beBytes 32 1,
                          pub := 4 :: beBytes 64 0x6B17D1F2E12C4247F8BCE6E563A440F277037D812DEB33A0F4A13945D898C2964FE342E2FE1A7F9B8EE7EB4A7C0F9E162BCE33576B315ECECBB6406837BF51F5 }
      { rec_ := r, copies := Vector.replicate 3 { image := r }, prev := r }
    else {}
  /-- R400: long operations waiting or running, oldest first, at most 32. [S] -/
  queue : List LongOp := []
  /-- R56: operations whose last step has run, to be delivered. [H] -/
  done : List LongOp := []
  /-- KEY_STATUS.ROOT_FAIL. [S] -/
  rootFail : Bool := false
  /-- KEY_STATUS.RNG_FAIL. [S] -/
  rngFail : Bool := false
  /-- KEY_PUF.ROOT_ERR. [S] -/
  rootErr : Nat := 0
  /-- KEY_PUF.MON_ERR. [S] -/
  monErr : Nat := 0
  /-- KEY_PUF.MON_RUN. [S] -/
  monRun : Nat := 0
  /-- R392: tick at which the monitor bank was powered down. [H] -/
  monDown : Option Tick := none
  /-- R390: the 256-bit root, since the last start that rebuilt it. [H] -/
  root : BitVec 256 := 0
  /-- R390: the three copies of helper data and check value. [K] -/
  helper : Vector (Copy Helper) 3 := Vector.replicate 3 { image := { cells := 0, check := shippedRoot } }
  deriving DecidableEq, Repr

/-- What MRAM holds of an image slot (R403, R405). -/
structure ImageSlot where
  imageId : W32 := 0
  pieces : Nat := 0
  sources : BitVec 2 := 0
  bitmap : BitVec 5120 := 0
  /-- The image was loaded piece by piece since manufacture, so that the MRAM holds its bytes. [K] -/
  loaded : Bool := false
  /-- R413: settings format of the image's header. [K] -/
  sfmt : Nat := 0
  deriving DecidableEq, Repr

/-- Kept fields of the APD and COD functions (R413). -/
structure Settings where
  vlkCfg : BitVec 7
  slacWaitS : Nat
  vlkTiming : Nat × Nat × Nat × Nat
  secc : List Byte
  roots : Vector (List Byte) 8
  sctCfg : Bool × Nat × Nat
  sctLocal : Vector Nat 3
  bkbCfg : Bool × Bool × Nat × Nat × Nat
  domain : W32
  notch : Vector Notch 16
  upl : Bool × Bool × Bool
  gw : W48
  eth : BitVec 5 × Bool × Bool × Nat
  nfcCfg : Nat × Nat × Nat
  nfcEn : Bool × Bool × Bool × Bool × Bool
  lcdCfg : Bool × Bool × Int
  legend : Vector Byte 256
  wave : Vector Wave 6
  lmpFs : Vector Nat 3
  gamma : Vector (Vector Nat 64) 3
  lsw : Vector (Nat × Nat × Nat × Nat × Nat × Nat) 24
  trialMin : Nat
  deriving DecidableEq, Repr

/-- The boot state of the application image (R409). -/
inductive BootMark where
  | none | pending | attempted
  deriving DecidableEq, Repr

/-- The loader's check of a slot (R409 to R411): an image that passes boots on trial, or as the confirmed one, which is a fall-back or
not; whether another slot is left to be tried; and that hash and signature have run. -/
structure BootTry where
  slot : Fin 2
  trial : Bool
  fell : Bool
  last : Bool
  hashed : Bool := false
  deriving DecidableEq, Repr

/-- Firmware update. -/
structure Upd where
  /-- R403: the two image slots in MRAM; as shipped slot 0 holds an image of one piece, whose number is the model's. [K] -/
  slot : Vector ImageSlot 2 := #v[{ imageId := 1, pieces := 1, sources := 1, bitmap := 1 }, {}]
  /-- UPD_STATUS.RUN_SLOT and CONF_SLOT, kept. [K] -/
  runSlot : Fin 2 := 0
  confSlot : Fin 2 := 0
  /-- UPD_STATUS.STATE as trial or recovery. [K] -/
  trial : Bool := false
  recovery : Bool := false
  /-- R409: a slot is pending or attempted. [K] -/
  mark : BootMark := .none
  /-- UPD_STATUS.ARMED, kept. [K] -/
  armed : Bool := false
  /-- UPD_STATUS.FALLBACK, SET_LOST and REASON, kept. [K] -/
  fallback : Bool := false
  setLost : Bool := false
  reason : Nat := 0
  /-- R412: cause of the fall-back that is to be reported once APP sets (DATA[17]), with IMAGE_ID. [K] -/
  fallCause : Option (Nat × W32) := none
  /-- R412: the trial image is to be reported once APP sets. [H] -/
  bootEvent : Bool := false
  /-- R412: tick at which APP set, from which the trial counts, and its length in minutes. [H] -/
  trialTick : Option Tick := none
  trialLen : Nat := 10
  /-- UPD_CFG.TRIAL_MIN, kept. [S] -/
  trialMin : Nat := 10
  /-- UPD_SVN.FLOOR, kept. [S] -/
  floor : W32 := 0
  /-- R412: SVN of the image on trial. [K] -/
  trialSvn : W32 := 0
  /-- R413: the confirmed slot's settings area while a trial runs. [K] -/
  area : Option Settings := none
  /-- R409: the check that the loader waits for. [H] -/
  checking : Option BootTry := none
  /-- R412: cause of the next fall-back as known when the reset was raised: 1 expiry, 3 revert. [K] -/
  fallWhy : Option Nat := none
  deriving DecidableEq, Repr

/-- A stored 64-bit word (R415): data, poison, valid, and the stored bits that differ from what was
written (0 to 63 data, 64 to 71 check, 72 poison, 73 to 75 the copies of the valid bit). -/
structure Stored where
  data : W64 := 0
  poison : Bool := false
  valid : Bool := false
  flips : List Nat := []
  deriving DecidableEq, Repr

/-- An entry of the correctable-error log (R425). -/
structure CeEntry where
  addr : Nat
  mem : Nat
  bit : Nat
  hits : Nat
  lastGtc : W48
  stuck : Bool := false
  /-- Consecutive scrub passes that corrected the word, and the last of them. -/
  passes : Nat := 0
  lastPass : Nat := 0
  deriving DecidableEq, Repr

/-- A relocation (R427): logical tile, whether it takes a spare or is an exchange, words copied. -/
structure Reloc where
  tile : Nat
  spare : Bool
  copied : Nat := 0
  deriving DecidableEq, Repr

/-- A transfer at the MRAM port (R428): what is asked, and the words moved. -/
structure PortXfer where
  who : Fin 8
  xfer : Xfer
  moved : Nat := 0
  deriving DecidableEq, Repr

/-- The memories, their protection and the port arbiter. -/
structure Mem where
  /-- R415: stored words of the MRAM, by word address; kept. [S] -/
  mram : List (Nat × Stored) := []
  /-- R415: stored words of the application SRAM. [S] -/
  app : List (Nat × Stored) := []
  /-- R415: stored words of the metrology SRAM. [S] -/
  met : List (Nat × Stored) := []
  /-- MEM_CE_COUNT, kept. [K] -/
  ceCount : Nat := 0
  /-- MEM_UE_COUNT.WORD and TILE, kept. [K] -/
  ueWord : Nat := 0
  ueTile : Nat := 0
  /-- MEM_CE_CFG.THRESH, kept. [S] -/
  thresh : Nat := 16
  /-- R423: log, oldest entry first, at most 32; kept. [S] -/
  log : List CeEntry := []
  /-- MEM_STATUS.LOG_OVF, kept. [K] -/
  logOvf : Bool := false
  /-- R424: distinct addresses corrected in the present window, memory and word. [S] -/
  window : List (Nat × Nat) := []
  /-- R424: number of the present window since GTC 0. [S] -/
  windowNo : Nat := 0
  /-- MEM_STATUS.PASSES, where it saturates. [S] -/
  passes : Nat := 0
  /-- R426: scrub cursor, in steps of 64 words through MRAM, metrology and application SRAM. [H] -/
  cursor : Nat := 0
  /-- R426: copies of records that the end of a scrubbed tile has notified their owners of, until their next windows. [H] -/
  notices : List (Owner × Fin 3) := []
  /-- R421: tiles verified since the level-0 start. [H] -/
  verified : List Nat := []
  /-- MEM_SPARE.SPARE_LEFT, kept; 128 spare tiles. [S] -/
  spareLeft : Nat := 128
  /-- R427: physical spare tiles taken into use, kept. [K] -/
  spareUsed : List Nat := []
  /-- MEM_SPARE.MOVES, kept. [K] -/
  moves : Nat := 0
  /-- R427: relocations waiting, oldest first. [S] -/
  queued : List Reloc := []
  /-- R427: relocations that waited at a level-0 reset; they wait again from MEM's ready bit on. [K] -/
  heldReloc : List Reloc := []
  /-- R427: map from logical to physical tile where they differ, kept. [K] -/
  map : List (Nat × Nat) := []
  /-- R427: write counts of physical tiles, kept. [K] -/
  writes : List (Nat × Nat) := []
  /-- ARB_FREEZE.FREEZE. [S] -/
  freeze : Bool := false
  /-- ARB_STAT.OWNER. [S] -/
  owner : Fin 8 := 0
  /-- ARB_STAT.BUSY: the transfer in progress. [S] -/
  busy : Option PortXfer := none
  /-- ARB_STAT.WAITING: transfers that wait. [S] -/
  waiting : List PortXfer := []
  /-- ARB_PRIOk.BASE, kept; 7, 6, 7 and 5 fixed, 3 as shipped. [S] -/
  base : Vector Nat 8 := #v[7, 6, 7, 5, 3, 3, 3, 3]
  /-- ARB_PRIOk.PRIO. [S] -/
  prio : Vector Nat 8 := #v[7, 6, 7, 5, 3, 3, 3, 3]
  deriving DecidableEq, Repr

end Sys2Proof.Machine
end

