-- ==== Sys2Proof/Machine/State.lean ====
section
/-! DEFINITION. The state of the A8, the reasons a step can stop, and the state after reset.

The blocks are those of StateHost, StateMeter, StateBill, StateSession, StateSite, StateIo and
StateCore; every field there names the rule that gives it and its value at reset. -/

namespace Sys2Proof.Machine

/-- Answers of the vehicle link to a V2G request, without the fields that other rules give. -/
inductive V2gRes where
  | ok | okNew | okJoined | failed | sequenceError | ongoing | finished | certError
  /-- No certificate is available (R274). -/
  | noCertificate
  deriving DecidableEq, Repr

/-- Messages of the A8 to the vehicle: the answer, with the notifications of R277 and R278, and what its fields carry (R263, R271, R275). -/
inductive V2gMsg where
  /-- SupportedAppProtocolRes: the protocol chosen, none where none is, and whether its minor version is higher than the listed one. -/
  | appProtocol (proto : Option Nat) (minorDeviation : Bool)
  | answer (r : V2gRes) (renegotiate stop : Bool)
  | sessionId (id : W64)
  /-- EVSEMaxCurrent in 0.1 A (ISO 15118-2). -/
  | maxCurrent (iV : Nat)
  /-- PMax of each period, or the power of each PowerScheduleEntry, in W. -/
  | pMax (watts : List Nat)
  /-- EVSEMaximumChargePower (Scheduled), EVSETargetActivePower (Dynamic), and discharge powers, in W (ISO 15118-20). -/
  | maxPower (watts : Nat) | targetPower (watts : Nat) | discharge (watts : List Nat)
  /-- Contract payment is offered beside EIM (R265). -/
  | contracts (offered : Bool)
  /-- AC_three_phase_core rather than AC_single_phase_core. -/
  | phases (three : Bool)
  /-- Services AC and, where it is offered, AC_BPT. -/
  | services (bpt : Bool)
  /-- ServiceDetailRes: MobilityNeedsMode, and for AC_BPT that BPTChannel is Unified and GeneratorMode GridFollowing. -/
  | service (num mobilityNeedsMode : Nat) (unified gridFollowing : Bool)
  /-- SalesTariff by ePriceLevel, and AbsolutePriceSchedule by start and price of each rule (R275). -/
  | salesTariff (rank : List Nat) | priceSchedule (currency : List Byte) (rules : List (Nat × Nat))
  /-- A certificate response of the provisioning service, behind the session's header (R275). -/
  | element (session : W64) (bytes : List Byte)
  deriving DecidableEq, Repr

/-- Frames that an outlet sends on the pilot line (R257 to R264). -/
inductive VlkOut where
  | parmCnf (runId : W64) | attenChar (runId : W64) (mean : Nat) | matchCnf (nid nmk : List Byte) | validateCnf
  /-- Neighbour solicitation of duplicate address detection for the link-local address (R260). -/
  | dad (addr : BitVec 128)
  | sdp (addr : BitVec 128) (port : Nat) (tls : Bool)
  | tcpAccept | tcpRefuse | tcpClose
  /-- The server's part of a full handshake: the SECC chain and the signature of slot 1 (R262). -/
  | tlsUp (tls13 : Bool) (chain sig : List Byte)
  /-- A V2GTP frame with its version and payload type (R261). -/
  | v2gtp (version : Byte) (ptype : PayloadType) (m : V2gMsg)
  deriving DecidableEq, Repr

/-- Answers of the service tag (R352). -/
inductive TagOut where
  | ok | data (bytes : List Byte) | info (uid : W64) (blocks : Nat) (blockLen : Nat)
  | inventory (uid : W64) | error (code : Byte)
  deriving DecidableEq, Repr

/-- What the reader does with a card beside the exchange of APDUs (R341): the request of a protocol with its slots, the selection over its
cascade levels, and the activation with its bit rate. -/
inductive RfOut where
  | reqA | selectA (levels : Nat) | rats | pps (rate : Nat) | reqB (slots : Nat) | attrib (rate : Nat) | inventory (slots : Nat)
  deriving DecidableEq, Repr

/-- Everything that leaves the part, newest first in State.outbox. -/
inductive Out where
  | completion (cq : Fin 16) (index : Nat) (phase : Bool) (sqHead : Nat) (c : Completion) (addr : W64) (bytes : List Byte)
  | event (index : Nat) (phase : Bool) (e : Event) (addr : W64) (bytes : List Byte)
  | msix (vector : Fin 32) (addr : W64) (data : W32)
  | buffer (addr : W64) (bytes : List Byte)
  /-- From the station MAC of an outlet; from its IPv6 address where the frame is above the SLAC messages (R256). -/
  | vlk (n : Outlet8) (mac : W48) (ip : Option (BitVec 128)) (o : VlkOut)
  | tag (o : TagOut)
  /-- On the power line, with the bytes that the manual lays out for it (R316, R317). -/
  | bkb (o : BkbOut) (bytes : List Byte)
  /-- An envelope on path A, own or forwarded by the coordinator, with its Ethernet frame (R329). -/
  | envelope (e : Envelope) (frame : List Byte)
  | field (on : Bool)
  | rf (o : RfOut)
  | apdu (bytes : List Byte)
  deriving DecidableEq, Repr

/-- The reasons a step stops with a fault. -/
inductive Fault where
  /-- Raised by execRegisterWrite: the offset names no register of the manual and lies in no window it
  describes, and the manual gives such an access no effect. Safe: the model stops where the part goes on. -/
  | unmappedRegister (off : W16)
  deriving DecidableEq, Repr

/-- The reasons a command has no meaning in the model. -/
inductive Refusal where
  /-- Raised by exec for a command that is not modelled yet. Safe: the model stops. -/
  | notModelled (mnemonic : String)
  deriving DecidableEq, Repr

/-- The state of the part. -/
structure State where
  gen : Gen := {}
  fuse : Fuse := {}
  rst : Rst := {}
  hif : Hif := {}
  jnl : Journal := {}
  adc : Adc := {}
  nrg : Energy := {}
  watch : Watch := {}
  bill : Vector Bill 8 := Vector.replicate 8 {}
  clk : Clock := {}
  prn : Prn := { devCert := shippedDevCert, issCert := shippedIssCert }
  ppy : Vector Ppy 8 := Vector.replicate 8 {}
  tam : Tamper := {}
  ses : Ses := {}
  saf : Saf := {}
  vlk : Vlk := {}
  sct : Sct := {}
  bkb : Bkb := {}
  upl : Upl := {}
  nfc : Nfc := {}
  tag : Tag := {}
  lcd : Lcd := {}
  lmp : Lmp := {}
  lsw : Lsw := {}
  key : Key := {}
  upd : Upd := {}
  mem : Mem := {}
  /-- What has left the part, newest first. [M] -/
  outbox : List Out := []
  /-- What the last read of a register or window returned. [M] -/
  lastRead : W32 := 0
  /-- Number of free values drawn so far; Config's free values are functions of it. [M] -/
  free : Nat := 0
  /-- The commands that wait, first in, first out. [M] -/
  pending : List Instr := []
  deriving DecidableEq, Repr

/-- The machine after reset: as shipped, with no supply yet, so held in the level-0 reset that POR
ends (R19, R435, R443); every field has the value its own text gives. -/
def State.reset : State := {}

end Sys2Proof.Machine
end

