-- ==== Sys2Proof/Machine/Flags.lean ====
section
/-! DEFINITION. Codes and words that the manual assembles from fields: status codes, reset sources,
access codes, and the layouts of status registers. -/

namespace Sys2Proof.Machine

/-- Status codes (R81). -/
def Status.code : Status → Nat
  | .ok => 0x00 | .busy => 0x01 | .invalid => 0x02 | .notReady => 0x03 | .denied => 0x04
  | .tableFull => 0x05 | .integrity => 0x06 | .poisoned => 0x07 | .timeout => 0x08 | .aborted => 0x09
  | .conflict => 0x0A | .frozen => 0x0B | .unsupported => 0x0C

/-- Numbers of the reset sources (R442). -/
def Source.num : Source → Nat
  | .por => 0 | .borSys => 1 | .borDig => 2 | .borAna => 3 | .pin => 4 | .clock => 5 | .wdtMsd => 6
  | .wdtApd => 7 | .lockstep => 8 | .ovrMsd => 9 | .ovrFn => 10 | .critical => 11 | .poison => 12
  | .host => 13 | .update => 14 | .pcie => 15

/-- Numbers of the session states (R203). -/
def SesState.num : SesState → Nat
  | .idle => 0 | .connected => 1 | .locking => 2 | .selfTest => 3 | .authorising => 4 | .ready => 5
  | .closing => 6 | .charging => 7 | .stopping => 8 | .opening => 9 | .ended => 10 | .fault => 11
  | .welded => 12 | .disabled => 13

/-- Stop reasons (R209). -/
def Reason.code : Reason → Nat
  | .none => 0 | .unplug => 1 | .hostStop => 2 | .creditOut => 3 | .authDenied => 4 | .authTimeout => 5
  | .proximityNone => 6 | .lockFail => 7 | .rcdTest => 8 | .vlink => 9 | .capacity => 10 | .restart => 11
  | .evOvercurrent => 12 | .rcdDc => 0x20 | .rcdAc => 0x21 | .pilotE => 0x22 | .diode => 0x23 | .pilotHw => 0x24
  | .contactorFb => 0x25 | .coilDriver => 0x26 | .lockLost => 0x27 | .welded => 0x28 | .safety => 0x29
  | .loadVoltage => 0x2A | .proximity => 0x2B

/-- Fields placed in a word: the number v in w bits from bit lo (R12). -/
def field (lo w v : Nat) : Nat := (v % 2 ^ w) * 2 ^ lo

/-- A Bool placed at bit lo. -/
def flag (lo : Nat) (b : Bool) : Nat := b2n b * 2 ^ lo

/-- A mask with a bit for each true element, bit 0 first. -/
def maskOf : List Bool → Nat
  | [] => 0
  | b :: bs => b2n b + 2 * maskOf bs

/-- A write to a W1C field: writing 1 clears the bit (R16). -/
def w1c {w : Nat} (old : BitVec w) (v : Nat) : BitVec w := old &&& ~~~(BitVec.ofNat w v)

end Sys2Proof.Machine
end

