-- ==== Sys2Proof/Machine/Ops.lean ====
section
/-! DEFINITION. Named operations that the commands share: sparse tables, free values, events (R80),
completions and the journal (R78, R82), MSI-X (R79), dispatch (R54, R75), readiness (R24, R25),
replacement causes (R32) and long operations (R56). -/

namespace Sys2Proof.Machine

/-- What a step or a command answers. -/
abbrev Res := Host.Outcome State Fault Refusal

/-! ### Vectors and sparse tables -/

/-- A vector with element i changed by f. -/
def vmod {α : Type} {k : Nat} (v : Vector α k) (i : Fin k) (f : α → α) : Vector α k :=
  v.set i.val (f v[i.val])

/-- All indexes below k. -/
def allFin (k : Nat) : List (Fin k) := List.finRange k

/-- Folds an operation on the state over all indexes below k, ascending. -/
def forFin (k : Nat) (f : Fin k → State → State) (s : State) : State :=
  (allFin k).foldl (fun s i => f i s) s

/-- Inserts by a number, ascending. -/
def insertNat {α : Type} (key : α → Nat) (a : α) : List α → List α
  | [] => [a]
  | b :: t => if key a ≤ key b then a :: b :: t else b :: insertNat key a t

/-- Sorts by a number, ascending. -/
def sortNat {α : Type} (key : α → Nat) (l : List α) : List α := l.foldr (insertNat key) []

/-- The value at an index of a sparse table whose unlisted indexes hold d. -/
def sparseGet {α : Type} (d : α) : List (Nat × α) → Nat → α
  | [], _ => d
  | (k', v) :: t, k => if k' = k then v else sparseGet d t k

/-- Writes a sparse table and keeps its canonical form: indexes strictly rise, and none holds d. -/
def sparseSet {α : Type} [DecidableEq α] (d : α) : List (Nat × α) → Nat → α → List (Nat × α)
  | [], k, v => if v = d then [] else [(k, v)]
  | (k', v') :: t, k, v =>
    if k' < k then (k', v') :: sparseSet d t k v
    else if k' = k then (if v = d then t else (k, v) :: t)
    else (if v = d then (k', v') :: t else (k, v) :: (k', v') :: t)

/-- Canonical form of a sparse table above a lower bound for its indexes. -/
def sparseWfFrom {α : Type} [DecidableEq α] (d : α) : Nat → List (Nat × α) → Bool
  | _, [] => true
  | lo, (k, v) :: t => decide (lo ≤ k) && decide (v ≠ d) && sparseWfFrom d (k + 1) t

/-- Canonical form of a sparse table: indexes strictly rise and no listed value is d. -/
def sparseWf {α : Type} [DecidableEq α] (d : α) (l : List (Nat × α)) : Bool := sparseWfFrom d 0 l

/-! ### Time and free values -/

/-- GTC as a number of ticks (R45). -/
def State.now (s : State) : Nat := s.gen.gtc.toNat

/-- RTC time: seconds and milliseconds below 1,000 (R158, R159). -/
def State.rtcMs (s : State) : Nat := min 999 (s.clk.frac / 64)

/-- n bytes that the manual does not fix. -/
def freeBytes (n : Nat) (s : State) : List Byte × State :=
  ((List.range n).map (Config.freeByte s.free), { s with free := s.free + 1 })

/-- A number that the manual does not fix. -/
def drawNat (s : State) : Nat × State := (Config.freeNat s.free, { s with free := s.free + 1 })

/-- A choice that the manual does not fix. -/
def drawBool (s : State) : Bool × State := (Config.freeBool s.free, { s with free := s.free + 1 })

/-- Something leaves the part. -/
def emit (o : Out) (s : State) : State := { s with outbox := o :: s.outbox }

/-! ### Rings and MSI-X -/

/-- Entries of a ring that are outstanding (R69). -/
def OutQ.used (q : OutQ) : Nat := (q.tail + 2 ^ q.sizeLog2 - q.head) % 2 ^ q.sizeLog2

/-- Sends a message, or sets the pending bit of a masked vector (R79, PCI Express Base). -/
def sendMsix (v : Fin 32) (s : State) : State :=
  let e := s.hif.msix[v.val]
  if e.mask then { s with hif := { s.hif with pba := s.hif.pba ||| BitVec.ofNat 32 (2 ^ v.val) } }
  else emit (.msix v e.addr e.data) s

/-- A ring after one entry has been written, and whether that sends its message (R79). -/
def OutQ.wrote (now : Tick) (q : OutQ) : OutQ × Bool :=
  let t := (q.tail + 1) % 2 ^ q.sizeLog2
  let n := q.unsignalled + 1
  let fire := q.irqEn && decide (max 1 q.coalCount.toNat ≤ n)
  ({ q with tail := t, phase := if t = 0 then !q.phase else q.phase,
            unsignalled := if fire then 0 else n,
            firstTick := if q.unsignalled = 0 then now else q.firstTick }, fire)

/-- Host address of an entry of a completion or event ring: 32 bytes each (R69). -/
def OutQ.entryAddr (q : OutQ) (index : Nat) : W64 := q.base + BitVec.ofNat 64 (32 * index)

/-- The 32 bytes of an event entry (R80). -/
def Event.bytes (phase : Bool) (e : Event) : List Byte :=
  leBytes 2 e.code.toNat ++ [e.target, BitVec.ofNat 8 (b2n phase)] ++ leBytes 4 e.evseq.toNat ++ leBytes 6 e.gtc.toNat ++
    leBytes 2 0 ++ slice e.data 0 16

/-- The 32 bytes of a completion entry (R78). -/
def Completion.bytes (phase : Bool) (sqHead : Nat) (c : Completion) : List Byte :=
  leBytes 2 c.tag.toNat ++ [BitVec.ofNat 8 c.status.code, c.detail, BitVec.ofNat 8 c.sq.val, BitVec.ofNat 8 (b2n phase)] ++
    leBytes 2 sqHead ++ leBytes 8 c.seq ++ leBytes 2 c.sqIndex ++ slice c.data 0 14

/-- Value of HIF_ERR (R68). -/
def hifErrWord (s : State) : Nat := s.hif.err.toNat + field 8 6 s.hif.errRing.toNat

/-! ### Events -/

/-- An event is produced: it takes the next EVSEQ (R80). -/
def produce (code target : Nat) (data : List Byte) (gtc : W48) (s : State) : Event × State :=
  ({ code := BitVec.ofNat 16 code, target := BitVec.ofNat 8 target, evseq := s.hif.evNext, gtc := gtc,
     data := slice data 0 16 },
   { s with hif := { s.hif with evNext := s.hif.evNext + 1 } })

/-- An event entry can be placed in the event ring: RUN is 1, EVQ is enabled and not full (R80). -/
def canPost (s : State) : Bool :=
  s.hif.run && s.hif.evq.en &&
    decide (s.hif.evq.used + s.hif.evWaiting.length + 1 < 2 ^ s.hif.evq.sizeLog2)

/-- Writes an event as one entry (R79, R80). -/
def writeEvent (e : Event) (s : State) : State :=
  let (q, fire) := s.hif.evq.wrote s.now
  let s := emit (.event s.hif.evq.tail s.hif.evq.phase e (s.hif.evq.entryAddr s.hif.evq.tail) (e.bytes s.hif.evq.phase)) { s with hif := { s.hif with evq := q } }
  if fire then sendMsix q.vector s else s

/-- Places an event behind those that already wait for the link, or writes it (R474). -/
def placeEvent (e : Event) (s : State) : State :=
  if s.hif.evWaiting.isEmpty && s.hif.linkOk then writeEvent e s
  else { s with hif := { s.hif with evWaiting := s.hif.evWaiting ++ [e] } }

/-- Holds an event in staging, or discards it where staging is full (R80). -/
def stageEvent (e : Event) (s : State) : State :=
  if s.hif.staging.length < 512 then
    { s with hif := { s.hif with staging := s.hif.staging ++ [e] } }
  else
    { s with hif := { s.hif with lost := s.hif.lost + 1,
                                 lostFirst := if s.hif.lost = 0 then e.evseq else s.hif.lostFirst } }

/-- Routes a produced event: to the ring where nothing is held before it, else to staging (R80). -/
def routeEvent (e : Event) (s : State) : State :=
  if canPost s && s.hif.heldEv.isEmpty && s.hif.staging.isEmpty && decide (s.hif.lost = 0) then placeEvent e s
  else stageEvent e s

/-- A HIF_ERR bit is set; where it goes from 0 to 1, HIF_ERROR is posted (R68). -/
def setErr (bit ring : Nat) (s : State) : State :=
  let s1 := { s with hif := { s.hif with err := s.hif.err ||| BitVec.ofNat 5 (2 ^ bit),
                                         errRing := BitVec.ofNat 6 ring } }
  if s.hif.err.getLsbD bit then s1
  else
    let (e, s2) := produce 0x0F05 0xFF (leBytes 4 (hifErrWord s1)) s1.gen.gtc s1
    routeEvent e s2

/-- WRITE_FAIL is set once for an event entry that the link has not accepted (R474). -/
def eventFail (s : State) : State :=
  if !s.hif.evWaiting.isEmpty && !s.hif.linkOk && !s.hif.evq.failed then
    setErr 4 32 { s with hif := { s.hif with evq := { s.hif.evq with failed := true } } }
  else s

/-- A HIF_ERR bit is set by something other than an event write. -/
def raiseErr (bit ring : Nat) (s : State) : State := eventFail (setErr bit ring s)

/-- A produced event is posted or held. -/
def putEvent (e : Event) (s : State) : State := eventFail (routeEvent e s)

/-- Posts an event of this tick (R46, R80). -/
def post (code target : Nat) (data : List Byte) (s : State) : State :=
  let (e, s) := produce code target data s.gen.gtc s
  putEvent e s

/-- An event waits for its window, or for others of the window (R53, R193, R253). -/
def holdLate (code target : Nat) (data : List Byte) (s : State) : State :=
  { s with gen := { s.gen with lateEv := s.gen.lateEv ++ [(code, target, data)] } }

/-- The waiting events of some codes are posted, oldest first (R55). -/
def flushWhere (sel : Nat → Bool) (s : State) : State :=
  let (now, later) := s.gen.lateEv.partition fun e => sel e.1
  now.foldl (fun s e => post e.1 e.2.1 e.2.2 s) { s with gen := { s.gen with lateEv := later } }

/-- Posts a session event: it waits for the end of foreground A, so that it stands behind the safety events of the window and before the
billing events of the tick (R228, R253). -/
def postSes (code target : Nat) (data : List Byte) (s : State) : State := holdLate code target data s

/-- Posts a safety event: in foreground A at once, else in the next foreground A (R253). -/
def postSaf (code target : Nat) (data : List Byte) (s : State) : State :=
  if s.gen.win = .safety then post code target data s else holdLate code target data s

/-- An event of an APD or COD function goes into its mailbox, which foreground C polls after the descriptors (R21, R53); an event of the
memories waits for foreground C too (R433). -/
def postMail (code target : Nat) (data : List Byte) (s : State) : State := holdLate code target data s

/-- Posts a prepayment or tamper event: in foreground B it waits for the billing events of the window (R193). -/
def postLate (code target : Nat) (data : List Byte) (s : State) : State :=
  if s.gen.win = .metering then holdLate code target data s else post code target data s

/-- Classes of the events: safety, session, and those that foreground C posts, of the functions of APD and COD and of the memories
(R27, R433). -/
def safCode (code : Nat) : Bool := decide (code / 256 = 0x04)
def sesCode (code : Nat) : Bool := decide (code / 256 = 0x03)
def mailCode (code : Nat) : Bool := [0x05, 0x06, 0x07, 0x08, 0x09, 0x0B, 0x0D, 0x0E].contains (code / 256)

/-- The waiting events of one code are posted (R193). -/
def flushLate (code : Nat) (s : State) : State := flushWhere (fun c => decide (c = code)) s

/-- A descriptor that foreground B has done completes when foreground C opens, behind the events of foreground B (R53, R184). -/
def holdDone (seq : Nat) (st : Status) (data : List Byte) (s : State) : State :=
  { s with gen := { s.gen with lateDone := s.gen.lateDone ++ [(seq, st, data)] } }

/-- A command of foreground A acts, but not in a tick whose windows a lockstep mismatch has discarded: what it brings is found again
where they run again (R232; log 157). -/
def inSafety (act : State → State) (s : State) : Res := .next (if s.gen.lost.isSome then s else act s)

/-- Posts the held READY, OVERRUN and RESET events while there is room (R80). -/
def drainHeld : Nat → State → State
  | 0, s => s
  | n + 1, s =>
    match s.hif.heldEv with
    | [] => s
    | e :: t => if canPost s then drainHeld n (placeEvent e { s with hif := { s.hif with heldEv := t } }) else s

/-- Posts EVENTS_LOST where events have been discarded (R80). -/
def drainLost (s : State) : State :=
  if s.hif.heldEv.isEmpty && decide (0 < s.hif.lost) && canPost s then
    let (e, s1) := produce 0x0F04 0xFF (leBytes 4 s.hif.lost ++ leBytes 4 s.hif.lostFirst.toNat) s.gen.gtc s
    placeEvent e { s1 with hif := { s1.hif with lost := 0 } }
  else s

/-- Posts staged events while there is room (R80). -/
def drainStaged : Nat → State → State
  | 0, s => s
  | n + 1, s =>
    match s.hif.staging with
    | [] => s
    | e :: t =>
      if canPost s && s.hif.heldEv.isEmpty && decide (s.hif.lost = 0) then
        drainStaged n (placeEvent e { s with hif := { s.hif with staging := t } })
      else s

/-- Posts what is held, in the order of R80, while there is room. -/
def drainEvents (s : State) : State :=
  let s := drainLost (drainHeld s.hif.heldEv.length s)
  eventFail (drainStaged s.hif.staging.length s)

/-- Holds an OVERRUN or RESET event in the 32 further entries of staging (R80, R473). -/
def holdEvent (code : Nat) (data : List Byte) (gtc : W48) (s : State) : State :=
  let (e, s) := produce code 0xFF data gtc s
  { s with hif := { s.hif with heldEv := s.hif.heldEv ++ [e] } }

/-- Events that wait for the link return to the head of staging (R474): all of them, even where staging then holds more than 512
(log 141). -/
def unwaitEvents (s : State) : State :=
  { s with hif := { s.hif with staging := s.hif.evWaiting ++ s.hif.staging, evWaiting := [],
                               evq := { s.hif.evq with failed := false } } }

/-! ### Completions and the journal -/

/-- Descriptors in flight, each from its fetch until its completion is written (R74). -/
def State.inFlight (s : State) : Nat :=
  s.hif.inflight.length + (s.hif.cq.toList.map fun q => q.waiting.length).sum

/-- Writes a completion as one entry of its ring, with the SQ head of this moment (R78, R79). -/
def writeCompletion (cq : Fin 16) (c : Completion) (s : State) : State :=
  let q0 := s.hif.cq[cq.val]
  let (q, fire) := q0.wrote s.now
  let head := (s.hif.sq[c.sq.val]).head
  let s := emit (.completion cq q0.tail q0.phase head c (q0.entryAddr q0.tail) (c.bytes q0.phase head))
    { s with hif := { s.hif with cq := s.hif.cq.set cq.val { q with reserved := q.reserved - 1 } } }
  if fire then sendMsix q.vector s else s

/-- WRITE_FAIL is set once for a completion that the link has not accepted (R474). -/
def completionFail (cq : Fin 16) (s : State) : State :=
  let q := s.hif.cq[cq.val]
  if !q.waiting.isEmpty && q.en && !s.hif.linkOk && !q.failed then
    raiseErr 4 (16 + cq.val) { s with hif := { s.hif with cq := s.hif.cq.set cq.val { q with failed := true } } }
  else s

/-- Writes a completion, or lets it wait at its index (R474); one for a ring that the host has disabled meanwhile waits until that
ring is enabled anew (log 144). -/
def putCompletion (cq : Fin 16) (c : Completion) (s : State) : State :=
  let q := s.hif.cq[cq.val]
  if q.waiting.isEmpty && q.en && s.hif.linkOk then writeCompletion cq c s
  else completionFail cq
    { s with hif := { s.hif with cq := s.hif.cq.set cq.val { q with waiting := q.waiting ++ [c] } } }

/-- The oldest SEQ retained (R85). -/
def Journal.head (j : Journal) : Nat := max 1 (j.tail - 8192)

/-- The retained entry with a SEQ. -/
def Journal.find (j : Journal) (seq : Nat) : Option JEntry := j.entries.find? (fun e => e.seq == seq)

/-- Number of open entries (R85). -/
def Journal.openCount (j : Journal) : Nat := (j.entries.filter (fun e => e.done.isNone)).length

/-- Fetch is paused because the next journal slot holds an open entry (R85). -/
def Journal.stall (j : Journal) : Bool :=
  j.entries.any (fun e => decide (e.seq + 8192 = j.tail) && e.done.isNone)

/-- Opens the entry of a fetched descriptor under the next SEQ (R82, R85). -/
def openEntry (opcode tag : W16) (ring : Fin 16) (fence : Bool) (idx : Nat) (whole : Bool) (s : State) : State :=
  let e : JEntry := { seq := s.jnl.tail, gtcAcc := s.gen.gtc, opcode := opcode, tag := tag, ring := ring,
                      fence := fence, sqIndex := idx, whole := whole }
  { s with jnl := { s.jnl with
      entries := e :: s.jnl.entries.filter (fun x => decide (s.jnl.tail < x.seq + 8192))
      tail := s.jnl.tail + 1 } }

/-- Closes the entry of a descriptor with this tick and a result (R82). -/
def closeEntry (seq result : Nat) (s : State) : State :=
  { s with jnl := { s.jnl with entries := s.jnl.entries.map fun e =>
      if e.seq == seq then { e with done := some (s.gen.gtc, BitVec.ofNat 16 result) } else e } }

/-- The 32 bytes of a journal entry (R83). -/
def JEntry.bytes (e : JEntry) : List Byte :=
  leBytes 8 e.seq ++ leBytes 6 e.gtcAcc.toNat ++ leBytes 2 e.opcode.toNat ++ leBytes 2 e.tag.toNat ++
  [BitVec.ofNat 8 e.ring.val, BitVec.ofNat 8 (b2n e.fence)] ++ leBytes 2 e.sqIndex ++ leBytes 2 0 ++
  (match e.done with
   | none => leBytes 6 0 ++ leBytes 2 0xFFFF
   | some (g, r) => leBytes 6 g.toNat ++ leBytes 2 r.toNat)

/-- A descriptor completes: output buffer, then journal, then completion (R77, R82). A failed buffer
write gives INTEGRITY with DETAIL 0xFF in the completion alone. A descriptor is out of flight for R75 from here on, even where
its completion still waits for the link (R474, log 140). -/
def complete (f : Flight) (st : Status) (detail : Nat) (data : List Byte) (buf : Option (List Byte))
    (s : State) : State :=
  let live := s.hif.run && !f.noCq
  let sent := s.hif.linkOk && s.hif.bufOk
  let bad := live && buf.isSome && !sent
  let s := match buf with
    | some b => if live && sent then emit (.buffer f.bufAddr b) s else s
    | none => s
  let s := if bad then raiseErr 3 f.sq.val s else s
  let s := closeEntry f.seq (detail * 256 + st.code) s
  let s := { s with hif := { s.hif with inflight := s.hif.inflight.filter (fun g => g.seq != f.seq) } }
  if live then
    putCompletion f.cq { tag := f.tag, status := if bad then .integrity else st,
                         detail := BitVec.ofNat 8 (if bad then 0xFF else detail), sq := f.sq, seq := f.seq,
                         sqIndex := f.sqIndex, data := slice data 0 14 } s
  else s

/-- Completes with a status and nothing else. -/
def completeSt (f : Flight) (st : Status) (s : State) : State := complete f st 0 [] none s

/-- The descriptor in flight with a SEQ. -/
def flight? (seq : Nat) (s : State) : Option Flight := s.hif.inflight.find? (fun f => f.seq == seq)

/-- Completes the descriptor with a SEQ where it is still in flight. -/
def completeSeq (seq : Nat) (st : Status) (detail : Nat) (data : List Byte) (buf : Option (List Byte))
    (s : State) : State :=
  match flight? seq s with
  | some f => complete f st detail data buf s
  | none => s

/-- A dispatched descriptor waits for a long operation, a peer or the host. -/
def keepRunning (f : Flight) (s : State) : State :=
  { s with hif := { s.hif with inflight := s.hif.inflight.map fun g =>
      if g.seq == f.seq then { g with running := true } else g } }

/-! ### Dispatch -/

/-- An earlier descriptor of the same ring keeps this one from its dispatch (R75). -/
def fenceBlocks (f : Flight) (earlier : List Flight) : Bool :=
  earlier.any fun g => decide (g.sq = f.sq) && (f.fence || (g.fence && !g.running))

/-- The first descriptor, in fetch order, that may be dispatched (R54, R75; log 167). -/
def nextDispatch : List Flight → List Flight → Option Flight
  | _, [] => none
  | seen, f :: fs => if !f.running && !fenceBlocks f seen then some f else nextDispatch (f :: seen) fs

/-- Dispatches the next descriptor where it carries this opcode: in foreground C, and not before the tick whose intake it
belongs to (R54). -/
def dispatch (opcode : Nat) (act : Flight → State → State) (s : State) : State :=
  if s.rst.msdUp ∧ s.gen.win = .host then
    match nextDispatch [] s.hif.inflight with
    | some f => if f.opcode.toNat = opcode ∧ f.intake ≤ s.now then act f s else s
    | none => s
  else s

/-- The little-endian parameter in descriptor bytes o to o + n − 1 (R77). -/
def Flight.p (f : Flight) (o n : Nat) : Nat := leAt f.param (o - 16) n

/-- The outlet that TARGET names; only called where R475 has been checked. -/
def Flight.outlet (f : Flight) : Outlet8 := Fin.ofNat 8 f.target.toNat

/-! ### Long operations -/

/-- Queues a long operation (R56, R400). -/
def requestLong (kind : OpKind) (steps : Nat) (req : Requester) (slots : List (Fin 32)) (s : State) : State :=
  { s with key := { s.key with queue := s.key.queue ++
      [{ kind := kind, steps := steps, req := req, tick := s.now, slots := slots }] } }

/-- Long operations waiting or running (R400). -/
def longCount (s : State) : Nat := s.key.queue.length

/-- A descriptor asks for a long operation; where 32 are queued it completes BUSY (R400). -/
def askLong (f : Flight) (kind : OpKind) (steps : Nat) (req : Requester) (slots : List (Fin 32)) (s : State) : State :=
  if 32 ≤ longCount s then completeSt f .busy s
  else keepRunning f (requestLong kind steps req slots s)

/-- Why a key slot is not usable for an operation (usage bit 0 SIGN, 1 VERIFY, 2 ECDH, 3 AESGCM, 4 HMAC),
none where it is (R393). -/
def slotCheck (k : Fin 32) (usageBit : Nat) (s : State) : Option Status :=
  let r := s.key.slot[k.val]
  if s.key.rootFail || r.unusable then some .integrity
  else if r.rec_.type = .empty || !r.rec_.usage.getLsbD usageBit || r.rec_.retired then some .denied
  else none

/-- Descriptor of an operation. -/
def Requester.seq? : Requester → Option Nat
  | .flight q => some q | .unseal q => some q | .topup q => some q | .prn _ | .tls _ | .boot => none

/-- The long operations of requesters that are aborted or reset are dropped at the next step boundary (R57). -/
def dropReq (hit : Requester → Bool) (s : State) : State :=
  { s with key := { s.key with
      queue := s.key.queue.map (fun o => if hit o.req then { o with dropped := true } else o)
      done := s.key.done.filter (fun o => !hit o.req) } }

/-- The long operations of a descriptor are dropped (R57). -/
def dropLong (seq : Nat) (s : State) : State := dropReq (fun r => r.seq? == some seq) s

/-- A descriptor completes ABORTED because its function has stopped being ready (R25, R57). -/
def abortFlight (f : Flight) (s : State) : State := completeSt f .aborted (dropLong f.seq s)

/-- Aborts every descriptor in flight of the classes given (R25). -/
def abortClasses (hit : Nat → Bool) (s : State) : State :=
  (s.hif.inflight.filter fun f => hit (f.opcode.toNat / 256)).foldl (fun s f => abortFlight f s) s

/-! ### Readiness and replacement causes -/

/-- A READY event of a changed bit while the host can see it (R24). -/
def readyEvent (bit : Fin 19) (v : Bool) (s : State) : State :=
  if s.hif.run && s.hif.evq.en then post 0x0F01 0xFF [BitVec.ofNat 8 bit.val, BitVec.ofNat 8 (b2n v)] s else s

/-- A GEN_READY bit is set or cleared; a change posts READY (R24). -/
def setReady (bit : Fin 19) (v : Bool) (s : State) : State :=
  if s.gen.ready.getLsbD bit.val = v then s
  else
    let m := BitVec.ofNat 19 (2 ^ bit.val)
    readyEvent bit v { s with gen := { s.gen with
      ready := if v then s.gen.ready ||| m else s.gen.ready &&& ~~~m } }

/-- A GEN_READY bit. -/
def State.isReady (s : State) (bit : Nat) : Bool := s.gen.ready.getLsbD bit

/-- APD runs instructions of an image: it is up, its loader has made its choice, and that is not the recovery loader (R409, R411). -/
def State.imageRuns (s : State) : Bool := s.rst.apdUp && s.upd.checking.isNone && !s.upd.recovery

/-- Bits stop being ready in ascending order, then the descriptors of their classes abort (R24, R25). -/
def loseReady (bits : List (Fin 19)) (s : State) : State :=
  let lost := bits.filter fun b => s.isReady b.val
  abortClasses (fun c => lost.any fun b => b.val == c) (lost.foldl (fun s b => setReady b false s) s)

/-- A GEN_REPLACE cause is set; from 0 to 1 it posts REPLACE (R32). -/
def setReplace (cause : Fin 9) (s : State) : State :=
  if s.gen.replace.getLsbD cause.val then s
  else post 0x0F02 0xFF [BitVec.ofNat 8 cause.val]
    { s with gen := { s.gen with replace := s.gen.replace ||| BitVec.ofNat 9 (2 ^ cause.val) } }

/-- REPL_N is driven low (R32). -/
def State.replN (s : State) : Bool := s.gen.replRead && decide (s.gen.replace &&& s.gen.replMask ≠ 0)

end Sys2Proof.Machine
end

