-- ==== Sys2Proof/Machine/Opcodes.lean ====
section
/-! DEFINITION. The opcode table: ring class, TARGET, PARAM bytes in use and buffer of every opcode
(R76, R77, R475 and the opcode tables of the chapters). -/

namespace Sys2Proof.Machine

/-- What an opcode takes as TARGET (R475). -/
inductive Tgt where
  | none | outlet | either
  deriving DecidableEq, Repr

/-- Direction of an opcode's buffer (R77). -/
inductive BufKind where
  | no | input | output | both
  deriving DecidableEq, Repr

/-- One opcode: PARAM ranges in use as descriptor byte and length, and the limits of BUF_LEN. -/
structure OpInfo where
  code : Nat
  admin : Bool := false
  tgt : Tgt := .none
  used : List (Nat × Nat) := []
  buf : BufKind := .no
  lo : Nat := 0
  hi : Nat := 16384
  deriving DecidableEq, Repr

/-- System class (R86, R448, R449). -/
def sysOps : List OpInfo := [
  { code := 0x0F00 },
  { code := 0x0F01, used := [(16, 10)], buf := .output, lo := 32, hi := 8192 },
  { code := 0x0F02 },
  { code := 0x0F03, admin := true, used := [(16, 4)] },
  { code := 0x0F04 },
  { code := 0x0F10, admin := true, used := [(16, 4)] },
  { code := 0x0F11, admin := true, used := [(16, 2)] }]

/-- Metering class (R112, R113, R116, R133, R134, R139, R140). -/
def mtrOps : List OpInfo := [
  { code := 0x0110, used := [(16, 6), (24, 12)], buf := .output, lo := 1 },
  { code := 0x0111 },
  { code := 0x0112, admin := true, used := [(16, 1)], buf := .input, lo := 1 },
  { code := 0x0120, admin := true, buf := .input, lo := 1 },
  { code := 0x0121, used := [(16, 1)], buf := .output, lo := 112, hi := 112 },
  { code := 0x0122, tgt := .either, buf := .output, lo := 128, hi := 128 },
  { code := 0x0123, tgt := .either, buf := .output, lo := 40, hi := 40 },
  { code := 0x0124, used := [(16, 5)], buf := .output, lo := 1 }]

/-- Billing class (R161, R170 to R173, R179 to R193). -/
def bilOps : List OpInfo := [
  { code := 0x0201, tgt := .outlet, buf := .output, lo := 1 },
  { code := 0x0202, tgt := .outlet, used := [(16, 4)], buf := .output, lo := 1 },
  { code := 0x0203, tgt := .outlet, used := [(16, 6)], buf := .output, lo := 1 },
  { code := 0x0204, used := [(16, 6)], buf := .output, lo := 1 },
  { code := 0x0205, admin := true, used := [(16, 11)] },
  { code := 0x0206 },
  { code := 0x0207, admin := true, buf := .input, lo := 1 },
  { code := 0x0208, used := [(16, 1)], buf := .output, lo := 1 },
  { code := 0x0209, admin := true, tgt := .either },
  { code := 0x0210, tgt := .outlet, buf := .output, lo := 1 },
  { code := 0x0211, used := [(16, 5)], buf := .output, lo := 1 },
  { code := 0x0212, buf := .output, lo := 65, hi := 65 },
  { code := 0x0213, used := [(16, 1)], buf := .output },
  { code := 0x0218, admin := true, tgt := .outlet, buf := .input, lo := 1 },
  { code := 0x0219, tgt := .outlet, buf := .input, lo := 1 },
  { code := 0x021A, tgt := .outlet },
  { code := 0x021B, tgt := .outlet, buf := .output, lo := 64, hi := 64 },
  { code := 0x0220, used := [(16, 5)], buf := .output, lo := 1 }]

/-- Session class (R226, R227). -/
def sesOps : List OpInfo := [
  { code := 0x0301, tgt := .outlet, used := [(16, 1), (24, 18)] },
  { code := 0x0302, tgt := .outlet, used := [(16, 1)] },
  { code := 0x0303, tgt := .outlet, used := [(16, 2)] },
  { code := 0x0304, tgt := .outlet, buf := .output, lo := 64, hi := 64 },
  { code := 0x0305, admin := true, tgt := .outlet },
  { code := 0x0306, admin := true, tgt := .outlet }]

/-- Safety class (R252). -/
def safOps : List OpInfo := [
  { code := 0x0401, admin := true, buf := .input, lo := 1 },
  { code := 0x0402, used := [(16, 1)], buf := .output, lo := 128, hi := 128 },
  { code := 0x0403, admin := true, used := [(16, 8)] },
  { code := 0x0404, admin := true, used := [(16, 1)] },
  { code := 0x0405 }]

/-- Vehicle-link class (R275, R283). -/
def vlkOps : List OpInfo := [
  { code := 0x0501, admin := true, used := [(16, 2)], buf := .input, lo := 0, hi := 4096 },
  { code := 0x0502, used := [(16, 2)], buf := .output, lo := 1 },
  { code := 0x0503, used := [(16, 2)], buf := .output, lo := 8256 },
  { code := 0x0504, used := [(16, 6), (24, 10)], buf := .input, lo := 0, hi := 8192 },
  { code := 0x0505, tgt := .outlet },
  { code := 0x0506, tgt := .outlet, buf := .output, lo := 64, hi := 64 }]

/-- Site-current class (R310). -/
def sctOps : List OpInfo := [
  { code := 0x0601, admin := true, used := [(16, 6), (24, 4)] },
  { code := 0x0602, buf := .output, lo := 192, hi := 192 },
  { code := 0x0603, buf := .output, lo := 2048, hi := 2048 },
  { code := 0x0604, admin := true, used := [(16, 8)] }]

/-- Backbone class (R335, R337). -/
def bkbOps : List OpInfo := [
  { code := 0x0701, buf := .input, lo := 1, hi := 1476 },
  { code := 0x0702, used := [(16, 2)], buf := .output, lo := 1476 },
  { code := 0x0703, admin := true, used := [(16, 1)] },
  { code := 0x0704, buf := .output, lo := 2048, hi := 2048 },
  { code := 0x0705, admin := true, used := [(16, 4)] },
  { code := 0x0706, admin := true }]

/-- Contactless class (R343, R358). -/
def nfcOps : List OpInfo := [
  { code := 0x0801, admin := true, buf := .input, lo := 1 },
  { code := 0x0802, admin := true, used := [(16, 18)] },
  { code := 0x0803, admin := true, used := [(16, 1)] },
  { code := 0x0804, used := [(16, 18)] },
  { code := 0x0805, used := [(16, 4)], buf := .output, lo := 1 },
  { code := 0x0806, buf := .both, lo := 4, hi := 261 },
  { code := 0x0810, used := [(16, 4)], buf := .output, lo := 1 },
  { code := 0x0811, admin := true, used := [(16, 4)], buf := .input, lo := 1 },
  { code := 0x0812, admin := true, used := [(16, 8)] },
  { code := 0x0813, admin := true, used := [(16, 1)] }]

/-- Display and lamp classes (R371). -/
def lcdOps : List OpInfo := [
  { code := 0x0901, admin := true, buf := .input, lo := 256, hi := 256 },
  { code := 0x0902, admin := true, buf := .input, lo := 96, hi := 96 },
  { code := 0x0903, used := [(16, 1)], buf := .input, lo := 32, hi := 32 },
  { code := 0x0A01, admin := true, buf := .input, lo := 384, hi := 384 },
  { code := 0x0A02, tgt := .outlet, used := [(16, 14)] }]

/-- Load-switch class (R389). -/
def lswOps : List OpInfo := [
  { code := 0x0B01, used := [(16, 3)] },
  { code := 0x0B02, admin := true, used := [(16, 3)] },
  { code := 0x0B03, buf := .output, lo := 112, hi := 112 }]

/-- Key class (R402). -/
def keyOps : List OpInfo := [
  { code := 0x0C01, admin := true, used := [(16, 4)] },
  { code := 0x0C02, admin := true, used := [(16, 4)], buf := .input, lo := 1 },
  { code := 0x0C03, used := [(16, 1)], buf := .output, lo := 65, hi := 65 },
  { code := 0x0C04, used := [(16, 1), (24, 32)], buf := .output, lo := 64, hi := 64 },
  { code := 0x0C05, used := [(16, 1), (24, 32)], buf := .input, lo := 64, hi := 64 },
  { code := 0x0C06, admin := true, used := [(16, 5)], buf := .input, lo := 65, hi := 129 },
  { code := 0x0C07, used := [(16, 2), (20, 2), (24, 12)], buf := .both, lo := 16 },
  { code := 0x0C08, used := [(16, 1)], buf := .both, lo := 32 },
  { code := 0x0C09, used := [(16, 1)], buf := .both, lo := 32 },
  { code := 0x0C0A, buf := .output, lo := 1, hi := 4096 },
  { code := 0x0C0B, admin := true, used := [(16, 4), (24, 8)] },
  { code := 0x0C0C, admin := true, used := [(16, 4)] }]

/-- Update and memory classes (R414, R433). -/
def updOps : List OpInfo := [
  { code := 0x0D01, admin := true, used := [(16, 7)] },
  { code := 0x0D02, used := [(16, 2), (20, 4)], buf := .input, lo := 1 },
  { code := 0x0D03, buf := .output, lo := 640, hi := 640 },
  { code := 0x0D04, admin := true, used := [(16, 4)] },
  { code := 0x0D05, admin := true },
  { code := 0x0D06, admin := true },
  { code := 0x0D07 },
  { code := 0x0E01, buf := .output, lo := 512, hi := 512 }]

/-- Every opcode of the manual. -/
def opTable : List OpInfo :=
  sysOps ++ mtrOps ++ bilOps ++ sesOps ++ safOps ++ vlkOps ++ sctOps ++ bkbOps ++ nfcOps ++ lcdOps ++ lswOps ++ keyOps ++ updOps

/-- The row of an opcode, none where it is not defined. -/
def opInfo (code : Nat) : Option OpInfo := opTable.find? fun o => o.code == code

/-- Descriptor byte b lies in a range that the opcode uses. -/
def OpInfo.uses (o : OpInfo) (b : Nat) : Bool := o.used.any fun r => decide (r.1 ≤ b ∧ b < r.1 + r.2)

/-- BUF, BUF_LEN and BUF_ADDR agree with each other and with the opcode (R77). The sizes that an opcode's chapter gives as fixed or as a
range count here; a size that follows from the descriptor's own parameters is the opcode's own check at dispatch (log 166). -/
def OpInfo.bufOk (o : OpInfo) (f : Flight) (buf : Bool) : Bool :=
  if buf then
    decide (o.buf ≠ .no) && decide (f.bufAddr.toNat % 8 = 0) && decide (f.bufLen ≤ 16384) &&
      decide (o.lo ≤ f.bufLen ∧ f.bufLen ≤ o.hi)
  else decide (f.bufLen = 0) && decide (f.bufAddr = 0) && (decide (o.buf = .no) || decide (o.lo = 0))

/-- Step 4 of R76: reserved fields are 0, TARGET is in range, the buffer is consistent. -/
def OpInfo.formOk (o : OpInfo) (f : Flight) (flags : Nat) : Bool :=
  decide (flags < 4) &&
  (match o.tgt with
   | .none => decide (f.target = 0xFF)
   | .outlet => decide (f.target.toNat < 8)
   | .either => decide (f.target.toNat < 8) || decide (f.target = 0xFF)) &&
  (List.range 48).all (fun i => o.uses (16 + i) || decide (byteAt f.param i = 0)) &&
  o.bufOk f (bitAt flags 1)

/-- The descriptor has an input buffer to be read before dispatch (R77). -/
def takesInput (f : Flight) : Bool :=
  decide (0 < f.bufLen) &&
  match opInfo f.opcode.toNat with
  | some o => decide (o.buf = .input) || decide (o.buf = .both)
  | none => false

end Sys2Proof.Machine
end

