-- ==== Sys2Proof/Machine/AuthList.lean ====
section
/-! DEFINITION. The authorisation list: formats, lookup, insert, eviction and recency (R344 to R349). -/

namespace Sys2Proof.Machine

/-- Entries that the list holds at most (R344). -/
def listSize : Nat := 16384

/-- KLEN that a KTYPE allows (R344). -/
def klenOk (ktype klen : Nat) : Bool :=
  match ktype with
  | 1 => decide (klen = 4 ∨ klen = 7 ∨ klen = 10)
  | 2 => decide (klen = 4)
  | 3 => decide (klen = 8)
  | 4 => decide (klen = 16)
  | _ => false

/-- Two entries match (R344). -/
def ListEntry.hasKey (e : ListEntry) (ktype klen : Nat) (key : List Byte) : Bool :=
  decide (e.ktype = ktype) && decide (e.klen = klen) && decide (e.key = key)

/-- Index and entry that match a key (R345). -/
def listFind (ktype klen : Nat) (key : List Byte) (s : State) : Option (Nat × ListEntry) :=
  s.nfc.entries.find? fun e => e.2.hasKey ktype klen key

/-- An entry becomes the most recently used one (R345, R346). -/
def listTouch (idx : Nat) (s : State) : State :=
  { s with nfc := { s.nfc with recency := idx :: s.nfc.recency.filter (fun i => i != idx) } }

/-- A lookup; a hit refreshes its entry (R345). -/
def listLookup (ktype klen : Nat) (key : List Byte) (s : State) : Option (Nat × ListEntry) × State :=
  match listFind ktype klen key s with
  | some e => (some e, listTouch e.1 s)
  | none => (none, s)

/-- AUTH_REF of an entry: a contract reads back KEY bytes 0 to 7 big-endian (R344). -/
def ListEntry.ref (e : ListEntry) : Nat := if e.ktype = 4 then beAt e.key 0 8 else e.authRef.toNat

/-- RESULT of a lookup: 0 absent, 1 pinned, 2 cached (R358). -/
def lookupResult : Option (Nat × ListEntry) → Nat
  | none => 0
  | some (_, e) => if e.pinned then 1 else 2

/-- The 32 bytes of an entry (R344). -/
def ListEntry.bytes (e : ListEntry) : List Byte :=
  [BitVec.ofNat 8 e.ktype, BitVec.ofNat 8 (b2n e.pinned), BitVec.ofNat 8 e.klen, 0] ++ slice e.key 0 16 ++ leBytes 8 e.ref ++
    leBytes 2 e.limit ++ leBytes 2 e.expiry

/-- An entry read from 32 bytes, none where it is out of format or KTYPE is 0 (R344, R358). -/
def ListEntry.ofBytes (b : List Byte) : Option ListEntry :=
  let kt := byteAt b 0
  let kl := byteAt b 2
  let lim := leAt b 28 2
  let key := slice b 4 16
  let ok := decide (byteAt b 1 < 2) && klenOk kt kl && decide (byteAt b 3 = 0) && (key.drop kl).all (fun x => decide (x = 0)) &&
    (decide (kt ≠ 4) || decide (leAt b 20 8 = 0)) && decide (lim = 0 ∨ (60 ≤ lim ∧ lim ≤ 800))
  if ok then
    some { ktype := kt, pinned := bitAt (byteAt b 1) 0, klen := kl, key := key, authRef := BitVec.ofNat 64 (leAt b 20 8), limit := lim,
           expiry := leAt b 30 2 }
  else none

/-- First free index from a start, around the list; none where the list is full. -/
def freeIndex (entries : List (Nat × ListEntry)) : Nat → Nat → Option Nat
  | 0, _ => none
  | fuel + 1, i => if entries.any (fun e => e.1 == i % listSize) then freeIndex entries fuel (i + 1) else some (i % listSize)

/-- Position in the recency order, 0 the most recently used; entries older than every saved position share the last one (R346,
R347). -/
def recencyOf (order : List Nat) (idx : Nat) : Nat := (order.findIdx? (fun i => i == idx)).getD order.length

/-- The least recently used cached entry; of equals, the one with the lower index (R346). -/
def evictIndex (s : State) : Option Nat :=
  (s.nfc.entries.foldl (fun (best : Option (Nat × Nat)) e =>
    if e.2.pinned then best
    else
      let r := recencyOf s.nfc.recency e.1
      match best with
      | none => some (e.1, r)
      | some b => if b.2 < r then some (e.1, r) else best) none).map (·.1)

/-- Writes an entry at an index, in APD and in MRAM, and makes it the most recently used one (R346, R347). -/
def listPut (idx : Nat) (e : ListEntry) (s : State) : State :=
  listTouch idx { s with nfc := { s.nfc with entries := sparseSet {} s.nfc.entries idx e } }

/-- An insert (R346): whether it evicted, or none where it failed with TABLE_FULL. Which free entry it takes is left open: the model
draws it. -/
def listInsert (e : ListEntry) (s : State) : Option Bool × State :=
  match listFind e.ktype e.klen e.key s with
  | some old => (some false, listPut old.1 e s)
  | none =>
    if s.nfc.entries.length < listSize then
      let (d, s) := drawNat s
      match freeIndex s.nfc.entries listSize d with
      | some i => (some false, listPut i e s)
      | none => (none, s)
    else match evictIndex s with
      | some i => (some true, listPut i e s)
      | none => (none, s)

/-- Removes the entry at an index. -/
def listRemove (idx : Nat) (s : State) : State :=
  { s with nfc := { s.nfc with entries := sparseSet {} s.nfc.entries idx {}, recency := s.nfc.recency.filter (fun i => i != idx) } }

/-- Removes every entry that a condition picks; their number. -/
def listRemoveIf (p : ListEntry → Bool) (s : State) : Nat × State :=
  let out := s.nfc.entries.filter fun e => p e.2
  (out.length, out.foldl (fun s e => listRemove e.1 s) s)

/-- A contract that the host accepted is learned: an existing entry is only refreshed (R349). -/
def learnContract (hash : List Byte) (limit : Nat) (s : State) : State :=
  if s.nfc.learn then
    let key := slice hash 0 16
    match listFind 4 16 key s with
    | some e => listTouch e.1 s
    | none => (listInsert { ktype := 4, klen := 16, key := key, limit := limit } s).2
  else s

/-- AUTH_LIST_EXPIRY: at a UTC day edge, entries whose EXPIRY_DAY is past are removed, unless the clock is unsynced (R348). -/
def listExpire (s : State) : State :=
  if s.clk.unsynced then s
  else (listRemoveIf (fun e => decide (e.expiry ≠ 0) && decide (e.expiry < s.clk.sec / 86400)) s).2

/-- AUTH_LIST_EXPIRY (R348). -/
def execAuthListExpiry (s : State) : Res := .next (if s.isReady 18 then listExpire s else s)

/-- LIST_RECENCY_SAVE, every 60 s (R347). -/
def execListRecencySave (s : State) : Res :=
  .next (if s.isReady 18 ∧ s.nfc.saveTick + 3840000 ≤ s.now then
      { s with nfc := { s.nfc with saved := s.nfc.recency, saveTick := s.now } }
    else s)

/-- After a reset that reached APD, the list comes back with the recency order of the last save (R347). -/
def listReload (s : State) : State :=
  { s with nfc := { s.nfc with recency := s.nfc.saved.filter fun i => s.nfc.entries.any fun e => e.1 == i } }

/-! ### Descriptors (R358) -/

/-- Entries of a batch, none where one is out of format or two match. -/
def parseBatch : Nat → List Byte → Option (List ListEntry)
  | 0, _ => some []
  | n + 1, b =>
    match ListEntry.ofBytes b, parseBatch n (b.drop 32) with
    | some e, some es => if es.any (fun x => x.hasKey e.ktype e.klen e.key) then none else some (e :: es)
    | _, _ => none

/-- Inserts in buffer order until the first TABLE_FULL: applied, evicted, and whether it stopped (R346, R358). -/
def insertAll : List ListEntry → Nat → Nat → State → (Nat × Nat × Bool) × State
  | [], a, v, s => ((a, v, false), s)
  | e :: es, a, v, s =>
    match listInsert e s with
    | (some ev, s) => insertAll es (a + 1) (v + b2n ev) s
    | (none, s) => ((a, v, true), s)

/-- NFC_LIST_WRITE (R346, R358). -/
def nfcListWrite (f : Flight) (s : State) : State :=
  let n := f.bufLen / 32
  if f.bufLen % 32 ≠ 0 ∨ n = 0 ∨ 512 < n then completeSt f .invalid s
  else match parseBatch n f.inBuf with
    | none => completeSt f .invalid s
    | some es =>
      let ((a, v, full), s) := insertAll es 0 0 s
      complete f (if full then .tableFull else .ok) 0 (leBytes 2 a ++ leBytes 2 v) none s

/-- NFC_LIST_WRITE (R346). -/
def runNfcListWrite (s : State) : Res := .next (dispatch 0x0801 nfcListWrite s)

/-- The key that LOOKUP and DELETE name, none where it is out of format (R344, R358). -/
def Flight.listKey (f : Flight) : Option (Nat × Nat × List Byte) :=
  let kt := f.p 16 1
  let kl := f.p 17 1
  let key := slice f.param 2 16
  if klenOk kt kl ∧ (key.drop kl).all (fun x => decide (x = 0)) then some (kt, kl, key) else none

/-- NFC_LIST_DELETE (R358). -/
def nfcListDelete (f : Flight) (s : State) : State :=
  match f.listKey with
  | none => completeSt f .invalid s
  | some (kt, kl, key) =>
    match listFind kt kl key s with
    | some e => complete f .ok 0 (leBytes 2 e.1) none (listRemove e.1 s)
    | none => complete f .ok 1 (leBytes 2 0xFFFF) none s

/-- NFC_LIST_DELETE (R358). -/
def runNfcListDelete (s : State) : Res := .next (dispatch 0x0802 nfcListDelete s)

/-- NFC_LIST_CLEAR (R358). -/
def nfcListClear (f : Flight) (s : State) : State :=
  let m := f.p 16 1
  if m = 0 ∨ 3 < m then completeSt f .invalid s
  else
    let (n, s) := listRemoveIf (fun e => if e.pinned then bitAt m 1 else bitAt m 0) s
    complete f .ok 0 (leBytes 2 n) none s

/-- NFC_LIST_CLEAR (R358). -/
def runNfcListClear (s : State) : Res := .next (dispatch 0x0803 nfcListClear s)

/-- NFC_LIST_LOOKUP (R345, R358). -/
def nfcListLookup (f : Flight) (s : State) : State :=
  match f.listKey with
  | none => completeSt f .invalid s
  | some (kt, kl, key) =>
    let (hit, s) := listLookup kt kl key s
    let data := match hit with
      | some (i, e) => [BitVec.ofNat 8 (lookupResult hit)] ++ leBytes 2 i ++ leBytes 8 e.ref ++ leBytes 2 e.limit
      | none => [0] ++ leBytes 2 0xFFFF
    complete f .ok 0 data none s

/-- NFC_LIST_LOOKUP (R345). -/
def runNfcListLookup (s : State) : Res := .next (dispatch 0x0804 nfcListLookup s)

/-- NFC_LIST_READ (R358). -/
def nfcListRead (f : Flight) (s : State) : State :=
  let first := f.p 16 2
  let n := f.p 18 2
  if n = 0 ∨ 512 < n ∨ listSize < first + n ∨ f.bufLen ≠ 32 * n then completeSt f .invalid s
  else
    let row (k : Nat) : List Byte :=
      let e := sparseGet {} s.nfc.entries (first + k)
      if e.ktype = 0 then List.replicate 32 0 else e.bytes
    complete f .ok 0 (leBytes 2 n) (some ((List.range n).flatMap row)) s

/-- NFC_LIST_READ (R358). -/
def runNfcListRead (s : State) : Res := .next (dispatch 0x0805 nfcListRead s)

end Sys2Proof.Machine
end

