-- ==== Sys2Proof/Machine/Crypto.lean ====
section
/-! DEFINITION. The published algorithms that the manual names (R9, R400, R401): CRC-32C, SHA-256, HMAC,
HKDF, AES with GCM, and P-256 with ECDSA and ECDH. Written from the published standards, PRESUMED (log 9). -/

namespace Sys2Proof.Machine

/-! ### CRC-32C (Castagnoli): reflected, initial and final value all ones. -/

/-- One bit of the reflected division. -/
def crcBit (c : Nat) : Nat := if c % 2 = 1 then Nat.xor (c / 2) 0x82F63B78 else c / 2

/-- One byte of the reflected division. -/
def crcByte (c : Nat) (b : Byte) : Nat :=
  crcBit (crcBit (crcBit (crcBit (crcBit (crcBit (crcBit (crcBit (Nat.xor c b.toNat))))))))

/-- CRC-32C of a list of bytes. -/
def crc32c (bs : List Byte) : Nat := Nat.xor (bs.foldl crcByte 0xFFFFFFFF) 0xFFFFFFFF

/-! ### SHA-256 (FIPS 180-4) -/

/-- Round constants. -/
def shaK : List Nat := [
  0x428A2F98, 0x71374491, 0xB5C0FBCF, 0xE9B5DBA5, 0x3956C25B, 0x59F111F1, 0x923F82A4, 0xAB1C5ED5,
  0xD807AA98, 0x12835B01, 0x243185BE, 0x550C7DC3, 0x72BE5D74, 0x80DEB1FE, 0x9BDC06A7, 0xC19BF174,
  0xE49B69C1, 0xEFBE4786, 0x0FC19DC6, 0x240CA1CC, 0x2DE92C6F, 0x4A7484AA, 0x5CB0A9DC, 0x76F988DA,
  0x983E5152, 0xA831C66D, 0xB00327C8, 0xBF597FC7, 0xC6E00BF3, 0xD5A79147, 0x06CA6351, 0x14292967] ++ [
  0x27B70A85, 0x2E1B2138, 0x4D2C6DFC, 0x53380D13, 0x650A7354, 0x766A0ABB, 0x81C2C92E, 0x92722C85,
  0xA2BFE8A1, 0xA81A664B, 0xC24B8B70, 0xC76C51A3, 0xD192E819, 0xD6990624, 0xF40E3585, 0x106AA070,
  0x19A4C116, 0x1E376C08, 0x2748774C, 0x34B0BCB5, 0x391C0CB3, 0x4ED8AA4A, 0x5B9CCA4F, 0x682E6FF3,
  0x748F82EE, 0x78A5636F, 0x84C87814, 0x8CC70208, 0x90BEFFFA, 0xA4506CEB, 0xBEF9A3F7, 0xC67178F2]

/-- Initial hash value. -/
def shaInit : List Nat := [0x6A09E667, 0xBB67AE85, 0x3C6EF372, 0xA54FF53A, 0x510E527F, 0x9B05688C, 0x1F83D9AB, 0x5BE0CD19]

/-- Rotation of a 32-bit word to the right. -/
def rotr (x n : Nat) : Nat := x / 2 ^ n + x % 2 ^ n * 2 ^ (32 - n)

/-- Addition of 32-bit words. -/
def add32 (a b : Nat) : Nat := (a + b) % 2 ^ 32

/-- One more word of the message schedule, which stands newest first. -/
def shaNext (w : List Nat) : List Nat :=
  let g i := w.getD i 0
  let s0 := Nat.xor (Nat.xor (rotr (g 14) 7) (rotr (g 14) 18)) (g 14 / 2 ^ 3)
  let s1 := Nat.xor (Nat.xor (rotr (g 1) 17) (rotr (g 1) 19)) (g 1 / 2 ^ 10)
  add32 (add32 (g 15) s0) (add32 (g 6) s1) :: w

/-- The 64 words of the message schedule. -/
def shaSchedule (block : List Byte) : List Nat :=
  let w0 := (List.range 16).map fun i => beAt block (4 * i) 4
  ((List.range 48).foldl (fun w _ => shaNext w) w0.reverse).reverse

/-- One round over the eight working variables. -/
def shaRound (v : List Nat) (kw : Nat × Nat) : List Nat :=
  match v with
  | [a, b, c, d, e, f, g, h] =>
    let s1 := Nat.xor (Nat.xor (rotr e 6) (rotr e 11)) (rotr e 25)
    let ch := Nat.xor (Nat.land e f) (Nat.land (0xFFFFFFFF - e) g)
    let t1 := add32 (add32 h s1) (add32 ch (add32 kw.1 kw.2))
    let s0 := Nat.xor (Nat.xor (rotr a 2) (rotr a 13)) (rotr a 22)
    let mj := Nat.xor (Nat.xor (Nat.land a b) (Nat.land a c)) (Nat.land b c)
    [add32 t1 (add32 s0 mj), a, b, c, add32 d t1, e, f, g]
  | _ => v

/-- One block. -/
def shaBlock (h : List Nat) (block : List Byte) : List Nat :=
  List.zipWith add32 h ((List.zip shaK (shaSchedule block)).foldl shaRound h)

/-- Blocks of 64 bytes; the first argument is at least their number. -/
def shaBlocks : Nat → List Nat → List Byte → List Nat
  | 0, h, _ => h
  | n + 1, h, bs => match bs with
    | [] => h
    | _ => shaBlocks n (shaBlock h (bs.take 64)) (bs.drop 64)

/-- SHA-256 of a list of bytes. -/
def sha256 (bs : List Byte) : List Byte :=
  let l := bs.length
  let padded := bs ++ [0x80#8] ++ List.replicate ((119 - l % 64) % 64) 0 ++ beBytes 8 (8 * l)
  (shaBlocks (padded.length / 64) shaInit padded).flatMap (beBytes 4)

/-- HMAC-SHA-256 (FIPS 198-1). -/
def hmac (key msg : List Byte) : List Byte :=
  let k := slice (if 64 < key.length then sha256 key else key) 0 64
  sha256 (k.map (· ^^^ 0x5C) ++ sha256 (k.map (· ^^^ 0x36) ++ msg))

/-- HKDF-SHA-256 (RFC 5869) for at most 32 · n bytes, of which the first len are taken. -/
def hkdf (salt ikm info : List Byte) (len : Nat) : List Byte :=
  let prk := hmac salt ikm
  let step (acc : List Byte × List Byte) (i : Nat) :=
    let t := hmac prk (acc.1 ++ info ++ [BitVec.ofNat 8 (i + 1)])
    (t, acc.2 ++ t)
  ((List.range ((len + 31) / 32)).foldl step ([], [])).2.take len

/-! ### AES (FIPS 197) and GCM (SP 800-38D) -/

/-- Multiplication by x in GF(2⁸). -/
def xtime (a : Nat) : Nat := if 128 ≤ a then Nat.xor (2 * a) 0x11B else 2 * a

/-- Product in GF(2⁸). -/
def gmul (a b : Nat) : Nat :=
  ((List.range 8).foldl (fun (acc : Nat × Nat) i =>
    (if bitAt b i then Nat.xor acc.1 acc.2 else acc.1, xtime acc.2)) (0, a)).1

/-- Inverse in GF(2⁸) as the 254th power; 0 for 0. -/
def ginv (a : Nat) : Nat :=
  let a2 := gmul a a
  let a3 := gmul a2 a
  let a12 := let x := gmul a3 a3; gmul x x
  let a15 := gmul a12 a3
  let a240 := let x := gmul a15 a15; let y := gmul x x; let z := gmul y y; gmul z z
  gmul a240 (gmul a12 a2)

/-- The S-box. -/
def sbox (a : Nat) : Nat :=
  let b := ginv a
  let rot n := (b * 2 ^ n) % 256 + b / 2 ^ (8 - n)
  Nat.xor (Nat.xor (Nat.xor (Nat.xor b (rot 1)) (rot 2)) (Nat.xor (rot 3) (rot 4))) 0x63

/-- Exclusive or of two lists of numbers. -/
def xorL (a b : List Nat) : List Nat := List.zipWith Nat.xor a b

/-- Words of the key schedule; nk is 4 or 8. -/
def aesExpand (key : List Nat) : List (List Nat) :=
  let nk := key.length / 4
  let w0 := (List.range nk).map fun i => (key.drop (4 * i)).take 4
  let step (st : List (List Nat) × Nat) (i : Nat) :=
    let i := nk + i
    let t := st.1.headD []
    let (t, rc) :=
      if i % nk = 0 then
        let u := (t.drop 1 ++ t.take 1).map sbox
        (xorL u [st.2, 0, 0, 0], xtime st.2)
      else if nk = 8 ∧ i % 8 = 4 then (t.map sbox, st.2)
      else (t, st.2)
    (xorL (st.1.getD (nk - 1) []) t :: st.1, rc)
  ((List.range (4 * (nk + 7) - nk)).foldl step (w0.reverse, 1)).1.reverse

/-- Shift rows of a block held by columns. -/
def shiftRows (b : List Nat) : List Nat :=
  (List.range 16).map fun i => b.getD ((i + 4 * (i % 4)) % 16) 0

/-- Mix columns. -/
def mixColumns (b : List Nat) : List Nat :=
  (List.range 16).map fun i =>
    let c := i / 4 * 4
    let g j := b.getD (c + (i + j) % 4) 0
    Nat.xor (Nat.xor (gmul (g 0) 2) (gmul (g 1) 3)) (Nat.xor (g 2) (g 3))

/-- AES of one 16-byte block under a 16-byte or 32-byte key. -/
def aesBlock (key block : List Byte) : List Byte :=
  let w := aesExpand (key.map BitVec.toNat)
  let nr := key.length / 4 + 6
  let rk r := ((w.drop (4 * r)).take 4).flatten
  let s0 := xorL (block.map BitVec.toNat) (rk 0)
  let s := (List.range nr).foldl (fun s r =>
    let t := shiftRows (s.map sbox)
    xorL (if r + 1 = nr then t else mixColumns t) (rk (r + 1))) s0
  s.map (BitVec.ofNat 8)

/-- Product in GF(2¹²⁸) in the bit order of GCM. -/
def ghashMul (x y : Nat) : Nat :=
  ((List.range 128).foldl (fun (acc : Nat × Nat) i =>
    let z := if bitAt x (127 - i) then Nat.xor acc.1 acc.2 else acc.1
    let v := if acc.2 % 2 = 1 then Nat.xor (acc.2 / 2) (0xE1 * 2 ^ 120) else acc.2 / 2
    (z, v)) (0, y)).1

/-- 16-byte blocks of a list, the last padded with zeros. -/
def blocks16 (bs : List Byte) : List (List Byte) :=
  (List.range ((bs.length + 15) / 16)).map fun i => slice bs (16 * i) 16

/-- GHASH. -/
def ghash (h : Nat) (bs : List Byte) : Nat :=
  (blocks16 bs).foldl (fun y b => ghashMul (Nat.xor y (beNat b)) h) 0

/-- Padding with zeros to whole blocks. -/
def pad16 (bs : List Byte) : List Byte := slice bs 0 ((bs.length + 15) / 16 * 16)

/-- Counter-mode keystream application from a counter block with 12-byte nonce. -/
def gctr (key iv : List Byte) (first : Nat) (bs : List Byte) : List Byte :=
  ((blocks16 bs).zipIdx.flatMap fun bi =>
    List.zipWith (· ^^^ ·) bi.1 (aesBlock key (iv ++ beBytes 4 (first + bi.2)))).take bs.length

/-- GCM tag of additional data and ciphertext under a 12-byte nonce. -/
def gcmTag (key iv aad ct : List Byte) : List Byte :=
  let h := beNat (aesBlock key (List.replicate 16 0))
  let s := ghash h (pad16 aad ++ pad16 ct ++ beBytes 8 (8 * aad.length) ++ beBytes 8 (8 * ct.length))
  List.zipWith (· ^^^ ·) (beBytes 16 s) (aesBlock key (iv ++ beBytes 4 1))

/-- GCM encryption: ciphertext and tag. -/
def gcmEncrypt (key iv aad pt : List Byte) : List Byte × List Byte :=
  let ct := gctr key iv 2 pt
  (ct, gcmTag key iv aad ct)

/-- GCM decryption, none where the tag does not match. -/
def gcmDecrypt (key iv aad ct tag : List Byte) : Option (List Byte) :=
  if gcmTag key iv aad ct = tag then some (gctr key iv 2 ct) else none

/-! ### P-256 (FIPS 186-5, SEC 1) -/

/-- The field prime, the order and the base point. -/
def p256p : Nat := 0xFFFFFFFF00000001000000000000000000000000FFFFFFFFFFFFFFFFFFFFFFFF
def p256n : Nat := 0xFFFFFFFF00000000FFFFFFFFFFFFFFFFBCE6FAADA7179E84F3B9CAC2FC632551
def p256b : Nat := 0x5AC635D8AA3A93E7B3EBBD55769886BC651D06B0CC53B0F63BCE3C3E27D2604B
def p256g : Nat × Nat :=
  (0x6B17D1F2E12C4247F8BCE6E563A440F277037D812DEB33A0F4A13945D898C296,
   0x4FE342E2FE1A7F9B8EE7EB4A7C0F9E162BCE33576B315ECECBB6406837BF51F5)

/-- Power modulo m over the low `bits` bits of the exponent. -/
def powMod (m : Nat) : Nat → Nat → Nat → Nat
  | 0, _, _ => 1 % m
  | bits + 1, b, e =>
    let r := powMod m bits (b * b % m) (e / 2)
    if e % 2 = 1 then b * r % m else r

/-- Inverse modulo a prime. -/
def invMod (m a : Nat) : Nat := powMod m 256 (a % m) (m - 2)

/-- Difference modulo m of numbers below m. -/
def subMod (m a b : Nat) : Nat := (a + m - b % m) % m

/-- Sum of two points; none is the point at infinity. -/
def ecAdd (a b : Option (Nat × Nat)) : Option (Nat × Nat) :=
  match a, b with
  | none, b => b
  | a, none => a
  | some (x1, y1), some (x2, y2) =>
    let p := p256p
    if x1 = x2 ∧ (y1 + y2) % p = 0 then none
    else
      let l := if x1 = x2 then (3 * x1 * x1 + (p - 3)) % p * invMod p (2 * y1) % p
        else subMod p y2 y1 * invMod p (subMod p x2 x1) % p
      let x3 := subMod p (subMod p (l * l % p) x1) x2
      some (x3, subMod p (l * subMod p x1 x3 % p) y1)

/-- Multiple of a point over the low `bits` bits of the number. -/
def ecMul : Nat → Nat → Option (Nat × Nat) → Option (Nat × Nat)
  | 0, _, _ => none
  | bits + 1, k, q =>
    let r := ecMul bits (k / 2) (ecAdd q q)
    if k % 2 = 1 then ecAdd q r else r

/-- A point lies on the curve. -/
def onCurve (q : Nat × Nat) : Bool :=
  decide (q.1 < p256p) && decide (q.2 < p256p) &&
    decide (q.2 * q.2 % p256p = (q.1 * q.1 % p256p * q.1 + (p256p - 3) * q.1 + p256b) % p256p)

/-- A point from SEC 1 uncompressed form, none where it is malformed or off the curve. -/
def decodePoint (bs : List Byte) : Option (Nat × Nat) :=
  let q := (beAt bs 1 32, beAt bs 33 32)
  if bs.length = 65 ∧ byteAt bs 0 = 4 ∧ onCurve q then some q else none

/-- SEC 1 uncompressed form. -/
def encodePoint (q : Option (Nat × Nat)) : List Byte :=
  match q with
  | some (x, y) => 4 :: (beBytes 32 x ++ beBytes 32 y)
  | none => List.replicate 65 0

/-- Public key of a private key. -/
def publicOf (d : Nat) : List Byte := encodePoint (ecMul 256 d (some p256g))

/-- An ECDSA signature with nonce k over a digest, s in its low form (R401); none where r or s is 0. -/
def ecdsaSign (d k : Nat) (digest : List Byte) : Option (List Byte) :=
  let n := p256n
  match ecMul 256 k (some p256g) with
  | none => none
  | some (x, _) =>
    let r := x % n
    let s := invMod n k * ((beNat digest + r * d) % n) % n
    let s := if n / 2 < s then n - s else s
    if r = 0 ∨ s = 0 then none else some (beBytes 32 r ++ beBytes 32 s)

/-- Key and value of the generator of RFC 6979 (3.2 and 3.6) over a private key, a digest and additional data. -/
def nonceStart (d : Nat) (digest extra : List Byte) : List Byte × List Byte :=
  let m := beBytes 32 d ++ beBytes 32 (beNat digest % p256n) ++ extra
  let v := List.replicate 32 1
  let k := hmac (List.replicate 32 0) (v ++ 0 :: m)
  let v := hmac k v
  let k := hmac k (v ++ 1 :: m)
  (k, hmac k v)

/-- The first of at most n candidates of the generator that gives a signature (RFC 6979, 3.2 h). -/
def ecdsaTry (d : Nat) (digest : List Byte) : Nat → List Byte → List Byte → Option (List Byte)
  | 0, _, _ => none
  | n + 1, k, v =>
    let v := hmac k v
    let t := beNat v
    match (if 0 < t ∧ t < p256n then ecdsaSign d t digest else none) with
    | some sig => some sig
    | none =>
      let k := hmac k (v ++ [0])
      ecdsaTry d digest n k (hmac k v)

/-- A signature whose nonce follows RFC 6979 with additional data (R401); none after 16 candidates without one (log 46). -/
def signRfc6979 (d : Nat) (digest extra : List Byte) : Option (List Byte) :=
  let kv := nonceStart d digest extra
  ecdsaTry d digest 16 kv.1 kv.2

/-- ECDSA verification; r or s that is 0 or not below n is rejected, s of either form accepted (R401). -/
def ecdsaVerify (pub digest sig : List Byte) : Bool :=
  let n := p256n
  let r := beAt sig 0 32
  let s := beAt sig 32 32
  match decodePoint pub with
  | none => false
  | some q =>
    if r = 0 ∨ s = 0 ∨ n ≤ r ∨ n ≤ s then false
    else
      let w := invMod n s
      match ecAdd (ecMul 256 (beNat digest * w % n) (some p256g)) (ecMul 256 (r * w % n) (some q)) with
      | none => false
      | some (x, _) => decide (x % n = r)

/-- The shared x coordinate of ECDH, none at infinity or off the curve. -/
def ecdhShared (d : Nat) (pub : List Byte) : Option (List Byte) :=
  match decodePoint pub with
  | none => none
  | some q => (ecMul 256 d (some q)).map fun z => beBytes 32 z.1

end Sys2Proof.Machine
end

