-- ==== Sys2Proof/Machine/Sensing.lean ====
section
/-! DEFINITION. The sensing chain: slots and their configuration, the decimation engine, overload, the
benchmark, raw capture and the seal (chapter 04). -/

namespace Sys2Proof.Machine

/-! ### Slots (R90 to R95) -/

/-- KIND of a slot (R95). -/
def slotKind (k : Fin 72) : Nat :=
  if k.val < 64 then
    if k.val % 8 < 3 then 0 else if k.val % 8 = 3 then 1 else if k.val % 8 < 7 then 2 else 3
  else if k.val < 67 then 5 else if k.val < 70 then 4 else if k.val = 70 then 6 else 7

/-- The group that a slot belongs to: outlet 0 to 7, or 8 for slots 64 to 71. -/
def slotGroup (k : Fin 72) : Group := Fin.ofNat 9 (k.val / 8)

/-- Slot j of outlet n. -/
def outletSlot (n : Outlet8) (j : Fin 8) : Fin 72 := ⟨8 * n.val + j.val, by omega⟩

/-- Outlet n is in DC metering mode (R95). -/
def isDc (s : State) (n : Outlet8) : Bool := s.fuse.dcMask.getLsbD n.val

/-- An outlet is at rest (R476). -/
def Outlet.atRest (o : Outlet) : Bool :=
  match o.state with
  | .idle | .ended | .disabled => true
  | .fault => decide (o.chkMirror = .passed) && decide (o.chkVolt = .passed)
  | _ => false

/-- Every outlet is at rest. -/
def allAtRest (s : State) : Bool := s.ses.out.toList.all Outlet.atRest

/-- The owner of a slot is at rest; slots 64 to 69 have none (R93). -/
def ownerAtRest (k : Fin 72) (s : State) : Bool :=
  if h : k.val / 8 < 8 then (s.ses.out[k.val / 8]).atRest else true

/-- TYPE is allowed on a slot (R92, R95). -/
def typeAllowed (s : State) (k : Fin 72) (type : Nat) : Bool :=
  if h : k.val < 64 then
    if isDc s ⟨k.val / 8, by omega⟩ then
      if k.val % 8 = 0 then decide (type ≤ 1) else if k.val % 8 = 4 then decide (type = 0 ∨ type = 4) else false
    else match slotKind k with
      | 2 => decide (type = 0 ∨ type = 4)
      | 3 => decide (type = 0 ∨ type = 2)
      | _ => decide (type ≤ 3)
  else match slotKind k with
    | 5 => decide (type = 0 ∨ type = 4)
    | 4 => decide (type ≤ 3)
    | _ => false

/-- TYPE in force: an idle slot of a DC outlet reads 0 (R95). -/
def effType (s : State) (k : Fin 72) : Nat :=
  if h : k.val < 64 then
    if isDc s ⟨k.val / 8, by omega⟩ && decide (k.val % 8 ≠ 0 ∧ k.val % 8 ≠ 4) then 0 else (s.adc.cfg[k.val]).type
  else (s.adc.cfg[k.val]).type

/-- The slots of a group are settling in a tick (R94). -/
def settling (s : State) (g : Group) (tick : Tick) : Bool :=
  match s.adc.settleEnd[g.val] with
  | some t => decide (tick < t)
  | none => false

/-- A write is ignored and CFG_REJECT of MTR_STATUS set (R93). -/
def mtrReject (s : State) : State := { s with adc := { s.adc with cfgReject := true } }

/-- A write to MTR_CHCFGk (R93 to R95). -/
def writeChcfg (k : Fin 72) (v : Nat) (s : State) : State :=
  let type := bitsOf v 0 3
  if s.adc.sealed || !ownerAtRest k s || !typeAllowed s k type then mtrReject s
  else { s with adc := { s.adc with pendCfg := s.adc.pendCfg ++ [(k, { type := type, inv := bitAt v 3 })] } }

/-- MTR_CHCFG_WRITE (R94). -/
def execMtrChcfgWrite (k : Fin 72) (v : W32) (s : State) : Res :=
  .next (if s.isReady 16 then writeChcfg k v.toNat s else s)

/-- A write to MTR_GCFG (R93, R94). -/
def writeGcfg (v : Nat) (s : State) : State :=
  if s.adc.sealed || !allAtRest s then mtrReject s
  else { s with adc := { s.adc with pendNomF := some (bitAt v 0) } }

/-- MTR_GCFG_WRITE (R94). -/
def execMtrGcfgWrite (v : W32) (s : State) : Res := .next (if s.isReady 16 then writeGcfg v.toNat s else s)

/-- MTR_SEAL_SET: SEALED is write-1-to-set (R95). -/
def execMtrSealSet (s : State) : Res :=
  .next (if s.isReady 16 then { s with adc := { s.adc with sealed := true } } else s)

/-- SETTLING_END (R94). -/
def execSettlingEnd (g : Group) (s : State) : Res :=
  .next (match s.adc.settleEnd[g.val] with
    | some t => if t ≤ s.now then { s with adc := { s.adc with settleEnd := s.adc.settleEnd.set g.val none } } else s
    | none => s)

/-- A group starts, or starts again, its 256 ticks of settling (R94). -/
def startSettling (g : Group) (s : State) : State :=
  { s with adc := { s.adc with settleEnd := s.adc.settleEnd.set g.val (some (s.now + 256)) } }

/-- Group 8 settles for a slot of 64 to 69; the writes of this tick edge take effect (R94). A capture that has been accepted and has not
completed counts as running (R112; log 175). -/
def applyChannelCfg (s : State) : State :=
  let changed := !s.adc.pendCfg.isEmpty || s.adc.pendNomF.isSome
  let s := s.adc.pendCfg.foldl (fun s kc =>
    startSettling (slotGroup kc.1) { s with adc := { s.adc with cfg := s.adc.cfg.set kc.1.val kc.2 } }) s
  let s := match s.adc.pendNomF with
    | none => s
    | some f =>
      let s := { s with adc := { s.adc with nomF60 := f } }
      (allFin 9).foldl (fun s g =>
        if (allFin 72).any (fun k => decide (slotGroup k = g) && decide (effType s k = 3)) then startSettling g s else s) s
  let cap := if changed then s.adc.capture.map (fun c => { c with cfgChange := true }) else s.adc.capture
  { s with adc := { s.adc with pendCfg := [], pendNomF := none, capture := cap } }

/-! ### The decimation engine (R96 to R101) -/

/-- Product of polynomials given by their coefficients. -/
def polyMul (a b : List Int) : List Int :=
  (List.range (a.length + b.length - 1)).map fun i =>
    (List.range (i + 1)).foldl (fun acc j => acc + a.getD j 0 * b.getD (i - j) 0) 0

/-- Impulse response of the sinc⁵: five boxcars of 24 (R96). -/
def sinc5 : List Int :=
  let b : List Int := List.replicate 24 1
  polyMul (polyMul (polyMul (polyMul b b) b) b) b

/-- Half-band coefficients over 2¹⁸, from one end to the other (R97). -/
def halfBand1 : List Int := [4090, 0, -17092, 0, 78538, 131072, 78538, 0, -17092, 0, 4090]
def halfBand2 : List Int := [-9988, 0, 75524, 131072, 75524, 0, -9988]

/-- Saturation of a 32-bit internal word (R98). -/
def sat32 (v : Int) : Int := clampInt (-(2 ^ 31)) (2 ^ 31 - 1) v

/-- Sum of products. -/
def dot (a b : List Int) : Int := (List.zipWith (· * ·) a b).foldl (· + ·) 0

/-- Stages 1 and 2 at the end of each 24 bits: `all` holds 128 old bits below the 96 new ones. A 1 bit
counts +1, a 0 bit −1 (log 13). -/
def stage2 (all : Nat) (j : Nat) : Int :=
  let top := 128 + 24 * (j + 1) - 1
  let bits := (List.range 116).map fun i => if bitAt all (top - i) then (1 : Int) else -1
  sat32 (roundDiv (dot sinc5 bits * 65536) 243)

/-- A half-band filter at the newest of its inputs, which stand newest first. -/
def halfBand (taps : List Int) (x : List Int) : Int := sat32 (roundDiv (dot taps x) 262144)

/-- Stages 1 to 4 of one slot for the 96 bits of a tick: the stage-4 word and what is remembered. -/
def decimate (d : SlotDec) (mods : BitVec 96) : Int × SlotDec :=
  let all := d.bits.toNat + mods.toNat * 2 ^ 128
  let w j := stage2 all j
  let s2a := w 1 :: w 0 :: d.s2
  let h1 := halfBand halfBand1 (s2a.take 11)
  let s2b := w 3 :: w 2 :: s2a
  let h2 := halfBand halfBand1 (s2b.take 11)
  let s3 := h2 :: h1 :: d.s3
  let out := halfBand halfBand2 (s3.take 7)
  (out, { d with bits := BitVec.ofNat 128 (all / 2 ^ 96), s2 := s2b.take 10, s3 := s3.take 6 })

/-- Limit of stage 5 (R105). -/
def clampLimit : Int := 0x6C000000

/-- π as a rational, to 30 digits (log 14). -/
def ratPi : Rat := 3141592653589793238462643383280 / 1000000000000000000000000000000

/-- Stage 7 for one sample: the 48 bits of y are the 32-bit word and 16 bits of fraction, saturating (R104; log 172). -/
def integrate (f60 : Bool) (d : SlotDec) (x : Int) : Int × SlotDec :=
  let f : Rat := if f60 then 60 else 50
  let a : Rat := 1 - 2 * ratPi / 4 / 64000
  let c : Rat := 2 * ratPi * f / 64000
  let y := clampInt (-(2 ^ 47)) (2 ^ 47 - 1) (roundRat (a * d.y + c / 2 * (x + d.xPrev) * 65536))
  let (o, comp) := Config.rogowskiComp d.comp (sat32 (roundDiv y 65536))
  (sat32 o, { d with y := y, xPrev := x, comp := comp })

/-- Stage 8: reduction to 24 bits (R96, R98). -/
def stage8 (x : Int) : Int :=
  let v := roundDiv x 256
  if v < -(2 ^ 23) ∨ 2 ^ 23 ≤ v then Config.stage8Over v else v

/-- One slot in one tick: its new memory, whether its sample was clamped, and its stage-4 word. TYPE 0 clears the chain, another
TYPE keeps what the integrator holds for a later return to TYPE 3 (log 149). -/
def slotTick (gain : Rat) (f60 : Bool) (type : Nat) (inv : Bool) (k : Fin 72) (d : SlotDec) (mods : BitVec 96) :
    SlotDec × Bool × Int :=
  if type = 0 then ({}, false, 0)
  else
    let (x4, d) := decimate d mods
    let held := decide (0 < d.holdTicks)
    let (hold, neg) := match d.holdNext with | some n => (6, n) | none => (d.holdTicks - 1, d.holdNeg)
    let lim := held || decide (clampLimit ≤ x4 ∨ x4 ≤ -clampLimit)
    let x5 := if held then (if d.holdNeg then -clampLimit else clampLimit)
      else clampInt (-clampLimit) clampLimit x4
    let x6 := if k.val < 70 then
        let g := sat32 (roundRat (x5 * gain))
        if inv then sat32 (-g) else g
      else x5
    let (x7, d) := if type = 3 then integrate f60 d x6 else (x6, d)
    ({ d with holdTicks := hold, holdNeg := neg, holdNext := none, sample := stage8 x7, tap0 := stage8 x4, clamped := lim }, lim, x4)

/-- MTR_OVERLOAD: the detector resets the modulator, and the samples of the 6 ticks that follow are held (R105). -/
def execMtrOverload (k : Fin 72) (neg : Bool) (s : State) : Res :=
  .next (if s.rst.msdUp && decide (effType s k ≠ 0) then
    { s with adc := { s.adc with dec := vmod s.adc.dec k fun d => { d with holdNext := some neg } } }
  else s)

/-- OVL bits of a group of eight slots. -/
def ovlGroup (v : BitVec 72) (g : Group) : Nat := bitsOf v.toNat (8 * g.val) 8

/-- MTR_OVERLOAD events for groups whose bits were all 0 before this tick (R105). -/
def postOverloads (before : BitVec 72) (s : State) : State :=
  (allFin 9).foldl (fun s g =>
    if ovlGroup before g = 0 ∧ ovlGroup s.adc.ovl g ≠ 0 then
      post 0x0101 (if g.val = 8 then 0xFF else g.val) [BitVec.ofNat 8 (ovlGroup s.adc.ovl g)] s
    else s) s

/-- The samples of the present tick are written: 72 slots, ascending (R96, R101, R105, R106, R108). -/
def tickSamples (mods : List (BitVec 96)) (s : State) : State :=
  let before := s.adc.ovl
  let s := (allFin 72).foldl (fun s k =>
    let (d, lim, x4) := slotTick s.adc.gain s.adc.nomF60 (effType s k) (s.adc.cfg[k.val]).inv k
      (s.adc.dec[k.val]) (mods.getD k.val 0)
    let ovl := if lim then s.adc.ovl ||| BitVec.ofNat 72 (2 ^ k.val) else s.adc.ovl
    let sumRef := if k.val = 70 then s.adc.sumRef + x4 else s.adc.sumRef
    let sumTmp := if k.val = 71 then s.adc.sumTmp + x4 else s.adc.sumTmp
    { s with adc := { s.adc with dec := s.adc.dec.set k.val d, ovl := ovl, sumRef := sumRef, sumTmp := sumTmp } }) s
  let first := s.adc.tmpFirst.map fun p => if p.2 < 64 then (p.1 + (s.adc.dec[71]).sample, p.2 + 1) else p
  postOverloads before { s with adc := { s.adc with tmpFirst := first } }

/-! ### Benchmark calibration (R106 to R108) -/

/-- e^(−1/60), to 20 digits: one step of the 60 s filter (log 14). -/
def expMin60 : Rat := 98347145382161748948 / 100000000000000000000

/-- The sums of the second just ended are set aside at a GTC that is a multiple of 64,000 (R106). -/
def benchSecond (s : State) : State :=
  if s.now % 64000 = 0 ∧ 0 < s.now then
    { s with adc := { s.adc with second := some (s.adc.sumRef, s.adc.sumTmp), sumRef := 0, sumTmp := 0 } }
  else s

/-- Temperature in 1/16 °C of a mean slot-71 code: T = code / 32,768 − 64 °C (R108). -/
def tempOf (code : Rat) : Int := roundRat (code / 2048 - 1024)

/-- Steps since a condition was present; after 60 steps without it the flag clears (R107). -/
def absentStep (now flag : Bool) (n : Nat) : Bool × Nat :=
  if now then (true, 0) else if flag then (if 60 ≤ n + 1 then (false, 0) else (true, n + 1)) else (false, 0)

/-- One calibration step (R106, R107): E(T) is taken at the temperature in 1/16 °C (log 174), and the ratio of a second with FAULT does not
enter the filter (log 173). -/
def benchStep (sums : Int × Int) (s : State) : State :=
  let mean : Rat := (sums.1 : Rat) / 64000
  let temp := tempOf ((sums.2 : Rat) / 64000 / 256)
  let e := Config.benchTable temp
  let diff := if mean < e then e - mean else mean - e
  let absE := if e < 0 then -e else e
  let bad := decide (absE / 20 < diff)
  let filt : Rat := match s.adc.gFilt with | some g => g | none => s.adc.gain
  let filt' := if bad then filt else filt + (e / mean - filt) * (1 - expMin60)
  let lo : Rat := 1 - 2 / 1000
  let hi : Rat := 1 + 2 / 1000
  let out := decide (filt' < lo ∨ hi < filt')
  let target := if filt' < lo then lo else if hi < filt' then hi else filt'
  let step : Rat := 2 / 1000000
  let g := s.adc.gain
  let g' := if bad then g else if target < g - step then g - step else if g + step < target then g + step else target
  let (fault, fa) := absentStep bad s.adc.fault s.adc.faultAbsent
  let (clamp, ca) := absentStep out s.adc.clamp s.adc.clampAbsent
  let s := { s with adc := { s.adc with gFilt := some filt', gainNext := some g', tmp := temp, second := none,
                                        fault := fault, faultAbsent := fa, clamp := clamp, clampAbsent := ca } }
  if bad || out then setReplace 4 s else s

/-- BENCHMARK_CALIBRATION: in a calibration tick, where a second has ended (R58, R106). -/
def runBenchmarkCalibration (s : State) : Res :=
  .next (match s.adc.second with
    | some sums =>
      if s.now % 64000 ≠ 0 ∧ 0x30 ≤ s.now % 64 ∧ s.now % 64 ≤ 0x37 then benchStep sums s else s
    | none => s)

/-- BENCH_GAIN_SAVE: every 60 s (R106). -/
def execBenchGainSave (s : State) : Res :=
  .next (if s.rst.msdUp ∧ s.adc.gainSaveTick + 60 * 64000 ≤ s.now then
    { s with adc := { s.adc with gainSaved := s.adc.gain, gainSaveTick := s.now } } else s)

/-- MTR_TMP_FIRST_WRITE: the mean of the 64 ticks after the MTR bit set (R108). -/
def execMtrTmpFirstWrite (s : State) : Res :=
  .next (match s.adc.tmpFirst with
    | some (sum, n) =>
      if n = 64 then { s with adc := { s.adc with tmp := tempOf ((sum : Rat) / 64), tmpFirst := none } } else s
    | none => s)

/-- The gain formed by the last step is applied from this tick edge (R106). -/
def applyGain (s : State) : State :=
  match s.adc.gainNext with
  | some g => { s with adc := { s.adc with gain := g, gainNext := none } }
  | none => s

/-! ### Raw capture (R111, R112) -/

/-- Slots of a mask in ascending order. -/
def maskSlots (m : Nat) : List (Fin 72) := (allFin 72).filter fun k => bitAt m k.val

/-- MTR_RAW_CAPTURE (R111, R112). -/
def mtrRawCapture (f : Flight) (s : State) : State :=
  let start := f.p 16 6
  let slots := maskSlots (f.p 24 9)
  let tap := f.p 33 1
  let count := f.p 34 2
  if slots.isEmpty ∨ count = 0 ∨ 4096 < count ∨ 2 < tap ∨ s.now + 64000 < start ∨
      f.bufLen ≠ 4 * count * slots.length then completeSt f .invalid s
  else if s.adc.capture.isSome then completeSt f .busy s
  else
    let c : Capture := { seq := f.seq, first := max start (s.now + 1), slots := slots, tap := tap, count := count,
                         early := decide (start ≠ 0 ∧ start < s.now + 1) }
    keepRunning f { s with adc := { s.adc with capture := some c } }

/-- MTR_RAW_CAPTURE (R112). -/
def runMtrRawCapture (s : State) : Res := .next (dispatch 0x0110 mtrRawCapture s)

/-- The value of a slot at a tap in the present tick; `corrected` is the tap 2 code (R111, R112). -/
def tapValue (s : State) (tap : Nat) (corrected : Fin 72 → Int) (k : Fin 72) : Int :=
  if effType s k = 0 || settling s (slotGroup k) s.now && decide (k.val < 70) then 0
  else match tap with
    | 0 => (s.adc.dec[k.val]).tap0
    | 1 => (s.adc.dec[k.val]).sample
    | _ => if k.val < 70 then corrected k else (s.adc.dec[k.val]).sample

/-- A running capture takes the samples of this tick, one that was aborted those of its last (R111, R112). -/
def tickCapture (corrected : Fin 72 → Int) (s : State) : State :=
  match s.adc.capture with
  | none => s
  | some c =>
    if (c.aborted && decide (c.abortTick < s.now)) || decide (s.now < c.first) || decide (c.count ≤ c.done) then s
    else
      let ws := c.slots.map fun k => BitVec.ofInt 32 (tapValue s c.tap corrected k)
      let lim := c.slots.any fun k => (s.adc.dec[k.val]).clamped
      let c' := { c with words := ws.reverse ++ c.words, done := c.done + 1, clamped := c.clamped || lim }
      { s with adc := { s.adc with capture := some c' } }

/-- RAW_CAPTURE_DONE: in the tick after the last sample (R112). -/
def rawDone (s : State) : State :=
  match s.adc.capture with
  | none => s
  | some c =>
    if (c.aborted && decide (c.abortTick < s.now)) || (decide (c.count ≤ c.done) && decide (c.first + c.count ≤ s.now)) then
      let detail := b2n c.early + 2 * b2n c.cfgChange + 4 * b2n c.aborted
      completeSeq c.seq .ok detail (leBytes 6 c.first ++ leBytes 2 c.done ++ leBytes 1 (b2n c.clamped))
        (some (c.words.reverse.flatMap fun w => leBytes 4 w.toNat))
        { s with adc := { s.adc with capture := none } }
    else s

/-- RAW_CAPTURE_DONE (R112). -/
def runRawCaptureDone (s : State) : Res := .next (rawDone s)

/-- MTR_RAW_ABORT (R112). -/
def mtrRawAbort (f : Flight) (s : State) : State :=
  match s.adc.capture with
  | some c =>
    completeSt f .ok { s with adc := { s.adc with capture := some { c with aborted := true, abortTick := s.now } } }
  | none => completeSt f .conflict s

/-- MTR_RAW_ABORT (R112). -/
def runMtrRawAbort (s : State) : Res := .next (dispatch 0x0111 mtrRawAbort s)

/-! ### The seal (R113) -/

/-- Value of MTR_SEAL. -/
def sealWord (s : State) : Nat := b2n s.adc.sealed + field 16 16 s.adc.sealCount.toNat

/-- The message that an unseal must carry (R113). -/
def unsealMessage (s : State) : List Byte :=
  [0x55, 0x4E, 0x53, 0x4C] ++ beBytes 8 s.fuse.serial.toNat ++ beBytes 4 s.adc.sealCount.toNat

/-- MTR_UNSEAL: checks at dispatch, then the verification as a long operation (R113, R400). -/
def mtrUnseal (f : Flight) (s : State) : State :=
  let slot := f.p 16 1
  if ¬(slot = 2 ∨ slot = 3) ∨ f.bufLen ≠ 80 then completeSt f .invalid s
  else if !s.adc.sealed ∨ s.adc.sealCount = 0xFFFF then completeSt f .conflict s
  else if f.inBuf.take 16 ≠ unsealMessage s then completeSt f .integrity s
  else match slotCheck (Fin.ofNat 32 slot) 1 s with
    | some st => completeSt f st s
    | none => askLong f .unseal 131 (.unseal f.seq) [Fin.ofNat 32 slot] s

/-- MTR_UNSEAL (R113). -/
def runMtrUnseal (s : State) : Res := .next (dispatch 0x0112 mtrUnseal s)

/-- The result of an unseal's verification (R113). -/
def unsealResult (f : Flight) (s : State) : State :=
  let slot : Fin 32 := Fin.ofNat 32 (f.p 16 1)
  let pub := (s.key.slot[slot.val]).rec_.pub
  if s.adc.sealed && decide (f.inBuf.take 16 = unsealMessage s) &&
      ecdsaVerify pub (sha256 (f.inBuf.take 16)) (f.inBuf.drop 16) then
    let s := { s with adc := { s.adc with sealed := false, sealCount := s.adc.sealCount + 1 } }
    complete f .ok 0 (leBytes 4 (sealWord s)) none s
  else completeSt f .integrity s

end Sys2Proof.Machine
end

