-- ==== Sys2Proof/Machine/Energy.lean ====
section
/-! DEFINITION. Corrections, energy per tick, cycles and their quantities, and the current-only watch
(chapter 05). Values are exact rationals until the manual rounds them (R117, R120, R129). -/

namespace Sys2Proof.Machine

/-! ### Groups and slots -/

/-- First slot of an outlet's voltages and currents, and of the feeder's (R90). -/
def curSlot (g : Group) (p : Fin 3) : Fin 72 :=
  if h : g.val < 8 then ⟨8 * g.val + p.val, by omega⟩ else ⟨67 + p.val, by omega⟩
def voltSlot (g : Group) (p : Fin 3) : Fin 72 :=
  if h : g.val < 8 then ⟨8 * g.val + 4 + p.val, by omega⟩ else ⟨64 + p.val, by omega⟩
def neutralSlot (n : Outlet8) : Fin 72 := ⟨8 * n.val + 3, by omega⟩
def iresSlot (n : Outlet8) : Fin 72 := ⟨8 * n.val + 7, by omega⟩

/-- Voltage paired with a phase current (R119); the feeder pairs like phases, and on a DC outlet the map does not apply (R122). -/
def pairOf (s : State) (g : Group) (p : Fin 3) : Fin 3 :=
  if h : g.val < 8 then (if isDc s ⟨g.val, h⟩ then p else (s.nrg.phmap[g.val]).vsel[p.val]) else p

/-- The group is an outlet in DC metering mode. -/
def dcGroup (s : State) (g : Group) : Bool := if h : g.val < 8 then isDc s ⟨g.val, h⟩ else false

/-- Correction record of a slot; slots 70 and 71 have none. -/
def corrOf (s : State) (k : Fin 72) : Corr := if h : k.val < 70 then s.nrg.corr[k.val] else {}

/-- Gain deviation and delay in force for a slot (R117). -/
def gainDelay (s : State) (k : Fin 72) : GainDelay := if h : k.val < 70 then s.nrg.gd[k.val] else {}

/-- A slot takes part in the quantities of a tick: its TYPE is not 0 and it is not settling (R94, R120). -/
def slotLive (s : State) (k : Fin 72) (tick : Tick) : Bool :=
  decide (effType s k ≠ 0) && !settling s (slotGroup k) tick

/-! ### Correction (R102, R114, R117, R118) -/

/-- The skew term of a current slot in samples (R102). -/
def skewOf (s : State) (k : Fin 72) : Rat :=
  let g := slotGroup k
  let j := if k.val < 64 then k.val % 8 else k.val - 67
  if (k.val < 64 ∧ j < 3) ∨ 67 ≤ k.val ∧ k.val < 70 then
    let v := voltSlot g (pairOf s g (Fin.ofNat 3 j))
    ((k.val : Rat) - v.val) / 96
  else 0

/-- The delay D of a current slot (R118). -/
def delayOf (s : State) (k : Fin 72) : Rat := (gainDelay s k).d / 1000000 + skewOf s k

/-- Cubic Lagrange value D samples before the newest of four nodes, newest first (R118). -/
def lagrange (d : Rat) (x : List Int) : Rat :=
  let g i : Rat := x.getD i 0
  (1 - d) * (d - 2) * (d - 3) / 6 * g 0 + d * (d - 2) * (d - 3) / 2 * g 1 -
    d * (d - 1) * (d - 3) / 2 * g 2 + d * (d - 1) * (d - 2) / 6 * g 3

/-- Corrected code of the present sample in units of 10⁻⁹ (R114). -/
def corrected (s : State) (k : Fin 72) : Int :=
  if slotLive s k s.now then
    ((s.adc.dec[k.val]).sample - (corrOf s k).offset) * (1000000000 + (gainDelay s k).g)
  else 0

/-- The corrected codes of the present tick enter the histories (R118, R123). -/
def tickCorrect (s : State) : State :=
  let hist := Vector.ofFn fun (k : Fin 70) => (corrected s ⟨k.val, by omega⟩ :: s.nrg.hist[k.val]).take 4
  let vh := Vector.ofFn fun (k : Fin 70) =>
    if slotKind ⟨k.val, by omega⟩ = 2 ∨ slotKind ⟨k.val, by omega⟩ = 5 then (corrected s ⟨k.val, by omega⟩ :: s.nrg.vHist[k.val]).take 400 else []
  { s with nrg := { s.nrg with hist := hist, vHist := vh } }

/-- History of a slot, newest first. -/
def histOf (s : State) (k : Fin 72) : List Int := if h : k.val < 70 then s.nrg.hist[k.val] else []

/-- Is the slot a current that passes the fractional-delay filter (R118)? -/
def isCurrent (k : Fin 72) : Bool := slotKind k == 0 || slotKind k == 1 || slotKind k == 4

/-- Corrected and delayed code of the last sample, in units of code. -/
def filtered (s : State) (k : Fin 72) : Rat :=
  (if isCurrent k then lagrange (delayOf s k) (histOf s k) else ((histOf s k).getD 0 0 : Rat)) / 1000000000

/-- Physical value of a corrected code, in V or A (R114). -/
def physical (s : State) (k : Fin 72) (code : Rat) : Rat := code * (corrOf s k).fs / (6291456 * 1000)

/-- Corrected physical value of the last sample of a slot. -/
def physOf (s : State) (k : Fin 72) : Rat := physical s k (filtered s k)

/-- Tap 2 code of a capture: corrected and delayed, rounded to the code step (R111, log 15). -/
def tap2 (s : State) (k : Fin 72) : Int := roundRat (filtered s k)

/-- Gain and delay of a record at an RMS current in units of 2⁻¹⁶ mA (R117). -/
def interpolate (c : Corr) (i16 : Nat) : GainDelay :=
  let n := c.bps.length
  let bp j := c.bps.getD j (0, 0, 0)
  if n ≤ 1 ∨ i16 ≤ (bp 0).1 * 65536 then { g := (bp 0).2.1, d := (bp 0).2.2 }
  else if (bp (n - 1)).1 * 65536 ≤ i16 then { g := (bp (n - 1)).2.1, d := (bp (n - 1)).2.2 }
  else
    let j := ((List.range n).filter fun b => decide ((bp b).1 * 65536 ≤ i16)).length - 1
    let lo := bp j
    let hi := bp (j + 1)
    let t := roundDiv (((i16 : Int) - lo.1 * 65536) * 2 ^ 24) ((hi.1 - lo.1) * 65536)
    { g := roundDiv (lo.2.1 * 2 ^ 24 + t * (hi.2.1 - lo.2.1)) (2 ^ 24),
      d := roundDiv (lo.2.2 * 2 ^ 24 + t * (hi.2.2 - lo.2.2)) (2 ^ 24) }

/-- RMS current in units of 2⁻¹⁶ mA from its square in mA² (R117). -/
def rms16 (i2 : Rat) : Nat := roundSqrt (i2 * 2 ^ 32)

/-- Gain and delay of a slot from its record and its last cycle (R116, R117). -/
def gainDelayOf (s : State) (k : Fin 70) : GainDelay :=
  interpolate s.nrg.corr[k.val] (rms16 s.nrg.lastI2[k.val])

/-! ### Records and maps that take effect at a tick edge (R116, R117, R119) -/

/-- Records, maps and gains accepted since the last tick edge take effect. The current from which the gain and delay of a new record
are found is the one formed under the old record (R116, R117; log 181). -/
def applyEnergyCfg (s : State) : State :=
  let corr := s.nrg.pendCorr.foldl (fun c kr => c.set kr.1.val kr.2) s.nrg.corr
  let phmap := s.nrg.pendMap.foldl (fun m nm => m.set nm.1.val nm.2) s.nrg.phmap
  let gd := s.nrg.pendGd.foldl (fun g kg => g.set kg.1.val kg.2) s.nrg.gd
  let s := { s with nrg := { s.nrg with corr := corr, phmap := phmap, gd := gd } }
  let gd := s.nrg.pendCorr.foldl (fun g kr => g.set kr.1.val (gainDelayOf s kr.1)) s.nrg.gd
  { s with nrg := { s.nrg with gd := gd, pendCorr := [], pendMap := [], pendGd := [] } }

/-- A record from its 112 bytes, none where a field is outside its range or format (R115). -/
def parseCorr (b : List Byte) : Option (Fin 70 × Corr) :=
  let k := byteAt b 0
  let n := byteAt b 1
  let fs := leAt b 4 4
  let off := signed 32 (leAt b 8 4)
  let bp j := (leAt b (16 + 12 * j) 4, signed 32 (leAt b (20 + 12 * j) 4), signed 32 (leAt b (24 + 12 * j) 4))
  if h : k < 70 then
    let kind := slotKind ⟨k, by omega⟩
    let cur := decide (kind = 0 ∨ kind = 1 ∨ kind = 4)
    let bps := (List.range n).map bp
    let ok := decide (1 ≤ n ∧ n ≤ 8) && (cur || decide (n = 1)) && decide (leAt b 2 2 = 0) && decide (leAt b 12 4 = 0) &&
      decide (fs ≤ 4000000) && decide (-65536 ≤ off ∧ off ≤ 65536) &&
      (bps.all fun x => decide (-500000000 ≤ x.2.1 ∧ x.2.1 ≤ 500000000) && (cur || decide (x.2.2 = 0))) &&
      (decide (n ≠ 1) || decide ((bp 0).1 = 0)) &&
      ((List.range (n - 1)).all fun j => decide ((bp j).1 < (bp (j + 1)).1)) &&
      decide (leNat (b.drop (16 + 12 * n)) = 0)
    if ok then some (⟨k, h⟩, { fs := fs, offset := off, bps := bps }) else none
  else none

/-- Every delay that a record can give keeps D in −2 to +2 under a map (R118, R119). -/
def delaysOk (s : State) (k : Fin 70) (c : Corr) : Bool :=
  c.bps.all fun x =>
    let d : Rat := (x.2.2 : Rat) / 1000000 + skewOf s ⟨k.val, by omega⟩
    !isCurrent ⟨k.val, by omega⟩ || (decide (-2 ≤ d) && decide (d ≤ 2))

/-- PHASE must be 0 in the record of IA of a DC outlet (R122). -/
def dcPhaseOk (s : State) (k : Fin 70) (c : Corr) : Bool :=
  !(dcGroup s (slotGroup ⟨k.val, by omega⟩) && decide (k.val % 8 = 0)) || c.bps.all fun x => decide (x.2.2 = 0)

/-- The phase maps last accepted; one accepted since the last tick edge counts (R118, R119). -/
def acceptedMaps (s : State) : State :=
  { s with nrg := { s.nrg with phmap := s.nrg.pendMap.foldl (fun m nm => m.set nm.1.val nm.2) s.nrg.phmap } }

/-- The first failing record of a write with its status (R116). -/
def corrCheck (s : State) (recs : List (List Byte)) : Option (Nat × Status) :=
  (recs.zipIdx.findSome? fun (bi : List Byte × Nat) =>
    match parseCorr bi.1 with
    | none => some (bi.2, Status.invalid)
    | some (k, c) =>
      if ((recs.take bi.2).any fun r => byteAt r 0 == k.val) || !delaysOk (acceptedMaps s) k c || !dcPhaseOk s k c then
        some (bi.2, Status.invalid)
      else if s.adc.sealed then some (bi.2, Status.denied)
      else if !ownerAtRest ⟨k.val, by omega⟩ s then some (bi.2, Status.conflict)
      else none)

/-- MTR_CORR_WRITE (R116). -/
def mtrCorrWrite (f : Flight) (s : State) : State :=
  let n := f.bufLen / 112
  if f.bufLen % 112 ≠ 0 ∨ n = 0 ∨ 70 < n then completeSt f .invalid s
  else
    let recs := (List.range n).map fun i => slice f.inBuf (112 * i) 112
    match corrCheck s recs with
    | some (i, st) => complete f st i [] none s
    | none =>
      let s := { s with nrg := { s.nrg with pendCorr := s.nrg.pendCorr ++ recs.filterMap parseCorr } }
      complete f .ok 0 (leBytes 1 n) none s

/-- MTR_CORR_WRITE (R116). -/
def runMtrCorrWrite (s : State) : Res := .next (dispatch 0x0120 mtrCorrWrite s)

/-- The 112 bytes of a record (R115). -/
def corrBytes (k : Nat) (c : Corr) : List Byte :=
  slice ([BitVec.ofNat 8 k, BitVec.ofNat 8 c.bps.length] ++ leBytes 2 0 ++ leBytes 4 c.fs ++
    leBytes 4 (unsigned 32 c.offset) ++ leBytes 4 0 ++
    c.bps.flatMap fun x => leBytes 4 x.1 ++ leBytes 4 (unsigned 32 x.2.1) ++ leBytes 4 (unsigned 32 x.2.2)) 0 112

/-- The record last stored for a slot; a write is stored when it completes (R116). -/
def storedCorr (s : State) (k : Fin 70) : Corr :=
  match s.nrg.pendCorr.reverse.find? (fun kr => kr.1 == k) with
  | some kr => kr.2
  | none => s.nrg.corr[k.val]

/-- MTR_CORR_READ (R116). -/
def mtrCorrRead (f : Flight) (s : State) : State :=
  let k := f.p 16 1
  if h : k < 70 then
    if f.bufLen = 112 then complete f .ok 0 [] (some (corrBytes k (storedCorr s ⟨k, h⟩))) s
    else completeSt f .invalid s
  else completeSt f .invalid s

/-- MTR_CORR_READ (R116). -/
def runMtrCorrRead (s : State) : Res := .next (dispatch 0x0121 mtrCorrRead s)

/-- Three 2-bit fields that are a permutation of 0, 1 and 2. -/
def parsePerm (v lo : Nat) : Option (Vector (Fin 3) 3) :=
  let a := bitsOf v lo 2
  let b := bitsOf v (lo + 2) 2
  let c := bitsOf v (lo + 4) 2
  if a < 3 ∧ b < 3 ∧ c < 3 ∧ a ≠ b ∧ a ≠ c ∧ b ≠ c then some #v[Fin.ofNat 3 a, Fin.ofNat 3 b, Fin.ofNat 3 c] else none

/-- A write to MTR_PHMAPn (R119). -/
def writePhmap (n : Outlet8) (v : Nat) (s : State) : State :=
  match parsePerm v 0, parsePerm v 8 with
  | some vs, some st =>
    let m : PhMap := { vsel := vs, site := st }
    let s' := { s with nrg := { s.nrg with phmap := s.nrg.phmap.set n.val m } }
    let fits := (allFin 3).all fun p =>
      let k : Fin 70 := ⟨8 * n.val + p.val, by omega⟩
      delaysOk s' k (storedCorr s k)
    if s.adc.sealed || !(s.ses.out[n.val]).atRest || !fits then mtrReject s
    else { s with nrg := { s.nrg with pendMap := s.nrg.pendMap ++ [(n, m)] } }
  | _, _ => mtrReject s

/-- MTR_PHMAP_WRITE (R119). -/
def execMtrPhmapWrite (n : Outlet8) (v : W32) (s : State) : Res :=
  .next (if s.isReady 16 then writePhmap n v.toNat s else s)

/-- A write to MTR_CREEP (R121). -/
def writeCreep (v : Nat) (s : State) : State :=
  let t := bitsOf v 0 7
  if s.adc.sealed || !allAtRest s || decide (t = 0 ∨ 100 < t) then mtrReject s
  else { s with nrg := { s.nrg with creep := t } }

/-- A write to MTR_PULSEn (R127). -/
def writePulse (n : Outlet8) (v : Nat) (s : State) : State :=
  let p := s.nrg.pulse[n.val]
  let c := bitsOf v 0 17
  let src := bitsOf v 17 2
  let w := bitsOf v 20 8
  let moved := decide (c ≠ p.const ∨ src ≠ p.src)
  let bad := decide (c < 100 ∨ 100000 < c ∨ 1000000 % c ≠ 0 ∨ w = 0 ∨ 160 < w ∨ src = 3)
  if s.adc.sealed || !(s.ses.out[n.val]).atRest || bad || (moved && decide (0 < p.pending)) then mtrReject s
  else
    let p' := { p with const := c, src := src, pol := bitAt v 19, width := w, en := bitAt v 28,
                       part := if moved then 0 else p.part, active := p.active && bitAt v 28,
                       idleTick := if p.active && !bitAt v 28 then some s.now else p.idleTick }
    { s with nrg := { s.nrg with pulse := s.nrg.pulse.set n.val p' } }

/-- MTR_PULSE_WRITE (R127). -/
def execMtrPulseWrite (n : Outlet8) (v : W32) (s : State) : Res :=
  .next (if s.isReady 16 then writePulse n v.toNat s else s)

/-- PULSE_END: 16 × WIDTH ticks after the leading edge the output goes inactive (R126). -/
def execPulseEnd (n : Outlet8) (s : State) : Res :=
  .next (
    let p := s.nrg.pulse[n.val]
    if p.active ∧ p.leadTick + 16 * p.width ≤ s.now then
      let p' := { p with active := false, idleTick := some (p.leadTick + 16 * p.width) }
      { s with nrg := { s.nrg with pulse := s.nrg.pulse.set n.val p' } }
    else s)

/-! ### Closed energy (R120 to R123, R125) -/

/-- One tick in hours × 10⁹ (R120). -/
def tickNh : Rat := 625 / 144

/-- Rounds an energy to 2⁻¹⁶ of its unit (R120). -/
def toFrac16 (e : Rat) : Int := roundRat (e * 65536)

/-- The quarter-period delay in samples, and the voltage that many samples before the last (R123): four
nodes around the delay. -/
def quarterValue (s : State) (g : Group) (k : Fin 72) : Rat :=
  let nominal : Rat := if s.adc.nomF60 then 64000 / 60 else 1280
  let t : Rat := match (s.nrg.cyc[g.val]).period with | some p => p | none => nominal
  let d := t / 4
  let b := (d.num / d.den).toNat - 1
  let h := if hk : k.val < 70 then s.nrg.vHist[k.val] else []
  physical s k (lagrange (d - b) (h.drop b) / 1000000000)

/-- Products v·i and v(t − T/4)·i of a phase in the last sample, 0 where a slot contributes nothing (R120, R123). -/
def phasePower (s : State) (g : Group) (tick : Tick) (p : Fin 3) : Rat × Rat :=
  let ki := curSlot g p
  let kv := voltSlot g (pairOf s g p)
  if slotLive s ki tick && slotLive s kv tick then
    let i := physOf s ki
    (physOf s kv * i, quarterValue s g kv * i)
  else (0, 0)

/-- Closed active and reactive energy of a group for the tick of the last sample, in 2⁻¹⁶ (R120 to R123).
Creep forces an outlet's to 0 (R121). -/
def closeEnergy (s : State) (g : Group) (tick : Tick) : Int × Int :=
  if dcGroup s g then
    let ki := curSlot g 0
    let kv := voltSlot g 0
    if slotLive s ki tick && slotLive s kv tick && !(s.nrg.cyc[g.val]).creep then
      (toFrac16 (tickNh * (physOf s kv * physOf s ki)), 0)
    else (0, 0)
  else
    let pq := (allFin 3).map (phasePower s g tick)
    if g.val < 8 && (s.nrg.cyc[g.val]).creep then (0, 0)
    else (toFrac16 (tickNh * (pq.map Prod.fst).sum), toFrac16 (tickNh * (pq.map Prod.snd).sum))

/-! ### Cycles (R129, R130) -/

/-- Mean of a weighted sum. -/
def meanOf (sum weight : Rat) : Rat := if weight = 0 then 0 else sum / weight

/-- The sample of one tick as cycle sums of weight w (R117, R122, R130, R132). -/
def sampleSums (s : State) (g : Group) (tick : Tick) (w : Rat) : CycleSums :=
  let live k := slotLive s k tick
  let val k := if live k then physOf s k else 0
  let v : Vector Rat 3 := Vector.ofFn fun p => val (voltSlot g p)
  let iPh : Vector Rat 3 := Vector.ofFn fun p => val (curSlot g p)
  let iN := if h : g.val < 8 then val (neutralSlot ⟨g.val, h⟩) else 0
  let rawOf k : Rat := if live k then
      ((s.adc.dec[k.val]).sample - (corrOf s k).offset : Rat) * (corrOf s k).fs / 6291456 else 0
  let raw : Vector Rat 4 := Vector.ofFn fun j =>
    if h : j.val < 3 then rawOf (curSlot g ⟨j.val, h⟩)
    else if h : g.val < 8 then rawOf (neutralSlot ⟨g.val, h⟩) else 0
  let ir := if h : g.val < 8 then val (iresSlot ⟨g.val, h⟩) else 0
  let pq := (allFin 3).map (phasePower s g tick)
  let sum := iPh[0] + iPh[1] + iPh[2]
  { ticks := 1, weight := w, v2 := v.map fun x => w * x * x,
    i2 := #v[w * iPh[0] * iPh[0], w * iPh[1] * iPh[1], w * iPh[2] * iPh[2], w * iN * iN],
    raw2 := raw.map fun x => w * x * x, ires2 := w * ir * ir,
    p := Vector.ofFn fun p => w * (pq.getD p.val (0, 0)).1,
    q := Vector.ofFn fun p => w * (pq.getD p.val (0, 0)).2,
    sum2 := w * sum * sum, vDc := w * v[0], iDc := w * iPh[0] }

/-- Sum of cycle sums; ticks count the samples that belong whole or in part to the cycle's end. -/
def CycleSums.add (a b : CycleSums) : CycleSums :=
  { ticks := a.ticks + b.ticks, weight := a.weight + b.weight, v2 := a.v2.zipWith (· + ·) b.v2,
    i2 := a.i2.zipWith (· + ·) b.i2, raw2 := a.raw2.zipWith (· + ·) b.raw2, ires2 := a.ires2 + b.ires2,
    p := a.p.zipWith (· + ·) b.p, q := a.q.zipWith (· + ·) b.q, sum2 := a.sum2 + b.sum2,
    vDc := a.vDc + b.vDc, iDc := a.iDc + b.iDc }

/-- The reference voltage of a group: the one paired with IA, or the next of VB and VC where the one
before is off or was below 40 V RMS in the last cycle (R129). -/
def reference (s : State) (g : Group) : Option (Fin 3) :=
  let ok (p : Fin 3) := decide (effType s (voltSlot g p) ≠ 0) &&
    (match (s.nrg.cyc[g.val]).quant with | some q => decide (1600 ≤ q.v2[p.val]) | none => false)
  if g.val = 8 then (if ok 0 then some 0 else none)
  else ([pairOf s g 0, 1, 2]).find? ok

/-- The last two corrected codes of a slot: older and newer. -/
def lastTwo (s : State) (k : Fin 72) : Int × Int :=
  match histOf s k with
  | b :: a :: _ => (a, b)
  | [b] => (b, b)
  | [] => (0, 0)

/-- A rising crossing in the last sample, as its instant in samples to 2⁻¹⁶ (R129); a slot with FS 0 is 0 to every quantity and
crosses nowhere (R114). -/
def crossing (s : State) (k : Fin 72) (tick : Tick) : Option Rat :=
  let (a, b) := lastTwo s k
  if a < 0 ∧ 0 ≤ b ∧ (corrOf s k).fs ≠ 0 then
    some ((tick : Rat) - 1 + (roundRat ((-(a : Rat)) / (b - a) * 65536) : Rat) / 65536)
  else none

/-- A period between two crossings is valid: 42.5 Hz to 69 Hz (R129). -/
def validPeriod (p : Rat) : Bool := decide (64000 / 69 ≤ p) && decide (p ≤ 64000 * 2 / 85)

/-- A counted crossing of a voltage in the last sample, by the rules of R129 applied to it alone (R130). -/
def voltageCrossing (s : State) (g : Group) (tick : Tick) (c : Cycle) (p : Fin 3) : Option Rat :=
  match crossing s (voltSlot g p) tick with
  | some x => match c.vCross[p.val] with
    | some y => if y.2 + 700 ≤ tick then some x else none
    | none => some x
  | none => none

/-- The last counted crossings of VA, VB and VC (R130). -/
def voltageCrossings (s : State) (g : Group) (tick : Tick) (c : Cycle) : Vector (Option (Rat × Tick)) 3 :=
  Vector.ofFn fun p =>
    match voltageCrossing s g tick c p with
    | some x => some (x, tick)
    | none => c.vCross[p.val]

/-- The counted crossing of VA before its last one (R130). -/
def olderCross (s : State) (g : Group) (tick : Tick) (c : Cycle) : Option Rat :=
  if (voltageCrossing s g tick c 0).isSome then (c.vCross[0]).map Prod.fst else c.aCross1

/-- The counted crossing of VA before each voltage's last one: taken when that one is counted (R130). -/
def crossBases (s : State) (g : Group) (tick : Tick) (c : Cycle) : Vector (Option Rat) 3 :=
  Vector.ofFn fun p =>
    match voltageCrossing s g tick c p with
    | some y => ([voltageCrossing s g tick c 0, (c.vCross[0]).map Prod.fst].findSome? fun a => a.filter fun x => decide (x ≤ y))
    | none => c.vBase[p.val]

/-- Length of the fixed cycle (R122, R129). -/
def fixedTicks (s : State) (g : Group) : Nat := if dcGroup s g then 1280 else if s.adc.nomF60 then 1067 else 1280

/-- A cycle that has ended after a number of ticks at a tick (R130). -/
def cycleDue (sums : CycleSums) (ticks endTick : Nat) (period : Option Rat) (fixed : Bool) (c : Cycle) : CycleDue :=
  { sums := { sums with ticks := ticks }, endTick := endTick, period := period, fixed := fixed,
    cross := c.vCross.map fun x => x.map Prod.fst, aCross1 := c.aCross1, base := c.vBase }

/-- The cycle of a group takes the sample of a tick: it ends at a counted crossing while the frequency is valid, else after the fixed
number of ticks (R129, R130). Until it is known whether a crossing will come, the sums of the fixed number of ticks are set aside, so
that the first fixed cycle after a loss is as long as every other (log 16). -/
def cycleTick (g : Group) (tick : Tick) (s : State) : State :=
  let c := s.nrg.cyc[g.val]
  let vc := voltageCrossings s g tick c
  let va1 := olderCross s g tick c
  let vb := crossBases s g tick c
  let ref := if dcGroup s g then none else reference s g
  let cr := match ref with
    | some r => crossing s (voltSlot g r) tick
    | none => none
  let counted := match cr with
    | some x => (match c.cross0 with
      | some y => if y.2 + 700 ≤ tick then some x else none
      | none => some x)
    | none => none
  let span := match counted, c.cross0 with
    | some x, some y => some (x - y.1)
    | _, _ => none
  let valid := match span with | some p => validPeriod p | none => false
  let inCycle := ref.isSome && match c.cross0, c.cross1 with
    | some x, some y => validPeriod (x.1 - y) && decide ((tick : Rat) - x.1 ≤ 64000 * 2 / 85)
    | _, _ => false
  let last := match c.lastTick with | some t => t | none => tick - 1
  let n := fixedTicks s g
  let endsCross := counted.isSome && valid
  let alpha : Rat := match counted with | some x => if endsCross then (tick : Rat) - x else 0 | none => 0
  let c := { c with vCross := vc, aCross1 := va1, vBase := vb, cross0 := match counted with | some x => some (x, tick) | none => c.cross0,
                    cross1 := if counted.isSome then c.cross0.map Prod.fst else c.cross1,
                    period := if valid then span else c.period, lastTick := some last }
  let run := c.run.add (sampleSums s g tick (1 - alpha))
  let c :=
    if endsCross then
      let whole := match c.set_ with | some x => x.add run | none => run
      { c with due := some (cycleDue whole (tick - last) tick span (!inCycle) c), lastTick := some tick, set_ := none,
               run := sampleSums s g tick alpha }
    else if inCycle then
      (if tick = last + n then { c with set_ := some run, run := {} } else { c with run := run })
    else match c.set_ with
      | some x => { c with due := some (cycleDue x n (last + n) none true c), lastTick := some (last + n), set_ := none, run := run }
      | none =>
        if last + n ≤ tick then { c with due := some (cycleDue run (tick - last) tick none true c), lastTick := some tick, run := {} }
        else { c with run := run }
  { s with nrg := { s.nrg with cyc := s.nrg.cyc.set g.val c } }

/-- QUANTITY_CLOSE: in tick n the engine closes tick n − 1 for every group whose samples count (R51, R109,
R120), and the cycles take its samples. What foreground B has not taken yet, after a tick whose windows run again (R232), stays in the sum. -/
def quantityClose (s : State) : State :=
  match s.adc.mtrTick with
  | none => s
  | some t0 =>
    if 0 < s.now ∧ t0 ≤ s.now - 1 then
      let tick := s.now - 1
      let s := (allFin 9).foldl (fun s g => cycleTick g tick s) s
      let closed := Vector.ofFn fun g =>
        let e := closeEnergy s g tick
        ((s.nrg.closed[g.val]).1 + e.1, (s.nrg.closed[g.val]).2 + e.2)
      { s with nrg := { s.nrg with closed := closed } }
    else s

/-! ### Cycle quantities (R130 to R133) -/

/-- Arc tangent of a ratio from 0 to 1/2 by its series. -/
def atanSeries (x : Rat) : Rat :=
  ((List.range 24).foldl (fun (acc : Rat × Rat) i =>
    (acc.1 + acc.2 / (2 * i + 1), -(acc.2 * x * x))) (0, x)).1

/-- Rounds a rational to 2⁻⁴⁸. -/
def round48 (x : Rat) : Rat := (roundRat (x * 2 ^ 48) : Rat) / 2 ^ 48

/-- Arc tangent of a ratio from 0 to 1. -/
def atanRat (x : Rat) : Rat :=
  let x := round48 x
  if x ≤ 1 / 2 then atanSeries x else atanSeries (1 / 2) + atanSeries (round48 ((x - 1 / 2) / (1 + x / 2)))

/-- atan2 in units of 0.01°, for arguments that are not both 0 (R130; log 14). -/
def atan2Centi (y x : Rat) : Int :=
  let ay := if y < 0 then -y else y
  let ax := if x < 0 then -x else x
  let base : Rat := if ay ≤ ax then atanRat (ay / ax) else ratPi / 2 - atanRat (ax / ay)
  let a := if x < 0 then ratPi - base else base
  let r := roundRat ((if y < 0 then -a else a) * 18000 / ratPi)
  if r = -18000 then 18000 else r

/-- Angle of a voltage to VA in 0.01° from their last crossings: negative where it lags (R130). -/
def angleOf (a b : Rat) (period : Rat) : Int :=
  let turn := (a - b) / period
  let frac := turn - (turn.num / turn.den : Int)
  let deg := if 1 / 2 < frac then frac - 1 else frac
  let r := roundRat (deg * 36000)
  if r = -18000 then 18000 else r

/-- Class of a cycle: some false positive, some true negative, none indeterminate (R131). -/
def sequenceOf (angB : Int) : Option Bool :=
  if -15000 ≤ angB ∧ angB ≤ -9000 then some false else if 9000 ≤ angB ∧ angB ≤ 15000 then some true else none

/-- The expected sequence is negative: SITE is an odd permutation (R131). -/
def expectNegative (s : State) (g : Group) : Bool :=
  if h : g.val < 8 then
    let m := (s.nrg.phmap[g.val]).site
    decide ((m[0].val + 1) % 3 ≠ m[1].val)
  else false

/-- The mean squares and powers of a due cycle. -/
def dueMeans (d : CycleDue) : CycleSums :=
  let w := d.sums.weight
  { d.sums with v2 := d.sums.v2.map (meanOf · w), i2 := d.sums.i2.map (meanOf · w), raw2 := d.sums.raw2.map (meanOf · w),
                ires2 := meanOf d.sums.ires2 w, p := d.sums.p.map (meanOf · w), q := d.sums.q.map (meanOf · w),
                sum2 := meanOf d.sums.sum2 w, vDc := meanOf d.sums.vDc w, iDc := meanOf d.sums.iDc w }

/-- Every phase current lies below THRESH; a DC outlet compares its mean current (R121, R122). -/
def creepOf (s : State) (g : Group) (m : CycleSums) : Bool :=
  let t : Rat := (s.nrg.creep : Rat) / 1000
  if dcGroup s g then decide (m.iDc * m.iDc < t * t)
  else decide (m.i2[0] < t * t) && decide (m.i2[1] < t * t) && decide (m.i2[2] < t * t)

/-- Power factor and current angle of a phase; where S is 0 the manual states no power factor, and
where P and Q are both 0 no angle: both are drawn (R130; log 17). -/
def pfPhi (p q s2 i2 : Rat) (s : State) : (Int × Int) × State :=
  let (pf, s) := if s2 = 0 then
      let (x, s) := drawNat s
      (signed 16 x, s)
    else
      let m : Int := roundSqrt (p * p / s2 * 100000000)
      (if p < 0 then -m else m, s)
  if i2 * 1000000 < 625 then ((pf, 0x7FFF), s)
  else if p = 0 ∧ q = 0 then
    let (x, s) := drawNat s
    ((pf, signed 16 x), s)
  else ((pf, atan2Centi q p), s)

/-- The counted crossing of VA that the last crossing of a voltage is measured from: the last one before it (R130). -/
def angleBase (d : CycleDue) (p : Fin 3) : Option Rat := d.base[p.val]

/-- The turn that an angle is measured in: the cycle's period, else VA's own interval, else the nominal period (R130, log 150). -/
def anglePeriod (d : CycleDue) (nominal : Rat) : Rat :=
  match d.period, d.cross[0], d.aCross1 with
  | some p, _, _ => p
  | none, some x, some y => x - y
  | none, _, _ => nominal

/-- An angle whose crossings are not both known is not stated by the manual and is drawn (log 17). -/
def angleOrFree (d : CycleDue) (p : Fin 3) (nominal : Rat) (s : State) : Int × State :=
  match d.cross[p.val] with
  | some y => (match angleBase d p with
    | some x => (angleOf x y (anglePeriod d nominal), s)
    | none =>
      let (v, s) := drawNat s
      (signed 16 v, s))
  | none =>
    let (v, s) := drawNat s
    (signed 16 v, s)

/-- The quantities of a cycle that has ended (R130, R133). FIXED_WINDOW stays 0 on a DC outlet, whose windows are always fixed (log 176). -/
def quantOf (g : Group) (d : CycleDue) (s : State) : Quant × State :=
  let m := dueMeans d
  let base : Quant := { gtcEnd := d.endTick, ticks := d.sums.ticks, creep := g.val < 8 && creepOf s g m,
                        v2 := m.v2, i2 := #v[m.i2[0], m.i2[1], m.i2[2]], pNet := m.p[0] + m.p[1] + m.p[2] }
  if dcGroup s g then
    ({ base with v := #v[roundRat (m.vDc * 1000), 0, 0], i := #v[roundRat (m.iDc * 1000), 0, 0, 0],
                 p := #v[roundRat (m.p[0] * 1000), 0, 0], pNet := m.p[0], ticks := d.sums.ticks }, s)
  else
    let vp (p : Fin 3) := m.v2[(pairOf s g p).val]
    let nominal : Rat := if s.adc.nomF60 then 64000 / 60 else 1280
    let (a, s) := pfPhi m.p[0] m.q[0] (vp 0 * m.i2[0]) m.i2[0] s
    let (b, s) := pfPhi m.p[1] m.q[1] (vp 1 * m.i2[1]) m.i2[1] s
    let (c, s) := pfPhi m.p[2] m.q[2] (vp 2 * m.i2[2]) m.i2[2] s
    let (angB, s) := angleOrFree d 1 nominal s
    let (angC, s) := angleOrFree d 2 nominal s
    ({ base with
        freq := match d.period with | some p => if d.fixed then 0 else (roundRat (64000 * 1000 / p)).toNat | none => 0
        freqValid := d.period.isSome && !d.fixed
        fixedWindow := d.fixed
        v := Vector.ofFn fun p => (roundSqrt (m.v2[p.val] * 1000000) : Int)
        i := Vector.ofFn fun p => (roundSqrt (m.i2[p.val] * 1000000) : Int)
        ires := roundSqrt (m.ires2 * 1000000000000)
        p := Vector.ofFn fun p => roundRat (m.p[p.val] * 1000)
        q := Vector.ofFn fun p => roundRat (m.q[p.val] * 1000)
        s := Vector.ofFn fun p => roundSqrt (vp p * m.i2[p.val] * 1000000)
        pf := #v[a.1, b.1, c.1], phi := #v[a.2, b.2, c.2], angB := angB, angC := angC }, s)

/-- The phase-sequence check of a cycle (R131). -/
def checkSequence (g : Group) (q : Quant) (s : State) : State :=
  let c := s.nrg.cyc[g.val]
  let put (c : Cycle) (s : State) := { s with nrg := { s.nrg with cyc := s.nrg.cyc.set g.val c } }
  if !(decide (1600 ≤ q.v2[0]) && decide (1600 ≤ q.v2[1]) && decide (1600 ≤ q.v2[2])) then s
  else match sequenceOf q.angB with
    | none => s
    | some neg =>
      let wrong := neg != expectNegative s g
      let c : Cycle := if wrong then { c with wrongRun := c.wrongRun + 1, rightRun := 0 }
        else { c with rightRun := c.rightRun + 1, wrongRun := 0 }
      let tgt := if g.val = 8 then 0xFF else g.val
      let data v := [BitVec.ofNat 8 v, BitVec.ofNat 8 (b2n neg)]
      if wrong && decide (10 ≤ c.wrongRun) && !c.seqWrong then post 0x0102 tgt (data 1) (put { c with seqWrong := true } s)
      else if !wrong && decide (10 ≤ c.rightRun) && c.seqWrong then
        post 0x0102 tgt (data 0) (put { c with seqWrong := false } s)
      else put c s

/-- The missing-neutral check of a cycle (R132); RMS values are compared to 1 µV. -/
def checkNeutral (n : Outlet8) (m : CycleSums) (s : State) : State :=
  let g : Group := ⟨n.val, by omega⟩
  let c := s.nrg.cyc[g.val]
  let all := (allFin 3).all (fun p => decide (effType s (curSlot g p) ≠ 0) && decide (effType s (voltSlot g p) ≠ 0)) &&
    decide (effType s (neutralSlot n) ≠ 0)
  if !all then s
  else
    let v (p : Fin 3) : Int := roundSqrt (m.v2[p.val] * 1000000000000)
    let mean3 := v 0 + v 1 + v 2
    let dev (p : Fin 3) : Int := if 3 * v p < mean3 then mean3 - 3 * v p else 3 * v p - mean3
    let worst := max (dev 0) (max (dev 1) (dev 2))
    let hit := decide (1 ≤ m.sum2) && decide (100 * m.i2[3] < m.sum2) && decide (8 * mean3 ≤ 100 * worst)
    let c : Cycle := if hit then { c with matchRun := c.matchRun + 1, clearRun := 0 }
      else { c with clearRun := c.clearRun + 1, matchRun := 0 }
    let unb := if mean3 = 0 then 0 else (roundDiv (1000 * worst) mean3.toNat).toNat
    let data f := [BitVec.ofNat 8 f] ++ leBytes 2 unb ++ leBytes 4 (roundSqrt (m.sum2 * 1000000))
    let put (c : Cycle) (s : State) := { s with nrg := { s.nrg with cyc := s.nrg.cyc.set g.val c } }
    if hit && decide (25 ≤ c.matchRun) && !c.neutral then post 0x0103 n.val (data 1) (put { c with neutral := true } s)
    else if !hit && decide (25 ≤ c.clearRun) && c.neutral then post 0x0103 n.val (data 0) (put { c with neutral := false } s)
    else put c s

/-- CORRECTION_INTERPOLATION: gains and delays of a group's currents take effect at the next tick edge (R117). -/
def interpolateGroup (g : Group) (m : CycleSums) (s : State) : State :=
  let one (s : State) (k : Nat) (i2 : Rat) : State :=
    if h : k < 70 then
      let s := { s with nrg := { s.nrg with lastI2 := s.nrg.lastI2.set k i2 } }
      { s with nrg := { s.nrg with pendGd := s.nrg.pendGd ++ [(⟨k, h⟩, gainDelayOf s ⟨k, h⟩)] } }
    else s
  let s := (allFin 3).foldl (fun s p => one s (curSlot g p).val m.raw2[p.val]) s
  if h : g.val < 8 then one s (neutralSlot ⟨g.val, h⟩).val m.raw2[3] else s

/-- A cycle's quantities are formed and its checks made (R117, R121, R130 to R132); the checks of the
session follow where the group is an outlet. -/
def formCycle (g : Group) (s : State) : State :=
  match (s.nrg.cyc[g.val]).due with
  | none => s
  | some d =>
    let m := dueMeans d
    let (q, s) := quantOf g d s
    let c := s.nrg.cyc[g.val]
    let c' := { c with due := none, quant := some q, quantTick := s.now, creep := q.creep }
    let s := interpolateGroup g m { s with nrg := { s.nrg with cyc := s.nrg.cyc.set g.val c' } }
    let s := if dcGroup s g then s else checkSequence g q s
    if h : g.val < 8 then (if dcGroup s g then s else checkNeutral ⟨g.val, h⟩ m s) else s

/-- The 128 bytes of R133. -/
def quantBytes (s : State) (g : Group) (q : Quant) : List Byte :=
  let c := s.nrg.cyc[g.val]
  let s4 (v : Int) := leBytes 4 (unsigned 32 v)
  let s2 (v : Int) := leBytes 2 (unsigned 16 v)
  let flags := b2n q.freqValid + 2 * b2n c.seqWrong + 4 * b2n c.neutral + 8 * b2n q.creep + 16 * b2n (dcGroup s g) +
    32 * b2n q.fixedWindow
  slice (leBytes 6 q.gtcEnd ++ leBytes 2 q.ticks ++ leBytes 4 q.freq ++ q.v.toList.flatMap s4 ++ q.i.toList.flatMap s4 ++
    leBytes 4 q.ires ++ q.p.toList.flatMap s4 ++ q.q.toList.flatMap s4 ++ q.s.toList.flatMap (leBytes 4) ++
    q.pf.toList.flatMap s2 ++ q.phi.toList.flatMap s2 ++ s2 q.angB ++ s2 q.angC ++ [BitVec.ofNat 8 flags]) 0 128

/-- The group that TARGET names (R475). -/
def targetGroup (f : Flight) : Group := if f.target = 0xFF then 8 else Fin.ofNat 9 (f.target.toNat % 8)

/-- MTR_QUANT_READ (R133). -/
def mtrQuantRead (f : Flight) (s : State) : State :=
  let g := targetGroup f
  match (s.nrg.cyc[g.val]).quant with
  | some q => complete f .ok 0 (leBytes 6 q.gtcEnd) (some (quantBytes s g q)) s
  | none => complete f .ok 0 (leBytes 6 0) (some (List.replicate 128 0)) s

/-- MTR_QUANT_READ (R133). -/
def runMtrQuantRead (s : State) : Res := .next (dispatch 0x0122 mtrQuantRead s)

/-- Whole part and fraction of an accumulator as 8 and 2 bytes. -/
def accWhole (v : Int) : List Byte := leBytes 8 (unsigned 64 (v / 65536))
def accFrac (v : Int) : List Byte := leBytes 2 (v % 65536).toNat

/-- MTR_ACC_READ (R134). -/
def mtrAccRead (f : Flight) (s : State) : State :=
  let g := targetGroup f
  let b :=
    if h : g.val < 8 then
      let a := s.nrg.fine[g.val]
      let p := s.nrg.pulse[g.val]
      accWhole a.fa ++ accFrac a.fa ++ accFrac a.fr ++ accWhole a.fr ++ leBytes 8 p.emitted ++ leBytes 4 p.pending
    else accWhole s.nrg.feeder ++ accFrac s.nrg.feeder ++ List.replicate 22 0
  complete f .ok 0 (leBytes 6 s.now) (some (b ++ leBytes 6 s.now ++ leBytes 2 0)) s

/-- MTR_ACC_READ (R134). -/
def runMtrAccRead (s : State) : Res := .next (dispatch 0x0123 mtrAccRead s)

/-! ### The current-only watch (R136 to R139) -/

/-- Phases of an outlet that the watch takes: bit p set (R136). -/
def watchedPhases (s : State) (n : Outlet8) : BitVec 3 :=
  let g : Group := ⟨n.val, by omega⟩
  let ok (p : Fin 3) := decide (effType s (curSlot g p) ≠ 0) && decide ((corrOf s (curSlot g p)).fs ≠ 0) &&
    (!isDc s n || decide (p = 0))
  BitVec.ofNat 3 (maskOf [ok 0, ok 1, ok 2])

/-- TYPE, FS and OFFSET of the 24 slots that the watch may use, phase A of outlet 0 first (R136). -/
def watchSlots (s : State) : List (Nat × Nat × Int) :=
  (allFin 8).flatMap fun n => (allFin 3).map fun p =>
    let k := curSlot ⟨n.val, by omega⟩ p
    (effType s k, (corrOf s k).fs, (corrOf s k).offset)

/-- At the power-fail warning BTD arms the watch with what it will use (R136). -/
def armWatch (s : State) : State :=
  { s with watch := { s.watch with armed := some (min 168 s.watch.hours, s.watch.outlets,
                                                  (allFin 8).map fun n => watchedPhases s n)
                                   slots := watchSlots s } }

/-- WATCH_START: after VSYS has fallen below its threshold with the watch armed; HOURS 0 starts
tamper-only watch at once (R136, R138). -/
def execWatchStart (s : State) : Res :=
  .next (match s.watch.armed with
    | some (h, _, _) =>
      if s.watch.starting then
        { s with watch := { s.watch with starting := false, running := decide (h ≠ 0), tamperOnly := decide (h = 0),
                                         windows := 0, out := Vector.replicate 8 {}, bits := Vector.replicate 24 quietBits } }
      else s
    | none => s)

/-! The low-power decimation of the watch (R136). -/

/-- Impulse response of the sinc³ with decimation 64. -/
def sinc3 : List Int :=
  let b : List Int := List.replicate 64 1
  polyMul (polyMul b b) b

/-- Sample j of a window, from the bits of the window above the 126 before it, in steps of the 24-bit code: the density ±0.75 gives
the full-scale code 0x60_0000, as in the chain of R99. -/
def watchSample (taps : List Int) (all : Nat) (j : Nat) : Int :=
  let top := 126 + 64 * (j + 1) - 1
  32 * dot taps ((List.range 190).map fun i => if bitAt all (top - i) then (1 : Int) else -1)

/-- RMS of the 800 samples of a window, rounded to whole mA (log 177): from the slot's OFFSET and FS as held, without the integrator, whose gain at f_norm is 1,
and with the direct component only on a DC outlet (R136, log 151). -/
def watchRms (dc : Bool) (slot : Nat × Nat × Int) (all : Nat) : Nat :=
  let taps := sinc3
  let cs := (List.range 800).map fun j => watchSample taps all j - slot.2.2
  let sum : Int := cs.foldl (· + ·) 0
  let sq : Int := cs.foldl (fun a c => a + c * c) 0
  let mean : Rat := (sum : Rat) / 800
  let ms : Rat := (sq : Rat) / 800 - (if dc then 0 else mean * mean)
  roundSqrt (ms * ((slot.2.1 : Rat) / 6291456) * ((slot.2.1 : Rat) / 6291456))

/-- The bits of a slot's window above what its filter remembers (R136). -/
def watchBits (old : BitVec 126) (mods : BitVec 51200) : Nat := old.toNat + mods.toNat * 2 ^ 126

/-- A record goes into the BTD log, the oldest of more than 64 is overwritten (R137). -/
def logWatch (r : WatchRec) (w : Watch) : Watch := { w with log := (r :: w.log).take 64 }

/-- One outlet takes the RMS values of a 200 ms window in mA (R137): the highest phase of each window counts, whichever it is (log 178). -/
def watchOutlet (n : Outlet8) (phases : BitVec 3) (rms : List Nat) (sec frac : Nat) (w : Watch) : Watch :=
  let o := w.out[n.val]
  let on (p : Nat) := phases.getLsbD p
  let val (p : Nat) := if on p then rms.getD p 0 else 0
  let top := max (val 0) (max (val 1) (val 2))
  let above := BitVec.ofNat 3 (maskOf [decide (100 < val 0), decide (100 < val 1), decide (100 < val 2)])
  if phases = 0 then w
  else match o.openRec with
    | some r =>
      let r' := { r with phases := r.phases ||| above, peak := max r.peak top, charge := r.charge + top,
                         endS := sec, endFrac := frac }
      if top < 80 then
        if 5 ≤ o.below + 1 then
          { (logWatch { r' with endKind := 0 } w) with out := w.out.set n.val {} }
        else { w with out := w.out.set n.val { o with below := o.below + 1, openRec := some r' } }
      else { w with out := w.out.set n.val { o with below := 0, openRec := some r' } }
    | none =>
      if 100 < top then
        if 11 ≤ o.above + 1 then
          let r : WatchRec := { outlet := n, phases := above, endKind := 0, startS := sec, startFrac := frac,
                                endS := sec, endFrac := frac, peak := top, charge := top, recSeq := w.nextSeq }
          { w with out := w.out.set n.val { above := 0, below := 0, openRec := some r }, nextSeq := w.nextSeq + 1 }
        else { w with out := w.out.set n.val { o with above := o.above + 1 } }
      else { w with out := w.out.set n.val { o with above := 0 } }

/-- RMS of the three phases of an outlet over a window (R136). -/
def outletRms (n : Outlet8) (mods : List (BitVec 51200)) (s : State) : List Nat :=
  (allFin 3).map fun p =>
    let j : Fin 24 := ⟨3 * n.val + p.val, by omega⟩
    watchRms (isDc s n) (s.watch.slots.getD j.val (0, 0, 0)) (watchBits s.watch.bits[j.val] (mods.getD j.val 0))

/-- What the filters remember of a window (R136). -/
def watchMemory (mods : List (BitVec 51200)) (s : State) : Vector (BitVec 126) 24 :=
  Vector.ofFn fun j => BitVec.ofNat 126 (watchBits s.watch.bits[j.val] (mods.getD j.val 0) / 2 ^ 51200)

/-- WATCH_WINDOW_END: a window of 200 ms ends, 51,200 bits of each modulator at 256 kHz; the RTC has run on (R136, R137, R158). -/
def execWatchWindowEnd (mods : List (BitVec 51200)) (s : State) : Res :=
  .next (match s.watch.armed with
    | some (_, outs, phs) =>
      if s.watch.running then
        let frac := min 63999 (s.clk.frac + (12800 - s.tam.since))
        let w := (allFin 8).foldl (fun w n =>
          if outs.getLsbD n.val && decide (phs.getD n.val 0 ≠ 0) then
            watchOutlet n (phs.getD n.val 0) (outletRms n mods s) s.clk.sec frac w
          else w) { s.watch with windows := s.watch.windows + 1 }
        { s with watch := { w with bits := watchMemory mods s }, clk := { s.clk with frac := frac }, tam := { s.tam with since := 0 } }
      else s
    | none => s)

/-- The watch ends: open records close with a kind, and tamper-only watch follows (R137, R138). -/
def endWatch (kind : Nat) (s : State) : State :=
  let w := (allFin 8).foldl (fun w n =>
    match (w.out[n.val]).openRec with
    | some r => { (logWatch { r with endKind := kind, endS := s.clk.sec, endFrac := s.clk.frac } w) with
                    out := w.out.set n.val {} }
    | none => w) s.watch
  { s with watch := { w with running := false, starting := false, out := Vector.replicate 8 {} } }

/-- WATCH_HOURS_EXPIRY: HOURS after the start, in windows of 200 ms (R138). -/
def execWatchHoursExpiry (s : State) : Res :=
  .next (match s.watch.armed with
    | some (h, _, _) =>
      if s.watch.running ∧ h * 18000 ≤ s.watch.windows then
        let s := endWatch 1 s
        { s with watch := { s.watch with tamperOnly := true } }
      else s
    | none => s)

/-- WATCH_CELL_LOW: the coin cell falls below 2.6 V (R138). -/
def execWatchCellLow (s : State) : Res :=
  .next (if s.watch.running then
      let s := endWatch 2 s
      { s with watch := { s.watch with tamperOnly := true } }
    else s)

/-- Supply has returned: the watch stops and its open records close (R138). -/
def stopWatch (s : State) : State :=
  let s := if s.watch.running then endWatch 3 s else s
  { s with watch := { s.watch with armed := none, starting := false, tamperOnly := false } }

/-- WATCH_LOG_COPY: the log is copied to MRAM and what has not been posted is posted, with TARGET 0xFF (R139, R140; log 179). -/
def copyWatchLog (s : State) : State :=
  let log := s.watch.log
  let new := sortNat WatchRec.recSeq (log.filter fun r => decide (s.watch.posted < r.recSeq))
  let top := new.foldl (fun m r => max m r.recSeq) s.watch.posted
  let lost := top - s.watch.posted - new.length
  let s := { s with watch := { s.watch with copy := log, posted := top } }
  let s := if 0 < lost then post 0x0104 0xFF ([0xFF] ++ leBytes 4 lost) s else s
  new.foldl (fun s r =>
    post 0x0104 0xFF ([BitVec.ofNat 8 r.outlet.val, BitVec.ofNat 8 r.phases.toNat] ++ leBytes 8 r.startS ++
      leBytes 2 (r.peak / 10) ++ leBytes 4 r.recSeq) s) s

/-- The 32 bytes of a watch record; PEAK and CHARGE are rounded down (R139; log 180). -/
def watchBytes (r : WatchRec) : List Byte :=
  let dur := if r.endFrac < r.startFrac then r.endS - r.startS - 1 else r.endS - r.startS
  [BitVec.ofNat 8 r.outlet.val, BitVec.ofNat 8 r.phases.toNat, BitVec.ofNat 8 r.endKind, 0] ++ leBytes 8 r.startS ++
    leBytes 2 (r.startFrac / 64) ++ leBytes 2 0 ++ leBytes 4 dur ++ leBytes 2 (r.peak / 10) ++ leBytes 2 0 ++
    leBytes 4 (r.charge / 18000) ++ leBytes 4 r.recSeq

/-- MTR_WATCH_READ (R139). -/
def mtrWatchRead (f : Flight) (s : State) : State :=
  let start := f.p 16 4
  let count := f.p 20 1
  if count = 0 ∨ 64 < count ∨ f.bufLen ≠ 32 * count then completeSt f .invalid s
  else
    let rs := (sortNat WatchRec.recSeq (s.watch.copy.filter fun r => decide (start ≤ r.recSeq))).take count
    let newest := s.watch.copy.foldl (fun m r => max m r.recSeq) 0
    complete f .ok 0 (leBytes 2 rs.length ++ leBytes 4 newest) (some (rs.flatMap watchBytes)) s

/-- MTR_WATCH_READ (R139). -/
def runMtrWatchRead (s : State) : Res := .next (dispatch 0x0124 mtrWatchRead s)

end Sys2Proof.Machine
end

