-- ==== Sys2Proof/Machine/Billing.lean ====
section
/-! DEFINITION. Billing registers, their copies, intervals, the calendar, the RTC and the power log
(chapter 06). -/

namespace Sys2Proof.Machine

/-- Changes the billing of one outlet and marks its image as changed (R125, R143). -/
def modBill (n : Outlet8) (f : Bill → Bill) (s : State) : State :=
  { s with bill := vmod s.bill n fun b => { f b with dirty := true } }

/-! ### Registers and quanta (R128, R141, R142) -/

/-- Value of a short view's register, in the bit order of R171. -/
def viewReg (r : BillRegs) (i : Fin 23) : Nat :=
  if h : i.val < 8 then r.imp[i.val]
  else if h : i.val < 16 then r.exp[i.val - 8]
  else if i.val = 16 then r.impTot
  else if i.val = 17 then r.expTot
  else if h : i.val < 22 then r.rq[(i.val - 18) % 4]'(Nat.mod_lt _ (by decide))
  else r.t

/-- One quantum more in a view's register; its wrap count saturates at 255 (R128). -/
def bumpView (i : Fin 23) (r : BillRegs) : BillRegs :=
  let v := viewReg r i + 1
  let wrapped := decide (v % 10 = 0 ∧ v / 10 % 2 ^ 32 = 0)
  let r := if wrapped then { r with wraps := vmod r.wraps i fun w => min 255 (w + 1) } else r
  if h : i.val < 8 then { r with imp := r.imp.set i.val v }
  else if h : i.val < 16 then { r with exp := r.exp.set (i.val - 8) v }
  else if i.val = 16 then { r with impTot := v }
  else if i.val = 17 then { r with expTot := v }
  else if h : i.val < 22 then { r with rq := r.rq.set ((i.val - 18) % 4) v (Nat.mod_lt _ (by decide)) }
  else { r with t := v }

/-- A count of the open record with OVF where it saturates (R155). -/
def satCount (v : Nat) (p : OpenPart) : Nat × OpenPart :=
  if v < 0xFFFFFFFF then (v + 1, p) else (v, { p with flags := p.flags ||| 0x100 })

/-- Kinds of a quantum: import, export, or a reactive quadrant. -/
inductive QuantumKind where
  | imp | exp | rq (i : Fin 4)
  deriving DecidableEq, Repr

/-- The open record counts a quantum (R142, R155). -/
def countInPart (k : QuantumKind) (p : OpenPart) : OpenPart :=
  match k with
  | .imp => let (v, p) := satCount p.imp p; { p with imp := v }
  | .exp => let (v, p) := satCount p.exp p; { p with exp := v }
  | .rq i => let (v, p) := satCount p.rq[i.val] p; { p with rq := p.rq.set i.val v }

/-- One quantum is filed under the rate in force and in the open record, or in Q while billing is
frozen (R35, R142, R146). -/
def fileQuantum (rate : Nat) (k : QuantumKind) (b : Bill) : Bill :=
  let b := { b with regs := { b.regs with part := b.regs.part.map (countInPart k) } }
  if b.frozen then
    match k with
    | .imp => { b with q := { b.q with imp := b.q.imp + 1 } }
    | .exp => { b with q := { b.q with exp := b.q.exp + 1 } }
    | .rq i => { b with q := { b.q with rq := vmod b.q.rq i (· + 1) } }
  else
    match k with
    | .imp => { b with regs := bumpView 22 (bumpView 16 (bumpView (Fin.ofNat 23 (rate % 8)) b.regs)) }
    | .exp => { b with regs := bumpView 22 (bumpView 17 (bumpView (Fin.ofNat 23 (8 + rate % 8)) b.regs)) }
    | .rq i => { b with regs := bumpView (Fin.ofNat 23 (18 + i.val)) b.regs }

/-- The sums of R142 within one image. -/
def sumsHold (r : BillRegs) : Bool :=
  decide (r.impTot = r.imp.toList.sum) && decide (r.expTot = r.exp.toList.sum) && decide (r.t = r.impTot + r.expTot)

/-! ### Three copies (R143 to R147) -/

/-- The counters that an outlet's image holds (R125, R126). -/
def countersOf (s : State) (n : Outlet8) : Counters :=
  let a := s.nrg.fine[n.val]
  let p := s.nrg.pulse[n.val]
  { fa := a.fa, fr := a.fr, part := p.part, pending := p.pending, emitted := p.emitted, produced := p.produced }

/-- The working counters are set from an image. -/
def setCounters (n : Outlet8) (c : Counters) (s : State) : State :=
  { s with nrg := { s.nrg with
      fine := s.nrg.fine.set n.val { fa := c.fa, fr := c.fr }
      pulse := vmod s.nrg.pulse n fun p => { p with part := c.part, pending := c.pending, emitted := c.emitted, produced := c.produced } } }

/-- The image of an outlet's working state with a commit sequence (R143, R154). -/
def imageOf (seq : Nat) (n : Outlet8) (s : State) : BillImage :=
  let b := s.bill[n.val]
  { seq := seq, regs := b.regs, cnt := countersOf s n, nextIr := b.nextIr, lastClosed := s.clk.lastClosed,
    ivlActive := s.clk.ivlActive, retro := s.clk.retro }

/-- BILLING_COMMIT: sequence plus 1, then the three copies; a frozen outlet commits Q and, as a block of their own, its counters
(R125, R143, R146; log 153). -/
def commitBill (n : Outlet8) (s : State) : State :=
  let b := s.bill[n.val]
  let b' :=
    if b.frozen then
      let q : QtImage := { seq := b.qSeq + 1, q := b.q }
      let c : CntImage := { seq := b.cSeq + 1, cnt := countersOf s n }
      { b with qSeq := q.seq, qPrev := b.qCopies[0].image, qCopies := Vector.replicate 3 { image := q },
               cSeq := c.seq, cPrev := b.cCopies[0].image, cCopies := Vector.replicate 3 { image := c }, dirty := false }
    else
      let img := imageOf (b.seq + 1) n s
      { b with seq := b.seq + 1, prev := b.copies[0].image, copies := Vector.replicate 3 { image := img }, dirty := false }
  { s with bill := s.bill.set n.val b' }

/-- Commits every outlet whose image has changed (R125). -/
def commitDirty (s : State) : State :=
  forFin 8 (fun n s => if (s.bill[n.val]).dirty then commitBill n s else s) s

/-- The decision of R144 over three copies: the winner and the step that decided, none where there is none. -/
def reconcile {α : Type} [DecidableEq α] (seqOf : α → Nat) (sums : α → Bool) (copies : Vector (Copy α) 3) :
    Option (α × Nat) :=
  let valid := (copies.toList.filter fun c => c.crcOk).map fun c => c.image
  let hi := valid.foldl (fun m c => max m (seqOf c)) 0
  match valid.filter fun c => decide (seqOf c = hi) with
  | [] => none
  | [a] => some (a, 2)
  | a :: rest =>
    if rest.all fun c => decide (c = a) then some (a, 3)
    else
      let twice := if rest.length = 2 then (a :: rest).find? fun c => decide (((a :: rest).filter fun d => decide (d = c)).length = 2)
        else none
      match twice with
      | some c => some (c, 4)
      | none => match (a :: rest).filter sums with
        | [c] => some (c, 5)
        | _ => none

/-- The valid copy with the highest sequence. -/
def highestValid {α : Type} (seqOf : α → Nat) (copies : Vector (Copy α) 3) : Option α :=
  (copies.toList.filter fun c => c.crcOk).foldl (fun m c =>
    match m with
    | none => some c.image
    | some x => if seqOf x < seqOf c.image then some c.image else some x) none

/-- The content of the first intact copy (R390, R405). -/
def firstIntact {α : Type} (copies : Vector (Copy α) 3) : Option α := (copies.toList.find? fun c => c.crcOk).map fun c => c.image

/-- Some copy differs from the winner or is invalid, so a rewrite changes it (R145). -/
def needsRewrite {α : Type} [DecidableEq α] (w : α) (copies : Vector (Copy α) 3) : Bool :=
  copies.toList.any fun c => !c.crcOk || decide (c.image ≠ w)

/-- METROLOGY_INTEGRITY and the freeze of an outlet (R146). -/
def freezeBill (n : Outlet8) (s : State) : State :=
  let b := s.bill[n.val]
  let best := highestValid BillImage.seq b.copies
  let img : BillImage := match best with | some i => i | none => {}
  let s := setCounters n img.cnt s
  let ci : CntImage := { seq := 0, cnt := img.cnt }
  let b' := { b with frozen := true, noCopy := best.isNone, frozenImg := img, regs := img.regs, seq := img.seq,
                     q := {}, qSeq := 0, qCopies := Vector.replicate 3 { image := {} }, qPrev := {},
                     cSeq := 0, cCopies := Vector.replicate 3 { image := ci }, cPrev := ci, dirty := true }
  let s := setReplace 8 { s with bill := s.bill.set n.val b' }
  post 0x0201 n.val ([BitVec.ofNat 8 (if best.isNone then 2 else 1)] ++ leBytes 8 img.seq) s

/-- A block that is kept after a freeze, from its copies, and whether it is in doubt: the winner of R144, else the valid copy with the
highest sequence, else every field from 0 (R147). -/
def restoreBlock {α : Type} [DecidableEq α] (zero : α) (seqOf : α → Nat) (copies : Vector (Copy α) 3) : α × Bool :=
  match reconcile seqOf (fun _ => false) copies, highestValid seqOf copies with
  | some (i, _), _ => (i, false)
  | none, some i => (i, true)
  | none, none => (zero, true)

/-- An outlet that is frozen already takes Q, and FA, FR and the pulse counters, each from their own copies (R147). -/
def restoreQuarantine (n : Outlet8) (s : State) : State :=
  let b := s.bill[n.val]
  let (q, qDoubt) := restoreBlock {} QtImage.seq b.qCopies
  let (c, cDoubt) := restoreBlock {} CntImage.seq b.cCopies
  let s := setCounters n c.cnt s
  let b' := { b with regs := { b.frozenImg.regs with part := none, ivlImp := 0, ivlExp := 0, ivlTicks := 0, ivlParts := 0 }, seq := b.frozenImg.seq, q := q.q, qSeq := q.seq,
                     qCopies := Vector.replicate 3 { image := q }, qPrev := q,
                     cSeq := c.seq, cCopies := Vector.replicate 3 { image := c }, cPrev := c, qtDoubt := b.qtDoubt || qDoubt || cDoubt }
  { s with bill := s.bill.set n.val b' }

/-- BILLING_RECONCILE of one outlet at a level-0 start (R144 to R147). -/
def reconcileBill (n : Outlet8) (s : State) : State :=
  let b := s.bill[n.val]
  if b.frozen then restoreQuarantine n s
  else match reconcile BillImage.seq (fun i => sumsHold i.regs) b.copies with
    | none => freezeBill n s
    | some (w, step) =>
      let rewrote := needsRewrite w b.copies
      let s := setCounters n w.cnt s
      let b' := { b with regs := w.regs, seq := w.seq, copies := Vector.replicate 3 { image := w }, prev := w, nextIr := w.nextIr,
                         recs := b.recs.filter fun r => decide (r.irseq < w.nextIr) }
      let s := { s with bill := s.bill.set n.val b' }
      if rewrote && decide (3 ≤ step) then post 0x0202 n.val ([BitVec.ofNat 8 step] ++ leBytes 8 w.seq) s else s

/-- After the reconciliation the intervals go on as the winning image with the latest boundary says, at its rate; records and image are
those of one commit (R143, R154). Where every outlet is frozen, no image says so and the clock block stands. -/
def restoreIntervals (s : State) : State :=
  let live := (allFin 8).filterMap fun n => let b := s.bill[n.val]; if b.frozen then none else some b.prev
  match live with
  | [] => s
  | i :: rest =>
    let w := rest.foldl (fun a b => if a.lastClosed < b.lastClosed then b else a) i
    { s with clk := { s.clk with lastClosed := w.lastClosed, ivlActive := w.ivlActive, retro := w.retro, rate := w.regs.rate } }

/-- SCRUB_REWRITE: a copy found bad while running is rewritten from the working state (R144, R145). -/
def scrubBill (n : Outlet8) (j : Fin 3) (s : State) : State :=
  let b := s.bill[n.val]
  if b.frozen then
    let q : QtImage := { seq := b.qSeq, q := b.q }
    let c : CntImage := { seq := b.cSeq, cnt := countersOf s n }
    { s with bill := s.bill.set n.val { b with qCopies := b.qCopies.set j.val { image := q }, cCopies := b.cCopies.set j.val { image := c } } }
  else
    let img := b.copies
    let w := imageOf b.seq n s
    let c := img[j.val]
    if !c.crcOk || decide (c.image ≠ w) then
      post 0x0202 n.val ([6] ++ leBytes 8 b.seq) { s with bill := s.bill.set n.val { b with copies := img.set j.val { image := w } } }
    else s

/-! ### Dates (R148 to R152) -/

/-- A leap year of the Gregorian calendar. -/
def isLeap (y : Nat) : Bool := decide (y % 4 = 0) && (decide (y % 100 ≠ 0) || decide (y % 400 = 0))

/-- Days of a month. -/
def monthDays (y m : Nat) : Nat :=
  match m with
  | 2 => if isLeap y then 29 else 28
  | 4 | 6 | 9 | 11 => 30
  | _ => 31

/-- Leap years before a year. -/
def leapsBefore (y : Nat) : Nat := (y - 1) / 4 - (y - 1) / 100 + (y - 1) / 400

/-- Days from 1970-01-01 to a date, below 0 for a date before it. -/
def daysOf (y m d : Nat) : Int :=
  ((y * 365 + leapsBefore y + ((List.range (m - 1)).map fun i => monthDays y (i + 1)).sum + (d - 1) : Nat) : Int) -
    ((1970 * 365 + leapsBefore 1970 : Nat) : Int)

/-- Year, month and day of a count of days from 1970-01-01. A local time can lie in 1969, where the RTC stands near 0 and STD_OFFSET is
below 0 (R150, R158). -/
def dateOf (days : Int) : Nat × Nat × Nat :=
  let z := (days + 719468).toNat
  let era := z / 146097
  let doe := z % 146097
  let yoe := (doe - doe / 1460 + doe / 36524 - doe / 146096) / 365
  let doy := doe - (365 * yoe + yoe / 4 - yoe / 100)
  let mp := (5 * doy + 2) / 153
  let d := doy - (153 * mp + 2) / 5 + 1
  let m := if mp < 10 then mp + 3 else mp - 9
  (yoe + era * 400 + (if m ≤ 2 then 1 else 0), m, d)

/-- Weekday of a day counted from 1970-01-01, 0 is Sunday. -/
def weekday (days : Int) : Nat := ((days + 4) % 7).toNat

/-- Day of the given weekday in the given week of a month, counted from 1970-01-01; week 5 is the last (R148). -/
def nthWeekday (y m week wd : Nat) : Int :=
  let first := daysOf y m 1
  let k := (wd + 7 - weekday first) % 7
  let last := k + (monthDays y m - 1 - k) / 7 * 7
  first + ((if 5 ≤ week then last else min last (k + 7 * (week - 1)) : Nat) : Int)

/-! ### The calendar (R148 to R152) -/

/-- STD_OFFSET in minutes and DST_SHIFT of a calendar image (R148). -/
def stdOffset (c : List Byte) : Int := signed 16 (leAt c 12 2)
def dstShift (c : List Byte) : Nat := byteAt c 14

/-- Instants of DST_START and DST_END of a year in local standard time, in seconds since 1970 (R148). -/
def dstInstant (c : List Byte) (o y : Nat) : Int :=
  nthWeekday y (byteAt c o) (byteAt c (o + 1)) (byteAt c (o + 2)) * 86400 + byteAt c (o + 3) * 3600
def dstStart (c : List Byte) (y : Nat) : Int := dstInstant c 16 y
def dstEnd (c : List Byte) (y : Nat) : Int := dstInstant c 20 y - dstShift c * 60

/-- Year of a local time in seconds. -/
def yearOf (t : Int) : Nat := (dateOf (t / 86400)).1

/-- The last of the instants that a yearly rule gives at or before a local standard time. The instant of the next year counts too: DST_END
on 1 January, at an hour below DST_SHIFT, lies on 31 December in standard time (R151). -/
def lastInstant (at_ : Nat → Int) (u : Int) : Int :=
  let y := yearOf u
  let pick (k : Nat) (before : Int) : Int := if at_ k ≤ u then at_ k else before
  pick (y + 1) (pick y (pick (y - 1) (at_ (y - 2))))

/-- Daylight time is in force at a local standard time: the last instant before it is a start (R151). -/
def inDst (c : List Byte) (u : Int) : Bool :=
  decide (dstShift c ≠ 0) && decide (lastInstant (dstEnd c) u ≤ lastInstant (dstStart c) u)

/-- Local time lies in the span that a fall-back repeats (R151). -/
def inRepeat (c : List Byte) (u : Int) : Bool :=
  decide (dstShift c ≠ 0) && !inDst c u && decide (u < lastInstant (dstEnd c) u + dstShift c * 60)

/-- Local time in seconds since 1970 at a UTC second; UTC before a first calendar (R151, R152). -/
def localTime (cal : Option (List Byte)) (sec : Nat) : Int :=
  match cal with
  | none => sec
  | some c =>
    let u : Int := sec + stdOffset c * 60
    if inDst c u then u + dstShift c * 60 else u

/-- A used SPECIAL entry j matches a date, and whether it names a year (R150). -/
def specialMatch (c : List Byte) (y m d : Nat) (j : Nat) : Option (Bool × Nat) :=
  let o := 456 + 8 * j
  let ey := leAt c o 2
  if byteAt c (o + 2) = m ∧ byteAt c (o + 3) = d ∧ m ≠ 0 ∧ (ey = 0 ∨ ey = y) then
    some (decide (ey ≠ 0), byteAt c (o + 4))
  else none

/-- Day profile of a date (R150). -/
def dayProfile (c : List Byte) (days : Int) : Nat :=
  let (y, m, d) := dateOf days
  let hits := (List.range 32).filterMap (specialMatch c y m d)
  match hits.find? (fun h => h.1), hits with
  | some h, _ => h.2
  | none, h :: _ => h.2
  | none, [] =>
    let used := (List.range 4).filter fun s => decide (byteAt c (24 + 4 * s) ≠ 0)
    let key s := let mm := byteAt c (24 + 4 * s); let dd := byteAt c (25 + 4 * s)
      if mm = 2 ∧ dd = 29 ∧ !isLeap y then 2 * (3 * 32 + 1) else 2 * (mm * 32 + dd) + 1
    let passed := used.filter fun s => decide (key s ≤ 2 * (m * 32 + d) + 1)
    let pick (l : List Nat) := l.foldl (fun b s => match b with
      | none => some s
      | some x => if key x < key s then some s else some x) (none : Option Nat)
    let season := match pick passed with | some s => s | none => (pick used).getD 0
    byteAt c (40 + 7 * byteAt c (26 + 4 * season) + weekday days)

/-- Rate of the last used point of a profile at or before a minute of the day (R150). -/
def profileRate (c : List Byte) (p minute : Nat) : Nat :=
  (List.range 12).foldl (fun r i =>
    let o := 72 + 48 * p + 4 * i
    let m := leAt c o 2
    if m ≠ 0xFFFF ∧ m ≤ minute then byteAt c (o + 2) else r) 0

/-- Rate that a calendar yields at a UTC second; in a repeated span, the rate at the moment of falling
back (R150, R151); rate 0 before a first calendar (R152). -/
def rateAt (cal : Option (List Byte)) (sec : Nat) : Nat :=
  match cal with
  | none => 0
  | some c =>
    let u : Int := sec + stdOffset c * 60
    let t : Int := if inRepeat c u then lastInstant (dstEnd c) u + dstShift c * 60 - 1 else localTime (some c) sec
    profileRate c (dayProfile c (t / 86400)) ((t % 86400).toNat / 60)

/-- A month and day form a real date, 29 February accepted (R149). -/
def dateOk (m d : Nat) : Bool := decide (1 ≤ m ∧ m ≤ 12 ∧ 1 ≤ d ∧ d ≤ monthDays 2000 m)

/-- The checks of R149. -/
def calendarOk (c : List Byte) : Bool :=
  let b := byteAt c
  let off := stdOffset c
  let dstOk o := decide (1 ≤ b o ∧ b o ≤ 12 ∧ 1 ≤ b (o + 1) ∧ b (o + 1) ≤ 5 ∧ b (o + 2) ≤ 6 ∧ b (o + 3) ≤ 23)
  let seasons := (List.range 4).filter fun s => decide (b (24 + 4 * s) ≠ 0)
  let sDate s := b (24 + 4 * s) * 32 + b (25 + 4 * s)
  let pt p i := leAt c (72 + 48 * p + 4 * i) 2
  let dayOk p := decide (pt p 0 = 0) && ((List.range 12).all fun i =>
    let used := decide (pt p i ≠ 0xFFFF)
    decide (b (75 + 48 * p + 4 * i) = 0) && decide (b (74 + 48 * p + 4 * i) ≤ 7) && (!used || decide (pt p i ≤ 1439)) &&
      (decide (i = 0) || !used || (decide (pt p (i - 1) ≠ 0xFFFF) && decide (pt p (i - 1) < pt p i))))
  decide (-720 ≤ off ∧ off ≤ 840) && decide (b 14 ≤ 120) && decide (b 15 = 0) &&
  (decide (b 14 = 0) || (dstOk 16 && dstOk 20)) && !seasons.isEmpty &&
  ((List.range 4).all fun s => decide (b (27 + 4 * s) = 0)) &&
  (seasons.all fun s => dateOk (b (24 + 4 * s)) (b (25 + 4 * s)) && decide (b (26 + 4 * s) ≤ 3)) &&
  (seasons.all fun s => seasons.all fun t => decide (s = t) || decide (sDate s ≠ sDate t)) &&
  ((List.range 28).all fun i => decide (b (40 + i) ≤ 7)) && decide (leAt c 68 4 = 0) &&
  ((List.range 8).all dayOk) &&
  ((List.range 32).all fun j =>
    let o := 456 + 8 * j
    decide (leAt c (o + 5) 3 = 0) && (decide (b (o + 2) = 0) || (dateOk (b (o + 2)) (b (o + 3)) && decide (b (o + 4) ≤ 7)))) &&
  decide (leNat (c.drop 712) = 0)

/-! ### Interval records (R153 to R157) -/

/-- Interval length in seconds of a code of R169. -/
def ivlSeconds (code : Nat) : Nat := [300, 600, 900, 1800, 3600].getD code 900

/-- Length of the present interval. -/
def lNom (s : State) : Nat := ivlSeconds s.clk.ivlActive

/-- Flags that the present state adds to an open record: slewing, frozen, unsynced (R155). -/
def liveFlags (s : State) (n : Outlet8) : W16 :=
  BitVec.ofNat 16 (4 * b2n s.clk.slew.isSome + 0x80 * b2n (s.bill[n.val]).frozen + 0x800 * b2n s.clk.unsynced)

/-- A part of the open interval opens (R154, R155). -/
def openPart (flags : W16) (n : Outlet8) (s : State) : State :=
  modBill n (fun b =>
    let p : OpenPart := { part := b.regs.ivlParts + 1, ivlS := s.clk.lastClosed, openS := s.clk.sec, openMs := s.rtcMs,
                          flags := flags ||| liveFlags s n, rateOpen := s.clk.rate }
    { b with regs := { b.regs with part := some p } }) s

/-- A retrograde record opens (R163, R164). -/
def openRetro (flags : W16) (n : Outlet8) (s : State) : State :=
  modBill n (fun b =>
    let p : OpenPart := { part := 0, ivlS := 0, openS := s.clk.sec, openMs := s.rtcMs, retro := true,
                          flags := flags ||| 0x408 ||| liveFlags s n, rateOpen := s.clk.rate }
    { b with regs := { b.regs with part := some p } }) s

/-- Demand of an interval in W: E × 3.6 / L with L = max(L_nom, Σ TICKS / 64,000) (R156). -/
def demandOf (lnom e ticks : Nat) : Nat :=
  if ticks ≤ lnom * 64000 then (roundDiv (e * 36) (lnom * 10)).toNat
  else (roundDiv (e * 36 * 64000) (ticks * 10)).toNat

/-- A demand is compared with the maximum of the rate in force (R156); a frozen register stays. -/
def noteDemand (rate ivlS dImp dExp : Nat) (b : Bill) : Bill :=
  if b.frozen then b
  else
    let r : Fin 8 := Fin.ofNat 8 rate
    let up (m : Nat × Nat) (d : Nat) := if m.1 < d then (d, ivlS) else m
    { b with regs := { b.regs with mdImp := vmod b.regs.mdImp r fun m => up m dImp
                                   mdExp := vmod b.regs.mdExp r fun m => up m dExp } }

/-- A record closes and takes the next IRSEQ (R154); the part that closes its interval carries the demand
of all parts (R156). BIL_INTERVAL is posted. -/
def closePart (flags : W16) (closesIvl : Bool) (n : Outlet8) (s : State) : State :=
  let b := s.bill[n.val]
  match b.regs.part with
  | none => s
  | some p =>
    let eImp := b.regs.ivlImp + p.imp
    let eExp := b.regs.ivlExp + p.exp
    let ticks := b.regs.ivlTicks + p.ticks
    let ends := closesIvl && !p.retro
    let dImp := if ends then demandOf (lNom s) eImp ticks else 0
    let dExp := if ends then demandOf (lNom s) eExp ticks else 0
    let excl : W16 := if ends && b.frozen then 0x400 else 0
    let rateFlag : W16 := if p.rateOpen = s.clk.rate then 0 else 0x200
    let fl := p.flags ||| flags ||| liveFlags s n ||| excl ||| rateFlag
    let rec_ : IRec := { irseq := b.nextIr, flags := fl, rateOpen := p.rateOpen, rateClose := s.clk.rate, part := p.part,
                         ivlS := p.ivlS, openS := p.openS, openMs := p.openMs, ticks := p.ticks, imp := p.imp, exp := p.exp,
                         rq := p.rq, demImp := dImp, demExp := dExp }
    let s := modBill n (fun b =>
      let b := { b with recs := (rec_ :: b.recs).take 2880, nextIr := b.nextIr + 1 }
      let b := if ends then noteDemand s.clk.rate p.ivlS dImp dExp b else b
      let r := { b.regs with part := none }
      let r := if p.retro then r
        else if ends then { r with ivlImp := 0, ivlExp := 0, ivlTicks := 0, ivlParts := 0 }
        else { r with ivlImp := eImp, ivlExp := eExp, ivlTicks := ticks, ivlParts := p.part }
      { b with regs := r }) s
    post 0x0205 n.val (leBytes 4 rec_.irseq ++ leBytes 2 fl.toNat) s

/-- On every outlet. -/
def everyOutlet (f : Outlet8 → State → State) (s : State) : State := forFin 8 f s

/-- The open records age by a tick and take the flags of the present state (R155). -/
def tickParts (s : State) : State :=
  everyOutlet (fun n s => modBill n (fun b =>
    { b with regs := { b.regs with part := b.regs.part.map fun p =>
      { p with ticks := p.ticks + 1, flags := p.flags ||| liveFlags s n } } }) s) s

/-- INTERVAL_BOUNDARY: the open interval closes and the next opens, at the RTC second that has come (R153,
R157, R160). A change of length takes effect at a boundary common to both (R157). -/
def intervalBoundary (s : State) : State :=
  if s.clk.ivlDue then
    let s := everyOutlet (closePart 0 true) { s with clk := { s.clk with ivlDue := false } }
    let act := if s.clk.sec % ivlSeconds s.clk.ivl = 0 then s.clk.ivl else s.clk.ivlActive
    everyOutlet (openPart 0) { s with clk := { s.clk with lastClosed := s.clk.sec, ivlActive := act } }
  else s

/-- INTERVAL_BOUNDARY (R160). The commit follows at the end of foreground B (R125, R145). -/
def runIntervalBoundary (s : State) : Res := .next (intervalBoundary s)

/-- A change of rate while a record is open sets TARIFF_CHANGE; a part that opens at the same instant opens at the new rate (R155,
R160, R166). -/
def OpenPart.rateChange (r : Nat) (p : OpenPart) : OpenPart :=
  if p.ticks = 0 then { p with rateOpen := r } else { p with flags := p.flags ||| 0x200 }

/-- The rate is re-evaluated; a change is a tariff boundary with its cause (R150, R174). -/
def evalRate (cause : Nat) (s : State) : State :=
  let r := rateAt s.clk.active s.clk.sec
  let dst := match s.clk.active with
    | some c => inDst c (s.clk.sec + stdOffset c * 60)
    | none => false
  let cause := if cause = 0 ∧ dst ≠ s.clk.dst then 3 else cause
  let old := s.clk.rate
  let s := { s with clk := { s.clk with rate := r, dst := dst } }
  let s := everyOutlet (fun n s => if (s.bill[n.val]).regs.rate = r then s else
    modBill n (fun b => { b with regs := { b.regs with rate := r, part := b.regs.part.map (OpenPart.rateChange r) } }) s) s
  if r = old then s else post 0x0204 0xFF [BitVec.ofNat 8 old, BitVec.ofNat 8 r, BitVec.ofNat 8 cause] s

/-- The calendar part of a minute edge: activation and rate, unless a retrograde record is open (R150,
R152, R164). -/
def minuteTariff (s : State) : State :=
  if s.clk.retro then s
  else match s.clk.passive with
    | some c =>
      if leAt c 0 8 ≤ s.clk.sec then evalRate 1 { s with clk := { s.clk with active := some c, passive := none } }
      else evalRate 0 s
    | none => evalRate 0 s

/-! ### The RTC (R158 to R165) -/

/-- A second edge reaches MSD: which boundaries fall on it (R159, R160). -/
def secondFlags (s : State) : State :=
  let t := s.clk.sec
  let ivl := s.rst.msdUp && !s.clk.upDue && !s.clk.retro && decide (t % lNom s = 0 ∧ s.clk.lastClosed < t)
  { s with clk := { s.clk with ivlDue := s.clk.ivlDue || ivl, minuteDue := s.clk.minuteDue || (s.rst.msdUp && !s.clk.upDue && decide (t % 60 = 0)) } }

/-- A slew uses 1 ms of its Δ per second (R162). -/
def slewStep (d : Int) : Int := if 0 < d then d - 1 else if d < 0 then d + 1 else 0

/-- RTC_SECOND_EDGE (R159, R162). -/
def execRtcSecondEdge (s : State) : Res :=
  .next (secondFlags { s with clk := { s.clk with sec := s.clk.sec + 1, frac := 0, slew := s.clk.slew.map slewStep } })

/-- RTC_TEMP_CORRECTION (R158). -/
def execRtcTempCorrection (temp : Int) (s : State) : Res :=
  .next { s with clk := { s.clk with corr := Config.rtcCurve temp + s.clk.trim } }

/-- BIL_CLOCK event (R174). -/
def postClock (cause : Nat) (delta : Int) (s : State) : State :=
  post 0x0203 0xFF ([BitVec.ofNat 8 cause] ++ leBytes 8 (unsigned 64 delta)) s

/-- SLEW_DONE: Δ is used up (R162). -/
def runSlewDone (s : State) : Res :=
  .next (if s.rst.msdUp ∧ s.clk.slew = some 0 then
      postClock 1 s.clk.slewDelta { s with clk := { s.clk with slew := none } }
    else s)

/-- RTC in units of 1/64,000 s. -/
def rtcTicks (s : State) : Nat := s.clk.sec * 64000 + s.clk.frac

/-- The retrograde record closes; the interval that was open goes on in a new part, or closes with a part
of length zero where the time lies beyond it (R156, R164). -/
def closeRetro (flags : W16) (s : State) : State :=
  let s := everyOutlet (closePart flags false) s
  postClock 4 0 { s with clk := { s.clk with retro := false } }

/-- The open interval of an outlet whose parts are all closed closes with a part of length zero (R156). -/
def closeEmpty (n : Outlet8) (s : State) : State := closePart 0x23 true n (openPart 0 n s)

/-- RETRO_CLOSE: the RTC reaches the last closed boundary again by running (R164). Where it has restarted at 0 and that boundary is 0,
there is nothing to reach, and the record waits for the host's first step (R165; log 182). -/
def runRetroClose (s : State) : Res :=
  .next (if s.rst.msdUp ∧ s.clk.retro ∧ s.clk.lastClosed ≤ s.clk.sec ∧ ¬(s.clk.restarted ∧ s.clk.lastClosed = 0) then
      let s := closeRetro 0 s
      let s := everyOutlet (openPart 1) s
      evalRate 4 s
    else s)

/-- The interval that holds the RTC opens after a jump forward: flags CLOCK_STEP, and LATE unless the
time lies on its start (R163). -/
def openAfterJump (s : State) : State :=
  let start := s.clk.sec / lNom s * lNom s
  let late : W16 := if s.clk.sec = start ∧ s.clk.frac = 0 then 0 else 0x40
  everyOutlet (openPart (2 ||| late)) { s with clk := { s.clk with lastClosed := start } }

/-- A step moves the RTC (R163, R164). UNSYNCED reads 1 until the records of the old time are closed. -/
def moveClock (delta : Int) (s : State) : State :=
  let new := (rtcTicks s + delta * 64).toNat
  let start := s.clk.lastClosed
  let stop := start + lNom s
  let sec := new / 64000
  let sync (s : State) : State := { s with clk := { s.clk with unsynced := false } }
  let move (s : State) : State := { s with clk := { s.clk with sec := sec, frac := new % 64000, stepPend := none, restarted := false } }
  let set (s : State) : State := sync (move s)
  let s := postClock 2 delta s
  if s.clk.retro then
    if sec < start then set s
    else
      let s := move (closeRetro 2 s)
      let s := if sec < stop then everyOutlet (openPart 3) (sync s) else openAfterJump (sync (everyOutlet closeEmpty s))
      evalRate 4 s
  else if sec < start then
    let s := set (everyOutlet (closePart 3 false) s)
    postClock 3 delta (everyOutlet (openRetro 2) { s with clk := { s.clk with retro := true } })
  else if sec < stop then
    let s := set (everyOutlet (closePart 3 false) s)
    evalRate 2 (everyOutlet (openPart 3) s)
  else
    let s := set (everyOutlet (closePart 0x22 true) s)
    evalRate 2 (openAfterJump s)

/-- Completion data of BIL_TIME_SET: Δ, slewed or stepped, and whether a retrograde record opened (R173). -/
def timeSetData (delta : Int) (stepped retro : Bool) : List Byte :=
  leBytes 4 (unsigned 32 (clampInt (-(2 ^ 31)) (2 ^ 31 - 1) delta)) ++ [BitVec.ofNat 8 (b2n stepped), BitVec.ofNat 8 (b2n retro)]

/-- CLOCK_STEP: the step takes effect and the BIL_TIME_SETs that asked for it complete, each with its own Δ, for only now is it known
whether a retrograde record opened (R163, R173; log 152). -/
def clockStep (p : StepPend) (s : State) : State :=
  let t := moveClock p.delta s
  p.flights.foldl (fun t q => holdDone q.1 .ok (timeSetData q.2 true (t.clk.retro && !s.clk.retro)) t) t

/-- BIL_TIME_SET (R161, R162): a slew completes at once, a step with CLOCK_STEP. -/
def bilTimeSet (f : Flight) (s : State) : State :=
  let target := f.p 16 8
  let ms := f.p 24 2
  let mode := f.p 26 1
  let delta : Int := ((target : Int) - s.clk.sec) * 1000 + ms - s.rtcMs
  let near := decide (-(s.clk.stepLimit * 1000 : Int) ≤ delta ∧ delta ≤ s.clk.stepLimit * 1000)
  if 999 < ms ∨ 2 < mode then completeSt f .invalid s
  else if mode = 2 ∧ (s.clk.unsynced ∨ !near) then completeSt f .denied s
  else if mode ≠ 1 ∧ near ∧ !s.clk.unsynced then
    let s := { s with clk := { s.clk with slew := some delta, slewDelta := delta } }
    complete f .ok 0 (timeSetData delta false false) none (postClock 0 delta s)
  else
    let waiting := match s.clk.stepPend with | some p => p.flights | none => []
    keepRunning f { s with clk := { s.clk with slew := none, stepPend := some { delta := delta, tick := s.now, flights := waiting ++ [(f.seq, delta)] } } }

/-- BIL_TIME_SET (R161). -/
def runBilTimeSet (s : State) : Res := .next (dispatch 0x0205 bilTimeSet s)

/-- BIL_TIME_READ (R173). -/
def runBilTimeRead (s : State) : Res :=
  .next (dispatch 0x0206 (fun f s =>
    complete f .ok 0 (leBytes 8 s.clk.sec ++ leBytes 2 s.rtcMs ++ leBytes 4 (unsigned 32 (s.clk.slew.getD 0))) none s) s)

/-! ### The power log (R167, R168) -/

/-- BIL_POWER event. -/
def postPower (up : Nat) (pseq : Nat) (s : State) : State := post 0x0206 0xFF ([BitVec.ofNat 8 up] ++ leBytes 4 pseq) s

/-- UP_S of an entry; 0 while down (R168). -/
def PowerEntry.upS (e : PowerEntry) : Nat := match e.up with | some u => u.1 | none => 0

/-- The power-up entry goes into the newest entry whose UP_S is 0 (R167). -/
def powerUpEntry (cleared : Bool) (s : State) : State :=
  match s.clk.power.find? fun e => decide (e.upS = 0) with
  | none => s
  | some e =>
    let e' := { e with up := some (s.clk.sec, s.rtcMs), cleared := cleared, rtcInvalid := s.clk.unsynced }
    let l := s.clk.power.map fun x => if x.pseq = e.pseq then e' else x
    postPower 1 e.pseq { s with clk := { s.clk with power := l } }

/-- The power-down entry (R167, R168). -/
def powerDownEntry (s : State) : State :=
  let e : PowerEntry := { pseq := s.clk.nextP, downS := s.clk.sec, downMs := s.rtcMs, downGtc := s.gen.gtc }
  postPower 0 e.pseq { s with clk := { s.clk with power := (e :: s.clk.power).take 64, nextP := s.clk.nextP + 1 } }

/-- The part that an outlet's image holds open closes with POWER_FAIL, and its interval too where the RTC has passed its end; where more
parts of the interval follow, it carries SPLIT (R155, R167). -/
def closeAtStart (n : Outlet8) (s : State) : State :=
  match (s.bill[n.val]).regs.part with
  | none => s
  | some p =>
    let ends := decide (p.ivlS + lNom s ≤ s.clk.sec)
    closePart (if ends then 0x10 else 0x11) ends n s

/-- A retrograde record that a level-0 start finds open after its end closes with POWER_FAIL; the unfinished interval closes with
a part of length zero where the RTC has passed its end (R156, R164, R167). -/
def closeRetroAtStart (s : State) : State :=
  let s := closeRetro 0x10 s
  if s.clk.lastClosed + lNom s ≤ s.clk.sec then everyOutlet (fun n s => closePart 0x11 true n (openPart 0 n s)) s else s

/-- On every outlet a part of the interval that holds the RTC opens: PART 1, LATE where it does not open on the interval's start, or a
later part with SPLIT (R167). -/
def openHere (flags : W16) (s : State) : State :=
  let start := s.clk.sec / lNom s * lNom s
  let late : W16 := if s.clk.sec = start ∧ s.clk.frac = 0 then 0 else 0x40
  everyOutlet (fun n s => openPart (flags ||| (if (s.bill[n.val]).regs.ivlParts = 0 then late else 1)) n s)
    { s with clk := { s.clk with lastClosed := start } }

/-- What the image holds open closes and what the RTC now asks for opens; `entry` stands between them, and the new part has the given
flags. A retrograde record whose end the RTC has not reached stays open (log 20), and one opens where the RTC has restarted at 0 or lies
before the last closed boundary (R165, R167). -/
def reopenParts (entry : State → State) (flags : W16) (s : State) : State :=
  let held := s.bill.toList.any fun b => b.regs.part.isSome
  let before := decide (s.clk.sec < s.clk.lastClosed) || s.clk.restarted
  if s.clk.retro && before then entry s
  else
    let s := entry (if s.clk.retro then closeRetroAtStart s else everyOutlet closeAtStart s)
    if before && held then
      postClock 3 0 (everyOutlet (openRetro 0x10) { s with clk := { s.clk with retro := true } })
    else openHere flags { s with clk := { s.clk with restarted := false } }

/-- The image of no outlet holds an open part and the power log is empty: the first start after manufacture (R167). -/
def firstStart (s : State) : Bool := !(s.bill.toList.any fun b => b.regs.part.isSome) && s.clk.power.isEmpty

/-- POWER_UP_ENTRY at a level-0 start, in the first foreground B after the BIL bit sets (R165, R167). -/
def powerUp (s : State) : State :=
  let cause := if s.clk.retro then 4 else 2
  reopenParts (fun t => powerUpEntry false (evalRate cause t)) (if firstStart s then 0 else 0x10)
    { s with clk := { s.clk with upDue := false } }

/-- The power-fail record: parts close, a power-down entry is written, new parts open with POWER_FAIL and SPLIT (R167). A retrograde
record stays open (log 20). A warning before the BIL bit sets meets the part that the image holds open, as the start would (R167;
log 154). -/
def powerFailRecord (s : State) : State :=
  if s.clk.upDue then reopenParts powerDownEntry 0x11 s
  else
    let s := if s.clk.retro then s else everyOutlet (closePart 0x11 false) s
    let s := powerDownEntry s
    if s.clk.retro then s else everyOutlet (openPart 0x11) s

/-- What foreground B owes to a start or to a cleared warning (R167). -/
def tickPower (s : State) : State :=
  let s := if s.clk.upDue && s.isReady 2 then powerUp s else s
  match s.clk.clearDue with
  | some t => if t < s.now then powerUpEntry true { s with clk := { s.clk with clearDue := none } } else s
  | none => s

/-! ### Set-up registers (R157, R169) -/

/-- A write to BIL_CFG (R157, R169). -/
def writeBilCfg (v : Nat) (s : State) : State :=
  let i := bitsOf v 0 3
  if 5 ≤ i then { s with clk := { s.clk with cfgReject := true } } else { s with clk := { s.clk with ivl := i } }

/-- BIL_CFG_WRITE (R157). -/
def execBilCfgWrite (v : W32) (s : State) : Res := .next (if s.isReady 16 then writeBilCfg v.toNat s else s)

/-- A write to BIL_CLK (R169). -/
def writeBilClk (v : Nat) (s : State) : State :=
  let l := bitsOf v 0 6
  if l = 0 ∨ 60 < l then { s with clk := { s.clk with cfgReject := true } }
  else { s with clk := { s.clk with stepLimit := l, trim := signed 8 (bitsOf v 8 8) } }

/-! ### Readout (R170 to R173) -/

/-- At the end of foreground B, after the commit: what a readout of this tick returns (R170). -/
def keepBillRead (status : Outlet8 → State → Nat) (s : State) : State :=
  forFin 8 (fun n s => { s with bill := vmod s.bill n fun b => { b with endRegs := b.regs, endSeq := b.seq, endStatus := status n s } }) s

/-- FLAGS of BIL_REG_READ. -/
def regFlags (b : Bill) (s : State) : Nat :=
  b2n b.frozen + 2 * b2n s.clk.retro + 4 * b2n s.clk.unsynced + 8 * b2n b.qtDoubt

/-- The 448 bytes of R170, of the image as committed at the end of foreground B. -/
def regBytes (n : Outlet8) (s : State) : List Byte :=
  let b := s.bill[n.val]
  let img := if b.frozen then b.frozenImg.regs else b.endRegs
  let seq := if b.frozen then b.frozenImg.seq else b.endSeq
  let r8 (v : Nat) := leBytes 8 (v % 2 ^ 48)
  let mds := img.mdImp.toList ++ img.mdExp.toList
  let regs := img.imp.toList.flatMap r8 ++ img.exp.toList.flatMap r8 ++ r8 img.impTot ++ r8 img.expTot ++
    img.rq.toList.flatMap r8 ++ r8 img.t
  let tail := mds.flatMap (fun m => leBytes 4 m.1) ++ mds.flatMap (fun m => leBytes 8 m.2) ++ leBytes 4 img.mdResets
  let gone := b.frozen && b.noCopy
  leBytes 8 seq ++ leBytes 6 s.now ++ leBytes 2 (regFlags b s) ++
    (if gone then List.replicate 184 0xFF else regs) ++ r8 b.q.imp ++ r8 b.q.exp ++ b.q.rq.toList.flatMap r8 ++
    (if gone then List.replicate 196 0xFF else tail) ++ leBytes 4 0

/-- BIL_REG_READ (R170). -/
def bilRegRead (f : Flight) (s : State) : State :=
  let b := s.bill[f.outlet.val]
  let seq := if b.frozen then b.frozenImg.seq else b.endSeq
  if f.bufLen ≠ 448 then completeSt f .invalid s
  else complete f (if b.frozen then .frozen else .ok) 0 (leBytes 8 seq) (some (regBytes f.outlet s)) s

/-- BIL_REG_READ (R170). -/
def runBilRegRead (s : State) : Res := .next (dispatch 0x0201 bilRegRead s)

/-- BIL_SHORT_READ (R128, R171). -/
def bilShortRead (f : Flight) (s : State) : State :=
  let m := f.p 16 4
  let views := (allFin 23).filter fun i => bitAt m i.val
  let b := s.bill[f.outlet.val]
  let img := if b.frozen then b.frozenImg.regs else b.regs
  let bytes := views.flatMap fun i =>
    leBytes 4 (viewReg img i / 10) ++ leBytes 1 (if b.frozen then 0 else img.wraps[i.val]) ++ leBytes 3 0
  if m = 0 ∨ 2 ^ 23 ≤ m ∨ f.bufLen ≠ 8 * views.length then completeSt f .invalid s
  else if b.frozen then complete f .frozen 0 (leBytes 1 views.length) (some bytes) s
  else
    let s := modBill f.outlet (fun b => { b with regs := { b.regs with
      wraps := views.foldl (fun w i => w.set i.val 0) b.regs.wraps } }) s
    complete f .ok 0 (leBytes 1 views.length) (some bytes) (commitBill f.outlet s)

/-- BIL_SHORT_READ (R171). -/
def runBilShortRead (s : State) : Res := .next (dispatch 0x0202 bilShortRead s)

/-- The 64 bytes of an interval record (R155). -/
def irecBytes (r : IRec) : List Byte :=
  leBytes 4 r.irseq ++ leBytes 2 r.flags.toNat ++ [BitVec.ofNat 8 (r.rateOpen % 16 + 16 * (r.rateClose % 16)), BitVec.ofNat 8 r.part] ++
  leBytes 8 r.ivlS ++ leBytes 8 r.openS ++ leBytes 2 r.openMs ++ leBytes 6 r.ticks ++ leBytes 4 r.imp ++ leBytes 4 r.exp ++
  r.rq.toList.flatMap (leBytes 4) ++ leBytes 4 r.demImp ++ leBytes 4 r.demExp

/-- Reads a log that stands newest first: records from START on, from the oldest with DETAIL 1 where START
is older (R172). -/
def readLog {α : Type} (f : Flight) (log : List α) (num : α → Nat) (bytes : α → List Byte) (size limit : Nat)
    (s : State) : State :=
  let start := f.p 16 4
  let count := f.p 20 2
  if count = 0 ∨ limit < count ∨ f.bufLen ≠ size * count then completeSt f .invalid s
  else
    let l := log.reverse
    let oldest := match l with | r :: _ => num r | [] => 0
    let newest := match log with | r :: _ => num r | [] => 0
    let rs := (l.filter fun r => decide (start ≤ num r)).take count
    let detail := if start < oldest then 1 else 0
    complete f .ok detail (leBytes 2 rs.length ++ leBytes 4 newest) (some (rs.flatMap bytes)) s

/-- BIL_INTERVAL_READ (R172). -/
def runBilIntervalRead (s : State) : Res :=
  .next (dispatch 0x0203 (fun f s => readLog f (s.bill[f.outlet.val]).recs IRec.irseq irecBytes 64 256 s) s)

/-- The 32 bytes of a power-log entry (R168). -/
def powerBytes (e : PowerEntry) : List Byte :=
  let (us, um) := e.up.getD (0, 0)
  leBytes 8 e.downS ++ leBytes 2 e.downMs ++ leBytes 6 e.downGtc.toNat ++ leBytes 8 us ++ leBytes 2 um ++
    leBytes 2 (b2n e.cleared + 2 * b2n e.rtcInvalid) ++ leBytes 4 e.pseq

/-- BIL_POWER_READ (R172). -/
def runBilPowerRead (s : State) : Res :=
  .next (dispatch 0x0204 (fun f s => readLog f s.clk.power PowerEntry.pseq powerBytes 32 64 s) s)

/-- BIL_CALENDAR_WRITE (R149, R152). -/
def bilCalendarWrite (f : Flight) (s : State) : State :=
  if f.bufLen ≠ 768 ∨ !calendarOk f.inBuf then completeSt f .invalid s
  else complete f .ok 0 (slice f.inBuf 8 4) none { s with clk := { s.clk with passive := some f.inBuf } }

/-- BIL_CALENDAR_WRITE (R152). -/
def runBilCalendarWrite (s : State) : Res := .next (dispatch 0x0207 bilCalendarWrite s)

/-- BIL_CALENDAR_READ (R173). -/
def bilCalendarRead (f : Flight) (s : State) : State :=
  let w := f.p 16 1
  if 1 < w ∨ f.bufLen ≠ 768 then completeSt f .invalid s
  else match (if w = 0 then s.clk.active else s.clk.passive) with
    | some c => complete f .ok 0 (leBytes 1 w) (some c) s
    | none => completeSt f .conflict s

/-- BIL_CALENDAR_READ (R173). -/
def runBilCalendarRead (s : State) : Res := .next (dispatch 0x0208 bilCalendarRead s)

/-- The maxima of one outlet are reset, in one commit (R173). -/
def resetMd (n : Outlet8) (s : State) : State :=
  commitBill n (modBill n (fun b => { b with regs := { b.regs with
    mdImp := Vector.replicate 8 (0, 0), mdExp := Vector.replicate 8 (0, 0), mdResets := b.regs.mdResets + 1 } }) s)

/-- BIL_MD_RESET (R173). -/
def bilMdReset (f : Flight) (s : State) : State :=
  let chosen := (allFin 8).filter fun n => decide (f.target = 0xFF) || decide (n = f.outlet)
  let live := chosen.filter fun n => !(s.bill[n.val]).frozen
  let st : Status := if live.length = chosen.length then .ok else .frozen
  let s := live.foldl (fun s n => resetMd n s) s
  complete f st 0 (leBytes 1 (live.foldl (fun m n => m + 2 ^ n.val) 0)) none s

/-- BIL_MD_RESET (R173). -/
def runBilMdReset (s : State) : Res := .next (dispatch 0x0209 bilMdReset s)

end Sys2Proof.Machine
end

