-- ==== Sys2Proof/Machine/Cells.lean ====
section
/-! DEFINITION. The stored words of the memories, their code and the tiles of the MRAM (chapter 18, R415 to R425), and the image slots
in it (R403).

Records that are held in three copies stand in their owners' blocks, not in these words (log 8). -/

namespace Sys2Proof.Machine

/-- Changes the memory block. -/
def modMem (f : Mem → Mem) (s : State) : State := { s with mem := f s.mem }

/-! ### Stored words (R415 to R417) -/

/-- Numbers of the memories (R425). -/
def memNum : MemId → Nat
  | .mram => 0 | .appSram => 1 | .metSram => 2

/-- Words of a memory. -/
def memWords : MemId → Nat
  | .mram => 1048576 | .appSram => 262144 | .metSram => 32768

/-- The table of a memory. -/
def memTable (m : MemId) (s : State) : List (Nat × Stored) :=
  match m with
  | .mram => s.mem.mram
  | .appSram => s.mem.app
  | .metSram => s.mem.met

/-- The stored word at an address. -/
def wordAt (m : MemId) (a : Nat) (s : State) : Stored := sparseGet {} (memTable m s) a

/-- Replaces a stored word; an address past the end of the memory holds none. -/
def setWord (m : MemId) (a : Nat) (w : Stored) (s : State) : State :=
  if memWords m ≤ a then s
  else match m with
    | .mram => modMem (fun x => { x with mram := sparseSet {} x.mram a w }) s
    | .appSram => modMem (fun x => { x with app := sparseSet {} x.app a w }) s
    | .metSram => modMem (fun x => { x with met := sparseSet {} x.met a w }) s

/-- A stored bit flips; a second flip of the same bit takes the first one back (R415). -/
def flipBit (u : Upset) (s : State) : State :=
  let w := wordAt u.mem u.addr s
  if 76 ≤ u.bit then s
  else
    let f := if w.flips.contains u.bit then w.flips.filter (fun b => b != u.bit) else (u.bit :: w.flips).mergeSort
    setWord u.mem u.addr { w with flips := f } s

/-- The majority of the three valid bits (R415). -/
def Stored.isValid (w : Stored) : Bool := w.valid != decide (2 ≤ (w.flips.filter fun b => decide (73 ≤ b)).length)

/-- Flipped bits under the SECDED code: data, check and poison (R415). -/
def Stored.codeFlips (w : Stored) : List Nat := w.flips.filter fun b => decide (b < 73)

/-- Data and poison as they stand in the cells. -/
def Stored.raw (w : Stored) : Stored :=
  let d := w.flips.foldl (fun (v : W64) b => if b < 64 then v ^^^ BitVec.ofNat 64 (2 ^ b) else v) w.data
  { data := d, poison := w.poison != w.flips.contains 72, valid := w.isValid }

/-- MEM_TILE (R433). -/
def postTile (kind tile : Nat) (s : State) : State :=
  postMail 0x0E02 0xFF ([BitVec.ofNat 8 kind] ++ leBytes 2 tile ++ [BitVec.ofNat 8 s.mem.spareLeft]) s

/-- Logical tile of an MRAM word (R420). -/
def tileOfWord (a : Nat) : Nat := a / 512

/-- A relocation is queued once per tile; without a spare tile a stuck address causes none, and a failed tile is exchanged (R427). -/
def queueReloc (tile : Nat) (failed : Bool) (s : State) : State :=
  if s.mem.queued.any (fun r => r.tile == tile) then s
  else if 0 < s.mem.spareLeft then modMem (fun m => { m with queued := m.queued ++ [{ tile := tile, spare := true }] }) s
  else if failed then modMem (fun m => { m with queued := m.queued ++ [{ tile := tile, spare := false }] }) s
  else s

/-- The entry of the log for one more correction; a scrub counts its passes (R423, R425). -/
def CeEntry.again (gtc : W48) (bit pass : Nat) (scrub : Bool) (e : CeEntry) : CeEntry :=
  let n := if !scrub then e.passes else if e.lastPass + 1 = pass then e.passes + 1 else 1
  { e with hits := min 65535 (e.hits + 1), lastGtc := gtc, bit := bit, passes := n, lastPass := if scrub then pass else e.lastPass,
           stuck := e.stuck || decide (3 ≤ n) }

/-- A corrected error is counted and logged (R423 to R425); the third scrub pass in a row marks it STUCK (R427). -/
def noteCorrection (m : MemId) (a bit : Nat) (scrub : Bool) (s : State) : State :=
  let key := (memNum m, a)
  let here (e : CeEntry) : Bool := decide (e.mem = memNum m ∧ e.addr = a)
  let win := if s.mem.window.contains key then s.mem.window else key :: s.mem.window
  let s := modMem (fun x => { x with ceCount := min 0xFFFFFFFF (x.ceCount + 1), window := win }) s
  let pass := s.mem.passes + 1
  match s.mem.log.find? here with
  | some e =>
    let e' := e.again s.gen.gtc bit pass scrub
    let s := modMem (fun x => { x with log := x.log.map fun y => if here y then e' else y }) s
    if e'.stuck ∧ !e.stuck ∧ m = .mram then queueReloc (tileOfWord a) false s else s
  | none =>
    if s.mem.log.length < 32 then
      let e : CeEntry := { addr := a, mem := memNum m, bit := bit, hits := 1, lastGtc := s.gen.gtc, passes := b2n scrub,
                           lastPass := if scrub then pass else 0 }
      modMem (fun x => { x with log := x.log ++ [e] }) s
    else setReplace 1 (modMem (fun x => { x with logOvf := true }) s)

/-- A word is read: single errors are corrected and written back, a double error is delivered and written back poisoned (R415, R416).
What the code makes of three and more flips is not stated; they pass, until the tile checksum finds them (log 30). -/
def readWord (m : MemId) (a : Nat) (scrub : Bool) (s : State) : (W64 × Bool) × State :=
  let w := wordAt m a s
  if w.flips.isEmpty then (if w.valid then (w.data, w.poison) else (0, false), s)
  else
    let v := w.flips.filter fun b => decide (73 ≤ b)
    let s := if v.length = 1 then noteCorrection m a 73 scrub s else s
    let c := w.codeFlips
    if !w.isValid then ((0, false), setWord m a { w with flips := c, valid := false } s)
    else match c with
      | [] => ((w.data, w.poison), setWord m a { w with flips := [], valid := true } s)
      | [b] => ((w.data, w.poison), setWord m a { w with flips := [], valid := true } (noteCorrection m a b scrub s))
      | [_, _] =>
        let r := w.raw
        let s := setWord m a { r with poison := true } s
        ((r.data, true), modMem (fun x => { x with ueWord := min 65535 (x.ueWord + 1) }) s)
      | _ =>
        let r := w.raw
        ((r.data, r.poison), setWord m a { w with flips := c, valid := true } s)

/-- Physical tile of a logical one (R427). -/
def physTile (t : Nat) (s : State) : Nat := match s.mem.map.find? fun e => e.1 == t with | some e => e.2 | none => t

/-- Words are written to the physical tile of a logical one; where its count passes 2⁴⁰ the tile is to be exchanged (R427). -/
def countWrites (t k : Nat) (s : State) : State :=
  let p := physTile t s
  let old := sparseGet 0 s.mem.writes p
  let s := modMem (fun m => { m with writes := sparseSet 0 m.writes p (old + k) }) s
  if old ≤ 1099511627776 ∧ 1099511627776 < old + k ∧ !(s.mem.queued.any fun r => r.tile == t) then
    modMem (fun m => { m with queued := m.queued ++ [{ tile := t, spare := false }] }) s
  else s

/-- A word is written whole: clean data clears the poison bit, poisoned data sets it, and the word is valid (R416, R417). -/
def writeWord (m : MemId) (a : Nat) (d : W64) (poison : Bool) (s : State) : State :=
  let s := setWord m a { data := d, poison := poison, valid := true } s
  if m = .mram ∧ a < memWords .mram then countWrites (tileOfWord a) 1 s else s

/-- Bits of a byte mask as a word mask. -/
def byteMask (mask : Byte) : W64 :=
  BitVec.ofNat 64 ((List.range 8).foldl (fun v i => if mask.getLsbD i then v + 255 * 2 ^ (8 * i) else v) 0)

/-- A write of fewer than 8 bytes merges with the stored word and keeps its poison (R417). -/
def mergeWord (m : MemId) (a : Nat) (mask : Byte) (d : W64) (s : State) : State :=
  if mask = 0xFF then writeWord m a d false s
  else
    let ((old, poison), s) := readWord m a false s
    let k := byteMask mask
    writeWord m a ((old &&& ~~~k) ||| (d &&& k)) poison s

/-! ### Tiles (R420 to R422) -/

/-- Words of a tile that are listed. -/
def tileWords (t : Nat) (s : State) : List (Nat × Stored) := s.mem.mram.filter fun e => decide (tileOfWord e.1 = t)

/-- A word passes SECDED and does not hold what was written: its change shows in the tile checksum (R422). -/
def Stored.changed (w : Stored) : Bool :=
  let r := w.raw
  decide (3 ≤ w.codeFlips.length ∧ w.isValid ∧ r.data ≠ w.data) || decide (w.isValid ≠ w.valid ∧ w.data ≠ 0)

/-- A tile that fails its checksum is poisoned, its checksum recomputed, and its relocation scheduled (R422). -/
def failTile (t : Nat) (s : State) : State :=
  let ws := (tileWords t s).filter fun e => e.2.isValid
  let s := ws.foldl (fun s e => setWord .mram e.1 { e.2.raw with poison := true } s) s
  let s := modMem (fun m => { m with ueTile := min 65535 (m.ueTile + 1) }) s
  queueReloc t true (postTile 0 t s)

/-- A tile is verified against its checksum (R421). -/
def verifyTile (t : Nat) (s : State) : State :=
  let s := modMem (fun m => { m with verified := if m.verified.contains t then m.verified else t :: m.verified }) s
  if (tileWords t s).any fun e => e.2.changed then failTile t s else s

/-- A word is read through the MRAM port; the first read of a tile since the level-0 start verifies it (R421). -/
def portWord (a : Nat) (s : State) : (W64 × Bool) × State :=
  let t := tileOfWord a
  readWord .mram a false (if s.mem.verified.contains t then s else verifyTile t s)

/-- What such a read leaves. -/
def portRead (a : Nat) (s : State) : State := (portWord a s).2

/-! ### The image slots (R403, R406) -/

/-- Tile at which an image slot begins: two runs of 640 tiles that do not overlap; their places are open (R403, log 190). -/
def slotTile (k : Fin 2) : Nat :=
  let a := Config.slotPlace 0 % 769
  let b := a + 640 + Config.slotPlace 1 % (769 - a)
  if decide (k.val = 0) = decide (Config.slotPlace 2 % 2 = 0) then a else b

/-- First word of piece i of a slot: piece i lies at slot offset 512 · i (R403). -/
def pieceWord (k : Fin 2) (i : Nat) : Nat := 512 * slotTile k + 64 * i

/-- The 512 bytes of a piece are written, and with each word the checksum of its tile (R406, R420). -/
def writePiece (k : Fin 2) (i : Nat) (bytes : List Byte) (s : State) : State :=
  (List.range 64).foldl (fun s j => writeWord .mram (pieceWord k i + j) (BitVec.ofNat 64 (leNat (slice bytes (8 * j) 8))) false s) s

/-- A piece is read; the bytes of an image that was not loaded piece by piece are not known (log 190). -/
def readPiece (k : Fin 2) (i : Nat) (s : State) : List Byte × State :=
  if (s.upd.slot[k.val]).loaded then
    (List.range 64).foldl (fun acc j =>
      let r := portWord (pieceWord k i + j) acc.2
      (acc.1 ++ leBytes 8 r.1.1.toNat, r.2)) ([], s)
  else freeBytes 512 s

/-- All bytes of the first n pieces of a slot, as stored (R404). -/
def storedBytes (k : Fin 2) (n : Nat) (s : State) : List Byte :=
  (List.range (64 * n)).flatMap fun j => leBytes 8 (wordAt .mram (pieceWord k 0 + j) s).data.toNat

end Sys2Proof.Machine
end

