-- ==== Sys2Proof/Machine/Cert.lean ====
section
/-! DEFINITION. Reading DER certificates of P-256 keys: length-checked parsing, the signed part, the public key and the signature
(R283; ASN.1 DER and X.509 as published, log 9). -/

namespace Sys2Proof.Machine

/-- What the model takes from a certificate. -/
structure CertView where
  /-- The bytes that the issuer signed. -/
  tbs : List Byte
  /-- Public key, SEC 1 uncompressed. -/
  key : List Byte
  /-- Signature as r and s, 32 bytes each. -/
  sig : List Byte
  /-- First and last second of the validity, in seconds of 1970. -/
  validFrom : Int
  validTo : Int
  deriving DecidableEq, Repr

/-- Number of length bytes and the length that a DER element gives after its tag. -/
def derLen (bs : List Byte) : Option (Nat × Nat) :=
  match bs with
  | [] => none
  | b :: t =>
    if b.toNat < 128 then some (1, b.toNat)
    else
      let k := b.toNat - 128
      if k = 0 ∨ 4 < k ∨ t.length < k then none
      else
        let v := beNat (t.take k)
        if v < 128 ∨ byteAt t 0 = 0 then none else some (k + 1, v)

/-- One element: tag, whole encoding, content and the rest. -/
def derNext (bs : List Byte) : Option (Nat × List Byte × List Byte × List Byte) :=
  match bs with
  | [] => none
  | tag :: t =>
    match derLen t with
    | none => none
    | some (k, n) => if t.length < k + n then none else some (tag.toNat, bs.take (1 + k + n), (t.drop k).take n, t.drop (k + n))

/-- All elements of a content, as tag, whole encoding and content. -/
def derAll : Nat → List Byte → Option (List (Nat × List Byte × List Byte))
  | 0, bs => if bs.isEmpty then some [] else none
  | fuel + 1, bs =>
    if bs.isEmpty then some []
    else match derNext bs with
      | none => none
      | some (tag, whole, body, rest) => (derAll fuel rest).map fun l => (tag, whole, body) :: l

/-- An INTEGER as 32 bytes, none where it is negative or too long. -/
def derInt32 (tag : Nat) (body : List Byte) : Option (List Byte) :=
  if tag ≠ 2 ∨ body.isEmpty ∨ 128 ≤ byteAt body 0 ∨ 2 ^ 256 ≤ beNat body then none else some (beBytes 32 (beNat body))

/-- The public key in a SubjectPublicKeyInfo. -/
def derSpki (body : List Byte) : Option (List Byte) :=
  match derAll 8 body with
  | some [_, (3, _, bits)] => if byteAt bits 0 = 0 ∧ (decodePoint (bits.drop 1)).isSome then some (bits.drop 1) else none
  | _ => none

/-- A number in decimal ASCII digits, none where another byte stands among them. -/
def decimal (bs : List Byte) : Option Nat :=
  if bs.all fun b => decide (48 ≤ b.toNat ∧ b.toNat ≤ 57) then some (bs.foldl (fun v b => 10 * v + (b.toNat - 48)) 0) else none

/-- A UTCTime (tag 23, years 1950 to 2049) or GeneralizedTime (tag 24) with seconds and Z, in seconds of 1970. -/
def derTime (tag : Nat) (body : List Byte) : Option Int :=
  let k := if tag = 23 then 2 else 4
  if (tag ≠ 23 ∧ tag ≠ 24) ∨ body.length ≠ k + 11 ∨ byteAt body (k + 10) ≠ 0x5A then none
  else
    let f (i : Nat) : Option Nat := decimal (slice body i 2)
    match decimal (body.take k), f k, f (k + 2), f (k + 4), f (k + 6), f (k + 8) with
    | some y, some mo, some d, some h, some mi, some se =>
      let year := if tag = 24 then y else if y < 50 then 2000 + y else 1900 + y
      if 1 ≤ year ∧ 1 ≤ mo ∧ mo ≤ 12 ∧ 1 ≤ d ∧ d ≤ monthDays year mo ∧ h < 24 ∧ mi < 60 ∧ se < 60 then
        some (daysOf year mo d * 86400 + ((h * 3600 + mi * 60 + se : Nat) : Int))
      else none
    | _, _, _, _, _, _ => none

/-- The two ends of a validity. -/
def derValidity (body : List Byte) : Option (Int × Int) :=
  match derAll 2 body with
  | some [(t1, _, a), (t2, _, b)] =>
    match derTime t1 a, derTime t2 b with
    | some x, some y => some (x, y)
    | _, _ => none
  | _ => none

/-- The validity and the public key of a tbsCertificate: after version, serial, algorithm and issuer, and after the subject. -/
def derTbs (body : List Byte) : Option ((Int × Int) × List Byte) :=
  match derAll 16 body with
  | some l =>
    let i := match l with | (0xA0, _) :: _ => 4 | _ => 3
    match l[i]?, l[i + 2]? with
    | some (0x30, _, v), some (0x30, _, k) =>
      match derValidity v, derSpki k with
      | some v, some k => some (v, k)
      | _, _ => none
    | _, _ => none
  | none => none

/-- The signature in a BIT STRING. -/
def derSig (bits : List Byte) : Option (List Byte) :=
  match derAll 1 (bits.drop 1) with
  | some [(0x30, _, b)] =>
    match derAll 2 b with
    | some [(t1, _, r), (t2, _, q)] =>
      match derInt32 t1 r, derInt32 t2 q with
      | some r, some q => some (r ++ q)
      | _, _ => none
    | _ => none
  | _ => none

/-- One certificate from its content. -/
def derCert (body : List Byte) : Option CertView :=
  match derAll 3 body with
  | some [(0x30, tbs, tb), (0x30, _, _), (3, _, bits)] =>
    match derTbs tb, derSig bits with
    | some (v, k), some g => some { tbs := tbs, key := k, sig := g, validFrom := v.1, validTo := v.2 }
    | _, _ => none
  | _ => none

/-- 1 to n certificates that follow each other, none where the bytes do not parse so. -/
def derCerts (n : Nat) (bs : List Byte) : Option (List CertView) :=
  match derAll n bs with
  | some (c :: cs) => (c :: cs).mapM fun e => if e.1 = 0x30 then derCert e.2.2 else none
  | _ => none

/-- Each certificate is signed with the key of the next one. -/
def chainLinks : List CertView → Bool
  | a :: b :: t => ecdsaVerify b.key (sha256 a.tbs) a.sig && chainLinks (b :: t)
  | _ => true

end Sys2Proof.Machine
end

