-- ==== Sys2Proof/Machine/ResetOps.lean ====
section
/-! DEFINITION. Taking a reset: what each level clears and keeps (R19, R441, R446), holds and their
overlap (R443, R444), and the RESET event (R450, R473). Raising a source is one operation, `raise`. -/

namespace Sys2Proof.Machine

/-! ### Level 0 (R19): every block keeps what its registers call Kept and what lies in BTD and fuses. -/

/-- GEN at level 0: causes are kept; GEN_OVERRUN returns to 0 after a power-on or brown-out (R34, R63). -/
def Gen.level0 (power : Bool) (g : Gen) : Gen :=
  if power then { replace := g.replace }
  else { replace := g.replace, ovr := g.ovr, ovrFunc := g.ovrFunc, ovrCount := g.ovrCount, ovrGtc := g.ovrGtc }

/-- The sensing chain keeps its configuration, the seal and the saved gain (R95, R106). A write accepted before the reset is kept
although its tick edge has not come: it is in force at the start (log 148). -/
def Adc.level0 (a : Adc) : Adc :=
  { nomF60 := a.pendNomF.getD a.nomF60, sealed := a.sealed, sealCount := a.sealCount,
    cfg := a.pendCfg.foldl (fun c kc => c.set kc.1.val kc.2) a.cfg, gain := a.gainSaved, gainSaved := a.gainSaved }

/-- A pulse output keeps its configuration; its counters come back with the billing image (R36, R127). -/
def Pulse.level0 (p : Pulse) : Pulse :=
  { const := p.const, src := p.src, pol := p.pol, width := p.width, en := p.en,
    part := p.part, pending := p.pending, emitted := p.emitted, produced := p.produced }

/-- Gain and delay of a record at the current 0, its first breakpoint: before the first cycle has ended (R117). -/
def Corr.atZero (c : Corr) : GainDelay :=
  let b := c.bps.getD 0 (0, 0, 0)
  { g := b.2.1, d := b.2.2 }

/-- The energy computation keeps corrections, maps, the creep threshold and what is committed (R115, R119, R121, R125). Records and
maps that were stored are kept although their tick edge has not come (log 148). -/
def Energy.level0 (e : Energy) : Energy :=
  let corr := e.pendCorr.foldl (fun c kr => c.set kr.1.val kr.2) e.corr
  { corr := corr, gd := corr.map Corr.atZero, phmap := e.pendMap.foldl (fun m nm => m.set nm.1.val nm.2) e.phmap, creep := e.creep,
    fine := e.fine, feeder := e.feeder, pulse := e.pulse.map Pulse.level0 }

/-- Billing keeps its copies, its records and its freeze; the working registers come from the copies at
the next start (R143, R146). -/
def Bill.level0 (b : Bill) : Bill := { b with regs := {}, q := {}, dirty := false }

/-- The clock keeps the RTC, its configuration, the calendars and the power log (R158, R168, R169). -/
def Clock.level0 (c : Clock) : Clock :=
  { sec := c.sec, frac := c.frac, unsynced := c.unsynced, restarted := c.restarted, corr := c.corr,
    stepLimit := c.stepLimit, trim := c.trim, ivl := c.ivl, ivlActive := c.ivlActive,
    lastClosed := c.lastClosed, retro := c.retro, rate := c.rate, slew := c.slew, slewDelta := c.slewDelta, active := c.active, passive := c.passive,
    power := c.power, nextP := c.nextP }

/-- An account's copies are kept (R187). -/
def Ppy.level0 (p : Ppy) : Ppy := { copies := p.copies, prev := p.prev, enabled := p.enabled }

/-- An outlet keeps its configuration and the session that R210 has to close (R194, R210). -/
def Outlet.level0 (o : Outlet) : Outlet :=
  { ocfg := o.pendOcfg.getD o.ocfg, coil := o.pendCoil.getD o.coil, session := o.session, record := o.record, authRef := o.authRef }

/-- The session block at level 0. -/
def Ses.level0 (s : Ses) : Ses :=
  { out := s.out.map Outlet.level0, preauthS := s.preauthS, authTimeoutS := s.authTimeoutS,
    nextSession := s.nextSession }

/-- A stop pair keeps its stop and its faults (R240). -/
def StopPair.level0 (p : StopPair) : StopPair := { stop := p.stop, disc := p.disc, chat := p.chat }

/-- The safety block is kept; a pending block is discarded (R240, R247, R250). -/
def Saf.level0 (s : Saf) : Saf :=
  { copies := s.copies, check := s.check, edition := s.edition, editions := s.editions,
    confirmed := s.confirmed, mismatch := s.mismatch, pair := s.pair.map StopPair.level0 }

/-- The vehicle link keeps its configuration, certificates and request numbers (R272, R282, R283). -/
def Vlk.level0 (v : Vlk) : Vlk :=
  { cfg := v.cfg, slacWaitS := v.slacWaitS, authDl := v.authDl, schedDl := v.schedDl, certDl := v.certDl,
    resumeS := v.resumeS, macBase := v.macBase, nextReq := v.nextReq, secc := v.secc, roots := v.roots }

/-- Site current keeps its configuration, its token copies, the last digest and report, and that SCT_BUDGET is still owed (R297, R302, R306,
R309). -/
def Sct.level0 (s : Sct) : Sct :=
  { domainMode := s.domainMode, capStopS := s.capStopS, xferExp := s.xferExp, localTok := s.localTok,
    nextXid := s.nextXid, seq := s.seq, copies := s.copies, prev := s.prev, digest := s.digest, ownHeld := s.ownHeld,
    budgetOpen := s.budgetOpen }

/-- The backbone keeps its configuration (R336). -/
def Bkb.level0 (b : Bkb) : Bkb :=
  { en := b.en, coordEn := b.coordEn, depth := b.depth, rate := b.rate, relayShare := b.relayShare,
    domain := b.domain, notch := b.notch, phyad := b.phyad, vlanEn := b.vlanEn, txdly := b.txdly, vid := b.vid }

/-- The uplink keeps its configuration, the hinge count and the epoch (R329, R336). -/
def Upl.level0 (u : Upl) : Upl :=
  { en := u.en, dual := u.dual, preferB := u.preferB, hinges := u.hinges, gw := u.gw, epoch := u.epoch }

/-- An accepted NFC_CFG takes effect (R357). -/
def Nfc.applyCfg (n : Nfc) : Nfc :=
  match n.pendCfg with
  | none => n
  | some w =>
    let v := w.toNat
    { n with pingMs := bitsOf v 0 10, thresh := bitsOf v 12 4, en := bitAt v 16, enA := bitAt v 17, enB := bitAt v 18,
             enV := bitAt v 19, learn := bitAt v 20, maxRate := bitsOf v 21 2, pendCfg := none }

/-- The card reader keeps its configuration, the list and the saved recency order (R344, R347, R357). -/
def Nfc.level0 (m : Nfc) : Nfc :=
  let n := m.applyCfg
  { pingMs := n.pingMs, thresh := n.thresh, en := n.en, enA := n.enA, enB := n.enB, enV := n.enV,
    learn := n.learn, maxRate := n.maxRate, entries := n.entries, saved := n.saved }

/-- A host write into the tag's memory stops in the step that it is in, with its descriptor (R355). -/
def Tag.cutJob (t : Tag) : Tag :=
  match t.jobs with
  | j :: _ => { t with jobs := [], cut := j.todo.head?.map fun w => (w, j.step), hold := none }
  | [] => { t with hold := none }

/-- The display keeps its configuration, its images and the update-open mark (R359 to R365); every line is grounded at once through the discharge
path, for the 10 ms that a discharge takes, which the new GTC counts (R364, R365). -/
def Lcd.level0 (l : Lcd) : Lcd :=
  { en := l.en, crackEn := l.crackEn, tofs := l.tofs, legend := l.legend, newLegend := l.newLegend,
    wave := l.wave, stored := l.stored, shown := l.shown, mark := l.mark, drive := .ground, discharge := some 640 }

/-- An accepted LSW_CHCFGk takes effect (R388). -/
def Channel.applyCfg (c : Channel) : Channel :=
  match c.pendCfg with
  | none => c
  | some w =>
    let v := w.toNat
    { c with ilim := bitsOf v 0 4, slew := bitsOf v 4 5, blank := bitsOf v 9 3, olTh := bitsOf v 12 5,
             retryMax := bitsOf v 17 3, retryDly := bitsOf v 20 4, pendCfg := none }

/-- A load-switch channel keeps its configuration and is OFF (R387, R446). -/
def Channel.level0 (d : Channel) : Channel :=
  let c := d.applyCfg
  { ilim := c.ilim, slew := c.slew, blank := c.blank, olTh := c.olTh, retryMax := c.retryMax, retryDly := c.retryDly }

/-- The load switches at level 0. -/
def Lsw.level0 (l : Lsw) : Lsw := { ch := l.ch.map Channel.level0, pwm := l.pwm.map fun p => { high := p.high } }

/-- Flags of R387 of a channel. -/
def Channel.flags (c : Channel) : Bool × Bool × Bool × Bool := (c.oc, c.th, c.folded, c.openLoad)

/-- The channels stay as they are while the function is in reset; a mode not yet taken over is lost with its
descriptor (R25, R387). A further reset before the LSW bit sets leaves what the first one owes. -/
def Lsw.restart (l : Lsw) : Lsw :=
  { l with ch := l.ch.map fun c => { c with pendMode := none, seen := if l.owed then c.seen else c.flags }, cfgReject := false, owed := true }

/-- The display loses its pending image and its status; a running update completes (R15, R446). -/
def Lcd.restart (l : Lcd) : Lcd :=
  { l with pend := none, next := none, cfgReject := false, indet := false, crack := false, crackBad := 0, crackGood := 0, crackTick := none,
           bandRead := 0 }

/-- A key slot keeps its wrapped copies and UNUSABLE; its working record comes back with the root (R393, R396). -/
def KeySlot.level0 (k : KeySlot) : KeySlot := { copies := k.copies, prev := k.prev, unusable := k.unusable }

/-- The key engine at level 0. -/
def Key.level0 (k : Key) : Key := { slot := k.slot.map KeySlot.level0, helper := k.helper }

/-- Updates keep slots, boot state and settings (R405, R409, R412, R413). -/
def Upd.level0 (u : Upd) : Upd := { u with bootEvent := false, trialTick := none, checking := none }

/-- MRAM, its counters, log and tile map are kept; SRAM words are not (R415, R416, R423, R427). QUEUED reads 0 (R15), while the tiles that
are to be relocated stay so (log 191). -/
def Mem.level0 (m : Mem) : Mem :=
  { mram := m.mram, ceCount := m.ceCount, ueWord := m.ueWord, ueTile := m.ueTile, thresh := m.thresh,
    log := m.log.map fun e => { e with passes := 0, lastPass := 0 }, logOvf := m.logOvf, spareLeft := m.spareLeft, spareUsed := m.spareUsed, moves := m.moves,
    heldReloc := (m.heldReloc ++ m.queued).map (fun r => { r with copied := 0 }), map := m.map, writes := m.writes, base := m.base, prio := m.base }

/-- The holds of levels 1 to 3 go on beside a level-0 hold (R444), counted on in the ticks that follow it: 7 for the hold and 32 from its
end to GTC 0 (R45, R443). A loss of supply ends what they hold (log 192). -/
def holdsOver (power : Bool) (now : Tick) (hs : List Hold) : List Hold :=
  if power then [] else hs.map fun h => { h with untilTick := h.untilTick - (now + 39) }

/-- A source has started a level-0 hold: RST_CAUSE, RST_LAST and COUNT0 (R443), then every domain but
BTD is cleared. `wait` is true where the hold lasts until power-good; `gtc` is the tick that R473 records. -/
def level0 (src : Source) (wait : Bool) (gtc : W48) (s : State) : State :=
  let power := decide (src.num ≤ 3)
  { s with
    gen := s.gen.level0 power
    rst := { held0 := true, waitGood := wait, porArmed := s.rst.porArmed,
             cause := s.rst.cause ||| BitVec.ofNat 16 (2 ^ src.num), lastSrc := src, lastLevel := 0, lastFunc := 0,
             count0 := if s.rst.count0 = 0xFFFF then 0xFFFF else s.rst.count0 + 1,
             outCfg := s.rst.outCfg, event0 := some (src, gtc), holds := holdsOver power s.now s.rst.holds,
             vp12In := s.rst.vp12In, vn12In := s.rst.vn12In, pfailEn := s.rst.pfailEn, pfailPol := s.rst.pfailPol }
    hif := { linkOk := s.hif.linkOk }
    jnl := { entries := s.jnl.entries, tail := s.jnl.tail, headHi := s.jnl.headHi, tailHi := s.jnl.tailHi }
    adc := s.adc.level0
    nrg := s.nrg.level0
    bill := s.bill.map Bill.level0
    clk := s.clk.level0
    ppy := s.ppy.map Ppy.level0
    ses := s.ses.level0
    saf := s.saf.level0
    vlk := s.vlk.level0
    sct := s.sct.level0
    bkb := s.bkb.level0
    upl := s.upl.level0
    nfc := s.nfc.level0
    tag := { s.tag.cutJob with statusTick := none, statusOf := (0, 0), fieldTick := 0 }
    lcd := s.lcd.level0
    lmp := { fs := s.lmp.fs, gamma := s.lmp.gamma }
    lsw := s.lsw.level0
    key := s.key.level0
    upd := s.upd.level0
    mem := s.mem.level0 }

/-! ### Levels 1 to 3 (R441) -/

/-- GEN_READY bits that need APD or COD (R27). -/
def apdCodBits : List (Fin 19) := [5, 6, 7, 8, 9, 10, 11, 13, 17, 18]

/-- GEN_READY bits that need COD (R27, and the example of R450). -/
def codBits : List (Fin 19) := [5, 7, 8, 17]

/-- GEN_READY bits of the one function a level-3 reset reaches. -/
def fnBits (cls : Nat) : List (Fin 19) :=
  match cls with
  | 0x05 => [5] | 0x06 => [6] | 0x07 => [7, 17] | 0x08 => [8] | 0x09 => [9] | 0x0A => [10] | 0x0B => [11]
  | 0x0D => [13] | 0x10 => [16] | _ => []

/-- Does a hold reach APD, COD, or a function class (R441)? -/
def Hold.reachesApd (h : Hold) : Bool := h.level == 1
def Hold.reachesCod (h : Hold) : Bool := h.level == 1 || h.level == 2
def Hold.reachesFn (cls : Nat) (h : Hold) : Bool := h.level == 3 && h.func.toNat == cls

/-- The vehicle link's dialogues are lost; the MSD mirrors stay (R270, R281). Open decision requests
stand in APD and are lost with it; waiting descriptors abort with their class. -/
def Vlk.restart (v : Vlk) : Vlk :=
  { v with link := Vector.replicate 8 {}, open_ := [], waits := [], tlsWait := [], cfgReject := false }

/-- A requester of long operations that is part of the vehicle link. -/
def Requester.isTls : Requester → Bool
  | .tls _ => true
  | _ => false

/-- The token agent restarts from its committed tokens, in doubt where it was (R22, R297). What the rules make the coordinator or the node
keep without end stands: the ledger and what belongs to it, the 60 s of R291, the order of R304, a refusal (R295, R299 to R304, R306,
R307; log 183). -/
def Sct.restart (s : Sct) : Sct :=
  { s with cfgReject := false, target := Vector.replicate 3 none, budgetWait := [], capSince := Vector.replicate 8 none }

/-- The backbone restarts (R318); the coordinator's serial lies in the MSD mirror of R332. -/
def Bkb.restart (b : Bkb) : Bkb := { b.level0 with coord := b.coord }

/-- The uplink is down while a needed domain is in reset; its context, with a hinge that the loss of the backbone has begun, lies in the MSD
mirror (R22, R331, R332). -/
def Upl.restart (u : Upl) : Upl :=
  { u with aOk := false, bOk := false, cfgReject := false, shown := false, waits := [], bQueue := [], proveBy := none, trying := none,
           drill := none }

/-! ### The paths of the uplink (R331, R332), one of which a reset takes down -/

/-- Changes the uplink. -/
def modUpl (f : Upl → Upl) (s : State) : State := { s with upl := f s.upl }

/-- The uplink runs: an image runs in APD, COD is up, its class is not held and it is enabled (R22, R409, R411). -/
def uplOn (s : State) : Bool := s.rst.codUp && s.imageRuns && !s.rst.fnHeld.contains 0x07 && s.upl.en

/-- BKB_PATH (R338). -/
def postPath (cause : Nat) (b : Bool) (cond : Nat) (s : State) : State :=
  postMail 0x0702 0xFF [BitVec.ofNat 8 cause, BitVec.ofNat 8 (b2n b), BitVec.ofNat 8 (b2n s.upl.activeB), BitVec.ofNat 8 cond] s

/-- A path is not declared failed. -/
def pathOk (s : State) (b : Bool) : Bool := if b then s.upl.bOk else s.upl.aOk

/-- Sets A_OK or B_OK. -/
def setPathOk (b ok : Bool) (s : State) : State := modUpl (fun u => if b then { u with bOk := ok } else { u with aOk := ok }) s

/-- A hinge begins in this tick d (R332). -/
def startHinge (toB : Bool) (cond : Nat) (s : State) : State :=
  modUpl (fun u => { u with hinge := some (s.now, toB, cond), bQueue := [], proveBy := none, trying := none }) s

/-- BKB_UPL_SWITCH completes (R335, R337). -/
def endDrill (d : Drill) (detail : Nat) (s : State) : State :=
  completeSeq d.flight .ok detail [BitVec.ofNat 8 (b2n s.upl.activeB), BitVec.ofNat 8 (b2n d.passed)] none
    (modUpl (fun u => { u with drill := none }) s)

/-- The path under a drill is dead: PATH_DEAD, BKB_PATH cause 3, and the hinge back (R335). -/
def drillDead (d : Drill) (cond : Nat) (s : State) : State :=
  let b := s.upl.activeB
  let s := postPath 3 b cond (setReplace 6 (setPathOk b false s))
  startHinge (!b) 4 (modUpl (fun u => { u with drill := some { d with step := 2 } }) s)

/-- The active path has failed: the hinge to the other one (R331, R332). A path under a drill is dead by it; a switch that waits for its
proof ends unproven (R335). -/
def hingeAway (b : Bool) (cond : Nat) (s : State) : State :=
  match s.upl.drill with
  | some d =>
    if d.mode = 0 then startHinge (!b) cond (endDrill d 0 s)
    else if d.step = 1 then drillDead d cond s
    else startHinge (!b) cond s
  | none => startHinge (!b) cond s

/-- A path is declared failed (R331, R334). -/
def pathFail (b : Bool) (cond : Nat) (s : State) : State :=
  if !uplOn s ∨ !pathOk s b then setPathOk b false s
  else
    let s := setPathOk b false s
    if s.upl.dual then postPath 1 b cond s
    else if s.upl.activeB = b ∧ s.upl.hinge.isNone then hingeAway b cond (postPath 1 b cond s)
    else s

/-- The node loses the BKB bit by a reset: path B has failed in this tick (R331). -/
def losePathB (s : State) : State := if s.upl.bOk then pathFail true 2 s else s

/-- The reader's field goes off; the list stays (R343, R446). -/
def Nfc.restart (n : Nfc) : Nfc := { n.level0 with recency := n.recency, saveTick := n.saveTick }

/-- What APD holds beside the COD functions: image updates in progress lose nothing (R405). -/
def Upd.restart (u : Upd) : Upd := u

/-- The state of the function of a class is cleared (R441). Display, lamps and load switches hold their
outputs (R370, R387, R446); a pending image goes with its draw. -/
def clearFn (cls : Nat) (s : State) : State :=
  match cls with
  | 0x05 => dropReq Requester.isTls { s with vlk := s.vlk.restart }
  | 0x06 => { s with sct := s.sct.restart }
  | 0x07 => { s with bkb := s.bkb.restart, upl := s.upl.restart }
  | 0x08 => { s with nfc := s.nfc.restart, tag := s.tag.cutJob }
  | 0x09 => { s with lcd := s.lcd.restart }
  | 0x0B => { s with lsw := s.lsw.restart }
  | 0x0D => { s with upd := s.upd.restart }
  | _ => s

/-- The domains and functions that a level reaches lose readiness and their own state (R24, R25, R441); the application
SRAM loses its valid bits with APD (R416), and a check of the loader ends with its long operation (R57, R409). -/
def clearLevel (level cls : Nat) (s : State) : State :=
  let s := if level ≤ 2 ∨ cls = 0x07 then losePathB s else s
  if level = 1 then
    let s := loseReady apdCodBits s
    [0x05, 0x06, 0x07, 0x08, 0x09, 0x0B, 0x0D].foldl (fun s c => clearFn c s)
      (dropReq (fun r => decide (r = .boot))
        { s with rst := { s.rst with apdUp := false, codUp := false }, mem := { s.mem with app := [] }, upd := { s.upd with checking := none } })
  else if level = 2 then
    let s := loseReady codBits s
    [0x05, 0x07, 0x08].foldl (fun s c => clearFn c s) { s with rst := { s.rst with codUp := false } }
  else
    let s := loseReady (fnBits cls) s
    let c := BitVec.ofNat 8 cls
    let held := if s.rst.fnHeld.contains c then s.rst.fnHeld else c :: s.rst.fnHeld
    clearFn cls { s with rst := { s.rst with fnHeld := held } }

/-- Everything that a new source reaches is already held (R444). -/
def covered (level cls : Nat) (r : Rst) : Bool :=
  if level = 1 then r.holds.any Hold.reachesApd
  else if level = 2 then r.holds.any Hold.reachesCod
  else r.holds.any (Hold.reachesFn cls) ||
    (decide (cls ≠ 0x10) && (r.holds.any Hold.reachesApd ||
      (decide (cls = 0x07 ∨ cls = 0x08) && r.holds.any Hold.reachesCod)))

/-- A source asserts at level 1 to 3 (R441 to R444, R450). The hold of 100 µs ends at the seventh tick
edge after the assertion's own; `ms` holds it longer. `func` is FUNC of RST_LAST. -/
def raiseLow (src : Source) (level func ms : Nat) (held : Bool) (s : State) : State :=
  let cls := func
  let join := covered level cls s.rst
  let h : Hold := { src := src, level := level, func := BitVec.ofNat 8 func,
                    untilTick := s.now + max 7 (if ms = 0 then 7 else 64 * ms + 1), asserted := held }
  let r := { s.rst with
    cause := s.rst.cause ||| BitVec.ofNat 16 (2 ^ src.num)
    lastSrc := if join then s.rst.lastSrc else src
    lastLevel := if join then s.rst.lastLevel else level
    lastFunc := if join then s.rst.lastFunc else BitVec.ofNat 8 func
    holds := s.rst.holds ++ [h] }
  let s := if join then { s with rst := r } else clearLevel level cls { s with rst := r }
  let data := [BitVec.ofNat 8 src.num, BitVec.ofNat 8 level, BitVec.ofNat 8 func]
  if src = .pcie then holdEvent 0x0F06 data s.gen.gtc s else post 0x0F06 0xFF data s

/-- A source asserts at a level (R442): level 0 clears the part, unless its hold is already in force, in
which case the source only sets its RST_CAUSE bit (R444, R450); a power-on or brown-out returns GEN_OVERRUN to 0 in any case
(R63). -/
def raise (src : Source) (level func : Nat) (s : State) : State :=
  if s.rst.held0 then
    let power := decide (src.num ≤ 3)
    { s with rst := { s.rst with cause := s.rst.cause ||| BitVec.ofNat 16 (2 ^ src.num) }
             gen := if power then { s.gen with ovr := 0, ovrFunc := 0, ovrCount := 0, ovrGtc := 0 } else s.gen }
  else if level = 0 then
    level0 src (decide (src.num ≤ 3))
      (if src.num ≤ 3 ∨ src = .clock then 0xFFFFFFFFFFFF else s.gen.gtc) s
  else raiseLow src level func 0 false s

/-- Level of a source in the fuse view (R442, R449). -/
def levelOf (src : Source) (s : State) : Nat := s.fuse.rstMap.toList.getD src.num 0

/-- RSTOUT_N is driven low (R445). -/
def State.rstOut (s : State) : Bool :=
  s.rst.held0 || s.rst.holds.any fun h => s.rst.outCfg.getLsbD (h.level - 1)

end Sys2Proof.Machine
end

