-- ==== Sys2Proof/Machine/Host.lean ====
section
/-! DEFINITION. The host interface: ring set-up, doorbells, fetch, coalescing, the journal window and
the system class (chapters 02 and 03). -/

namespace Sys2Proof.Machine

/-- The host reaches the registers only while the PCIe link is up (R27, R67). -/
def hostAcc (act : State → State) (s : State) : State := if s.isReady 16 then act s else s

/-- What the PCI Express capability of function 0 states, by double word of the capability: maximum payload 256 bytes and no
function-level reset; the reset value of the maximum read request, 512 bytes; Gen 2, one lane, ASPM L1 and no L0s (R64; log 146). -/
def pciExpressCap (k : Fin 4) : Nat :=
  match k.val with
  | 0 => 0x10 + 2 * 2 ^ 16
  | 1 => 1
  | 2 => field 5 3 1 + field 12 3 2
  | _ => field 0 4 2 + field 4 6 1 + field 10 2 2

/-- What the MSI-X capability states: 32 vectors, the table at 0x800 and the pending bits at 0xC00 of BAR2; there is no MSI capability and
no interrupt pin (R64, R65; log 146). -/
def msixCap (k : Fin 3) : Nat :=
  match k.val with
  | 0 => 0x11 + 31 * 2 ^ 16
  | 1 => 0x802
  | _ => 0xC02

/-- What the configuration header of function 0 reads, by double word (R64, R65): vendor and device ID, class code, the two 32-bit
non-prefetchable memory BARs of 64 KiB and 4 KiB with every other BAR 0, subsystem vendor ID and subsystem ID by grade. The places
are those of PCI Express Base; the revision, the command and the capability pointer, for which the manual has no value, read 0 (log 146). -/
def pciHeader (k : Fin 16) (s : State) : Nat :=
  match k.val with
  | 0 => 0xA8081F7A
  | 2 => 0x118000 * 2 ^ 8
  | 4 => s.hif.bar0.toNat / 2 ^ 16 * 2 ^ 16
  | 6 => s.hif.bar2.toNat / 2 ^ 12 * 2 ^ 12
  | 11 => 0x1F7A + (if s.fuse.gradeX then 2 else 1) * 2 ^ 16
  | _ => 0

/-! ### Ring configuration (R68, R69) -/

/-- Ring number of R68 for HIF_ERR and the doorbell offsets of R69. -/
def ringNum : Ring → Nat
  | .sq n => n.val | .cq n => 16 + n.val | .evq => 32

/-- The completion or event ring. -/
def outRing (r : OutRing) (s : State) : OutQ :=
  match r with
  | .cq n => s.hif.cq[n.val]
  | .evq => s.hif.evq

/-- Replaces a completion or event ring. -/
def setOutRing (r : OutRing) (q : OutQ) (s : State) : State :=
  match r with
  | .cq n => { s with hif := { s.hif with cq := s.hif.cq.set n.val q } }
  | .evq => { s with hif := { s.hif with evq := q } }

/-- Value of HIF_SQn_CFG. -/
def Sq.cfgWord (q : Sq) : Nat :=
  flag 0 q.en + flag 1 q.prio + field 4 4 q.sizeLog2 + field 8 4 q.cq.val

/-- Value of HIF_CQn_CFG or HIF_EVQ_CFG. -/
def OutQ.cfgWord (q : OutQ) : Nat :=
  flag 0 q.en + flag 1 q.irqEn + field 4 4 q.sizeLog2 + field 8 5 q.vector.val +
  field 16 8 q.coalCount.toNat + field 24 8 q.coalTicks.toNat

/-- Bits that HIF_SQn_CFG and the other CFG registers hold; the rest is reserved (R17, R68). -/
def sqCfgBits : Nat := 0xFF3
def outCfgBits : Nat := 0xFFFF1FF3

/-- READY events of an enabled EVQ, one for each set bit in ascending order (R24). -/
def readySnapshot (s : State) : List Event × State :=
  (allFin 19).foldl (fun (acc : List Event × State) b =>
    if acc.2.isReady b.val then
      let (e, s) := produce 0x0F01 0xFF [BitVec.ofNat 8 b.val, 1] acc.2.gen.gtc acc.2
      (acc.1 ++ [e], s)
    else acc) ([], s)

/-- EN of EVQ goes from 0 to 1: READY events, then what is held (R24, R80). READY events of an earlier enable that were never
posted stay held behind the new ones (log 142). -/
def evqEnabled (s : State) : State :=
  let (es, s) := readySnapshot s
  drainEvents { s with hif := { s.hif with heldEv := es ++ s.hif.heldEv } }

/-- Sends the message of a ring whose count has been reached, or whose delay has passed (R79). -/
def coalesce (r : OutRing) (timeout : Bool) (s : State) : State :=
  let q := outRing r s
  let due := decide (max 1 q.coalCount.toNat ≤ q.unsignalled) ||
    (timeout && decide (q.firstTick + max 1 q.coalTicks.toNat ≤ s.now))
  if q.irqEn && decide (0 < q.unsignalled) && due then
    sendMsix q.vector (setOutRing r { q with unsignalled := 0 } s)
  else s

/-- A write to HIF_SQn_CFG (R68, R69). On an enabled ring a write that changes nothing is taken without CFG_REJECT (log 143). -/
def writeSqCfg (n : Fin 16) (v : Nat) (s : State) : State :=
  let q := s.hif.sq[n.val]
  let v := Nat.land v sqCfgBits
  let enNew := bitAt v 0
  let cq := Fin.ofNat 16 (bitsOf v 8 4)
  let size := bitsOf v 4 4
  let onlyEn := decide (v / 2 = q.cfgWord / 2)
  let rejected := (q.en && !onlyEn) || decide (size < 4 ∨ 12 < size) ||
    (!q.en && enNew && !(s.hif.cq[cq.val]).en)
  if rejected then raiseErr 1 n.val s
  else
    let q1 : Sq := { q with en := enNew, prio := bitAt v 1, sizeLog2 := size, cq := cq }
    let q2 : Sq := if enNew && !q.en then { q1 with head := 0, tail := 0 } else q1
    { s with hif := { s.hif with sq := s.hif.sq.set n.val q2 } }

/-- A write to HIF_CQn_CFG or HIF_EVQ_CFG (R68, R69). On an enabled ring a write that changes nothing is taken without CFG_REJECT
(log 143). -/
def writeOutCfg (r : OutRing) (v : Nat) (s : State) : State :=
  let q := outRing r s
  let v := Nat.land v outCfgBits
  let enNew := bitAt v 0
  let size := bitsOf v 4 4
  let onlyEn := decide (v / 2 = q.cfgWord / 2)
  let onlyIrq := decide (v - flag 1 (bitAt v 1) = q.cfgWord - flag 1 q.irqEn)
  let bound := match r with
    | .cq n => (allFin 16).any fun i => (s.hif.sq[i.val]).en && decide ((s.hif.sq[i.val]).cq = n)
    | .evq => false
  let rejected := (q.en && !onlyEn && !onlyIrq) || decide (size < 4 ∨ 12 < size) ||
    (q.en && !enNew && bound)
  let num := match r with | .cq n => 16 + n.val | .evq => 32
  if rejected then raiseErr 1 num s
  else
    let q1 : OutQ := { q with en := enNew, irqEn := bitAt v 1, sizeLog2 := size, vector := Fin.ofNat 32 (bitsOf v 8 5),
                              coalCount := BitVec.ofNat 8 (bitsOf v 16 8), coalTicks := BitVec.ofNat 8 (bitsOf v 24 8) }
    let up := enNew && !q.en
    let q2 : OutQ := if up then { q1 with head := 0, tail := 0, phase := true, unsignalled := 0 } else q1
    let s := setOutRing r q2 s
    match r with
    | .cq _ => coalesce r false s
    | .evq => if up then evqEnabled s else coalesce r false (if q.en && !enNew then unwaitEvents s else s)

/-- A write to one of the four registers of a ring; HEAD and TAIL are read only (R16, R68). -/
def writeRingReg (r : Ring) (g : RingReg) (v : W32) (s : State) : State :=
  match r, g with
  | .sq n, .cfg => writeSqCfg n v.toNat s
  | .cq n, .cfg => writeOutCfg (.cq n) v.toNat s
  | .evq, .cfg => writeOutCfg .evq v.toNat s
  | _, .index => s
  | .sq n, .baseLo =>
    let q := s.hif.sq[n.val]
    if q.en then raiseErr 1 n.val s
    else
      let b := BitVec.ofNat 64 (q.base.toNat / 2 ^ 32 * 2 ^ 32 + v.toNat / 4096 * 4096)
      { s with hif := { s.hif with sq := s.hif.sq.set n.val { q with base := b } } }
  | .sq n, .baseHi =>
    let q := s.hif.sq[n.val]
    if q.en then raiseErr 1 n.val s
    else
      let b := BitVec.ofNat 64 (v.toNat * 2 ^ 32 + q.base.toNat % 2 ^ 32)
      { s with hif := { s.hif with sq := s.hif.sq.set n.val { q with base := b } } }
  | r, .baseLo =>
    let o : OutRing := match r with | .cq n => .cq n | _ => .evq
    let q := outRing o s
    if q.en then raiseErr 1 (ringNum r) s
    else setOutRing o { q with base := BitVec.ofNat 64 (q.base.toNat / 2 ^ 32 * 2 ^ 32 + v.toNat / 4096 * 4096) } s
  | r, .baseHi =>
    let o : OutRing := match r with | .cq n => .cq n | _ => .evq
    let q := outRing o s
    if q.en then raiseErr 1 (ringNum r) s
    else setOutRing o { q with base := BitVec.ofNat 64 (v.toNat * 2 ^ 32 + q.base.toNat % 2 ^ 32) } s

/-- CFG value of a ring with EN as given and the rest unchanged. -/
def ringCfgWith (r : Ring) (en : Bool) (s : State) : W32 :=
  let w := match r with
    | .sq n => (s.hif.sq[n.val]).cfgWord
    | .cq n => (s.hif.cq[n.val]).cfgWord
    | .evq => s.hif.evq.cfgWord
  BitVec.ofNat 32 (w / 2 * 2 + b2n en)

/-- RING_CFG_WRITE (R68). -/
def execRingCfgWrite (r : Ring) (g : RingReg) (v : W32) (s : State) : Res :=
  .next (hostAcc (writeRingReg r g v) s)

/-- RING_ENABLE: a CFG write that sets EN alone (R69). -/
def execRingEnable (r : Ring) (s : State) : Res :=
  .next (hostAcc (fun s => writeRingReg r .cfg (ringCfgWith r true s) s) s)

/-- RING_DISABLE: a CFG write that clears EN alone (R69). -/
def execRingDisable (r : Ring) (s : State) : Res :=
  .next (hostAcc (fun s => writeRingReg r .cfg (ringCfgWith r false s) s) s)

/-! ### RUN and the reset of the host interface unit (R67, R68) -/

/-- Waiting descriptors that end with TIMEOUT when the host interface stops (R272, R337). -/
def endHostWaits (s : State) : State :=
  let ws := s.vlk.waits ++ s.upl.waits
  let s := { s with vlk := { s.vlk with waits := [] }, upl := { s.upl with waits := [] } }
  ws.foldl (fun s w => completeSeq w.1 .timeout 0 [] none s) s

/-- No completion is written any more for what is in flight (R67, R68). -/
def forgetCompletions (s : State) : State :=
  { s with hif := { s.hif with inflight := s.hif.inflight.map fun f => { f with noCq := true } } }

/-- RUN is set: fetch and posting begin (R68, R80). -/
def setRun (s : State) : State := drainEvents { s with hif := { s.hif with run := true } }

/-- RUN is cleared: every EN clears, reservations are dropped, what is in flight is journalled only,
an unwritten event returns to staging (R68, R474). -/
def clearRun (s : State) : State :=
  let s := unwaitEvents s
  endHostWaits (forgetCompletions { s with hif := { s.hif with
    run := false
    sq := s.hif.sq.map fun q => { q with en := false }
    cq := s.hif.cq.map fun q => { q with en := false, reserved := 0, waiting := [], failed := false }
    evq := { s.hif.evq with en := false } } })

/-- HIF_RUN_SET (R68). -/
def execHifRunSet (s : State) : Res := .next (hostAcc setRun s)

/-- HIF_RUN_CLEAR (R68). -/
def execHifRunClear (s : State) : Res := .next (hostAcc clearRun s)

/-- The reset of the host interface unit: its registers return to their reset values; descriptors in
flight and held events stay (R67). -/
def resetHif (s : State) : State :=
  let s := unwaitEvents s
  endHostWaits (forgetCompletions { s with
    hif := { inflight := s.hif.inflight, evNext := s.hif.evNext, staging := s.hif.staging, heldEv := s.hif.heldEv,
             lost := s.hif.lost, lostFirst := s.hif.lostFirst, linkOk := s.hif.linkOk, bufOk := s.hif.bufOk } })

/-- PCIE_RESET: the unit is reset and source 15 asserts; it is held while the link is down (R67, R442, R443). -/
def execPcieReset (k : LinkReset) (s : State) : Res :=
  .next (if s.rst.held0 then raise .pcie 3 0x10 s
    else raiseLow .pcie (levelOf .pcie s) 0x10 0 (k ≠ .hotReset) (resetHif s))

/-! ### Doorbells (R70, R71) -/

/-- SQ doorbell: the new tail (R71). -/
def writeSqDoorbell (n : Fin 16) (v : Nat) (s : State) : State :=
  let q := s.hif.sq[n.val]
  if !q.en || decide (2 ^ q.sizeLog2 ≤ v) then raiseErr 0 n.val s
  else { s with hif := { s.hif with sq := s.hif.sq.set n.val { q with tail := v } } }

/-- CQ or EVQ doorbell: the new head, not past the tail; the present value has no effect (R71). Room may let held events go (R80). -/
def writeOutDoorbell (r : OutRing) (v : Nat) (s : State) : State :=
  let q := outRing r s
  let n := 2 ^ q.sizeLog2
  let num := match r with | .cq n => 16 + n.val | .evq => 32
  if !q.en || decide (n ≤ v) || decide (q.used < (v + n - q.head) % n) then raiseErr 0 num s
  else if v = q.head then s
  else
    let s := setOutRing r { q with head := v } s
    match r with
    | .evq => drainEvents s
    | .cq _ => s

/-- SQ_DOORBELL_WRITE (R71). -/
def execSqDoorbellWrite (n : Fin 16) (v : W32) (s : State) : Res :=
  .next (hostAcc (writeSqDoorbell n v.toNat) s)

/-- CQ_DOORBELL_WRITE (R71). -/
def execCqDoorbellWrite (r : OutRing) (v : W32) (s : State) : Res :=
  .next (hostAcc (writeOutDoorbell r v.toNat) s)

/-- MSIX_COAL_TIMEOUT (R79). -/
def execMsixCoalTimeout (r : OutRing) (s : State) : Res := .next (coalesce r true s)

/-! ### Fetch (R72 to R77, R472) -/

/-- An SQ is eligible (R72). -/
def eligible (n : Fin 16) (s : State) : Bool :=
  let q := s.hif.sq[n.val]
  let c := s.hif.cq[q.cq.val]
  s.hif.run && q.en && decide (q.head ≠ q.tail) && decide (s.inFlight < 256) && !s.jnl.stall &&
    decide (c.used + c.reserved + 1 < 2 ^ c.sizeLog2)

/-- The first ring of a round after the one served last (R72). -/
def roundRobin (last : Option (Fin 16)) (ok : Fin 16 → Bool) : Option (Fin 16) :=
  let from_ := match last with | some l => l.val + 1 | none => 0
  ((List.range 16).map fun i => Fin.ofNat 16 (from_ + i)).find? ok

/-- The SQ that the next fetch serves (R72). -/
def fetchChoice (s : State) : Option (Fin 16) :=
  match roundRobin s.hif.lastHi (fun n => eligible n s && (s.hif.sq[n.val]).prio) with
  | some n => some n
  | none => roundRobin s.hif.lastLo (fun n => eligible n s && !(s.hif.sq[n.val]).prio)

/-- The descriptor that 64 bytes spell (R77). -/
def parseDescriptor (sq : Fin 16) (q : Sq) (seq : Nat) (raw : List Byte) : Flight :=
  { seq := seq, sq := sq, sqIndex := q.head, cq := q.cq, opcode := BitVec.ofNat 16 (leAt raw 0 2),
    tag := BitVec.ofNat 16 (leAt raw 2 2), fence := bitAt (byteAt raw 4) 0, target := BitVec.ofNat 8 (byteAt raw 5),
    bufLen := leAt raw 6 2, bufAddr := BitVec.ofNat 64 (leAt raw 8 8), param := slice raw 16 48, inBuf := [] }

/-- Checks 2 to 5 of R76, in order; none where the descriptor passes. -/
def fetchCheck (f : Flight) (flags : Nat) (s : State) : Option Status :=
  match opInfo f.opcode.toNat with
  | none => some .unsupported
  | some o =>
    if o.admin && decide (f.sq.val ≠ 0) then some .invalid
    else if !o.formOk f flags then some .invalid
    else if !s.isReady (f.opcode.toNat / 256) then some .notReady
    else none

/-- The tick whose intake a descriptor fetched now belongs to: this one until foreground C has completed, then the next (R54). -/
def intakeTick (s : State) : Tick := if s.gen.win.num ≤ Window.host.num then s.now else s.now + 1

/-- A fetch ends: the CQ entry is reserved, the entry opened, the descriptor checked (R73, R76, R82); an
input buffer is read in full before dispatch (R77). The journal entry of a descriptor whose read failed carries FENCE 0 (log 145). -/
def fetch (sq : Fin 16) (raw : List Byte) (readOk : Bool) (buf : BufRead) (torn : Bool) (s : State) : State :=
  if fetchChoice s = some sq && s.rst.msdUp then
    let q := s.hif.sq[sq.val]
    let seq := s.jnl.tail
    let f0 := { parseDescriptor sq q seq raw with intake := intakeTick s }
    let f : Flight := if readOk then f0
      else { f0 with opcode := 0, tag := 0, fence := false, param := [], bufLen := 0 }
    let s := { s with hif := { s.hif with
      sq := s.hif.sq.set sq.val { q with head := (q.head + 1) % 2 ^ q.sizeLog2 }
      cq := vmod s.hif.cq q.cq fun c => { c with reserved := c.reserved + 1 }
      lastHi := if q.prio then some sq else s.hif.lastHi
      lastLo := if q.prio then s.hif.lastLo else some sq } }
    let s := openEntry f.opcode f.tag sq f.fence q.head (!torn) s
    if torn then s
    else
      let s := { s with hif := { s.hif with inflight := s.hif.inflight ++ [f] } }
      if !readOk then completeSt f .integrity (raiseErr 2 sq.val s)
      else match fetchCheck f (byteAt raw 4) s with
        | some st => completeSt f st s
        | none =>
          if takesInput f then
            match buf with
            | .ok bytes =>
              let g := { f with inBuf := slice bytes 0 f.bufLen }
              { s with hif := { s.hif with inflight := s.hif.inflight.map fun x => if x.seq == f.seq then g else x } }
            | _ => completeSt f .integrity (raiseErr 3 sq.val s)
          else s
  else s

/-- DESCRIPTOR_FETCH (R472). -/
def execDescriptorFetch (sq : Fin 16) (raw : List Byte) (readOk : Bool) (buf : BufRead) (torn : Bool)
    (s : State) : Res := .next (fetch sq raw readOk buf torn s)

/-! ### The journal window (R85) -/

/-- JNL_SEQ_LO_READ: the low half is returned, the high half latched (R85). -/
def execJnlSeqLoRead (e : JnlEnd) (s : State) : Res :=
  .next (hostAcc (fun s =>
    match e with
    | .head => { s with jnl := { s.jnl with headHi := BitVec.ofNat 32 (s.jnl.head / 2 ^ 32) },
                        lastRead := BitVec.ofNat 32 s.jnl.head }
    | .tail => { s with jnl := { s.jnl with tailHi := BitVec.ofNat 32 (s.jnl.tail / 2 ^ 32) },
                        lastRead := BitVec.ofNat 32 s.jnl.tail }) s)

/-- A write to JNL_SEL_HI takes the snapshot; a SEQ within range whose entry was discarded (R84) gives
32 bytes that the manual does not fix (log 12). -/
def selectEntry (v : W32) (s : State) : State :=
  let sel := v.toNat * 2 ^ 32 + s.jnl.sel.toNat % 2 ^ 32
  let s := { s with jnl := { s.jnl with sel := BitVec.ofNat 64 sel } }
  if sel < s.jnl.head then { s with jnl := { s.jnl with selState := 2, snap := [] } }
  else if s.jnl.tail ≤ sel then { s with jnl := { s.jnl with selState := 3, snap := [] } }
  else match s.jnl.find sel with
    | some e => { s with jnl := { s.jnl with selState := 1, snap := e.bytes } }
    | none =>
      let (b, s) := freeBytes 32 s
      { s with jnl := { s.jnl with selState := 1, snap := b } }

/-- JNL_SEL_HI_WRITE (R85). -/
def execJnlSelHiWrite (v : W32) (s : State) : Res := .next (hostAcc (selectEntry v) s)

/-! ### Reads of GEN registers with an effect (R47, R63) -/

/-- GEN_GTC_LO_READ (R47). -/
def execGenGtcLoRead (s : State) : Res :=
  .next (hostAcc (fun s => { s with gen := { s.gen with gtcHi := BitVec.ofNat 16 (s.now / 2 ^ 32) },
                                    lastRead := BitVec.ofNat 32 s.now }) s)

/-- GEN_TICK_HWM_READ (R63). -/
def execGenTickHwmRead (s : State) : Res :=
  .next (hostAcc (fun s => { s with gen := { s.gen with fgEnd := 0, bgEnd := 0 },
                                    lastRead := BitVec.ofNat 32 (field 0 13 s.gen.fgEnd.toNat + field 16 13 s.gen.bgEnd.toNat) }) s)

/-! ### Overrun (R60 to R63, R473) -/

/-- Value of GEN_OVERRUN (R63). -/
def overrunWord (s : State) : Nat :=
  s.gen.ovr.toNat + field 8 5 s.gen.ovrFunc.toNat + field 16 8 s.gen.ovrCount.toNat

/-- GEN_OVERRUN bit of an overrun. -/
def overrunBit : Overrun → Nat
  | .fgSafety => 0 | .fgMeter => 1 | .fgHost => 2 | .bg => 3 | .fn _ => 4

/-- GEN_OVERRUN and GEN_OVERRUN_GTC take an overrun (R61, R63). -/
def noteOverrun (w : Overrun) (s : State) : State :=
  let first := decide (s.gen.ovr = 0)
  let cls : BitVec 5 := match w with | .fn c => BitVec.ofNat 5 c.toNat | _ => 0
  { s with gen := { s.gen with
      ovr := s.gen.ovr ||| BitVec.ofNat 5 (2 ^ overrunBit w)
      ovrFunc := if s.gen.ovrFunc = 0 then cls else s.gen.ovrFunc
      ovrCount := if first then 1 else if s.gen.ovrCount = 255 then 255 else s.gen.ovrCount + 1
      ovrGtc := if first then BitVec.ofNat 32 s.now else s.gen.ovrGtc } }

/-- An overrun: an MSD window raises OVR_MSD, a function raises OVR_FN and posts OVERRUN at once; a function's overrun in the tick of
an MSD overrun still sets its bit (R61). -/
def overrun (w : Overrun) (s : State) : State :=
  if !s.rst.msdUp then
    match w with
    | .fn _ => if s.gen.ovrNow then noteOverrun w s else s
    | _ => s
  else
    let s := noteOverrun w s
    match w with
    | .fn c =>
      let s := raise .ovrFn (levelOf .ovrFn s) c.toNat s
      post 0x0F03 0xFF (leBytes 4 (overrunWord s)) s
    | _ =>
      let s := raise .ovrMsd 0 0 s
      { s with gen := { s.gen with ovrNow := true } }

/-! ### System class (R86 to R88, R448, R449) -/

/-- SYS_NOP (R86). -/
def runSysNop (s : State) : Res := .next (dispatch 0x0F00 (fun f s => completeSt f .ok s) s)

/-- SYS_JOURNAL_READ; where no entry is written there is no write that could fail (R87). -/
def sysJournalRead (f : Flight) (s : State) : State :=
  let start := f.p 16 8
  let count := f.p 24 2
  if count = 0 ∨ 256 < count ∨ f.bufLen ≠ 32 * count then completeSt f .invalid s
  else
    let first := max start s.jnl.head
    let es := (s.jnl.entries.reverse.filter fun e => decide (first ≤ e.seq)).take count
    let detail := if start < s.jnl.head then 1 else 0
    let pos := match es with | e :: _ => e.seq | [] => s.jnl.tail
    complete f .ok detail (leBytes 8 pos ++ leBytes 2 es.length) (if es.isEmpty then none else some (es.flatMap JEntry.bytes)) s

/-- SYS_JOURNAL_READ (R87). -/
def runSysJournalRead (s : State) : Res := .next (dispatch 0x0F01 sysJournalRead s)

/-- SYS_JOURNAL_INFO (R86). -/
def runSysJournalInfo (s : State) : Res :=
  .next (dispatch 0x0F02 (fun f s => complete f .ok 0 (leBytes 8 s.jnl.head ++ leBytes 6 s.jnl.tail) none s) s)

/-- SYS_REPLACE_ACK (R88). -/
def sysReplaceAck (f : Flight) (s : State) : State :=
  let m := f.p 16 4
  if Nat.land m (0xFFFFFFFF - 0xC0) ≠ 0 then completeSt f .invalid s
  else
    let s := { s with gen := { s.gen with replace := w1c s.gen.replace m } }
    complete f .ok 0 (leBytes 4 s.gen.replace.toNat) none s

/-- SYS_REPLACE_ACK (R88). -/
def runSysReplaceAck (s : State) : Res := .next (dispatch 0x0F03 sysReplaceAck s)

/-- SYS_READY_SNAPSHOT (R86). -/
def runSysReadySnapshot (s : State) : Res :=
  .next (dispatch 0x0F04 (fun f s => complete f .ok 0 (leBytes 4 s.gen.ready.toNat ++ leBytes 6 s.now) none s) s)

/-- SYS_RESET_REQUEST: completes OK, and source 13 asserts at the end of the window (R448). -/
def sysResetRequest (f : Flight) (s : State) : State :=
  let level := f.p 16 1
  let cls := f.p 17 1
  let ms := f.p 18 2
  let clsOk := if level = 3 then decide ((5 ≤ cls ∧ cls ≤ 0x0B) ∨ cls = 0x0D) else decide (cls = 0)
  if level = 0 ∨ 3 < level ∨ !clsOk ∨ 10000 < ms then completeSt f .invalid s
  else complete f .ok 0 (leBytes 1 level ++ leBytes 1 cls) none
    { s with rst := { s.rst with hostReq := s.rst.hostReq ++ [(level, cls, ms)] } }

/-- SYS_RESET_REQUEST (R448). -/
def runSysResetRequest (s : State) : Res := .next (dispatch 0x0F10 sysResetRequest s)

/-- Source 13 asserts at the end of foreground C, once for each request (R448). -/
def raiseRequests (s : State) : State :=
  s.rst.hostReq.foldl (fun s q => raiseLow .host q.1 q.2.1 q.2.2 false s) { s with rst := { s.rst with hostReq := [] } }

/-- Levels that R442 allows for a source that is not Fixed. -/
def mapAllowed (src level : Nat) : Bool :=
  decide ((src = 4 ∧ level ≤ 1) ∨ ((src = 10 ∨ src = 12) ∧ (level = 1 ∨ level = 3)))

/-- Value of RST_MAP; source 13 reads 0b01 (R449). -/
def rstMapWord (s : State) : Nat :=
  (List.range 16).foldl (fun acc i => acc + field (2 * i) 2 (s.fuse.rstMap.toList.getD i 0)) 0

/-- SYS_RESET_MAP (R449). -/
def sysResetMap (f : Flight) (s : State) : State :=
  let src := f.p 16 1
  let level := f.p 17 1
  if !mapAllowed src level then completeSt f .invalid s
  else if s.fuse.rstChg.getLsbD src then completeSt f .conflict s
  else
    let s := { s with fuse := { s.fuse with
      rstMap := s.fuse.rstMap.set (src % 16) level (Nat.mod_lt _ (by decide))
      rstChg := s.fuse.rstChg ||| BitVec.ofNat 16 (2 ^ src) } }
    complete f .ok 0 (leBytes 4 (rstMapWord s)) none s

/-- SYS_RESET_MAP (R449). -/
def runSysResetMap (s : State) : Res := .next (dispatch 0x0F11 sysResetMap s)

end Sys2Proof.Machine
end

