-- ==== Sys2Proof/Machine/Signed.lean ====
section
/-! DEFINITION. Proane records and tamper records (chapter 07). -/

namespace Sys2Proof.Machine

/-! ### Proane snapshots (R175 to R178) -/

/-- A private key that the manual does not fix, from 1 to n − 1. -/
def drawScalar (s : State) : Nat × State :=
  let (b, s) := freeBytes 32 s
  (beNat b % (p256n - 1) + 1, s)

/-- A signature with a private key over a digest, with 32 bytes of the DRBG as additional data of its nonce (R401). -/
def signDigest (d : Nat) (digest : List Byte) (s : State) : Option (List Byte) × State :=
  let (b, s) := freeBytes 32 s
  (signRfc6979 d digest b, s)

/-- STATUS of a Proane record without SIGNED_LATE, which is never part of the signed bytes (R175, R178, log 21). -/
def prnStatus (n : Outlet8) (s : State) : Nat :=
  let b := s.bill[n.val]
  flag 0 b.frozen + flag 1 s.clk.retro + flag 2 s.clk.unsynced + flag 3 b.qtDoubt + flag 4 (s.adc.clamp || s.adc.fault) +
  flag 5 (!s.adc.sealed) + flag 7 (b.frozen && b.noCopy) + flag 8 s.clk.slew.isSome + flag 9 (s.tam.inp[0]).isOpen +
  flag 10 (s.tam.inp[1]).isOpen + flag 11 (isDc s n)

/-- STATUS of a record: in foreground B that of the present state, after it the one that stood at its end (R176). -/
def recordStatus (n : Outlet8) (s : State) : Nat :=
  if s.gen.win = .host ∨ s.gen.win = .back then (s.bill[n.val]).endStatus else prnStatus n s

/-- Bytes 0 to 207 of a record from the values at the end of foreground B (R175, R176). -/
def prnBody (rtype : Nat) (n : Outlet8) (session : Nat) (authRef : W64) (s : State) : List Byte :=
  let b := s.bill[n.val]
  let r := if b.frozen then b.frozenImg.regs else b.regs
  let b6 (v : Nat) := beBytes 6 v
  let regs := b6 r.t ++ b6 r.impTot ++ b6 r.expTot ++ r.imp.toList.flatMap b6 ++ r.exp.toList.flatMap b6 ++ r.rq.toList.flatMap b6
  [0x50, 0x52, 0x01, BitVec.ofNat 8 rtype] ++ beBytes 8 s.fuse.serial.toNat ++ beBytes 4 s.prn.rctr ++
    beBytes 8 s.clk.sec ++ beBytes 2 s.rtcMs ++ beBytes 6 s.now ++ [BitVec.ofNat 8 n.val, BitVec.ofNat 8 s.clk.rate] ++
    beBytes 2 (recordStatus n s) ++ beBytes 4 0 ++ beBytes 8 session ++ beBytes 8 authRef.toNat ++
    (if b.frozen && b.noCopy then List.replicate 138 0xFF else regs) ++ b6 b.q.imp ++ b6 b.q.exp ++ beBytes 2 0

/-- The 272 bytes of a signed record as they are read: in a record signed late, STATUS bit [6] is set beside the signed value (R175, R178,
log 21). -/
def PrnRec.bytes (r : PrnRec) (sig : List Byte) : List Byte :=
  (if r.late then r.body.modify 35 (fun b => b ||| 0x40) else r.body) ++ sig

/-- A new record takes a place in the store of 256; it drops the oldest signed record of a full store, and
no record that awaits its signature is overwritten (R178). -/
def storePrn (r : PrnRec) (store : List PrnRec) : List PrnRec :=
  if store.length < 256 then r :: store
  else match (store.reverse.find? fun x => x.sig.isSome) with
    | some x => r :: store.filter fun y => y.rctr != x.rctr
    | none => r :: store

/-- No snapshot can be taken: RCTR is used up, or slot 0 holds no usable key (R176, R177). -/
def prnBlocked (s : State) : Bool := decide (0xFFFFFFFF ≤ s.prn.rctr) || (slotCheck 0 0 s).isSome

/-- Signatures that wait in the store take the free places of the queue in RCTR order, while slot 0 holds a usable key (R177, R391, R393,
R400). -/
def queuePrn : Nat → State → State
  | 0, s => s
  | k + 1, s =>
    match s.prn.store.reverse.find? fun r => r.sig.isNone && !r.queued with
    | none => s
    | some r =>
      if s.isReady 12 && decide (longCount s < 32) && (slotCheck 0 0 s).isNone then
        let l := s.prn.store.map fun x => if x.rctr = r.rctr then { x with queued := true } else x
        queuePrn k (requestLong .prn 77 (.prn r.rctr) [0] { s with prn := { s.prn with store := l } })
      else s

/-- A record of given values takes the next RCTR, which stands in bytes 12 to 15, and its signature is queued (R176). -/
def storeSnapshot (rtype : Nat) (n : Outlet8) (body : List Byte) (flight : Option Nat) (s : State) : State :=
  if prnBlocked s then s
  else
    let b := body.take 12 ++ beBytes 4 s.prn.rctr ++ body.drop 16
    let r : PrnRec := { rctr := s.prn.rctr, rtype := rtype, outlet := n, body := b, flight := flight }
    let s := { s with prn := { s.prn with rctr := s.prn.rctr + 1, store := storePrn r s.prn.store } }
    queuePrn 33 s

/-- PROANE_SNAPSHOT of the present values (R176). -/
def snapshot (rtype : Nat) (n : Outlet8) (session : Nat) (authRef : W64) (flight : Option Nat) (s : State) : State :=
  storeSnapshot rtype n (prnBody rtype n session authRef s) flight s

/-- The RTYPE 2 snapshot of an outlet, where one is due; of a session that went on after its last opening, with the values kept then
(R176, R206). -/
def endSnapshot (n : Outlet8) (s : State) : State :=
  match (s.bill[n.val]).due with
  | some d =>
    let b := s.bill[n.val]
    storeSnapshot 2 n (d.body.getD (prnBody 2 n d.session d.authRef s)) none { s with bill := s.bill.set n.val { b with due := none } }
  | none => s

/-- PRN_END_SNAPSHOT: the snapshot tick has come (R176). -/
def runPrnEndSnapshot (n : Outlet8) (s : State) : Res :=
  .next (match (s.bill[n.val]).due with
    | some d => if s.isReady 2 ∧ d.tick ≤ s.now then endSnapshot n s else s
    | none => s)

/-- The snapshots that a reset left due are taken at the end of this foreground B (R176). -/
def markDue (s : State) : State :=
  { s with bill := s.bill.map fun b => { b with due := b.due.map fun d => { d with late := true } } }

/-- Snapshots that a reset left due, in the first foreground B after the BIL bit sets, from what it commits (R176). -/
def dueSnapshots (s : State) : State :=
  forFin 8 (fun n s => if (match (s.bill[n.val]).due with | some d => d.late | none => false) then endSnapshot n s else s) s

/-- After a level-0 start, records without signature are signed late, and no descriptor waits for them (R178). -/
def relatePrn (s : State) : State :=
  { s with prn := { s.prn with store := s.prn.store.map fun r =>
      if r.sig.isNone then { r with late := true, queued := false, flight := none } else r } }

/-- No signature of a snapshot is in the queue any more: all are asked for anew, in RCTR order (R177). -/
def requeuePrn (s : State) : State :=
  queuePrn 33 { s with
    key := { s.key with queue := s.key.queue.filter fun o => decide (o.kind ≠ .prn), done := s.key.done.filter fun o => decide (o.kind ≠ .prn) }
    prn := { s.prn with store := s.prn.store.map fun x => { x with queued := x.queued && x.sig.isSome } } }

/-- The signature of a snapshot has been computed: the record is stored, PRN_READY is posted and a waiting
BIL_PRN_SIGN completes (R178, R179). Where no candidate gives a signature it is asked for anew (log 46). -/
def prnSigned (rctr : Nat) (s : State) : State :=
  match s.prn.store.find? fun r => r.rctr == rctr && r.sig.isNone with
  | none => s
  | some r =>
    let (sig, s) := signDigest (beNat (s.key.slot[0]).rec_.secret) (sha256 r.body) s
    match sig with
    | none => requeuePrn s
    | some sig =>
      let l := s.prn.store.map fun x => if x.rctr = rctr then { x with sig := some sig, flight := none } else x
      let s := { s with prn := { s.prn with store := l } }
      let s := post 0x0207 r.outlet.val ([BitVec.ofNat 8 r.rtype] ++ leBytes 4 rctr ++ leBytes 1 (b2n r.late)) s
      match r.flight with
      | some q => completeSeq q .ok 0 (leBytes 4 rctr) (some (r.bytes sig)) s
      | none => s

/-- BIL_PRN_SIGN (R176, R177, R179). -/
def bilPrnSign (f : Flight) (s : State) : State :=
  let waiting := (s.prn.store.filter fun r => r.rtype == 0 && r.sig.isNone).length
  let o := s.ses.out[f.outlet.val]
  if f.bufLen ≠ 272 then completeSt f .invalid s
  else if prnBlocked s then completeSt f .denied s
  else if 8 ≤ waiting ∨ 32 ≤ longCount s then completeSt f .busy s
  else keepRunning f (snapshot 0 f.outlet o.session (if o.session = 0 then 0 else o.authRef) (some f.seq) s)

/-- BIL_PRN_SIGN (R179). -/
def runBilPrnSign (s : State) : Res := .next (dispatch 0x0210 bilPrnSign s)

/-- Signed records from the head of a list in RCTR order, up to the first that is not signed. -/
def signedRun : List PrnRec → List (List Byte)
  | [] => []
  | r :: t => match r.sig with
    | some g => r.bytes g :: signedRun t
    | none => []

/-- BIL_PRN_FETCH (R179). -/
def bilPrnFetch (f : Flight) (s : State) : State :=
  let start := f.p 16 4
  let count := f.p 20 1
  if count = 0 ∨ 16 < count ∨ f.bufLen ≠ 272 * count then completeSt f .invalid s
  else
    let l := s.prn.store.reverse
    let oldest := match l with | r :: _ => r.rctr | [] => 0
    let rs := (signedRun (l.filter fun r => decide (start ≤ r.rctr))).take count
    let newest := match s.prn.store.find? fun r => r.sig.isSome with | some r => r.rctr | none => 0
    complete f .ok (b2n (decide (start < oldest))) (leBytes 2 rs.length ++ leBytes 4 newest) (some rs.flatten) s

/-- BIL_PRN_FETCH (R179). -/
def runBilPrnFetch (s : State) : Res := .next (dispatch 0x0211 bilPrnFetch s)

/-- BIL_PRN_KEY_READ: the public key of slot 0, while slot 0 holds one, as KEY_PUBLIC_READ reads it (R180, R402). -/
def bilPrnKeyRead (f : Flight) (s : State) : State :=
  let k := s.key.slot[0]
  if s.key.rootFail ∨ k.unusable then completeSt f .integrity s
  else if k.rec_.type = .pair then complete f .ok 0 [] (some (slice k.rec_.pub 0 65)) s
  else completeSt f .denied s

/-- BIL_PRN_KEY_READ (R180). -/
def runBilPrnKeyRead (s : State) : Res := .next (dispatch 0x0212 bilPrnKeyRead s)

/-- BIL_PRN_CERT_READ (R180). -/
def bilPrnCertRead (f : Flight) (s : State) : State :=
  let w := f.p 16 1
  let c := if w = 0 then s.prn.devCert else s.prn.issCert
  if 1 < w then completeSt f .invalid s
  else if f.bufLen < c.length then complete f .invalid 0 (leBytes 2 c.length) none s
  else complete f .ok 0 (leBytes 2 c.length) (some c) s

/-- BIL_PRN_CERT_READ (R180). -/
def runBilPrnCertRead (s : State) : Res := .next (dispatch 0x0213 bilPrnCertRead s)

/-! ### Tamper records (R190 to R192) -/

/-- Supply as a tamper entry records it: the watch that runs without supply, or 0 while supply is present (R192). -/
def tamperPower (s : State) : Nat := if s.watch.running then 1 else if s.watch.tamperOnly || s.rst.waitGood then 2 else 0

/-- BTD logs an entry, the oldest of more than 64 is overwritten (R191). -/
def logTamper (i : Fin 2) (state : Nat) (at_ : Nat × Nat) (s : State) : State :=
  let t := s.tam
  let e : TamperRec := { input := i, state := state, power := tamperPower s, sec := at_.1, ms := at_.2 / 64,
                         openings := (t.inp[i.val]).openings, tseq := t.nextSeq, tick := if s.rst.msdUp then s.now else 0 }
  { s with tam := { t with log := (e :: t.log).take 64, nextSeq := t.nextSeq + 1 } }

/-- One sample of one input (R190); 320 samples are 10 s. A disabled input is not sampled and reads closed. -/
def tamperInput (i : Fin 2) (high : Bool) (s : State) : State :=
  let x := s.tam.inp[i.val]
  let put (x : TamperIn) (s : State) : State := { s with tam := { s.tam with inp := s.tam.inp.set i.val x } }
  let n := s.tam.samples
  if !x.en then put { x with isOpen := false, differ := 0, changes := [], chatter := false } s
  else
    let level := high != x.pol
    let x := { x with lastChange := if level = x.last then x.lastChange else n, last := level }
    let at_ := if x.differ = 0 then (s.clk.sec, s.clk.frac) else x.firstAt
    if level = x.isOpen then put { x with differ := 0 } s
    else if x.differ = 0 then put { x with differ := 1, firstAt := at_ } s
    else
      let ch := n :: x.changes.filter fun c => decide (n < c + 320)
      let x := { x with isOpen := level, differ := 0, changes := ch, openings := x.openings + b2n level }
      if x.chatter then put x s
      else
        let s := logTamper i (b2n level) at_ (put x s)
        if 8 ≤ ch.length then logTamper i 2 (s.clk.sec, s.clk.frac) (put { x with chatter := true } s) else s

/-- TAMPER_SAMPLE: BTD samples both inputs every 31.25 ms; without supply the RTC runs on by that time, in the current-only watch as a
part of its window of 200 ms (R158, R190, log 55). -/
def execTamperSample (coverHigh termHigh : Bool) (s : State) : Res :=
  .next (
    let frac := if s.rst.msdUp then s.clk.frac else min 63999 (s.clk.frac + 2000)
    let since := if s.watch.running then s.tam.since + 2000 else 0
    let s := { s with clk := { s.clk with frac := frac }, tam := { s.tam with samples := s.tam.samples + 1, since := since } }
    tamperInput 1 termHigh (tamperInput 0 coverHigh s))

/-- TAMPER_CHATTER_END: the input has been stable for 10 s; the entry gives its state (R190). -/
def execTamperChatterEnd (i : Fin 2) (s : State) : Res :=
  .next (
    let x := s.tam.inp[i.val]
    if x.chatter ∧ x.lastChange + 320 ≤ s.tam.samples then
      logTamper i (b2n x.isOpen) (s.clk.sec, s.clk.frac)
        { s with tam := { s.tam with inp := s.tam.inp.set i.val { x with chatter := false, changes := [] } } }
    else s)

/-- New entries that are due go to the log in MRAM and are posted; where entries were overwritten before, a loss report
comes first (R191). -/
def copyTamper (due : TamperRec → Bool) (s : State) : State :=
  let t := s.tam
  let new := (t.log.reverse.filter fun e => decide (t.posted < e.tseq)).takeWhile due
  match new with
  | [] => s
  | e0 :: _ =>
    let lost := e0.tseq - (t.posted + 1)
    let s := { s with tam := { t with copy := (new.reverse ++ t.copy).take 256, posted := t.posted + lost + new.length } }
    let s := if 0 < lost then postLate 0x0209 0xFF ([0xFF] ++ leBytes 4 lost) s else s
    new.foldl (fun s e => postLate 0x0209 0xFF
      ([BitVec.ofNat 8 e.input.val, BitVec.ofNat 8 e.state, BitVec.ofNat 8 e.power] ++ leBytes 4 e.tseq) s) s

/-- TAMPER_COPY: foreground B copies the entries that BTD recorded in earlier ticks (R191). -/
def runTamperCopy (s : State) : Res := .next (if s.isReady 2 then copyTamper (fun e => decide (e.tick < s.now)) s else s)

/-- The 32 bytes of a tamper entry (R192). -/
def tamperBytes (e : TamperRec) : List Byte :=
  [BitVec.ofNat 8 e.input.val, BitVec.ofNat 8 e.state, BitVec.ofNat 8 e.power, 0] ++ leBytes 8 e.sec ++ leBytes 2 e.ms ++
    leBytes 2 0 ++ leBytes 4 e.openings ++ leBytes 8 0 ++ leBytes 4 e.tseq

/-- BIL_TAMPER_READ (R192). -/
def runBilTamperRead (s : State) : Res :=
  .next (dispatch 0x0220 (fun f s => readLog f s.tam.copy TamperRec.tseq tamperBytes 32 64 s) s)

/-- A write to BIL_TAMPER takes effect at the next sample and is mirrored in MRAM (R192). -/
def writeTamper (v : Nat) (s : State) : State :=
  let i := s.tam.inp
  let a := i[0]
  let b := i[1]
  let a' := { a with en := bitAt v 0, pol := bitAt v 2 }
  let b' := { b with en := bitAt v 1, pol := bitAt v 3 }
  { s with tam := { s.tam with inp := #v[a', b'], mirror := #v[(a'.en, a'.pol), (b'.en, b'.pol)] } }

end Sys2Proof.Machine
end

