-- ==== Sys2Proof/Machine/Prepay.lean ====
section
/-! DEFINITION. Prepayment accounts, the spill of quanta that charges them, and the minute edge and the
step that re-evaluate rate and friendly time (R124, R126, R150, R163, R181 to R189). -/

namespace Sys2Proof.Machine

/-- Changes an account and marks it for the commit of this foreground B (R187). -/
def modAcc (n : Outlet8) (f : Account → Account) (s : State) : State :=
  { s with ppy := vmod s.ppy n fun p => { p with acc := f p.acc, dirty := true } }

/-- B = C + E − D (R37). -/
def Account.balance (a : Account) : Int := (a.c : Int) + a.e - a.d

/-- PPY_STATE with the present balance (R193). -/
def postPpy (n : Outlet8) (cause : Nat) (s : State) : State :=
  postLate 0x0208 n.val ([BitVec.ofNat 8 cause] ++ leBytes 8 (unsigned 64 (s.ppy[n.val]).acc.balance)) s

/-! ### Charging (R183) -/

/-- k milli-units of cost: from C, then from E, then to D (R183). -/
def Account.cost1 (k : Nat) (a : Account) : Account :=
  let fromC := min a.c k
  let fromE := min a.e (k - fromC)
  { a with cost := a.cost + k, c := a.c - fromC, e := a.e - fromE, d := a.d + (k - fromC - fromE) }

/-- PREPAY_CHARGE of one import quantum at a rate; an account with ENABLE 0 is not charged (R183). -/
def Account.charge (rate : Nat) (a : Account) : Account :=
  if a.set.enable then
    let f := a.f + a.set.price.toList.getD rate 0
    ({ a with f := f % 1000000 }).cost1 (f / 1000000)
  else a

/-! ### Spills (R124, R126) -/

/-- One quantum of the chosen source counts towards a pulse (R126, R127). -/
def Pulse.count (imp : Bool) (p : Pulse) : Pulse :=
  let mine := if imp then p.src == 0 || p.src == 2 else p.src == 1 || p.src == 2
  if p.en && mine then
    if 1000000 ≤ (p.part + 1) * p.const then { p with part := 0, pending := p.pending + 1, produced := p.produced + 1 }
    else { p with part := p.part + 1 }
  else p

/-- One active quantum leaves FA: it is filed, counted for pulses and, if import, charged (R124, R183). -/
def spillActive (n : Outlet8) (imp : Bool) (s : State) : State :=
  let s := modBill n (fileQuantum s.clk.rate (if imp then .imp else .exp)) s
  let s := { s with nrg := { s.nrg with pulse := vmod s.nrg.pulse n (Pulse.count imp) } }
  if imp && (s.ppy[n.val]).acc.set.enable then modAcc n (Account.charge s.clk.rate) s else s

/-- One reactive quantum leaves FR (R124). -/
def spillReactive (n : Outlet8) (i : Fin 4) (s : State) : State := modBill n (fileQuantum s.clk.rate (.rq i)) s

/-- One quantum in the unit of the fine accumulators: 1,000,000 with a fraction of 16 bits. -/
def quantum16 : Nat := 1000000 * 65536

/-- Quanta that an accumulator holds, import or positive first, and what stays (R124). -/
def split16 (v : Int) : Nat × Nat × Int :=
  if 0 ≤ v then (v.toNat / quantum16, 0, v % quantum16)
  else (0, (-v).toNat / quantum16, -((-v) % quantum16))

/-- Sign of the net active power of the last completed cycle; 0 counts as import (R124). -/
def inwardPower (n : Outlet8) (s : State) : Bool :=
  match (s.nrg.cyc[n.val]).quant with
  | some q => decide (0 ≤ q.pNet)
  | none => true

/-- ENERGY_SPILL of one outlet: the closed energy of the last tick enters FA and FR, whole quanta leave (R124). -/
def spillOutlet (n : Outlet8) (s : State) : State :=
  let (ea, er) := s.nrg.closed[n.val]
  let fine := s.nrg.fine[n.val]
  let (imp, exp, fa) := split16 (fine.fa + ea)
  let (pos, neg, fr) := split16 (fine.fr + er)
  let inward := inwardPower n s
  let s := { s with nrg := { s.nrg with fine := s.nrg.fine.set n.val { fa := fa, fr := fr } } }
  let s := if ea = 0 ∧ er = 0 then s else modBill n id s
  let s := Nat.repeat (spillActive n true) imp s
  let s := Nat.repeat (spillActive n false) exp s
  let s := Nat.repeat (spillReactive n (if inward then 0 else 1)) pos s
  Nat.repeat (spillReactive n (if inward then 3 else 2)) neg s

/-- The spills of foreground B; the feeder accumulates without spills (R124, R125). A closed energy is
added once. -/
def spillAll (s : State) : State :=
  let s := forFin 8 spillOutlet s
  let s := { s with nrg := { s.nrg with feeder := s.nrg.feeder + (s.nrg.closed[8]).1 } }
  { s with nrg := { s.nrg with closed := Vector.replicate 9 (0, 0) } }

/-- PULSE_START of one output: foreground B takes a pending spill where the output will have been inactive for
WIDTH at the next tick edge; none starts after the power-fail warning (R126, R439). -/
def pulseStart (n : Outlet8) (s : State) : State :=
  let p := s.nrg.pulse[n.val]
  let ready := match p.idleTick with | some t => decide (t + 16 * p.width ≤ s.now + 1) | none => true
  if p.en && decide (0 < p.pending) && !p.active && ready && !s.rst.pfw && s.isReady 1 then
    let p' := { p with pending := p.pending - 1, emitted := p.emitted + 1, active := true, leadTick := s.now + 1 }
    modBill n id { s with nrg := { s.nrg with pulse := s.nrg.pulse.set n.val p' } }
  else s

/-- The accounts that changed are committed beside the billing images (R187). -/
def commitAccount (n : Outlet8) (s : State) : State :=
  let p := s.ppy[n.val]
  if p.dirty then
    let a := { p.acc with seq := p.acc.seq + 1 }
    let p' := { p with acc := a, prev := p.copies[0].image, copies := Vector.replicate 3 { image := a }, dirty := false,
                       enabled := a.set.enable }
    { s with ppy := s.ppy.set n.val p' }
  else s

/-- The single commit of a foreground B (R125, R187). -/
def commitAll (s : State) : State := forFin 8 commitAccount (commitDirty s)

/-! ### Friendly time, emergency credit and CREDIT_OUT (R182 to R184) -/

/-- A window of an account holds at a local time (R182). -/
def windowHolds (w : Byte × Nat × Nat) (days : Int) (minute : Nat) : Bool :=
  let (mask, a, b) := w
  let on (d : Int) := bitAt mask.toNat (weekday d)
  if a < b then on days && decide (a ≤ minute ∧ minute < b)
  else (on days && decide (a ≤ minute)) || (on (days - 1) && decide (minute < b))

/-- Friendly time of an account at the present local time (R182). -/
def friendlyNow (a : Account) (s : State) : Bool :=
  let t := localTime s.clk.active s.clk.sec
  let days := t / 86400
  let (y, m, d) := dateOf days
  (a.set.holiday.toList.any fun h => decide (h.2.1 ≠ 0 ∧ h.2.1 = m ∧ h.2.2 = d ∧ (h.1 = 0 ∨ h.1 = y))) ||
    a.set.friendly.toList.any fun w => decide (w.1 ≠ 0) && windowHolds w days ((t % 86400).toNat / 60)

/-- FRIENDLY_TIME_EVAL of one account; a retrograde record holds the value (R182). -/
def evalFriendly (n : Outlet8) (s : State) : State :=
  let a := (s.ppy[n.val]).acc
  let v := friendlyNow a s
  if s.clk.retro ∨ v = a.friendly then s
  else postPpy n (if v then 4 else 5) (modAcc n (fun a => { a with friendly := v }) s)

/-- Emergency credit is available (R184). -/
def Account.emgOk (a : Account) : Bool :=
  a.set.enable && decide (0 < a.set.emgAmount ∧ a.e = 0 ∧ a.c ≤ a.set.emgThresh) && !a.emgUsed

/-- Activation adds EMG_AMOUNT to E and to D and sets EMG_USED (R37, R184). -/
def Account.activate (a : Account) : Account :=
  { a with e := a.e + a.set.emgAmount, d := a.d + a.set.emgAmount, emgUsed := true, emgAvail := false }

/-- AUTO_EMERGENCY, and PPY_STATE where emergency credit becomes available (R184). -/
def evalEmergency (n : Outlet8) (s : State) : State :=
  let a := (s.ppy[n.val]).acc
  let v := a.emgOk
  let s := if v = a.emgAvail then s else modAcc n (fun a => { a with emgAvail := v }) s
  let s := if v && !a.emgAvail then postPpy n 2 s else s
  if v && a.set.autoEmg then postPpy n 3 (modAcc n Account.activate s) else s

/-- CREDIT_OUT of an account after charging (R183). -/
def Account.out (a : Account) : Bool :=
  if !a.set.enable then false
  else if 0 < a.c ∨ 0 < a.e ∨ a.friendly then false
  else true

/-- A request of the host for emergency credit will be granted in this foreground B (R184). -/
def emergencyDue (n : Outlet8) (s : State) : Bool :=
  let p := s.ppy[n.val]
  p.acc.emgOk && p.emgReq.any fun r => decide (r.2 < s.now)

/-- CREDIT_OUT is set or cleared; where it sets during a session, the session is asked to stop (R183, R205). It does not set in the
window in which emergency credit activates. -/
def evalCredit (n : Outlet8) (s : State) : State :=
  let a := (s.ppy[n.val]).acc
  let v := a.out
  if v = a.creditOut ∨ (v ∧ emergencyDue n s) then s
  else
    let s := modAcc n (fun a => { a with creditOut := v }) s
    if v then
      let s := postPpy n 0 s
      if (s.ses.out[n.val]).session ≠ 0 then
        { s with ses := { s.ses with out := vmod s.ses.out n fun o =>
          if o.stopReq.isSome then o else { o with stopReq := some (s.now, .creditOut) } } }
      else s
    else if a.set.enable then postPpy n 1 s else s

/-- Settings accepted in an earlier tick take effect, with friendly time (R181, R182). -/
def applySettings (n : Outlet8) (s : State) : State :=
  match (s.ppy[n.val]).pendSet with
  | some c =>
    let s := modAcc n (fun a => { a with set := c }) s
    evalFriendly n { s with ppy := vmod s.ppy n fun p => { p with pendSet := none } }
  | none => s

/-- The account of one outlet at the end of a foreground B's charging. -/
def evalAccount (n : Outlet8) (s : State) : State := evalCredit n (evalEmergency n s)

/-! ### The minute edge and the step (R150, R163, R182) -/

/-- RTC_MINUTE_EDGE: after the demand interval of the same instant (R166). -/
def minuteEdge (s : State) : State :=
  let s := intervalBoundary s
  if s.clk.minuteDue then
    let s := minuteTariff { s with clk := { s.clk with minuteDue := false } }
    forFin 8 (fun n s => evalAccount n (evalFriendly n s)) s
  else s

/-- RTC_MINUTE_EDGE (R150, R152, R182). -/
def runRtcMinuteEdge (s : State) : Res := .next (minuteEdge s)

/-- A step that was dispatched in an earlier tick takes effect, after a boundary of the same tick (R163, R166). -/
def stepNow (s : State) : State :=
  match s.clk.stepPend with
  | some p =>
    if p.tick < s.now then
      let s := clockStep p (minuteEdge s)
      forFin 8 (fun n s => evalAccount n (evalFriendly n s)) s
    else s
  | none => s

/-- CLOCK_STEP (R163). -/
def runClockStep (s : State) : Res := .next (stepNow s)

/-! ### Settings and readout (R181, R189) -/

/-- A settings image, none where a field is out of range (R181). -/
def parsePpy (b : List Byte) : Option PpySet :=
  let u (o n : Nat) := leAt b o n
  let fr (w : Nat) := (BitVec.ofNat 8 (u (56 + 6 * w) 1), u (58 + 6 * w) 2, u (60 + 6 * w) 2)
  let hol (j : Nat) := (u (80 + 4 * j) 2, u (82 + 4 * j) 1, u (83 + 4 * j) 1)
  let frOk (w : Nat) := decide (u (57 + 6 * w) 1 = 0) && (decide (u (56 + 6 * w) 1 = 0) ||
    (decide (u (56 + 6 * w) 1 < 128 ∧ u (58 + 6 * w) 2 ≤ 1439 ∧ u (60 + 6 * w) 2 ≤ 1440)))
  let holOk (j : Nat) :=
    let (_, m, d) := hol j
    decide (m = 0) || dateOk m d
  if u 0 1 ≤ 1 ∧ (u 1 1 = 2 ∨ u 1 1 = 3) ∧ u 2 1 ≤ 100 ∧ u 3 1 ≤ 1 ∧ u 4 4 = 0 ∧ u 8 8 ≤ 1000000000 ∧ u 16 8 ≤ u 8 8 ∧
      (List.range 8).all (fun r => decide (u (24 + 4 * r) 4 ≤ 10000000)) ∧ (List.range 4).all frOk ∧ (List.range 32).all holOk then
    some { enable := u 0 1 == 1, keyslot := u 1 1, recovery := u 2 1, autoEmg := u 3 1 == 1, emgAmount := u 8 8, emgThresh := u 16 8,
           price := Vector.ofFn fun r => u (24 + 4 * r.val) 4, friendly := Vector.ofFn fun w => fr w.val,
           holiday := Vector.ofFn fun j => hol j.val }
  else none

/-- BIL_PPY_CONFIG (R181). -/
def bilPpyConfig (f : Flight) (s : State) : State :=
  let p := s.ppy[f.outlet.val]
  let cur := match p.pendSet with | some c => c.enable | none => p.acc.set.enable
  if f.bufLen ≠ 208 then completeSt f .invalid s
  else match parsePpy f.inBuf with
    | none => completeSt f .invalid s
    | some c =>
      if c.enable ≠ cur ∧ !(s.ses.out[f.outlet.val]).atRest then completeSt f .conflict s
      else completeSt f .ok { s with ppy := s.ppy.set f.outlet.val { p with pendSet := some c } }

/-- BIL_PPY_CONFIG (R181). -/
def runBilPpyConfig (s : State) : Res := .next (dispatch 0x0218 bilPpyConfig s)

/-- BIL_PPY_EMERGENCY: recorded in its dispatch tick (R184). -/
def bilPpyEmergency (f : Flight) (s : State) : State :=
  keepRunning f { s with ppy := vmod s.ppy f.outlet fun p => { p with emgReq := p.emgReq ++ [(f.seq, s.now)] } }

/-- BIL_PPY_EMERGENCY (R184). -/
def runBilPpyEmergency (s : State) : Res := .next (dispatch 0x021A bilPpyEmergency s)

/-- A recorded request is acted on in the tick after its dispatch; it completes in foreground C, behind PPY_STATE (R184). -/
def activateReq (n : Outlet8) (seq : Nat) (s : State) : State :=
  if (flight? seq s).isNone then s
  else if (s.ppy[n.val]).acc.emgOk then
    let s := evalCredit n (postPpy n 3 (modAcc n Account.activate s))
    holdDone seq .ok (leBytes 8 (unsigned 64 (s.ppy[n.val]).acc.balance)) s
  else holdDone seq .denied [] s

/-- EMERGENCY_ACTIVATE (R184). -/
def runEmergencyActivate (n : Outlet8) (s : State) : Res :=
  .next (
    let p := s.ppy[n.val]
    let dueNow := p.emgReq.filter fun r => decide (r.2 < s.now)
    let s := { s with ppy := s.ppy.set n.val { p with emgReq := p.emgReq.filter fun r => !decide (r.2 < s.now) } }
    dueNow.foldl (fun s r => activateReq n r.1 s) s)

/-- The window test of R186 on H and the mask: the new H and mask, none on a conflict. -/
def windowTest (h : Nat) (mask : W64) (tseq : Nat) : Option (Nat × W64) :=
  if h < tseq then some (tseq, (mask <<< (tseq - h)) ||| 1)
  else if h < tseq + 64 ∧ !mask.getLsbD (h - tseq) then some (h, mask ||| (1 <<< (h - tseq)))
  else none

/-- BIL_PPY_TOPUP: the checks of R186 in their order, then the verification as a long operation. -/
def bilPpyTopup (f : Flight) (s : State) : State :=
  let a := (s.ppy[f.outlet.val]).acc
  let t := f.inBuf
  let tseq := beAt t 12 4
  let amount := beAt t 16 4
  let expiry := beAt t 24 8
  if f.bufLen ≠ 96 ∨ beAt t 0 2 ≠ 0x5455 ∨ byteAt t 2 ≠ 1 ∨ beAt t 20 4 ≠ 0 ∨ byteAt t 3 ≠ f.outlet.val ∨ tseq = 0 ∨ amount = 0 then
    completeSt f .invalid s
  else if a.doubt then completeSt f .frozen s
  else if !a.set.enable ∨ beAt t 4 8 ≠ s.fuse.serial.toNat ∨ (expiry ≠ 0 ∧ (expiry < s.clk.sec ∨ s.clk.unsynced)) ∨
      1000000000000 < a.c + amount then completeSt f .denied s
  else if (windowTest a.h a.mask tseq).isNone then completeSt f .conflict s
  else match slotCheck (Fin.ofNat 32 a.set.keyslot) 1 s with
    | some st => completeSt f st s
    | none => askLong f .topup 131 (.topup f.seq) [Fin.ofNat 32 a.set.keyslot] s

/-- BIL_PPY_TOPUP (R186). -/
def runBilPpyTopup (s : State) : Res := .next (dispatch 0x0219 bilPpyTopup s)

/-- The verification of a token has ended: a good token waits for foreground B of the next tick (R186). -/
def topupResult (f : Flight) (slots : List (Fin 32)) (s : State) : State :=
  let pub := match slots with | k :: _ => (s.key.slot[k.val]).rec_.pub | [] => []
  if ecdsaVerify pub (sha256 (f.inBuf.take 32)) ((f.inBuf.drop 32).take 64) then
    let e := (f.seq, beAt f.inBuf 12 4, beAt f.inBuf 16 4, s.now)
    { s with ppy := vmod s.ppy f.outlet fun p => { p with apply := p.apply ++ [e] } }
  else completeSt f .integrity s

/-- A top-up is applied to an account (R184, R186). -/
def Account.topUp (amount : Nat) (a : Account) : Account :=
  let a := { a with d := a.d - a.e, e := 0 }
  let part := min a.d (amount * a.set.recovery / 100)
  let a := { a with d := a.d - part, c := a.c + (amount - part), topup := a.topup + amount }
  if 0 < a.balance then { a with emgUsed := false } else a

/-- One verified token: the window is tested a second time, then window and account change together (R186). -/
def applyToken (n : Outlet8) (e : Nat × Nat × Nat × Tick) (s : State) : State :=
  let (seq, tseq, amount, _) := e
  let a := (s.ppy[n.val]).acc
  if (flight? seq s).isNone then s
  else match windowTest a.h a.mask tseq with
    | none => holdDone seq .conflict [] s
    | some (h, m) =>
      let s := postPpy n 6 (modAcc n (fun a => { a.topUp amount with h := h, mask := m }) s)
      let s := evalAccount n s
      holdDone seq .ok (leBytes 4 tseq ++ leBytes 8 (unsigned 64 (s.ppy[n.val]).acc.balance)) s

/-- TOPUP_APPLY: foreground B of the tick after a verification result (R186). -/
def runTopupApply (s : State) : Res :=
  .next (forFin 8 (fun n s =>
    let p := s.ppy[n.val]
    let dueNow := p.apply.filter fun e => decide (e.2.2.2 < s.now)
    let s := { s with ppy := s.ppy.set n.val { p with apply := p.apply.filter fun e => !decide (e.2.2.2 < s.now) } }
    dueNow.foldl (fun s e => applyToken n e s) s) s)

/-- The 64 bytes of BIL_PPY_READ (R189). -/
def ppyBytes (a : Account) : List Byte :=
  let flags := flag 0 a.set.enable + flag 1 a.creditOut + flag 2 a.friendly + flag 3 a.emgOk + flag 4 a.emgUsed + flag 5 a.doubt
  leBytes 8 a.c ++ leBytes 8 a.e ++ leBytes 8 a.d ++ leBytes 8 (unsigned 64 a.balance) ++ leBytes 8 a.topup ++ leBytes 8 a.cost ++
    leBytes 4 a.h ++ leBytes 8 a.mask.toNat ++ leBytes 2 flags ++ leBytes 2 0

/-- BIL_PPY_READ (R189). -/
def runBilPpyRead (s : State) : Res :=
  .next (dispatch 0x021B (fun f s =>
    let a := (s.ppy[f.outlet.val]).acc
    complete f .ok 0 (leBytes 8 (unsigned 64 a.balance)) (some (ppyBytes a)) s) s)

/-- The accounts are reconciled at a level-0 start: the sum of step 5 is B = TOPUP_SUM − COST_SUM (R187). A
loser restarts in doubt from its highest copy, or from nothing but its ENABLE (R188). -/
def reconcileAccount (n : Outlet8) (s : State) : State :=
  let p := s.ppy[n.val]
  let sums (a : Account) := decide (a.balance = (a.topup : Int) - a.cost)
  let put (a : Account) (s : State) : State :=
    { s with ppy := s.ppy.set n.val { p with acc := a, copies := Vector.replicate 3 { image := a }, prev := a, enabled := a.set.enable } }
  match reconcile Account.seq sums p.copies with
  | some (w, _) => put w s
  | none =>
    let a : Account := match highestValid Account.seq p.copies with
      | some a => { a with doubt := true }
      | none => { doubt := true, set := { enable := p.enabled } }
    postPpy n 7 (put a s)

end Sys2Proof.Machine
end

