-- ==== Sys2Proof/Machine/Pilot.lean ====
section
/-! DEFINITION. One outlet's inputs and outputs: configuration, pilot, proximity, current limit, contactor
drive and feedback, cable lock, and residual current (chapter 08 but for the state machine). -/

namespace Sys2Proof.Machine

/-- Changes one outlet. -/
def modOut (n : Outlet8) (f : Outlet → Outlet) (s : State) : State :=
  { s with ses := { s.ses with out := vmod s.ses.out n f } }

/-- One outlet. -/
def outOf (s : State) (n : Outlet8) : Outlet := s.ses.out[n.val]

/-! ### Configuration (R194, R195) -/

/-- Fields of SES_OCFGn and SES_COILn. -/
def Outlet.caseT (o : Outlet) : Bool := o.ocfg.getLsbD 1
def Outlet.vent (o : Outlet) : Bool := o.ocfg.getLsbD 2
def Outlet.hlc (o : Outlet) : Bool := o.ocfg.getLsbD 3
def Outlet.phases (o : Outlet) : Nat := bitsOf o.ocfg.toNat 4 3
def Outlet.lockPol (o : Outlet) : Bool := o.ocfg.getLsbD 7
def Outlet.rating (o : Outlet) : Nat := bitsOf o.ocfg.toNat 8 7
def Outlet.lockT (o : Outlet) : Nat := bitsOf o.ocfg.toNat 16 7
def Outlet.cableSel (o : Outlet) : Nat := bitsOf o.ocfg.toNat 24 2
def Outlet.pullMs (o : Outlet) : Nat := bitsOf o.coil.toNat 0 8
def Outlet.mirPol (o : Outlet) : Bool := o.coil.getLsbD 15

/-- Used phases of an outlet (R194). -/
def Outlet.used (o : Outlet) : List (Fin 3) := (allFin 3).filter fun p => bitAt o.phases p.val

/-- EN of an outlet; an outlet in DC metering mode reads 0 (R194). -/
def outEn (s : State) (n : Outlet8) : Bool := (outOf s n).ocfg.getLsbD 0 && !isDc s n

/-- Field ranges of SES_OCFGn (R194). -/
def ocfgOk (v : Nat) : Bool :=
  (bitsOf v 4 3 == 1 || bitsOf v 4 3 == 7) && decide (6 ≤ bitsOf v 8 7 ∧ bitsOf v 8 7 ≤ 80) && decide (5 ≤ bitsOf v 16 7 ∧ bitsOf v 16 7 ≤ 100)

/-- Field ranges of SES_COILn (R194). -/
def coilOk (v : Nat) : Bool := decide (10 ≤ bitsOf v 0 8) && decide (20 ≤ bitsOf v 8 7 ∧ bitsOf v 8 7 ≤ 100)

/-- A rejected write sets SES_STATUS.CFG_REJECT (R194). -/
def sesReject (s : State) : State := { s with ses := { s.ses with cfgReject := true } }

/-- The outlet is in IDLE or DISABLED (R194). -/
def Outlet.idle (o : Outlet) : Bool := o.state = .idle || o.state = .disabled

/-- A write to SES_OCFGn; reserved bits read 0 (R194). -/
def writeOcfg (n : Outlet8) (v : Nat) (s : State) : State :=
  if (outOf s n).idle && ocfgOk v && !(bitAt v 0 && isDc s n) then
    modOut n (fun o => { o with pendOcfg := some (BitVec.ofNat 32 v &&& 0x037F7FFF) }) s
  else sesReject s

/-- SES_OCFG_WRITE (R194). -/
def execSesOcfgWrite (n : Outlet8) (v : W32) (s : State) : Res := .next (hostAcc (writeOcfg n v.toNat) s)

/-- A write to SES_COILn (R194). -/
def writeCoil (n : Outlet8) (v : Nat) (s : State) : State :=
  if (outOf s n).idle && coilOk v then modOut n (fun o => { o with pendCoil := some (BitVec.ofNat 32 v &&& 0xFFFF) }) s
  else sesReject s

/-- SES_COIL_WRITE (R194). -/
def execSesCoilWrite (n : Outlet8) (v : W32) (s : State) : Res := .next (hostAcc (writeCoil n v.toNat) s)

/-- A write to SES_CFG (R195). -/
def writeSesCfg (v : Nat) (s : State) : State :=
  if bitsOf v 8 8 < 10 then sesReject s
  else { s with ses := { s.ses with preauthS := bitsOf v 0 8, authTimeoutS := bitsOf v 8 8 } }

/-- Accepted writes take effect at the tick edge (R194). -/
def Outlet.applyCfg (o : Outlet) : Outlet :=
  { o with ocfg := o.pendOcfg.getD o.ocfg, coil := o.pendCoil.getD o.coil, pendOcfg := none, pendCoil := none }

/-! ### Pilot drive and readback (R196 to R201) -/

/-- The drive in force, or the one that is waiting. -/
def Outlet.driveSoon (o : Outlet) : Drive := match o.pendDrive with | some (d, _) => d | none => o.drive

/-- A new drive: constant drive at the next tick edge, oscillation at the next period start (R196). -/
def Outlet.setDrive (d : Drive) (o : Outlet) : Outlet :=
  if o.driveSoon = d then o
  else { o with pendDrive := some (d, match d with | .osc _ => false | _ => true) }

/-- The pilot oscillates. -/
def Drive.oscillates : Drive → Bool
  | .osc _ => true
  | _ => false

/-- A waiting drive takes effect: a new period or a new drive begins without plateau samples (R196, R197). -/
def Outlet.applyDrive (now : Nat) (o : Outlet) : Outlet :=
  match o.pendDrive with
  | some (d, soon) =>
    if soon || decide (now % 64 = 0) then
      { o with drive := d, pendDrive := none, posSum := 0, posN := 0, negSum := 0, negN := 0, conPos := [] }
    else o
  | none => o

/-- DUTY of a current limit in 0.1 A, none for constant +12 V (R201). -/
def dutyOf (i : Nat) : Option Nat :=
  let i := min i 800
  if i < 60 then none else if i ≤ 510 then some (roundDiv (5 * i) 3).toNat else some (max 850 ((2 * i + 3200) / 5))

/-- Plateau of the sample of a tick: positive, negative or ignored (R197). Times in 1/100 PLL B clock:
10 µs are 49,152, a tick is 76,800. -/
def plateau (d : Drive) (now : Nat) : Option Bool :=
  match d with
  | .plus => some true
  | .minus => some false
  | .osc duty =>
    let t := 49152 + 76800 * (now % 64)
    let fall := 100 * (roundDiv (duty * 49152) 1000).toNat
    if t + 24576 ≤ fall then some true else if fall + 49152 ≤ t then some false else none

/-- Entry bands of A to E for a plateau sample in mV (R198). -/
def inBand (p : Pilot) (mv : Int) : Bool :=
  match p with
  | .a => decide (10700 < mv ∧ mv ≤ 13500)
  | .b => decide (7700 < mv ∧ mv < 10300)
  | .c => decide (4700 < mv ∧ mv < 7300)
  | .d => decide (1700 < mv ∧ mv < 4300)
  | .e => decide (mv < 1300)

/-- The pilot states in their order. -/
def pilotStates : List Pilot := [.a, .b, .c, .d, .e]

/-- Number of a detected state in SES_STATEn.PILOT (R210). -/
def Pilot.num : Pilot → Nat
  | .a => 0 | .b => 1 | .c => 2 | .d => 3 | .e => 4

/-- A run of consecutive ticks: a sample that counts extends or ends it, a tick without one extends a run
that has begun (R198, R199). -/
def runOf (applies hit : Bool) (r : Nat) : Nat := if applies then (if hit then r + 1 else 0) else if r = 0 then 0 else r + 1

/-- The pilot sample of one tick (R197 to R199); P and N are means of the last period, or of the last 64 ticks
under constant drive (R210). -/
def Outlet.samplePilot (mv : Int) (now : Nat) (o : Outlet) : Outlet :=
  let pl := plateau o.drive now
  let pos := pl == some true
  let neg := pl == some false
  let osc := o.drive.oscillates
  let bands := if o.drive = .minus then Vector.replicate 5 0
    else Vector.ofFn fun i : Fin 5 => runOf pos (inBand (pilotStates.getD i.val .a) mv) o.bandRun[i.val]
  let errs : Vector Nat 4 := #v[
    if o.drive = .minus then 0 else runOf pos (decide (13500 < mv)) o.errRun[0],
    if osc then runOf neg (decide (-10800 < mv)) o.errRun[1] else 0,
    if osc then runOf neg (decide (mv < -13500)) o.errRun[2] else 0,
    if o.drive = .minus then runOf true (decide (-10800 < mv)) o.errRun[3] else 0]
  let o := { o with bandRun := bands, errRun := errs,
                    pilotErr := if errs.toList.all (fun r => decide (r = 0)) then none else o.pilotErr,
                    posSum := o.posSum + (if pos then mv else 0), posN := o.posN + b2n pos,
                    negSum := o.negSum + (if neg && osc then mv else 0), negN := o.negN + b2n (neg && osc),
                    conPos := if pos && !osc then (mv :: o.conPos).take 64 else [] }
  if !osc then
    { o with pos := if o.conPos.isEmpty then 0 else roundDiv o.conPos.sum (100 * o.conPos.length), neg := 0,
             posSum := 0, posN := 0, negSum := 0, negN := 0 }
  else if now % 64 = 63 then
    { o with pos := if o.posN = 0 then 0 else roundDiv o.posSum (100 * o.posN),
             neg := if o.negN = 0 then 0 else roundDiv o.negSum (100 * o.negN), posSum := 0, posN := 0, negSum := 0, negN := 0 }
  else o

/-- A state to be recognised, none where no entry run is long enough (R198). -/
def Outlet.candidate (o : Outlet) : Option Pilot :=
  pilotStates.find? fun p =>
    let need := if p = .e ∨ (p = .a ∧ (o.det = some .c ∨ o.det = some .d)) then 128 else 192
    decide (need ≤ o.bandRun.toList.getD p.num 0) && decide (o.det ≠ some p)

/-- The readback fault to be acted on (R199). -/
def Outlet.pilotFault? (o : Outlet) : Option PilotErr :=
  let r (i : Nat) := decide (128 ≤ o.errRun.toList.getD i 0)
  if r 1 then some .diode else if r 0 || r 2 || r 3 then some .hw else none

/-- PILOT of SES_STATEn (R210). -/
def Outlet.pilotCode (o : Outlet) : Nat :=
  match o.pilotErr with
  | some .diode => 6
  | some .hw => 7
  | none => if o.drive = .minus then 5 else match o.det with | some p => p.num | none => 0

/-! ### Proximity and the current limit (R200, R202) -/

/-- PP code of a resistance (R202). -/
def ppCode (r : Rat) : Nat :=
  if 4500 < r then 0 else if 1100 ≤ r ∧ r ≤ 2200 then 1 else if 470 ≤ r ∧ r ≤ 1000 then 2
  else if 160 ≤ r ∧ r ≤ 330 then 3 else if 60 ≤ r ∧ r ≤ 135 then 4 else if r < 50 then 6 else 5

/-- Median of the values kept; of an even number, the mean of the middle two (R202, log 22). -/
def medianOf (l : List Nat) : Rat :=
  let q := sortNat (fun x => x) l
  let n := q.length
  ((q.getD ((n - 1) / 2) 0 : Nat) + (q.getD (n / 2) 0 : Nat) : Rat) / 2

/-- Rating in 0.1 A of a PP code 1 to 4, or of CABLE 0 to 3 (R202). -/
def ppRating (code : Nat) : Nat := [0, 130, 200, 320, 630].getD code 0
def cableRating (sel : Nat) : Nat := [130, 200, 320, 630].getD sel 0

/-- A PP code that gives a cable rating (R202). -/
def ppValid (code : Nat) : Bool := decide (1 ≤ code ∧ code ≤ 4)

/-- PROXIMITY_MEASURE: a value of PP_n; while the latches are set, a rating falls at once and rises only at the next session. Without a
valid reading the term of R200 is 0 (R200, R202, log 67). -/
def Outlet.samplePp (ohm : Nat) (o : Outlet) : Outlet :=
  if o.caseT then { o with pp := 7 }
  else
    let vals := (ohm :: o.ppVals).take 8
    let code := ppCode (medianOf vals)
    let set_ := o.latchA || o.latchB
    let cap := if set_ && ppValid code && ppValid o.pp && decide (ppRating o.pp < ppRating code) then some o.cable else o.ppCap
    let cable := if ppValid code then min (cap.getD 0xFFFF) (ppRating code) else 0
    let bad := set_ && !ppValid code
    { o with ppVals := vals, pp := code, cable := cable, ppCap := cap, faults := if bad then o.faults ++ [.proximity] else o.faults }

/-- Cable rating in force in 0.1 A (R200). -/
def Outlet.cableLimit (o : Outlet) : Nat := if o.caseT then cableRating o.cableSel else o.cable

/-- I_lim in 0.1 A (R200). -/
def Outlet.limit (o : Outlet) : Nat :=
  let host := match o.iSes with | some l => l | none => o.iHost.getD 0xFFFF
  min (min (10 * o.rating) o.cableLimit) (min host o.iTok)

/-- PILOT_DUTY_UPDATE: I_lim is recomputed, with its history of 5 s (R200, R225). -/
def Outlet.updateLimit (now : Nat) (o : Outlet) : Outlet :=
  let i := o.limit
  if i = o.iLim then o
  else
    let h := (now, i) :: o.iHist
    let old := (h.filter fun e => decide (e.1 + 320000 ≤ now)).take 1
    { o with iLim := i, iHist := (h.filter fun e => decide (now < e.1 + 320000)) ++ old }

/-- I_lim as it was 5 s before (R225). -/
def Outlet.limit5s (now : Nat) (o : Outlet) : Nat :=
  match o.iHist.find? fun e => decide (e.1 + 320000 ≤ now) with
  | some e => e.2
  | none => 0

/-! ### Contactor drive and feedback (R211 to R216) -/

/-- Both latches are cleared; the mirror must confirm and the opening checks begin (R211, R214, R216). -/
def Outlet.clearLatches (now : Nat) (o : Outlet) : Outlet :=
  { o with latchA := false, latchB := false, preDone := false, coilHold := false, setTick := none, clrTick := some now,
           chkMirror := .running, chkVolt := .running, mirWait := some (now, false), mirRun := 0 }

/-- PWD is out of reset and has its supply; else every coil stage is off (R20, R22, R385). Above the range of R385 the coil stages stay on
(log 168). -/
def pwdOn (s : State) : Bool := !s.rst.held0 && !s.lsw.uv

/-- The coil of an outlet is energised: both latches are set and the stages of PWD work (R20, R211). -/
def coilOn (s : State) (n : Outlet8) : Bool := pwdOn s && (outOf s n).latchA && (outOf s n).latchB

/-- Readback of the coil stages: a stage without PWD does not conduct, whatever the switch shows otherwise (R20, R213). -/
def stageReadback (s : State) (rb : CoilRb) : CoilRb :=
  { high := rb.high && pwdOn s, low := rb.low && pwdOn s, current := rb.current && pwdOn s }

/-- The opening checks have passed, or one has failed (R216). -/
def Outlet.opened (o : Outlet) : Bool := o.chkMirror = .passed && o.chkVolt = .passed
def Outlet.openFailed (o : Outlet) : Bool := o.chkMirror = .failed || o.chkVolt = .failed

/-- Both opening checks have been judged (R216). -/
def Outlet.checksDone (o : Outlet) : Bool :=
  (o.chkMirror = .passed || o.chkMirror = .failed) && (o.chkVolt = .passed || o.chkVolt = .failed)

/-- A fault is raised for the fault row of R204. -/
def Outlet.fault (r : Reason) (o : Outlet) : Outlet := { o with faults := o.faults ++ [r] }

/-- PRE_CLOSE_TEST in CLOSING, by ticks from entry (R212). -/
def Outlet.preClose (rb : CoilRb) (now : Nat) (o : Outlet) : Outlet :=
  if o.state = .closing ∧ !o.preDone then
    if now = o.entry + 2 then
      let o' := { o with latchA := false }
      if rb.high && !rb.current then o' else o'.fault .coilDriver
    else if now = o.entry + 3 then { o with latchB := true }
    else if now = o.entry + 5 then
      let o' := { o with latchB := false }
      if rb.low && !rb.current then o' else o'.fault .coilDriver
    else if now = o.entry + 6 then
      { o with latchA := true, latchB := true, preDone := true, setTick := some now, loadChecked := false,
               loadLow := Vector.replicate 3 0, mirWait := some (now, true), mirRun := 0, clrTick := none,
               chkMirror := .idle, chkVolt := .idle }
    else o
  else o

/-- SES_COIL (R228). -/
def postCoil (n : Outlet8) (kind : Nat) (data : List Byte) (s : State) : State :=
  postSes 0x0306 n.val ([BitVec.ofNat 8 kind] ++ data) s

/-- COIL_READBACK_MISMATCH of one switch: its run of disagreement, whether it faults, and whether a single
disagreement has gone (R213). -/
def readback (disagree : Bool) (run : Nat) : Nat × Bool × Bool :=
  if disagree then (run + 1, decide (run = 1), false) else (0, false, decide (run = 1))

/-- Both switches of an outlet in one tick (R213). -/
def tickReadback (n : Outlet8) (rb : CoilRb) (s : State) : State :=
  let o := outOf s n
  let (h, fh, gh) := readback (rb.high != o.latchA) o.disHigh
  let (l, fl, gl) := readback (rb.low != o.latchB) o.disLow
  let o' := { o with disHigh := h, disLow := l }
  let s := modOut n (fun _ => if fh || fl then o'.fault .coilDriver else o') s
  let s := if gh then postCoil n 1 [0] (setReplace 7 s) else s
  if gl then postCoil n 1 [1] (setReplace 7 s) else s

/-- COIL_PULL_IN_END: after PULL_MS at full voltage the coil passes to HOLD duty (R212). -/
def execCoilPullInEnd (n : Outlet8) (s : State) : Res :=
  inSafety (fun s => match (outOf s n).setTick with
    | some t => if t + 64 * (outOf s n).pullMs ≤ s.now then modOut n (fun o => { o with coilHold := true }) s else s
    | none => s) s

/-! ### Cable lock (R219) -/

/-- A drive of the lock bridge starts; its confirmation is taken from new samples (R219). After a restart it waits until the position has
been read (R220). -/
def Outlet.startLock (toLock : Bool) (now : Nat) (o : Outlet) : Outlet :=
  if o.caseT then o
  else if o.lockSeen < 3 then { o with lockAsk := some toLock }
  else { o with lockDrive := some { toLock := toLock, start := now }, lockFailed := false, unlockFailed := false, lockRun := 0, lockAsk := none }

/-- One sample of LOCK_FB_n; the third since the start releases a drive that waits for the position (R219, R220). -/
def Outlet.sampleLock (high : Bool) (now : Nat) (o : Outlet) : Outlet :=
  let locked := high != o.lockPol
  let o := { o with lockLast := locked, lockRun := if locked = o.lockLast then o.lockRun + 1 else 1, lockSeen := min 3 (o.lockSeen + 1) }
  match o.lockAsk with
  | some d => o.startLock d now
  | none => o

/-- No drive of the lock runs or waits. -/
def Outlet.lockIdle (o : Outlet) : Bool := o.lockDrive.isNone && o.lockAsk.isNone

/-- LOCK of SES_STATEn (R210). -/
def Outlet.lockCode (o : Outlet) : Nat :=
  if o.caseT then 3 else if !o.lockIdle then 2 else match o.lock with | some true => 1 | some false => 0 | none => 2

/-- SES_LOCK (R228). -/
def postLock (n : Outlet8) (kind : Nat) (s : State) : State := postSes 0x0305 n.val [BitVec.ofNat 8 kind] s

/-- A waiting SES_UNLOCK completes with LOCK after the drive (R226). -/
def unlockDone (n : Outlet8) (s : State) : State :=
  match (outOf s n).unlockSeq with
  | some q => completeSeq q .ok 0 [BitVec.ofNat 8 (outOf s n).lockCode] none (modOut n (fun o => { o with unlockSeq := none, unlockAsk := none }) s)
  | none => s

/-! ### Residual current (R221 to R225) -/

/-- The IRES slot has TYPE 2 and a nonzero FS (R221). -/
def iresOk (s : State) (n : Outlet8) : Bool :=
  decide (effType s (iresSlot n) = 2) && decide ((corrOf s (iresSlot n)).fs ≠ 0)

/-- Length of the window of R221 in ticks. -/
def iresWindow (s : State) : Nat := if s.adc.nomF60 then 1067 else 1280

/-- Detection is armed: from entry into CLOSING until the opening checks pass (R222). -/
def Outlet.armed (o : Outlet) : Bool :=
  o.state = .closing || o.state = .charging || o.state = .stopping || o.state = .opening || (o.state = .fault && !o.opened)

/-- Levels of R222 as mA, with their hold times in ticks: three of I_DC, three of I_AC. -/
def rcdLevels : List (Nat × Nat) := [(5, 64000), (50, 12800), (180, 2560), (25, 12800), (50, 5120), (120, 640)]

/-- The two values of R221 over the window, and the hold runs of R222; the magnitude of I_DC is compared (log 23). -/
def Outlet.residual (win : Nat) (sample : Rat) (o : Outlet) : Outlet :=
  let l := (sample :: o.ires).take win
  let k : Rat := l.length
  let mean := l.foldl (· + ·) 0 / k
  let ac2 := l.foldl (fun a x => a + x * x) 0 / k - mean * mean
  let dc := mean - o.baseline
  let hit (i : Nat) (mA : Nat) : Bool :=
    let a : Rat := (mA : Rat) / 1000
    if i < 3 then decide (a ≤ dc) || decide (dc ≤ -a) else decide (a * a ≤ ac2)
  let runs := if o.armed then Vector.ofFn fun i : Fin 6 => if hit i.val ((rcdLevels.getD i.val (0, 0)).1) then o.rcdRun[i.val] + 1 else 0
    else Vector.replicate 6 0
  { o with ires := l, iDc := dc, iAc2 := ac2, rcdRun := runs }

/-- The self-test takes the sample of a tick: step 1 all, step 2 its last 20 ms (R223). -/
def Outlet.testSample (sample : Rat) (now : Nat) (o : Outlet) : Outlet :=
  match o.test with
  | some t =>
    if t.step = 1 ∨ (t.step = 2 ∧ t.start + 2560 < now) then { o with test := some { t with sum := t.sum + sample, count := t.count + 1 } }
    else o
  | none => o

/-- Values of one tick for an outlet whose IRES slot is configured (R221). -/
def tickResidual (n : Outlet8) (s : State) : State :=
  if iresOk s n then
    let x := physOf s (iresSlot n)
    modOut n (fun o => (o.residual (iresWindow s) x).testSample x s.now) s
  else s

/-- A current in µA. -/
def microAmp (x : Rat) : Int := roundRat (x * 1000000)

/-- SES_RCD (R228). -/
def postRcd (n : Outlet8) (kind step : Nat) (s : State) : State :=
  let o := outOf s n
  postSes 0x0303 n.val ([BitVec.ofNat 8 kind, BitVec.ofNat 8 step, 0, 0] ++ leBytes 4 (unsigned 32 (microAmp o.iDc)) ++
    leBytes 4 (roundSqrt (o.iAc2 * 1000000000000))) s

end Sys2Proof.Machine
end

