-- ==== Sys2Proof/Machine/Session.lean ====
section
/-! DEFINITION. The session state machine, its requests, timeouts and descriptors (chapter 08). -/

namespace Sys2Proof.Machine

/-- Byte o of the active safety block, 0 where none is active (R243). -/
def activeByte (s : State) (o : Nat) : Nat := match s.saf.active with | some b => byteAt b o | none => 0

/-- A stop is in force on a pair whose mask holds the outlet, or a contact of a used pair is not yet
recognised since the start and counts as open (R235, R240, R243; log 27). -/
def stopOn (s : State) (n : Outlet8) : Bool :=
  (allFin 2).any fun k => bitAt (activeByte s (4 + k.val)) n.val &&
    ((s.saf.pair[k.val]).stop || (bitAt (activeByte s 3) k.val && ((s.saf.inp[2 * k.val]).recog.isNone || (s.saf.inp[2 * k.val + 1]).recog.isNone)))

/-- The outlet is unconfirmed, or not configured (R2, R204, R246; log 24). -/
def unconfirmed (s : State) (n : Outlet8) : Bool := s.saf.unconf.getLsbD n.val || !outEn s n

/-- The outlet is in digital mode (R201, R268). -/
def digitalMode (s : State) (n : Outlet8) : Bool := (s.vlk.mirror[n.val]).digital

/-- The AUTHORISING condition of the vehicle link: HLC = 0, or released (R268). -/
def vlkReleased (s : State) (n : Outlet8) : Bool := !(outOf s n).hlc || (s.vlk.mirror[n.val]).released

/-- SUBSTATE of R227. -/
def substate (s : State) (n : Outlet8) : Nat :=
  let o := outOf s n
  flag 0 o.ending + flag 1 o.resuming + flag 2 (digitalMode s n) + flag 3 o.preAuth.isSome

/-! ### Entering a state (R203 to R206) -/

/-- The pilot drive that a state holds (R203). -/
def stateDrive (s : State) (n : Outlet8) (o : Outlet) : Drive :=
  match o.state with
  | .ready | .closing | .charging =>
    if digitalMode s n then .osc 50 else match dutyOf o.iLim with | some d => .osc d | none => .plus
  | .stopping => if digitalMode s n && !o.stopDone then .osc 50 else .plus
  | .fault => if o.faultHigh then .plus else .minus
  | .welded | .disabled => .minus
  | _ => .plus

/-- The link of an outlet. -/
def linkOf (s : State) (n : Outlet8) : Link := s.vlk.link[n.val]

/-- The mirror of an outlet. -/
def mirrorOf (s : State) (n : Outlet8) : Mirror := s.vlk.mirror[n.val]

/-- VLK_LINKn bits [11:4] (R282). -/
def linkBits (s : State) (n : Outlet8) : Nat :=
  let l := linkOf s n
  let m := mirrorOf s n
  field 0 2 l.proto + flag 2 l.tls + flag 3 l.tls13 + flag 4 m.released + flag 5 m.digital + flag 6 l.pnc + flag 7 l.bpt

/-- An outlet has a V2G session, also one that waits for its vehicle to rejoin (R281, R282). -/
def Link.hasSession (l : Link) : Bool := l.v2g || l.resumeUntil.isSome

/-- A TLS handshake of an outlet ends before its signature has come (R57). -/
def dropTls (n : Outlet8) (s : State) : State :=
  let s := dropReq (fun r => decide (r = .tls n)) s
  { s with vlk := { s.vlk with tlsWait := s.vlk.tlsWait.filter fun m => decide (m ≠ n) } }

/-- A match ends where the outlet enters a state without a session dialogue: VLK_SESSION and VLK_LINK, and a
new random NMK; without a match the modem keeps the NMK it has (R259, R270, R280). -/
def endMatch (n : Outlet8) (s : State) : State :=
  let l := s.vlk.link[n.val]
  let m := s.vlk.mirror[n.val]
  let s := if l.hasSession then postMail 0x0502 n.val ([1, BitVec.ofNat 8 m.proto, BitVec.ofNat 8 (linkBits s n), 6] ++ leBytes 8 m.sessionId.toNat) s else s
  let s := if m.matched then postMail 0x0501 n.val ([3] ++ leBytes 6 m.mac.toNat ++ [BitVec.ofNat 8 m.atten]) s else s
  let (nmk, s) := if m.matched then freeBytes 16 s else (m.nmk, s)
  let s := dropTls n s
  { s with vlk := { s.vlk with link := s.vlk.link.set n.val {}, mirror := s.vlk.mirror.set n.val { nmk := nmk } } }

/-- The session has ended: its RTYPE 2 snapshot is marked, with the values that were kept at the fourth tick after the last opening was
confirmed, or at the fourth tick after this confirmation or after entry into WELDED (R176, R206; log 56). -/
def markRecord (n : Outlet8) (tick : Nat) (s : State) : State :=
  match (outOf s n).record with
  | some (no, ref) =>
    let b := s.bill[n.val]
    modOut n (fun o => { o with record := none, endVals := none })
      { s with bill := s.bill.set n.val { b with due := some { tick := tick, session := no, authRef := ref, body := (outOf s n).endVals } } }
  | none => s

/-- The opening of a session with an RTYPE 1 record is confirmed: the values at the end of foreground B of the fourth tick after it are
kept, for the RTYPE 2 record of a session that goes on or whose end the opening checks still decide (R176, R206; log 56). -/
def keepEndValues (n : Outlet8) (s : State) : State :=
  let o := outOf s n
  if o.session ≠ 0 ∧ o.record.isSome ∧ o.chkMirror = .passed ∧ o.mirTick + 4 = s.now then
    modOut n (fun o => { o with endVals := some (prnBody 2 n o.session o.authRef s) }) s
  else s

/-- Entry into CONNECTED: the next SESSION_NO, and a held pre-authorisation becomes its authorisation (R206, R207). A record of the
session before whose opening has never been confirmed is taken here, and the modem keeps its NMK (R206, R270). -/
def openSession (n : Outlet8) (s : State) : State :=
  let s := markRecord n s.now s
  let o := outOf s n
  let pre := o.preAuth
  let o' := { o with session := s.ses.nextSession, record := none, authed := pre.isSome, denied := false, testOk := false,
                     authRef := (match pre with | some p => p.authRef | none => 0),
                     iSes := (match pre with | some p => (if p.limit = 0 then none else some p.limit) | none => none),
                     preAuth := none, modeFixed := false, connTick := s.now, ending := false, resuming := false, stopReq := none, relDue := false, test := none,
                     cable := (if ppValid o.pp then ppRating o.pp else 0), ppCap := none, endVals := none, stopDone := false,
                     baseline := 0 }
  let cfg := (s.vlk.cfg, s.vlk.slacWaitS)
  { s with ses := { s.ses with nextSession := s.ses.nextSession + 1, out := s.ses.out.set n.val o' }
           vlk := { s.vlk with outCfg := s.vlk.outCfg.set n.val cfg
                               outResume := s.vlk.outResume.set n.val s.vlk.resumeS
                               link := s.vlk.link.set n.val { slac := if o.hlc then 1 else 0 }
                               mirror := s.vlk.mirror.set n.val { released := !o.hlc, nmk := (s.vlk.mirror[n.val]).nmk } } }

/-- The session on an outlet closes (R206, R207). -/
def Outlet.closeSession (o : Outlet) : Outlet :=
  { o with session := 0, authed := false, denied := false, iSes := none, testOk := false, stopReq := none, test := none,
           authRef := if o.record.isSome then o.authRef else 0 }

/-- SES_STATE (R228); `no` is the session concerned. -/
def postState (n : Outlet8) (old : SesState) (no : Nat) (s : State) : State :=
  let o := outOf s n
  postSes 0x0301 n.val ([BitVec.ofNat 8 old.num, BitVec.ofNat 8 o.state.num, BitVec.ofNat 8 o.reason.code, BitVec.ofNat 8 (substate s n)] ++
    leBytes 8 no) s

/-- Some outlet with shunt trip enabled is in WELDED (R217). -/
def shuntHeld (s : State) : Bool :=
  (allFin 8).any fun n => bitAt (activeByte s 12) n.val && decide ((outOf s n).state = .welded)

/-- At a tick edge SHUNT_TRIP_N goes low where an outlet that the block enables stands in WELDED, whichever of the two came last
(R217). -/
def shuntEdge (s : State) : State :=
  if shuntHeld s && !s.ses.shunt then { s with ses := { s.ses with shunt := true, shuntTick := s.now } } else s

/-- WELDED: SES_WELDED; SHUNT_TRIP_N follows at the next tick edge where the block enables it (R217). -/
def weldedEntry (n : Outlet8) (s : State) : State :=
  let o := outOf s n
  postSes 0x0304 n.val [BitVec.ofNat 8 (flag 0 (o.chkMirror = .failed) + flag 1 (o.chkVolt = .failed)),
    BitVec.ofNat 8 (b2n (s.ses.shunt || bitAt (activeByte s 12) n.val))] s

/-- A drive of the lock in progress ends: FAULT and WELDED hold the lock, DISABLED does not drive it (R203). -/
def endLockDrive (n : Outlet8) (s : State) : State := modOut n (fun o => { o with lockDrive := none, lockAsk := none }) s

/-- IDLE holds the lock unlocked: one that DISABLED left otherwise is driven (R203). -/
def unlockInIdle (old : SesState) (n : Outlet8) (s : State) : State :=
  let o := outOf s n
  if o.lockIdle && (o.lock = some true || (old = .disabled && o.lock ≠ some false)) then modOut n (Outlet.startLock false s.now) s else s

/-- LOCK_LOST where a lock stands confirmed not locked in a state that needs it (R220). -/
def lockLost (n : Outlet8) (s : State) : State := postLock n 2 (modOut n (Outlet.fault .lockLost) s)

/-- A transition is taken (R203, R204): state, drive, lock, session and events. -/
def enter (n : Outlet8) (new : SesState) (reason : Option Reason) (s : State) : State :=
  let old := (outOf s n).state
  let s := if new = .connected then openSession n s else s
  let no := (outOf s n).session
  let s := modOut n (fun o => { o with state := new, entry := s.now, lastTrans := some s.now, reason := reason.getD o.reason,
                                       faults := [], faultHigh := false }) s
  let s := postState n old no s
  let ends := new = .ended || new = .fault || new = .welded || new = .disabled
  let o := outOf s n
  let s := if ends && new ≠ .welded && no ≠ 0 && o.chkMirror = .passed then markRecord n (max s.now (o.mirTick + 4)) s else s
  let s := if ends then modOut n Outlet.closeSession s else s
  let s := if ends || new = .idle then endMatch n s else s
  let s := match new with
    | .connected => if stopOn s n then modOut n (Outlet.fault .safety) s else s
    | .locking => modOut n (Outlet.startLock true s.now) s
    | .selfTest => modOut n (fun o => { o with test := some { step := 1, start := s.now } }) s
    | .authorising =>
      modOut n (fun o => { o with authEnd := s.now + 64000 * s.ses.authTimeoutS })
        { s with sct := { s.sct with authTick := s.sct.authTick.set n.val s.now } }
    | .idle => unlockInIdle old n s
    | .closing =>
      let s := modOut n (fun o => { o with modeFixed := true, latchA := true, latchB := false, preDone := false, coilHold := false, chkMirror := .idle,
                                           chkVolt := .idle, clrTick := none, endVals := none }) s
      if !o.caseT && o.lock = some false then lockLost n s else s
    | .ended => modOut n (Outlet.startLock false s.now) s
    | .fault => endLockDrive n s
    | .disabled => unlockDone n (endLockDrive n s)
    | .welded => weldedEntry n (markRecord n (s.now + 4) (endLockDrive n s))
    | _ => s
  modOut n (fun o => o.setDrive (stateDrive s n o)) s

/-- The latches of an outlet are cleared in this foreground A (R211). -/
def clearOut (n : Outlet8) (s : State) : State := modOut n (Outlet.clearLatches s.now) s

/-! ### The rows of R204 -/

/-- The states 0 to 10 that the first row takes to DISABLED. -/
def SesState.num10 (x : SesState) : Bool := decide (x.num ≤ 10)

/-- A fault that the fault row acts on: E, a readback fault, or one that has been raised (R204). -/
def faultOf (o : Outlet) : Option Reason :=
  if o.det = some .e ∧ o.drive ≠ .minus then some .pilotE
  else match o.pilotErr with
    | some .diode => some .diode
    | some .hw => some .pilotHw
    | none => o.faults.head?

/-- The rows of each state after the fault rows, first row first (R204). In FAULT no state is recognised while −12 V is driven (R199). -/
def rowOf (n : Outlet8) (s : State) : Option State :=
  let o := outOf s n
  let due (t : Trig) := o.trigs.contains t
  let is (p : Pilot) := o.det = some p
  let plugged := is .b || is .c || is .d
  let stop : Option Reason := if due .request then o.stopReq.map (·.2) else none
  let unreq (s : State) := modOut n (fun o => { o with stopReq := none }) s
  let sub (e r : Bool) (s : State) := modOut n (fun o => { o with ending := e, resuming := r }) s
  let ended (r : Reason) := enter n .ended (some r) s
  let early : Option State :=
    if is .a then some (ended .unplug)
    else match stop with
      | some r => some (enter n .ended (some r) (unreq s))
      | none => none
  match o.state with
  | .idle => if plugged then some (enter n .connected none s) else none
  | .connected =>
    if !iresOk s n then some (enter n .ended (some .rcdTest) (modOut n (fun o => { o with preAuth := none }) s))
    else if o.caseT || decide (1 ≤ o.pp ∧ o.pp ≤ 4) then some (enter n .locking none s)
    else if due .proximityNone then some (ended .proximityNone)
    else early
  | .locking =>
    if o.caseT || (o.lock = some true && o.lockIdle && !o.lockFailed) then some (enter n .selfTest none s)
    else if o.lockFailed then some (ended .lockFail)
    else early
  | .selfTest =>
    match o.test with
    | some { done := some true, .. } => some (enter n .authorising none s)
    | some { done := some false, .. } => some (ended .rcdTest)
    | _ => early
  | .authorising =>
    if o.authed && vlkReleased s n && s.isReady 18 && !(s.ppy[n.val]).acc.creditOut then some (enter n .ready none s)
    else if o.denied then some (ended .authDenied)
    else if due .authTimeout then some (ended .authTimeout)
    else early
  | .ready =>
    match early with
    | some s => some s
    | none => if (is .c || (is .d && o.vent)) && o.drive.oscillates then some (enter n .closing none s) else none
  | .closing =>
    if o.preDone && o.mirror = some true && o.mirWait.isNone then some (enter n .charging none s)
    else if is .a then some (enter n .opening (some .unplug) (sub true false (clearOut n s)))
    else match stop with
      | some r => some (enter n .opening (some r) (sub true false (clearOut n (unreq s))))
      | none => none
  | .charging =>
    if is .b || (is .d && !o.vent) then some (enter n .opening none (sub false true (clearOut n s)))
    else if !digitalMode s n && decide (o.iLim < 60) then some (enter n .stopping none (sub false true s))
    else if is .a then some (enter n .opening (some .unplug) (sub true false (clearOut n s)))
    else match stop with
      | some r => some (enter n .stopping (some r) (sub true false (unreq s)))
      | none => none
  | .stopping =>
    let s := match stop with
      | some r => sub true false (modOut n (fun o => { o with stopReq := none, reason := if o.resuming then r else o.reason }) s)
      | none => s
    if is .a || is .b || due .stoppingTimeout then some (enter n .opening none (clearOut n s))
    else if stop.isSome then some s else none
  | .opening =>
    let s := match stop with
      | some r => sub true false (modOut n (fun o => { o with stopReq := none, reason := if o.resuming then r else o.reason }) s)
      | none => s
    if o.openFailed && o.checksDone then some (enter n .welded (some .welded) s)
    else if o.opened then some (enter n (if (outOf s n).ending then .ended else .ready) none s)
    else if stop.isSome then some s else none
  | .ended => if is .a && o.lockIdle then some (enter n .idle none s) else none
  | .fault =>
    if o.openFailed then some (enter n .welded (some .welded) s)
    else if o.opened && o.faultHigh && o.reason = .restart then some (enter n .idle none s)
    else if o.opened && is .a && o.drive ≠ .minus && o.reason ≠ .coilDriver && o.reason ≠ .contactorFb then some (enter n .idle none s)
    else if due .faultClear then some (enter n (if plugged then .connected else .idle) none s)
    else none
  | .welded => if due .faultClear then some (enter n .ended none s) else none
  | .disabled => if unconfirmed s n then none else some (enter n .idle none s)

/-- One evaluation of the rows for an outlet: the first row of R204, the fault row, then the others. -/
def evalOnce (n : Outlet8) (s : State) : State :=
  let o := outOf s n
  if unconfirmed s n && (o.state.num10 || (o.state = .fault && o.opened)) then enter n .disabled none (clearOut n s)
  else
    let fr := if decide (1 ≤ o.state.num) && o.state.num10 then faultOf o else none
    match fr with
    | some r => enter n .fault (some r) (clearOut n s)
    | none => match rowOf n s with
      | some s => s
      | none => if o.state.num = 0 ∨ 11 ≤ o.state.num then modOut n (fun o => { o with faults := [] }) s else s

/-- What was due has been used: accepted fault clears complete with the state after; a stop request that finds no open session is void,
and one that no row has taken yet stays due (R205, R218, R226). -/
def closeRequests (n : Outlet8) (s : State) : State :=
  let o := outOf s n
  let (taken, later) := o.clearReq.partition fun e => o.trigs.contains .faultClear && decide (e.1 < s.now)
  let due := o.trigs.contains .request
  let s := modOut n (fun o => { o with clearReq := later, stopReq := if due && decide (o.session = 0) then none else o.stopReq,
                                       trigs := if due && o.stopReq.isSome && decide (o.session ≠ 0) then [.request] else [] }) s
  taken.foldl (fun s e => completeSeq e.2 .ok 0 [BitVec.ofNat 8 (outOf s n).state.num] none s) s

/-- In FAULT the lock is released once the opening checks have passed (R203). -/
def releaseInFault (n : Outlet8) (s : State) : State :=
  let o := outOf s n
  if o.relDue then
    modOut n (fun o => let p := { o with relDue := false }; if o.state = .fault && o.opened then p.startLock false s.now else p) s
  else s

/-- SESSION_TRANSITION: the rows of an outlet at the end of foreground A, on all that the window has brought; at most one transition per
tick, but for the one marked "same tick". The lock of a fault is released and the drive of the state is set (R203, R204; log 124). -/
def evalOut (n : Outlet8) (s : State) : State :=
  if !s.ses.started ∨ (outOf s n).lastTrans = some s.now then s
  else
    let s1 := evalOnce n s
    let s2 := if (outOf s n).state = .selfTest ∧ (outOf s1 n).state = .authorising then evalOnce n s1 else s1
    let s := releaseInFault n (closeRequests n s2)
    modOut n (fun o => o.setDrive (stateDrive s n o)) s

/-- The rows of all outlets (R204). -/
def evalAll (s : State) : State := forFin 8 evalOut s

/-! ### Stop requests (R205) -/

/-- A stop request is recorded; the first one recorded gives the reason (R205). -/
def requestStop (n : Outlet8) (r : Reason) (s : State) : State :=
  modOut n (fun o => if o.stopReq.isSome then o else { o with stopReq := some (s.now, r) }) s

/-! ### Recognitions -/

/-- SES_PILOT (R228). -/
def postPilot (n : Outlet8) (s : State) : State :=
  let o := outOf s n
  postSes 0x0302 n.val ([BitVec.ofNat 8 o.pilotCode] ++ leBytes 2 (unsigned 16 o.pos) ++ leBytes 2 (unsigned 16 o.neg)) s

/-- A pilot state is recognised where an entry run is long enough (R198). -/
def recognise (n : Outlet8) (s : State) : State :=
  if s.ses.started then
    match (outOf s n).candidate with
    | some p => postPilot n (modOut n (fun o => { o with det := some p }) s)
    | none => s
  else s

/-- PILOT_STATE_RECOGNISED (R198). -/
def execPilotStateRecognised (n : Outlet8) (s : State) : Res := inSafety (recognise n) s

/-! ### Requests (R205) -/

/-- Something is due for the next evaluation of the rows. -/
def Outlet.due (t : Trig) (o : Outlet) : Outlet := { o with trigs := o.trigs ++ [t] }

/-- A waiting stop request is due from the tick after its record on (R205). -/
def takeStopRequest (n : Outlet8) (s : State) : State :=
  match (outOf s n).stopReq with
  | some (t, _) => if t < s.now then modOut n (Outlet.due .request) s else s
  | none => s

/-- Accepted SES_FAULT_CLEARs are due from the tick after their dispatch on (R205, R218, R226). -/
def takeFaultClear (n : Outlet8) (s : State) : State :=
  if (outOf s n).clearReq.any fun e => decide (e.1 < s.now) then modOut n (Outlet.due .faultClear) s else s

/-- An accepted SES_UNLOCK starts its drive, unless an unlock drive runs already (R205, R226). -/
def takeUnlock (n : Outlet8) (s : State) : State :=
  let o := outOf s n
  match o.unlockAsk with
  | some t =>
    if t < s.now then
      let s := modOut n (fun o => { o with unlockAsk := none }) s
      match o.lockDrive with
      | some d => if d.toLock then modOut n (Outlet.startLock false s.now) s else s
      | none => modOut n (Outlet.startLock false s.now) s
    else s
  | none => s

/-- STATE_MACHINE_REQUEST: the requests recorded in an earlier tick are acted on, after a pilot change of the same tick (R205). -/
def execStateMachineRequest (n : Outlet8) (s : State) : Res :=
  inSafety (fun s => takeStopRequest n (takeFaultClear n (takeUnlock n (recognise n s)))) s

/-! ### Faults and timeouts -/

/-- PILOT_FAULT (R199). -/
def execPilotFault (n : Outlet8) (s : State) : Res :=
  inSafety (fun s => if s.ses.started ∧ (outOf s n).pilotErr.isNone then
      match (outOf s n).pilotFault? with
      | some e => postPilot n (modOut n (fun o => { o with pilotErr := some e }) s)
      | none => s
    else s) s

/-- PROXIMITY_NONE_TIMEOUT: 1 s in CONNECTED without a valid reading (R204). -/
def execProximityNoneTimeout (n : Outlet8) (s : State) : Res :=
  inSafety (fun s => let o := outOf s n
    if o.state = .connected ∧ o.entry + 64000 ≤ s.now then modOut n (Outlet.due .proximityNone) s else s) s

/-- AUTH_TIMEOUT: AUTH_TIMEOUT_S, as it was at the entry, in AUTHORISING (R195, R204). -/
def execAuthTimeout (n : Outlet8) (s : State) : Res :=
  inSafety (fun s => let o := outOf s n
    if o.state = .authorising ∧ o.authEnd ≤ s.now then modOut n (Outlet.due .authTimeout) s else s) s

/-- PREAUTH_EXPIRY: a pre-authorisation is dropped (R207). -/
def execPreauthExpiry (n : Outlet8) (s : State) : Res :=
  inSafety (fun s => match (outOf s n).preAuth with
    | some p => if p.untilTick ≤ s.now then modOut n (fun o => { o with preAuth := none }) s else s
    | none => s) s

/-- STOPPING_TIMEOUT: 6 s in STOPPING (R204). -/
def execStoppingTimeout (n : Outlet8) (s : State) : Res :=
  inSafety (fun s => let o := outOf s n
    if o.state = .stopping ∧ o.entry + 384000 ≤ s.now then modOut n (Outlet.due .stoppingTimeout) s else s) s

/-- FAULT_DRIVE_END: after 3 s of −12 V the drive goes to +12 V (R203). -/
def execFaultDriveEnd (n : Outlet8) (s : State) : Res :=
  inSafety (fun s => let o := outOf s n
    if o.state = .fault ∧ !o.faultHigh ∧ o.entry + 192000 ≤ s.now then
      modOut n (fun o => ({ o with faultHigh := true } : Outlet).setDrive .plus) s
    else s) s

/-- Opening checks that pass in FAULT are to release the lock (R203). -/
def Outlet.checksPass (before : Bool) (o : Outlet) : Outlet :=
  if o.state = .fault && o.opened && !before then { o with relDue := true } else o

/-- MIRROR_CONFIRM: three samples agree (R214). An opening confirmed after its session has ended marks the record of that session (R206). -/
def mirrorConfirm (n : Outlet8) (s : State) : State :=
  let o := outOf s n
  let pos := o.mirLast
  let before := o.opened
  let waited := match o.mirWait with | some (t, c) => if c = pos then some t else none | none => none
  if o.mirRun < 3 ∨ (o.mirror = some pos ∧ waited.isNone) then s
  else
    let s := modOut n (fun o => { o with mirror := some pos, mirTick := s.now, mirWait := if waited.isSome then none else o.mirWait }) s
    let s := match waited with
      | some t => if t + 1280 < s.now then postCoil n 0 (leBytes 2 ((s.now - t) / 64)) (setReplace 7 s) else s
      | none => s
    let s := if !pos && decide ((outOf s n).session = 0) then markRecord n (s.now + 4) s else s
    let s := if waited.isSome && !pos then modOut n (fun o => { o with chkMirror := .passed }) s
      else if waited.isNone && !pos && o.latchA && o.latchB && o.mirWait.isNone then modOut n (Outlet.fault .contactorFb) s
      else s
    modOut n (Outlet.checksPass before) s

/-- MIRROR_CONFIRM (R214). -/
def execMirrorConfirm (n : Outlet8) (s : State) : Res := inSafety (mirrorConfirm n) s

/-- MIRROR_TIMEOUT: 30 ms after a command without its confirmation (R214). -/
def execMirrorTimeout (n : Outlet8) (s : State) : Res :=
  inSafety (fun s => match (outOf s n).mirWait with
    | some (t, closed) =>
      if t + 1920 ≤ s.now then
        let s := modOut n (fun o => { o with mirWait := none }) s
        if closed then modOut n (Outlet.fault .contactorFb) s else modOut n (fun o => { o with chkMirror := .failed }) s
      else s
    | none => s) s

/-- SHUNT_TRIP_RELEASE: no outlet with shunt trip enabled is in WELDED, and 200 ms have passed (R217). -/
def execShuntTripRelease (s : State) : Res :=
  inSafety (fun s =>
    if s.ses.shunt ∧ !shuntHeld s ∧ s.ses.shuntTick + 12800 ≤ s.now then { s with ses := { s.ses with shunt := false } } else s) s

/-- LOCK_CONFIRM: three samples agree (R219, R220). -/
def lockConfirm (n : Outlet8) (s : State) : State :=
  let o := outOf s n
  let pos := o.lockLast
  let driving := match o.lockDrive with | some d => d.toLock == pos && d.confirmed.isNone && d.retryAt.isNone | none => false
  if o.lockRun < 3 ∨ ((o.lock = some pos ∨ (o.unlockFailed ∧ o.lockIdle)) ∧ !driving) then s
  else
    let ld := if driving then o.lockDrive.map (fun d => { d with confirmed := some s.now }) else o.lockDrive
    let s := modOut n (fun o => { o with lock := some pos, lockDrive := ld }) s
    let lost := !pos && !o.caseT && (o.state = .closing || o.state = .charging || o.state = .stopping)
    if lost then lockLost n s else s

/-- LOCK_CONFIRM (R219). -/
def execLockConfirm (n : Outlet8) (s : State) : Res := inSafety (lockConfirm n) s

/-- LOCK_DRIVE_END: 20 ms after the confirmation (R219). -/
def execLockDriveEnd (n : Outlet8) (s : State) : Res :=
  inSafety (fun s => match (outOf s n).lockDrive with
    | some { confirmed := some t, .. } =>
      if t + 1280 ≤ s.now then unlockDone n (modOut n (fun o => { o with lockDrive := none }) s) else s
    | _ => s) s

/-- LOCK_DRIVE_TIMEOUT: LOCK_T without confirmation: a second attempt after 500 ms, then a failure (R219). -/
def lockTimeout (n : Outlet8) (s : State) : State :=
  let o := outOf s n
  match o.lockDrive with
  | some d =>
    if d.confirmed.isSome || d.retryAt.isSome || decide (s.now < d.start + 640 * o.lockT) then s
    else if d.attempt = 1 then modOut n (fun o => { o with lockDrive := some { d with retryAt := some (s.now + 32000) } }) s
    else
      let s := modOut n (fun o => { o with lockDrive := none, lock := none, lockFailed := d.toLock, unlockFailed := !d.toLock }) s
      unlockDone n (postLock n (if d.toLock then 0 else 1) s)
  | none => s

/-- LOCK_DRIVE_TIMEOUT (R219). -/
def execLockDriveTimeout (n : Outlet8) (s : State) : Res := inSafety (lockTimeout n) s

/-- LOCK_RETRY: the second attempt starts (R219). -/
def execLockRetry (n : Outlet8) (s : State) : Res :=
  inSafety (fun s => match (outOf s n).lockDrive with
    | some d => match d.retryAt with
      | some t =>
        if t ≤ s.now then
          modOut n (fun o => { o with lockDrive := some { d with start := s.now, attempt := 2, retryAt := none }, lockRun := 0 }) s
        else s
      | none => s
    | none => s) s

/-- RCD_TRIP: a criterion of R222 is met; a DC criterion comes first. -/
def execRcdTrip (n : Outlet8) (s : State) : Res :=
  inSafety (fun s =>
    let o := outOf s n
    let met (i : Nat) : Bool := decide ((rcdLevels.getD i (0, 1)).2 ≤ o.rcdRun.toList.getD i 0)
    let dc := met 0 || met 1 || met 2
    let ac := met 3 || met 4 || met 5
    if o.armed ∧ o.state ≠ .fault ∧ (dc || ac) then
      postRcd n (if dc then 0 else 1) 0 (modOut n (Outlet.fault (if dc then .rcdDc else .rcdAc)) s)
    else s) s

/-- A step of the self-test ends; a failure is reported with its step (R223). -/
def testPhase (n : Outlet8) (s : State) : State :=
  let o := outOf s n
  match o.test with
  | some t =>
    let fail (k : Nat) (s : State) := postRcd n 2 k (modOut n (fun o => { o with test := some { t with done := some false } }) s)
    let mean : Rat := if t.count = 0 then 0 else t.sum / t.count
    let win : Rat := if o.ires.isEmpty then 0 else o.ires.foldl (· + ·) 0 / (o.ires.length : Nat)
    if t.done.isSome then s
    else if t.step = 1 then
      if s.now < t.start + 1280 then s
      else if mean < 2 / 1000 ∧ -(2 / 1000) < mean then
        modOut n (fun o => { o with test := some { step := 2, start := s.now, b := mean } }) s
      else fail 1 s
    else if t.step = 2 then
      if s.now < t.start + 3840 then s
      else if 6 / 1000 ≤ mean - t.b ∧ mean - t.b ≤ 30 / 1000 then
        modOut n (fun o => { o with test := some { step := 3, start := s.now, b := t.b } }) s
      else fail 2 s
    else if win - t.b < 2 / 1000 then
      modOut n (fun o => { o with test := some { t with done := some true }, testOk := true, baseline := t.b }) s
    else if t.start + 2560 ≤ s.now then fail 3 s
    else s
  | none => s

/-- RCD_SELF_TEST_PHASE_END (R223). -/
def execRcdSelfTestPhaseEnd (n : Outlet8) (s : State) : Res := inSafety (testPhase n) s

/-- EV_OVERCURRENT: 500 consecutive cycles above the limit on a used phase (R225). -/
def execEvOvercurrent (n : Outlet8) (s : State) : Res :=
  inSafety (fun s => if (outOf s n).overRun.toList.any fun r => decide (500 ≤ r) then
      requestStop n .evOvercurrent (modOut n (fun o => { o with overRun := Vector.replicate 3 0 }) s)
    else s) s

/-! ### What a cycle end checks (R215, R216, R218, R225) -/

/-- Mean square of the feeder phase that SITE maps to an outlet's phase (R119, R215). -/
def feederV2 (s : State) (n : Outlet8) (p : Fin 3) : Rat :=
  match (s.nrg.cyc[8]).quant with
  | some q => q.v2[((s.nrg.phmap[n.val]).site[p.val]).val]
  | none => 0

/-- LOAD_VOLTAGE_CHECK (R215). -/
def loadCheck (n : Outlet8) (q : Quant) (s : State) : State :=
  let o := outOf s n
  match o.setTick with
  | some t =>
    if q.gtcEnd < t + 2560 then s
    else if !o.loadChecked then
      let bad := o.used.any fun p => decide (q.v2[p.val] * 100 < 64 * feederV2 s n p)
      modOut n (fun o => let o := { o with loadChecked := true }; if bad then o.fault .loadVoltage else o) s
    else
      let runs : Vector Nat 3 := Vector.ofFn fun p =>
        if o.used.contains p && decide (q.v2[p.val] * 4 < feederV2 s n p) && decide (1600 ≤ feederV2 s n p) then o.loadLow[p.val] + 1 else 0
      let bad := runs.toList.any fun r => decide (5 ≤ r)
      modOut n (fun o => let o := { o with loadLow := runs }; if bad then o.fault .contactorFb else o) s
  | none => s

/-- OPENING_CHECKS, the voltage part: the first cycle end at least 100 ms after the clearing (R216). -/
def openVoltCheck (n : Outlet8) (q : Quant) (s : State) : State :=
  let o := outOf s n
  match o.clrTick with
  | some t =>
    if o.chkVolt = .running ∧ t + 6400 ≤ q.gtcEnd then
      let ok := (allFin 3).all fun p => decide (q.v2[p.val] < 2500)
      modOut n (fun o' => ({ o' with chkVolt := if ok then .passed else .failed } : Outlet).checksPass o.opened) s
    else s
  | none => s

/-- Current above 1.1 × I_lim + 0.5 A, with I_lim the higher of now and 5 s earlier (R225). -/
def overCheck (q : Quant) (now : Nat) (o : Outlet) : Outlet :=
  let lim : Rat := (11 * (max o.iLim (o.limit5s now) : Nat) + 50 : Nat) / 100
  let sq := lim * lim
  { o with overRun := Vector.ofFn fun p => if o.used.contains p && decide (sq < q.i2[p.val]) then o.overRun[p.val] + 1 else 0,
           quietCycles := if (allFin 3).all (fun p => decide (q.v2[p.val] < 2500)) then o.quietCycles + 1 else 0 }

/-- The checks of the session at a cycle end of its outlet: foreground B finds the faults, and foreground A of the next tick takes the
rows and drives coil and lock (R48, R242; log 124). -/
def sessionCycle (n : Outlet8) (s : State) : State :=
  match (s.nrg.cyc[n.val]).quant with
  | some q => openVoltCheck n q (loadCheck n q (modOut n (overCheck q s.now) s))
  | none => s

/-- CYCLE_END (R130, with R117, R121, R131, R132, R215, R216, R218, R225). -/
def runCycleEnd (g : Group) (s : State) : Res :=
  .next (if (s.nrg.cyc[g.val]).due.isSome then
      let s := formCycle g s
      if h : g.val < 8 then sessionCycle ⟨g.val, h⟩ s else s
    else s)

/-! ### The tick (R48, R204) -/

/-- The inputs of one outlet in one tick: configuration, drive, pilot, proximity, lock, mirror, coil and residual
current (R233). -/
def outletInputs (n : Outlet8) (i : TickIn) (s : State) : State :=
  let now := s.now
  let rb := stageReadback s (i.coil.getD n.val { high := false, low := false, current := false })
  let s := modOut n (fun o =>
    let o := o.applyDrive now
    let o := o.samplePilot (i.cp.getD n.val 0) now
    let o := if now % 64 = 32 then o.samplePp (i.pp.getD n.val 0) else if o.caseT then { o with pp := 7 } else o
    let o := if now % 64 = 40 then o.sampleLock (i.lockHigh.getD n.val false) now else o
    if now % 64 = 48 then
      let closed := i.mirLow.getD n.val false == o.mirPol
      { o with mirLast := closed, mirRun := if closed = o.mirLast then o.mirRun + 1 else 1 }
    else o) s
  let s := tickReadback n rb s
  let s := modOut n (Outlet.preClose rb now) s
  tickResidual n s

/-- One outlet as foreground A begins: inputs and limit. -/
def outletTick (n : Outlet8) (i : TickIn) (s : State) : State := modOut n (Outlet.updateLimit s.now) (outletInputs n i s)

/-- Accepted writes to SES_OCFGn and SES_COILn take effect at the tick edge, before foreground A compares them (R194, R246). -/
def applyOutlets (s : State) : State := forFin 8 (fun n s => modOut n Outlet.applyCfg s) s

/-- The inputs of all outlets in foreground A; the state machine runs from the SES ready time (R210). -/
def sessionTick (i : TickIn) (s : State) : State :=
  if s.ses.started then forFin 8 (fun n s => outletTick n i s) s else s

/-- Snapshots at the end of foreground B: RTYPE 3 where billing froze at this start, RTYPE 1 in the tick of the first closing of a
session; and the values that an RTYPE 2 record may need later (R176, R206). -/
def startSnapshots (s : State) : State :=
  forFin 8 (fun n s =>
    let o := outOf s n
    let s := if (s.bill[n.val]).freezeDue then
        snapshot 3 n o.session (if o.session = 0 then 0 else o.authRef) none
          { s with bill := vmod s.bill n fun b => { b with freezeDue := false } }
      else s
    if o.setTick = some s.now ∧ o.session ≠ 0 ∧ o.record.isNone then
      snapshot 1 n o.session o.authRef none (modOut n (fun o => { o with record := some (o.session, o.authRef) }) s)
    else keepEndValues n s) s

/-- A session that a level-0 reset found open closes with RESTART; its RTYPE 2 snapshot is due (R176, R210). -/
def closeAtReset (n : Outlet8) (s : State) : State :=
  let o := outOf s n
  let s := markRecord n 0 s
  modOut n (fun o' => { o' with session := 0, authRef := 0, reason := if o.session ≠ 0 then .restart else o'.reason }) s

/-- The state machine begins at the SES ready time (R210). -/
def startSession (s : State) : State :=
  forFin 8 (fun n s =>
    let s := clearOut n s
    enter n (if unconfirmed s n then .disabled else .fault) none s) { s with ses := { s.ses with started := true } }

/-! ### Descriptors (R207, R226, R227) -/

/-- SES_AUTHORISE (R207, R221). -/
def sesAuthorise (f : Flight) (s : State) : State :=
  let n := f.outlet
  let o := outOf s n
  let accept := f.p 16 1
  let ref : W64 := BitVec.ofNat 64 (f.p 24 8)
  let no := f.p 32 8
  let lim := f.p 40 2
  if 1 < accept ∨ (lim ≠ 0 ∧ (lim < 60 ∨ 800 < lim)) then completeSt f .invalid s
  else if !iresOk s n ∨ 11 ≤ o.state.num then completeSt f .denied s
  else if o.state = .idle then
    if no ≠ 0 then completeSt f .conflict s
    else if s.ses.preauthS = 0 then completeSt f .denied s
    else if accept = 0 then complete f .ok 0 (leBytes 8 0) none (modOut n (fun o => { o with preAuth := none }) s)
    else
      let p : PreAuth := { authRef := ref, limit := lim, untilTick := s.now + 64000 * s.ses.preauthS }
      complete f .ok (b2n o.preAuth.isSome) (leBytes 8 0) none (modOut n (fun o => { o with preAuth := some p }) s)
  else if 5 ≤ o.state.num ∨ no ≠ o.session then completeSt f .conflict s
  else
    let s := modOut n (fun o =>
      if accept = 1 then { o with authed := true, denied := false, authRef := ref, iSes := if lim = 0 then none else some lim }
      else { o with authed := false, denied := true }) s
    complete f .ok 0 (leBytes 8 no) none s

/-- SES_AUTHORISE (R207). -/
def runSesAuthorise (s : State) : Res := .next (dispatch 0x0301 sesAuthorise s)

/-- SES_STOP (R226). -/
def sesStop (f : Flight) (s : State) : State :=
  let o := outOf s f.outlet
  if f.p 16 1 ≠ 2 then completeSt f .invalid s
  else if o.state.num = 0 ∨ 10 ≤ o.state.num then completeSt f .conflict s
  else complete f .ok 0 [BitVec.ofNat 8 o.state.num] none (requestStop f.outlet .hostStop s)

/-- SES_STOP (R226). -/
def runSesStop (s : State) : Res := .next (dispatch 0x0302 sesStop s)

/-- SES_LIMIT: it also replaces a limit given with the authorisation (R226, log 25). -/
def sesLimit (f : Flight) (s : State) : State :=
  let l := f.p 16 2
  if 800 < l ∧ l ≠ 0xFFFF then completeSt f .invalid s
  else
    let s := modOut f.outlet (fun o => ({ o with iHost := if l = 0xFFFF then none else some l, iSes := none } : Outlet).updateLimit s.now) s
    complete f .ok 0 (leBytes 2 (outOf s f.outlet).iLim) none s

/-- SES_LIMIT (R226). -/
def runSesLimit (s : State) : Res := .next (dispatch 0x0303 sesLimit s)

/-- SES_STATEn (R210). -/
def sesStateWord (s : State) (n : Outlet8) : Nat :=
  let o := outOf s n
  if !s.ses.started then 0
  else field 0 4 o.state.num + field 4 3 o.pilotCode + flag 7 o.drive.oscillates + field 8 3 o.pp + field 11 2 o.lockCode +
    flag 13 (o.mirror == some true) + flag 14 o.latchA + flag 15 o.latchB + field 16 8 o.reason.code + flag 24 o.authed +
    flag 25 o.preAuth.isSome + flag 26 o.testOk

/-- DUTY applied in per mille (R196). -/
def Drive.perMille : Drive → Nat
  | .plus => 1000
  | .minus => 0
  | .osc d => d

/-- SES_PILOTn (R210). -/
def sesPilotWord (s : State) (n : Outlet8) : Nat :=
  let o := outOf s n
  if !s.ses.started then 0
  else field 0 10 o.drive.perMille + field 12 9 (unsigned 9 o.pos) + field 21 9 (if o.drive.oscillates then unsigned 9 o.neg else 0)

/-- The 64 bytes of R227. -/
def sesBytes (s : State) (n : Outlet8) : List Byte :=
  let o := outOf s n
  let host := match o.iSes with | some l => l | none => o.iHost.getD 0xFFFF
  slice (leBytes 4 (sesStateWord s n) ++ leBytes 4 (sesPilotWord s n) ++ leBytes 8 o.session ++
    leBytes 8 (if o.session = 0 then 0 else o.authRef.toNat) ++ leBytes 2 o.iLim ++ leBytes 2 o.cableLimit ++ leBytes 2 host ++
    leBytes 2 o.iTok ++ leBytes 4 (unsigned 32 (microAmp o.iDc)) ++ leBytes 4 (roundSqrt (o.iAc2 * 1000000000000)) ++
    leBytes 2 (unsigned 16 (roundRat (o.baseline * 100000))) ++ [BitVec.ofNat 8 (substate s n), 0] ++ leBytes 6 o.entry) 0 64

/-- At the end of foreground A the bytes of SES_READ are kept (R227). -/
def keepSesRead (s : State) : State := { s with ses := { s.ses with readImg := Vector.ofFn fun n => sesBytes s n } }

/-- SES_READ: the values at the end of foreground A of the dispatch tick; STATE and REASON stand in bytes 0 and 2 of SES_STATEn (R210,
R227). -/
def sesRead (f : Flight) (s : State) : State :=
  let b := s.ses.readImg[f.outlet.val]
  complete f .ok 0 [BitVec.ofNat 8 (byteAt b 0 % 16), BitVec.ofNat 8 (byteAt b 2)] (some b) s

/-- SES_READ (R227). -/
def runSesRead (s : State) : Res := .next (dispatch 0x0304 sesRead s)

/-- SES_FAULT_CLEAR: accepted here, acted on in foreground A of the next tick, after which it completes with the state (R205, R218, R226,
logs 62, 156). -/
def sesFaultClear (f : Flight) (s : State) : State :=
  let n := f.outlet
  let o := outOf s n
  let accept := keepRunning f (modOut n (fun o => { o with clearReq := o.clearReq ++ [(s.now, f.seq)] }) s)
  if o.state = .fault then (if o.opened then accept else completeSt f .denied s)
  else if o.state = .welded then
    (if o.mirror = some false ∧ 50 ≤ o.quietCycles then accept else completeSt f .denied s)
  else completeSt f .conflict s

/-- SES_FAULT_CLEAR (R226). -/
def runSesFaultClear (s : State) : Res := .next (dispatch 0x0305 sesFaultClear s)

/-- SES_UNLOCK: its drive starts in foreground A of the next tick (R205); a tethered cable has no lock and completes at once; one
unlock waits at a time (R226, log 26). -/
def sesUnlock (f : Flight) (s : State) : State :=
  let n := f.outlet
  let o := outOf s n
  if !(o.state = .ended || (o.state = .fault && o.opened)) then completeSt f .denied s
  else if o.caseT then complete f .ok 0 [BitVec.ofNat 8 o.lockCode] none s
  else if o.unlockSeq.isSome then completeSt f .busy s
  else
    keepRunning f (modOut n (fun o => { o with unlockSeq := some f.seq, unlockAsk := some s.now }) s)

/-- SES_UNLOCK (R226). -/
def runSesUnlock (s : State) : Res := .next (dispatch 0x0306 sesUnlock s)

end Sys2Proof.Machine
end

