-- ==== Sys2Proof/Machine/Vlk.lean ====
section
/-! DEFINITION. The vehicle link (chapter 10): SLAC, connections, V2G requests, host decisions, certificates. -/

namespace Sys2Proof.Machine

/-! ### Links, mirrors and what they show -/

/-- Changes the link of an outlet. -/
def modLink (n : Outlet8) (f : Link → Link) (s : State) : State :=
  { s with vlk := { s.vlk with link := vmod s.vlk.link n f } }

/-- Changes the MSD mirror of an outlet (R270). -/
def modMirror (n : Outlet8) (f : Mirror → Mirror) (s : State) : State :=
  { s with vlk := { s.vlk with mirror := vmod s.vlk.mirror n f } }

/-- VLK_CFG as the outlet took it at its entry into CONNECTED (R282). -/
def vcfg (s : State) (n : Outlet8) : Nat := (s.vlk.outCfg[n.val]).1.toNat

/-- The MAC address of an outlet: of its Green PHY station, and of its IPv6 layer (R256). -/
def stationMac (s : State) (n : Outlet8) : W48 := s.vlk.macBase + BitVec.ofNat 48 n.val

/-- The IPv6 link-local address of a MAC address, by modified EUI-64: fe80::/64, and the address with its universal bit inverted and
FF FE in its middle (R260). -/
def linkLocal (m : W48) : BitVec 128 :=
  BitVec.ofNat 128 (0xFE80 * 2 ^ 112 + Nat.xor (m.toNat / 2 ^ 24) 0x020000 * 2 ^ 40 + 0xFFFE * 2 ^ 24 + m.toNat % 2 ^ 24)

/-- A SLAC message, which carries no IPv6 packet. -/
def VlkOut.isSlac : VlkOut → Bool
  | .parmCnf _ | .attenChar _ _ | .matchCnf _ _ | .validateCnf => true
  | _ => false

/-- Something is sent on the pilot line of an outlet, with its addresses as source (R256, R260). -/
def say (n : Outlet8) (o : VlkOut) (s : State) : State :=
  let m := stationMac s n
  emit (.vlk n m (if o.isSlac then none else some (linkLocal m)) o) s

/-- V2GTP frames of the handshake, of DIN SPEC 70121 and of ISO 15118-2 have one payload type; those of ISO 15118-20 are the general ones
but for the two AC messages (R261). -/
def payloadType (l : Link) (ac : Bool) : PayloadType :=
  if l.phase = .idle ∨ l.proto ≠ 3 then .exi else if ac then .ac20 else .main20

/-- A message of the A8 in its V2GTP frame, version 0x01 (R261); the AC messages of ISO 15118-20 are AC_ChargeParameterDiscoveryRes and
AC_ChargeLoopRes. -/
def sendAs (ac : Bool) (n : Outlet8) (m : V2gMsg) (s : State) : State := say n (.v2gtp 0x01 (payloadType (linkOf s n) ac) m) s

/-- A message that is no AC message. -/
def sayV2g (n : Outlet8) (m : V2gMsg) (s : State) : State := sendAs false n m s

/-- VLK_LINKn (R282). -/
def vlkLinkWord (s : State) (n : Outlet8) : Nat :=
  if s.isReady 5 then field 0 3 (linkOf s n).slac + field 4 8 (linkBits s n) + field 16 8 (linkOf s n).atten else 0

/-- VLK_STATUS (R282). -/
def vlkStatusWord (s : State) : Nat :=
  if s.isReady 5 then
    flag 0 s.vlk.cfgReject + field 8 8 (maskOf ((allFin 8).map fun n => (mirrorOf s n).matched)) +
      field 16 8 (maskOf ((allFin 8).map fun n => (linkOf s n).hasSession)) + field 24 5 s.vlk.open_.length
  else flag 0 s.vlk.cfgReject

/-- VLK_LINK (R284). -/
def postLink (n : Outlet8) (cause : Nat) (mac : W48) (s : State) : State :=
  postMail 0x0501 n.val ([BitVec.ofNat 8 cause] ++ leBytes 6 mac.toNat ++ [BitVec.ofNat 8 (linkOf s n).atten]) s

/-- VLK_SESSION (R284). -/
def postV2g (n : Outlet8) (cause endCause : Nat) (s : State) : State :=
  let l := linkOf s n
  postMail 0x0502 n.val ([BitVec.ofNat 8 cause, BitVec.ofNat 8 l.proto, BitVec.ofNat 8 (linkBits s n), BitVec.ofNat 8 endCause] ++
    leBytes 8 l.sessionId.toNat) s

/-- After each change, what the mirror holds of the dialogue (R270); while a V2G session waits for its vehicle to rejoin, the mirror stands
as it is (R281). -/
def keepMirror (n : Outlet8) (s : State) : State :=
  let l := linkOf s n
  if l.resumeUntil.isSome then s
  else modMirror n (fun m => { m with proto := l.proto, tls := l.tls, tls13 := l.tls13, pnc := l.pnc, bpt := l.bpt, ev := l.ev, evccidAsked := l.evccidAsked,
                                      sessionId := if l.v2g then l.sessionId else 0 }) s

/-- What a link takes back from the mirror (R281, R282). -/
def Link.fromMirror (m : Mirror) (l : Link) : Link :=
  { l with proto := m.proto, tls := m.tls, tls13 := m.tls13, pnc := m.pnc, bpt := m.bpt, atten := m.atten, mac := m.mac, ev := m.ev,
           evccidAsked := m.evccidAsked, sessionId := m.sessionId }

/-! ### Limits (R271) -/

/-- U: the mean RMS, in whole volts, of the valid feeder phases that SITE maps to the used phases; a phase is valid from 40 V. -/
def feederVolts (s : State) (n : Outlet8) : Nat :=
  let vs := (outOf s n).used.filterMap fun p =>
    let v2 := feederV2 s n p
    if 1600 ≤ v2 then some (isqrt (v2 * 1000000000000).floor.toNat) else none
  if vs.isEmpty then (if s.adc.nomF60 then 120 else 230) else vs.foldl (· + ·) 0 / vs.length / 1000000

/-- Seconds since the schedule came into force. -/
def schedSeconds (s : State) (n : Outlet8) : Nat := (s.now - (mirrorOf s n).schedTick) / 64000

/-- Index of the period in force (R275). -/
def periodIndex (s : State) (n : Outlet8) : Nat :=
  ((mirrorOf s n).schedule.filter fun p => decide (p.start ≤ schedSeconds s n)).length - 1

/-- IMAX of the period in force, 0xFFFF for none. -/
def imaxNow (s : State) (n : Outlet8) : Nat :=
  match (mirrorOf s n).schedule[periodIndex s n]? with
  | some p => p.imax.getD 0xFFFF
  | none => 0xFFFF

/-- I_v = min(IMAX, I_lim), in 0.1 A (R271). -/
def iVehicle (s : State) (n : Outlet8) : Nat := min (imaxNow s n) (outOf s n).iLim

/-- Power in W of a current in 0.1 A on the used phases. -/
def watts (s : State) (n : Outlet8) (i : Nat) : Nat := i * feederVolts s n * (outOf s n).used.length / 10

/-- PMax of every period (R271). -/
def pMax (s : State) (n : Outlet8) : List Nat :=
  let o := outOf s n
  (mirrorOf s n).schedule.map fun p => watts s n (min (p.imax.getD 0xFFFF) (min (10 * o.rating) o.cableLimit))

/-- Discharge power of every period under AC_BPT; tokens do not limit it (R271). -/
def pDischarge (s : State) (n : Outlet8) : List Nat :=
  let o := outOf s n
  let host := match o.iSes with | some l => l | none => o.iHost.getD 0xFFFF
  (mirrorOf s n).schedule.map fun p => watts s n (min p.dmax (min (10 * o.rating) (min o.cableLimit host)))

/-- Rank of each period's price among the distinct prices, 1 the cheapest (R275). -/
def priceRanks (ps : List Period) : List Nat :=
  let prices := ps.map fun p => p.price.getD 0
  prices.map fun x => ((prices.filter fun y => decide (y < x)).dedup).length + 1

/-! ### Release and the end of a V2G session (R268, R269, R280) -/

/-- The vehicle link releases an outlet, or a V2G session that ends before the first closing takes it back to basic mode. -/
def release (n : Outlet8) (digital : Bool) (s : State) : State :=
  let m := mirrorOf s n
  if (outOf s n).modeFixed ∨ (m.released ∧ m.digital = digital) ∨ (outOf s n).session = 0 then s
  else postV2g n 3 0 (modMirror n (fun m => { m with released := true, digital := digital }) s)

/-- The dialogue above SLAC is gone; a V2G session that waits to be rejoined goes on waiting, as the mirror shows it (R281). -/
def Link.closed (m : Mirror) (l : Link) : Link :=
  let l' : Link := { slac := l.slac, atten := l.atten, runId := l.runId, mac := l.mac, ev := l.ev, evccidAsked := l.evccidAsked,
                     lastReq := l.lastReq, resumeUntil := l.resumeUntil }
  if l.resumeUntil.isSome then l'.fromMirror m else l'

/-- The connection of an outlet is closed. -/
def closeLink (n : Outlet8) (s : State) : State := keepMirror n (modLink n (Link.closed (mirrorOf s n)) (dropTls n s))

/-- The V2G session of an outlet ends (R280): a stop request, or release in basic mode before the first closing. Without a V2G session
only the connection goes. -/
def endV2g (n : Outlet8) (cause : Nat) (s : State) : State :=
  if (linkOf s n).v2g then
    let s := closeLink n (postV2g n 1 cause s)
    if (outOf s n).modeFixed then
      (if cause = 1 then modOut n (fun o => { o with stopDone := true }) s
       else modOut n (fun o => { o with stopDone := true }) (requestStop n .vlink s))
    else if cause = 1 then s else release n false s
  else closeLink n s

/-- The A8 closes the connection with an end cause (R261, R266). -/
def closeWith (n : Outlet8) (cause : Nat) (s : State) : State :=
  if (linkOf s n).tcp then endV2g n cause (say n .tcpClose s) else s

/-- An answer, with the notifications that are due: renegotiation in the next one after VLK_RENEGOTIATE, stop while the outlet stops
(R277, R278). -/
def answerAs (ac : Bool) (n : Outlet8) (r : V2gRes) (s : State) : State :=
  let stop := decide ((outOf s n).state = .stopping) && digitalMode s n
  modLink n (fun l => { l with reneg := false }) (sendAs ac n (.answer r (linkOf s n).reneg stop) s)

/-- An answer that is no AC message. -/
def answer (n : Outlet8) (r : V2gRes) (s : State) : State := answerAs false n r s

/-- I_v goes out in the form of the protocol, and the mirror keeps it (R270, R271): EVSEMaxCurrent, EVSEMaximumChargePower (Scheduled) or
EVSETargetActivePower (Dynamic). -/
def sendLimit (n : Outlet8) (s : State) : State :=
  let i := iVehicle s n
  let l := linkOf s n
  let m : V2gMsg := if l.proto ≠ 3 then .maxCurrent i else if l.ev.dynamic then .targetPower (watts s n i) else .maxPower (watts s n i)
  modMirror n (fun m => { m with iV := i }) (sendAs true n m s)

/-- FAILED_SequenceError, then the connection closes with cause 4 (R266). -/
def sequenceFail (n : Outlet8) (s : State) : State := closeWith n 4 (answer n .sequenceError s)

/-- FAILED, then as for a sequence error (R264, R267). -/
def failClose (n : Outlet8) (s : State) : State := closeWith n 4 (answer n .failed s)

/-- The vehicle link serves an outlet: it is ready. -/
def vlkUp (act : State → State) (s : State) : State := if s.isReady 5 then act s else s

/-! ### SLAC (R257 to R259) -/

/-- An outlet answers CM_SLAC_PARM.REQ (R257). -/
def slacEligible (s : State) (n : Outlet8) : Bool :=
  let o := outOf s n
  o.hlc && (bitAt (vcfg s n) 1 || bitAt (vcfg s n) 2) && decide (1 ≤ o.state.num ∧ o.state.num ≤ 7) && !(mirrorOf s n).matched

/-- CM_SLAC_PARM_REQ (R257). -/
def execCmSlacParmReq (n : Outlet8) (vmac : W48) (runId : W64) (s : State) : Res :=
  .next (vlkUp (fun s =>
    if slacEligible s n then
      say n (.parmCnf runId) (modLink n (fun l => { l with slac := 2, mac := vmac, runId := runId, atten := 0 }) s)
    else s) s)

/-- SLAC_SOUNDING: an outlet answers unless another one heard the RunID at least 6 dB better (R258). -/
def slacSounding (runId : W64) (atten : List (Option Nat)) (s : State) : State :=
  let heard (n : Outlet8) : Option Nat := atten.getD n.val none
  forFin 8 (fun n s =>
    match heard n with
    | some a =>
      let better := (allFin 8).any fun m => decide (m ≠ n) && (match heard m with | some b => decide (b + 6 ≤ a) | none => false)
      if (linkOf s n).slac = 2 ∧ (linkOf s n).runId = runId ∧ !better then
        say n (.attenChar runId a) (modLink n (fun l => { l with slac := 3, atten := a }) s)
      else s
    | none => s) s

/-- SLAC_SOUNDING (R258). -/
def execSlacSounding (runId : W64) (atten : List (Option Nat)) (s : State) : Res := .next (vlkUp (slacSounding runId atten) s)

/-- SLAC fails on an outlet (R259, R268). -/
def slacFail (n : Outlet8) (s : State) : State :=
  let mac := (linkOf s n).mac
  release n false (postLink n 1 mac (modLink n (fun l => { l with slac := 5, runId := 0 }) s))

/-- CM_SLAC_MATCH_REQ: the match with a new random NMK and NID; every other outlet in the same matching has failed (R259). In the new
network the outlet begins with duplicate address detection (R260, log 159). -/
def slacMatch (n : Outlet8) (vmac : W48) (runId : W64) (s : State) : State :=
  let same (s : State) (m : Outlet8) : Bool :=
    decide ((linkOf s m).runId = runId) && decide ((linkOf s m).mac = vmac) && decide ((linkOf s m).slac = 2 ∨ (linkOf s m).slac = 3)
  let s := forFin 8 (fun m s => if m ≠ n ∧ same s m then slacFail m s else s) s
  if same s n ∧ (linkOf s n).slac = 3 then
    let (nmk, s) := freeBytes 16 s
    let (nid, s) := freeBytes 7 s
    let s := say n (.matchCnf nid nmk) (modLink n (fun l => { l with slac := 4 }) s)
    let s := postLink n 0 vmac (modMirror n (fun m => { m with matched := true, mac := vmac, nmk := nmk, nid := nid,
                                                               atten := (linkOf s n).atten }) s)
    say n (.dad (linkLocal (stationMac s n))) s
  else s

/-- CM_SLAC_MATCH_REQ (R259). -/
def execCmSlacMatchReq (n : Outlet8) (vmac : W48) (runId : W64) (s : State) : Res := .next (vlkUp (slacMatch n vmac runId) s)

/-- CM_VALIDATE_REQ: answered "not required" (R259). -/
def execCmValidateReq (n : Outlet8) (s : State) : Res :=
  .next (vlkUp (say n .validateCnf) s)

/-- SLAC_TIMEOUT (R259). -/
def execSlacTimeout (n : Outlet8) (s : State) : Res :=
  .next (vlkUp (fun s => if (linkOf s n).slac = 2 ∨ (linkOf s n).slac = 3 then slacFail n s else s) s)

/-- SLAC_WAIT_TIMEOUT (R268). -/
def execSlacWaitTimeout (n : Outlet8) (s : State) : Res :=
  .next (vlkUp (fun s =>
    let o := outOf s n
    let due := o.connTick + 64000 * (s.vlk.outCfg[n.val]).2 ≤ s.now
    if o.session ≠ 0 ∧ o.hlc ∧ (linkOf s n).slac = 1 ∧ !(mirrorOf s n).released ∧ due then release n false (postLink n 2 0 s) else s) s)

/-! ### SDP and TCP (R260 to R262) -/

/-- TLS can be offered: the SECC chain is loaded and slot 1 holds a usable key (R262). -/
def tlsAvail (s : State) : Bool :=
  (slotCheck 1 0 s).isNone && match derCerts 3 s.vlk.secc with
    | some (c :: _) => decide (c.key = (s.key.slot[1]).rec_.pub)
    | _ => false

/-- The trust roots of an outlet: inside a TLS connection those of its handshake, which a later VLK_CERT_WRITE does not change (R283). -/
def trustRoots (s : State) (n : Outlet8) : Vector (List Byte) 8 := if (linkOf s n).tls then (linkOf s n).handRoots else s.vlk.roots

/-- Contract payment is offered where TLS is in use or, before a connection, where it can be; a key or a chain that changes later does not
affect a connection that is open (R265, R394). -/
def contractOffered (s : State) (n : Outlet8) : Bool :=
  bitAt (vcfg s n) 3 && !s.clk.unsynced && (trustRoots s n).toList.any (fun r => !r.isEmpty) && ((linkOf s n).tls || tlsAvail s)

/-- A connection of this outlet can only carry ISO 15118-2 or DIN SPEC 70121 without contract payment (R262). -/
def plainOnly (s : State) (n : Outlet8) : Bool := !(bitAt (vcfg s n) 2 && tlsAvail s) && !contractOffered s n

/-- The security chosen for a vehicle that asks, or does not ask, for TLS: none where the A8 can offer nothing (R262). -/
def security (s : State) (n : Outlet8) (ask : Bool) : Option Bool :=
  let plain := bitAt (vcfg s n) 4
  if tlsAvail s then some (ask || !(plain && plainOnly s n)) else if plain then some false else none

/-- SDP_REQUEST: answered on a matched outlet with its address, its port and the security chosen (R260). -/
def execSdpRequest (n : Outlet8) (tls : Bool) (s : State) : Res :=
  .next (vlkUp (fun s =>
    if (mirrorOf s n).matched then
      match security s n tls with
      | some t => say n (.sdp (linkLocal (stationMac s n)) (60000 + n.val) t) (modLink n (fun l => { l with sdpTls := t }) s)
      | none => s
    else s) s)

/-- The TLS version that a ClientHello and the profiles of R262 have in common, the newer one first: with one cipher suite each and
ECDHE on secp256r1. What else the hello asks for is ignored: every handshake is a full one. -/
def tlsChoice (h : TlsHello) : Option Bool :=
  if h.p256 ∧ h.tls13 ∧ h.suites.contains .aes128GcmSha256 then some true
  else if h.p256 ∧ h.tls12 ∧ h.suites.contains .ecdheEcdsaAes128CbcSha256 then some false
  else none

/-- The signature of a handshake with slot 1 is a long operation, which waits where the queue is full (R262, R400). -/
def requestTls (n : Outlet8) (s : State) : State :=
  if longCount s < 32 then requestLong .tls 77 (.tls n) [1] s
  else { s with vlk := { s.vlk with tlsWait := s.vlk.tlsWait ++ [n] } }

/-- Waiting handshakes take the places that are free, after waiting snapshots (R400). -/
def queueTls : Nat → State → State
  | 0, s => s
  | k + 1, s =>
    match s.vlk.tlsWait with
    | [] => s
    | n :: t =>
      if longCount s < 32 then queueTls k (requestLong .tls 77 (.tls n) [1] { s with vlk := { s.vlk with tlsWait := t } }) else s

/-- A handshake fails: the connection goes (R280). -/
def tlsFail (n : Outlet8) (s : State) : State :=
  if (linkOf s n).hand.isSome then endV2g n 2 (say n .tcpClose s) else s

/-- The signature of a handshake has been computed, over a digest of its transcript that the model leaves free: TLS is up (R262, R401).
Without a usable key in slot 1 the handshake fails (R393); where no candidate gives a signature it is asked for anew (log 46). -/
def tlsDone (n : Outlet8) (s : State) : State :=
  match (linkOf s n).hand with
  | none => s
  | some v13 =>
    if s.key.rngFail || (slotCheck 1 0 s).isSome then tlsFail n s
    else
      let (digest, s) := freeBytes 32 s
      let (sig, s) := signDigest (beNat (s.key.slot[1]).rec_.secret) digest s
      match sig with
      | none => requestTls n s
      | some sig =>
        keepMirror n (say n (.tlsUp v13 (linkOf s n).handSecc sig) (modLink n (fun l => { l with hand := none, tls := true, tls13 := v13 }) s))

/-- A slot that a handshake waits for has been destroyed (R398): the handshake fails, unless another one has begun since. -/
def tlsAbort (n : Outlet8) (s : State) : State :=
  let other := s.vlk.tlsWait.contains n || (s.key.queue ++ s.key.done).any fun o => !o.dropped && decide (o.req = .tls n)
  if other then s else tlsFail n s

/-- TCP_CONNECT: one connection at a time; plain or TLS by what SDP answered and what the vehicle brings (R261, R262). -/
def tcpConnect (n : Outlet8) (ask : TlsAsk) (s : State) : State :=
  let l := linkOf s n
  let asks := match ask with | .none => false | .hello _ => true
  if !(mirrorOf s n).matched then s
  else if l.tcp then say n .tcpRefuse s
  else match security s n (l.sdpTls || asks), ask with
    | some true, .hello h =>
      match tlsChoice h with
      | some v13 =>
        let l' : Link := { l with tcp := true, hand := some v13, clientCert := v13 && h.clientCert,
                                  openTick := s.now, handSecc := s.vlk.secc, handRoots := s.vlk.roots }
        requestTls n (say n .tcpAccept (modLink n (fun _ => l') s))
      | none => say n .tcpRefuse s
    | some false, .none =>
      let l' : Link := { l with tcp := true, tls := false, tls13 := false, openTick := s.now }
      keepMirror n (say n .tcpAccept (modLink n (fun _ => l') s))
    | _, _ => say n .tcpRefuse s

/-- TCP_CONNECT (R261). -/
def execTcpConnect (n : Outlet8) (ask : TlsAsk) (s : State) : Res := .next (vlkUp (tcpConnect n ask) s)

/-- V2GTP_FRAME: a payload above 8,192 bytes, whatever the frame's version and payload type, ends the session without a response (R261).
A shorter frame of another version, or of a payload type that is not in use, is no message: it is dropped (log 160). What a good frame
carries comes as its own command. -/
def execV2gtpFrame (n : Outlet8) (f : V2gtpHeader) (s : State) : Res :=
  .next (vlkUp (fun s => if 8192 < f.len then closeWith n 4 s else s) s)

/-- TCP_CONNECTION_LOST (R280). -/
def execTcpConnectionLost (n : Outlet8) (s : State) : Res :=
  .next (vlkUp (fun s => if (linkOf s n).tcp then endV2g n 2 s else s) s)

/-- V2G_IDLE_TIMEOUT: 60 s without a request (R280). -/
def execV2gIdleTimeout (n : Outlet8) (s : State) : Res :=
  .next (vlkUp (fun s => if (linkOf s n).v2g ∧ max (linkOf s n).lastReq (linkOf s n).openTick + 3840000 ≤ s.now then closeWith n 3 s else s) s)

/-! ### Decisions (R272 to R274) -/

/-- The request as VLK_DECISION_WAIT writes it (R273). -/
def Decision.bytes (d : Decision) : List Byte :=
  leBytes 4 d.reqId ++ [BitVec.ofNat 8 d.kind, BitVec.ofNat 8 d.outlet.val, BitVec.ofNat 8 d.proto, d.flags] ++ leBytes 8 d.session ++
    leBytes 6 d.deadline ++ leBytes 2 d.body.length ++ leBytes 8 0 ++ slice d.fields 0 32 ++ d.body

/-- A waiting VLK_DECISION_WAIT completes with a request (R272, R283). -/
def deliver (seq : Nat) (d : Decision) (s : State) : State :=
  let open_ := s.vlk.open_.map fun e => if e.reqId = d.reqId then { e with delivered := true } else e
  let data := leBytes 4 d.reqId ++ [BitVec.ofNat 8 d.kind, BitVec.ofNat 8 d.outlet.val] ++ leBytes 2 d.body.length
  completeSeq seq .ok 0 data (some d.bytes) { s with vlk := { s.vlk with open_ := open_ } }

/-- VLK_DECIDE (R284). -/
def postDecide (d : Decision) (why verdict : Nat) (s : State) : State :=
  postMail 0x0503 d.outlet.val (leBytes 4 d.reqId ++ [BitVec.ofNat 8 d.kind, BitVec.ofNat 8 why, BitVec.ofNat 8 verdict]) s

/-- An accept has the effect of SES_AUTHORISE with ACCEPT = 1 (R207, R275). -/
def authAccept (d : Decision) (ref : W64) (limit : Nat) (s : State) : State :=
  let o := outOf s d.outlet
  if o.session = d.session ∧ 1 ≤ o.state.num ∧ o.state.num ≤ 4 ∧ !o.authed ∧ iresOk s d.outlet then
    modOut d.outlet (fun o => { o with authed := true, denied := false, authRef := ref, iSes := if limit = 0 then none else some limit }) s
  else s

/-- A deny of a contract is a denial (R204, R275). -/
def authDeny (d : Decision) (s : State) : State :=
  let o := outOf s d.outlet
  if o.session = d.session ∧ 1 ≤ o.state.num ∧ o.state.num ≤ 4 ∧ !o.authed then modOut d.outlet (fun o => { o with denied := true }) s else s

/-- The V2G session that needed a decision is still the one of its outlet: only then the decision does something to it. -/
def forSession (d : Decision) (act : State → State) (s : State) : State :=
  let l := linkOf s d.outlet
  if l.v2g ∧ l.sessionId = d.sid ∧ (outOf s d.outlet).session = d.session then act s else s

/-- A schedule comes into force (R270, R275). -/
def setSchedule (d : Decision) (ps : List Period) (currency : List Byte) (s : State) : State :=
  forSession d (fun s => modLink d.outlet (fun l => { l with schedReady := true })
    (modMirror d.outlet (fun m => { m with schedule := ps, currency := currency, schedTick := s.now }) s)) s

/-- The request is a renegotiation: byte 51 of the kind fields (R273). -/
def Decision.reneg (d : Decision) : Bool := decide (byteAt d.fields 19 = 1)

/-- The contract hash of an AUTH request with ID_TYPE 0. -/
def Decision.isContract (d : Decision) : Bool := decide (d.kind = 1) && decide (byteAt d.fields 0 = 0)

/-- The default of a decision and its verdict (R274). -/
def applyDefault (d : Decision) (s : State) : Nat × State :=
  if d.kind = 1 then
    if d.isContract then
      let (hit, s) := listLookup 4 16 (slice d.body 0 16) s
      match hit with
      | some _ => (1, authAccept d (BitVec.ofNat 64 (beAt d.body 0 8)) 0 s)
      | none => (0, authDeny d s)
    else (0, s)
  else if d.kind = 2 then
    if d.reneg then (1, forSession d (modLink d.outlet (fun l => { l with schedReady := true })) s)
    else (1, setSchedule d [{ start := 0, imax := none, dmax := 0, price := none }] [] s)
  else (0, forSession d (answer d.outlet .noCertificate) s)

/-- A decision is needed: it is queued and delivered or announced, or, with 16 open, takes its default at once (R272). -/
def needDecision (n : Outlet8) (kind seconds : Nat) (fields body : List Byte) (s : State) : State :=
  let l := linkOf s n
  let d : Decision := { reqId := s.vlk.nextReq, kind := kind, outlet := n, proto := l.proto,
                        flags := BitVec.ofNat 8 (flag 0 l.tls + flag 1 l.bpt), session := (outOf s n).session, sid := l.sessionId,
                        deadline := s.now + 64000 * seconds, fields := slice fields 0 32, body := body }
  let s := { s with vlk := { s.vlk with nextReq := s.vlk.nextReq + 1 } }
  if 16 ≤ s.vlk.open_.length then
    let (v, s) := applyDefault d s
    postDecide d 2 v { s with vlk := { s.vlk with defaulted := d.reqId :: s.vlk.defaulted } }
  else
    let s := { s with vlk := { s.vlk with open_ := s.vlk.open_ ++ [d] } }
    match s.vlk.waits with
    | (seq, _) :: rest => deliver seq d { s with vlk := { s.vlk with waits := rest } }
    | [] => postDecide d 0 0 s

/-- DECISION_DEADLINE (R274). -/
def decisionDeadline (reqId : W32) (s : State) : State :=
  match s.vlk.open_.find? fun d => d.reqId == reqId.toNat with
  | some d =>
    if d.deadline ≤ s.now then
      let s := { s with vlk := { s.vlk with open_ := s.vlk.open_.filter (fun e => e.reqId != d.reqId),
                                            defaulted := d.reqId :: s.vlk.defaulted } }
      let (v, s) := applyDefault d s
      postDecide d 1 v s
    else s
  | none => s

/-- DECISION_DEADLINE (R274). -/
def execDecisionDeadline (reqId : W32) (s : State) : Res := .next (vlkUp (decisionDeadline reqId) s)

/-- DECISION_WAIT_TIMEOUT (R272). -/
def decisionWaitTimeout (s : State) : State :=
  match s.vlk.waits.find? fun w => decide (w.2 ≤ s.now) with
  | some w => completeSeq w.1 .timeout 0 [] none { s with vlk := { s.vlk with waits := s.vlk.waits.filter (fun x => x.1 != w.1) } }
  | none => s

/-- DECISION_WAIT_TIMEOUT (R272). -/
def execDecisionWaitTimeout (s : State) : Res := .next (vlkUp decisionWaitTimeout s)

/-! ### Requests of the vehicle (R263 to R267) -/

/-- A request of the vehicle arrives (R280): nothing without a connection, or before its TLS is up. -/
def request (n : Outlet8) (act : State → State) (s : State) : State :=
  vlkUp (fun s =>
    let l := linkOf s n
    if l.tcp ∧ l.hand = none then
      let s := modLink n (fun l => { l with lastReq := s.now }) s
      if l.dinDone then failClose n s else act s
    else s) s

/-- A request that needs a V2G session (R266). -/
def inSession (n : Outlet8) (act : State → State) (s : State) : State :=
  request n (fun s => if (linkOf s n).v2g then act s else sequenceFail n s) s

/-- A request has its place in the sequence (R266). -/
def inPhase (n : Outlet8) (ok : List V2gPhase) (act : State → State) (s : State) : State :=
  if ok.contains (linkOf s n).phase then act s else sequenceFail n s

/-- The dialogue goes on. -/
def goPhase (n : Outlet8) (p : V2gPhase) (s : State) : State := modLink n (fun l => { l with phase := p }) s

/-- Number of an application protocol (R273). -/
def protoNum : Proto → Nat
  | .din => 1 | .iso2 => 2 | .iso20 => 3

/-- An offered namespace is enabled, with its major version and any minor one (R263, R262). -/
def offerOk (s : State) (n : Outlet8) (o : AppOffer) : Bool :=
  let c := vcfg s n
  match o.proto with
  | .din => bitAt c 0 && decide (o.major = 2)
  | .iso2 => bitAt c 1 && decide (o.major = 2)
  | .iso20 => bitAt c 2 && decide (o.major = 1) && (linkOf s n).tls13 && (linkOf s n).clientCert

/-- The offer of the best priority. -/
def bestOffer : List AppOffer → Option AppOffer
  | [] => none
  | o :: t => match bestOffer t with
    | some b => if b.priority < o.priority then some b else some o
    | none => some o

/-- SUPPORTED_APP_PROTOCOL_REQ: a higher minor version than 0, the listed one, is accepted with minor deviation (R263, R268). -/
def appProtocol (n : Outlet8) (offers : List AppOffer) (s : State) : State :=
  inPhase n [.idle] (fun s =>
    match bestOffer (offers.filter (offerOk s n)) with
    | some o =>
      let s := sayV2g n (.appProtocol (some (protoNum o.proto)) (decide (0 < o.minor))) s
      keepMirror n (modLink n (fun l => { l with proto := protoNum o.proto, phase := .agreed }) s)
    | none => release n false (sayV2g n (.appProtocol none false) s)) s

/-- SUPPORTED_APP_PROTOCOL_REQ (R263). -/
def execSupportedAppProtocolReq (n : Outlet8) (offers : List AppOffer) (s : State) : Res := .next (request n (appProtocol n offers) s)

/-- Bytes of a MAC-sized identifier in a request buffer or an event (R13). -/
def macBytes (m : W48) : List Byte := leBytes 6 m.toNat

/-- A V2G session that has not been rejoined ends with a stop request and no stop exchange (R281). -/
def notRejoined (n : Outlet8) (s : State) : State :=
  let m := mirrorOf s n
  let s := postMail 0x0502 n.val ([1, BitVec.ofNat 8 m.proto, BitVec.ofNat 8 (linkBits s n), 5] ++ leBytes 8 m.sessionId.toNat) s
  let s := closeLink n (modLink n (fun l => { l with resumeUntil := none }) s)
  modOut n (fun o => { o with stopDone := true }) (requestStop n .vlink s)

/-- An EVCCID authorisation is asked for, once per session (R273). -/
def askEvccid (n : Outlet8) (s : State) : State :=
  let l := linkOf s n
  if bitAt (vcfg s n) 5 ∧ !l.evccidAsked then
    needDecision n 1 s.vlk.authDl ([1] ++ macBytes l.ev.evccid) []
      (modMirror n (fun m => { m with evccidAsked := true }) (modLink n (fun l => { l with evccidAsked := true }) s))
  else s

/-- The vehicle rejoins (R281): authorisation and schedule stand; what is still to be decided is asked for again. -/
def rejoin (n : Outlet8) (evccid : W48) (s : State) : State :=
  let m := mirrorOf s n
  let s := modLink n (fun l =>
    let l := l.fromMirror { m with proto := l.proto, tls := l.tls, tls13 := l.tls13 }
    { l with v2g := true, phase := .setup, ev := { l.ev with evccid := evccid }, resumeUntil := none,
             schedReady := !m.schedule.isEmpty, agreedOnce := !m.schedule.isEmpty }) s
  let s := postV2g n 2 0 (answer n .okJoined (keepMirror n s))
  if (outOf s n).authed then s else askEvccid n s

/-- SESSION_SETUP_REQ: a refusal once the mode is fixed, a rejoin, or a new session (R264, R269, R273, R281). -/
def sessionSetup (n : Outlet8) (sid : W64) (evccid : W48) (s : State) : State :=
  let l := linkOf s n
  if (outOf s n).modeFixed ∧ l.resumeUntil = none then answer n .failed s
  else inPhase n [.agreed] (fun s =>
    if l.resumeUntil.isSome then
      if sid = (mirrorOf s n).sessionId then rejoin n evccid s else notRejoined n (answer n .failed s)
    else
      let (id, s) := freeBytes 8 s
      let s := modLink n (fun l => { l with v2g := true, sessionId := BitVec.ofNat 64 (beNat id), phase := .setup,
                                            ev := { l.ev with evccid := evccid }, dinDone := decide (l.proto = 1) }) s
      let s := sayV2g n (.sessionId (linkOf s n).sessionId) (answer n .okNew (keepMirror n s))
      askEvccid n (postV2g n 0 0 s)) s

/-- SESSION_SETUP_REQ (R281). -/
def execSessionSetupReq (n : Outlet8) (sessionId : W64) (evccid : W48) (s : State) : Res :=
  .next (request n (sessionSetup n sessionId evccid) s)

/-- The loaded root that signed a certificate (R265). -/
def rootOf (s : State) (n : Outlet8) (c : CertView) : Option (Fin 8) :=
  (allFin 8).find? fun r => match derCerts 1 ((trustRoots s n)[r.val]) with
    | some [t] => ecdsaVerify t.key (sha256 c.tbs) c.sig
    | _ => false

/-- A contract chain verifies, and the root it chains to (R265): 1 to 4 certificates, each signed with the key of the next and the last
with that of a loaded root, and each valid at the RTC time. -/
def chainOk (s : State) (n : Outlet8) (c : ContractChain) : Option (Fin 8) :=
  if 4 < c.certs.length then none
  else
    let views := c.certs.mapM fun b => match derCerts 1 b with | some [v] => some v | _ => none
    match views with
    | some vs =>
      let valid := vs.all fun v => decide (v.validFrom ≤ (s.clk.sec : Int) ∧ (s.clk.sec : Int) ≤ v.validTo)
      match vs.getLast? with
      | some top => if chainLinks vs ∧ valid then rootOf s n top else none
      | none => none
    | none => none

/-- PAYMENT_DETAILS_REQ: the contract chain of ISO 15118-2, or the one that ISO 15118-20 carries in Authorization (R265). -/
def paymentDetails (n : Outlet8) (c : ContractChain) (s : State) : State :=
  let l := linkOf s n
  let allowed := if l.proto = 2 then l.pnc && decide (l.phase = .payment) else contractOffered s n && l.tls && decide (l.phase = .authSetup)
  if !allowed then sequenceFail n s
  else match chainOk s n c with
    | some r =>
      let hash := sha256 (c.certs.headD [])
      keepMirror n (answer n .ok (modLink n (fun l => { l with pnc := true, phase := if l.proto = 2 then .details else l.phase,
                                                               contract := some (r.val, hash, c.emaid) }) s))
    | none => answer n .certError (modLink n (fun l => { l with contract := none }) s)

/-- PAYMENT_DETAILS_REQ (R265). -/
def execPaymentDetailsReq (n : Outlet8) (c : ContractChain) (s : State) : Res := .next (inSession n (paymentDetails n c) s)

/-- An open request of a kind that the present session of an outlet waits for. -/
def openReq (s : State) (n : Outlet8) (p : Decision → Bool) : Bool :=
  s.vlk.open_.any fun d => decide (d.outlet = n ∧ d.session = (outOf s n).session ∧ d.sid = (linkOf s n).sessionId) && p d

/-- The answer to an authorization request by where the session stands. -/
def authAnswer (n : Outlet8) (s : State) : State :=
  let o := outOf s n
  if o.denied then answer n .failed s
  else if o.authed then answer n .finished (goPhase n .authorised s)
  else answer n .ongoing (goPhase n .authorise s)

/-- Where an authorization request has its place: after PaymentDetails or the payment selection in ISO 15118-2, after AuthorizationSetup in
ISO 15118-20 (R266, log 75). -/
def authPhases (l : Link) (contract : Bool) : List V2gPhase :=
  if l.proto = 3 then [.authSetup, .authorise]
  else if contract then (if l.pnc then [.details, .authorise] else [])
  else if l.pnc then [] else [.payment, .authorise]

/-- AUTHORIZATION_REQ: a verified contract is asked for once; otherwise the session waits for its authorisation (R273). -/
def authorization (n : Outlet8) (contract : Bool) (s : State) : State :=
  let l := linkOf s n
  let o := outOf s n
  inPhase n (authPhases l contract) (fun s =>
    if contract then
      match l.contract with
      | none => sequenceFail n s
      | some (root, hash, emaid) =>
        if o.authed ∨ o.denied ∨ openReq s n Decision.isContract then authAnswer n s
        else authAnswer n (needDecision n 1 s.vlk.authDl ([0] ++ macBytes l.ev.evccid ++ [BitVec.ofNat 8 root]) (hash ++ emaid) s)
    else authAnswer n s) s

/-- AUTHORIZATION_REQ (R273). -/
def execAuthorizationReq (n : Outlet8) (contract : Bool) (s : State) : Res := .next (inSession n (authorization n contract) s)

/-- Kind fields of a SCHEDULE request (R273). -/
def schedFields (s : State) (n : Outlet8) (p : Vehicle) (reneg : Bool) : List Byte :=
  leBytes 2 p.evMax ++ leBytes 2 p.evMin ++ leBytes 4 p.energyWh ++ leBytes 8 p.departure ++ leBytes 2 p.evMaxDis ++
    [BitVec.ofNat 8 (b2n p.dynamic), BitVec.ofNat 8 (b2n reneg)] ++ leBytes 2 (outOf s n).iLim

/-- The tariff goes out where every period carries a price (R275). -/
def sendTariff (n : Outlet8) (s : State) : State :=
  let m := mirrorOf s n
  if m.schedule.all fun p => p.price.isSome then
    sayV2g n (if (linkOf s n).proto = 2 then .salesTariff (priceRanks m.schedule)
      else .priceSchedule m.currency (m.schedule.map fun p => (p.start, p.price.getD 0))) s
  else s

/-- The limits that go with the end of a parameter exchange (R271): PMax of each period and EVSEMaxCurrent under ISO 15118-2, the power of
each schedule entry under Scheduled control, and discharge powers under AC_BPT. -/
def sendSchedule (n : Outlet8) (s : State) : State :=
  let l := linkOf s n
  let s := if l.proto = 3 ∧ l.ev.dynamic then s else sayV2g n (.pMax (pMax s n)) s
  let s := if l.bpt then sayV2g n (.discharge (pDischarge s n)) s else s
  sendTariff n (if l.proto = 3 then s else sendLimit n s)

/-- The parameter exchange ends Finished: limits, tariff, and release in digital mode (R268, R271). -/
def schedFinished (n : Outlet8) (s : State) : State :=
  let s := sendSchedule n (answer n .finished s)
  release n true (modLink n (fun l => { l with schedReady := false, agreedOnce := true, phase := .ready }) s)

/-- What a parameter exchange says of the vehicle: currents stand in AC_ChargeParameterDiscovery where ISO 15118-20 is in use (R263). -/
def takeVehicle (p : EvParams) (l : Link) : Link :=
  let ev : Vehicle := { l.ev with energyWh := p.energyWh, departure := p.departure, dynamic := p.dynamic }
  { l with ev := if l.proto = 3 then ev else { ev with evMax := p.evMax, evMin := p.evMin, evMaxDis := p.evMaxDischarge } }

/-- A parameter exchange is answered Ongoing; under ISO 15118-2 that response too carries EVSEMaxCurrent (R271). -/
def exchangeOngoing (n : Outlet8) (s : State) : State :=
  let s := answer n .ongoing s
  if (linkOf s n).proto = 3 then s else sendLimit n s

/-- CHARGE_PARAMETER_DISCOVERY_REQ of ISO 15118-2, or ScheduleExchangeReq of ISO 15118-20 (R273). Where the host has denied a schedule, it
is answered FAILED (R275). -/
def chargeParameters (n : Outlet8) (p : EvParams) (s : State) : State :=
  inPhase n (if (linkOf s n).proto = 3 then [.schedule, .renegotiate] else [.authorised, .schedule, .renegotiate]) (fun s =>
    let s := keepMirror n (modLink n (fun l => { takeVehicle p l with phase := .schedule }) s)
    let l := linkOf s n
    let s := if l.schedReady ∨ l.schedDenied ∨ openReq s n fun d => decide (d.kind = 2) then s
      else needDecision n 2 s.vlk.schedDl (schedFields s n l.ev l.agreedOnce) [] s
    if (linkOf s n).schedDenied then answer n .failed s
    else if (linkOf s n).schedReady then schedFinished n s
    else exchangeOngoing n s) s

/-- CHARGE_PARAMETER_DISCOVERY_REQ (R273): before the session is authorised it is out of sequence. -/
def execChargeParameterDiscoveryReq (n : Outlet8) (p : EvParams) (s : State) : Res :=
  .next (inSession n (fun s => if (outOf s n).authed then chargeParameters n p s else sequenceFail n s) s)

/-- Where a certificate request has its place (R266, log 75). -/
def certPhases (l : Link) (update : Bool) : List V2gPhase :=
  if l.proto = 2 then (if l.pnc then [.payment] else []) else if update then [] else [.authSetup]

/-- CERTIFICATE_INSTALLATION_REQ and its update; the vehicle waits (R266, R273). -/
def execCertificateInstallationReq (n : Outlet8) (update : Bool) (body : List Byte) (s : State) : Res :=
  .next (inSession n (fun s =>
    inPhase n (certPhases (linkOf s n) update) (fun s =>
      if 8192 < body.length ∨ openReq s n (fun d => decide (d.kind = 3)) then sequenceFail n s
      else needDecision n 3 s.vlk.certDl [BitVec.ofNat 8 (b2n update)] body s) s) s)

/-- CHARGING_STATUS_REQ or AC_ChargeLoopReq: the limit of this moment, and the discharge power of the period in force (R271). -/
def chargingStatus (n : Outlet8) (s : State) : State :=
  inPhase n [.charging] (fun s =>
    let s := sendLimit n (answerAs true n .ok s)
    if (linkOf s n).bpt then sendAs true n (.discharge (((pDischarge s n).drop (periodIndex s n)).take 1)) s else s) s

/-- CHARGING_STATUS_REQ (R271). -/
def execChargingStatusReq (n : Outlet8) (s : State) : Res := .next (inSession n (chargingStatus n) s)

/-- SESSION_STOP_REQ: the end of a stop exchange, or the vehicle's own stop (R263, R278, R279). -/
def sessionStop (n : Outlet8) (pause : Bool) (s : State) : State :=
  if pause ∧ (linkOf s n).proto = 3 then sequenceFail n s
  else
    let s := answer n .ok s
    if (outOf s n).state = .stopping then endV2g n 1 (say n .tcpClose s)
    else requestStop n .vlink (endV2g n 0 (say n .tcpClose s))

/-- SESSION_STOP_REQ (R279). -/
def execSessionStopReq (n : Outlet8) (pause : Bool) (s : State) : Res := .next (inSession n (sessionStop n pause) s)

/-- The services, options and payment choices offered, and power delivery (R263, R265), each in its place of the sequence (R266). -/
def v2gOther (n : Outlet8) (k : V2gKind) (s : State) : State :=
  let l := linkOf s n
  let contract := contractOffered s n && l.tls
  let bptOn := bitAt (vcfg s n) 6
  match k, l.proto with
  | .serviceDiscovery, 2 =>
    inPhase n [.setup] (fun s => sayV2g n (.phases (decide (1 < (outOf s n).used.length)))
      (sayV2g n (.contracts contract) (answer n .ok (goPhase n .services s)))) s
  | .serviceDiscovery, 3 => inPhase n [.authorised] (fun s => sayV2g n (.services bptOn) (answer n .ok (goPhase n .services s))) s
  | .serviceDetail v, 2 => if v = 2 then inPhase n [.services] (answer n .ok) s else sequenceFail n s
  | .serviceDetail v, 3 =>
    if v = 1 ∨ (v = 5 ∧ bptOn) then
      inPhase n [.services] (fun s => sayV2g n (.service v 1 (decide (v = 5)) (decide (v = 5))) (answer n .ok s)) s
    else sequenceFail n s
  | .serviceSelection bpt, 3 =>
    if bpt ∧ !bptOn then sequenceFail n s
    else inPhase n [.services] (fun s => keepMirror n (answer n .ok (modLink n (fun l => { l with bpt := bpt, phase := .params }) s))) s
  | .paymentServiceSelection c, 2 =>
    if c ∧ !contract then sequenceFail n s
    else inPhase n [.services] (fun s => keepMirror n (answer n .ok (modLink n (fun l => { l with pnc := c, phase := .payment }) s))) s
  | .authorizationSetup, 3 => inPhase n [.setup] (fun s => sayV2g n (.contracts contract) (answer n .ok (goPhase n .authSetup s))) s
  | .acChargeParameters mx mn dis, 3 =>
    inPhase n [.params] (fun s =>
      let s := modLink n (fun l => { l with ev := { l.ev with evMax := mx, evMin := mn, evMaxDis := dis } }) (answerAs true n .ok s)
      keepMirror n (goPhase n .schedule s)) s
  | .powerDeliveryStart, 2 | .powerDeliveryStart, 3 => inPhase n [.ready] (fun s => answer n .ok (goPhase n .charging s)) s
  | .powerDeliveryRenegotiate, 2 | .powerDeliveryRenegotiate, 3 =>
    inPhase n [.charging] (fun s => answer n .ok (goPhase n .renegotiate s)) s
  | .powerDeliveryStop, 2 | .powerDeliveryStop, 3 => inPhase n [.ready, .charging] (fun s => answer n .ok (goPhase n .stopped s)) s
  | _, _ => sequenceFail n s

/-- V2G_REQUEST (R266); a message that does not decode is answered FAILED in any place, and the connection closed (R267). -/
def execV2gRequest (n : Outlet8) (k : V2gKind) (s : State) : Res :=
  .next (if k = .undecodable then request n (failClose n) s else inSession n (v2gOther n k) s)

/-- RESUME_TIMEOUT (R281). -/
def execResumeTimeout (n : Outlet8) (s : State) : Res :=
  .next (vlkUp (fun s => match (linkOf s n).resumeUntil with
    | some t => if t ≤ s.now then notRejoined n s else s
    | none => s) s)

/-- When VLK sets, links are rebuilt from the mirrors, and a V2G session waits for its vehicle (R281, R282). -/
def restoreLinks (s : State) : State :=
  forFin 8 (fun n s =>
    let m := mirrorOf s n
    let o := outOf s n
    if o.session = 0 then s
    else modLink n (fun l => { l.fromMirror m with
      slac := if m.matched then 4 else if o.hlc then 1 else 0
      resumeUntil := if m.sessionId ≠ 0 then some (s.now + 64000 * (s.vlk.outResume[n.val])) else none }) s) s

/-! ### Descriptors (R275 to R277, R283) -/

/-- VLK_DECISION_WAIT (R272, R283). -/
def vlkDecisionWait (f : Flight) (s : State) : State :=
  let ms := f.p 16 2
  if ms < 10 ∨ 60000 < ms then completeSt f .invalid s
  else if !s.hif.run then completeSt f .timeout s
  else match s.vlk.open_.find? fun d => !d.delivered with
    | some d => deliver f.seq d s
    | none => keepRunning f { s with vlk := { s.vlk with waits := s.vlk.waits ++ [(f.seq, s.now + 64 * ms)] } }

/-- VLK_DECISION_WAIT (R272). -/
def runVlkDecisionWait (s : State) : Res := .next (dispatch 0x0503 vlkDecisionWait s)

/-- Period k of a schedule buffer (R275). -/
def periodAt (b : List Byte) (k : Nat) : Period :=
  let o := 8 + 12 * k
  let im := leAt b (o + 4) 2
  let pr := leAt b (o + 8) 4
  { start := leAt b o 4, imax := if im = 0xFFFF then none else some im, dmax := leAt b (o + 6) 2,
    price := if pr = 0xFFFFFFFF then none else some pr }

/-- START_S rises strictly. -/
def rising : List Period → Bool
  | a :: b :: t => decide (a.start < b.start) && rising (b :: t)
  | _ => true

/-- The schedule in a buffer, none where it is out of range or format (R275). -/
def parseSchedule (b : List Byte) (bpt : Bool) : Option (List Period) :=
  let n := byteAt b 0
  let ps := (List.range n).map (periodAt b)
  let ok := decide (1 ≤ n ∧ n ≤ 24) && decide (b.length = 8 + 12 * n) && decide (byteAt b 1 = 0) &&
    (slice b 2 3).all (fun c => decide (65 ≤ c.toNat ∧ c.toNat ≤ 90)) && decide (leAt b 5 3 = 0) &&
    ps.all (fun p => decide (p.start < 86400) && decide (p.imax.getD 0 ≤ 800) && decide (p.dmax ≤ (if bpt then 800 else 0))) &&
    rising ps && (ps.take 1).all (fun p => decide (p.start = 0))
  if ok then some ps else none

/-- The parameters and the buffer of an answer are in range and format (R275). -/
def answerForm (f : Flight) (bpt : Bool) : Bool :=
  let kind := f.p 20 1
  let v := f.p 21 1
  let lim := f.p 32 2
  decide (v ≤ 1) && decide (f.p 22 2 = 0) &&
  (match kind with
   | 1 => decide (f.bufLen = 0) && decide (lim = 0 ∨ (60 ≤ lim ∧ lim ≤ 800))
   | 2 => decide (f.p 24 8 = 0 ∧ lim = 0) && (if v = 1 then (parseSchedule f.inBuf bpt).isSome else decide (f.bufLen = 0))
   | 3 => decide (f.p 24 8 = 0 ∧ lim = 0) && (if v = 1 then decide (1 ≤ f.bufLen) else decide (f.bufLen = 0))
   | _ => false)

/-- The effect of an accepted answer and its DETAIL (R275, R349). -/
def answerAuth (d : Decision) (v : Nat) (ref : W64) (lim : Nat) (s : State) : Nat × State :=
  if (outOf s d.outlet).authed then (1, s)
  else if v = 1 then
    let s := authAccept d ref lim s
    (0, if d.isContract then learnContract d.body lim s else s)
  else (0, if d.isContract then authDeny d s else s)

/-- VLK_DECISION_ANSWER (R275, R276). Whether a CERT element decodes under the session's schema is left to the standards' schemas,
which the manual does not hold: the model draws it. -/
def vlkDecisionAnswer (f : Flight) (s : State) : State :=
  let id := f.p 16 4
  let kind := f.p 20 1
  let v := f.p 21 1
  let found := s.vlk.open_.find? fun d => d.reqId == id
  let bpt := match found with | some d => d.flags.getLsbD 1 | none => true
  let data := leBytes 4 id
  if !answerForm f bpt then complete f .invalid 0 data none s
  else if s.vlk.defaulted.contains id then complete f .timeout 0 data none s
  else match found with
    | none => complete f .conflict 0 data none s
    | some d =>
      let drop (s : State) : State := { s with vlk := { s.vlk with open_ := s.vlk.open_.filter fun e => e.reqId != id } }
      if d.kind ≠ kind then complete f .conflict 0 data none s
      else if kind = 1 then
        let (detail, s) := answerAuth d v (BitVec.ofNat 64 (f.p 24 8)) (f.p 32 2) (drop s)
        complete f .ok detail data none s
      else if kind = 2 then
        if v = 1 then complete f .ok 0 data none (setSchedule d ((parseSchedule f.inBuf bpt).getD []) (slice f.inBuf 2 3) (drop s))
        else complete f .ok 0 data none (forSession d (fun s => requestStop d.outlet .vlink (modLink d.outlet (fun l => { l with schedDenied := true }) s)) (drop s))
      else if v = 0 then complete f .ok 0 data none (forSession d (answer d.outlet .noCertificate) (drop s))
      else
        let (good, s) := drawBool s
        if good then complete f .ok 0 data none (forSession d (sayV2g d.outlet (.element (linkOf s d.outlet).sessionId f.inBuf)) (drop s))
        else complete f .integrity 0 data none s

/-- VLK_DECISION_ANSWER (R275). -/
def runVlkDecisionAnswer (s : State) : Res := .next (dispatch 0x0504 vlkDecisionAnswer s)

/-- VLK_RENEGOTIATE (R277). -/
def vlkRenegotiate (f : Flight) (s : State) : State :=
  let n := f.outlet
  if (linkOf s n).v2g ∧ digitalMode s n ∧ (outOf s n).state = .charging then completeSt f .ok (modLink n (fun l => { l with reneg := true }) s)
  else completeSt f .conflict s

/-- VLK_RENEGOTIATE (R277). -/
def runVlkRenegotiate (s : State) : Res := .next (dispatch 0x0505 vlkRenegotiate s)

/-- The 64 bytes of VLK_SESSION_READ (R283). -/
def vlkSessionBytes (s : State) (n : Outlet8) : List Byte :=
  let l := linkOf s n
  let m := mirrorOf s n
  slice (macBytes l.ev.evccid ++ macBytes m.mac ++ [BitVec.ofNat 8 l.proto, BitVec.ofNat 8 (linkBits s n)] ++ leBytes 2 (iVehicle s n) ++
    leBytes 8 l.sessionId.toNat ++ leBytes 2 l.ev.evMax ++ leBytes 2 l.ev.evMin ++ leBytes 4 l.ev.energyWh ++ leBytes 8 l.ev.departure ++
    [BitVec.ofNat 8 (periodIndex s n), BitVec.ofNat 8 m.schedule.length] ++ leBytes 6 l.lastReq) 0 64

/-- VLK_SESSION_READ (R283). -/
def runVlkSessionRead (s : State) : Res :=
  .next (dispatch 0x0506 (fun f s => complete f .ok 0 [BitVec.ofNat 8 (linkOf s f.outlet).proto] (some (vlkSessionBytes s f.outlet)) s) s)

/-- VLK_CERT_WRITE (R283). -/
def vlkCertWrite (f : Flight) (s : State) : State :=
  let which := f.p 16 1
  let idx : Fin 8 := Fin.ofNat 8 (f.p 17 1)
  let done (s : State) : State := complete f .ok 0 (leBytes 2 f.bufLen) none s
  if which = 1 then
    if 8 ≤ f.p 17 1 ∨ 2048 < f.bufLen then completeSt f .invalid s
    else if f.bufLen = 0 then done { s with vlk := { s.vlk with roots := s.vlk.roots.set idx.val [] } }
    else if (derCerts 1 f.inBuf).isNone then completeSt f .invalid s
    else done { s with vlk := { s.vlk with roots := s.vlk.roots.set idx.val f.inBuf } }
  else if which = 0 ∧ f.p 17 1 = 0 then
    match derCerts 3 f.inBuf with
    | some (c :: cs) =>
      if c.key ≠ (s.key.slot[1]).rec_.pub then completeSt f .conflict s
      else if !chainLinks (c :: cs) then completeSt f .integrity s
      else done { s with vlk := { s.vlk with secc := f.inBuf } }
    | _ => completeSt f .invalid s
  else completeSt f .invalid s

/-- VLK_CERT_WRITE (R283). -/
def runVlkCertWrite (s : State) : Res := .next (dispatch 0x0501 vlkCertWrite s)

/-- VLK_CERT_READ: a buffer shorter than the certificate completes INVALID with the length (R283). -/
def vlkCertRead (f : Flight) (s : State) : State :=
  let which := f.p 16 1
  let i := f.p 17 1
  if 1 < which ∨ 8 ≤ i ∨ (which = 0 ∧ i ≠ 0) then completeSt f .invalid s
  else
    let b := if which = 0 then s.vlk.secc else (s.vlk.roots.toList.getD i [])
    if f.bufLen < b.length then complete f .invalid 0 (leBytes 2 b.length) none s
    else complete f .ok 0 (leBytes 2 b.length) (some b) s

/-- VLK_CERT_READ (R283). -/
def runVlkCertRead (s : State) : Res := .next (dispatch 0x0502 vlkCertRead s)

/-- A VLK_CFG write (R282). -/
def writeVlkCfg (v : Nat) (s : State) : State :=
  let w := bitsOf v 8 6
  if 5 ≤ w ∧ w ≤ 50 then { s with vlk := { s.vlk with cfg := BitVec.ofNat 7 v, slacWaitS := w } }
  else { s with vlk := { s.vlk with cfgReject := true } }

/-- A VLK_TIMING write (R282). -/
def writeVlkTiming (v : Nat) (s : State) : State :=
  let a := bitsOf v 0 6
  let c := bitsOf v 8 6
  let d := bitsOf v 16 3
  let r := bitsOf v 24 6
  if 1 ≤ a ∧ a ≤ 55 ∧ 1 ≤ c ∧ c ≤ 55 ∧ 1 ≤ d ∧ d ≤ 4 ∧ 5 ≤ r ∧ r ≤ 60 then
    { s with vlk := { s.vlk with authDl := a, schedDl := c, certDl := d, resumeS := r } }
  else { s with vlk := { s.vlk with cfgReject := true } }

end Sys2Proof.Machine
end

