-- ==== Sys2Proof/Machine/Wire.lean ====
section
/-! DEFINITION. The big-endian bytes of what goes out on the backbone and on path A (R13, R296, R302, R303, R316, R317, R328, R329).

A body that the manual lays out byte by byte has its image here; of one of which it gives only the contents the image stays open (log
164). -/

namespace Sys2Proof.Machine

/-- The 28 bytes of a frame header (R316). -/
def headerBytes (h : Header) : List Byte :=
  let flags := flag 0 h.gw + flag 1 h.retry + field 2 2 h.depth + field 4 2 h.rate
  let body := beBytes 4 h.dfn.toNat ++ beBytes 8 h.coord.toNat ++ beBytes 4 h.domain.toNat ++
    [h.uOwner, BitVec.ofNat 8 h.uRole, h.target, BitVec.ofNat 8 flags, h.tmap, 0, 0, 0]
  body ++ beBytes 4 (crc32c body)

/-- A container: TYPE, SLOT, LEN and the content (R317). -/
def containerBytes (type : Nat) (slot : Byte) (body : List Byte) : List Byte :=
  [BitVec.ofNat 8 type, slot] ++ beBytes 2 body.length ++ body

/-- The 32 bytes of a token message (R296). -/
def tokBytes (mtype : Nat) (m : TokMsg) : List Byte :=
  [BitVec.ofNat 8 mtype, BitVec.ofNat 8 m.phase.val] ++ beBytes 2 m.count ++ beBytes 8 m.sender.toNat ++ beBytes 8 m.receiver.toNat ++
    beBytes 4 m.xid.toNat ++ beBytes 4 m.deadline.toNat ++ [BitVec.ofNat 8 m.result, 0, 0, 0]

/-- The ledger digest and the release entries that follow it (R302, R303). -/
def digestBytes (d : Digest) (rel : List Release) : List Byte :=
  beBytes 4 d.dfn.toNat ++ beBytes 4 d.budgetEd.toNat ++ d.budget.flatMap (beBytes 2) ++ d.lsum.flatMap (beBytes 2) ++
    [BitVec.ofNat 8 d.members, BitVec.ofNat 8 d.absent, 0, 0] ++ beBytes 4 d.lcrc.toNat ++ [BitVec.ofNat 8 rel.length, 0, 0, 0] ++
    rel.flatMap fun r => beBytes 8 r.sender.toNat ++ beBytes 4 r.closed.toNat

/-- An uplink envelope (R329). -/
def envelopeBytes (e : Envelope) : List Byte :=
  [1, BitVec.ofNat 8 e.kind, BitVec.ofNat 8 e.path, BitVec.ofNat 8 (b2n e.dual)] ++ beBytes 8 e.serial.toNat ++ beBytes 2 e.epoch.toNat ++
    beBytes 2 e.payload.length ++ beBytes 4 e.seq.toNat ++ beBytes 4 e.ack.toNat ++ e.payload

/-- TYPE of what travels in a container (R317). -/
def BkbOut.type : BkbOut → Option Nat
  | .tok _ _ => some 1
  | .digest _ _ => some 2
  | .envelope _ | .fragment _ _ _ => some 3
  | .piece _ _ _ => some 4
  | .survey _ => some 5
  | .arq _ => some 6
  | .joinRequest _ _ _ | .joinAnswer _ _ => some 7
  | .report _ | .lacking _ => some 8
  | .header _ _ | .sounding | .budget _ _ | .relayed _ _ _ | .segment _ _ => none

/-- Numbers of a join answer. -/
def joinNum : JoinReply → Nat
  | .slot k => k.val | .refused => 64 | .retired => 65

/-- What a content without a layout has to carry (R300, R320, R323, R324, R327). -/
def BkbOut.numbers : BkbOut → List Nat
  | .piece id i d => id.toNat :: i :: d.map (·.toNat)
  | .survey ls => ls.flatMap fun l => l.src.val :: l.dst.val :: l.bps :: l.map
  | .arq m => m
  | .joinRequest serial count _ => [serial.toNat, count.toNat]
  | .joinAnswer serial r => [serial.toNat, joinNum r]
  | .report r => r.serial.toNat :: r.held ++ r.transit ++ r.doubt ++
      r.xfers.flatMap (fun x => [x.xid.toNat, x.receiver.toNat, x.phase.val, x.state, x.count, x.deadline.toNat]) ++
      r.wants.flatMap (fun w => w.want :: w.entry :: w.phases.map (·.val)) ++ r.senders.map (·.toNat) ++ r.budgetEd.toNat :: r.budget
  | .lacking n => [n]
  | _ => []

/-- Content of a container: by the manual's layout, else open (R317). -/
def BkbOut.body : BkbOut → List Byte
  | .tok mtype m => tokBytes mtype m
  | .digest d rel => digestBytes d rel
  | .envelope e => envelopeBytes e
  | .fragment part count data => beBytes 2 part ++ beBytes 2 count ++ data
  | o => Config.containerBody (o.type.getD 0) o.numbers

/-- What a transmission holds: the header itself, what a relay forwards, or a container (R316, R317, R322). -/
def BkbOut.bytes (slot : Byte) (o : BkbOut) : List Byte :=
  match o with
  | .header h _ => headerBytes h
  | .relayed _ _ data => data
  | o => match o.type with
    | some t => containerBytes t slot o.body
    | none => []

/-- Something goes out on the power line: to a slot in D, from a slot in U, 0xFF to every node (R317). -/
def cryTo (slot : Byte) (o : BkbOut) (s : State) : State := emit (.bkb o (o.bytes slot)) s

/-- Something goes out on the power line to every node. -/
def cry (o : BkbOut) (s : State) : State := cryTo 0xFF o s

/-- A container waits for space in D (R317). -/
def queueD (slot : Byte) (o : BkbOut) (s : State) : State := { s with bkb := { s.bkb with dQueue := s.bkb.dQueue ++ [(slot, o)] } }

/-- The Ethernet frame around an envelope on path A: gateway and own MAC, the VLAN tag where one is set, EtherType 0x88B5 (R328, R329). -/
def etherBytes (s : State) (pay : List Byte) : List Byte :=
  beBytes 6 s.upl.gw.toNat ++ beBytes 6 (s.vlk.macBase + 8).toNat ++ (if s.bkb.vlanEn then [0x81, 0] ++ beBytes 2 s.bkb.vid else []) ++
    [0x88, 0xB5] ++ pay

/-- An envelope leaves on path A (R329). -/
def sendEther (e : Envelope) (s : State) : State := emit (.envelope e (etherBytes s (envelopeBytes e))) s

end Sys2Proof.Machine
end

