-- ==== Sys2Proof/Machine/Sct.lean ====
section
/-! DEFINITION. Site current sharing (chapter 11): the token agent, the transfer protocol, the coordinator's ledger, sharing, the
budget and retirement. -/

namespace Sys2Proof.Machine

/-! ### Counts (R286, R287) -/

/-- Changes the tokens. -/
def modTok (f : Tokens → Tokens) (s : State) : State := { s with sct := { s.sct with tok := f s.sct.tok } }

/-- ASSIGNED of a site phase. -/
def Tokens.assignedOn (t : Tokens) (p : Fin 3) : Nat := (t.assigned.toList.map fun v => v[p.val]).sum

/-- COOLING of a site phase. -/
def Tokens.coolingOn (t : Tokens) (p : Fin 3) : Nat := ((t.cooling.filter fun c => decide (c.phase = p)).map fun c => c.count).sum

/-- HELD of a site phase. -/
def Tokens.held (t : Tokens) (p : Fin 3) : Nat := t.assignedOn p + t.coolingOn p + t.spare[p.val]

/-- TRANSIT of a site phase. -/
def Tokens.transit (t : Tokens) (p : Fin 3) : Nat :=
  ((t.xfers.filter fun x => decide (x.phase = p ∧ x.state ≠ .inDoubt)).map fun x => x.count).sum

/-- DOUBT of a site phase, with the transfers taken over (R307). -/
def Tokens.doubt (t : Tokens) (p : Fin 3) : Nat :=
  ((t.xfers.filter fun x => decide (x.phase = p ∧ x.state = .inDoubt)).map fun x => x.count).sum +
    ((t.taken.filter fun x => decide (x.phase = p)).map fun x => x.count).sum

/-- Adds to SPARE. -/
def addSpare (p : Fin 3) (n : Nat) (t : Tokens) : Tokens := { t with spare := vmod t.spare p (· + n) }

/-- Takes from SPARE. -/
def subSpare (p : Fin 3) (n : Nat) (t : Tokens) : Tokens := { t with spare := vmod t.spare p (· - n) }

/-- Every change is written to MRAM in three copies with a new commit sequence, before the message that follows from it (R297). -/
def persistTokens (s : State) : State :=
  let img := (s.sct.seq + 1, s.sct.tok)
  { s with sct := { s.sct with seq := s.sct.seq + 1, prev := s.sct.copies[0].image, copies := Vector.replicate 3 { image := img } } }

/-- A change of the tokens that is persisted. -/
def putTok (f : Tokens → Tokens) (s : State) : State := persistTokens (modTok f s)

/-- SCT_INTEGRITY (R311). -/
def postSctIntegrity (k : Nat) (s : State) : State := postMail 0x0604 0xFF [BitVec.ofNat 8 k] s

/-- COOLING at a start: GTC begins anew, and with it the 5 s (R45, R290; log 162). -/
def Tokens.coolAnew (now : Tick) (t : Tokens) : Tokens :=
  { t with cooling := t.cooling.map fun c => { c with untilTick := now + 320000 } }

/-- At a level-0 start the tokens are reconciled by steps 1 to 4 of R144; without a winner the node is in LEDGER_DOUBT, and it stays so
until the holdings are taken back (R297). -/
def reconcileTokens (s : State) : State :=
  match reconcile (fun i : Nat × Tokens => i.1) (fun _ => false) s.sct.copies with
  | some (w, _) =>
    { s with sct := { s.sct with tok := w.2.coolAnew s.now, seq := w.1, copies := Vector.replicate 3 { image := w }, prev := w, ledgerDoubt := w.2.lost } }
  | none =>
    postSctIntegrity 0 { s with sct := { s.sct with tok := { lost := true }, ledgerDoubt := true } }

/-- A node in LEDGER_DOUBT takes its holdings back, as free tokens (R297). -/
def takeBack (held : Vector Nat 3) (s : State) : State :=
  if s.sct.ledgerDoubt then
    postSctIntegrity 1 (putTok (fun t => { t with spare := held, lost := false }) { s with sct := { s.sct with ledgerDoubt := false } })
  else s

/-! ### The agent (R289 to R293) -/

/-- Site phases on which an outlet uses current (R119, R289). -/
def sites (s : State) (n : Outlet8) : List (Fin 3) :=
  ((outOf s n).used.map fun p => (s.nrg.phmap[n.val]).site[p.val]).dedup

/-- Tokens of an outlet: equal on its site phases (R289). -/
def tokensOf (s : State) (n : Outlet8) : Nat :=
  match sites s n with
  | [] => 0
  | p :: ps => ps.foldl (fun m q => min m ((s.sct.tok.assigned[n.val])[q.val])) ((s.sct.tok.assigned[n.val])[p.val])

/-- The want of an outlet per used phase (R291). -/
def want (s : State) (n : Outlet8) : Nat :=
  let o := outOf s n
  let host := match o.iSes with | some l => l | none => o.iHost.getD 0xFFFF
  let base := min (min (10 * o.rating) o.cableLimit) host
  let base := if digitalMode s n then min base (mirrorOf s n).ev.evMax else base
  let peak := ((s.sct.peaks[n.val]).foldl max 0 + 99) / 100 + 20
  let w :=
    if 4 ≤ o.state.num ∧ o.state.num ≤ 7 then
      if o.state = .charging ∧ !digitalMode s n ∧ o.entry + 3840000 ≤ s.now then max 60 (min base peak) else base
    else if o.state = .stopping ∨ o.state = .opening then tokensOf s n
    else 0
  if 1 ≤ w ∧ w < 60 then 60 else w

/-- Highest phase cycle RMS of each second of the last 60 s, in mA, while charging (R291). -/
def tickPeaks (s : State) : State :=
  let peaks := Vector.ofFn fun (n : Outlet8) =>
    let o := outOf s n
    let l := s.sct.peaks[n.val]
    let cur := match (s.nrg.cyc[n.val]).quant with | some q => (o.used.map fun p => (q.i[p.val]).toNat).foldl max 0 | none => 0
    if o.state ≠ .charging then []
    else if (s.now - o.entry) % 64000 = 0 ∨ l.isEmpty then (cur :: l).take 60
    else match l with
      | a :: t => max a cur :: t
      | [] => [cur]
  { s with sct := { s.sct with peaks := peaks } }

/-- The agent takes d tokens per site phase from an outlet: through cooling, or at once where both coil latches are clear (R290). -/
def takeTokens (n : Outlet8) (d : Nat) (s : State) : State :=
  if d = 0 then s
  else
    let o := outOf s n
    let warm := o.latchA || o.latchB
    let until_ := s.now + 320000
    (sites s n).foldl (fun s p => modTok (fun t =>
      let t := { t with assigned := vmod t.assigned n fun v => vmod v p (· - d) }
      if warm then { t with cooling := t.cooling ++ [{ phase := p, count := d, untilTick := until_ }] } else addSpare p d t) s) s

/-- Every token of an outlet is taken, on every site phase. -/
def takeAll (n : Outlet8) (s : State) : State :=
  let o := outOf s n
  let warm := o.latchA || o.latchB
  let until_ := s.now + 320000
  forFin 3 (fun p s =>
    let d := (s.sct.tok.assigned[n.val])[p.val]
    if d = 0 then s
    else modTok (fun t =>
      let t := { t with assigned := vmod t.assigned n fun v => vmod v p (fun _ => 0) }
      if warm then { t with cooling := t.cooling ++ [{ phase := p, count := d, untilTick := until_ }] } else addSpare p d t) s) s

/-- Tokens that no longer have a want are removed; at the end states all of them (R290, R291). -/
def takeExcess (s : State) : State :=
  forFin 8 (fun n s =>
    let x := (outOf s n).state
    if x = .ended ∨ x = .fault ∨ x = .welded ∨ x = .disabled then takeAll n s else takeTokens n (tokensOf s n - want s n) s) s

/-- The outlet with the most tokens on a site phase, the lowest number of equals. -/
def mostTokens (s : State) (p : Fin 3) : Option Outlet8 :=
  (allFin 8).foldl (fun (b : Option Outlet8) n =>
    if !(sites s n).contains p ∨ tokensOf s n = 0 then b
    else match b with
      | some m => if tokensOf s m < tokensOf s n then some n else b
      | none => some n) none

/-- Frees tokens of a phase, largest assignments first, one token at a time (R293, R305, R306). -/
def freeTokens (p : Fin 3) : Nat → State → State
  | 0, s => s
  | k + 1, s => match mostTokens s p with
    | some n => freeTokens p k (takeTokens n 1 s)
    | none => s

/-- What the node owes on a phase: in a domain only the coordinator reduces the budget (R293, R306). -/
def owing (s : State) (p : Fin 3) : Nat := if s.sct.domainMode ∧ s.bkb.role ≠ 2 then 0 else s.sct.tok.owed[p.val]

/-- What is owed on a phase is paid from SPARE; on a domain's coordinator the budget falls with it (R293, R306). -/
def payOwed (p : Fin 3) (s : State) : State :=
  let d := min (owing s p) s.sct.tok.spare[p.val]
  if d = 0 then s
  else
    let s := modTok (fun t => { subSpare p d t with owed := vmod t.owed p (· - d) }) s
    if s.sct.domainMode then modTok (fun t => { t with budget := vmod t.budget p (· - d) }) s else s

/-- SCT_BUDGET, with DATA[26] = 1 where every target is reached (R306, R311). -/
def postBudget (s : State) : State :=
  let t := s.sct.tok
  let reached := t.owed.toList.all fun x => decide (x = 0)
  postMail 0x0603 0xFF (leBytes 4 t.budgetEd.toNat ++ t.budget.toList.flatMap (leBytes 2) ++ [BitVec.ofNat 8 (b2n reached)]) s

/-- Owed tokens are paid, and where SPARE and COOLING do not cover them, taken from the outlets with the most (R293, R306). -/
def settleOwed (s : State) : State :=
  let s := forFin 3 (fun p s =>
    let s := payOwed p s
    payOwed p (freeTokens p (owing s p - s.sct.tok.coolingOn p) s)) s
  if s.sct.budgetOpen ∧ s.sct.tok.owed.toList.all (fun x => decide (x = 0)) then
    postBudget { s with sct := { s.sct with budgetOpen := false } }
  else s

/-- A member that holds more than its target lowers its largest assignments until the surplus is spare or cooling (R305). -/
def giveSurplus (s : State) : State :=
  if s.sct.domainMode then
    forFin 3 (fun p s =>
      match s.sct.target[p.val] with
      | some g => freeTokens p (s.sct.tok.assignedOn p - g) s
      | none => s) s
  else s

/-- Tokens of SPARE that may be assigned on a phase: in a domain, only up to the target (R305). -/
def assignable (s : State) (p : Fin 3) : Nat :=
  let room := if s.sct.domainMode then
      match s.sct.target[p.val] with
      | some g => g - s.sct.tok.assignedOn p
      | none => s.sct.tok.spare[p.val]
    else s.sct.tok.spare[p.val]
  min room (s.sct.tok.spare[p.val] - owing s p)

/-- The most that an outlet can be given now. -/
def giveMax (s : State) (n : Outlet8) : Nat :=
  match sites s n with
  | [] => 0
  | p :: ps => min (want s n - tokensOf s n) (ps.foldl (fun m q => min m (assignable s q)) (assignable s p))

/-- An outlet is given d tokens on each of its site phases. -/
def giveTokens (n : Outlet8) (d : Nat) (s : State) : State :=
  (sites s n).foldl (fun s p => modTok (fun t => { subSpare p d t with assigned := vmod t.assigned n fun v => vmod v p (· + d) }) s) s

/-- Outlets in the order of their entry into AUTHORISING. -/
def authOrder (s : State) : List Outlet8 := sortNat (fun n : Outlet8 => s.sct.authTick[n.val] * 8 + n.val) (allFin 8)

/-- TOKEN_ASSIGN (R289, R290): in the order of entry into AUTHORISING each outlet is first raised to 6.0 A, then to its want. -/
def assignSpare (s : State) : State :=
  let s := (authOrder s).foldl (fun s n =>
    let d := 60 - tokensOf s n
    if 0 < d ∧ d ≤ giveMax s n then giveTokens n d s else s) s
  (authOrder s).foldl (fun s n => giveTokens n (giveMax s n) s) s

/-- I_tok of every outlet as the agent hands it over, capped at 800 (R289). -/
def handOver (s : State) : State := forFin 8 (fun n s => modOut n (fun o => { o with iTok := min 800 (tokensOf s n) }) s) s

/-- Tick since which an outlet waits for capacity (R292). -/
def tickCapacity (s : State) : State :=
  let v := Vector.ofFn fun (n : Outlet8) =>
    let o := outOf s n
    if (o.state = .ready ∨ (o.state = .charging ∧ !digitalMode s n)) ∧ o.iTok < 60 then
      (match s.sct.capSince[n.val] with | some t => some t | none => some s.now)
    else none
  { s with sct := { s.sct with capSince := v } }

/-- MAILBOX_POLL of the agent in foreground C; changed counts are persisted (R53, R290, R297). The cycles of R291 count while it is in reset
too. -/
def agentPoll (s : State) : State :=
  let s := tickPeaks s
  if s.isReady 6 then
    let before := s.sct.tok
    let s := assignSpare (giveSurplus (settleOwed (takeExcess s)))
    let s := if s.sct.tok = before then s else persistTokens s
    tickCapacity (handOver s)
  else s

/-- COOLING_END (R290); the agent's next poll gives the tokens out. -/
def execCoolingEnd (s : State) : Res :=
  .next (
    let due := s.sct.tok.cooling.filter fun c => decide (c.untilTick ≤ s.now)
    if s.isReady 6 ∧ !due.isEmpty then
      putTok (fun t => due.foldl (fun t c => addSpare c.phase c.count t)
        { t with cooling := t.cooling.filter fun c => decide (s.now < c.untilTick) }) s
    else s)

/-- CAPACITY_STOP (R292). -/
def execCapacityStop (n : Outlet8) (s : State) : Res :=
  .next (match s.sct.capSince[n.val] with
    | some t =>
      if s.isReady 6 ∧ s.sct.capStopS ≠ 0 ∧ t + 64000 * s.sct.capStopS ≤ s.now then
        requestStop n .capacity { s with sct := { s.sct with capSince := s.sct.capSince.set n.val none } }
      else s
    | none => s)

/-! ### Registers (R293, R294, R309) -/

/-- CFG_REJECT of SCT_STATUS. -/
def sctReject (s : State) : State := { s with sct := { s.sct with cfgReject := true } }

/-- Everything that the node holds is discarded (R294, R295). -/
def discardTokens (s : State) : State :=
  putTok (fun t => { domain := t.domain }) { s with sct := { s.sct with target := Vector.replicate 3 none, ledgerDoubt := false } }

/-- A change of MODE sets every count to 0; in local mode HELD is then taken from SCT_LOCALp (R294). -/
def changeMode (s : State) : State :=
  let s := discardTokens s
  if s.sct.domainMode then s else putTok (fun t => { t with spare := s.sct.localTok }) s

/-- A write of SCT_CFG (R294, R309). -/
def writeSctCfg (v : Nat) (s : State) : State :=
  let m := bitAt v 0
  let x := bitsOf v 16 8
  let idle := (allFin 8).all fun n => decide ((outOf s n).state = .idle ∨ (outOf s n).state = .disabled)
  if x < 10 ∨ 250 < x ∨ (m ≠ s.sct.domainMode ∧ !idle) then sctReject s
  else
    let change := decide (m ≠ s.sct.domainMode)
    let s := { s with sct := { s.sct with domainMode := m, capStopS := bitsOf v 8 8, xferExp := x } }
    if change then changeMode s else s

/-- SCT_MODE_WRITE (R294). -/
def execSctModeWrite (v : W32) (s : State) : Res := .next (hostAcc (writeSctCfg v.toNat) s)

/-- A write of SCT_LOCALp: SPARE rises at once, or the difference is owed (R293). -/
def writeSctLocal (p : Fin 3) (v : Nat) (s : State) : State :=
  let old := s.sct.localTok[p.val]
  let new := bitsOf v 0 16
  let s := { s with sct := { s.sct with localTok := s.sct.localTok.set p.val new } }
  if s.sct.domainMode then s
  else if old ≤ new then
    let back := min (new - old) s.sct.tok.owed[p.val]
    putTok (fun t => { addSpare p (new - old - back) t with owed := vmod t.owed p (· - back) }) s
  else
    let s := modTok (fun t => { t with owed := vmod t.owed p (· + (old - new)) }) s
    persistTokens (payOwed p s)

/-- Settings that a fall-back brings back act as writes of SCT_CFG.MODE and of SCT_LOCALp (R293, R294, R412). -/
def settleSct (mode : Bool) (loc : Vector Nat 3) (s : State) : State :=
  if mode ≠ s.sct.domainMode then changeMode { s with sct := { s.sct with domainMode := mode, localTok := loc } }
  else forFin 3 (fun p s => writeSctLocal p loc[p.val] s) s

/-- SCT_LOCAL_WRITE (R293). -/
def execSctLocalWrite (p : Fin 3) (v : W32) (s : State) : Res := .next (hostAcc (writeSctLocal p v.toNat) s)

/-! ### Messages and the ledger (R296, R300 to R303) -/

/-- The node takes part in transfers: ready, in domain mode and joined. -/
def inDomain (s : State) : Bool := s.isReady 6 && s.sct.domainMode && (decide (s.bkb.role = 1) || decide (s.bkb.role = 2))

/-- The node is the coordinator. -/
def isCoord (s : State) : Bool := s.isReady 6 && decide (s.bkb.role = 2)

/-- Slot of a serial in the ledger. -/
def slotOf (s : State) (serial : W64) : Option (Fin 64) :=
  (allFin 64).find? fun k => decide ((s.sct.ledger[k.val]).state ≠ .free ∧ (s.sct.ledger[k.val]).serial = serial)

/-- A member is heard: present in the ledger. -/
def present (s : State) (serial : W64) : Bool :=
  match slotOf s serial with
  | some k => decide ((s.sct.ledger[k.val]).state = .present)
  | none => false

/-- Changes a ledger entry. -/
def modEntry (k : Fin 64) (f : LedgerEntry → LedgerEntry) (s : State) : State :=
  { s with sct := { s.sct with ledger := vmod s.sct.ledger k f } }

/-- The coordinator notes the highest XID of a sender, and ACKs (R303, R307). -/
def noteRelay (mtype : Nat) (m : TokMsg) (s : State) : State :=
  let x := m.xid.toNat
  let old := ((s.sct.relayed.find? fun e => decide (e.1 = m.sender)).map (·.2)).getD 0
  let s := { s with sct := { s.sct with relayed := (m.sender, max old x) :: s.sct.relayed.filter fun e => decide (e.1 ≠ m.sender) } }
  if mtype = 5 then { s with sct := { s.sct with ackRelayed := (m.sender, x) :: s.sct.ackRelayed } } else s

/-- A token message is sent: by the coordinator in the addressee's next poll, by a member in its next response (R296). -/
def sendTok (mtype : Nat) (dst : W64) (m : TokMsg) (s : State) : State :=
  if s.bkb.role = 2 then
    match slotOf s dst with
    | some k => noteRelay mtype m { s with bkb := { s.bkb with down := s.bkb.down ++ [(k, m, mtype)] } }
    | none => s
  else { s with bkb := { s.bkb with up := s.bkb.up ++ [(mtype, m)] } }

/-- A token message arrives: handled by its addressee, relayed unchanged by the coordinator (R296). -/
def receiveTok (mtype : Nat) (dst : W64) (m : TokMsg) (act : State → State) (s : State) : State :=
  if inDomain s then if dst = s.fuse.serial then act s else if s.bkb.role = 2 then sendTok mtype dst m s else s
  else if isCoord s ∧ dst ≠ s.fuse.serial then sendTok mtype dst m s
  else s

/-- DFN of the frame being handled: of the last header accepted by a member, else the local count (R320, R336). -/
def State.dfn (s : State) : Nat := if s.bkb.role = 1 then s.bkb.lastDfn.getD s.bkb.dfn else s.bkb.dfn

/-- Body of a message about a transfer of this node. -/
def OutXfer.msg (x : OutXfer) (s : State) : TokMsg :=
  { phase := x.phase, count := x.count, sender := s.fuse.serial, receiver := x.receiver, xid := BitVec.ofNat 32 x.xid,
    deadline := BitVec.ofNat 32 x.deadline, result := 0 }

/-- SCT_DOUBT (R311). -/
def postDoubt (k xid : Nat) (p : Fin 3) (n : Nat) (s : State) : State :=
  postMail 0x0602 0xFF ([BitVec.ofNat 8 k] ++ leBytes 4 xid ++ [BitVec.ofNat 8 p.val] ++ leBytes 2 n) s

/-! ### The sender (R297) -/

/-- On move: an OFFER, or nothing where it cannot be made; a surplus that is not spare yet becomes known by it (R297, R305). -/
def actMove (m : TokMsg) (s : State) : State :=
  let t := s.sct.tok
  let n := m.count
  let s := { s with sct := { s.sct with target := s.sct.target.set m.phase.val (some (t.held m.phase - n)) } }
  if 8 ≤ t.xfers.length ∨ t.spare[m.phase.val] < n then s
  else
    let x : OutXfer := { xid := s.sct.nextXid, receiver := m.receiver, phase := m.phase, count := n,
                         deadline := s.dfn + s.sct.xferExp * 10, state := .offered }
    let s := { s with sct := { s.sct with nextXid := s.sct.nextXid + 1 } }
    let s := putTok (fun t => { subSpare m.phase n t with xfers := t.xfers ++ [x] }) s
    sendTok 1 m.receiver (x.msg s) s

/-- MOVE (R297). -/
def execMove (m : TokMsg) (s : State) : Res := .next (receiveTok 6 m.sender m (actMove m) s)

/-- The own open transfer with an XID. -/
def ownXfer (s : State) (xid : Nat) : Option OutXfer := s.sct.tok.xfers.find? fun x => x.xid == xid

/-- A transfer is closed; its tokens return to SPARE where `back`, and the phase's target is open again. -/
def closeXfer (x : OutXfer) (back : Bool) (s : State) : State :=
  let s := putTok (fun t =>
    let t := { t with xfers := t.xfers.filter fun y => y.xid != x.xid }
    if back then addSpare x.phase x.count t else t) s
  if back then { s with sct := { s.sct with target := s.sct.target.set x.phase.val none } } else s

/-- A transfer passes to another state. -/
def setXfer (x : OutXfer) (st : XState) (s : State) : State :=
  putTok (fun t => { t with xfers := t.xfers.map fun y => if y.xid = x.xid then { y with state := st } else y }) s

/-- ACCEPT (R297): the node persists commit sent; COMMIT goes out with every response until ACK or the deadline. -/
def execAccept (m : TokMsg) (s : State) : Res :=
  .next (receiveTok 2 m.sender m (fun s => match ownXfer s m.xid.toNat with
    | some x => if x.state = .offered ∧ s.dfn ≤ x.deadline then setXfer x .commitSent s else s
    | none => s) s)

/-- REFUSE (R297). -/
def execRefuse (m : TokMsg) (s : State) : Res :=
  .next (receiveTok 3 m.sender m (fun s => match ownXfer s m.xid.toNat with
    | some x => if x.state = .offered then closeXfer x true s else s
    | none => s) s)

/-- ACK (R297). -/
def execAck (m : TokMsg) (s : State) : Res :=
  .next (receiveTok 5 m.sender m (fun s => match ownXfer s m.xid.toNat with
    | some x => if x.state = .commitSent then closeXfer x false s else s
    | none => s) s)

/-- On resolve: a transfer in doubt is closed, its tokens dropped or returned (R297). -/
def actResolve (xid result : Nat) (s : State) : State :=
  match ownXfer s xid with
  | some x =>
    if x.state = .inDoubt ∧ (result = 1 ∨ result = 2) then
      postDoubt result x.xid x.phase x.count (closeXfer x (decide (result = 2)) s)
    else s
  | none => s

/-- RESOLVE (R297). -/
def execResolve (m : TokMsg) (s : State) : Res := .next (receiveTok 9 m.sender m (actResolve m.xid.toNat m.result) s)

/-! ### The receiver (R297, R298) -/

/-- The record of a transfer. -/
def recOf (s : State) (sender : W64) (xid : Nat) : Option RecvRec :=
  s.sct.tok.recs.find? fun r => decide (r.sender = sender ∧ r.xid = xid)

/-- A record passes to another state. -/
def setRec (r : RecvRec) (st : RState) (t : Tokens) : Tokens :=
  { t with recs := t.recs.map fun q => if q.sender = r.sender ∧ q.xid = r.xid then { q with state := st } else q }

/-- Some outlet wants tokens on a phase. -/
def phaseWanted (s : State) (p : Fin 3) : Bool := (allFin 8).any fun n => decide (0 < want s n) && (sites s n).contains p

/-- The node takes tokens on a phase: an outlet wants them, or the coordinator owes them (R297, R306). -/
def takesTokens (s : State) (p : Fin 3) : Bool := phaseWanted s p || (s.sct.domainMode && decide (0 < owing s p))

/-- OFFER (R297, R298): a full store refuses every one; one that is already recorded as accepted is accepted again. -/
def execOffer (m : TokMsg) (s : State) : Res :=
  .next (receiveTok 1 m.receiver m (fun s =>
    if m.deadline.toNat < s.dfn then s
    else if 256 ≤ s.sct.tok.recs.length then sendTok 3 m.sender m s
    else match recOf s m.sender m.xid.toNat with
      | some r => if r.state = .accepted then sendTok 2 m.sender m s else s
      | none =>
        if !takesTokens s m.phase then sendTok 3 m.sender m s
        else
          let r : RecvRec := { sender := m.sender, xid := m.xid.toNat, phase := m.phase, count := m.count, deadline := m.deadline.toNat,
                               state := .accepted }
          sendTok 2 m.sender m (putTok (fun t => { t with recs := t.recs ++ [r] }) s)) s)

/-- COMMIT (R297): committed in one write, answered with ACK each time; the agent's next poll gives the tokens out (R290). -/
def execCommit (m : TokMsg) (s : State) : Res :=
  .next (receiveTok 4 m.receiver m (fun s => match recOf s m.sender m.xid.toNat with
    | some r =>
      if r.state = .accepted ∧ s.dfn ≤ r.deadline then
        let s := putTok (fun t => setRec r .committed (addSpare r.phase r.count t)) s
        let s := { s with sct := { s.sct with target := s.sct.target.set r.phase.val none } }
        sendTok 5 m.sender m s
      else if r.state = .committed then sendTok 5 m.sender m s
      else s
    | none => s) s)

/-- The answer to a QUERY: 0 unknown, 1 committed, 2 not committed (R297). -/
def queryResult (s : State) (sender : W64) (xid deadline : Nat) : Nat :=
  if s.dfn ≤ deadline then 0
  else match recOf s sender xid with
    | some r => if r.state = .committed then 1 else 2
    | none => 2

/-- QUERY (R297). -/
def execQuery (m : TokMsg) (s : State) : Res :=
  .next (receiveTok 7 m.receiver m (fun s =>
    sendTok 8 s.bkb.coord { m with result := queryResult s m.sender m.xid.toNat m.deadline.toNat } s) s)

/-! ### Outcomes at the coordinator (R301, R307) -/

/-- The answer known for a transfer. -/
def verdictOf (s : State) (sender : W64) (xid : Nat) : Option Bool :=
  (s.sct.verdicts.find? fun v => decide (v.sender = sender ∧ v.xid = xid)).map fun v => v.committed

/-- The coordinator settles a transfer that it has taken over (R307). -/
def settleTaken (sender : W64) (xid : Nat) (committed : Bool) (s : State) : State :=
  match s.sct.tok.taken.find? fun x => decide (x.sender = sender ∧ x.xid = xid) with
  | some x => putTok (fun t =>
      let t := { t with taken := t.taken.filter fun y => decide (¬(y.sender = sender ∧ y.xid = xid)) }
      if committed then t else addSpare x.phase x.count t) s
  | none => s

/-- The coordinator learns an answer: RESOLVE to the sender, its own transfer or what it took over (R301, R307). -/
def learnVerdict (m : TokMsg) (committed kept : Bool) (s : State) : State :=
  let x := m.xid.toNat
  let v : Verdict := { sender := m.sender, xid := x, committed := committed, kept := kept }
  let s := if (verdictOf s m.sender x).isSome then s else { s with sct := { s.sct with verdicts := s.sct.verdicts ++ [v] } }
  let res := if committed then 1 else 2
  let s := settleTaken m.sender x committed s
  if m.sender = s.fuse.serial then actResolve x res s else sendTok 9 m.sender { m with result := res } s

/-- Body of a message about a transfer that a member reports. -/
def repMsg (sender : W64) (x : XferRep) : TokMsg :=
  { phase := x.phase, count := x.count, sender := sender, receiver := x.receiver, xid := x.xid, deadline := x.deadline, result := 0 }

/-- A transfer in doubt is asked about: the coordinator answers at once what it knows or holds itself, else QUERY (R301). -/
def askDoubt (m : TokMsg) (s : State) : State :=
  match verdictOf s m.sender m.xid.toNat with
  | some c => learnVerdict m c false s
  | none =>
    if m.receiver = s.fuse.serial then
      match queryResult s m.sender m.xid.toNat m.deadline.toNat with
      | 1 => learnVerdict m true false s
      | 2 => learnVerdict m false false s
      | _ => s
    else sendTok 7 m.receiver m s

/-- Body of a message about a transfer taken over (R307). -/
def TakenOver.msg (x : TakenOver) : TokMsg :=
  { phase := x.phase, count := x.count, sender := x.sender, receiver := x.receiver, xid := BitVec.ofNat 32 x.xid,
    deadline := BitVec.ofNat 32 x.deadline, result := 0 }

/-- The open transfers of every member that are in doubt, and those of a retiring one past their deadline (R301, R307). -/
def doubtful (s : State) : List TokMsg :=
  (allFin 64).flatMap (fun k =>
    let e := s.sct.ledger[k.val]
    (e.xfers.filter fun x => decide (x.state = 3) || (decide (e.state = .retiring) && decide (x.deadline.toNat < s.dfn))).map (repMsg e.serial)) ++
  (s.sct.tok.xfers.filter fun x => decide (x.state = .inDoubt)).map (fun x => x.msg s) ++
  s.sct.tok.taken.map TakenOver.msg

/-! ### Retirement (R307) -/

/-- SCT_MEMBER (R311). -/
def postMember (k : Nat) (serial : W64) (slot : Nat) (s : State) : State :=
  postMail 0x0605 0xFF ([BitVec.ofNat 8 k] ++ leBytes 8 serial.toNat ++ [BitVec.ofNat 8 slot]) s

/-- Step 5: transfers of which the retired member was the receiver are decided by the ACKs relayed. -/
def decideFor (serial : W64) (s : State) : State :=
  let own := s.sct.tok.xfers.map fun x => x.msg s
  let led := (allFin 64).flatMap fun k => ((s.sct.ledger[k.val]).xfers).map (repMsg (s.sct.ledger[k.val]).serial)
  let tk := s.sct.tok.taken.map TakenOver.msg
  ((own ++ led ++ tk).filter fun m => decide (m.receiver = serial)).foldl (fun s m =>
    let c := s.sct.ackRelayed.contains (m.sender, m.xid.toNat)
    learnVerdict m c true s) s

/-- One look at a retirement: transfers answered or taken over leave the list; when none is left it ends (steps 2 to 6). A transfer to the
coordinator itself is asked about here. -/
def retireStep (r : Retiring) (s : State) : State :=
  let e := s.sct.ledger[r.slot.val]
  let one (acc : Retiring × State) (x : XferRep) : Retiring × State :=
    let (r, s) := acc
    let m := repMsg e.serial x
    let s := if x.receiver = s.fuse.serial ∧ (verdictOf s e.serial x.xid.toNat).isNone then askDoubt m s else s
    match verdictOf s e.serial x.xid.toNat with
    | some c => ({ r with back := if c then r.back else vmod r.back x.phase (· + x.count) }, s)
    | none =>
      if s.dfn ≤ x.deadline.toNat ∨ x.receiver = s.fuse.serial ∨ present s x.receiver then ({ r with asking := r.asking ++ [x] }, s)
      else (r, putTok (fun t => { t with taken := t.taken ++ [{ sender := m.sender, receiver := m.receiver, xid := m.xid.toNat,
                                                                phase := m.phase, count := m.count, deadline := m.deadline.toNat }] }) s)
  let (r, s) := r.asking.foldl one ({ r with asking := [] }, s)
  let keep := s.sct.retiring.filter fun q => decide (q.slot ≠ r.slot)
  if !r.asking.isEmpty then { s with sct := { s.sct with retiring := keep ++ [r] } }
  else
    let s := putTok (fun t => (allFin 3).foldl (fun t p => addSpare p (e.held[p.val] + r.back[p.val]) t) t) s
    let s := modEntry r.slot (fun _ => {}) { s with bkb := { s.bkb with down := s.bkb.down.filter fun d => decide (d.1 ≠ r.slot)
                                                                        again := s.bkb.again.filter fun d => decide (d.1 ≠ r.slot) } }
    let s := decideFor e.serial s
    let s := { s with sct := { s.sct with retiring := keep, retired := e.serial :: s.sct.retired } }
    let s := postMember 2 e.serial r.slot.val s
    r.flights.foldl (fun s q => completeSeq q.1 .ok 0 [BitVec.ofNat 8 r.slot.val] none s) s

/-- Every retirement in progress is looked at. -/
def retireAll (s : State) : State := s.sct.retiring.foldl (fun s r => retireStep r s) s

/-- STATUS (R301): unknown is asked again in the next poll. -/
def execStatus (m : TokMsg) (s : State) : Res :=
  .next (if isCoord s ∧ (m.result = 1 ∨ m.result = 2) then retireAll (learnVerdict m (decide (m.result = 1)) false s) else s)

/-- TRANSFER_DEADLINE: every transfer and record past its deadline (R297). -/
def transferDeadline (s : State) : State :=
  let dfn := s.dfn
  let late := s.sct.tok.xfers.filter fun x => decide (x.deadline < dfn)
  let s := late.foldl (fun s x =>
    if x.state = .offered then closeXfer x true s
    else if x.state = .commitSent then postDoubt 0 x.xid x.phase x.count (setXfer x .inDoubt s)
    else s) s
  let dead := s.sct.tok.recs.any fun r => decide (r.state = .accepted ∧ r.deadline < dfn)
  let s := if dead then
      putTok (fun t => { t with recs := t.recs.map fun r => if r.state = .accepted ∧ r.deadline < dfn then { r with state := .expired } else r }) s
    else s
  if isCoord s then retireAll s else s

/-- TRANSFER_DEADLINE (R297). -/
def execTransferDeadline (s : State) : Res := .next (if s.isReady 6 ∧ (s.bkb.role = 1 ∨ s.bkb.role = 2) then transferDeadline s else s)

/-! ### Reports, digests and the budget (R288, R300 to R303, R306) -/

/-- State of a transfer as a number (R310). -/
def XState.num : XState → Nat
  | .offered => 1 | .commitSent => 2 | .inDoubt => 3

/-- The report of this node (R300). -/
def selfReport (s : State) : Report :=
  let t := s.sct.tok
  let wants : List WantRep := (allFin 8).filterMap fun n =>
    if want s n = 0 then none else some { phases := sites s n, want := want s n, entry := s.sct.authTick[n.val] }
  if s.sct.domainMode then
    { serial := s.fuse.serial, held := (allFin 3).map t.held, transit := (allFin 3).map t.transit, doubt := (allFin 3).map t.doubt,
      xfers := t.xfers.map fun x => { xid := BitVec.ofNat 32 x.xid, receiver := x.receiver, phase := x.phase, state := x.state.num,
                                      count := x.count, deadline := BitVec.ofNat 32 x.deadline },
      wants := wants, senders := ((t.recs.map fun r => r.sender).dedup).take 64, budgetEd := t.budgetEd, budget := t.budget.toList }
  else
    { serial := s.fuse.serial, held := [0, 0, 0], transit := [0, 0, 0], doubt := [0, 0, 0], xfers := [], wants := [], senders := [],
      budgetEd := t.budgetEd, budget := t.budget.toList }

/-- The budget with the highest edition known (R288); a reduction that a later edition replaces is owed no more. Within an edition BUDGET_p
only falls, as a reduction is paid, so that of two values the lower one is the later (R306). -/
def adoptBudget (ed : W32) (b : List Nat) (s : State) : State :=
  let own := s.sct.tok
  let later : Vector Nat 3 := Vector.ofFn fun p => min own.budget[p.val] (toVec 3 0 b)[p.val]
  if own.budgetEd < ed then
    putTok (fun t => { t with budgetEd := ed, budget := toVec 3 0 b, owed := if s.sct.domainMode then Vector.replicate 3 0 else t.owed })
      { s with sct := { s.sct with budgetOpen := s.sct.budgetOpen && !s.sct.domainMode } }
  else if own.budgetEd = ed ∧ own.budget ≠ later then putTok (fun t => { t with budget := later }) s
  else s

/-- A report enters a ledger entry. -/
def LedgerEntry.take (e : LedgerEntry) (r : Report) (dfn now : Nat) : LedgerEntry :=
  { e with serial := r.serial, state := if e.state = .absent then .present else e.state, lastDfn := dfn, lastTick := now,
           held := toVec 3 0 r.held, transit := toVec 3 0 r.transit, doubt := toVec 3 0 r.doubt, xfers := r.xfers.take 8,
           wants := r.wants, senders := r.senders.take 64 }

/-- Answers are forgotten once their sender no longer reports the transfer, unless kept from a retirement. -/
def forgetVerdicts (serial : W64) (open_ : List XferRep) (s : State) : State :=
  let keep := s.sct.verdicts.filter fun v => v.kept || decide (v.sender ≠ serial) || open_.any fun x => decide (x.xid.toNat = v.xid)
  { s with sct := { s.sct with verdicts := keep } }

/-- MEMBER_REPORT (R300, R301). -/
def memberReport (slot : Fin 64) (r : Report) (s : State) : State :=
  let e := s.sct.ledger[slot.val]
  if e.state = .free ∨ e.serial ≠ r.serial ∨ e.state = .retiring then s
  else
    let s := modEntry slot (fun e => e.take r s.dfn s.now) s
    adoptBudget r.budgetEd r.budget (forgetVerdicts r.serial r.xfers s)

/-- MEMBER_REPORT (R300). -/
def execMemberReport (slot : Fin 64) (r : Report) (s : State) : Res := .next (if isCoord s then memberReport slot r s else s)

/-- MEMBER_ABSENT: not heard for 5 s (R302). -/
def execMemberAbsent (slot : Fin 64) (s : State) : Res :=
  .next (
    let e := s.sct.ledger[slot.val]
    if isCoord s ∧ e.state = .present ∧ slot ≠ s.bkb.slot ∧ e.lastTick + 320000 ≤ s.now then
      postMember 1 e.serial slot.val (modEntry slot (fun e => { e with state := .absent }) s)
    else s)

/-- The node keeps HELD of its own last report (R297). -/
def keepOwn (s : State) : State :=
  if s.sct.ledgerDoubt then s else { s with sct := { s.sct with ownHeld := Vector.ofFn s.sct.tok.held } }

/-- The coordinator's own entry is its own report. -/
def refreshSelf (s : State) : State :=
  let s := keepOwn s
  modEntry s.bkb.slot (fun e =>
    let e := e.take (selfReport s) s.dfn s.now
    { e with serial := s.fuse.serial, state := .present }) s

/-- LSUM of a phase: HELD of every member and the open transfers that no STATUS has shown committed (R300); a transfer taken over
counts once. -/
def lsum (s : State) (p : Fin 3) : Nat :=
  ((allFin 64).map fun k =>
    let e := s.sct.ledger[k.val]
    if e.state = .free then 0
    else e.held[p.val] + ((e.xfers.filter fun x => decide (x.phase = p) && decide (verdictOf s e.serial x.xid.toNat ≠ some true) &&
      !s.sct.tok.taken.any fun y => decide (y.sender = e.serial ∧ y.xid = x.xid.toNat)).map
      fun x => x.count).sum).sum +
  ((s.sct.tok.taken.filter fun x => decide (x.phase = p)).map fun x => x.count).sum

/-- Number of a slot's state (R310). -/
def SlotState.num : SlotState → Nat
  | .free => 0 | .present => 1 | .absent => 2 | .retiring => 3

/-- The 32 bytes of a ledger entry (R310). -/
def entryBytes (s : State) (k : Fin 64) : List Byte :=
  let e := s.sct.ledger[k.val]
  if e.state = .free then slice (leBytes 8 0 ++ [BitVec.ofNat 8 k.val]) 0 32
  else slice (leBytes 8 e.serial.toNat ++ [BitVec.ofNat 8 k.val, BitVec.ofNat 8 e.state.num, 0, 0] ++ e.held.toList.flatMap (leBytes 2) ++
    ((allFin 3).map fun p => e.transit[p.val] + e.doubt[p.val]).flatMap (leBytes 2) ++ leBytes 4 e.lastDfn) 0 32

/-- The ledger digest of this moment (R302); LCRC is taken over the entries of R310. -/
def digestNow (s : State) : Digest :=
  let states := (allFin 64).map fun k => (s.sct.ledger[k.val]).state
  { dfn := BitVec.ofNat 32 s.dfn, budgetEd := s.sct.tok.budgetEd, budget := s.sct.tok.budget.toList, lsum := (allFin 3).map (lsum s),
    members := (states.filter fun x => decide (x ≠ .free)).length, absent := (states.filter fun x => decide (x = .absent ∨ x = .retiring)).length,
    lcrc := BitVec.ofNat 32 (crc32c ((allFin 64).flatMap (entryBytes s))) }

/-- Release entries for the records of some senders (R303). -/
def releasesOf (s : State) (senders : List W64) : List Release :=
  senders.map fun q =>
    let open_ := (match slotOf s q with | some j => (s.sct.ledger[j.val]).xfers.map fun x => x.xid.toNat | none => []) ++
      (s.sct.tok.taken.filter fun x => decide (x.sender = q)).map (·.xid)
    let hi := ((s.sct.relayed.find? fun e => decide (e.1 = q)).map (·.2)).getD 0
    { sender := q, closed := BitVec.ofNat 32 (match open_ with | [] => hi + 1 | x :: xs => xs.foldl min x) }

/-- The release entries for a member: up to 16 senders of its last report, in turn over its polls (R303). -/
def releasesFor (s : State) (k : Fin 64) : List Release :=
  let e := s.sct.ledger[k.val]
  let i := 16 * e.relAt % max 1 e.senders.length
  releasesOf s ((e.senders.drop i ++ e.senders.take i).take 16)

/-- Records that a release entry covers are dropped, but for those still accepted (R298, R303). -/
def dropReleased (rel : List Release) (s : State) : State :=
  let drop (r : RecvRec) : Bool := r.state ≠ .accepted && rel.any fun e => decide (e.sender = r.sender ∧ r.xid < e.closed.toNat)
  if s.sct.tok.recs.any drop then putTok (fun t => { t with recs := t.recs.filter fun r => !drop r }) s else s

/-- A digest shows an edition in force: SCT_BUDGET_SET completes (R310). -/
def budgetShown (ed : W32) (s : State) : State :=
  let (hit, rest) := s.sct.budgetWait.partition fun w => decide (w.2.1 = ed)
  let s := { s with sct := { s.sct with budgetWait := rest } }
  hit.foldl (fun s w => completeSeq w.1 .ok 0 (leBytes 4 ed.toNat) none s) s

/-- LEDGER_DIGEST (R288, R302, R303). In LEDGER_DOUBT the node takes as HELD what the coordinator's ledger records for it (R297). -/
def ledgerDigest (d : Digest) (rel : List Release) (s : State) : State :=
  let s := { s with sct := { s.sct with digest := some d } }
  let s := budgetShown d.budgetEd (adoptBudget d.budgetEd d.budget s)
  takeBack (toVec 3 0 d.own) (dropReleased rel s)

/-- LEDGER_DIGEST (R302). -/
def execLedgerDigest (d : Digest) (rel : List Release) (s : State) : Res :=
  .next (if s.isReady 6 ∧ s.sct.domainMode ∧ s.bkb.role = 1 then ledgerDigest d rel s else s)

/-- The coordinator applies a budget request (R306). -/
def applyBudget (target : List Nat) (ed : W32) (s : State) : State :=
  if s.sct.tok.budgetEd < ed then
    let g := toVec 3 0 target
    let s := putTok (fun t =>
      let t := { t with budgetEd := ed }
      (allFin 3).foldl (fun t p =>
        let b := t.budget[p.val]
        let x := g[p.val]
        let t' := addSpare p (x - b) t
        if b < x then { t' with budget := t.budget.set p.val x, owed := t.owed.set p.val 0 }
        else { t with owed := t.owed.set p.val (b - x) }) t) s
    let s := settleOwed { s with sct := { s.sct with budgetOpen := true } }
    persistTokens s
  else s

/-- BUDGET_REQUEST (R306). -/
def execBudgetRequest (target : List Nat) (edition : W32) (s : State) : Res :=
  .next (if isCoord s ∧ s.sct.domainMode then applyBudget target edition s else s)

/-! ### Sharing (R304, R305) -/

/-- An outlet that wants current, as the ledger knows it: its member's slot and its place in the member's report. -/
abbrev Wanter := Fin 64 × Nat

/-- Wants on a site phase of all members. -/
def wantsOn (s : State) (p : Fin 3) : List (Wanter × WantRep) :=
  (allFin 64).flatMap fun k =>
    let e := s.sct.ledger[k.val]
    if e.state = .free then [] else (e.wants.zipIdx.filter fun w => w.1.phases.contains p).map fun w => ((k, w.2), w.1)

/-- Step 1: the largest level below or at a bound at which the wants fit. -/
def levelFit (wants : List Nat) (budget : Nat) : Nat → Nat
  | 0 => 0
  | l + 1 => if (wants.map fun w => min w (l + 1)).sum ≤ budget then l + 1 else levelFit wants budget l

/-- Step 3: 6.0 A each to as many as fit, the earliest entry first. -/
def fitSixty : List (Wanter × WantRep) → Nat → List (Wanter × Nat)
  | [], _ => []
  | (k, w) :: ws, left =>
    if min w.want 60 ≤ left then (k, min w.want 60) :: fitSixty ws (left - min w.want 60) else (k, 0) :: fitSixty ws left

/-- The share of an outlet on a phase (R304). -/
def shareOf (s : State) (p : Fin 3) (k : Wanter) (w : WantRep) : Nat :=
  let ws := wantsOn s p
  let b := s.sct.tok.budget[p.val]
  let l := levelFit (ws.map fun w => w.2.want) b 800
  if 60 ≤ l then min w.want l
  else ((fitSixty (sortNat (fun w => w.2.entry) ws) b).find? fun x => decide (x.1 = k)).elim 0 (·.2)

/-- Step 4 and 5: the targets of a member. -/
def memberTarget (s : State) (k : Fin 64) (p : Fin 3) : Nat :=
  (((s.sct.ledger[k.val]).wants.zipIdx.filter fun w => w.1.phases.contains p).map fun w =>
    (w.1.phases.map fun q => shareOf s q (k, w.2) w.1).foldl min 65535).sum

/-- A directive of the sharing: source, destination, phase, count. -/
structure Directive where
  src : Fin 64
  dst : Fin 64
  phase : Fin 3
  count : Nat
  deriving DecidableEq, Repr

/-- What a member should hold on a phase: its target, and on the coordinator also what it owes (R305, R306). -/
def goalOf (s : State) (k : Fin 64) (p : Fin 3) : Nat :=
  (s.sct.ledger[k.val]).target[p.val] + if k = s.bkb.slot then s.sct.tok.owed[p.val] else 0

/-- Surplus of a present member on a phase. -/
def surplusOf (s : State) (k : Fin 64) (p : Fin 3) : Nat := (s.sct.ledger[k.val]).held[p.val] - goalOf s k p

/-- What a present member lacks on a phase. -/
def lackOf (s : State) (k : Fin 64) (p : Fin 3) : Nat := goalOf s k p - (s.sct.ledger[k.val]).held[p.val]

/-- The MOVE directives: largest surplus first, at most 800 tokens and one per source (R305). -/
def directives (s : State) : List Directive :=
  let ks := (allFin 64).filter fun k => decide ((s.sct.ledger[k.val]).state = .present)
  let all := ks.flatMap fun k => (allFin 3).filterMap fun p => if surplusOf s k p = 0 then none else some (k, p, surplusOf s k p)
  let ord := (sortNat (fun x : Fin 64 × Fin 3 × Nat => x.2.2) all).reverse
  ord.foldl (fun out x =>
    if out.any fun d => decide (d.src = x.1) then out
    else
      let lack (j : Fin 64) : Nat := lackOf s j x.2.1 - ((out.filter fun d => decide (d.dst = j ∧ d.phase = x.2.1)).map fun d => d.count).sum
      let best := ks.foldl (fun (b : Option (Fin 64)) j =>
        if lack j = 0 then b else match b with | some i => if lack i < lack j then some j else b | none => some j) none
      match best with
      | some j => out ++ [{ src := x.1, dst := j, phase := x.2.1, count := min 800 (min x.2.2 (lack j)) }]
      | none => out) []

/-- SHARING_COMPUTATION (R304, R305); the coordinator, which polls itself never, drops its own records by its own ledger here. -/
def sharing (s : State) : State :=
  let s := refreshSelf s
  let s0 := s
  let s := forFin 64 (fun k s => modEntry k (fun e => { e with target := Vector.ofFn fun p => memberTarget s0 k p }) s) s
  let s := { s with sct := { s.sct with target := (s.sct.ledger[s.bkb.slot.val]).target.map some } }
  let own := releasesOf s (s.sct.ledger[s.bkb.slot.val]).senders
  dropReleased own <| (directives s).foldl (fun s d =>
    let m : TokMsg := { phase := d.phase, count := d.count, sender := (s.sct.ledger[d.src.val]).serial,
                        receiver := (s.sct.ledger[d.dst.val]).serial, xid := 0, deadline := 0, result := 0 }
    if d.src = s.bkb.slot then actMove m s else sendTok 6 m.sender m s) s

/-- SHARING_COMPUTATION, every 500 frames (R304). -/
def execSharingComputation (s : State) : Res :=
  .next (if isCoord s ∧ s.sct.domainMode ∧ s.dfn % 500 = 0 then sharing s else s)

/-! ### Membership (R294, R295) -/

/-- A refused node discards everything and asks again in 60 s (R295); in local mode it holds SCT_LOCALp as before (R293). -/
def refuseNode (s : State) : State :=
  let s := if s.sct.domainMode then handOver (discardTokens s) else s
  postMail 0x0601 0xFF [0] { s with sct := { s.sct with refused := true, askAt := some (s.now + 3840000) } }

/-- The node joins a domain: it discards what it holds under another one; a node refused before is granted (R294, R295). A node in
LEDGER_DOUBT has lost the stored value and discards nothing. -/
def joinTokens (domain : W32) (s : State) : State :=
  let s := if s.sct.tok.domain = domain then s
    else if s.sct.domainMode ∧ s.sct.ledgerDoubt = false then handOver (putTok (fun t => { t with domain := domain }) (discardTokens s))
    else putTok (fun t => { t with domain := domain }) s
  if s.sct.refused then postMail 0x0601 0xFF [1] { s with sct := { s.sct with refused := false, askAt := none } } else s

/-- JOIN_RETRY: a refused node asks again every 60 s (R295). -/
def execJoinRetry (s : State) : Res :=
  .next (match s.sct.askAt with
    | some t =>
      if s.sct.refused ∧ t ≤ s.now then
        { s with sct := { s.sct with askAt := some (s.now + 3840000) }, bkb := { s.bkb with join := .asking } }
      else s
    | none => s)

/-! ### Descriptors (R310) -/

/-- SCT_BUDGET_SET (R306, R310). -/
def sctBudgetSet (f : Flight) (s : State) : State :=
  let target := [f.p 16 2, f.p 18 2, f.p 20 2]
  let ed : W32 := BitVec.ofNat 32 (f.p 24 4)
  let fail := complete f .conflict 0 (leBytes 4 s.sct.tok.budgetEd.toNat) none s
  if !s.sct.domainMode ∨ ed ≤ s.sct.tok.budgetEd then fail
  else
    let s := keepRunning f { s with sct := { s.sct with budgetWait := s.sct.budgetWait ++ [(f.seq, ed, target, s.now)] } }
    if isCoord s then applyBudget target ed s else cryTo (BitVec.ofNat 8 s.bkb.slot.val) (.budget target ed) s

/-- SCT_BUDGET_SET (R306). -/
def runSctBudgetSet (s : State) : Res := .next (dispatch 0x0601 sctBudgetSet s)

/-- SCT_BUDGET_SET_TIMEOUT: 10 s (R310). -/
def execSctBudgetSetTimeout (s : State) : Res :=
  .next (match s.sct.budgetWait.find? fun w => decide (w.2.2.2 + 640000 ≤ s.now) with
    | some w => completeSeq w.1 .timeout 0 (leBytes 4 s.sct.tok.budgetEd.toNat) none
        { s with sct := { s.sct with budgetWait := s.sct.budgetWait.filter fun x => x.1 != w.1 } }
    | none => s)

/-- ROLE of SCT_STATUS (R309). -/
def sctRole (s : State) : Nat := if !s.sct.domainMode then 0 else if s.sct.refused then 3 else if s.bkb.role = 1 ∨ s.bkb.role = 2 then s.bkb.role else 3

/-- MEMBERS of the last digest. -/
def sctMembers (s : State) : Nat := match s.sct.digest with | some d => d.members | none => 0

/-- The 192 bytes of SCT_READ (R310). -/
def sctBytes (s : State) : List Byte :=
  let t := s.sct.tok
  let ph (p : Fin 3) : List Byte := leBytes 2 (t.held p) ++ leBytes 2 t.spare[p.val] ++ leBytes 2 (t.transit p) ++ leBytes 2 (t.doubt p) ++
    leBytes 2 t.budget[p.val] ++ leBytes 2 ((s.sct.target[p.val]).getD 0)
  let xf (x : OutXfer) : List Byte := leBytes 4 x.xid ++ leBytes 8 x.receiver.toNat ++ [BitVec.ofNat 8 x.phase.val, BitVec.ofNat 8 x.state.num] ++
    leBytes 2 x.count
  slice (slice ([BitVec.ofNat 8 (sctRole s), BitVec.ofNat 8 (sctMembers s), 0, 0] ++ leBytes 4 t.budgetEd.toNat ++ leBytes 8 s.bkb.coord.toNat ++
    leBytes 4 s.dfn ++ leBytes 4 0 ++ (allFin 3).flatMap ph) 0 64 ++ (t.xfers.take 8).flatMap xf) 0 192

/-- SCT_READ (R310). -/
def runSctRead (s : State) : Res :=
  .next (dispatch 0x0602 (fun f s => complete f .ok 0 [BitVec.ofNat 8 (sctRole s)] (some (sctBytes s)) s) s)

/-- SCT_LEDGER_READ (R310). -/
def runSctLedgerRead (s : State) : Res :=
  .next (dispatch 0x0603 (fun f s =>
    if isCoord s then
      let s := refreshSelf s
      complete f .ok 0 [64] (some ((allFin 64).flatMap (entryBytes s))) s
    else completeSt f .conflict s) s)

/-- SCT_RETIRE (R307, R310). -/
def sctRetire (f : Flight) (s : State) : State :=
  let serial : W64 := BitVec.ofNat 64 (f.p 16 8)
  if !isCoord s then completeSt f .conflict s
  else match slotOf s serial with
    | none => completeSt f .invalid s
    | some k =>
      let e := s.sct.ledger[k.val]
      if k = s.bkb.slot ∨ (e.state ≠ .retiring ∧ s.now < e.lastTick + 320000) then completeSt f .denied s
      else
        let old := s.sct.retiring.find? fun r => decide (r.slot = k)
        let r : Retiring := match old with
          | some r => { r with flights := r.flights ++ [(f.seq, s.now)] }
          | none => { slot := k, flights := [(f.seq, s.now)], asking := e.xfers }
        retireStep r (modEntry k (fun e => { e with state := .retiring }) (keepRunning f s))

/-- SCT_RETIRE (R307). -/
def runSctRetire (s : State) : Res := .next (dispatch 0x0604 sctRetire s)

/-- SCT_RETIRE_TIMEOUT: 10 s; the retirement continues (R310). -/
def execSctRetireTimeout (s : State) : Res :=
  .next (
    let due (q : Nat × Tick) : Bool := decide (q.2 + 640000 ≤ s.now)
    match s.sct.retiring.find? fun r => r.flights.any due with
    | some r =>
      let t := (r.flights.filter due).foldl (fun s q => completeSeq q.1 .timeout 0 [BitVec.ofNat 8 r.slot.val] none s) s
      { t with sct := { t.sct with retiring := t.sct.retiring.map fun q =>
          if q.slot = r.slot then { q with flights := q.flights.filter fun x => !due x } else q } }
    | none => s)

/-- SCT_ASSIGNn, once it has been restored (R309). -/
def sctAssignWord (s : State) (n : Outlet8) : Nat :=
  let a := s.sct.tok.assigned[n.val]
  field 0 10 a[0] + field 10 10 a[1] + field 20 10 a[2]

/-- SCT_STATUS (R309). -/
def sctStatusWord (s : State) : Nat :=
  if s.isReady 6 then
    field 0 2 (sctRole s) + flag 2 s.sct.ledgerDoubt + flag 3 s.sct.cfgReject + field 8 7 (sctMembers s) + field 16 4 s.sct.tok.xfers.length
  else flag 3 s.sct.cfgReject

end Sys2Proof.Machine
end

