-- ==== Sys2Proof/Machine/Upl.lean ====
section
/-! DEFINITION. The uplink: envelopes, the two paths, the hinge and the drill (R328 to R335). -/

namespace Sys2Proof.Machine

/-- An envelope of this node: data with its SEQ, or an acknowledgement with SEQ 0 and no payload (R329). -/
def ownEnvelope (s : State) (b : Bool) (kind seq : Nat) : Envelope :=
  { kind := kind, serial := s.fuse.serial, epoch := s.upl.epoch, seq := BitVec.ofNat 32 (if kind = 1 then 0 else seq),
    ack := BitVec.ofNat 32 s.upl.inAck, path := b2n b, dual := s.upl.dual
    payload := if kind = 1 then [] else ((s.upl.out.find? fun e => e.seq == seq).map fun e => e.payload).getD [] }

/-- An envelope waits for path B. -/
def waitsB (s : State) (kind seq : Nat) : Bool := s.upl.bQueue.any fun e => decide (e.kind = kind) && (decide (kind = 1) || decide (e.seq.toNat = seq))

/-- An envelope goes onto a path: at once on A, at the node's next poll on B, for which it waits but once (R329, R332). -/
def putEnvelope (b : Bool) (kind seq : Nat) (s : State) : State :=
  if !b then sendEther (ownEnvelope s false kind seq) s
  else if waitsB s kind seq then s
  else modUpl (fun u => { u with bQueue := u.bQueue ++ [ownEnvelope s true kind seq] }) s

/-- The envelopes that leave on path B with the node's response, with the ACK of that moment. In native mode a data envelope that has been
acknowledged meanwhile stays away; in dual-send mode every one goes out on both paths (R330, R332, R334). -/
def waitingB (s : State) : List BkbOut :=
  (s.upl.bQueue.filter fun e => decide (e.kind = 1) || s.upl.dual || s.upl.out.any fun o => decide (o.seq = e.seq.toNat)).map fun e =>
    .envelope { e with ack := BitVec.ofNat 32 s.upl.inAck }

/-- Data envelopes of the given SEQs have been sent in this tick (R330). -/
def markSent (seqs : List Nat) (s : State) : State :=
  modUpl (fun u => { u with out := u.out.map fun e => if seqs.contains e.seq then { e with sentTick := some s.now } else e }) s

/-- Path B's envelopes have left with a response, and with them an acknowledgement (R330). -/
def sentOnB (s : State) : State :=
  if s.upl.bQueue.isEmpty then s
  else
    let s := markSent ((s.upl.bQueue.filter fun e => decide (e.kind = 0)).map fun e => e.seq.toNat) s
    modUpl (fun u => { u with bQueue := [], ackTick := s.now, ackOwed := none }) s

/-- Paths that take data: both in dual-send mode; the active one in native mode, none during a hinge (R331, R332, R334). -/
def dataPaths (s : State) : List Bool :=
  if s.upl.dual then [false, true].filter (pathOk s) else if s.upl.hinge.isSome then [] else [s.upl.activeB]

/-- Sends data envelopes, by SEQ, on every path that takes data; on path B they leave with the next response. -/
def sendData (seqs : List Nat) (s : State) : State :=
  let ps := dataPaths s
  let s := ps.foldl (fun s b => seqs.foldl (fun s q => putEnvelope b 0 q s) s) s
  if ps.contains false then markSent seqs (modUpl (fun u => { u with ackTick := s.now, ackOwed := none }) s) else s

/-- A path is recovered. -/
def pathBack (b : Bool) (s : State) : State :=
  if pathOk s b then s else
    let s := setPathOk b true s
    if uplOn s then postPath 2 b 0 s else s

/-- Tick d + 2: the new path takes the queue, in SEQ order (R332); a drill goes on (R335). -/
def finishHinge (toB : Bool) (cond : Nat) (s : State) : State :=
  let s := modUpl (fun u => { u with hinge := none, activeB := toB, hinges := min 65535 (u.hinges + 1) }) s
  let s := postPath 0 toB cond s
  let s := sendData (s.upl.out.map fun e => e.seq) s
  match s.upl.drill with
  | some d =>
    if d.step = 2 then endDrill d (if d.passed then 0 else 1) s
    else if d.mode = 0 then modUpl (fun u => { u with proveBy := some (s.now + 19200) }) s
    else putEnvelope toB 1 0 (modUpl (fun u => { u with drill := some { d with step := 1, start := s.now } }) s)
  | none => modUpl (fun u => { u with proveBy := some (s.now + 19200) }) s

/-- HINGE in the ticks after d (R332). -/
def tickHinge (s : State) : State :=
  match s.upl.hinge with
  | some (d, toB, cond) => if uplOn s ∧ d + 2 ≤ s.now then finishHinge toB cond s else s
  | none => s

/-- An envelope from the gateway on the path under proof or drill, which it is from tick d + 2 on (R333, R335). -/
def provePath (b : Bool) (s : State) : State :=
  if b ≠ s.upl.activeB ∨ s.upl.hinge.isSome then s
  else
    let s := modUpl (fun u => { u with proveBy := none, trying := none }) s
    match s.upl.drill with
    | some d =>
      if d.mode = 0 then endDrill { d with passed := true } 0 s
      else if d.step = 1 then
        let d := { d with passed := true }
        let s := postPath 4 b 4 s
        if d.mode = 2 then endDrill d 0 s
        else startHinge (!b) 4 (modUpl (fun u => { u with drill := some { d with step := 2 } }) s)
      else s
    | none => s

/-- A waiting BKB_UPL_RECV takes the oldest inbound envelope (R337). -/
def serveRecv (s : State) : State :=
  match s.upl.waits, s.upl.inbound with
  | (q, _) :: ws, e :: es =>
    let data := leBytes 2 e.payload.length ++ leBytes 4 e.seq ++ [BitVec.ofNat 8 e.path]
    completeSeq q .ok 0 data (some e.payload) (modUpl (fun u => { u with waits := ws, inbound := es }) s)
  | _, _ => s

/-- The highest SEQ up to which everything has been received. -/
def advanceAck : Nat → Nat → List Nat → Nat × List Nat
  | 0, a, l => (a, l)
  | n + 1, a, l => if l.contains (a + 1) then advanceAck n (a + 1) (l.filter fun x => x != a + 1) else (a, l)

/-- A data envelope is queued once; where the queue is full it is discarded without acknowledgement (R330). -/
def takeData (b : Bool) (e : Envelope) (s : State) : State :=
  let q := e.seq.toNat
  if q ≤ s.upl.inAck ∨ s.upl.inAhead.contains q then modUpl (fun u => { u with ackOwed := some (u.ackOwed.getD s.now) }) s
  else if 64 ≤ s.upl.inbound.length then s
  else
    let (a, l) := advanceAck (s.upl.inAhead.length + 1) s.upl.inAck (q :: s.upl.inAhead)
    serveRecv (modUpl (fun u => { u with inAck := a, inAhead := l, ackOwed := some (u.ackOwed.getD s.now),
                                         inbound := u.inbound ++ [{ seq := q, payload := e.payload, path := b2n b }] }) s)

/-- An envelope for this node; its ACK covers envelopes of its own EPOCH only (R329, R330). -/
def takeEnvelope (b : Bool) (e : Envelope) (s : State) : State :=
  let now := s.now
  let fresh := decide (s.upl.inEpoch ≠ some e.epoch)
  let s := modUpl (fun u =>
    let u := if fresh then { u with inEpoch := some e.epoch, inAck := 0, inAhead := [] } else u
    let u := { u with heardB := b, out := if e.epoch = u.epoch then u.out.filter fun x => decide (e.ack.toNat < x.seq) else u.out }
    if b then { u with lastB := now } else { u with lastA := now }) s
  let s := provePath b (pathBack b s)
  if e.kind = 0 then takeData b e s else s

/-- UPLINK_ENVELOPE (R330): one of another member is forwarded by the coordinator, from its path A to the backbone and back (R329);
any other is discarded, and so is one whose payload no frame of 1,522 bytes brings (R328, R329). -/
def execUplinkEnvelope (p : NetPath) (e : Envelope) (s : State) : Res :=
  .next (
    let b := decide (p = .b)
    if e.serial = s.fuse.serial then if uplOn s ∧ e.payload.length ≤ 1476 then takeEnvelope b e s else s
    else if s.rst.codUp ∧ s.imageRuns ∧ s.bkb.role = 2 ∧ e.payload.length ≤ 1476 then
      match slotOf s e.serial with
      | some k => if b then (if s.bkb.speed = 3 then s else sendEther e s) else queueD (BitVec.ofNat 8 k.val) (.envelope e) s
      | none => s
    else s)

/-- Data envelopes that are unacknowledged 50 ms after they were last sent, or were never sent and wait on no path (R330). -/
def dueAgain (s : State) : List Nat :=
  (s.upl.out.filter fun e => match e.sentTick with | some t => decide (t + 3200 ≤ s.now) | none => !waitsB s 0 e.seq).map fun e => e.seq

/-- ENVELOPE_RETRANSMIT (R330). -/
def execEnvelopeRetransmit (s : State) : Res :=
  .next (
    let due := dueAgain s
    if uplOn s ∧ !due.isEmpty then sendData due s else s)

/-- ACK_ENVELOPE_SEND: while data is unacknowledged, and at least every 100 ms; in dual-send mode on the path last heard (R330), in
native mode on the active one, since a standby path sends nothing (R331). -/
def execAckEnvelopeSend (s : State) : Res :=
  .next (if uplOn s ∧ s.upl.hinge = none ∧ (s.upl.ackOwed.isSome ∨ s.upl.ackTick + 6400 ≤ s.now) then
      putEnvelope (if s.upl.dual then s.upl.heardB else s.upl.activeB) 1 0
        (modUpl (fun u => { u with ackOwed := none, ackTick := s.now }) s)
    else s)

/-- PHY_LINK_DOWN (R331): ETH clears, path A fails. -/
def execPhyLinkDown (s : State) : Res :=
  .next (if s.rst.codUp then pathFail false 0 (loseReady [17] { s with bkb := { s.bkb with speed := 3 } }) else s)

/-- PHY_LINK_UP (R331): ETH sets once the MAC is configured, which the recovery loader never does (R411); path A is recovered. -/
def execPhyLinkUp (speed : Fin 3) (s : State) : Res :=
  .next (
    if s.rst.codUp then
      let s := { s with bkb := { s.bkb with speed := speed.val } }
      if s.imageRuns then pathBack false (setReady 17 true s) else s
    else s)

/-- GATEWAY_SILENT: 300 ms without an envelope on a path in use (R331), also on an active path that was never up. -/
def execGatewaySilent (p : NetPath) (s : State) : Res :=
  .next (
    let b := decide (p = .b)
    let last := if b then s.upl.lastB else s.upl.lastA
    if uplOn s ∧ (s.upl.dual ∨ (s.upl.activeB = b ∧ s.upl.hinge.isNone ∧ s.upl.proveBy.isNone ∧ s.upl.trying.isNone ∧ s.upl.drill.isNone)) ∧
        last + 19200 ≤ s.now then
      if s.upl.dual ∨ pathOk s b then pathFail b 1 s else startHinge (!b) 1 (postPath 1 b 1 s)
    else s)

/-- HINGE_PROOF_TIMEOUT (R333). -/
def execHingeProofTimeout (s : State) : Res :=
  .next (match s.upl.proveBy with
    | some t =>
      if uplOn s ∧ t ≤ s.now then
        let b := s.upl.activeB
        let s := modUpl (fun u => { u with proveBy := none, trying := some s.now }) (setPathOk b false s)
        let s := postPath 3 b 1 (setReplace 6 s)
        match s.upl.drill with
        | some d => if d.mode = 0 then endDrill d 0 s else s
        | none => s
      else s
    | none => s)

/-- PATH_TRY_SWITCH: 1 s on an unproven path, then the other (R333). -/
def execPathTrySwitch (s : State) : Res :=
  .next (match s.upl.trying with
    | some t =>
      if uplOn s ∧ t + 64000 ≤ s.now then
        let s := modUpl (fun u => { u with activeB := !u.activeB, trying := some s.now, bQueue := [] }) s
        sendData (s.upl.out.map fun e => e.seq) s
      else s
    | none => s)

/-- DRILL_TIMEOUT: no answer within 300 ms (R335). -/
def execDrillTimeout (s : State) : Res :=
  .next (match s.upl.drill with
    | some d =>
      if uplOn s ∧ d.step = 1 ∧ d.start + 19200 ≤ s.now then drillDead d 1 s else s
    | none => s)

/-! ### Descriptors (R335, R337) -/

/-- BKB_UPL_SEND (R330, R337). -/
def bkbUplSend (f : Flight) (s : State) : State :=
  if !s.upl.en then completeSt f .conflict s
  else if 64 ≤ s.upl.out.length then completeSt f .busy s
  else
    let q := s.upl.nextSeq
    let s := modUpl (fun u => { u with nextSeq := q + 1, out := u.out ++ [{ seq := q, payload := f.inBuf }] }) s
    complete f .ok 0 (leBytes 4 q ++ leBytes 2 s.upl.epoch.toNat) none (if uplOn s then sendData [q] s else s)

/-- BKB_UPL_SEND (R330). -/
def runBkbUplSend (s : State) : Res := .next (dispatch 0x0701 bkbUplSend s)

/-- BKB_UPL_RECV (R337): where RUN is 0 it times out at once. -/
def bkbUplRecv (f : Flight) (s : State) : State :=
  let ms := f.p 16 2
  if ms < 10 ∨ 60000 < ms then completeSt f .invalid s
  else if !s.hif.run then completeSt f .timeout s
  else serveRecv (keepRunning f (modUpl (fun u => { u with waits := u.waits ++ [(f.seq, s.now + 64 * ms)] }) s))

/-- BKB_UPL_RECV (R337). -/
def runBkbUplRecv (s : State) : Res := .next (dispatch 0x0702 bkbUplRecv s)

/-- BKB_UPL_RECV_TIMEOUT (R337). -/
def execBkbUplRecvTimeout (s : State) : Res :=
  .next (match s.upl.waits.find? fun w => decide (w.2 ≤ s.now) with
    | some w => completeSeq w.1 .timeout 0 [] none (modUpl (fun u => { u with waits := u.waits.filter fun x => x.1 != w.1 }) s)
    | none => s)

/-- The standby path is failed by what the A8 sees of it: the PHY link of A, membership and GW for B (R331). -/
def standbyDown (s : State) : Bool :=
  if s.upl.activeB then decide (s.bkb.speed = 3) else !(decide (s.bkb.role = 1) && s.bkb.gw)

/-- BKB_UPL_SWITCH (R335). -/
def bkbUplSwitch (f : Flight) (s : State) : State :=
  let mode := f.p 16 1
  if 2 < mode then completeSt f .invalid s
  else if !s.upl.en ∨ s.upl.dual ∨ s.bkb.role = 2 ∨ s.upl.drill.isSome then completeSt f .conflict s
  else if standbyDown s then completeSt f .denied s
  else
    let d : Drill := { flight := f.seq, mode := mode, start := s.now }
    keepRunning f (startHinge (!s.upl.activeB) 4 (modUpl (fun u => { u with drill := some d }) s))

/-- BKB_UPL_SWITCH (R335). -/
def runBkbUplSwitch (s : State) : Res := .next (dispatch 0x0703 bkbUplSwitch s)

/-! ### Registers (R336) -/

/-- A write of BKB_UPL_CFG: a change of MODE while enabled is rejected; enabling starts on the preferred path. -/
def writeUplCfg (v : Nat) (s : State) : State :=
  let en := bitAt v 0
  let dual := bitAt v 1
  let pref := bitAt v 2
  if s.upl.en ∧ dual ≠ s.upl.dual then modUpl (fun u => { u with cfgReject := true }) s
  else
    let s' := modUpl (fun u => { u with en := en, dual := dual, preferB := pref }) s
    if en ∧ !s.upl.en then
      modUpl (fun u => { u with activeB := pref, lastA := s.now, lastB := s.now, hinge := none, proveBy := none, trying := none,
                                bQueue := [] }) s'
    else if s.upl.en ∧ !en then
      let s'' := modUpl (fun u => { u with hinge := none, proveBy := none, trying := none, bQueue := [], drill := none }) s'
      match s.upl.drill with
      | some d => completeSeq d.flight .conflict 0 [] none s''
      | none => s''
    else s'

/-- BKB_UPL_CFG_WRITE (R336). -/
def execBkbUplCfgWrite (v : W32) (s : State) : Res := .next (hostAcc (writeUplCfg v.toNat) s)

/-- A write of BKB_ETH_CFG: VID is 1 to 4,094 (R336). -/
def writeEthCfg (v : Nat) (s : State) : State :=
  let vid := bitsOf v 6 12
  if vid = 0 ∨ vid = 4095 then modUpl (fun u => { u with cfgReject := true }) s
  else { s with bkb := { s.bkb with phyad := BitVec.ofNat 5 v, vlanEn := bitAt v 5, vid := vid, txdly := bitAt v 20 } }

/-- BKB_UPL_STATUS: after a reset that reaches COD its fields are rebuilt when the BKB bit sets (R15, R336). -/
def uplStatusWord (s : State) : Nat :=
  (if s.rst.codUp && s.upl.shown then flag 0 (s.upl.en && s.upl.activeB) + flag 1 s.upl.aOk + flag 2 s.upl.bOk + flag 3 s.upl.drill.isSome + field 8 7 s.upl.out.length
   else 0) + flag 4 s.upl.cfgReject + field 16 16 s.upl.hinges

end Sys2Proof.Machine
end

