-- ==== Sys2Proof/Machine/Bkb.lean ====
section
/-! DEFINITION. The Warik backbone: joining, frames, polling, surveys and the atlas (R312 to R326, R336). -/

namespace Sys2Proof.Machine

/-- Changes the backbone. -/
def modBkb (f : Bkb → Bkb) (s : State) : State := { s with bkb := f s.bkb }

/-- The backbone runs: an image runs in APD, COD is up, class 0x07 is not held, EN is 1 and a domain is set (R22, R318, R409, R411). -/
def bkbOn (s : State) : Bool :=
  s.rst.codUp && s.imageRuns && !s.rst.fnHeld.contains 0x07 && s.bkb.en && decide (s.bkb.domain ≠ 0)

/-- BKB_ROLE (R338). -/
def postRole (s : State) : State :=
  postMail 0x0701 0xFF ([BitVec.ofNat 8 s.bkb.role] ++ leBytes 8 s.bkb.coord.toNat ++ [BitVec.ofNat 8 s.bkb.slot.val]) s

/-- B_OK follows membership and GW (R331): a path B that the header opens again is recovered. -/
def checkPathB (cond : Nat) (was : Bool) (s : State) : State :=
  if s.bkb.role = 1 ∧ s.bkb.gw then (if was then s else pathBack true s) else if s.upl.bOk then pathFail true cond s else s

/-- The role changes; BKB is ready while the node is joined or is the coordinator (R27, R318, R331). -/
def setRole (role : Nat) (coord : W64) (slot : Fin 64) (join : JoinState) (s : State) : State :=
  let up := role = 1 ∨ role = 2
  let s := modBkb (fun b => { b with role := role, coord := coord, slot := slot, join := join, gw := if role = 1 then b.gw else false,
                                     poll := none, pollFrames := 0, lastPoll := none, dSyms := [], dPos := none, lastU := none,
                                     missed := [] }) s
  let s := if up then setReady 7 true (modUpl (fun u => { u with shown := true }) s) else loseReady [7] s
  postRole (checkPathB 2 false s)

/-- The node returns to R318 and listens; it keeps its slot, its tokens and its transfers (R321). -/
def rejoinDomain (s : State) : State :=
  let join : JoinState := if bkbOn s then .listening s.now else .off
  if s.bkb.role = 0 then modBkb (fun b => { b with join := join }) s else setRole 0 s.bkb.coord s.bkb.slot join s

/-- The node leaves its domain and listens (R318, R336). -/
def leaveDomain (s : State) : State :=
  modBkb (fun b => { b with slot := 0 }) (rejoinDomain s)

/-- Slots of the members in a state, ascending, but for the own one. -/
def slotsIn (s : State) (st : SlotState) : List (Fin 64) :=
  (allFin 64).filter fun k => decide ((s.sct.ledger[k.val]).state = st ∧ k ≠ s.bkb.slot)

/-- The first slot after one, around the ring, that a list holds. -/
def nextAfter (k : Fin 64) (l : List (Fin 64)) : Option (Fin 64) :=
  match l.find? fun j => decide (k < j) with
  | some j => some j
  | none => l.head?

/-- A carrier is quiet, or lies in an enabled notch (R313). -/
def barred (notch : Vector Notch 16) (k : Nat) : Bool :=
  decide (k < 4 ∨ 1020 ≤ k) || notch.toList.any fun n => n.en && decide (n.first ≤ k ∧ k ≤ n.last)

/-- The robust tone map, number 0: 1 bit on every carrier that is neither quiet nor notched (R313). -/
def robustMap (notch : Vector Notch 16) : List Nat := (List.range 1024).map fun k => if barred notch k then 0 else 1

/-- The bit on every carrier of tone map 0, in ascending order, of the header's symbol: the 448 coded bits, repeated from the first (R316). -/
def headerCarriers (notch : Vector Notch 16) (h : Header) : List Bool :=
  (List.range (robustMap notch).sum).map fun i => Config.headerCode (headerBytes h) (i % 448)

/-- The header of a frame goes out in symbol slot 1 (R315, R316). -/
def cryHeader (h : Header) (s : State) : State := cry (.header h (headerCarriers s.bkb.notchNow h)) s

/-! ### Codewords, interleaver and erasure (R314) -/

/-- Symbols of an interleaver block, by the code of DEPTH (R336). -/
def depthOf (code : Nat) : Nat := 16 * 2 ^ code

/-- Percent of a codeword's bits that may be erased, by the code of RATE (R314). -/
def erasable (rate : Nat) : Nat := [40, 25, 18, 10].getD rate 0

/-- A symbol is erased in full: the energy on its quiet carriers is more than 12 dB above the noise floor, 10·log10(e/floor) > 12. -/
def erasedSymbol (floor e : Nat) : Bool := decide (10 ^ 6 * floor ^ 5 < e ^ 5)

/-- Symbol of a block of d symbols to which coded bit p goes. -/
def symbolOf (d p : Nat) : Nat := p % d

/-- Coded bits below p that go to symbol i of a block of d symbols. -/
def bitsBelow (d i p : Nat) : Nat := (p + d - 1 - i) / d

/-- Erased bits of codeword c of a block whose erased symbols are given. -/
def erasedBits (erased : List Bool) (c : Nat) : Nat :=
  let d := erased.length
  (erased.zipIdx.map fun e => if e.1 then bitsBelow d e.2 (4320 * (c + 1)) - bitsBelow d e.2 (4320 * c) else 0).sum

/-- Every codeword of a block stays within the erased fraction of its rate, both in whole percent: only so does every burst of the manual's
table survive, as 16 symbols at depth 64 and rate 2/3, where a codeword loses up to 1,088 bits (log 163). -/
def withinFraction (rate bps : Nat) (erased : List Bool) : Bool :=
  let n := erased.length * bps / 4320
  decide (0 < n) && (List.range n).all fun c => decide (100 * erasedBits erased c < erasable rate * 4320 + 2160)

/-- A block is decoded: its codewords are corrected where their other bits are free of errors, an outcome that stays open where they are
not (log 163). -/
def blockDecodes (rate bps : Nat) (erased : List Bool) (clean : Bool) (s : State) : Bool × State :=
  if withinFraction rate bps erased then (if clean then (true, s) else drawBool s) else (false, s)

/-! ### The space of D (R313, R314, R317) -/

/-- Payload bytes of a codeword, by the code of RATE (R314). -/
def codewordBytes (rate : Nat) : Nat := [270, 360, 405, 450].getD rate 0

/-- The tone map of D in use: number 0 before the first survey, and never a carrier in an enabled notch of the sender (R313, R325). -/
def dMapNow (s : State) : List Nat :=
  if s.bkb.dMap.isEmpty then robustMap s.bkb.notchNow
  else s.bkb.dMap.zipIdx.map fun x => if barred s.bkb.notchNow x.2 then 0 else x.1

/-- Whole codewords that a D segment holds (R314). -/
def dCodewords (s : State) : Nat := 22 * (dMapNow s).sum / 4320

/-- Payload bytes of a D segment. -/
def dSpace (s : State) : Nat := dCodewords s * codewordBytes s.bkb.rateNow

/-- An envelope longer than a D segment is cut into fragments (R317). -/
def cutUp (space : Nat) (c : Byte × BkbOut) : List (Byte × BkbOut) :=
  match c.2 with
  | .envelope e =>
    let b := envelopeBytes e
    let n := space - 8
    if b.length + 4 ≤ space ∨ n = 0 then [c]
    else
      let parts := (b.length + n - 1) / n
      (List.range parts).map fun i => (c.1, .fragment i parts ((b.drop (i * n)).take n))
  | _ => [c]

/-- Place of a container in D: by TYPE, with RESOLVE and MOVE after the digest (R302, R317). -/
def BkbOut.rank (o : BkbOut) : Nat :=
  match o with
  | .tok mtype _ => if mtype = 6 ∨ mtype = 9 then 5 else 2
  | o => 2 * o.type.getD 8

/-- The containers that fit, in order, and those from the first that does not, which wait for the next frame (R317). -/
def takeFit : Nat → List (Byte × BkbOut) → List (Byte × BkbOut) × List (Byte × BkbOut)
  | _, [] => ([], [])
  | space, c :: cs =>
    let n := (c.2.bytes c.1).length
    if n ≤ space then ((c :: (takeFit (space - n) cs).1), (takeFit (space - n) cs).2) else ([], c :: cs)

/-- A digest that has gone out is kept as the last one, and what waits for its edition completes (R302, R310). -/
def afterSent (o : BkbOut) (s : State) : State :=
  match o with
  | .digest d _ => budgetShown d.budgetEd { s with sct := { s.sct with digest := some d } }
  | _ => s

/-- The D segment of this frame: what fits of the containers that wait, in whole codewords, and zeros to the end of the segment (R314, R317;
log 184). -/
def sendD (s : State) : State :=
  if s.bkb.dQueue.isEmpty then s
  else
    let space := dSpace s
    let q := takeFit space (sortNat (fun c => c.2.rank) (s.bkb.dQueue.flatMap (cutUp space)))
    let dfn := s.bkb.dfn
    let s := modBkb (fun b => { b with dQueue := q.2, sent := (q.1.filter fun c => decide (c.1 ≠ 0xFF)).map (fun c => (dfn, c)) ++ b.sent }) s
    let s := q.1.foldl (fun s c => afterSent c.2 (cryTo c.1 c.2 s)) s
    let n := dCodewords s
    cry (.segment n (8 * (space - (q.1.map fun c => (c.2.bytes c.1).length).sum) + (22 * (dMapNow s).sum - 4320 * n))) s

/-! ### The coordinator's frames (R315 to R323) -/

/-- Relays of the cheapest route that is not marked failed; none known is the direct one (R325). -/
def routeTo (s : State) (k : Fin 64) : List (Fin 64) :=
  ((s.bkb.atlas[k.val]).find? fun r => decide (r.failedUntil = none)).elim [] (·.relays)

/-- The header of this frame (R316). -/
def headerNow (owner role target : Nat) (retry : Bool) (s : State) : Header :=
  { dfn := BitVec.ofNat 32 s.bkb.dfn, coord := s.fuse.serial, station := s.vlk.macBase + 9, domain := s.bkb.domain,
    uOwner := BitVec.ofNat 8 owner, uRole := role, target := BitVec.ofNat 8 target, gw := s.upl.aOk, retry := retry,
    depth := s.bkb.depthNow, rate := s.bkb.rateNow, tmap := if s.bkb.dMap.isEmpty then 0 else Config.dToneMap s.bkb.dMap, crcOk := true }

/-- Before a poll, what the ledger makes the coordinator ask of this member or tell it (R301). -/
def pollPrep (k : Fin 64) (s : State) : State :=
  let serial := (s.sct.ledger[k.val]).serial
  (doubtful s).foldl (fun s m =>
    let known := (verdictOf s m.sender m.xid.toNat).isSome
    if m.receiver = s.fuse.serial ∨ (known ∧ (m.sender = serial ∨ m.sender = s.fuse.serial)) ∨ (!known ∧ m.receiver = serial) then askDoubt m s
    else s) s

/-- COMMIT of every transfer to a member that waits for its ACK (R297). -/
def commitsFor (s : State) (dst : Option W64) : List (Nat × TokMsg) :=
  (s.sct.tok.xfers.filter fun x => decide (x.state = .commitSent) && (match dst with | some w => decide (x.receiver = w) | none => true)).map
    fun x => (4, x.msg s)

/-- The containers that the poll of a member brings into D, those of missed blocks again among them (R302, R303, R317, R323). -/
def sendDown (k : Fin 64) (s : State) : State :=
  let s := refreshSelf (pollPrep k s)
  let mine := s.bkb.down.filter fun d => decide (d.1 = k)
  let commits := (commitsFor s (some (s.sct.ledger[k.val]).serial)).map fun c => (k, c.2, c.1)
  let dst : Byte := BitVec.ofNat 8 k.val
  let again := (s.bkb.again.filter fun d => decide (d.1 = k)).map fun d => (dst, d.2)
  let toks := (mine ++ commits).map fun d => (dst, BkbOut.tok d.2.2 d.2.1)
  let d : Digest := { digestNow s with own := (s.sct.ledger[k.val]).held.toList }
  let rel := releasesFor s k
  modEntry k (fun e => { e with relAt := e.relAt + 1 }) (modBkb (fun b => { b with
    down := b.down.filter fun d => decide (d.1 ≠ k)
    again := b.again.filter fun d => decide (d.1 ≠ k)
    dQueue := b.dQueue ++ again ++ toks ++ [(dst, .digest d rel)] }) s)

/-- One frame of a poll: down relays, the member, up relays (R322). -/
def pollFrame (p : Poll) (s : State) : State :=
  let k := p.relays.length
  let i := 2 * k + 1 - p.left
  let owner := if i < k then (p.relays.getD i p.slot).val else if i = k then p.slot.val else (p.relays.getD (2 * k - i) p.slot).val
  let role := if i < k then 1 else if i = k then 0 else 2
  let s := cryHeader (headerNow owner role p.slot.val p.retry s) s
  let s := if i = 0 ∧ !p.retry then sendDown p.slot s else s
  modBkb (fun b => { b with poll := some { p with left := p.left - 1 } }) s

/-- The member of the next poll (R322): absent members once per second, between the turns of the present ones. -/
def nextPoll (s : State) : State :=
  let present_ := slotsIn s .present
  let s := if s.bkb.absentTick + 64000 ≤ s.now then modBkb (fun b => { b with absentTick := s.now, absentDue := slotsIn s .absent }) s else s
  let start (k : Fin 64) (s : State) : State :=
    let r := routeTo s k
    pollFrame { slot := k, relays := r, left := 2 * r.length + 1 } s
  let idle (s : State) : State := cryHeader (headerNow 0xFF 5 0xFF false s) s
  match s.bkb.absentDue with
  | k :: ks =>
    if !s.bkb.lastAbsent ∨ present_.isEmpty then start k (modBkb (fun b => { b with absentDue := ks, lastAbsent := true }) s)
    else match nextAfter s.bkb.lastSlot present_ with
      | some j => start j (modBkb (fun b => { b with lastSlot := j, lastAbsent := false }) s)
      | none => idle s
  | [] => match nextAfter s.bkb.lastSlot present_ with
    | some j => start j (modBkb (fun b => { b with lastSlot := j, lastAbsent := false }) s)
    | none => idle s

/-- The result of an exchange over a route: two failures in a row mark it failed for 30 s (R325). -/
def routeResult (p : Poll) (ok : Bool) (now : Tick) (r : Route) : Route :=
  if r.relays ≠ p.relays then r
  else if ok then { r with fails := 0 }
  else if r.fails = 0 then { r with fails := 1 }
  else { r with fails := 0, failedUntil := some (now + 1920000) }

/-- An exchange has failed: up to two retries, then the turn passes (R323). -/
def pollFailed (p : Poll) (s : State) : State :=
  if p.retries < 2 then
    modBkb (fun b => { b with poll := some { p with left := 2 * p.relays.length + 1, retry := true, retries := p.retries + 1 } }) s
  else
    let now := s.now
    modBkb (fun b => { b with poll := none, atlas := vmod b.atlas p.slot fun l => l.map (routeResult p false now) }) s

/-- A piece joins the containers of D, at RELAY_SHARE in every 16 frames: one of another source, else the next of the own relay, over and over
in piece order, since no report says which pieces a member lacks (R327; log 170). A piece that still waits for space is not joined by another. -/
def nextPiece (s : State) : State :=
  let run := s.bkb.dfn / 16
  let n := if s.bkb.pieceRun.1 = run then s.bkb.pieceRun.2 else 0
  if s.bkb.relayShare ≤ n ∨ s.bkb.dQueue.any (fun c => decide (c.2.type = some 4)) then s
  else match s.bkb.pieces with
    | (id, i, d) :: rest => queueD 0xFF (.piece id i d) (modBkb (fun b => { b with pieces := rest, pieceRun := (run, n + 1) }) s)
    | [] => match s.bkb.relay with
      | some r =>
        let next := if r.next + 1 < r.pieces then r.next + 1 else 0
        let (d, s) := readPiece r.slot r.next s
        queueD 0xFF (.piece r.imageId r.next d) (modBkb (fun b => { b with relay := some { r with next := next }, pieceRun := (run, n + 1) }) s)
      | none => s

/-- The header of the frame of this DFN, with the sounding or the poll that it announces (R318, R322, R324). -/
def frameHead (s : State) : State :=
  let d := s.bkb.dfn
  if d % 128 = 0 then cry .sounding (cryHeader (headerNow 0xFF 5 0xFF false s) s)
  else if d % 128 = 1 then cryHeader (headerNow 0xFF 4 0xFF false s) s
  else if d % 128 = 64 then
    match nextAfter s.bkb.lastSound (slotsIn s .present) with
    | some k => cryHeader (headerNow k.val 3 0xFF false s) (modBkb (fun b => { b with lastSound := k }) s)
    | none => cryHeader (headerNow 0xFF 4 0xFF false s) s
  else
    let s := match s.bkb.poll with
      | some p => if p.left = 0 then pollFailed p s else s
      | none => s
    match s.bkb.poll with
    | some p => pollFrame p s
    | none => nextPoll s

/-- What the frame of this DFN carries: its header and, where the coordinator does not sound in it, D (R315, R324). -/
def frameContent (s : State) : State :=
  if s.bkb.dfn % 128 = 0 then frameHead s else sendD (nextPiece (frameHead s))

/-- BACKBONE_FRAME: every 128 ticks of the own graticule; one frame in every run of 64 stays silent (R315, R319, R320). -/
def backboneFrame (s : State) : State :=
  let s := modBkb (fun b => { b with dfn := (b.dfn + 1) % 2 ^ 32, frameTick := s.now, notchNow := b.notch }) s
  let s := if s.bkb.dfn % 500 = 0 then modBkb (fun b => { b with depthNow := b.depth, rateNow := b.rate }) s else s
  let s := if s.bkb.dfn % 64 = 0 then
      let (x, s) := drawNat s
      modBkb (fun b => { b with silentAt := x % 64 }) s
    else s
  if s.bkb.dfn % 64 = s.bkb.silentAt then s else frameContent s

/-- BACKBONE_FRAME (R315). -/
def execBackboneFrame (s : State) : Res :=
  .next (if bkbOn s ∧ s.bkb.role = 2 ∧ s.now % 128 = 0 ∧ (s.bkb.frameTick ≠ s.now ∨ s.now = 0) then backboneFrame s else s)

/-- A member has been heard: present again. -/
def hear (k : Fin 64) (s : State) : State :=
  modEntry k (fun e => { e with lastTick := s.now, state := if e.state = .absent then .present else e.state }) s

/-- BKB_RELAY (R338). -/
def postRelay (k : Nat) (r : Relay) (s : State) : State :=
  postMail 0x0703 0xFF ([BitVec.ofNat 8 k] ++ leBytes 4 r.imageId.toNat ++
    [BitVec.ofNat 8 (r.lacking.filter fun x => decide (0 < x.2.getD 0)).length]) s

/-- Every present member has reported since the relay began, one at least has armed reception, and none of those lacks a piece (R327). -/
def Relay.over (r : Relay) (members : List (Fin 64)) : Bool :=
  members.all (fun k => r.lacking.any fun x => decide (x.1 = k)) && r.lacking.any (fun x => x.2.isSome) &&
    r.lacking.all fun x => decide (x.2.getD 0 = 0)

/-- A member reports what it lacks; the relay ends when every member that has armed reception lacks no piece (R327). -/
def relayReport (k : Fin 64) (lacking : Option Nat) (s : State) : State :=
  match s.bkb.relay with
  | some r =>
    let r := { r with lacking := (k, lacking) :: r.lacking.filter fun x => decide (x.1 ≠ k) }
    if r.over (slotsIn s .present) then
      postRelay 1 r (modBkb (fun b => { b with relay := none }) s)
    else modBkb (fun b => { b with relay := some r }) s
  | none => s

/-- What a response's list of missed blocks makes the coordinator send again: the containers for this member whose frame shares a symbol
with a missed block (R315, R323). -/
def sentAgain (slot : Fin 64) (missed : List Nat) (s : State) : List (Nat × Byte × BkbOut) :=
  let d := depthOf s.bkb.depthNow
  s.bkb.sent.filter fun e => decide (e.2.1 = BitVec.ofNat 8 slot.val) && missed.any fun b => decide (b < 22 * (e.1 + 1) ∧ 22 * e.1 < b + d)

/-- A response has arrived (R323, R325, R327). No block spans more than four frames, so a container is settled four frames after its own. -/
def heardResponse (p : Poll) (missed : List Nat) (lacking : Option Nat) (s : State) : State :=
  let now := s.now
  let again := sentAgain p.slot missed s
  let s := modBkb (fun b => { b with poll := none, again := b.again ++ again.map (fun e => (p.slot, e.2.2))
                                     sent := b.sent.filter fun e => decide (e.2.1 ≠ BitVec.ofNat 8 p.slot.val ∨ b.dfn < e.1 + 4) && !again.contains e
                                     atlas := vmod b.atlas p.slot fun l => l.map (routeResult p true now) }) s
  relayReport p.slot lacking (hear p.slot s)

/-- POLL_RESPONSE (R314, R323): the U segment is one block, with d its length in symbols. -/
def pollResponse (slot : Fin 64) (u : Option SegmentRx) (missed : List Nat) (lacking : Option Nat) (s : State) : State :=
  match s.bkb.poll with
  | some p =>
    if p.slot ≠ slot ∨ p.relays.length < p.left then s
    else match u with
      | none => pollFailed p s
      | some rx =>
        let (ok, s) := blockDecodes s.bkb.rateNow rx.bps ((rx.quiet.take 22).map (erasedSymbol rx.floor)) rx.clean s
        if ok then heardResponse p missed lacking s else pollFailed p s
  | none => s

/-- POLL_RESPONSE (R323). -/
def execPollResponse (slot : Fin 64) (u : Option SegmentRx) (missed : List Nat) (lacking : Option Nat) (s : State) : Res :=
  .next (if bkbOn s ∧ s.bkb.role = 2 then pollResponse slot u missed lacking s else s)

/-! ### Joining (R318 to R321) -/

/-- A slot of the ledger under a new coordinator: its member is kept until retirement, but absent and unreported until it is heard again
(R299, R321). -/
def LedgerEntry.anew (now : Tick) (e : LedgerEntry) : LedgerEntry :=
  if e.state = .free then {}
  else { serial := e.serial, state := if e.state = .retiring then .retiring else .absent, lastDfn := e.lastDfn, lastTick := now }

/-- The slot of a new coordinator: its own in the ledger it knows, else the one it has, else the lowest free one (R321; log 169). -/
def coordSlot (s : State) : Fin 64 :=
  let free (k : Fin 64) : Bool := decide ((s.sct.ledger[k.val]).state = .free)
  match slotOf s s.fuse.serial with
  | some k => k
  | none => if free s.bkb.slot then s.bkb.slot else ((allFin 64).find? free).getD 0

/-- A node becomes coordinator: every slot that it knows of is kept, and it counts on from its local count; in LEDGER_DOUBT it takes its own
holdings from its own last report (R297, R299, R318, R320, R321). -/
def becomeCoordinator (s : State) : State :=
  let s := { s with sct := { s.sct with ledger := s.sct.ledger.map (LedgerEntry.anew s.now) } }
  let s := modBkb (fun b => { b with down := [], again := [], sent := [], dQueue := [], lastSlot := 0, lastSound := 0, absentTick := s.now,
                                     absentDue := [], atlas := Vector.replicate 64 [], links := [], dMap := [], depthNow := b.depth,
                                     rateNow := b.rate }) s
  let s := joinTokens s.bkb.domain s
  let s := if s.sct.domainMode then takeBack s.sct.ownHeld s else s
  refreshSelf (setRole 2 s.fuse.serial (coordSlot s) .joined s)

/-- BECOME_COORDINATOR: 500 frame times without a header of the domain, with COORD_EN (R318), also by a node that had been refused. -/
def execBecomeCoordinator (s : State) : Res :=
  .next (
    let quiet : Bool := match s.bkb.join with
      | .listening t => decide (t + 64000 ≤ s.now)
      | .asking => true
      | _ => false
    if bkbOn s ∧ s.bkb.coordEn ∧ ((s.bkb.role = 0 ∧ quiet) ∨ (s.bkb.role = 3 ∧ s.sct.refused)) ∧ s.bkb.headerTick + 64000 ≤ s.now then becomeCoordinator s else s)

/-- HEADER_LOSS_REJOIN: 250 frame times without a valid header (R321). -/
def execHeaderLossRejoin (s : State) : Res :=
  .next (if bkbOn s ∧ s.bkb.role = 1 ∧ s.bkb.headerTick + 32000 ≤ s.now then rejoinDomain s else s)

/-- JOIN_REQUEST (R320, R321, R295, R307); the answer goes out in D. -/
def joinRequest (serial : W64) (count : W32) (s : State) : State :=
  let s := if s.bkb.dfn ≤ count.toNat then modBkb (fun b => { b with dfn := count.toNat }) s else s
  if s.sct.retired.contains serial then
    queueD 0xFF (.joinAnswer serial .retired) { s with sct := { s.sct with retired := s.sct.retired.filter fun x => decide (x ≠ serial) } }
  else match slotOf s serial with
    | some k => queueD 0xFF (.joinAnswer serial (.slot k)) (hear k s)
    | none => match (allFin 64).find? fun k => decide ((s.sct.ledger[k.val]).state = .free) with
      | some k =>
        let s := modEntry k (fun _ => { serial := serial, state := .present, lastTick := s.now, lastDfn := s.bkb.dfn }) s
        postMember 0 serial k.val (queueD 0xFF (.joinAnswer serial (.slot k)) s)
      | none => postMember 3 serial 0xFF (queueD 0xFF (.joinAnswer serial .refused) s)

/-- JOIN_REQUEST (R321). -/
def execJoinRequest (serial : W64) (count : W32) (s : State) : Res := .next (if bkbOn s ∧ s.bkb.role = 2 then joinRequest serial count s else s)

/-- JOIN_ANSWER (R294, R295, R307, R321). -/
def joinAnswer (domain : W32) (coord : W64) (r : JoinReply) (s : State) : State :=
  if domain ≠ s.bkb.domain ∨ s.bkb.join ≠ .asking then s
  else match r with
    | .slot k => setRole 1 coord k .joined (joinTokens domain s)
    | .refused => setRole 3 coord 0 .off (refuseNode s)
    | .retired => if s.sct.domainMode then handOver (discardTokens s) else s

/-- JOIN_ANSWER (R294). -/
def execJoinAnswer (domain : W32) (coord : W64) (r : JoinReply) (s : State) : Res := .next (if bkbOn s then joinAnswer domain coord r s else s)

/-! ### A member's frames (R318 to R324) -/

/-- Pieces that an armed image of the inactive slot still lacks, none where its host has not armed reception from the backbone (R327,
R405). -/
def lackingHere (s : State) : Option Nat :=
  let x := s.upd.slot.toList.getD (1 - s.upd.confSlot.val) {}
  if s.upd.armed && !s.upd.trial && x.sources.getLsbD 1 then
    some ((List.range x.pieces).filter fun i => !x.bitmap.getLsbD i).length
  else none

/-- The two pieces that a response of a relay source carries (R327). -/
def relayPieces (s : State) : List BkbOut × State :=
  match s.bkb.relay with
  | some r =>
    let j := (r.next + 1) % r.pieces
    let (a, s) := readPiece r.slot r.next s
    let (b, s) := readPiece r.slot j s
    ([.piece r.imageId r.next a, .piece r.imageId j b], s)
  | none => ([], s)

/-- What a response carries: the report, token messages, missed blocks, the survey, lacking pieces and envelopes (R297, R300,
R323, R327). -/
def response (s : State) : List BkbOut :=
  [.report (selfReport s)] ++ (s.bkb.up ++ commitsFor s none).map (fun t => .tok t.1 t.2) ++ [.arq s.bkb.missed] ++
    (if s.bkb.links.isEmpty then [] else [.survey s.bkb.links]) ++ (lackingHere s).toList.map .lacking ++ waitingB s

/-- The node responds in U; RETRY makes it send the same content again (R323). -/
def respond (retry : Bool) (s : State) : State :=
  let from_ : Byte := BitVec.ofNat 8 s.bkb.slot.val
  let (ps, s) := if retry then ([], s) else relayPieces s
  let out := if retry then s.bkb.lastResp else response s ++ ps
  let s := if retry then s else
    keepOwn (sentOnB (modBkb (fun b => { b with
      lastResp := out, up := [], missed := [], links := []
      relay := b.relay.map fun r => { r with next := (r.next + 2) % r.pieces } }) s))
  out.foldl (fun s o => cryTo from_ o s) s

/-- The containers of a segment that are for one slot (R317). -/
def containersFor (slot : Byte) : Nat → List Byte → List Byte
  | 0, _ => []
  | fuel + 1, l =>
    if l.length < 4 then []
    else
      let n := 4 + beAt l 2 2
      (if byteAt l 1 = slot.toNat then l.take n else []) ++ containersFor slot fuel (l.drop n)

/-- What a relay forwards: the first one of a poll the containers for the target that D of this frame carries, every other one what it heard
in U of the frame before (R322). -/
def relayData (h : Header) (rx : SegmentRx) (s : State) : List Byte :=
  if h.uRole = 1 ∧ s.bkb.lastU ≠ some (h.dfn.toNat - 1, 1, h.target) then containersFor h.target rx.bytes.length rx.bytes else rx.uBefore

/-- A node that is not the coordinator relays, sounds, or responds in U (R322, R324). -/
def actInFrame (h : Header) (rx : SegmentRx) (s : State) : State :=
  let mine := decide (h.uOwner.toNat = s.bkb.slot.val)
  if h.uRole = 0 ∧ mine then
    let gap := match s.bkb.lastPoll with | some d => min 255 (h.dfn.toNat - d) | none => 0
    let s := if h.retry then s else modBkb (fun b => { b with pollFrames := gap, lastPoll := some h.dfn.toNat }) s
    respond h.retry s
  else if (h.uRole = 1 ∨ h.uRole = 2) ∧ mine then cry (.relayed (decide (h.uRole = 1)) h.target (relayData h rx s)) s
  else if h.uRole = 3 ∧ mine then cry .sounding s
  else s

/-- A block of the D stream is complete: one that cannot be decoded is reported (R315, R323). -/
def endBlock (rate bps d : Nat) (s : State) (b : Nat) : State :=
  let syms := (List.range d).map fun i => (s.bkb.dSyms.find? fun y => y.pos == b + i).getD { pos := b + i, erased := true, clean := true }
  let (ok, s) := blockDecodes rate bps (syms.map (·.erased)) (syms.all (·.clean)) s
  if ok then s else modBkb (fun k => { k with missed := k.missed ++ [b] }) s

/-- First block of d symbols that is still to be settled at position p: after those settled before, a loss of at most 250 frames among them
(R321), else the first that begins at p or later. -/
def firstBlock (d p : Nat) (s : State) : Nat :=
  match s.bkb.dPos with
  | some q => if p ≤ q + 5500 then q / d else (p + d - 1) / d
  | none => (p + d - 1) / d

/-- The D segment of a frame: its 22 symbols join the stream, and every block that has ended since the last one is decoded, also one whose
frames were lost (R315, R323). -/
def takeD (h : Header) (rx : SegmentRx) (s : State) : State :=
  let d := depthOf h.depth
  let p := 22 * h.dfn.toNat
  let b0 := firstBlock d p s
  let new : List DSym := (List.range 22).map fun i =>
    { pos := p + i, erased := (rx.quiet[i]?).elim true (erasedSymbol rx.floor), clean := rx.clean }
  let ends := (List.range ((p + 22) / d - b0)).map fun i => (b0 + i) * d
  let s := ends.foldl (endBlock h.rate rx.bps d) (modBkb (fun b => { b with dSyms := b.dSyms ++ new }) s)
  modBkb (fun b => { b with dSyms := b.dSyms.filter (fun y => decide ((p + 22) / d * d ≤ y.pos)), dPos := some (p + 22) }) s

/-- A member handles a header of its domain and the D segment of its frame (R315, R320, R331). -/
def memberHeader (h : Header) (d : SegmentRx) (s : State) : State :=
  if (match s.bkb.lastDfn with | some d => decide (h.dfn.toNat ≤ d) | none => false) then s
  else
    let was := s.bkb.gw
    let s := modBkb (fun b => { b with dfn := h.dfn.toNat, lastDfn := some h.dfn.toNat, headerTick := s.now, gw := h.gw, notchNow := b.notch,
                                       depthNow := h.depth, rateNow := h.rate }) s
    if h.coord ≠ s.bkb.coord then setRole 0 h.coord s.bkb.slot .asking s
    else modBkb (fun b => { b with lastU := some (h.dfn.toNat, h.uRole, h.target) }) (actInFrame h d (takeD h d (checkPathB 3 was s)))

/-- A node on its way into a domain hears a header; its count never falls, and its join request begins after 0 to 15 symbols, drawn at
random (R318, R320). -/
def seekerHeader (h : Header) (s : State) : State :=
  let s := modBkb (fun b => { b with dfn := max b.dfn h.dfn.toNat, lastDfn := some (max b.dfn h.dfn.toNat), headerTick := s.now }) s
  let s := match s.bkb.join with
    | .listening t => if t + 64000 ≤ s.now then modBkb (fun b => { b with join := .asking }) s else s
    | _ => s
  if s.bkb.join = .asking ∧ h.uRole = 4 then
    let (x, s) := drawNat s
    cry (.joinRequest s.fuse.serial (BitVec.ofNat 32 s.bkb.dfn) (x % 16)) s
  else s

/-- A coordinator hears another one of its domain: the lower serial wins, then the lower station address (R319). -/
def rivalHeader (h : Header) (s : State) : State :=
  if h.coord < s.fuse.serial ∨ (h.coord = s.fuse.serial ∧ h.station < s.vlk.macBase + 9) then
    let s := modBkb (fun b => { b with lastDfn := none, headerTick := s.now }) s
    setRole 0 h.coord s.bkb.slot .asking s
  else if h.coord = s.fuse.serial ∧ h.station = s.vlk.macBase + 9 then setRole 3 s.bkb.coord s.bkb.slot .off s
  else s

/-- FRAME_HEADER (R319, R320). -/
def execFrameHeader (f : Header × SegmentRx) (s : State) : Res :=
  let h := f.1
  .next (if bkbOn s ∧ h.crcOk ∧ h.domain = s.bkb.domain then
      (if s.bkb.role = 2 then rivalHeader h s
       else if s.bkb.role = 1 then memberHeader h f.2 s
       else if s.bkb.role = 0 ∨ s.sct.refused then seekerHeader h s
       else s)
    else s)

/-! ### Surveys and the atlas (R313, R324 to R326) -/

/-- Bits per symbol of the loadings, in the order of R313. -/
def loadings : List Nat := [0, 1, 2, 3, 4, 6, 8, 10]

/-- The tone map of a link from the measured SNR per carrier (R324). -/
def toneMap (notch : Vector Notch 16) (snr : List Nat) : List Nat :=
  (List.range 1024).map fun k => if barred notch k then 0 else loadings.getD (Config.toneLoad (snr.getD k 0)).val 0

/-- A link of a survey replaces the older one with the same ends. -/
def mergeLink (ls : List LinkRep) (l : LinkRep) : List LinkRep := l :: ls.filter fun x => decide (¬(x.src = l.src ∧ x.dst = l.dst))

/-- Cost of a direction, none below 256 bits per symbol (R324). -/
def dirCost (ls : List LinkRep) (a b : Fin 64) : Option Nat :=
  match ls.find? fun l => decide (l.src = a ∧ l.dst = b) with
  | some l => if l.bps < 256 then none else some ((1000000 + l.bps - 1) / l.bps)
  | none => none

/-- Cost of a hop: the higher of its two directions (R325). -/
def hopCost (ls : List LinkRep) (a b : Fin 64) : Option Nat :=
  match dirCost ls a b, dirCost ls b a with
  | some x, some y => some (max x y)
  | _, _ => none

/-- Cost of a path. -/
def pathCost (ls : List LinkRep) : List (Fin 64) → Option Nat
  | a :: b :: t => match hopCost ls a b, pathCost ls (b :: t) with
    | some x, some y => some (x + y)
    | _, _ => none
  | _ => some 0

/-- Relay lists of 0 to n relays from a set, without repeats. -/
def relayLists (ks : List (Fin 64)) : Nat → List (List (Fin 64))
  | 0 => [[]]
  | n + 1 => [] :: ks.flatMap fun k => (relayLists (ks.filter fun j => decide (j ≠ k)) n).map fun l => k :: l

/-- Up to 4 routes: the cheapest ones with different first hops, then the cheapest of the rest, in ascending cost (R325). -/
def pickRoutes (l : List Route) : List Route :=
  let first := l.foldl (fun acc r => if acc.any fun x => decide (x.relays.head? = r.relays.head?) then acc else acc ++ [r]) []
  let first := first.take 4
  let rest := (l.filter fun r => !first.contains r).take (4 - first.length)
  sortNat (fun r => r.cost) (first ++ rest)

/-- ATLAS: routes from the coordinator to a slot; a mark of failure stays with its route (R325). -/
def routesTo (own k : Fin 64) (ls : List LinkRep) (members : List (Fin 64)) (old : List Route) : List Route :=
  let ks := members.filter fun j => decide (j ≠ own ∧ j ≠ k)
  let cands := (relayLists ks 3).filterMap fun rs => (pathCost ls (own :: rs ++ [k])).map fun c =>
    match old.find? fun r => decide (r.relays = rs) with
    | some r => { r with cost := c }
    | none => { relays := rs, cost := c : Route }
  pickRoutes (sortNat (fun r => r.cost) cands)

/-- The tone map of D: carrier by carrier the lowest loading over the direct links to the present members (R325), none in the coordinator's
own notches (R313). -/
def dToneMap (s : State) : List Nat :=
  let ls := s.bkb.links.filter fun l => decide (l.src = s.bkb.slot) && decide (256 ≤ l.bps) && (slotsIn s .present).contains l.dst
  match ls with
  | [] => []
  | l :: t => (List.range 1024).map fun c => if barred s.bkb.notchNow c then 0 else t.foldl (fun m x => min m (x.map.getD c 0)) (l.map.getD c 0)

/-- The coordinator rebuilds the atlas and the tone map of D (R325). -/
def rebuildAtlas (s : State) : State :=
  let members := (allFin 64).filter fun k => decide ((s.sct.ledger[k.val]).state ≠ .free)
  modBkb (fun b => { b with dMap := dToneMap s
                            atlas := Vector.ofFn fun k => if members.contains k ∧ k ≠ b.slot then routesTo b.slot k b.links members b.atlas[k.val] else [] }) s

/-- SOUNDING: a tone map of the link, reported in the next response, or kept by the coordinator itself (R324). -/
def sounding (src : Fin 64) (snr : List Nat) (s : State) : State :=
  let map := toneMap s.bkb.notchNow snr
  let l : LinkRep := { src := src, dst := s.bkb.slot, bps := map.sum, map := map }
  let s := modBkb (fun b => { b with maps := (src, map) :: b.maps.filter (fun m => decide (m.1 ≠ src)), links := mergeLink b.links l }) s
  if s.bkb.role = 2 then rebuildAtlas s else s

/-- SOUNDING (R324). -/
def execSounding (src : Fin 64) (snr : List Nat) (s : State) : Res :=
  .next (if bkbOn s ∧ (s.bkb.role = 1 ∨ s.bkb.role = 2) ∧ src ≠ s.bkb.slot then sounding src snr s else s)

/-- SURVEY_REPORT (R325). -/
def execSurveyReport (links : List LinkRep) (s : State) : Res :=
  .next (if bkbOn s ∧ s.bkb.role = 2 then rebuildAtlas (modBkb (fun b => { b with links := links.foldl mergeLink b.links }) s) else s)

/-- ROUTE_FAILED_EXPIRY: 30 s (R325). -/
def execRouteFailedExpiry (s : State) : Res :=
  .next (
    let now := s.now
    let clear (r : Route) : Route := match r.failedUntil with | some t => if t ≤ now then { r with failedUntil := none } else r | none => r
    modBkb (fun b => { b with atlas := b.atlas.map fun l => l.map clear }) s)

/-- The 32 bytes of an atlas entry (R326). -/
def atlasBytes (s : State) (k : Fin 64) : List Byte :=
  let e := s.sct.ledger[k.val]
  let one (r : Route) : List Byte :=
    (List.range 3).map (fun i => match r.relays[i]? with | some x => BitVec.ofNat 8 x.val | none => 0xFF) ++
      leBytes 2 (min r.cost 32767 + flag 15 r.failedUntil.isSome)
  let pad := (List.range (4 - (s.bkb.atlas[k.val]).length)).flatMap fun _ => [0xFF, 0xFF, 0xFF, 0, 0]
  slice (leBytes 8 (if e.state = .free then 0 else e.serial.toNat) ++ [BitVec.ofNat 8 k.val, BitVec.ofNat 8 (s.bkb.atlas[k.val]).length, 0, 0] ++
    (s.bkb.atlas[k.val]).flatMap one ++ pad) 0 32

/-- BKB_ATLAS_READ (R326, R337). -/
def runBkbAtlasRead (s : State) : Res :=
  .next (dispatch 0x0704 (fun f s =>
    if s.bkb.role = 2 then complete f .ok 0 [64] (some ((allFin 64).flatMap (atlasBytes s))) s else completeSt f .conflict s) s)

/-! ### Registers (R336) -/

/-- CFG_REJECT of BKB_STATUS. -/
def bkbReject (s : State) : State := modBkb (fun b => { b with cfgReject := true }) s

/-- A write of BKB_CFG (R336). -/
def writeBkbCfg (v : Nat) (s : State) : State :=
  if bitsOf v 2 2 = 3 ∨ 8 < bitsOf v 8 4 then bkbReject s
  else
    let change := decide (bitAt v 0 ≠ s.bkb.en)
    let s := modBkb (fun b => { b with en := bitAt v 0, coordEn := bitAt v 1, depth := bitsOf v 2 2, rate := bitsOf v 4 2,
                                       relayShare := bitsOf v 8 4 }) s
    if change then leaveDomain s else s

/-- What a node knows of another domain as its coordinator is of no use in a new one; a retirement that is waited for ends unseen. -/
def forgetLedger (s : State) : State :=
  let waits := s.sct.retiring.flatMap fun r => r.flights.map fun q => (q.1, r.slot.val)
  let s := { s with sct := { s.sct with ledger := Vector.replicate 64 {}, verdicts := [], relayed := [], ackRelayed := [], retiring := [],
                                        retired := [] } }
  waits.foldl (fun s q => completeSeq q.1 .timeout 0 [BitVec.ofNat 8 q.2] none s) s

/-- A write of BKB_DOMAIN (R336). -/
def writeDomain (v : W32) (s : State) : State :=
  if v = s.bkb.domain then s else leaveDomain (forgetLedger (modBkb (fun b => { b with domain := v }) s))

/-- BKB_CFG_WRITE (R336). -/
def execBkbCfgWrite (domain : Bool) (v : W32) (s : State) : Res :=
  .next (hostAcc (fun s => if domain then writeDomain v s else writeBkbCfg v.toNat s) s)

/-- A write of BKB_NOTCHk: tone map 0 keeps at least 448 carriers (R316, R336). -/
def writeNotch (k : Fin 16) (v : Nat) (s : State) : State :=
  let n : Notch := { first := bitsOf v 0 10, last := bitsOf v 16 10, en := bitAt v 31 }
  let all := s.bkb.notch.set k.val n
  let left := ((List.range 1024).filter fun c => !barred all c).length
  if (n.en ∧ n.last < n.first) ∨ left < 448 then bkbReject s else modBkb (fun b => { b with notch := all }) s

/-- BKB_NOTCH_WRITE (R316). -/
def execBkbNotchWrite (k : Fin 16) (v : W32) (s : State) : Res := .next (hostAcc (writeNotch k v.toNat) s)

/-- BKB_STATUS (R336). -/
def bkbStatusWord (s : State) : Nat :=
  field 0 2 s.bkb.role + flag 2 s.bkb.gw + flag 3 s.bkb.cfgReject + field 4 6 s.bkb.slot.val + field 16 8 s.bkb.pollFrames

/-- The local frame count advances every 128 ticks on every node but the coordinator, whose frames count it (R320). -/
def tickFrames (s : State) : State :=
  if s.now % 128 = 0 ∧ s.bkb.role ≠ 2 ∧ s.rst.codUp then modBkb (fun b => { b with dfn := (b.dfn + 1) % 2 ^ 32 }) s else s

end Sys2Proof.Machine
end

