-- ==== Sys2Proof/Machine/Keys.lean ====
section
/-! DEFINITION. The key engine (chapter 16, R390 to R402) and the long operations of R56 and R57. -/

namespace Sys2Proof.Machine

/-- KEY_EVENT (R402). -/
def postKey (cause slot err : Nat) (s : State) : State :=
  post 0x0C01 0xFF [BitVec.ofNat 8 cause, BitVec.ofNat 8 slot, BitVec.ofNat 8 err] s

/-! ### Slots (R393 to R396) -/

/-- Numbers of the key types (R393). -/
def KeyType.num : KeyType → Nat
  | .empty => 0 | .pair => 1 | .pub => 2 | .aes128 => 3 | .aes256 => 4 | .hmac => 5

/-- The key type with a number, none where there is none. -/
def keyTypeOf : Nat → Option KeyType
  | 1 => some .pair | 2 => some .pub | 3 => some .aes128 | 4 => some .aes256 | 5 => some .hmac | _ => none

/-- Usage that a type allows (R393). -/
def usageOk (t : KeyType) (u : Nat) : Bool :=
  match t with
  | .empty => false
  | .pair => decide (u = 1 ∨ u = 4 ∨ u = 5)
  | .pub => decide (u = 2)
  | .aes128 | .aes256 => decide (u = 8)
  | .hmac => decide (u = 16)

/-- Length of a secret of a type. -/
def KeyType.secretLen : KeyType → Nat
  | .aes128 => 16 | .aes256 => 32 | .hmac => 32 | _ => 0

/-- Value of KEY_ATTRk (R402). -/
def keyAttrWord (s : State) (k : Fin 32) : Nat :=
  let r := (s.key.slot[k.val]).rec_
  field 0 4 r.type.num + field 4 5 r.usage.toNat + field 9 2 r.origin + flag 11 r.volatile + flag 12 r.locked +
  flag 13 (decide (k.val = 0)) + flag 14 r.retired + flag 15 (s.key.slot[k.val]).unusable

/-- Value of KEY_STATUS and of KEY_PUF. -/
def keyStatusWord (s : State) : Nat := flag 0 s.key.rootFail + flag 1 s.key.rngFail + field 8 6 (longCount s)
def keyPufWord (s : State) : Nat := field 0 8 s.key.rootErr + field 8 8 s.key.monErr + field 16 8 s.key.monRun

/-- A slot takes a record; a persistent one is written to its three copies under the root with the generation raised, a volatile one
leaves them without a record (R396). -/
def KeySlot.put (root : BitVec 256) (r : KeyRec) (k : KeySlot) : KeySlot :=
  let r : KeyRec := { r with gen := k.rec_.gen + 1, under := root }
  let img : KeyRec := if r.volatile then { gen := r.gen } else r
  { k with rec_ := r, copies := Vector.replicate 3 { image := img }, prev := (k.copies[0]).image, unusable := false }

/-- Writes a record to a slot. -/
def putKey (k : Fin 32) (r : KeyRec) (s : State) : State :=
  { s with key := { s.key with slot := vmod s.key.slot k (KeySlot.put s.key.root r) } }

/-- An operation that waits or runs uses a slot (R399). -/
def slotInUse (k : Fin 32) (s : State) : Bool := s.key.queue.any fun o => !o.dropped && o.slots.contains k

/-- What a fixed slot accepts (R394). -/
def slotTakes (k : Fin 32) (t : KeyType) (u : Nat) (imported : Bool) : Bool :=
  match k.val with
  | 0 => false
  | 1 => decide (t = .pair ∧ u = 1) && !imported
  | 2 | 3 => decide (t = .pub ∧ u = 2) && imported
  | _ => true

/-- A generate, import or derivation may fill a slot, or the status it gets (R393, R394, R399). -/
def fillCheck (k : Fin 32) (t : KeyType) (u : Nat) (imported : Bool) (s : State) : Option Status :=
  let r := (s.key.slot[k.val]).rec_
  if !slotTakes k t u imported ∨ r.locked ∨ r.retired then some .denied
  else if s.key.rootFail then some .integrity
  else if slotInUse k s then some .busy
  else none

/-! ### The root and the copies (R390, R391, R396) -/

/-- Generation of a record. -/
def keyGen (r : KeyRec) : Nat := r.gen

/-- The tag of a copy verifies: it is intact and was wrapped under this root (R396, log 189); a slot without a record has nothing to
verify. -/
def opens (root : BitVec 256) (c : Copy KeyRec) : Copy KeyRec :=
  { c with crcOk := c.crcOk && (decide (c.image.type = .empty) || decide (c.image.under = root)) }

/-- A slot is checked: the copy that verifies with the highest generation wins and the others are rewritten; where none verifies the
slot is unusable, which each check reports (R396). -/
def checkKey (k : Fin 32) (s : State) : State :=
  let e := s.key.slot[k.val]
  if s.key.rootFail ∨ e.rec_.volatile then s
  else match highestValid keyGen (e.copies.map (opens s.key.root)) with
    | some r => { s with key := { s.key with slot := s.key.slot.set k.val { rec_ := r, copies := Vector.replicate 3 { image := r }, prev := r } } }
    | none =>
      let r := (e.copies[0]).image
      let blank := decide (r.type = .empty)
      let s := { s with key := { s.key with slot := s.key.slot.set k.val { e with rec_ := r, unusable := !blank } } }
      if blank then s else postKey 3 k.val 0 s

/-- Bit errors of block b of the array against the cells that its code offset decodes to (R390). -/
def blockErrors (d : BitVec 2048) (b : Nat) : Nat := ((List.range 128).filter fun i => d.getLsbD (128 * b + i)).length

/-- The decoded bits compressed into the root (R390). -/
def Helper.root (h : Helper) : BitVec 256 := BitVec.ofNat 256 (beNat (sha256 (beBytes 256 h.cells.toNat)))

/-- The root is rebuilt at a level-0 start from the cells as read and the first intact helper copy (R390, R391); a block with more than
18 errors is not corrected. -/
def rebuildRoot (cells : BitVec 2048) (s : State) : State :=
  match firstIntact s.key.helper with
  | none => postKey 1 0 0xFF (setReplace 2 { s with key := { s.key with rootFail := true, rootErr := 0xFF, root := 0 } })
  | some h =>
    let m := ((List.range 16).map (blockErrors (cells ^^^ h.cells))).foldl max 0
    let failed := decide (18 < m) || decide (h.root ≠ h.check)
    let s := { s with key := { s.key with rootFail := failed, rootErr := if failed then 0xFF else m, root := if failed then 0 else h.root,
                                          helper := Vector.replicate 3 { image := h } } }
    let s := if failed || decide (10 ≤ m) then setReplace 2 s else s
    postKey (b2n failed) 0 s.key.rootErr s

/-- The records are checked once the root stands (R396); without it the attributes are shown as they are stored (R391). -/
def startKeys (cells : BitVec 2048) (s : State) : State :=
  let s := rebuildRoot cells s
  let s := if s.key.rootFail then
      { s with key := { s.key with slot := s.key.slot.map fun k => { k with rec_ := (k.copies[0]).image } } }
    else s
  forFin 32 checkKey s

/-- PUF_HEALTH_CHECK (R392): in the first PUF tick at least 2 ms after it was powered down, the bank is read and decoded. -/
def runPufHealthCheck (err : List Nat) (s : State) : Res :=
  .next (match s.key.monDown with
    | some t =>
      if s.isReady 12 ∧ t + 128 ≤ s.now ∧ 0x3E ≤ s.now % 64 then
        let m := err.foldl max 0
        let run := if 9 < m then min 255 (s.key.monRun + 1) else 0
        let s := { s with key := { s.key with monErr := min 255 m, monRun := run, monDown := none } }
        if run = 3 then postKey 2 0 s.key.monErr (setReplace 2 s) else s
      else s
    | none => s)

/-- ENTROPY_FAILURE (R401): a failure is reported each time it is found, the restoration once. -/
def execEntropyFailure (failed : Bool) (s : State) : Res :=
  .next (if !s.isReady 12 then s
    else if failed then postKey 4 0 0 { s with key := { s.key with rngFail := true } }
    else if s.key.rngFail then postKey 5 0 0 { s with key := { s.key with rngFail := false } }
    else s)

/-! ### Long operations (R56, R57, R400) -/

/-- An operation on a destroyed slot ends; a descriptor that R25 has completed already is no longer in flight, and a handshake that has
gone no longer waits (R57, R398). -/
def abortLong (s : State) (o : LongOp) : State :=
  match o.req.seq?, o.req with
  | some q, _ => completeSeq q .aborted 2 [] none s
  | none, .tls n => tlsAbort n s
  | none, _ => s

/-- Steps of the check of an image: its hash and the verification (R410). -/
def bootSteps (x : ImageSlot) : Nat := (x.pieces + 7) / 8 + 131

/-- The loader's check takes a place in the queue as soon as there is one (R410, log 161). -/
def queueBoot (s : State) : State :=
  match s.upd.checking with
  | some c =>
    if c.hashed || s.key.queue.any (fun o => !o.dropped && decide (o.req = .boot)) || s.key.done.any (fun o => decide (o.req = .boot)) ||
        decide (32 ≤ longCount s) then s
    else requestLong .boot (bootSteps (s.upd.slot[c.slot.val])) .boot [] s
  | none => s

/-- One background step of the oldest pending operation; dropped ones go at this boundary, and the one that was running gives up its
step (R56, R57). -/
def longStep (s : State) : State :=
  let drops := s.key.queue.filter fun o => o.dropped
  let headDropped := match s.key.queue with | o :: _ => o.dropped | [] => false
  let s := drops.foldl abortLong { s with key := { s.key with queue := s.key.queue.filter fun o => !o.dropped } }
  let s := if headDropped then s
    else match s.key.queue with
      | o :: t =>
        if s.now ≤ o.tick then s
        else if o.steps ≤ 1 then
          let o' := { o with steps := 0, doneAt := some s.now }
          { s with key := { s.key with queue := t, done := s.key.done ++ [o'] } }
        else
          let o' := { o with steps := o.steps - 1 }
          { s with key := { s.key with queue := o' :: t } }
      | [] => s
  queueBoot (queueTls 8 (queuePrn 33 s))

/-- Steps of a hash over L bytes; 0 where it is done at dispatch (R400). -/
def hashSteps (l : Nat) : Nat := if l ≤ 4096 then 0 else (l + 4095) / 4096

/-- Slot that PARAM[16] names. -/
def Flight.slot (f : Flight) : Fin 32 := Fin.ofNat 32 (f.p 16 1)

/-- A slot has been locked while its new key was computed: it takes no key any more (R399, log 187). -/
def shut (k : Fin 32) (s : State) : Bool := (s.key.slot[k.val]).rec_.locked || (s.key.slot[k.val]).rec_.retired

/-- A generated key pair stands in its slot (R394, R402). -/
def generateDone (f : Flight) (s : State) : State :=
  if shut f.slot s then completeSt f .denied s
  else if s.key.rngFail then completeSt f .integrity s
  else
    let (d, s) := drawScalar s
    let r : KeyRec := { type := .pair, usage := BitVec.ofNat 5 (f.p 18 1), origin := 1, volatile := bitAt (f.p 19 1) 0,
                        secret := beBytes 32 d, pub := publicOf d }
    let s := putKey f.slot r s
    complete f .ok 0 (leBytes 4 (keyAttrWord s f.slot)) none s

/-- A signature over the digest of PARAM[24:55] (R401, R402); where no candidate gives one it is asked for anew (log 46). -/
def signDone (f : Flight) (s : State) : State :=
  if s.key.rngFail then completeSt f .integrity s
  else
    let (sig, s) := signDigest (beNat (s.key.slot[f.slot.val]).rec_.secret) (slice f.param 8 32) s
    match sig with
    | some sig => complete f .ok 0 [] (some sig) s
    | none => requestLong .sign 77 (.flight f.seq) [f.slot] s

/-- A signature is valid or not (R402). -/
def verifyDone (f : Flight) (s : State) : State :=
  let pub := (s.key.slot[f.slot.val]).rec_.pub
  completeSt f (if ecdsaVerify pub (slice f.param 8 32) (slice f.inBuf 0 64) then .ok else .integrity) s

/-- The target slot takes the derived key (R402). -/
def ecdhDone (f : Flight) (s : State) : State :=
  let t : Fin 32 := Fin.ofNat 32 (f.p 17 1)
  let d := beNat (s.key.slot[f.slot.val]).rec_.secret
  match ecdhShared d (f.inBuf.take 65), keyTypeOf (f.p 18 1) with
  | some x, some ty =>
    if shut t s then completeSt f .denied s else
    let r : KeyRec := { type := ty, usage := BitVec.ofNat 5 (f.p 19 1), origin := 3, volatile := bitAt (f.p 20 1) 0,
                        secret := hkdf [] x (f.inBuf.drop 65) ty.secretLen }
    let s := putKey t r s
    complete f .ok 0 (leBytes 4 (keyAttrWord s t)) none s
  | _, _ => completeSt f .invalid s

/-- AES-GCM in place (R402). -/
def gcmDone (f : Flight) (s : State) : State :=
  let key := (s.key.slot[f.slot.val]).rec_.secret
  let a := f.p 20 2
  let n := f.bufLen - a - 16
  let aad := f.inBuf.take a
  let body := (f.inBuf.drop a).take n
  let iv := slice f.param 8 12
  if f.p 17 1 = 0 then
    let (ct, tag) := gcmEncrypt key iv aad body
    complete f .ok 0 (leBytes 2 n) (some (aad ++ ct ++ tag)) s
  else match gcmDecrypt key iv aad body ((f.inBuf.drop (a + n)).take 16) with
    | some pt => complete f .ok 0 (leBytes 2 n) (some (aad ++ pt ++ List.replicate 16 0)) s
    | none => completeSt f .integrity s

/-- The last 32 bytes of the buffer take the hash of the bytes before them (R402). -/
def hashDone (f : Flight) (s : State) : State :=
  let msg := f.inBuf.take (f.bufLen - 32)
  complete f .ok 0 [] (some (msg ++ sha256 msg)) s

/-- The last 32 bytes of the buffer take the HMAC of the bytes before them (R402). -/
def hmacDone (f : Flight) (s : State) : State :=
  let msg := f.inBuf.take (f.bufLen - 32)
  complete f .ok 0 [] (some (msg ++ hmac (s.key.slot[f.slot.val]).rec_.secret msg)) s

/-- Result of a key descriptor's operation. -/
def keyDone (kind : OpKind) (f : Flight) (s : State) : State :=
  match kind with
  | .generate => generateDone f s
  | .sign => signDone f s
  | .verify => verifyDone f s
  | .ecdh => ecdhDone f s
  | .gcm => gcmDone f s
  | .hash => hashDone f s
  | .hmac => hmacDone f s
  | .prn | .unseal | .topup | .tls | .boot => s

/-- The signature of a record ends: without entropy, or without a usable key in slot 0, an on-request descriptor completes with the status
of that and the record waits (R177, R391, R393, R401; log 111); snapshots are signed in RCTR order, so that none overtakes one that
waits (R177). -/
def prnDone (r : Nat) (s : State) : State :=
  let older := s.prn.store.any fun x => decide (x.rctr < r) && x.sig.isNone
  match (if s.key.rngFail then some .integrity else slotCheck 0 0 s) with
  | some st =>
    match s.prn.store.find? fun x => x.rctr == r && x.sig.isNone with
    | some x =>
      let l := s.prn.store.map fun y => if y.rctr = r then { y with queued := false, flight := none } else y
      let s := { s with prn := { s.prn with store := l } }
      match x.flight with
      | some q => completeSeq q st 0 [] none s
      | none => s
    | none => s
  | none => if older then requeuePrn s else prnSigned r s

/-- Hash and signature of the image under check have run (R410). -/
def bootHashed (s : State) : State :=
  { s with upd := { s.upd with checking := s.upd.checking.map fun c => { c with hashed := true } } }

/-- A result is delivered to its requester (R56). -/
def deliverLong (o : LongOp) (s : State) : State :=
  match o.req with
  | .prn r => prnDone r s
  | .flight q => match flight? q s with | some f => keyDone o.kind f s | none => s
  | .unseal q => match flight? q s with | some f => unsealResult f s | none => s
  | .topup q => match flight? q s with | some f => topupResult f o.slots s | none => s
  | .tls n => tlsDone n s
  | .boot => bootHashed s

/-- LONG_OPERATION_DONE (R56): the oldest result whose last step ran in an earlier tick; one whose slot has been destroyed since ends as
R398 lays down. -/
def runLongOperationDone (s : State) : Res :=
  .next (match s.key.done with
    | o :: t =>
      if s.rst.msdUp ∧ o.doneAt.getD 0 < s.now then
        let s := { s with key := { s.key with done := t } }
        if o.dropped then abortLong s o else deliverLong o s
      else s
    | [] => s)

/-! ### Descriptors (R402) -/

/-- Type, usage and volatility in PARAM[17:19], none where no combination of R393. -/
def Flight.keyForm (f : Flight) : Option (KeyType × Nat) :=
  match keyTypeOf (f.p 17 1) with
  | some t => if usageOk t (f.p 18 1) ∧ f.p 19 1 ≤ 1 ∧ f.p 16 1 ≤ 31 then some (t, f.p 18 1) else none
  | none => none

/-- How a form that is none completes: INVALID where the slot is out of range or a reserved bit is set, UNSUPPORTED where R393 lists no
such key (R9, R17, R402; log 109). -/
def Flight.keyFault (f : Flight) : Status :=
  if 31 < f.p 16 1 ∨ 31 < f.p 18 1 ∨ 1 < f.p 19 1 then .invalid else .unsupported

/-- KEY_GENERATE (R395, R402): a key pair is a long operation, a secret is drawn at once; a public key cannot be generated. -/
def keyGenerate (f : Flight) (s : State) : State :=
  match f.keyForm with
  | none => completeSt f f.keyFault s
  | some (t, u) =>
    if t = .pub then completeSt f .invalid s
    else match fillCheck f.slot t u false s with
      | some st => completeSt f st s
      | none =>
        if s.key.rngFail then completeSt f .integrity s
        else if t = .pair then askLong f .generate 75 (.flight f.seq) [f.slot] s
        else
          let (b, s) := freeBytes t.secretLen s
          let r : KeyRec := { type := t, usage := BitVec.ofNat 5 u, origin := 1, volatile := bitAt (f.p 19 1) 0, secret := b }
          let s := putKey f.slot r s
          complete f .ok 0 (leBytes 4 (keyAttrWord s f.slot)) none s

/-- KEY_GENERATE (R402). -/
def runKeyGenerate (s : State) : Res := .next (dispatch 0x0C01 keyGenerate s)

/-- KEY_IMPORT (R395, R402): never a key pair. -/
def keyImport (f : Flight) (s : State) : State :=
  match f.keyForm with
  | none => completeSt f f.keyFault s
  | some (t, u) =>
    let len := if t = .pub then 65 else t.secretLen
    if t = .pair ∨ f.bufLen ≠ len then completeSt f .invalid s
    else if t = .pub ∧ (decodePoint (slice f.inBuf 0 65)).isNone then completeSt f .invalid s
    else match fillCheck f.slot t u true s with
      | some st => completeSt f st s
      | none =>
        let b := slice f.inBuf 0 len
        let r : KeyRec := { type := t, usage := BitVec.ofNat 5 u, origin := 2, volatile := bitAt (f.p 19 1) 0,
                            secret := if t = .pub then [] else b, pub := if t = .pub then b else [] }
        let s := putKey f.slot r s
        complete f .ok 0 (leBytes 4 (keyAttrWord s f.slot)) none s

/-- KEY_IMPORT (R395). -/
def runKeyImport (s : State) : Res := .next (dispatch 0x0C02 keyImport s)

/-- KEY_PUBLIC_READ (R402). -/
def keyPublicRead (f : Flight) (s : State) : State :=
  let k := s.key.slot[f.slot.val]
  if 31 < f.p 16 1 then completeSt f .invalid s
  else if s.key.rootFail ∨ k.unusable then completeSt f .integrity s
  else if k.rec_.type = .pair ∨ k.rec_.type = .pub then complete f .ok 0 [] (some (slice k.rec_.pub 0 65)) s
  else completeSt f .denied s

/-- KEY_PUBLIC_READ (R402). -/
def runKeyPublicRead (s : State) : Res := .next (dispatch 0x0C03 keyPublicRead s)

/-- A host operation with a slot: the slot is in range, not slot 0, and usable (R393, R394, R402). -/
def useKey (bit : Nat) (act : Flight → State → State) (f : Flight) (s : State) : State :=
  if 31 < f.p 16 1 then completeSt f .invalid s
  else match slotCheck f.slot bit s with
    | some st => completeSt f st s
    | none => if f.p 16 1 = 0 then completeSt f .denied s else act f s

/-- KEY_SIGN (R402). -/
def keySign (f : Flight) (s : State) : State :=
  useKey 0 (fun f s => if s.key.rngFail then completeSt f .integrity s else askLong f .sign 77 (.flight f.seq) [f.slot] s) f s

/-- KEY_SIGN (R402). -/
def runKeySign (s : State) : Res := .next (dispatch 0x0C04 keySign s)

/-- KEY_VERIFY (R401, R402). -/
def keyVerify (f : Flight) (s : State) : State := useKey 1 (fun f s => askLong f .verify 131 (.flight f.seq) [f.slot] s) f s

/-- KEY_VERIFY (R401). -/
def runKeyVerify (s : State) : Res := .next (dispatch 0x0C05 keyVerify s)

/-- KEY_ECDH: TYPE 3 to 5 is its range (R81), and a usage that R393 does not list for it is UNSUPPORTED (R9, R402; log 109). -/
def keyEcdh (f : Flight) (s : State) : State :=
  let t : Fin 32 := Fin.ofNat 32 (f.p 17 1)
  if 31 < f.p 16 1 ∨ 31 < f.p 17 1 ∨ 31 < f.p 19 1 ∨ 1 < f.p 20 1 ∨ f.p 18 1 < 3 ∨ 5 < f.p 18 1 then completeSt f .invalid s
  else match keyTypeOf (f.p 18 1) with
  | none => completeSt f .unsupported s
  | some ty =>
    if !usageOk ty (f.p 19 1) then completeSt f .unsupported s
    else if (decodePoint (f.inBuf.take 65)).isNone then completeSt f .invalid s
    else useKey 2 (fun f s => match fillCheck t ty (f.p 19 1) false s with
      | some st => completeSt f st s
      | none => askLong f .ecdh 73 (.flight f.seq) [f.slot, t] s) f s

/-- KEY_ECDH (R402). -/
def runKeyEcdh (s : State) : Res := .next (dispatch 0x0C06 keyEcdh s)

/-- A long operation of some steps, or none where it is done at dispatch (R400). -/
def longOrNow (kind : OpKind) (steps : Nat) (slots : List (Fin 32)) (f : Flight) (s : State) : State :=
  if steps = 0 then keyDone kind f s else askLong f kind steps (.flight f.seq) slots s

/-- KEY_AES_GCM (R400, R402). -/
def keyAesGcm (f : Flight) (s : State) : State :=
  let a := f.p 20 2
  if 1 < f.p 17 1 ∨ f.bufLen < a + 16 then completeSt f .invalid s
  else useKey 3 (fun f s => longOrNow .gcm ((f.bufLen - a - 16 + 4095) / 4096) [f.slot] f s) f s

/-- KEY_AES_GCM (R402). -/
def runKeyAesGcm (s : State) : Res := .next (dispatch 0x0C07 keyAesGcm s)

/-- KEY_HMAC (R400, R402). -/
def keyHmac (f : Flight) (s : State) : State := useKey 4 (fun f s => longOrNow .hmac (hashSteps (f.bufLen - 32)) [f.slot] f s) f s

/-- KEY_HMAC (R402). -/
def runKeyHmac (s : State) : Res := .next (dispatch 0x0C08 keyHmac s)

/-- KEY_HASH (R400, R402). -/
def keyHash (f : Flight) (s : State) : State :=
  if f.p 16 1 ≠ 0 then completeSt f .invalid s else longOrNow .hash (hashSteps (f.bufLen - 32)) [] f s

/-- KEY_HASH (R402). -/
def runKeyHash (s : State) : Res := .next (dispatch 0x0C09 keyHash s)

/-- KEY_RANDOM (R401). -/
def keyRandom (f : Flight) (s : State) : State :=
  if s.key.rngFail then completeSt f .integrity s
  else
    let (b, s) := freeBytes f.bufLen s
    complete f .ok 0 (leBytes 2 f.bufLen) (some b) s

/-- KEY_RANDOM (R401). -/
def runKeyRandom (s : State) : Res := .next (dispatch 0x0C0A keyRandom s)

/-- A slot is destroyed; one that was LOCKED is RETIRED (R398). The attributes that stay are held with its generation (log 189). -/
def KeySlot.destroy (k : KeySlot) : KeySlot :=
  let was := k.rec_.locked
  let r : KeyRec := { locked := was, retired := was || k.rec_.retired, gen := k.rec_.gen + 1 }
  { rec_ := r, copies := Vector.replicate 3 { image := r }, prev := r }

/-- The handshakes that wait for a place outside the queue end with slot 1 (R398, R400). -/
def dropWaits (s : State) : State := s.vlk.tlsWait.foldl (fun s n => tlsFail n s) { s with vlk := { s.vlk with tlsWait := [] } }

/-- Destroys one slot; its operations end at the next step boundary (R398). -/
def destroyKey (k : Fin 32) (s : State) : State :=
  let s := if k = 1 then dropWaits s else s
  let mark (o : LongOp) : LongOp := if o.slots.contains k then { o with dropped := true } else o
  postKey 6 k.val 0 { s with key := { s.key with slot := vmod s.key.slot k KeySlot.destroy, queue := s.key.queue.map mark,
                                                 done := s.key.done.map mark } }

/-- The slots that a mask in PARAM[16:19] names. -/
def Flight.slotMask (f : Flight) : List (Fin 32) := (allFin 32).filter fun k => bitAt (f.p 16 4) k.val

/-- KEY_DESTROY (R398). -/
def keyDestroy (f : Flight) (s : State) : State :=
  let m := f.p 16 4
  if m = 0 ∨ (bitAt m 0 ∧ f.p 24 8 ≠ s.fuse.serial.toNat) then completeSt f .invalid s
  else if bitAt m 0 ∧ s.prn.store.any (fun r => r.sig.isNone) then completeSt f .busy s
  else complete f .ok 0 (leBytes 4 m) none (f.slotMask.foldl (fun s k => destroyKey k s) s)

/-- KEY_DESTROY (R398). -/
def runKeyDestroy (s : State) : Res := .next (dispatch 0x0C0B keyDestroy s)

/-- A slot is locked (R399); the copies of a slot that no copy verifies take the attribute and stay unverified. -/
def KeySlot.lock (root : BitVec 256) (k : KeySlot) : KeySlot :=
  let on (r : KeyRec) : KeyRec := { r with locked := true }
  if k.unusable then { k with rec_ := on k.rec_, copies := k.copies.map (fun c => { c with image := on c.image }), prev := on k.prev }
  else k.put root (on k.rec_)

/-- KEY_LOCK (R399). -/
def keyLock (f : Flight) (s : State) : State :=
  if f.p 16 4 = 0 then completeSt f .invalid s
  else if s.key.rootFail then completeSt f .integrity s
  else
    let s := f.slotMask.foldl (fun s k => { s with key := { s.key with slot := vmod s.key.slot k (KeySlot.lock s.key.root) } }) s
    complete f .ok 0 (leBytes 4 (f.p 16 4)) none s

/-- KEY_LOCK (R399). -/
def runKeyLock (s : State) : Res := .next (dispatch 0x0C0C keyLock s)

end Sys2Proof.Machine
end

