-- ==== Sys2Proof/Machine/Lcd.lean ====
section
/-! DEFINITION. The display and the status lamps (chapter 14, R359 to R371).

The sequencer and the lamp sinks sit on the mixed-signal die: a running update or pattern goes on while APD is in reset. -/

namespace Sys2Proof.Machine

/-- Changes the display. -/
def modLcd (f : Lcd → Lcd) (s : State) : State := { s with lcd := f s.lcd }

/-- Ticks of a number of milliseconds. -/
def msTicks (ms : Nat) : Nat := 64 * ms

/-! ### Legend, bands and waveforms -/

/-- Every physical position is used exactly once (R359). -/
def legendOk (b : List Byte) : Bool :=
  decide (b.length = 256) && (List.range 256).all fun p => b.contains (BitVec.ofNat 8 p)

/-- The physical segments of a logical image; position 64 c + l is line l of common c (R359). -/
def panelImage (legend : Vector Byte 256) (image : BitVec 256) : BitVec 256 :=
  BitVec.ofNat 256 ((allFin 256).foldl (fun a i =>
    if image.getLsbD i.val then Nat.lor a (2 ^ (legend[i.val]).toNat) else a) 0)

/-- Bits of a common in a physical image. -/
def commonBits (p : BitVec 256) (c : Nat) : Nat := bitsOf p.toNat (64 * c) 64

/-- Commons whose bits differ, ascending (R362). -/
def commonsChanged (a b : BitVec 256) : List Nat := (List.range 4).filter fun c => decide (commonBits a c ≠ commonBits b c)

/-- Band boundaries in 1/16 °C (R360). -/
def bandBounds : List Int := [-320, 0, 320, 640, 960]

/-- Panel temperature in 1/16 °C (R360). -/
def panelTemp (s : State) : Int := s.adc.tmp + 16 * s.lcd.tofs

/-- Band that contains a temperature, with the boundaries moved by d (R360). -/
def bandAt (t d : Int) : Nat := (bandBounds.filter fun b => decide (b + d ≤ t)).length

/-- The band of the next update: without hysteresis for the first, up at boundary + 1 °C and down at boundary − 1 °C from then on
(R360). -/
def nextBand (s : State) : Nat :=
  let t := panelTemp s
  match s.lcd.band with
  | none => bandAt t 0
  | some b =>
    let hi := bandAt t 16
    let lo := (bandBounds.filter fun x => decide (x - 16 < t)).length
    if b < hi then hi else if lo < b then lo else b

/-- The waveform entry of a band (R361). -/
def waveOf (s : State) (b : Nat) : Wave := s.lcd.wave.toList.getD b ⟨280, 30, 170, 90, 20, 24, 500⟩

/-- A phase time is a whole number of drive periods (R361). -/
def wholePeriods (ms f : Nat) : Bool := decide (ms * f % 1000 = 0)

/-- A waveform entry in range (R361). -/
def Wave.ok (w : Wave) : Bool :=
  decide (50 ≤ w.vh ∧ w.vh ≤ 400) && decide (10 ≤ w.th ∧ w.th ≤ 1000) && decide (20 ≤ w.vp ∧ w.vp ≤ 400) &&
  decide (20 ≤ w.vf ∧ w.vf ≤ 400 ∧ w.vf < w.vp) && decide (5 ≤ w.ts ∧ w.ts ≤ 1000) && decide (5 ≤ w.te ∧ w.te ≤ 1000) &&
  decide (100 ≤ w.fdrive ∧ w.fdrive ≤ 2000) && wholePeriods w.th w.fdrive && wholePeriods w.ts w.fdrive && wholePeriods w.te w.fdrive

/-- A waveform entry read from 16 bytes; none where it is out of range (R361). -/
def Wave.ofBytes (b : List Byte) : Option Wave :=
  let w : Wave := ⟨leAt b 0 2, leAt b 2 2, leAt b 4 2, leAt b 6 2, leAt b 8 2, leAt b 10 2, leAt b 12 2⟩
  if w.ok ∧ leAt b 14 2 = 0 then some w else none

/-- LCD_STATUS.HOLDUP_MS (R364): the longest phase of the tables plus 10 ms. -/
def holdupMs (s : State) : Nat := s.lcd.wave.toList.foldl (fun m w => max m (max w.th (max w.ts w.te))) 0 + 10

/-! ### Updates -/

/-- LCD_EVENT (R371). -/
def postLcd (cause : Nat) (s : State) : State :=
  postMail 0x0901 0xFF [BitVec.ofNat 8 cause, BitVec.ofNat 8 (s.lcd.band.getD 0)] s

/-- Duration of an update in ms: TH + k TS + TE (R362). -/
def LcdUpdate.duration (u : LcdUpdate) : Nat := u.wave.th + u.commons.length * u.wave.ts + u.wave.te

/-- What a phase of an update drives (R362). -/
def LcdUpdate.drive (u : LcdUpdate) (ph : LcdPhase) : LcdDrive :=
  match ph with
  | .reset => .reset u.commons u.wave.vh u.wave.fdrive
  | .select i =>
    let c := u.commons.getD i 0
    .select c (BitVec.ofNat 64 (commonBits u.image c)) u.wave.vp u.wave.vf u.wave.fdrive
  | .settle => .zero

/-- An image is on the panel: its physical bits are shown and nothing is open (R363). -/
def imageShown (image : BitVec 256) (s : State) : Bool :=
  !s.lcd.mark && decide (panelImage s.lcd.legend image = s.lcd.shown)

/-- An update starts in tick t: band and entry latched, mark written (R360, R361, R362, R365). The first after a new legend, and one that finds the
panel open, is a full one (R359). -/
def beginUpdate (image : BitVec 256) (why : LcdWhy) (fullAsked : Bool) (flight : Option Nat) (t : Tick) (s : State) : State :=
  let band := nextBand s
  let full := fullAsked || s.lcd.newLegend || s.lcd.mark
  let phys := panelImage s.lcd.legend image
  let commons := if full then List.range 4 else commonsChanged phys s.lcd.shown
  let u : LcdUpdate := { image := phys, why := why, full := full, flight := flight, band := band, wave := waveOf s band, commons := commons,
                         start := t, phaseEnd := t + msTicks (waveOf s band).th }
  modLcd (fun l => { l with upd := some u, drive := u.drive .reset, band := some band, bandRead := band, mark := true, newLegend := false }) s

/-- A draw that needs no update completes with 0 commons (R363). -/
def completeShown (flight : Option Nat) (s : State) : State :=
  match flight with
  | some q => completeSeq q .ok 0 [0, BitVec.ofNat 8 (s.lcd.band.getD 0), 0, 0] none s
  | none => s

/-- The sequencer may start a phase (R364). -/
def lcdMayStart (s : State) : Bool := s.lcd.en && !s.lcd.stopping && s.lcd.discharge.isNone && !s.rst.pfw

/-- A pending image becomes the update where nothing runs (R363, R364). -/
def startPending (s : State) : State :=
  match s.lcd.pend, s.lcd.upd with
  | some p, none =>
    if lcdMayStart s then
      let s := modLcd (fun l => { l with pend := none }) s
      if !p.full ∧ imageShown p.image s then completeShown p.flight s
      else beginUpdate p.image .draw p.full p.flight s.now s
    else s
  | _, _ => s

/-- An image is to be drawn: it completes at once where it is shown, waits for the next tick edge where no update runs, and is the pending one
else (R363). -/
def drawImage (p : LcdPending) (s : State) : State :=
  let free := s.lcd.upd.isNone && s.lcd.next.isNone && !s.lcd.indet
  if free && !p.full && imageShown p.image s then completeShown p.flight s
  else if free then modLcd (fun l => { l with next := some p }) s
  else
    let s := match s.lcd.pend with
      | some old => (match old.flight with | some q => completeSeq q .ok 1 [] none s | none => s)
      | none => s
    modLcd (fun l => { l with pend := some p }) s

/-- The first of the two updates of R365: every segment off. -/
def beginAllOff (t : Tick) (s : State) : State := beginUpdate 0 .allOff true none t s

/-- The sequencer may go on: an indeterminate image is redrawn first, then come the image of the last edge and the pending one (R363 to R365). -/
def lcdResume (s : State) : State :=
  if s.lcd.upd.isSome ∨ !lcdMayStart s then s
  else if s.lcd.indet then beginAllOff s.now s
  else match s.lcd.next with
    | some p => beginUpdate p.image .draw p.full p.flight s.now (modLcd (fun l => { l with next := none }) s)
    | none => startPending s

/-- At a tick edge the update of an image accepted before it starts (R363). -/
def lcdEdge (s : State) : State := if s.lcd.next.isSome && !s.lcd.indet then lcdResume s else s

/-- The lines are grounded and then released (R362). -/
def releaseLines (s : State) : State := modLcd (fun l => { l with drive := .highZ }) s

/-- An update ends: the lines are grounded and released; the mark is cleared, but between the two updates of R365 (R362, R363, R365). -/
def endUpdate (u : LcdUpdate) (s : State) : State :=
  let s := releaseLines (modLcd (fun l => { l with upd := none, mark := decide (u.why = .allOff) }) s)
  match u.why with
  | .draw =>
    let d := [BitVec.ofNat 8 u.commons.length, BitVec.ofNat 8 u.band] ++ leBytes 2 u.duration
    lcdResume (match u.flight with | some q => completeSeq q .ok 0 d none s | none => s)
  | .allOff => if lcdMayStart s then beginUpdate s.lcd.stored .redraw true none s.now s else s
  | .redraw => lcdResume (postLcd 2 (modLcd (fun l => { l with indet := false }) s))

/-- Starts the discharge of 10 ms (R364). -/
def startDischarge (s : State) : State := modLcd (fun l => { l with discharge := some (s.now + msTicks 10), drive := .ground }) s

/-- The select phase of common i has ended: its segments show the image (R362). -/
def selectDone (u : LcdUpdate) (i : Nat) (s : State) : State :=
  let c := u.commons.getD i 0
  let old := s.lcd.shown.toNat
  let kept := old - commonBits s.lcd.shown c * 2 ^ (64 * c)
  let p := BitVec.ofNat 256 (kept + commonBits u.image c * 2 ^ (64 * c))
  modLcd (fun l => { l with shown := p }) s

/-- What a phase leaves behind as it ends (R362). -/
def phaseDone (u : LcdUpdate) (s : State) : State :=
  match u.phase with
  | .select i => selectDone u i s
  | _ => s

/-- The phase after the one that ends, with its length in ms, none after the last (R362). -/
def nextPhase (u : LcdUpdate) (w : Wave) : Option (LcdPhase × Nat) :=
  match u.phase with
  | .reset => some (if u.commons.isEmpty then (.settle, w.te) else (.select 0, w.ts))
  | .select i => some (if i + 1 < u.commons.length then (.select (i + 1), w.ts) else (.settle, w.te))
  | .settle => none

/-- A phase of an update has run its time (R362); after the warning or EN = 0 no further one starts (R364). -/
def phaseEnd (s : State) : State :=
  match s.lcd.upd with
  | none => s
  | some u =>
    if s.rst.held0 ∨ s.now < u.phaseEnd then s
    else
      let s := phaseDone u s
      match nextPhase u u.wave with
      | none => if s.lcd.stopping then startDischarge (endUpdate u s) else endUpdate u s
      | some (ph, ms) =>
        if s.lcd.stopping then startDischarge s
        else
          let u' := { u with phase := ph, phaseEnd := u.phaseEnd + msTicks ms }
          modLcd (fun l => { l with upd := some u', drive := u.drive ph }) s

/-- LCD_PHASE_END (R362). -/
def execLcdPhaseEnd (s : State) : Res := .next (if s.lcd.discharge.isSome then s else phaseEnd s)

/-- The sequencer stops: after the running phase, or at once (R364). -/
def lcdStop (s : State) : State :=
  if s.lcd.discharge.isSome ∨ s.lcd.stopping then s
  else if s.lcd.upd.isSome then modLcd (fun l => { l with stopping := true }) s
  else startDischarge s

/-- The lines are released after the discharge; an update that was cut is over, its draw completes ABORTED (log 28), the mark stays
(R364, R365). -/
def dischargeEnd (s : State) : State :=
  match s.lcd.discharge with
  | some t =>
    if s.rst.held0 ∨ s.now < t then s
    else
      let q := s.lcd.upd.bind fun u => u.flight
      let s := releaseLines (modLcd (fun l => { l with discharge := none, stopping := false, upd := none }) s)
      lcdResume (match q with | some n => completeSeq n .aborted 0 [] none s | none => s)
  | none => s

/-- LCD_DISCHARGE_END (R364). -/
def execLcdDischargeEnd (s : State) : Res := .next (dischargeEnd s)

/-- The LCD bit sets (R365): a mark that is found makes the image indeterminate, and the redraw begins as soon as the sequencer may start; else
the stored image is the image shown. -/
def lcdReady (s : State) : State :=
  if s.lcd.mark then lcdResume (postLcd 1 (modLcd (fun l => { l with indet := true }) s))
  else
    let p := panelImage s.lcd.legend s.lcd.stored
    modLcd (fun l => { l with shown := p }) s

/-- A write to LCD_CFG (R364). -/
def writeLcdCfg (v : Nat) (s : State) : State :=
  let t := signed 8 (bitsOf v 8 8)
  if s.lcd.upd.isSome ∨ t < -20 ∨ 20 < t then modLcd (fun l => { l with cfgReject := true }) s
  else
    let off := s.lcd.en && !bitAt v 0
    let s := modLcd (fun l => { l with en := bitAt v 0, crackEn := bitAt v 1, tofs := t }) s
    if off then lcdStop s else lcdResume s

/-- LCD_CFG_WRITE (R364). -/
def execLcdCfgWrite (v : W32) (s : State) : Res := .next (hostAcc (writeLcdCfg v.toNat) s)

/-- Value of LCD_CFG. -/
def lcdCfgWord (s : State) : Nat := flag 0 s.lcd.en + flag 1 s.lcd.crackEn + field 8 8 (unsigned 8 s.lcd.tofs)

/-- Value of LCD_STATUS. -/
def lcdStatusWord (s : State) : Nat :=
  flag 0 s.lcd.upd.isSome + flag 1 s.lcd.pend.isSome + flag 2 s.lcd.indet + flag 3 s.lcd.crack + flag 4 s.lcd.cfgReject +
  field 8 3 s.lcd.bandRead + field 16 16 (if s.isReady 9 then holdupMs s else 0)

/-! ### Descriptors of the display (R371) -/

/-- LCD_LEGEND_WRITE (R359). -/
def lcdLegendWrite (f : Flight) (s : State) : State :=
  if s.lcd.upd.isSome ∨ s.lcd.pend.isSome ∨ s.lcd.next.isSome then completeSt f .busy s
  else if !legendOk (slice f.inBuf 0 256) then completeSt f .invalid s
  else
    let v := toVec 256 0 (slice f.inBuf 0 256)
    completeSt f .ok (modLcd (fun l => { l with legend := v, newLegend := true }) s)

/-- LCD_LEGEND_WRITE (R359). -/
def runLcdLegendWrite (s : State) : Res := .next (dispatch 0x0901 lcdLegendWrite s)

/-- LCD_WAVE_WRITE (R361). -/
def lcdWaveWrite (f : Flight) (s : State) : State :=
  let ws := (List.range 6).map fun b => Wave.ofBytes (slice f.inBuf (16 * b) 16)
  if ws.any fun w => w.isNone then completeSt f .invalid s
  else
    let v := toVec 6 (waveOf s 5) (ws.filterMap id)
    completeSt f .ok (modLcd (fun l => { l with wave := v }) s)

/-- LCD_WAVE_WRITE (R361). -/
def runLcdWaveWrite (s : State) : Res := .next (dispatch 0x0902 lcdWaveWrite s)

/-- LCD_DRAW (R363): a draw whose update is still to come stays in flight. -/
def lcdDraw (f : Flight) (s : State) : State :=
  let m := f.p 16 1
  if 1 < m then completeSt f .invalid s
  else if !s.lcd.en then completeSt f .denied s
  else
    let image := BitVec.ofNat 256 (leAt f.inBuf 0 32)
    let s := modLcd (fun l => { l with stored := image }) s
    drawImage { image := image, full := bitAt m 0, flight := some f.seq } (keepRunning f s)

/-- LCD_DRAW (R363). -/
def runLcdDraw (s : State) : Res := .next (dispatch 0x0903 lcdDraw s)

/-! ### The crack loop (R366) -/

/-- A check of the crack loop fails. -/
def crackFails (loopOhm landOhm : Nat) : Bool := decide (2000 < loopOhm) || decide (landOhm < 5)

/-- Two failed checks in a row set CRACK, ten passed ones clear it (R366). -/
def crackCheck (loopOhm landOhm : Nat) (s : State) : State :=
  if crackFails loopOhm landOhm then
    let n := min 2 (s.lcd.crackBad + 1)
    let s' := modLcd (fun l => { l with crackBad := n, crackGood := 0, crack := l.crack || decide (n = 2) }) s
    if n = 2 ∧ !s.lcd.crack then postLcd 3 s' else s'
  else
    let n := min 10 (s.lcd.crackGood + 1)
    let s' := modLcd (fun l => { l with crackGood := n, crackBad := 0, crack := l.crack && decide (n ≠ 10) }) s
    if n = 10 ∧ s.lcd.crack then postLcd 4 s' else s'

/-- A check is due: 100 ms after the last one (R366). -/
def crackDue (s : State) : Bool :=
  match s.lcd.crackTick with
  | some t => decide (t + msTicks 100 ≤ s.now)
  | none => true

/-- CRACK_CHECK (R366). -/
def execCrackCheck (loopOhm landOhm : Nat) (s : State) : Res :=
  .next (if s.isReady 9 ∧ s.lcd.crackEn ∧ crackDue s then crackCheck loopOhm landOhm (modLcd (fun l => { l with crackTick := some s.now }) s)
    else s)

/-! ### Lamps (R367 to R370) -/

/-- Drive value of an intensity through a gamma table (R368). -/
def gammaOf (g : Vector Nat 64) (x : Nat) : Nat :=
  let k := x / 65
  let t := x - 65 * k
  let a := g.toList.getD k 0
  if k ≥ 63 then g.toList.getD 63 0
  else (roundDiv ((a * 65 : Nat) + ((g.toList.getD (k + 1) 0 : Int) - a) * t) 65).toNat

/-- One colour table read from 128 bytes; none where a point is above 4,095 or the points fall (R368). -/
def gammaTable (b : List Byte) : Option (Vector Nat 64) :=
  let ps := (List.range 64).map fun i => leAt b (2 * i) 2
  let ok := ps.all (fun p => decide (p ≤ 4095)) && (List.range 63).all (fun i => decide (ps.getD i 0 ≤ ps.getD (i + 1) 0))
  if ok then some (toVec 64 0 ps) else none

/-- LMP_GAMMA_WRITE (R368). -/
def lmpGammaWrite (f : Flight) (s : State) : State :=
  match gammaTable (slice f.inBuf 0 128), gammaTable (slice f.inBuf 128 128), gammaTable (slice f.inBuf 256 128) with
  | some r, some g, some b => completeSt f .ok { s with lmp := { s.lmp with gamma := #v[r, g, b] } }
  | _, _, _ => completeSt f .invalid s

/-- LMP_GAMMA_WRITE (R368). -/
def runLmpGammaWrite (s : State) : Res := .next (dispatch 0x0A01 lmpGammaWrite s)

/-- Drive values of the three intensities from descriptor byte o (R368, R369). -/
def lampDrive (f : Flight) (o : Nat) (s : State) : Vector Nat 3 :=
  Vector.ofFn fun c => gammaOf (s.lmp.gamma[c.val]) (f.p (o + 2 * c.val) 2)

/-- LMP_SET (R369): the setting waits for the next PWM period. -/
def lmpSet (f : Flight) (s : State) : State :=
  if (List.range 6).any fun i => decide (4095 < f.p (16 + 2 * i) 2) then completeSt f .invalid s
  else
    let c1 := lampDrive f 16 s
    let l : Lamp := { isSet := true, c1 := c1, c2 := lampDrive f 22 s, on := f.p 28 1, off := f.p 29 1, since := s.now }
    complete f .ok 0 (leBytes 2 c1[0]) none { s with lmp := { s.lmp with pend := s.lmp.pend.set f.outlet.val (some l) } }

/-- LMP_SET (R369). -/
def runLmpSet (s : State) : Res := .next (dispatch 0x0A02 lmpSet s)

/-- The ON or OFF time of a pattern has passed and the lamp changes colour (R369). -/
def Lamp.blink (now : Tick) (l : Lamp) : Lamp :=
  let t := msTicks (10 * (if l.second then l.off else l.on))
  if l.isSet ∧ l.on ≠ 0 ∧ l.since + t ≤ now then { l with second := !l.second, since := l.since + t } else l

/-- LAMP_BLINK_PHASE (R369). -/
def execLampBlinkPhase (n : Outlet8) (s : State) : Res :=
  .next { s with lmp := { s.lmp with lamp := vmod s.lmp.lamp n (Lamp.blink s.now) } }

/-- Drive values that a lamp shows; dark until its first LMP_SET (R369, R370). -/
def Lamp.shows (l : Lamp) : Vector Nat 3 :=
  if !l.isSet then Vector.replicate 3 0 else if l.second then l.c2 else l.c1

/-- PLL B clocks of a tick, and of a PWM period (R45, R367). -/
def tickClocks : Nat := 768
def pwmClocks : Nat := 4096

/-- Lamp channel of a colour of an outlet (R367). -/
def lampChannel (n : Outlet8) (c : Fin 3) : Nat := 3 * n.val + c.val

/-- PLL B clocks by which channel j starts its period after channel 0 (R367). -/
def pwmOffset (j : Nat) : Nat := 170 * j

/-- A PWM period of channel j has begun in the tick before this edge; channel 0 begins one at GTC 0 (R367; log 186). -/
def pwmBegan (now : Tick) (j : Nat) : Bool :=
  let n (t : Tick) : Nat := (t * tickClocks + pwmClocks - pwmOffset j % pwmClocks) / pwmClocks
  decide (0 < now) && decide (n (now - 1) < n now)

/-- Full-scale current of a sink in 0.1 mA, from its code in LMP_CFG. -/
def fullScale (fs : Nat) : Nat := (fs + 1) * 25

/-- Mean current of a sink in 0.1 mA at a drive value (R367). -/
def sinkMean (k : Nat × Nat) : Rat := (fullScale k.1 * k.2 : Rat) / 4096

/-- A setting takes effect and the pattern starts with the first colour (R369). -/
def lampTake (n : Outlet8) (s : State) : State :=
  match s.lmp.pend[n.val] with
  | some l =>
    if pwmBegan s.now (lampChannel n 0) then
      { s with lmp := { s.lmp with lamp := s.lmp.lamp.set n.val { l with since := s.now }, pend := s.lmp.pend.set n.val none } }
    else s
  | none => s

/-- What channel j's sink drives: full-scale code and drive value, taken anew where its period began. -/
def sinkNext (s : State) (j : Fin 24) : Nat × Nat :=
  if pwmBegan s.now j.val then
    (s.lmp.fs[j.val % 3]'(Nat.mod_lt _ (by decide)), (s.lmp.lamp[j.val / 3]'(by omega)).shows[j.val % 3]'(Nat.mod_lt _ (by decide)))
  else s.lmp.sink[j.val]

/-- At a tick edge: every channel whose PWM period has begun takes the full scale and the drive value of its lamp (R367, R369, R370). -/
def lampEdge (s : State) : State :=
  let s := forFin 8 lampTake s
  { s with lmp := { s.lmp with sink := Vector.ofFn (sinkNext s) } }

/-- A write to LMP_CFG; the sinks take it at their next PWM period (R370). -/
def writeLmpCfg (v : Nat) (s : State) : State :=
  { s with lmp := { s.lmp with fs := #v[bitsOf v 0 4, bitsOf v 4 4, bitsOf v 8 4] } }

/-- Value of LMP_CFG. -/
def lmpCfgWord (s : State) : Nat := field 0 4 s.lmp.fs[0] + field 4 4 s.lmp.fs[1] + field 8 4 s.lmp.fs[2]

end Sys2Proof.Machine
end

