-- ==== Sys2Proof/Machine/Lsw.lean ====
section
/-! DEFINITION. The load switches (chapter 15, R372 to R389). -/

namespace Sys2Proof.Machine

/-- Changes one channel. -/
def modCh (k : Fin 24) (f : Channel → Channel) (s : State) : State := { s with lsw := { s.lsw with ch := vmod s.lsw.ch k f } }

/-- One channel. -/
def chOf (s : State) (k : Fin 24) : Channel := s.lsw.ch[k.val]

/-- Outlet whose lock bridge would hold a channel (R195). -/
def bridgeOutlet (k : Fin 24) : Outlet8 := Fin.ofNat 8 (k.val / 2)

/-- The channel belongs to a lock bridge (R195, R373). -/
def owned (s : State) (k : Fin 24) : Bool :=
  decide (k.val < 16) && outEn s (bridgeOutlet k) && !(outOf s (bridgeOutlet k)).caseT

/-- The drive of the lock bridge that is on, and its direction; between two attempts it unlocks (R219). -/
def bridgeDrive (s : State) (k : Fin 24) : Option LockDrive :=
  match (outOf s (bridgeOutlet k)).lockDrive with
  | some d => if d.retryAt.isNone then some d else some { d with toLock := false }
  | none => none

/-- A mode follows a PWM input (R376). -/
def LswMode.follows : LswMode → Bool
  | .follow | .followInv | .pushPull => true
  | .off | .high | .low => false

/-- Numbers of the modes (R375). -/
def LswMode.num : LswMode → Nat
  | .off => 0 | .high => 1 | .low => 2 | .follow => 3 | .followInv => 4 | .pushPull => 5

/-- The mode with a number. -/
def modeOfNum : Nat → LswMode
  | 1 => .high | 2 => .low | 3 => .follow | 4 => .followInv | 5 => .pushPull | _ => .off

/-- The side that a mode asks for: some true the high side, some false the low side (R375). -/
def LswMode.side (m : LswMode) (pwm : Bool) : Option Bool :=
  match m with
  | .off => none
  | .high => some true
  | .low => some false
  | .follow => if pwm then some true else none
  | .followInv => if pwm then none else some true
  | .pushPull => some pwm

/-- The PWM input that a channel follows. -/
def pwmOf (s : State) (c : Channel) : PwmIn := s.lsw.pwm[c.input.val]

/-- The side that the mode, the input and the session ask for (R219, R375, R377). -/
def wantSide (s : State) (k : Fin 24) : Option Bool :=
  let c := chOf s k
  if owned s k then
    match bridgeDrive s k with
    | some d => some (if k.val % 2 = 0 then d.toLock else !d.toLock)
    | none => none
  else if c.mode.follows && (pwmOf s c).fast then none
  else c.mode.side (pwmOf s c).high

/-- Protection keeps the stage off: a latch, a fold, a dip of VAUX or a retry that waits (R379 to R385). -/
def Channel.blocked (c : Channel) : Bool := c.oc || c.th || c.folded || c.dipped || c.retryAt.isSome

/-- The side that conducts. -/
def sideOn (s : State) (k : Fin 24) : Option Bool := if (chOf s k).blocked then none else wantSide s k

/-- A side is conducting (R388). -/
def chOn (s : State) (k : Fin 24) : Bool := (sideOn s k).isSome

/-- BLANK in ticks, rounded up (R388). -/
def Channel.blankTicks (c : Channel) : Nat :=
  match c.blank with
  | 0 => 7 | 1 => 20 | 2 => 64 | 3 => 192 | 4 => 640 | 5 => 1920 | _ => 6400

/-- A turn-on at tick t after a change of mode, a retry, a restoration or a release starts a blanking (R379). -/
def turnOn (t : Tick) (k : Fin 24) (s : State) : State :=
  if chOn s k then modCh k (fun c => { c with blankEnd := t + c.blankTicks, onSince := some t }) s
  else modCh k (fun c => { c with onSince := none, limit := false }) s

/-- Blanking is in force; that of a lock drive runs from its start (R379). -/
def blanking (s : State) (k : Fin 24) : Bool :=
  let c := chOf s k
  decide (s.now < c.blankEnd) ||
    (owned s k && match bridgeDrive s k with | some d => decide (s.now < d.start + c.blankTicks) | none => false)

/-- LSW_FAULT, while the function is ready (R387, R389). -/
def postLsw (k : Fin 24) (cause : Nat) (s : State) : State :=
  let c := chOf s k
  let target := if owned s k then (bridgeOutlet k).val else 0xFF
  if s.isReady 11 then
    postMail 0x0B01 target ([BitVec.ofNat 8 k.val, BitVec.ofNat 8 cause, BitVec.ofNat 8 c.retries] ++ leBytes 2 c.current) s
  else s

/-- LSW_SUPPLY (R389). -/
def postSupply (cause input : Nat) (s : State) : State :=
  if s.rst.msdUp then postMail 0x0B02 0xFF ([BitVec.ofNat 8 cause, BitVec.ofNat 8 input] ++ leBytes 2 s.lsw.vaux) s else s

/-- A latch or an overcurrent on a lock-bridge channel of an outlet in states 1 to 10 is a LOCK_LOST fault (R382). -/
def bridgeFault (k : Fin 24) (s : State) : State :=
  let n := bridgeOutlet k
  let st := (outOf s n).state.num
  if owned s k ∧ 1 ≤ st ∧ st ≤ 10 then modOut n (Outlet.fault .lockLost) s else s

/-! ### Overcurrent, retries and the hot spot (R379, R380) -/

/-- An overcurrent: a retry is scheduled or OC_LATCH is set (R379). -/
def overcurrent (k : Fin 24) (s : State) : State :=
  let c := chOf s k
  let again := decide (c.retries < c.retryMax)
  let s := bridgeFault k s
  let s := modCh k (fun c => { c with limit := false, onSince := none }) s
  if again then
    postLsw k 0 (modCh k (fun c => { c with retries := c.retries + 1, retryAt := some (s.now + 640 * (c.retryDly + 1)) }) s)
  else postLsw k 1 (modCh k (fun c => { c with oc := true }) s)

/-- LSW_OVERCURRENT (R379): only a side that conducts can be in limit, and none has an overcurrent in blanking. -/
def execLswOvercurrent (k : Fin 24) (s : State) : Res := .next (if chOn s k && !blanking s k then overcurrent k s else s)

/-- A retry that is due turns the channel on, unless VAUX keeps every stage off (R379, R386). -/
def retry (k : Fin 24) (s : State) : State :=
  match (chOf s k).retryAt with
  | some t =>
    if t ≤ s.now ∧ !(chOf s k).dipped then turnOn s.now k (modCh k (fun c => { c with retryAt := none }) s) else s
  | none => s

/-- LSW_RETRY (R379). -/
def execLswRetry (k : Fin 24) (s : State) : Res := .next (retry k s)

/-- LSW_RETRIES_RESET (R379, R380). -/
def execLswRetriesReset (k : Fin 24) (s : State) : Res :=
  .next (match (chOf s k).onSince with
    | some t => if chOn s k ∧ t + 64000 ≤ s.now then modCh k (fun c => { c with retries := 0 }) s else s
    | none => s)

/-- The hot spot has reached 170 °C: TH_LATCH, no retry, RETRIES frozen (R380). -/
def thermalLatch (k : Fin 24) (s : State) : State :=
  if (chOf s k).th then s
  else
    let s := bridgeFault k s
    postLsw k 2 (modCh k (fun c => { c with th := true, retryAt := none, limit := false, onSince := none, hot := max 170 c.hot }) s)

/-- LSW_THERMAL_LATCH (R380). -/
def execLswThermalLatch (k : Fin 24) (s : State) : Res := .next (if s.rst.held0 then s else thermalLatch k s)

/-! ### Fold-back (R383) -/

/-- Channels of a group, ascending. -/
def groupChannels (g : Fin 4) : List (Fin 24) := (allFin 24).filter fun k => decide (k.val / 6 = g.val)

/-- The channel that is folded next (R383). -/
def foldNext (s : State) (g : Fin 4) : Option (Fin 24) :=
  let free := (groupChannels g).filter fun k => let c := chOf s k; !c.oc && !c.th && !c.folded
  let inLimit := free.filter fun k => (chOf s k).limit && chOn s k
  let pulsed := (free.filter fun k => !owned s k && (chOf s k).mode.follows).reverse
  let static := (free.filter fun k => !owned s k && ((chOf s k).mode = .high || (chOf s k).mode = .low)).reverse
  let locks := if 2480 ≤ s.lsw.temp[g.val] then (free.filter fun k => owned s k).reverse else []
  (inLimit ++ pulsed ++ static ++ locks).head?

/-- The last move of a group lies at least t ticks back. -/
def foldPaced (g : Fin 4) (t : Nat) (s : State) : Bool :=
  match s.lsw.foldTick[g.val] with
  | some u => decide (u + t ≤ s.now)
  | none => true

/-- Replaces the fold list of a group and notes the move. -/
def setFolds (g : Fin 4) (l : List (Fin 24)) (s : State) : State :=
  { s with lsw := { s.lsw with folds := s.lsw.folds.set g.val l, foldTick := s.lsw.foldTick.set g.val (some s.now) } }

/-- At or above 145 °C one channel per 1 ms is folded (R383). -/
def foldBack (g : Fin 4) (s : State) : State :=
  if 2320 ≤ s.lsw.temp[g.val] ∧ foldPaced g 64 s then
    match foldNext s g with
    | some k =>
      let s := setFolds g (k :: s.lsw.folds[g.val]) s
      postLsw k 5 (modCh k (fun c => { c with folded := true, limit := false, onSince := none }) s)
    | none => s
  else s

/-- LSW_FOLD_BACK (R383). -/
def execLswFoldBack (g : Fin 4) (s : State) : Res := .next (if s.rst.held0 then s else foldBack g s)

/-- Below 130 °C the channel folded last comes back, one per 10 ms (R383). -/
def foldRestore (g : Fin 4) (s : State) : State :=
  if s.lsw.temp[g.val] < 2080 ∧ foldPaced g 640 s then
    match s.lsw.folds[g.val] with
    | k :: l => postLsw k 6 (turnOn s.now k (modCh k (fun c => { c with folded := false }) (setFolds g l s)))
    | [] => s
  else s

/-- LSW_FOLD_RESTORE (R383). -/
def execLswFoldRestore (g : Fin 4) (s : State) : Res := .next (if s.rst.held0 then s else foldRestore g s)

/-! ### Measurement and open load (R384) -/

/-- The open-load judgement of one channel: the channel, and the cause to post (R384). -/
def openLoad (c : Channel) : Channel × Option Nat :=
  if c.current < 10 * c.olTh then
    let n := min 8 (c.lowRun + 1)
    let c' := { c with lowRun := n, highRun := 0 }
    if n = 8 ∧ !c.openLoad then ({ c' with openLoad := true }, some 3) else (c', none)
  else
    let n := min 8 (c.highRun + 1)
    let c' := { c with highRun := n, lowRun := 0 }
    if n = 8 ∧ c.openLoad then ({ c' with openLoad := false }, some 4) else (c', none)

/-- One channel in one measurement of 1 ms. -/
def measureCh (k : Fin 24) (ma : Nat) (lim : Bool) (hot : Int) (whole : Bool) (s : State) : State :=
  let on := chOn s k
  let blank := blanking s k
  let whole := whole || !((chOf s k).mode.follows && !owned s k)
  let bad := lim && on && !blank
  let since (c : Channel) : Option Tick := if !on || !whole then none else if bad then some s.now else some (c.onSince.getD (s.now - 64))
  let s := modCh k (fun c => { c with current := min 4095 ma, limit := lim && on, hot := hot, onSince := since c }) s
  let c := chOf s k
  if c.olTh ≠ 0 ∧ on ∧ whole ∧ !blank ∧ 90 ≤ s.lsw.vaux then
    let (c', cause) := openLoad c
    let s := modCh k (fun _ => c') s
    match cause with
    | some x => postLsw k x s
    | none => s
  else s

/-- LSW_MEASUREMENT (R372, R384). -/
def execLswMeasurement (ma : List Nat) (limit : BitVec 24) (hot : List Int) (grp : List Int) (wholeOn : BitVec 24) (vaux : Nat)
    (s : State) : Res :=
  .next (if s.rst.held0 then s
    else
      let s := { s with lsw := { s.lsw with temp := Vector.ofFn fun g => grp.getD g.val 0, vaux := vaux } }
      forFin 24 (fun k s => measureCh k (ma.getD k.val 0) (limit.getLsbD k.val) (hot.getD k.val 0) (wholeOn.getLsbD k.val) s) s)

/-! ### VAUX (R385, R386) -/

/-- Every stage is off until its restoration; modes, latches, retries and folds stay (R385, R386). -/
def dipAll (s : State) : State :=
  { s with lsw := { s.lsw with ch := s.lsw.ch.map fun c => { c with dipped := true, limit := false, onSince := none } } }

/-- VAUX_UNDERVOLTAGE (R385). -/
def execVauxUndervoltage (dv : Nat) (s : State) : Res :=
  .next (if s.rst.held0 ∨ s.lsw.uv ∨ 60 ≤ dv then s
    else
      let s := dipAll s
      postSupply 0 0 { s with lsw := { s.lsw with uv := true, vaux := dv } })

/-- VAUX_OVERVOLTAGE (R385). -/
def execVauxOvervoltage (dv : Nat) (s : State) : Res :=
  .next (if s.rst.held0 ∨ s.lsw.ov ∨ dv ≤ 340 then s
    else
      let s := dipAll s
      postSupply 2 0 { s with lsw := { s.lsw with ov := true, vaux := dv } })

/-- A channel in its restoration slot, with a retry that fell due; the number of slots used so far (R386). -/
def restoreCh (acc : Nat × State) (k : Fin 24) : Nat × State :=
  let (i, s) := acc
  let t := s.now + (32 * i) / 5
  let due (c : Channel) : Option Tick := c.retryAt.filter fun r => decide (t < r)
  let s := modCh k (fun c => { c with dipped := false, retryAt := due c }) s
  if chOn s k then (i + 1, turnOn t k s) else (i, s)

/-- VAUX is back in range: past the hysteresis of each limit that it had left, and within both (R385). -/
def vauxBack (l : Lsw) (dv : Nat) : Bool :=
  (l.uv || l.ov) && decide (60 ≤ dv ∧ dv ≤ 340) && (!l.uv || decide (65 < dv)) && (!l.ov || decide (dv < 330))

/-- VAUX_RESTORE (R386): one channel per 100 µs, then UV or OV clears. -/
def execVauxRestore (dv : Nat) (s : State) : Res :=
  .next (if s.rst.held0 || !vauxBack s.lsw dv then s
    else
      let (_, s) := (allFin 24).foldl restoreCh (0, { s with lsw := { s.lsw with vaux := dv } })
      postSupply 1 0 { s with lsw := { s.lsw with uv := false, ov := false } })

/-! ### PWM inputs (R376, R377) -/

/-- Changes one PWM input. -/
def modPwm (j : Fin 4) (f : PwmIn → PwmIn) (s : State) : State := { s with lsw := { s.lsw with pwm := vmod s.lsw.pwm j f } }

/-- Channels that follow an input. -/
def followers (s : State) (j : Fin 4) : List (Fin 24) :=
  (allFin 24).filter fun k => !owned s k && (chOf s k).mode.follows && decide ((chOf s k).input = j)

/-- First tick at or after a time in µs from GTC 0. -/
def tickOfUs (us : Nat) : Tick := (64 * us + 999) / 1000

/-- A turn-on by an edge starts a blanking of 50 µs (R379); a stage that turned off is not in limit. -/
def edgeCh (us : Nat) (k : Fin 24) (before : Option Bool) (s : State) : State :=
  match sideOn s k with
  | some d => if some d = before then s else modCh k (fun c => { c with blankEnd := max c.blankEnd (tickOfUs (us + 50)) }) s
  | none => modCh k (fun c => { c with limit := false }) s

/-- The filtered input follows an edge at us; more than 5 rising edges in 1 ms set PWM_FAST (R377). -/
def pwmEdge (j : Fin 4) (us : Nat) (s : State) : State :=
  let ks := followers s j
  let before := ks.map (sideOn s)
  let old := s.lsw.pwm[j.val]
  let high := !old.high
  let edges := if high then us :: old.edges.filter (fun e => decide (us < e + 1000)) else old.edges
  let n := edges.length
  let fastUs := if high && decide (4 < n) then us else old.fastUs
  let fast := high && decide (5 < n)
  let s := modPwm j (fun p => { p with high := high, edges := edges, edgeAt := none, fastUs := fastUs, fast := p.fast || fast }) s
  let s := (ks.zip before).foldl (fun s kb => edgeCh us kb.1 kb.2 s) s
  if fast ∧ !old.fast then postSupply 3 j.val s else s

/-- At a tick edge: an edge that has lasted 2 µs is no part of a pulse that the input ignores (R377). -/
def settlePwm (j : Fin 4) (s : State) : State :=
  match (s.lsw.pwm[j.val]).edgeAt with
  | some t => if 64 * (t + 2) ≤ 1000 * s.now then pwmEdge j t s else s
  | none => s

/-- PWM_INPUT_EDGE (R377): an edge acts once the level has lasted 2 µs; before that the next edge ends an ignored pulse. -/
def execPwmInputEdge (j : Fin 4) (high : Bool) (us : Nat) (s : State) : Res :=
  .next (
    let p := s.lsw.pwm[j.val]
    if s.rst.held0 then modPwm j (fun p => { p with high := high, edgeAt := none }) s
    else match p.edgeAt with
      | some t =>
        if p.high ≠ high then s
        else if us < t + 2 then modPwm j (fun p => { p with edgeAt := none }) s
        else modPwm j (fun p => { p with edgeAt := some us }) (pwmEdge j t s)
      | none => if p.high = high then s else modPwm j (fun p => { p with edgeAt := some us }) s)

/-- PWM_FAST_CLEAR (R377): 10 ms with at most 4 rising edges in every window; times count from GTC 0. -/
def execPwmFastClear (j : Fin 4) (s : State) : Res :=
  .next (
    let p := s.lsw.pwm[j.val]
    if p.fast ∧ 64 * (p.fastUs + 10000) ≤ 1000 * s.now then
      let s := postSupply 4 j.val (modPwm j (fun p => { p with fast := false }) s)
      (followers s j).foldl (fun s k => turnOn s.now k s) s
    else s)

/-! ### Registers (R388) -/

/-- Value of LSW_STATk. -/
def lswStatWord (s : State) (k : Fin 24) : Nat :=
  let c := chOf s k
  let o := owned s k
  (if o then 0 else field 0 3 c.mode.num) + flag 3 o + flag 4 (chOn s k) + flag 5 (c.limit && chOn s k) + flag 6 c.oc + flag 7 c.th + flag 8 c.openLoad +
    flag 9 c.folded + field 10 3 c.retries + field 13 2 (if o || !c.mode.follows then 0 else c.input.val) + field 16 12 c.current

/-- Value of LSW_TEMPg. -/
def lswTempWord (s : State) (g : Fin 4) : Nat := unsigned 16 (s.lsw.temp[g.val]) + flag 16 (!(s.lsw.folds[g.val]).isEmpty)

/-- Value of LSW_STATUS. -/
def lswStatusWord (s : State) : Nat :=
  flag 0 s.lsw.uv + flag 1 s.lsw.ov + flag 2 s.lsw.cfgReject + field 4 4 (maskOf (s.lsw.pwm.toList.map fun p => p.fast))

/-- Value of LSW_CHCFGk: the last value accepted. -/
def lswChcfgWord (s : State) (k : Fin 24) : Nat :=
  let c := (chOf s k).applyCfg
  field 0 4 c.ilim + field 4 5 c.slew + field 9 3 c.blank + field 12 5 c.olTh + field 17 3 c.retryMax + field 20 4 c.retryDly

/-- Field ranges of LSW_CHCFGk. -/
def chcfgOk (v : Nat) : Bool :=
  decide (bitsOf v 0 4 ≤ 14) && decide (1 ≤ bitsOf v 4 5 ∧ bitsOf v 4 5 ≤ 20) && decide (bitsOf v 9 3 ≤ 6) && decide (bitsOf v 12 5 ≤ 20)

/-- A write to LSW_CHCFGk (R388). -/
def writeLswChcfg (k : Fin 24) (v : Nat) (s : State) : State :=
  if chcfgOk v && (!owned s k || (outOf s (bridgeOutlet k)).idle) then modCh k (fun c => { c with pendCfg := some (BitVec.ofNat 32 v) }) s
  else { s with lsw := { s.lsw with cfgReject := true } }

/-- LSW_CHCFG_WRITE (R388). -/
def execLswChcfgWrite (k : Fin 24) (v : W32) (s : State) : Res := .next (hostAcc (writeLswChcfg k v.toNat) s)

/-! ### Descriptors (R389) -/

/-- LSW_SET (R373, R375, R376, R381): it takes effect, and completes, at the next tick edge. -/
def lswSet (f : Flight) (s : State) : State :=
  let k := f.p 16 1
  let m := f.p 17 1
  let j := f.p 18 1
  if 23 < k ∨ 5 < m ∨ 3 < j ∨ (m ≤ 2 ∧ j ≠ 0) then completeSt f .invalid s
  else
    let k : Fin 24 := Fin.ofNat 24 k
    let c := chOf s k
    let mode := modeOfNum m
    if owned s k ∨ ((c.oc || c.th) ∧ mode ≠ .off) then completeSt f .denied s
    else
      let before := match c.pendMode with | some (p, _, _) => p | none => c.mode
      let soon : Bool := (match c.pendMode with | some (p, _, _) => decide (p ≠ c.mode) | none => false) || (match c.modeTick with | some t => decide (s.now < t + 640) | none => false)
      if mode ≠ before ∧ soon then completeSt f .busy s
      else
        let qs := match c.pendMode with | some (_, _, l) => l | none => []
        keepRunning f (modCh k (fun c => { c with pendMode := some (mode, Fin.ofNat 4 j, qs ++ [f.seq]) }) s)

/-- LSW_SET (R375). -/
def runLswSet (s : State) : Res := .next (dispatch 0x0B01 lswSet s)

/-- A channel set to OFF leaves the fold list (R383). -/
def unfold (k : Fin 24) (s : State) : State :=
  let folds := s.lsw.folds.map fun l => l.filter fun x => decide (x ≠ k)
  modCh k (fun c => { c with folded := false }) { s with lsw := { s.lsw with folds := folds } }

/-- A mode and input are in force from tick t; a change cancels a retry that waits. -/
def setMode (mode : LswMode) (j : Fin 4) (k : Fin 24) (s : State) : State :=
  let c := chOf s k
  let s := if mode = .off ∧ c.folded then unfold k s else s
  if mode = c.mode then modCh k (fun c => { c with input := j }) s
  else turnOn s.now k (modCh k (fun c => { c with mode := mode, input := j, modeTick := some s.now, retryAt := none }) s)

/-- The tick edge at which configurations and modes of a channel take effect (R375, R388); a channel that a lock bridge holds has no
mode of the host's. -/
def applyCh (k : Fin 24) (s : State) : State :=
  let s := if (chOf s k).pendCfg.isSome then modCh k Channel.applyCfg s else s
  let s := if owned s k ∧ (chOf s k).mode ≠ .off then modCh k (fun c => { c with mode := .off, input := 0 }) s else s
  match (chOf s k).pendMode with
  | some (mode, j, qs) =>
    let s := modCh k (fun c => { c with pendMode := none }) s
    let s := if owned s k ∨ (((chOf s k).oc || (chOf s k).th) ∧ mode ≠ .off) then s else setMode mode j k s
    qs.foldl (fun s q => completeSeq q .ok 0 (leBytes 4 (lswStatWord s k)) none s) s
  | none => s

/-- The PWM inputs and all channels at a tick edge. -/
def applyChannels (s : State) : State := forFin 24 applyCh (if s.rst.held0 then s else forFin 4 settlePwm s)

/-- Clears what LSW_CLEAR may clear on one channel (R380, R381): whether it has been cleared, and whether TH_LATCH stays. -/
def clearCh (k : Fin 24) (s : State) : (Bool × Bool) × State :=
  let c := chOf s k
  let stays := c.th && decide (150 ≤ c.hot)
  let cleared := (c.oc || c.th) && !stays
  let s := modCh k (fun c => { c with oc := false, th := stays, retries := if c.th then c.retries else 0 }) s
  ((cleared, stays), if cleared then setMode .off 0 k s else s)

/-- LSW_CLEAR (R381, R382). -/
def lswClear (f : Flight) (s : State) : State :=
  let m := f.p 16 3
  let ks := (allFin 24).filter fun k => bitAt m k.val
  let bad (k : Fin 24) : Bool :=
    let st := (outOf s (bridgeOutlet k)).state.num
    owned s k && decide (1 ≤ st ∧ st ≤ 9)
  if ks.any bad then completeSt f .denied s
  else
    let (mask, stays, s) := ks.foldl (fun (acc : Nat × Bool × State) k =>
      let ((cl, st), s) := clearCh k acc.2.2
      (acc.1 + (if cl then 2 ^ k.val else 0), acc.2.1 || st, s)) (0, false, s)
    complete f .ok (b2n stays) (leBytes 3 mask) none s

/-- LSW_CLEAR (R381). -/
def runLswClear (s : State) : Res := .next (dispatch 0x0B02 lswClear s)

/-- LSW_READ (R389). -/
def lswRead (f : Flight) (s : State) : State :=
  let b := (allFin 24).flatMap (fun k => leBytes 4 (lswStatWord s k)) ++ (allFin 4).flatMap (fun g => leBytes 4 (lswTempWord s g))
  complete f .ok 0 (leBytes 2 (lswStatusWord s)) (some b) s

/-- LSW_READ (R389). -/
def runLswRead (s : State) : Res := .next (dispatch 0x0B03 lswRead s)

/-- The LSW bit sets: one LSW_FAULT for each channel whose flags changed during the reset (R387). -/
def lswReady (s : State) : State :=
  forFin 24 (fun k s =>
    let c := chOf s k
    let (oc, th, fo, op) := c.seen
    let s := modCh k (fun c => { c with seen := c.flags }) s
    if c.oc ≠ oc then postLsw k 1 s
    else if c.th ≠ th then postLsw k 2 s
    else if c.folded ≠ fo then postLsw k (if c.folded then 5 else 6) s
    else if c.openLoad ≠ op then postLsw k (if c.openLoad then 3 else 4) s
    else s) { s with lsw := { s.lsw with owed := false } }

end Sys2Proof.Machine
end

