-- ==== Sys2Proof/Machine/Saf.lean ====
section
/-! DEFINITION. Emergency stop, the safety parameter block and its commissioning (chapter 09). -/

namespace Sys2Proof.Machine

/-- Changes a stop pair or a stop input. -/
def modPair (k : Fin 2) (f : StopPair → StopPair) (s : State) : State := { s with saf := { s.saf with pair := vmod s.saf.pair k f } }
def modInp (c : Fin 4) (f : StopInput → StopInput) (s : State) : State := { s with saf := { s.saf with inp := vmod s.saf.inp c f } }

/-- Fields of the active block for a pair: used, outlet mask, DISC in ticks, AUTO_REL (R243). -/
def pairUsed (s : State) (k : Fin 2) : Bool := bitAt (activeByte s 3) k.val
def pairMask (s : State) (k : Fin 2) : Nat := activeByte s (4 + k.val)
def pairDisc (s : State) (k : Fin 2) : Nat := 64 * (activeByte s (6 + 2 * k.val) + 256 * activeByte s (7 + 2 * k.val))
def autoRel (s : State) (k : Fin 2) : Bool := bitAt (activeByte s 11) k.val

/-- The channels of a pair, and the pair and partner of a channel. -/
def chanA (k : Fin 2) : Fin 4 := ⟨2 * k.val, by omega⟩
def chanB (k : Fin 2) : Fin 4 := ⟨2 * k.val + 1, by omega⟩
def pairOfChan (c : Fin 4) : Fin 2 := ⟨c.val / 2, by omega⟩
def partner (c : Fin 4) : Fin 4 := if c.val % 2 = 0 then chanB (pairOfChan c) else chanA (pairOfChan c)

/-- SAF_ESTOP.OPEN: unrecognised inputs read 1. -/
def openNibble (s : State) : Nat := maskOf (s.saf.inp.toList.map fun x => x.recog ≠ some false)

/-- SAF_ESTOP event (R253). -/
def postEstop (k : Fin 2) (cause : Nat) (s : State) : State :=
  postSaf 0x0401 0xFF [BitVec.ofNat 8 k.val, BitVec.ofNat 8 cause, BitVec.ofNat 8 (openNibble s), BitVec.ofNat 8 (pairMask s k)] s

/-- STOP_IN_FORCE: the stop takes force; outlets of the pair in states 1 to 10 fault in this foreground A (R235). -/
def takeStop (k : Fin 2) (s : State) : State :=
  if (s.saf.pair[k.val]).stop then s
  else
    let s := postEstop k 0 (modPair k (fun p => { p with stop := true }) s)
    forFin 8 (fun n s =>
      let o := outOf s n
      if bitAt (pairMask s k) n.val && decide (1 ≤ o.state.num) && o.state.num10 then
        modOut n (Outlet.fault .safety) s
      else s) s

/-- Both channels are recognised closed and no fault is latched (R239). -/
def releasable (s : State) (k : Fin 2) : Bool :=
  let p := s.saf.pair[k.val]
  decide ((s.saf.inp[(chanA k).val]).recog = some false) && decide ((s.saf.inp[(chanB k).val]).recog = some false) && !p.disc && !p.chat

/-- A stop is released (R239). -/
def releaseStop (k : Fin 2) (s : State) : State := postEstop k 2 (modPair k (fun p => { p with stop := false }) s)

/-- ESTOP_AUTO_RELEASE (R239). -/
def autoRelease (k : Fin 2) (s : State) : State :=
  if (s.saf.pair[k.val]).stop && autoRel s k && releasable s k then releaseStop k s else s

/-- A recognition of a channel: its partner waits no longer, and it waits for its partner from its first recognition on (R236). -/
def awaitPartner (w : Option Tick) (both : Bool) (now : Tick) : Option Tick := if both then w else some (w.getD now)

/-- A contact is recognised open (R235, R236). -/
def recognisedOpen (c : Fin 4) (s : State) : State :=
  let k := pairOfChan c
  let q := s.saf.inp[(partner c).val]
  let both := decide (q.recog = some true)
  let near := both && decide (s.now ≤ q.tick + pairDisc s k)
  let s := modInp c (fun x => { x with waitOpen := awaitPartner x.waitOpen both s.now }) (modInp (partner c) (fun x => { x with waitOpen := none }) s)
  takeStop k (modPair k (fun p => { p with openOk := p.disc && near || (p.openOk && !both) }) s)

/-- A contact is recognised closed; a discrepancy fault clears where both closed together after both opened
together (R236). -/
def recognisedClosed (c : Fin 4) (s : State) : State :=
  let k := pairOfChan c
  let q := s.saf.inp[(partner c).val]
  let both := decide (q.recog = some false)
  let near := both && decide (s.now ≤ q.tick + pairDisc s k)
  let p := s.saf.pair[k.val]
  let s := modInp c (fun x => { x with waitClosed := awaitPartner x.waitClosed both s.now }) (modInp (partner c) (fun x => { x with waitClosed := none }) s)
  let s := if both then postEstop k 1 s else s
  let s := if p.disc && p.openOk && near then postEstop k 5 (modPair k (fun p => { p with disc := false, openOk := false }) s) else s
  autoRelease k s

/-- ESTOP_CONTACT_RECOGNISED: DEBOUNCE consecutive samples agree (R234); an unused pair causes no stop (R251). -/
def contactRecognised (c : Fin 4) (s : State) : State :=
  let x := s.saf.inp[c.val]
  let deb := activeByte s 10
  let act (f : Fin 4 → State → State) (s : State) := if pairUsed s (pairOfChan c) then f c s else s
  if s.saf.active.isNone ∨ deb = 0 then s
  else if deb ≤ x.openRun ∧ x.recog ≠ some true then
    act recognisedOpen (modInp c (fun x => { x with recog := some true, tick := s.now }) s)
  else if deb ≤ x.closedRun ∧ x.recog ≠ some false then
    act recognisedClosed (modInp c (fun x => { x with recog := some false, tick := s.now, quietFrom := max x.quietFrom s.saf.samples }) s)
  else s

/-- ESTOP_CONTACT_RECOGNISED (R234). -/
def execEstopContactRecognised (c : Fin 4) (s : State) : Res := inSafety (contactRecognised c) s

/-- ESTOP_DISCREPANCY: DISC has passed since one channel's recognition (R236). -/
def execEstopDiscrepancy (k : Fin 2) (s : State) : Res :=
  inSafety (fun s =>
    let late (w : Option Tick) : Bool := match w with | some t => decide (t + pairDisc s k ≤ s.now) | none => false
    let lateChan (c : Fin 4) : Bool := late (s.saf.inp[c.val]).waitOpen || late (s.saf.inp[c.val]).waitClosed
    let drop (x : StopInput) : StopInput :=
      { x with waitOpen := if late x.waitOpen then none else x.waitOpen, waitClosed := if late x.waitClosed then none else x.waitClosed }
    if pairUsed s k ∧ (lateChan (chanA k) || lateChan (chanB k)) then
      let had := (s.saf.pair[k.val]).disc
      let s := modInp (chanA k) drop (modInp (chanB k) drop (modPair k (fun p => { p with disc := true, openOk := false }) s))
      if had then s else postEstop k 3 s
    else s) s

/-- ESTOP_CHATTER_CLEAR: every input of the pair closed, without an opening edge, for 10 s (R237). -/
def execEstopChatterClear (k : Fin 2) (s : State) : Res :=
  inSafety (fun s =>
    let quiet (c : Fin 4) : Bool :=
      let x := s.saf.inp[c.val]
      decide (x.recog = some false) && decide (x.quietFrom + 10000 ≤ s.saf.samples)
    if (s.saf.pair[k.val]).chat ∧ quiet (chanA k) ∧ quiet (chanB k) then
      autoRelease k (postEstop k 5 (modPair k (fun p => { p with chat := false }) s))
    else s) s

/-- One sample of one input: runs, opening edges of the last 1,000 samples (R234, R237). -/
def StopInput.sample (i : StopIn) (n : Nat) (x : StopInput) : StopInput :=
  let o := i.isOpen || decide (0 < i.edges)
  let l := (if i.edges = 0 then x.edges else (n, i.edges) :: x.edges).filter fun e => decide (n < e.1 + 1000)
  { x with openRun := if o then x.openRun + 1 else 0, closedRun := if o then 0 else x.closedRun + 1, edges := l,
           quietFrom := if o then n + 1 else x.quietFrom }

/-- Opening edges in the window of 1,000 samples. -/
def StopInput.count (x : StopInput) : Nat := (x.edges.map (·.2)).sum

/-- ESTOP_CHATTER: more than 20 opening edges in 1,000 samples on an input of a used pair (R237). -/
def chatterCheck (k : Fin 2) (s : State) : State :=
  let many (c : Fin 4) : Bool := decide (20 < (s.saf.inp[c.val]).count)
  if pairUsed s k && !(s.saf.pair[k.val]).chat && (many (chanA k) || many (chanB k)) then
    takeStop k (postEstop k 4 (modPair k (fun p => { p with chat := true }) s))
  else s

/-- The stop inputs of a tick with GTC[5:0] = 16, sampled from the SAF ready time on under an active block (R233, R240, R251). -/
def stopSamples (i : TickIn) (s : State) : State :=
  if s.now % 64 ≠ 16 ∨ s.saf.active.isNone ∨ !s.isReady 4 then s
  else
    let n := s.saf.samples + 1
    let inp : Vector StopInput 4 := Vector.ofFn fun c =>
      (s.saf.inp[c.val]).sample (i.stop.getD c.val { isOpen := false, edges := 0 }) n
    let top := (inp.toList.map StopInput.count).foldl max 0
    let s := { s with saf := { s.saf with inp := inp, samples := n, edgesMax := min 255 (max s.saf.edgesMax top) } }
    forFin 2 chatterCheck s

/-! ### The safety parameter block (R243 to R251) -/

/-- Live value of SES_OCFGn; EN of a DC outlet reads 0 (R194). -/
def liveOcfg (s : State) (n : Outlet8) : Nat :=
  let v := (outOf s n).ocfg.toNat
  if isDc s n then v / 2 * 2 else v

/-- The live registers of an outlet equal a block's copy (R246). -/
def blockMatches (b : List Byte) (n : Outlet8) (s : State) : Bool :=
  decide (leAt b (64 + 8 * n.val) 4 = liveOcfg s n) && decide (leAt b (68 + 8 * n.val) 4 = (outOf s n).coil.toNat)

/-- SAFETY_BLOCK_COMPARE: UNCONF of this tick, from the first tick after the SAF bit sets (R246). -/
def compareBlock (s : State) : State :=
  if s.isReady 4 then
    let ok (n : Outlet8) : Bool := match s.saf.active with | some b => s.saf.confirmed && blockMatches b n s | none => false
    { s with saf := { s.saf with unconf := BitVec.ofNat 8 (maskOf ((allFin 8).map fun n => !ok n)) } }
  else s

/-- SAF_BLOCK event (R253). -/
def postBlock (cause check edition : Nat) (s : State) : State :=
  postSaf 0x0402 0xFF ([BitVec.ofNat 8 cause] ++ leBytes 4 check ++ leBytes 4 edition) s

/-- The blocks that SAF_COMMISSION has accepted in the tick before, in their order (R249). -/
def commissioned (s : State) : List PendBlock := s.saf.armed ++ (s.saf.pend.filter PendBlock.go).toList

/-- A block becomes the active block (R249). -/
def activateOne (s : State) (p : PendBlock) : State :=
  postBlock 1 (crc32c p.bytes) p.edition.toNat
    { s with saf := { s.saf with active := some p.bytes, copies := Vector.replicate 3 { image := p.bytes },
                                 check := BitVec.ofNat 32 (crc32c p.bytes), edition := p.edition, confirmed := true, mismatch := false } }

/-- What a new block brings to a pair at once: a stop where a channel of a pair that is used now is recognised open, with its partner
awaited since then, and the release where AUTO_REL is the last condition to come true (R235, R236, R239). -/
def pairActivated (usedBefore : Bool) (k : Fin 2) (s : State) : State :=
  let a := s.saf.inp[(chanA k).val]
  let b := s.saf.inp[(chanB k).val]
  let isOpen (x : StopInput) := decide (x.recog = some true)
  if pairUsed s k && !usedBefore && (isOpen a || isOpen b) then
    let await (x y : StopInput) : StopInput := if isOpen x && !isOpen y then { x with waitOpen := some x.tick } else x
    takeStop k (modInp (chanB k) (fun x => await x a) (modInp (chanA k) (fun x => await x b) s))
  else autoRelease k s

/-- Commissioned blocks become the active block at the tick edge, one after the other (R249). -/
def activateBlock (s : State) : State :=
  match commissioned s with
  | [] => s
  | l =>
    let used := (allFin 2).map (pairUsed s)
    let s := l.foldl activateOne { s with saf := { s.saf with armed := [], pend := s.saf.pend.filter fun q => !q.go } }
    forFin 2 (fun k s => pairActivated (used.getD k.val false) k s) s

/-- SAFETY_BLOCK_CHECK at a level-0 start and by the scrub (R247). -/
def checkBlock (s : State) : State :=
  if s.saf.edition = 0 then s
  else
    let good (c : Copy (List Byte)) : Bool := c.crcOk && decide (crc32c c.image = s.saf.check.toNat)
    match s.saf.copies.toList.find? good with
    | some c =>
      { s with saf := { s.saf with copies := Vector.replicate 3 { image := c.image }, active := some (s.saf.active.getD c.image) } }
    | none =>
      if s.saf.mismatch then s
      else postBlock 4 s.saf.check.toNat s.saf.edition.toNat { s with saf := { s.saf with mismatch := true, confirmed := false } }

/-- The block with the substitutions of R243, which the table makes for every pair (log 133), none where R244 refuses it. -/
def parseBlock (b : List Byte) : Option (List Byte) :=
  let u (o n : Nat) := leAt b o n
  let pairOk (k : Nat) : Bool :=
    let m := u (4 + k) 1
    let d := u (6 + 2 * k) 2
    if bitAt (u 3 1) k then decide (m ≠ 0) && (decide (d = 0) || decide (10 ≤ d ∧ d ≤ 500))
    else decide (m = 0) && decide (d = 0) && !bitAt (u 11 1) k
  let outOk (n : Nat) : Bool :=
    let o := u (64 + 8 * n) 4
    let c := u (68 + 8 * n) 4
    ocfgOk o && coilOk c && decide (BitVec.ofNat 32 o &&& ~~~(0x037F7FFF : W32) = 0) && decide (c < 65536)
  if b.length = 128 ∧ u 0 1 = 0x53 ∧ u 1 1 = 0x42 ∧ u 2 1 = 1 ∧ u 3 1 < 4 ∧ u 11 1 < 4 ∧ u 10 1 ≤ 8 ∧ u 13 3 = 0 ∧ leNat (slice b 20 44) = 0 ∧
      pairOk 0 ∧ pairOk 1 ∧ (List.range 8).all outOk then
    let disc (k : Nat) := if u (6 + 2 * k) 2 = 0 then 50 else u (6 + 2 * k) 2
    some (b.take 6 ++ leBytes 2 (disc 0) ++ leBytes 2 (disc 1) ++ leBytes 1 (if u 10 1 = 0 then 3 else u 10 1) ++ b.drop 11)
  else none

/-- SAF_BLOCK_WRITE (R244, R248). -/
def safBlockWrite (f : Flight) (s : State) : State :=
  match parseBlock f.inBuf with
  | none => completeSt f .invalid s
  | some b =>
    let ed := s.saf.editions + 1
    let s := { s with saf := { s.saf with editions := ed, armed := commissioned s,
                                          pend := some { bytes := b, edition := ed, tick := s.now } } }
    let s := postBlock 0 (crc32c b) ed.toNat s
    complete f .ok 0 (leBytes 4 (crc32c b) ++ leBytes 4 ed.toNat) none s

/-- SAF_BLOCK_WRITE (R248). -/
def runSafBlockWrite (s : State) : Res := .next (dispatch 0x0401 safBlockWrite s)

/-- SAF_BLOCK_READ (R252). -/
def safBlockRead (f : Flight) (s : State) : State :=
  let w := f.p 16 1
  let src : Option (List Byte × Nat) :=
    if w = 0 then s.saf.active.map fun b => (b, s.saf.edition.toNat) else s.saf.pend.map fun p => (p.bytes, p.edition.toNat)
  if 1 < w then completeSt f .invalid s
  else match src with
    | some (b, ed) => complete f .ok 0 (leBytes 4 (crc32c b) ++ leBytes 4 ed) (some b) s
    | none => completeSt f .conflict s

/-- SAF_BLOCK_READ (R252). -/
def runSafBlockRead (s : State) : Res := .next (dispatch 0x0402 safBlockRead s)

/-- SAF_COMMISSION (R249). Until the next tick edge the block is still pending, so that a repeat in the same tick completes OK too. -/
def safCommission (f : Flight) (s : State) : State :=
  let busy := (allFin 8).any fun n => decide (1 ≤ (outOf s n).state.num ∧ (outOf s n).state.num ≤ 9)
  match s.saf.pend with
  | none => completeSt f .conflict s
  | some p =>
    let crc := crc32c p.bytes
    let differ := maskOf ((allFin 8).map fun n => !blockMatches p.bytes n s)
    if f.p 20 4 ≠ p.edition.toNat then completeSt f .conflict s
    else if busy then completeSt f .denied s
    else if f.p 16 4 ≠ crc then
      complete f .integrity 0 (leBytes 4 s.saf.check.toNat) none
        (postBlock 2 (f.p 16 4) p.edition.toNat { s with saf := { s.saf with pend := none } })
    else if differ ≠ 0 then complete f .conflict differ [] none s
    else
      let s := { s with saf := { s.saf with pend := some { p with go := true } } }
      complete f .ok 0 (leBytes 4 crc) none s

/-- SAF_COMMISSION (R249). -/
def runSafCommission (s : State) : Res := .next (dispatch 0x0403 safCommission s)

/-- SAF_PENDING_EXPIRY: 600 s after the write (R250). -/
def execSafPendingExpiry (s : State) : Res :=
  inSafety (fun s => match s.saf.pend with
    | some p =>
      if !p.go ∧ p.tick + 38400000 ≤ s.now then
        postBlock 3 (crc32c p.bytes) p.edition.toNat { s with saf := { s.saf with pend := none } }
      else s
    | none => s) s

/-- STOP as bits. -/
def stopBits (s : State) : Nat := maskOf (s.saf.pair.toList.map StopPair.stop)

/-- SAF_ESTOP_RELEASE (R239, R252). -/
def safEstopRelease (f : Flight) (s : State) : State :=
  let m := f.p 16 1
  let named := (allFin 2).filter fun k => bitAt m k.val
  if m = 0 ∨ 3 < m then completeSt f .invalid s
  else if named.any fun k => !(s.saf.pair[k.val]).stop then completeSt f .conflict s
  else if named.any fun k => !releasable s k then completeSt f .denied s
  else
    let s := named.foldl (fun s k => releaseStop k s) s
    complete f .ok 0 (leBytes 1 (stopBits s)) none s

/-- SAF_ESTOP_RELEASE (R252). -/
def runSafEstopRelease (s : State) : Res := .next (dispatch 0x0404 safEstopRelease s)

/-- SAF_STATUS and SAF_ESTOP. -/
def safStatusWord (s : State) : Nat :=
  flag 0 s.saf.confirmed + flag 1 s.saf.pend.isSome + flag 2 s.saf.mismatch + field 8 2 (stopBits s) +
  field 10 2 (maskOf (s.saf.pair.toList.map StopPair.disc)) + field 12 2 (maskOf (s.saf.pair.toList.map StopPair.chat)) +
  field 16 8 s.saf.unconf.toNat
def safEstopWord (s : State) : Nat := openNibble s + field 8 8 s.saf.edgesMax

/-- SAF_ESTOP_READ: a host read returns SAF_ESTOP and clears EDGES_MAX (R16). -/
def execSafEstopRead (s : State) : Res :=
  .next (hostAcc (fun s => { s with lastRead := BitVec.ofNat 32 (safEstopWord s), saf := { s.saf with edgesMax := 0 } }) s)

/-- SAF_STATUS_READ (R252). -/
def runSafStatusRead (s : State) : Res :=
  .next (dispatch 0x0405 (fun f s =>
    complete f .ok 0 (leBytes 4 (safStatusWord s) ++ leBytes 4 (safEstopWord s)) none s) s)

end Sys2Proof.Machine
end

