-- ==== Sys2Proof/Machine/Mem.lean ====
section
/-! DEFINITION. Records in three copies, the scrub, wear management and the MRAM port (chapter 18, R418 to R433); stored words and tiles
are in Cells.
 -/

namespace Sys2Proof.Machine

/-! ### Records in three copies (R418, R419) -/

/-- A copy is hurt: its checksum or tag fails, or it holds the state before the last commit. -/
def Copy.hurt {α : Type} (how : CopyHurt) (prev : α) (c : Copy α) : Copy α :=
  match how with
  | .badCrc => { c with crcOk := false }
  | .stale => { c with image := prev }

/-- A copy of a record is hurt in its owner's block; a stale safety block fails against SAF_CHECK. -/
def hurtCopy (o : Owner) (j : Fin 3) (how : CopyHurt) (s : State) : State :=
  match o with
  | .billing n =>
    let b := s.bill[n.val]
    let b' := if b.frozen then { b with qCopies := vmod b.qCopies j (Copy.hurt how b.qPrev), cCopies := vmod b.cCopies j (Copy.hurt how b.cPrev) }
      else { b with copies := vmod b.copies j (Copy.hurt how b.prev) }
    { s with bill := s.bill.set n.val b' }
  | .account n =>
    let p := s.ppy[n.val]
    { s with ppy := s.ppy.set n.val { p with copies := vmod p.copies j (Copy.hurt how p.prev) } }
  | .safety => { s with saf := { s.saf with copies := vmod s.saf.copies j fun c => { c with crcOk := false } } }
  | .key k =>
    let e := s.key.slot[k.val]
    { s with key := { s.key with slot := s.key.slot.set k.val { e with copies := vmod e.copies j (Copy.hurt how e.prev) } } }
  | .tokens => { s with sct := { s.sct with copies := vmod s.sct.copies j (Copy.hurt how s.sct.prev) } }
  | .helper => { s with key := { s.key with helper := vmod s.key.helper j fun c => { c with crcOk := false } } }

/-- A copy of an account or of the tokens that does not hold the working state is rewritten from it (R144, R187, R297). -/
def scrubAccount (n : Outlet8) (j : Fin 3) (s : State) : State :=
  let p := s.ppy[n.val]
  { s with ppy := s.ppy.set n.val { p with copies := p.copies.set j.val { image := p.acc } } }

/-- The token copies are rewritten from the working tokens (R297). -/
def scrubTokens (j : Fin 3) (s : State) : State :=
  if s.sct.ledgerDoubt then s else { s with sct := { s.sct with copies := s.sct.copies.set j.val { image := (s.sct.seq, s.sct.tok) } } }

/-- The helper copies are rewritten from the first intact one (R390). -/
def scrubHelper (s : State) : State :=
  match firstIntact s.key.helper with
  | some h => { s with key := { s.key with helper := Vector.replicate 3 { image := h } } }
  | none => s

/-- The owner of a record checks one of its copies (R418, R426). -/
def checkOwner (o : Owner) (j : Fin 3) (s : State) : State :=
  match o with
  | .billing n => scrubBill n j s
  | .account n => scrubAccount n j s
  | .safety => checkBlock s
  | .key k => checkKey k s
  | .tokens => scrubTokens j s
  | .helper => scrubHelper s

/-- The owners, in the order of their numbers for copyTile. -/
def owners : List Owner :=
  (allFin 8).map .billing ++ (allFin 8).map .account ++ [.safety] ++ (allFin 32).map .key ++ [.tokens, .helper]

/-- Logical tile of copy j of record o: three different tiles, the first two of which lie in different banks; which of the copies are
these two is open (R419). -/
def copyTile (o j : Nat) : Nat :=
  let a := Config.place o 0 % 2048
  let b := 512 * ((a / 512 + 1 + Config.place o 1 % 3) % 4) + Config.place o 2 % 512
  let c := Config.place o 3 % 2046
  let c := if c < min a b then c else if c + 1 < max a b then c + 1 else c + 2
  [a, b, c].getD ((j + Config.place o 4) % 3) a

/-- MRAM bank of a physical tile: four banks of 512 tiles (R419). -/
def bankOf (p : Nat) : Nat := if p < 2048 then p / 512 else (Config.spareBank (p - 2048)).val

/-- Three tiles are different and lie in at least two banks (R419). -/
def apart (a b c : Nat) : Bool := decide (a ≠ b ∧ b ≠ c ∧ a ≠ c ∧ ¬(bankOf a = bankOf b ∧ bankOf b = bankOf c))

/-- Every record keeps the placement of R419. -/
def placed (s : State) : Bool :=
  (List.range owners.length).all fun o => apart (physTile (copyTile o 0) s) (physTile (copyTile o 1) s) (physTile (copyTile o 2) s)

/-- Copies of records that lie in a tile. -/
def copiesIn (t : Nat) : List (Owner × Fin 3) :=
  owners.zipIdx.flatMap fun oi => ((allFin 3).filter fun j => decide (copyTile oi.2 j.val = t)).map fun j => (oi.1, j)

/-- The owners whose copies lie in a tile are notified (R426). -/
def notifyOwners (t : Nat) (s : State) : State :=
  modMem (fun m => { m with notices := m.notices ++ (copiesIn t).filter fun e => !m.notices.contains e }) s

/-- The window in which an owner checks a record: the safety block in foreground A, billing and the accounts in foreground B, the key
engine and the token agent with the mailboxes in foreground C (R53, R426; log 193). -/
def ownerWindow : Owner → Window
  | .safety => .safety
  | .billing _ | .account _ => .metering
  | .key _ | .tokens | .helper => .host

/-- In its window an owner checks the copies that it has been notified of (R426). -/
def checkNoticed (w : Window) (s : State) : State :=
  let (now, later) := s.mem.notices.partition fun e => decide (ownerWindow e.1 = w)
  now.foldl (fun s e => checkOwner e.1 e.2 s) (modMem (fun m => { m with notices := later }) s)

/-! ### Scrub (R426) -/

/-- Memory and first word of a scrub step, and the tile that it ends. -/
def scrubPlace (c : Nat) : MemId × Nat × Option Nat :=
  if c < 16384 then (.mram, 64 * c, if c % 8 = 7 then some (c / 8) else none)
  else if c < 16896 then (.metSram, 64 * (c - 16384), none)
  else (.appSram, 64 * (c - 16896), none)

/-- One scrub step: 64 words are read and checked, invalid ones skipped; a tile that ends is verified and its owners are notified. -/
def scrubStep (s : State) : State :=
  let (m, lo, tile) := scrubPlace s.mem.cursor
  let ws := (memTable m s).filter fun e => decide (lo ≤ e.1 ∧ e.1 < lo + 64) && !e.2.flips.isEmpty && e.2.isValid
  let s : State := ws.foldl (fun s e => (readWord m e.1 true s).2) s
  let s : State := match tile with | some t => notifyOwners t (verifyTile t s) | none => s
  let last := decide (20991 ≤ s.mem.cursor)
  modMem (fun x => { x with cursor := if last then 0 else x.cursor + 1, passes := if last then x.passes + 1 else x.passes }) s

/-! ### The port (R428 to R432) -/

/-- CLASS of a requester (R428). -/
def portClass (k : Fin 8) : Nat := #[3, 3, 2, 1, 1, 1, 1, 0].getD k.val 0

/-- Words of a transfer (R428). -/
def xferSize : Xfer → Nat
  | .write _ ws => min 64 ws.length
  | .writeBytes _ _ _ => 1
  | .read _ n => min 64 n

/-- Word i of a transfer moves. -/
def moveWord (x : Xfer) (i : Nat) (s : State) : State :=
  match x with
  | .write a ws => match ws[i]? with | some w => writeWord .mram (a + i) w.1 w.2 s | none => s
  | .writeBytes a mask d => mergeWord .mram a mask d s
  | .read a _ => portRead (a + i) s

/-- Changes PRIO of a requester. -/
def modPrio (k : Fin 8) (f : Nat → Nat) (s : State) : State := modMem (fun m => { m with prio := vmod m.prio k f }) s

/-- BASE of a requester. -/
def baseOf (k : Fin 8) (s : State) : Nat := s.mem.base[k.val]

/-- One request ranks before another: CLASS, then PRIO, then the lower ID (R429). -/
def ranks (s : State) (a b : Fin 8) : Bool :=
  let pa := s.mem.prio[a.val]
  let pb := s.mem.prio[b.val]
  if portClass a ≠ portClass b then decide (portClass b < portClass a)
  else if pa ≠ pb then decide (pb < pa)
  else decide (a.val < b.val)

/-- The request that wins a round. -/
def winner (s : State) : Option PortXfer :=
  s.mem.waiting.foldl (fun best x =>
    match best with
    | none => some x
    | some b => if ranks s x.who b.who then some x else some b) none

/-- An arbitration of a free port: the winner is granted, the losers age (R429); none while the port is frozen (R431). -/
def arbitrate (s : State) : State :=
  if s.mem.freeze ∨ s.mem.busy.isSome then s
  else match winner s with
    | none => s
    | some w =>
      let rest := s.mem.waiting.filter fun x => decide (x.who ≠ w.who)
      let s := rest.foldl (fun s x => modPrio x.who (fun p => min 7 (p + 1)) s) s
      let s := modPrio w.who (fun _ => baseOf w.who s) s
      modMem (fun m => { m with busy := some w, owner := w.who, waiting := rest }) s

/-- The holder's transfer ends; a BASE written during its grant takes effect (R432). -/
def endXfer (w : PortXfer) (s : State) : State :=
  modMem (fun m => { m with busy := none }) (modPrio w.who (fun _ => baseOf w.who s) s)

/-- The holder is pre-empted at a word boundary: it takes part in the round that follows, which it loses, and restarts from its first word
(R429, R430). -/
def preempt (w : PortXfer) (s : State) : State :=
  modMem (fun m => { m with busy := none, waiting := m.waiting ++ [{ w with moved := 0 }] }) s

/-- The word in progress completes; after the last one the transfer ends, and a request of a higher CLASS pre-empts the holder (R430). -/
def wordBoundary (s : State) : State :=
  match s.mem.busy with
  | none => s
  | some w =>
    let s := moveWord w.xfer w.moved s
    let w' := { w with moved := w.moved + 1 }
    if xferSize w.xfer ≤ w'.moved then endXfer w' s
    else
      let s := modMem (fun m => { m with busy := some w' }) s
      if !s.mem.freeze ∧ s.mem.waiting.any (fun x => decide (portClass w.who < portClass x.who)) then preempt w' s else s

/-- A requester raises a request; it has one at a time. -/
def raiseReq (s : State) (r : PortReq) : State :=
  if s.mem.waiting.any (fun x => decide (x.who = r.requester)) ∨ s.mem.busy.any (fun x => decide (x.who = r.requester)) then s
  else modMem (fun m => { m with waiting := m.waiting ++ [{ who := r.requester, xfer := r.xfer }] }) s

/-- MRAM_PORT_REQUEST (R429, R430): one word boundary with the requests present in it. -/
def execMramPortRequest (reqs : List PortReq) (s : State) : Res :=
  .next (if s.rst.held0 then s else arbitrate (wordBoundary (reqs.foldl raiseReq s)))

/-- A write to ARB_PRIOk (R432): BASE of requesters 4 to 7; the holder takes it with its next request. -/
def writeArbPrio (k : Fin 8) (v : Nat) (s : State) : State :=
  if k.val < 4 then s
  else
    let b := bitsOf v 0 3
    let s := modMem (fun m => { m with base := m.base.set k.val b }) s
    if s.mem.busy.any (fun x => decide (x.who = k)) then s else modPrio k (fun _ => b) s

/-- ARB_PRIO_WRITE (R432). -/
def execArbPrioWrite (k : Fin 8) (v : W32) (s : State) : Res := .next (hostAcc (writeArbPrio k v.toNat) s)

/-! ### Wear (R427, R431) -/

/-- The port is drained: the transfer in progress moves its remaining words (R431). -/
def drainPort : Nat → State → State
  | 0, s => s
  | n + 1, s => if s.mem.busy.isSome then drainPort n (wordBoundary s) else s

/-- Places a logical tile on a physical one; the map lists only those that differ. -/
def mapTile (t p : Nat) (s : State) : State :=
  let m := s.mem.map.filter fun e => e.1 != t
  let m' := if p = t then m else insertNat (fun e => e.1) (t, p) m
  modMem (fun x => { x with map := m' }) s

/-- A tile holds a stuck address (R427). -/
def tileStuck (t : Nat) (s : State) : Bool := s.mem.log.any fun e => e.stuck && decide (e.mem = 0 ∧ tileOfWord e.addr = t)

/-- Two logical tiles exchange their physical ones. -/
def exchangeTiles (t u : Nat) (s : State) : State := mapTile u (physTile t s) (mapTile t (physTile u s) s)

/-- The least-written tile that has no stuck address (R427) and whose exchange keeps the placement (R419). -/
def leastWritten (t : Nat) (s : State) : Option Nat :=
  (((List.range 2048).filter fun u => decide (u ≠ t) && !tileStuck u s && placed (exchangeTiles t u s)).foldl (fun (best : Option (Nat × Nat)) u =>
    let n := sparseGet 0 s.mem.writes (physTile u s)
    match best with
    | none => some (u, n)
    | some b => if n < b.2 then some (u, n) else some b) none).map (·.1)

/-- The lowest spare tile not yet used that keeps the placement (R419, R427). -/
def freeSpare (t : Nat) (s : State) : Option Nat :=
  ((List.range 128).map (2048 + ·)).find? fun p => !s.mem.spareUsed.contains p && placed (mapTile t p s)

/-- The words of a relocated tile have been copied into the physical tile that it now has (R427). -/
def countCopy (t : Nat) (s : State) : State := countWrites t ((tileWords t s).filter fun e => e.2.isValid).length s

/-- A tile is exchanged with the least-written one (R427). -/
def exchangeTile (t : Nat) (s : State) : State :=
  match leastWritten t s with
  | some u =>
    postTile 2 t (countCopy u (countCopy t (exchangeTiles t u (modMem (fun m => { m with moves := min 65535 (m.moves + 1) }) s))))
  | none => s

/-- The map entry is switched: to a spare tile, or by exchange with another tile, and by exchange too where no spare tile would keep the
placement (R419, R427). -/
def switchTile (r : Reloc) (s : State) : State :=
  match if r.spare then freeSpare r.tile s else none with
  | some p =>
    let s := countCopy r.tile (mapTile r.tile p (modMem (fun m => { m with
      moves := min 65535 (m.moves + 1), spareLeft := m.spareLeft - 1, spareUsed := p :: m.spareUsed }) s))
    postTile 1 r.tile (if s.mem.spareLeft < 13 then setReplace 3 s else s)
  | none => exchangeTile r.tile s

/-- One wear step: 64 words are copied, and after the eighth step the port is frozen and drained, the map switched and the freeze released
(R427, R431). -/
def wearStep (s : State) : State :=
  match s.mem.queued with
  | [] => s
  | r :: rest =>
    if r.copied < 8 then
      let lo := 512 * r.tile + 64 * r.copied
      let ws := (tileWords r.tile s).filter fun e => decide (lo ≤ e.1 ∧ e.1 < lo + 64)
      let s := ws.foldl (fun s e => (readWord .mram e.1 false s).2) s
      let q := match s.mem.queued with | x :: xs => { x with copied := x.copied + 1 } :: xs | [] => []
      modMem (fun m => { m with queued := q }) s
    else
      let s := drainPort 64 (modMem (fun m => { m with freeze := true }) s)
      let s := switchTile r (modMem (fun m => { m with queued := rest }) s)
      arbitrate (modMem (fun m => { m with freeze := false }) s)

/-! ### The rate of corrections and the log (R424, R425) -/

/-- Ticks of a window of R424. -/
def ceWindow : Nat := 230400000

/-- CE_RATE_WINDOW_END (R424). -/
def execCeRateWindowEnd (s : State) : Res :=
  .next (if s.rst.msdUp ∧ (s.mem.windowNo + 1) * ceWindow ≤ s.now then
      let over_ := decide (s.mem.thresh < s.mem.window.length)
      let s := modMem (fun m => { m with window := [], windowNo := s.now / ceWindow }) s
      if over_ then setReplace 0 s else s
    else s)

/-- The 16 bytes of a log entry (R425). -/
def CeEntry.bytes (e : CeEntry) : List Byte :=
  leBytes 4 e.addr ++ [BitVec.ofNat 8 e.mem, BitVec.ofNat 8 e.bit] ++ leBytes 2 e.hits ++ leBytes 6 e.lastGtc.toNat ++
  [BitVec.ofNat 8 (b2n e.stuck), 0]

/-- MEM_LOG_READ (R425, R433). -/
def memLogRead (f : Flight) (s : State) : State :=
  let b := slice (s.mem.log.flatMap CeEntry.bytes) 0 512
  complete f .ok 0 [BitVec.ofNat 8 s.mem.log.length, BitVec.ofNat 8 (b2n s.mem.logOvf)] (some b) s

/-- MEM_LOG_READ (R425). -/
def runMemLogRead (s : State) : Res := .next (dispatch 0x0E01 memLogRead s)

/-! ### Consumers of poison (R418) -/

/-- Number of a consumer (R433). -/
def consumerNum : Consumer → Nat
  | .dma _ => 0 | .regRead => 1 | .copy _ _ => 2 | .sample _ => 3 | .lockstep => 4 | .fn _ => 5 | .bootCheck => 6

/-- The reaction of a consumer; n is the number of words it met in this tick (R418). The buffer of a DMA that met poison holds bytes
that the model does not follow. -/
def consume (c : Consumer) (n : Nat) (s : State) : State :=
  match c with
  | .dma q =>
    match flight? q.toNat s with
    | some f =>
      let (b, s) := freeBytes f.bufLen s
      complete f .poisoned (min 255 n) [] (if f.bufLen = 0 then none else some b) s
    | none => s
  | .regRead => { s with lastRead := 0xFFFFFFFF }
  | .copy o j => checkOwner o j (hurtCopy o j .badCrc s)
  | .sample k =>
    let off := (corrOf s k).offset
    { s with adc := { s.adc with dec := vmod s.adc.dec k fun d => { d with sample := off } } }
  | .lockstep =>
    let (d, s) := drawBool s
    match s.hif.staging with
    | e :: t =>
      if d then
        { s with hif := { s.hif with staging := t, lost := s.hif.lost + 1, lostFirst := if s.hif.lost = 0 then e.evseq else s.hif.lostFirst } }
      else s
    | [] => s
  | .fn cls => raise .poison (levelOf .poison s) cls.toNat s
  | .bootCheck => s

/-- The words that one consumer meets in a tick: its reaction and one MEM_POISON for the first of them (R418). -/
def consumeAll : Nat → List (Consumer × MemId × Nat) → State → State
  | 0, _, s => s
  | _, [], s => s
  | k + 1, (c, m, a) :: t, s =>
    let same := t.filter fun e => decide (e.1 = c)
    let s := consume c (same.length + 1) s
    let s := postMail 0x0E01 0xFF ([BitVec.ofNat 8 (memNum m)] ++ leBytes 4 a ++ [BitVec.ofNat 8 (consumerNum c)]) s
    consumeAll k (t.filter fun e => decide (e.1 ≠ c)) s

/-! ### Registers -/

/-- Values of the memory and arbiter registers. -/
def memStatusWord (s : State) : Nat :=
  field 0 6 s.mem.log.length + flag 6 s.mem.logOvf + field 8 8 s.mem.window.length + field 16 16 (min 65535 s.mem.passes)
def memUeWord (s : State) : Nat := field 0 16 s.mem.ueWord + field 16 16 s.mem.ueTile
def memSpareWord (s : State) : Nat := field 0 8 s.mem.spareLeft + field 8 8 s.mem.queued.length + field 16 16 s.mem.moves
def arbFreezeWord (s : State) : Nat := flag 0 s.mem.freeze + flag 1 (s.mem.freeze && s.mem.busy.isNone)
def arbStatWord (s : State) : Nat :=
  field 0 3 s.mem.owner.val + flag 3 s.mem.busy.isSome + field 4 8 (maskOf ((allFin 8).map fun k => s.mem.waiting.any fun x => decide (x.who = k)))
def arbPrioWord (s : State) (k : Fin 8) : Nat := field 0 3 (baseOf k s) + field 4 3 (s.mem.prio[k.val]) + field 8 2 (portClass k)

/-- A write to MEM_CE_CFG; 0 changes nothing. -/
def writeCeCfg (v : Nat) (s : State) : State :=
  let t := bitsOf v 0 8
  if t = 0 then s else modMem (fun m => { m with thresh := t }) s

end Sys2Proof.Machine
end

