-- ==== Sys2Proof/Machine/Nfc.lean ====
section
/-! DEFINITION. The card reader and the service tag (chapter 13, R339 to R343 and R350 to R358). -/

namespace Sys2Proof.Machine

/-- Changes the reader. -/
def modNfc (f : Nfc → Nfc) (s : State) : State := { s with nfc := f s.nfc }

/-! ### The reader -/

/-- Ticks of the 5 s of R343. -/
def holdTicks : Nat := 320000

/-- A ping differs from the baseline by at least THRESH % of it (R339). -/
def triggers (thresh amp : Nat) (pings : List Nat) : Bool :=
  let n := pings.length
  let sum := pings.foldl (· + ·) 0
  let diff := if amp * n < sum then sum - amp * n else amp * n - sum
  decide (0 < n) && decide (thresh * sum ≤ 100 * diff)

/-- A ping that triggers no poll enters the baseline; two of them in a row end a presentation (R339, R340). -/
def calmPing (amp : Nat) (s : State) : State :=
  let calm := min 2 (s.nfc.calm + 1)
  modNfc (fun n => { n with pings := (amp :: n.pings).take 8, calm := calm, reported := n.reported && decide (calm < 2) }) s

/-- A protocol is enabled (R340, R357). -/
def Nfc.polls (n : Nfc) (ktype : Nat) : Bool :=
  match ktype with
  | 1 => n.enA | 2 => n.enB | 3 => n.enV | _ => false

/-- NFC_CARD (R358). -/
def postCard (ktype klen : Nat) (key : List Byte) (result index : Nat) (s : State) : State :=
  postMail 0x0801 0xFF ([BitVec.ofNat 8 ktype, BitVec.ofNat 8 klen] ++ slice key 0 10 ++ [BitVec.ofNat 8 result] ++ leBytes 2 index) s

/-- A poll found no card; the third in a row sets the baseline (R339). -/
def emptyPoll (amp : Nat) (s : State) : State :=
  if 3 ≤ s.nfc.misses + 1 then modNfc (fun n => { n with misses := 0, pings := List.replicate 8 amp, calm := 0 }) s
  else modNfc (fun n => { n with misses := n.misses + 1, calm := 0 }) s

/-- The field stays on for an ISO-DEP card, at the highest bit rate that the card offers and MAXRATE allows (R341, R343). -/
def holdCard (c : Card) (s : State) : State :=
  modNfc (fun n => { n with heldUntil := some (s.now + holdTicks), rate := min c.rate n.maxRate }) s

/-- A card is reported once per presentation: lookup, event, and the held field (R340, R342, R343). -/
def reportCard (c : Card) (s : State) : State :=
  if s.nfc.reported then s
  else
    let key := slice c.ident 0 16
    let (hit, s) := listLookup c.ktype c.ident.length key s
    let s := postCard c.ktype c.ident.length key (lookupResult hit) ((hit.map (·.1)).getD 0xFFFF) s
    let s := modNfc (fun n => { n with reported := true }) s
    if c.isoDep ∧ c.ktype ≠ 3 then holdCard c s else s

/-- Cards in the field that answer a protocol that is enabled (R340, R341). -/
def Nfc.answering (n : Nfc) (cards : List Card) (ktype : Nat) : List Card :=
  if n.polls ktype then cards.filter fun c => decide (c.ktype = ktype) && klenOk ktype c.ident.length else []

/-- The first protocol, in the order A, B and 15693, in which a card answers decides the poll (R340). -/
def Nfc.anticollision (n : Nfc) (cards : List Card) : PollHit :=
  match [1, 2, 3].find? fun k => !(n.answering cards k).isEmpty with
  | none => .nothing
  | some k => match n.answering cards k with
    | [c] => .one c
    | _ => .several k

/-- What a poll sends in one protocol: its request, the selection of a single card over its cascade levels or slots, and the activation of an
ISO-DEP card, above 106 kbit/s only up to MAXRATE (R341). -/
def Nfc.protocol (n : Nfc) (cards : List Card) (k : Nat) : List RfOut :=
  let l := n.answering cards k
  let isoDep := match l with | [c] => c.isoDep | _ => false
  let rate := match l with | [c] => min c.rate n.maxRate | _ => 0
  let levels := match l with | [c] => (c.ident.length + 2) / 3 - 1 | _ => 3
  if !n.polls k then []
  else match k with
    | 1 => [.reqA] ++ (if l.isEmpty then [] else [.selectA levels]) ++ (if isoDep then [.rats] ++ (if rate = 0 then [] else [.pps rate]) else [])
    | 2 => [.reqB 1] ++ (if 1 < l.length then [.reqB 16] else []) ++ (if isoDep then [.attrib rate] else [])
    | _ => [.inventory 16]

/-- The protocols that a poll runs: it stops at the first in which a card answers (R340). -/
def Nfc.protocols (n : Nfc) (cards : List Card) : List RfOut :=
  let hit (k : Nat) : Bool := !(n.answering cards k).isEmpty
  n.protocol cards 1 ++ (if hit 1 then [] else n.protocol cards 2 ++ if hit 2 then [] else n.protocol cards 3)

/-- What a poll finds is reported (R340). -/
def pollResult (amp : Nat) (hit : PollHit) (s : State) : State :=
  match hit with
  | .nothing => emptyPoll amp s
  | .several kt =>
    let s := modNfc (fun n => { n with misses := 0, calm := 0 }) s
    if s.nfc.reported then s
    else modNfc (fun n => { n with reported := true }) (postCard kt 0 [] 3 0xFFFF s)
  | .one c => reportCard c (modNfc (fun n => { n with misses := 0, calm := 0 }) s)

/-- A poll: the field goes on, the protocols run, and it goes off again unless a card is held (R340, R341, R343). -/
def poll (amp : Nat) (cards : List Card) (s : State) : State :=
  let s := (s.nfc.protocols cards).foldl (fun s o => emit (.rf o) s) (emit (.field true) s)
  let s := pollResult amp (s.nfc.anticollision cards) s
  if s.nfc.heldUntil.isSome then s else emit (.field false) s

/-- The next ping is due (R339). -/
def pingDue (s : State) : Bool :=
  match s.nfc.pingTick with
  | none => true
  | some t => !s.nfc.en || decide (t + 64 * s.nfc.pingMs ≤ s.now)

/-- A ping, with an accepted configuration taking effect (R339, R357); the held field stays on through it. -/
def ping (amp : Nat) (cards : List Card) (s : State) : State :=
  let s := modNfc Nfc.applyCfg s
  if !s.nfc.en then s
  else
    let s := modNfc (fun n => { n with pingTick := some s.now }) s
    if triggers s.nfc.thresh amp s.nfc.pings then (if s.nfc.heldUntil.isSome then modNfc (fun n => { n with calm := 0 }) s else poll amp cards s)
    else calmPing amp s

/-- NFC_PING (R339). -/
def execNfcPing (amp : Nat) (cards : List Card) (s : State) : Res :=
  .next (if s.isReady 8 ∧ pingDue s then ping amp cards s else s)

/-- The field held for a card goes off (R343). -/
def fieldOff (s : State) : State := emit (.field false) (modNfc (fun n => { n with heldUntil := none }) s)

/-- NFC_FIELD_HOLD_END (R343). -/
def execNfcFieldHoldEnd (s : State) : Res :=
  .next (match s.nfc.heldUntil with
    | some t => if t ≤ s.now then fieldOff s else s
    | none => s)

/-- ISO_DEP_CARD_LEFT (R343). -/
def execIsoDepCardLeft (s : State) : Res := .next (if s.nfc.heldUntil.isSome then fieldOff s else s)

/-- NFC_EXCHANGE (R343): the APDU is the buffer, whose place takes the answer of at most 258 bytes (log 85). -/
def nfcExchange (f : Flight) (s : State) : State :=
  if s.nfc.heldUntil.isNone then completeSt f .conflict s
  else if s.nfc.exchange.isSome then completeSt f .busy s
  else emit (.apdu f.inBuf) (keepRunning f (modNfc (fun n => { n with exchange := some (f.seq, s.now) }) s))

/-- NFC_EXCHANGE (R343). -/
def runNfcExchange (s : State) : Res := .next (dispatch 0x0806 nfcExchange s)

/-- NFC_EXCHANGE_ANSWER (R343): only the held card answers, within 5 s. -/
def execNfcExchangeAnswer (answer : List Byte) (s : State) : Res :=
  .next (match s.nfc.exchange with
    | some (q, t) =>
      if s.nfc.heldUntil.isSome ∧ s.now ≤ t + holdTicks then
        let len := min 258 answer.length
        completeSeq q .ok 0 (leBytes 2 len) (some (answer.take len)) (modNfc (fun n => { n with exchange := none }) s)
      else s
    | none => s)

/-- NFC_EXCHANGE_TIMEOUT (R343). -/
def execNfcExchangeTimeout (s : State) : Res :=
  .next (match s.nfc.exchange with
    | some (q, t) =>
      if t + holdTicks ≤ s.now then completeSeq q .timeout 0 [] none (modNfc (fun n => { n with exchange := none }) s) else s
    | none => s)

/-- A write to NFC_CFG (R357). -/
def writeNfcCfg (v : Nat) (s : State) : State :=
  let ms := bitsOf v 0 10
  if ms < 50 ∨ 1000 < ms ∨ bitsOf v 12 4 = 0 then modNfc (fun n => { n with cfgReject := true }) s
  else modNfc (fun n => { n with pendCfg := some (BitVec.ofNat 32 v) }) s

/-- Value of NFC_CFG: the last value accepted. -/
def nfcCfgWord (s : State) : Nat :=
  let n := s.nfc.applyCfg
  field 0 10 n.pingMs + field 12 4 n.thresh + flag 16 n.en + flag 17 n.enA + flag 18 n.enB + flag 19 n.enV + flag 20 n.learn +
  field 21 2 n.maxRate

/-- Value of NFC_STATUS. -/
def nfcStatusWord (s : State) : Nat :=
  flag 0 s.nfc.cfgReject + flag 1 s.nfc.heldUntil.isSome + flag 2 s.nfc.heldUntil.isSome

/-- Value of NFC_LIST_COUNT. -/
def nfcListCountWord (s : State) : Nat :=
  field 0 15 s.nfc.entries.length + field 16 15 (s.nfc.entries.filter fun e => e.2.pinned).length

/-! ### The pages of the tag (R350, R355) -/

/-- Changes the tag. -/
def modTag (f : Tag → Tag) (s : State) : State := { s with tag := f s.tag }

/-- A page, by number. -/
def pageOf (s : State) (p : Nat) : Page := sparseGet {} s.tag.pages p

/-- Replaces a page. -/
def setPage (p : Nat) (g : Page) (s : State) : State := modTag (fun t => { t with pages := sparseSet {} t.pages p g }) s

/-- The valid copy of a page (R355). -/
def Page.valid (g : Page) : List Byte := if g.ptrB then g.b else g.a

/-- The copy that is not valid takes the buffer (R355, step 3). -/
def Page.shadow (g : Page) (bytes : List Byte) : Page := if g.ptrB then { g with a := bytes } else { g with b := bytes }

/-- The pointer moves to the shadow copy and the flag clears (R355, step 5). -/
def Page.swap (g : Page) : Page := { g with ptrB := !g.ptrB, flag := none }

/-- A page write that runs through (R355). -/
def Page.write (g : Page) (bytes : List Byte) : Page := (g.shadow bytes).swap

/-- A page write cut during a step (R355): before step 3 nothing has changed, in step 3 the shadow holds bytes that the manual does
not fix, in step 4 the flag is set or counts as not set, in step 5 the flag is set. -/
def cutWrite (p : Nat) (bytes : List Byte) (step : Nat) (s : State) : State :=
  let g := pageOf s p
  let g' := g.shadow bytes
  match step with
  | 1 | 2 => s
  | 3 =>
    let (b, s) := freeBytes 16 s
    setPage p (g.shadow b) s
  | 4 =>
    let (d, s) := drawBool s
    setPage p (if d then { g' with flag := some (!g.ptrB) } else g') s
  | _ => setPage p { g' with flag := some (!g.ptrB) } s

/-- NFC_TAG (R354, R355, R358), while the post has supply. -/
def postTag (cause : Nat) (data : List Byte) (s : State) : State :=
  if s.rst.msdUp then postMail 0x0802 0xFF (BitVec.ofNat 8 cause :: data) s else s

/-- FD_OUT after a change of FD_EN: low while a field has been present for 1 ms and FD_EN is 1 (R354). -/
def driveFd (t : Tag) : Tag := { t with fd := if t.field && !t.onDue then t.fdEn else t.fd && t.fdEn }

/-- The copy of the settings that the commit flag names becomes the valid one; what an area is open to is no part of it (R355). -/
def swapSet (t : Tag) : Tag :=
  driveFd { t with area := Vector.ofFn fun (i : Fin 3) => { t.other.1[i.val] with isOpen := (t.area[i.val]).isOpen }
                   fdEn := t.other.2, other := (t.area, t.fdEn), setFlag := false }

/-- The settings that a write asks for (R353, R358). -/
def TagWrite.settings (w : TagWrite) (t : Tag) : Vector TagArea 3 × Bool :=
  match w with
  | .page _ _ => (t.area, t.fdEn)
  | .area k limit rp wp pw fd =>
    (vmod t.area (Fin.ofNat 3 (k - 1)) fun a => { a with limit := limit, rp := rp, wp := wp, password := pw, tumbler := 0, locked := false }, fd)
  | .unlock m =>
    (Vector.ofFn fun (i : Fin 3) => let a := t.area[i.val]; if bitAt m i.val then { a with tumbler := 0, locked := false } else a, t.fdEn)

/-- What a step of R355 does when it completes. -/
def stepWrite (w : TagWrite) (step : Nat) (s : State) : State :=
  match w with
  | .page p bytes =>
    let g := pageOf s p
    match step with
    | 3 => setPage p (g.shadow bytes) s
    | 4 => setPage p { g with flag := some (!g.ptrB) } s
    | 5 => setPage p g.swap s
    | _ => s
  | w =>
    match step with
    | 3 => modTag (fun t => { t with other := w.settings t }) s
    | 4 => modTag (fun t => { t with setFlag := true }) s
    | 5 => modTag swapSet s
    | _ => s

/-- A write of the settings that is cut during a step (R355); a copy that no flag names is ignored. -/
def cutSet (new : Vector TagArea 3 × Bool) (step : Nat) (s : State) : State :=
  match step with
  | 1 | 2 | 3 => s
  | 4 =>
    let (d, s) := drawBool s
    if d then modTag (fun t => { t with other := new, setFlag := true }) s else s
  | _ => modTag (fun t => { t with other := new, setFlag := true }) s

/-- A host write that a reset or the loss of supply cut leaves what R355 says of its step. -/
def settleCut (s : State) : State :=
  match s.tag.cut with
  | none => s
  | some (w, step) =>
    let s := modTag (fun t => { t with cut := none }) s
    match w with
    | .page p bytes => if step = 5 then setPage p { pageOf s p with flag := some (!(pageOf s p).ptrB) } s else cutWrite p bytes step s
    | w => cutSet (w.settings s.tag) step s

/-- Every set commit flag is completed (R355); NFC_TAG cause 6 names a page. -/
def completeFlags (s : State) : State :=
  let s := settleCut s
  let torn := s.tag.pages.filter fun e => e.2.flag.isSome
  let s := if s.tag.setFlag then modTag swapSet s else s
  torn.foldl (fun s e =>
    let g := { e.2 with ptrB := e.2.flag.getD e.2.ptrB, flag := none }
    postTag 6 (leBytes 2 e.1) (setPage e.1 g s)) s

/-- TAG_POWER_UP (R355): every set commit flag is completed; the field states of ISO/IEC 15693 start anew. -/
def tagPowerUp (s : State) : State := completeFlags (modTag (fun t => { t with quiet := false, selected := false }) s)

/-- TAG_POWER_UP (R355). -/
def execTagPowerUp (s : State) : Res := .next (tagPowerUp s)

/-! ### The field (R354) -/

/-- Every area closes (R352). -/
def closeAreas (t : Tag) : Tag := { t with area := t.area.map fun a => { a with isOpen := false } }

/-- TAG_FIELD_ON (R354): FD_OUT is to be driven low 1 ms later, at once where the post is dead and no tick counts; a field that comes back
within the 100 ms of its collapse changes nothing at FD_OUT. -/
def tagFieldOn (s : State) : State :=
  if s.tag.field then s
  else
    modTag (fun t => driveFd { t with field := true, fieldTick := s.now, offDue := false, onDue := !t.offDue && s.rst.msdUp }) s

/-- FD_OUT is driven low 1 ms after the field was detected, and the A8 posts that moment (R354). -/
def tickFd (s : State) : State :=
  if s.tag.onDue ∧ s.tag.fieldTick + 64 ≤ s.now then postTag 0 [] (modTag (fun t => driveFd { t with onDue := false }) s) else s

/-- TAG_FIELD_ON (R354). -/
def execTagFieldOn (s : State) : Res := .next (tagFieldOn s)

/-- TAG_FIELD_OFF (R352, R354): the areas close and the tag loses its field states; a field shorter than 1 ms has not reached FD_OUT. -/
def tagFieldOff (s : State) : State :=
  if s.tag.field then
    modTag (fun t =>
      let c := closeAreas t
      { c with field := false, fieldTick := s.now, offDue := !t.onDue, onDue := false, quiet := false, selected := false }) s
  else s

/-- TAG_FIELD_OFF (R354). -/
def execTagFieldOff (s : State) : Res := .next (tagFieldOff s)

/-- FD_OUT_RELEASE (R354): 100 ms after the collapse, by GTC while MSD runs. -/
def execFdOutRelease (s : State) : Res :=
  .next (if s.tag.offDue ∧ (!s.rst.msdUp ∨ s.tag.fieldTick + 6400 ≤ s.now) then
      postTag 1 [] (modTag (fun t => { t with fd := false, offDue := false }) s)
    else s)

/-! ### Field commands (R352, R353) -/

/-- Answers a field command. -/
def answerTag (o : TagOut) (s : State) : State := emit (.tag o) s

/-- The tag takes field commands only in a field. -/
def inField (act : State → State) (s : State) : Res := .next (if s.tag.field then act s else s)

/-- Errors of R352 and R353: command not supported, block not available, area not open. -/
def errUnsupported : Byte := 0x01
def errBlock : Byte := 0x10
def errClosed : Byte := 0x0F

/-- INVENTORY (R352): the AFI of the tag is 0 (PRESUMED, ISO/IEC 15693). -/
def execInventory (afi : Option Byte) (s : State) : Res :=
  inField (fun s => if s.tag.quiet ∨ !(afi = none ∨ afi = some 0) then s else answerTag (.inventory s.fuse.tagUid) s) s

/-- STAY_QUIET (R352). -/
def execStayQuiet (uid : W64) (s : State) : Res :=
  inField (fun s => if uid = s.fuse.tagUid then modTag (fun t => { t with quiet := true, selected := false }) s else s) s

/-- SELECT (R352): another tag's UID ends the selection. -/
def execSelect (uid : W64) (s : State) : Res :=
  inField (fun s => if uid = s.fuse.tagUid then answerTag .ok (modTag (fun t => { t with quiet := false, selected := true }) s)
    else modTag (fun t => { t with selected := false }) s) s

/-- RESET_TO_READY (R352): without a UID a quiet tag does not hear it. -/
def execResetToReady (uid : Option W64) (s : State) : Res :=
  inField (fun s =>
    let hears := match uid with | some u => decide (u = s.fuse.tagUid) | none => !s.tag.quiet
    if hears then answerTag .ok (modTag (fun t => { t with quiet := false, selected := false }) s) else s) s

/-- GET_SYSTEM_INFORMATION (R352): 2,048 blocks of 4 bytes. -/
def execGetSystemInformation (s : State) : Res := inField (fun s => answerTag (.info s.fuse.tagUid 2048 4) s) s

/-- Area of a block, 0 to 3; 4 and above do not exist (R350). -/
def areaOfBlock (b : Nat) : Nat := b / 512

/-- An area k of 1 to 3. -/
def tagArea? (k : Nat) (s : State) : Option TagArea := if 1 ≤ k ∧ k ≤ 3 then s.tag.area.toList[k - 1]? else none

/-- The field may read a block (R350, R352). -/
def mayRead (b : Nat) (s : State) : Bool :=
  match tagArea? (areaOfBlock b) s with
  | some a => !a.rp || a.isOpen
  | none => true

/-- The field may write a block; never in area 0 (R350). -/
def mayWrite (b : Nat) (s : State) : Bool :=
  match tagArea? (areaOfBlock b) s with
  | some a => !a.wp || a.isOpen
  | none => false

/-- The 4 bytes of a block. -/
def blockBytes (b : Nat) (s : State) : List Byte := slice (pageOf s (b / 4)).valid (4 * (b % 4)) 4

/-- Value of NFC_TAG_CFG (R357). -/
def nfcTagCfgWord (s : State) : Nat :=
  let a (i : Fin 3) : Nat := field (8 * i.val) 4 (s.tag.area[i.val]).limit + flag (8 * i.val + 4) (s.tag.area[i.val]).rp +
    flag (8 * i.val + 5) (s.tag.area[i.val]).wp
  a 0 + a 1 + a 2 + flag 24 s.tag.fdEn

/-- NFC_TAG_STATUS.LOCKED. -/
def tagLocked (s : State) : Nat := maskOf (s.tag.area.toList.map fun a => a.locked)

/-! ### Pages that the field and the host both want (R356)

A field command is whole in the model; it holds its pages until the tick in which it ran ends (log 29). -/

/-- The field holds a page. -/
def fieldHolds (s : State) (p : Nat) : Bool :=
  match s.tag.hold with
  | some (t, a, n) => decide (t = s.now ∧ a ≤ p ∧ p < a + n)
  | none => false

/-- The bytes of a completion that say how far a descriptor came (R358). -/
def jobData (w : TagWrite) (written : Nat) (s : State) : List Byte :=
  match w with
  | .page _ _ => leBytes 2 written
  | .area _ _ _ _ _ _ => leBytes 4 (nfcTagCfgWord s)
  | .unlock _ => leBytes 1 (tagLocked s)

/-- The descriptor that writes ends at this write: BUSY, with the pages before it (R356). -/
def jobBusy (s : State) : State :=
  match s.tag.jobs with
  | j :: js => completeSeq j.flight .busy 0 (match j.todo with | w :: _ => jobData w j.written s | [] => []) none (modTag (fun t => { t with jobs := js }) s)
  | [] => s

/-- A write has gone through its steps: the next one begins, or the descriptor completes (R356, R358). -/
def jobNext (j : TagJob) (s : State) : State :=
  match j.todo with
  | [] => s
  | [w] => completeSeq j.flight .ok 0 (jobData w (j.written + 1) s) none (modTag (fun t => { t with jobs := t.jobs.drop 1 }) s)
  | _ :: ws => modTag (fun t => { t with jobs := { j with todo := ws, step := 2, written := j.written + 1 } :: t.jobs.drop 1 }) s

/-- One step of the host write under way (R355, R356). -/
def tagStep (s : State) : State :=
  match s.tag.jobs with
  | [] => s
  | j :: _ => match j.todo with
    | [] => s
    | w :: _ =>
      let held := match w with | .page p _ => fieldHolds s p | _ => false
      if held && decide (j.step = 2) then jobBusy s
      else
        let s := stepWrite w j.step s
        if j.step < 5 then modTag (fun t => { t with jobs := { j with step := j.step + 1 } :: t.jobs.drop 1 }) s else jobNext j s

/-- In every tick: FD_OUT, and a step of a host write while the NFC bit is set (R354, R355). -/
def tagTick (s : State) : State :=
  let s := tickFd s
  if s.isReady 8 then tagStep s else s

/-- A field command takes pages: a host write to one of them is abandoned before step 4, and finishes from step 4 on (R356). -/
def fieldTakes (first n : Nat) (s : State) : State :=
  let s := match s.tag.jobs with
    | j :: _ => match j.todo with
      | .page p bytes :: _ =>
        if first ≤ p ∧ p < first + n then
          (if j.step < 4 then jobBusy s
           else
             let s := if j.step = 4 then stepWrite (.page p bytes) 4 s else s
             jobNext j (stepWrite (.page p bytes) 5 s))
        else s
      | _ => s
    | [] => s
  modTag (fun t => { t with hold := some (s.now, first, n) }) s

/-- A commit of the settings by a field command: a host write of the settings is abandoned before step 4 and finishes from step 4 on, as with
a page (R355, R356). -/
def settingsFree (s : State) : State :=
  match s.tag.jobs with
  | j :: _ => match j.todo with
    | .page _ _ :: _ => s
    | w :: _ =>
      if j.step < 4 then jobBusy s
      else
        let s := if j.step = 4 then stepWrite w 4 s else s
        jobNext j (stepWrite w 5 s)
    | [] => s
  | [] => s

/-- The answer to a read of count blocks within one area (R352). -/
def readBlocksAnswer (b count : Nat) (s : State) : State :=
  if count = 0 ∨ 32 < count ∨ 2048 < b + count ∨ areaOfBlock b ≠ areaOfBlock (b + count - 1) then answerTag (.error errBlock) s
  else if !mayRead b s then answerTag (.error errClosed) s
  else answerTag (.data ((List.range count).flatMap fun i => blockBytes (b + i) s)) s

/-- A read of blocks; the field holds their pages (R352, R356). -/
def readBlocks (b count : Nat) (s : State) : State :=
  readBlocksAnswer b count (fieldTakes (b / 4) ((b + count - 1) / 4 + 1 - b / 4) s)

/-- READ_SINGLE_BLOCK (R352). -/
def execReadSingleBlock (b : Nat) (s : State) : Res := inField (readBlocks b 1) s

/-- READ_MULTIPLE_BLOCKS (R352). -/
def execReadMultipleBlocks (b count : Nat) (s : State) : Res := inField (readBlocks b count) s

/-- The page that new blocks give with its valid copy (R355, step 2). -/
def mergePage (old data : List Byte) (off : Nat) : List Byte := old.take off ++ data ++ old.drop (off + data.length)

/-- A field write of whole blocks within one page (R352, R355): the answer comes after step 5; a collapse in step `cut` leaves what the
steps before it have done. -/
def writeBlocks (b : Nat) (data : List Byte) (cut : Nat) (s : State) : State :=
  let n := data.length / 4
  if data.length % 4 ≠ 0 ∨ n = 0 then answerTag (.error errUnsupported) s
  else if 2048 < b + n ∨ 4 < b % 4 + n then answerTag (.error errBlock) s
  else if !mayWrite b s then answerTag (.error errClosed) s
  else
    let p := b / 4
    let s := fieldTakes p 1 s
    let g := pageOf s p
    let bytes := mergePage g.valid data (4 * (b % 4))
    if cut = 0 then answerTag .ok (postTag 5 (leBytes 2 p) (setPage p (g.write bytes) s))
    else cutWrite p bytes cut s

/-- WRITE_SINGLE_BLOCK (R355). -/
def execWriteSingleBlock (b : Nat) (data : List Byte) (cut : Nat) (s : State) : Res :=
  inField (writeBlocks b (slice data 0 4) cut) s

/-- WRITE_MULTIPLE_BLOCKS (R355). -/
def execWriteMultipleBlocks (b : Nat) (data : List Byte) (cut : Nat) (s : State) : Res := inField (writeBlocks b data cut) s

/-- Changes area k of 1 to 3. -/
def modArea (k : Nat) (f : TagArea → TagArea) (s : State) : State :=
  modTag (fun t => { t with area := vmod t.area (Fin.ofNat 3 (k - 1)) f }) s

/-- A change of an area's settings by the steps of R355; none where the field collapses in a step. -/
def commitArea (k : Nat) (f : TagArea → TagArea) (cut : Nat) (s : State) : Option State × State :=
  let new := (vmod s.tag.area (Fin.ofNat 3 (k - 1)) f, s.tag.fdEn)
  if cut = 0 then (some (modTag (fun t => swapSet { t with other := new }) s), s) else (none, cutSet new cut s)

/-- The password is compared after the count is committed (R353); the lockout stands in the count. -/
def comparePassword (k : Nat) (pw : W32) (cut : Nat) (s : State) : State :=
  match tagArea? k s with
  | none => s
  | some a =>
    if pw = a.password then
      match commitArea k (fun a => { a with tumbler := 0 }) cut s with
      | (some s, _) => answerTag .ok (postTag 2 [BitVec.ofNat 8 k] (modArea k (fun a => { a with isOpen := true }) s))
      | (none, s) => s
    else
      let out := decide (a.limit ≤ a.tumbler)
      let s := postTag 3 [BitVec.ofNat 8 k, BitVec.ofNat 8 a.tumbler] (modArea k (fun a => { a with locked := out }) s)
      answerTag (.error 0xA0) (if out then postTag 4 [BitVec.ofNat 8 k] s else s)

/-- PRESENT_PASSWORD (R352, R353, R355): every area closes; a collapse of the field in a step of a commit leaves what R355 says
(log 171). -/
def presentPassword (mfr area : Byte) (pw : W32) (cut : Nat) (s : State) : State :=
  let k := area.toNat
  if mfr.toNat ≠ bitsOf s.fuse.tagUid.toNat 48 8 then answerTag (.error errUnsupported) s
  else
    let s := settingsFree (modTag closeAreas s)
    match tagArea? k s with
    | none => answerTag (.error errUnsupported) s
    | some a =>
      if a.locked then answerTag (.error 0xA1) s
      else
        match commitArea k (fun a => { a with tumbler := min 15 (a.tumbler + 1) }) (if cut ≤ 5 then cut else 0) s with
        | (some s, _) => comparePassword k pw (cut - 5) s
        | (none, s) => s

/-- PRESENT_PASSWORD (R353). -/
def execPresentPassword (mfr : Byte) (area : Byte) (pw : W32) (cut : Nat) (s : State) : Res :=
  inField (presentPassword mfr area pw cut) s

/-- TAG_UNSUPPORTED_COMMAND (R352); the code is outside the set of R352. -/
def execTagUnsupportedCommand (_code : Byte) (s : State) : Res := inField (answerTag (.error errUnsupported)) s

/-! ### The host's side (R351, R356, R358) -/

/-- Page range of a descriptor, none where it is out of range (R358). -/
def Flight.pages (f : Flight) : Option (Nat × Nat) :=
  let first := f.p 16 2
  let n := f.p 18 2
  if n = 0 ∨ 512 < first + n ∨ f.bufLen ≠ 16 * n then none else some (first, n)

/-- NFC_TAG_READ (R356, R358): it stops at the first page that the field holds. -/
def nfcTagRead (f : Flight) (s : State) : State :=
  match f.pages with
  | none => completeSt f .invalid s
  | some (first, n) =>
    let m := ((List.range n).takeWhile fun i => !fieldHolds s (first + i)).length
    complete f (if m = n then .ok else .busy) 0 (leBytes 2 m) (some ((List.range m).flatMap fun i => (pageOf s (first + i)).valid)) s

/-- NFC_TAG_READ (R356). -/
def runNfcTagRead (s : State) : Res := .next (dispatch 0x0810 nfcTagRead s)

/-- The A8 writes its own pages (R351). -/
def writePages (first n : Nat) (bytes : List Byte) (s : State) : State :=
  (List.range n).foldl (fun s i => setPage (first + i) ((pageOf s (first + i)).write (slice bytes (16 * i) 16)) s) s

/-- A host write takes its place: it goes through the steps of R355 from the next foreground C on (R356; logs 29 and 185). -/
def startTagJob (f : Flight) (todo : List TagWrite) (s : State) : State :=
  keepRunning f (modTag (fun t => { t with jobs := t.jobs ++ [{ flight := f.seq, todo := todo }] }) s)

/-- NFC_TAG_WRITE (R358): its pages one at a time. -/
def nfcTagWrite (f : Flight) (s : State) : State :=
  match f.pages with
  | none => completeSt f .invalid s
  | some (first, n) =>
    if first < 128 ∧ 124 < first + n then completeSt f .invalid s
    else startTagJob f ((List.range n).map fun i => .page (first + i) (slice f.inBuf (16 * i) 16)) s

/-- NFC_TAG_WRITE (R356). -/
def runNfcTagWrite (s : State) : Res := .next (dispatch 0x0811 nfcTagWrite s)

/-- Value of NFC_TAG_STATUS (R357). -/
def nfcTagStatusWord (s : State) : Nat :=
  flag 0 s.tag.field + flag 1 s.tag.fd + field 4 3 (tagLocked s) + field 8 3 (maskOf (s.tag.area.toList.map fun a => a.isOpen)) +
  field 16 4 (s.tag.area[0]).tumbler + field 20 4 (s.tag.area[1]).tumbler + field 24 4 (s.tag.area[2]).tumbler

/-- NFC_TAG_AREA (R353, R358). -/
def nfcTagArea (f : Flight) (s : State) : State :=
  let k := f.p 16 1
  let lim := f.p 17 1
  if k = 0 ∨ 3 < k ∨ lim = 0 ∨ 15 < lim ∨ 3 < f.p 18 1 ∨ 1 < f.p 19 1 then completeSt f .invalid s
  else startTagJob f [.area k lim (bitAt (f.p 18 1) 0) (bitAt (f.p 18 1) 1) (BitVec.ofNat 32 (f.p 20 4)) (bitAt (f.p 19 1) 0)] s

/-- NFC_TAG_AREA (R358). -/
def runNfcTagArea (s : State) : Res := .next (dispatch 0x0812 nfcTagArea s)

/-- NFC_TAG_UNLOCK (R353, R358). -/
def nfcTagUnlock (f : Flight) (s : State) : State :=
  let m := f.p 16 1
  if 7 < m then completeSt f .invalid s else startTagJob f [.unlock m] s

/-- NFC_TAG_UNLOCK (R353). -/
def runNfcTagUnlock (s : State) : Res := .next (dispatch 0x0813 nfcTagUnlock s)

/-- The journal digest of R351. -/
def journalDigest (s : State) : List Byte :=
  let closed := (s.jnl.entries.filter fun e => e.done.isSome).take 64
  slice (sha256 (closed.reverse.flatMap JEntry.bytes)) 0 16

/-- The 64 bytes of the status record (R351). -/
def statusRecord (s : State) : List Byte :=
  let body := [0x53, 0x54, 0x01, 0x00] ++ beBytes 8 s.fuse.serial.toNat ++ beBytes 4 s.gen.replace.toNat ++ beBytes 4 s.saf.check.toNat ++
    beBytes 4 s.gen.ready.toNat ++ beBytes 8 s.clk.sec ++ beBytes 8 s.jnl.tail ++ journalDigest s ++ beBytes 4 (s.prn.rctr - 1)
  body ++ beBytes 4 (crc32c body)

/-- The record is due: never written since NFC set, 60 s old, or what it carries has changed (R351). -/
def recordDue (s : State) : Bool :=
  match s.tag.statusTick with
  | none => true
  | some t => decide (t + 3840000 ≤ s.now) || decide (s.tag.statusOf ≠ (s.gen.replace, s.saf.check))

/-- TAG_STATUS_RECORD_WRITE (R351): pages 124 to 127. -/
def execTagStatusRecordWrite (s : State) : Res :=
  .next (if s.isReady 8 ∧ recordDue s then
      let s := writePages 124 4 (statusRecord s) s
      modTag (fun t => { t with statusTick := some s.now, statusOf := (s.gen.replace, s.saf.check) }) s
    else s)

end Sys2Proof.Machine
end

