-- ==== Sys2Proof/Machine/Upd.lean ====
section
/-! DEFINITION. Firmware and settings update (chapter 17, R403 to R414) and the relay of images (R327). -/

namespace Sys2Proof.Machine

/-- Changes the update block. -/
def modUpd (f : Upd → Upd) (s : State) : State := { s with upd := f s.upd }

/-- The slot that is not the confirmed one (R403). -/
def otherSlot (s : State) : Fin 2 := if s.upd.confSlot.val = 0 then 1 else 0

/-- An image slot. -/
def imageSlot (s : State) (k : Fin 2) : ImageSlot := s.upd.slot[k.val]

/-- An image is armed in the inactive slot; while a trial runs the inactive slot is the confirmed one (R403, R405). -/
def armedNow (s : State) : Bool := s.upd.armed && !s.upd.trial

/-- The armed slot. -/
def armedSlot (s : State) : Option ImageSlot := if armedNow s then some (imageSlot s (otherSlot s)) else none

/-- Bits set in a bitmap (R405). -/
def ImageSlot.received (x : ImageSlot) : Nat := ((List.range x.pieces).filter fun i => x.bitmap.getLsbD i).length

/-- The bitmap is complete (R407). -/
def ImageSlot.whole (x : ImageSlot) : Bool := decide (0 < x.pieces) && (List.range x.pieces).all fun i => x.bitmap.getLsbD i

/-- UPD_EVENT (R414). -/
def postUpd (cause why reason : Nat) (id : W32) (s : State) : State :=
  postMail 0x0D01 0xFF ([BitVec.ofNat 8 cause, BitVec.ofNat 8 why, BitVec.ofNat 8 reason] ++ leBytes 4 id.toNat) s

/-! ### Reception (R405 to R407) -/

/-- A piece is written into its slot, then its bit is set; with the last bit the image is complete (R406). -/
def storePiece (idx : Nat) (bytes : List Byte) (s : State) : State :=
  let k := otherSlot s
  let x := imageSlot s k
  let x' : ImageSlot := { x with bitmap := x.bitmap ||| BitVec.ofNat 5120 (2 ^ idx) }
  let s := modUpd (fun u => { u with slot := u.slot.set k.val x' }) (writePiece k idx bytes s)
  if x'.whole then postUpd 0 0 0 x.imageId s else s

/-- UPD_ARM (R405, R411, R414): in the recovery loader the ring is the only source. -/
def updArm (f : Flight) (s : State) : State :=
  let id : W32 := BitVec.ofNat 32 (f.p 16 4)
  let n := f.p 20 2
  let src := f.p 22 1
  let k := otherSlot s
  let relaying : Bool := match s.bkb.relay with | some r => decide (r.slot = k) | none => false
  if id = 0 ∨ n = 0 ∨ 5120 < n ∨ src = 0 ∨ 3 < src ∨ (s.upd.recovery ∧ !bitAt src 0) then completeSt f .invalid s
  else if s.upd.trial ∨ relaying ∨ s.upd.mark ≠ .none then completeSt f .conflict s
  else
    let src := if s.upd.recovery then 1 else src
    let x : ImageSlot := { imageId := id, pieces := n, sources := BitVec.ofNat 2 src, sfmt := (imageSlot s k).sfmt, loaded := true }
    complete f .ok 0 [BitVec.ofNat 8 k.val] none (modUpd (fun u => { u with slot := u.slot.set k.val x, armed := true }) s)

/-- UPD_ARM (R405). -/
def runUpdArm (s : State) : Res := .next (dispatch 0x0D01 updArm s)

/-- UPD_PIECE_WRITE: the first status that applies (R406, R407). -/
def updPieceWrite (f : Flight) (s : State) : State :=
  let idx := f.p 16 2
  match armedSlot s with
  | none => completeSt f (if f.bufLen ≠ 512 then .invalid else .conflict) s
  | some x =>
    if f.bufLen ≠ 512 ∨ x.pieces ≤ idx then completeSt f .invalid s
    else if f.p 20 4 ≠ x.imageId.toNat ∨ !x.sources.getLsbD 0 then completeSt f .conflict s
    else if x.bitmap.getLsbD idx then complete f .ok 1 (leBytes 2 x.received) none s
    else
      let s := storePiece idx (slice f.inBuf 0 512) s
      complete f .ok 0 (leBytes 2 (imageSlot s (otherSlot s)).received) none s

/-- UPD_PIECE_WRITE (R407). -/
def runUpdPieceWrite (s : State) : Res := .next (dispatch 0x0D02 updPieceWrite s)

/-- A piece that came over the backbone is stored where its host has armed reception of the image; a bit that is set keeps what was
stored first (R327, R406). -/
def relayPiece (id : W32) (idx : Nat) (data : List Byte) (s : State) : State :=
  match armedSlot s with
  | some x =>
    if x.sources.getLsbD 1 ∧ x.imageId = id ∧ idx < x.pieces ∧ !x.bitmap.getLsbD idx then storePiece idx (slice data 0 512) s else s
  | none => s

/-- FIRMWARE_PIECE (R327): the coordinator sends the pieces of another source on in D. -/
def execFirmwarePiece (id : W32) (idx : Nat) (data : List Byte) (s : State) : Res :=
  .next (if !bkbOn s then s
    else
      let s := relayPiece id idx data s
      if s.bkb.role = 2 then modBkb (fun b => { b with pieces := b.pieces ++ [(id, idx, slice data 0 512)] }) s else s)

/-- UPD_BITMAP_READ (R414). -/
def updBitmapRead (f : Flight) (s : State) : State :=
  let x := (armedSlot s).getD {}
  complete f .ok 0 (leBytes 2 x.received) (some (leBytes 640 x.bitmap.toNat)) s

/-- UPD_BITMAP_READ (R414). -/
def runUpdBitmapRead (s : State) : Res := .next (dispatch 0x0D03 updBitmapRead s)

/-! ### The relay (R327, R337) -/

/-- The slot that holds an image in full under an IMAGE_ID: the running one, else one whose bitmap is complete (R407). -/
def heldImage (id : W32) (s : State) : Option (Fin 2) :=
  if (imageSlot s s.upd.runSlot).imageId = id ∧ id ≠ 0 then some s.upd.runSlot
  else (allFin 2).find? fun k => decide ((imageSlot s k).imageId = id) && (imageSlot s k).whole

/-- BKB_RELAY_START (R327, R337). -/
def bkbRelayStart (f : Flight) (s : State) : State :=
  if s.bkb.relay.isSome then completeSt f .conflict s
  else
    let id : W32 := BitVec.ofNat 32 (f.p 16 4)
    match heldImage id s with
    | none => completeSt f .denied s
    | some k =>
      let x := imageSlot s k
      let r : Relay := { imageId := id, pieces := x.pieces, slot := k }
      complete f .ok 0 (leBytes 2 x.pieces) none (postRelay 0 r (modBkb (fun b => { b with relay := some r }) s))

/-- BKB_RELAY_START (R327). -/
def runBkbRelayStart (s : State) : Res := .next (dispatch 0x0705 bkbRelayStart s)

/-- BKB_RELAY_STOP (R337). -/
def bkbRelayStop (f : Flight) (s : State) : State :=
  match s.bkb.relay with
  | none => completeSt f .conflict s
  | some r => completeSt f .ok (postRelay 2 r (modBkb (fun b => { b with relay := none }) s))

/-- BKB_RELAY_STOP (R337). -/
def runBkbRelayStop (s : State) : Res := .next (dispatch 0x0706 bkbRelayStop s)

/-! ### Settings (R413) -/

/-- The Kept fields of the APD and COD functions. -/
def settingsOf (s : State) : Settings :=
  let n := s.nfc.applyCfg
  { vlkCfg := s.vlk.cfg, slacWaitS := s.vlk.slacWaitS, vlkTiming := (s.vlk.authDl, s.vlk.schedDl, s.vlk.certDl, s.vlk.resumeS),
    secc := s.vlk.secc, roots := s.vlk.roots, sctCfg := (s.sct.domainMode, s.sct.capStopS, s.sct.xferExp), sctLocal := s.sct.localTok,
    bkbCfg := (s.bkb.en, s.bkb.coordEn, s.bkb.depth, s.bkb.rate, s.bkb.relayShare), domain := s.bkb.domain, notch := s.bkb.notch,
    upl := (s.upl.en, s.upl.dual, s.upl.preferB), gw := s.upl.gw, eth := (s.bkb.phyad, s.bkb.vlanEn, s.bkb.txdly, s.bkb.vid),
    nfcCfg := (n.pingMs, n.thresh, n.maxRate), nfcEn := (n.en, n.enA, n.enB, n.enV, n.learn),
    lcdCfg := (s.lcd.en, s.lcd.crackEn, s.lcd.tofs), legend := s.lcd.legend, wave := s.lcd.wave, lmpFs := s.lmp.fs, gamma := s.lmp.gamma,
    lsw := s.lsw.ch.map fun d => let c := d.applyCfg; (c.ilim, c.slew, c.blank, c.olTh, c.retryMax, c.retryDly),
    trialMin := s.upd.trialMin }

/-- The functions take the settings of an area, but for SCT_CFG.MODE and the SCT_LOCALp, whose writes have effects (settleSct). -/
def putSettings (t : Settings) (s : State) : State :=
  let (authDl, schedDl, certDl, resumeS) := t.vlkTiming
  let (_, capStopS, xferExp) := t.sctCfg
  let (ben, coordEn, depth, rate, relayShare) := t.bkbCfg
  let (uen, dual, preferB) := t.upl
  let (phyad, vlanEn, txdly, vid) := t.eth
  let (pingMs, thresh, maxRate) := t.nfcCfg
  let (nen, enA, enB, enV, learn) := t.nfcEn
  let (len, crackEn, tofs) := t.lcdCfg
  let ch := Vector.ofFn fun (k : Fin 24) =>
    let (ilim, slew, blank, olTh, retryMax, retryDly) := t.lsw[k.val]
    let c := s.lsw.ch[k.val]
    { c with ilim := ilim, slew := slew, blank := blank, olTh := olTh, retryMax := retryMax, retryDly := retryDly, pendCfg := none }
  { s with
    vlk := { s.vlk with cfg := t.vlkCfg, slacWaitS := t.slacWaitS, authDl := authDl, schedDl := schedDl, certDl := certDl,
                        resumeS := resumeS, secc := t.secc, roots := t.roots }
    sct := { s.sct with capStopS := capStopS, xferExp := xferExp }
    bkb := { s.bkb with en := ben, coordEn := coordEn, depth := depth, rate := rate, relayShare := relayShare, domain := t.domain,
                        notch := t.notch, phyad := phyad, vlanEn := vlanEn, txdly := txdly, vid := vid }
    upl := { s.upl with en := uen, dual := dual, preferB := preferB, gw := t.gw }
    nfc := { s.nfc with pingMs := pingMs, thresh := thresh, maxRate := maxRate, en := nen, enA := enA, enB := enB, enV := enV, learn := learn,
                        pendCfg := none }
    lcd := { s.lcd with en := len, crackEn := crackEn, tofs := tofs, legend := t.legend, wave := t.wave }
    lmp := { s.lmp with fs := t.lmpFs, gamma := t.gamma }
    lsw := { s.lsw with ch := ch }
    upd := { s.upd with trialMin := t.trialMin } }

/-! ### The boot check (R404, R409 to R412) -/

/-- A slot under check: the header as stored or as found, and what the tiles and the signature gave. -/
structure BootView where
  img : ImageSlot
  header : List Byte
  tilesOk : Bool
  sigOk : Bool
  deriving DecidableEq, Repr

/-- The signature of an image over its bytes with the signature field 0 (R404). -/
def imageSigned (b : List Byte) : Bool :=
  ecdsaVerify Config.imageKey (sha256 (b.take 64 ++ List.replicate 64 0 ++ b.drop 128)) (slice b 64 64)

/-- What the loader finds in a slot; the header and the signature of an image whose bytes the MRAM of the model does not hold are inputs. -/
def bootView (k : Fin 2) (tilesOk : Bool) (i : BootIn) (s : State) : BootView :=
  let x := imageSlot s k
  if x.loaded then
    let b := storedBytes k x.pieces s
    { img := x, header := b.take 512, tilesOk := tilesOk, sigOk := imageSigned b }
  else { img := x, header := i.header, tilesOk := tilesOk && i.tilesOk, sigOk := i.sigOk }

/-- The tiles of a slot that hold image bytes are verified and read (R410, R421): whether all pass. A poisoned word is one that its
tile fails by, and is reported (R418). -/
def checkTiles (k : Fin 2) (s : State) : Bool × State :=
  let ts := (List.range (((imageSlot s k).pieces + 7) / 8)).map (slotTile k + ·)
  let ofSlot (e : Nat × Stored) : Bool := ts.contains (tileOfWord e.1)
  let bad := ts.any fun t => (tileWords t s).any fun e => e.2.changed
  let s := ts.foldl (fun s t => verifyTile t s) s
  let s := (s.mem.mram.filter fun e => ofSlot e && !e.2.flips.isEmpty).foldl (fun s e => (readWord .mram e.1 false s).2) s
  match s.mem.mram.find? fun e => ofSlot e && e.2.isValid && e.2.poison with
  | some e => (false, postMail 0x0E01 0xFF ([0] ++ leBytes 4 e.1 ++ [6]) s)
  | none => (!bad, s)

/-- The first failing item of R410, 0 where the check passes. `conv` is the format of the area to convert. -/
def bootCheck (b : BootView) (conv : Option Nat) (s : State) : Nat :=
  let h := b.header
  if beAt h 0 2 ≠ 0x5546 ∨ byteAt h 2 ≠ 1 ∨ byteAt h 3 ≠ 0 ∨ beAt h 4 4 = 0 ∨ (slice h 24 40).any (fun x => decide (x ≠ 0)) then 1
  else if beAt h 12 2 ≠ b.img.pieces ∨ !b.img.whole then 2
  else if s.fuse.silicon.toNat < beAt h 18 2 then 3
  else if beAt h 20 4 < s.upd.floor.toNat then 4
  else if (match conv with | some v => decide (v < beAt h 16 2) | none => false) then 5
  else if !b.tilesOk then 6
  else if !b.sigOk then 7
  else 0

/-- The confirmed image boots on its own area (R413). -/
def bootConfirmed (fell : Bool) (s : State) : State :=
  modUpd (fun u => { u with runSlot := u.confSlot, trial := false, recovery := false, mark := .none, checking := none, fallback := fell,
                            bootEvent := false }) s

/-- The image of slot k boots on trial; the confirmed slot's area is kept and converted (R412, R413). -/
def bootTrial (k : Fin 2) (header : List Byte) (s : State) : State :=
  let area := settingsOf s
  modUpd (fun u => { u with runSlot := k, trial := true, recovery := false, mark := .none, checking := none, bootEvent := true,
                            area := some area, trialSvn := BitVec.ofNat 32 (beAt header 20 4), fallback := false, trialTick := none,
                            slot := vmod u.slot k fun x => { x with sfmt := beAt header 14 2 } }) s

/-- The recovery loader starts (R411). -/
def bootRecovery (s : State) : State :=
  postUpd 4 0 s.upd.reason (imageSlot s s.upd.confSlot).imageId
    (modUpd (fun u => { u with trial := false, recovery := true, mark := .none, checking := none, bootEvent := false }) s)

/-- A trial ends: the confirmed slot's area is in force again; writes made during the trial are lost (R412, R413). What they had done to
the tokens is undone by the effects of the writes back (R293, R294). -/
def endTrial (s : State) : State :=
  match s.upd.area with
  | some t =>
    let lost := decide (settingsOf s ≠ t)
    modUpd (fun u => { u with area := none, setLost := u.setLost || lost, trialTick := none }) (settleSct t.sctCfg.1 t.sctLocal (putSettings t s))
  | none => s

/-- A fall-back is noted, to be reported once APP sets (R412): 0 check failed, 1 trial expired, 2 reset during trial, 3 revert. -/
def noteFall (why : Nat) (id : W32) (s : State) : State := modUpd (fun u => { u with fallCause := some (why, id), fallWhy := none, trial := false, trialTick := none }) s

/-- The loader begins the check of a slot; its hash and signature are a long operation, which takes a place in the queue as soon as there is
one (R56, R409, R410). -/
def startCheck (c : BootTry) (s : State) : State :=
  queueBoot (modUpd (fun u => { u with checking := some c }) (dropReq (fun r => decide (r = .boot)) s))

/-- A check has its result (R409, R411): the image boots, or the other slot is tried, or the recovery loader starts. -/
def bootResult (c : BootTry) (v : BootView) (r : Nat) (s : State) : State :=
  if r = 0 then if c.trial then bootTrial c.slot v.header s else bootConfirmed c.fell s
  else
    let s := modUpd (fun u => { u with reason := r }) s
    let k := otherSlot s
    if c.last then bootRecovery s
    else if c.trial then startCheck { slot := s.upd.confSlot, trial := false, fell := true, last := true } (noteFall 0 v.img.imageId s)
    else if (imageSlot s k).whole then startCheck { slot := k, trial := true, fell := c.fell, last := true } s
    else bootRecovery s

/-- IMAGE_BOOT_CHECK (R410): the items before the signature need no long operation, and the first of them that fails ends the check; the
signature is known once the long operation has its result. -/
def imageBootCheck (c : BootTry) (b : BootIn) (s : State) : State :=
  let (ok, s) := checkTiles c.slot s
  let v := bootView c.slot ok b s
  let r := bootCheck v (if c.trial then some (imageSlot s s.upd.confSlot).sfmt else none) s
  if (1 ≤ r ∧ r ≤ 6) ∨ c.hashed then bootResult c v r (dropReq (fun r => decide (r = .boot)) s) else s

/-- IMAGE_BOOT_CHECK (R409): the loader's check of the slot under check completes. -/
def execImageBootCheck (b : BootIn) (s : State) : Res :=
  .next (match s.upd.checking with
    | some c => if s.rst.apdUp then imageBootCheck c b s else s
    | none => s)

/-- APD is released: the loader chooses a slot; pending becomes attempted, and a trial, or an image that was attempted, falls back (R409). -/
def bootRelease (s : State) : State :=
  let k := otherSlot s
  if s.upd.mark = .pending then
    startCheck { slot := k, trial := true, fell := false, last := false } (modUpd (fun u => { u with mark := .attempted }) s)
  else
    let fell := decide (s.upd.mark = .attempted) || s.upd.trial
    let s := if fell then noteFall (s.upd.fallWhy.getD 2) (imageSlot s k).imageId (endTrial s) else s
    startCheck { slot := s.upd.confSlot, trial := false, fell := fell, last := false } s

/-- APP has set: the trial and the fall-back are reported (R412). -/
def updReady (s : State) : State :=
  let s := if s.upd.bootEvent then
      postUpd 1 0 0 (imageSlot s s.upd.runSlot).imageId
        (modUpd (fun u => { u with bootEvent := false, trialTick := some s.now, trialLen := u.trialMin }) s)
    else s
  match s.upd.fallCause with
  | some (why, id) => postUpd 3 why (if why = 0 then s.upd.reason else 0) id (modUpd (fun u => { u with fallCause := none }) s)
  | none => s

/-! ### Activation, confirmation and the end of a trial (R408, R412) -/

/-- The UPDATE source asserts (R442). -/
def raiseUpdate (s : State) : State := raiseLow .update (levelOf .update s) 0 0 false s

/-- UPD_ACTIVATE (R408). -/
def updActivate (f : Flight) (s : State) : State :=
  let k := otherSlot s
  let x := imageSlot s k
  if s.upd.trial ∨ !x.whole then completeSt f .conflict s
  else if !s.upd.armed ∨ f.p 16 4 ≠ x.imageId.toNat then completeSt f .invalid s
  else raiseUpdate (complete f .ok 0 [BitVec.ofNat 8 k.val] none (modUpd (fun u => { u with mark := .pending }) s))

/-- UPD_ACTIVATE (R408). -/
def runUpdActivate (s : State) : Res := .next (dispatch 0x0D04 updActivate s)

/-- UPD_CONFIRM (R412, R413, R414). -/
def updConfirm (f : Flight) (s : State) : State :=
  if s.upd.recovery then completeSt f .notReady s
  else if !s.upd.trial then completeSt f .conflict s
  else
    let s := modUpd (fun u => { u with confSlot := u.runSlot, trial := false, trialTick := none, area := none, armed := false,
                                       floor := BitVec.ofNat 32 (max u.floor.toNat u.trialSvn.toNat) }) s
    let s := postUpd 2 0 0 (imageSlot s s.upd.runSlot).imageId s
    complete f .ok 0 (leBytes 4 s.upd.floor.toNat) none s

/-- UPD_CONFIRM (R412). -/
def runUpdConfirm (s : State) : Res := .next (dispatch 0x0D05 updConfirm s)

/-- UPD_REVERT (R412, R414). -/
def updRevert (f : Flight) (s : State) : State :=
  if s.upd.recovery then completeSt f .notReady s
  else if !s.upd.trial then completeSt f .conflict s
  else raiseUpdate (completeSt f .ok (modUpd (fun u => { u with fallWhy := some 3 }) s))

/-- UPD_REVERT (R412). -/
def runUpdRevert (s : State) : Res := .next (dispatch 0x0D06 updRevert s)

/-- First tick at which a trial has run its time (R412). -/
def trialEnd (s : State) : Option Tick :=
  if s.upd.trial then s.upd.trialTick.map fun t => t + 3840000 * s.upd.trialLen else none

/-- TRIAL_EXPIRY (R412): at the end of its tick, where no reset and no UPD_CONFIRM has ended the trial before. -/
def runTrialExpiry (s : State) : Res :=
  .next (match trialEnd s with
    | some t => if s.rst.apdUp ∧ t ≤ s.now then raiseUpdate (modUpd (fun u => { u with fallWhy := some 1 }) s) else s
    | none => s)

/-! ### Registers (R414) -/

/-- UPD_STATUS.STATE. -/
def updState (s : State) : Nat := if s.upd.mark ≠ .none then 3 else if s.upd.recovery then 2 else if s.upd.trial then 1 else 0

/-- Value of UPD_STATUS. -/
def updStatusWord (s : State) : Nat :=
  field 0 1 s.upd.runSlot.val + field 1 1 s.upd.confSlot.val + field 2 2 (updState s) + flag 4 (armedNow s) + flag 5 s.upd.fallback +
  flag 6 s.upd.setLost + field 8 3 s.upd.reason + field 16 16 (match trialEnd s with | some t => (t - s.now + 63999) / 64000 | none => 0)

/-- Value of UPD_PIECES. -/
def updPiecesWord (s : State) : Nat :=
  match armedSlot s with
  | some x => field 0 13 x.received + field 16 13 x.pieces
  | none => 0

/-- UPD_STATUS_READ (R414). -/
def runUpdStatusRead (s : State) : Res :=
  .next (dispatch 0x0D07 (fun f s => complete f .ok 0 (leBytes 4 (updStatusWord s) ++ leBytes 4 (updPiecesWord s)) none s) s)

/-- A write to UPD_CFG. -/
def writeUpdCfg (v : Nat) (s : State) : State :=
  let m := bitsOf v 0 6
  if m = 0 ∨ 60 < m then s else modUpd (fun u => { u with trialMin := m }) s

end Sys2Proof.Machine
end

