-- ==== Sys2Proof/Machine/Power.lean ====
section
/-! DEFINITION. Supplies, the reset sources that come from outside or from MSD itself, the release of what they
hold, the start-up work, and readiness (chapter 19, with R24, R26, R84, R136, R139, R281, R473). -/

namespace Sys2Proof.Machine

/-- Changes the reset and supply block. -/
def modRst (f : Rst → Rst) (s : State) : State := { s with rst := f s.rst }

/-! ### Supplies (R434 to R440) -/

/-- PWR_STATUS.VAUX_OK. -/
def vauxOk (s : State) : Bool := !s.lsw.uv && !s.lsw.ov

/-- Value of PWR_STATUS. -/
def pwrStatusWord (s : State) : Nat :=
  flag 0 s.rst.pfw + flag 1 s.rst.pfailIn + flag 2 s.rst.vp12 + flag 3 s.rst.vn12 + flag 4 (vauxOk s) +
    flag 5 s.rst.vbatLow + flag 6 s.rst.vbatAbsent

/-- PWR_SUPPLY (R436). -/
def postPwr (s : State) : State := post 0x0F07 0xFF (leBytes 1 (pwrStatusWord s) ++ leBytes 2 s.rst.vbatMv.toNat) s

/-- RAIL_RANGE_CHANGE: shown and posted once the first evaluation is done (R436). -/
def railChange (vp12 vn12 : Bool) (s : State) : State :=
  let s := modRst (fun r => { r with vp12In := vp12, vn12In := vn12 }) s
  if s.isReady 15 ∧ s.rst.vbatTick.isSome ∧ (s.rst.vp12 ≠ vp12 ∨ s.rst.vn12 ≠ vn12) then
    postPwr (modRst (fun r => { r with vp12 := vp12, vn12 := vn12 }) s)
  else s

/-- RAIL_RANGE_CHANGE (R436). -/
def execRailRangeChange (vp12 vn12 : Bool) (s : State) : Res := .next (railChange vp12 vn12 s)

/-- Ticks between two measurements of VBAT: 60 s (R440). -/
def vbatPeriod : Nat := 3840000

/-- VBAT_MEASUREMENT: the first one completes the evaluation of R436 and posts PWR_SUPPLY whatever it holds; a later
one posts where VBAT_LOW or VBAT_ABSENT changes (R436, R440). -/
def vbatMeasure (mv : Nat) (s : State) : State :=
  let low := decide (mv < 2600)
  let absent := decide (mv < 2000)
  let take (s : State) := modRst (fun r => { r with vbatMv := BitVec.ofNat 12 (min 4095 mv), vbatLow := low, vbatAbsent := absent, vbatTick := some s.now }) s
  if !s.isReady 15 then s
  else match s.rst.vbatTick with
    | none => postPwr (modRst (fun r => { r with vp12 := r.vp12In, vn12 := r.vn12In }) (take s))
    | some t =>
      if s.now < t + vbatPeriod then s
      else if s.rst.vbatLow ≠ low ∨ s.rst.vbatAbsent ≠ absent then postPwr (take s)
      else take s

/-- VBAT_MEASUREMENT (R440). -/
def execVbatMeasurement (mv : Nat) (s : State) : Res := .next (vbatMeasure mv s)

/-- Loss of both supplies clears the battery domain (R19, R158, R440): the RTC, the watch and its log, and the tamper
states and log. Counts since manufacture go on, and what MRAM mirrors comes back at the start (R139, R192). -/
def clearBtd (s : State) : State :=
  let inp (x : TamperIn) : TamperIn := { openings := x.openings }
  { s with
    clk := { s.clk with sec := 0, frac := 0, unsynced := true, restarted := true, corr := 0 }
    watch := { mirror := s.watch.mirror, nextSeq := s.watch.nextSeq, copy := s.watch.copy, posted := s.watch.posted }
    tam := { inp := s.tam.inp.map inp, mirror := s.tam.mirror, samples := s.tam.samples, nextSeq := s.tam.nextSeq,
             copy := s.tam.copy, posted := s.tam.posted } }

/-- What MSD mirrors of BTD registers is in BTD again after a start (R139, R192). -/
def restoreBtd (s : State) : State :=
  let inp := s.tam.inp.zipWith (fun x m => { x with en := m.1, pol := m.2 }) s.tam.mirror
  { s with watch := { s.watch with hours := s.watch.mirror.1, outlets := s.watch.mirror.2 },
           tam := { s.tam with inp := inp } }

/-- POWER_GOOD: POR asserts where VSYS had fallen below 1.5 V, on its own at the first power-up and else within the hold of the
brown-out; the hold now ends 100 µs later (R435, R442, R443). The watch ends, for supply is back (R138). -/
def powerGood (s : State) : State :=
  if s.rst.held0 ∧ s.rst.waitGood then
    let s := stopWatch s
    let s := if s.rst.porArmed then
        (if s.rst.event0.isSome then raise .por 0 0 s else level0 .por true 0xFFFFFFFFFFFF s)
      else s
    modRst (fun r => { r with waitGood := false, porArmed := false }) s
  else s

/-- POWER_GOOD (R435). -/
def execPowerGood (s : State) : Res := .next (powerGood s)

/-- Source of a brown-out detector (R442). -/
def Brown.source : Brown → Source
  | .sys => .borSys | .dig => .borDig | .ana => .borAna

/-- BROWN_OUT: `hurts` are the copies that the loss of supply cut, `deep` says that VSYS falls below 1.5 V, and `cell` that BTD
stays supplied. The hold lasts until power-good; an armed watch is to start (R136, R143, R442, R443). -/
def brownOut (b : Brown) (deep cell : Bool) (hurts : List (Owner × Fin 3 × CopyHurt)) (s : State) : State :=
  let s := hurts.foldl (fun s h => hurtCopy h.1 h.2.1 h.2.2 s) s
  let s := raise (Brown.source b) 0 0 s
  let s := modRst (fun r => { r with waitGood := true, porArmed := r.porArmed || deep }) s
  let s := if b = .sys ∧ s.watch.armed.isSome ∧ s.watch.running = false ∧ s.watch.tamperOnly = false then
      { s with watch := { s.watch with starting := true } }
    else s
  if cell then s else clearBtd s

/-! ### Sources that are single events (R442, R443) -/

/-- RST_PIN: RST_N held low for at least 1 µs, at the level that the fuse view gives (R442, R449). -/
def execRstPin (s : State) : Res := .next (raise .pin (levelOf .pin s) 0 s)

/-- PLL_LOCK_LOSS (R44): either PLL raises the same source. -/
def execPllLockLoss (pllB : Bool) (s : State) : Res := .next (match pllB with | false => raise .clock 0 0 s | true => raise .clock 0 0 s)

/-- WDT_MSD_EXPIRY (R442). -/
def execWdtMsdExpiry (s : State) : Res := .next (if s.rst.msdUp then raise .wdtMsd 0 0 s else s)

/-- WDT_APD_EXPIRY (R442): only firmware that runs can miss its watchdog. -/
def execWdtApdExpiry (s : State) : Res := .next (if s.rst.apdUp then raise .wdtApd (levelOf .wdtApd s) 0 s else s)

/-- CRITICAL_STATE_MISMATCH (R397, R442): each kind of critical state raises the same source. -/
def execCriticalStateMismatch (c : Critical) (s : State) : Res :=
  .next (match c with
    | .config | .coilLatch | .keyAttr => if s.rst.msdUp then raise .critical 0 0 s else s)

/-! ### Start and release (R443, R444, R447) -/

/-- GTC_START: 0.5 ms after the level-0 hold the tick with GTC 0 begins, with its inputs; a PLL that has not locked raises CLOCK, which holds
level 0 anew (R45). -/
def execGtcStart (locked : Bool × Bool) (i : TickIn) (s : State) : Res :=
  .next (if s.rst.held0 ∧ s.rst.waitGood = false then
      if locked.1 && locked.2 then
        { s with rst := { s.rst with held0 := false }
                 gen := { s.gen with gtc := 0, win := .entry, tin := some i, ovrNow := false } }
      else level0 .clock false 0xFFFFFFFFFFFF s
    else s)

/-- The journal at a start: open entries close ABORTED with DETAIL 1, entries never whole are discarded (R84). -/
def closeJournal (j : Journal) : Journal :=
  { j with entries := (j.entries.filter fun e => e.whole).map fun e =>
      if e.done.isNone then { e with done := some (0xFFFFFFFFFFFF, 0x0109) } else e }

/-- OVERRUN and RESET of the level-0 reset that has ended (R473): the OVERRUN event takes the lower EVSEQ (R450). -/
def startEvents (s : State) : State :=
  match s.rst.event0 with
  | none => s
  | some (src, gtc) =>
    let s := if src = .ovrMsd then holdEvent 0x0F03 (leBytes 4 (overrunWord s)) gtc s else s
    let s := holdEvent 0x0F06 [BitVec.ofNat 8 src.num, 0, 0] gtc s
    modRst (fun r => { r with event0 := none }) s

/-- BILLING_RECONCILE of one outlet; where billing freezes, the RTYPE 3 snapshot comes with the values at the end of this tick's
foreground B (R144, R146, R176). -/
def startBill (n : Outlet8) (s : State) : State :=
  let before := (s.bill[n.val]).frozen
  let s := reconcileBill n s
  { s with bill := vmod s.bill n fun b => { b with freezeDue := b.frozen && !before } }

/-- Holds that are still in force. -/
def liveHolds (s : State) : List Hold := s.rst.holds.filter fun h => h.asserted || decide (s.now < h.untilTick)

/-- MSD is released, and with it every domain and function that no hold of a lower level reaches (R444). -/
def releaseMsd (s : State) : State :=
  let hs := liveHolds s
  modRst (fun r => { r with
    msdUp := true, holds := hs, apdUp := !hs.any Hold.reachesApd, codUp := !hs.any Hold.reachesCod
    fnHeld := (hs.filter fun h => h.level == 3).map fun h => h.func }) s

/-- The start of MSD (R447): root and keys, safety block, replacement causes, journal, events, billing copies, accounts,
tokens, sessions and the logs of BTD. -/
def startMsd (i : StartIn) (s : State) : State :=
  let s := releaseMsd { s with gen := { s.gen with replRead := true }, jnl := closeJournal s.jnl,
                               upl := { s.upl with epoch := s.upl.epoch + 1, activeB := s.upl.preferB } }
  let s := restoreBtd (startEvents s)
  let s := checkBlock (startKeys i.cells s)
  let s := relatePrn s
  let s := restoreIntervals (forFin 8 startBill s)
  let s := reconcileTokens (forFin 8 reconcileAccount s)
  let s := copyWatchLog (forFin 8 closeAtReset s)
  let s := if s.rst.codUp && !s.rst.fnHeld.contains 0x07 then leaveDomain s else s
  if s.rst.apdUp then bootRelease s else s

/-- Functions and domains that no hold reaches any more are released (R444); APD's loader runs (R409), the backbone listens. -/
def releaseHolds (s : State) : State :=
  let hs := liveHolds s
  let apd := !s.rst.apdUp && !hs.any Hold.reachesApd
  let cod := !s.rst.codUp && !hs.any Hold.reachesCod
  let s := modRst (fun r => { r with
    holds := hs
    apdUp := r.apdUp || apd
    codUp := r.codUp || cod
    fnHeld := r.fnHeld.filter fun c => hs.any (Hold.reachesFn c.toNat) }) s
  let s := if apd then bootRelease s else s
  if bkbOn s && decide (s.bkb.join = .off) then leaveDomain s else s

/-! ### Readiness (R22, R24, R26, R411) -/

/-- The first tick edge that is at least 60 ms after power-good, which comes 0.6 ms before GTC 0, or after the release of another
level-0 reset, which comes 0.5 ms before it (R45, R109). -/
def mtrReadyTick (s : State) : Tick := if s.rst.lastSrc.num ≤ 3 then 3802 else 3808

/-- The domains and functions that serve a GEN_READY bit are out of reset, and APD's loader has made its choice (R22, R409, R411). -/
def mayReady (bit : Fin 19) (s : State) : Bool :=
  let held (c : Byte) : Bool := s.rst.fnHeld.contains c
  let apd := s.rst.apdUp && s.upd.checking.isNone
  let image := apd && !s.upd.recovery
  match bit.val with
  | 0 => true
  | 1 => s.rst.msdUp && decide (mtrReadyTick s ≤ s.now)
  | 5 => image && s.rst.codUp && !held 0x05
  | 6 => image && !held 0x06
  | 7 => image && s.rst.codUp && !held 0x07 && (decide (s.bkb.role = 1) || decide (s.bkb.role = 2))
  | 8 => image && s.rst.codUp && !held 0x08
  | 9 => image && !held 0x09
  | 10 => image && !held 0x0A
  | 11 => image && !held 0x0B
  | 13 => apd && !held 0x0D
  | 16 => s.rst.msdUp && !(s.rst.holds.any fun h => h.reachesFn 0x10 && decide (s.now < h.untilTick))
  | 17 => image && s.rst.codUp && !held 0x07 && decide (s.bkb.speed ≠ 3)
  | 18 => image
  | _ => s.rst.msdUp

/-- What a function does in the tick in which its bit sets. -/
def onReady (bit : Fin 19) (s : State) : State :=
  match bit.val with
  | 1 => { s with adc := { s.adc with mtrTick := some s.now, tmpFirst := some (0, 0) } }
  | 2 => copyTamper (fun _ => true) s
  | 3 => startSession s
  | 5 => restoreLinks s
  | 6 => { s with sct := { s.sct with assignUp := true } }
  | 8 => completeFlags s
  | 9 => lcdReady s
  | 11 => lswReady s
  | 12 => queuePrn 33 s
  | 14 => { s with mem := { s.mem with heldReloc := [], queued :=
      s.mem.heldReloc ++ s.mem.queued.filter (fun r => !s.mem.heldReloc.any fun x => x.tile == r.tile) } }
  | 15 => modRst (fun r => { r with vp12 := r.vp12In, vn12 := r.vn12In, vbatTick := none }) s
  | 17 => pathBack false s
  | 18 => updReady (listReload s)
  | _ => s

/-- The link is up again: the PCIE source is released (R443). -/
def linkUp (s : State) : State :=
  modRst (fun r => { r with holds := r.holds.filter (fun h => !h.reachesFn 0x10), fnHeld := r.fnHeld.filter (fun c => c ≠ 0x10) }) s

/-- FUNCTION_READY: the bit sets with its READY event, and the function takes up its work (R24). -/
def functionReady (bit : Fin 19) (s : State) : State :=
  if s.isReady bit.val || !mayReady bit s then s
  else onReady bit (setReady bit true (if bit.val = 16 then linkUp s else s))

/-- FUNCTION_READY (R24). -/
def execFunctionReady (bit : Fin 19) (s : State) : Res := .next (functionReady bit s)

/-! ### The power-fail warning (R437 to R439) -/

/-- PFAIL_N is at its active level (PWR_CFG.PFAIL_POL). -/
def pfailActive (level : Bool) (s : State) : Bool := level == s.rst.pfailPol

/-- POWER_FAIL_WARNING: in foreground B of its tick what falls into that tick comes first, then the power-fail record; the one commit
of that foreground B takes it all (R125, R166, R167); the display stops and BTD arms the watch (R136, R364). -/
def powerFail (i : PfIn) (s : State) : State :=
  let active := pfailActive i.pfailLevel s
  let s := modRst (fun r => { r with pfailIn := active }) s
  if s.rst.msdUp && !s.rst.pfw && (i.vsysLow || (active && s.rst.pfailEn)) then
    let s := powerFailRecord (stepNow (minuteEdge s))
    armWatch (lcdStop (modRst (fun r => { r with pfw := true }) s))
  else s

/-- POWER_FAIL_WARNING (R439). -/
def runPowerFailWarning (i : PfIn) (s : State) : Res := .next (if s.rst.msdUp then powerFail i s else s)

/-- POWER_FAIL_CLEAR: no condition has held for 10 ms; the power-up entry follows in the next tick, the watch is disarmed and a
waiting image may start (R136, R167, R437). -/
def powerFailClear (s : State) : State :=
  if s.rst.msdUp && s.rst.pfw then
    let s := modRst (fun r => { r with pfw := false, pfailIn := r.pfailIn && !r.pfailEn }) s
    lcdResume { s with clk := { s.clk with clearDue := some s.now }, watch := { s.watch with armed := none } }
  else s

/-- POWER_FAIL_CLEAR (R437). -/
def execPowerFailClear (s : State) : Res := .next (powerFailClear s)

end Sys2Proof.Machine
end

