-- ==== Sys2Proof/Machine/Regs.lean ====
section
/-! DEFINITION. The register windows: which register an offset names, what it reads, and what a host write to it does (R14 to
R18, R65 and the register tables of every chapter). Writes that have a row of their own act here in the same way. -/

namespace Sys2Proof.Machine

/-- The registers of BAR0 and BAR2, by the names of their tables. -/
inductive Reg where
  | genId | genRev | genSerial (hi : Bool) | genOrder (k : Fin 4) | genReady | genReplace | genReplMask | genGtcLo | genGtcHi
  | genOverrun | genOverrunGtc | genTickHwm | hifCtrl | hifStatus | hifErr | ring (r : Ring) (g : RingReg)
  | rstCause | rstLast | rstMap | rstFuseChg | rstCfg | rstStatus | pwrStatus | pwrVbat | pwrCfg
  | memStatus | memCeCount | memUeCount | memCeCfg | memSpare | arbFreeze | arbStat | arbPrio (k : Fin 8)
  | keyStatus | keyPuf | keyAttr (k : Fin 32) | updStatus | updPieces | updArmedId | updCfg | updSvn
  | mtrGcfg | mtrSeal | mtrDcmode | mtrStatus | mtrOvl (j : Fin 3) | mtrBench | mtrTmp | mtrChcfg (k : Fin 72)
  | mtrPhmap (n : Outlet8) | mtrPulse (n : Outlet8) | mtrCreep | mtrWatch
  | bilCfg | bilClk | bilStatus | bilPpyStatus | bilTamper
  | sesCfg | sesStatus | sesOcfg (n : Outlet8) | sesCoil (n : Outlet8) | sesState (n : Outlet8) | sesPilot (n : Outlet8)
  | safStatus | safEstop | safCheck | safEdition | safPendEdition
  | vlkCfg | vlkTiming | vlkStatus | vlkMacbase (hi : Bool) | vlkLink (n : Outlet8)
  | sctCfg | sctStatus | sctLocal (p : Fin 3) | sctHeld (p : Fin 3) | sctOut (p : Fin 3) | sctAssign (n : Outlet8)
  | bkbCfg | bkbDomain | bkbStatus | bkbDfn | bkbNotch (k : Fin 16) | uplCfg | uplStatus | uplGw (hi : Bool) | ethCfg
  | nfcCfg | nfcStatus | nfcListCount | nfcTagCfg | nfcTagStatus | lcdCfg | lcdStatus | lmpCfg
  | lswChcfg (k : Fin 24) | lswStat (k : Fin 24) | lswTemp (g : Fin 4) | lswStatus
  | jnlHead (hi : Bool) | jnlTail (hi : Bool) | jnlOpen | jnlSel (hi : Bool) | jnlSelStatus | jnlData (k : Fin 8)
  | doorbell (r : Ring) | msix (v : Fin 32) (w : Fin 4) | pba
  deriving DecidableEq, Repr

/-- Member k of an array of n registers that starts at an offset, none where the offset lies outside it. -/
def arrayAt (base n : Nat) (off : Nat) : Option (Fin n) :=
  if h : base ≤ off ∧ (off - base) % 4 = 0 ∧ (off - base) / 4 < n then some ⟨(off - base) / 4, h.2.2⟩ else none

/-- Register k of a ring, by the last two bits of its word offset (R68). -/
def ringReg (k : Nat) : RingReg :=
  match k % 4 with
  | 0 => .baseLo | 1 => .baseHi | 2 => .cfg | _ => .index

/-- Single registers of the general blocks and the memories with their offsets. -/
def generalRegs : List (Nat × Reg) :=
  [(0x0000, .genId), (0x0004, .genRev), (0x0008, .genSerial false), (0x000C, .genSerial true), (0x0040, .genReady),
   (0x0044, .genReplace), (0x0048, .genReplMask), (0x0050, .genGtcLo), (0x0054, .genGtcHi), (0x0058, .genOverrun),
   (0x005C, .genOverrunGtc), (0x0060, .genTickHwm), (0x1000, .hifCtrl), (0x1004, .hifStatus), (0x1008, .hifErr),
   (0x2000, .rstCause), (0x2004, .rstLast), (0x2008, .rstMap), (0x200C, .rstFuseChg), (0x2010, .rstCfg), (0x2014, .rstStatus),
   (0x3000, .pwrStatus), (0x3004, .pwrVbat), (0x3008, .pwrCfg), (0x4000, .memStatus), (0x4004, .memCeCount),
   (0x4008, .memUeCount), (0x400C, .memCeCfg), (0x4010, .memSpare), (0x4800, .arbFreeze), (0x4804, .arbStat)]

/-- Single registers of keys, update, metering, billing, sessions and safety. -/
def meterRegs : List (Nat × Reg) :=
  [(0x5000, .keyStatus), (0x5004, .keyPuf), (0x6000, .updStatus), (0x6004, .updPieces), (0x6008, .updArmedId), (0x600C, .updCfg),
   (0x6010, .updSvn), (0x7000, .mtrGcfg), (0x7004, .mtrSeal), (0x7008, .mtrDcmode), (0x7010, .mtrStatus), (0x7020, .mtrBench),
   (0x7024, .mtrTmp), (0x7340, .mtrCreep), (0x7344, .mtrWatch), (0x8000, .bilCfg), (0x8004, .bilClk), (0x8008, .bilStatus),
   (0x800C, .bilPpyStatus), (0x8010, .bilTamper), (0x9000, .sesCfg), (0x9004, .sesStatus), (0xA000, .safStatus),
   (0xA004, .safEstop), (0xA008, .safCheck), (0xA00C, .safEdition), (0xA010, .safPendEdition)]

/-- Single registers of the other functions and the journal. -/
def linkRegs : List (Nat × Reg) :=
  [(0xB000, .vlkCfg), (0xB004, .vlkTiming), (0xB008, .vlkStatus), (0xB00C, .vlkMacbase false), (0xB010, .vlkMacbase true),
   (0xC000, .sctCfg), (0xC004, .sctStatus), (0xD000, .bkbCfg), (0xD004, .bkbDomain), (0xD008, .bkbStatus), (0xD00C, .bkbDfn),
   (0xD100, .uplCfg), (0xD104, .uplStatus), (0xD108, .uplGw false), (0xD10C, .uplGw true), (0xD110, .ethCfg), (0xE000, .nfcCfg),
   (0xE004, .nfcStatus), (0xE008, .nfcListCount), (0xE010, .nfcTagCfg), (0xE014, .nfcTagStatus), (0xF000, .lcdCfg),
   (0xF004, .lcdStatus), (0xF400, .lmpCfg), (0xF8D0, .lswStatus), (0xFC00, .jnlHead false), (0xFC04, .jnlHead true),
   (0xFC08, .jnlTail false), (0xFC0C, .jnlTail true), (0xFC10, .jnlOpen), (0xFC14, .jnlSel false), (0xFC18, .jnlSel true),
   (0xFC1C, .jnlSelStatus)]

/-- Single registers of BAR0 with their offsets. -/
def singleRegs : List (Nat × Reg) := generalRegs ++ meterRegs ++ linkRegs

/-- Register files of BAR0: member k of each, at an offset (the register tables of every chapter). -/
def arrayRegs (off : Nat) : List (Option Reg) :=
  [(arrayAt 0x0010 4 off).map .genOrder,
   (arrayAt 0x1100 64 off).map fun i => .ring (.sq ⟨i.val / 4, by omega⟩) (ringReg i.val),
   (arrayAt 0x1200 64 off).map fun i => .ring (.cq ⟨i.val / 4, by omega⟩) (ringReg i.val),
   (arrayAt 0x1300 4 off).map fun i => .ring .evq (ringReg i.val),
   (arrayAt 0x4810 8 off).map .arbPrio,
   (arrayAt 0x5100 32 off).map .keyAttr,
   (arrayAt 0x7014 3 off).map .mtrOvl,
   (arrayAt 0x7100 72 off).map .mtrChcfg,
   (arrayAt 0x7300 8 off).map .mtrPhmap,
   (arrayAt 0x7320 8 off).map .mtrPulse,
   (arrayAt 0x9100 8 off).map .sesOcfg,
   (arrayAt 0x9120 8 off).map .sesCoil,
   (arrayAt 0x9140 8 off).map .sesState,
   (arrayAt 0x9160 8 off).map .sesPilot,
   (arrayAt 0xB100 8 off).map .vlkLink,
   (arrayAt 0xC010 3 off).map .sctLocal,
   (arrayAt 0xC020 6 off).map fun i => if i.val % 2 = 0 then .sctHeld ⟨i.val / 2, by omega⟩ else .sctOut ⟨i.val / 2, by omega⟩,
   (arrayAt 0xC040 8 off).map .sctAssign,
   (arrayAt 0xD020 16 off).map .bkbNotch,
   (arrayAt 0xF800 24 off).map .lswChcfg,
   (arrayAt 0xF860 24 off).map .lswStat,
   (arrayAt 0xF8C0 4 off).map .lswTemp,
   (arrayAt 0xFC20 8 off).map .jnlData]

/-- The register at an offset of BAR0. -/
def bar0Reg (off : Nat) : Option Reg :=
  match singleRegs.find? fun e => e.1 == off with
  | some e => some e.2
  | none => (arrayRegs off).findSome? id

/-- Doorbells stand 8 bytes apart (R69). -/
def doorbellAt (off : Nat) : Option Reg :=
  if off % 8 ≠ 0 then none
  else
    let k := off / 8
    if h : k < 16 then some (.doorbell (.sq ⟨k, h⟩))
    else if h : k - 16 < 16 then some (.doorbell (.cq ⟨k - 16, h⟩))
    else if k = 32 then some (.doorbell .evq) else none

/-- The register at an offset of BAR2 (R65). -/
def bar2Reg (off : Nat) : Option Reg :=
  doorbellAt off <|>
  ((arrayAt 0x800 128 off).map fun i => .msix ⟨i.val / 4, by omega⟩ ⟨i.val % 4, by omega⟩) <|>
  (if off = 0xC00 then some .pba else none)

/-- The register that an offset names, none where no table of the manual gives one. -/
def regAt (b : Bar) (off : W16) : Option Reg :=
  match b with
  | .bar0 => bar0Reg off.toNat
  | .bar2 => bar2Reg off.toNat

/-! ### What registers read -/

/-- Ordering code in ASCII, 16 bytes (R66). -/
def orderCode (s : State) : List Byte :=
  slice ([0x41, 0x42, 0x38, 0x2D, 0x32, 0x34, 0x2D, if s.fuse.gradeX then 0x58 else 0x49, 0x4C] : List Byte) 0 16

/-- Value of HIF_STATUS. -/
def hifStatusWord (s : State) : Nat :=
  flag 0 (s.hif.run && s.hif.sq.toList.any Sq.en) + flag 1 (!s.hif.run) + flag 2 s.jnl.stall +
    flag 3 (!s.hif.staging.isEmpty || !s.hif.heldEv.isEmpty) + field 8 9 s.inFlight + field 17 10 s.hif.staging.length

/-- Value of RST_LAST and of RST_STATUS. -/
def rstLastWord (s : State) : Nat :=
  field 0 4 s.rst.lastSrc.num + field 4 2 s.rst.lastLevel + field 8 5 s.rst.lastFunc.toNat + field 16 16 s.rst.count0.toNat
def rstStatusWord (s : State) : Nat :=
  let held (c : Nat) : Bool := s.rst.fnHeld.contains (BitVec.ofNat 8 c)
  flag 0 (!s.rst.apdUp) + flag 1 (!s.rst.codUp) + flag 2 s.rstOut +
    field 8 8 (maskOf ((List.range 7).map (fun j => held (5 + j)) ++ [held 0x0D]))

/-- Value of MTR_STATUS. -/
def mtrStatusWord (s : State) : Nat :=
  flag 0 s.adc.cfgReject + field 8 9 (maskOf ((allFin 9).map fun g => settling s g s.now))

/-- Value of MTR_BENCH: G − 1 in 0.1 ppm. -/
def mtrBenchWord (s : State) : Nat :=
  unsigned 16 (roundRat ((s.adc.gain - 1) * 10000000)) + flag 16 s.adc.clamp + flag 17 s.adc.fault

/-- Value of MTR_PHMAPn and of MTR_PULSEn. -/
def phmapWord (m : PhMap) : Nat :=
  field 0 2 m.vsel[0].val + field 2 2 m.vsel[1].val + field 4 2 m.vsel[2].val +
    field 8 2 m.site[0].val + field 10 2 m.site[1].val + field 12 2 m.site[2].val
def pulseWord (p : Pulse) : Nat :=
  field 0 17 p.const + field 17 2 p.src + flag 19 p.pol + field 20 8 p.width + flag 28 p.en + flag 29 (decide (255 < p.pending))

/-- Value of MTR_WATCH. -/
def mtrWatchWord (s : State) : Nat :=
  field 0 8 s.watch.hours + field 8 8 s.watch.outlets.toNat + flag 16 (s.watch.out.toList.any fun o => o.openRec.isSome)

/-- Value of BIL_STATUS. -/
def bilStatusWord (s : State) : Nat :=
  field 0 8 (maskOf (s.bill.toList.map Bill.frozen)) + flag 8 s.clk.retro + flag 9 s.clk.slew.isSome + flag 10 s.clk.unsynced +
    flag 11 s.clk.passive.isSome + flag 12 (decide (s.clk.ivl ≠ s.clk.ivlActive)) + flag 16 s.clk.cfgReject

/-- Value of BIL_PPY_STATUS. -/
def ppyStatusWord (s : State) : Nat :=
  field 0 8 (maskOf (s.ppy.toList.map fun p => p.acc.set.enable)) + field 8 8 (maskOf (s.ppy.toList.map fun p => p.acc.creditOut)) +
    field 16 8 (maskOf (s.ppy.toList.map fun p => p.acc.friendly)) + field 24 8 (maskOf (s.ppy.toList.map fun p => decide (0 < p.acc.e)))

/-- Value of BIL_TAMPER. -/
def tamperWord (s : State) : Nat :=
  let i := s.tam.inp
  flag 0 i[0].en + flag 1 i[1].en + flag 2 i[0].pol + flag 3 i[1].pol + flag 8 i[0].isOpen + flag 9 i[1].isOpen

/-- Value of SES_STATUS. -/
def sesStatusWord (s : State) : Nat :=
  flag 0 s.ses.cfgReject + field 8 8 (maskOf (s.ses.out.toList.map fun o => decide (o.state = .welded))) + flag 16 s.ses.shunt

/-- Value of a notch register. -/
def notchWord (n : Notch) : Nat := field 0 10 n.first + field 16 10 n.last + flag 31 n.en

/-- Value of the four registers of a ring (R68). -/
def ringWord (r : Ring) (g : RingReg) (s : State) : Nat :=
  match r with
  | .sq n =>
    let q := s.hif.sq[n.val]
    match g with
    | .baseLo => q.base.toNat % 2 ^ 32 | .baseHi => q.base.toNat / 2 ^ 32 | .cfg => q.cfgWord | .index => q.head
  | .cq n => outWord (s.hif.cq[n.val])
  | .evq => outWord s.hif.evq
where
  outWord (q : OutQ) : Nat :=
    match g with
    | .baseLo => q.base.toNat % 2 ^ 32 | .baseHi => q.base.toNat / 2 ^ 32 | .cfg => q.cfgWord | .index => q.tail + flag 12 q.phase

/-- Low or high 32 bits of a number. -/
def halfOf (hi : Bool) (v : Nat) : Nat := if hi then v / 2 ^ 32 % 2 ^ 32 else v % 2 ^ 32

/-- What a register of MSD's general blocks reads; the rest are in `readReg`. -/
def readGen (r : Reg) (s : State) : Nat :=
  match r with
  | .genId => 0xA8081F7A
  | .genRev => s.fuse.silicon.toNat + field 16 8 s.fuse.rom.toNat + flag 24 s.fuse.gradeX
  | .genSerial hi => halfOf hi s.fuse.serial.toNat
  | .genOrder k => leAt (orderCode s) (4 * k.val) 4
  | .genReady => s.gen.ready.toNat
  | .genReplace => s.gen.replace.toNat
  | .genReplMask => s.gen.replMask.toNat
  | .genGtcLo => s.gen.gtc.toNat % 2 ^ 32
  | .genGtcHi => s.gen.gtcHi.toNat
  | .genOverrun => overrunWord s
  | .genOverrunGtc => s.gen.ovrGtc.toNat
  | .genTickHwm => s.gen.fgEnd.toNat + field 16 13 s.gen.bgEnd.toNat
  | .hifCtrl => b2n s.hif.run
  | .hifStatus => hifStatusWord s
  | .hifErr => hifErrWord s
  | .ring r g => ringWord r g s
  | .rstCause => s.rst.cause.toNat
  | .rstLast => rstLastWord s
  | .rstMap => rstMapWord s
  | .rstFuseChg => s.fuse.rstChg.toNat
  | .rstCfg => s.rst.outCfg.toNat
  | .rstStatus => rstStatusWord s
  | .pwrStatus => pwrStatusWord s
  | .pwrVbat => s.rst.vbatMv.toNat
  | .pwrCfg => flag 0 s.rst.pfailEn + flag 1 s.rst.pfailPol
  | .memStatus => memStatusWord s
  | .memCeCount => s.mem.ceCount
  | .memUeCount => memUeWord s
  | .memCeCfg => s.mem.thresh
  | .memSpare => memSpareWord s
  | .arbFreeze => arbFreezeWord s
  | .arbStat => arbStatWord s
  | .arbPrio k => arbPrioWord s k
  | .keyStatus => keyStatusWord s
  | .keyPuf => keyPufWord s
  | .keyAttr k => keyAttrWord s k
  | .jnlHead hi => if hi then s.jnl.headHi.toNat else s.jnl.head % 2 ^ 32
  | .jnlTail hi => if hi then s.jnl.tailHi.toNat else s.jnl.tail % 2 ^ 32
  | .jnlOpen => s.jnl.openCount
  | .jnlSel hi => halfOf hi s.jnl.sel.toNat
  | .jnlSelStatus => s.jnl.selState.val
  | .jnlData k => if s.jnl.selState = 1 then leAt s.jnl.snap (4 * k.val) 4 else 0
  | .doorbell (.sq n) => (s.hif.sq[n.val]).tail
  | .doorbell (.cq n) => (s.hif.cq[n.val]).head
  | .doorbell .evq => s.hif.evq.head
  | .msix v w =>
    let e := s.hif.msix[v.val]
    match w with
    | 0 => halfOf false e.addr.toNat | 1 => halfOf true e.addr.toNat | 2 => e.data.toNat | 3 => b2n e.mask
  | .pba => s.hif.pba.toNat
  | _ => 0

/-- The configuration as last written: accepted writes read back before the tick edge at which they take effect (R16, R94, R119, R194). -/
def asWritten (s : State) : State :=
  { s with adc := { s.adc with nomF60 := s.adc.pendNomF.getD s.adc.nomF60
                               cfg := s.adc.pendCfg.foldl (fun c kc => c.set kc.1.val kc.2) s.adc.cfg }
           nrg := { s.nrg with phmap := s.nrg.pendMap.foldl (fun m nm => m.set nm.1.val nm.2) s.nrg.phmap }
           ses := { s.ses with out := s.ses.out.map Outlet.applyCfg } }

/-- What a register reads, without the latching or clearing that a read of some has. -/
def readReg (r : Reg) (s : State) : Nat :=
  match r with
  | .updStatus => updStatusWord s
  | .updPieces => updPiecesWord s
  | .updArmedId => match armedSlot s with | some x => x.imageId.toNat | none => 0
  | .updCfg => s.upd.trialMin
  | .updSvn => s.upd.floor.toNat
  | .mtrGcfg => b2n (asWritten s).adc.nomF60
  | .mtrSeal => sealWord s
  | .mtrDcmode => s.fuse.dcMask.toNat
  | .mtrStatus => mtrStatusWord s
  | .mtrOvl j => bitsOf s.adc.ovl.toNat (32 * j.val) 32
  | .mtrBench => mtrBenchWord s
  | .mtrTmp => unsigned 16 s.adc.tmp
  | .mtrChcfg k => field 0 3 (effType (asWritten s) k) + flag 3 ((asWritten s).adc.cfg[k.val]).inv + field 8 3 (slotKind k)
  | .mtrPhmap n => phmapWord (asWritten s).nrg.phmap[n.val]
  | .mtrPulse n => pulseWord s.nrg.pulse[n.val]
  | .mtrCreep => s.nrg.creep
  | .mtrWatch => mtrWatchWord s
  | .bilCfg => field 0 3 s.clk.ivl + field 4 3 s.clk.ivlActive
  | .bilClk => field 0 6 s.clk.stepLimit + field 8 8 (unsigned 8 s.clk.trim)
  | .bilStatus => bilStatusWord s
  | .bilPpyStatus => ppyStatusWord s
  | .bilTamper => tamperWord s
  | .sesCfg => field 0 8 s.ses.preauthS + field 8 8 s.ses.authTimeoutS
  | .sesStatus => sesStatusWord s
  | .sesOcfg n => liveOcfg (asWritten s) n
  | .sesCoil n => (outOf (asWritten s) n).coil.toNat
  | .sesState n => sesStateWord s n
  | .sesPilot n => sesPilotWord s n
  | .safStatus => safStatusWord s
  | .safEstop => safEstopWord s
  | .safCheck => s.saf.check.toNat
  | .safEdition => s.saf.edition.toNat
  | .safPendEdition => match s.saf.pend with | some p => p.edition.toNat | none => 0
  | .vlkCfg => s.vlk.cfg.toNat + field 8 6 s.vlk.slacWaitS
  | .vlkTiming => field 0 6 s.vlk.authDl + field 8 6 s.vlk.schedDl + field 16 3 s.vlk.certDl + field 24 6 s.vlk.resumeS
  | .vlkStatus => vlkStatusWord s
  | .vlkMacbase hi => halfOf hi s.vlk.macBase.toNat
  | .vlkLink n => vlkLinkWord s n
  | .sctCfg => flag 0 s.sct.domainMode + field 8 8 s.sct.capStopS + field 16 8 s.sct.xferExp
  | .sctStatus => sctStatusWord s
  | .sctLocal p => s.sct.localTok[p.val]
  | .sctHeld p => field 0 16 (s.sct.tok.held p) + field 16 16 s.sct.tok.spare[p.val]
  | .sctOut p => field 0 16 (s.sct.tok.transit p) + field 16 16 (s.sct.tok.doubt p)
  | .sctAssign n => if s.sct.assignUp then sctAssignWord s n else 0
  | .bkbCfg => flag 0 s.bkb.en + flag 1 s.bkb.coordEn + field 2 2 s.bkb.depth + field 4 2 s.bkb.rate + field 8 4 s.bkb.relayShare
  | .bkbDomain => s.bkb.domain.toNat
  | .bkbStatus => bkbStatusWord s
  | .bkbDfn => s.dfn % 2 ^ 32
  | .bkbNotch k => notchWord s.bkb.notch[k.val]
  | .uplCfg => flag 0 s.upl.en + flag 1 s.upl.dual + flag 2 s.upl.preferB
  | .uplStatus => uplStatusWord s
  | .uplGw hi => halfOf hi s.upl.gw.toNat
  | .ethCfg => s.bkb.phyad.toNat + flag 5 s.bkb.vlanEn + field 6 12 s.bkb.vid + field 18 2 s.bkb.speed + flag 20 s.bkb.txdly
  | .nfcCfg => nfcCfgWord s
  | .nfcStatus => nfcStatusWord s
  | .nfcListCount => nfcListCountWord s
  | .nfcTagCfg => nfcTagCfgWord s
  | .nfcTagStatus => nfcTagStatusWord s
  | .lcdCfg => lcdCfgWord s
  | .lcdStatus => lcdStatusWord s
  | .lmpCfg => lmpCfgWord s
  | .lswChcfg k => lswChcfgWord s k
  | .lswStat k => lswStatWord s k
  | .lswTemp g => lswTempWord s g
  | .lswStatus => lswStatusWord s
  | r => readGen r s

/-! ### What writes do -/

/-- W1C of GEN_OVERRUN: with the last bit, FUNC and COUNT return to 0 (R63). -/
def writeOverrun (v : Nat) (s : State) : State :=
  let o := w1c s.gen.ovr v
  if o = 0 then { s with gen := { s.gen with ovr := 0, ovrFunc := 0, ovrCount := 0 } } else { s with gen := { s.gen with ovr := o } }

/-- MTR_WATCH: values above 168 are taken as 168 by the watch; held in BTD and mirrored (R139). -/
def writeWatch (v : Nat) (s : State) : State :=
  let h := bitsOf v 0 8
  let o := BitVec.ofNat 8 (bitsOf v 8 8)
  { s with watch := { s.watch with hours := h, outlets := o, mirror := (h, o) } }

/-- W1C of UPD_STATUS.FALLBACK and SET_LOST. -/
def writeUpdStatus (v : Nat) (s : State) : State :=
  modUpd (fun u => { u with fallback := u.fallback && !bitAt v 5, setLost := u.setLost && !bitAt v 6 }) s

/-- One word of an MSI-X table entry; an entry that is unmasked with its pending bit set sends its message (R79, PCI Express Base). -/
def writeMsix (k : Fin 32) (w : Fin 4) (v : W32) (s : State) : State :=
  let e := s.hif.msix[k.val]
  let e' : MsixEntry := match w with
    | 0 => { e with addr := BitVec.ofNat 64 (e.addr.toNat / 2 ^ 32 * 2 ^ 32 + v.toNat) }
    | 1 => { e with addr := BitVec.ofNat 64 (v.toNat * 2 ^ 32 + e.addr.toNat % 2 ^ 32) }
    | 2 => { e with data := v }
    | 3 => { e with mask := v.getLsbD 0 }
  let s := { s with hif := { s.hif with msix := s.hif.msix.set k.val e' } }
  if !e'.mask && s.hif.pba.getLsbD k.val then
    sendMsix k { s with hif := { s.hif with pba := s.hif.pba &&& ~~~(BitVec.ofNat 32 (2 ^ k.val)) } }
  else s

/-- BKB_UPL_GW_LO and _HI. -/
def writeGw (hi : Bool) (v : Nat) (s : State) : State :=
  let g := s.upl.gw.toNat
  let n := if hi then v % 2 ^ 16 * 2 ^ 32 + g % 2 ^ 32 else g / 2 ^ 32 * 2 ^ 32 + v
  modUpl (fun u => { u with gw := BitVec.ofNat 48 n }) s

/-- A host write to a register by its access codes (R16 to R18): reserved and read-only fields are ignored, and a write that a
chapter rejects sets that chapter's CFG_REJECT. -/
def writeReg (r : Reg) (v : W32) (s : State) : State :=
  let n := v.toNat
  match r with
  | .genReplMask => { s with gen := { s.gen with replMask := BitVec.ofNat 9 n } }
  | .genOverrun => writeOverrun n s
  | .hifCtrl => if bitAt n 0 then setRun s else clearRun s
  | .hifErr => { s with hif := { s.hif with err := w1c s.hif.err n } }
  | .ring r g => writeRingReg r g v s
  | .rstCause => { s with rst := { s.rst with cause := w1c s.rst.cause n } }
  | .rstCfg => { s with rst := { s.rst with outCfg := BitVec.ofNat 3 n } }
  | .pwrCfg => { s with rst := { s.rst with pfailEn := bitAt n 0, pfailPol := bitAt n 1 } }
  | .memCeCfg => writeCeCfg n s
  | .arbPrio k => writeArbPrio k n s
  | .updStatus => writeUpdStatus n s
  | .updCfg => writeUpdCfg n s
  | .mtrGcfg => writeGcfg n s
  | .mtrSeal => if bitAt n 0 then { s with adc := { s.adc with sealed := true } } else s
  | .mtrStatus => if bitAt n 0 then { s with adc := { s.adc with cfgReject := false } } else s
  | .mtrOvl j => { s with adc := { s.adc with ovl := w1c s.adc.ovl (n * 2 ^ (32 * j.val)) } }
  | .mtrChcfg k => writeChcfg k n s
  | .mtrPhmap o => writePhmap o n s
  | .mtrPulse o => writePulse o n s
  | .mtrCreep => writeCreep n s
  | .mtrWatch => writeWatch n s
  | .bilCfg => writeBilCfg n s
  | .bilClk => writeBilClk n s
  | .bilStatus => if bitAt n 16 then { s with clk := { s.clk with cfgReject := false } } else s
  | .bilTamper => writeTamper n s
  | .sesCfg => writeSesCfg n s
  | .sesStatus => if bitAt n 0 then { s with ses := { s.ses with cfgReject := false } } else s
  | .sesOcfg o => writeOcfg o n s
  | .sesCoil o => writeCoil o n s
  | .vlkCfg => writeVlkCfg n s
  | .vlkTiming => writeVlkTiming n s
  | .vlkStatus => if bitAt n 0 then { s with vlk := { s.vlk with cfgReject := false } } else s
  | .sctCfg => writeSctCfg n s
  | .sctStatus => if bitAt n 3 then { s with sct := { s.sct with cfgReject := false } } else s
  | .sctLocal p => writeSctLocal p n s
  | .bkbCfg => writeBkbCfg n s
  | .bkbDomain => writeDomain v s
  | .bkbStatus => if bitAt n 3 then modBkb (fun b => { b with cfgReject := false }) s else s
  | .bkbNotch k => writeNotch k n s
  | .uplCfg => writeUplCfg n s
  | .uplStatus => if bitAt n 4 then modUpl (fun u => { u with cfgReject := false }) s else s
  | .uplGw hi => writeGw hi n s
  | .ethCfg => writeEthCfg n s
  | .nfcCfg => writeNfcCfg n s
  | .nfcStatus => if bitAt n 0 then modNfc (fun x => { x with cfgReject := false }) s else s
  | .lcdCfg => writeLcdCfg n s
  | .lcdStatus => if bitAt n 4 then modLcd (fun l => { l with cfgReject := false }) s else s
  | .lmpCfg => writeLmpCfg n s
  | .lswChcfg k => writeLswChcfg k n s
  | .lswStatus => if bitAt n 2 then { s with lsw := { s.lsw with cfgReject := false } } else s
  | .jnlSel false => { s with jnl := { s.jnl with sel := BitVec.ofNat 64 (s.jnl.sel.toNat / 2 ^ 32 * 2 ^ 32 + n) } }
  | .jnlSel true => selectEntry v s
  | .doorbell (.sq k) => writeSqDoorbell k n s
  | .doorbell (.cq k) => writeOutDoorbell (.cq k) n s
  | .doorbell .evq => writeOutDoorbell .evq n s
  | .msix k w => writeMsix k w v s
  | _ => s

/-- REGISTER_WRITE (R16): it reaches the part while the link is up; an offset that names no register stops. -/
def execRegisterWrite (bar : Bar) (off : W16) (v : W32) (s : State) : Res :=
  if s.isReady 16 then
    match regAt bar off with
    | some r => .next (writeReg r v s)
    | none => .fault (.unmappedRegister off)
  else .next s

end Sys2Proof.Machine
end

