-- ==== Sys2Proof/Machine/Tick.lean ====
section
/-! DEFINITION. The graticule tick: the windows of R48 in their order, the hardware engines beside them (R51), and the
telemetry snapshot (R59). TICK_EDGE runs a tick up to foreground A; a command of a later window first lets the windows before its
own run, and the next TICK_EDGE those that are left (log 32). -/

namespace Sys2Proof.Machine

/-- A tick edge: GTC and the fraction of the RTC second advance, the link's state of this tick is taken (R45, R159, R474). -/
def tickCount (i : TickIn) (s : State) : State :=
  { s with gen := { s.gen with gtc := s.gen.gtc + 1 }, clk := { s.clk with frac := min 63999 (s.clk.frac + 1) },
           hif := { s.hif with linkOk := i.linkOk, bufOk := i.bufOk } }

/-- Bits and copies that were hurt since the last tick (R144, R415). -/
def takeHurts (i : TickIn) (s : State) : State :=
  i.hurts.foldl (fun s h => hurtCopy h.1 h.2.1 h.2.2 s) (i.upsets.foldl (fun s u => flipBit u s) s)

/-- ENTRY_WRITE_RETRY of a completion ring (R474). -/
def retryCq (n : Fin 16) (s : State) : State :=
  let q := s.hif.cq[n.val]
  if s.hif.run && q.en && s.hif.linkOk && !q.waiting.isEmpty then
    q.waiting.foldl (fun s c => putCompletion n c s)
      { s with hif := { s.hif with cq := s.hif.cq.set n.val { q with waiting := [], failed := false } } }
  else s

/-- ENTRY_WRITE_RETRY of the event ring, then what staging still holds (R80, R474). -/
def retryEvq (s : State) : State :=
  let q := s.hif.evq
  let s := if s.hif.run && q.en && s.hif.linkOk then
      s.hif.evWaiting.foldl (fun s e => writeEvent e s)
        { s with hif := { s.hif with evWaiting := [], evq := { q with failed := false } } }
    else s
  drainEvents s

/-- ENTRY_WRITE_RETRY at a tick edge (R474). -/
def retryEntries (s : State) : State := retryEvq (forFin 16 retryCq s)

/-- Foreground A begins: configuration of the edge, safety block, stop inputs, then the outlets (R48, R233, R246). -/
def foregroundA (i : TickIn) (s : State) : State :=
  sessionTick i (stopSamples i (compareBlock (activateBlock (applyOutlets (applyChannels (shuntEdge s))))))

/-- At the edge the quantity engine closes the tick before it, under the configuration that was in force in it; then the accepted writes take
effect (R51, R53, R94, R106, R116, R120). The display's sequencer and the lamp sinks take what waits for the edge (R363, R367). -/
def edgeWork (s : State) : State := lampEdge (lcdEdge (benchSecond (applyGain (applyEnergyCfg (applyChannelCfg (quantityClose s))))))

/-- Foreground B begins: settings, spills, and what a start or a cleared warning owes (R124, R125, R167, R181). The commands of the
window follow. -/
def beginB (s : State) : State :=
  let s := spillAll (tickParts (forFin 8 applySettings s))
  let owed := s.clk.upDue
  let s := tickPower s
  if owed && !s.clk.upDue then markDue s else s

/-- Foreground B ends: accounts, pulses, snapshots, the prepayment and tamper events after the billing events, then the one commit of
this foreground B, whose values a readout of this tick returns; copies that the scrub has named are checked against what it has committed
(R125, R145, R170, R176, R193, R426). -/
def endB (s : State) : State :=
  let s := startSnapshots (dueSnapshots (forFin 8 pulseStart (forFin 8 evalAccount s)))
  keepBillRead prnStatus (checkNoticed .metering (commitAll (flushLate 0x0209 (flushLate 0x0208 s))))

/-- The descriptors that foreground B has done complete (R53, R184). -/
def flushDone (s : State) : State :=
  s.gen.lateDone.foldl (fun s d => completeSeq d.1 d.2.1 0 d.2.2 none s) { s with gen := { s.gen with lateDone := [] } }

/-- Values at the end of foreground B, from which a telemetry snapshot is taken (R59). -/
def telemetryOf (s : State) : List TeleOutlet :=
  (allFin 8).map fun n =>
    { state := (outOf s n).state.num, iLim := (outOf s n).iLim, total := (s.bill[n.val]).regs.impTot }

/-- A telemetry tick keeps them (R58, R59). -/
def keepTelemetry (s : State) : State :=
  if s.now % 64000 = 0 then
    let t := telemetryOf s
    { s with gen := { s.gen with teleSrc := t } }
  else s

/-- Foreground C polls the agents, after the descriptors, takes what their mailboxes hold, and posts the memory events (R53, R426, R433); at its
end the host's reset requests assert (R448). -/
def foregroundC (s : State) : State :=
  raiseRequests (flushWhere mailCode (tickFrames (tickHinge (agentPoll (tagTick (checkNoticed .host s))))))

/-- The tick in which a PUF check powers its bank down (R392): GTC 0 counts as no passed multiple of 640,000 (log 147). -/
def pufDown (s : State) : Bool := decide (640000 ≤ s.now) && decide (s.now % 640000 = 62)

/-- The tick in which it is to be read (R392). -/
def pufRead (s : State) : Bool :=
  match s.key.monDown with
  | some t => decide (t + 128 ≤ s.now) && decide (0x3E ≤ s.now % 64)
  | none => false

/-- The paced step of a tick, by GTC. A telemetry snapshot, a calibration step and the reading of the PUF bank are commands of
their own; a task without work gives its step to the scrub (R58). -/
def pacedStep (s : State) : State :=
  let k := s.now % 64
  if s.now % 64000 = 0 then s
  else if k < 0x30 then scrubStep s
  else if k < 0x38 then (if s.adc.second.isSome then s else scrubStep s)
  else if k < 0x3E then (if s.mem.queued.isEmpty then scrubStep s else wearStep s)
  else if pufDown s then { s with key := { s.key with monDown := some s.now } }
  else if pufRead s then s
  else scrubStep s

/-- The background window: one long-operation step, one paced step (R48, R56, R58). -/
def background (s : State) : State := pacedStep (longStep s)

/-- The decimation engine writes the samples of this tick, poisoned ones are taken as nothing, and the corrected codes enter the
histories (R51, R96, R114, R418). -/
def engines (i : TickIn) (s : State) : State :=
  let s := consumeAll i.consumes.length i.consumes (tickSamples i.mods s)
  let s := tickCorrect s
  tickCapture (tap2 s) s

/-- The higher of a high-water mark and a cycle reached (R63). -/
def higher (old : BitVec 13) (c : Nat) : BitVec 13 := if old.toNat < c then BitVec.ofNat 13 (min 8191 c) else old

/-- The window that the tick has reached. -/
def setWin (w : Window) (s : State) : State := { s with gen := { s.gen with win := w } }

/-- The entry window has run and foreground A runs; safety events that waited for it come first, then the check of the safety block that a
scrub has asked for (R48, R253, R426). -/
def enterSafety (i : TickIn) (s : State) : State :=
  foregroundA i (checkNoticed .safety (flushWhere safCode { s with gen := { s.gen with win := .safety, tin := some i } }))

/-- Foreground A completes: the state machines take their rows, its session events follow its safety events, and what SES_READ returns
stands (R204, R227, R228, R253). -/
def closeA (s : State) : State := keepSesRead (flushWhere sesCode (setWin .metering (evalAll s)))

/-- Foreground A completes and foreground B begins on the quantity engine's result (R48, R49, R51). -/
def enterMetering (s : State) : State := beginB (closeA s)

/-- Foreground B completes and foreground C opens (R48, R59). -/
def enterHost (s : State) : State := flushDone (keepTelemetry (setWin .host (endB s)))

/-- Foreground C polls the mailboxes and completes; where it has not by cycle 4,200, it overruns and no later window runs, else the
background window runs (R48, R53, R60, R61, R63). -/
def enterBack (s : State) : State :=
  match s.gen.tin with
  | none => setWin .back s
  | some i =>
    let s := foregroundC (setWin .back s)
    if 4200 ≤ i.fgEnd then overrun .fgHost s
    else background { s with gen := { s.gen with fgEnd := higher s.gen.fgEnd i.fgEnd } }

/-- The tick ends: the background window, which overruns where a step has not completed by cycle 6,000, and what the hardware engines
did beside the windows (R48, R51, R60, R61, R63). -/
def finishTick (s : State) : State :=
  match s.gen.tin with
  | none => setWin .done s
  | some i =>
    if 6000 ≤ i.bgEnd then overrun .bg s
    else
      engines i { s with gen := { s.gen with win := .done, tin := none, bgEnd := higher s.gen.bgEnd i.bgEnd } }

/-- What the tick does on its way into each window after foreground A, and at its end (R48). -/
def windowSteps : List (Window × (State → State)) :=
  [(.metering, enterMetering), (.host, enterHost), (.back, enterBack), (.done, finishTick)]

/-- The windows between the one that the tick has reached and w run in their order; a reset of MSD ends them (R48, R49, R53). -/
def reach (w : Window) (s : State) : State :=
  (windowSteps.filter fun e => decide (s.gen.win.num < e.1.num ∧ e.1.num ≤ w.num)).foldl
    (fun t e => if t.rst.msdUp then e.2 t else t) s

/-- A command of window w acts where that window has begun (R53), but not in a tick whose windows a lockstep mismatch has discarded
(R232; log 157). -/
def inWindow (w : Window) (act : State → Res) (s : State) : Res := if s.gen.lost.isSome then .next s else act (reach w s)

/-- A tick whose windows a lockstep mismatch discards: only the engines run, and its inputs are kept (R51, R232). -/
def lostTick (i : TickIn) (s : State) : State :=
  engines i (edgeWork { s with rst := { s.rst with mismatchRun := 1 }, gen := { s.gen with lost := some i } })

/-- The telemetry snapshot of a tick (R59). -/
def takeTelemetry (s : State) : State := { s with gen := { s.gen with tele := some (s.now, s.gen.teleSrc) } }

/-- The windows of a discarded tick run again before those of the tick after it, on the inputs and with the tick number that it had
(R232; log 157), the telemetry snapshot among them (R59). The engines have run in their own tick. -/
def rerunTick (s : State) : State :=
  match s.gen.lost with
  | none => s
  | some j =>
    let g := s.gen.gtc
    let s := enterSafety j { s with gen := { s.gen with gtc := g - 1, lost := none } }
    let s := background (foregroundC (enterHost (beginB (closeA s))))
    let s := if s.now % 64000 = 0 then takeTelemetry s else s
    { s with gen := { s.gen with gtc := g, win := .done, tin := none } }

/-- TICK_EDGE (R48): the tick before it ends, then the new tick's entry window and foreground A run; the other windows run when
their commands come or the tick ends. A first mismatch discards the tick, whose windows run again in the next one; a second one in a row
raises LOCKSTEP, and a run that agrees is a recovery (R232). -/
def tickEdge (i : TickIn) (s : State) : State :=
  let s := retryEntries (takeHurts i (tickCount i s))
  if i.mismatch then
    if s.rst.mismatchRun = 0 then lostTick i s else raise .lockstep (levelOf .lockstep s) 0 s
  else
    let s := if s.rst.mismatchRun = 0 then s else rerunTick (setReplace 5 { s with rst := { s.rst with mismatchRun := 0 } })
    enterSafety i (edgeWork s)

/-- TICK_EDGE (R48): there are no ticks while MSD is in reset (R44, R45), nor after an overrun that the end of the tick before found. -/
def execTickEdge (i : TickIn) (s : State) : Res :=
  let s := reach .done s
  .next (if s.rst.msdUp then tickEdge i s else s)

/-- RESET_RELEASE (R444): after a level-0 hold in the tick of GTC_START, whose windows follow (R45, R48); after others at the first
edge without them. -/
def execResetRelease (j : StartIn) (s : State) : Res :=
  .next (if s.rst.held0 then s
    else if s.rst.msdUp then releaseHolds s
    else
      let s := startMsd j s
      match s.gen.win, s.gen.tin with
      | .entry, some i => enterSafety i (edgeWork s)
      | _, _ => s)

/-- TICK_OVERRUN (R60, R61): the windows before the one that overran have run. -/
def execTickOverrun (w : Overrun) (s : State) : Res :=
  match w with
  | .fgSafety | .fn _ => .next (overrun w s)
  | .fgMeter => .next (overrun w (reach .metering s))
  | .fgHost => .next (overrun w (reach .host s))
  | .bg => .next (overrun w (reach .back s))

/-- What a level-0 reset after the power-fail warning commits first: foreground B of its tick, then the energy of that tick (R125). -/
def lastEnergy (s : State) : State :=
  if s.rst.msdUp && s.rst.pfw then
    let g := s.gen.gtc
    let s := match s.gen.tin with | some i => engines i (reach .host s) | none => s
    let s := commitAll (spillAll (quantityClose { s with gen := { s.gen with gtc := g + 1 } }))
    { s with gen := { s.gen with gtc := g } }
  else s

/-- BROWN_OUT (R125, R442): the energy is committed first, and `hurts` are the copies that the loss of supply then cuts. -/
def execBrownOut (b : Brown) (deep cell : Bool) (hurts : List (Owner × Fin 3 × CopyHurt)) (s : State) : Res :=
  .next (brownOut b deep cell hurts (lastEnergy s))

/-- TELEMETRY_SNAPSHOT: in a tick whose GTC is a multiple of 64,000, in its background window (R58, R59). -/
def execTelemetrySnapshot (s : State) : Res :=
  inWindow .back (fun s => .next (if s.rst.msdUp ∧ s.now % 64000 = 0 then takeTelemetry s else s)) s

end Sys2Proof.Machine
end

