-- ==== Sys2Proof/Machine/Windows.lean ====
section
/-! DEFINITION. The commands that belong to a later window than foreground A: each lets the windows before its own run, then acts (R48,
R53; log 32). -/

namespace Sys2Proof.Machine

/-! ### Foreground B: measurement, billing time and records -/

/-- CYCLE_END (R130, R117, R121, R131, R132, R215, R216, R218, R225). -/
def execCycleEnd (g : Group) (s : State) : Res := inWindow .metering (runCycleEnd g) s

/-- RTC_MINUTE_EDGE (R150, R152, R182). -/
def execRtcMinuteEdge (s : State) : Res := inWindow .metering runRtcMinuteEdge s

/-- INTERVAL_BOUNDARY (R160). -/
def execIntervalBoundary (s : State) : Res := inWindow .metering runIntervalBoundary s

/-- CLOCK_STEP (R163). -/
def execClockStep (s : State) : Res := inWindow .metering runClockStep s

/-- SLEW_DONE (R162). -/
def execSlewDone (s : State) : Res := inWindow .metering runSlewDone s

/-- RETRO_CLOSE (R164). -/
def execRetroClose (s : State) : Res := inWindow .metering runRetroClose s

/-- EMERGENCY_ACTIVATE (R184). -/
def execEmergencyActivate (n : Outlet8) (s : State) : Res := inWindow .metering (runEmergencyActivate n) s

/-- TOPUP_APPLY (R186). -/
def execTopupApply (s : State) : Res := inWindow .metering runTopupApply s

/-- TAMPER_COPY (R191). -/
def execTamperCopy (s : State) : Res := inWindow .metering runTamperCopy s

/-- POWER_FAIL_WARNING (R439). -/
def execPowerFailWarning (i : PfIn) (s : State) : Res := inWindow .metering (runPowerFailWarning i) s

/-! ### Foreground C: results and readings -/

/-- LONG_OPERATION_DONE (R56, R398). -/
def execLongOperationDone (s : State) : Res := inWindow .host runLongOperationDone s

/-- RAW_CAPTURE_DONE (R112). -/
def execRawCaptureDone (s : State) : Res := inWindow .host runRawCaptureDone s

/-- PRN_END_SNAPSHOT (R176). -/
def execPrnEndSnapshot (n : Outlet8) (s : State) : Res := inWindow .host (runPrnEndSnapshot n) s

/-! ### Foreground C: descriptors (R54) -/

/-- NFC_LIST_WRITE (R346). -/
def execNfcListWrite (s : State) : Res := inWindow .host runNfcListWrite s

/-- NFC_LIST_DELETE (R358). -/
def execNfcListDelete (s : State) : Res := inWindow .host runNfcListDelete s

/-- NFC_LIST_CLEAR (R358). -/
def execNfcListClear (s : State) : Res := inWindow .host runNfcListClear s

/-- NFC_LIST_LOOKUP (R345). -/
def execNfcListLookup (s : State) : Res := inWindow .host runNfcListLookup s

/-- NFC_LIST_READ (R358). -/
def execNfcListRead (s : State) : Res := inWindow .host runNfcListRead s

/-- BIL_TIME_SET (R161). -/
def execBilTimeSet (s : State) : Res := inWindow .host runBilTimeSet s

/-- BIL_TIME_READ (R173). -/
def execBilTimeRead (s : State) : Res := inWindow .host runBilTimeRead s

/-- BIL_REG_READ (R170). -/
def execBilRegRead (s : State) : Res := inWindow .host runBilRegRead s

/-- BIL_SHORT_READ (R171). -/
def execBilShortRead (s : State) : Res := inWindow .host runBilShortRead s

/-- BIL_INTERVAL_READ (R172). -/
def execBilIntervalRead (s : State) : Res := inWindow .host runBilIntervalRead s

/-- BIL_POWER_READ (R172). -/
def execBilPowerRead (s : State) : Res := inWindow .host runBilPowerRead s

/-- BIL_CALENDAR_WRITE (R152). -/
def execBilCalendarWrite (s : State) : Res := inWindow .host runBilCalendarWrite s

/-- BIL_CALENDAR_READ (R173). -/
def execBilCalendarRead (s : State) : Res := inWindow .host runBilCalendarRead s

/-- BIL_MD_RESET (R173). -/
def execBilMdReset (s : State) : Res := inWindow .host runBilMdReset s

/-- BKB_ATLAS_READ (R326, R337). -/
def execBkbAtlasRead (s : State) : Res := inWindow .host runBkbAtlasRead s

/-- MTR_CORR_WRITE (R116). -/
def execMtrCorrWrite (s : State) : Res := inWindow .host runMtrCorrWrite s

/-- MTR_CORR_READ (R116). -/
def execMtrCorrRead (s : State) : Res := inWindow .host runMtrCorrRead s

/-- MTR_QUANT_READ (R133). -/
def execMtrQuantRead (s : State) : Res := inWindow .host runMtrQuantRead s

/-- MTR_ACC_READ (R134). -/
def execMtrAccRead (s : State) : Res := inWindow .host runMtrAccRead s

/-- MTR_WATCH_READ (R139). -/
def execMtrWatchRead (s : State) : Res := inWindow .host runMtrWatchRead s

/-- SYS_NOP (R86). -/
def execSysNop (s : State) : Res := inWindow .host runSysNop s

/-- SYS_JOURNAL_READ (R87). -/
def execSysJournalRead (s : State) : Res := inWindow .host runSysJournalRead s

/-- SYS_JOURNAL_INFO (R86). -/
def execSysJournalInfo (s : State) : Res := inWindow .host runSysJournalInfo s

/-- SYS_REPLACE_ACK (R88). -/
def execSysReplaceAck (s : State) : Res := inWindow .host runSysReplaceAck s

/-- SYS_READY_SNAPSHOT (R86). -/
def execSysReadySnapshot (s : State) : Res := inWindow .host runSysReadySnapshot s

/-- SYS_RESET_REQUEST (R448). -/
def execSysResetRequest (s : State) : Res := inWindow .host runSysResetRequest s

/-- SYS_RESET_MAP (R449). -/
def execSysResetMap (s : State) : Res := inWindow .host runSysResetMap s

/-- KEY_GENERATE (R402). -/
def execKeyGenerate (s : State) : Res := inWindow .host runKeyGenerate s

/-- KEY_IMPORT (R395). -/
def execKeyImport (s : State) : Res := inWindow .host runKeyImport s

/-- KEY_PUBLIC_READ (R402). -/
def execKeyPublicRead (s : State) : Res := inWindow .host runKeyPublicRead s

/-- KEY_SIGN (R402). -/
def execKeySign (s : State) : Res := inWindow .host runKeySign s

/-- KEY_VERIFY (R401). -/
def execKeyVerify (s : State) : Res := inWindow .host runKeyVerify s

/-- KEY_ECDH (R402). -/
def execKeyEcdh (s : State) : Res := inWindow .host runKeyEcdh s

/-- KEY_AES_GCM (R402). -/
def execKeyAesGcm (s : State) : Res := inWindow .host runKeyAesGcm s

/-- KEY_HMAC (R402). -/
def execKeyHmac (s : State) : Res := inWindow .host runKeyHmac s

/-- KEY_HASH (R402). -/
def execKeyHash (s : State) : Res := inWindow .host runKeyHash s

/-- KEY_RANDOM (R401). -/
def execKeyRandom (s : State) : Res := inWindow .host runKeyRandom s

/-- KEY_DESTROY (R398). -/
def execKeyDestroy (s : State) : Res := inWindow .host runKeyDestroy s

/-- KEY_LOCK (R399). -/
def execKeyLock (s : State) : Res := inWindow .host runKeyLock s

/-- LCD_LEGEND_WRITE (R359). -/
def execLcdLegendWrite (s : State) : Res := inWindow .host runLcdLegendWrite s

/-- LCD_WAVE_WRITE (R361). -/
def execLcdWaveWrite (s : State) : Res := inWindow .host runLcdWaveWrite s

/-- LCD_DRAW (R363). -/
def execLcdDraw (s : State) : Res := inWindow .host runLcdDraw s

/-- LMP_GAMMA_WRITE (R368). -/
def execLmpGammaWrite (s : State) : Res := inWindow .host runLmpGammaWrite s

/-- LMP_SET (R369). -/
def execLmpSet (s : State) : Res := inWindow .host runLmpSet s

/-- LSW_SET (R375). -/
def execLswSet (s : State) : Res := inWindow .host runLswSet s

/-- LSW_CLEAR (R381). -/
def execLswClear (s : State) : Res := inWindow .host runLswClear s

/-- LSW_READ (R389). -/
def execLswRead (s : State) : Res := inWindow .host runLswRead s

/-- MEM_LOG_READ (R425). -/
def execMemLogRead (s : State) : Res := inWindow .host runMemLogRead s

/-- NFC_EXCHANGE (R343). -/
def execNfcExchange (s : State) : Res := inWindow .host runNfcExchange s

/-- NFC_TAG_READ (R356). -/
def execNfcTagRead (s : State) : Res := inWindow .host runNfcTagRead s

/-- NFC_TAG_WRITE (R356). -/
def execNfcTagWrite (s : State) : Res := inWindow .host runNfcTagWrite s

/-- NFC_TAG_AREA (R358). -/
def execNfcTagArea (s : State) : Res := inWindow .host runNfcTagArea s

/-- NFC_TAG_UNLOCK (R353). -/
def execNfcTagUnlock (s : State) : Res := inWindow .host runNfcTagUnlock s

/-- BIL_PPY_CONFIG (R181). -/
def execBilPpyConfig (s : State) : Res := inWindow .host runBilPpyConfig s

/-- BIL_PPY_EMERGENCY (R184). -/
def execBilPpyEmergency (s : State) : Res := inWindow .host runBilPpyEmergency s

/-- BIL_PPY_TOPUP (R186). -/
def execBilPpyTopup (s : State) : Res := inWindow .host runBilPpyTopup s

/-- BIL_PPY_READ (R189). -/
def execBilPpyRead (s : State) : Res := inWindow .host runBilPpyRead s

/-- SAF_BLOCK_WRITE (R248). -/
def execSafBlockWrite (s : State) : Res := inWindow .host runSafBlockWrite s

/-- SAF_BLOCK_READ (R252). -/
def execSafBlockRead (s : State) : Res := inWindow .host runSafBlockRead s

/-- SAF_COMMISSION (R249). -/
def execSafCommission (s : State) : Res := inWindow .host runSafCommission s

/-- SAF_ESTOP_RELEASE (R252). -/
def execSafEstopRelease (s : State) : Res := inWindow .host runSafEstopRelease s

/-- SAF_STATUS_READ (R252). -/
def execSafStatusRead (s : State) : Res := inWindow .host runSafStatusRead s

/-- SCT_BUDGET_SET (R306). -/
def execSctBudgetSet (s : State) : Res := inWindow .host runSctBudgetSet s

/-- SCT_READ (R310). -/
def execSctRead (s : State) : Res := inWindow .host runSctRead s

/-- SCT_LEDGER_READ (R310). -/
def execSctLedgerRead (s : State) : Res := inWindow .host runSctLedgerRead s

/-- SCT_RETIRE (R307). -/
def execSctRetire (s : State) : Res := inWindow .host runSctRetire s

/-- MTR_RAW_CAPTURE (R112). -/
def execMtrRawCapture (s : State) : Res := inWindow .host runMtrRawCapture s

/-- MTR_RAW_ABORT (R112). -/
def execMtrRawAbort (s : State) : Res := inWindow .host runMtrRawAbort s

/-- MTR_UNSEAL (R113). -/
def execMtrUnseal (s : State) : Res := inWindow .host runMtrUnseal s

/-- SES_AUTHORISE (R207). -/
def execSesAuthorise (s : State) : Res := inWindow .host runSesAuthorise s

/-- SES_STOP (R226). -/
def execSesStop (s : State) : Res := inWindow .host runSesStop s

/-- SES_LIMIT (R226). -/
def execSesLimit (s : State) : Res := inWindow .host runSesLimit s

/-- SES_READ (R227). -/
def execSesRead (s : State) : Res := inWindow .host runSesRead s

/-- SES_FAULT_CLEAR (R226). -/
def execSesFaultClear (s : State) : Res := inWindow .host runSesFaultClear s

/-- SES_UNLOCK (R226). -/
def execSesUnlock (s : State) : Res := inWindow .host runSesUnlock s

/-- BIL_PRN_SIGN (R179). -/
def execBilPrnSign (s : State) : Res := inWindow .host runBilPrnSign s

/-- BIL_PRN_FETCH (R179). -/
def execBilPrnFetch (s : State) : Res := inWindow .host runBilPrnFetch s

/-- BIL_PRN_KEY_READ (R180). -/
def execBilPrnKeyRead (s : State) : Res := inWindow .host runBilPrnKeyRead s

/-- BIL_PRN_CERT_READ (R180). -/
def execBilPrnCertRead (s : State) : Res := inWindow .host runBilPrnCertRead s

/-- BIL_TAMPER_READ (R192). -/
def execBilTamperRead (s : State) : Res := inWindow .host runBilTamperRead s

/-- UPD_ARM (R405). -/
def execUpdArm (s : State) : Res := inWindow .host runUpdArm s

/-- UPD_PIECE_WRITE (R407). -/
def execUpdPieceWrite (s : State) : Res := inWindow .host runUpdPieceWrite s

/-- UPD_BITMAP_READ (R414). -/
def execUpdBitmapRead (s : State) : Res := inWindow .host runUpdBitmapRead s

/-- BKB_RELAY_START (R327). -/
def execBkbRelayStart (s : State) : Res := inWindow .host runBkbRelayStart s

/-- BKB_RELAY_STOP (R337). -/
def execBkbRelayStop (s : State) : Res := inWindow .host runBkbRelayStop s

/-- UPD_ACTIVATE (R408). -/
def execUpdActivate (s : State) : Res := inWindow .host runUpdActivate s

/-- UPD_CONFIRM (R412). -/
def execUpdConfirm (s : State) : Res := inWindow .host runUpdConfirm s

/-- UPD_REVERT (R412). -/
def execUpdRevert (s : State) : Res := inWindow .host runUpdRevert s

/-- UPD_STATUS_READ (R414). -/
def execUpdStatusRead (s : State) : Res := inWindow .host runUpdStatusRead s

/-- BKB_UPL_SEND (R330). -/
def execBkbUplSend (s : State) : Res := inWindow .host runBkbUplSend s

/-- BKB_UPL_RECV (R337). -/
def execBkbUplRecv (s : State) : Res := inWindow .host runBkbUplRecv s

/-- BKB_UPL_SWITCH (R335). -/
def execBkbUplSwitch (s : State) : Res := inWindow .host runBkbUplSwitch s

/-- VLK_DECISION_WAIT (R272). -/
def execVlkDecisionWait (s : State) : Res := inWindow .host runVlkDecisionWait s

/-- VLK_DECISION_ANSWER (R275). -/
def execVlkDecisionAnswer (s : State) : Res := inWindow .host runVlkDecisionAnswer s

/-- VLK_RENEGOTIATE (R277). -/
def execVlkRenegotiate (s : State) : Res := inWindow .host runVlkRenegotiate s

/-- VLK_SESSION_READ (R283). -/
def execVlkSessionRead (s : State) : Res := inWindow .host runVlkSessionRead s

/-- VLK_CERT_WRITE (R283). -/
def execVlkCertWrite (s : State) : Res := inWindow .host runVlkCertWrite s

/-- VLK_CERT_READ (R283). -/
def execVlkCertRead (s : State) : Res := inWindow .host runVlkCertRead s

/-! ### The background window -/

/-- BENCHMARK_CALIBRATION (R58, R106). -/
def execBenchmarkCalibration (s : State) : Res := inWindow .back runBenchmarkCalibration s

/-- PUF_HEALTH_CHECK (R392). -/
def execPufHealthCheck (err : List Nat) (s : State) : Res := inWindow .back (runPufHealthCheck err) s

/-- TRIAL_EXPIRY (R412). -/
def execTrialExpiry (s : State) : Res := inWindow .done runTrialExpiry s

end Sys2Proof.Machine
end

