-- ==== Sys2Proof/Machine/Dispatch.lean ====
section
/-! DEFINITION. One arm per command: each is one call of its meaning. -/

namespace Sys2Proof.Machine

/-- The effect of a command on everything but the queue. -/
def exec (i : Instr) (s : State) : Host.Outcome State Fault Refusal :=
  match i with
  | .tickEdge input => Sys2Proof.Machine.execTickEdge input s
  | .gtcStart locked input => Sys2Proof.Machine.execGtcStart locked input s
  | .longOperationDone => Sys2Proof.Machine.execLongOperationDone s
  | .telemetrySnapshot => Sys2Proof.Machine.execTelemetrySnapshot s
  | .tickOverrun w => Sys2Proof.Machine.execTickOverrun w s
  | .genGtcLoRead => Sys2Proof.Machine.execGenGtcLoRead s
  | .genTickHwmRead => Sys2Proof.Machine.execGenTickHwmRead s
  | .registerWrite bar off v => Sys2Proof.Machine.execRegisterWrite bar off v s
  | .functionReady bit => Sys2Proof.Machine.execFunctionReady bit s
  | .pcieReset k => Sys2Proof.Machine.execPcieReset k s
  | .hifRunSet => Sys2Proof.Machine.execHifRunSet s
  | .hifRunClear => Sys2Proof.Machine.execHifRunClear s
  | .ringEnable r => Sys2Proof.Machine.execRingEnable r s
  | .ringDisable r => Sys2Proof.Machine.execRingDisable r s
  | .ringCfgWrite r g v => Sys2Proof.Machine.execRingCfgWrite r g v s
  | .sqDoorbellWrite n v => Sys2Proof.Machine.execSqDoorbellWrite n v s
  | .cqDoorbellWrite r v => Sys2Proof.Machine.execCqDoorbellWrite r v s
  | .descriptorFetch sq raw readOk buf torn => Sys2Proof.Machine.execDescriptorFetch sq raw readOk buf torn s
  | .msixCoalTimeout r => Sys2Proof.Machine.execMsixCoalTimeout r s
  | .jnlSeqLoRead e => Sys2Proof.Machine.execJnlSeqLoRead e s
  | .jnlSelHiWrite v => Sys2Proof.Machine.execJnlSelHiWrite v s
  | .sysNop => Sys2Proof.Machine.execSysNop s
  | .sysJournalRead => Sys2Proof.Machine.execSysJournalRead s
  | .sysJournalInfo => Sys2Proof.Machine.execSysJournalInfo s
  | .sysReplaceAck => Sys2Proof.Machine.execSysReplaceAck s
  | .sysReadySnapshot => Sys2Proof.Machine.execSysReadySnapshot s
  | .mtrChcfgWrite k v => Sys2Proof.Machine.execMtrChcfgWrite k v s
  | .mtrGcfgWrite v => Sys2Proof.Machine.execMtrGcfgWrite v s
  | .mtrSealSet => Sys2Proof.Machine.execMtrSealSet s
  | .settlingEnd g => Sys2Proof.Machine.execSettlingEnd g s
  | .mtrOverload k neg => Sys2Proof.Machine.execMtrOverload k neg s
  | .benchmarkCalibration => Sys2Proof.Machine.execBenchmarkCalibration s
  | .benchGainSave => Sys2Proof.Machine.execBenchGainSave s
  | .mtrTmpFirstWrite => Sys2Proof.Machine.execMtrTmpFirstWrite s
  | .mtrRawCapture => Sys2Proof.Machine.execMtrRawCapture s
  | .rawCaptureDone => Sys2Proof.Machine.execRawCaptureDone s
  | .mtrRawAbort => Sys2Proof.Machine.execMtrRawAbort s
  | .mtrUnseal => Sys2Proof.Machine.execMtrUnseal s
  | .mtrCorrWrite => Sys2Proof.Machine.execMtrCorrWrite s
  | .mtrCorrRead => Sys2Proof.Machine.execMtrCorrRead s
  | .mtrPhmapWrite n v => Sys2Proof.Machine.execMtrPhmapWrite n v s
  | .cycleEnd g => Sys2Proof.Machine.execCycleEnd g s
  | .mtrPulseWrite n v => Sys2Proof.Machine.execMtrPulseWrite n v s
  | .pulseEnd n => Sys2Proof.Machine.execPulseEnd n s
  | .mtrQuantRead => Sys2Proof.Machine.execMtrQuantRead s
  | .mtrAccRead => Sys2Proof.Machine.execMtrAccRead s
  | .mtrWatchRead => Sys2Proof.Machine.execMtrWatchRead s
  | .watchStart => Sys2Proof.Machine.execWatchStart s
  | .watchWindowEnd mods => Sys2Proof.Machine.execWatchWindowEnd mods s
  | .watchHoursExpiry => Sys2Proof.Machine.execWatchHoursExpiry s
  | .watchCellLow => Sys2Proof.Machine.execWatchCellLow s
  | .rtcSecondEdge => Sys2Proof.Machine.execRtcSecondEdge s
  | .rtcMinuteEdge => Sys2Proof.Machine.execRtcMinuteEdge s
  | .rtcTempCorrection temp => Sys2Proof.Machine.execRtcTempCorrection temp s
  | .intervalBoundary => Sys2Proof.Machine.execIntervalBoundary s
  | .bilCfgWrite v => Sys2Proof.Machine.execBilCfgWrite v s
  | .bilTimeSet => Sys2Proof.Machine.execBilTimeSet s
  | .clockStep => Sys2Proof.Machine.execClockStep s
  | .slewDone => Sys2Proof.Machine.execSlewDone s
  | .retroClose => Sys2Proof.Machine.execRetroClose s
  | .bilRegRead => Sys2Proof.Machine.execBilRegRead s
  | .bilShortRead => Sys2Proof.Machine.execBilShortRead s
  | .bilIntervalRead => Sys2Proof.Machine.execBilIntervalRead s
  | .bilPowerRead => Sys2Proof.Machine.execBilPowerRead s
  | .bilTimeRead => Sys2Proof.Machine.execBilTimeRead s
  | .bilCalendarWrite => Sys2Proof.Machine.execBilCalendarWrite s
  | .bilCalendarRead => Sys2Proof.Machine.execBilCalendarRead s
  | .bilMdReset => Sys2Proof.Machine.execBilMdReset s
  | .prnEndSnapshot n => Sys2Proof.Machine.execPrnEndSnapshot n s
  | .bilPrnSign => Sys2Proof.Machine.execBilPrnSign s
  | .bilPrnFetch => Sys2Proof.Machine.execBilPrnFetch s
  | .bilPrnKeyRead => Sys2Proof.Machine.execBilPrnKeyRead s
  | .bilPrnCertRead => Sys2Proof.Machine.execBilPrnCertRead s
  | .bilPpyConfig => Sys2Proof.Machine.execBilPpyConfig s
  | .bilPpyEmergency => Sys2Proof.Machine.execBilPpyEmergency s
  | .emergencyActivate n => Sys2Proof.Machine.execEmergencyActivate n s
  | .bilPpyTopup => Sys2Proof.Machine.execBilPpyTopup s
  | .topupApply => Sys2Proof.Machine.execTopupApply s
  | .bilPpyRead => Sys2Proof.Machine.execBilPpyRead s
  | .tamperSample coverHigh termHigh => Sys2Proof.Machine.execTamperSample coverHigh termHigh s
  | .tamperChatterEnd input => Sys2Proof.Machine.execTamperChatterEnd input s
  | .tamperCopy => Sys2Proof.Machine.execTamperCopy s
  | .bilTamperRead => Sys2Proof.Machine.execBilTamperRead s
  | .sesOcfgWrite n v => Sys2Proof.Machine.execSesOcfgWrite n v s
  | .sesCoilWrite n v => Sys2Proof.Machine.execSesCoilWrite n v s
  | .pilotStateRecognised n => Sys2Proof.Machine.execPilotStateRecognised n s
  | .pilotFault n => Sys2Proof.Machine.execPilotFault n s
  | .proximityNoneTimeout n => Sys2Proof.Machine.execProximityNoneTimeout n s
  | .authTimeout n => Sys2Proof.Machine.execAuthTimeout n s
  | .preauthExpiry n => Sys2Proof.Machine.execPreauthExpiry n s
  | .stoppingTimeout n => Sys2Proof.Machine.execStoppingTimeout n s
  | .faultDriveEnd n => Sys2Proof.Machine.execFaultDriveEnd n s
  | .stateMachineRequest n => Sys2Proof.Machine.execStateMachineRequest n s
  | .coilPullInEnd n => Sys2Proof.Machine.execCoilPullInEnd n s
  | .mirrorConfirm n => Sys2Proof.Machine.execMirrorConfirm n s
  | .mirrorTimeout n => Sys2Proof.Machine.execMirrorTimeout n s
  | .shuntTripRelease => Sys2Proof.Machine.execShuntTripRelease s
  | .lockConfirm n => Sys2Proof.Machine.execLockConfirm n s
  | .lockDriveEnd n => Sys2Proof.Machine.execLockDriveEnd n s
  | .lockDriveTimeout n => Sys2Proof.Machine.execLockDriveTimeout n s
  | .lockRetry n => Sys2Proof.Machine.execLockRetry n s
  | .rcdTrip n => Sys2Proof.Machine.execRcdTrip n s
  | .rcdSelfTestPhaseEnd n => Sys2Proof.Machine.execRcdSelfTestPhaseEnd n s
  | .evOvercurrent n => Sys2Proof.Machine.execEvOvercurrent n s
  | .sesAuthorise => Sys2Proof.Machine.execSesAuthorise s
  | .sesStop => Sys2Proof.Machine.execSesStop s
  | .sesLimit => Sys2Proof.Machine.execSesLimit s
  | .sesRead => Sys2Proof.Machine.execSesRead s
  | .sesFaultClear => Sys2Proof.Machine.execSesFaultClear s
  | .sesUnlock => Sys2Proof.Machine.execSesUnlock s
  | .estopContactRecognised c => Sys2Proof.Machine.execEstopContactRecognised c s
  | .estopDiscrepancy p => Sys2Proof.Machine.execEstopDiscrepancy p s
  | .estopChatterClear p => Sys2Proof.Machine.execEstopChatterClear p s
  | .safEstopRead => Sys2Proof.Machine.execSafEstopRead s
  | .safBlockWrite => Sys2Proof.Machine.execSafBlockWrite s
  | .safBlockRead => Sys2Proof.Machine.execSafBlockRead s
  | .safCommission => Sys2Proof.Machine.execSafCommission s
  | .safPendingExpiry => Sys2Proof.Machine.execSafPendingExpiry s
  | .safEstopRelease => Sys2Proof.Machine.execSafEstopRelease s
  | .safStatusRead => Sys2Proof.Machine.execSafStatusRead s
  | .cmSlacParmReq n vmac runId => Sys2Proof.Machine.execCmSlacParmReq n vmac runId s
  | .slacSounding runId atten => Sys2Proof.Machine.execSlacSounding runId atten s
  | .cmSlacMatchReq n vmac runId => Sys2Proof.Machine.execCmSlacMatchReq n vmac runId s
  | .cmValidateReq n => Sys2Proof.Machine.execCmValidateReq n s
  | .slacTimeout n => Sys2Proof.Machine.execSlacTimeout n s
  | .slacWaitTimeout n => Sys2Proof.Machine.execSlacWaitTimeout n s
  | .sdpRequest n tls => Sys2Proof.Machine.execSdpRequest n tls s
  | .tcpConnect n ask => Sys2Proof.Machine.execTcpConnect n ask s
  | .v2gtpFrame n f => Sys2Proof.Machine.execV2gtpFrame n f s
  | .supportedAppProtocolReq n offers => Sys2Proof.Machine.execSupportedAppProtocolReq n offers s
  | .sessionSetupReq n sessionId evccid => Sys2Proof.Machine.execSessionSetupReq n sessionId evccid s
  | .paymentDetailsReq n c => Sys2Proof.Machine.execPaymentDetailsReq n c s
  | .authorizationReq n contract => Sys2Proof.Machine.execAuthorizationReq n contract s
  | .chargeParameterDiscoveryReq n p => Sys2Proof.Machine.execChargeParameterDiscoveryReq n p s
  | .certificateInstallationReq n update body => Sys2Proof.Machine.execCertificateInstallationReq n update body s
  | .chargingStatusReq n => Sys2Proof.Machine.execChargingStatusReq n s
  | .sessionStopReq n pause => Sys2Proof.Machine.execSessionStopReq n pause s
  | .v2gRequest n k => Sys2Proof.Machine.execV2gRequest n k s
  | .decisionDeadline reqId => Sys2Proof.Machine.execDecisionDeadline reqId s
  | .v2gIdleTimeout n => Sys2Proof.Machine.execV2gIdleTimeout n s
  | .tcpConnectionLost n => Sys2Proof.Machine.execTcpConnectionLost n s
  | .resumeTimeout n => Sys2Proof.Machine.execResumeTimeout n s
  | .vlkCertWrite => Sys2Proof.Machine.execVlkCertWrite s
  | .vlkCertRead => Sys2Proof.Machine.execVlkCertRead s
  | .vlkDecisionWait => Sys2Proof.Machine.execVlkDecisionWait s
  | .decisionWaitTimeout => Sys2Proof.Machine.execDecisionWaitTimeout s
  | .vlkDecisionAnswer => Sys2Proof.Machine.execVlkDecisionAnswer s
  | .vlkRenegotiate => Sys2Proof.Machine.execVlkRenegotiate s
  | .vlkSessionRead => Sys2Proof.Machine.execVlkSessionRead s
  | .offer m => Sys2Proof.Machine.execOffer m s
  | .accept m => Sys2Proof.Machine.execAccept m s
  | .refuse m => Sys2Proof.Machine.execRefuse m s
  | .commit m => Sys2Proof.Machine.execCommit m s
  | .ack m => Sys2Proof.Machine.execAck m s
  | .move m => Sys2Proof.Machine.execMove m s
  | .query m => Sys2Proof.Machine.execQuery m s
  | .status m => Sys2Proof.Machine.execStatus m s
  | .resolve m => Sys2Proof.Machine.execResolve m s
  | .transferDeadline => Sys2Proof.Machine.execTransferDeadline s
  | .memberReport slot r => Sys2Proof.Machine.execMemberReport slot r s
  | .ledgerDigest d rel => Sys2Proof.Machine.execLedgerDigest d rel s
  | .sharingComputation => Sys2Proof.Machine.execSharingComputation s
  | .coolingEnd => Sys2Proof.Machine.execCoolingEnd s
  | .capacityStop n => Sys2Proof.Machine.execCapacityStop n s
  | .joinRetry => Sys2Proof.Machine.execJoinRetry s
  | .budgetRequest target edition => Sys2Proof.Machine.execBudgetRequest target edition s
  | .sctModeWrite v => Sys2Proof.Machine.execSctModeWrite v s
  | .sctLocalWrite p v => Sys2Proof.Machine.execSctLocalWrite p v s
  | .sctBudgetSet => Sys2Proof.Machine.execSctBudgetSet s
  | .sctRead => Sys2Proof.Machine.execSctRead s
  | .sctLedgerRead => Sys2Proof.Machine.execSctLedgerRead s
  | .sctRetire => Sys2Proof.Machine.execSctRetire s
  | .backboneFrame => Sys2Proof.Machine.execBackboneFrame s
  | .frameHeader f => Sys2Proof.Machine.execFrameHeader f s
  | .pollResponse slot u missed lacking => Sys2Proof.Machine.execPollResponse slot u missed lacking s
  | .joinRequest serial count => Sys2Proof.Machine.execJoinRequest serial count s
  | .joinAnswer domain coord r => Sys2Proof.Machine.execJoinAnswer domain coord r s
  | .becomeCoordinator => Sys2Proof.Machine.execBecomeCoordinator s
  | .headerLossRejoin => Sys2Proof.Machine.execHeaderLossRejoin s
  | .sounding src snr => Sys2Proof.Machine.execSounding src snr s
  | .surveyReport links => Sys2Proof.Machine.execSurveyReport links s
  | .routeFailedExpiry => Sys2Proof.Machine.execRouteFailedExpiry s
  | .firmwarePiece imageId idx data => Sys2Proof.Machine.execFirmwarePiece imageId idx data s
  | .bkbCfgWrite domain v => Sys2Proof.Machine.execBkbCfgWrite domain v s
  | .bkbNotchWrite k v => Sys2Proof.Machine.execBkbNotchWrite k v s
  | .bkbUplCfgWrite v => Sys2Proof.Machine.execBkbUplCfgWrite v s
  | .uplinkEnvelope p e => Sys2Proof.Machine.execUplinkEnvelope p e s
  | .envelopeRetransmit => Sys2Proof.Machine.execEnvelopeRetransmit s
  | .ackEnvelopeSend => Sys2Proof.Machine.execAckEnvelopeSend s
  | .phyLinkDown => Sys2Proof.Machine.execPhyLinkDown s
  | .gatewaySilent p => Sys2Proof.Machine.execGatewaySilent p s
  | .hingeProofTimeout => Sys2Proof.Machine.execHingeProofTimeout s
  | .pathTrySwitch => Sys2Proof.Machine.execPathTrySwitch s
  | .bkbUplSend => Sys2Proof.Machine.execBkbUplSend s
  | .bkbUplRecv => Sys2Proof.Machine.execBkbUplRecv s
  | .bkbUplSwitch => Sys2Proof.Machine.execBkbUplSwitch s
  | .drillTimeout => Sys2Proof.Machine.execDrillTimeout s
  | .bkbAtlasRead => Sys2Proof.Machine.execBkbAtlasRead s
  | .bkbRelayStart => Sys2Proof.Machine.execBkbRelayStart s
  | .bkbRelayStop => Sys2Proof.Machine.execBkbRelayStop s
  | .nfcPing amp cards => Sys2Proof.Machine.execNfcPing amp cards s
  | .nfcFieldHoldEnd => Sys2Proof.Machine.execNfcFieldHoldEnd s
  | .nfcExchange => Sys2Proof.Machine.execNfcExchange s
  | .nfcListWrite => Sys2Proof.Machine.execNfcListWrite s
  | .nfcListDelete => Sys2Proof.Machine.execNfcListDelete s
  | .nfcListClear => Sys2Proof.Machine.execNfcListClear s
  | .nfcListLookup => Sys2Proof.Machine.execNfcListLookup s
  | .nfcListRead => Sys2Proof.Machine.execNfcListRead s
  | .listRecencySave => Sys2Proof.Machine.execListRecencySave s
  | .authListExpiry => Sys2Proof.Machine.execAuthListExpiry s
  | .nfcTagRead => Sys2Proof.Machine.execNfcTagRead s
  | .nfcTagWrite => Sys2Proof.Machine.execNfcTagWrite s
  | .nfcTagArea => Sys2Proof.Machine.execNfcTagArea s
  | .nfcTagUnlock => Sys2Proof.Machine.execNfcTagUnlock s
  | .tagStatusRecordWrite => Sys2Proof.Machine.execTagStatusRecordWrite s
  | .tagFieldOn => Sys2Proof.Machine.execTagFieldOn s
  | .tagFieldOff => Sys2Proof.Machine.execTagFieldOff s
  | .fdOutRelease => Sys2Proof.Machine.execFdOutRelease s
  | .tagPowerUp => Sys2Proof.Machine.execTagPowerUp s
  | .inventory afi => Sys2Proof.Machine.execInventory afi s
  | .stayQuiet uid => Sys2Proof.Machine.execStayQuiet uid s
  | .select uid => Sys2Proof.Machine.execSelect uid s
  | .resetToReady uid => Sys2Proof.Machine.execResetToReady uid s
  | .getSystemInformation => Sys2Proof.Machine.execGetSystemInformation s
  | .readSingleBlock b => Sys2Proof.Machine.execReadSingleBlock b s
  | .readMultipleBlocks b count => Sys2Proof.Machine.execReadMultipleBlocks b count s
  | .writeSingleBlock b data cut => Sys2Proof.Machine.execWriteSingleBlock b data cut s
  | .writeMultipleBlocks b data cut => Sys2Proof.Machine.execWriteMultipleBlocks b data cut s
  | .presentPassword mfr area pw cut => Sys2Proof.Machine.execPresentPassword mfr area pw cut s
  | .tagUnsupportedCommand code => Sys2Proof.Machine.execTagUnsupportedCommand code s
  | .lcdLegendWrite => Sys2Proof.Machine.execLcdLegendWrite s
  | .lcdWaveWrite => Sys2Proof.Machine.execLcdWaveWrite s
  | .lcdDraw => Sys2Proof.Machine.execLcdDraw s
  | .lcdPhaseEnd => Sys2Proof.Machine.execLcdPhaseEnd s
  | .lcdCfgWrite v => Sys2Proof.Machine.execLcdCfgWrite v s
  | .lcdDischargeEnd => Sys2Proof.Machine.execLcdDischargeEnd s
  | .crackCheck loopOhm landOhm => Sys2Proof.Machine.execCrackCheck loopOhm landOhm s
  | .lmpGammaWrite => Sys2Proof.Machine.execLmpGammaWrite s
  | .lmpSet => Sys2Proof.Machine.execLmpSet s
  | .lampBlinkPhase n => Sys2Proof.Machine.execLampBlinkPhase n s
  | .lswSet => Sys2Proof.Machine.execLswSet s
  | .lswClear => Sys2Proof.Machine.execLswClear s
  | .lswRead => Sys2Proof.Machine.execLswRead s
  | .lswChcfgWrite k v => Sys2Proof.Machine.execLswChcfgWrite k v s
  | .pwmInputEdge j high us => Sys2Proof.Machine.execPwmInputEdge j high us s
  | .pwmFastClear j => Sys2Proof.Machine.execPwmFastClear j s
  | .lswOvercurrent k => Sys2Proof.Machine.execLswOvercurrent k s
  | .lswRetry k => Sys2Proof.Machine.execLswRetry k s
  | .lswRetriesReset k => Sys2Proof.Machine.execLswRetriesReset k s
  | .lswThermalLatch k => Sys2Proof.Machine.execLswThermalLatch k s
  | .lswFoldBack g => Sys2Proof.Machine.execLswFoldBack g s
  | .lswFoldRestore g => Sys2Proof.Machine.execLswFoldRestore g s
  | .lswMeasurement ma limit hot grp wholeOn vaux => Sys2Proof.Machine.execLswMeasurement ma limit hot grp wholeOn vaux s
  | .vauxUndervoltage dv => Sys2Proof.Machine.execVauxUndervoltage dv s
  | .vauxOvervoltage dv => Sys2Proof.Machine.execVauxOvervoltage dv s
  | .vauxRestore dv => Sys2Proof.Machine.execVauxRestore dv s
  | .keyGenerate => Sys2Proof.Machine.execKeyGenerate s
  | .keyImport => Sys2Proof.Machine.execKeyImport s
  | .keyPublicRead => Sys2Proof.Machine.execKeyPublicRead s
  | .keySign => Sys2Proof.Machine.execKeySign s
  | .keyVerify => Sys2Proof.Machine.execKeyVerify s
  | .keyEcdh => Sys2Proof.Machine.execKeyEcdh s
  | .keyAesGcm => Sys2Proof.Machine.execKeyAesGcm s
  | .keyHmac => Sys2Proof.Machine.execKeyHmac s
  | .keyHash => Sys2Proof.Machine.execKeyHash s
  | .keyRandom => Sys2Proof.Machine.execKeyRandom s
  | .keyDestroy => Sys2Proof.Machine.execKeyDestroy s
  | .keyLock => Sys2Proof.Machine.execKeyLock s
  | .pufHealthCheck err => Sys2Proof.Machine.execPufHealthCheck err s
  | .entropyFailure failed => Sys2Proof.Machine.execEntropyFailure failed s
  | .updArm => Sys2Proof.Machine.execUpdArm s
  | .updPieceWrite => Sys2Proof.Machine.execUpdPieceWrite s
  | .updBitmapRead => Sys2Proof.Machine.execUpdBitmapRead s
  | .updActivate => Sys2Proof.Machine.execUpdActivate s
  | .updConfirm => Sys2Proof.Machine.execUpdConfirm s
  | .updRevert => Sys2Proof.Machine.execUpdRevert s
  | .updStatusRead => Sys2Proof.Machine.execUpdStatusRead s
  | .imageBootCheck b => Sys2Proof.Machine.execImageBootCheck b s
  | .trialExpiry => Sys2Proof.Machine.execTrialExpiry s
  | .ceRateWindowEnd => Sys2Proof.Machine.execCeRateWindowEnd s
  | .mramPortRequest reqs => Sys2Proof.Machine.execMramPortRequest reqs s
  | .arbPrioWrite k v => Sys2Proof.Machine.execArbPrioWrite k v s
  | .memLogRead => Sys2Proof.Machine.execMemLogRead s
  | .powerGood => Sys2Proof.Machine.execPowerGood s
  | .brownOut b deep cell hurts => Sys2Proof.Machine.execBrownOut b deep cell hurts s
  | .rstPin => Sys2Proof.Machine.execRstPin s
  | .pllLockLoss pllB => Sys2Proof.Machine.execPllLockLoss pllB s
  | .wdtMsdExpiry => Sys2Proof.Machine.execWdtMsdExpiry s
  | .wdtApdExpiry => Sys2Proof.Machine.execWdtApdExpiry s
  | .criticalStateMismatch c => Sys2Proof.Machine.execCriticalStateMismatch c s
  | .resetRelease input => Sys2Proof.Machine.execResetRelease input s
  | .powerFailWarning input => Sys2Proof.Machine.execPowerFailWarning input s
  | .powerFailClear => Sys2Proof.Machine.execPowerFailClear s
  | .railRangeChange vp12 vn12 => Sys2Proof.Machine.execRailRangeChange vp12 vn12 s
  | .vbatMeasurement mv => Sys2Proof.Machine.execVbatMeasurement mv s
  | .sysResetRequest => Sys2Proof.Machine.execSysResetRequest s
  | .sysResetMap => Sys2Proof.Machine.execSysResetMap s
  | .phyLinkUp speed => Sys2Proof.Machine.execPhyLinkUp speed s
  | .memberAbsent slot => Sys2Proof.Machine.execMemberAbsent slot s
  | .bkbUplRecvTimeout => Sys2Proof.Machine.execBkbUplRecvTimeout s
  | .sctBudgetSetTimeout => Sys2Proof.Machine.execSctBudgetSetTimeout s
  | .sctRetireTimeout => Sys2Proof.Machine.execSctRetireTimeout s
  | .nfcExchangeAnswer answer => Sys2Proof.Machine.execNfcExchangeAnswer answer s
  | .nfcExchangeTimeout => Sys2Proof.Machine.execNfcExchangeTimeout s
  | .isoDepCardLeft => Sys2Proof.Machine.execIsoDepCardLeft s

end Sys2Proof.Machine
end

