-- ==== Sys2Proof/Safety.lean ====
section
/-! DEFINITION. What counts as a safe run, and the shapes in which the statements speak of a step: which blocks of the state it
may change, and which descriptor it dispatches. -/

namespace Sys2Proof

open Sys2Proof.Machine

/-- The outcome is a next state. -/
def Safety.Completes (o : Host.Outcome Machine.State Machine.Fault Machine.Refusal) : Prop :=
  ∃ s, o = .next s

/-- The step from a state does not stop with a fault or a refusal. -/
def Safety.StepSafe (s : Machine.State) : Prop := Safety.Completes (Machine.step s)

/-- The PCIe link is up, so the host reaches the registers (R27, R67). -/
def Safety.LinkUp (s : State) : Prop := s.isReady 16 = true

/-- MSD runs, foreground C of a tick that no mismatch has discarded is open, and the next descriptor to be dispatched is f of this tick's intake or an earlier one, with this
opcode (R53, R54, R75). A state whose tick has not come to foreground C answers as the state in which it has (`TickAndItsChecks`). -/
def Safety.Front (opcode : Nat) (f : Flight) (s : State) : Prop :=
  s.rst.msdUp = true ∧ s.gen.win = .host ∧ nextDispatch [] s.hif.inflight = some f ∧ f.opcode.toNat = opcode ∧ f.intake ≤ s.now ∧
    s.gen.lost = none

/-- The tick has come to window w or past it, so no window before w is still to run, and no lockstep mismatch has discarded its windows
(R48, R53, R232). -/
def Safety.Reached (w : Window) (s : State) : Prop := w.num ≤ s.gen.win.num ∧ s.gen.lost = none

/-- A tick's commands may act: MSD runs. -/
def Safety.Ticking (s : State) : Prop := s.rst.msdUp = true

/-- No lockstep mismatch has discarded the windows of the present tick (R232). -/
def Safety.Undiscarded (s : State) : Prop := s.gen.lost = none

/-- The state machine of an outlet runs in a tick that no mismatch has discarded, has made no transition in this tick, is confirmed and sees no fault (R204). -/
def Safety.Settled (n : Outlet8) (s : State) : Prop :=
  s.gen.lost = none ∧ s.ses.started = true ∧ (outOf s n).lastTrans ≠ some s.now ∧ unconfirmed s n = false ∧ faultOf (outOf s n) = none

/-- Only the host interface unit and what has left the part differ: an event or a message was sent, staged or lost. -/
def Safety.HostOnly (s t : State) : Prop := t = { s with hif := t.hif, outbox := t.outbox }

/-- Only the host interface unit, what has left the part and the events that wait for their window differ: an event of an APD or COD
function was put into its mailbox, or one of foreground A or B held (R53). -/
def Safety.EventsOnly (s t : State) : Prop :=
  t = { s with hif := t.hif, outbox := t.outbox, gen := { s.gen with lateEv := t.gen.lateEv } }

/-- Only the host interface unit, the journal and what has left the part differ: a descriptor completed or was fetched. -/
def Safety.HostAndJournalOnly (s t : State) : Prop := t = { s with hif := t.hif, jnl := t.jnl, outbox := t.outbox }

/-- The same, and events wait for their window. -/
def Safety.JournalAndEventsOnly (s t : State) : Prop :=
  t = { s with hif := t.hif, jnl := t.jnl, outbox := t.outbox, gen := { s.gen with lateEv := t.gen.lateEv } }

/-- The three stored memories are in canonical form: addresses strictly rise, no entry equals what an unlisted address holds. -/
def Safety.MemoryCanonical (s : State) : Prop :=
  sparseWf ({} : Stored) s.mem.mram = true ∧ sparseWf ({} : Stored) s.mem.app = true ∧ sparseWf ({} : Stored) s.mem.met = true

end Sys2Proof
end

