-- ==== Sys2Proof/WellFormed.lean ====
section
/-! DEFINITION. What the operands of a command must satisfy to come from the outside world that the
manual describes. `exec` is total all the same: it reads a missing list element as 0 (log 7). -/

namespace Sys2Proof

/-- Lists over the slots, outlets and stop inputs of a tick have one element each (R1, R91, R233). -/
def tickInOk (i : TickIn) : Bool :=
  decide (i.mods.length = 72) && decide (i.cp.length = 8) && decide (i.pp.length = 8) &&
  decide (i.mirLow.length = 8) && decide (i.lockHigh.length = 8) && decide (i.coil.length = 8) &&
  decide (i.stop.length = 4)

/-- A descriptor is 64 bytes (R77). -/
def descriptorOk (raw : List Byte) : Bool := decide (raw.length = 64)

/-- A token message carries a count of 1 to 800 (R296). -/
def tokMsgOk (m : TokMsg) : Bool := decide (1 ≤ m.count) && decide (m.count ≤ 800)

/-- The well-formed commands. -/
def wellFormed : Instr → Bool
  | .tickEdge i | .gtcStart _ i => tickInOk i
  | .descriptorFetch _ raw _ _ _ => descriptorOk raw
  | .watchWindowEnd mods => decide (mods.length = 24)
  | .slacSounding _ a => decide (a.length = 8)
  | .budgetRequest t _ => decide (t.length = 3)
  | .frameHeader f => decide (f.2.quiet.length = 22)
  | .pollResponse _ (some u) _ _ => decide (1 ≤ u.quiet.length ∧ u.quiet.length ≤ 22)
  | .sounding _ snr => decide (snr.length = 1024)
  | .firmwarePiece _ idx data => decide (idx < 5120) && decide (data.length = 512)
  | .lswMeasurement ma _ hot grp _ _ =>
    decide (ma.length = 24) && decide (hot.length = 24) && decide (grp.length = 4)
  | .pufHealthCheck err => decide (err.length = 4)
  | .offer m | .accept m | .refuse m | .commit m | .ack m | .move m | .query m | .resolve m => tokMsgOk m
  | _ => true

end Sys2Proof
end

