-- ==== Sys2Proof/Certificates/Slice0/Obligations.lean ====
section
/-! DEFINITION. The statements for the provers, by chapter of the manual. Where a statement says that a command answers
`.next { s with … }`, everything that it does not name is unchanged. A rule number says where a
clause comes from; a statement says no more of a rule than its own words do. Events, timers and recognitions act when their command
comes and their condition holds (logs 10, 32 and 53). -/

open Sys2Proof Sys2Proof.Machine Sys2Proof.Safety

/-- The front command runs with the rest of the queue. With an empty queue the part idles; this is the model's choice (log 6). -/
def Obligations.StepRunsFrontCommand : Prop :=
  (∀ (c : Instr) (rest : List Instr) (s : State), s.pending = c :: rest → step s = exec c { s with pending := rest }) ∧
  (∀ s : State, s.pending = [] → step s = .next s)

/-! ### Host interface -/

/-- R47: a read of GEN_GTC_LO returns GTC[31:0] and latches GTC[47:32] into GEN_GTC_HI, and nothing else changes. -/
def Obligations.GtcReadLatchesHighHalf : Prop :=
  ∀ s : State, LinkUp s →
    exec .genGtcLoRead s = .next { s with
      gen := { s.gen with gtcHi := s.gen.gtc.extractLsb' 32 16 }
      lastRead := s.gen.gtc.extractLsb' 0 32 } ∧
    ∀ t, exec .genGtcLoRead s = .next t → readReg .genGtcHi t = s.gen.gtc.toNat / 2 ^ 32

/-- R63, R85: the other reads with an effect. GEN_TICK_HWM returns its fields and clears them; JNL_HEAD_LO and JNL_TAIL_LO return the
low half of a journal number and latch its high half; a write of JNL_SEL_HI selects the entry and takes its snapshot. Readings of
the model in it: log 41. -/
def Obligations.HostReadsWithEffect : Prop :=
  ∀ s : State, LinkUp s →
    exec .genTickHwmRead s = .next { s with
      gen := { s.gen with fgEnd := 0, bgEnd := 0 }
      lastRead := BitVec.ofNat 32 (s.gen.fgEnd.toNat + 2 ^ 16 * s.gen.bgEnd.toNat) } ∧
    exec (.jnlSeqLoRead .head) s = .next { s with
      jnl := { s.jnl with headHi := BitVec.ofNat 32 (max 1 (s.jnl.tail - 8192) / 2 ^ 32) }
      lastRead := BitVec.ofNat 32 (max 1 (s.jnl.tail - 8192)) } ∧
    exec (.jnlSeqLoRead .tail) s = .next { s with
      jnl := { s.jnl with tailHi := BitVec.ofNat 32 (s.jnl.tail / 2 ^ 32) }
      lastRead := BitVec.ofNat 32 s.jnl.tail } ∧
    ∀ (v : W32) (sel : Nat), sel = v.toNat * 2 ^ 32 + s.jnl.sel.toNat % 2 ^ 32 →
      (sel < max 1 (s.jnl.tail - 8192) → exec (.jnlSelHiWrite v) s = .next { s with
        jnl := { s.jnl with sel := BitVec.ofNat 64 sel, selState := 2, snap := [] } }) ∧
      (s.jnl.tail ≤ sel → max 1 (s.jnl.tail - 8192) ≤ sel → exec (.jnlSelHiWrite v) s = .next { s with
        jnl := { s.jnl with sel := BitVec.ofNat 64 sel, selState := 3, snap := [] } }) ∧
      (∀ e, max 1 (s.jnl.tail - 8192) ≤ sel → sel < s.jnl.tail → s.jnl.find sel = some e →
        exec (.jnlSelHiWrite v) s = .next { s with
          jnl := { s.jnl with sel := BitVec.ofNat 64 sel, selState := 1, snap := e.bytes } })

/-- R71: a doorbell write with an index that is not below the ring size, on a disabled ring, or with bits [31:12] set is ignored and
sets DB_INVALID; any other sets the tail of the submission ring, and nothing else changes. The premise holds of every ring that R69
allows. R71: a head that is not between the old head and the tail, going forward, is ignored too; an accepted one is taken over, and
the value that stands already has no effect. -/
def Obligations.Doorbells : Prop :=
  (∀ (s : State) (n : Fin 16) (v : W32), LinkUp s → (s.hif.sq[n.val]).sizeLog2 ≤ 12 →
      (((s.hif.sq[n.val]).en = false ∨ 2 ^ (s.hif.sq[n.val]).sizeLog2 ≤ v.toNat ∨ 4096 ≤ v.toNat) →
        ∃ t, exec (.sqDoorbellWrite n v) s = .next t ∧ t.hif.err.getLsbD 0 = true ∧ t.hif.errRing = BitVec.ofNat 6 n.val ∧
          t.hif.sq = s.hif.sq ∧ t.hif.cq = s.hif.cq ∧ t.hif.evq.head = s.hif.evq.head ∧ HostOnly s t) ∧
      ((s.hif.sq[n.val]).en = true → v.toNat < 2 ^ (s.hif.sq[n.val]).sizeLog2 →
        exec (.sqDoorbellWrite n v) s = .next { s with hif := { s.hif with
          sq := s.hif.sq.set n.val { s.hif.sq[n.val] with tail := v.toNat } } })) ∧
  (∀ (s : State) (r : OutRing) (v : W32), LinkUp s → (outRing r s).sizeLog2 ≤ 12 →
      (((outRing r s).en = false ∨ 2 ^ (outRing r s).sizeLog2 ≤ v.toNat ∨ 4096 ≤ v.toNat ∨
          (outRing r s).used < (v.toNat + 2 ^ (outRing r s).sizeLog2 - (outRing r s).head) % 2 ^ (outRing r s).sizeLog2) →
        ∃ t, exec (.cqDoorbellWrite r v) s = .next t ∧ t.hif.err.getLsbD 0 = true ∧ t.hif.sq = s.hif.sq ∧
          t.hif.cq = s.hif.cq ∧ t.hif.evq.head = s.hif.evq.head ∧ HostOnly s t) ∧
      ((outRing r s).en = true → v.toNat < 2 ^ (outRing r s).sizeLog2 →
          (v.toNat + 2 ^ (outRing r s).sizeLog2 - (outRing r s).head) % 2 ^ (outRing r s).sizeLog2 ≤ (outRing r s).used →
        ∃ t, exec (.cqDoorbellWrite r v) s = .next t ∧ (outRing r t).head = v.toNat ∧ HostOnly s t ∧
          (v.toNat = (outRing r s).head → t = s)))

/-- R69: where EN goes from 0 to 1, head and tail of the ring return to 0 (of an EVQ only the head) and PHASE of a completion ring to 1.
Shown of a submission ring whose completion ring is enabled, and of the sizes 4 to 12 that R69 allows. A ring that is disabled keeps
everything else where it is a submission ring. A HEAD or TAIL register ignores a write; a CFG write with a size outside 4 to 12, one
that would enable a submission ring without its completion ring, and one that changes the size of an enabled ring set CFG_REJECT and
change nothing; on a disabled submission ring it is taken. R68: a base register of a ring is ignored while EN is 1, with CFG_REJECT set; while
EN is 0 it takes its 32 bits, the base being 4 KiB aligned. -/
def Obligations.RingConfiguration : Prop :=
  (∀ (s : State), LinkUp s →
      (∀ n : Fin 16, (s.hif.sq[n.val]).en = false → 4 ≤ (s.hif.sq[n.val]).sizeLog2 → (s.hif.sq[n.val]).sizeLog2 ≤ 12 →
        (s.hif.cq[(s.hif.sq[n.val]).cq.val]).en = true →
        exec (.ringEnable (.sq n)) s = .next { s with hif := { s.hif with
          sq := s.hif.sq.set n.val { s.hif.sq[n.val] with en := true, head := 0, tail := 0 } } }) ∧
      (∀ n : Fin 16, (s.hif.sq[n.val]).en = true → 4 ≤ (s.hif.sq[n.val]).sizeLog2 → (s.hif.sq[n.val]).sizeLog2 ≤ 12 →
        exec (.ringDisable (.sq n)) s = .next { s with hif := { s.hif with
          sq := s.hif.sq.set n.val { s.hif.sq[n.val] with en := false } } }) ∧
      (∀ r : OutRing, (outRing r s).en = false → 4 ≤ (outRing r s).sizeLog2 → (outRing r s).sizeLog2 ≤ 12 →
        ∃ t, exec (.ringEnable (match r with | .cq n => .cq n | .evq => .evq)) s = .next t ∧ HostOnly s t ∧
          (outRing r t).en = true ∧ (outRing r t).head = 0 ∧ (r ≠ .evq → (outRing r t).tail = 0 ∧ (outRing r t).phase = true)) ∧
      (∀ r : OutRing, (outRing r s).en = true → 4 ≤ (outRing r s).sizeLog2 → (outRing r s).sizeLog2 ≤ 12 →
        (∀ n i : Fin 16, r = .cq n → (s.hif.sq[i.val]).en = true → (s.hif.sq[i.val]).cq ≠ n) →
        ∃ t, exec (.ringDisable (match r with | .cq n => .cq n | .evq => .evq)) s = .next t ∧ HostOnly s t ∧
          (outRing r t).en = false)) ∧
  (∀ (s : State) (n : Fin 16) (v : W32), LinkUp s →
      ((s.hif.sq[n.val]).en = true →
        ∃ t, exec (.ringCfgWrite (.sq n) .baseLo v) s = .next t ∧ t.hif.err.getLsbD 1 = true ∧ t.hif.errRing = BitVec.ofNat 6 n.val ∧
          t.hif.sq = s.hif.sq ∧ HostOnly s t) ∧
      ((s.hif.sq[n.val]).en = false →
        exec (.ringCfgWrite (.sq n) .baseLo v) s = .next { s with hif := { s.hif with
          sq := s.hif.sq.set n.val { s.hif.sq[n.val] with
            base := (s.hif.sq[n.val]).base.extractLsb' 32 32 ++ (v.extractLsb' 12 20 ++ (0 : BitVec 12)) } } }) ∧
      ((s.hif.sq[n.val]).en = false →
        exec (.ringCfgWrite (.sq n) .baseHi v) s = .next { s with hif := { s.hif with
          sq := s.hif.sq.set n.val { s.hif.sq[n.val] with base := v ++ (s.hif.sq[n.val]).base.extractLsb' 0 32 } } })) ∧
  (∀ (s : State) (r : OutRing) (v : W32), LinkUp s →
      ((outRing r s).en = true → ∀ g : RingReg, g = .baseLo ∨ g = .baseHi →
        ∃ t, exec (.ringCfgWrite (match r with | .cq n => .cq n | .evq => .evq) g v) s = .next t ∧ t.hif.err.getLsbD 1 = true ∧
          t.hif.sq = s.hif.sq ∧ (outRing r t).base = (outRing r s).base ∧ HostOnly s t) ∧
      ((outRing r s).en = false →
        exec (.ringCfgWrite (match r with | .cq n => .cq n | .evq => .evq) .baseLo v) s = .next (setOutRing r { outRing r s with
            base := (outRing r s).base.extractLsb' 32 32 ++ (v.extractLsb' 12 20 ++ (0 : BitVec 12)) } s) ∧
        exec (.ringCfgWrite (match r with | .cq n => .cq n | .evq => .evq) .baseHi v) s = .next (setOutRing r { outRing r s with
            base := v ++ (outRing r s).base.extractLsb' 0 32 } s))) ∧
  (∀ (s : State) (r : Ring) (n : Fin 16) (v : W32), LinkUp s →
      exec (.ringCfgWrite r .index v) s = .next s ∧
      ((bitsOf v.toNat 4 4 < 4 ∨ 12 < bitsOf v.toNat 4 4 ∨
          (v.getLsbD 0 = true ∧ (s.hif.sq[n.val]).en = false ∧ (s.hif.cq[bitsOf v.toNat 8 4 % 16]'(Nat.mod_lt _ (by decide))).en = false) ∨
          ((s.hif.sq[n.val]).en = true ∧ (s.hif.sq[n.val]).sizeLog2 ≤ 12 ∧ bitsOf v.toNat 4 4 ≠ (s.hif.sq[n.val]).sizeLog2)) →
        ∃ t, exec (.ringCfgWrite (.sq n) .cfg v) s = .next t ∧ t.hif.err.getLsbD 1 = true ∧ t.hif.sq = s.hif.sq ∧ HostOnly s t) ∧
      ((s.hif.sq[n.val]).en = false → v.getLsbD 0 = false → 4 ≤ bitsOf v.toNat 4 4 → bitsOf v.toNat 4 4 ≤ 12 →
        exec (.ringCfgWrite (.sq n) .cfg v) s = .next { s with hif := { s.hif with sq := s.hif.sq.set n.val { s.hif.sq[n.val] with
          prio := v.getLsbD 1, sizeLog2 := bitsOf v.toNat 4 4, cq := Fin.ofNat 16 (bitsOf v.toNat 8 4) } } }))

/-- R68: setting RUN keeps the rings and the descriptors in flight; clearing it clears the EN of every ring, drops the reservations, and
keeps the descriptors in flight, which then write no completion; those that wait for a decision or an envelope end. R67: a PCIe hot reset, link-down or D3hot clears RUN and HIF_ERR,
returns the submission and completion rings and the MSI-X table to their reset values and disables the EVQ, sets the PCIE bit of
RST_CAUSE, and leaves GTC and the journal's tail. R79: the message of a ring with entries not yet signalled goes out when COAL_TICKS
ticks have passed since the first of them, and the count starts anew. Readings of the model in it: logs 37, 40. -/
def Obligations.HostInterfaceControl : Prop :=
  (∀ (s : State), LinkUp s →
      (∃ t, exec .hifRunSet s = .next t ∧ t.hif.run = true ∧ t.hif.sq = s.hif.sq ∧ t.hif.inflight = s.hif.inflight ∧ HostOnly s t) ∧
      (s.vlk.waits = [] → s.upl.waits = [] →
        ∃ t, exec .hifRunClear s = .next t ∧ t.hif.run = false ∧ t.hif.evq.en = false ∧
          (∀ n : Fin 16, (t.hif.sq[n.val]).en = false ∧ (t.hif.cq[n.val]).en = false ∧ (t.hif.cq[n.val]).reserved = 0) ∧
          t.hif.inflight = s.hif.inflight.map (fun f => { f with noCq := true }) ∧ HostOnly s t) ∧
      (∃ t, exec .hifRunClear s = .next t ∧ t.hif.run = false ∧ t.hif.evq.en = false ∧ t.vlk.waits = [] ∧ t.upl.waits = [] ∧
        (∀ n : Fin 16, (t.hif.sq[n.val]).en = false ∧ (t.hif.cq[n.val]).en = false ∧ (t.hif.cq[n.val]).reserved = 0) ∧
        (∀ w ∈ s.vlk.waits ++ s.upl.waits, ∀ f ∈ t.hif.inflight, f.seq ≠ w.1))) ∧
  (∀ (s : State) (k : LinkReset), s.rst.held0 = false →
      ∃ t, exec (.pcieReset k) s = .next t ∧ t.hif.run = false ∧ t.hif.err = 0 ∧ t.hif.evq.en = false ∧
        (∀ n : Fin 16, t.hif.sq[n.val] = ({} : Sq) ∧ t.hif.cq[n.val] = ({} : OutQ)) ∧
        t.hif.msix = Vector.replicate 32 {} ∧ t.rst.cause.getLsbD 15 = true ∧ t.gen.gtc = s.gen.gtc ∧ t.jnl.tail = s.jnl.tail) ∧
  (∀ (s : State) (r : OutRing), (outRing r s).irqEn = true → 0 < (outRing r s).unsignalled →
      (outRing r s).firstTick + max 1 (outRing r s).coalTicks.toNat ≤ s.now →
      exec (.msixCoalTimeout r) s =
        .next (sendMsix (outRing r s).vector (setOutRing r { outRing r s with unsignalled := 0 } s)))

/-- R72, R73, R82, R85: a fetch from the ring whose turn it is takes the next SEQ and opens its journal entry, moves the ring's head on
by one, and touches nothing but the host interface unit and the journal. -/
def Obligations.FetchTakesNextSeq : Prop :=
  ∀ (s : State) (n : Fin 16) (raw : List Byte) (ok torn : Bool) (buf : BufRead),
    s.rst.msdUp = true → fetchChoice s = some n →
    ∃ t, exec (.descriptorFetch n raw ok buf torn) s = .next t ∧ t.jnl.tail = s.jnl.tail + 1 ∧
      (t.hif.sq[n.val]).head = ((s.hif.sq[n.val]).head + 1) % 2 ^ (s.hif.sq[n.val]).sizeLog2 ∧
      (∃ e ∈ t.jnl.entries, e.seq = s.jnl.tail ∧ e.gtcAcc = s.gen.gtc ∧ e.ring = n ∧ e.sqIndex = (s.hif.sq[n.val]).head) ∧
      HostAndJournalOnly s t

/-- R77, R78, R82: a descriptor that completes leaves the flight, and its journal entry holds GTC_DONE and RESULT; nothing but the host
interface unit, the journal and what has left the part changes. -/
def Obligations.CompletionClosesEntry : Prop :=
  ∀ (s : State) (f : Flight) (st : Status) (detail : Nat) (data : List Byte) (buf : Option (List Byte)),
    HostAndJournalOnly s (complete f st detail data buf s) ∧
    (∀ g ∈ (complete f st detail data buf s).hif.inflight, g.seq ≠ f.seq) ∧
    (complete f st detail data buf s).jnl.tail = s.jnl.tail ∧
    ∀ e ∈ (complete f st detail data buf s).jnl.entries, e.seq = f.seq →
      e.done = some (s.gen.gtc, BitVec.ofNat 16 (detail * 256 + st.code))

/-- R75: a descriptor is not dispatched while an earlier one of its ring holds it back: with FENCE set on it, any earlier one in flight;
without, an earlier one with FENCE set that has not been dispatched. -/
def Obligations.FenceHoldsBack : Prop :=
  ∀ (s : State) (pre post : List Flight) (f g : Flight),
    s.hif.inflight = pre ++ f :: post → g ∈ pre → g.sq = f.sq → (f.fence = true ∨ (g.fence = true ∧ g.running = false)) →
    (∀ h ∈ pre, h.seq ≠ f.seq) → (∀ h ∈ post, h.seq ≠ f.seq) →
    ∀ d, nextDispatch [] s.hif.inflight = some d → d.seq ≠ f.seq

/-- R86 to R88: the system class. SYS_NOP completes OK; SYS_JOURNAL_INFO returns head and tail; SYS_READY_SNAPSHOT returns GEN_READY and
GTC; SYS_JOURNAL_READ returns the entries from START or the head on, with DETAIL 1 where START is below the head; SYS_REPLACE_ACK clears
causes 6 and 7 only and returns what is left, INVALID on any other bit. R448, R449: SYS_RESET_REQUEST
completes, and its source asserts at the end of foreground C; SYS_RESET_MAP changes the level of a source once, among the levels that R442 allows; a
second change is CONFLICT. -/
def Obligations.SystemClass : Prop :=
  (∀ (s : State) (f : Flight),
      (Front 0x0F00 f s → exec .sysNop s = .next (complete f .ok 0 [] none s)) ∧
      (Front 0x0F02 f s → exec .sysJournalInfo s =
        .next (complete f .ok 0 (leBytes 8 (max 1 (s.jnl.tail - 8192)) ++ leBytes 6 s.jnl.tail) none s)) ∧
      (Front 0x0F04 f s → exec .sysReadySnapshot s =
        .next (complete f .ok 0 (leBytes 4 s.gen.ready.toNat ++ leBytes 6 s.gen.gtc.toNat) none s)) ∧
      (Front 0x0F03 f s → (∀ i < 32, i ≠ 6 → i ≠ 7 → (f.p 16 4).testBit i = false) →
        exec .sysReplaceAck s = .next (complete f .ok 0
          (leBytes 4 (s.gen.replace &&& ~~~(BitVec.ofNat 9 (f.p 16 4))).toNat) none
          { s with gen := { s.gen with replace := s.gen.replace &&& ~~~(BitVec.ofNat 9 (f.p 16 4)) } })) ∧
      (Front 0x0F03 f s → (∃ i < 32, i ≠ 6 ∧ i ≠ 7 ∧ (f.p 16 4).testBit i = true) →
        exec .sysReplaceAck s = .next (completeSt f .invalid s)) ∧
      (Front 0x0F01 f s → 1 ≤ f.p 24 2 → f.p 24 2 ≤ 256 → f.bufLen = 32 * f.p 24 2 →
        ∀ es, es = (s.jnl.entries.reverse.filter fun e => decide (max (f.p 16 8) s.jnl.head ≤ e.seq)).take (f.p 24 2) →
        exec .sysJournalRead s = .next (complete f .ok (if f.p 16 8 < s.jnl.head then 1 else 0)
          (leBytes 8 (match es with | e :: _ => e.seq | [] => s.jnl.tail) ++ leBytes 2 es.length)
          (if es.isEmpty then none else some (es.flatMap JEntry.bytes)) s)) ∧
      (Front 0x0F01 f s → (f.p 24 2 = 0 ∨ 256 < f.p 24 2 ∨ f.bufLen ≠ 32 * f.p 24 2) →
        exec .sysJournalRead s = .next (completeSt f .invalid s))) ∧
  (∀ (s : State) (f : Flight),
      (Front 0x0F10 f s → (((f.p 16 1 = 1 ∨ f.p 16 1 = 2) ∧ f.p 17 1 = 0) ∨
          (f.p 16 1 = 3 ∧ f.p 17 1 ∈ [0x05, 0x06, 0x07, 0x08, 0x09, 0x0A, 0x0B, 0x0D])) → f.p 18 2 ≤ 10000 →
        exec .sysResetRequest s = .next (complete f .ok 0 (leBytes 1 (f.p 16 1) ++ leBytes 1 (f.p 17 1)) none
          { s with rst := { s.rst with hostReq := s.rst.hostReq ++ [(f.p 16 1, f.p 17 1, f.p 18 2)] } })) ∧
      (Front 0x0F10 f s → (f.p 16 1 = 0 ∨ 3 < f.p 16 1 ∨ 10000 < f.p 18 2 ∨ ((f.p 16 1 = 1 ∨ f.p 16 1 = 2) ∧ f.p 17 1 ≠ 0) ∨
          (f.p 16 1 = 3 ∧ f.p 17 1 ∉ [0x05, 0x06, 0x07, 0x08, 0x09, 0x0A, 0x0B, 0x0D])) →
        exec .sysResetRequest s = .next (completeSt f .invalid s)) ∧
      (∀ level cls ms, s.rst.hostReq = [(level, cls, ms)] →
        raiseRequests s = raiseLow .host level cls ms false { s with rst := { s.rst with hostReq := [] } }) ∧
      (∀ src level, Front 0x0F11 f s → f.p 16 1 = src → f.p 17 1 = level →
        ((src = 4 ∧ level ≤ 1) ∨ ((src = 10 ∨ src = 12) ∧ (level = 1 ∨ level = 3))) →
        (s.fuse.rstChg.getLsbD src = false →
          ∃ t, exec .sysResetMap s = .next t ∧ t.fuse.rstMap.toList[src]? = some level ∧ t.fuse.rstChg.getLsbD src = true ∧
            ∀ i < 16, i ≠ src → t.fuse.rstMap.toList[i]? = s.fuse.rstMap.toList[i]? ∧
              t.fuse.rstChg.getLsbD i = s.fuse.rstChg.getLsbD i) ∧
        (s.fuse.rstChg.getLsbD src = true → exec .sysResetMap s = .next (completeSt f .conflict s)))) ∧
  (∀ (s : State) (f : Flight), Front 0x0F11 f s →
      ¬((f.p 16 1 = 4 ∧ f.p 17 1 ≤ 1) ∨ ((f.p 16 1 = 10 ∨ f.p 16 1 = 12) ∧ (f.p 17 1 = 1 ∨ f.p 17 1 = 3))) →
      exec .sysResetMap s = .next (completeSt f .invalid s))

/-! ### Registers, the tick, resets and supplies -/

/-- R14 to R16: a host write reaches the register that its offset names. A read-only register ignores it, a W1C field clears the bits
written 1, an RW field takes the value. With the link down nothing is reached. The model's choice (log 31): a write to an offset
that no register table names stops, for the manual gives it no effect. -/
def Obligations.RegisterWrites : Prop :=
  (∀ (s : State) (b : Bar) (off : W16) (v : W32),
      (∀ r, LinkUp s → regAt b off = some r → exec (.registerWrite b off v) s = .next (writeReg r v s)) ∧
      (s.isReady 16 = false → exec (.registerWrite b off v) s = .next s) ∧
      (∀ r ∈ [Reg.genId, .genRev, .genReady, .genReplace, .genGtcLo, .genGtcHi, .genOverrunGtc, .genTickHwm, .hifStatus, .rstLast,
          .rstMap, .rstFuseChg, .rstStatus, .pwrStatus, .pwrVbat, .memStatus, .memCeCount, .keyStatus, .keyPuf, .safStatus, .safEstop,
          .safCheck, .safEdition, .safPendEdition, .jnlOpen, .jnlSelStatus], writeReg r v s = s) ∧
      (LinkUp s → exec (.registerWrite .bar0 0x0048 v) s =
        .next { s with gen := { s.gen with replMask := v.extractLsb' 0 9 } }) ∧
      (LinkUp s → exec (.registerWrite .bar0 0x2000 v) s =
        .next { s with rst := { s.rst with cause := s.rst.cause &&& ~~~(v.extractLsb' 0 16) } }) ∧
      (LinkUp s → exec (.registerWrite .bar0 0x3008 v) s =
        .next { s with rst := { s.rst with pfailEn := v.getLsbD 0, pfailPol := v.getLsbD 1 } })) ∧
  (∀ (s : State) (b : Bar) (off : W16) (v : W32), LinkUp s → regAt b off = none →
      exec (.registerWrite b off v) s = .fault (.unmappedRegister off))

/-- R48, R49, R53: a tick edge ends the tick before it, moves GTC on by one and runs the entry window and foreground A; the later
windows follow in the order of the table, and a window that the tick has come to is not run again. R232: the first mismatch of the
lockstep pair discards the tick's windows but not the engines, and they run again in the next tick, on the inputs that the discarded
tick had; a second one in a row raises LOCKSTEP. R58, R59: in a telemetry tick the snapshot takes the values that stood at the end of foreground B. R61, R63: an overrun of
an MSD window sets its bit of GEN_OVERRUN and resets the part at level 0; an overrun of a function sets APD_COD and resets that
function. COUNT rises by one and saturates. Readings of the model in it: logs 32, 33, 49, 157. -/
def Obligations.TickAndItsChecks : Prop :=
  (∀ (s : State) (i : TickIn), Ticking s → s.gen.win = .done → i.mismatch = false →
      (tickCount i s).gen.gtc = s.gen.gtc + 1 ∧
      (s.rst.mismatchRun = 0 → exec (.tickEdge i) s = .next (enterSafety i (edgeWork (retryEntries (takeHurts i (tickCount i s)))))) ∧
      (s.rst.mismatchRun ≠ 0 → ∃ r : State, r.rst.mismatchRun = 0 ∧ r.gen.replace.getLsbD 5 = true ∧ r.gen.lost = s.gen.lost ∧
        r.gen.gtc = s.gen.gtc + 1 ∧ exec (.tickEdge i) s = .next (enterSafety i (edgeWork (rerunTick r))))) ∧
  (∀ s : State, Ticking s → (s.gen.win = .safety → reach .metering s = enterMetering s) ∧
      (s.gen.win = .metering → reach .host s = enterHost s) ∧ (s.gen.win = .host → reach .back s = enterBack s) ∧
      (s.gen.win = .back → reach .done s = finishTick s) ∧ (∀ w, Reached w s → reach w s = s) ∧
      (∀ m, s.gen.win = .safety → m = enterMetering s → reach .host s = if m.rst.msdUp then enterHost m else m) ∧
      (∀ i c, s.gen.tin = some i → c = foregroundC (setWin .back s) → enterBack s =
        if i.fgEnd < 4200 then background { c with gen := { c.gen with fgEnd := higher c.gen.fgEnd i.fgEnd } } else overrun .fgHost c) ∧
      (∀ i, s.gen.tin = some i → finishTick s =
        if i.bgEnd < 6000 then engines i { s with gen := { s.gen with win := .done, tin := none, bgEnd := higher s.gen.bgEnd i.bgEnd } }
        else overrun .bg s)) ∧
  (∀ (s : State) (i : TickIn), Ticking s → s.gen.win = .done → i.mismatch = true →
      (retryEntries (takeHurts i (tickCount i s))).rst.mismatchRun = s.rst.mismatchRun ∧
      (s.rst.mismatchRun = 0 → exec (.tickEdge i) s = .next (lostTick i (retryEntries (takeHurts i (tickCount i s))))) ∧
      (s.rst.mismatchRun ≠ 0 → exec (.tickEdge i) s = .next (raise .lockstep
        (levelOf .lockstep (retryEntries (takeHurts i (tickCount i s)))) 0 (retryEntries (takeHurts i (tickCount i s)))))) ∧
  (∀ s : State, Ticking s → Reached .back s → s.now % 64000 = 0 →
      exec .telemetrySnapshot s = .next { s with gen := { s.gen with tele := some (s.now, s.gen.teleSrc) } }) ∧
  (∀ (s : State) (w : Overrun), Ticking s → s.rst.held0 = false →
      (match w with | .fgMeter => Reached .metering s | .fgHost => Reached .host s | .bg => Reached .back s | _ => True) →
      (∀ c, w = .fn c → levelOf .ovrFn s ≠ 0) →
      ∃ t, exec (.tickOverrun w) s = .next t ∧
        t.gen.ovr = s.gen.ovr ||| BitVec.ofNat 5 (2 ^ overrunBit w) ∧
        t.gen.ovrCount = (if s.gen.ovr = 0 then 1 else if s.gen.ovrCount = 255 then 255 else s.gen.ovrCount + 1) ∧
        t.gen.ovrGtc = (if s.gen.ovr = 0 then s.gen.gtc.extractLsb' 0 32 else s.gen.ovrGtc) ∧
        (match w with
         | .fn _ => t.rst.cause.getLsbD 10 = true ∧ t.rst.held0 = false ∧ t.gen.gtc = s.gen.gtc
         | _ => t.rst.cause.getLsbD 9 = true ∧ t.rst.held0 = true ∧ t.gen.gtc = 0))

/-- R45, R443: 0.5 ms after the level-0 hold the tick with GTC 0 begins, with its inputs, where both PLLs have locked; where one has
not, CLOCK asserts and holds level 0 again. R125: a brown-out after the power-fail warning commits the energy of its tick first. R435,
R442, R443: a brown-out holds the part at level 0 until power-good, sets its cause and clears GTC; the clock goes on on a cell that
carries it and is cleared without one. Power-good ends the wait and the hold runs on. R84, R444, R473: the release after a level-0
hold starts MSD, with APD and COD where no hold of a lower level reaches them: every open journal entry is closed and entries never whole are gone; the pending RESET event of the hold is used up.
After that, RESET_RELEASE lets go of the domains whose holds have ended. R24, R27: a function whose domains are out of reset becomes
ready: its GEN_READY bit sets and no other bit changes. Readings of the model in it: logs 34, 36, 118, 192. -/
def Obligations.PowerUpAndRelease : Prop :=
  (∀ (s : State) (a b : Bool) (i : TickIn), s.rst.held0 = true → s.rst.waitGood = false →
      ((a && b) = true → exec (.gtcStart (a, b) i) s = .next { s with
        rst := { s.rst with held0 := false }, gen := { s.gen with gtc := 0, win := .entry, tin := some i, ovrNow := false } }) ∧
      ((a && b) = false → ∃ t, exec (.gtcStart (a, b) i) s = .next t ∧ t.rst.held0 = true ∧ t.rst.cause.getLsbD 5 = true ∧
        t.rst.lastSrc = .clock ∧ t.gen.gtc = 0)) ∧
  (∀ s : State,
      (∀ b deep cell, s.rst.held0 = false →
        ∃ t, exec (.brownOut b deep cell []) s = .next t ∧ t.nrg.fine = (lastEnergy s).nrg.fine ∧ t.nrg.feeder = (lastEnergy s).nrg.feeder) ∧
      (∀ b deep cell, s.rst.held0 = false → s.rst.pfw = false →
        ∃ t, exec (.brownOut b deep cell []) s = .next t ∧ t.rst.held0 = true ∧ t.rst.waitGood = true ∧
          t.rst.cause.getLsbD (Brown.source b).num = true ∧ t.gen.gtc = 0 ∧
          (cell = true → t.clk.sec = s.clk.sec) ∧ (cell = false → t.clk.sec = 0 ∧ t.clk.unsynced = true)) ∧
      (s.rst.held0 = true → s.rst.waitGood = true →
        ∃ t, exec .powerGood s = .next t ∧ t.rst.waitGood = false ∧ t.rst.held0 = true ∧ t.rst.porArmed = false ∧
          (s.rst.porArmed = true → t.rst.cause.getLsbD 0 = true))) ∧
  (∀ (s : State) (i : StartIn), s.rst.held0 = false →
      (s.rst.msdUp = false → ∃ t, t = startMsd i s ∧ t.rst.msdUp = true ∧ t.rst.event0 = none ∧
        t.rst.apdUp = !(liveHolds s).any Hold.reachesApd ∧ t.rst.codUp = !(liveHolds s).any Hold.reachesCod ∧
        (∀ e ∈ t.jnl.entries, e.done.isSome = true ∧ e.whole = true) ∧ t.jnl.tail = s.jnl.tail ∧ t.gen.gtc = s.gen.gtc ∧
        (∀ j, t.gen.win = .entry → t.gen.tin = some j → exec (.resetRelease i) s = .next (enterSafety j (edgeWork t))) ∧
        (t.gen.win ≠ .entry → exec (.resetRelease i) s = .next t)) ∧
      (s.rst.msdUp = true → ∃ t, exec (.resetRelease i) s = .next t ∧
        t.rst.holds = s.rst.holds.filter (fun h => h.asserted || decide (s.now < h.untilTick)) ∧
        (t.rst.holds = [] → t.rst.apdUp = true ∧ t.rst.codUp = true ∧ t.rst.fnHeld = []))) ∧
  (∀ (s : State) (b : Fin 19), s.isReady b.val = false → mayReady b s = true →
      ∃ t, exec (.functionReady b) s = .next t ∧ t.gen.ready = s.gen.ready ||| BitVec.ofNat 19 (2 ^ b.val))

/-- R19, R442, R443: the sources that are fixed at level 0, and RST_N as shipped, hold the part in reset: GTC at 0, no function ready
but BTD, no ring enabled, nothing in flight. The journal, the replacement causes, the reset map and the seal stay, RST_CAUSE and
RST_LAST name the source, and COUNT0 rises by one, saturating; holds of lower levels run on. R441 to R444: WDT_APD resets APD and COD at level 1: the functions
that need either stop being ready, the others and GTC stay. Readings of the model in it: logs 1, 2, 36, 192. -/
def Obligations.ResetsInOperation : Prop :=
  (∀ (s : State) (c : Instr) (src : Source), s.rst.held0 = false → Ticking s →
      ((c, src) ∈ [(Instr.pllLockLoss true, Source.clock), (.pllLockLoss false, .clock), (.wdtMsdExpiry, .wdtMsd),
          (.criticalStateMismatch .config, .critical), (.criticalStateMismatch .coilLatch, .critical),
          (.criticalStateMismatch .keyAttr, .critical)] ∨ (c = .rstPin ∧ src = .pin ∧ levelOf .pin s = 0)) →
      ∃ t, exec c s = .next t ∧ t.rst.held0 = true ∧ t.rst.msdUp = false ∧ t.gen.gtc = 0 ∧ t.gen.ready = 1 ∧
        t.hif = { linkOk := s.hif.linkOk } ∧ t.jnl.entries = s.jnl.entries ∧ t.jnl.tail = s.jnl.tail ∧
        t.gen.replace = s.gen.replace ∧ t.fuse = s.fuse ∧ t.adc.sealed = s.adc.sealed ∧ t.clk.sec = s.clk.sec ∧
        t.rst.cause = s.rst.cause ||| BitVec.ofNat 16 (2 ^ src.num) ∧ t.rst.lastSrc = src ∧ t.rst.lastLevel = 0 ∧
        t.rst.count0.toNat = min 65535 (s.rst.count0.toNat + 1) ∧
        t.rst.holds = s.rst.holds.map (fun h => { h with untilTick := h.untilTick - (s.now + 39) }) ∧ t.mem.mram = s.mem.mram ∧ t.pending = s.pending) ∧
  (∀ s : State, s.rst.held0 = false → s.rst.apdUp = true → levelOf .wdtApd s = 1 → s.rst.holds = [] →
      ∃ t, exec .wdtApdExpiry s = .next t ∧ t.rst.apdUp = false ∧ t.rst.codUp = false ∧ t.rst.msdUp = s.rst.msdUp ∧
        t.rst.cause.getLsbD 7 = true ∧ t.rst.lastLevel = 1 ∧ t.gen.gtc = s.gen.gtc ∧ t.mem.app = [] ∧
        ∀ b < 19, t.isReady b = (s.isReady b && !(apdCodBits.any fun a => a.val == b)))

/-- R437: the power-fail warning is in force while a condition holds; its end leaves PFAIL_IN only where the pin is not a condition.
R436, R440: a measurement of VBAT is taken every 60 s; 2.6 V and 2.0 V are the limits of VBAT_LOW and VBAT_ABSENT, and PWR_SUPPLY is
posted where one of them changes. A rail that leaves or enters its range posts it too. Readings of the model in it: logs 120, 121. -/
def Obligations.SupplyMonitors : Prop :=
  (∀ s : State, Ticking s → Reached .metering s →
      (∀ i : PfIn, s.rst.pfw = false → (i.vsysLow = true ∨ (s.rst.pfailEn = true ∧ i.pfailLevel = s.rst.pfailPol)) →
        ∃ t, exec (.powerFailWarning i) s = .next t ∧ t.rst.pfw = true ∧ t.rst.pfailIn = (i.pfailLevel == s.rst.pfailPol) ∧
          t.gen.gtc = s.gen.gtc) ∧
      (s.rst.pfw = true → ∃ t, exec .powerFailClear s = .next t ∧ t.rst.pfw = false ∧ t.clk.clearDue = some s.now)) ∧
  (∀ s : State, s.isReady 15 = true → s.hif.linkOk = true →
      (∀ mv t0, s.rst.vbatTick = some t0 → t0 + 3840000 ≤ s.now →
        ∃ t, exec (.vbatMeasurement mv) s = .next t ∧ t.rst = { s.rst with
            vbatMv := BitVec.ofNat 12 (min 4095 mv), vbatLow := decide (mv < 2600), vbatAbsent := decide (mv < 2000),
            vbatTick := some s.now } ∧
          t.hif.evNext = s.hif.evNext +
            (if s.rst.vbatLow ≠ decide (mv < 2600) ∨ s.rst.vbatAbsent ≠ decide (mv < 2000) then 1 else 0) ∧
          t = { s with rst := t.rst, hif := t.hif, outbox := t.outbox }) ∧
      (∀ p n, s.rst.vbatTick.isSome = true → (s.rst.vp12 ≠ p ∨ s.rst.vn12 ≠ n) →
        exec (.railRangeChange p n) s = .next (postPwr { s with rst := { s.rst with
          vp12In := p, vn12In := n, vp12 := p, vn12 := n } })))

/-- What reset leaves where the manual states it (R27, R34, R45, R68, R85, R449): part held at level 0, BTD alone ready, rings of 16
entries disabled, the journal empty with SEQ 1 next, the reset map as shipped. Readings of the model in it: logs 1 to 3. -/
def Obligations.ResetValues : Prop :=
  State.reset.rst.held0 = true ∧ State.reset.gen.gtc = 0 ∧ State.reset.gen.ready = 1 ∧ State.reset.gen.replace = 0 ∧
  State.reset.gen.replMask = 0x1FF ∧ State.reset.hif.run = false ∧ State.reset.hif.evNext = 1 ∧
  (∀ n : Fin 16, (State.reset.hif.sq[n.val]).en = false ∧ (State.reset.hif.sq[n.val]).sizeLog2 = 4 ∧
    (State.reset.hif.cq[n.val]).phase = true ∧ (State.reset.hif.cq[n.val]).coalTicks = 1) ∧
  State.reset.jnl.entries = [] ∧ State.reset.jnl.tail = 1 ∧ State.reset.pending = [] ∧
  State.reset.fuse.rstMap.toList = [0, 0, 0, 0, 0, 0, 0, 1, 0, 0, 3, 0, 3, 1, 1, 3] ∧ State.reset.rst.outCfg = 1

/-! ### Sensing and energy -/

/-- R93, R95: while the metering configuration is sealed, writes to it are ignored and set CFG_REJECT; nothing else changes. R93 to R95,
R119, R127: with the seal open and the owner of the slot at rest, an allowed write is taken for the next tick edge; a pulse output
is set at once, and its part-pulse starts anew where CONST or SRC changes. Write 1 to MTR_SEAL sets the seal. A write that
is not allowed, out of range, to an owner not at rest, that would put a delay outside ±2 samples, or that moves CONST or SRC with spills
pending, is ignored and sets CFG_REJECT. Readings of the model
in it: log 18. -/
def Obligations.MeteringConfiguration : Prop :=
  (∀ (s : State) (k : Fin 72) (n : Outlet8) (v : W32), LinkUp s → s.adc.sealed = true →
      exec (.mtrChcfgWrite k v) s = .next { s with adc := { s.adc with cfgReject := true } } ∧
      exec (.mtrGcfgWrite v) s = .next { s with adc := { s.adc with cfgReject := true } } ∧
      exec (.mtrPhmapWrite n v) s = .next { s with adc := { s.adc with cfgReject := true } } ∧
      exec (.mtrPulseWrite n v) s = .next { s with adc := { s.adc with cfgReject := true } }) ∧
  (∀ (s : State) (v : W32), LinkUp s →
      exec .mtrSealSet s = .next { s with adc := { s.adc with sealed := true } } ∧
      (s.adc.sealed = false →
        (∀ k : Fin 72, ownerAtRest k s = true → typeAllowed s k (v.toNat % 8) = true →
          exec (.mtrChcfgWrite k v) s = .next { s with adc := { s.adc with
            pendCfg := s.adc.pendCfg ++ [(k, { type := v.toNat % 8, inv := v.getLsbD 3 })] } }) ∧
        (allAtRest s = true → exec (.mtrGcfgWrite v) s = .next { s with adc := { s.adc with pendNomF := some (v.getLsbD 0) } }) ∧
        (∀ (n : Outlet8) (m : PhMap), (s.ses.out[n.val]).atRest = true → parsePerm v.toNat 0 = some m.vsel →
          parsePerm v.toNat 8 = some m.site →
          (∀ p : Fin 3, delaysOk { s with nrg := { s.nrg with phmap := s.nrg.phmap.set n.val m } } ⟨8 * n.val + p.val, by omega⟩
            (storedCorr s ⟨8 * n.val + p.val, by omega⟩) = true) →
          exec (.mtrPhmapWrite n v) s = .next { s with nrg := { s.nrg with pendMap := s.nrg.pendMap ++ [(n, m)] } }) ∧
        (∀ n : Outlet8, (s.ses.out[n.val]).atRest = true → ((s.nrg.pulse[n.val]).pending = 0 ∨
            (v.toNat % 2 ^ 17 = (s.nrg.pulse[n.val]).const ∧ bitsOf v.toNat 17 2 = (s.nrg.pulse[n.val]).src)) →
          100 ≤ v.toNat % 2 ^ 17 → 1000000 % (v.toNat % 2 ^ 17) = 0 → v.toNat % 2 ^ 17 ≤ 100000 →
          bitsOf v.toNat 17 2 ≠ 3 → 1 ≤ bitsOf v.toNat 20 8 → bitsOf v.toNat 20 8 ≤ 160 →
          ∃ t, exec (.mtrPulseWrite n v) s = .next t ∧ (t.nrg.pulse[n.val]).const = v.toNat % 2 ^ 17 ∧
            (t.nrg.pulse[n.val]).src = bitsOf v.toNat 17 2 ∧ (t.nrg.pulse[n.val]).width = bitsOf v.toNat 20 8 ∧
            (t.nrg.pulse[n.val]).en = v.getLsbD 28 ∧ (t.nrg.pulse[n.val]).pol = v.getLsbD 19 ∧
            (t.nrg.pulse[n.val]).pending = (s.nrg.pulse[n.val]).pending ∧ (t.nrg.pulse[n.val]).emitted = (s.nrg.pulse[n.val]).emitted ∧
            (t.nrg.pulse[n.val]).part = (if v.toNat % 2 ^ 17 = (s.nrg.pulse[n.val]).const ∧ bitsOf v.toNat 17 2 = (s.nrg.pulse[n.val]).src
              then (s.nrg.pulse[n.val]).part else 0) ∧
            t = { s with nrg := { s.nrg with pulse := s.nrg.pulse.set n.val t.nrg.pulse[n.val] } }))) ∧
  (∀ (s : State) (k : Fin 72) (n : Outlet8) (v : W32) (r : State), LinkUp s → r = { s with adc := { s.adc with cfgReject := true } } →
      ((ownerAtRest k s = false ∨ typeAllowed s k (v.toNat % 8) = false) → exec (.mtrChcfgWrite k v) s = .next r) ∧
      (allAtRest s = false → exec (.mtrGcfgWrite v) s = .next r) ∧
      (((s.ses.out[n.val]).atRest = false ∨ parsePerm v.toNat 0 = none ∨ parsePerm v.toNat 8 = none) →
        exec (.mtrPhmapWrite n v) s = .next r) ∧
      (∀ (m : PhMap) (p : Fin 3), parsePerm v.toNat 0 = some m.vsel → parsePerm v.toNat 8 = some m.site →
        delaysOk { s with nrg := { s.nrg with phmap := s.nrg.phmap.set n.val m } } ⟨8 * n.val + p.val, by omega⟩
          (storedCorr s ⟨8 * n.val + p.val, by omega⟩) = false →
        exec (.mtrPhmapWrite n v) s = .next r) ∧
      (((s.ses.out[n.val]).atRest = false ∨ v.toNat % 2 ^ 17 < 100 ∨ 100000 < v.toNat % 2 ^ 17 ∨ 1000000 % (v.toNat % 2 ^ 17) ≠ 0 ∨
          bitsOf v.toNat 17 2 = 3 ∨ bitsOf v.toNat 20 8 = 0 ∨ 160 < bitsOf v.toNat 20 8 ∨
          (0 < (s.nrg.pulse[n.val]).pending ∧ (v.toNat % 2 ^ 17 ≠ (s.nrg.pulse[n.val]).const ∨ bitsOf v.toNat 17 2 ≠ (s.nrg.pulse[n.val]).src))) →
        exec (.mtrPulseWrite n v) s = .next r))

/-- R94, R105, R126: time in the sensing chain. Settling ends 256 ticks after it began; an overload clamps a slot's samples in the six
ticks after the one that detects it; a pulse ends 16 × WIDTH ticks after its leading edge. R106 to R108: a calibration step moves the gain by at most 2 ppm and
takes up the second that ended; the gain is saved every 60 s; the first MTR_TMP is the mean of 64 ticks. Readings of the model in
it: log 47. -/
def Obligations.SensingAndBenchmark : Prop :=
  (∀ s : State,
      (∀ (g : Group) (t0 : Nat), s.adc.settleEnd[g.val] = some t0 → t0 ≤ s.now →
        exec (.settlingEnd g) s = .next { s with adc := { s.adc with settleEnd := s.adc.settleEnd.set g.val none } }) ∧
      (∀ (k : Fin 72) (neg : Bool), Ticking s → effType s k ≠ 0 →
        exec (.mtrOverload k neg) s = .next { s with adc := { s.adc with
          dec := s.adc.dec.set k.val { s.adc.dec[k.val] with holdNext := some neg } } }) ∧
      (∀ gain f60 type inv (k : Fin 72) (d : SlotDec) mods (r : SlotDec × Bool × Int), type ≠ 0 →
        r = slotTick gain f60 type inv k d mods →
        (∀ neg, d.holdNext = some neg → r.1.holdTicks = 6 ∧ r.1.holdNeg = neg ∧ r.1.holdNext = none) ∧
        (d.holdNext = none → r.1.holdTicks = d.holdTicks - 1) ∧ (0 < d.holdTicks → r.1.clamped = true ∧ r.2.1 = true)) ∧
      (∀ (n : Outlet8) (p : Pulse), p = s.nrg.pulse[n.val] → p.active = true →
        (s.nrg.pulse[n.val]).leadTick + 16 * (s.nrg.pulse[n.val]).width ≤ s.now →
        exec (.pulseEnd n) s = .next { s with nrg := { s.nrg with
          pulse := s.nrg.pulse.set n.val { p with active := false, idleTick := some (p.leadTick + 16 * p.width) } } })) ∧
  (∀ s : State,
      (∀ sums, Reached .back s → s.adc.second = some sums → s.now % 64000 ≠ 0 → 0x30 ≤ s.now % 64 → s.now % 64 ≤ 0x37 →
        ∃ t g, exec .benchmarkCalibration s = .next t ∧ t.adc.second = none ∧ t.adc.gainNext = some g ∧
          g - s.adc.gain ≤ 2 / 1000000 ∧ s.adc.gain - g ≤ 2 / 1000000 ∧ t.adc.gain = s.adc.gain) ∧
      (Ticking s → s.adc.gainSaveTick + 3840000 ≤ s.now →
        exec .benchGainSave s = .next { s with adc := { s.adc with gainSaved := s.adc.gain, gainSaveTick := s.now } }) ∧
      (∀ sum : Int, s.adc.tmpFirst = some (sum, 64) →
        exec .mtrTmpFirstWrite s = .next { s with adc := { s.adc with tmp := tempOf ((sum : Rat) / 64), tmpFirst := none } }))

/-- R111, R112: a raw capture with its fields in range runs from the later of its START and the next tick; a second one is BUSY, one out of range INVALID;
MTR_RAW_ABORT ends it and completes OK; it completes in the tick after its last sample. R113: MTR_UNSEAL takes slots 2 and 3 and 80
bytes; with the seal open or its COUNT at the end it is CONFLICT, with another message INTEGRITY; else the signature is verified as
a long operation. Readings of the model in it: log 71. -/
def Obligations.RawCaptureAndUnseal : Prop :=
  (∀ (s : State) (f : Flight),
      (∀ slots c, Front 0x0110 f s → slots = maskSlots (f.p 24 9) → slots ≠ [] → 1 ≤ f.p 34 2 → f.p 34 2 ≤ 4096 → f.p 33 1 ≤ 2 →
        f.p 16 6 ≤ s.now + 64000 → f.bufLen = 4 * f.p 34 2 * slots.length →
        c = ({ seq := f.seq, first := max (f.p 16 6) (s.now + 1), slots := slots, tap := f.p 33 1, count := f.p 34 2,
               early := decide (f.p 16 6 ≠ 0 ∧ f.p 16 6 < s.now + 1) } : Capture) →
        (s.adc.capture = none →
          exec .mtrRawCapture s = .next (keepRunning f { s with adc := { s.adc with capture := some c } })) ∧
        (s.adc.capture ≠ none → exec .mtrRawCapture s = .next (completeSt f .busy s))) ∧
      (Front 0x0111 f s → s.adc.capture = none → exec .mtrRawAbort s = .next (completeSt f .conflict s)) ∧
      (∀ c, Front 0x0111 f s → s.adc.capture = some c →
        exec .mtrRawAbort s = .next (completeSt f .ok
          { s with adc := { s.adc with capture := some { c with aborted := true, abortTick := s.now } } })) ∧
      (∀ c, Reached .host s → s.adc.capture = some c → c.aborted = false → c.count ≤ c.done → c.first + c.count ≤ s.now →
        flight? c.seq s = some f →
        exec .rawCaptureDone s = .next (complete f .ok (b2n c.early + 2 * b2n c.cfgChange)
          (leBytes 6 c.first ++ leBytes 2 c.done ++ leBytes 1 (b2n c.clamped))
          (some (c.words.reverse.flatMap fun w => leBytes 4 w.toNat)) { s with adc := { s.adc with capture := none } }))) ∧
  (∀ (s : State) (f : Flight), Front 0x0112 f s →
      ((f.p 16 1 ≠ 2 ∧ f.p 16 1 ≠ 3) ∨ f.bufLen ≠ 80 → exec .mtrUnseal s = .next (completeSt f .invalid s)) ∧
      ((f.p 16 1 = 2 ∨ f.p 16 1 = 3) → f.bufLen = 80 →
        ((s.adc.sealed = false ∨ s.adc.sealCount = 0xFFFF) → exec .mtrUnseal s = .next (completeSt f .conflict s)) ∧
        (s.adc.sealed = true → s.adc.sealCount ≠ 0xFFFF →
          (f.inBuf.take 16 ≠ [0x55, 0x4E, 0x53, 0x4C] ++ beBytes 8 s.fuse.serial.toNat ++ beBytes 4 s.adc.sealCount.toNat →
            exec .mtrUnseal s = .next (completeSt f .integrity s)) ∧
          (f.inBuf.take 16 = [0x55, 0x4E, 0x53, 0x4C] ++ beBytes 8 s.fuse.serial.toNat ++ beBytes 4 s.adc.sealCount.toNat →
            slotCheck (Fin.ofNat 32 (f.p 16 1)) 1 s = none → s.key.queue.length < 32 →
            exec .mtrUnseal s = .next (keepRunning f { s with key := { s.key with queue := s.key.queue ++
              [{ kind := .unseal, steps := 131, req := .unseal f.seq, tick := s.now, slots := [Fin.ofNat 32 (f.p 16 1)] }] } }))))) ∧
  (∀ (s : State) (f : Flight),
      (Front 0x0110 f s → (maskSlots (f.p 24 9) = [] ∨ f.p 34 2 = 0 ∨ 4096 < f.p 34 2 ∨ 2 < f.p 33 1 ∨ s.now + 64000 < f.p 16 6 ∨
          f.bufLen ≠ 4 * f.p 34 2 * (maskSlots (f.p 24 9)).length) → exec .mtrRawCapture s = .next (completeSt f .invalid s)) ∧
      (Front 0x0112 f s → (f.p 16 1 = 2 ∨ f.p 16 1 = 3) → f.bufLen = 80 → s.adc.sealed = true → s.adc.sealCount ≠ 0xFFFF →
        f.inBuf.take 16 = [0x55, 0x4E, 0x53, 0x4C] ++ beBytes 8 s.fuse.serial.toNat ++ beBytes 4 s.adc.sealCount.toNat →
        (∀ st, slotCheck (Fin.ofNat 32 (f.p 16 1)) 1 s = some st → exec .mtrUnseal s = .next (completeSt f st s)) ∧
        (slotCheck (Fin.ofNat 32 (f.p 16 1)) 1 s = none → 32 ≤ longCount s → exec .mtrUnseal s = .next (completeSt f .busy s))))

/-- R116: correction records are stored whole or not at all: a write that passes the checks completes with OK and takes every record,
one that does not stores nothing; while the seal is set no write passes. A read returns the 112 bytes last stored. R133, R134, R139:
the metering reads return their records. Before the first cycle a quantity read returns zeros. -/
def Obligations.CorrectionsAndReads : Prop :=
  (∀ (s : State) (f : Flight),
      (Front 0x0120 f s → f.bufLen % 112 = 0 → 1 ≤ f.bufLen / 112 → f.bufLen / 112 ≤ 70 →
        (∀ recs, recs = (List.range (f.bufLen / 112)).map (fun i => slice f.inBuf (112 * i) 112) →
          (corrCheck s recs = none → exec .mtrCorrWrite s = .next (complete f .ok 0 (leBytes 1 (f.bufLen / 112)) none
            { s with nrg := { s.nrg with pendCorr := s.nrg.pendCorr ++ recs.filterMap parseCorr } })) ∧
          (∀ i st, corrCheck s recs = some (i, st) → exec .mtrCorrWrite s = .next (complete f st i [] none s)) ∧
          (s.adc.sealed = true → recs ≠ [] → corrCheck s recs ≠ none))) ∧
      (∀ h : f.p 16 1 < 70, Front 0x0121 f s → f.bufLen = 112 →
        exec .mtrCorrRead s = .next (complete f .ok 0 [] (some (corrBytes (f.p 16 1) (storedCorr s ⟨f.p 16 1, h⟩))) s)) ∧
      (Front 0x0121 f s → (70 ≤ f.p 16 1 ∨ f.bufLen ≠ 112) → exec .mtrCorrRead s = .next (completeSt f .invalid s))) ∧
  (∀ (s : State) (f : Flight),
      (∀ q, Front 0x0122 f s → (s.nrg.cyc[(targetGroup f).val]).quant = some q →
        exec .mtrQuantRead s = .next (complete f .ok 0 (leBytes 6 q.gtcEnd) (some (quantBytes s (targetGroup f) q)) s)) ∧
      (Front 0x0122 f s → (s.nrg.cyc[(targetGroup f).val]).quant = none →
        exec .mtrQuantRead s = .next (complete f .ok 0 (leBytes 6 0) (some (List.replicate 128 0)) s)) ∧
      (Front 0x0123 f s → f.target = 0xFF → exec .mtrAccRead s = .next (complete f .ok 0 (leBytes 6 s.now)
        (some (accWhole s.nrg.feeder ++ accFrac s.nrg.feeder ++ List.replicate 22 0 ++ leBytes 6 s.now ++ leBytes 2 0)) s)) ∧
      (∀ n : Outlet8, Front 0x0123 f s → f.target.toNat = n.val → exec .mtrAccRead s = .next (complete f .ok 0 (leBytes 6 s.now)
        (some (accWhole (s.nrg.fine[n.val]).fa ++ accFrac (s.nrg.fine[n.val]).fa ++ accFrac (s.nrg.fine[n.val]).fr ++
          accWhole (s.nrg.fine[n.val]).fr ++ leBytes 8 (s.nrg.pulse[n.val]).emitted ++ leBytes 4 (s.nrg.pulse[n.val]).pending ++
          leBytes 6 s.now ++ leBytes 2 0)) s)) ∧
      (Front 0x0124 f s → 1 ≤ f.p 20 1 → f.p 20 1 ≤ 64 → f.bufLen = 32 * f.p 20 1 →
        ∃ data, exec .mtrWatchRead s = .next (complete f .ok 0 data (some
          (((sortNat WatchRec.recSeq (s.watch.copy.filter fun r => decide (f.p 16 4 ≤ r.recSeq))).take (f.p 20 1)).flatMap
            watchBytes)) s)) ∧
      (Front 0x0124 f s → (f.p 20 1 = 0 ∨ 64 < f.p 20 1 ∨ f.bufLen ≠ 32 * f.p 20 1) →
        exec .mtrWatchRead s = .next (completeSt f .invalid s))) ∧
  (∀ (s : State) (f : Flight), Front 0x0120 f s → (f.bufLen % 112 ≠ 0 ∨ f.bufLen / 112 = 0 ∨ 70 < f.bufLen / 112) →
      exec .mtrCorrWrite s = .next (completeSt f .invalid s))

/-- R130: at the end of a cycle its quantities are formed from the sums that wait, and stand with the tick. R136 to R138: the
current-only watch. It starts where it was armed and supply is gone, at once in tamper-only watch where HOURS is 0; each window moves
the RTC on by 200 ms; it ends after HOURS or with a low cell, in tamper-only watch. Readings of the model in it: logs 53, 55. -/
def Obligations.CyclesAndWatch : Prop :=
  (∀ (s : State) (g : Group), Reached .metering s → (s.nrg.cyc[g.val]).due.isSome = true →
      ∃ t, exec (.cycleEnd g) s = .next t ∧ (t.nrg.cyc[g.val]).due = none ∧ (t.nrg.cyc[g.val]).quant.isSome = true ∧
        (t.nrg.cyc[g.val]).quantTick = s.now ∧ t.gen.gtc = s.gen.gtc) ∧
  (∀ (s : State) (h : Nat) (outs : Byte) (phs : List (BitVec 3)), s.watch.armed = some (h, outs, phs) →
      (s.watch.starting = true → exec .watchStart s = .next { s with watch := { s.watch with
        starting := false, running := decide (h ≠ 0), tamperOnly := decide (h = 0), windows := 0, out := Vector.replicate 8 {},
        bits := Vector.replicate 24 quietBits } }) ∧
      (∀ mods, s.watch.running = true → ∃ t, exec (.watchWindowEnd mods) s = .next t ∧
        t.watch.windows = s.watch.windows + 1 ∧ t.clk.frac = min 63999 (s.clk.frac + (12800 - s.tam.since)) ∧
        t.watch.bits = watchMemory mods s ∧
        t = { s with watch := t.watch, clk := { s.clk with frac := t.clk.frac }, tam := { s.tam with since := 0 } }) ∧
      (s.watch.running = true → h * 18000 ≤ s.watch.windows →
        ∃ t, exec .watchHoursExpiry s = .next t ∧ t.watch.running = false ∧ t.watch.tamperOnly = true ∧
          (∀ n : Outlet8, (t.watch.out[n.val]).openRec = none) ∧ t = { s with watch := t.watch }) ∧
      (s.watch.running = true →
        ∃ t, exec .watchCellLow s = .next t ∧ t.watch.running = false ∧ t.watch.tamperOnly = true ∧
          (∀ n : Outlet8, (t.watch.out[n.val]).openRec = none) ∧ t = { s with watch := t.watch }))

/-! ### Billing, tariffs and time -/

/-- R158, R159, R162: a second edge moves the RTC on by one second, uses 1 ms of a slew, and marks the demand interval and the minute
that end with it; outside a retrograde record the interval ends on a multiple of its length. R158, R162: the correction of the RTC
follows the temperature (the curve is free) and the trim; a slew that is used up ends. Readings of the model in it: log 55. -/
def Obligations.SecondsOfTheClock : Prop :=
  (∀ s : State, s.rst.msdUp = true → s.clk.upDue = false →
      ∃ t, exec .rtcSecondEdge s = .next t ∧ t.clk.sec = s.clk.sec + 1 ∧ t.clk.frac = 0 ∧
        t.clk.slew = s.clk.slew.map (fun d => if 0 < d then d - 1 else if d < 0 then d + 1 else 0) ∧
        (t.clk.minuteDue = true ↔ s.clk.minuteDue = true ∨ (s.clk.sec + 1) % 60 = 0) ∧
        (t.clk.ivlDue = true ↔ s.clk.ivlDue = true ∨
          (s.clk.retro = false ∧ (s.clk.sec + 1) % ivlSeconds s.clk.ivlActive = 0 ∧ s.clk.lastClosed < s.clk.sec + 1)) ∧
        t = { s with clk := t.clk }) ∧
  (∀ s : State,
      (∀ temp, exec (.rtcTempCorrection temp) s = .next { s with clk := { s.clk with corr := Config.rtcCurve temp + s.clk.trim } }) ∧
      (Ticking s → Reached .metering s → s.clk.slew = some 0 →
        ∃ t, exec .slewDone s = .next t ∧ t.clk = { s.clk with slew := none } ∧ HostOnly { s with clk := t.clk } t))

/-- R153, R154, R160: at an interval boundary every outlet closes its open record under the next IRSEQ and opens the next one; the
boundary is the RTC's second. R150, R163: with no calendar waiting and no retrograde record, a minute edge sets the rate that the
active calendar gives at the RTC's time. A step puts the RTC at the time set and ends UNSYNCED; a retrograde record closes where the
RTC reaches the boundary again, and after a restart at 0 with boundary 0 it waits for a step. Readings of the model in it: logs 53,
182. -/
def Obligations.IntervalsAndDemand : Prop :=
  (∀ s : State, Reached .metering s → s.clk.ivlDue = true →
      ∃ t, exec .intervalBoundary s = .next t ∧ t.clk.ivlDue = false ∧ t.clk.lastClosed = s.clk.sec ∧
        ∀ n : Outlet8, (s.bill[n.val]).regs.part.isSome = true →
          (t.bill[n.val]).nextIr = (s.bill[n.val]).nextIr + 1 ∧
          ((t.bill[n.val]).recs.head?.map IRec.irseq) = some (s.bill[n.val]).nextIr ∧
          (t.bill[n.val]).regs.part.isSome = true) ∧
  (∀ s : State,
      (Reached .metering s → s.clk.minuteDue = true → s.clk.retro = false → s.clk.passive = none →
        ∃ t, exec .rtcMinuteEdge s = .next t ∧ t.clk.minuteDue = false ∧ t.clk.rate = rateAt s.clk.active s.clk.sec ∧
          t.clk.sec = s.clk.sec) ∧
      (∀ p, Reached .metering s → s.clk.stepPend = some p → p.tick < s.now →
        ∃ t, exec .clockStep s = .next t ∧ t.clk.stepPend = none ∧ t.clk.unsynced = false ∧
          t.clk.sec = ((s.clk.sec * 64000 + s.clk.frac : Nat) + p.delta * 64 : Int).toNat / 64000 ∧
          t.clk.frac = ((s.clk.sec * 64000 + s.clk.frac : Nat) + p.delta * 64 : Int).toNat % 64000) ∧
      (Ticking s → Reached .metering s → s.clk.retro = true → s.clk.lastClosed ≤ s.clk.sec →
        ((s.clk.restarted = false ∨ s.clk.lastClosed ≠ 0) →
          ∃ t, exec .retroClose s = .next t ∧ t.clk.retro = false ∧ t.clk.sec = s.clk.sec) ∧
        (s.clk.restarted = true → s.clk.lastClosed = 0 → exec .retroClose s = .next s)))

/-- R161, R162, R173: BIL_TIME_SET in mode 0 or 2 within STEP_LIMIT of a synchronised clock slews; in mode 1, or beyond it in mode 0, it
steps in a later tick; mode 2 is DENIED there. BIL_TIME_READ returns the time. R157, R169: BIL_CFG takes an interval code of 0 to 4,
for the next common boundary; another is ignored and sets CFG_REJECT. R170 to R173: the billing reads. A frozen outlet answers
FROZEN with its last good image, and no maximum of it is reset; with TARGET 0xFF every outlet that is not
frozen is reset. A parameter out of range or a buffer of another length is INVALID, a calendar that does not exist CONFLICT. Readings of the model in it: log 19. -/
def Obligations.ClockAndBillingCommands : Prop :=
  (∀ (s : State) (f : Flight) (delta : Int),
      delta = ((f.p 16 8 : Nat) - (s.clk.sec : Int)) * 1000 + (f.p 24 2 : Nat) - (s.rtcMs : Nat) → f.p 24 2 ≤ 999 →
      (Front 0x0206 f s → exec .bilTimeRead s = .next (complete f .ok 0
        (leBytes 8 s.clk.sec ++ leBytes 2 s.rtcMs ++ leBytes 4 (unsigned 32 (s.clk.slew.getD 0))) none s)) ∧
      (Front 0x0205 f s → (f.p 26 1 = 0 ∨ f.p 26 1 = 2) → s.clk.unsynced = false →
        -(s.clk.stepLimit * 1000 : Int) ≤ delta → delta ≤ s.clk.stepLimit * 1000 →
        ∃ t, exec .bilTimeSet s = .next t ∧ t.clk = { s.clk with slew := some delta, slewDelta := delta } ∧
          HostAndJournalOnly { s with clk := t.clk } t) ∧
      (Front 0x0205 f s → (f.p 26 1 = 1 ∨ (f.p 26 1 = 0 ∧ (s.clk.unsynced = true ∨ delta < -(s.clk.stepLimit * 1000 : Int) ∨
          s.clk.stepLimit * 1000 < delta))) →
        ∀ l, l = (match s.clk.stepPend with | some p => p.flights | none => []) → exec .bilTimeSet s = .next (keepRunning f { s with
          clk := { s.clk with slew := none, stepPend := some { delta := delta, tick := s.now, flights := l ++ [(f.seq, delta)] } } })) ∧
      (Front 0x0205 f s → f.p 26 1 = 2 → (s.clk.unsynced = true ∨ delta < -(s.clk.stepLimit * 1000 : Int) ∨
          s.clk.stepLimit * 1000 < delta) → exec .bilTimeSet s = .next (completeSt f .denied s)) ∧
      (Front 0x0205 f s → 2 < f.p 26 1 → exec .bilTimeSet s = .next (completeSt f .invalid s))) ∧
  (∀ (s : State) (v : W32), LinkUp s →
      (v.toNat % 8 < 5 → exec (.bilCfgWrite v) s = .next { s with clk := { s.clk with ivl := v.toNat % 8 } }) ∧
      (5 ≤ v.toNat % 8 → exec (.bilCfgWrite v) s = .next { s with clk := { s.clk with cfgReject := true } })) ∧
  (∀ (s : State) (f : Flight),
      (Front 0x0201 f s → f.bufLen = 448 → ∃ data, exec .bilRegRead s = .next (complete f
        (if (s.bill[f.outlet.val]).frozen then .frozen else .ok) 0 data (some (regBytes f.outlet s)) s)) ∧
      (Front 0x0202 f s → f.p 16 4 ≠ 0 → f.p 16 4 < 2 ^ 23 →
        f.bufLen = 8 * ((allFin 23).filter fun i => bitAt (f.p 16 4) i.val).length →
        ∃ data st u, exec .bilShortRead s = .next (complete f st 0 (leBytes 1 (f.bufLen / 8)) (some data) u) ∧
          ((s.bill[f.outlet.val]).frozen = true → st = .frozen ∧ u = s) ∧
          ((s.bill[f.outlet.val]).frozen = false → st = .ok ∧ ∀ i : Fin 23, bitAt (f.p 16 4) i.val = true →
            ((u.bill[f.outlet.val]).regs.wraps[i.val]) = 0)) ∧
      (Front 0x0203 f s → exec .bilIntervalRead s =
        .next (readLog f (s.bill[f.outlet.val]).recs IRec.irseq irecBytes 64 256 s)) ∧
      (Front 0x0204 f s → exec .bilPowerRead s = .next (readLog f s.clk.power PowerEntry.pseq powerBytes 32 64 s)) ∧
      (Front 0x0207 f s → f.bufLen = 768 → calendarOk f.inBuf = true → exec .bilCalendarWrite s = .next
        (complete f .ok 0 (slice f.inBuf 8 4) none { s with clk := { s.clk with passive := some f.inBuf } })) ∧
      (Front 0x0207 f s → calendarOk f.inBuf = false → exec .bilCalendarWrite s = .next (completeSt f .invalid s)) ∧
      (∀ c, Front 0x0208 f s → f.bufLen = 768 → f.p 16 1 ≤ 1 → (if f.p 16 1 = 0 then s.clk.active else s.clk.passive) = some c →
        exec .bilCalendarRead s = .next (complete f .ok 0 (leBytes 1 (f.p 16 1)) (some c) s)) ∧
      (∀ n : Outlet8, Front 0x0209 f s → f.target.toNat = n.val → (s.bill[n.val]).frozen = false →
        ∃ t, exec .bilMdReset s = .next t ∧ (t.bill[n.val]).regs.mdImp = Vector.replicate 8 (0, 0) ∧
          (t.bill[n.val]).regs.mdExp = Vector.replicate 8 (0, 0) ∧
          (t.bill[n.val]).regs.mdResets = (s.bill[n.val]).regs.mdResets + 1 ∧
          ∀ m : Outlet8, m ≠ n → t.bill[m.val] = s.bill[m.val]) ∧
      (∀ n : Outlet8, Front 0x0209 f s → f.target.toNat = n.val → (s.bill[n.val]).frozen = true →
        exec .bilMdReset s = .next (complete f .frozen 0 (leBytes 1 0) none s))) ∧
  (∀ (s : State) (f : Flight),
      (Front 0x0205 f s → 999 < f.p 24 2 → exec .bilTimeSet s = .next (completeSt f .invalid s)) ∧
      (Front 0x0201 f s → f.bufLen ≠ 448 → exec .bilRegRead s = .next (completeSt f .invalid s)) ∧
      (Front 0x0202 f s → (f.p 16 4 = 0 ∨ 2 ^ 23 ≤ f.p 16 4 ∨
          f.bufLen ≠ 8 * ((allFin 23).filter fun i => bitAt (f.p 16 4) i.val).length) →
        exec .bilShortRead s = .next (completeSt f .invalid s)) ∧
      (Front 0x0207 f s → f.bufLen ≠ 768 → exec .bilCalendarWrite s = .next (completeSt f .invalid s)) ∧
      (Front 0x0208 f s → (1 < f.p 16 1 ∨ f.bufLen ≠ 768) → exec .bilCalendarRead s = .next (completeSt f .invalid s)) ∧
      (Front 0x0208 f s → f.bufLen = 768 → f.p 16 1 ≤ 1 → (if f.p 16 1 = 0 then s.clk.active else s.clk.passive) = none →
        exec .bilCalendarRead s = .next (completeSt f .conflict s)) ∧
      (Front 0x0209 f s → f.target = 0xFF →
        ∃ u, exec .bilMdReset s = .next (complete f (if (allFin 8).any fun n => (s.bill[n.val]).frozen then .frozen else .ok) 0
            (leBytes 1 (maskOf ((allFin 8).map fun n => !(s.bill[n.val]).frozen))) none u) ∧
          (∀ n : Outlet8, ((s.bill[n.val]).frozen = false → (u.bill[n.val]).regs.mdImp = Vector.replicate 8 (0, 0) ∧
            (u.bill[n.val]).regs.mdExp = Vector.replicate 8 (0, 0) ∧
            (u.bill[n.val]).regs.mdResets = (s.bill[n.val]).regs.mdResets + 1) ∧
            ((s.bill[n.val]).frozen = true → u.bill[n.val] = s.bill[n.val]))))

/-! ### Signed readings, prepayment and tamper records -/

/-- R176 to R180: a snapshot takes the next RCTR and waits for its signature; BIL_PRN_SIGN is BUSY with eight of its snapshots waiting;
the key and certificate reads return what is stored;
without a usable key they are DENIED or INTEGRITY, and a short certificate buffer is INVALID with the length needed. R190 to R192: BTD samples both tamper inputs; an opening counts after the
second sample that shows it and is logged; chatter ends after 320 stable samples with an entry; new entries are copied to the log in
MRAM, which BIL_TAMPER_READ returns. Readings of the model in it: logs 55, 70, 72. -/
def Obligations.SignedReadingsAndTamper : Prop :=
  (∀ (s : State) (f : Flight),
      (∀ (n : Outlet8) d, Reached .host s → (s.bill[n.val]).due = some d → s.isReady 2 = true → d.tick ≤ s.now → prnBlocked s = false →
        ∃ t, exec (.prnEndSnapshot n) s = .next t ∧ (t.bill[n.val]).due = none ∧ t.prn.rctr = s.prn.rctr + 1 ∧
          ∃ r ∈ t.prn.store, r.rctr = s.prn.rctr ∧ r.rtype = 2 ∧ r.outlet = n ∧ r.sig = none) ∧
      (Front 0x0210 f s → f.bufLen = 272 → prnBlocked s = false → longCount s < 32 →
        (s.prn.store.filter fun r => r.rtype == 0 && r.sig.isNone).length < 8 →
        ∃ t, exec .bilPrnSign s = .next t ∧ t.prn.rctr = s.prn.rctr + 1 ∧
          ∃ r ∈ t.prn.store, r.rctr = s.prn.rctr ∧ r.rtype = 0 ∧ r.outlet = f.outlet ∧ r.sig = none ∧ r.flight = some f.seq) ∧
      (Front 0x0210 f s → f.bufLen = 272 → prnBlocked s = false →
        (8 ≤ (s.prn.store.filter fun r => r.rtype == 0 && r.sig.isNone).length ∨ 32 ≤ longCount s) →
        exec .bilPrnSign s = .next (completeSt f .busy s)) ∧
      (Front 0x0210 f s → f.bufLen = 272 → prnBlocked s = true → exec .bilPrnSign s = .next (completeSt f .denied s)) ∧
      (Front 0x0211 f s → 1 ≤ f.p 20 1 → f.p 20 1 ≤ 16 → f.bufLen = 272 * f.p 20 1 →
        ∃ detail data, exec .bilPrnFetch s = .next (complete f .ok detail data (some ((signedRun (s.prn.store.reverse.filter
          fun r => decide (f.p 16 4 ≤ r.rctr))).take (f.p 20 1)).flatten) s)) ∧
      (Front 0x0212 f s → s.key.rootFail = false → (s.key.slot[0]).unusable = false → (s.key.slot[0]).rec_.type = .pair →
        exec .bilPrnKeyRead s = .next (complete f .ok 0 [] (some (slice (s.key.slot[0]).rec_.pub 0 65)) s)) ∧
      (∀ c, Front 0x0213 f s → f.p 16 1 ≤ 1 → c = (if f.p 16 1 = 0 then s.prn.devCert else s.prn.issCert) → c.length ≤ f.bufLen →
        exec .bilPrnCertRead s = .next (complete f .ok 0 (leBytes 2 c.length) (some c) s))) ∧
  (∀ (s : State),
      (∀ a b : Bool, (s.tam.inp[0]).en = true → (s.tam.inp[0]).isOpen = false → (s.tam.inp[0]).differ = 1 →
        (s.tam.inp[0]).chatter = false → (s.tam.inp[0]).changes = [] → (s.tam.inp[1]).en = false → (a != (s.tam.inp[0]).pol) = true →
        ∃ t, exec (.tamperSample a b) s = .next t ∧ t.tam.samples = s.tam.samples + 1 ∧ (t.tam.inp[0]).isOpen = true ∧
          (t.tam.inp[0]).openings = (s.tam.inp[0]).openings + 1 ∧ t.tam.nextSeq = s.tam.nextSeq + 1 ∧
          (t.tam.log.head?.map TamperRec.tseq) = some s.tam.nextSeq) ∧
      (∀ i : Fin 2, (s.tam.inp[i.val]).chatter = true → (s.tam.inp[i.val]).lastChange + 320 ≤ s.tam.samples →
        ∃ t, exec (.tamperChatterEnd i) s = .next t ∧ (t.tam.inp[i.val]).chatter = false ∧ t.tam.nextSeq = s.tam.nextSeq + 1 ∧
          t = { s with tam := t.tam }) ∧
      (∀ e : TamperRec, Reached .metering s → s.isReady 2 = true → s.tam.log = [e] → s.tam.posted < e.tseq → e.tick < s.now →
        ∃ t, exec .tamperCopy s = .next t ∧ t.tam.copy = (e :: s.tam.copy).take 256 ∧ t.tam.posted = e.tseq ∧
          HostOnly { s with tam := t.tam, gen := { s.gen with lateEv := t.gen.lateEv } } t) ∧
      (∀ f, Front 0x0220 f s → exec .bilTamperRead s = .next (readLog f s.tam.copy TamperRec.tseq tamperBytes 32 64 s))) ∧
  (∀ (s : State) (f : Flight),
      (Front 0x0210 f s → f.bufLen ≠ 272 → exec .bilPrnSign s = .next (completeSt f .invalid s)) ∧
      (Front 0x0211 f s → (f.p 20 1 = 0 ∨ 16 < f.p 20 1 ∨ f.bufLen ≠ 272 * f.p 20 1) →
        exec .bilPrnFetch s = .next (completeSt f .invalid s)) ∧
      (Front 0x0212 f s → (s.key.rootFail = true ∨ (s.key.slot[0]).unusable = true) →
        exec .bilPrnKeyRead s = .next (completeSt f .integrity s)) ∧
      (Front 0x0212 f s → s.key.rootFail = false → (s.key.slot[0]).unusable = false → (s.key.slot[0]).rec_.type ≠ .pair →
        exec .bilPrnKeyRead s = .next (completeSt f .denied s)) ∧
      (Front 0x0213 f s → 1 < f.p 16 1 → exec .bilPrnCertRead s = .next (completeSt f .invalid s)) ∧
      (∀ c, Front 0x0213 f s → f.p 16 1 ≤ 1 → c = (if f.p 16 1 = 0 then s.prn.devCert else s.prn.issCert) → f.bufLen < c.length →
        exec .bilPrnCertRead s = .next (complete f .invalid 0 (leBytes 2 c.length) none s)))

/-- R181, R184, R189: settings in range are taken for foreground B of the next tick, settings out of range are INVALID. An emergency
request is acted on in a tick after its own: where emergency credit is available its amount is added to the emergency credit and to
the debt. A read returns the account. R186: a top-up token that passes its checks is verified as a long operation; after that,
foreground B of a later tick tests its number against the window again and adds the amount: D falls by the recovery share, C rises
by the rest. A number that the window has seen is CONFLICT, at dispatch
and at the second test. A token of another form is INVALID, an account in doubt FROZEN, one not payable here DENIED; emergency credit
that is not available is DENIED, a change of ENABLE away from rest CONFLICT. Readings of the model in it: logs 58, 71. -/
def Obligations.Prepayment : Prop :=
  (∀ (s : State) (f : Flight),
      (∀ c (p : Ppy), Front 0x0218 f s → f.bufLen = 208 → parsePpy f.inBuf = some c → (s.ses.out[f.outlet.val]).atRest = true →
        p = s.ppy[f.outlet.val] → exec .bilPpyConfig s =
          .next (completeSt f .ok { s with ppy := s.ppy.set f.outlet.val { p with pendSet := some c } })) ∧
      (Front 0x0218 f s → parsePpy f.inBuf = none → exec .bilPpyConfig s = .next (completeSt f .invalid s)) ∧
      (∀ p : Ppy, Front 0x021A f s → p = s.ppy[f.outlet.val] → exec .bilPpyEmergency s =
        .next (keepRunning f { s with ppy := s.ppy.set f.outlet.val { p with emgReq := p.emgReq ++ [(f.seq, s.now)] } })) ∧
      (∀ (n : Outlet8) t0, Reached .metering s → (s.ppy[n.val]).emgReq = [(f.seq, t0)] → t0 < s.now → flight? f.seq s = some f →
        (s.ppy[n.val]).acc.emgOk = true →
        ∃ t, exec (.emergencyActivate n) s = .next t ∧ (t.ppy[n.val]).emgReq = [] ∧ (t.ppy[n.val]).acc.emgUsed = true ∧
          (t.ppy[n.val]).acc.e = (s.ppy[n.val]).acc.e + (s.ppy[n.val]).acc.set.emgAmount ∧
          (t.ppy[n.val]).acc.d = (s.ppy[n.val]).acc.d + (s.ppy[n.val]).acc.set.emgAmount) ∧
      (Front 0x021B f s → exec .bilPpyRead s = .next (complete f .ok 0
        (leBytes 8 (unsigned 64 (s.ppy[f.outlet.val]).acc.balance)) (some (ppyBytes (s.ppy[f.outlet.val]).acc)) s))) ∧
  (∀ (s : State) (f : Flight) (n : Outlet8) (a : Account), a = (s.ppy[n.val]).acc →
      (Front 0x0219 f s → f.outlet = n → f.bufLen = 96 → beAt f.inBuf 0 2 = 0x5455 → byteAt f.inBuf 2 = 1 → beAt f.inBuf 20 4 = 0 →
        byteAt f.inBuf 3 = n.val → beAt f.inBuf 12 4 ≠ 0 → beAt f.inBuf 16 4 ≠ 0 → a.doubt = false → a.set.enable = true →
        beAt f.inBuf 4 8 = s.fuse.serial.toNat → beAt f.inBuf 24 8 = 0 → a.c + beAt f.inBuf 16 4 ≤ 1000000000000 →
        ((windowTest a.h a.mask (beAt f.inBuf 12 4)).isSome = true → slotCheck (Fin.ofNat 32 a.set.keyslot) 1 s = none →
          s.key.queue.length < 32 → exec .bilPpyTopup s =
            .next (keepRunning f (requestLong .topup 131 (.topup f.seq) [Fin.ofNat 32 a.set.keyslot] s))) ∧
        (windowTest a.h a.mask (beAt f.inBuf 12 4) = none → exec .bilPpyTopup s = .next (completeSt f .conflict s))) ∧
      (∀ tseq amount t0 h m, Reached .metering s → (s.ppy[n.val]).apply = [(f.seq, tseq, amount, t0)] → t0 < s.now → flight? f.seq s = some f →
        (∀ k : Outlet8, k ≠ n → (s.ppy[k.val]).apply = []) → windowTest a.h a.mask tseq = some (h, m) → a.e = 0 →
        a.set.autoEmg = false →
        ∃ t, exec .topupApply s = .next t ∧ (t.ppy[n.val]).apply = [] ∧ (t.ppy[n.val]).acc.h = h ∧ (t.ppy[n.val]).acc.mask = m ∧
          (t.ppy[n.val]).acc.topup = a.topup + amount ∧
          (t.ppy[n.val]).acc.d = a.d - min a.d (amount * a.set.recovery / 100) ∧
          (t.ppy[n.val]).acc.c = a.c + ((amount : Nat) - min a.d (amount * a.set.recovery / 100)))) ∧
  (∀ (s : State) (f : Flight),
      (∀ c (p : Ppy) cur, Front 0x0218 f s → f.bufLen = 208 → parsePpy f.inBuf = some c → p = s.ppy[f.outlet.val] →
        cur = (match p.pendSet with | some c => c.enable | none => p.acc.set.enable) →
        (c.enable = cur → exec .bilPpyConfig s =
          .next (completeSt f .ok { s with ppy := s.ppy.set f.outlet.val { p with pendSet := some c } })) ∧
        (c.enable ≠ cur → (s.ses.out[f.outlet.val]).atRest = false → exec .bilPpyConfig s = .next (completeSt f .conflict s))) ∧
      (Front 0x0218 f s → f.bufLen ≠ 208 → exec .bilPpyConfig s = .next (completeSt f .invalid s)) ∧
      (∀ (n : Outlet8) t0, Reached .metering s → (s.ppy[n.val]).emgReq = [(f.seq, t0)] → t0 < s.now → flight? f.seq s = some f →
        (s.ppy[n.val]).acc.emgOk = false →
        ∃ t, exec (.emergencyActivate n) s = .next t ∧ (t.ppy[n.val]).emgReq = [] ∧ (t.ppy[n.val]).acc = (s.ppy[n.val]).acc ∧
          t.gen.lateDone = s.gen.lateDone ++ [(f.seq, .denied, [])])) ∧
  (∀ (s : State) (f : Flight) (a : Account) (ok : Bool), Front 0x0219 f s → a = (s.ppy[f.outlet.val]).acc →
      ok = (decide (f.bufLen = 96) && decide (beAt f.inBuf 0 2 = 0x5455) && decide (byteAt f.inBuf 2 = 1) && decide (beAt f.inBuf 20 4 = 0) &&
        decide (byteAt f.inBuf 3 = f.outlet.val) && decide (beAt f.inBuf 12 4 ≠ 0) && decide (beAt f.inBuf 16 4 ≠ 0)) →
      (ok = false → exec .bilPpyTopup s = .next (completeSt f .invalid s)) ∧
      (ok = true → a.doubt = true → exec .bilPpyTopup s = .next (completeSt f .frozen s)) ∧
      (ok = true → a.doubt = false → (a.set.enable = false ∨ beAt f.inBuf 4 8 ≠ s.fuse.serial.toNat ∨
          (beAt f.inBuf 24 8 ≠ 0 ∧ (beAt f.inBuf 24 8 < s.clk.sec ∨ s.clk.unsynced = true)) ∨ 1000000000000 < a.c + beAt f.inBuf 16 4) →
        exec .bilPpyTopup s = .next (completeSt f .denied s))) ∧
  (∀ (s : State) (f : Flight) (n : Outlet8) tseq amount t0, Reached .metering s → (s.ppy[n.val]).apply = [(f.seq, tseq, amount, t0)] →
      t0 < s.now → flight? f.seq s = some f → (∀ k : Outlet8, k ≠ n → (s.ppy[k.val]).apply = []) →
      windowTest (s.ppy[n.val]).acc.h (s.ppy[n.val]).acc.mask tseq = none →
      ∃ t, exec .topupApply s = .next t ∧ (t.ppy[n.val]).apply = [] ∧ (t.ppy[n.val]).acc = (s.ppy[n.val]).acc ∧
        t.gen.lateDone = s.gen.lateDone ++ [(f.seq, .conflict, [])])

/-! ### The charge session -/

/-- R194: an outlet's set-up registers are taken in IDLE and DISABLED, in range, for the next tick edge; else CFG_REJECT is set. R207,
R218, R226, R227: the session descriptors. An authorisation with the session's number authorises it from CONNECTED to AUTHORISING; in
IDLE it is held as a pre-authorisation. SES_STOP records a stop request where none stands. SES_LIMIT sets the host's limit. SES_READ
returns what stood at the end of foreground A. SES_FAULT_CLEAR and SES_UNLOCK are accepted in their tick and acted on in a later one:
a clear takes an outlet out of FAULT once the opening checks have passed, as the rows are taken at the end of foreground A (evalOut).
Out of range is INVALID; an outlet without a residual-current slot
or in FAULT, WELDED or DISABLED is DENIED; a wrong session number or state is CONFLICT; a second unlock is BUSY.
Readings of the model in it: logs 25, 26, 62, 65, 124. -/
def Obligations.OutletCommands : Prop :=
  (∀ (s : State) (n : Outlet8) (v : W32), LinkUp s →
      ((outOf s n).idle = true → ocfgOk v.toNat = true → (bitAt v.toNat 0 && isDc s n) = false →
        exec (.sesOcfgWrite n v) s = .next (modOut n (fun o => { o with pendOcfg := some (v &&& 0x037F7FFF) }) s)) ∧
      (((outOf s n).idle = false ∨ ocfgOk v.toNat = false) →
        exec (.sesOcfgWrite n v) s = .next { s with ses := { s.ses with cfgReject := true } }) ∧
      ((outOf s n).idle = true → coilOk v.toNat = true →
        exec (.sesCoilWrite n v) s = .next (modOut n (fun o => { o with pendCoil := some (v &&& 0xFFFF) }) s)) ∧
      (((outOf s n).idle = false ∨ coilOk v.toNat = false) →
        exec (.sesCoilWrite n v) s = .next { s with ses := { s.ses with cfgReject := true } })) ∧
  (∀ (s : State) (f : Flight) (n : Outlet8) (o : Outlet), f.outlet = n → o = outOf s n →
      (Front 0x0301 f s → f.p 16 1 = 1 → (f.p 40 2 = 0 ∨ (60 ≤ f.p 40 2 ∧ f.p 40 2 ≤ 800)) → iresOk s n = true →
        (1 ≤ o.state.num → o.state.num ≤ 4 → f.p 32 8 = o.session →
          exec .sesAuthorise s = .next (complete f .ok 0 (leBytes 8 o.session) none (modOut n (fun o => { o with
            authed := true, denied := false, authRef := BitVec.ofNat 64 (f.p 24 8), iSes := if f.p 40 2 = 0 then none else some (f.p 40 2) }) s))) ∧
        (o.state = .idle → f.p 32 8 = 0 → 0 < s.ses.preauthS →
          exec .sesAuthorise s = .next (complete f .ok (b2n o.preAuth.isSome) (leBytes 8 0) none (modOut n (fun o => { o with
            preAuth := some { authRef := BitVec.ofNat 64 (f.p 24 8), limit := f.p 40 2,
                              untilTick := s.now + 64000 * s.ses.preauthS } }) s))) ∧
        (11 ≤ o.state.num → exec .sesAuthorise s = .next (completeSt f .denied s))) ∧
      (Front 0x0302 f s → f.p 16 1 = 2 → 1 ≤ o.state.num → o.state.num ≤ 9 → o.stopReq = none →
        exec .sesStop s = .next (complete f .ok 0 [BitVec.ofNat 8 o.state.num] none
          (modOut n (fun o => { o with stopReq := some (s.now, .hostStop) }) s))) ∧
      (Front 0x0302 f s → f.p 16 1 ≠ 2 → exec .sesStop s = .next (completeSt f .invalid s)) ∧
      (Front 0x0303 f s → f.p 16 2 ≤ 800 →
        ∃ u, exec .sesLimit s = .next (complete f .ok 0 (leBytes 2 (outOf u n).iLim) none u) ∧
          (outOf u n).iHost = some (f.p 16 2) ∧ (outOf u n).iSes = none ∧ (outOf u n).iLim = (outOf u n).limit ∧
          u = { s with ses := u.ses }) ∧
      (Front 0x0303 f s → f.p 16 2 = 0xFFFF →
        ∃ u, exec .sesLimit s = .next (complete f .ok 0 (leBytes 2 (outOf u n).iLim) none u) ∧
          (outOf u n).iHost = none ∧ (outOf u n).iSes = none ∧ (outOf u n).iLim = (outOf u n).limit ∧ u = { s with ses := u.ses }) ∧
      (∀ b, Front 0x0304 f s → b = s.ses.readImg[n.val] →
        exec .sesRead s = .next (complete f .ok 0 [BitVec.ofNat 8 (byteAt b 0 % 16), BitVec.ofNat 8 (byteAt b 2)] (some b) s)) ∧
      (Front 0x0305 f s →
        (o.state = .fault → o.opened = true → exec .sesFaultClear s =
          .next (keepRunning f (modOut n (fun o => { o with clearReq := o.clearReq ++ [(s.now, f.seq)] }) s))) ∧
        (o.state = .fault → o.opened = false → exec .sesFaultClear s = .next (completeSt f .denied s)) ∧
        (o.state = .welded → o.mirror = some false → 50 ≤ o.quietCycles → exec .sesFaultClear s =
          .next (keepRunning f (modOut n (fun o => { o with clearReq := o.clearReq ++ [(s.now, f.seq)] }) s))) ∧
        (o.state = .welded → (o.mirror ≠ some false ∨ o.quietCycles < 50) → exec .sesFaultClear s = .next (completeSt f .denied s)) ∧
        (o.state ≠ .fault → o.state ≠ .welded → exec .sesFaultClear s = .next (completeSt f .conflict s))) ∧
      (∀ t0, Settled n s → o.state = .fault → o.opened = true → o.clearReq = [(t0, f.seq)] → t0 < s.now → o.candidate = none →
        o.stopReq = none → o.unlockAsk = none → o.reason ≠ .restart → o.det ≠ some .a →
        ∃ t, exec (.stateMachineRequest n) s = .next t ∧ (outOf (evalOut n t) n).clearReq = [] ∧
          (outOf (evalOut n t) n).state = (if o.det = some .b ∨ o.det = some .c ∨ o.det = some .d then .connected else .idle)) ∧
      (Front 0x0306 f s → o.state = .ended → o.unlockSeq = none →
        (o.caseT = false → exec .sesUnlock s =
          .next (keepRunning f (modOut n (fun o => { o with unlockSeq := some f.seq, unlockAsk := some s.now }) s))) ∧
        (o.caseT = true → exec .sesUnlock s = .next (complete f .ok 0 [BitVec.ofNat 8 o.lockCode] none s)))) ∧
  (∀ (s : State) (f : Flight) (n : Outlet8) (o : Outlet), f.outlet = n → o = outOf s n →
      (Front 0x0301 f s → (1 < f.p 16 1 ∨ ¬(f.p 40 2 = 0 ∨ (60 ≤ f.p 40 2 ∧ f.p 40 2 ≤ 800))) →
        exec .sesAuthorise s = .next (completeSt f .invalid s)) ∧
      (Front 0x0301 f s → f.p 16 1 ≤ 1 → (f.p 40 2 = 0 ∨ (60 ≤ f.p 40 2 ∧ f.p 40 2 ≤ 800)) →
        ((iresOk s n = false ∨ 11 ≤ o.state.num) → exec .sesAuthorise s = .next (completeSt f .denied s)) ∧
        (iresOk s n = true →
          (((o.state = .idle ∧ f.p 32 8 ≠ 0) ∨ (5 ≤ o.state.num ∧ o.state.num ≤ 10) ∨ (1 ≤ o.state.num ∧ o.state.num ≤ 4 ∧ f.p 32 8 ≠ o.session)) →
            exec .sesAuthorise s = .next (completeSt f .conflict s)) ∧
          (o.state = .idle → f.p 32 8 = 0 → s.ses.preauthS = 0 → exec .sesAuthorise s = .next (completeSt f .denied s)) ∧
          (f.p 16 1 = 0 → o.state = .idle → f.p 32 8 = 0 → 0 < s.ses.preauthS →
            exec .sesAuthorise s = .next (complete f .ok 0 (leBytes 8 0) none (modOut n (fun o => { o with preAuth := none }) s))) ∧
          (f.p 16 1 = 0 → 1 ≤ o.state.num → o.state.num ≤ 4 → f.p 32 8 = o.session →
            exec .sesAuthorise s = .next (complete f .ok 0 (leBytes 8 o.session) none
              (modOut n (fun o => { o with authed := false, denied := true }) s))))) ∧
      (Front 0x0302 f s → f.p 16 1 = 2 → (o.state.num = 0 ∨ 10 ≤ o.state.num) → exec .sesStop s = .next (completeSt f .conflict s)) ∧
      (Front 0x0302 f s → f.p 16 1 = 2 → 1 ≤ o.state.num → o.state.num ≤ 9 → o.stopReq.isSome = true →
        exec .sesStop s = .next (complete f .ok 0 [BitVec.ofNat 8 o.state.num] none s)) ∧
      (Front 0x0303 f s → 800 < f.p 16 2 → f.p 16 2 ≠ 0xFFFF → exec .sesLimit s = .next (completeSt f .invalid s)) ∧
      (Front 0x0306 f s → o.state ≠ .ended → (o.state ≠ .fault ∨ o.opened = false) →
        exec .sesUnlock s = .next (completeSt f .denied s)) ∧
      (Front 0x0306 f s → (o.state = .ended ∨ (o.state = .fault ∧ o.opened = true)) → o.caseT = false →
        (o.unlockSeq.isSome = true → exec .sesUnlock s = .next (completeSt f .busy s)) ∧
        (o.unlockSeq = none → exec .sesUnlock s =
          .next (keepRunning f (modOut n (fun o => { o with unlockSeq := some f.seq, unlockAsk := some s.now }) s)))))

/-- R198, R199, R203, R204, R206: recognised pilot states, faults of the pilot, stop requests and timeouts move the state machine by its
rows, which are taken at the end of the foreground A that the commands belong to (evalOut). Plugging in opens a session under the next SESSION_NO; a pilot fault goes to FAULT with the latches cleared. Readings of the
model in it: logs 53, 66, 124. -/
def Obligations.SessionTransitions : Prop :=
  ∀ (s : State) (n : Outlet8) (o : Outlet), o = outOf s n → Settled n s →
    (∀ p, o.candidate = some p → ∃ t, exec (.pilotStateRecognised n) s = .next t ∧ (outOf t n).det = some p ∧
      (o.state = .idle → p = .b → ∀ u, u = evalOut n t → (outOf u n).state = .connected ∧ (outOf u n).session = s.ses.nextSession ∧
        u.ses.nextSession = s.ses.nextSession + 1)) ∧
    (∀ e, o.pilotErr = none → o.pilotFault? = some e → 1 ≤ o.state.num → o.state.num ≤ 10 →
      ∃ t u, exec (.pilotFault n) s = .next t ∧ (outOf t n).pilotErr = some e ∧ u = evalOut n t ∧ (outOf u n).state = .fault ∧
        (outOf u n).latchA = false ∧ (outOf u n).latchB = false ∧ (outOf u n).session = 0) ∧
    (o.state = .connected → o.entry + 64000 ≤ s.now → iresOk s n = true → o.caseT = false → ¬(1 ≤ o.pp ∧ o.pp ≤ 4) →
      ∃ t u, exec (.proximityNoneTimeout n) s = .next t ∧ u = evalOut n t ∧ (outOf u n).state = .ended ∧
        (outOf u n).reason = .proximityNone) ∧
    (o.state = .authorising → o.authEnd ≤ s.now → o.authed = false → o.denied = false →
      ∃ t u, exec (.authTimeout n) s = .next t ∧ u = evalOut n t ∧ (outOf u n).state = .ended ∧ (outOf u n).reason = .authTimeout) ∧
    (o.state = .stopping → o.entry + 384000 ≤ s.now →
      ∃ t u, exec (.stoppingTimeout n) s = .next t ∧ u = evalOut n t ∧ (outOf u n).state = .opening ∧ (outOf u n).latchA = false ∧
        (outOf u n).latchB = false) ∧
    (o.state = .fault → o.faultHigh = false → o.entry + 192000 ≤ s.now → o.openFailed = false →
      ∃ t, exec (.faultDriveEnd n) s = .next t ∧ (outOf t n).driveSoon = .plus) ∧
    (∀ t0 r, o.state = .charging → o.candidate = none → o.stopReq = some (t0, r) → t0 < s.now → o.det = some .c → 60 ≤ o.iLim →
      ∃ t u, exec (.stateMachineRequest n) s = .next t ∧ u = evalOut n t ∧ (outOf u n).state = .stopping ∧ (outOf u n).reason = r ∧
        (outOf u n).ending = true ∧ (outOf u n).stopReq = none) ∧
    (∀ p, o.preAuth = some p → p.untilTick ≤ s.now →
      exec (.preauthExpiry n) s = .next (modOut n (fun o => { o with preAuth := none }) s))

/-- R212, R214, R216, R217, R219: contactor and cable lock. Three agreeing samples confirm a position; a closing that is not confirmed
within 30 ms is CONTACTOR_FB, an opening that is not is WELDED; a lock drive that fails twice ends the session with LOCK_FAIL. The
rows are taken at the end of foreground A (evalOut). Readings of the model in it: logs 53, 61, 124. -/
def Obligations.ContactorAndLock : Prop :=
  ∀ (s : State) (n : Outlet8) (o : Outlet), o = outOf s n → Settled n s →
    (∀ t0, o.setTick = some t0 → t0 + 64 * o.pullMs ≤ s.now →
      exec (.coilPullInEnd n) s = .next (modOut n (fun o => { o with coilHold := true }) s)) ∧
    (3 ≤ o.mirRun → o.mirror ≠ some o.mirLast →
      ∃ t, exec (.mirrorConfirm n) s = .next t ∧ (outOf t n).mirror = some o.mirLast ∧ (outOf t n).mirTick = s.now) ∧
    (∀ t0, o.mirWait = some (t0, true) → t0 + 1920 ≤ s.now → o.state = .closing →
      ∃ t u, exec (.mirrorTimeout n) s = .next t ∧ u = evalOut n t ∧ (outOf u n).state = .fault ∧ (outOf u n).reason = .contactorFb ∧
        (outOf u n).latchA = false ∧ (outOf u n).latchB = false) ∧
    (∀ t0, o.mirWait = some (t0, false) → t0 + 1920 ≤ s.now → o.state = .opening → (o.chkVolt = .passed ∨ o.chkVolt = .failed) →
      ∃ t u, exec (.mirrorTimeout n) s = .next t ∧ u = evalOut n t ∧ (outOf u n).state = .welded ∧ (outOf u n).reason = .welded) ∧
    (s.ses.shunt = true → s.ses.shuntTick + 12800 ≤ s.now →
      (∀ m : Outlet8, bitAt (activeByte s 12) m.val = true → (outOf s m).state ≠ .welded) →
      exec .shuntTripRelease s = .next { s with ses := { s.ses with shunt := false } }) ∧
    (3 ≤ o.lockRun → o.lock ≠ some o.lockLast → (o.unlockFailed = false ∨ o.lockIdle = false) →
      ∃ t, exec (.lockConfirm n) s = .next t ∧ (outOf t n).lock = some o.lockLast) ∧
    (∀ d t0, o.lockDrive = some d → d.confirmed = some t0 → t0 + 1280 ≤ s.now → o.state = .locking → o.lock = some true →
      o.lockFailed = false → o.lockAsk = none →
      ∃ t u, exec (.lockDriveEnd n) s = .next t ∧ u = evalOut n t ∧ (outOf u n).state = .selfTest ∧ (outOf u n).lockDrive = none) ∧
    (∀ d, o.lockDrive = some d → d.confirmed = none → d.retryAt = none → d.start + 640 * o.lockT ≤ s.now →
      (d.attempt = 1 → exec (.lockDriveTimeout n) s =
        .next (modOut n (fun o => { o with lockDrive := some { d with retryAt := some (s.now + 32000) } }) s)) ∧
      (d.attempt ≠ 1 → d.toLock = true → o.state = .locking → o.caseT = false →
        ∃ t u, exec (.lockDriveTimeout n) s = .next t ∧ u = evalOut n t ∧ (outOf u n).state = .ended ∧ (outOf u n).reason = .lockFail)) ∧
    (∀ d t0, o.lockDrive = some d → d.retryAt = some t0 → t0 ≤ s.now →
      exec (.lockRetry n) s = .next (modOut n (fun o => { o with
        lockDrive := some { d with start := s.now, attempt := 2, retryAt := none }, lockRun := 0 }) s))

/-- R222, R223, R225: residual current. A criterion of R222 that has held its time while armed takes the outlet to FAULT, the DC ones
first, with both coil latches cleared; the first phase of the self-test ends the session with RCD_TEST where its mean reaches 2 mA;
500 cycles above the limit ask the session to stop. The rows are taken at the end of foreground A (evalOut). Readings of the model in
it: logs 23, 53, 124. -/
def Obligations.ResidualCurrentProtection : Prop :=
  ∀ (s : State) (n : Outlet8) (o : Outlet), o = outOf s n → Settled n s →
    (∀ i : Fin 3, (o.state = .closing ∨ o.state = .charging ∨ o.state = .stopping ∨ o.state = .opening) →
      (rcdLevels.getD i.val (0, 1)).2 ≤ o.rcdRun[i.val] →
      ∃ t u, exec (.rcdTrip n) s = .next t ∧ u = evalOut n t ∧ (outOf u n).state = .fault ∧ (outOf u n).reason = .rcdDc ∧
        (outOf u n).latchA = false ∧ (outOf u n).latchB = false) ∧
    (∀ i : Fin 3, (o.state = .closing ∨ o.state = .charging ∨ o.state = .stopping ∨ o.state = .opening) →
      (∀ j : Fin 3, o.rcdRun[j.val] < (rcdLevels.getD j.val (0, 1)).2) →
      (rcdLevels.getD (3 + i.val) (0, 1)).2 ≤ o.rcdRun[3 + i.val] →
      ∃ t u, exec (.rcdTrip n) s = .next t ∧ u = evalOut n t ∧ (outOf u n).state = .fault ∧ (outOf u n).reason = .rcdAc ∧
        (outOf u n).latchA = false ∧ (outOf u n).latchB = false) ∧
    (∀ (w : SelfTest) (mean : Rat), o.state = .selfTest → o.test = some w → w.done = none → w.step = 1 → w.start + 1280 ≤ s.now →
      mean = (if w.count = 0 then 0 else w.sum / w.count) →
      (mean < 2 / 1000 → -(2 / 1000) < mean →
        exec (.rcdSelfTestPhaseEnd n) s = .next (modOut n (fun o => { o with test := some { step := 2, start := s.now, b := mean } }) s)) ∧
      ((2 / 1000 ≤ mean ∨ mean ≤ -(2 / 1000)) →
        ∃ t u, exec (.rcdSelfTestPhaseEnd n) s = .next t ∧ u = evalOut n t ∧ (outOf u n).state = .ended ∧
          (outOf u n).reason = .rcdTest)) ∧
    ((∃ p : Fin 3, 500 ≤ o.overRun[p.val]) → o.stopReq = none →
      exec (.evOvercurrent n) s = .next (modOut n (fun o => { o with
        overRun := Vector.replicate 3 0, stopReq := some (s.now, .evOvercurrent) }) s))

/-! ### Safety -/

/-- R234, R236, R237, R239: a contact is recognised after DEBOUNCE agreeing samples, and an open contact of a used pair puts its stop in
force; channels that differ for longer than DISC are a discrepancy; chatter clears after ten quiet seconds; the release descriptor
ends a stop that can be released, is DENIED where it cannot, and CONFLICT where no stop is in force. R244, R248 to R250, R252: the
safety parameter block. A sound block waits under the next edition; SAF_COMMISSION is DENIED while a session runs and arms the block
where edition and CRC-32C agree and the outlets match it; a block that is not commissioned is discarded after 600 s; a read returns
the active block; the SAF_BLOCK event of a block written waits for the next foreground A (R253). Readings of the model in it: logs 27,
68. -/
def Obligations.SafetyInputsAndBlock : Prop :=
  (∀ (s : State),
      (∀ c : Fin 4, Undiscarded s → s.saf.active.isSome = true → 1 ≤ activeByte s 10 → activeByte s 10 ≤ (s.saf.inp[c.val]).openRun →
        (s.saf.inp[c.val]).recog ≠ some true → pairUsed s (pairOfChan c) = true →
        ∃ t, exec (.estopContactRecognised c) s = .next t ∧ (t.saf.inp[c.val]).recog = some true ∧
          (t.saf.inp[c.val]).tick = s.now ∧ (t.saf.pair[(pairOfChan c).val]).stop = true) ∧
      (∀ (c : Fin 4) t0, Undiscarded s → pairUsed s (pairOfChan c) = true → (s.saf.inp[c.val]).waitOpen = some t0 →
        t0 + pairDisc s (pairOfChan c) ≤ s.now →
        ∃ t, exec (.estopDiscrepancy (pairOfChan c)) s = .next t ∧ (t.saf.pair[(pairOfChan c).val]).disc = true ∧
          (t.saf.inp[c.val]).waitOpen = none) ∧
      (∀ k : Fin 2, Undiscarded s → (s.saf.pair[k.val]).chat = true →
        (∀ c : Fin 4, (c = chanA k ∨ c = chanB k) → (s.saf.inp[c.val]).recog = some false ∧
          (s.saf.inp[c.val]).quietFrom + 10000 ≤ s.saf.samples) →
        ∃ t, exec (.estopChatterClear k) s = .next t ∧ (t.saf.pair[k.val]).chat = false) ∧
      (LinkUp s → exec .safEstopRead s = .next { s with
        lastRead := BitVec.ofNat 32 (safEstopWord s), saf := { s.saf with edgesMax := 0 } }) ∧
      (∀ f, Front 0x0404 f s → f.p 16 1 = 1 →
        ((s.saf.pair[0]).stop = true → releasable s 0 = true →
          ∃ t, exec .safEstopRelease s = .next t ∧ (t.saf.pair[0]).stop = false ∧ t.saf.pair[1] = s.saf.pair[1]) ∧
        ((s.saf.pair[0]).stop = false → exec .safEstopRelease s = .next (completeSt f .conflict s)) ∧
        ((s.saf.pair[0]).stop = true → releasable s 0 = false → exec .safEstopRelease s = .next (completeSt f .denied s))) ∧
      (∀ f, Front 0x0405 f s → exec .safStatusRead s =
        .next (complete f .ok 0 (leBytes 4 (safStatusWord s) ++ leBytes 4 (safEstopWord s)) none s))) ∧
  (∀ (s : State) (f : Flight),
      (∀ b p, Front 0x0401 f s → parseBlock f.inBuf = some b →
        p = ({ bytes := b, edition := s.saf.editions + 1, tick := s.now } : PendBlock) →
        ∃ t, exec .safBlockWrite s = .next t ∧ t.saf = { s.saf with editions := s.saf.editions + 1, armed := commissioned s, pend := some p } ∧
          HostAndJournalOnly { s with saf := t.saf, gen := { s.gen with lateEv := s.gen.lateEv ++
            [(0x0402, 0xFF, [0] ++ leBytes 4 (crc32c b) ++ leBytes 4 (s.saf.editions + 1).toNat)] } } t) ∧
      (Front 0x0401 f s → parseBlock f.inBuf = none → exec .safBlockWrite s = .next (completeSt f .invalid s)) ∧
      (∀ b, Front 0x0402 f s → f.p 16 1 = 0 → s.saf.active = some b →
        exec .safBlockRead s = .next (complete f .ok 0 (leBytes 4 (crc32c b) ++ leBytes 4 s.saf.edition.toNat) (some b) s)) ∧
      (Front 0x0402 f s → f.p 16 1 = 0 → s.saf.active = none → exec .safBlockRead s = .next (completeSt f .conflict s)) ∧
      (∀ p, s.saf.pend = some p → Front 0x0403 f s → f.p 20 4 = p.edition.toNat →
        ((∃ n : Outlet8, 1 ≤ (outOf s n).state.num ∧ (outOf s n).state.num ≤ 9) →
          exec .safCommission s = .next (completeSt f .denied s)) ∧
        ((∀ n : Outlet8, ¬(1 ≤ (outOf s n).state.num ∧ (outOf s n).state.num ≤ 9)) → f.p 16 4 = crc32c p.bytes →
          (∀ n : Outlet8, blockMatches p.bytes n s = true) →
          ∃ t, exec .safCommission s = .next t ∧ t.saf = { s.saf with pend := some { p with go := true } } ∧
            HostAndJournalOnly { s with saf := t.saf } t)) ∧
      (∀ p, Undiscarded s → s.saf.pend = some p → p.go = false → p.tick + 38400000 ≤ s.now →
        ∃ t, exec .safPendingExpiry s = .next t ∧ t.saf = { s.saf with pend := none } ∧ EventsOnly { s with saf := t.saf } t)) ∧
  (∀ (s : State) (f : Flight),
      (Front 0x0402 f s → 1 < f.p 16 1 → exec .safBlockRead s = .next (completeSt f .invalid s)) ∧
      (∀ p, Front 0x0402 f s → f.p 16 1 = 1 → s.saf.pend = some p →
        exec .safBlockRead s = .next (complete f .ok 0 (leBytes 4 (crc32c p.bytes) ++ leBytes 4 p.edition.toNat) (some p.bytes) s)) ∧
      (Front 0x0402 f s → f.p 16 1 = 1 → s.saf.pend = none → exec .safBlockRead s = .next (completeSt f .conflict s)) ∧
      (Front 0x0403 f s → s.saf.pend = none → exec .safCommission s = .next (completeSt f .conflict s)) ∧
      (∀ p, Front 0x0403 f s → s.saf.pend = some p →
        (f.p 20 4 ≠ p.edition.toNat → exec .safCommission s = .next (completeSt f .conflict s)) ∧
        (f.p 20 4 = p.edition.toNat → (∀ n : Outlet8, ¬(1 ≤ (outOf s n).state.num ∧ (outOf s n).state.num ≤ 9)) →
          (f.p 16 4 ≠ crc32c p.bytes → ∃ t, exec .safCommission s = .next t ∧ t.saf = { s.saf with pend := none } ∧
            HostAndJournalOnly { s with saf := t.saf, gen := { s.gen with lateEv := s.gen.lateEv ++
              [(0x0402, 0xFF, [2] ++ leBytes 4 (f.p 16 4) ++ leBytes 4 p.edition.toNat)] } } t) ∧
          (∀ n : Outlet8, f.p 16 4 = crc32c p.bytes → blockMatches p.bytes n s = false → exec .safCommission s = .next (complete f .conflict
            (maskOf ((allFin 8).map fun m => !blockMatches p.bytes m s)) [] none s)))) ∧
      (Front 0x0404 f s → (f.p 16 1 = 0 ∨ 3 < f.p 16 1) → exec .safEstopRelease s = .next (completeSt f .invalid s)))

/-! ### The vehicle link -/

/-- R256 to R262, R268: SLAC, SDP and TCP. An eligible outlet answers the parameter request, from the MAC address that VLK_MACBASE
gives it, and takes its RunID; the soundings give the attenuation where no other outlet hears 6 dB better; the match request matches;
every CM_VALIDATE.REQ is answered; a time-out fails, and the wait for a vehicle that never starts SLAC releases the outlet in basic
mode. A matched vehicle gets the address and the port, one connection at a time; a TLS handshake with a common profile waits for its
signature with slot 1, under the certificates of that moment (R283). Readings of the model in it: logs 73, 74. -/
def Obligations.VehicleMatching : Prop :=
  ∀ (s : State) (n : Outlet8) (l : Link), l = linkOf s n → s.isReady 5 = true →
    stationMac s n = s.vlk.macBase + BitVec.ofNat 48 n.val ∧
    (∀ vmac runId, slacEligible s n = true → exec (.cmSlacParmReq n vmac runId) s = .next { s with
      vlk := { s.vlk with link := s.vlk.link.set n.val { l with slac := 2, mac := vmac, runId := runId, atten := 0 } },
      outbox := .vlk n (stationMac s n) none (.parmCnf runId) :: s.outbox }) ∧
    (∀ runId atten a, l.slac = 2 → l.runId = runId → atten.getD n.val none = some a →
      (∀ m : Outlet8, m ≠ n → ∀ b, atten.getD m.val none = some b → a < b + 6) →
      ∃ t, exec (.slacSounding runId atten) s = .next t ∧ (linkOf t n).slac = 3 ∧ (linkOf t n).atten = a) ∧
    (∀ vmac runId, l.slac = 3 → l.runId = runId → l.mac = vmac →
      ∃ t, exec (.cmSlacMatchReq n vmac runId) s = .next t ∧ (linkOf t n).slac = 4 ∧ (mirrorOf t n).matched = true ∧
        (mirrorOf t n).mac = vmac) ∧
    exec (.cmValidateReq n) s = .next { s with outbox := .vlk n (stationMac s n) none .validateCnf :: s.outbox } ∧
    ((l.slac = 2 ∨ l.slac = 3) → ∃ t, exec (.slacTimeout n) s = .next t ∧ (linkOf t n).slac = 5) ∧
    (l.slac = 1 → (outOf s n).session ≠ 0 → (outOf s n).hlc = true → (mirrorOf s n).released = false →
      (outOf s n).modeFixed = false → (outOf s n).connTick + 64000 * (s.vlk.outCfg[n.val]).2 ≤ s.now →
      ∃ t, exec (.slacWaitTimeout n) s = .next t ∧ (mirrorOf t n).released = true ∧ (mirrorOf t n).digital = false) ∧
    ((mirrorOf s n).matched = true → ∀ addr, addr = linkLocal (stationMac s n) →
      (∀ ask tls, security s n ask = some tls → ∃ t, exec (.sdpRequest n ask) s = .next t ∧
        t.outbox = .vlk n (stationMac s n) (some addr) (.sdp addr (60000 + n.val) tls) :: s.outbox ∧ (linkOf t n).sdpTls = tls) ∧
      (∀ h v13, l.tcp = false → security s n true = some true → tlsChoice h = some v13 → longCount s < 32 →
        exec (.tcpConnect n (.hello h)) s = .next (requestLong .tls 77 (.tls n) [1] (say n .tcpAccept (modLink n (fun l => { l with
          tcp := true, hand := some v13, clientCert := v13 && h.clientCert, openTick := s.now, handSecc := s.vlk.secc,
          handRoots := s.vlk.roots }) s)))) ∧
      (l.tcp = false → l.sdpTls = false → security s n false = some false → ∃ t, exec (.tcpConnect n .none) s = .next t ∧
        (linkOf t n).tcp = true ∧ (linkOf t n).tls = false ∧ (linkOf t n).openTick = s.now ∧ (linkOf t n).lastReq = l.lastReq) ∧
      (l.tcp = true → ∀ ask, exec (.tcpConnect n ask) s = .next { s with
        outbox := .vlk n (stationMac s n) (some addr) .tcpRefuse :: s.outbox }))

/-- R261, R263 to R271, R278 to R281: the V2G session, message by message. The agreed protocol, the vehicle's identifier and the
contract stand in the mirror or the link. A setup after the mode is fixed is answered FAILED. A request outside the session or out of
its place in the sequence closes the connection, as does a message that does not decode, which is answered FAILED; SessionStop, the
loss of the connection, 60 s without a request or since the connection, and a frame longer than 8,192 bytes, of whatever version and
payload type, end the session. Readings of the model in it: logs 75, 76, 81. -/
def Obligations.VehicleSession : Prop :=
  ∀ (s r : State) (n : Outlet8) (l : Link), l = linkOf s n → s.isReady 5 = true → l.tcp = true → l.hand = none → l.dinDone = false →
    r = modLink n (fun l => { l with lastReq := s.now }) s →
    (∀ offers o, l.phase = .idle → l.resumeUntil = none → bestOffer (offers.filter (offerOk s n)) = some o →
      ∃ t, exec (.supportedAppProtocolReq n offers) s = .next t ∧ (linkOf t n).proto = protoNum o.proto ∧
        (mirrorOf t n).proto = protoNum o.proto ∧ (linkOf t n).phase = .agreed) ∧
    (∀ sid evccid, l.resumeUntil = none →
      ((outOf s n).modeFixed = true → exec (.sessionSetupReq n sid evccid) s = .next (answer n .failed r)) ∧
      ((outOf s n).modeFixed = false → l.phase = .agreed → ∃ t, exec (.sessionSetupReq n sid evccid) s = .next t ∧
        (linkOf t n).v2g = true ∧ (linkOf t n).ev.evccid = evccid ∧ (mirrorOf t n).ev.evccid = evccid)) ∧
    (∀ c : ContractChain, l.v2g = false → ∃ t, exec (.paymentDetailsReq n c) s = .next t ∧ (linkOf t n).tcp = false) ∧
    exec (.v2gRequest n .undecodable) s = .next (failClose n r) ∧ (linkOf (failClose n r) n).tcp = false ∧
    (l.v2g = true →
      (∀ c k, ((l.proto = 2 ∧ l.pnc = true ∧ l.phase = .payment) ∨
          (l.proto = 3 ∧ contractOffered s n = true ∧ l.tls = true ∧ l.phase = .authSetup)) → chainOk s n c = some k →
        ∃ t, exec (.paymentDetailsReq n c) s = .next t ∧ (linkOf t n).contract = some (k.val, sha256 (c.certs.headD []), c.emaid)) ∧
      (l.phase ∈ authPhases l false → exec (.authorizationReq n false) s = .next (
        if (outOf s n).denied then answer n .failed r
        else if (outOf s n).authed then answer n .finished (goPhase n .authorised r)
        else answer n .ongoing (goPhase n .authorise r))) ∧
      (∀ p, (outOf s n).authed = true → (l.phase = .schedule ∨ l.phase = .renegotiate ∨ (l.proto = 2 ∧ l.phase = .authorised)) →
        l.schedReady = false → l.schedDenied = false → openReq s n (fun d => decide (d.kind = 2)) = false → s.vlk.open_.length < 16 → s.vlk.waits = [] →
        ∃ t, exec (.chargeParameterDiscoveryReq n p) s = .next t ∧ t.vlk.nextReq = s.vlk.nextReq + 1 ∧
          ∃ d ∈ t.vlk.open_, d.kind = 2 ∧ d.outlet = n ∧ d.reqId = s.vlk.nextReq ∧ d.deadline = s.now + 64000 * s.vlk.schedDl) ∧
      (∀ p, (outOf s n).authed = false → ∃ t, exec (.chargeParameterDiscoveryReq n p) s = .next t ∧ (linkOf t n).tcp = false) ∧
      (∀ body, l.phase ∈ certPhases l false → body.length ≤ 8192 → openReq s n (fun d => decide (d.kind = 3)) = false →
        s.vlk.open_.length < 16 → s.vlk.waits = [] → ∃ t, exec (.certificateInstallationReq n false body) s = .next t ∧
          ∃ d ∈ t.vlk.open_, d.kind = 3 ∧ d.outlet = n ∧ d.body = body ∧ d.deadline = s.now + 64000 * s.vlk.certDl) ∧
      (l.phase = .charging → l.bpt = false →
        exec (.chargingStatusReq n) s = .next (sendLimit n (answerAs true n .ok r))) ∧
      (∃ t, exec (.sessionStopReq n false) s = .next t ∧ (linkOf t n).v2g = false ∧ (linkOf t n).tcp = false ∧
        ((outOf s n).state ≠ .stopping → (outOf t n).stopReq.isSome = true)) ∧
      ((l.proto = 2 ∨ l.proto = 3) → (l.phase = .ready ∨ l.phase = .charging) →
        exec (.v2gRequest n .powerDeliveryStop) s = .next (answer n .ok (goPhase n .stopped r))) ∧
      (∀ k, k = .other ∨ (k = .powerDeliveryStart ∧ l.phase ≠ .ready) ∨ (k = .authorizationSetup ∧ l.phase ≠ .setup) →
        ∃ t, exec (.v2gRequest n k) s = .next t ∧ (linkOf t n).tcp = false) ∧
      (max l.lastReq l.openTick + 3840000 ≤ s.now → ∃ t, exec (.v2gIdleTimeout n) s = .next t ∧ (linkOf t n).v2g = false ∧ (linkOf t n).tcp = false) ∧
      (∃ t, exec (.tcpConnectionLost n) s = .next t ∧ (linkOf t n).v2g = false ∧ (linkOf t n).tcp = false) ∧
      (∀ h : V2gtpHeader, 8192 < h.len → ∃ t, exec (.v2gtpFrame n h) s = .next t ∧ (linkOf t n).v2g = false ∧
        (linkOf t n).tcp = false))

/-- R272 to R277, R281, R283: decisions and the descriptors of the vehicle link. The deadline of a decision removes it by default and
an answer after that is TIMEOUT; an answer in time that permits authorises the outlet; a wait ends at its own time; a session that its
vehicle does not rejoin ends; a root slot is emptied and a certificate chain is read back. Readings of the model in it: logs 77, 79.
-/
def Obligations.VehicleDecisions : Prop :=
  ∀ (s : State) (f : Flight),
    (∀ (d : Decision) (r : W32), s.isReady 5 = true → s.vlk.open_ = [d] → d.reqId = r.toNat → d.deadline ≤ s.now →
      ∃ t, exec (.decisionDeadline r) s = .next t ∧ t.vlk.open_ = [] ∧ d.reqId ∈ t.vlk.defaulted) ∧
    (∀ t0, s.isReady 5 = true → s.vlk.waits = [(f.seq, t0)] → t0 ≤ s.now → flight? f.seq s = some f →
      exec .decisionWaitTimeout s = .next (complete f .timeout 0 [] none { s with vlk := { s.vlk with waits := [] } })) ∧
    (∀ (n : Outlet8) t0, s.isReady 5 = true → (linkOf s n).resumeUntil = some t0 → t0 ≤ s.now →
      ∃ t, exec (.resumeTimeout n) s = .next t ∧ (mirrorOf t n).sessionId = 0 ∧ (outOf t n).stopDone = true ∧
        (linkOf t n).resumeUntil = none) ∧
    (Front 0x0503 f s → 10 ≤ f.p 16 2 → f.p 16 2 ≤ 60000 → s.hif.run = false →
      exec .vlkDecisionWait s = .next (completeSt f .timeout s)) ∧
    (Front 0x0503 f s → 10 ≤ f.p 16 2 → f.p 16 2 ≤ 60000 → s.hif.run = true → (∀ d ∈ s.vlk.open_, d.delivered = true) →
      exec .vlkDecisionWait s = .next (keepRunning f { s with vlk := { s.vlk with
        waits := s.vlk.waits ++ [(f.seq, s.now + 64 * f.p 16 2)] } })) ∧
    (Front 0x0504 f s → (∀ b, answerForm f b = true) → s.vlk.defaulted.contains (f.p 16 4) = true →
      exec .vlkDecisionAnswer s = .next (complete f .timeout 0 (leBytes 4 (f.p 16 4)) none s)) ∧
    (∀ d : Decision, Front 0x0504 f s → (∀ b, answerForm f b = true) → s.vlk.defaulted = [] → s.vlk.open_ = [d] →
      d.reqId = f.p 16 4 → d.kind = 1 → f.p 20 1 = 1 → f.p 21 1 = 1 → d.isContract = false →
      (outOf s d.outlet).authed = false → (outOf s d.outlet).session = d.session → 1 ≤ (outOf s d.outlet).state.num →
      (outOf s d.outlet).state.num ≤ 4 → iresOk s d.outlet = true →
      ∃ t, exec .vlkDecisionAnswer s = .next t ∧ t.vlk.open_ = [] ∧ (outOf t d.outlet).authed = true ∧
        (outOf t d.outlet).authRef = BitVec.ofNat 64 (f.p 24 8)) ∧
    (Front 0x0505 f s → (linkOf s f.outlet).v2g = true → digitalMode s f.outlet = true → (outOf s f.outlet).state = .charging →
      exec .vlkRenegotiate s = .next (completeSt f .ok (modLink f.outlet (fun l => { l with reneg := true }) s))) ∧
    (Front 0x0505 f s → (linkOf s f.outlet).v2g = false → exec .vlkRenegotiate s = .next (completeSt f .conflict s)) ∧
    (Front 0x0506 f s → exec .vlkSessionRead s = .next (complete f .ok 0 [BitVec.ofNat 8 (linkOf s f.outlet).proto]
      (some (vlkSessionBytes s f.outlet)) s)) ∧
    (∀ idx : Fin 8, Front 0x0501 f s → f.p 16 1 = 1 → f.p 17 1 = idx.val → f.bufLen = 0 →
      exec .vlkCertWrite s = .next (complete f .ok 0 (leBytes 2 0) none
        { s with vlk := { s.vlk with roots := s.vlk.roots.set idx.val [] } })) ∧
    (∀ c, Front 0x0502 f s → f.p 16 1 = 0 → f.p 17 1 = 0 → c = s.vlk.secc → c.length ≤ f.bufLen →
      exec .vlkCertRead s = .next (complete f .ok 0 (leBytes 2 c.length) (some c) s)) ∧
    (Front 0x0503 f s → (f.p 16 2 < 10 ∨ 60000 < f.p 16 2) → exec .vlkDecisionWait s = .next (completeSt f .invalid s)) ∧
    (Front 0x0504 f s → (∀ b, answerForm f b = false) →
      exec .vlkDecisionAnswer s = .next (complete f .invalid 0 (leBytes 4 (f.p 16 4)) none s)) ∧
    (Front 0x0504 f s → (∀ b, answerForm f b = true) → s.vlk.defaulted.contains (f.p 16 4) = false →
      (∀ d ∈ s.vlk.open_, d.reqId ≠ f.p 16 4) →
      exec .vlkDecisionAnswer s = .next (complete f .conflict 0 (leBytes 4 (f.p 16 4)) none s)) ∧
    (∀ d : Decision, Front 0x0504 f s → (∀ b, answerForm f b = true) → s.vlk.defaulted = [] → s.vlk.open_ = [d] →
      d.reqId = f.p 16 4 → d.kind ≠ f.p 20 1 →
      exec .vlkDecisionAnswer s = .next (complete f .conflict 0 (leBytes 4 (f.p 16 4)) none s)) ∧
    (Front 0x0501 f s → (1 < f.p 16 1 ∨ (f.p 16 1 = 1 ∧ (8 ≤ f.p 17 1 ∨ 2048 < f.bufLen)) ∨ (f.p 16 1 = 0 ∧ f.p 17 1 ≠ 0)) →
      exec .vlkCertWrite s = .next (completeSt f .invalid s)) ∧
    (Front 0x0502 f s → (1 < f.p 16 1 ∨ 8 ≤ f.p 17 1 ∨ (f.p 16 1 = 0 ∧ f.p 17 1 ≠ 0)) →
      exec .vlkCertRead s = .next (completeSt f .invalid s)) ∧
    (∀ c, Front 0x0502 f s → f.p 16 1 = 0 → f.p 17 1 = 0 → c = s.vlk.secc → f.bufLen < c.length →
      exec .vlkCertRead s = .next (complete f .invalid 0 (leBytes 2 c.length) none s))

/-! ### Site current sharing -/

/-- R290, R296, R297: the sender of a transfer. A MOVE that it can act on takes the tokens out of SPARE into a new open transfer with
the next XID and offers them; ACCEPT before the deadline makes it commit sent, REFUSE gives the tokens back, ACK closes it, and
RESOLVE of a transfer in doubt drops or returns the tokens. After the deadlines are looked at, every open transfer past its own is
in doubt, and no accepted record is past its own. Readings of the model in it: logs 32, 92. -/
def Obligations.TransferSender : Prop :=
  ∀ (s : State) (m : TokMsg), inDomain s = true → s.bkb.role = 1 → m.sender = s.fuse.serial →
    (s.sct.tok.xfers.length < 8 → m.count ≤ s.sct.tok.spare[m.phase.val] → ∃ t, exec (.move m) s = .next t ∧
      t.sct.tok.spare = vmod s.sct.tok.spare m.phase (· - m.count) ∧ t.sct.nextXid = s.sct.nextXid + 1 ∧
      t.sct.tok.xfers = s.sct.tok.xfers ++ [{ xid := s.sct.nextXid, receiver := m.receiver, phase := m.phase, count := m.count,
                                              deadline := s.dfn + s.sct.xferExp * 10, state := .offered }] ∧
      t.bkb.up.length = s.bkb.up.length + 1 ∧ t.sct.copies = Vector.replicate 3 { image := (t.sct.seq, t.sct.tok) }) ∧
    (∀ x, ownXfer s m.xid.toNat = some x →
      (x.state = .offered → s.dfn ≤ x.deadline → ∃ t, exec (.accept m) s = .next t ∧
        ownXfer t m.xid.toNat = some { x with state := .commitSent } ∧ t.sct.tok.spare = s.sct.tok.spare) ∧
      (x.state = .offered → ∃ t, exec (.refuse m) s = .next t ∧ ownXfer t m.xid.toNat = none ∧
        t.sct.tok.spare = vmod s.sct.tok.spare x.phase (· + x.count)) ∧
      (x.state = .commitSent → ∃ t, exec (.ack m) s = .next t ∧ ownXfer t m.xid.toNat = none ∧ t.sct.tok.spare = s.sct.tok.spare) ∧
      (x.state = .inDoubt → m.result = 1 → ∃ t, exec (.resolve m) s = .next t ∧ ownXfer t m.xid.toNat = none ∧
        t.sct.tok.spare = s.sct.tok.spare) ∧
      (x.state = .inDoubt → m.result = 2 → ∃ t, exec (.resolve m) s = .next t ∧ ownXfer t m.xid.toNat = none ∧
        t.sct.tok.spare = vmod s.sct.tok.spare x.phase (· + x.count))) ∧
    ∃ t, exec .transferDeadline s = .next t ∧ (∀ y ∈ t.sct.tok.xfers, y.deadline < s.dfn → y.state = .inDoubt) ∧
      (∀ r ∈ t.sct.tok.recs, r.deadline < s.dfn → r.state ≠ .accepted)

/-- R297, R298: the receiver of a transfer. An OFFER that an outlet wants, or that pays what the coordinator owes, is recorded and accepted,
and one already recorded so is accepted again; one that nothing wants is refused, and so is every one while the store is full; a COMMIT before the deadline adds COUNT to HELD once, and every COMMIT of a committed transfer is answered with ACK; a QUERY is
answered with unknown up to the deadline and with the record afterwards. -/
def Obligations.TransferReceiver : Prop :=
  ∀ (s : State) (m : TokMsg), inDomain s = true → s.bkb.role = 1 → m.receiver = s.fuse.serial →
    (m.deadline.toNat < s.dfn → exec (.offer m) s = .next s) ∧
    (s.dfn ≤ m.deadline.toNat → 256 ≤ s.sct.tok.recs.length →
      exec (.offer m) s = .next { s with bkb := { s.bkb with up := s.bkb.up ++ [(3, m)] } }) ∧
    (∀ r, s.dfn ≤ m.deadline.toNat → s.sct.tok.recs.length < 256 → recOf s m.sender m.xid.toNat = some r → r.state = .accepted →
      exec (.offer m) s = .next { s with bkb := { s.bkb with up := s.bkb.up ++ [(2, m)] } }) ∧
    (s.dfn ≤ m.deadline.toNat → recOf s m.sender m.xid.toNat = none →
      (s.sct.tok.recs.length < 256 → takesTokens s m.phase = true → ∃ t, exec (.offer m) s = .next t ∧
        t.sct.tok.recs = s.sct.tok.recs ++ [{ sender := m.sender, xid := m.xid.toNat, phase := m.phase, count := m.count,
                                              deadline := m.deadline.toNat, state := .accepted }] ∧
        t.bkb = { s.bkb with up := s.bkb.up ++ [(2, m)] } ∧ t.sct.tok.spare = s.sct.tok.spare) ∧
      (takesTokens s m.phase = false →
        exec (.offer m) s = .next { s with bkb := { s.bkb with up := s.bkb.up ++ [(3, m)] } })) ∧
    (∀ r, recOf s m.sender m.xid.toNat = some r →
      (r.state = .accepted → s.dfn ≤ r.deadline → ∃ t, exec (.commit m) s = .next t ∧
        recOf t m.sender m.xid.toNat = some { r with state := .committed } ∧
        (∀ p : Fin 3, t.sct.tok.held p = s.sct.tok.held p + if p = r.phase then r.count else 0) ∧
        t.bkb.up = s.bkb.up ++ [(5, m)]) ∧
      (r.state = .committed → exec (.commit m) s = .next { s with bkb := { s.bkb with up := s.bkb.up ++ [(5, m)] } })) ∧
    (recOf s m.sender m.xid.toNat = none → exec (.commit m) s = .next s) ∧
    (s.dfn ≤ m.deadline.toNat →
      exec (.query m) s = .next { s with bkb := { s.bkb with up := s.bkb.up ++ [(8, { m with result := 0 })] } }) ∧
    (∀ r, m.deadline.toNat < s.dfn → recOf s m.sender m.xid.toNat = some r → r.state = .committed →
      exec (.query m) s = .next { s with bkb := { s.bkb with up := s.bkb.up ++ [(8, { m with result := 1 })] } }) ∧
    (m.deadline.toNat < s.dfn → (∀ r, recOf s m.sender m.xid.toNat = some r → r.state ≠ .committed) →
      exec (.query m) s = .next { s with bkb := { s.bkb with up := s.bkb.up ++ [(8, { m with result := 2 })] } })

/-- R296, R300 to R305: the coordinator relays token messages unchanged, settles what a STATUS answers, keeps the ledger from the
reports and marks a member absent after 5 s. The shares of a phase never exceed its budget; every 500 frames each member's target is
the sum of its outlets' targets. A member keeps the digest and adopts a newer budget; in LEDGER_DOUBT it takes back what the ledger records
for it. Readings of the model in it: logs 88, 90, 125. -/
def Obligations.CoordinatorLedger : Prop :=
  ∀ (s : State), s.isReady 6 = true →
    (s.bkb.role = 2 → ∀ (m : TokMsg),
      (∀ k, m.receiver ≠ s.fuse.serial → slotOf s m.receiver = some k → ∃ t, exec (.offer m) s = .next t ∧
        t.bkb = { s.bkb with down := s.bkb.down ++ [(k, m, 1)] } ∧ t.sct.tok = s.sct.tok) ∧
      (∀ k, m.sender ≠ s.fuse.serial → slotOf s m.sender = some k → ∃ t, exec (.accept m) s = .next t ∧
        t.bkb = { s.bkb with down := s.bkb.down ++ [(k, m, 2)] } ∧ t.sct.tok = s.sct.tok) ∧
      (∀ k, (m.result = 1 ∨ m.result = 2) → m.sender ≠ s.fuse.serial → slotOf s m.sender = some k → s.sct.tok.taken = [] →
        s.sct.retiring = [] → verdictOf s m.sender m.xid.toNat = none → ∃ t, exec (.status m) s = .next t ∧
        t.bkb = { s.bkb with down := s.bkb.down ++ [(k, m, 9)] } ∧
        verdictOf t m.sender m.xid.toNat = some (decide (m.result = 1)))) ∧
    (s.bkb.role = 2 → ∀ (k : Fin 64) (r : Report) (e : LedgerEntry), e = s.sct.ledger[k.val] →
      (e.serial = r.serial → (e.state = .present ∨ e.state = .absent) → ∃ t, exec (.memberReport k r) s = .next t ∧
        (t.sct.ledger[k.val]).state = .present ∧ (t.sct.ledger[k.val]).held = toVec 3 0 r.held ∧
        (t.sct.ledger[k.val]).lastDfn = s.bkb.dfn ∧ (t.sct.ledger[k.val]).xfers = r.xfers.take 8 ∧
        (s.sct.tok.budgetEd < r.budgetEd → t.sct.tok.budgetEd = r.budgetEd ∧ t.sct.tok.budget = toVec 3 0 r.budget)) ∧
      (e.state = .present → k ≠ s.bkb.slot → e.lastTick + 320000 ≤ s.now → ∃ t, exec (.memberAbsent k) s = .next t ∧
        t.sct = { s.sct with ledger := s.sct.ledger.set k.val { e with state := .absent } } ∧ EventsOnly { s with sct := t.sct } t)) ∧
    (∀ p : Fin 3, ((wantsOn s p).map fun x => shareOf s p x.1 x.2).sum ≤ s.sct.tok.budget[p.val]) ∧
    (s.bkb.role = 2 → s.sct.domainMode = true → s.bkb.dfn % 500 = 0 → ∃ t, exec .sharingComputation s = .next t ∧
      ∀ (k : Fin 64) (p : Fin 3), ((t.sct.ledger[k.val]).target)[p.val] = memberTarget (refreshSelf s) k p) ∧
    (∀ (d : Digest) (rel : List Release), s.bkb.role = 1 → s.sct.domainMode = true → ∃ t, exec (.ledgerDigest d rel) s = .next t ∧
      t.sct.digest = some d ∧ t.sct.ledgerDoubt = false ∧ (s.sct.ledgerDoubt = true → t.sct.tok.spare = toVec 3 0 d.own) ∧
      (s.sct.tok.budgetEd < d.budgetEd → t.sct.tok.budgetEd = d.budgetEd ∧ t.sct.tok.budget = toVec 3 0 d.budget) ∧
      (∀ r ∈ t.sct.tok.recs, ∀ e ∈ rel, e.sender = r.sender → r.xid < e.closed.toNat → r.state = .accepted))

/-- R290, R292 to R295, R306, R309, R310: a change of MODE is taken with every outlet idle or disabled and discards the tokens; a local
current raises SPARE; cooled tokens are kept; an outlet that waits too long for 6 A stops with CAPACITY; a refused node asks again;
a budget with a higher edition is in force at once where the coordinator's SPARE covers what is taken away, and HELD follows it.
Readings of the model in it: logs 53, 89. -/
def Obligations.SiteRegistersAndBudget : Prop :=
  ∀ (s : State),
    (∀ v : W32, LinkUp s → (bitsOf v.toNat 16 8 < 10 ∨ 250 < bitsOf v.toNat 16 8) →
      exec (.sctModeWrite v) s = .next { s with sct := { s.sct with cfgReject := true } }) ∧
    (∀ v : W32, LinkUp s → 10 ≤ bitsOf v.toNat 16 8 → bitsOf v.toNat 16 8 ≤ 250 → bitAt v.toNat 0 = s.sct.domainMode →
      exec (.sctModeWrite v) s = .next { s with
        sct := { s.sct with capStopS := bitsOf v.toNat 8 8, xferExp := bitsOf v.toNat 16 8 } }) ∧
    (∀ (v : W32) (n : Outlet8), LinkUp s → bitAt v.toNat 0 ≠ s.sct.domainMode → (outOf s n).state ≠ .idle →
      (outOf s n).state ≠ .disabled → exec (.sctModeWrite v) s = .next { s with sct := { s.sct with cfgReject := true } }) ∧
    (∀ v : W32, LinkUp s → 10 ≤ bitsOf v.toNat 16 8 → bitsOf v.toNat 16 8 ≤ 250 → bitAt v.toNat 0 ≠ s.sct.domainMode →
      (∀ n : Outlet8, (outOf s n).state = .idle ∨ (outOf s n).state = .disabled) → ∃ t, exec (.sctModeWrite v) s = .next t ∧
        t.sct.domainMode = bitAt v.toNat 0 ∧
        t.sct.tok = (if bitAt v.toNat 0 then { domain := s.sct.tok.domain } else
          { domain := s.sct.tok.domain, spare := s.sct.localTok })) ∧
    (∀ (p : Fin 3) (v : W32), LinkUp s → s.sct.domainMode = false → s.sct.localTok[p.val] ≤ bitsOf v.toNat 0 16 →
      s.sct.tok.owed[p.val] = 0 → ∃ t, exec (.sctLocalWrite p v) s = .next t ∧ t.sct.localTok[p.val] = bitsOf v.toNat 0 16 ∧
        t.sct.tok.spare[p.val] = s.sct.tok.spare[p.val] + (bitsOf v.toNat 0 16 - s.sct.localTok[p.val])) ∧
    (s.isReady 6 = true → (∃ c ∈ s.sct.tok.cooling, c.untilTick ≤ s.now) →
      ∃ t, exec .coolingEnd s = .next t ∧ (∀ p : Fin 3, t.sct.tok.held p = s.sct.tok.held p) ∧
        ∀ c ∈ t.sct.tok.cooling, s.now < c.untilTick) ∧
    (∀ (n : Outlet8) t0, s.sct.capSince[n.val] = some t0 → s.isReady 6 = true → s.sct.capStopS ≠ 0 →
      t0 + 64000 * s.sct.capStopS ≤ s.now → (outOf s n).stopReq = none →
      ∃ t, exec (.capacityStop n) s = .next t ∧ (outOf t n).stopReq = some (s.now, .capacity)) ∧
    (∀ t0, s.sct.askAt = some t0 → s.sct.refused = true → t0 ≤ s.now → exec .joinRetry s = .next { s with
      sct := { s.sct with askAt := some (s.now + 3840000) }, bkb := { s.bkb with join := .asking } }) ∧
    (∀ (g : List Nat) (ed : W32), isCoord s = true → s.sct.domainMode = true → s.sct.tok.budgetEd < ed →
      (∀ p : Fin 3, s.sct.tok.budget[p.val] - g.getD p.val 0 ≤ s.sct.tok.spare[p.val]) →
      ∃ t, exec (.budgetRequest g ed) s = .next t ∧ t.sct.tok.budgetEd = ed ∧
        ∀ p : Fin 3, t.sct.tok.budget[p.val] = g.getD p.val 0 ∧
          t.sct.tok.held p + s.sct.tok.budget[p.val] = s.sct.tok.held p + g.getD p.val 0) ∧
    (∀ f, Front 0x0601 f s → (s.sct.domainMode = false ∨ BitVec.ofNat 32 (f.p 24 4) ≤ s.sct.tok.budgetEd) →
      exec .sctBudgetSet s = .next (complete f .conflict 0 (leBytes 4 s.sct.tok.budgetEd.toNat) none s)) ∧
    (∀ (f : Flight) (ed : W32) (g : List Nat), Front 0x0601 f s → s.sct.domainMode = true → isCoord s = false →
      ed = BitVec.ofNat 32 (f.p 24 4) → g = [f.p 16 2, f.p 18 2, f.p 20 2] → s.sct.tok.budgetEd < ed →
      exec .sctBudgetSet s = .next (cryTo (BitVec.ofNat 8 s.bkb.slot.val) (.budget g ed) (keepRunning f { s with
        sct := { s.sct with budgetWait := s.sct.budgetWait ++ [(f.seq, ed, g, s.now)] } }))) ∧
    (∀ (f : Flight) (ed : W32) (g : List Nat) t0, s.sct.budgetWait = [(f.seq, ed, g, t0)] → t0 + 640000 ≤ s.now →
      flight? f.seq s = some f → exec .sctBudgetSetTimeout s =
        .next (complete f .timeout 0 (leBytes 4 s.sct.tok.budgetEd.toNat) none { s with sct := { s.sct with budgetWait := [] } }))

/-- R307, R310: the reads of site current, and retirement. A retirement needs the coordinator, a member that has not been heard for 5 s,
and another slot than the coordinator's; where the member reports no open transfer it ends at once: the slot is free and the
member's last HELD is in the coordinator's SPARE. Readings of the model in it: log 125. -/
def Obligations.SiteReadsAndRetirement : Prop :=
  ∀ (s : State) (f : Flight),
    (Front 0x0602 f s → exec .sctRead s = .next (complete f .ok 0 [BitVec.ofNat 8 (sctRole s)] (some (sctBytes s)) s)) ∧
    (Front 0x0603 f s → isCoord s = false → exec .sctLedgerRead s = .next (completeSt f .conflict s)) ∧
    (Front 0x0603 f s → isCoord s = true → ∃ t u, exec .sctLedgerRead s = .next t ∧ u = refreshSelf s ∧
      t = complete f .ok 0 [64] (some ((allFin 64).flatMap (entryBytes u))) u ∧ u = { s with sct := u.sct }) ∧
    (Front 0x0604 f s → isCoord s = false → exec .sctRetire s = .next (completeSt f .conflict s)) ∧
    (∀ k : Fin 64, Front 0x0604 f s → isCoord s = true → slotOf s (BitVec.ofNat 64 (f.p 16 8)) = some k →
      (k = s.bkb.slot → exec .sctRetire s = .next (completeSt f .denied s)) ∧
      (k ≠ s.bkb.slot → (s.sct.ledger[k.val]).state = .absent → (s.sct.ledger[k.val]).lastTick + 320000 ≤ s.now →
        (s.sct.ledger[k.val]).xfers = [] → s.sct.retiring = [] → s.sct.tok.xfers = [] → s.sct.tok.taken = [] →
        ∃ t, exec .sctRetire s = .next t ∧ (t.sct.ledger[k.val]).state = .free ∧
          t.sct.tok.spare = Vector.ofFn fun p => s.sct.tok.spare[p.val] + ((s.sct.ledger[k.val]).held)[p.val])) ∧
    (∀ r t0, s.sct.retiring = [r] → r.flights = [(f.seq, t0)] → t0 + 640000 ≤ s.now → flight? f.seq s = some f →
      ∃ t, exec .sctRetireTimeout s = .next t ∧ t.sct = { s.sct with retiring := [{ r with flights := [] }] } ∧
        HostAndJournalOnly { s with sct := t.sct } t) ∧
    (Front 0x0604 f s → isCoord s = true → slotOf s (BitVec.ofNat 64 (f.p 16 8)) = none →
      exec .sctRetire s = .next (completeSt f .invalid s))

/-! ### The backbone and the uplink -/

/-- R314, R315, R317, R319 to R325: the frames. Coded bit p of a block goes to symbol p mod d, and a block whose erased symbols are no more
than the manual's burst for its depth and rate survives. D holds what fits of the containers that wait, in their order, and the rest waits. The
coordinator counts a frame every 128 ticks and keeps one of each run of 64 silent; frame 1 of 128 invites joins, its header before D; a decoded response ends the poll and shows its member present, an undecoded one is retried
twice. A node takes a header of its own domain with a higher DFN only, follows a new coordinator by joining again, and answers an
invitation while it asks to join, after 0 to 15 symbols and without its count ever falling; a coordinator gives way to a lower serial. Soundings give tone maps without the barred carriers;
routes are at most four for each slot; their mark of failure ends. Readings of the model in it: logs 94, 95, 184. -/
def Obligations.BackboneFrames : Prop :=
  (∀ (erased : List Bool) (c : Nat), erased ≠ [] → erasedBits erased c =
      ((List.range 4320).filter fun j => erased.getD (symbolOf erased.length (4320 * c + j)) false).length) ∧
  (∀ (rate : Fin 4) (code : Fin 3) (bps : Nat) (erased : List Bool), erased.length = depthOf code.val → 4320 ≤ depthOf code.val * bps →
      erased.count true ≤ ((([[6, 12, 25], [4, 8, 16], [2, 5, 11], [1, 3, 6]] : List (List Nat)).getD rate.val []).getD code.val 0) →
      withinFraction rate.val bps erased = true) ∧
  (∀ (space : Nat) (l : List (Byte × BkbOut)), ((takeFit space l).1.map fun c => (c.2.bytes c.1).length).sum ≤ space ∧
    (takeFit space l).1 ++ (takeFit space l).2 = l ∧
    ∀ c cs, (takeFit space l).2 = c :: cs → space < (((takeFit space l).1 ++ [c]).map fun c => (c.2.bytes c.1).length).sum) ∧
  ∀ (s : State), bkbOn s = true →
    (s.bkb.role = 2 → s.now % 128 = 0 → s.bkb.frameTick ≠ s.now → ∃ t, exec .backboneFrame s = .next t ∧
      t.bkb.dfn = (s.bkb.dfn + 1) % 2 ^ 32 ∧ t.bkb.frameTick = s.now ∧
      (t.bkb.dfn % 64 ≠ 0 → t.bkb.dfn % 64 = s.bkb.silentAt → t.outbox = s.outbox) ∧
      (t.bkb.dfn % 128 = 1 → s.bkb.silentAt ≠ 1 → ∃ (h : Header) (u : State), t = sendD (nextPiece u) ∧
        u.outbox = .bkb (.header h (headerCarriers s.bkb.notch h)) (headerBytes h) :: s.outbox ∧ u.bkb.dQueue = s.bkb.dQueue ∧ h.uRole = 4 ∧
        h.dfn.toNat = t.bkb.dfn ∧ h.coord = s.fuse.serial ∧ h.domain = s.bkb.domain)) ∧
    (∀ (p : Poll) (n : Option Nat), s.bkb.role = 2 → s.bkb.poll = some p → p.left ≤ p.relays.length →
      (∀ rx : SegmentRx, withinFraction s.bkb.rateNow rx.bps ((rx.quiet.take 22).map (erasedSymbol rx.floor)) = true → rx.clean = true →
        ∃ t, exec (.pollResponse p.slot (some rx) [] n) s = .next t ∧ t.bkb.poll = none ∧
          (t.sct.ledger[p.slot.val]).lastTick = s.now ∧ (t.sct.ledger[p.slot.val]).state ≠ .absent) ∧
      (p.retries < 2 → ∀ u l, (∀ rx, u = some rx →
          withinFraction s.bkb.rateNow rx.bps ((rx.quiet.take 22).map (erasedSymbol rx.floor)) = false) →
        exec (.pollResponse p.slot u l n) s = .next { s with bkb := { s.bkb with
          poll := some { p with left := 2 * p.relays.length + 1, retry := true, retries := p.retries + 1 } } })) ∧
    (∀ (h : Header) (rx : SegmentRx), (h.crcOk = false ∨ h.domain ≠ s.bkb.domain) → exec (.frameHeader (h, rx)) s = .next s) ∧
    (∀ (h : Header) (rx : SegmentRx), h.crcOk = true → h.domain = s.bkb.domain →
      (∀ d, s.bkb.role = 1 → s.bkb.lastDfn = some d → h.dfn.toNat ≤ d → exec (.frameHeader (h, rx)) s = .next s) ∧
      (∀ d, s.bkb.role = 1 → s.bkb.lastDfn = some d → d < h.dfn.toNat → h.coord = s.bkb.coord →
        ∃ t, exec (.frameHeader (h, rx)) s = .next t ∧ t.bkb.dfn = h.dfn.toNat ∧ t.bkb.lastDfn = some h.dfn.toNat ∧
          t.bkb.headerTick = s.now ∧ t.bkb.gw = h.gw ∧ t.bkb.role = 1) ∧
      (s.bkb.role = 1 → s.bkb.lastDfn = none → h.coord ≠ s.bkb.coord →
        ∃ t, exec (.frameHeader (h, rx)) s = .next t ∧ t.bkb.role = 0 ∧ t.bkb.join = .asking ∧ t.bkb.coord = h.coord) ∧
      (s.bkb.role = 0 → s.bkb.join = .asking → h.uRole = 4 → ∀ c, c = max s.bkb.dfn h.dfn.toNat →
        ∃ t x b, exec (.frameHeader (h, rx)) s = .next t ∧ x < 16 ∧
          t.bkb = { s.bkb with dfn := c, lastDfn := some c, headerTick := s.now } ∧
          t.outbox = .bkb (.joinRequest s.fuse.serial (BitVec.ofNat 32 c) x) b :: s.outbox) ∧
      (s.bkb.role = 2 → h.coord < s.fuse.serial →
        ∃ t, exec (.frameHeader (h, rx)) s = .next t ∧ t.bkb.role = 0 ∧ t.bkb.join = .asking ∧ t.bkb.coord = h.coord) ∧
      (s.bkb.role = 2 → s.fuse.serial < h.coord → exec (.frameHeader (h, rx)) s = .next s)) ∧
    (∀ (k : Fin 64) (snr : List Nat), s.bkb.role = 1 → k ≠ s.bkb.slot → ∃ t, exec (.sounding k snr) s = .next t ∧
      (k, toneMap s.bkb.notchNow snr) ∈ t.bkb.maps ∧
      ∀ c, c < 1024 → barred s.bkb.notchNow c = true → (toneMap s.bkb.notchNow snr).getD c 1 = 0) ∧
    (∀ links, s.bkb.role = 2 → ∃ t, exec (.surveyReport links) s = .next t ∧ t.bkb.links = links.foldl mergeLink s.bkb.links ∧
      ∀ k : Fin 64, (t.bkb.atlas[k.val]).length ≤ 4) ∧
    ∃ t, exec .routeFailedExpiry s = .next t ∧
      ∀ (k : Fin 64), ∀ r ∈ t.bkb.atlas[k.val], ∀ t0, r.failedUntil = some t0 → s.now < t0

/-- R294, R295, R307, R318 to R321: membership. A join request raises the frame count, finds the member's slot or takes the first free
one, and is refused where none is left, all of it answered in D; the answer makes a member, refuses or discards. A node that hears no header
for 1 s becomes the coordinator in its own slot and keeps the slots it knows of; a member that hears none for 0.5 s listens again and keeps
its slot. Readings of the model in it: log 91. -/
def Obligations.BackboneMembership : Prop :=
  ∀ (s : State), bkbOn s = true →
    (∀ (serial : W64) (count : W32), s.bkb.role = 2 → ∃ t, exec (.joinRequest serial count) s = .next t ∧
      t.bkb.dfn = max s.bkb.dfn count.toNat ∧
      (s.sct.retired.contains serial = true → t.bkb.dQueue = s.bkb.dQueue ++ [(0xFF, .joinAnswer serial .retired)] ∧
        t.sct.retired.contains serial = false) ∧
      (s.sct.retired.contains serial = false → ∀ k, slotOf s serial = some k →
        t.bkb.dQueue = s.bkb.dQueue ++ [(0xFF, .joinAnswer serial (.slot k))] ∧ (t.sct.ledger[k.val]).lastTick = s.now) ∧
      (s.sct.retired.contains serial = false → slotOf s serial = none → ∀ k : Fin 64, (s.sct.ledger[k.val]).state = .free →
        (∀ j : Fin 64, j < k → (s.sct.ledger[j.val]).state ≠ .free) → t.bkb.dQueue = s.bkb.dQueue ++ [(0xFF, .joinAnswer serial (.slot k))] ∧
        (t.sct.ledger[k.val]).serial = serial ∧ (t.sct.ledger[k.val]).state = .present) ∧
      (s.sct.retired.contains serial = false → slotOf s serial = none → (∀ k : Fin 64, (s.sct.ledger[k.val]).state ≠ .free) →
        t.bkb.dQueue = s.bkb.dQueue ++ [(0xFF, .joinAnswer serial .refused)])) ∧
    (s.bkb.join = .asking → ∀ coord : W64,
      (∀ k : Fin 64, ∃ t, exec (.joinAnswer s.bkb.domain coord (.slot k)) s = .next t ∧ t.bkb.role = 1 ∧ t.bkb.slot = k ∧
        t.bkb.coord = coord ∧ t.bkb.join = .joined ∧ t.sct.tok.domain = s.bkb.domain ∧ t.isReady 7 = true) ∧
      (∃ t, exec (.joinAnswer s.bkb.domain coord .refused) s = .next t ∧ t.bkb.role = 3 ∧ t.sct.refused = true ∧
        t.sct.askAt = some (s.now + 3840000) ∧ (s.sct.domainMode = true → t.sct.tok = { domain := s.sct.tok.domain }) ∧
        (s.sct.domainMode = false → t.sct.tok = s.sct.tok)) ∧
      (s.sct.domainMode = true → ∃ t, exec (.joinAnswer s.bkb.domain coord .retired) s = .next t ∧
        t.sct.tok = { domain := s.sct.tok.domain } ∧ t.bkb = s.bkb) ∧
      (∀ d r, d ≠ s.bkb.domain → exec (.joinAnswer d coord r) s = .next s)) ∧
    (∀ t0, s.bkb.coordEn = true → s.bkb.role = 0 → s.bkb.join = .listening t0 → t0 + 64000 ≤ s.now →
      s.bkb.headerTick + 64000 ≤ s.now → ∃ t, exec .becomeCoordinator s = .next t ∧ t.bkb.role = 2 ∧
        t.bkb.slot = coordSlot s ∧ t.bkb.coord = s.fuse.serial ∧ (t.sct.ledger[(coordSlot s).val]).serial = s.fuse.serial ∧
        (t.sct.ledger[(coordSlot s).val]).state = .present ∧
        ∀ k : Fin 64, k ≠ coordSlot s →
          ((s.sct.ledger[k.val]).state = .free → (t.sct.ledger[k.val]).state = .free) ∧
          ((s.sct.ledger[k.val]).state ≠ .free → (t.sct.ledger[k.val]).serial = (s.sct.ledger[k.val]).serial ∧
            (t.sct.ledger[k.val]).state = (if (s.sct.ledger[k.val]).state = .retiring then .retiring else .absent))) ∧
    (s.bkb.role = 1 → s.bkb.headerTick + 32000 ≤ s.now → ∃ t, exec .headerLossRejoin s = .next t ∧ t.bkb.role = 0 ∧
      t.bkb.join = .listening s.now ∧ t.bkb.slot = s.bkb.slot)

/-- R316, R326, R327, R336, R337: the backbone's registers and descriptors. Values out of range set CFG_REJECT; a change of EN or of the
domain leaves the domain; a notch must leave 448 carriers. A relay starts for an image that the node holds in full and ends at
BKB_RELAY_STOP; a piece is stored where its image is armed for reception from the backbone. Readings of the model in it: log 96. -/
def Obligations.BackboneCommands : Prop :=
  ∀ (s : State) (f : Flight),
    (∀ v : W32, LinkUp s → (bitsOf v.toNat 2 2 = 3 ∨ 8 < bitsOf v.toNat 8 4) →
      exec (.bkbCfgWrite false v) s = .next { s with bkb := { s.bkb with cfgReject := true } }) ∧
    (∀ v : W32, LinkUp s → bitsOf v.toNat 2 2 ≠ 3 → bitsOf v.toNat 8 4 ≤ 8 → ∃ t, exec (.bkbCfgWrite false v) s = .next t ∧
      t.bkb.en = bitAt v.toNat 0 ∧ t.bkb.coordEn = bitAt v.toNat 1 ∧ t.bkb.depth = bitsOf v.toNat 2 2 ∧
      t.bkb.rate = bitsOf v.toNat 4 2 ∧ t.bkb.relayShare = bitsOf v.toNat 8 4 ∧
      (bitAt v.toNat 0 = s.bkb.en → t.bkb.role = s.bkb.role) ∧ (bitAt v.toNat 0 ≠ s.bkb.en → t.bkb.role = 0)) ∧
    (∀ v : W32, LinkUp s → v ≠ s.bkb.domain → ∃ t, exec (.bkbCfgWrite true v) s = .next t ∧ t.bkb.domain = v ∧ t.bkb.role = 0) ∧
    (∀ (k : Fin 16) (v : W32) (n : Notch) all, LinkUp s →
      n = { first := bitsOf v.toNat 0 10, last := bitsOf v.toNat 16 10, en := bitAt v.toNat 31 } → all = s.bkb.notch.set k.val n →
      (n.en = true → n.first ≤ n.last) → 448 ≤ ((List.range 1024).filter fun c => !barred all c).length →
      exec (.bkbNotchWrite k v) s = .next { s with bkb := { s.bkb with notch := all } }) ∧
    (∀ (k : Fin 16) (v : W32), LinkUp s → bitAt v.toNat 31 = true → bitsOf v.toNat 16 10 < bitsOf v.toNat 0 10 →
      exec (.bkbNotchWrite k v) s = .next { s with bkb := { s.bkb with cfgReject := true } }) ∧
    (Front 0x0704 f s → s.bkb.role = 2 →
      exec .bkbAtlasRead s = .next (complete f .ok 0 [64] (some ((allFin 64).flatMap (atlasBytes s))) s)) ∧
    (Front 0x0704 f s → s.bkb.role ≠ 2 → exec .bkbAtlasRead s = .next (completeSt f .conflict s)) ∧
    (Front 0x0705 f s → s.bkb.relay = none → heldImage (BitVec.ofNat 32 (f.p 16 4)) s = none →
      exec .bkbRelayStart s = .next (completeSt f .denied s)) ∧
    (∀ x, Front 0x0705 f s → s.bkb.relay = none → heldImage (BitVec.ofNat 32 (f.p 16 4)) s = some x →
      ∃ t, exec .bkbRelayStart s = .next t ∧
        t.bkb = { s.bkb with relay := some { imageId := BitVec.ofNat 32 (f.p 16 4), pieces := (imageSlot s x).pieces, slot := x } } ∧
        JournalAndEventsOnly { s with bkb := t.bkb } t) ∧
    (Front 0x0706 f s → s.bkb.relay = none → exec .bkbRelayStop s = .next (completeSt f .conflict s)) ∧
    (∀ r, Front 0x0706 f s → s.bkb.relay = some r → ∃ t, exec .bkbRelayStop s = .next t ∧ t.bkb = { s.bkb with relay := none } ∧
      JournalAndEventsOnly { s with bkb := t.bkb } t) ∧
    (∀ x idx (data : List Byte), bkbOn s = true → armedSlot s = some x → x.sources.getLsbD 1 = true → idx < x.pieces → idx < 5120 →
      x.bitmap.getLsbD idx = false → ∃ t, exec (.firmwarePiece x.imageId idx data) s = .next t ∧
        (imageSlot t (otherSlot s)).bitmap.getLsbD idx = true ∧
        (∀ j, j < 64 → (wordAt .mram (pieceWord (otherSlot s) idx + j) t).data = BitVec.ofNat 64 (leNat (slice (slice data 0 512) (8 * j) 8))) ∧
        (s.bkb.role = 2 → t.bkb.pieces = s.bkb.pieces ++ [(x.imageId, idx, slice data 0 512)]) ∧
        (s.bkb.role ≠ 2 → t.bkb = s.bkb)) ∧
    (Front 0x0705 f s → s.bkb.relay.isSome = true → exec .bkbRelayStart s = .next (completeSt f .conflict s))

/-- R329, R330, R337: envelopes. A send takes the next SEQ and leaves at once on the active path A; a full queue is BUSY. The
coordinator passes envelopes of other members on. An envelope of the gateway acknowledges what it names, and new data is delivered
once, to a waiting receiver first; data seen before changes no queue. What is unacknowledged 50 ms after it was last sent is sent again, on
path B with the node's next response; acknowledgements go out on the active path, in dual-send mode on the path last heard. Readings of the model in it: log 53. -/
def Obligations.UplinkEnvelopes : Prop :=
  ∀ (s : State) (f : Flight),
    (Front 0x0701 f s → s.upl.en = false → exec .bkbUplSend s = .next (completeSt f .conflict s)) ∧
    (Front 0x0701 f s → s.upl.en = true → 64 ≤ s.upl.out.length → exec .bkbUplSend s = .next (completeSt f .busy s)) ∧
    (∀ e, Front 0x0701 f s → uplOn s = true → s.upl.out.length < 64 → s.upl.dual = false → s.upl.activeB = false → s.upl.hinge = none →
      (∀ e ∈ s.upl.out, e.seq ≠ s.upl.nextSeq) →
      e = ({ kind := 0, serial := s.fuse.serial, epoch := s.upl.epoch, seq := BitVec.ofNat 32 s.upl.nextSeq,
             ack := BitVec.ofNat 32 s.upl.inAck, path := 0, dual := false, payload := f.inBuf } : Envelope) →
      ∃ t, exec .bkbUplSend s = .next t ∧ t.upl.nextSeq = s.upl.nextSeq + 1 ∧
        t.upl.out = s.upl.out ++ [{ seq := s.upl.nextSeq, payload := f.inBuf, sentTick := some s.now }] ∧
        .envelope e (etherBytes s (envelopeBytes e)) ∈ t.outbox) ∧
    (Front 0x0702 f s → (f.p 16 2 < 10 ∨ 60000 < f.p 16 2) → exec .bkbUplRecv s = .next (completeSt f .invalid s)) ∧
    (Front 0x0702 f s → 10 ≤ f.p 16 2 → f.p 16 2 ≤ 60000 → s.hif.run = false →
      exec .bkbUplRecv s = .next (completeSt f .timeout s)) ∧
    (Front 0x0702 f s → 10 ≤ f.p 16 2 → f.p 16 2 ≤ 60000 → s.hif.run = true → s.upl.inbound = [] → exec .bkbUplRecv s = .next (keepRunning f { s with
      upl := { s.upl with waits := s.upl.waits ++ [(f.seq, s.now + 64 * f.p 16 2)] } })) ∧
    (∀ e es, Front 0x0702 f s → 10 ≤ f.p 16 2 → f.p 16 2 ≤ 60000 → s.hif.run = true → s.upl.inbound = e :: es → s.upl.waits = [] →
      ∃ t, exec .bkbUplRecv s = .next t ∧ t.upl = { s.upl with inbound := es } ∧ HostAndJournalOnly { s with upl := t.upl } t) ∧
    (∀ t0, s.upl.waits = [(f.seq, t0)] → t0 ≤ s.now → flight? f.seq s = some f →
      exec .bkbUplRecvTimeout s = .next (complete f .timeout 0 [] none { s with upl := { s.upl with waits := [] } })) ∧
    (∀ (p : NetPath) (e : Envelope), e.serial = s.fuse.serial → uplOn s = true → e.payload.length ≤ 1476 →
      ∃ t, exec (.uplinkEnvelope p e) s = .next t ∧ t.upl.inEpoch = some e.epoch ∧ t.upl.heardB = decide (p = .b) ∧
        (p = .a → t.upl.aOk = true ∧ t.upl.lastA = s.now) ∧ (p = .b → t.upl.bOk = true ∧ t.upl.lastB = s.now)) ∧
    (∀ (p : NetPath) (e : Envelope), e.serial = s.fuse.serial → uplOn s = true → e.payload.length ≤ 1476 → e.kind = 0 →
      s.upl.inEpoch = some e.epoch → s.upl.waits = [] → s.upl.drill = none → s.upl.hinge = none →
      (s.upl.inAck < e.seq.toNat → s.upl.inAhead.contains e.seq.toNat = false → s.upl.inbound.length < 64 →
        ∃ t, exec (.uplinkEnvelope p e) s = .next t ∧
          t.upl.inbound = s.upl.inbound ++ [{ seq := e.seq.toNat, payload := e.payload, path := b2n (decide (p = .b)) }] ∧
          t.upl.ackOwed.isSome = true ∧ (e.seq.toNat = s.upl.inAck + 1 → e.seq.toNat ≤ t.upl.inAck)) ∧
      (e.seq.toNat ≤ s.upl.inAck → ∃ t, exec (.uplinkEnvelope p e) s = .next t ∧ t.upl.inbound = s.upl.inbound ∧
        t.upl.inAck = s.upl.inAck ∧ t.upl.ackOwed.isSome = true)) ∧
    (∀ e ∈ s.upl.out, ∀ t0, e.sentTick = some t0 → t0 + 3200 ≤ s.now → e.seq ∈ dueAgain s) ∧
    (uplOn s = true → s.upl.dual = false → s.upl.hinge = none → dueAgain s ≠ [] →
      (s.upl.activeB = false → ∃ t, exec .envelopeRetransmit s = .next t ∧
        (∀ q ∈ dueAgain s, .envelope (ownEnvelope s false 0 q) (etherBytes s (envelopeBytes (ownEnvelope s false 0 q))) ∈ t.outbox ∧
          ∀ e ∈ t.upl.out, e.seq = q → e.sentTick = some s.now) ∧ t.upl.ackTick = s.now ∧ t.upl.ackOwed = none) ∧
      (s.upl.activeB = true → ∃ t, exec .envelopeRetransmit s = .next t ∧ t.outbox = s.outbox ∧ t.upl.out = s.upl.out ∧
        ∀ q ∈ dueAgain s, q < 2 ^ 32 → waitsB t 0 q = true)) ∧
    (∀ (e : Envelope) (k : Fin 64), e.serial ≠ s.fuse.serial → s.rst.codUp = true → s.imageRuns = true → s.bkb.role = 2 →
      slotOf s e.serial = some k → e.payload.length ≤ 1476 →
      exec (.uplinkEnvelope .a e) s = .next (queueD (BitVec.ofNat 8 k.val) (.envelope e) s) ∧
      (s.bkb.speed ≠ 3 → exec (.uplinkEnvelope .b e) s = .next (sendEther e s))) ∧
    (∀ e, uplOn s = true → s.upl.hinge = none → s.upl.ackOwed.isSome = true → (s.upl.dual = true ∧ s.upl.heardB = false ∨
      s.upl.dual = false ∧ s.upl.activeB = false) →
      e = ({ kind := 1, serial := s.fuse.serial, epoch := s.upl.epoch, seq := 0, ack := BitVec.ofNat 32 s.upl.inAck, path := 0,
             dual := s.upl.dual, payload := [] } : Envelope) → exec .ackEnvelopeSend s =
      .next { s with upl := { s.upl with ackOwed := none, ackTick := s.now },
                     outbox := .envelope e (etherBytes s (envelopeBytes e)) :: s.outbox }) ∧
    (uplOn s = true → s.upl.hinge = none → s.upl.ackOwed.isSome = true → (s.upl.dual = true ∧ s.upl.heardB = true ∨
      s.upl.dual = false ∧ s.upl.activeB = true) → exec .ackEnvelopeSend s =
      .next { s with upl := { s.upl with ackOwed := none, ackTick := s.now, bQueue := s.upl.bQueue ++
        (if waitsB s 1 0 then [] else [ownEnvelope s true 1 0]) } })

/-- R331 to R336: the paths. The loss of the link or 300 ms of silence on the active path starts a hinge to the other one, and ends a drill on
it as a path that is dead; a path that is heard again recovers; a hinge without proof in 300 ms sets GEN_REPLACE, and the paths are tried in turn every second. A drill
needs a second path that is up; one that the gateway does not answer hinges back. Readings of the model in it: logs 98, 99. -/
def Obligations.UplinkPaths : Prop :=
  ∀ (s : State) (f : Flight),
    (s.rst.codUp = true → ∃ t, exec .phyLinkDown s = .next t ∧ t.upl.aOk = false ∧ t.bkb.speed = 3 ∧ t.isReady 17 = false ∧
      (uplOn s = true → s.upl.aOk = true → s.upl.dual = false → s.upl.activeB = false → s.upl.hinge = none →
        (s.upl.drill = none → t.upl.hinge = some (s.now, true, 0)) ∧
        (∀ d, s.upl.drill = some d → d.mode ≠ 0 → d.step = 1 → t.upl.hinge = some (s.now, true, 4) ∧
          t.upl.drill = some { d with step := 2 } ∧ t.gen.replace.getLsbD 6 = true))) ∧
    (∀ k : Fin 3, s.rst.codUp = true → s.imageRuns = true →
      ∃ t, exec (.phyLinkUp k) s = .next t ∧ t.upl.aOk = true ∧ t.bkb.speed = k.val ∧ t.isReady 17 = true) ∧
    (∀ p : NetPath, uplOn s = true → s.upl.dual = false → s.upl.activeB = decide (p = .b) → s.upl.hinge = none → s.upl.proveBy = none →
      s.upl.trying = none → s.upl.drill = none → (if p = .b then s.upl.lastB else s.upl.lastA) + 19200 ≤ s.now →
      pathOk s (decide (p = .b)) = true → ∃ t, exec (.gatewaySilent p) s = .next t ∧ pathOk t (decide (p = .b)) = false ∧
        t.upl.hinge = some (s.now, !decide (p = .b), 1)) ∧
    (∀ t0, s.upl.proveBy = some t0 → uplOn s = true → t0 ≤ s.now → ∃ t, exec .hingeProofTimeout s = .next t ∧
      t.upl.proveBy = none ∧ t.upl.trying = some s.now ∧ pathOk t s.upl.activeB = false ∧ t.gen.replace.getLsbD 6 = true) ∧
    (∀ t0, s.upl.trying = some t0 → uplOn s = true → t0 + 64000 ≤ s.now → ∃ t, exec .pathTrySwitch s = .next t ∧
      t.upl.activeB = !s.upl.activeB ∧ t.upl.trying = some s.now) ∧
    (Front 0x0703 f s → 2 < f.p 16 1 → exec .bkbUplSwitch s = .next (completeSt f .invalid s)) ∧
    (Front 0x0703 f s → f.p 16 1 ≤ 2 → s.upl.en = true → s.upl.dual = false → s.bkb.role ≠ 2 → s.upl.drill = none →
      (standbyDown s = true → exec .bkbUplSwitch s = .next (completeSt f .denied s)) ∧
      (standbyDown s = false → exec .bkbUplSwitch s = .next (keepRunning f { s with upl := { s.upl with
        hinge := some (s.now, !s.upl.activeB, 4), bQueue := [], proveBy := none, trying := none,
        drill := some { flight := f.seq, mode := f.p 16 1, start := s.now } } }))) ∧
    (∀ d, s.upl.drill = some d → uplOn s = true → d.step = 1 → d.start + 19200 ≤ s.now → ∃ t, exec .drillTimeout s = .next t ∧
      t.upl.hinge = some (s.now, !s.upl.activeB, 4) ∧ t.upl.drill = some { d with step := 2 } ∧
      pathOk t s.upl.activeB = false ∧ t.gen.replace.getLsbD 6 = true) ∧
    (∀ v : W32, LinkUp s → s.upl.en = true → bitAt v.toNat 1 ≠ s.upl.dual →
      exec (.bkbUplCfgWrite v) s = .next { s with upl := { s.upl with cfgReject := true } }) ∧
    (∀ v : W32, LinkUp s → s.upl.en = false → ∃ t, exec (.bkbUplCfgWrite v) s = .next t ∧ t.upl.en = bitAt v.toNat 0 ∧
      t.upl.dual = bitAt v.toNat 1 ∧ t.upl.preferB = bitAt v.toNat 2 ∧
      (bitAt v.toNat 0 = true → t.upl.activeB = bitAt v.toNat 2)) ∧
    (∀ v : W32, LinkUp s → s.upl.en = true → bitAt v.toNat 0 = false → bitAt v.toNat 1 = s.upl.dual → s.upl.drill = none →
      ∃ t, exec (.bkbUplCfgWrite v) s = .next t ∧ t.upl.en = false ∧ t.upl.hinge = none ∧ t.upl.bQueue = []) ∧
    (Front 0x0703 f s → f.p 16 1 ≤ 2 → (s.upl.en = false ∨ s.upl.dual = true ∨ s.bkb.role = 2 ∨ s.upl.drill.isSome = true) →
      exec .bkbUplSwitch s = .next (completeSt f .conflict s))

/-! ### Cards, the list and the service tag -/

/-- R339 to R343: the reader. A ping that differs too little from the baseline joins it, and two of them in a row end a presentation; one that
differs more polls by the protocols in their order; the third empty poll in a row sets the baseline; a card is reported once and an ISO-DEP
card keeps the field for 5 s, at the bit rate that MAXRATE allows and for one exchange at a time. Readings of the model in it: logs 85, 100, 101. -/
def Obligations.CardReader : Prop :=
  ∀ (s : State),
    (∀ amp cards, s.isReady 8 = true → pingDue s = true → s.nfc.applyCfg.en = true →
      (triggers s.nfc.applyCfg.thresh amp s.nfc.pings = false → ∃ t, exec (.nfcPing amp cards) s = .next t ∧
        t.nfc.pings = (amp :: s.nfc.pings).take 8 ∧ t.nfc.pingTick = some s.now ∧ (1 ≤ s.nfc.calm → t.nfc.reported = false)) ∧
      (triggers s.nfc.applyCfg.thresh amp s.nfc.pings = true → s.nfc.heldUntil.isSome = true →
        exec (.nfcPing amp cards) s = .next { s with nfc := { s.nfc.applyCfg with pingTick := some s.now, calm := 0 } }) ∧
      (triggers s.nfc.applyCfg.thresh amp s.nfc.pings = true → s.nfc.heldUntil = none → ∃ t, exec (.nfcPing amp cards) s = .next t ∧
        (∀ o ∈ s.nfc.applyCfg.protocols cards, .rf o ∈ t.outbox) ∧
        (s.nfc.applyCfg.anticollision cards = .nothing → s.nfc.misses = 2 → t.nfc.pings = List.replicate 8 amp ∧ t.nfc.misses = 0) ∧
        (∀ k, s.nfc.applyCfg.anticollision cards = .several k → t.nfc.reported = true ∧ t.nfc.heldUntil = none) ∧
        (∀ c : Card, s.nfc.applyCfg.anticollision cards = .one c → s.nfc.reported = false → t.nfc.reported = true ∧ t.nfc.misses = 0 ∧
          (c.isoDep = true → c.ktype ≠ 3 → t.nfc.heldUntil = some (s.now + 320000) ∧ t.nfc.rate = min c.rate s.nfc.applyCfg.maxRate) ∧
          ((c.isoDep = false ∨ c.ktype = 3) → t.nfc.heldUntil = none)))) ∧
    (∀ t0, s.nfc.heldUntil = some t0 → t0 ≤ s.now → exec .nfcFieldHoldEnd s = .next { s with
      nfc := { s.nfc with heldUntil := none }, outbox := .field false :: s.outbox }) ∧
    (∀ t0, s.nfc.heldUntil = some t0 → exec .isoDepCardLeft s = .next { s with
      nfc := { s.nfc with heldUntil := none }, outbox := .field false :: s.outbox }) ∧
    (∀ f, Front 0x0806 f s →
      (s.nfc.heldUntil = none → exec .nfcExchange s = .next (completeSt f .conflict s)) ∧
      (s.nfc.heldUntil.isSome = true → s.nfc.exchange.isSome = true → exec .nfcExchange s = .next (completeSt f .busy s)) ∧
      (s.nfc.heldUntil.isSome = true → s.nfc.exchange = none → exec .nfcExchange s = .next (emit (.apdu f.inBuf) (keepRunning f { s with
        nfc := { s.nfc with exchange := some (f.seq, s.now) } })))) ∧
    (∀ (f : Flight) t0, s.nfc.exchange = some (f.seq, t0) → flight? f.seq s = some f →
      (∀ ans : List Byte, s.nfc.heldUntil.isSome = true → s.now ≤ t0 + 320000 → ∀ n, n = min 258 ans.length →
        exec (.nfcExchangeAnswer ans) s =
          .next (complete f .ok 0 (leBytes 2 n) (some (ans.take n)) { s with nfc := { s.nfc with exchange := none } })) ∧
      (t0 + 320000 ≤ s.now → exec .nfcExchangeTimeout s =
        .next (complete f .timeout 0 [] none { s with nfc := { s.nfc with exchange := none } })))

/-- R344 to R348, R358: the authorisation list. A write replaces the entry of the same key, else takes a free index, else evicts a
cached entry, else is TABLE_FULL; lookup refreshes what it finds; delete, clear and the day edge remove what they name. Readings of
the model in it: logs 83, 84, 86. -/
def Obligations.AuthorisationList : Prop :=
  ∀ (s : State) (f : Flight),
    (Front 0x0801 f s → (f.bufLen % 32 ≠ 0 ∨ f.bufLen = 0 ∨ 16384 < f.bufLen) →
      exec .nfcListWrite s = .next (completeSt f .invalid s)) ∧
    (∀ e : ListEntry, Front 0x0801 f s → f.bufLen = 32 → parseBatch 1 f.inBuf = some [e] →
      (∀ old, listFind e.ktype e.klen e.key s = some old → ∃ t, exec .nfcListWrite s = .next t ∧
        t.nfc.entries = sparseSet {} s.nfc.entries old.1 e ∧ t.nfc.recency.head? = some old.1) ∧
      (listFind e.ktype e.klen e.key s = none → s.nfc.entries.length < 16384 → ∃ t i, exec .nfcListWrite s = .next t ∧ i < 16384 ∧
        (∀ x ∈ s.nfc.entries, x.1 ≠ i) ∧ t.nfc.entries = sparseSet {} s.nfc.entries i e ∧ t.nfc.recency.head? = some i) ∧
      (listFind e.ktype e.klen e.key s = none → 16384 ≤ s.nfc.entries.length →
        (∀ i, evictIndex s = some i → ∃ t, exec .nfcListWrite s = .next t ∧ t.nfc.entries = sparseSet {} s.nfc.entries i e) ∧
        ((∀ x ∈ s.nfc.entries, x.2.pinned = true) →
          exec .nfcListWrite s = .next (complete f .tableFull 0 (leBytes 2 0 ++ leBytes 2 0) none s)))) ∧
    (∀ kt kl key, f.listKey = some (kt, kl, key) →
      (∀ i e, listFind kt kl key s = some (i, e) →
        (Front 0x0802 f s → ∃ t, exec .nfcListDelete s = .next t ∧ t.nfc.entries = sparseSet {} s.nfc.entries i {}) ∧
        (Front 0x0804 f s → ∃ t, exec .nfcListLookup s = .next t ∧ t.nfc.entries = s.nfc.entries ∧
          t.nfc.recency = i :: s.nfc.recency.filter fun j => j != i)) ∧
      (listFind kt kl key s = none →
        (Front 0x0802 f s → exec .nfcListDelete s = .next (complete f .ok 1 (leBytes 2 0xFFFF) none s)) ∧
        (Front 0x0804 f s → exec .nfcListLookup s = .next (complete f .ok 0 ([0] ++ leBytes 2 0xFFFF) none s)))) ∧
    (Front 0x0803 f s → (f.p 16 1 = 0 ∨ 3 < f.p 16 1) → exec .nfcListClear s = .next (completeSt f .invalid s)) ∧
    (Front 0x0803 f s → 1 ≤ f.p 16 1 → f.p 16 1 ≤ 3 → sparseWf ({} : ListEntry) s.nfc.entries = true →
      ∃ t, exec .nfcListClear s = .next t ∧ ∀ x, x ∈ t.nfc.entries ↔
        x ∈ s.nfc.entries ∧ (if x.2.pinned then bitAt (f.p 16 1) 1 else bitAt (f.p 16 1) 0) = false) ∧
    (∀ first n, Front 0x0805 f s → first = f.p 16 2 → n = f.p 18 2 → 1 ≤ n → n ≤ 512 → first + n ≤ 16384 → f.bufLen = 32 * n →
      exec .nfcListRead s = .next (complete f .ok 0 (leBytes 2 n) (some ((List.range n).flatMap fun k =>
        if (sparseGet {} s.nfc.entries (first + k)).ktype = 0 then List.replicate 32 0
        else (sparseGet {} s.nfc.entries (first + k)).bytes)) s)) ∧
    (s.isReady 18 = true → s.nfc.saveTick + 3840000 ≤ s.now → exec .listRecencySave s = .next { s with
      nfc := { s.nfc with saved := s.nfc.recency, saveTick := s.now } }) ∧
    (s.isReady 18 = true → s.clk.unsynced = true → exec .authListExpiry s = .next s) ∧
    (s.isReady 18 = true → s.clk.unsynced = false → sparseWf ({} : ListEntry) s.nfc.entries = true →
      ∃ t, exec .authListExpiry s = .next t ∧ ∀ x, x ∈ t.nfc.entries ↔
        x ∈ s.nfc.entries ∧ (x.2.expiry = 0 ∨ s.clk.sec / 86400 ≤ x.2.expiry)) ∧
    (f.listKey = none → (Front 0x0802 f s → exec .nfcListDelete s = .next (completeSt f .invalid s)) ∧
      (Front 0x0804 f s → exec .nfcListLookup s = .next (completeSt f .invalid s))) ∧
    (Front 0x0805 f s → (f.p 18 2 = 0 ∨ 512 < f.p 18 2 ∨ 16384 < f.p 16 2 + f.p 18 2 ∨ f.bufLen ≠ 32 * f.p 18 2) →
      exec .nfcListRead s = .next (completeSt f .invalid s))

/-- R350 to R356: the tag in a field. Its answers, once a host write to the page in question has been abandoned or has finished; a write goes
to the copy that is not valid and becomes valid as a whole, also where the field collapses; a password is counted before it is compared,
opens its area alone, and locks it out at its limit; a count whose commit flag is set when the field collapses is completed at power-up.
Readings of the model in it: logs 29, 102, 103. -/
def Obligations.TagFieldCommands : Prop :=
  ∀ (s : State),
    (s.tag.field = false → exec (.inventory none) s = .next s ∧ exec .getSystemInformation s = .next s) ∧
    (s.tag.field = true →
      (s.tag.quiet = false → exec (.inventory none) s = .next { s with outbox := .tag (.inventory s.fuse.tagUid) :: s.outbox }) ∧
      exec (.stayQuiet s.fuse.tagUid) s = .next { s with tag := { s.tag with quiet := true, selected := false } } ∧
      exec (.select s.fuse.tagUid) s = .next { s with
        tag := { s.tag with quiet := false, selected := true }, outbox := .tag .ok :: s.outbox } ∧
      (∀ u, u ≠ s.fuse.tagUid → exec (.select u) s = .next { s with tag := { s.tag with selected := false } }) ∧
      exec (.resetToReady (some s.fuse.tagUid)) s = .next { s with
        tag := { s.tag with quiet := false, selected := false }, outbox := .tag .ok :: s.outbox } ∧
      exec .getSystemInformation s = .next { s with outbox := .tag (.info s.fuse.tagUid 2048 4) :: s.outbox } ∧
      (∀ c, exec (.tagUnsupportedCommand c) s = .next { s with outbox := .tag (.error 0x01) :: s.outbox }) ∧
      (∀ p n, s.tag.jobs = [] → fieldTakes p n s = { s with tag := { s.tag with hold := some (s.now, p, n) } }) ∧
      (∀ b, b < 2048 → mayRead b s = true → ∀ u, u = fieldTakes (b / 4) 1 s →
        exec (.readSingleBlock b) s = .next { u with outbox := .tag (.data (blockBytes b u)) :: u.outbox }) ∧
      (∀ b n u, u = fieldTakes (b / 4) ((b + n - 1) / 4 + 1 - b / 4) s → 1 ≤ n →
        (n ≤ 32 → b + n ≤ 2048 → b / 512 = (b + n - 1) / 512 →
          (mayRead b s = true → exec (.readMultipleBlocks b n) s = .next { u with
            outbox := .tag (.data ((List.range n).flatMap fun i => blockBytes (b + i) u)) :: u.outbox }) ∧
          (mayRead b s = false → exec (.readMultipleBlocks b n) s = .next { u with outbox := .tag (.error 0x0F) :: u.outbox })) ∧
        (2048 < b + n → exec (.readMultipleBlocks b n) s = .next { u with outbox := .tag (.error 0x10) :: u.outbox })) ∧
      (∀ b (data : List Byte) n g, sparseWf ({} : Page) s.tag.pages = true → data.length = 4 * n → 1 ≤ n → b % 4 + n ≤ 4 → b < 2048 →
        mayWrite b s = true → g = pageOf (fieldTakes (b / 4) 1 s) (b / 4) →
        (∃ t, exec (.writeMultipleBlocks b data 0) s = .next t ∧
          (pageOf t (b / 4)).valid = g.valid.take (4 * (b % 4)) ++ data ++ g.valid.drop (4 * (b % 4) + 4 * n) ∧
          ∀ p, p ≠ b / 4 → pageOf t p = pageOf s p) ∧
        (∀ cut, 1 ≤ cut → ∃ t, exec (.writeMultipleBlocks b data cut) s = .next t ∧ (pageOf t (b / 4)).valid = g.valid ∧
          ∀ p, p ≠ b / 4 → pageOf t p = pageOf s p) ∧
        (n = 1 → ∀ cut, exec (.writeSingleBlock b data cut) s = exec (.writeMultipleBlocks b data cut) s)) ∧
      (s.tag.jobs = [] → settingsFree s = s) ∧
      (∀ (m k : Byte) (pw : W32) u a, m.toNat = bitsOf s.fuse.tagUid.toNat 48 8 → u = settingsFree { s with tag := closeAreas s.tag } →
        tagArea? k.toNat u = some a → a.isOpen = false ∧
        (a.locked = true → exec (.presentPassword m k pw 0) s = .next { u with outbox := .tag (.error 0xA1) :: u.outbox }) ∧
        (a.locked = false → pw = a.password → ∃ t, exec (.presentPassword m k pw 0) s = .next t ∧
          tagArea? k.toNat t = some { a with tumbler := 0, isOpen := true } ∧
          ∀ j, j ≠ k.toNat → ∀ x, tagArea? j t = some x → x.isOpen = false) ∧
        (a.locked = false → pw ≠ a.password → ∃ t, exec (.presentPassword m k pw 0) s = .next t ∧ tagArea? k.toNat t =
          some { a with tumbler := min 15 (a.tumbler + 1), locked := decide (a.limit ≤ min 15 (a.tumbler + 1)) }) ∧
        (∀ cut, a.locked = false → 1 ≤ cut → cut ≤ 3 → exec (.presentPassword m k pw cut) s = .next u) ∧
        (a.locked = false → u.tag.cut = none → ∃ t, exec (.presentPassword m k pw 5) s = .next t ∧ tagArea? k.toNat t = some a ∧
          tagArea? k.toNat (tagPowerUp t) = some { a with tumbler := min 15 (a.tumbler + 1) })))

/-- R351, R354 to R358: the tag's own moments and the host's side. The field opens and closes, FD_OUT follows it 1 ms after its begin and goes
off 100 ms after its end, a set commit flag is completed at power-up; the host reads and writes whole pages but not the status record, sets an
area and unlocks it, each write by the steps of R355, and a page that the field holds ends its descriptor BUSY. Readings of the model in it:
logs 29, 104, 185. -/
def Obligations.TagHostSide : Prop :=
  ∀ (s : State),
    (s.tag.field = false → exec .tagFieldOn s = .next { s with tag := driveFd { s.tag with
      field := true, fieldTick := s.now, offDue := false, onDue := !s.tag.offDue && s.rst.msdUp } }) ∧
    (s.tag.field = true → s.tag.onDue = true → s.tag.fieldTick + 64 ≤ s.now → ∀ t, t = tickFd s →
      t.tag = { s.tag with onDue := false, fd := s.tag.fdEn } ∧ EventsOnly { s with tag := t.tag } t) ∧
    (s.tag.field = true → ∃ t, exec .tagFieldOff s = .next t ∧ t.tag.field = false ∧ t.tag.offDue = (!s.tag.onDue) ∧ t.tag.fieldTick = s.now ∧
      t.tag.quiet = false ∧ (∀ i : Fin 3, (t.tag.area[i.val]).isOpen = false) ∧ t = { s with tag := t.tag }) ∧
    (s.tag.offDue = true → s.tag.fieldTick + 6400 ≤ s.now → ∃ t, exec .fdOutRelease s = .next t ∧
      t.tag = { s.tag with fd := false, offDue := false } ∧ EventsOnly { s with tag := t.tag } t) ∧
    (sparseWf ({} : Page) s.tag.pages = true → s.tag.cut = none → ∃ t, exec .tagPowerUp s = .next t ∧ t.tag.quiet = false ∧ t.tag.selected = false ∧
      (∀ p b, (pageOf s p).flag = some b → pageOf t p = { pageOf s p with ptrB := b, flag := none }) ∧
      (∀ p, (pageOf s p).flag = none → pageOf t p = pageOf s p) ∧
      (s.tag.setFlag = true → t.tag.fdEn = s.tag.other.2 ∧ t.tag.setFlag = false ∧
        ∀ i : Fin 3, t.tag.area[i.val] = { s.tag.other.1[i.val] with isOpen := (s.tag.area[i.val]).isOpen })) ∧
    (∀ p bytes step, sparseWf ({} : Page) s.tag.pages = true → s.tag.cut = some (.page p bytes, step) → (pageOf s p).flag = none →
      ∃ t, exec .tagPowerUp s = .next t ∧ t.tag.cut = none ∧
        (step = 5 → pageOf t p = (pageOf s p).swap) ∧ (1 ≤ step → step ≤ 3 → (pageOf t p).valid = (pageOf s p).valid)) ∧
    (s.isReady 8 = true → recordDue s = true → sparseWf ({} : Page) s.tag.pages = true →
      ∃ t, exec .tagStatusRecordWrite s = .next t ∧ t.tag.statusTick = some s.now ∧
      (∀ i, i < 4 → (pageOf t (124 + i)).valid = slice (statusRecord s) (16 * i) 16) ∧
      ∀ p, (p < 124 ∨ 128 ≤ p) → pageOf t p = pageOf s p) ∧
    (∀ (f : Flight) first n, first = f.p 16 2 → n = f.p 18 2 → 1 ≤ n → first + n ≤ 512 → f.bufLen = 16 * n →
      (Front 0x0810 f s → (∀ i, i < n → fieldHolds s (first + i) = false) → exec .nfcTagRead s =
        .next (complete f .ok 0 (leBytes 2 n) (some ((List.range n).flatMap fun i => (pageOf s (first + i)).valid)) s)) ∧
      (∀ m, Front 0x0810 f s → m < n → (∀ i, i < m → fieldHolds s (first + i) = false) → fieldHolds s (first + m) = true →
        exec .nfcTagRead s =
          .next (complete f .busy 0 (leBytes 2 m) (some ((List.range m).flatMap fun i => (pageOf s (first + i)).valid)) s)) ∧
      (Front 0x0811 f s → first < 128 → 124 < first + n → exec .nfcTagWrite s = .next (completeSt f .invalid s)) ∧
      (Front 0x0811 f s → (128 ≤ first ∨ first + n ≤ 124) → exec .nfcTagWrite s =
        .next (startTagJob f ((List.range n).map fun i => .page (first + i) (slice f.inBuf (16 * i) 16)) s))) ∧
    (∀ j js p bytes, s.tag.jobs = j :: js → j.todo = [.page p bytes] → j.step = 2 →
      (fieldHolds s p = true → tagStep s = completeSeq j.flight .busy 0 (leBytes 2 j.written) none { s with tag := { s.tag with jobs := js } }) ∧
      (fieldHolds s p = false → sparseWf ({} : Page) s.tag.pages = true → ∀ t, t = tagStep (tagStep (tagStep (tagStep s))) →
        (pageOf t p).valid = bytes ∧ t.tag.jobs = js ∧ flight? j.flight t = none ∧ ∀ q, q ≠ p → pageOf t q = pageOf s q)) ∧
    (∀ j js p bytes ws q n, s.tag.jobs = j :: js → j.todo = .page p bytes :: ws → q ≤ p → p < q + n →
      sparseWf ({} : Page) s.tag.pages = true →
      (j.step < 4 → (fieldTakes q n s).tag.jobs = js ∧ flight? j.flight (fieldTakes q n s) = none ∧ pageOf (fieldTakes q n s) p = pageOf s p) ∧
      (4 ≤ j.step → (pageOf (fieldTakes q n s) p).ptrB = !(pageOf s p).ptrB)) ∧
    (∀ f, Front 0x0810 f s → f.p 18 2 = 0 → exec .nfcTagRead s = .next (completeSt f .invalid s)) ∧
    (∀ f, Front 0x0812 f s → (f.p 16 1 = 0 ∨ 3 < f.p 16 1 ∨ f.p 17 1 = 0 ∨ 15 < f.p 17 1) →
      exec .nfcTagArea s = .next (completeSt f .invalid s)) ∧
    (∀ (f : Flight) a, Front 0x0812 f s → 1 ≤ f.p 17 1 → f.p 17 1 ≤ 15 → f.p 18 1 ≤ 3 → f.p 19 1 ≤ 1 →
      tagArea? (f.p 16 1) s = some a → exec .nfcTagArea s = .next (startTagJob f [.area (f.p 16 1) (f.p 17 1) (bitAt (f.p 18 1) 0)
        (bitAt (f.p 18 1) 1) (BitVec.ofNat 32 (f.p 20 4)) (bitAt (f.p 19 1) 0)] s)) ∧
    (∀ j js k limit rp wp pw fd a t, s.tag.jobs = j :: js → j.todo = [.area k limit rp wp pw fd] → j.step = 2 → tagArea? k s = some a →
      t = tagStep (tagStep (tagStep (tagStep s))) → t.tag.fdEn = fd ∧ t.tag.jobs = js ∧ flight? j.flight t = none ∧
        tagArea? k t = some { a with limit := limit, rp := rp, wp := wp, password := pw, tumbler := 0, locked := false }) ∧
    (∀ f, Front 0x0813 f s → f.p 16 1 ≤ 7 → exec .nfcTagUnlock s = .next (startTagJob f [.unlock (f.p 16 1)] s)) ∧
    (∀ j js m t, s.tag.jobs = j :: js → j.todo = [.unlock m] → j.step = 2 → t = tagStep (tagStep (tagStep (tagStep s))) →
      t.tag.jobs = js ∧ flight? j.flight t = none ∧ ∀ i : Fin 3, t.tag.area[i.val] =
        if bitAt m i.val then { s.tag.area[i.val] with tumbler := 0, locked := false } else s.tag.area[i.val]) ∧
    (∀ f, Front 0x0813 f s → 7 < f.p 16 1 → exec .nfcTagUnlock s = .next (completeSt f .invalid s))

/-! ### The display and the lamps -/

/-- R359 to R366: the display. A draw of another image starts an update at the next tick edge with the band of the temperature and a copy of
its waveform entry; one of the image shown completes with 0 commons; during an update it waits. Phases follow each other: reset, one select
for each changed common, settle; a select brings its common's bits onto the panel, and the lines are released at the end. An update that is
being stopped ends with a discharge of 10 ms. Two failed crack checks, 100 ms apart, set CRACK and ten passed ones clear it. Readings of the
model in it: log 28. -/
def Obligations.DisplayUpdates : Prop :=
  ∀ (s : State) (f : Flight),
    (∀ image, Front 0x0903 f s → f.p 16 1 ≤ 1 → s.lcd.en = true → image = BitVec.ofNat 256 (leAt f.inBuf 0 32) →
      (s.lcd.upd = none → s.lcd.next = none → s.lcd.indet = false → (bitAt (f.p 16 1) 0 = true ∨ imageShown image s = false) →
        exec .lcdDraw s = .next (keepRunning f { s with lcd := { s.lcd with
          stored := image, next := some { image := image, full := bitAt (f.p 16 1) 0, flight := some f.seq } } })) ∧
      (s.lcd.upd = none → s.lcd.next = none → s.lcd.indet = false → bitAt (f.p 16 1) 0 = false → imageShown image s = true →
        flight? f.seq s = some f → ∃ t, exec .lcdDraw s = .next t ∧ t.lcd = { s.lcd with stored := image } ∧ HostAndJournalOnly { s with lcd := t.lcd } t) ∧
      ((s.lcd.upd.isSome = true ∨ s.lcd.next.isSome = true ∨ s.lcd.indet = true) → ∃ t, exec .lcdDraw s = .next t ∧
        t.lcd = { s.lcd with stored := image, pend := some { image := image, full := bitAt (f.p 16 1) 0, flight := some f.seq } })) ∧
    (∀ p, s.lcd.next = some p → s.lcd.upd = none → s.lcd.indet = false → lcdMayStart s = true → ∃ u, (lcdEdge s).lcd.upd = some u ∧
      u.image = panelImage s.lcd.legend p.image ∧ u.band = nextBand s ∧ u.wave = waveOf s (nextBand s) ∧ u.start = s.now ∧ u.phase = .reset ∧
      u.phaseEnd = s.now + 64 * u.wave.th ∧ u.flight = p.flight ∧ (lcdEdge s).lcd.mark = true ∧ (lcdEdge s).lcd.shown = s.lcd.shown ∧
      (lcdEdge s).lcd.next = none ∧ (lcdEdge s).lcd.drive = .reset u.commons u.wave.vh u.wave.fdrive) ∧
    (Front 0x0903 f s → 1 < f.p 16 1 → exec .lcdDraw s = .next (completeSt f .invalid s)) ∧
    (Front 0x0903 f s → f.p 16 1 ≤ 1 → s.lcd.en = false → exec .lcdDraw s = .next (completeSt f .denied s)) ∧
    (∀ u, s.lcd.upd = some u → s.rst.held0 = false → s.lcd.discharge = none → u.phaseEnd ≤ s.now → s.lcd.stopping = false →
      (u.phase = .reset → u.commons ≠ [] → exec .lcdPhaseEnd s = .next { s with lcd := { s.lcd with
        upd := some { u with phase := .select 0, phaseEnd := u.phaseEnd + 64 * u.wave.ts }, drive := u.drive (.select 0) } }) ∧
      (∀ i c, u.phase = .select i → u.commons[i]? = some c → c < 4 → ∃ t, exec .lcdPhaseEnd s = .next t ∧
        commonBits t.lcd.shown c = commonBits u.image c ∧
        (∀ d, d < 4 → d ≠ c → commonBits t.lcd.shown d = commonBits s.lcd.shown d) ∧
        (i + 1 = u.commons.length → t.lcd.drive = .zero ∧ ∃ v, t.lcd.upd = some v ∧ v.phase = .settle)) ∧
      (u.phase = .settle → u.why = .draw → s.lcd.indet = false → s.lcd.pend = none → s.lcd.next = none → ∃ t, exec .lcdPhaseEnd s = .next t ∧
        t.lcd = { s.lcd with upd := none, mark := false, drive := .highZ } ∧ HostAndJournalOnly { s with lcd := t.lcd } t)) ∧
    (∀ u, s.lcd.upd = some u → s.rst.held0 = false → s.lcd.discharge = none → u.phaseEnd ≤ s.now → s.lcd.stopping = true →
      (u.phase = .reset → exec .lcdPhaseEnd s = .next { s with lcd := { s.lcd with discharge := some (s.now + 640), drive := .ground } }) ∧
      (u.phase = .settle → u.why = .draw → ∃ t, exec .lcdPhaseEnd s = .next t ∧ t.lcd.upd = none ∧ t.lcd.mark = false ∧
        t.lcd.discharge = some (s.now + 640) ∧ t.lcd.drive = .ground)) ∧
    (∀ t0, s.lcd.discharge = some t0 → t0 ≤ s.now → s.rst.held0 = false → s.lcd.pend = none → s.lcd.next = none → s.lcd.indet = false →
      ∃ t, exec .lcdDischargeEnd s = .next t ∧ t.lcd = { s.lcd with discharge := none, stopping := false, upd := none, drive := .highZ } ∧ HostAndJournalOnly { s with lcd := t.lcd } t) ∧
    (∀ v : W32, LinkUp s → (s.lcd.upd.isSome = true ∨ 20 < signed 8 (bitsOf v.toNat 8 8)) →
      exec (.lcdCfgWrite v) s = .next { s with lcd := { s.lcd with cfgReject := true } }) ∧
    (∀ v : W32, LinkUp s → s.lcd.upd = none → signed 8 (bitsOf v.toNat 8 8) ≤ 20 → -20 ≤ signed 8 (bitsOf v.toNat 8 8) →
      (bitAt v.toNat 0 = true ∨ s.lcd.en = false) → exec (.lcdCfgWrite v) s = .next (lcdResume { s with lcd := { s.lcd with
        en := bitAt v.toNat 0, crackEn := bitAt v.toNat 1, tofs := signed 8 (bitsOf v.toNat 8 8) } })) ∧
    (∀ a b t0, s.lcd.crackTick = some t0 → s.now < t0 + 6400 → exec (.crackCheck a b) s = .next s) ∧
    (∀ a b, s.isReady 9 = true → s.lcd.crackEn = true → crackDue s = true →
      (crackFails a b = true → s.lcd.crackBad = 1 → ∃ t, exec (.crackCheck a b) s = .next t ∧ t.lcd.crack = true) ∧
      (crackFails a b = false → s.lcd.crackGood = 9 → ∃ t, exec (.crackCheck a b) s = .next t ∧ t.lcd.crack = false) ∧
      (crackFails a b = true → s.lcd.crackBad = 0 → exec (.crackCheck a b) s = .next { s with
        lcd := { s.lcd with crackBad := 1, crackGood := 0, crackTick := some s.now } }))

/-- R359, R361, R367 to R371: the tables and the lamps. A legend is a permutation, a waveform table has six entries in range, a gamma
table does not fall; LMP_SET takes drive values through the tables, and the lamp takes them with its next PWM period, first colour first; a
channel's sink takes full scale and drive value where its period begins; a pattern changes colour after its ON or OFF time. Readings of the
model in it: logs 105, 186. -/
def Obligations.TablesAndLamps : Prop :=
  ∀ (s : State) (f : Flight),
    (Front 0x0901 f s → (s.lcd.upd.isSome = true ∨ s.lcd.pend.isSome = true ∨ s.lcd.next.isSome = true) →
      exec .lcdLegendWrite s = .next (completeSt f .busy s)) ∧
    (Front 0x0901 f s → s.lcd.upd = none → s.lcd.pend = none → s.lcd.next = none → legendOk (slice f.inBuf 0 256) = false →
      exec .lcdLegendWrite s = .next (completeSt f .invalid s)) ∧
    (Front 0x0901 f s → s.lcd.upd = none → s.lcd.pend = none → s.lcd.next = none → legendOk (slice f.inBuf 0 256) = true →
      exec .lcdLegendWrite s = .next (completeSt f .ok { s with
        lcd := { s.lcd with legend := toVec 256 0 (slice f.inBuf 0 256), newLegend := true } })) ∧
    (∀ b, Front 0x0902 f s → b < 6 → Wave.ofBytes (slice f.inBuf (16 * b) 16) = none →
      exec .lcdWaveWrite s = .next (completeSt f .invalid s)) ∧
    (∀ w : Vector Wave 6, Front 0x0902 f s → (∀ b : Fin 6, Wave.ofBytes (slice f.inBuf (16 * b.val) 16) = some w[b.val]) →
      exec .lcdWaveWrite s = .next (completeSt f .ok { s with lcd := { s.lcd with wave := w } })) ∧
    (∀ r g b, Front 0x0A01 f s → gammaTable (slice f.inBuf 0 128) = some r → gammaTable (slice f.inBuf 128 128) = some g →
      gammaTable (slice f.inBuf 256 128) = some b →
      exec .lmpGammaWrite s = .next (completeSt f .ok { s with lmp := { s.lmp with gamma := #v[r, g, b] } })) ∧
    (Front 0x0A01 f s → gammaTable (slice f.inBuf 0 128) = none → exec .lmpGammaWrite s = .next (completeSt f .invalid s)) ∧
    (∀ i, Front 0x0A02 f s → i < 6 → 4095 < f.p (16 + 2 * i) 2 → exec .lmpSet s = .next (completeSt f .invalid s)) ∧
    (Front 0x0A02 f s → (∀ i, i < 6 → f.p (16 + 2 * i) 2 ≤ 4095) → ∃ t l, exec .lmpSet s = .next t ∧
      t.lmp = { s.lmp with pend := s.lmp.pend.set f.outlet.val (some l) } ∧ l.isSet = true ∧ l.second = false ∧
      l.on = f.p 28 1 ∧ l.off = f.p 29 1 ∧ (∀ c : Fin 3, l.c1[c.val] = gammaOf (s.lmp.gamma[c.val]) (f.p (16 + 2 * c.val) 2) ∧
        l.c2[c.val] = gammaOf (s.lmp.gamma[c.val]) (f.p (22 + 2 * c.val) 2)) ∧ HostAndJournalOnly { s with lmp := t.lmp } t) ∧
    (∀ n : Outlet8,
      (∀ l, s.lmp.pend[n.val] = some l → pwmBegan s.now (3 * n.val) = true → ((lampEdge s).lmp.lamp)[n.val] = { l with since := s.now } ∧
        ((lampEdge s).lmp.pend)[n.val] = none) ∧
      (pwmBegan s.now (3 * n.val) = false → ((lampEdge s).lmp.lamp)[n.val] = s.lmp.lamp[n.val] ∧
        ((lampEdge s).lmp.pend)[n.val] = s.lmp.pend[n.val])) ∧
    (∀ (n : Outlet8) (c : Fin 3) (j : Fin 24), j.val = 3 * n.val + c.val → ((lampEdge s).lmp.sink)[j.val] =
      if pwmBegan s.now j.val then (s.lmp.fs[c.val], ((((lampEdge s).lmp.lamp)[n.val]).shows)[c.val]) else s.lmp.sink[j.val]) ∧
    (∀ (n : Outlet8) l, l = s.lmp.lamp[n.val] → l.isSet = true → l.on ≠ 0 →
      (l.second = false → l.since + 640 * l.on ≤ s.now → exec (.lampBlinkPhase n) s = .next { s with
        lmp := { s.lmp with lamp := s.lmp.lamp.set n.val { l with second := true, since := l.since + 640 * l.on } } }) ∧
      (l.second = true → l.since + 640 * l.off ≤ s.now → exec (.lampBlinkPhase n) s = .next { s with
        lmp := { s.lmp with lamp := s.lmp.lamp.set n.val { l with second := false, since := l.since + 640 * l.off } } }))

/-! ### Load switches -/

/-- R373, R375 to R377, R381, R388, R389: the commands of the load switches and their PWM inputs. A mode is taken for the next tick
edge, and changes once in 10 ms; lock-bridge and latched channels are denied; a clear turns a channel off and leaves a hot one latched; an
edge is followed once its level has lasted 2 µs, a shorter pulse is ignored, and more than 5 rising edges in 1 ms set PWM_FAST. Readings of
the model in it: logs 106, 107. -/
def Obligations.LoadSwitchCommands : Prop :=
  ∀ (s : State) (f : Flight),
    (Front 0x0B01 f s → (23 < f.p 16 1 ∨ 5 < f.p 17 1 ∨ 3 < f.p 18 1 ∨ (f.p 17 1 ≤ 2 ∧ f.p 18 1 ≠ 0)) →
      exec .lswSet s = .next (completeSt f .invalid s)) ∧
    (∀ (k : Fin 24) (j : Fin 4) (m : Nat) c, Front 0x0B01 f s → f.p 16 1 = k.val → f.p 17 1 = m → m ≤ 5 → f.p 18 1 = j.val →
      (m ≤ 2 → j = 0) → c = chOf s k →
      ((owned s k = true ∨ ((c.oc = true ∨ c.th = true) ∧ m ≠ 0)) → exec .lswSet s = .next (completeSt f .denied s)) ∧
      (owned s k = false → ((c.oc = false ∧ c.th = false) ∨ m = 0) → c.pendMode = none →
        ((∀ t0, c.modeTick = some t0 → t0 + 640 ≤ s.now) → exec .lswSet s = .next (keepRunning f (modCh k (fun c => { c with
          pendMode := some (modeOfNum m, j, [f.seq]) }) s))) ∧
        (∀ t0, c.modeTick = some t0 → s.now < t0 + 640 → modeOfNum m ≠ c.mode →
          exec .lswSet s = .next (completeSt f .busy s))) ∧
      (∀ p i l, owned s k = false → ((c.oc = false ∧ c.th = false) ∨ m = 0) → c.pendMode = some (p, i, l) →
        (p ≠ c.mode → modeOfNum m ≠ p → exec .lswSet s = .next (completeSt f .busy s)) ∧
        ((modeOfNum m = p ∨ (p = c.mode ∧ ∀ t0, c.modeTick = some t0 → t0 + 640 ≤ s.now)) → exec .lswSet s =
          .next (keepRunning f (modCh k (fun c => { c with pendMode := some (modeOfNum m, j, l ++ [f.seq]) }) s))))) ∧
    (∀ k : Fin 24, Front 0x0B02 f s → f.p 16 3 = 2 ^ k.val →
      (owned s k = true → 1 ≤ (outOf s (bridgeOutlet k)).state.num → (outOf s (bridgeOutlet k)).state.num ≤ 9 →
        exec .lswClear s = .next (completeSt f .denied s)) ∧
      (owned s k = false → ((chOf s k).oc = true ∨ (chOf s k).th = true) →
        ((chOf s k).th = true → (chOf s k).hot < 150) → ∃ t, exec .lswClear s = .next t ∧ (chOf t k).oc = false ∧
        (chOf t k).th = false ∧ (chOf t k).mode = .off ∧ ∀ j, j ≠ k → chOf t j = chOf s j) ∧
      (owned s k = false → (chOf s k).th = true → 150 ≤ (chOf s k).hot → ∃ t, exec .lswClear s = .next t ∧ (chOf t k).oc = false ∧
        (chOf t k).th = true ∧ (chOf t k).retries = (chOf s k).retries)) ∧
    (Front 0x0B03 f s → exec .lswRead s = .next (complete f .ok 0 (leBytes 2 (lswStatusWord s))
      (some ((allFin 24).flatMap (fun k => leBytes 4 (lswStatWord s k)) ++ (allFin 4).flatMap fun g => leBytes 4 (lswTempWord s g))) s)) ∧
    (∀ (k : Fin 24) (v : W32), LinkUp s →
      (chcfgOk v.toNat = true → (owned s k = false ∨ (outOf s (bridgeOutlet k)).idle = true) → exec (.lswChcfgWrite k v) s =
        .next (modCh k (fun c => { c with pendCfg := some v }) s)) ∧
      (chcfgOk v.toNat = false → exec (.lswChcfgWrite k v) s = .next { s with lsw := { s.lsw with cfgReject := true } })) ∧
    (∀ (j : Fin 4) (p : PwmIn) (us : Nat), p = s.lsw.pwm[j.val] →
      (s.rst.held0 = false → p.edgeAt = none → exec (.pwmInputEdge j p.high us) s = .next s ∧
        exec (.pwmInputEdge j (!p.high) us) s = .next (modPwm j (fun p => { p with edgeAt := some us }) s)) ∧
      (∀ t0, s.rst.held0 = false → p.edgeAt = some t0 → exec (.pwmInputEdge j (!p.high) us) s = .next s ∧
        (us < t0 + 2 → exec (.pwmInputEdge j p.high us) s = .next (modPwm j (fun p => { p with edgeAt := none }) s)) ∧
        (t0 + 2 ≤ us → exec (.pwmInputEdge j p.high us) s = .next (modPwm j (fun p => { p with edgeAt := some us }) (pwmEdge j t0 s))) ∧
        (64 * (t0 + 2) ≤ 1000 * s.now → settlePwm j s = pwmEdge j t0 s)) ∧
      (∀ h, s.rst.held0 = true → exec (.pwmInputEdge j h us) s = .next (modPwm j (fun p => { p with high := h, edgeAt := none }) s)) ∧
      (∀ q e, q = ((pwmEdge j us s).lsw.pwm)[j.val] → e = us :: p.edges.filter (fun x => decide (us < x + 1000)) →
        q.high = (!p.high) ∧ q.edgeAt = none ∧ (p.high = false → q.edges = e ∧ q.fast = (p.fast || decide (5 < e.length))) ∧
        (p.high = true → q.edges = p.edges ∧ q.fast = p.fast)) ∧
      (p.fast = true → 64 * (p.fastUs + 10000) ≤ 1000 * s.now → ∃ t, exec (.pwmFastClear j) s = .next t ∧
        (t.lsw.pwm[j.val]).fast = false))

/-- R379 to R387: the protection of the load switches. An overcurrent outside a blanking is retried RETRY_MAX times and then latched; 170 °C
latch; a group at 145 °C folds a channel per 1 ms and brings the last one back below 130 °C per 10 ms; a dip or an excess of VAUX turns
every stage off until VAUX is back within both limits. Readings of the model in it: log 53. -/
def Obligations.LoadSwitchProtection : Prop :=
  ∀ (s : State),
    (∀ (k : Fin 24) c, c = chOf s k → chOn s k = true → blanking s k = false →
      (c.retries < c.retryMax → ∃ t, exec (.lswOvercurrent k) s = .next t ∧ (chOf t k).retries = c.retries + 1 ∧
        (chOf t k).retryAt = some (s.now + 640 * (c.retryDly + 1)) ∧ (chOf t k).oc = c.oc) ∧
      (c.retryMax ≤ c.retries → ∃ t, exec (.lswOvercurrent k) s = .next t ∧ (chOf t k).oc = true ∧ chOn t k = false)) ∧
    (∀ (k : Fin 24), (chOn s k = false ∨ blanking s k = true) → exec (.lswOvercurrent k) s = .next s) ∧
    (∀ (k : Fin 24) t0, (chOf s k).retryAt = some t0 → t0 ≤ s.now → (chOf s k).dipped = false →
      ∃ t, exec (.lswRetry k) s = .next t ∧ (chOf t k).retryAt = none ∧ (chOf t k).retries = (chOf s k).retries) ∧
    (∀ (k : Fin 24) t0, (chOf s k).onSince = some t0 → chOn s k = true → t0 + 64000 ≤ s.now →
      exec (.lswRetriesReset k) s = .next (modCh k (fun c => { c with retries := 0 }) s)) ∧
    (∀ (k : Fin 24), s.rst.held0 = false → (chOf s k).th = false → ∃ t, exec (.lswThermalLatch k) s = .next t ∧
      (chOf t k).th = true ∧ (chOf t k).retryAt = none ∧ (chOf t k).retries = (chOf s k).retries ∧ chOn t k = false) ∧
    (∀ (g : Fin 4) k, s.rst.held0 = false → 2320 ≤ s.lsw.temp[g.val] → foldPaced g 64 s = true → foldNext s g = some k →
      ∃ t, exec (.lswFoldBack g) s = .next t ∧ (chOf t k).folded = true ∧ t.lsw.folds = s.lsw.folds.set g.val (k :: s.lsw.folds[g.val]) ∧
        ∀ j, j ≠ k → chOf t j = chOf s j) ∧
    (∀ (g : Fin 4), s.lsw.temp[g.val] < 2320 → exec (.lswFoldBack g) s = .next s) ∧
    (∀ (g : Fin 4) k l, s.rst.held0 = false → s.lsw.temp[g.val] < 2080 → foldPaced g 640 s = true → s.lsw.folds[g.val] = k :: l →
      ∃ t, exec (.lswFoldRestore g) s = .next t ∧ (chOf t k).folded = false ∧ t.lsw.folds = s.lsw.folds.set g.val l ∧
        ∀ j, j ≠ k → chOf t j = chOf s j) ∧
    (∀ ma lim hot grp whole vaux, s.rst.held0 = false → ∃ t, exec (.lswMeasurement ma lim hot grp whole vaux) s = .next t ∧
      t.lsw.vaux = vaux ∧ (∀ g : Fin 4, t.lsw.temp[g.val] = grp.getD g.val 0) ∧
      ∀ k : Fin 24, (chOf t k).current = min 4095 (ma.getD k.val 0) ∧ (chOf t k).hot = hot.getD k.val 0 ∧
        ((chOf t k).limit = true → lim.getLsbD k.val = true)) ∧
    (∀ dv, s.rst.held0 = false → s.lsw.uv = false → dv < 60 → ∃ t, exec (.vauxUndervoltage dv) s = .next t ∧ t.lsw.uv = true ∧
      t.lsw.vaux = dv ∧ ∀ k, chOn t k = false) ∧
    (∀ dv, s.rst.held0 = false → s.lsw.ov = false → 340 < dv → ∃ t, exec (.vauxOvervoltage dv) s = .next t ∧ t.lsw.ov = true ∧
      t.lsw.vaux = dv ∧ ∀ k, chOn t k = false) ∧
    (∀ dv, (dv < 60 ∨ 340 < dv ∨ (s.lsw.uv = true ∧ dv ≤ 65) ∨ (s.lsw.ov = true ∧ 330 ≤ dv)) → exec (.vauxRestore dv) s = .next s) ∧
    (∀ dv, s.rst.held0 = false → (s.lsw.uv = true ∨ s.lsw.ov = true) → 60 ≤ dv → dv ≤ 340 → (s.lsw.uv = true → 65 < dv) →
      (s.lsw.ov = true → dv < 330) → ∃ t, exec (.vauxRestore dv) s = .next t ∧ t.lsw.uv = false ∧ t.lsw.ov = false ∧ t.lsw.vaux = dv ∧ ∀ k, (chOf t k).dipped = false ∧ (chOf t k).oc = (chOf s k).oc)

/-! ### Keys -/

/-- R393 to R399, R401, R402: the key slots. Generate and import fill a free slot with the type, usage and origin asked for; a type
and usage that R393 does not list complete UNSUPPORTED (R9; log 109), a value out of its range INVALID; a pair is never imported; only
public keys are read; a destroyed slot is empty, and retired where it was locked; random bytes are not the model's; a short hash or
HMAC completes at once. Without the root or the entropy source INTEGRITY is answered; with slot 0 in the mask KEY_DESTROY takes the serial
number, and is BUSY while a snapshot awaits its signature. Readings of the model in it: logs 46, 109, 113. -/
def Obligations.KeySlots : Prop :=
  ∀ (s : State) (f : Flight),
    ((31 < f.p 16 1 ∨ 31 < f.p 18 1 ∨ 1 < f.p 19 1) →
      (Front 0x0C01 f s → exec .keyGenerate s = .next (completeSt f .invalid s)) ∧
      (Front 0x0C02 f s → exec .keyImport s = .next (completeSt f .invalid s))) ∧
    (f.p 16 1 ≤ 31 → f.p 18 1 ≤ 31 → f.p 19 1 ≤ 1 → f.keyForm = none →
      (Front 0x0C01 f s → exec .keyGenerate s = .next (completeSt f .unsupported s)) ∧
      (Front 0x0C02 f s → exec .keyImport s = .next (completeSt f .unsupported s))) ∧
    (∀ ty u, Front 0x0C01 f s → f.keyForm = some (ty, u) → ty ≠ .pub → fillCheck f.slot ty u false s = none → s.key.rngFail = false →
      (ty = .pair → longCount s < 32 → exec .keyGenerate s =
        .next (keepRunning f (requestLong .generate 75 (.flight f.seq) [f.slot] s))) ∧
      (ty ≠ .pair → ∃ t, exec .keyGenerate s = .next t ∧ ((t.key.slot[f.slot.val]).rec_).type = ty ∧
        ((t.key.slot[f.slot.val]).rec_).usage = BitVec.ofNat 5 u ∧ ((t.key.slot[f.slot.val]).rec_).origin = 1 ∧
        ((t.key.slot[f.slot.val]).rec_).secret.length = ty.secretLen ∧ (t.key.slot[f.slot.val]).unusable = false ∧
        ∀ k : Fin 32, k ≠ f.slot → t.key.slot[k.val] = s.key.slot[k.val])) ∧
    (∀ ty u st, Front 0x0C01 f s → f.keyForm = some (ty, u) → ty ≠ .pub → fillCheck f.slot ty u false s = some st →
      exec .keyGenerate s = .next (completeSt f st s)) ∧
    (∀ u, Front 0x0C02 f s → f.keyForm = some (.pair, u) → exec .keyImport s = .next (completeSt f .invalid s)) ∧
    (∀ ty u, Front 0x0C02 f s → f.keyForm = some (ty, u) → (ty = .aes128 ∨ ty = .aes256 ∨ ty = .hmac) → f.bufLen = ty.secretLen →
      fillCheck f.slot ty u true s = none → ∃ t, exec .keyImport s = .next t ∧ ((t.key.slot[f.slot.val]).rec_).type = ty ∧
        ((t.key.slot[f.slot.val]).rec_).origin = 2 ∧ ((t.key.slot[f.slot.val]).rec_).secret = slice f.inBuf 0 ty.secretLen ∧
        ∀ k : Fin 32, k ≠ f.slot → t.key.slot[k.val] = s.key.slot[k.val]) ∧
    (∀ r, Front 0x0C03 f s → f.p 16 1 ≤ 31 → s.key.rootFail = false → (s.key.slot[f.slot.val]).unusable = false →
      r = (s.key.slot[f.slot.val]).rec_ →
      ((r.type = .pair ∨ r.type = .pub) → exec .keyPublicRead s = .next (complete f .ok 0 [] (some (slice r.pub 0 65)) s)) ∧
      (r.type ≠ .pair → r.type ≠ .pub → exec .keyPublicRead s = .next (completeSt f .denied s))) ∧
    (Front 0x0C0B f s → f.p 16 4 = 0 → exec .keyDestroy s = .next (completeSt f .invalid s)) ∧
    (Front 0x0C0B f s → f.p 16 4 ≠ 0 → bitAt (f.p 16 4) 0 = false → ∃ t, exec .keyDestroy s = .next t ∧ ∀ k : Fin 32,
      (bitAt (f.p 16 4) k.val = true → ((t.key.slot[k.val]).rec_).type = .empty ∧ ((t.key.slot[k.val]).rec_).secret = [] ∧
        ((t.key.slot[k.val]).rec_).locked = ((s.key.slot[k.val]).rec_).locked ∧
        (((s.key.slot[k.val]).rec_).locked = true → ((t.key.slot[k.val]).rec_).retired = true)) ∧
      (bitAt (f.p 16 4) k.val = false → t.key.slot[k.val] = s.key.slot[k.val])) ∧
    (Front 0x0C0C f s → f.p 16 4 ≠ 0 → s.key.rootFail = false → ∃ t, exec .keyLock s = .next t ∧ ∀ k : Fin 32,
      (bitAt (f.p 16 4) k.val = true → ((t.key.slot[k.val]).rec_).locked = true ∧
        ((t.key.slot[k.val]).rec_).secret = ((s.key.slot[k.val]).rec_).secret) ∧
      (bitAt (f.p 16 4) k.val = false → t.key.slot[k.val] = s.key.slot[k.val])) ∧
    (Front 0x0C0A f s → s.key.rngFail = true → exec .keyRandom s = .next (completeSt f .integrity s)) ∧
    (Front 0x0C0A f s → s.key.rngFail = false → ∃ t b, exec .keyRandom s = .next t ∧ b.length = f.bufLen ∧
      t = complete f .ok 0 (leBytes 2 f.bufLen) (some b) { s with free := t.free }) ∧
    (∀ msg, Front 0x0C09 f s → f.p 16 1 = 0 → f.bufLen ≤ 4128 → msg = f.inBuf.take (f.bufLen - 32) →
      exec .keyHash s = .next (complete f .ok 0 [] (some (msg ++ sha256 msg)) s)) ∧
    (∀ msg, Front 0x0C08 f s → 1 ≤ f.p 16 1 → f.p 16 1 ≤ 31 → slotCheck f.slot 4 s = none → f.bufLen ≤ 4128 →
      msg = f.inBuf.take (f.bufLen - 32) →
      exec .keyHmac s = .next (complete f .ok 0 [] (some (msg ++ hmac (s.key.slot[f.slot.val]).rec_.secret msg)) s)) ∧
    (∀ u, Front 0x0C01 f s → f.keyForm = some (.pub, u) → exec .keyGenerate s = .next (completeSt f .invalid s)) ∧
    (∀ ty u, Front 0x0C01 f s → f.keyForm = some (ty, u) → ty ≠ .pub → fillCheck f.slot ty u false s = none →
      (s.key.rngFail = true → exec .keyGenerate s = .next (completeSt f .integrity s)) ∧
      (s.key.rngFail = false → ty = .pair → 32 ≤ longCount s → exec .keyGenerate s = .next (completeSt f .busy s))) ∧
    (∀ ty u st, Front 0x0C02 f s → f.keyForm = some (ty, u) → (ty = .aes128 ∨ ty = .aes256 ∨ ty = .hmac) →
      (f.bufLen ≠ ty.secretLen → exec .keyImport s = .next (completeSt f .invalid s)) ∧
      (f.bufLen = ty.secretLen → fillCheck f.slot ty u true s = some st → exec .keyImport s = .next (completeSt f st s))) ∧
    (Front 0x0C03 f s → 31 < f.p 16 1 → exec .keyPublicRead s = .next (completeSt f .invalid s)) ∧
    (Front 0x0C03 f s → f.p 16 1 ≤ 31 → (s.key.rootFail = true ∨ (s.key.slot[f.slot.val]).unusable = true) →
      exec .keyPublicRead s = .next (completeSt f .integrity s)) ∧
    (Front 0x0C0B f s → bitAt (f.p 16 4) 0 = true →
      (f.p 24 8 ≠ s.fuse.serial.toNat → exec .keyDestroy s = .next (completeSt f .invalid s)) ∧
      (f.p 24 8 = s.fuse.serial.toNat → (s.prn.store.any fun r => r.sig.isNone) = true →
        exec .keyDestroy s = .next (completeSt f .busy s))) ∧
    (Front 0x0C0C f s → f.p 16 4 = 0 → exec .keyLock s = .next (completeSt f .invalid s)) ∧
    (Front 0x0C0C f s → f.p 16 4 ≠ 0 → s.key.rootFail = true → exec .keyLock s = .next (completeSt f .integrity s)) ∧
    (Front 0x0C09 f s → f.p 16 1 ≠ 0 → exec .keyHash s = .next (completeSt f .invalid s))

/-- R56, R57, R392, R400 to R402: the long operations of the key engine and its health. Sign, verify, ECDH and AES-GCM of a usable slot
are queued with their number of steps; a result is delivered in a later tick than its last step; a signature that no nonce gives is
asked for anew, and a key for a slot locked in between is DENIED; three bad reads of the PUF in a row set GEN_REPLACE; a failing
entropy source sets RNG_FAIL. Readings of the model in it: logs 46, 111, 112, 187. -/
def Obligations.LongKeyOperations : Prop :=
  ∀ (s : State) (f : Flight),
    (1 ≤ f.p 16 1 → f.p 16 1 ≤ 31 → longCount s < 32 →
      (Front 0x0C04 f s → slotCheck f.slot 0 s = none → s.key.rngFail = false →
        exec .keySign s = .next (keepRunning f (requestLong .sign 77 (.flight f.seq) [f.slot] s))) ∧
      (Front 0x0C05 f s → slotCheck f.slot 1 s = none →
        exec .keyVerify s = .next (keepRunning f (requestLong .verify 131 (.flight f.seq) [f.slot] s))) ∧
      (∀ (k : Fin 32) ty, Front 0x0C06 f s → slotCheck f.slot 2 s = none → f.p 17 1 = k.val → keyTypeOf (f.p 18 1) = some ty →
        3 ≤ f.p 18 1 → usageOk ty (f.p 19 1) = true → f.p 20 1 ≤ 1 → (decodePoint (f.inBuf.take 65)).isSome = true →
        fillCheck k ty (f.p 19 1) false s = none →
        exec .keyEcdh s = .next (keepRunning f (requestLong .ecdh 73 (.flight f.seq) [f.slot, k] s))) ∧
      (Front 0x0C07 f s → slotCheck f.slot 3 s = none → f.p 17 1 ≤ 1 → f.p 20 2 + 16 < f.bufLen →
        exec .keyAesGcm s = .next (keepRunning f
          (requestLong .gcm ((f.bufLen - f.p 20 2 - 16 + 4095) / 4096) (.flight f.seq) [f.slot] s)))) ∧
    (Front 0x0C06 f s → (f.p 18 1 < 3 ∨ 5 < f.p 18 1) → exec .keyEcdh s = .next (completeSt f .invalid s)) ∧
    (∀ st, Front 0x0C04 f s → f.p 16 1 ≤ 31 → slotCheck f.slot 0 s = some st → exec .keySign s = .next (completeSt f st s)) ∧
    (∀ o rest t0, Reached .host s → s.rst.msdUp = true → s.key.done = o :: rest → o.doneAt = some t0 → t0 < s.now → o.dropped = false →
      o.req = .flight f.seq → flight? f.seq s = some f →
      (o.kind = .verify → exec .longOperationDone s = .next (completeSt f
        (if ecdsaVerify (s.key.slot[f.slot.val]).rec_.pub (slice f.param 8 32) (slice f.inBuf 0 64) then .ok else .integrity)
        { s with key := { s.key with done := rest } })) ∧
      (∀ r, o.kind = .sign → s.key.rngFail = false →
        r = signDigest (beNat (s.key.slot[f.slot.val]).rec_.secret) (slice f.param 8 32) { s with key := { s.key with done := rest } } →
        r.2 = { s with key := { s.key with done := rest }, free := r.2.free } ∧
        exec .longOperationDone s = .next (match r.1 with
          | some b => complete f .ok 0 [] (some b) r.2
          | none => requestLong .sign 77 (.flight f.seq) [f.slot] r.2)) ∧
      (o.kind = .generate → shut f.slot s = true →
        exec .longOperationDone s = .next (completeSt f .denied { s with key := { s.key with done := rest } })) ∧
      (o.kind = .generate → s.key.rngFail = false → shut f.slot s = false → ∃ t d, exec .longOperationDone s = .next t ∧ 1 ≤ d ∧ d < p256n ∧
        ((t.key.slot[f.slot.val]).rec_).type = .pair ∧ ((t.key.slot[f.slot.val]).rec_).secret = beBytes 32 d ∧
        ((t.key.slot[f.slot.val]).rec_).pub = publicOf d)) ∧
    (∀ o rest, Reached .host s → s.key.done = o :: rest → o.doneAt = some s.now → exec .longOperationDone s = .next s) ∧
    (∀ err t0, Reached .back s → s.key.monDown = some t0 → s.isReady 12 = true → t0 + 128 ≤ s.now → 0x3E ≤ s.now % 64 →
      ∃ t, exec (.pufHealthCheck err) s = .next t ∧ t.key.monErr = min 255 (err.foldl max 0) ∧ t.key.monDown = none ∧
        (err.foldl max 0 ≤ 9 → t.key.monRun = 0 ∧ t.gen.replace = s.gen.replace) ∧
        (9 < err.foldl max 0 → s.key.monRun = 2 → t.key.monRun = 3 ∧ t.gen.replace.getLsbD 2 = true)) ∧
    (s.isReady 12 = true → ∃ t, exec (.entropyFailure true) s = .next t ∧ t.key = { s.key with rngFail := true } ∧
      HostOnly { s with key := t.key } t) ∧
    (s.isReady 12 = true → s.key.rngFail = true → ∃ t, exec (.entropyFailure false) s = .next t ∧
      t.key = { s.key with rngFail := false } ∧ HostOnly { s with key := t.key } t) ∧
    (Front 0x0C04 f s → 1 ≤ f.p 16 1 → f.p 16 1 ≤ 31 → slotCheck f.slot 0 s = none →
      (s.key.rngFail = true → exec .keySign s = .next (completeSt f .integrity s)) ∧
      (s.key.rngFail = false → 32 ≤ longCount s → exec .keySign s = .next (completeSt f .busy s))) ∧
    (Front 0x0C06 f s → f.p 16 1 ≤ 31 → f.p 17 1 ≤ 31 → f.p 19 1 ≤ 31 → f.p 20 1 ≤ 1 → ∀ ty, keyTypeOf (f.p 18 1) = some ty →
      3 ≤ f.p 18 1 → usageOk ty (f.p 19 1) = false → exec .keyEcdh s = .next (completeSt f .unsupported s)) ∧
    (Front 0x0C07 f s → (1 < f.p 17 1 ∨ f.bufLen < f.p 20 2 + 16) → exec .keyAesGcm s = .next (completeSt f .invalid s))

/-! ### Update and memory -/

/-- R405 to R413: the update. Arming names the image and clears the other slot; a piece is stored once, in the words of its place; a whole image is activated and
becomes pending; confirmation makes the trial image the confirmed one and raises the floor; the loader starts an image whose check
passes, once its hash and signature have run as a long operation (R56), on trial or as the confirmed one; where the check fails it
checks the other slot, and after that starts the recovery loader; the end of the trial time raises UPDATE. Readings of the model in
it: logs 114, 115, 161, 190. -/
def Obligations.Update : Prop :=
  ∀ (s : State) (f : Flight) (k : Fin 2), k = otherSlot s →
    (Front 0x0D01 f s → f.p 16 4 ≠ 0 → f.p 16 4 < 2 ^ 32 → 1 ≤ f.p 20 2 → f.p 20 2 ≤ 5120 → 1 ≤ f.p 22 1 → f.p 22 1 ≤ 3 →
      s.upd.recovery = false →
      (s.upd.trial = false → (∀ r, s.bkb.relay = some r → r.slot ≠ k) → s.upd.mark = .none → ∃ t, exec .updArm s = .next t ∧ t.upd.armed = true ∧
        (imageSlot t k).imageId = BitVec.ofNat 32 (f.p 16 4) ∧ (imageSlot t k).pieces = f.p 20 2 ∧ (imageSlot t k).bitmap = 0 ∧
        (imageSlot t k).loaded = true ∧ imageSlot t s.upd.confSlot = imageSlot s s.upd.confSlot) ∧
      (s.upd.trial = true → exec .updArm s = .next (completeSt f .conflict s)) ∧
      (∀ r, s.bkb.relay = some r → r.slot = k → exec .updArm s = .next (completeSt f .conflict s))) ∧
    (∀ x idx, Front 0x0D02 f s → armedSlot s = some x → idx = f.p 16 2 → f.bufLen = 512 → idx < x.pieces → idx < 5120 →
      f.p 20 4 = x.imageId.toNat → x.sources.getLsbD 0 = true →
      (x.bitmap.getLsbD idx = true → exec .updPieceWrite s = .next (complete f .ok 1 (leBytes 2 x.received) none s)) ∧
      (x.bitmap.getLsbD idx = false → ∃ t, exec .updPieceWrite s = .next t ∧ (imageSlot t k).bitmap.getLsbD idx = true ∧
        (∀ j, j < 5120 → j ≠ idx → (imageSlot t k).bitmap.getLsbD j = x.bitmap.getLsbD j) ∧
        ∀ j, j < 64 → (wordAt .mram (pieceWord k idx + j) t).data = BitVec.ofNat 64 (leNat (slice (slice f.inBuf 0 512) (8 * j) 8)))) ∧
    (∀ x, Front 0x0D03 f s → armedSlot s = some x →
      exec .updBitmapRead s = .next (complete f .ok 0 (leBytes 2 x.received) (some (leBytes 640 x.bitmap.toNat)) s)) ∧
    (Front 0x0D04 f s → s.upd.trial = false → (imageSlot s k).whole = true → s.upd.armed = true →
      f.p 16 4 = (imageSlot s k).imageId.toNat → ∃ t, exec .updActivate s = .next t ∧ t.upd.mark = .pending ∧
        t.rst.cause = s.rst.cause ||| BitVec.ofNat 16 (2 ^ Source.update.num)) ∧
    (Front 0x0D04 f s → (s.upd.trial = true ∨ (imageSlot s k).whole = false) → exec .updActivate s = .next (completeSt f .conflict s)) ∧
    (Front 0x0D05 f s → s.upd.recovery = false → s.upd.trial = true → ∃ t, exec .updConfirm s = .next t ∧
      t.upd.confSlot = s.upd.runSlot ∧ t.upd.trial = false ∧ t.upd.armed = false ∧ t.upd.area = none ∧
      t.upd.floor.toNat = max s.upd.floor.toNat s.upd.trialSvn.toNat) ∧
    (Front 0x0D05 f s → s.upd.recovery = false → s.upd.trial = false → exec .updConfirm s = .next (completeSt f .conflict s)) ∧
    (Front 0x0D06 f s → s.upd.recovery = false → s.upd.trial = true → ∃ t, exec .updRevert s = .next t ∧ t.upd.fallWhy = some 3 ∧
      t.rst.cause = s.rst.cause ||| BitVec.ofNat 16 (2 ^ Source.update.num)) ∧
    (∀ t0, Reached .done s → s.rst.apdUp = true → trialEnd s = some t0 → t0 ≤ s.now → ∃ t, exec .trialExpiry s = .next t ∧ t.upd.fallWhy = some 1 ∧
      t.rst.cause = s.rst.cause ||| BitVec.ofNat 16 (2 ^ Source.update.num)) ∧
    (Front 0x0D07 f s → exec .updStatusRead s =
      .next (complete f .ok 0 (leBytes 4 (updStatusWord s) ++ leBytes 4 (updPiecesWord s)) none s)) ∧
    (∀ (b : BootIn) c ok s1 v r, s.rst.apdUp = true → s.upd.checking = some c → checkTiles c.slot s = (ok, s1) →
      v = bootView c.slot ok b s1 → r = bootCheck v (if c.trial then some (imageSlot s s.upd.confSlot).sfmt else none) s1 →
      (c.trial = true → c.hashed = true → r = 0 → ∃ t, exec (.imageBootCheck b) s = .next t ∧ t.upd.trial = true ∧
        t.upd.runSlot = c.slot ∧ t.upd.confSlot = s.upd.confSlot ∧ t.upd.area = some (settingsOf s) ∧ t.upd.checking = none) ∧
      (c.trial = false → c.hashed = true → r = 0 → ∃ t, exec (.imageBootCheck b) s = .next t ∧ t.upd.trial = false ∧
        t.upd.runSlot = s.upd.confSlot ∧ t.upd.recovery = false ∧ t.upd.checking = none) ∧
      (r ≠ 0 → (r ≤ 6 ∨ c.hashed = true) →
        (c.last = false → c.trial = true → ∃ t d, exec (.imageBootCheck b) s = .next t ∧ t.upd.reason = r ∧ t.upd.checking = some d ∧
          d.slot = s.upd.confSlot ∧ d.trial = false ∧ d.last = true) ∧
        (c.last = false → c.trial = false → (imageSlot s k).whole = true → ∃ t d, exec (.imageBootCheck b) s = .next t ∧
          t.upd.reason = r ∧ t.upd.checking = some d ∧ d.slot = k ∧ d.trial = true ∧ d.last = true) ∧
        ((c.last = true ∨ (c.trial = false ∧ (imageSlot s k).whole = false)) → ∃ t, exec (.imageBootCheck b) s = .next t ∧
          t.upd.reason = r ∧ t.upd.recovery = true ∧ t.upd.checking = none)) ∧
      (c.hashed = false → (r = 0 ∨ 6 < r) → exec (.imageBootCheck b) s = .next s1)) ∧
    (Front 0x0D01 f s → (f.p 16 4 = 0 ∨ f.p 20 2 = 0 ∨ 5120 < f.p 20 2 ∨ f.p 22 1 = 0 ∨ 3 < f.p 22 1 ∨
        (s.upd.recovery = true ∧ f.p 22 1 = 2)) → exec .updArm s = .next (completeSt f .invalid s)) ∧
    (Front 0x0D01 f s → f.p 16 4 ≠ 0 → 1 ≤ f.p 20 2 → f.p 20 2 ≤ 5120 → (f.p 22 1 = 1 ∨ f.p 22 1 = 3) → s.upd.mark ≠ .none →
      exec .updArm s = .next (completeSt f .conflict s)) ∧
    (Front 0x0D02 f s → armedSlot s = none →
      exec .updPieceWrite s = .next (completeSt f (if f.bufLen ≠ 512 then .invalid else .conflict) s)) ∧
    (∀ x, Front 0x0D02 f s → armedSlot s = some x →
      ((f.bufLen ≠ 512 ∨ x.pieces ≤ f.p 16 2) → exec .updPieceWrite s = .next (completeSt f .invalid s)) ∧
      (f.bufLen = 512 → f.p 16 2 < x.pieces → (f.p 20 4 ≠ x.imageId.toNat ∨ x.sources.getLsbD 0 = false) →
        exec .updPieceWrite s = .next (completeSt f .conflict s))) ∧
    (Front 0x0D03 f s → armedSlot s = none →
      exec .updBitmapRead s = .next (complete f .ok 0 (leBytes 2 0) (some (leBytes 640 0)) s)) ∧
    (Front 0x0D04 f s → s.upd.trial = false → (imageSlot s k).whole = true →
      (s.upd.armed = false ∨ f.p 16 4 ≠ (imageSlot s k).imageId.toNat) → exec .updActivate s = .next (completeSt f .invalid s)) ∧
    (s.upd.recovery = true → (Front 0x0D05 f s → exec .updConfirm s = .next (completeSt f .notReady s)) ∧
      (Front 0x0D06 f s → exec .updRevert s = .next (completeSt f .notReady s))) ∧
    (Front 0x0D06 f s → s.upd.recovery = false → s.upd.trial = false → exec .updRevert s = .next (completeSt f .conflict s))

/-- R415 to R417, R419, R424, R425, R429, R430, R432: the memories and the MRAM port. A word that is written reads back clean; one
flipped bit is corrected and counted, two are delivered and poisoned. The three copies of a record lie in three tiles and in two banks
at least, and no move of a tile changes that. The hour's window of corrections above THRESH sets GEN_REPLACE. A free
port is granted, and an access of one word ends at its word boundary; a requester of a higher class takes the port from a running
transfer there. Readings of the model in it: logs 4, 117, 165. -/
def Obligations.MemoryAndPort : Prop :=
  ∀ (s : State),
    placed State.reset = true ∧ (∀ r : Reloc, placed s = true → placed (switchTile r s) = true) ∧
    (∀ m a d p, a < memWords m → sparseWf ({} : Stored) (memTable m s) = true →
      wordAt m a (writeWord m a d p s) = { data := d, poison := p, valid := true }) ∧
    (∀ m a w b, w = wordAt m a s → w.valid = true → w.flips = [b] → b < 73 → a < memWords m → sparseWf ({} : Stored) (memTable m s) = true →
      ∃ t, readWord m a false s = ((w.data, w.poison), t) ∧ wordAt m a t = { w with flips := [] } ∧
        t.mem.ceCount = min 0xFFFFFFFF (s.mem.ceCount + 1)) ∧
    (∀ m a w b c, w = wordAt m a s → w.valid = true → w.flips = [b, c] → b < c → c < 73 → a < memWords m →
      sparseWf ({} : Stored) (memTable m s) = true → ∃ t, readWord m a false s = ((w.raw.data, true), t) ∧
        (wordAt m a t).poison = true ∧ t.mem.ueWord = min 65535 (s.mem.ueWord + 1)) ∧
    (∀ (who : Fin 8) (a : Nat) (d : W64) (q : Bool), s.rst.held0 = false → s.mem.waiting = [] → s.mem.busy = none → s.mem.freeze = false →
      ∃ t, exec (.mramPortRequest [{ requester := who, xfer := .write a [(d, q)] }]) s = .next t ∧
        t.mem.busy = some { who := who, xfer := .write a [(d, q)] } ∧ t.mem.owner = who ∧ t.mem.waiting = []) ∧
    (∀ (who : Fin 8) (a : Nat) (d : W64) (q : Bool), s.rst.held0 = false → s.mem.waiting = [] → a < memWords .mram →
      s.mem.busy = some { who := who, xfer := .write a [(d, q)] } → sparseWf ({} : Stored) s.mem.mram = true →
      ∃ t, exec (.mramPortRequest []) s = .next t ∧ t.mem.busy = none ∧
        wordAt .mram a t = { data := d, poison := q, valid := true }) ∧
    (∀ (w : PortXfer) (r : PortReq), s.rst.held0 = false → s.mem.waiting = [] → s.mem.busy = some w → s.mem.freeze = false →
      w.moved + 1 < xferSize w.xfer → portClass w.who < portClass r.requester → w.who ≠ r.requester →
      ∃ t, exec (.mramPortRequest [r]) s = .next t ∧ t.mem.owner = r.requester ∧ (∃ x ∈ t.mem.waiting, x = { w with moved := 0 })) ∧
    (∀ (k : Fin 8) (v : W32), LinkUp s →
      (k.val < 4 → exec (.arbPrioWrite k v) s = .next s) ∧
      (4 ≤ k.val → (∀ w, s.mem.busy = some w → w.who ≠ k) → exec (.arbPrioWrite k v) s = .next { s with mem := { s.mem with
        base := s.mem.base.set k.val (bitsOf v.toNat 0 3), prio := s.mem.prio.set k.val (bitsOf v.toNat 0 3) } })) ∧
    (s.rst.msdUp = true → (s.mem.windowNo + 1) * 230400000 ≤ s.now → ∃ t, exec .ceRateWindowEnd s = .next t ∧ t.mem.window = [] ∧
      t.mem.windowNo = s.now / 230400000 ∧ (s.mem.thresh < s.mem.window.length → t.gen.replace.getLsbD 0 = true) ∧
      (s.mem.window.length ≤ s.mem.thresh → t.gen = s.gen)) ∧
    (∀ f, Front 0x0E01 f s → exec .memLogRead s = .next (complete f .ok 0 [BitVec.ofNat 8 s.mem.log.length, BitVec.ofNat 8 (b2n s.mem.logOvf)]
      (some (slice (s.mem.log.flatMap CeEntry.bytes) 0 512)) s))

/-! ### What every step keeps -/

/-- R415: the stored memories stay in canonical form under every command: their addresses strictly rise and no entry holds what an
unlisted address holds, so that equal memories are equal data. Readings of the model in it: log 4. -/
def Obligations.EveryStepKeepsMemoryCanonical : Prop :=
  ∀ (s t : State), MemoryCanonical s → step s = .next t → MemoryCanonical t

/-- R415: nothing is listed in the stored memories after reset, so their form is canonical. Readings of the model in it: log 4. -/
def Obligations.MemoryCanonicalAtReset : Prop :=
  MemoryCanonical State.reset

/-- R66, R449: no command changes the identity of the part, a reset source whose fuse has been changed keeps its level for good, and the
commands that wait keep their order: a step takes the front one and adds none. Readings of the model in it: logs 3, 6. -/
def Obligations.EveryStepKeepsIdentityAndOrder : Prop :=
  ∀ (s t : State), step s = .next t →
    t.fuse = { s.fuse with rstMap := t.fuse.rstMap, rstChg := t.fuse.rstChg } ∧
    (∀ i : Fin 16, s.fuse.rstChg.getLsbD i.val = true →
      t.fuse.rstChg.getLsbD i.val = true ∧ t.fuse.rstMap[i.val] = s.fuse.rstMap[i.val]) ∧
    t.pending = s.pending.tail

/-- R16, R75: every command completes, on every operand and in every state; a register write alone needs an offset that a register table
names (log 31). -/
def Obligations.EveryCommandCompletes : Prop :=
  ∀ (c : Instr) (s : State), (∀ b off v, c = .registerWrite b off v → ∃ r, regAt b off = some r) → ∃ t, exec c s = .next t
end

