-- ==== Sys2Proof/Laws/Mem.lean ====
section
/-! SUPPORT. The placement of the three copies of a record in the tiles of the MRAM. -/

namespace Sys2Proof.Laws

open Sys2Proof Sys2Proof.Machine

/-- The three tiles from which a record's copies take theirs are different, and the first two lie in different banks. -/
theorem copyTile_three (o : Nat) : ∃ a b c : Nat, (a < 2048 ∧ b < 2048 ∧ c < 2048 ∧ a / 512 ≠ b / 512 ∧ c ≠ a ∧ c ≠ b) ∧
    ∀ j, copyTile o j = [a, b, c].getD ((j + Config.place o 4) % 3) a := by
  refine ⟨_, _, _, ?_, fun j => rfl⟩
  have h1 : Config.place o 0 % 2048 < 2048 := Nat.mod_lt _ (by decide)
  have h3 : Config.place o 3 % 2046 < 2046 := Nat.mod_lt _ (by decide)
  generalize Config.place o 0 % 2048 = a at *
  generalize Config.place o 3 % 2046 = c at *
  generalize hb : 512 * ((a / 512 + 1 + Config.place o 1 % 3) % 4) + Config.place o 2 % 512 = b
  refine ⟨h1, by omega, ?_⟩
  have hab : a / 512 ≠ b / 512 := by omega
  have hne : a ≠ b := fun h => hab (by rw [h])
  split
  · omega
  · split <;> omega

/-- The tiles of a record's three copies are apart (R419). -/
theorem copyTile_apart (o : Nat) : apart (copyTile o 0) (copyTile o 1) (copyTile o 2) = true := by
  obtain ⟨a, b, c, ⟨ha, hb, hc, hab, hca, hcb⟩, h⟩ := copyTile_three o
  have hne : a ≠ b := fun e => hab (by rw [e])
  have hk : ∀ p, p < 2048 → bankOf p = p / 512 := fun p hp => by simp [bankOf, hp]
  rw [h, h, h, Nat.add_mod 0, Nat.add_mod 1, Nat.add_mod 2]
  have hr : Config.place o 4 % 3 = 0 ∨ Config.place o 4 % 3 = 1 ∨ Config.place o 4 % 3 = 2 := by omega
  rcases hr with r | r | r <;> simp [r, apart, hk, ha, hb, hc] <;> omega

/-- While no tile has been moved every record is placed as R419 wants. -/
theorem placed_unmoved (s : State) (h : s.mem.map = []) : placed s = true := by
  have hp : ∀ t, physTile t s = t := by intro t; simp [physTile, h]
  simp [placed, hp, copyTile_apart]

end Sys2Proof.Laws
end

