-- ==== Sys2Proof/Laws/Ops.lean ====
section
/-! SUPPORT. What the shared operations can do: an event or a message changes the host interface unit and what has left the part, a
completion the journal too, an event that waits the list of those, a window that the tick has come to is not run again, and the sparse tables keep their canonical form. -/

namespace Sys2Proof.Laws

open Sys2Proof Sys2Proof.Machine Sys2Proof.Safety

/-! ### Frames of events and messages -/

theorem HostOnly.refl (s : State) : HostOnly s s := rfl

theorem HostOnly.trans {a b c : State} (h1 : HostOnly a b) (h2 : HostOnly b c) : HostOnly a c := by
  unfold HostOnly at *
  rw [h2, h1]

theorem HostOnly.after {a b c : State} (h2 : HostOnly b c) (h1 : HostOnly a b) : HostOnly a c := HostOnly.trans h1 h2

theorem HostOnly.hif (s : State) (h : Hif) : HostOnly s { s with hif := h } := rfl

theorem emit_hostOnly (o : Out) (s : State) : HostOnly s (emit o s) := rfl

theorem sendMsix_hostOnly (v : Fin 32) (s : State) : HostOnly s (sendMsix v s) := by
  unfold sendMsix
  dsimp only
  split <;> rfl

theorem produce_hostOnly (c t : Nat) (d : List Byte) (g : W48) (s : State) : HostOnly s (produce c t d g s).2 := rfl

theorem writeEvent_hostOnly (e : Event) (s : State) : HostOnly s (writeEvent e s) := by
  unfold writeEvent
  split
  dsimp only
  split
  · exact HostOnly.after (sendMsix_hostOnly _ _) rfl
  · rfl

theorem placeEvent_hostOnly (e : Event) (s : State) : HostOnly s (placeEvent e s) := by
  unfold placeEvent
  split
  · exact writeEvent_hostOnly e s
  · rfl

theorem stageEvent_hostOnly (e : Event) (s : State) : HostOnly s (stageEvent e s) := by
  unfold stageEvent
  split <;> rfl

theorem routeEvent_hostOnly (e : Event) (s : State) : HostOnly s (routeEvent e s) := by
  unfold routeEvent
  split
  · exact placeEvent_hostOnly e s
  · exact stageEvent_hostOnly e s

theorem setErr_hostOnly (b r : Nat) (s : State) : HostOnly s (setErr b r s) := by
  unfold setErr
  dsimp only
  split
  · rfl
  · exact HostOnly.after (routeEvent_hostOnly _ _) rfl

theorem eventFail_hostOnly (s : State) : HostOnly s (eventFail s) := by
  unfold eventFail
  split
  · exact HostOnly.after (setErr_hostOnly _ _ _) rfl
  · rfl

theorem raiseErr_hostOnly (b r : Nat) (s : State) : HostOnly s (raiseErr b r s) :=
  HostOnly.trans (setErr_hostOnly b r s) (eventFail_hostOnly _)

theorem putEvent_hostOnly (e : Event) (s : State) : HostOnly s (putEvent e s) :=
  HostOnly.trans (routeEvent_hostOnly e s) (eventFail_hostOnly _)

/-- Posting an event changes nothing but the host interface unit and what has left the part. -/
theorem post_hostOnly (c t : Nat) (d : List Byte) (s : State) : HostOnly s (post c t d s) :=
  HostOnly.trans (b := (produce c t d s.gen.gtc s).2) rfl (putEvent_hostOnly _ _)

theorem drainHeld_hostOnly (n : Nat) (s : State) : HostOnly s (drainHeld n s) := by
  induction n generalizing s with
  | zero => rfl
  | succ n ih =>
    unfold drainHeld
    split
    · rfl
    · split
      · exact HostOnly.after (ih _) (HostOnly.after (placeEvent_hostOnly _ _) rfl)
      · rfl

theorem drainLost_hostOnly (s : State) : HostOnly s (drainLost s) := by
  unfold drainLost
  split
  · exact HostOnly.after (placeEvent_hostOnly _ _) rfl
  · rfl

theorem drainStaged_hostOnly (n : Nat) (s : State) : HostOnly s (drainStaged n s) := by
  induction n generalizing s with
  | zero => rfl
  | succ n ih =>
    unfold drainStaged
    split
    · rfl
    · split
      · exact HostOnly.after (ih _) (HostOnly.after (placeEvent_hostOnly _ _) rfl)
      · rfl

theorem drainEvents_hostOnly (s : State) : HostOnly s (drainEvents s) :=
  HostOnly.trans (HostOnly.trans (HostOnly.trans (drainHeld_hostOnly _ s) (drainLost_hostOnly _)) (drainStaged_hostOnly _ _))
    (eventFail_hostOnly _)

/-! ### Frames of completions -/

theorem HostOnly.journal {s t : State} (h : HostOnly s t) : HostAndJournalOnly s t := by
  unfold HostOnly at h
  unfold HostAndJournalOnly
  rw [h]

theorem HostAndJournalOnly.trans {a b c : State} (h1 : HostAndJournalOnly a b) (h2 : HostAndJournalOnly b c) :
    HostAndJournalOnly a c := by
  unfold HostAndJournalOnly at *
  rw [h2, h1]

theorem writeCompletion_hostOnly (q : Fin 16) (c : Completion) (s : State) : HostOnly s (writeCompletion q c s) := by
  unfold writeCompletion
  dsimp only
  split
  · exact HostOnly.after (sendMsix_hostOnly _ _) rfl
  · rfl

theorem completionFail_hostOnly (q : Fin 16) (s : State) : HostOnly s (completionFail q s) := by
  unfold completionFail
  dsimp only
  split
  · exact HostOnly.after (raiseErr_hostOnly _ _ _) rfl
  · rfl

theorem putCompletion_hostOnly (q : Fin 16) (c : Completion) (s : State) : HostOnly s (putCompletion q c s) := by
  unfold putCompletion
  dsimp only
  split
  · exact writeCompletion_hostOnly q c s
  · exact HostOnly.after (completionFail_hostOnly _ _) rfl

theorem HostAndJournalOnly.after {a b c : State} (h2 : HostAndJournalOnly b c) (h1 : HostAndJournalOnly a b) :
    HostAndJournalOnly a c := HostAndJournalOnly.trans h1 h2

/-- A completion changes nothing but the host interface unit, the journal and what has left the part. -/
theorem complete_frame (f : Flight) (st : Status) (d : Nat) (data : List Byte) (buf : Option (List Byte)) (s : State) :
    HostAndJournalOnly s (complete f st d data buf s) := by
  have step1 : ∀ s : State, HostAndJournalOnly s (match buf with
      | some b => if (s.hif.run && !f.noCq) && (s.hif.linkOk && s.hif.bufOk) then emit (.buffer f.bufAddr b) s else s
      | none => s) := by
    intro s
    split
    · split <;> rfl
    · rfl
  have step2 : ∀ (c : Bool) (s : State), HostAndJournalOnly s (if c then raiseErr 3 f.sq.val s else s) := by
    intro c s
    split
    · exact HostOnly.journal (raiseErr_hostOnly _ _ _)
    · rfl
  have step4 : ∀ (c : Bool) (e : Completion) (s : State), HostAndJournalOnly s (if c then putCompletion f.cq e s else s) := by
    intro c e s
    split
    · exact HostOnly.journal (putCompletion_hostOnly _ _ _)
    · rfl
  have step3 : ∀ s : State, HostAndJournalOnly s
      { closeEntry f.seq (d * 256 + st.code) s with
        hif := { s.hif with inflight := s.hif.inflight.filter (fun g => g.seq != f.seq) } } := fun _ => rfl
  unfold complete
  exact HostAndJournalOnly.after (step4 _ _ _) (HostAndJournalOnly.after (step3 _) (HostAndJournalOnly.after (step2 _ _) (step1 s)))

theorem completeSt_frame (f : Flight) (st : Status) (s : State) : HostAndJournalOnly s (completeSt f st s) :=
  complete_frame f st 0 [] none s

/-- The same of a descriptor named by its number, in flight or not. -/
theorem completeSeq_frame (seq : Nat) (st : Status) (d : Nat) (data : List Byte) (buf : Option (List Byte)) (s : State) :
    HostAndJournalOnly s (completeSeq seq st d data buf s) := by
  unfold completeSeq
  split
  · exact complete_frame _ _ _ _ _ _
  · rfl

theorem keepRunning_hostOnly (f : Flight) (s : State) : HostOnly s (keepRunning f s) := rfl

/-! ### Frames of events that wait for their window -/

theorem HostOnly.events {s t : State} (h : HostOnly s t) : EventsOnly s t := by
  unfold HostOnly at h
  unfold EventsOnly
  rw [h]

theorem EventsOnly.trans {a b c : State} (h1 : EventsOnly a b) (h2 : EventsOnly b c) : EventsOnly a c := by
  unfold EventsOnly at *
  rw [h2, h1]

theorem EventsOnly.journal {s t : State} (h : EventsOnly s t) : JournalAndEventsOnly s t := by
  unfold EventsOnly at h
  unfold JournalAndEventsOnly
  rw [h]

theorem HostAndJournalOnly.events {s t : State} (h : HostAndJournalOnly s t) : JournalAndEventsOnly s t := by
  unfold HostAndJournalOnly at h
  unfold JournalAndEventsOnly
  rw [h]

theorem JournalAndEventsOnly.trans {a b c : State} (h1 : JournalAndEventsOnly a b) (h2 : JournalAndEventsOnly b c) :
    JournalAndEventsOnly a c := by
  unfold JournalAndEventsOnly at *
  rw [h2, h1]

theorem holdLate_eventsOnly (c t : Nat) (d : List Byte) (s : State) : EventsOnly s (holdLate c t d s) := rfl

theorem postSes_eventsOnly (c t : Nat) (d : List Byte) (s : State) : EventsOnly s (postSes c t d s) := rfl

theorem postMail_eventsOnly (c t : Nat) (d : List Byte) (s : State) : EventsOnly s (postMail c t d s) := rfl

theorem postSaf_eventsOnly (c t : Nat) (d : List Byte) (s : State) : EventsOnly s (postSaf c t d s) := by
  unfold postSaf
  split
  · exact HostOnly.events (post_hostOnly c t d s)
  · rfl

theorem postLate_eventsOnly (c t : Nat) (d : List Byte) (s : State) : EventsOnly s (postLate c t d s) := by
  unfold postLate
  split
  · rfl
  · exact HostOnly.events (post_hostOnly c t d s)

/-- Posting the events that waited changes nothing else. -/
theorem flushWhere_eventsOnly (sel : Nat → Bool) (s : State) : EventsOnly s (flushWhere sel s) := by
  have posts : ∀ (l : List (Nat × Nat × List Byte)) (s : State),
      EventsOnly s (l.foldl (fun s e => post e.1 e.2.1 e.2.2 s) s) := by
    intro l
    induction l with
    | nil => exact fun _ => rfl
    | cons e l ih => exact fun s => EventsOnly.trans (HostOnly.events (post_hostOnly _ _ _ s)) (ih _)
  exact EventsOnly.trans (b := { s with gen := { s.gen with lateEv := (s.gen.lateEv.partition fun e => sel e.1).2 } }) rfl (posts _ _)

/-- A command of foreground A acts in a tick that stands, and does nothing in a discarded one. -/
theorem inSafety_undiscarded (act : State → State) {s : State} (h : Undiscarded s) : inSafety act s = .next (act s) := by
  unfold inSafety
  rw [h]
  rfl

/-! ### Access and dispatch -/

/-- With the link up a host access acts. -/
theorem hostAcc_up (act : State → State) {s : State} (h : LinkUp s) : hostAcc act s = act s := if_pos h

/-- A window that the tick has come to is not run again. -/
theorem reach_reached {w : Window} {s : State} (h : Reached w s) : reach w s = s := by
  have none_left : (windowSteps.filter fun e => decide (s.gen.win.num < e.1.num ∧ e.1.num ≤ w.num)) = [] := by
    rw [List.filter_eq_nil_iff]
    intro e _
    simp only [decide_eq_true_eq]
    have := h.1
    omega
  unfold reach
  rw [none_left]
  rfl

/-- A command of a window that the tick has come to acts at once. -/
theorem inWindow_reached (act : State → Res) {w : Window} {s : State} (h : Reached w s) : inWindow w act s = act s := by
  unfold inWindow
  rw [h.2, reach_reached h]
  rfl

/-- The front descriptor is dispatched where it carries the opcode. -/
theorem dispatch_front {opc : Nat} (act : Flight → State → State) {f : Flight} {s : State} (h : Front opc f s) :
    dispatch opc act s = act f s := by
  obtain ⟨up, win, next, opcode, intake, _⟩ := h
  unfold dispatch
  rw [if_pos ⟨up, win⟩, next]
  exact if_pos ⟨opcode, intake⟩

/-! ### Canonical form of sparse tables -/

theorem sparseWfFrom_weaken {α : Type} [DecidableEq α] (d : α) {lo lo' : Nat} (l : List (Nat × α)) (h : lo' ≤ lo)
    (w : sparseWfFrom d lo l = true) : sparseWfFrom d lo' l = true := by
  cases l with
  | nil => rfl
  | cons e t =>
    obtain ⟨k, v⟩ := e
    simp only [sparseWfFrom, Bool.and_eq_true, decide_eq_true_eq] at *
    exact ⟨⟨Nat.le_trans h w.1.1, w.1.2⟩, w.2⟩

/-- A write keeps the canonical form above any bound that the written index respects. -/
theorem sparseSet_wfFrom {α : Type} [DecidableEq α] (d : α) (k : Nat) (v : α) (l : List (Nat × α)) (lo : Nat) (hk : lo ≤ k)
    (w : sparseWfFrom d lo l = true) : sparseWfFrom d lo (sparseSet d l k v) = true := by
  induction l generalizing lo with
  | nil =>
    unfold sparseSet
    split <;> simp_all [sparseWfFrom]
  | cons e t ih =>
    obtain ⟨k', v'⟩ := e
    simp only [sparseWfFrom, Bool.and_eq_true, decide_eq_true_eq] at w
    unfold sparseSet
    split
    · simp only [sparseWfFrom, Bool.and_eq_true, decide_eq_true_eq]
      exact ⟨w.1, ih (k' + 1) (by omega) w.2⟩
    · split
      · subst_vars
        split
        · exact sparseWfFrom_weaken d t (by omega) w.2
        · simp_all [sparseWfFrom]
      · split
        · simp_all [sparseWfFrom]
        · simp only [sparseWfFrom, Bool.and_eq_true, decide_eq_true_eq]
          exact ⟨⟨hk, by assumption⟩, ⟨by omega, w.1.2⟩, w.2⟩

/-- A write keeps the canonical form of a sparse table. -/
theorem sparseSet_wf {α : Type} [DecidableEq α] (d : α) (k : Nat) (v : α) (l : List (Nat × α))
    (w : sparseWf d l = true) : sparseWf d (sparseSet d l k v) = true :=
  sparseSet_wfFrom d k v l 0 (Nat.zero_le _) w

/-- A read after a write to the same index gives the value written. -/
theorem sparseGet_set_same {α : Type} [DecidableEq α] (d : α) (k : Nat) (v : α) (l : List (Nat × α)) (lo : Nat)
    (w : sparseWfFrom d lo l = true) : sparseGet d (sparseSet d l k v) k = v := by
  induction l generalizing lo with
  | nil =>
    unfold sparseSet
    split <;> simp_all [sparseGet]
  | cons e t ih =>
    obtain ⟨k', v'⟩ := e
    simp only [sparseWfFrom, Bool.and_eq_true, decide_eq_true_eq] at w
    have below : ∀ (l : List (Nat × α)) (lo : Nat), sparseWfFrom d lo l = true → k < lo → sparseGet d l k = d := by
      intro l
      induction l with
      | nil => intros; rfl
      | cons e t ih =>
        intro lo h hl
        obtain ⟨a, b⟩ := e
        simp only [sparseWfFrom, Bool.and_eq_true, decide_eq_true_eq] at h
        unfold sparseGet
        rw [if_neg (by omega)]
        exact ih (a + 1) h.2 (by omega)
    unfold sparseSet
    split
    · unfold sparseGet
      rw [if_neg (by omega)]
      exact ih (k' + 1) w.2
    · split
      · subst_vars
        split
        · subst_vars
          exact below t _ w.2 (by omega)
        · simp [sparseGet]
      · split
        · subst_vars
          unfold sparseGet
          rw [if_neg (by omega)]
          exact below t _ w.2 (by omega)
        · simp [sparseGet]

/-- A write leaves every other index as it is. -/
theorem sparseGet_set_other {α : Type} [DecidableEq α] (d : α) (k j : Nat) (v : α) (l : List (Nat × α)) (h : j ≠ k) (lo : Nat)
    (w : sparseWfFrom d lo l = true) : sparseGet d (sparseSet d l k v) j = sparseGet d l j := by
  induction l generalizing lo with
  | nil =>
    unfold sparseSet
    split <;> simp_all [sparseGet, Ne.symm h]
  | cons e t ih =>
    obtain ⟨k', v'⟩ := e
    simp only [sparseWfFrom, Bool.and_eq_true, decide_eq_true_eq] at w
    unfold sparseSet
    split
    · simp only [sparseGet]
      split
      · rfl
      · exact ih _ w.2
    · split
      · subst_vars
        split
        · simp [sparseGet, Ne.symm h]
        · simp [sparseGet, Ne.symm h]
      · split
        · rfl
        · simp [sparseGet, Ne.symm h]

end Sys2Proof.Laws
end

