-- ==== Sys2Proof/Laws/State.lean ====
section
/-! SUPPORT. What each shared update leaves in each block of the state: one lemma per block and update, so that no proof unfolds a
record update. -/

open Sys2Proof Sys2Proof.Machine

namespace Sys2Proof.Laws

/-- Reading the changed element of a vector. -/
@[simp] theorem vmod_self {α : Type} {k : Nat} (v : Vector α k) (i : Fin k) (f : α → α) : (vmod v i f)[i.val] = f v[i.val] := by
  simp [vmod]

/-- Reading another element of a vector. -/
theorem vmod_other {α : Type} {k : Nat} (v : Vector α k) (i j : Fin k) (f : α → α) (h : i ≠ j) : (vmod v i f)[j.val] = v[j.val] := by
  simp only [vmod]
  exact Vector.getElem_set_ne _ _ fun e => h (Fin.ext e)

/-- The outlet that was changed. -/
@[simp] theorem outOf_modOut_self (n : Outlet8) (f : Outlet → Outlet) (s : State) : outOf (modOut n f s) n = f (outOf s n) := vmod_self _ _ _

/-- Another outlet. -/
theorem outOf_modOut_other (n m : Outlet8) (f : Outlet → Outlet) (s : State) (h : n ≠ m) : outOf (modOut n f s) m = outOf s m :=
  vmod_other _ _ _ _ h

/-- The link that was changed. -/
@[simp] theorem linkOf_modLink_self (n : Outlet8) (f : Link → Link) (s : State) : linkOf (modLink n f s) n = f (linkOf s n) := vmod_self _ _ _

/-- The mirror that was changed. -/
@[simp] theorem mirrorOf_modMirror_self (n : Outlet8) (f : Mirror → Mirror) (s : State) : mirrorOf (modMirror n f s) n = f (mirrorOf s n) :=
  vmod_self _ _ _

/-- The channel that was changed. -/
@[simp] theorem chOf_modCh_self (k : Fin 24) (f : Channel → Channel) (s : State) : chOf (modCh k f s) k = f (chOf s k) := vmod_self _ _ _

/-! ### emit -/

@[simp] theorem emit_gen (o : Out) (s : State) : (emit o s).gen = s.gen := rfl
@[simp] theorem emit_fuse (o : Out) (s : State) : (emit o s).fuse = s.fuse := rfl
@[simp] theorem emit_rst (o : Out) (s : State) : (emit o s).rst = s.rst := rfl
@[simp] theorem emit_hif (o : Out) (s : State) : (emit o s).hif = s.hif := rfl
@[simp] theorem emit_jnl (o : Out) (s : State) : (emit o s).jnl = s.jnl := rfl
@[simp] theorem emit_adc (o : Out) (s : State) : (emit o s).adc = s.adc := rfl
@[simp] theorem emit_nrg (o : Out) (s : State) : (emit o s).nrg = s.nrg := rfl
@[simp] theorem emit_watch (o : Out) (s : State) : (emit o s).watch = s.watch := rfl
@[simp] theorem emit_bill (o : Out) (s : State) : (emit o s).bill = s.bill := rfl
@[simp] theorem emit_clk (o : Out) (s : State) : (emit o s).clk = s.clk := rfl
@[simp] theorem emit_prn (o : Out) (s : State) : (emit o s).prn = s.prn := rfl
@[simp] theorem emit_ppy (o : Out) (s : State) : (emit o s).ppy = s.ppy := rfl
@[simp] theorem emit_tam (o : Out) (s : State) : (emit o s).tam = s.tam := rfl
@[simp] theorem emit_ses (o : Out) (s : State) : (emit o s).ses = s.ses := rfl
@[simp] theorem emit_saf (o : Out) (s : State) : (emit o s).saf = s.saf := rfl
@[simp] theorem emit_vlk (o : Out) (s : State) : (emit o s).vlk = s.vlk := rfl
@[simp] theorem emit_sct (o : Out) (s : State) : (emit o s).sct = s.sct := rfl
@[simp] theorem emit_bkb (o : Out) (s : State) : (emit o s).bkb = s.bkb := rfl
@[simp] theorem emit_upl (o : Out) (s : State) : (emit o s).upl = s.upl := rfl
@[simp] theorem emit_nfc (o : Out) (s : State) : (emit o s).nfc = s.nfc := rfl
@[simp] theorem emit_tag (o : Out) (s : State) : (emit o s).tag = s.tag := rfl
@[simp] theorem emit_lcd (o : Out) (s : State) : (emit o s).lcd = s.lcd := rfl
@[simp] theorem emit_lmp (o : Out) (s : State) : (emit o s).lmp = s.lmp := rfl
@[simp] theorem emit_lsw (o : Out) (s : State) : (emit o s).lsw = s.lsw := rfl
@[simp] theorem emit_key (o : Out) (s : State) : (emit o s).key = s.key := rfl
@[simp] theorem emit_upd (o : Out) (s : State) : (emit o s).upd = s.upd := rfl
@[simp] theorem emit_mem (o : Out) (s : State) : (emit o s).mem = s.mem := rfl
@[simp] theorem emit_outbox (o : Out) (s : State) : (emit o s).outbox = o :: s.outbox := rfl
@[simp] theorem emit_lastRead (o : Out) (s : State) : (emit o s).lastRead = s.lastRead := rfl
@[simp] theorem emit_free (o : Out) (s : State) : (emit o s).free = s.free := rfl
@[simp] theorem emit_pending (o : Out) (s : State) : (emit o s).pending = s.pending := rfl

/-! ### keepRunning -/

@[simp] theorem keepRunning_gen (f : Flight) (s : State) : (keepRunning f s).gen = s.gen := rfl
@[simp] theorem keepRunning_fuse (f : Flight) (s : State) : (keepRunning f s).fuse = s.fuse := rfl
@[simp] theorem keepRunning_rst (f : Flight) (s : State) : (keepRunning f s).rst = s.rst := rfl
@[simp] theorem keepRunning_hif (f : Flight) (s : State) : (keepRunning f s).hif = { s.hif with inflight := s.hif.inflight.map fun g => if g.seq == f.seq then { g with running := true } else g } := rfl
@[simp] theorem keepRunning_jnl (f : Flight) (s : State) : (keepRunning f s).jnl = s.jnl := rfl
@[simp] theorem keepRunning_adc (f : Flight) (s : State) : (keepRunning f s).adc = s.adc := rfl
@[simp] theorem keepRunning_nrg (f : Flight) (s : State) : (keepRunning f s).nrg = s.nrg := rfl
@[simp] theorem keepRunning_watch (f : Flight) (s : State) : (keepRunning f s).watch = s.watch := rfl
@[simp] theorem keepRunning_bill (f : Flight) (s : State) : (keepRunning f s).bill = s.bill := rfl
@[simp] theorem keepRunning_clk (f : Flight) (s : State) : (keepRunning f s).clk = s.clk := rfl
@[simp] theorem keepRunning_prn (f : Flight) (s : State) : (keepRunning f s).prn = s.prn := rfl
@[simp] theorem keepRunning_ppy (f : Flight) (s : State) : (keepRunning f s).ppy = s.ppy := rfl
@[simp] theorem keepRunning_tam (f : Flight) (s : State) : (keepRunning f s).tam = s.tam := rfl
@[simp] theorem keepRunning_ses (f : Flight) (s : State) : (keepRunning f s).ses = s.ses := rfl
@[simp] theorem keepRunning_saf (f : Flight) (s : State) : (keepRunning f s).saf = s.saf := rfl
@[simp] theorem keepRunning_vlk (f : Flight) (s : State) : (keepRunning f s).vlk = s.vlk := rfl
@[simp] theorem keepRunning_sct (f : Flight) (s : State) : (keepRunning f s).sct = s.sct := rfl
@[simp] theorem keepRunning_bkb (f : Flight) (s : State) : (keepRunning f s).bkb = s.bkb := rfl
@[simp] theorem keepRunning_upl (f : Flight) (s : State) : (keepRunning f s).upl = s.upl := rfl
@[simp] theorem keepRunning_nfc (f : Flight) (s : State) : (keepRunning f s).nfc = s.nfc := rfl
@[simp] theorem keepRunning_tag (f : Flight) (s : State) : (keepRunning f s).tag = s.tag := rfl
@[simp] theorem keepRunning_lcd (f : Flight) (s : State) : (keepRunning f s).lcd = s.lcd := rfl
@[simp] theorem keepRunning_lmp (f : Flight) (s : State) : (keepRunning f s).lmp = s.lmp := rfl
@[simp] theorem keepRunning_lsw (f : Flight) (s : State) : (keepRunning f s).lsw = s.lsw := rfl
@[simp] theorem keepRunning_key (f : Flight) (s : State) : (keepRunning f s).key = s.key := rfl
@[simp] theorem keepRunning_upd (f : Flight) (s : State) : (keepRunning f s).upd = s.upd := rfl
@[simp] theorem keepRunning_mem (f : Flight) (s : State) : (keepRunning f s).mem = s.mem := rfl
@[simp] theorem keepRunning_outbox (f : Flight) (s : State) : (keepRunning f s).outbox = s.outbox := rfl
@[simp] theorem keepRunning_lastRead (f : Flight) (s : State) : (keepRunning f s).lastRead = s.lastRead := rfl
@[simp] theorem keepRunning_free (f : Flight) (s : State) : (keepRunning f s).free = s.free := rfl
@[simp] theorem keepRunning_pending (f : Flight) (s : State) : (keepRunning f s).pending = s.pending := rfl

/-! ### modRst -/

@[simp] theorem modRst_gen (f : Rst → Rst) (s : State) : (modRst f s).gen = s.gen := rfl
@[simp] theorem modRst_fuse (f : Rst → Rst) (s : State) : (modRst f s).fuse = s.fuse := rfl
@[simp] theorem modRst_rst (f : Rst → Rst) (s : State) : (modRst f s).rst = f s.rst := rfl
@[simp] theorem modRst_hif (f : Rst → Rst) (s : State) : (modRst f s).hif = s.hif := rfl
@[simp] theorem modRst_jnl (f : Rst → Rst) (s : State) : (modRst f s).jnl = s.jnl := rfl
@[simp] theorem modRst_adc (f : Rst → Rst) (s : State) : (modRst f s).adc = s.adc := rfl
@[simp] theorem modRst_nrg (f : Rst → Rst) (s : State) : (modRst f s).nrg = s.nrg := rfl
@[simp] theorem modRst_watch (f : Rst → Rst) (s : State) : (modRst f s).watch = s.watch := rfl
@[simp] theorem modRst_bill (f : Rst → Rst) (s : State) : (modRst f s).bill = s.bill := rfl
@[simp] theorem modRst_clk (f : Rst → Rst) (s : State) : (modRst f s).clk = s.clk := rfl
@[simp] theorem modRst_prn (f : Rst → Rst) (s : State) : (modRst f s).prn = s.prn := rfl
@[simp] theorem modRst_ppy (f : Rst → Rst) (s : State) : (modRst f s).ppy = s.ppy := rfl
@[simp] theorem modRst_tam (f : Rst → Rst) (s : State) : (modRst f s).tam = s.tam := rfl
@[simp] theorem modRst_ses (f : Rst → Rst) (s : State) : (modRst f s).ses = s.ses := rfl
@[simp] theorem modRst_saf (f : Rst → Rst) (s : State) : (modRst f s).saf = s.saf := rfl
@[simp] theorem modRst_vlk (f : Rst → Rst) (s : State) : (modRst f s).vlk = s.vlk := rfl
@[simp] theorem modRst_sct (f : Rst → Rst) (s : State) : (modRst f s).sct = s.sct := rfl
@[simp] theorem modRst_bkb (f : Rst → Rst) (s : State) : (modRst f s).bkb = s.bkb := rfl
@[simp] theorem modRst_upl (f : Rst → Rst) (s : State) : (modRst f s).upl = s.upl := rfl
@[simp] theorem modRst_nfc (f : Rst → Rst) (s : State) : (modRst f s).nfc = s.nfc := rfl
@[simp] theorem modRst_tag (f : Rst → Rst) (s : State) : (modRst f s).tag = s.tag := rfl
@[simp] theorem modRst_lcd (f : Rst → Rst) (s : State) : (modRst f s).lcd = s.lcd := rfl
@[simp] theorem modRst_lmp (f : Rst → Rst) (s : State) : (modRst f s).lmp = s.lmp := rfl
@[simp] theorem modRst_lsw (f : Rst → Rst) (s : State) : (modRst f s).lsw = s.lsw := rfl
@[simp] theorem modRst_key (f : Rst → Rst) (s : State) : (modRst f s).key = s.key := rfl
@[simp] theorem modRst_upd (f : Rst → Rst) (s : State) : (modRst f s).upd = s.upd := rfl
@[simp] theorem modRst_mem (f : Rst → Rst) (s : State) : (modRst f s).mem = s.mem := rfl
@[simp] theorem modRst_outbox (f : Rst → Rst) (s : State) : (modRst f s).outbox = s.outbox := rfl
@[simp] theorem modRst_lastRead (f : Rst → Rst) (s : State) : (modRst f s).lastRead = s.lastRead := rfl
@[simp] theorem modRst_free (f : Rst → Rst) (s : State) : (modRst f s).free = s.free := rfl
@[simp] theorem modRst_pending (f : Rst → Rst) (s : State) : (modRst f s).pending = s.pending := rfl

/-! ### modBill -/

@[simp] theorem modBill_gen (n : Outlet8) (f : Bill → Bill) (s : State) : (modBill n f s).gen = s.gen := rfl
@[simp] theorem modBill_fuse (n : Outlet8) (f : Bill → Bill) (s : State) : (modBill n f s).fuse = s.fuse := rfl
@[simp] theorem modBill_rst (n : Outlet8) (f : Bill → Bill) (s : State) : (modBill n f s).rst = s.rst := rfl
@[simp] theorem modBill_hif (n : Outlet8) (f : Bill → Bill) (s : State) : (modBill n f s).hif = s.hif := rfl
@[simp] theorem modBill_jnl (n : Outlet8) (f : Bill → Bill) (s : State) : (modBill n f s).jnl = s.jnl := rfl
@[simp] theorem modBill_adc (n : Outlet8) (f : Bill → Bill) (s : State) : (modBill n f s).adc = s.adc := rfl
@[simp] theorem modBill_nrg (n : Outlet8) (f : Bill → Bill) (s : State) : (modBill n f s).nrg = s.nrg := rfl
@[simp] theorem modBill_watch (n : Outlet8) (f : Bill → Bill) (s : State) : (modBill n f s).watch = s.watch := rfl
@[simp] theorem modBill_bill (n : Outlet8) (f : Bill → Bill) (s : State) : (modBill n f s).bill = vmod s.bill n fun b => { f b with dirty := true } := rfl
@[simp] theorem modBill_clk (n : Outlet8) (f : Bill → Bill) (s : State) : (modBill n f s).clk = s.clk := rfl
@[simp] theorem modBill_prn (n : Outlet8) (f : Bill → Bill) (s : State) : (modBill n f s).prn = s.prn := rfl
@[simp] theorem modBill_ppy (n : Outlet8) (f : Bill → Bill) (s : State) : (modBill n f s).ppy = s.ppy := rfl
@[simp] theorem modBill_tam (n : Outlet8) (f : Bill → Bill) (s : State) : (modBill n f s).tam = s.tam := rfl
@[simp] theorem modBill_ses (n : Outlet8) (f : Bill → Bill) (s : State) : (modBill n f s).ses = s.ses := rfl
@[simp] theorem modBill_saf (n : Outlet8) (f : Bill → Bill) (s : State) : (modBill n f s).saf = s.saf := rfl
@[simp] theorem modBill_vlk (n : Outlet8) (f : Bill → Bill) (s : State) : (modBill n f s).vlk = s.vlk := rfl
@[simp] theorem modBill_sct (n : Outlet8) (f : Bill → Bill) (s : State) : (modBill n f s).sct = s.sct := rfl
@[simp] theorem modBill_bkb (n : Outlet8) (f : Bill → Bill) (s : State) : (modBill n f s).bkb = s.bkb := rfl
@[simp] theorem modBill_upl (n : Outlet8) (f : Bill → Bill) (s : State) : (modBill n f s).upl = s.upl := rfl
@[simp] theorem modBill_nfc (n : Outlet8) (f : Bill → Bill) (s : State) : (modBill n f s).nfc = s.nfc := rfl
@[simp] theorem modBill_tag (n : Outlet8) (f : Bill → Bill) (s : State) : (modBill n f s).tag = s.tag := rfl
@[simp] theorem modBill_lcd (n : Outlet8) (f : Bill → Bill) (s : State) : (modBill n f s).lcd = s.lcd := rfl
@[simp] theorem modBill_lmp (n : Outlet8) (f : Bill → Bill) (s : State) : (modBill n f s).lmp = s.lmp := rfl
@[simp] theorem modBill_lsw (n : Outlet8) (f : Bill → Bill) (s : State) : (modBill n f s).lsw = s.lsw := rfl
@[simp] theorem modBill_key (n : Outlet8) (f : Bill → Bill) (s : State) : (modBill n f s).key = s.key := rfl
@[simp] theorem modBill_upd (n : Outlet8) (f : Bill → Bill) (s : State) : (modBill n f s).upd = s.upd := rfl
@[simp] theorem modBill_mem (n : Outlet8) (f : Bill → Bill) (s : State) : (modBill n f s).mem = s.mem := rfl
@[simp] theorem modBill_outbox (n : Outlet8) (f : Bill → Bill) (s : State) : (modBill n f s).outbox = s.outbox := rfl
@[simp] theorem modBill_lastRead (n : Outlet8) (f : Bill → Bill) (s : State) : (modBill n f s).lastRead = s.lastRead := rfl
@[simp] theorem modBill_free (n : Outlet8) (f : Bill → Bill) (s : State) : (modBill n f s).free = s.free := rfl
@[simp] theorem modBill_pending (n : Outlet8) (f : Bill → Bill) (s : State) : (modBill n f s).pending = s.pending := rfl

/-! ### modAcc -/

@[simp] theorem modAcc_gen (n : Outlet8) (f : Account → Account) (s : State) : (modAcc n f s).gen = s.gen := rfl
@[simp] theorem modAcc_fuse (n : Outlet8) (f : Account → Account) (s : State) : (modAcc n f s).fuse = s.fuse := rfl
@[simp] theorem modAcc_rst (n : Outlet8) (f : Account → Account) (s : State) : (modAcc n f s).rst = s.rst := rfl
@[simp] theorem modAcc_hif (n : Outlet8) (f : Account → Account) (s : State) : (modAcc n f s).hif = s.hif := rfl
@[simp] theorem modAcc_jnl (n : Outlet8) (f : Account → Account) (s : State) : (modAcc n f s).jnl = s.jnl := rfl
@[simp] theorem modAcc_adc (n : Outlet8) (f : Account → Account) (s : State) : (modAcc n f s).adc = s.adc := rfl
@[simp] theorem modAcc_nrg (n : Outlet8) (f : Account → Account) (s : State) : (modAcc n f s).nrg = s.nrg := rfl
@[simp] theorem modAcc_watch (n : Outlet8) (f : Account → Account) (s : State) : (modAcc n f s).watch = s.watch := rfl
@[simp] theorem modAcc_bill (n : Outlet8) (f : Account → Account) (s : State) : (modAcc n f s).bill = s.bill := rfl
@[simp] theorem modAcc_clk (n : Outlet8) (f : Account → Account) (s : State) : (modAcc n f s).clk = s.clk := rfl
@[simp] theorem modAcc_prn (n : Outlet8) (f : Account → Account) (s : State) : (modAcc n f s).prn = s.prn := rfl
@[simp] theorem modAcc_ppy (n : Outlet8) (f : Account → Account) (s : State) : (modAcc n f s).ppy = vmod s.ppy n fun p => { p with acc := f p.acc, dirty := true } := rfl
@[simp] theorem modAcc_tam (n : Outlet8) (f : Account → Account) (s : State) : (modAcc n f s).tam = s.tam := rfl
@[simp] theorem modAcc_ses (n : Outlet8) (f : Account → Account) (s : State) : (modAcc n f s).ses = s.ses := rfl
@[simp] theorem modAcc_saf (n : Outlet8) (f : Account → Account) (s : State) : (modAcc n f s).saf = s.saf := rfl
@[simp] theorem modAcc_vlk (n : Outlet8) (f : Account → Account) (s : State) : (modAcc n f s).vlk = s.vlk := rfl
@[simp] theorem modAcc_sct (n : Outlet8) (f : Account → Account) (s : State) : (modAcc n f s).sct = s.sct := rfl
@[simp] theorem modAcc_bkb (n : Outlet8) (f : Account → Account) (s : State) : (modAcc n f s).bkb = s.bkb := rfl
@[simp] theorem modAcc_upl (n : Outlet8) (f : Account → Account) (s : State) : (modAcc n f s).upl = s.upl := rfl
@[simp] theorem modAcc_nfc (n : Outlet8) (f : Account → Account) (s : State) : (modAcc n f s).nfc = s.nfc := rfl
@[simp] theorem modAcc_tag (n : Outlet8) (f : Account → Account) (s : State) : (modAcc n f s).tag = s.tag := rfl
@[simp] theorem modAcc_lcd (n : Outlet8) (f : Account → Account) (s : State) : (modAcc n f s).lcd = s.lcd := rfl
@[simp] theorem modAcc_lmp (n : Outlet8) (f : Account → Account) (s : State) : (modAcc n f s).lmp = s.lmp := rfl
@[simp] theorem modAcc_lsw (n : Outlet8) (f : Account → Account) (s : State) : (modAcc n f s).lsw = s.lsw := rfl
@[simp] theorem modAcc_key (n : Outlet8) (f : Account → Account) (s : State) : (modAcc n f s).key = s.key := rfl
@[simp] theorem modAcc_upd (n : Outlet8) (f : Account → Account) (s : State) : (modAcc n f s).upd = s.upd := rfl
@[simp] theorem modAcc_mem (n : Outlet8) (f : Account → Account) (s : State) : (modAcc n f s).mem = s.mem := rfl
@[simp] theorem modAcc_outbox (n : Outlet8) (f : Account → Account) (s : State) : (modAcc n f s).outbox = s.outbox := rfl
@[simp] theorem modAcc_lastRead (n : Outlet8) (f : Account → Account) (s : State) : (modAcc n f s).lastRead = s.lastRead := rfl
@[simp] theorem modAcc_free (n : Outlet8) (f : Account → Account) (s : State) : (modAcc n f s).free = s.free := rfl
@[simp] theorem modAcc_pending (n : Outlet8) (f : Account → Account) (s : State) : (modAcc n f s).pending = s.pending := rfl

/-! ### modOut -/

@[simp] theorem modOut_gen (n : Outlet8) (f : Outlet → Outlet) (s : State) : (modOut n f s).gen = s.gen := rfl
@[simp] theorem modOut_fuse (n : Outlet8) (f : Outlet → Outlet) (s : State) : (modOut n f s).fuse = s.fuse := rfl
@[simp] theorem modOut_rst (n : Outlet8) (f : Outlet → Outlet) (s : State) : (modOut n f s).rst = s.rst := rfl
@[simp] theorem modOut_hif (n : Outlet8) (f : Outlet → Outlet) (s : State) : (modOut n f s).hif = s.hif := rfl
@[simp] theorem modOut_jnl (n : Outlet8) (f : Outlet → Outlet) (s : State) : (modOut n f s).jnl = s.jnl := rfl
@[simp] theorem modOut_adc (n : Outlet8) (f : Outlet → Outlet) (s : State) : (modOut n f s).adc = s.adc := rfl
@[simp] theorem modOut_nrg (n : Outlet8) (f : Outlet → Outlet) (s : State) : (modOut n f s).nrg = s.nrg := rfl
@[simp] theorem modOut_watch (n : Outlet8) (f : Outlet → Outlet) (s : State) : (modOut n f s).watch = s.watch := rfl
@[simp] theorem modOut_bill (n : Outlet8) (f : Outlet → Outlet) (s : State) : (modOut n f s).bill = s.bill := rfl
@[simp] theorem modOut_clk (n : Outlet8) (f : Outlet → Outlet) (s : State) : (modOut n f s).clk = s.clk := rfl
@[simp] theorem modOut_prn (n : Outlet8) (f : Outlet → Outlet) (s : State) : (modOut n f s).prn = s.prn := rfl
@[simp] theorem modOut_ppy (n : Outlet8) (f : Outlet → Outlet) (s : State) : (modOut n f s).ppy = s.ppy := rfl
@[simp] theorem modOut_tam (n : Outlet8) (f : Outlet → Outlet) (s : State) : (modOut n f s).tam = s.tam := rfl
@[simp] theorem modOut_ses (n : Outlet8) (f : Outlet → Outlet) (s : State) : (modOut n f s).ses = { s.ses with out := vmod s.ses.out n f } := rfl
@[simp] theorem modOut_saf (n : Outlet8) (f : Outlet → Outlet) (s : State) : (modOut n f s).saf = s.saf := rfl
@[simp] theorem modOut_vlk (n : Outlet8) (f : Outlet → Outlet) (s : State) : (modOut n f s).vlk = s.vlk := rfl
@[simp] theorem modOut_sct (n : Outlet8) (f : Outlet → Outlet) (s : State) : (modOut n f s).sct = s.sct := rfl
@[simp] theorem modOut_bkb (n : Outlet8) (f : Outlet → Outlet) (s : State) : (modOut n f s).bkb = s.bkb := rfl
@[simp] theorem modOut_upl (n : Outlet8) (f : Outlet → Outlet) (s : State) : (modOut n f s).upl = s.upl := rfl
@[simp] theorem modOut_nfc (n : Outlet8) (f : Outlet → Outlet) (s : State) : (modOut n f s).nfc = s.nfc := rfl
@[simp] theorem modOut_tag (n : Outlet8) (f : Outlet → Outlet) (s : State) : (modOut n f s).tag = s.tag := rfl
@[simp] theorem modOut_lcd (n : Outlet8) (f : Outlet → Outlet) (s : State) : (modOut n f s).lcd = s.lcd := rfl
@[simp] theorem modOut_lmp (n : Outlet8) (f : Outlet → Outlet) (s : State) : (modOut n f s).lmp = s.lmp := rfl
@[simp] theorem modOut_lsw (n : Outlet8) (f : Outlet → Outlet) (s : State) : (modOut n f s).lsw = s.lsw := rfl
@[simp] theorem modOut_key (n : Outlet8) (f : Outlet → Outlet) (s : State) : (modOut n f s).key = s.key := rfl
@[simp] theorem modOut_upd (n : Outlet8) (f : Outlet → Outlet) (s : State) : (modOut n f s).upd = s.upd := rfl
@[simp] theorem modOut_mem (n : Outlet8) (f : Outlet → Outlet) (s : State) : (modOut n f s).mem = s.mem := rfl
@[simp] theorem modOut_outbox (n : Outlet8) (f : Outlet → Outlet) (s : State) : (modOut n f s).outbox = s.outbox := rfl
@[simp] theorem modOut_lastRead (n : Outlet8) (f : Outlet → Outlet) (s : State) : (modOut n f s).lastRead = s.lastRead := rfl
@[simp] theorem modOut_free (n : Outlet8) (f : Outlet → Outlet) (s : State) : (modOut n f s).free = s.free := rfl
@[simp] theorem modOut_pending (n : Outlet8) (f : Outlet → Outlet) (s : State) : (modOut n f s).pending = s.pending := rfl

/-! ### modPair -/

@[simp] theorem modPair_gen (k : Fin 2) (f : StopPair → StopPair) (s : State) : (modPair k f s).gen = s.gen := rfl
@[simp] theorem modPair_fuse (k : Fin 2) (f : StopPair → StopPair) (s : State) : (modPair k f s).fuse = s.fuse := rfl
@[simp] theorem modPair_rst (k : Fin 2) (f : StopPair → StopPair) (s : State) : (modPair k f s).rst = s.rst := rfl
@[simp] theorem modPair_hif (k : Fin 2) (f : StopPair → StopPair) (s : State) : (modPair k f s).hif = s.hif := rfl
@[simp] theorem modPair_jnl (k : Fin 2) (f : StopPair → StopPair) (s : State) : (modPair k f s).jnl = s.jnl := rfl
@[simp] theorem modPair_adc (k : Fin 2) (f : StopPair → StopPair) (s : State) : (modPair k f s).adc = s.adc := rfl
@[simp] theorem modPair_nrg (k : Fin 2) (f : StopPair → StopPair) (s : State) : (modPair k f s).nrg = s.nrg := rfl
@[simp] theorem modPair_watch (k : Fin 2) (f : StopPair → StopPair) (s : State) : (modPair k f s).watch = s.watch := rfl
@[simp] theorem modPair_bill (k : Fin 2) (f : StopPair → StopPair) (s : State) : (modPair k f s).bill = s.bill := rfl
@[simp] theorem modPair_clk (k : Fin 2) (f : StopPair → StopPair) (s : State) : (modPair k f s).clk = s.clk := rfl
@[simp] theorem modPair_prn (k : Fin 2) (f : StopPair → StopPair) (s : State) : (modPair k f s).prn = s.prn := rfl
@[simp] theorem modPair_ppy (k : Fin 2) (f : StopPair → StopPair) (s : State) : (modPair k f s).ppy = s.ppy := rfl
@[simp] theorem modPair_tam (k : Fin 2) (f : StopPair → StopPair) (s : State) : (modPair k f s).tam = s.tam := rfl
@[simp] theorem modPair_ses (k : Fin 2) (f : StopPair → StopPair) (s : State) : (modPair k f s).ses = s.ses := rfl
@[simp] theorem modPair_saf (k : Fin 2) (f : StopPair → StopPair) (s : State) : (modPair k f s).saf = { s.saf with pair := vmod s.saf.pair k f } := rfl
@[simp] theorem modPair_vlk (k : Fin 2) (f : StopPair → StopPair) (s : State) : (modPair k f s).vlk = s.vlk := rfl
@[simp] theorem modPair_sct (k : Fin 2) (f : StopPair → StopPair) (s : State) : (modPair k f s).sct = s.sct := rfl
@[simp] theorem modPair_bkb (k : Fin 2) (f : StopPair → StopPair) (s : State) : (modPair k f s).bkb = s.bkb := rfl
@[simp] theorem modPair_upl (k : Fin 2) (f : StopPair → StopPair) (s : State) : (modPair k f s).upl = s.upl := rfl
@[simp] theorem modPair_nfc (k : Fin 2) (f : StopPair → StopPair) (s : State) : (modPair k f s).nfc = s.nfc := rfl
@[simp] theorem modPair_tag (k : Fin 2) (f : StopPair → StopPair) (s : State) : (modPair k f s).tag = s.tag := rfl
@[simp] theorem modPair_lcd (k : Fin 2) (f : StopPair → StopPair) (s : State) : (modPair k f s).lcd = s.lcd := rfl
@[simp] theorem modPair_lmp (k : Fin 2) (f : StopPair → StopPair) (s : State) : (modPair k f s).lmp = s.lmp := rfl
@[simp] theorem modPair_lsw (k : Fin 2) (f : StopPair → StopPair) (s : State) : (modPair k f s).lsw = s.lsw := rfl
@[simp] theorem modPair_key (k : Fin 2) (f : StopPair → StopPair) (s : State) : (modPair k f s).key = s.key := rfl
@[simp] theorem modPair_upd (k : Fin 2) (f : StopPair → StopPair) (s : State) : (modPair k f s).upd = s.upd := rfl
@[simp] theorem modPair_mem (k : Fin 2) (f : StopPair → StopPair) (s : State) : (modPair k f s).mem = s.mem := rfl
@[simp] theorem modPair_outbox (k : Fin 2) (f : StopPair → StopPair) (s : State) : (modPair k f s).outbox = s.outbox := rfl
@[simp] theorem modPair_lastRead (k : Fin 2) (f : StopPair → StopPair) (s : State) : (modPair k f s).lastRead = s.lastRead := rfl
@[simp] theorem modPair_free (k : Fin 2) (f : StopPair → StopPair) (s : State) : (modPair k f s).free = s.free := rfl
@[simp] theorem modPair_pending (k : Fin 2) (f : StopPair → StopPair) (s : State) : (modPair k f s).pending = s.pending := rfl

/-! ### modInp -/

@[simp] theorem modInp_gen (c : Fin 4) (f : StopInput → StopInput) (s : State) : (modInp c f s).gen = s.gen := rfl
@[simp] theorem modInp_fuse (c : Fin 4) (f : StopInput → StopInput) (s : State) : (modInp c f s).fuse = s.fuse := rfl
@[simp] theorem modInp_rst (c : Fin 4) (f : StopInput → StopInput) (s : State) : (modInp c f s).rst = s.rst := rfl
@[simp] theorem modInp_hif (c : Fin 4) (f : StopInput → StopInput) (s : State) : (modInp c f s).hif = s.hif := rfl
@[simp] theorem modInp_jnl (c : Fin 4) (f : StopInput → StopInput) (s : State) : (modInp c f s).jnl = s.jnl := rfl
@[simp] theorem modInp_adc (c : Fin 4) (f : StopInput → StopInput) (s : State) : (modInp c f s).adc = s.adc := rfl
@[simp] theorem modInp_nrg (c : Fin 4) (f : StopInput → StopInput) (s : State) : (modInp c f s).nrg = s.nrg := rfl
@[simp] theorem modInp_watch (c : Fin 4) (f : StopInput → StopInput) (s : State) : (modInp c f s).watch = s.watch := rfl
@[simp] theorem modInp_bill (c : Fin 4) (f : StopInput → StopInput) (s : State) : (modInp c f s).bill = s.bill := rfl
@[simp] theorem modInp_clk (c : Fin 4) (f : StopInput → StopInput) (s : State) : (modInp c f s).clk = s.clk := rfl
@[simp] theorem modInp_prn (c : Fin 4) (f : StopInput → StopInput) (s : State) : (modInp c f s).prn = s.prn := rfl
@[simp] theorem modInp_ppy (c : Fin 4) (f : StopInput → StopInput) (s : State) : (modInp c f s).ppy = s.ppy := rfl
@[simp] theorem modInp_tam (c : Fin 4) (f : StopInput → StopInput) (s : State) : (modInp c f s).tam = s.tam := rfl
@[simp] theorem modInp_ses (c : Fin 4) (f : StopInput → StopInput) (s : State) : (modInp c f s).ses = s.ses := rfl
@[simp] theorem modInp_saf (c : Fin 4) (f : StopInput → StopInput) (s : State) : (modInp c f s).saf = { s.saf with inp := vmod s.saf.inp c f } := rfl
@[simp] theorem modInp_vlk (c : Fin 4) (f : StopInput → StopInput) (s : State) : (modInp c f s).vlk = s.vlk := rfl
@[simp] theorem modInp_sct (c : Fin 4) (f : StopInput → StopInput) (s : State) : (modInp c f s).sct = s.sct := rfl
@[simp] theorem modInp_bkb (c : Fin 4) (f : StopInput → StopInput) (s : State) : (modInp c f s).bkb = s.bkb := rfl
@[simp] theorem modInp_upl (c : Fin 4) (f : StopInput → StopInput) (s : State) : (modInp c f s).upl = s.upl := rfl
@[simp] theorem modInp_nfc (c : Fin 4) (f : StopInput → StopInput) (s : State) : (modInp c f s).nfc = s.nfc := rfl
@[simp] theorem modInp_tag (c : Fin 4) (f : StopInput → StopInput) (s : State) : (modInp c f s).tag = s.tag := rfl
@[simp] theorem modInp_lcd (c : Fin 4) (f : StopInput → StopInput) (s : State) : (modInp c f s).lcd = s.lcd := rfl
@[simp] theorem modInp_lmp (c : Fin 4) (f : StopInput → StopInput) (s : State) : (modInp c f s).lmp = s.lmp := rfl
@[simp] theorem modInp_lsw (c : Fin 4) (f : StopInput → StopInput) (s : State) : (modInp c f s).lsw = s.lsw := rfl
@[simp] theorem modInp_key (c : Fin 4) (f : StopInput → StopInput) (s : State) : (modInp c f s).key = s.key := rfl
@[simp] theorem modInp_upd (c : Fin 4) (f : StopInput → StopInput) (s : State) : (modInp c f s).upd = s.upd := rfl
@[simp] theorem modInp_mem (c : Fin 4) (f : StopInput → StopInput) (s : State) : (modInp c f s).mem = s.mem := rfl
@[simp] theorem modInp_outbox (c : Fin 4) (f : StopInput → StopInput) (s : State) : (modInp c f s).outbox = s.outbox := rfl
@[simp] theorem modInp_lastRead (c : Fin 4) (f : StopInput → StopInput) (s : State) : (modInp c f s).lastRead = s.lastRead := rfl
@[simp] theorem modInp_free (c : Fin 4) (f : StopInput → StopInput) (s : State) : (modInp c f s).free = s.free := rfl
@[simp] theorem modInp_pending (c : Fin 4) (f : StopInput → StopInput) (s : State) : (modInp c f s).pending = s.pending := rfl

/-! ### modLink -/

@[simp] theorem modLink_gen (n : Outlet8) (f : Link → Link) (s : State) : (modLink n f s).gen = s.gen := rfl
@[simp] theorem modLink_fuse (n : Outlet8) (f : Link → Link) (s : State) : (modLink n f s).fuse = s.fuse := rfl
@[simp] theorem modLink_rst (n : Outlet8) (f : Link → Link) (s : State) : (modLink n f s).rst = s.rst := rfl
@[simp] theorem modLink_hif (n : Outlet8) (f : Link → Link) (s : State) : (modLink n f s).hif = s.hif := rfl
@[simp] theorem modLink_jnl (n : Outlet8) (f : Link → Link) (s : State) : (modLink n f s).jnl = s.jnl := rfl
@[simp] theorem modLink_adc (n : Outlet8) (f : Link → Link) (s : State) : (modLink n f s).adc = s.adc := rfl
@[simp] theorem modLink_nrg (n : Outlet8) (f : Link → Link) (s : State) : (modLink n f s).nrg = s.nrg := rfl
@[simp] theorem modLink_watch (n : Outlet8) (f : Link → Link) (s : State) : (modLink n f s).watch = s.watch := rfl
@[simp] theorem modLink_bill (n : Outlet8) (f : Link → Link) (s : State) : (modLink n f s).bill = s.bill := rfl
@[simp] theorem modLink_clk (n : Outlet8) (f : Link → Link) (s : State) : (modLink n f s).clk = s.clk := rfl
@[simp] theorem modLink_prn (n : Outlet8) (f : Link → Link) (s : State) : (modLink n f s).prn = s.prn := rfl
@[simp] theorem modLink_ppy (n : Outlet8) (f : Link → Link) (s : State) : (modLink n f s).ppy = s.ppy := rfl
@[simp] theorem modLink_tam (n : Outlet8) (f : Link → Link) (s : State) : (modLink n f s).tam = s.tam := rfl
@[simp] theorem modLink_ses (n : Outlet8) (f : Link → Link) (s : State) : (modLink n f s).ses = s.ses := rfl
@[simp] theorem modLink_saf (n : Outlet8) (f : Link → Link) (s : State) : (modLink n f s).saf = s.saf := rfl
@[simp] theorem modLink_vlk (n : Outlet8) (f : Link → Link) (s : State) : (modLink n f s).vlk = { s.vlk with link := vmod s.vlk.link n f } := rfl
@[simp] theorem modLink_sct (n : Outlet8) (f : Link → Link) (s : State) : (modLink n f s).sct = s.sct := rfl
@[simp] theorem modLink_bkb (n : Outlet8) (f : Link → Link) (s : State) : (modLink n f s).bkb = s.bkb := rfl
@[simp] theorem modLink_upl (n : Outlet8) (f : Link → Link) (s : State) : (modLink n f s).upl = s.upl := rfl
@[simp] theorem modLink_nfc (n : Outlet8) (f : Link → Link) (s : State) : (modLink n f s).nfc = s.nfc := rfl
@[simp] theorem modLink_tag (n : Outlet8) (f : Link → Link) (s : State) : (modLink n f s).tag = s.tag := rfl
@[simp] theorem modLink_lcd (n : Outlet8) (f : Link → Link) (s : State) : (modLink n f s).lcd = s.lcd := rfl
@[simp] theorem modLink_lmp (n : Outlet8) (f : Link → Link) (s : State) : (modLink n f s).lmp = s.lmp := rfl
@[simp] theorem modLink_lsw (n : Outlet8) (f : Link → Link) (s : State) : (modLink n f s).lsw = s.lsw := rfl
@[simp] theorem modLink_key (n : Outlet8) (f : Link → Link) (s : State) : (modLink n f s).key = s.key := rfl
@[simp] theorem modLink_upd (n : Outlet8) (f : Link → Link) (s : State) : (modLink n f s).upd = s.upd := rfl
@[simp] theorem modLink_mem (n : Outlet8) (f : Link → Link) (s : State) : (modLink n f s).mem = s.mem := rfl
@[simp] theorem modLink_outbox (n : Outlet8) (f : Link → Link) (s : State) : (modLink n f s).outbox = s.outbox := rfl
@[simp] theorem modLink_lastRead (n : Outlet8) (f : Link → Link) (s : State) : (modLink n f s).lastRead = s.lastRead := rfl
@[simp] theorem modLink_free (n : Outlet8) (f : Link → Link) (s : State) : (modLink n f s).free = s.free := rfl
@[simp] theorem modLink_pending (n : Outlet8) (f : Link → Link) (s : State) : (modLink n f s).pending = s.pending := rfl

/-! ### modMirror -/

@[simp] theorem modMirror_gen (n : Outlet8) (f : Mirror → Mirror) (s : State) : (modMirror n f s).gen = s.gen := rfl
@[simp] theorem modMirror_fuse (n : Outlet8) (f : Mirror → Mirror) (s : State) : (modMirror n f s).fuse = s.fuse := rfl
@[simp] theorem modMirror_rst (n : Outlet8) (f : Mirror → Mirror) (s : State) : (modMirror n f s).rst = s.rst := rfl
@[simp] theorem modMirror_hif (n : Outlet8) (f : Mirror → Mirror) (s : State) : (modMirror n f s).hif = s.hif := rfl
@[simp] theorem modMirror_jnl (n : Outlet8) (f : Mirror → Mirror) (s : State) : (modMirror n f s).jnl = s.jnl := rfl
@[simp] theorem modMirror_adc (n : Outlet8) (f : Mirror → Mirror) (s : State) : (modMirror n f s).adc = s.adc := rfl
@[simp] theorem modMirror_nrg (n : Outlet8) (f : Mirror → Mirror) (s : State) : (modMirror n f s).nrg = s.nrg := rfl
@[simp] theorem modMirror_watch (n : Outlet8) (f : Mirror → Mirror) (s : State) : (modMirror n f s).watch = s.watch := rfl
@[simp] theorem modMirror_bill (n : Outlet8) (f : Mirror → Mirror) (s : State) : (modMirror n f s).bill = s.bill := rfl
@[simp] theorem modMirror_clk (n : Outlet8) (f : Mirror → Mirror) (s : State) : (modMirror n f s).clk = s.clk := rfl
@[simp] theorem modMirror_prn (n : Outlet8) (f : Mirror → Mirror) (s : State) : (modMirror n f s).prn = s.prn := rfl
@[simp] theorem modMirror_ppy (n : Outlet8) (f : Mirror → Mirror) (s : State) : (modMirror n f s).ppy = s.ppy := rfl
@[simp] theorem modMirror_tam (n : Outlet8) (f : Mirror → Mirror) (s : State) : (modMirror n f s).tam = s.tam := rfl
@[simp] theorem modMirror_ses (n : Outlet8) (f : Mirror → Mirror) (s : State) : (modMirror n f s).ses = s.ses := rfl
@[simp] theorem modMirror_saf (n : Outlet8) (f : Mirror → Mirror) (s : State) : (modMirror n f s).saf = s.saf := rfl
@[simp] theorem modMirror_vlk (n : Outlet8) (f : Mirror → Mirror) (s : State) : (modMirror n f s).vlk = { s.vlk with mirror := vmod s.vlk.mirror n f } := rfl
@[simp] theorem modMirror_sct (n : Outlet8) (f : Mirror → Mirror) (s : State) : (modMirror n f s).sct = s.sct := rfl
@[simp] theorem modMirror_bkb (n : Outlet8) (f : Mirror → Mirror) (s : State) : (modMirror n f s).bkb = s.bkb := rfl
@[simp] theorem modMirror_upl (n : Outlet8) (f : Mirror → Mirror) (s : State) : (modMirror n f s).upl = s.upl := rfl
@[simp] theorem modMirror_nfc (n : Outlet8) (f : Mirror → Mirror) (s : State) : (modMirror n f s).nfc = s.nfc := rfl
@[simp] theorem modMirror_tag (n : Outlet8) (f : Mirror → Mirror) (s : State) : (modMirror n f s).tag = s.tag := rfl
@[simp] theorem modMirror_lcd (n : Outlet8) (f : Mirror → Mirror) (s : State) : (modMirror n f s).lcd = s.lcd := rfl
@[simp] theorem modMirror_lmp (n : Outlet8) (f : Mirror → Mirror) (s : State) : (modMirror n f s).lmp = s.lmp := rfl
@[simp] theorem modMirror_lsw (n : Outlet8) (f : Mirror → Mirror) (s : State) : (modMirror n f s).lsw = s.lsw := rfl
@[simp] theorem modMirror_key (n : Outlet8) (f : Mirror → Mirror) (s : State) : (modMirror n f s).key = s.key := rfl
@[simp] theorem modMirror_upd (n : Outlet8) (f : Mirror → Mirror) (s : State) : (modMirror n f s).upd = s.upd := rfl
@[simp] theorem modMirror_mem (n : Outlet8) (f : Mirror → Mirror) (s : State) : (modMirror n f s).mem = s.mem := rfl
@[simp] theorem modMirror_outbox (n : Outlet8) (f : Mirror → Mirror) (s : State) : (modMirror n f s).outbox = s.outbox := rfl
@[simp] theorem modMirror_lastRead (n : Outlet8) (f : Mirror → Mirror) (s : State) : (modMirror n f s).lastRead = s.lastRead := rfl
@[simp] theorem modMirror_free (n : Outlet8) (f : Mirror → Mirror) (s : State) : (modMirror n f s).free = s.free := rfl
@[simp] theorem modMirror_pending (n : Outlet8) (f : Mirror → Mirror) (s : State) : (modMirror n f s).pending = s.pending := rfl

/-! ### modTok -/

@[simp] theorem modTok_gen (f : Tokens → Tokens) (s : State) : (modTok f s).gen = s.gen := rfl
@[simp] theorem modTok_fuse (f : Tokens → Tokens) (s : State) : (modTok f s).fuse = s.fuse := rfl
@[simp] theorem modTok_rst (f : Tokens → Tokens) (s : State) : (modTok f s).rst = s.rst := rfl
@[simp] theorem modTok_hif (f : Tokens → Tokens) (s : State) : (modTok f s).hif = s.hif := rfl
@[simp] theorem modTok_jnl (f : Tokens → Tokens) (s : State) : (modTok f s).jnl = s.jnl := rfl
@[simp] theorem modTok_adc (f : Tokens → Tokens) (s : State) : (modTok f s).adc = s.adc := rfl
@[simp] theorem modTok_nrg (f : Tokens → Tokens) (s : State) : (modTok f s).nrg = s.nrg := rfl
@[simp] theorem modTok_watch (f : Tokens → Tokens) (s : State) : (modTok f s).watch = s.watch := rfl
@[simp] theorem modTok_bill (f : Tokens → Tokens) (s : State) : (modTok f s).bill = s.bill := rfl
@[simp] theorem modTok_clk (f : Tokens → Tokens) (s : State) : (modTok f s).clk = s.clk := rfl
@[simp] theorem modTok_prn (f : Tokens → Tokens) (s : State) : (modTok f s).prn = s.prn := rfl
@[simp] theorem modTok_ppy (f : Tokens → Tokens) (s : State) : (modTok f s).ppy = s.ppy := rfl
@[simp] theorem modTok_tam (f : Tokens → Tokens) (s : State) : (modTok f s).tam = s.tam := rfl
@[simp] theorem modTok_ses (f : Tokens → Tokens) (s : State) : (modTok f s).ses = s.ses := rfl
@[simp] theorem modTok_saf (f : Tokens → Tokens) (s : State) : (modTok f s).saf = s.saf := rfl
@[simp] theorem modTok_vlk (f : Tokens → Tokens) (s : State) : (modTok f s).vlk = s.vlk := rfl
@[simp] theorem modTok_sct (f : Tokens → Tokens) (s : State) : (modTok f s).sct = { s.sct with tok := f s.sct.tok } := rfl
@[simp] theorem modTok_bkb (f : Tokens → Tokens) (s : State) : (modTok f s).bkb = s.bkb := rfl
@[simp] theorem modTok_upl (f : Tokens → Tokens) (s : State) : (modTok f s).upl = s.upl := rfl
@[simp] theorem modTok_nfc (f : Tokens → Tokens) (s : State) : (modTok f s).nfc = s.nfc := rfl
@[simp] theorem modTok_tag (f : Tokens → Tokens) (s : State) : (modTok f s).tag = s.tag := rfl
@[simp] theorem modTok_lcd (f : Tokens → Tokens) (s : State) : (modTok f s).lcd = s.lcd := rfl
@[simp] theorem modTok_lmp (f : Tokens → Tokens) (s : State) : (modTok f s).lmp = s.lmp := rfl
@[simp] theorem modTok_lsw (f : Tokens → Tokens) (s : State) : (modTok f s).lsw = s.lsw := rfl
@[simp] theorem modTok_key (f : Tokens → Tokens) (s : State) : (modTok f s).key = s.key := rfl
@[simp] theorem modTok_upd (f : Tokens → Tokens) (s : State) : (modTok f s).upd = s.upd := rfl
@[simp] theorem modTok_mem (f : Tokens → Tokens) (s : State) : (modTok f s).mem = s.mem := rfl
@[simp] theorem modTok_outbox (f : Tokens → Tokens) (s : State) : (modTok f s).outbox = s.outbox := rfl
@[simp] theorem modTok_lastRead (f : Tokens → Tokens) (s : State) : (modTok f s).lastRead = s.lastRead := rfl
@[simp] theorem modTok_free (f : Tokens → Tokens) (s : State) : (modTok f s).free = s.free := rfl
@[simp] theorem modTok_pending (f : Tokens → Tokens) (s : State) : (modTok f s).pending = s.pending := rfl

/-! ### modEntry -/

@[simp] theorem modEntry_gen (k : Fin 64) (f : LedgerEntry → LedgerEntry) (s : State) : (modEntry k f s).gen = s.gen := rfl
@[simp] theorem modEntry_fuse (k : Fin 64) (f : LedgerEntry → LedgerEntry) (s : State) : (modEntry k f s).fuse = s.fuse := rfl
@[simp] theorem modEntry_rst (k : Fin 64) (f : LedgerEntry → LedgerEntry) (s : State) : (modEntry k f s).rst = s.rst := rfl
@[simp] theorem modEntry_hif (k : Fin 64) (f : LedgerEntry → LedgerEntry) (s : State) : (modEntry k f s).hif = s.hif := rfl
@[simp] theorem modEntry_jnl (k : Fin 64) (f : LedgerEntry → LedgerEntry) (s : State) : (modEntry k f s).jnl = s.jnl := rfl
@[simp] theorem modEntry_adc (k : Fin 64) (f : LedgerEntry → LedgerEntry) (s : State) : (modEntry k f s).adc = s.adc := rfl
@[simp] theorem modEntry_nrg (k : Fin 64) (f : LedgerEntry → LedgerEntry) (s : State) : (modEntry k f s).nrg = s.nrg := rfl
@[simp] theorem modEntry_watch (k : Fin 64) (f : LedgerEntry → LedgerEntry) (s : State) : (modEntry k f s).watch = s.watch := rfl
@[simp] theorem modEntry_bill (k : Fin 64) (f : LedgerEntry → LedgerEntry) (s : State) : (modEntry k f s).bill = s.bill := rfl
@[simp] theorem modEntry_clk (k : Fin 64) (f : LedgerEntry → LedgerEntry) (s : State) : (modEntry k f s).clk = s.clk := rfl
@[simp] theorem modEntry_prn (k : Fin 64) (f : LedgerEntry → LedgerEntry) (s : State) : (modEntry k f s).prn = s.prn := rfl
@[simp] theorem modEntry_ppy (k : Fin 64) (f : LedgerEntry → LedgerEntry) (s : State) : (modEntry k f s).ppy = s.ppy := rfl
@[simp] theorem modEntry_tam (k : Fin 64) (f : LedgerEntry → LedgerEntry) (s : State) : (modEntry k f s).tam = s.tam := rfl
@[simp] theorem modEntry_ses (k : Fin 64) (f : LedgerEntry → LedgerEntry) (s : State) : (modEntry k f s).ses = s.ses := rfl
@[simp] theorem modEntry_saf (k : Fin 64) (f : LedgerEntry → LedgerEntry) (s : State) : (modEntry k f s).saf = s.saf := rfl
@[simp] theorem modEntry_vlk (k : Fin 64) (f : LedgerEntry → LedgerEntry) (s : State) : (modEntry k f s).vlk = s.vlk := rfl
@[simp] theorem modEntry_sct (k : Fin 64) (f : LedgerEntry → LedgerEntry) (s : State) : (modEntry k f s).sct = { s.sct with ledger := vmod s.sct.ledger k f } := rfl
@[simp] theorem modEntry_bkb (k : Fin 64) (f : LedgerEntry → LedgerEntry) (s : State) : (modEntry k f s).bkb = s.bkb := rfl
@[simp] theorem modEntry_upl (k : Fin 64) (f : LedgerEntry → LedgerEntry) (s : State) : (modEntry k f s).upl = s.upl := rfl
@[simp] theorem modEntry_nfc (k : Fin 64) (f : LedgerEntry → LedgerEntry) (s : State) : (modEntry k f s).nfc = s.nfc := rfl
@[simp] theorem modEntry_tag (k : Fin 64) (f : LedgerEntry → LedgerEntry) (s : State) : (modEntry k f s).tag = s.tag := rfl
@[simp] theorem modEntry_lcd (k : Fin 64) (f : LedgerEntry → LedgerEntry) (s : State) : (modEntry k f s).lcd = s.lcd := rfl
@[simp] theorem modEntry_lmp (k : Fin 64) (f : LedgerEntry → LedgerEntry) (s : State) : (modEntry k f s).lmp = s.lmp := rfl
@[simp] theorem modEntry_lsw (k : Fin 64) (f : LedgerEntry → LedgerEntry) (s : State) : (modEntry k f s).lsw = s.lsw := rfl
@[simp] theorem modEntry_key (k : Fin 64) (f : LedgerEntry → LedgerEntry) (s : State) : (modEntry k f s).key = s.key := rfl
@[simp] theorem modEntry_upd (k : Fin 64) (f : LedgerEntry → LedgerEntry) (s : State) : (modEntry k f s).upd = s.upd := rfl
@[simp] theorem modEntry_mem (k : Fin 64) (f : LedgerEntry → LedgerEntry) (s : State) : (modEntry k f s).mem = s.mem := rfl
@[simp] theorem modEntry_outbox (k : Fin 64) (f : LedgerEntry → LedgerEntry) (s : State) : (modEntry k f s).outbox = s.outbox := rfl
@[simp] theorem modEntry_lastRead (k : Fin 64) (f : LedgerEntry → LedgerEntry) (s : State) : (modEntry k f s).lastRead = s.lastRead := rfl
@[simp] theorem modEntry_free (k : Fin 64) (f : LedgerEntry → LedgerEntry) (s : State) : (modEntry k f s).free = s.free := rfl
@[simp] theorem modEntry_pending (k : Fin 64) (f : LedgerEntry → LedgerEntry) (s : State) : (modEntry k f s).pending = s.pending := rfl

/-! ### modBkb -/

@[simp] theorem modBkb_gen (f : Bkb → Bkb) (s : State) : (modBkb f s).gen = s.gen := rfl
@[simp] theorem modBkb_fuse (f : Bkb → Bkb) (s : State) : (modBkb f s).fuse = s.fuse := rfl
@[simp] theorem modBkb_rst (f : Bkb → Bkb) (s : State) : (modBkb f s).rst = s.rst := rfl
@[simp] theorem modBkb_hif (f : Bkb → Bkb) (s : State) : (modBkb f s).hif = s.hif := rfl
@[simp] theorem modBkb_jnl (f : Bkb → Bkb) (s : State) : (modBkb f s).jnl = s.jnl := rfl
@[simp] theorem modBkb_adc (f : Bkb → Bkb) (s : State) : (modBkb f s).adc = s.adc := rfl
@[simp] theorem modBkb_nrg (f : Bkb → Bkb) (s : State) : (modBkb f s).nrg = s.nrg := rfl
@[simp] theorem modBkb_watch (f : Bkb → Bkb) (s : State) : (modBkb f s).watch = s.watch := rfl
@[simp] theorem modBkb_bill (f : Bkb → Bkb) (s : State) : (modBkb f s).bill = s.bill := rfl
@[simp] theorem modBkb_clk (f : Bkb → Bkb) (s : State) : (modBkb f s).clk = s.clk := rfl
@[simp] theorem modBkb_prn (f : Bkb → Bkb) (s : State) : (modBkb f s).prn = s.prn := rfl
@[simp] theorem modBkb_ppy (f : Bkb → Bkb) (s : State) : (modBkb f s).ppy = s.ppy := rfl
@[simp] theorem modBkb_tam (f : Bkb → Bkb) (s : State) : (modBkb f s).tam = s.tam := rfl
@[simp] theorem modBkb_ses (f : Bkb → Bkb) (s : State) : (modBkb f s).ses = s.ses := rfl
@[simp] theorem modBkb_saf (f : Bkb → Bkb) (s : State) : (modBkb f s).saf = s.saf := rfl
@[simp] theorem modBkb_vlk (f : Bkb → Bkb) (s : State) : (modBkb f s).vlk = s.vlk := rfl
@[simp] theorem modBkb_sct (f : Bkb → Bkb) (s : State) : (modBkb f s).sct = s.sct := rfl
@[simp] theorem modBkb_bkb (f : Bkb → Bkb) (s : State) : (modBkb f s).bkb = f s.bkb := rfl
@[simp] theorem modBkb_upl (f : Bkb → Bkb) (s : State) : (modBkb f s).upl = s.upl := rfl
@[simp] theorem modBkb_nfc (f : Bkb → Bkb) (s : State) : (modBkb f s).nfc = s.nfc := rfl
@[simp] theorem modBkb_tag (f : Bkb → Bkb) (s : State) : (modBkb f s).tag = s.tag := rfl
@[simp] theorem modBkb_lcd (f : Bkb → Bkb) (s : State) : (modBkb f s).lcd = s.lcd := rfl
@[simp] theorem modBkb_lmp (f : Bkb → Bkb) (s : State) : (modBkb f s).lmp = s.lmp := rfl
@[simp] theorem modBkb_lsw (f : Bkb → Bkb) (s : State) : (modBkb f s).lsw = s.lsw := rfl
@[simp] theorem modBkb_key (f : Bkb → Bkb) (s : State) : (modBkb f s).key = s.key := rfl
@[simp] theorem modBkb_upd (f : Bkb → Bkb) (s : State) : (modBkb f s).upd = s.upd := rfl
@[simp] theorem modBkb_mem (f : Bkb → Bkb) (s : State) : (modBkb f s).mem = s.mem := rfl
@[simp] theorem modBkb_outbox (f : Bkb → Bkb) (s : State) : (modBkb f s).outbox = s.outbox := rfl
@[simp] theorem modBkb_lastRead (f : Bkb → Bkb) (s : State) : (modBkb f s).lastRead = s.lastRead := rfl
@[simp] theorem modBkb_free (f : Bkb → Bkb) (s : State) : (modBkb f s).free = s.free := rfl
@[simp] theorem modBkb_pending (f : Bkb → Bkb) (s : State) : (modBkb f s).pending = s.pending := rfl

/-! ### modUpl -/

@[simp] theorem modUpl_gen (f : Upl → Upl) (s : State) : (modUpl f s).gen = s.gen := rfl
@[simp] theorem modUpl_fuse (f : Upl → Upl) (s : State) : (modUpl f s).fuse = s.fuse := rfl
@[simp] theorem modUpl_rst (f : Upl → Upl) (s : State) : (modUpl f s).rst = s.rst := rfl
@[simp] theorem modUpl_hif (f : Upl → Upl) (s : State) : (modUpl f s).hif = s.hif := rfl
@[simp] theorem modUpl_jnl (f : Upl → Upl) (s : State) : (modUpl f s).jnl = s.jnl := rfl
@[simp] theorem modUpl_adc (f : Upl → Upl) (s : State) : (modUpl f s).adc = s.adc := rfl
@[simp] theorem modUpl_nrg (f : Upl → Upl) (s : State) : (modUpl f s).nrg = s.nrg := rfl
@[simp] theorem modUpl_watch (f : Upl → Upl) (s : State) : (modUpl f s).watch = s.watch := rfl
@[simp] theorem modUpl_bill (f : Upl → Upl) (s : State) : (modUpl f s).bill = s.bill := rfl
@[simp] theorem modUpl_clk (f : Upl → Upl) (s : State) : (modUpl f s).clk = s.clk := rfl
@[simp] theorem modUpl_prn (f : Upl → Upl) (s : State) : (modUpl f s).prn = s.prn := rfl
@[simp] theorem modUpl_ppy (f : Upl → Upl) (s : State) : (modUpl f s).ppy = s.ppy := rfl
@[simp] theorem modUpl_tam (f : Upl → Upl) (s : State) : (modUpl f s).tam = s.tam := rfl
@[simp] theorem modUpl_ses (f : Upl → Upl) (s : State) : (modUpl f s).ses = s.ses := rfl
@[simp] theorem modUpl_saf (f : Upl → Upl) (s : State) : (modUpl f s).saf = s.saf := rfl
@[simp] theorem modUpl_vlk (f : Upl → Upl) (s : State) : (modUpl f s).vlk = s.vlk := rfl
@[simp] theorem modUpl_sct (f : Upl → Upl) (s : State) : (modUpl f s).sct = s.sct := rfl
@[simp] theorem modUpl_bkb (f : Upl → Upl) (s : State) : (modUpl f s).bkb = s.bkb := rfl
@[simp] theorem modUpl_upl (f : Upl → Upl) (s : State) : (modUpl f s).upl = f s.upl := rfl
@[simp] theorem modUpl_nfc (f : Upl → Upl) (s : State) : (modUpl f s).nfc = s.nfc := rfl
@[simp] theorem modUpl_tag (f : Upl → Upl) (s : State) : (modUpl f s).tag = s.tag := rfl
@[simp] theorem modUpl_lcd (f : Upl → Upl) (s : State) : (modUpl f s).lcd = s.lcd := rfl
@[simp] theorem modUpl_lmp (f : Upl → Upl) (s : State) : (modUpl f s).lmp = s.lmp := rfl
@[simp] theorem modUpl_lsw (f : Upl → Upl) (s : State) : (modUpl f s).lsw = s.lsw := rfl
@[simp] theorem modUpl_key (f : Upl → Upl) (s : State) : (modUpl f s).key = s.key := rfl
@[simp] theorem modUpl_upd (f : Upl → Upl) (s : State) : (modUpl f s).upd = s.upd := rfl
@[simp] theorem modUpl_mem (f : Upl → Upl) (s : State) : (modUpl f s).mem = s.mem := rfl
@[simp] theorem modUpl_outbox (f : Upl → Upl) (s : State) : (modUpl f s).outbox = s.outbox := rfl
@[simp] theorem modUpl_lastRead (f : Upl → Upl) (s : State) : (modUpl f s).lastRead = s.lastRead := rfl
@[simp] theorem modUpl_free (f : Upl → Upl) (s : State) : (modUpl f s).free = s.free := rfl
@[simp] theorem modUpl_pending (f : Upl → Upl) (s : State) : (modUpl f s).pending = s.pending := rfl

/-! ### modNfc -/

@[simp] theorem modNfc_gen (f : Nfc → Nfc) (s : State) : (modNfc f s).gen = s.gen := rfl
@[simp] theorem modNfc_fuse (f : Nfc → Nfc) (s : State) : (modNfc f s).fuse = s.fuse := rfl
@[simp] theorem modNfc_rst (f : Nfc → Nfc) (s : State) : (modNfc f s).rst = s.rst := rfl
@[simp] theorem modNfc_hif (f : Nfc → Nfc) (s : State) : (modNfc f s).hif = s.hif := rfl
@[simp] theorem modNfc_jnl (f : Nfc → Nfc) (s : State) : (modNfc f s).jnl = s.jnl := rfl
@[simp] theorem modNfc_adc (f : Nfc → Nfc) (s : State) : (modNfc f s).adc = s.adc := rfl
@[simp] theorem modNfc_nrg (f : Nfc → Nfc) (s : State) : (modNfc f s).nrg = s.nrg := rfl
@[simp] theorem modNfc_watch (f : Nfc → Nfc) (s : State) : (modNfc f s).watch = s.watch := rfl
@[simp] theorem modNfc_bill (f : Nfc → Nfc) (s : State) : (modNfc f s).bill = s.bill := rfl
@[simp] theorem modNfc_clk (f : Nfc → Nfc) (s : State) : (modNfc f s).clk = s.clk := rfl
@[simp] theorem modNfc_prn (f : Nfc → Nfc) (s : State) : (modNfc f s).prn = s.prn := rfl
@[simp] theorem modNfc_ppy (f : Nfc → Nfc) (s : State) : (modNfc f s).ppy = s.ppy := rfl
@[simp] theorem modNfc_tam (f : Nfc → Nfc) (s : State) : (modNfc f s).tam = s.tam := rfl
@[simp] theorem modNfc_ses (f : Nfc → Nfc) (s : State) : (modNfc f s).ses = s.ses := rfl
@[simp] theorem modNfc_saf (f : Nfc → Nfc) (s : State) : (modNfc f s).saf = s.saf := rfl
@[simp] theorem modNfc_vlk (f : Nfc → Nfc) (s : State) : (modNfc f s).vlk = s.vlk := rfl
@[simp] theorem modNfc_sct (f : Nfc → Nfc) (s : State) : (modNfc f s).sct = s.sct := rfl
@[simp] theorem modNfc_bkb (f : Nfc → Nfc) (s : State) : (modNfc f s).bkb = s.bkb := rfl
@[simp] theorem modNfc_upl (f : Nfc → Nfc) (s : State) : (modNfc f s).upl = s.upl := rfl
@[simp] theorem modNfc_nfc (f : Nfc → Nfc) (s : State) : (modNfc f s).nfc = f s.nfc := rfl
@[simp] theorem modNfc_tag (f : Nfc → Nfc) (s : State) : (modNfc f s).tag = s.tag := rfl
@[simp] theorem modNfc_lcd (f : Nfc → Nfc) (s : State) : (modNfc f s).lcd = s.lcd := rfl
@[simp] theorem modNfc_lmp (f : Nfc → Nfc) (s : State) : (modNfc f s).lmp = s.lmp := rfl
@[simp] theorem modNfc_lsw (f : Nfc → Nfc) (s : State) : (modNfc f s).lsw = s.lsw := rfl
@[simp] theorem modNfc_key (f : Nfc → Nfc) (s : State) : (modNfc f s).key = s.key := rfl
@[simp] theorem modNfc_upd (f : Nfc → Nfc) (s : State) : (modNfc f s).upd = s.upd := rfl
@[simp] theorem modNfc_mem (f : Nfc → Nfc) (s : State) : (modNfc f s).mem = s.mem := rfl
@[simp] theorem modNfc_outbox (f : Nfc → Nfc) (s : State) : (modNfc f s).outbox = s.outbox := rfl
@[simp] theorem modNfc_lastRead (f : Nfc → Nfc) (s : State) : (modNfc f s).lastRead = s.lastRead := rfl
@[simp] theorem modNfc_free (f : Nfc → Nfc) (s : State) : (modNfc f s).free = s.free := rfl
@[simp] theorem modNfc_pending (f : Nfc → Nfc) (s : State) : (modNfc f s).pending = s.pending := rfl

/-! ### modTag -/

@[simp] theorem modTag_gen (f : Tag → Tag) (s : State) : (modTag f s).gen = s.gen := rfl
@[simp] theorem modTag_fuse (f : Tag → Tag) (s : State) : (modTag f s).fuse = s.fuse := rfl
@[simp] theorem modTag_rst (f : Tag → Tag) (s : State) : (modTag f s).rst = s.rst := rfl
@[simp] theorem modTag_hif (f : Tag → Tag) (s : State) : (modTag f s).hif = s.hif := rfl
@[simp] theorem modTag_jnl (f : Tag → Tag) (s : State) : (modTag f s).jnl = s.jnl := rfl
@[simp] theorem modTag_adc (f : Tag → Tag) (s : State) : (modTag f s).adc = s.adc := rfl
@[simp] theorem modTag_nrg (f : Tag → Tag) (s : State) : (modTag f s).nrg = s.nrg := rfl
@[simp] theorem modTag_watch (f : Tag → Tag) (s : State) : (modTag f s).watch = s.watch := rfl
@[simp] theorem modTag_bill (f : Tag → Tag) (s : State) : (modTag f s).bill = s.bill := rfl
@[simp] theorem modTag_clk (f : Tag → Tag) (s : State) : (modTag f s).clk = s.clk := rfl
@[simp] theorem modTag_prn (f : Tag → Tag) (s : State) : (modTag f s).prn = s.prn := rfl
@[simp] theorem modTag_ppy (f : Tag → Tag) (s : State) : (modTag f s).ppy = s.ppy := rfl
@[simp] theorem modTag_tam (f : Tag → Tag) (s : State) : (modTag f s).tam = s.tam := rfl
@[simp] theorem modTag_ses (f : Tag → Tag) (s : State) : (modTag f s).ses = s.ses := rfl
@[simp] theorem modTag_saf (f : Tag → Tag) (s : State) : (modTag f s).saf = s.saf := rfl
@[simp] theorem modTag_vlk (f : Tag → Tag) (s : State) : (modTag f s).vlk = s.vlk := rfl
@[simp] theorem modTag_sct (f : Tag → Tag) (s : State) : (modTag f s).sct = s.sct := rfl
@[simp] theorem modTag_bkb (f : Tag → Tag) (s : State) : (modTag f s).bkb = s.bkb := rfl
@[simp] theorem modTag_upl (f : Tag → Tag) (s : State) : (modTag f s).upl = s.upl := rfl
@[simp] theorem modTag_nfc (f : Tag → Tag) (s : State) : (modTag f s).nfc = s.nfc := rfl
@[simp] theorem modTag_tag (f : Tag → Tag) (s : State) : (modTag f s).tag = f s.tag := rfl
@[simp] theorem modTag_lcd (f : Tag → Tag) (s : State) : (modTag f s).lcd = s.lcd := rfl
@[simp] theorem modTag_lmp (f : Tag → Tag) (s : State) : (modTag f s).lmp = s.lmp := rfl
@[simp] theorem modTag_lsw (f : Tag → Tag) (s : State) : (modTag f s).lsw = s.lsw := rfl
@[simp] theorem modTag_key (f : Tag → Tag) (s : State) : (modTag f s).key = s.key := rfl
@[simp] theorem modTag_upd (f : Tag → Tag) (s : State) : (modTag f s).upd = s.upd := rfl
@[simp] theorem modTag_mem (f : Tag → Tag) (s : State) : (modTag f s).mem = s.mem := rfl
@[simp] theorem modTag_outbox (f : Tag → Tag) (s : State) : (modTag f s).outbox = s.outbox := rfl
@[simp] theorem modTag_lastRead (f : Tag → Tag) (s : State) : (modTag f s).lastRead = s.lastRead := rfl
@[simp] theorem modTag_free (f : Tag → Tag) (s : State) : (modTag f s).free = s.free := rfl
@[simp] theorem modTag_pending (f : Tag → Tag) (s : State) : (modTag f s).pending = s.pending := rfl

/-! ### modLcd -/

@[simp] theorem modLcd_gen (f : Lcd → Lcd) (s : State) : (modLcd f s).gen = s.gen := rfl
@[simp] theorem modLcd_fuse (f : Lcd → Lcd) (s : State) : (modLcd f s).fuse = s.fuse := rfl
@[simp] theorem modLcd_rst (f : Lcd → Lcd) (s : State) : (modLcd f s).rst = s.rst := rfl
@[simp] theorem modLcd_hif (f : Lcd → Lcd) (s : State) : (modLcd f s).hif = s.hif := rfl
@[simp] theorem modLcd_jnl (f : Lcd → Lcd) (s : State) : (modLcd f s).jnl = s.jnl := rfl
@[simp] theorem modLcd_adc (f : Lcd → Lcd) (s : State) : (modLcd f s).adc = s.adc := rfl
@[simp] theorem modLcd_nrg (f : Lcd → Lcd) (s : State) : (modLcd f s).nrg = s.nrg := rfl
@[simp] theorem modLcd_watch (f : Lcd → Lcd) (s : State) : (modLcd f s).watch = s.watch := rfl
@[simp] theorem modLcd_bill (f : Lcd → Lcd) (s : State) : (modLcd f s).bill = s.bill := rfl
@[simp] theorem modLcd_clk (f : Lcd → Lcd) (s : State) : (modLcd f s).clk = s.clk := rfl
@[simp] theorem modLcd_prn (f : Lcd → Lcd) (s : State) : (modLcd f s).prn = s.prn := rfl
@[simp] theorem modLcd_ppy (f : Lcd → Lcd) (s : State) : (modLcd f s).ppy = s.ppy := rfl
@[simp] theorem modLcd_tam (f : Lcd → Lcd) (s : State) : (modLcd f s).tam = s.tam := rfl
@[simp] theorem modLcd_ses (f : Lcd → Lcd) (s : State) : (modLcd f s).ses = s.ses := rfl
@[simp] theorem modLcd_saf (f : Lcd → Lcd) (s : State) : (modLcd f s).saf = s.saf := rfl
@[simp] theorem modLcd_vlk (f : Lcd → Lcd) (s : State) : (modLcd f s).vlk = s.vlk := rfl
@[simp] theorem modLcd_sct (f : Lcd → Lcd) (s : State) : (modLcd f s).sct = s.sct := rfl
@[simp] theorem modLcd_bkb (f : Lcd → Lcd) (s : State) : (modLcd f s).bkb = s.bkb := rfl
@[simp] theorem modLcd_upl (f : Lcd → Lcd) (s : State) : (modLcd f s).upl = s.upl := rfl
@[simp] theorem modLcd_nfc (f : Lcd → Lcd) (s : State) : (modLcd f s).nfc = s.nfc := rfl
@[simp] theorem modLcd_tag (f : Lcd → Lcd) (s : State) : (modLcd f s).tag = s.tag := rfl
@[simp] theorem modLcd_lcd (f : Lcd → Lcd) (s : State) : (modLcd f s).lcd = f s.lcd := rfl
@[simp] theorem modLcd_lmp (f : Lcd → Lcd) (s : State) : (modLcd f s).lmp = s.lmp := rfl
@[simp] theorem modLcd_lsw (f : Lcd → Lcd) (s : State) : (modLcd f s).lsw = s.lsw := rfl
@[simp] theorem modLcd_key (f : Lcd → Lcd) (s : State) : (modLcd f s).key = s.key := rfl
@[simp] theorem modLcd_upd (f : Lcd → Lcd) (s : State) : (modLcd f s).upd = s.upd := rfl
@[simp] theorem modLcd_mem (f : Lcd → Lcd) (s : State) : (modLcd f s).mem = s.mem := rfl
@[simp] theorem modLcd_outbox (f : Lcd → Lcd) (s : State) : (modLcd f s).outbox = s.outbox := rfl
@[simp] theorem modLcd_lastRead (f : Lcd → Lcd) (s : State) : (modLcd f s).lastRead = s.lastRead := rfl
@[simp] theorem modLcd_free (f : Lcd → Lcd) (s : State) : (modLcd f s).free = s.free := rfl
@[simp] theorem modLcd_pending (f : Lcd → Lcd) (s : State) : (modLcd f s).pending = s.pending := rfl

/-! ### modCh -/

@[simp] theorem modCh_gen (k : Fin 24) (f : Channel → Channel) (s : State) : (modCh k f s).gen = s.gen := rfl
@[simp] theorem modCh_fuse (k : Fin 24) (f : Channel → Channel) (s : State) : (modCh k f s).fuse = s.fuse := rfl
@[simp] theorem modCh_rst (k : Fin 24) (f : Channel → Channel) (s : State) : (modCh k f s).rst = s.rst := rfl
@[simp] theorem modCh_hif (k : Fin 24) (f : Channel → Channel) (s : State) : (modCh k f s).hif = s.hif := rfl
@[simp] theorem modCh_jnl (k : Fin 24) (f : Channel → Channel) (s : State) : (modCh k f s).jnl = s.jnl := rfl
@[simp] theorem modCh_adc (k : Fin 24) (f : Channel → Channel) (s : State) : (modCh k f s).adc = s.adc := rfl
@[simp] theorem modCh_nrg (k : Fin 24) (f : Channel → Channel) (s : State) : (modCh k f s).nrg = s.nrg := rfl
@[simp] theorem modCh_watch (k : Fin 24) (f : Channel → Channel) (s : State) : (modCh k f s).watch = s.watch := rfl
@[simp] theorem modCh_bill (k : Fin 24) (f : Channel → Channel) (s : State) : (modCh k f s).bill = s.bill := rfl
@[simp] theorem modCh_clk (k : Fin 24) (f : Channel → Channel) (s : State) : (modCh k f s).clk = s.clk := rfl
@[simp] theorem modCh_prn (k : Fin 24) (f : Channel → Channel) (s : State) : (modCh k f s).prn = s.prn := rfl
@[simp] theorem modCh_ppy (k : Fin 24) (f : Channel → Channel) (s : State) : (modCh k f s).ppy = s.ppy := rfl
@[simp] theorem modCh_tam (k : Fin 24) (f : Channel → Channel) (s : State) : (modCh k f s).tam = s.tam := rfl
@[simp] theorem modCh_ses (k : Fin 24) (f : Channel → Channel) (s : State) : (modCh k f s).ses = s.ses := rfl
@[simp] theorem modCh_saf (k : Fin 24) (f : Channel → Channel) (s : State) : (modCh k f s).saf = s.saf := rfl
@[simp] theorem modCh_vlk (k : Fin 24) (f : Channel → Channel) (s : State) : (modCh k f s).vlk = s.vlk := rfl
@[simp] theorem modCh_sct (k : Fin 24) (f : Channel → Channel) (s : State) : (modCh k f s).sct = s.sct := rfl
@[simp] theorem modCh_bkb (k : Fin 24) (f : Channel → Channel) (s : State) : (modCh k f s).bkb = s.bkb := rfl
@[simp] theorem modCh_upl (k : Fin 24) (f : Channel → Channel) (s : State) : (modCh k f s).upl = s.upl := rfl
@[simp] theorem modCh_nfc (k : Fin 24) (f : Channel → Channel) (s : State) : (modCh k f s).nfc = s.nfc := rfl
@[simp] theorem modCh_tag (k : Fin 24) (f : Channel → Channel) (s : State) : (modCh k f s).tag = s.tag := rfl
@[simp] theorem modCh_lcd (k : Fin 24) (f : Channel → Channel) (s : State) : (modCh k f s).lcd = s.lcd := rfl
@[simp] theorem modCh_lmp (k : Fin 24) (f : Channel → Channel) (s : State) : (modCh k f s).lmp = s.lmp := rfl
@[simp] theorem modCh_lsw (k : Fin 24) (f : Channel → Channel) (s : State) : (modCh k f s).lsw = { s.lsw with ch := vmod s.lsw.ch k f } := rfl
@[simp] theorem modCh_key (k : Fin 24) (f : Channel → Channel) (s : State) : (modCh k f s).key = s.key := rfl
@[simp] theorem modCh_upd (k : Fin 24) (f : Channel → Channel) (s : State) : (modCh k f s).upd = s.upd := rfl
@[simp] theorem modCh_mem (k : Fin 24) (f : Channel → Channel) (s : State) : (modCh k f s).mem = s.mem := rfl
@[simp] theorem modCh_outbox (k : Fin 24) (f : Channel → Channel) (s : State) : (modCh k f s).outbox = s.outbox := rfl
@[simp] theorem modCh_lastRead (k : Fin 24) (f : Channel → Channel) (s : State) : (modCh k f s).lastRead = s.lastRead := rfl
@[simp] theorem modCh_free (k : Fin 24) (f : Channel → Channel) (s : State) : (modCh k f s).free = s.free := rfl
@[simp] theorem modCh_pending (k : Fin 24) (f : Channel → Channel) (s : State) : (modCh k f s).pending = s.pending := rfl

/-! ### modPwm -/

@[simp] theorem modPwm_gen (j : Fin 4) (f : PwmIn → PwmIn) (s : State) : (modPwm j f s).gen = s.gen := rfl
@[simp] theorem modPwm_fuse (j : Fin 4) (f : PwmIn → PwmIn) (s : State) : (modPwm j f s).fuse = s.fuse := rfl
@[simp] theorem modPwm_rst (j : Fin 4) (f : PwmIn → PwmIn) (s : State) : (modPwm j f s).rst = s.rst := rfl
@[simp] theorem modPwm_hif (j : Fin 4) (f : PwmIn → PwmIn) (s : State) : (modPwm j f s).hif = s.hif := rfl
@[simp] theorem modPwm_jnl (j : Fin 4) (f : PwmIn → PwmIn) (s : State) : (modPwm j f s).jnl = s.jnl := rfl
@[simp] theorem modPwm_adc (j : Fin 4) (f : PwmIn → PwmIn) (s : State) : (modPwm j f s).adc = s.adc := rfl
@[simp] theorem modPwm_nrg (j : Fin 4) (f : PwmIn → PwmIn) (s : State) : (modPwm j f s).nrg = s.nrg := rfl
@[simp] theorem modPwm_watch (j : Fin 4) (f : PwmIn → PwmIn) (s : State) : (modPwm j f s).watch = s.watch := rfl
@[simp] theorem modPwm_bill (j : Fin 4) (f : PwmIn → PwmIn) (s : State) : (modPwm j f s).bill = s.bill := rfl
@[simp] theorem modPwm_clk (j : Fin 4) (f : PwmIn → PwmIn) (s : State) : (modPwm j f s).clk = s.clk := rfl
@[simp] theorem modPwm_prn (j : Fin 4) (f : PwmIn → PwmIn) (s : State) : (modPwm j f s).prn = s.prn := rfl
@[simp] theorem modPwm_ppy (j : Fin 4) (f : PwmIn → PwmIn) (s : State) : (modPwm j f s).ppy = s.ppy := rfl
@[simp] theorem modPwm_tam (j : Fin 4) (f : PwmIn → PwmIn) (s : State) : (modPwm j f s).tam = s.tam := rfl
@[simp] theorem modPwm_ses (j : Fin 4) (f : PwmIn → PwmIn) (s : State) : (modPwm j f s).ses = s.ses := rfl
@[simp] theorem modPwm_saf (j : Fin 4) (f : PwmIn → PwmIn) (s : State) : (modPwm j f s).saf = s.saf := rfl
@[simp] theorem modPwm_vlk (j : Fin 4) (f : PwmIn → PwmIn) (s : State) : (modPwm j f s).vlk = s.vlk := rfl
@[simp] theorem modPwm_sct (j : Fin 4) (f : PwmIn → PwmIn) (s : State) : (modPwm j f s).sct = s.sct := rfl
@[simp] theorem modPwm_bkb (j : Fin 4) (f : PwmIn → PwmIn) (s : State) : (modPwm j f s).bkb = s.bkb := rfl
@[simp] theorem modPwm_upl (j : Fin 4) (f : PwmIn → PwmIn) (s : State) : (modPwm j f s).upl = s.upl := rfl
@[simp] theorem modPwm_nfc (j : Fin 4) (f : PwmIn → PwmIn) (s : State) : (modPwm j f s).nfc = s.nfc := rfl
@[simp] theorem modPwm_tag (j : Fin 4) (f : PwmIn → PwmIn) (s : State) : (modPwm j f s).tag = s.tag := rfl
@[simp] theorem modPwm_lcd (j : Fin 4) (f : PwmIn → PwmIn) (s : State) : (modPwm j f s).lcd = s.lcd := rfl
@[simp] theorem modPwm_lmp (j : Fin 4) (f : PwmIn → PwmIn) (s : State) : (modPwm j f s).lmp = s.lmp := rfl
@[simp] theorem modPwm_lsw (j : Fin 4) (f : PwmIn → PwmIn) (s : State) : (modPwm j f s).lsw = { s.lsw with pwm := vmod s.lsw.pwm j f } := rfl
@[simp] theorem modPwm_key (j : Fin 4) (f : PwmIn → PwmIn) (s : State) : (modPwm j f s).key = s.key := rfl
@[simp] theorem modPwm_upd (j : Fin 4) (f : PwmIn → PwmIn) (s : State) : (modPwm j f s).upd = s.upd := rfl
@[simp] theorem modPwm_mem (j : Fin 4) (f : PwmIn → PwmIn) (s : State) : (modPwm j f s).mem = s.mem := rfl
@[simp] theorem modPwm_outbox (j : Fin 4) (f : PwmIn → PwmIn) (s : State) : (modPwm j f s).outbox = s.outbox := rfl
@[simp] theorem modPwm_lastRead (j : Fin 4) (f : PwmIn → PwmIn) (s : State) : (modPwm j f s).lastRead = s.lastRead := rfl
@[simp] theorem modPwm_free (j : Fin 4) (f : PwmIn → PwmIn) (s : State) : (modPwm j f s).free = s.free := rfl
@[simp] theorem modPwm_pending (j : Fin 4) (f : PwmIn → PwmIn) (s : State) : (modPwm j f s).pending = s.pending := rfl

/-! ### modUpd -/

@[simp] theorem modUpd_gen (f : Upd → Upd) (s : State) : (modUpd f s).gen = s.gen := rfl
@[simp] theorem modUpd_fuse (f : Upd → Upd) (s : State) : (modUpd f s).fuse = s.fuse := rfl
@[simp] theorem modUpd_rst (f : Upd → Upd) (s : State) : (modUpd f s).rst = s.rst := rfl
@[simp] theorem modUpd_hif (f : Upd → Upd) (s : State) : (modUpd f s).hif = s.hif := rfl
@[simp] theorem modUpd_jnl (f : Upd → Upd) (s : State) : (modUpd f s).jnl = s.jnl := rfl
@[simp] theorem modUpd_adc (f : Upd → Upd) (s : State) : (modUpd f s).adc = s.adc := rfl
@[simp] theorem modUpd_nrg (f : Upd → Upd) (s : State) : (modUpd f s).nrg = s.nrg := rfl
@[simp] theorem modUpd_watch (f : Upd → Upd) (s : State) : (modUpd f s).watch = s.watch := rfl
@[simp] theorem modUpd_bill (f : Upd → Upd) (s : State) : (modUpd f s).bill = s.bill := rfl
@[simp] theorem modUpd_clk (f : Upd → Upd) (s : State) : (modUpd f s).clk = s.clk := rfl
@[simp] theorem modUpd_prn (f : Upd → Upd) (s : State) : (modUpd f s).prn = s.prn := rfl
@[simp] theorem modUpd_ppy (f : Upd → Upd) (s : State) : (modUpd f s).ppy = s.ppy := rfl
@[simp] theorem modUpd_tam (f : Upd → Upd) (s : State) : (modUpd f s).tam = s.tam := rfl
@[simp] theorem modUpd_ses (f : Upd → Upd) (s : State) : (modUpd f s).ses = s.ses := rfl
@[simp] theorem modUpd_saf (f : Upd → Upd) (s : State) : (modUpd f s).saf = s.saf := rfl
@[simp] theorem modUpd_vlk (f : Upd → Upd) (s : State) : (modUpd f s).vlk = s.vlk := rfl
@[simp] theorem modUpd_sct (f : Upd → Upd) (s : State) : (modUpd f s).sct = s.sct := rfl
@[simp] theorem modUpd_bkb (f : Upd → Upd) (s : State) : (modUpd f s).bkb = s.bkb := rfl
@[simp] theorem modUpd_upl (f : Upd → Upd) (s : State) : (modUpd f s).upl = s.upl := rfl
@[simp] theorem modUpd_nfc (f : Upd → Upd) (s : State) : (modUpd f s).nfc = s.nfc := rfl
@[simp] theorem modUpd_tag (f : Upd → Upd) (s : State) : (modUpd f s).tag = s.tag := rfl
@[simp] theorem modUpd_lcd (f : Upd → Upd) (s : State) : (modUpd f s).lcd = s.lcd := rfl
@[simp] theorem modUpd_lmp (f : Upd → Upd) (s : State) : (modUpd f s).lmp = s.lmp := rfl
@[simp] theorem modUpd_lsw (f : Upd → Upd) (s : State) : (modUpd f s).lsw = s.lsw := rfl
@[simp] theorem modUpd_key (f : Upd → Upd) (s : State) : (modUpd f s).key = s.key := rfl
@[simp] theorem modUpd_upd (f : Upd → Upd) (s : State) : (modUpd f s).upd = f s.upd := rfl
@[simp] theorem modUpd_mem (f : Upd → Upd) (s : State) : (modUpd f s).mem = s.mem := rfl
@[simp] theorem modUpd_outbox (f : Upd → Upd) (s : State) : (modUpd f s).outbox = s.outbox := rfl
@[simp] theorem modUpd_lastRead (f : Upd → Upd) (s : State) : (modUpd f s).lastRead = s.lastRead := rfl
@[simp] theorem modUpd_free (f : Upd → Upd) (s : State) : (modUpd f s).free = s.free := rfl
@[simp] theorem modUpd_pending (f : Upd → Upd) (s : State) : (modUpd f s).pending = s.pending := rfl

/-! ### modMem -/

@[simp] theorem modMem_gen (f : Mem → Mem) (s : State) : (modMem f s).gen = s.gen := rfl
@[simp] theorem modMem_fuse (f : Mem → Mem) (s : State) : (modMem f s).fuse = s.fuse := rfl
@[simp] theorem modMem_rst (f : Mem → Mem) (s : State) : (modMem f s).rst = s.rst := rfl
@[simp] theorem modMem_hif (f : Mem → Mem) (s : State) : (modMem f s).hif = s.hif := rfl
@[simp] theorem modMem_jnl (f : Mem → Mem) (s : State) : (modMem f s).jnl = s.jnl := rfl
@[simp] theorem modMem_adc (f : Mem → Mem) (s : State) : (modMem f s).adc = s.adc := rfl
@[simp] theorem modMem_nrg (f : Mem → Mem) (s : State) : (modMem f s).nrg = s.nrg := rfl
@[simp] theorem modMem_watch (f : Mem → Mem) (s : State) : (modMem f s).watch = s.watch := rfl
@[simp] theorem modMem_bill (f : Mem → Mem) (s : State) : (modMem f s).bill = s.bill := rfl
@[simp] theorem modMem_clk (f : Mem → Mem) (s : State) : (modMem f s).clk = s.clk := rfl
@[simp] theorem modMem_prn (f : Mem → Mem) (s : State) : (modMem f s).prn = s.prn := rfl
@[simp] theorem modMem_ppy (f : Mem → Mem) (s : State) : (modMem f s).ppy = s.ppy := rfl
@[simp] theorem modMem_tam (f : Mem → Mem) (s : State) : (modMem f s).tam = s.tam := rfl
@[simp] theorem modMem_ses (f : Mem → Mem) (s : State) : (modMem f s).ses = s.ses := rfl
@[simp] theorem modMem_saf (f : Mem → Mem) (s : State) : (modMem f s).saf = s.saf := rfl
@[simp] theorem modMem_vlk (f : Mem → Mem) (s : State) : (modMem f s).vlk = s.vlk := rfl
@[simp] theorem modMem_sct (f : Mem → Mem) (s : State) : (modMem f s).sct = s.sct := rfl
@[simp] theorem modMem_bkb (f : Mem → Mem) (s : State) : (modMem f s).bkb = s.bkb := rfl
@[simp] theorem modMem_upl (f : Mem → Mem) (s : State) : (modMem f s).upl = s.upl := rfl
@[simp] theorem modMem_nfc (f : Mem → Mem) (s : State) : (modMem f s).nfc = s.nfc := rfl
@[simp] theorem modMem_tag (f : Mem → Mem) (s : State) : (modMem f s).tag = s.tag := rfl
@[simp] theorem modMem_lcd (f : Mem → Mem) (s : State) : (modMem f s).lcd = s.lcd := rfl
@[simp] theorem modMem_lmp (f : Mem → Mem) (s : State) : (modMem f s).lmp = s.lmp := rfl
@[simp] theorem modMem_lsw (f : Mem → Mem) (s : State) : (modMem f s).lsw = s.lsw := rfl
@[simp] theorem modMem_key (f : Mem → Mem) (s : State) : (modMem f s).key = s.key := rfl
@[simp] theorem modMem_upd (f : Mem → Mem) (s : State) : (modMem f s).upd = s.upd := rfl
@[simp] theorem modMem_mem (f : Mem → Mem) (s : State) : (modMem f s).mem = f s.mem := rfl
@[simp] theorem modMem_outbox (f : Mem → Mem) (s : State) : (modMem f s).outbox = s.outbox := rfl
@[simp] theorem modMem_lastRead (f : Mem → Mem) (s : State) : (modMem f s).lastRead = s.lastRead := rfl
@[simp] theorem modMem_free (f : Mem → Mem) (s : State) : (modMem f s).free = s.free := rfl
@[simp] theorem modMem_pending (f : Mem → Mem) (s : State) : (modMem f s).pending = s.pending := rfl

end Sys2Proof.Laws
end

