-- ==== Sys2Proof/Tests/Slice0.lean ====
section
/-! SUPPORT. Tests of single steps, terms that the well-formedness check refuses, and for every statement with hypotheses a state
and operands that meet them, clause by clause, at a boundary of the range where the clause has one. -/

open Sys2Proof Sys2Proof.Machine Sys2Proof.Safety

namespace Sys2Proof.Tests

set_option maxRecDepth 20000
set_option Elab.async false
set_option linter.unusedVariables false

/-- The part after reset with supplies up, all cores released, every function ready. -/
def up : State :=
  let s := State.reset
  { s with rst := { s.rst with held0 := false, waitGood := false, msdUp := true, apdUp := true, codUp := true },
           gen := { s.gen with ready := BitVec.allOnes 19, win := .host } }

/-- The same at another GTC. -/
def at_ (t : Nat) (s : State) : State := { s with gen := { s.gen with gtc := BitVec.ofNat 48 t } }

/-- The same in another window of the tick. -/
def win (w : Window) (s : State) : State := { s with gen := { s.gen with win := w } }

/-- A descriptor with this opcode, these parameter bytes (from byte 16 on) and this buffer. -/
def fl (op : Nat) (param : List Byte) (len : Nat := 0) (buf : List Byte := []) (target : Byte := 0) : Flight :=
  { seq := 1, sq := 0, sqIndex := 0, cq := 0, opcode := BitVec.ofNat 16 op, tag := 0, fence := false, target := target, bufLen := len,
    bufAddr := 0, param := param, inBuf := buf }

/-- A state in which this one descriptor is in flight. -/
def wf (f : Flight) (s : State) : State := { s with hif := { s.hif with inflight := [f] } }

/-- What a command leaves. -/
def after (c : Instr) (s : State) : State := match exec c s with | .next t => t | _ => s

/-- All rings enabled, one descriptor waiting in each submission queue. -/
def rings : State :=
  { up with hif := { up.hif with run := true, sq := Vector.replicate 16 { en := true, tail := 1 }, cq := Vector.replicate 16 { en := true } } }

/-- An open journal entry. -/
def je (seq : Nat) : JEntry := { seq := seq, gtcAcc := 0, opcode := 0, tag := 0, ring := 0, fence := false, sqIndex := 0 }

/-- A tick without inputs. -/
def tin : TickIn :=
  { mods := [], cp := [], pp := [], mirLow := [], lockHigh := [], coil := [], stop := [], mismatch := false, linkOk := true, bufOk := true, upsets := [],
    hurts := [], consumes := [], fgEnd := 0, bgEnd := 0 }

/-- A state with a key in one slot. -/
def keyed (k : Fin 32) (r : KeyRec) (s : State) : State := { s with key := { s.key with slot := s.key.slot.set k.val { rec_ := r } } }

/-- An outlet that is enabled, and one with the digital link too. -/
def o0 : Outlet := { ocfg := 0x001E2071 }
def oh : Outlet := { ocfg := 0x001E2079 }

/-- All outlets alike, confirmed and with residual-current slots configured. -/
def so (o : Outlet) : State :=
  { up with ses := { up.ses with started := true, out := Vector.replicate 8 o }, saf := { up.saf with unconf := 0 },
            adc := { up.adc with cfg := Vector.replicate 72 { type := 2 } }, nrg := { up.nrg with corr := Vector.replicate 70 { fs := 1 } } }

/-- The same with all links alike. -/
def lk (l : Link) (m : Mirror) (o : Outlet) : State :=
  { so o with vlk := { up.vlk with link := Vector.replicate 8 l, mirror := Vector.replicate 8 m } }

/-- Bytes of a full stop-input block and of a safety block that parses. -/
def stopBlk : List Byte := [0x53, 0x42, 1, 3, 1, 1, 10, 0, 10, 0, 8, 0]
def safBlk : List Byte :=
  [0x53, 0x42, 1] ++ List.replicate 61 0 ++ (List.replicate 8 (leBytes 4 0x001E2070 ++ leBytes 4 0x2864)).flatten

/-- The base point as a public key; and a certificate of it, valid in the first second of 1970, that its own private key 1 signs: with
the nonce 1 its r is the point's x, and its s is worked out by hand. -/
def gKey : List Byte := (State.reset.key.slot[0]).rec_.pub
def certSigned : List Byte :=
  let t : List Byte := [0x17, 13, 0x37, 0x30, 0x30, 0x31, 0x30, 0x31, 0x30, 0x30, 0x30, 0x30, 0x30, 0x30, 0x5A]
  [0x30, 112, 5, 0, 5, 0, 5, 0, 0x30, 30] ++ t ++ t ++ [5, 0, 0x30, 70, 0x30, 0, 3, 66, 0] ++ gKey
def cert : List Byte :=
  [0x30, 0x81, 190] ++ certSigned ++ [0x30, 0, 3, 72, 0, 0x30, 69, 2, 32] ++ slice gKey 1 32 ++ [2, 33] ++
    beBytes 33 0x8041A3DDC2C55037D3A5CC6208B85C29ED4568FE642B4DF50B70CE0B8FBC6512

/-- A pending safety block. -/
def safPend : PendBlock := { bytes := safBlk, edition := 0, tick := 0 }

/-- An image armed in the second slot. -/
def armedImg (x : ImageSlot) (s : State) : State :=
  { s with upd := { s.upd with armed := true, slot := #v[s.upd.slot[0], x] } }

/-- A state in which the loader checks an image; the second slot holds one of 8 pieces, all stored. -/
def checks (c : BootTry) : State :=
  { up with upd := { up.upd with slot := #v[up.upd.slot[0], { imageId := 7, pieces := 8, sources := 1, bitmap := 255 }], checking := some c } }

/-- A calendar with one season and empty days. -/
def cal : List Byte :=
  List.replicate 24 0 ++ [1, 1] ++ List.replicate 46 0 ++
    (List.replicate 8 ([0, 0, 0, 0] ++ (List.replicate 11 [0xFF, 0xFF, 0, 0]).flatten)).flatten ++ List.replicate 312 0

/-! ### The well-formedness check refuses what is ill-formed -/

/-- A tick whose lists have the right lengths. -/
def tinOk : TickIn :=
  { tin with mods := List.replicate 72 0, cp := List.replicate 8 0, pp := List.replicate 8 0, mirLow := List.replicate 8 false,
             lockHigh := List.replicate 8 false, coil := List.replicate 8 { high := false, low := false, current := false },
             stop := List.replicate 4 { isOpen := false, edges := 0 } }

/-- A token message with this count. -/
def tok (count : Nat) : TokMsg := { phase := 0, count := count, sender := 1, receiver := 2, xid := 1, deadline := 0, result := 0 }

theorem test_wf_tick : wellFormed (.tickEdge tinOk) = true := by decide

theorem test_wf_tick_refused :
    wellFormed (.tickEdge { tinOk with mods := [] }) = false ∧ wellFormed (.tickEdge { tinOk with cp := [] }) = false ∧
    wellFormed (.tickEdge { tinOk with pp := [] }) = false ∧ wellFormed (.tickEdge { tinOk with mirLow := [] }) = false ∧
    wellFormed (.tickEdge { tinOk with lockHigh := [] }) = false ∧ wellFormed (.tickEdge { tinOk with coil := [] }) = false ∧
    wellFormed (.tickEdge { tinOk with stop := [] }) = false := by decide

theorem test_wf_lengths_refused :
    wellFormed (.descriptorFetch 0 (List.replicate 63 0) true .none false) = false ∧
    wellFormed (.watchWindowEnd (List.replicate 23 0)) = false ∧ wellFormed (.slacSounding 0 []) = false ∧
    wellFormed (.budgetRequest [0, 0] 1) = false ∧ wellFormed (.sounding 0 []) = false ∧
    wellFormed (.firmwarePiece 1 5120 (List.replicate 512 0)) = false ∧ wellFormed (.firmwarePiece 1 5119 []) = false ∧
    wellFormed (.pufHealthCheck [0, 0, 0]) = false := by decide

theorem test_wf_measurement_refused :
    wellFormed (.lswMeasurement [] 0 (List.replicate 24 0) (List.replicate 4 0) 0 240) = false ∧
    wellFormed (.lswMeasurement (List.replicate 24 0) 0 [] (List.replicate 4 0) 0 240) = false ∧
    wellFormed (.lswMeasurement (List.replicate 24 0) 0 (List.replicate 24 0) [] 0 240) = false := by decide

theorem test_wf_token_refused :
    ∀ c ∈ [0, 801], wellFormed (.offer (tok c)) = false ∧ wellFormed (.accept (tok c)) = false ∧ wellFormed (.refuse (tok c)) = false ∧
      wellFormed (.commit (tok c)) = false ∧ wellFormed (.ack (tok c)) = false ∧ wellFormed (.move (tok c)) = false ∧
      wellFormed (.query (tok c)) = false ∧ wellFormed (.resolve (tok c)) = false := by decide

/-- What a station receives of a segment, with this many symbols' quiet carriers. -/
def segment (quiet : Nat) : SegmentRx := { floor := 1, quiet := List.replicate quiet 1, clean := true, bps := 4320 }

theorem test_wf_segment_refused :
    wellFormed (.frameHeader ({ dfn := 11, coord := 9, station := 0, domain := 3, uOwner := 0, uRole := 0, target := 0, gw := false, retry := false, depth := 1, rate := 1, tmap := 0, crcOk := true }, segment 21)) = false ∧ wellFormed (.pollResponse 0 (some (segment 0)) [] none) = false ∧
    wellFormed (.pollResponse 0 (some (segment 23)) [] none) = false ∧ wellFormed (.pollResponse 0 (some (segment 22)) [] none) = true := by decide

theorem test_wf_token : wellFormed (.move (tok 1)) = true ∧ wellFormed (.move (tok 800)) = true := by decide

/-! ### Published check values of the algorithms that the manual names -/

/-- CRC-32C of the digits 1 to 9. -/
theorem test_crc32c : crc32c [0x31, 0x32, 0x33, 0x34, 0x35, 0x36, 0x37, 0x38, 0x39] = 0xE3069283 := by decide +kernel

/-- SHA-256 of the letters a to c (FIPS 180-4). -/
theorem test_sha256 : beNat (sha256 [0x61, 0x62, 0x63]) = 0xBA7816BF8F01CFEA414140DE5DAE2223B00361A396177A9CB410FF61F20015AD := by
  decide +kernel

/-- AES-128 of FIPS 197, appendix C. -/
theorem test_aes128 : beNat (aesBlock (beBytes 16 0x000102030405060708090A0B0C0D0E0F) (beBytes 16 0x00112233445566778899AABBCCDDEEFF)) =
    0x69C4E0D86A7B0430D8CDB78070B4C55A := by decide +kernel

/-- The base point lies on P-256. -/
theorem test_base_point : onCurve p256g = true := by decide +kernel

/-! ### Single steps, expected values from the manual -/

/-- R98: a tie goes to the even integer. -/
theorem test_round_tie : roundDiv 5 2 = 2 ∧ roundDiv 7 2 = 4 ∧ roundDiv (-5) 2 = -2 := by decide

/-- R47: a read of the low half latches the high half. -/
theorem test_gtc_latch : (after .genGtcLoRead (at_ 0x123456789ABC up)).gen.gtcHi = 0x1234 := by decide +kernel

/-- R45: with both PLLs locked the tick with GTC 0 begins and level 0 ends. -/
theorem test_gtc_start :
    (after (.gtcStart (true, true) tin) { State.reset with rst := { State.reset.rst with waitGood := false } }).rst.held0 = false := by
  decide +kernel

/-- R51: a tick adds one to the GTC. -/
theorem test_tick_counts : (after (.tickEdge tinOk) (win .done up)).gen.gtc = 1 := by decide +kernel

/-- R93: a write to a sealed metering register is rejected. -/
theorem test_sealed_write : (after (.mtrSealSet) up).adc.sealed = true := by decide +kernel

/-- R342: a card that answers is reported once. -/
theorem test_card_reported :
    (after (.nfcPing 0 [{ ktype := 1, ident := [1, 2, 3, 4], isoDep := false }])
      { up with nfc := { up.nfc with pings := List.replicate 8 100 } }).nfc.reported = true := by decide +kernel

/-- R379: an overload beyond the last retry latches the channel. -/
theorem test_overcurrent_latch :
    ((after (.lswOvercurrent 5) { up with lsw := { up.lsw with ch := Vector.replicate 24 { mode := .high, retries := 3 } } }).lsw.ch[5]).oc =
      true := by decide +kernel

/-- R314: the longest burst that the manual's table names for a depth and a rate leaves every codeword within its fraction. -/
theorem test_bursts : ∀ e ∈ [(0, 16, 6), (0, 32, 12), (0, 64, 25), (1, 16, 4), (1, 32, 8), (1, 64, 16), (2, 16, 2), (2, 32, 5), (2, 64, 11),
      (3, 16, 1), (3, 32, 3), (3, 64, 6)],
    withinFraction e.1 270 (List.replicate e.2.2 true ++ List.replicate (e.2.1 - e.2.2) false) = true := by decide +kernel

/-- R415: a double flip reads poison. -/
theorem test_double_flip :
    (readWord .metSram 0 false { up with mem := { up.mem with met := [(0, { data := 5, valid := true, flips := [0, 1] })] } }).1.2 = true := by
  decide +kernel

/-! ### Every statement's hypotheses are met -/

/-- A full authorisation list, all entries with other keys than the tests use. -/
def fullList (n : Nat) (p : Bool) (s : State) : State :=
  { s with nfc := { s.nfc with entries := (List.range n).map fun i => (i, { ktype := 4, klen := 16, pinned := p }) } }

theorem fullList_len (n : Nat) (p : Bool) (s : State) : n ≤ (fullList n p s).nfc.entries.length := by simp [fullList]

theorem fullList_find (n : Nat) (p : Bool) (s : State) (key : List Byte) : listFind 1 4 key (fullList n p s) = none := by
  simp [listFind, fullList, ListEntry.hasKey]

theorem fullList_pinned (n : Nat) (s : State) : ∀ x ∈ (fullList n true s).nfc.entries, x.2.pinned = true := by
  simp only [fullList, List.mem_map]
  rintro x ⟨i, _, rfl⟩
  rfl

theorem evict_keep (l : List (Nat × ListEntry)) (h : ∀ e ∈ l, e.2.pinned = false) :
    l.foldl (fun (best : Option (Nat × Nat)) e =>
      if e.2.pinned then best
      else
        let r := recencyOf [] e.1
        match best with
        | none => some (e.1, r)
        | some b => if b.2 < r then some (e.1, r) else best) (some (0, 0)) = some (0, 0) := by
  induction l with
  | nil => rfl
  | cons e t ih =>
    have he := h e (.head _)
    simp only [List.foldl_cons, he]
    exact ih fun x hx => h x (.tail _ hx)

theorem fullList_evict (n : Nat) (s : State) (hr : s.nfc.recency = []) : evictIndex (fullList (n + 1) false s) = some 0 := by
  simp only [evictIndex, fullList, hr, List.range_succ_eq_map, List.map_cons, List.foldl_cons]
  have k := evict_keep (((List.range n).map Nat.succ).map fun i => (i, { ktype := 4, klen := 16, pinned := false })) (by
    intro e he
    simp only [List.mem_map] at he
    obtain ⟨_, _, rfl⟩ := he
    rfl)
  exact congrArg (Option.map Prod.fst) k

/-- States and operands that meet the hypotheses of StepRunsFrontCommand, clause by clause. -/
theorem wit_StepRunsFrontCommand :
  (∃ (c : Instr), ∃ (rest : List Instr), ∃ (s : State), s.pending = c :: rest) ∧
  (∃ (s : State), s.pending = []) :=
  ⟨⟨.sysNop, [], { up with pending := [.sysNop] }, by decide +kernel⟩,
  ⟨up, by decide +kernel⟩⟩

/-- States and operands that meet the hypotheses of GtcReadLatchesHighHalf, clause by clause. -/
theorem wit_GtcReadLatchesHighHalf :
  (∃ (s : State), LinkUp s) ∧
  (∃ (s : State), ∃ t, LinkUp s ∧ exec .genGtcLoRead s = .next t) :=
  ⟨⟨up, by delta LinkUp; decide +kernel⟩,
  ⟨up, after .genGtcLoRead up, by delta LinkUp; decide +kernel, rfl⟩⟩

/-- States and operands that meet the hypotheses of HostReadsWithEffect, clause by clause. -/
theorem wit_HostReadsWithEffect :
  (∃ (s : State), LinkUp s) ∧
  (∃ (s : State), ∃ (v : W32), ∃ (sel : Nat), LinkUp s ∧ sel = v.toNat * 2 ^ 32 + s.jnl.sel.toNat % 2 ^ 32 ∧ sel < max 1 (s.jnl.tail - 8192)) ∧
  (∃ (s : State), ∃ (v : W32), ∃ (sel : Nat), LinkUp s ∧ sel = v.toNat * 2 ^ 32 + s.jnl.sel.toNat % 2 ^ 32 ∧ s.jnl.tail ≤ sel ∧ max 1 (s.jnl.tail - 8192) ≤ sel) ∧
  (∃ (s : State), ∃ (v : W32), ∃ (sel : Nat), ∃ (e : JEntry), LinkUp s ∧ sel = v.toNat * 2 ^ 32 + s.jnl.sel.toNat % 2 ^ 32 ∧ max 1 (s.jnl.tail - 8192) ≤ sel ∧ sel < s.jnl.tail ∧ s.jnl.find sel = some e) :=
  ⟨⟨up, by delta LinkUp; decide +kernel⟩,
  ⟨up, 0, (0 : W32).toNat * 2 ^ 32 + (up).jnl.sel.toNat % 2 ^ 32, by delta LinkUp; decide +kernel, rfl, by decide +kernel⟩,
  ⟨{ (up) with jnl := { (up).jnl with sel := 1 } }, 0, (0 : W32).toNat * 2 ^ 32 + ({ (up) with jnl := { (up).jnl with sel := 1 } } : State).jnl.sel.toNat % 2 ^ 32, by delta LinkUp; decide +kernel, rfl, by decide +kernel⟩,
  ⟨{ (up) with jnl := { (up).jnl with sel := 1, tail := 2, entries := [je 1] } }, 0, (0 : W32).toNat * 2 ^ 32 + ({ (up) with jnl := { (up).jnl with sel := 1, tail := 2, entries := [je 1] } } : State).jnl.sel.toNat % 2 ^ 32, je 1, by delta LinkUp; decide +kernel, rfl, by decide +kernel⟩⟩

/-- States and operands that meet the hypotheses of Doorbells, clause by clause. -/
theorem wit_Doorbells :
  (∃ (s : State), ∃ (n : Fin 16), ∃ (v : W32), LinkUp s ∧ (s.hif.sq[n.val]).sizeLog2 ≤ 12 ∧ (((s.hif.sq[n.val]).en = false ∨ 2 ^ (s.hif.sq[n.val]).sizeLog2 ≤ v.toNat ∨ 4096 ≤ v.toNat))) ∧
  (∃ (s : State), ∃ (n : Fin 16), ∃ (v : W32), LinkUp s ∧ (s.hif.sq[n.val]).sizeLog2 ≤ 12 ∧ (s.hif.sq[n.val]).en = true ∧ v.toNat < 2 ^ (s.hif.sq[n.val]).sizeLog2) ∧
  (∃ (s : State), ∃ (r : OutRing), ∃ (v : W32), LinkUp s ∧ (outRing r s).sizeLog2 ≤ 12 ∧ (((outRing r s).en = false ∨ 2 ^ (outRing r s).sizeLog2 ≤ v.toNat ∨ 4096 ≤ v.toNat ∨ (outRing r s).used < (v.toNat + 2 ^ (outRing r s).sizeLog2 - (outRing r s).head) % 2 ^ (outRing r s).sizeLog2))) ∧
  (∃ (s : State), ∃ (r : OutRing), ∃ (v : W32), LinkUp s ∧ (outRing r s).sizeLog2 ≤ 12 ∧ (outRing r s).en = true ∧ v.toNat < 2 ^ (outRing r s).sizeLog2 ∧ (v.toNat + 2 ^ (outRing r s).sizeLog2 - (outRing r s).head) % 2 ^ (outRing r s).sizeLog2 ≤ (outRing r s).used) :=
  ⟨⟨rings, 15, 16, by delta LinkUp; decide +kernel, by decide +kernel⟩,
  ⟨rings, 15, 15, by delta LinkUp; decide +kernel, by decide +kernel⟩,
  ⟨rings, .cq 15, 16, by delta LinkUp; decide +kernel, by decide +kernel⟩,
  ⟨rings, .cq 15, 0, by delta LinkUp; decide +kernel, by decide +kernel⟩⟩

/-- States and operands that meet the hypotheses of RingConfiguration, clause by clause. -/
theorem wit_RingConfiguration :
  (∃ (s : State), ∃ (n : Fin 16), LinkUp s ∧ (s.hif.sq[n.val]).en = false ∧ 4 ≤ (s.hif.sq[n.val]).sizeLog2 ∧ (s.hif.sq[n.val]).sizeLog2 ≤ 12 ∧ (s.hif.cq[(s.hif.sq[n.val]).cq.val]).en = true) ∧
  (∃ (s : State), ∃ (n : Fin 16), LinkUp s ∧ (s.hif.sq[n.val]).en = true ∧ 4 ≤ (s.hif.sq[n.val]).sizeLog2 ∧ (s.hif.sq[n.val]).sizeLog2 ≤ 12) ∧
  (∃ (s : State), ∃ (r : OutRing), LinkUp s ∧ (outRing r s).en = false ∧ 4 ≤ (outRing r s).sizeLog2 ∧ (outRing r s).sizeLog2 ≤ 12) ∧
  (∃ (s : State), ∃ (r : OutRing), LinkUp s ∧ (outRing r s).en = true ∧ 4 ≤ (outRing r s).sizeLog2 ∧ (outRing r s).sizeLog2 ≤ 12 ∧ ((∀ n i : Fin 16, r = .cq n → (s.hif.sq[i.val]).en = true → (s.hif.sq[i.val]).cq ≠ n))) ∧
  (∃ (s : State), ∃ (n : Fin 16), ∃ (v : W32), LinkUp s ∧ (s.hif.sq[n.val]).en = true) ∧
  (∃ (s : State), ∃ (n : Fin 16), ∃ (v : W32), LinkUp s ∧ (s.hif.sq[n.val]).en = false) ∧
  (∃ (s : State), ∃ (r : OutRing), ∃ (v : W32), LinkUp s ∧ (outRing r s).en = true) ∧
  (∃ (s : State), ∃ (r : OutRing), ∃ (v : W32), LinkUp s ∧ (outRing r s).en = false) ∧
  (∃ (s : State), ∃ (r : Ring), ∃ (n : Fin 16), ∃ (v : W32), LinkUp s ∧ r = .evq ∧ (12 < bitsOf v.toNat 4 4)) ∧
  (∃ (s : State), ∃ (r : Ring), ∃ (n : Fin 16), ∃ (v : W32), LinkUp s ∧ r = .evq ∧ (v.getLsbD 0 = true ∧ (s.hif.sq[n.val]).en = false ∧ (s.hif.cq[bitsOf v.toNat 8 4 % 16]'(Nat.mod_lt _ (by decide))).en = false)) ∧
  (∃ (s : State), ∃ (r : Ring), ∃ (n : Fin 16), ∃ (v : W32), LinkUp s ∧ r = .evq ∧ ((s.hif.sq[n.val]).en = true ∧ (s.hif.sq[n.val]).sizeLog2 ≤ 12 ∧ bitsOf v.toNat 4 4 ≠ (s.hif.sq[n.val]).sizeLog2)) ∧
  (∃ (s : State), ∃ (r : Ring), ∃ (n : Fin 16), ∃ (v : W32), LinkUp s ∧ r = .evq ∧ (s.hif.sq[n.val]).en = false ∧ v.getLsbD 0 = false ∧ 4 ≤ bitsOf v.toNat 4 4 ∧ bitsOf v.toNat 4 4 ≤ 12) :=
  ⟨⟨{ (up) with hif := { (up).hif with cq := Vector.replicate 16 { en := true } } }, 15, by delta LinkUp; decide +kernel, by decide +kernel⟩,
  ⟨rings, 15, by delta LinkUp; decide +kernel, by decide +kernel⟩,
  ⟨up, .evq, by delta LinkUp; decide +kernel, by decide +kernel⟩,
  ⟨{ (up) with hif := { (up).hif with evq := { en := true, sizeLog2 := 12 } } }, .evq, by delta LinkUp; decide +kernel, by decide +kernel⟩,
  ⟨rings, 15, 0, by delta LinkUp; decide +kernel, by decide +kernel⟩,
  ⟨up, 15, 0xFFFFFFFF, by delta LinkUp; decide +kernel, by decide +kernel⟩,
  ⟨{ (up) with hif := { (up).hif with evq := { en := true } } }, .evq, 0, by delta LinkUp; decide +kernel, by decide +kernel⟩,
  ⟨up, .cq 15, 0xFFFFFFFF, by delta LinkUp; decide +kernel, by decide +kernel⟩,
  ⟨up, .evq, 15, 0xD0, by delta LinkUp; decide +kernel, rfl, by decide +kernel⟩,
  ⟨up, .evq, 15, 0xF41, by delta LinkUp; decide +kernel, rfl, by decide +kernel⟩,
  ⟨rings, .evq, 15, 0xC1, by delta LinkUp; decide +kernel, rfl, by decide +kernel⟩,
  ⟨up, .evq, 15, 0xFC2, by delta LinkUp; decide +kernel, rfl, by decide +kernel⟩⟩

/-- States and operands that meet the hypotheses of HostInterfaceControl, clause by clause. -/
theorem wit_HostInterfaceControl :
  (∃ (s : State), LinkUp s) ∧
  (∃ (s : State), LinkUp s ∧ s.vlk.waits = [] ∧ s.upl.waits = []) ∧
  (∃ (s : State), ∃ (k : LinkReset), s.rst.held0 = false) ∧
  (∃ (s : State), ∃ (r : OutRing), (outRing r s).irqEn = true ∧ 0 < (outRing r s).unsignalled ∧ (outRing r s).firstTick + max 1 (outRing r s).coalTicks.toNat ≤ s.now) :=
  ⟨⟨up, by delta LinkUp; decide +kernel⟩,
  ⟨rings, by delta LinkUp; decide +kernel, by decide +kernel⟩,
  ⟨up, .hotReset, by decide +kernel⟩,
  ⟨at_ 1 ({ (up) with hif := { (up).hif with evq := { irqEn := true, unsignalled := 1 } } }), .evq, by decide +kernel⟩⟩

/-- States and operands that meet the hypotheses of FetchTakesNextSeq, clause by clause. -/
theorem wit_FetchTakesNextSeq :
  (∃ (s : State), ∃ (n : Fin 16), ∃ (raw : List Byte), ∃ (ok : Bool), ∃ (torn : Bool), ∃ (buf : BufRead), s.rst.msdUp = true ∧ fetchChoice s = some n) :=
  ⟨rings, 0, List.replicate 64 0, true, false, .none, by decide +kernel⟩

/-- States and operands that meet the hypotheses of CompletionClosesEntry, clause by clause. -/
theorem wit_CompletionClosesEntry :
  (∃ (s : State), ∃ (f : Flight), ∃ (st : Status), ∃ (detail : Nat), ∃ (data : List Byte), ∃ (buf : Option (List Byte)), ∃ e ∈ (complete f st detail data buf s).jnl.entries, e.seq = f.seq) :=
  ⟨{ (wf (fl 0x0F00 []) up) with jnl := { up.jnl with tail := 2, entries := [je 1] } }, fl 0x0F00 [], .ok, 0, [], none, { je 1 with done := some (0, 0) }, by decide +kernel, by decide +kernel⟩

/-- States and operands that meet the hypotheses of FenceHoldsBack, clause by clause. -/
theorem wit_FenceHoldsBack :
  (∃ (s : State), ∃ (pre : List Flight), ∃ (post : List Flight), ∃ (f : Flight), ∃ (g : Flight), ∃ d, s.hif.inflight = pre ++ f :: post ∧ g ∈ pre ∧ g.sq = f.sq ∧ ((f.fence = true ∨ (g.fence = true ∧ g.running = false))) ∧ ((∀ h ∈ pre, h.seq ≠ f.seq)) ∧ ((∀ h ∈ post, h.seq ≠ f.seq)) ∧ nextDispatch [] s.hif.inflight = some d) :=
  ⟨{ up with hif := { up.hif with inflight := [fl 0x0F00 [], { fl 0x0F00 [] with seq := 2, fence := true }] } }, [fl 0x0F00 []], [], { fl 0x0F00 [] with seq := 2, fence := true }, fl 0x0F00 [], fl 0x0F00 [], by decide +kernel⟩

/-- States and operands that meet the hypotheses of SystemClass, clause by clause. -/
theorem wit_SystemClass :
  (∃ (s : State), ∃ (f : Flight), Front 0x0F00 f s) ∧
  (∃ (s : State), ∃ (f : Flight), Front 0x0F02 f s) ∧
  (∃ (s : State), ∃ (f : Flight), Front 0x0F04 f s) ∧
  (∃ (s : State), ∃ (f : Flight), Front 0x0F03 f s ∧ ((∀ i < 32, i ≠ 6 → i ≠ 7 → (f.p 16 4).testBit i = false))) ∧
  (∃ (s : State), ∃ (f : Flight), Front 0x0F03 f s ∧ ((∃ i < 32, i ≠ 6 ∧ i ≠ 7 ∧ (f.p 16 4).testBit i = true))) ∧
  (∃ (s : State), ∃ (f : Flight), ∃ es, Front 0x0F01 f s ∧ 1 ≤ f.p 24 2 ∧ f.p 24 2 ≤ 256 ∧ f.bufLen = 32 * f.p 24 2 ∧ (es = (s.jnl.entries.reverse.filter fun e => decide (max (f.p 16 8) s.jnl.head ≤ e.seq)).take (f.p 24 2))) ∧
  (∃ (s : State), ∃ (f : Flight), Front 0x0F01 f s ∧ ((f.p 24 2 = 0 ∨ 256 < f.p 24 2 ∨ f.bufLen ≠ 32 * f.p 24 2))) ∧
  (∃ (s : State), ∃ (f : Flight), Front 0x0F10 f s ∧ (((f.p 16 1 = 1 ∨ f.p 16 1 = 2) ∧ f.p 17 1 = 0) ∨ (f.p 16 1 = 3 ∧ f.p 17 1 ∈ [0x05, 0x06, 0x07, 0x08, 0x09, 0x0A, 0x0B, 0x0D])) ∧ f.p 18 2 ≤ 10000) ∧
  (∃ (s : State), ∃ (f : Flight), Front 0x0F10 f s ∧ f.p 16 1 = 3 ∧ f.p 17 1 = 0x0D ∧ f.p 18 2 ≤ 10000) ∧
  (∃ (s : State), ∃ (f : Flight), Front 0x0F10 f s ∧ ((f.p 16 1 = 0 ∨ 3 < f.p 16 1 ∨ 10000 < f.p 18 2 ∨ ((f.p 16 1 = 1 ∨ f.p 16 1 = 2) ∧ f.p 17 1 ≠ 0) ∨ (f.p 16 1 = 3 ∧ f.p 17 1 ∉ [0x05, 0x06, 0x07, 0x08, 0x09, 0x0A, 0x0B, 0x0D])))) ∧
  (∃ (s : State), ∃ level cls ms, s.rst.hostReq = [(level, cls, ms)]) ∧
  (∃ (s : State), ∃ (f : Flight), ∃ src, ∃ level, Front 0x0F11 f s ∧ f.p 16 1 = src ∧ f.p 17 1 = level ∧ (((src = 4 ∧ level ≤ 1) ∨ ((src = 10 ∨ src = 12) ∧ (level = 1 ∨ level = 3)))) ∧ s.fuse.rstChg.getLsbD src = false) ∧
  (∃ (s : State), ∃ (f : Flight), ∃ src, ∃ level, Front 0x0F11 f s ∧ f.p 16 1 = src ∧ f.p 17 1 = level ∧ (((src = 4 ∧ level ≤ 1) ∨ ((src = 10 ∨ src = 12) ∧ (level = 1 ∨ level = 3)))) ∧ s.fuse.rstChg.getLsbD src = true) ∧
  (∃ (s : State), ∃ (f : Flight), Front 0x0F11 f s ∧ ¬((f.p 16 1 = 4 ∧ f.p 17 1 ≤ 1) ∨ ((f.p 16 1 = 10 ∨ f.p 16 1 = 12) ∧ (f.p 17 1 = 1 ∨ f.p 17 1 = 3)))) :=
  ⟨⟨wf (fl 0x0F00 []) (up), fl 0x0F00 [], ⟨rfl, rfl, by decide +kernel, rfl, by decide +kernel⟩⟩,
  ⟨wf (fl 0x0F02 []) (up), fl 0x0F02 [], ⟨rfl, rfl, by decide +kernel, rfl, by decide +kernel⟩⟩,
  ⟨wf (fl 0x0F04 []) (up), fl 0x0F04 [], ⟨rfl, rfl, by decide +kernel, rfl, by decide +kernel⟩⟩,
  ⟨wf (fl 0x0F03 (leBytes 4 0xC0)) (up), fl 0x0F03 (leBytes 4 0xC0), ⟨rfl, rfl, by decide +kernel, rfl, by decide +kernel⟩, by decide +kernel⟩,
  ⟨wf (fl 0x0F03 (leBytes 4 0x100)) (up), fl 0x0F03 (leBytes 4 0x100), ⟨rfl, rfl, by decide +kernel, rfl, by decide +kernel⟩, by decide +kernel⟩,
  ⟨wf (fl 0x0F01 (leBytes 8 1 ++ leBytes 2 256) 8192) (up), fl 0x0F01 (leBytes 8 1 ++ leBytes 2 256) 8192, (up.jnl.entries.reverse.filter fun e => decide (max 1 up.jnl.head ≤ e.seq)).take 256, ⟨rfl, rfl, by decide +kernel, rfl, by decide +kernel⟩, by decide +kernel⟩,
  ⟨wf (fl 0x0F01 (leBytes 8 1 ++ leBytes 2 257) 8224) (up), fl 0x0F01 (leBytes 8 1 ++ leBytes 2 257) 8224, ⟨rfl, rfl, by decide +kernel, rfl, by decide +kernel⟩, by decide +kernel⟩,
  ⟨wf (fl 0x0F10 ([1, 0] ++ leBytes 2 10000)) (up), fl 0x0F10 ([1, 0] ++ leBytes 2 10000), ⟨rfl, rfl, by decide +kernel, rfl, by decide +kernel⟩, by decide +kernel⟩,
  ⟨wf (fl 0x0F10 ([3, 0x0D] ++ leBytes 2 10000)) (up), fl 0x0F10 ([3, 0x0D] ++ leBytes 2 10000), ⟨rfl, rfl, by decide +kernel, rfl, by decide +kernel⟩, by decide +kernel⟩,
  ⟨wf (fl 0x0F10 ([4])) (up), fl 0x0F10 ([4]), ⟨rfl, rfl, by decide +kernel, rfl, by decide +kernel⟩, by decide +kernel⟩,
  ⟨{ up with rst := { up.rst with hostReq := [(3, 0x0C, 10000)] } }, 3, 0x0C, 10000, rfl⟩,
  ⟨wf (fl 0x0F11 ([4, 1])) (up), fl 0x0F11 ([4, 1]), 4, 1, ⟨rfl, rfl, by decide +kernel, rfl, by decide +kernel⟩, by decide +kernel⟩,
  ⟨wf (fl 0x0F11 ([12, 3])) ({ up with fuse := { up.fuse with rstChg := 0x1000 } }), fl 0x0F11 ([12, 3]), 12, 3, ⟨rfl, rfl, by decide +kernel, rfl, by decide +kernel⟩, by decide +kernel⟩,
  ⟨wf (fl 0x0F11 ([10, 2])) (up), fl 0x0F11 ([10, 2]), ⟨rfl, rfl, by decide +kernel, rfl, by decide +kernel⟩, by decide +kernel⟩⟩

/-- States and operands that meet the hypotheses of RegisterWrites, clause by clause. -/
theorem wit_RegisterWrites :
  (∃ (s : State), ∃ (b : Bar), ∃ (off : W16), ∃ (v : W32), ∃ r, LinkUp s ∧ regAt b off = some r) ∧
  (∃ (s : State), ∃ (b : Bar), ∃ (off : W16), ∃ (v : W32), s.isReady 16 = false) ∧
  (∃ (s : State), ∃ (b : Bar), ∃ (off : W16), ∃ (v : W32), LinkUp s) ∧
  (∃ (s : State), ∃ (b : Bar), ∃ (off : W16), ∃ (v : W32), LinkUp s ∧ regAt b off = none) :=
  ⟨⟨up, .bar0, 0x0048, 0, (regAt .bar0 0x0048).get (by decide +kernel), by delta LinkUp; decide +kernel, by simp⟩,
  ⟨State.reset, .bar0, 0x0048, 0, by decide +kernel⟩,
  ⟨up, .bar0, 0x0048, 0, by delta LinkUp; decide +kernel⟩,
  ⟨up, .bar2, 0x0C04, 0, by delta LinkUp; decide +kernel, by decide +kernel⟩⟩

/-- States and operands that meet the hypotheses of TickAndItsChecks, clause by clause. -/
theorem wit_TickAndItsChecks :
  (∃ (s : State), ∃ (i : TickIn), Ticking s ∧ s.gen.win = .done ∧ i.mismatch = false) ∧
  (∃ (s : State), ∃ (i : TickIn), Ticking s ∧ s.gen.win = .done ∧ i.mismatch = false ∧ s.rst.mismatchRun = 0) ∧
  (∃ (s : State), ∃ (i : TickIn), Ticking s ∧ s.gen.win = .done ∧ i.mismatch = false ∧ s.rst.mismatchRun ≠ 0) ∧
  (∃ (s : State), Ticking s ∧ s.gen.win = .safety) ∧
  (∃ (s : State), Ticking s ∧ s.gen.win = .metering) ∧
  (∃ (s : State), Ticking s ∧ s.gen.win = .host) ∧
  (∃ (s : State), Ticking s ∧ s.gen.win = .back) ∧
  (∃ (s : State), ∃ w, Ticking s ∧ Reached w s) ∧
  (∃ (s : State), ∃ m, Ticking s ∧ s.gen.win = .safety ∧ m = enterMetering s) ∧
  (∃ (s : State), ∃ i, ∃ c, Ticking s ∧ s.gen.tin = some i ∧ c = foregroundC (setWin .back s)) ∧
  (∃ (s : State), ∃ i, Ticking s ∧ s.gen.tin = some i) ∧
  (∃ (s : State), ∃ (i : TickIn), Ticking s ∧ s.gen.win = .done ∧ i.mismatch = true) ∧
  (∃ (s : State), ∃ (i : TickIn), Ticking s ∧ s.gen.win = .done ∧ i.mismatch = true ∧ s.rst.mismatchRun = 0) ∧
  (∃ (s : State), ∃ (i : TickIn), Ticking s ∧ s.gen.win = .done ∧ i.mismatch = true ∧ s.rst.mismatchRun ≠ 0) ∧
  (∃ (s : State), Ticking s ∧ Reached .back s ∧ s.now % 64000 = 0) ∧
  (∃ (s : State), ∃ (w : Overrun), Ticking s ∧ s.rst.held0 = false ∧ (match w with | .fgMeter => Reached .metering s | .fgHost => Reached .host s | .bg => Reached .back s | _ => True) ∧ ((∀ c, w = .fn c → levelOf .ovrFn s ≠ 0))) :=
  ⟨⟨win .done up, tin, by delta Ticking; decide +kernel, by decide +kernel⟩,
  ⟨win .done up, tin, by delta Ticking; decide +kernel, by decide +kernel⟩,
  ⟨win .done ({ (up) with rst := { (up).rst with mismatchRun := 1 } }), tin, by delta Ticking; decide +kernel, by decide +kernel⟩,
  ⟨win .safety up, by delta Ticking; decide +kernel, by decide +kernel⟩,
  ⟨win .metering up, by delta Ticking; decide +kernel, by decide +kernel⟩,
  ⟨win .host up, by delta Ticking; decide +kernel, by decide +kernel⟩,
  ⟨win .back up, by delta Ticking; decide +kernel, by decide +kernel⟩,
  ⟨win .host up, .host, by delta Ticking; decide +kernel, by delta Reached; decide +kernel⟩,
  ⟨win .safety up, enterMetering (win .safety up), by delta Ticking; decide +kernel, by decide +kernel, rfl⟩,
  ⟨{ (up) with gen := { (up).gen with tin := some tin } }, tin, foregroundC (setWin .back ({ (up) with gen := { (up).gen with tin := some tin } } : State)), by delta Ticking; decide +kernel, by decide +kernel, rfl⟩,
  ⟨{ (up) with gen := { (up).gen with tin := some tin } }, tin, by delta Ticking; decide +kernel, by decide +kernel⟩,
  ⟨win .done up, { tin with mismatch := true }, by delta Ticking; decide +kernel, by decide +kernel⟩,
  ⟨win .done up, { tin with mismatch := true }, by delta Ticking; decide +kernel, by decide +kernel⟩,
  ⟨win .done ({ (up) with rst := { (up).rst with mismatchRun := 1 } }), { tin with mismatch := true }, by delta Ticking; decide +kernel, by decide +kernel⟩,
  ⟨at_ 64000 (win .back up), by delta Ticking; decide +kernel, by delta Reached; decide +kernel, by decide +kernel⟩,
  ⟨up, .fn 5, by delta Ticking; decide +kernel, by decide +kernel, trivial, fun _ _ => by decide +kernel⟩⟩

/-- States and operands that meet the hypotheses of PowerUpAndRelease, clause by clause. -/
theorem wit_PowerUpAndRelease :
  (∃ (s : State), ∃ (a : Bool), ∃ (b : Bool), ∃ (i : TickIn), s.rst.held0 = true ∧ s.rst.waitGood = false ∧ (a && b) = true) ∧
  (∃ (s : State), ∃ (a : Bool), ∃ (b : Bool), ∃ (i : TickIn), s.rst.held0 = true ∧ s.rst.waitGood = false ∧ (a && b) = false) ∧
  (∃ (s : State), ∃ (b : Brown), ∃ (deep : Bool), ∃ (cell : Bool), s.rst.held0 = false) ∧
  (∃ (s : State), ∃ (b : Brown), ∃ (deep : Bool), ∃ (cell : Bool), s.rst.held0 = false ∧ s.rst.pfw = false) ∧
  (∃ (s : State), s.rst.held0 = true ∧ s.rst.waitGood = true) ∧
  (∃ (s : State), ∃ (i : StartIn), s.rst.held0 = false ∧ s.rst.msdUp = false) ∧
  (∃ (s : State), ∃ (i : StartIn), s.rst.held0 = false ∧ s.rst.msdUp = true) ∧
  (∃ (s : State), ∃ (b : Fin 19), s.isReady b.val = false ∧ mayReady b s = true) :=
  ⟨⟨{ (State.reset) with rst := { (State.reset).rst with waitGood := false } }, true, true, tin, by decide +kernel⟩,
  ⟨{ (State.reset) with rst := { (State.reset).rst with waitGood := false } }, true, false, tin, by decide +kernel⟩,
  ⟨up, .sys, true, true, by decide +kernel⟩,
  ⟨up, .sys, true, true, by decide +kernel⟩,
  ⟨State.reset, by decide +kernel⟩,
  ⟨{ (up) with rst := { (up).rst with msdUp := false } }, { cells := 0 }, by decide +kernel⟩,
  ⟨up, { cells := 0 }, by decide +kernel⟩,
  ⟨{ (up) with gen := { (up).gen with ready := 0x0FFFF } }, 16, by decide +kernel⟩⟩

/-- States and operands that meet the hypotheses of ResetsInOperation, clause by clause. -/
theorem wit_ResetsInOperation :
  (∃ (s : State), ∃ (c : Instr), ∃ (src : Source), s.rst.held0 = false ∧ Ticking s ∧ (((c, src) ∈ [(Instr.pllLockLoss true, Source.clock), (.pllLockLoss false, .clock), (.wdtMsdExpiry, .wdtMsd), (.criticalStateMismatch .config, .critical), (.criticalStateMismatch .coilLatch, .critical), (.criticalStateMismatch .keyAttr, .critical)] ∨ (c = .rstPin ∧ src = .pin ∧ levelOf .pin s = 0)))) ∧
  (∃ (s : State), s.rst.held0 = false ∧ s.rst.apdUp = true ∧ levelOf .wdtApd s = 1 ∧ s.rst.holds = []) :=
  ⟨⟨up, .pllLockLoss true, .clock, by decide +kernel, by delta Ticking; decide +kernel, .inl (.head _)⟩,
  ⟨up, by decide +kernel⟩⟩

/-- States and operands that meet the hypotheses of SupplyMonitors, clause by clause. -/
theorem wit_SupplyMonitors :
  (∃ (s : State), ∃ (i : PfIn), Ticking s ∧ Reached .metering s ∧ s.rst.pfw = false ∧ ((i.vsysLow = true ∨ (s.rst.pfailEn = true ∧ i.pfailLevel = s.rst.pfailPol)))) ∧
  (∃ (s : State), Ticking s ∧ Reached .metering s ∧ s.rst.pfw = true) ∧
  (∃ (s : State), ∃ (mv : Nat), ∃ (t0 : Nat), s.isReady 15 = true ∧ s.hif.linkOk = true ∧ s.rst.vbatTick = some t0 ∧ t0 + 3840000 ≤ s.now) ∧
  (∃ (s : State), ∃ p, ∃ n, s.isReady 15 = true ∧ s.hif.linkOk = true ∧ s.rst.vbatTick.isSome = true ∧ ((s.rst.vp12 ≠ p ∨ s.rst.vn12 ≠ n))) :=
  ⟨⟨up, { vsysLow := true, pfailLevel := false }, by delta Ticking; decide +kernel, by delta Reached; decide +kernel, by decide +kernel⟩,
  ⟨{ (up) with rst := { (up).rst with pfw := true } }, by delta Ticking; decide +kernel, by delta Reached; decide +kernel, by decide +kernel⟩,
  ⟨at_ 3840000 ({ (up) with rst := { (up).rst with vbatTick := some 0 } }), 3000, 0, by decide +kernel⟩,
  ⟨{ (up) with rst := { (up).rst with vbatTick := some 0 } }, true, false, by decide +kernel⟩⟩

/-- States and operands that meet the hypotheses of MeteringConfiguration, clause by clause. -/
theorem wit_MeteringConfiguration :
  (∃ (s : State), ∃ (k : Fin 72), ∃ (n : Outlet8), ∃ (v : W32), LinkUp s ∧ s.adc.sealed = true) ∧
  (∃ (s : State), ∃ (v : W32), LinkUp s) ∧
  (∃ (s : State), ∃ (v : W32), ∃ (k : Fin 72), LinkUp s ∧ s.adc.sealed = false ∧ ownerAtRest k s = true ∧ typeAllowed s k (v.toNat % 8) = true) ∧
  (∃ (s : State), ∃ (v : W32), LinkUp s ∧ s.adc.sealed = false ∧ allAtRest s = true) ∧
  (∃ (s : State), ∃ (v : W32), ∃ (n : Outlet8), ∃ (m : PhMap), LinkUp s ∧ s.adc.sealed = false ∧ (s.ses.out[n.val]).atRest = true ∧ parsePerm v.toNat 0 = some m.vsel ∧ parsePerm v.toNat 8 = some m.site ∧ ((∀ p : Fin 3, delaysOk { s with nrg := { s.nrg with phmap := s.nrg.phmap.set n.val m } } ⟨8 * n.val + p.val, by omega⟩ (storedCorr s ⟨8 * n.val + p.val, by omega⟩) = true))) ∧
  (∃ (s : State), ∃ (v : W32), ∃ (n : Outlet8), LinkUp s ∧ s.adc.sealed = false ∧ (s.ses.out[n.val]).atRest = true ∧ ((s.nrg.pulse[n.val]).pending = 0 ∨ (v.toNat % 2 ^ 17 = (s.nrg.pulse[n.val]).const ∧ bitsOf v.toNat 17 2 = (s.nrg.pulse[n.val]).src)) ∧ 100 ≤ v.toNat % 2 ^ 17 ∧ 1000000 % (v.toNat % 2 ^ 17) = 0 ∧ v.toNat % 2 ^ 17 ≤ 100000 ∧ bitsOf v.toNat 17 2 ≠ 3 ∧ 1 ≤ bitsOf v.toNat 20 8 ∧ bitsOf v.toNat 20 8 ≤ 160) ∧
  (∃ (s : State), ∃ (k : Fin 72), ∃ (n : Outlet8), ∃ (v : W32), ∃ (r : State), LinkUp s ∧ r = { s with adc := { s.adc with cfgReject := true } } ∧ (ownerAtRest k s = false ∨ typeAllowed s k (v.toNat % 8) = false)) ∧
  (∃ (s : State), ∃ (k : Fin 72), ∃ (n : Outlet8), ∃ (v : W32), ∃ (r : State), LinkUp s ∧ r = { s with adc := { s.adc with cfgReject := true } } ∧ allAtRest s = false) ∧
  (∃ (s : State), ∃ (k : Fin 72), ∃ (n : Outlet8), ∃ (v : W32), ∃ (r : State), LinkUp s ∧ r = { s with adc := { s.adc with cfgReject := true } } ∧ ((s.ses.out[n.val]).atRest = false ∨ parsePerm v.toNat 0 = none ∨ parsePerm v.toNat 8 = none)) ∧
  (∃ (s : State), ∃ (k : Fin 72), ∃ (n : Outlet8), ∃ (v : W32), ∃ (r : State), ∃ (m : PhMap), ∃ (p : Fin 3), LinkUp s ∧ r = { s with adc := { s.adc with cfgReject := true } } ∧ parsePerm v.toNat 0 = some m.vsel ∧ parsePerm v.toNat 8 = some m.site ∧ delaysOk { s with nrg := { s.nrg with phmap := s.nrg.phmap.set n.val m } } ⟨8 * n.val + p.val, by omega⟩ (storedCorr s ⟨8 * n.val + p.val, by omega⟩) = false) ∧
  (∃ (s : State), ∃ (k : Fin 72), ∃ (n : Outlet8), ∃ (v : W32), ∃ (r : State), LinkUp s ∧ r = { s with adc := { s.adc with cfgReject := true } } ∧ ((s.ses.out[n.val]).atRest = false ∨ v.toNat % 2 ^ 17 < 100 ∨ 100000 < v.toNat % 2 ^ 17 ∨ 1000000 % (v.toNat % 2 ^ 17) ≠ 0 ∨ bitsOf v.toNat 17 2 = 3 ∨ bitsOf v.toNat 20 8 = 0 ∨ 160 < bitsOf v.toNat 20 8 ∨ (0 < (s.nrg.pulse[n.val]).pending ∧ (v.toNat % 2 ^ 17 ≠ (s.nrg.pulse[n.val]).const ∨ bitsOf v.toNat 17 2 ≠ (s.nrg.pulse[n.val]).src)))) :=
  ⟨⟨{ (up) with adc := { (up).adc with sealed := true } }, 71, 7, 0, by delta LinkUp; decide +kernel, by decide +kernel⟩,
  ⟨up, 0, by delta LinkUp; decide +kernel⟩,
  ⟨{ (up) with adc := { (up).adc with sealed := false } }, 2, 63, by delta LinkUp; decide +kernel, by decide +kernel⟩,
  ⟨up, 0, by delta LinkUp; decide +kernel, by decide +kernel⟩,
  ⟨up, 0x2424, 7, {}, by delta LinkUp; decide +kernel, by decide +kernel⟩,
  ⟨up, 0x100064, 7, by delta LinkUp; decide +kernel, by decide +kernel⟩,
  ⟨up, 71, 7, 7, { (up) with adc := { (up).adc with cfgReject := true } }, by delta LinkUp; decide +kernel, rfl, by decide +kernel⟩,
  ⟨so { o0 with state := .charging }, 71, 7, 0, { (so { o0 with state := .charging }) with adc := { (so { o0 with state := .charging }).adc with cfgReject := true } }, by delta LinkUp; decide +kernel, rfl, by decide +kernel⟩,
  ⟨up, 71, 7, 0, { (up) with adc := { (up).adc with cfgReject := true } }, by delta LinkUp; decide +kernel, rfl, by decide +kernel⟩,
  ⟨{ (up) with nrg := { (up).nrg with corr := Vector.replicate 70 { bps := [(0, 0, -1990000)] } } }, 71, 7, 0x2424, { ({ (up) with nrg := { (up).nrg with corr := Vector.replicate 70 { bps := [(0, 0, -1990000)] } } }) with adc := { ({ (up) with nrg := { (up).nrg with corr := Vector.replicate 70 { bps := [(0, 0, -1990000)] } } }).adc with cfgReject := true } }, {}, 2, by delta LinkUp; decide +kernel, rfl, by decide +kernel⟩,
  ⟨up, 71, 7, 0, { (up) with adc := { (up).adc with cfgReject := true } }, by delta LinkUp; decide +kernel, rfl, by decide +kernel⟩⟩

/-- States and operands that meet the hypotheses of SensingAndBenchmark, clause by clause. -/
theorem wit_SensingAndBenchmark :
  (∃ (s : State), ∃ (g : Group), ∃ (t0 : Nat), s.adc.settleEnd[g.val] = some t0 ∧ t0 ≤ s.now) ∧
  (∃ (s : State), ∃ (k : Fin 72), ∃ (neg : Bool), Ticking s ∧ effType s k ≠ 0) ∧
  (∃ (s : State), ∃ gain, ∃ f60, ∃ type, ∃ inv, ∃ (k : Fin 72), ∃ (d : SlotDec), ∃ mods, ∃ (r : SlotDec × Bool × Int), ∃ neg, type ≠ 0 ∧ r = slotTick gain f60 type inv k d mods ∧ d.holdNext = some neg) ∧
  (∃ (s : State), ∃ gain, ∃ f60, ∃ type, ∃ inv, ∃ (k : Fin 72), ∃ (d : SlotDec), ∃ mods, ∃ (r : SlotDec × Bool × Int), type ≠ 0 ∧ r = slotTick gain f60 type inv k d mods ∧ d.holdNext = none) ∧
  (∃ (s : State), ∃ gain, ∃ f60, ∃ type, ∃ inv, ∃ (k : Fin 72), ∃ (d : SlotDec), ∃ mods, ∃ (r : SlotDec × Bool × Int), type ≠ 0 ∧ r = slotTick gain f60 type inv k d mods ∧ 0 < d.holdTicks) ∧
  (∃ (s : State), ∃ (n : Outlet8), ∃ (p : Pulse), p = s.nrg.pulse[n.val] ∧ p.active = true ∧ (s.nrg.pulse[n.val]).leadTick + 16 * (s.nrg.pulse[n.val]).width ≤ s.now) ∧
  (∃ (s : State), ∃ sums, Reached .back s ∧ s.adc.second = some sums ∧ s.now % 64000 ≠ 0 ∧ 0x30 ≤ s.now % 64 ∧ s.now % 64 ≤ 0x37) ∧
  (∃ (s : State), Ticking s ∧ s.adc.gainSaveTick + 3840000 ≤ s.now) ∧
  (∃ (s : State), ∃ (sum : Int), s.adc.tmpFirst = some (sum, 64)) :=
  ⟨⟨{ (up) with adc := { (up).adc with settleEnd := Vector.replicate 9 (some 0) } }, 8, 0, by decide +kernel⟩,
  ⟨up, 71, true, by delta Ticking; decide +kernel, by decide +kernel⟩,
  ⟨up, 1, false, 3, false, 71, { holdNext := some true }, 0, slotTick (1) (false) (3) (false) (71 : Fin 72) ({ holdNext := some true } : SlotDec) (0), true, by decide +kernel, rfl, by decide +kernel⟩,
  ⟨up, 1, false, 3, false, 71, {}, 0, slotTick (1) (false) (3) (false) (71 : Fin 72) ({} : SlotDec) (0), by decide +kernel, rfl, by decide +kernel⟩,
  ⟨up, 1, false, 3, false, 71, { holdTicks := 1 }, 0, slotTick (1) (false) (3) (false) (71 : Fin 72) ({ holdTicks := 1 } : SlotDec) (0), by decide +kernel, rfl, by decide +kernel⟩,
  ⟨at_ 16 ({ (up) with nrg := { (up).nrg with pulse := Vector.replicate 8 { active := true, width := 1 } } }), 7, (at_ 16 ({ (up) with nrg := { (up).nrg with pulse := Vector.replicate 8 { active := true, width := 1 } } })).nrg.pulse[(7 : Outlet8).val], rfl, by decide +kernel⟩,
  ⟨at_ 0x30 (win .back ({ (up) with adc := { (up).adc with second := some (0, 0) } })), (0, 0), by delta Reached; decide +kernel, by decide +kernel⟩,
  ⟨at_ 3840000 up, by delta Ticking; decide +kernel, by decide +kernel⟩,
  ⟨{ (up) with adc := { (up).adc with tmpFirst := some (5, 64) } }, 5, by decide +kernel⟩⟩

/-- States and operands that meet the hypotheses of RawCaptureAndUnseal, clause by clause. -/
theorem wit_RawCaptureAndUnseal :
  (∃ (s : State), ∃ (f : Flight), ∃ slots, ∃ (c : Capture), Front 0x0110 f s ∧ slots = maskSlots (f.p 24 9) ∧ slots ≠ [] ∧ 1 ≤ f.p 34 2 ∧ f.p 34 2 ≤ 4096 ∧ f.p 33 1 ≤ 2 ∧ f.p 16 6 ≤ s.now + 64000 ∧ f.bufLen = 4 * f.p 34 2 * slots.length ∧ (c = ({ seq := f.seq, first := max (f.p 16 6) (s.now + 1), slots := slots, tap := f.p 33 1, count := f.p 34 2, early := decide (f.p 16 6 ≠ 0 ∧ f.p 16 6 < s.now + 1) } : Capture)) ∧ s.adc.capture = none) ∧
  (∃ (s : State), ∃ (f : Flight), ∃ slots, ∃ (c : Capture), Front 0x0110 f s ∧ slots = maskSlots (f.p 24 9) ∧ slots ≠ [] ∧ 1 ≤ f.p 34 2 ∧ f.p 34 2 ≤ 4096 ∧ f.p 33 1 ≤ 2 ∧ f.p 16 6 ≤ s.now + 64000 ∧ f.bufLen = 4 * f.p 34 2 * slots.length ∧ (c = ({ seq := f.seq, first := max (f.p 16 6) (s.now + 1), slots := slots, tap := f.p 33 1, count := f.p 34 2, early := decide (f.p 16 6 ≠ 0 ∧ f.p 16 6 < s.now + 1) } : Capture)) ∧ s.adc.capture ≠ none) ∧
  (∃ (s : State), ∃ (f : Flight), Front 0x0111 f s ∧ s.adc.capture = none) ∧
  (∃ (s : State), ∃ (f : Flight), ∃ (c : Capture), Front 0x0111 f s ∧ s.adc.capture = some c) ∧
  (∃ (s : State), ∃ (f : Flight), ∃ (c : Capture), Reached .host s ∧ s.adc.capture = some c ∧ c.aborted = false ∧ c.count ≤ c.done ∧ c.first + c.count ≤ s.now ∧ flight? c.seq s = some f) ∧
  (∃ (s : State), ∃ (f : Flight), Front 0x0112 f s ∧ ((f.p 16 1 ≠ 2 ∧ f.p 16 1 ≠ 3) ∨ f.bufLen ≠ 80)) ∧
  (∃ (s : State), ∃ (f : Flight), Front 0x0112 f s ∧ ((f.p 16 1 = 2 ∨ f.p 16 1 = 3)) ∧ f.bufLen = 80 ∧ ((s.adc.sealed = false ∨ s.adc.sealCount = 0xFFFF))) ∧
  (∃ (s : State), ∃ (f : Flight), Front 0x0112 f s ∧ ((f.p 16 1 = 2 ∨ f.p 16 1 = 3)) ∧ f.bufLen = 80 ∧ s.adc.sealed = true ∧ s.adc.sealCount ≠ 0xFFFF ∧ f.inBuf.take 16 ≠ [0x55, 0x4E, 0x53, 0x4C] ++ beBytes 8 s.fuse.serial.toNat ++ beBytes 4 s.adc.sealCount.toNat) ∧
  (∃ (s : State), ∃ (f : Flight), Front 0x0112 f s ∧ ((f.p 16 1 = 2 ∨ f.p 16 1 = 3)) ∧ f.bufLen = 80 ∧ s.adc.sealed = true ∧ s.adc.sealCount ≠ 0xFFFF ∧ f.inBuf.take 16 = [0x55, 0x4E, 0x53, 0x4C] ++ beBytes 8 s.fuse.serial.toNat ++ beBytes 4 s.adc.sealCount.toNat ∧ slotCheck (Fin.ofNat 32 (f.p 16 1)) 1 s = none ∧ s.key.queue.length < 32) ∧
  (∃ (s : State), ∃ (f : Flight), Front 0x0110 f s ∧ (maskSlots (f.p 24 9) = [] ∨ f.p 34 2 = 0 ∨ 4096 < f.p 34 2 ∨ 2 < f.p 33 1 ∨ s.now + 64000 < f.p 16 6 ∨ f.bufLen ≠ 4 * f.p 34 2 * (maskSlots (f.p 24 9)).length)) ∧
  (∃ (s : State), ∃ (f : Flight), ∃ st, Front 0x0112 f s ∧ (f.p 16 1 = 2 ∨ f.p 16 1 = 3) ∧ f.bufLen = 80 ∧ s.adc.sealed = true ∧ s.adc.sealCount ≠ 0xFFFF ∧ f.inBuf.take 16 = [0x55, 0x4E, 0x53, 0x4C] ++ beBytes 8 s.fuse.serial.toNat ++ beBytes 4 s.adc.sealCount.toNat ∧ slotCheck (Fin.ofNat 32 (f.p 16 1)) 1 s = some st) ∧
  (∃ (s : State), ∃ (f : Flight), Front 0x0112 f s ∧ (f.p 16 1 = 2 ∨ f.p 16 1 = 3) ∧ f.bufLen = 80 ∧ s.adc.sealed = true ∧ s.adc.sealCount ≠ 0xFFFF ∧ f.inBuf.take 16 = [0x55, 0x4E, 0x53, 0x4C] ++ beBytes 8 s.fuse.serial.toNat ++ beBytes 4 s.adc.sealCount.toNat ∧ slotCheck (Fin.ofNat 32 (f.p 16 1)) 1 s = none ∧ 32 ≤ longCount s) :=
  ⟨⟨wf (fl 0x0110 (leBytes 8 0 ++ leBytes 8 1 ++ [0, 0] ++ leBytes 2 4096) 16384) (up), fl 0x0110 (leBytes 8 0 ++ leBytes 8 1 ++ [0, 0] ++ leBytes 2 4096) 16384, maskSlots ((fl 0x0110 (leBytes 8 0 ++ leBytes 8 1 ++ [0, 0] ++ leBytes 2 4096) 16384).p 24 9), { seq := 1, first := 1, slots := [0], tap := 0, count := 4096, early := false }, ⟨rfl, rfl, by decide +kernel, rfl, by decide +kernel⟩, rfl, by decide +kernel⟩,
  ⟨wf (fl 0x0110 (leBytes 8 0 ++ leBytes 8 1 ++ [0, 0] ++ leBytes 2 4096) 16384) ({ (up) with adc := { (up).adc with capture := some { seq := 9, first := 1, slots := [0], tap := 0, count := 1 } } }), fl 0x0110 (leBytes 8 0 ++ leBytes 8 1 ++ [0, 0] ++ leBytes 2 4096) 16384, maskSlots ((fl 0x0110 (leBytes 8 0 ++ leBytes 8 1 ++ [0, 0] ++ leBytes 2 4096) 16384).p 24 9), { seq := 1, first := 1, slots := [0], tap := 0, count := 4096, early := false }, ⟨rfl, rfl, by decide +kernel, rfl, by decide +kernel⟩, rfl, by decide +kernel⟩,
  ⟨wf (fl 0x0111 []) (up), fl 0x0111 [], ⟨rfl, rfl, by decide +kernel, rfl, by decide +kernel⟩, by decide +kernel⟩,
  ⟨wf (fl 0x0111 []) ({ (up) with adc := { (up).adc with capture := some { seq := 9, first := 1, slots := [0], tap := 0, count := 1 } } }), fl 0x0111 [], { seq := 9, first := 1, slots := [0], tap := 0, count := 1 }, ⟨rfl, rfl, by decide +kernel, rfl, by decide +kernel⟩, by decide +kernel⟩,
  ⟨wf (fl 0x0110 []) (at_ 2 ({ (up) with adc := { (up).adc with capture := some { seq := 1, first := 1, slots := [0], tap := 0, count := 1, done := 1 } } })), fl 0x0110 [], { seq := 1, first := 1, slots := [0], tap := 0, count := 1, done := 1 }, by delta Reached; decide +kernel, by decide +kernel⟩,
  ⟨wf (fl 0x0112 ([4]) 80) (up), fl 0x0112 ([4]) 80, ⟨rfl, rfl, by decide +kernel, rfl, by decide +kernel⟩, by decide +kernel⟩,
  ⟨wf (fl 0x0112 ([2]) 80) (up), fl 0x0112 ([2]) 80, ⟨rfl, rfl, by decide +kernel, rfl, by decide +kernel⟩, by decide +kernel⟩,
  ⟨wf (fl 0x0112 ([3]) 80) ({ (up) with adc := { (up).adc with sealed := true } }), fl 0x0112 ([3]) 80, ⟨rfl, rfl, by decide +kernel, rfl, by decide +kernel⟩, by decide +kernel⟩,
  ⟨wf (fl 0x0112 ([3]) 80 ([0x55, 0x4E, 0x53, 0x4C] ++ beBytes 8 1 ++ beBytes 4 0)) (keyed 3 { type := .pub, usage := 2 } ({ (up) with adc := { (up).adc with sealed := true } })), fl 0x0112 ([3]) 80 ([0x55, 0x4E, 0x53, 0x4C] ++ beBytes 8 1 ++ beBytes 4 0), ⟨rfl, rfl, by decide +kernel, rfl, by decide +kernel⟩, by decide +kernel⟩,
  ⟨wf (fl 0x0110 []) (up), fl 0x0110 [], ⟨rfl, rfl, by decide +kernel, rfl, by decide +kernel⟩, by decide +kernel⟩,
  ⟨wf (fl 0x0112 ([3]) 80 ([0x55, 0x4E, 0x53, 0x4C] ++ beBytes 8 1 ++ beBytes 4 0)) ({ (up) with adc := { (up).adc with sealed := true } }), fl 0x0112 ([3]) 80 ([0x55, 0x4E, 0x53, 0x4C] ++ beBytes 8 1 ++ beBytes 4 0), (slotCheck 3 1 (up)).get (by decide +kernel), ⟨rfl, rfl, by decide +kernel, rfl, by decide +kernel⟩, by decide +kernel⟩,
  ⟨wf (fl 0x0112 ([3]) 80 ([0x55, 0x4E, 0x53, 0x4C] ++ beBytes 8 1 ++ beBytes 4 0)) (keyed 3 { type := .pub, usage := 2 } { (up) with adc := { (up).adc with sealed := true }, key := { (up).key with queue := List.replicate 32 { kind := .sign, steps := 1, req := .flight 9, tick := 0, slots := [] } } }), fl 0x0112 ([3]) 80 ([0x55, 0x4E, 0x53, 0x4C] ++ beBytes 8 1 ++ beBytes 4 0), ⟨rfl, rfl, by decide +kernel, rfl, by decide +kernel⟩, by decide +kernel⟩⟩

/-- States and operands that meet the hypotheses of CorrectionsAndReads, clause by clause. -/
theorem wit_CorrectionsAndReads :
  (∃ (s : State), ∃ (f : Flight), ∃ recs, Front 0x0120 f s ∧ f.bufLen % 112 = 0 ∧ 1 ≤ f.bufLen / 112 ∧ f.bufLen / 112 ≤ 70 ∧ (recs = (List.range (f.bufLen / 112)).map (fun i => slice f.inBuf (112 * i) 112)) ∧ corrCheck s recs = none) ∧
  (∃ (s : State), ∃ (f : Flight), ∃ recs, ∃ i, ∃ st, Front 0x0120 f s ∧ f.bufLen % 112 = 0 ∧ 1 ≤ f.bufLen / 112 ∧ f.bufLen / 112 ≤ 70 ∧ (recs = (List.range (f.bufLen / 112)).map (fun i => slice f.inBuf (112 * i) 112)) ∧ corrCheck s recs = some (i, st)) ∧
  (∃ (s : State), ∃ (f : Flight), ∃ recs, Front 0x0120 f s ∧ f.bufLen % 112 = 0 ∧ 1 ≤ f.bufLen / 112 ∧ f.bufLen / 112 ≤ 70 ∧ (recs = (List.range (f.bufLen / 112)).map (fun i => slice f.inBuf (112 * i) 112)) ∧ s.adc.sealed = true ∧ recs ≠ []) ∧
  (∃ (s : State), ∃ (f : Flight), ∃ (h : f.p 16 1 < 70), Front 0x0121 f s ∧ f.bufLen = 112) ∧
  (∃ (s : State), ∃ (f : Flight), Front 0x0121 f s ∧ ((70 ≤ f.p 16 1 ∨ f.bufLen ≠ 112))) ∧
  (∃ (s : State), ∃ (f : Flight), ∃ (q : Quant), Front 0x0122 f s ∧ (s.nrg.cyc[(targetGroup f).val]).quant = some q) ∧
  (∃ (s : State), ∃ (f : Flight), Front 0x0122 f s ∧ (s.nrg.cyc[(targetGroup f).val]).quant = none) ∧
  (∃ (s : State), ∃ (f : Flight), Front 0x0123 f s ∧ f.target = 0xFF) ∧
  (∃ (s : State), ∃ (f : Flight), ∃ (n : Outlet8), Front 0x0123 f s ∧ f.target.toNat = n.val) ∧
  (∃ (s : State), ∃ (f : Flight), Front 0x0124 f s ∧ 1 ≤ f.p 20 1 ∧ f.p 20 1 ≤ 64 ∧ f.bufLen = 32 * f.p 20 1) ∧
  (∃ (s : State), ∃ (f : Flight), Front 0x0124 f s ∧ ((f.p 20 1 = 0 ∨ 64 < f.p 20 1 ∨ f.bufLen ≠ 32 * f.p 20 1))) ∧
  (∃ (s : State), ∃ (f : Flight), Front 0x0120 f s ∧ (f.bufLen % 112 ≠ 0 ∨ f.bufLen / 112 = 0 ∨ 70 < f.bufLen / 112)) :=
  ⟨⟨wf (fl 0x0120 [] 112 ([0, 1] ++ List.replicate 110 0)) (up), fl 0x0120 [] 112 ([0, 1] ++ List.replicate 110 0), (List.range ((fl 0x0120 [] 112 ([0, 1] ++ List.replicate 110 0)).bufLen / 112)).map (fun i => slice (fl 0x0120 [] 112 ([0, 1] ++ List.replicate 110 0)).inBuf (112 * i) 112), ⟨rfl, rfl, by decide +kernel, rfl, by decide +kernel⟩, by decide +kernel, by decide +kernel, by decide +kernel, rfl, by decide +kernel⟩,
  ⟨wf (fl 0x0120 [] 112) (up), fl 0x0120 [] 112, [List.replicate 112 0], 0, .invalid, ⟨rfl, rfl, by decide +kernel, rfl, by decide +kernel⟩, by decide +kernel⟩,
  ⟨wf (fl 0x0120 [] 112 ([0, 1] ++ List.replicate 110 0)) ({ (up) with adc := { (up).adc with sealed := true } }), fl 0x0120 [] 112 ([0, 1] ++ List.replicate 110 0), (List.range ((fl 0x0120 [] 112 ([0, 1] ++ List.replicate 110 0)).bufLen / 112)).map (fun i => slice (fl 0x0120 [] 112 ([0, 1] ++ List.replicate 110 0)).inBuf (112 * i) 112), ⟨rfl, rfl, by decide +kernel, rfl, by decide +kernel⟩, by decide +kernel, by decide +kernel, by decide +kernel, rfl, by decide +kernel⟩,
  ⟨wf (fl 0x0121 ([69]) 112) (up), fl 0x0121 ([69]) 112, by decide +kernel, ⟨rfl, rfl, by decide +kernel, rfl, by decide +kernel⟩, by decide +kernel⟩,
  ⟨wf (fl 0x0121 ([70]) 112) (up), fl 0x0121 ([70]) 112, ⟨rfl, rfl, by decide +kernel, rfl, by decide +kernel⟩, by decide +kernel⟩,
  ⟨wf (fl 0x0122 []) ({ (up) with nrg := { (up).nrg with cyc := Vector.replicate 9 { quant := some {} } } }), fl 0x0122 [], {}, ⟨rfl, rfl, by decide +kernel, rfl, by decide +kernel⟩, by decide +kernel⟩,
  ⟨wf (fl 0x0122 []) (up), fl 0x0122 [], ⟨rfl, rfl, by decide +kernel, rfl, by decide +kernel⟩, by decide +kernel⟩,
  ⟨wf (fl 0x0123 [] 0 [] 0xFF) (up), fl 0x0123 [] 0 [] 0xFF, ⟨rfl, rfl, by decide +kernel, rfl, by decide +kernel⟩, by decide +kernel⟩,
  ⟨wf (fl 0x0123 [] 0 [] 7) (up), fl 0x0123 [] 0 [] 7, 7, ⟨rfl, rfl, by decide +kernel, rfl, by decide +kernel⟩, by decide +kernel⟩,
  ⟨wf (fl 0x0124 ([0, 0, 0, 0, 64]) 2048) (up), fl 0x0124 ([0, 0, 0, 0, 64]) 2048, ⟨rfl, rfl, by decide +kernel, rfl, by decide +kernel⟩, by decide +kernel⟩,
  ⟨wf (fl 0x0124 ([0, 0, 0, 0, 65]) 2080) (up), fl 0x0124 ([0, 0, 0, 0, 65]) 2080, ⟨rfl, rfl, by decide +kernel, rfl, by decide +kernel⟩, by decide +kernel⟩,
  ⟨wf (fl 0x0120 [] 7952) (up), fl 0x0120 [] 7952, ⟨rfl, rfl, by decide +kernel, rfl, by decide +kernel⟩, by decide +kernel⟩⟩

/-- States and operands that meet the hypotheses of CyclesAndWatch, clause by clause. -/
theorem wit_CyclesAndWatch :
  (∃ (s : State), ∃ (g : Group), Reached .metering s ∧ (s.nrg.cyc[g.val]).due.isSome = true) ∧
  (∃ (s : State), ∃ (h : Nat), ∃ (outs : Byte), ∃ (phs : List (BitVec 3)), s.watch.armed = some (h, outs, phs) ∧ s.watch.starting = true) ∧
  (∃ (s : State), ∃ (h : Nat), ∃ (outs : Byte), ∃ (phs : List (BitVec 3)), ∃ (mods : List (BitVec 51200)), s.watch.armed = some (h, outs, phs) ∧ s.watch.running = true) ∧
  (∃ (s : State), ∃ (h : Nat), ∃ (outs : Byte), ∃ (phs : List (BitVec 3)), s.watch.armed = some (h, outs, phs) ∧ s.watch.running = true ∧ h * 18000 ≤ s.watch.windows) ∧
  (∃ (s : State), ∃ (h : Nat), ∃ (outs : Byte), ∃ (phs : List (BitVec 3)), s.watch.armed = some (h, outs, phs) ∧ s.watch.running = true) :=
  ⟨⟨{ (up) with nrg := { (up).nrg with cyc := Vector.replicate 9 { due := some { sums := {}, endTick := 0, period := none, fixed := true, cross := Vector.replicate 3 none } } } }, 8, by delta Reached; decide +kernel, by decide +kernel⟩,
  ⟨{ (up) with watch := { (up).watch with armed := some (1, 0xFF, []), starting := true } }, 1, 0xFF, [], by decide +kernel⟩,
  ⟨{ (up) with watch := { (up).watch with armed := some (1, 0xFF, []), running := true } }, 1, 0xFF, [], [], by decide +kernel⟩,
  ⟨{ (up) with watch := { (up).watch with armed := some (1, 0xFF, []), running := true, windows := 18000 } }, 1, 0xFF, [], by decide +kernel⟩,
  ⟨{ (up) with watch := { (up).watch with armed := some (1, 0xFF, []), running := true } }, 1, 0xFF, [], by decide +kernel⟩⟩

/-- States and operands that meet the hypotheses of SecondsOfTheClock, clause by clause. -/
theorem wit_SecondsOfTheClock :
  (∃ (s : State), s.rst.msdUp = true ∧ s.clk.upDue = false) ∧
  (∃ (s : State), Ticking s ∧ Reached .metering s ∧ s.clk.slew = some 0) :=
  ⟨⟨{ (up) with clk := { (up).clk with upDue := false } }, by decide +kernel⟩,
  ⟨{ (up) with clk := { (up).clk with slew := some 0 } }, by delta Ticking; decide +kernel, by delta Reached; decide +kernel, by decide +kernel⟩⟩

/-- States and operands that meet the hypotheses of IntervalsAndDemand, clause by clause. -/
theorem wit_IntervalsAndDemand :
  (∃ (s : State), Reached .metering s ∧ s.clk.ivlDue = true) ∧
  (∃ (s : State), Reached .metering s ∧ s.clk.minuteDue = true ∧ s.clk.retro = false ∧ s.clk.passive = none) ∧
  (∃ (s : State), ∃ (p : StepPend), Reached .metering s ∧ s.clk.stepPend = some p ∧ p.tick < s.now) ∧
  (∃ (s : State), Ticking s ∧ Reached .metering s ∧ s.clk.retro = true ∧ s.clk.lastClosed ≤ s.clk.sec ∧ ((s.clk.restarted = false ∨ s.clk.lastClosed ≠ 0))) ∧
  (∃ (s : State), Ticking s ∧ Reached .metering s ∧ s.clk.retro = true ∧ s.clk.lastClosed ≤ s.clk.sec ∧ s.clk.restarted = true ∧ s.clk.lastClosed = 0) :=
  ⟨⟨{ (up) with clk := { (up).clk with ivlDue := true } }, by delta Reached; decide +kernel, by decide +kernel⟩,
  ⟨{ (up) with clk := { (up).clk with minuteDue := true } }, by delta Reached; decide +kernel, by decide +kernel⟩,
  ⟨at_ 1 ({ (up) with clk := { (up).clk with stepPend := some { delta := 0, tick := 0 } } }), { delta := 0, tick := 0 }, by delta Reached; decide +kernel, by decide +kernel⟩,
  ⟨{ (up) with clk := { (up).clk with retro := true, restarted := false } }, by delta Ticking; decide +kernel, by delta Reached; decide +kernel, by decide +kernel⟩,
  ⟨{ (up) with clk := { (up).clk with retro := true, restarted := true } }, by delta Ticking; decide +kernel, by delta Reached; decide +kernel, by decide +kernel⟩⟩

/-- States and operands that meet the hypotheses of ClockAndBillingCommands, clause by clause. -/
theorem wit_ClockAndBillingCommands :
  (∃ (s : State), ∃ (f : Flight), ∃ (delta : Int), delta = ((f.p 16 8 : Nat) - (s.clk.sec : Int)) * 1000 + (f.p 24 2 : Nat) - (s.rtcMs : Nat) ∧ f.p 24 2 ≤ 999 ∧ Front 0x0206 f s) ∧
  (∃ (s : State), ∃ (f : Flight), ∃ (delta : Int), delta = ((f.p 16 8 : Nat) - (s.clk.sec : Int)) * 1000 + (f.p 24 2 : Nat) - (s.rtcMs : Nat) ∧ f.p 24 2 ≤ 999 ∧ Front 0x0205 f s ∧ ((f.p 26 1 = 0 ∨ f.p 26 1 = 2)) ∧ s.clk.unsynced = false ∧ -(s.clk.stepLimit * 1000 : Int) ≤ delta ∧ delta ≤ s.clk.stepLimit * 1000) ∧
  (∃ (s : State), ∃ (f : Flight), ∃ (delta : Int), ∃ l, delta = ((f.p 16 8 : Nat) - (s.clk.sec : Int)) * 1000 + (f.p 24 2 : Nat) - (s.rtcMs : Nat) ∧ f.p 24 2 ≤ 999 ∧ Front 0x0205 f s ∧ ((f.p 26 1 = 1 ∨ (f.p 26 1 = 0 ∧ (s.clk.unsynced = true ∨ delta < -(s.clk.stepLimit * 1000 : Int) ∨ s.clk.stepLimit * 1000 < delta)))) ∧ l = (match s.clk.stepPend with | some p => p.flights | none => [])) ∧
  (∃ (s : State), ∃ (f : Flight), ∃ (delta : Int), delta = ((f.p 16 8 : Nat) - (s.clk.sec : Int)) * 1000 + (f.p 24 2 : Nat) - (s.rtcMs : Nat) ∧ f.p 24 2 ≤ 999 ∧ Front 0x0205 f s ∧ f.p 26 1 = 2 ∧ ((s.clk.unsynced = true ∨ delta < -(s.clk.stepLimit * 1000 : Int) ∨ s.clk.stepLimit * 1000 < delta))) ∧
  (∃ (s : State), ∃ (f : Flight), ∃ (delta : Int), delta = ((f.p 16 8 : Nat) - (s.clk.sec : Int)) * 1000 + (f.p 24 2 : Nat) - (s.rtcMs : Nat) ∧ f.p 24 2 ≤ 999 ∧ Front 0x0205 f s ∧ 2 < f.p 26 1) ∧
  (∃ (s : State), ∃ (v : W32), LinkUp s ∧ v.toNat % 8 < 5) ∧
  (∃ (s : State), ∃ (v : W32), LinkUp s ∧ 5 ≤ v.toNat % 8) ∧
  (∃ (s : State), ∃ (f : Flight), Front 0x0201 f s ∧ f.bufLen = 448) ∧
  (∃ (s : State), ∃ (f : Flight), Front 0x0202 f s ∧ f.p 16 4 ≠ 0 ∧ f.p 16 4 < 2 ^ 23 ∧ (f.bufLen = 8 * ((allFin 23).filter fun i => bitAt (f.p 16 4) i.val).length)) ∧
  (∃ (s : State), ∃ (f : Flight), Front 0x0203 f s) ∧
  (∃ (s : State), ∃ (f : Flight), Front 0x0204 f s) ∧
  (∃ (s : State), ∃ (f : Flight), Front 0x0207 f s ∧ f.bufLen = 768 ∧ calendarOk f.inBuf = true) ∧
  (∃ (s : State), ∃ (f : Flight), Front 0x0207 f s ∧ calendarOk f.inBuf = false) ∧
  (∃ (s : State), ∃ (f : Flight), ∃ c, Front 0x0208 f s ∧ f.bufLen = 768 ∧ f.p 16 1 ≤ 1 ∧ (if f.p 16 1 = 0 then s.clk.active else s.clk.passive) = some c) ∧
  (∃ (s : State), ∃ (f : Flight), ∃ (n : Outlet8), Front 0x0209 f s ∧ f.target.toNat = n.val ∧ (s.bill[n.val]).frozen = false) ∧
  (∃ (s : State), ∃ (f : Flight), ∃ (n : Outlet8), Front 0x0209 f s ∧ f.target.toNat = n.val ∧ (s.bill[n.val]).frozen = true) ∧
  (∃ (s : State), ∃ (f : Flight), Front 0x0205 f s ∧ 999 < f.p 24 2) ∧
  (∃ (s : State), ∃ (f : Flight), Front 0x0201 f s ∧ f.bufLen ≠ 448) ∧
  (∃ (s : State), ∃ (f : Flight), Front 0x0202 f s ∧ (f.p 16 4 = 0 ∨ 2 ^ 23 ≤ f.p 16 4 ∨ f.bufLen ≠ 8 * ((allFin 23).filter fun i => bitAt (f.p 16 4) i.val).length)) ∧
  (∃ (s : State), ∃ (f : Flight), Front 0x0207 f s ∧ f.bufLen ≠ 768) ∧
  (∃ (s : State), ∃ (f : Flight), Front 0x0208 f s ∧ (1 < f.p 16 1 ∨ f.bufLen ≠ 768)) ∧
  (∃ (s : State), ∃ (f : Flight), Front 0x0208 f s ∧ f.bufLen = 768 ∧ f.p 16 1 ≤ 1 ∧ (if f.p 16 1 = 0 then s.clk.active else s.clk.passive) = none) ∧
  (∃ (s : State), ∃ (f : Flight), Front 0x0209 f s ∧ f.target = 0xFF) :=
  ⟨⟨wf (fl 0x0206 []) (up), fl 0x0206 [], (((fl 0x0206 []).p 16 8 : Nat) - ((wf (fl 0x0206 []) (up)).clk.sec : Int)) * 1000 + ((fl 0x0206 []).p 24 2 : Nat) - ((wf (fl 0x0206 []) (up)).rtcMs : Nat), rfl, by decide +kernel, ⟨rfl, rfl, by decide +kernel, rfl, by decide +kernel⟩⟩,
  ⟨wf (fl 0x0205 (leBytes 8 8)) ({ (up) with clk := { (up).clk with unsynced := false } }), fl 0x0205 (leBytes 8 8), (((fl 0x0205 (leBytes 8 8)).p 16 8 : Nat) - ((wf (fl 0x0205 (leBytes 8 8)) ({ (up) with clk := { (up).clk with unsynced := false } })).clk.sec : Int)) * 1000 + ((fl 0x0205 (leBytes 8 8)).p 24 2 : Nat) - ((wf (fl 0x0205 (leBytes 8 8)) ({ (up) with clk := { (up).clk with unsynced := false } })).rtcMs : Nat), rfl, by decide +kernel, ⟨rfl, rfl, by decide +kernel, rfl, by decide +kernel⟩, by decide +kernel⟩,
  ⟨wf (fl 0x0205 (leBytes 8 9)) ({ (up) with clk := { (up).clk with unsynced := false } }), fl 0x0205 (leBytes 8 9), (((fl 0x0205 (leBytes 8 9)).p 16 8 : Nat) - ((wf (fl 0x0205 (leBytes 8 9)) ({ (up) with clk := { (up).clk with unsynced := false } })).clk.sec : Int)) * 1000 + ((fl 0x0205 (leBytes 8 9)).p 24 2 : Nat) - ((wf (fl 0x0205 (leBytes 8 9)) ({ (up) with clk := { (up).clk with unsynced := false } })).rtcMs : Nat), (match (wf (fl 0x0205 (leBytes 8 9)) ({ (up) with clk := { (up).clk with unsynced := false } })).clk.stepPend with | some p => p.flights | none => []), rfl, by decide +kernel, ⟨rfl, rfl, by decide +kernel, rfl, by decide +kernel⟩, by decide +kernel, rfl⟩,
  ⟨wf (fl 0x0205 (leBytes 8 9 ++ [0, 0, 2])) ({ (up) with clk := { (up).clk with unsynced := false } }), fl 0x0205 (leBytes 8 9 ++ [0, 0, 2]), (((fl 0x0205 (leBytes 8 9 ++ [0, 0, 2])).p 16 8 : Nat) - ((wf (fl 0x0205 (leBytes 8 9 ++ [0, 0, 2])) ({ (up) with clk := { (up).clk with unsynced := false } })).clk.sec : Int)) * 1000 + ((fl 0x0205 (leBytes 8 9 ++ [0, 0, 2])).p 24 2 : Nat) - ((wf (fl 0x0205 (leBytes 8 9 ++ [0, 0, 2])) ({ (up) with clk := { (up).clk with unsynced := false } })).rtcMs : Nat), rfl, by decide +kernel, ⟨rfl, rfl, by decide +kernel, rfl, by decide +kernel⟩, by decide +kernel⟩,
  ⟨wf (fl 0x0205 (leBytes 8 0 ++ [0, 0, 3])) (up), fl 0x0205 (leBytes 8 0 ++ [0, 0, 3]), (((fl 0x0205 (leBytes 8 0 ++ [0, 0, 3])).p 16 8 : Nat) - ((wf (fl 0x0205 (leBytes 8 0 ++ [0, 0, 3])) (up)).clk.sec : Int)) * 1000 + ((fl 0x0205 (leBytes 8 0 ++ [0, 0, 3])).p 24 2 : Nat) - ((wf (fl 0x0205 (leBytes 8 0 ++ [0, 0, 3])) (up)).rtcMs : Nat), rfl, by decide +kernel, ⟨rfl, rfl, by decide +kernel, rfl, by decide +kernel⟩, by decide +kernel⟩,
  ⟨up, 4, by delta LinkUp; decide +kernel, by decide +kernel⟩,
  ⟨up, 5, by delta LinkUp; decide +kernel, by decide +kernel⟩,
  ⟨wf (fl 0x0201 [] 448) (up), fl 0x0201 [] 448, ⟨rfl, rfl, by decide +kernel, rfl, by decide +kernel⟩, by decide +kernel⟩,
  ⟨wf (fl 0x0202 (leBytes 4 0x7FFFFF) 184) (up), fl 0x0202 (leBytes 4 0x7FFFFF) 184, ⟨rfl, rfl, by decide +kernel, rfl, by decide +kernel⟩, by decide +kernel⟩,
  ⟨wf (fl 0x0203 []) (up), fl 0x0203 [], ⟨rfl, rfl, by decide +kernel, rfl, by decide +kernel⟩⟩,
  ⟨wf (fl 0x0204 []) (up), fl 0x0204 [], ⟨rfl, rfl, by decide +kernel, rfl, by decide +kernel⟩⟩,
  ⟨wf (fl 0x0207 [] 768 (cal)) (up), fl 0x0207 [] 768 (cal), ⟨rfl, rfl, by decide +kernel, rfl, by decide +kernel⟩, by decide +kernel⟩,
  ⟨wf (fl 0x0207 []) (up), fl 0x0207 [], ⟨rfl, rfl, by decide +kernel, rfl, by decide +kernel⟩, by decide +kernel⟩,
  ⟨wf (fl 0x0208 [] 768) ({ (up) with clk := { (up).clk with active := some [] } }), fl 0x0208 [] 768, [], ⟨rfl, rfl, by decide +kernel, rfl, by decide +kernel⟩, by decide +kernel⟩,
  ⟨wf (fl 0x0209 [] 0 [] 7) (up), fl 0x0209 [] 0 [] 7, 7, ⟨rfl, rfl, by decide +kernel, rfl, by decide +kernel⟩, by decide +kernel⟩,
  ⟨wf (fl 0x0209 [] 0 [] 7) ({ up with bill := Vector.replicate 8 { frozen := true } }), fl 0x0209 [] 0 [] 7, 7, ⟨rfl, rfl, by decide +kernel, rfl, by decide +kernel⟩, by decide +kernel⟩,
  ⟨wf (fl 0x0205 (leBytes 8 0 ++ leBytes 2 1000)) (up), fl 0x0205 (leBytes 8 0 ++ leBytes 2 1000), ⟨rfl, rfl, by decide +kernel, rfl, by decide +kernel⟩, by decide +kernel⟩,
  ⟨wf (fl 0x0201 [] 447) (up), fl 0x0201 [] 447, ⟨rfl, rfl, by decide +kernel, rfl, by decide +kernel⟩, by decide +kernel⟩,
  ⟨wf (fl 0x0202 (leBytes 4 0x800000) 8) (up), fl 0x0202 (leBytes 4 0x800000) 8, ⟨rfl, rfl, by decide +kernel, rfl, by decide +kernel⟩, by decide +kernel⟩,
  ⟨wf (fl 0x0207 [] 767) (up), fl 0x0207 [] 767, ⟨rfl, rfl, by decide +kernel, rfl, by decide +kernel⟩, by decide +kernel⟩,
  ⟨wf (fl 0x0208 [2] 768) (up), fl 0x0208 [2] 768, ⟨rfl, rfl, by decide +kernel, rfl, by decide +kernel⟩, by decide +kernel⟩,
  ⟨wf (fl 0x0208 [1] 768) (up), fl 0x0208 [1] 768, ⟨rfl, rfl, by decide +kernel, rfl, by decide +kernel⟩, by decide +kernel⟩,
  ⟨wf (fl 0x0209 [] 0 [] 0xFF) (up), fl 0x0209 [] 0 [] 0xFF, ⟨rfl, rfl, by decide +kernel, rfl, by decide +kernel⟩, by decide +kernel⟩⟩

/-- States and operands that meet the hypotheses of SignedReadingsAndTamper, clause by clause. -/
theorem wit_SignedReadingsAndTamper :
  (∃ (s : State), ∃ (f : Flight), ∃ (n : Outlet8), ∃ d, Reached .host s ∧ (s.bill[n.val]).due = some d ∧ s.isReady 2 = true ∧ d.tick ≤ s.now ∧ prnBlocked s = false) ∧
  (∃ (s : State), ∃ (f : Flight), Front 0x0210 f s ∧ f.bufLen = 272 ∧ prnBlocked s = false ∧ longCount s < 32 ∧ ((s.prn.store.filter fun r => r.rtype == 0 && r.sig.isNone).length < 8)) ∧
  (∃ (s : State), ∃ (f : Flight), Front 0x0210 f s ∧ f.bufLen = 272 ∧ prnBlocked s = false ∧ ((8 ≤ (s.prn.store.filter fun r => r.rtype == 0 && r.sig.isNone).length ∨ 32 ≤ longCount s))) ∧
  (∃ (s : State), ∃ (f : Flight), Front 0x0210 f s ∧ f.bufLen = 272 ∧ prnBlocked s = true) ∧
  (∃ (s : State), ∃ (f : Flight), Front 0x0211 f s ∧ 1 ≤ f.p 20 1 ∧ f.p 20 1 ≤ 16 ∧ f.bufLen = 272 * f.p 20 1) ∧
  (∃ (s : State), ∃ (f : Flight), Front 0x0212 f s ∧ s.key.rootFail = false ∧ (s.key.slot[0]).unusable = false ∧ (s.key.slot[0]).rec_.type = .pair) ∧
  (∃ (s : State), ∃ (f : Flight), ∃ c, Front 0x0213 f s ∧ f.p 16 1 ≤ 1 ∧ c = (if f.p 16 1 = 0 then s.prn.devCert else s.prn.issCert) ∧ c.length ≤ f.bufLen) ∧
  (∃ (s : State), ∃ (a : Bool), ∃ (b : Bool), (s.tam.inp[0]).en = true ∧ (s.tam.inp[0]).isOpen = false ∧ (s.tam.inp[0]).differ = 1 ∧ (s.tam.inp[0]).chatter = false ∧ (s.tam.inp[0]).changes = [] ∧ (s.tam.inp[1]).en = false ∧ (a != (s.tam.inp[0]).pol) = true) ∧
  (∃ (s : State), ∃ (i : Fin 2), (s.tam.inp[i.val]).chatter = true ∧ (s.tam.inp[i.val]).lastChange + 320 ≤ s.tam.samples) ∧
  (∃ (s : State), ∃ (e : TamperRec), Reached .metering s ∧ s.isReady 2 = true ∧ s.tam.log = [e] ∧ s.tam.posted < e.tseq ∧ e.tick < s.now) ∧
  (∃ (s : State), ∃ f, Front 0x0220 f s) ∧
  (∃ (s : State), ∃ (f : Flight), Front 0x0210 f s ∧ f.bufLen ≠ 272) ∧
  (∃ (s : State), ∃ (f : Flight), Front 0x0211 f s ∧ (f.p 20 1 = 0 ∨ 16 < f.p 20 1 ∨ f.bufLen ≠ 272 * f.p 20 1)) ∧
  (∃ (s : State), ∃ (f : Flight), Front 0x0212 f s ∧ (s.key.rootFail = true ∨ (s.key.slot[0]).unusable = true)) ∧
  (∃ (s : State), ∃ (f : Flight), Front 0x0212 f s ∧ s.key.rootFail = false ∧ (s.key.slot[0]).unusable = false ∧ (s.key.slot[0]).rec_.type ≠ .pair) ∧
  (∃ (s : State), ∃ (f : Flight), Front 0x0213 f s ∧ 1 < f.p 16 1) ∧
  (∃ (s : State), ∃ (f : Flight), ∃ c, Front 0x0213 f s ∧ f.p 16 1 ≤ 1 ∧ c = (if f.p 16 1 = 0 then s.prn.devCert else s.prn.issCert) ∧ f.bufLen < c.length) :=
  ⟨⟨{ up with bill := Vector.replicate 8 { due := some { tick := 0, session := 0, authRef := 0 } } }, fl 0 [], 7, { tick := 0, session := 0, authRef := 0 }, by delta Reached; decide +kernel, by decide +kernel⟩,
  ⟨wf (fl 0x0210 [] 272) (up), fl 0x0210 [] 272, ⟨rfl, rfl, by decide +kernel, rfl, by decide +kernel⟩, by decide +kernel⟩,
  ⟨wf (fl 0x0210 [] 272) ({ (up) with key := { (up).key with queue := List.replicate 32 { kind := .sign, steps := 1, req := .flight 9, tick := 0, slots := [] } } }), fl 0x0210 [] 272, ⟨rfl, rfl, by decide +kernel, rfl, by decide +kernel⟩, by decide +kernel⟩,
  ⟨wf (fl 0x0210 [] 272) ({ (up) with prn := { (up).prn with rctr := 0xFFFFFFFF } }), fl 0x0210 [] 272, ⟨rfl, rfl, by decide +kernel, rfl, by decide +kernel⟩, by decide +kernel⟩,
  ⟨wf (fl 0x0211 ([0, 0, 0, 0, 16]) 4352) (up), fl 0x0211 ([0, 0, 0, 0, 16]) 4352, ⟨rfl, rfl, by decide +kernel, rfl, by decide +kernel⟩, by decide +kernel⟩,
  ⟨wf (fl 0x0212 []) (keyed 0 { type := .pair, usage := 1, pub := gKey } up), fl 0x0212 [], ⟨rfl, rfl, by decide +kernel, rfl, by decide +kernel⟩, by decide +kernel⟩,
  ⟨wf (fl 0x0213 [] up.prn.devCert.length) (up), fl 0x0213 [] up.prn.devCert.length, (if (fl 0x0213 [] up.prn.devCert.length).p 16 1 = 0 then (wf (fl 0x0213 [] up.prn.devCert.length) (up)).prn.devCert else (wf (fl 0x0213 [] up.prn.devCert.length) (up)).prn.issCert), ⟨rfl, rfl, by decide +kernel, rfl, by decide +kernel⟩, by decide +kernel, rfl, by decide +kernel⟩,
  ⟨{ (up) with tam := { (up).tam with inp := #v[{ en := true, differ := 1 }, {}] } }, true, false, by decide +kernel⟩,
  ⟨{ (up) with tam := { (up).tam with inp := Vector.replicate 2 { chatter := true }, samples := 320 } }, 1, by decide +kernel⟩,
  ⟨at_ 1 ({ (up) with tam := { (up).tam with log := [{ input := 0, state := 1, power := 0, sec := 0, ms := 0, openings := 1, tseq := 1 }] } }), { input := 0, state := 1, power := 0, sec := 0, ms := 0, openings := 1, tseq := 1 }, by delta Reached; decide +kernel, by decide +kernel⟩,
  ⟨wf (fl 0x0220 []) (up), fl 0x0220 [], ⟨rfl, rfl, by decide +kernel, rfl, by decide +kernel⟩⟩,
  ⟨wf (fl 0x0210 [] 273) (up), fl 0x0210 [] 273, ⟨rfl, rfl, by decide +kernel, rfl, by decide +kernel⟩, by decide +kernel⟩,
  ⟨wf (fl 0x0211 ([0, 0, 0, 0, 17]) 4624) (up), fl 0x0211 ([0, 0, 0, 0, 17]) 4624, ⟨rfl, rfl, by decide +kernel, rfl, by decide +kernel⟩, by decide +kernel⟩,
  ⟨wf (fl 0x0212 []) { (up) with key := { (up).key with rootFail := true } }, fl 0x0212 [], ⟨rfl, rfl, by decide +kernel, rfl, by decide +kernel⟩, by decide +kernel⟩,
  ⟨wf (fl 0x0212 []) (keyed 0 {} up), fl 0x0212 [], ⟨rfl, rfl, by decide +kernel, rfl, by decide +kernel⟩, by decide +kernel⟩,
  ⟨wf (fl 0x0213 [2]) (up), fl 0x0213 [2], ⟨rfl, rfl, by decide +kernel, rfl, by decide +kernel⟩, by decide +kernel⟩,
  ⟨wf (fl 0x0213 []) { (up) with prn := { (up).prn with devCert := [0] } }, fl 0x0213 [], [0], ⟨rfl, rfl, by decide +kernel, rfl, by decide +kernel⟩, by decide +kernel, rfl, by decide +kernel⟩⟩

/-- States and operands that meet the hypotheses of Prepayment, clause by clause. -/
theorem wit_Prepayment :
  (∃ (s : State), ∃ (f : Flight), ∃ c, ∃ (p : Ppy), Front 0x0218 f s ∧ f.bufLen = 208 ∧ parsePpy f.inBuf = some c ∧ (s.ses.out[f.outlet.val]).atRest = true ∧ p = s.ppy[f.outlet.val]) ∧
  (∃ (s : State), ∃ (f : Flight), Front 0x0218 f s ∧ parsePpy f.inBuf = none) ∧
  (∃ (s : State), ∃ (f : Flight), ∃ (p : Ppy), Front 0x021A f s ∧ p = s.ppy[f.outlet.val]) ∧
  (∃ (s : State), ∃ (f : Flight), ∃ (n : Outlet8), ∃ (t0 : Nat), Reached .metering s ∧ (s.ppy[n.val]).emgReq = [(f.seq, t0)] ∧ t0 < s.now ∧ flight? f.seq s = some f ∧ (s.ppy[n.val]).acc.emgOk = true) ∧
  (∃ (s : State), ∃ (f : Flight), Front 0x021B f s) ∧
  (∃ (s : State), ∃ (f : Flight), ∃ (n : Outlet8), ∃ (a : Account), a = (s.ppy[n.val]).acc ∧ Front 0x0219 f s ∧ f.outlet = n ∧ f.bufLen = 96 ∧ beAt f.inBuf 0 2 = 0x5455 ∧ byteAt f.inBuf 2 = 1 ∧ beAt f.inBuf 20 4 = 0 ∧ byteAt f.inBuf 3 = n.val ∧ beAt f.inBuf 12 4 ≠ 0 ∧ beAt f.inBuf 16 4 ≠ 0 ∧ a.doubt = false ∧ a.set.enable = true ∧ beAt f.inBuf 4 8 = s.fuse.serial.toNat ∧ beAt f.inBuf 24 8 = 0 ∧ a.c + beAt f.inBuf 16 4 ≤ 1000000000000 ∧ (windowTest a.h a.mask (beAt f.inBuf 12 4)).isSome = true ∧ slotCheck (Fin.ofNat 32 a.set.keyslot) 1 s = none ∧ s.key.queue.length < 32) ∧
  (∃ (s : State), ∃ (f : Flight), ∃ (n : Outlet8), ∃ (a : Account), a = (s.ppy[n.val]).acc ∧ Front 0x0219 f s ∧ f.outlet = n ∧ f.bufLen = 96 ∧ beAt f.inBuf 0 2 = 0x5455 ∧ byteAt f.inBuf 2 = 1 ∧ beAt f.inBuf 20 4 = 0 ∧ byteAt f.inBuf 3 = n.val ∧ beAt f.inBuf 12 4 ≠ 0 ∧ beAt f.inBuf 16 4 ≠ 0 ∧ a.doubt = false ∧ a.set.enable = true ∧ beAt f.inBuf 4 8 = s.fuse.serial.toNat ∧ beAt f.inBuf 24 8 = 0 ∧ a.c + beAt f.inBuf 16 4 ≤ 1000000000000 ∧ windowTest a.h a.mask (beAt f.inBuf 12 4) = none) ∧
  (∃ (s : State), ∃ (f : Flight), ∃ (n : Outlet8), ∃ (a : Account), ∃ tseq, ∃ amount, ∃ (t0 : Nat), ∃ h, ∃ m, a = (s.ppy[n.val]).acc ∧ Reached .metering s ∧ (s.ppy[n.val]).apply = [(f.seq, tseq, amount, t0)] ∧ t0 < s.now ∧ flight? f.seq s = some f ∧ ((∀ k : Outlet8, k ≠ n → (s.ppy[k.val]).apply = [])) ∧ windowTest a.h a.mask tseq = some (h, m) ∧ a.e = 0 ∧ a.set.autoEmg = false) ∧
  (∃ (s : State), ∃ (f : Flight), ∃ c, ∃ (p : Ppy), ∃ cur, Front 0x0218 f s ∧ f.bufLen = 208 ∧ parsePpy f.inBuf = some c ∧ p = s.ppy[f.outlet.val] ∧ cur = (match p.pendSet with | some c => c.enable | none => p.acc.set.enable) ∧ c.enable = cur) ∧
  (∃ (s : State), ∃ (f : Flight), ∃ c, ∃ (p : Ppy), ∃ cur, Front 0x0218 f s ∧ f.bufLen = 208 ∧ parsePpy f.inBuf = some c ∧ p = s.ppy[f.outlet.val] ∧ cur = (match p.pendSet with | some c => c.enable | none => p.acc.set.enable) ∧ c.enable ≠ cur ∧ (s.ses.out[f.outlet.val]).atRest = false) ∧
  (∃ (s : State), ∃ (f : Flight), Front 0x0218 f s ∧ f.bufLen ≠ 208) ∧
  (∃ (s : State), ∃ (f : Flight), ∃ (n : Outlet8), ∃ (t0 : Nat), Reached .metering s ∧ (s.ppy[n.val]).emgReq = [(f.seq, t0)] ∧ t0 < s.now ∧ flight? f.seq s = some f ∧ (s.ppy[n.val]).acc.emgOk = false) ∧
  (∃ (s : State), ∃ (f : Flight), ∃ (a : Account), ∃ (ok : Bool), Front 0x0219 f s ∧ a = (s.ppy[f.outlet.val]).acc ∧ ok = (decide (f.bufLen = 96) && decide (beAt f.inBuf 0 2 = 0x5455) && decide (byteAt f.inBuf 2 = 1) && decide (beAt f.inBuf 20 4 = 0) && decide (byteAt f.inBuf 3 = f.outlet.val) && decide (beAt f.inBuf 12 4 ≠ 0) && decide (beAt f.inBuf 16 4 ≠ 0)) ∧ ok = false) ∧
  (∃ (s : State), ∃ (f : Flight), ∃ (a : Account), ∃ (ok : Bool), Front 0x0219 f s ∧ a = (s.ppy[f.outlet.val]).acc ∧ ok = (decide (f.bufLen = 96) && decide (beAt f.inBuf 0 2 = 0x5455) && decide (byteAt f.inBuf 2 = 1) && decide (beAt f.inBuf 20 4 = 0) && decide (byteAt f.inBuf 3 = f.outlet.val) && decide (beAt f.inBuf 12 4 ≠ 0) && decide (beAt f.inBuf 16 4 ≠ 0)) ∧ ok = true ∧ a.doubt = true) ∧
  (∃ (s : State), ∃ (f : Flight), ∃ (a : Account), ∃ (ok : Bool), Front 0x0219 f s ∧ a = (s.ppy[f.outlet.val]).acc ∧ ok = (decide (f.bufLen = 96) && decide (beAt f.inBuf 0 2 = 0x5455) && decide (byteAt f.inBuf 2 = 1) && decide (beAt f.inBuf 20 4 = 0) && decide (byteAt f.inBuf 3 = f.outlet.val) && decide (beAt f.inBuf 12 4 ≠ 0) && decide (beAt f.inBuf 16 4 ≠ 0)) ∧ ok = true ∧ a.doubt = false ∧ (a.set.enable = false ∨ beAt f.inBuf 4 8 ≠ s.fuse.serial.toNat ∨ (beAt f.inBuf 24 8 ≠ 0 ∧ (beAt f.inBuf 24 8 < s.clk.sec ∨ s.clk.unsynced = true)) ∨ 1000000000000 < a.c + beAt f.inBuf 16 4)) ∧
  (∃ (s : State), ∃ (f : Flight), ∃ (n : Outlet8), ∃ tseq, ∃ amount, ∃ (t0 : Nat), Reached .metering s ∧ (s.ppy[n.val]).apply = [(f.seq, tseq, amount, t0)] ∧ t0 < s.now ∧ flight? f.seq s = some f ∧ (∀ k : Outlet8, k ≠ n → (s.ppy[k.val]).apply = []) ∧ windowTest (s.ppy[n.val]).acc.h (s.ppy[n.val]).acc.mask tseq = none) :=
  ⟨⟨wf (fl 0x0218 [] 208 ([0, 2])) (up), fl 0x0218 [] 208 ([0, 2]), (parsePpy [0, 2]).get (by decide +kernel), (wf (fl 0x0218 [] 208 ([0, 2])) (up)).ppy[(fl 0x0218 [] 208 ([0, 2])).outlet.val], ⟨rfl, rfl, by decide +kernel, rfl, by decide +kernel⟩, by decide +kernel, by simp [fl], by decide +kernel, rfl⟩,
  ⟨wf (fl 0x0218 []) (up), fl 0x0218 [], ⟨rfl, rfl, by decide +kernel, rfl, by decide +kernel⟩, by decide +kernel⟩,
  ⟨wf (fl 0x021A []) (up), fl 0x021A [], (wf (fl 0x021A []) (up)).ppy[(fl 0x021A []).outlet.val], ⟨rfl, rfl, by decide +kernel, rfl, by decide +kernel⟩, rfl⟩,
  ⟨wf (fl 0x021A []) (at_ 1 { up with ppy := Vector.replicate 8 { acc := { set := { enable := true, emgAmount := 1 } }, emgReq := [(1, 0)] } }), fl 0x021A [], 7, 0, by delta Reached; decide +kernel, by decide +kernel⟩,
  ⟨wf (fl 0x021B []) (up), fl 0x021B [], ⟨rfl, rfl, by decide +kernel, rfl, by decide +kernel⟩⟩,
  ⟨wf (fl 0x0219 [] 96 ([0x54, 0x55, 1, 7] ++ beBytes 8 1 ++ beBytes 4 1 ++ beBytes 4 1) 7) (keyed 2 { type := .pub, usage := 2 } { up with ppy := Vector.replicate 8 { acc := { set := { enable := true, keyslot := 2 } } } }), fl 0x0219 [] 96 ([0x54, 0x55, 1, 7] ++ beBytes 8 1 ++ beBytes 4 1 ++ beBytes 4 1) 7, 7, ((wf (fl 0x0219 [] 96 ([0x54, 0x55, 1, 7] ++ beBytes 8 1 ++ beBytes 4 1 ++ beBytes 4 1) 7) (keyed 2 { type := .pub, usage := 2 } { up with ppy := Vector.replicate 8 { acc := { set := { enable := true, keyslot := 2 } } } })).ppy[(7 : Outlet8).val]).acc, rfl, ⟨rfl, rfl, by decide +kernel, rfl, by decide +kernel⟩, by decide +kernel⟩,
  ⟨wf (fl 0x0219 [] 96 ([0x54, 0x55, 1, 7] ++ beBytes 8 1 ++ beBytes 4 1 ++ beBytes 4 1) 7) ({ up with ppy := Vector.replicate 8 { acc := { set := { enable := true, keyslot := 2 }, h := 65 } } }), fl 0x0219 [] 96 ([0x54, 0x55, 1, 7] ++ beBytes 8 1 ++ beBytes 4 1 ++ beBytes 4 1) 7, 7, ((wf (fl 0x0219 [] 96 ([0x54, 0x55, 1, 7] ++ beBytes 8 1 ++ beBytes 4 1 ++ beBytes 4 1) 7) ({ up with ppy := Vector.replicate 8 { acc := { set := { enable := true, keyslot := 2 }, h := 65 } } })).ppy[(7 : Outlet8).val]).acc, rfl, ⟨rfl, rfl, by decide +kernel, rfl, by decide +kernel⟩, by decide +kernel⟩,
  ⟨wf (fl 0x0219 []) (at_ 1 { up with ppy := (Vector.replicate 8 {}).set 7 { apply := [(1, 1, 5, 0)] } }), fl 0x0219 [], 7, ((wf (fl 0x0219 []) (at_ 1 { up with ppy := (Vector.replicate 8 {}).set 7 { apply := [(1, 1, 5, 0)] } })).ppy[(7 : Outlet8).val]).acc, 1, 5, 0, 1, 1, rfl, by delta Reached; decide +kernel, by decide +kernel⟩,
  ⟨wf (fl 0x0218 [] 208 ([0, 2])) (up), fl 0x0218 [] 208 ([0, 2]), (parsePpy [0, 2]).get (by decide +kernel), (wf (fl 0x0218 [] 208 ([0, 2])) (up)).ppy[(fl 0x0218 [] 208 ([0, 2])).outlet.val], (match ((wf (fl 0x0218 [] 208 ([0, 2])) (up)).ppy[(fl 0x0218 [] 208 ([0, 2])).outlet.val]).pendSet with | some c => c.enable | none => ((wf (fl 0x0218 [] 208 ([0, 2])) (up)).ppy[(fl 0x0218 [] 208 ([0, 2])).outlet.val]).acc.set.enable), ⟨rfl, rfl, by decide +kernel, rfl, by decide +kernel⟩, by decide +kernel, by simp [fl], rfl, rfl, by decide +kernel⟩,
  ⟨wf (fl 0x0218 [] 208 ([1, 2])) (so { o0 with state := .charging }), fl 0x0218 [] 208 ([1, 2]), (parsePpy [1, 2]).get (by decide +kernel), (wf (fl 0x0218 [] 208 ([1, 2])) (so { o0 with state := .charging })).ppy[(fl 0x0218 [] 208 ([1, 2])).outlet.val], (match ((wf (fl 0x0218 [] 208 ([1, 2])) (so { o0 with state := .charging })).ppy[(fl 0x0218 [] 208 ([1, 2])).outlet.val]).pendSet with | some c => c.enable | none => ((wf (fl 0x0218 [] 208 ([1, 2])) (so { o0 with state := .charging })).ppy[(fl 0x0218 [] 208 ([1, 2])).outlet.val]).acc.set.enable), ⟨rfl, rfl, by decide +kernel, rfl, by decide +kernel⟩, by decide +kernel, by simp [fl], rfl, rfl, by decide +kernel⟩,
  ⟨wf (fl 0x0218 [] 207) (up), fl 0x0218 [] 207, ⟨rfl, rfl, by decide +kernel, rfl, by decide +kernel⟩, by decide +kernel⟩,
  ⟨wf (fl 0x021A []) (at_ 1 { up with ppy := Vector.replicate 8 { emgReq := [(1, 0)] } }), fl 0x021A [], 7, 0, by delta Reached; decide +kernel, by decide +kernel⟩,
  ⟨wf (fl 0x0219 [] 95) (up), fl 0x0219 [] 95, ((wf (fl 0x0219 [] 95) (up)).ppy[(fl 0x0219 [] 95).outlet.val]).acc, false, ⟨rfl, rfl, by decide +kernel, rfl, by decide +kernel⟩, rfl, by decide +kernel, by decide +kernel⟩,
  ⟨wf (fl 0x0219 [] 96 ([0x54, 0x55, 1, 7] ++ beBytes 8 1 ++ beBytes 4 1 ++ beBytes 4 1) 7) ({ up with ppy := Vector.replicate 8 { acc := { doubt := true } } }), fl 0x0219 [] 96 ([0x54, 0x55, 1, 7] ++ beBytes 8 1 ++ beBytes 4 1 ++ beBytes 4 1) 7, ((wf (fl 0x0219 [] 96 ([0x54, 0x55, 1, 7] ++ beBytes 8 1 ++ beBytes 4 1 ++ beBytes 4 1) 7) ({ up with ppy := Vector.replicate 8 { acc := { doubt := true } } })).ppy[(fl 0x0219 [] 96 ([0x54, 0x55, 1, 7] ++ beBytes 8 1 ++ beBytes 4 1 ++ beBytes 4 1) 7).outlet.val]).acc, true, ⟨rfl, rfl, by decide +kernel, rfl, by decide +kernel⟩, rfl, by decide +kernel, by decide +kernel⟩,
  ⟨wf (fl 0x0219 [] 96 ([0x54, 0x55, 1, 7] ++ beBytes 8 1 ++ beBytes 4 1 ++ beBytes 4 1) 7) (up), fl 0x0219 [] 96 ([0x54, 0x55, 1, 7] ++ beBytes 8 1 ++ beBytes 4 1 ++ beBytes 4 1) 7, ((wf (fl 0x0219 [] 96 ([0x54, 0x55, 1, 7] ++ beBytes 8 1 ++ beBytes 4 1 ++ beBytes 4 1) 7) (up)).ppy[(fl 0x0219 [] 96 ([0x54, 0x55, 1, 7] ++ beBytes 8 1 ++ beBytes 4 1 ++ beBytes 4 1) 7).outlet.val]).acc, true, ⟨rfl, rfl, by decide +kernel, rfl, by decide +kernel⟩, rfl, by decide +kernel, by decide +kernel⟩,
  ⟨wf (fl 0x0219 []) (at_ 1 { up with ppy := (Vector.replicate 8 {}).set 7 { acc := { h := 65 }, apply := [(1, 1, 5, 0)] } }), fl 0x0219 [], 7, 1, 5, 0, by delta Reached; decide +kernel, by decide +kernel⟩⟩

/-- States and operands that meet the hypotheses of OutletCommands, clause by clause. -/
theorem wit_OutletCommands :
  (∃ (s : State), ∃ (n : Outlet8), ∃ (v : W32), LinkUp s ∧ (outOf s n).idle = true ∧ ocfgOk v.toNat = true ∧ (bitAt v.toNat 0 && isDc s n) = false) ∧
  (∃ (s : State), ∃ (n : Outlet8), ∃ (v : W32), LinkUp s ∧ (((outOf s n).idle = false ∨ ocfgOk v.toNat = false))) ∧
  (∃ (s : State), ∃ (n : Outlet8), ∃ (v : W32), LinkUp s ∧ (outOf s n).idle = true ∧ coilOk v.toNat = true) ∧
  (∃ (s : State), ∃ (n : Outlet8), ∃ (v : W32), LinkUp s ∧ (((outOf s n).idle = false ∨ coilOk v.toNat = false))) ∧
  (∃ (s : State), ∃ (f : Flight), ∃ (n : Outlet8), ∃ (o : Outlet), f.outlet = n ∧ o = outOf s n ∧ Front 0x0301 f s ∧ f.p 16 1 = 1 ∧ ((f.p 40 2 = 0 ∨ (60 ≤ f.p 40 2 ∧ f.p 40 2 ≤ 800))) ∧ iresOk s n = true ∧ 1 ≤ o.state.num ∧ o.state.num ≤ 4 ∧ f.p 32 8 = o.session) ∧
  (∃ (s : State), ∃ (f : Flight), ∃ (n : Outlet8), ∃ (o : Outlet), f.outlet = n ∧ o = outOf s n ∧ Front 0x0301 f s ∧ f.p 16 1 = 1 ∧ ((f.p 40 2 = 0 ∨ (60 ≤ f.p 40 2 ∧ f.p 40 2 ≤ 800))) ∧ iresOk s n = true ∧ o.state = .idle ∧ f.p 32 8 = 0 ∧ 0 < s.ses.preauthS) ∧
  (∃ (s : State), ∃ (f : Flight), ∃ (n : Outlet8), ∃ (o : Outlet), f.outlet = n ∧ o = outOf s n ∧ Front 0x0301 f s ∧ f.p 16 1 = 1 ∧ ((f.p 40 2 = 0 ∨ (60 ≤ f.p 40 2 ∧ f.p 40 2 ≤ 800))) ∧ iresOk s n = true ∧ 11 ≤ o.state.num) ∧
  (∃ (s : State), ∃ (f : Flight), ∃ (n : Outlet8), ∃ (o : Outlet), f.outlet = n ∧ o = outOf s n ∧ Front 0x0302 f s ∧ f.p 16 1 = 2 ∧ 1 ≤ o.state.num ∧ o.state.num ≤ 9 ∧ o.stopReq = none) ∧
  (∃ (s : State), ∃ (f : Flight), ∃ (n : Outlet8), ∃ (o : Outlet), f.outlet = n ∧ o = outOf s n ∧ Front 0x0302 f s ∧ f.p 16 1 ≠ 2) ∧
  (∃ (s : State), ∃ (f : Flight), ∃ (n : Outlet8), ∃ (o : Outlet), f.outlet = n ∧ o = outOf s n ∧ Front 0x0303 f s ∧ f.p 16 2 ≤ 800) ∧
  (∃ (s : State), ∃ (f : Flight), ∃ (n : Outlet8), ∃ (o : Outlet), f.outlet = n ∧ o = outOf s n ∧ Front 0x0303 f s ∧ f.p 16 2 = 0xFFFF) ∧
  (∃ (s : State), ∃ (f : Flight), ∃ (n : Outlet8), ∃ (o : Outlet), ∃ b, f.outlet = n ∧ o = outOf s n ∧ Front 0x0304 f s ∧ b = s.ses.readImg[n.val]) ∧
  (∃ (s : State), ∃ (f : Flight), ∃ (n : Outlet8), ∃ (o : Outlet), f.outlet = n ∧ o = outOf s n ∧ Front 0x0305 f s ∧ o.state = .fault ∧ o.opened = true) ∧
  (∃ (s : State), ∃ (f : Flight), ∃ (n : Outlet8), ∃ (o : Outlet), f.outlet = n ∧ o = outOf s n ∧ Front 0x0305 f s ∧ o.state = .fault ∧ o.opened = false) ∧
  (∃ (s : State), ∃ (f : Flight), ∃ (n : Outlet8), ∃ (o : Outlet), f.outlet = n ∧ o = outOf s n ∧ Front 0x0305 f s ∧ o.state = .welded ∧ o.mirror = some false ∧ 50 ≤ o.quietCycles) ∧
  (∃ (s : State), ∃ (f : Flight), ∃ (n : Outlet8), ∃ (o : Outlet), f.outlet = n ∧ o = outOf s n ∧ Front 0x0305 f s ∧ o.state = .welded ∧ ((o.mirror ≠ some false ∨ o.quietCycles < 50))) ∧
  (∃ (s : State), ∃ (f : Flight), ∃ (n : Outlet8), ∃ (o : Outlet), f.outlet = n ∧ o = outOf s n ∧ Front 0x0305 f s ∧ o.state ≠ .fault ∧ o.state ≠ .welded) ∧
  (∃ (s : State), ∃ (f : Flight), ∃ (n : Outlet8), ∃ (o : Outlet), ∃ (t0 : Nat), f.outlet = n ∧ o = outOf s n ∧ Settled n s ∧ o.state = .fault ∧ o.opened = true ∧ o.clearReq = [(t0, f.seq)] ∧ t0 < s.now ∧ o.candidate = none ∧ o.stopReq = none ∧ o.unlockAsk = none ∧ o.reason ≠ .restart ∧ o.det ≠ some .a) ∧
  (∃ (s : State), ∃ (f : Flight), ∃ (n : Outlet8), ∃ (o : Outlet), f.outlet = n ∧ o = outOf s n ∧ Front 0x0306 f s ∧ o.state = .ended ∧ o.unlockSeq = none ∧ o.caseT = false) ∧
  (∃ (s : State), ∃ (f : Flight), ∃ (n : Outlet8), ∃ (o : Outlet), f.outlet = n ∧ o = outOf s n ∧ Front 0x0306 f s ∧ o.state = .ended ∧ o.unlockSeq = none ∧ o.caseT = true) ∧
  (∃ (s : State), ∃ (f : Flight), ∃ (n : Outlet8), ∃ (o : Outlet), f.outlet = n ∧ o = outOf s n ∧ Front 0x0301 f s ∧ (1 < f.p 16 1 ∨ ¬(f.p 40 2 = 0 ∨ (60 ≤ f.p 40 2 ∧ f.p 40 2 ≤ 800)))) ∧
  (∃ (s : State), ∃ (f : Flight), ∃ (n : Outlet8), ∃ (o : Outlet), f.outlet = n ∧ o = outOf s n ∧ Front 0x0301 f s ∧ f.p 16 1 ≤ 1 ∧ (f.p 40 2 = 0 ∨ (60 ≤ f.p 40 2 ∧ f.p 40 2 ≤ 800)) ∧ (iresOk s n = false ∨ 11 ≤ o.state.num)) ∧
  (∃ (s : State), ∃ (f : Flight), ∃ (n : Outlet8), ∃ (o : Outlet), f.outlet = n ∧ o = outOf s n ∧ Front 0x0301 f s ∧ f.p 16 1 ≤ 1 ∧ (f.p 40 2 = 0 ∨ (60 ≤ f.p 40 2 ∧ f.p 40 2 ≤ 800)) ∧ iresOk s n = true ∧ ((o.state = .idle ∧ f.p 32 8 ≠ 0) ∨ (5 ≤ o.state.num ∧ o.state.num ≤ 10) ∨ (1 ≤ o.state.num ∧ o.state.num ≤ 4 ∧ f.p 32 8 ≠ o.session))) ∧
  (∃ (s : State), ∃ (f : Flight), ∃ (n : Outlet8), ∃ (o : Outlet), f.outlet = n ∧ o = outOf s n ∧ Front 0x0301 f s ∧ f.p 16 1 ≤ 1 ∧ (f.p 40 2 = 0 ∨ (60 ≤ f.p 40 2 ∧ f.p 40 2 ≤ 800)) ∧ iresOk s n = true ∧ o.state = .idle ∧ f.p 32 8 = 0 ∧ s.ses.preauthS = 0) ∧
  (∃ (s : State), ∃ (f : Flight), ∃ (n : Outlet8), ∃ (o : Outlet), f.outlet = n ∧ o = outOf s n ∧ Front 0x0301 f s ∧ f.p 16 1 ≤ 1 ∧ (f.p 40 2 = 0 ∨ (60 ≤ f.p 40 2 ∧ f.p 40 2 ≤ 800)) ∧ iresOk s n = true ∧ f.p 16 1 = 0 ∧ o.state = .idle ∧ f.p 32 8 = 0 ∧ 0 < s.ses.preauthS) ∧
  (∃ (s : State), ∃ (f : Flight), ∃ (n : Outlet8), ∃ (o : Outlet), f.outlet = n ∧ o = outOf s n ∧ Front 0x0301 f s ∧ f.p 16 1 ≤ 1 ∧ (f.p 40 2 = 0 ∨ (60 ≤ f.p 40 2 ∧ f.p 40 2 ≤ 800)) ∧ iresOk s n = true ∧ f.p 16 1 = 0 ∧ 1 ≤ o.state.num ∧ o.state.num ≤ 4 ∧ f.p 32 8 = o.session) ∧
  (∃ (s : State), ∃ (f : Flight), ∃ (n : Outlet8), ∃ (o : Outlet), f.outlet = n ∧ o = outOf s n ∧ Front 0x0302 f s ∧ f.p 16 1 = 2 ∧ (o.state.num = 0 ∨ 10 ≤ o.state.num)) ∧
  (∃ (s : State), ∃ (f : Flight), ∃ (n : Outlet8), ∃ (o : Outlet), f.outlet = n ∧ o = outOf s n ∧ Front 0x0302 f s ∧ f.p 16 1 = 2 ∧ 1 ≤ o.state.num ∧ o.state.num ≤ 9 ∧ o.stopReq.isSome = true) ∧
  (∃ (s : State), ∃ (f : Flight), ∃ (n : Outlet8), ∃ (o : Outlet), f.outlet = n ∧ o = outOf s n ∧ Front 0x0303 f s ∧ 800 < f.p 16 2 ∧ f.p 16 2 ≠ 0xFFFF) ∧
  (∃ (s : State), ∃ (f : Flight), ∃ (n : Outlet8), ∃ (o : Outlet), f.outlet = n ∧ o = outOf s n ∧ Front 0x0306 f s ∧ o.state ≠ .ended ∧ (o.state ≠ .fault ∨ o.opened = false)) ∧
  (∃ (s : State), ∃ (f : Flight), ∃ (n : Outlet8), ∃ (o : Outlet), f.outlet = n ∧ o = outOf s n ∧ Front 0x0306 f s ∧ (o.state = .ended ∨ (o.state = .fault ∧ o.opened = true)) ∧ o.caseT = false ∧ o.unlockSeq.isSome = true) ∧
  (∃ (s : State), ∃ (f : Flight), ∃ (n : Outlet8), ∃ (o : Outlet), f.outlet = n ∧ o = outOf s n ∧ Front 0x0306 f s ∧ (o.state = .ended ∨ (o.state = .fault ∧ o.opened = true)) ∧ o.caseT = false ∧ o.unlockSeq = none) :=
  ⟨⟨up, 7, 0x00050610, by delta LinkUp; decide +kernel, by decide +kernel⟩,
  ⟨up, 7, 0, by delta LinkUp; decide +kernel, by decide +kernel⟩,
  ⟨up, 7, 0x140A, by delta LinkUp; decide +kernel, by decide +kernel⟩,
  ⟨up, 7, 0, by delta LinkUp; decide +kernel, by decide +kernel⟩,
  ⟨wf (fl 0x0301 ([1] ++ List.replicate 15 0 ++ leBytes 8 5 ++ leBytes 2 60) 0 [] 7) (so { o0 with state := .authorising, session := 5 }), fl 0x0301 ([1] ++ List.replicate 15 0 ++ leBytes 8 5 ++ leBytes 2 60) 0 [] 7, 7, outOf (wf (fl 0x0301 ([1] ++ List.replicate 15 0 ++ leBytes 8 5 ++ leBytes 2 60) 0 [] 7) (so { o0 with state := .authorising, session := 5 })) (7 : Outlet8), by decide +kernel, rfl, ⟨rfl, rfl, by decide +kernel, rfl, by decide +kernel⟩, by decide +kernel⟩,
  ⟨wf (fl 0x0301 ([1] ++ List.replicate 15 0 ++ leBytes 8 0 ++ leBytes 2 800) 0 [] 7) (so o0), fl 0x0301 ([1] ++ List.replicate 15 0 ++ leBytes 8 0 ++ leBytes 2 800) 0 [] 7, 7, outOf (wf (fl 0x0301 ([1] ++ List.replicate 15 0 ++ leBytes 8 0 ++ leBytes 2 800) 0 [] 7) (so o0)) (7 : Outlet8), by decide +kernel, rfl, ⟨rfl, rfl, by decide +kernel, rfl, by decide +kernel⟩, by decide +kernel⟩,
  ⟨wf (fl 0x0301 ([1] ++ List.replicate 15 0 ++ leBytes 8 0 ++ leBytes 2 0) 0 [] 7) (so { o0 with state := .fault }), fl 0x0301 ([1] ++ List.replicate 15 0 ++ leBytes 8 0 ++ leBytes 2 0) 0 [] 7, 7, outOf (wf (fl 0x0301 ([1] ++ List.replicate 15 0 ++ leBytes 8 0 ++ leBytes 2 0) 0 [] 7) (so { o0 with state := .fault })) (7 : Outlet8), by decide +kernel, rfl, ⟨rfl, rfl, by decide +kernel, rfl, by decide +kernel⟩, by decide +kernel⟩,
  ⟨wf (fl 0x0302 ([2]) 0 [] 7) (so { o0 with state := .opening }), fl 0x0302 ([2]) 0 [] 7, 7, outOf (wf (fl 0x0302 ([2]) 0 [] 7) (so { o0 with state := .opening })) (7 : Outlet8), by decide +kernel, rfl, ⟨rfl, rfl, by decide +kernel, rfl, by decide +kernel⟩, by decide +kernel⟩,
  ⟨wf (fl 0x0302 ([1]) 0 [] 7) (up), fl 0x0302 ([1]) 0 [] 7, 7, outOf (wf (fl 0x0302 ([1]) 0 [] 7) (up)) (7 : Outlet8), by decide +kernel, rfl, ⟨rfl, rfl, by decide +kernel, rfl, by decide +kernel⟩, by decide +kernel⟩,
  ⟨wf (fl 0x0303 (leBytes 2 800) 0 [] 7) (up), fl 0x0303 (leBytes 2 800) 0 [] 7, 7, outOf (wf (fl 0x0303 (leBytes 2 800) 0 [] 7) (up)) (7 : Outlet8), by decide +kernel, rfl, ⟨rfl, rfl, by decide +kernel, rfl, by decide +kernel⟩, by decide +kernel⟩,
  ⟨wf (fl 0x0303 (leBytes 2 0xFFFF) 0 [] 7) (up), fl 0x0303 (leBytes 2 0xFFFF) 0 [] 7, 7, outOf (wf (fl 0x0303 (leBytes 2 0xFFFF) 0 [] 7) (up)) (7 : Outlet8), by decide +kernel, rfl, ⟨rfl, rfl, by decide +kernel, rfl, by decide +kernel⟩, by decide +kernel⟩,
  ⟨wf (fl 0x0304 [] 0 [] 7) (so { o0 with state := .charging }), fl 0x0304 [] 0 [] 7, 7, outOf (wf (fl 0x0304 [] 0 [] 7) (so { o0 with state := .charging })) (7 : Outlet8), (wf (fl 0x0304 [] 0 [] 7) (so { o0 with state := .charging })).ses.readImg[(7 : Outlet8).val], by decide +kernel, rfl, ⟨rfl, rfl, by decide +kernel, rfl, by decide +kernel⟩, rfl⟩,
  ⟨wf (fl 0x0305 [] 0 [] 7) (so { o0 with state := .fault, chkMirror := .passed, chkVolt := .passed }), fl 0x0305 [] 0 [] 7, 7, outOf (wf (fl 0x0305 [] 0 [] 7) (so { o0 with state := .fault, chkMirror := .passed, chkVolt := .passed })) (7 : Outlet8), by decide +kernel, rfl, ⟨rfl, rfl, by decide +kernel, rfl, by decide +kernel⟩, by decide +kernel⟩,
  ⟨wf (fl 0x0305 [] 0 [] 7) (so { o0 with state := .fault }), fl 0x0305 [] 0 [] 7, 7, outOf (wf (fl 0x0305 [] 0 [] 7) (so { o0 with state := .fault })) (7 : Outlet8), by decide +kernel, rfl, ⟨rfl, rfl, by decide +kernel, rfl, by decide +kernel⟩, by decide +kernel⟩,
  ⟨wf (fl 0x0305 [] 0 [] 7) (so { o0 with state := .welded, mirror := some false, quietCycles := 50 }), fl 0x0305 [] 0 [] 7, 7, outOf (wf (fl 0x0305 [] 0 [] 7) (so { o0 with state := .welded, mirror := some false, quietCycles := 50 })) (7 : Outlet8), by decide +kernel, rfl, ⟨rfl, rfl, by decide +kernel, rfl, by decide +kernel⟩, by decide +kernel⟩,
  ⟨wf (fl 0x0305 [] 0 [] 7) (so { o0 with state := .welded }), fl 0x0305 [] 0 [] 7, 7, outOf (wf (fl 0x0305 [] 0 [] 7) (so { o0 with state := .welded })) (7 : Outlet8), by decide +kernel, rfl, ⟨rfl, rfl, by decide +kernel, rfl, by decide +kernel⟩, by decide +kernel⟩,
  ⟨wf (fl 0x0305 [] 0 [] 7) (so { o0 with state := .charging }), fl 0x0305 [] 0 [] 7, 7, outOf (wf (fl 0x0305 [] 0 [] 7) (so { o0 with state := .charging })) (7 : Outlet8), by decide +kernel, rfl, ⟨rfl, rfl, by decide +kernel, rfl, by decide +kernel⟩, by decide +kernel⟩,
  ⟨wf (fl 0x0305 [] 0 [] 7) (at_ 1 (so { o0 with state := .fault, chkMirror := .passed, chkVolt := .passed, clearReq := [(0, 1)] })), fl 0x0305 [] 0 [] 7, 7, outOf (wf (fl 0x0305 [] 0 [] 7) (at_ 1 (so { o0 with state := .fault, chkMirror := .passed, chkVolt := .passed, clearReq := [(0, 1)] }))) (7 : Outlet8), 0, by decide +kernel, rfl, ⟨rfl, by decide +kernel, by decide +kernel, by decide +kernel⟩, by decide +kernel⟩,
  ⟨wf (fl 0x0306 [] 0 [] 7) (so { o0 with state := .ended }), fl 0x0306 [] 0 [] 7, 7, outOf (wf (fl 0x0306 [] 0 [] 7) (so { o0 with state := .ended })) (7 : Outlet8), by decide +kernel, rfl, ⟨rfl, rfl, by decide +kernel, rfl, by decide +kernel⟩, by decide +kernel⟩,
  ⟨wf (fl 0x0306 [] 0 [] 7) (so { o0 with state := .ended, ocfg := 0x001E2073 }), fl 0x0306 [] 0 [] 7, 7, outOf (wf (fl 0x0306 [] 0 [] 7) (so { o0 with state := .ended, ocfg := 0x001E2073 })) (7 : Outlet8), by decide +kernel, rfl, ⟨rfl, rfl, by decide +kernel, rfl, by decide +kernel⟩, by decide +kernel⟩,
  ⟨wf (fl 0x0301 ([1] ++ List.replicate 15 0 ++ leBytes 8 0 ++ leBytes 2 59) 0 [] 7) (so o0), fl 0x0301 ([1] ++ List.replicate 15 0 ++ leBytes 8 0 ++ leBytes 2 59) 0 [] 7, 7, outOf (wf (fl 0x0301 ([1] ++ List.replicate 15 0 ++ leBytes 8 0 ++ leBytes 2 59) 0 [] 7) (so o0)) (7 : Outlet8), by decide +kernel, rfl, ⟨rfl, rfl, by decide +kernel, rfl, by decide +kernel⟩, by decide +kernel⟩,
  ⟨wf (fl 0x0301 ([1] ++ List.replicate 15 0 ++ leBytes 8 0 ++ leBytes 2 60) 0 [] 7) (up), fl 0x0301 ([1] ++ List.replicate 15 0 ++ leBytes 8 0 ++ leBytes 2 60) 0 [] 7, 7, outOf (wf (fl 0x0301 ([1] ++ List.replicate 15 0 ++ leBytes 8 0 ++ leBytes 2 60) 0 [] 7) (up)) (7 : Outlet8), by decide +kernel, rfl, ⟨rfl, rfl, by decide +kernel, rfl, by decide +kernel⟩, by decide +kernel⟩,
  ⟨wf (fl 0x0301 ([1] ++ List.replicate 15 0 ++ leBytes 8 6 ++ leBytes 2 60) 0 [] 7) (so { o0 with state := .authorising, session := 5 }), fl 0x0301 ([1] ++ List.replicate 15 0 ++ leBytes 8 6 ++ leBytes 2 60) 0 [] 7, 7, outOf (wf (fl 0x0301 ([1] ++ List.replicate 15 0 ++ leBytes 8 6 ++ leBytes 2 60) 0 [] 7) (so { o0 with state := .authorising, session := 5 })) (7 : Outlet8), by decide +kernel, rfl, ⟨rfl, rfl, by decide +kernel, rfl, by decide +kernel⟩, by decide +kernel⟩,
  ⟨wf (fl 0x0301 ([1] ++ List.replicate 15 0 ++ leBytes 8 0 ++ leBytes 2 60) 0 [] 7) ({ (so o0) with ses := { (so o0).ses with preauthS := 0 } }), fl 0x0301 ([1] ++ List.replicate 15 0 ++ leBytes 8 0 ++ leBytes 2 60) 0 [] 7, 7, outOf (wf (fl 0x0301 ([1] ++ List.replicate 15 0 ++ leBytes 8 0 ++ leBytes 2 60) 0 [] 7) ({ (so o0) with ses := { (so o0).ses with preauthS := 0 } })) (7 : Outlet8), by decide +kernel, rfl, ⟨rfl, rfl, by decide +kernel, rfl, by decide +kernel⟩, by decide +kernel⟩,
  ⟨wf (fl 0x0301 ([0] ++ List.replicate 15 0 ++ leBytes 8 0 ++ leBytes 2 0) 0 [] 7) (so o0), fl 0x0301 ([0] ++ List.replicate 15 0 ++ leBytes 8 0 ++ leBytes 2 0) 0 [] 7, 7, outOf (wf (fl 0x0301 ([0] ++ List.replicate 15 0 ++ leBytes 8 0 ++ leBytes 2 0) 0 [] 7) (so o0)) (7 : Outlet8), by decide +kernel, rfl, ⟨rfl, rfl, by decide +kernel, rfl, by decide +kernel⟩, by decide +kernel⟩,
  ⟨wf (fl 0x0301 ([0] ++ List.replicate 15 0 ++ leBytes 8 5 ++ leBytes 2 0) 0 [] 7) (so { o0 with state := .authorising, session := 5 }), fl 0x0301 ([0] ++ List.replicate 15 0 ++ leBytes 8 5 ++ leBytes 2 0) 0 [] 7, 7, outOf (wf (fl 0x0301 ([0] ++ List.replicate 15 0 ++ leBytes 8 5 ++ leBytes 2 0) 0 [] 7) (so { o0 with state := .authorising, session := 5 })) (7 : Outlet8), by decide +kernel, rfl, ⟨rfl, rfl, by decide +kernel, rfl, by decide +kernel⟩, by decide +kernel⟩,
  ⟨wf (fl 0x0302 ([2]) 0 [] 7) (so { o0 with state := .ended }), fl 0x0302 ([2]) 0 [] 7, 7, outOf (wf (fl 0x0302 ([2]) 0 [] 7) (so { o0 with state := .ended })) (7 : Outlet8), by decide +kernel, rfl, ⟨rfl, rfl, by decide +kernel, rfl, by decide +kernel⟩, by decide +kernel⟩,
  ⟨wf (fl 0x0302 ([2]) 0 [] 7) (so { o0 with state := .connected, stopReq := some (0, .hostStop) }), fl 0x0302 ([2]) 0 [] 7, 7, outOf (wf (fl 0x0302 ([2]) 0 [] 7) (so { o0 with state := .connected, stopReq := some (0, .hostStop) })) (7 : Outlet8), by decide +kernel, rfl, ⟨rfl, rfl, by decide +kernel, rfl, by decide +kernel⟩, by decide +kernel⟩,
  ⟨wf (fl 0x0303 (leBytes 2 801) 0 [] 7) (up), fl 0x0303 (leBytes 2 801) 0 [] 7, 7, outOf (wf (fl 0x0303 (leBytes 2 801) 0 [] 7) (up)) (7 : Outlet8), by decide +kernel, rfl, ⟨rfl, rfl, by decide +kernel, rfl, by decide +kernel⟩, by decide +kernel⟩,
  ⟨wf (fl 0x0306 [] 0 [] 7) (so { o0 with state := .fault }), fl 0x0306 [] 0 [] 7, 7, outOf (wf (fl 0x0306 [] 0 [] 7) (so { o0 with state := .fault })) (7 : Outlet8), by decide +kernel, rfl, ⟨rfl, rfl, by decide +kernel, rfl, by decide +kernel⟩, by decide +kernel⟩,
  ⟨wf (fl 0x0306 [] 0 [] 7) (so { o0 with state := .ended, unlockSeq := some 2 }), fl 0x0306 [] 0 [] 7, 7, outOf (wf (fl 0x0306 [] 0 [] 7) (so { o0 with state := .ended, unlockSeq := some 2 })) (7 : Outlet8), by decide +kernel, rfl, ⟨rfl, rfl, by decide +kernel, rfl, by decide +kernel⟩, by decide +kernel⟩,
  ⟨wf (fl 0x0306 [] 0 [] 7) (so { o0 with state := .fault, chkMirror := .passed, chkVolt := .passed }), fl 0x0306 [] 0 [] 7, 7, outOf (wf (fl 0x0306 [] 0 [] 7) (so { o0 with state := .fault, chkMirror := .passed, chkVolt := .passed })) (7 : Outlet8), by decide +kernel, rfl, ⟨rfl, rfl, by decide +kernel, rfl, by decide +kernel⟩, by decide +kernel⟩⟩

/-- States and operands that meet the hypotheses of SessionTransitions, clause by clause. -/
theorem wit_SessionTransitions :
  (∃ (s : State), ∃ (n : Outlet8), ∃ (o : Outlet), ∃ (p : Pilot), o = outOf s n ∧ Settled n s ∧ o.candidate = some p) ∧
  (∃ (s : State), ∃ (n : Outlet8), ∃ (o : Outlet), ∃ e, o = outOf s n ∧ Settled n s ∧ o.pilotErr = none ∧ o.pilotFault? = some e ∧ 1 ≤ o.state.num ∧ o.state.num ≤ 10) ∧
  (∃ (s : State), ∃ (n : Outlet8), ∃ (o : Outlet), o = outOf s n ∧ Settled n s ∧ o.state = .connected ∧ o.entry + 64000 ≤ s.now ∧ iresOk s n = true ∧ o.caseT = false ∧ (¬(1 ≤ o.pp ∧ o.pp ≤ 4))) ∧
  (∃ (s : State), ∃ (n : Outlet8), ∃ (o : Outlet), o = outOf s n ∧ Settled n s ∧ o.state = .authorising ∧ o.authEnd ≤ s.now ∧ o.authed = false ∧ o.denied = false) ∧
  (∃ (s : State), ∃ (n : Outlet8), ∃ (o : Outlet), o = outOf s n ∧ Settled n s ∧ o.state = .stopping ∧ o.entry + 384000 ≤ s.now) ∧
  (∃ (s : State), ∃ (n : Outlet8), ∃ (o : Outlet), o = outOf s n ∧ Settled n s ∧ o.state = .fault ∧ o.faultHigh = false ∧ o.entry + 192000 ≤ s.now ∧ o.openFailed = false) ∧
  (∃ (s : State), ∃ (n : Outlet8), ∃ (o : Outlet), ∃ (t0 : Nat), ∃ r, o = outOf s n ∧ Settled n s ∧ o.state = .charging ∧ o.candidate = none ∧ o.stopReq = some (t0, r) ∧ t0 < s.now ∧ o.det = some .c ∧ 60 ≤ o.iLim) ∧
  (∃ (s : State), ∃ (n : Outlet8), ∃ (o : Outlet), ∃ p, o = outOf s n ∧ Settled n s ∧ o.preAuth = some p ∧ p.untilTick ≤ s.now) :=
  ⟨⟨so { o0 with bandRun := #v[0, 192, 0, 0, 0] }, 7, outOf (so { o0 with bandRun := #v[0, 192, 0, 0, 0] }) (7 : Outlet8), .b, rfl, ⟨rfl, by decide +kernel, by decide +kernel, by decide +kernel⟩, by decide +kernel⟩,
  ⟨so { o0 with state := .ended, errRun := #v[128, 0, 0, 0] }, 7, outOf (so { o0 with state := .ended, errRun := #v[128, 0, 0, 0] }) (7 : Outlet8), .hw, rfl, ⟨rfl, by decide +kernel, by decide +kernel, by decide +kernel⟩, by decide +kernel⟩,
  ⟨at_ 64000 (so { o0 with state := .connected }), 7, outOf (at_ 64000 (so { o0 with state := .connected })) (7 : Outlet8), rfl, ⟨rfl, by decide +kernel, by decide +kernel, by decide +kernel⟩, by decide +kernel⟩,
  ⟨at_ 7680000 (so { o0 with state := .authorising }), 7, outOf (at_ 7680000 (so { o0 with state := .authorising })) (7 : Outlet8), rfl, ⟨rfl, by decide +kernel, by decide +kernel, by decide +kernel⟩, by decide +kernel⟩,
  ⟨at_ 384000 (so { o0 with state := .stopping }), 7, outOf (at_ 384000 (so { o0 with state := .stopping })) (7 : Outlet8), rfl, ⟨rfl, by decide +kernel, by decide +kernel, by decide +kernel⟩, by decide +kernel⟩,
  ⟨at_ 192000 (so { o0 with state := .fault }), 7, outOf (at_ 192000 (so { o0 with state := .fault })) (7 : Outlet8), rfl, ⟨rfl, by decide +kernel, by decide +kernel, by decide +kernel⟩, by decide +kernel⟩,
  ⟨at_ 1 (so { o0 with state := .charging, stopReq := some (0, .hostStop), det := some .c, iLim := 60 }), 7, outOf (at_ 1 (so { o0 with state := .charging, stopReq := some (0, .hostStop), det := some .c, iLim := 60 })) (7 : Outlet8), 0, .hostStop, rfl, ⟨rfl, by decide +kernel, by decide +kernel, by decide +kernel⟩, by decide +kernel⟩,
  ⟨so { o0 with preAuth := some { authRef := 0, limit := 0, untilTick := 0 } }, 7, outOf (so { o0 with preAuth := some { authRef := 0, limit := 0, untilTick := 0 } }) (7 : Outlet8), { authRef := 0, limit := 0, untilTick := 0 }, rfl, ⟨rfl, by decide +kernel, by decide +kernel, by decide +kernel⟩, by decide +kernel⟩⟩

/-- States and operands that meet the hypotheses of ContactorAndLock, clause by clause. -/
theorem wit_ContactorAndLock :
  (∃ (s : State), ∃ (n : Outlet8), ∃ (o : Outlet), ∃ (t0 : Nat), o = outOf s n ∧ Settled n s ∧ o.setTick = some t0 ∧ t0 + 64 * o.pullMs ≤ s.now) ∧
  (∃ (s : State), ∃ (n : Outlet8), ∃ (o : Outlet), o = outOf s n ∧ Settled n s ∧ 3 ≤ o.mirRun ∧ o.mirror ≠ some o.mirLast) ∧
  (∃ (s : State), ∃ (n : Outlet8), ∃ (o : Outlet), ∃ (t0 : Nat), o = outOf s n ∧ Settled n s ∧ o.mirWait = some (t0, true) ∧ t0 + 1920 ≤ s.now ∧ o.state = .closing) ∧
  (∃ (s : State), ∃ (n : Outlet8), ∃ (o : Outlet), ∃ (t0 : Nat), o = outOf s n ∧ Settled n s ∧ o.mirWait = some (t0, false) ∧ t0 + 1920 ≤ s.now ∧ o.state = .opening ∧ ((o.chkVolt = .passed ∨ o.chkVolt = .failed))) ∧
  (∃ (s : State), ∃ (n : Outlet8), ∃ (o : Outlet), o = outOf s n ∧ Settled n s ∧ s.ses.shunt = true ∧ s.ses.shuntTick + 12800 ≤ s.now ∧ ((∀ m : Outlet8, bitAt (activeByte s 12) m.val = true → (outOf s m).state ≠ .welded))) ∧
  (∃ (s : State), ∃ (n : Outlet8), ∃ (o : Outlet), o = outOf s n ∧ Settled n s ∧ 3 ≤ o.lockRun ∧ o.lock ≠ some o.lockLast ∧ ((o.unlockFailed = false ∨ o.lockIdle = false))) ∧
  (∃ (s : State), ∃ (n : Outlet8), ∃ (o : Outlet), ∃ (d : LockDrive), ∃ (t0 : Nat), o = outOf s n ∧ Settled n s ∧ o.lockDrive = some d ∧ d.confirmed = some t0 ∧ t0 + 1280 ≤ s.now ∧ o.state = .locking ∧ o.lock = some true ∧ o.lockFailed = false ∧ o.lockAsk = none) ∧
  (∃ (s : State), ∃ (n : Outlet8), ∃ (o : Outlet), ∃ (d : LockDrive), o = outOf s n ∧ Settled n s ∧ o.lockDrive = some d ∧ d.confirmed = none ∧ d.retryAt = none ∧ d.start + 640 * o.lockT ≤ s.now ∧ d.attempt = 1) ∧
  (∃ (s : State), ∃ (n : Outlet8), ∃ (o : Outlet), ∃ (d : LockDrive), o = outOf s n ∧ Settled n s ∧ o.lockDrive = some d ∧ d.confirmed = none ∧ d.retryAt = none ∧ d.start + 640 * o.lockT ≤ s.now ∧ d.attempt ≠ 1 ∧ d.toLock = true ∧ o.state = .locking ∧ o.caseT = false) ∧
  (∃ (s : State), ∃ (n : Outlet8), ∃ (o : Outlet), ∃ (d : LockDrive), ∃ (t0 : Nat), o = outOf s n ∧ Settled n s ∧ o.lockDrive = some d ∧ d.retryAt = some t0 ∧ t0 ≤ s.now) :=
  ⟨⟨at_ 6400 (so { o0 with setTick := some 0 }), 7, outOf (at_ 6400 (so { o0 with setTick := some 0 })) (7 : Outlet8), 0, rfl, ⟨rfl, by decide +kernel, by decide +kernel, by decide +kernel⟩, by decide +kernel⟩,
  ⟨so { o0 with mirRun := 3, mirLast := true }, 7, outOf (so { o0 with mirRun := 3, mirLast := true }) (7 : Outlet8), rfl, ⟨rfl, by decide +kernel, by decide +kernel, by decide +kernel⟩, by decide +kernel⟩,
  ⟨at_ 1920 (so { o0 with state := .closing, mirWait := some (0, true) }), 7, outOf (at_ 1920 (so { o0 with state := .closing, mirWait := some (0, true) })) (7 : Outlet8), 0, rfl, ⟨rfl, by decide +kernel, by decide +kernel, by decide +kernel⟩, by decide +kernel⟩,
  ⟨at_ 1920 (so { o0 with state := .opening, mirWait := some (0, false), chkVolt := .passed }), 7, outOf (at_ 1920 (so { o0 with state := .opening, mirWait := some (0, false), chkVolt := .passed })) (7 : Outlet8), 0, rfl, ⟨rfl, by decide +kernel, by decide +kernel, by decide +kernel⟩, by decide +kernel⟩,
  ⟨at_ 12800 ({ so o0 with ses := { (so o0).ses with shunt := true } }), 7, outOf (at_ 12800 ({ so o0 with ses := { (so o0).ses with shunt := true } })) (7 : Outlet8), rfl, ⟨rfl, by decide +kernel, by decide +kernel, by decide +kernel⟩, by decide +kernel⟩,
  ⟨so { o0 with lockRun := 3, lockLast := true }, 7, outOf (so { o0 with lockRun := 3, lockLast := true }) (7 : Outlet8), rfl, ⟨rfl, by decide +kernel, by decide +kernel, by decide +kernel⟩, by decide +kernel⟩,
  ⟨at_ 1280 (so { o0 with state := .locking, lock := some true, lockDrive := some { toLock := true, start := 0, confirmed := some 0 } }), 7, outOf (at_ 1280 (so { o0 with state := .locking, lock := some true, lockDrive := some { toLock := true, start := 0, confirmed := some 0 } })) (7 : Outlet8), { toLock := true, start := 0, confirmed := some 0 }, 0, rfl, ⟨rfl, by decide +kernel, by decide +kernel, by decide +kernel⟩, by decide +kernel⟩,
  ⟨at_ 19200 (so { o0 with lockDrive := some { toLock := true, start := 0 } }), 7, outOf (at_ 19200 (so { o0 with lockDrive := some { toLock := true, start := 0 } })) (7 : Outlet8), { toLock := true, start := 0 }, rfl, ⟨rfl, by decide +kernel, by decide +kernel, by decide +kernel⟩, by decide +kernel⟩,
  ⟨at_ 19200 (so { o0 with state := .locking, lockDrive := some { toLock := true, start := 0, attempt := 2 } }), 7, outOf (at_ 19200 (so { o0 with state := .locking, lockDrive := some { toLock := true, start := 0, attempt := 2 } })) (7 : Outlet8), { toLock := true, start := 0, attempt := 2 }, rfl, ⟨rfl, by decide +kernel, by decide +kernel, by decide +kernel⟩, by decide +kernel⟩,
  ⟨so { o0 with lockDrive := some { toLock := true, start := 0, retryAt := some 0 } }, 7, outOf (so { o0 with lockDrive := some { toLock := true, start := 0, retryAt := some 0 } }) (7 : Outlet8), { toLock := true, start := 0, retryAt := some 0 }, 0, rfl, ⟨rfl, by decide +kernel, by decide +kernel, by decide +kernel⟩, by decide +kernel⟩⟩

/-- States and operands that meet the hypotheses of ResidualCurrentProtection, clause by clause. -/
theorem wit_ResidualCurrentProtection :
  (∃ (s : State), ∃ (n : Outlet8), ∃ (o : Outlet), ∃ (i : Fin 3), o = outOf s n ∧ Settled n s ∧ ((o.state = .closing ∨ o.state = .charging ∨ o.state = .stopping ∨ o.state = .opening)) ∧ (rcdLevels.getD i.val (0, 1)).2 ≤ o.rcdRun[i.val]) ∧
  (∃ (s : State), ∃ (n : Outlet8), ∃ (o : Outlet), ∃ (i : Fin 3), o = outOf s n ∧ Settled n s ∧ ((o.state = .closing ∨ o.state = .charging ∨ o.state = .stopping ∨ o.state = .opening)) ∧ ((∀ j : Fin 3, o.rcdRun[j.val] < (rcdLevels.getD j.val (0, 1)).2)) ∧ (rcdLevels.getD (3 + i.val) (0, 1)).2 ≤ o.rcdRun[3 + i.val]) ∧
  (∃ (s : State), ∃ (n : Outlet8), ∃ (o : Outlet), ∃ (w : SelfTest), ∃ (mean : Rat), o = outOf s n ∧ Settled n s ∧ o.state = .selfTest ∧ o.test = some w ∧ w.done = none ∧ w.step = 1 ∧ w.start + 1280 ≤ s.now ∧ mean = (if w.count = 0 then 0 else w.sum / w.count) ∧ mean < 2 / 1000 ∧ -(2 / 1000) < mean) ∧
  (∃ (s : State), ∃ (n : Outlet8), ∃ (o : Outlet), ∃ (w : SelfTest), ∃ (mean : Rat), o = outOf s n ∧ Settled n s ∧ o.state = .selfTest ∧ o.test = some w ∧ w.done = none ∧ w.step = 1 ∧ w.start + 1280 ≤ s.now ∧ mean = (if w.count = 0 then 0 else w.sum / w.count) ∧ ((2 / 1000 ≤ mean ∨ mean ≤ -(2 / 1000)))) ∧
  (∃ (s : State), ∃ (n : Outlet8), ∃ (o : Outlet), o = outOf s n ∧ Settled n s ∧ ((∃ p : Fin 3, 500 ≤ o.overRun[p.val])) ∧ o.stopReq = none) :=
  ⟨⟨so { o0 with state := .charging, rcdRun := #v[0, 0, 2560, 0, 0, 0] }, 7, outOf (so { o0 with state := .charging, rcdRun := #v[0, 0, 2560, 0, 0, 0] }) (7 : Outlet8), 2, rfl, ⟨rfl, by decide +kernel, by decide +kernel, by decide +kernel⟩, by decide +kernel⟩,
  ⟨so { o0 with state := .opening, rcdRun := #v[63999, 12799, 2559, 0, 0, 640] }, 7, outOf (so { o0 with state := .opening, rcdRun := #v[63999, 12799, 2559, 0, 0, 640] }) (7 : Outlet8), 2, rfl, ⟨rfl, by decide +kernel, by decide +kernel, by decide +kernel⟩, by decide +kernel⟩,
  ⟨at_ 1280 (so { o0 with state := .selfTest, test := some { step := 1, start := 0 } }), 7, outOf (at_ 1280 (so { o0 with state := .selfTest, test := some { step := 1, start := 0 } })) (7 : Outlet8), { step := 1, start := 0 }, (if ({ step := 1, start := 0 } : SelfTest).count = 0 then 0 else ({ step := 1, start := 0 } : SelfTest).sum / ({ step := 1, start := 0 } : SelfTest).count), rfl, ⟨rfl, by decide +kernel, by decide +kernel, by decide +kernel⟩, by decide +kernel, by decide +kernel, by decide +kernel, by decide +kernel, by decide +kernel, rfl, by decide +kernel⟩,
  ⟨at_ 1280 (so { o0 with state := .selfTest, test := some { step := 1, start := 0, sum := 2 / 1000, count := 1 } }), 7, outOf (at_ 1280 (so { o0 with state := .selfTest, test := some { step := 1, start := 0, sum := 2 / 1000, count := 1 } })) (7 : Outlet8), { step := 1, start := 0, sum := 2 / 1000, count := 1 }, (if ({ step := 1, start := 0, sum := 2 / 1000, count := 1 } : SelfTest).count = 0 then 0 else ({ step := 1, start := 0, sum := 2 / 1000, count := 1 } : SelfTest).sum / ({ step := 1, start := 0, sum := 2 / 1000, count := 1 } : SelfTest).count), rfl, ⟨rfl, by decide +kernel, by decide +kernel, by decide +kernel⟩, by decide +kernel, by decide +kernel, by decide +kernel, by decide +kernel, by decide +kernel, rfl, by decide +kernel⟩,
  ⟨so { o0 with overRun := #v[0, 0, 500] }, 7, outOf (so { o0 with overRun := #v[0, 0, 500] }) (7 : Outlet8), rfl, ⟨rfl, by decide +kernel, by decide +kernel, by decide +kernel⟩, by decide +kernel⟩⟩

/-- States and operands that meet the hypotheses of SafetyInputsAndBlock, clause by clause. -/
theorem wit_SafetyInputsAndBlock :
  (∃ (s : State), ∃ (c : Fin 4), Undiscarded s ∧ s.saf.active.isSome = true ∧ 1 ≤ activeByte s 10 ∧ activeByte s 10 ≤ (s.saf.inp[c.val]).openRun ∧ (s.saf.inp[c.val]).recog ≠ some true ∧ pairUsed s (pairOfChan c) = true) ∧
  (∃ (s : State), ∃ (c : Fin 4), ∃ (t0 : Nat), Undiscarded s ∧ pairUsed s (pairOfChan c) = true ∧ (s.saf.inp[c.val]).waitOpen = some t0 ∧ t0 + pairDisc s (pairOfChan c) ≤ s.now) ∧
  (∃ (s : State), ∃ (k : Fin 2), Undiscarded s ∧ (s.saf.pair[k.val]).chat = true ∧ ((∀ c : Fin 4, (c = chanA k ∨ c = chanB k) → (s.saf.inp[c.val]).recog = some false ∧ (s.saf.inp[c.val]).quietFrom + 10000 ≤ s.saf.samples))) ∧
  (∃ (s : State), LinkUp s) ∧
  (∃ (s : State), ∃ f, Front 0x0404 f s ∧ f.p 16 1 = 1 ∧ (s.saf.pair[0]).stop = true ∧ releasable s 0 = true) ∧
  (∃ (s : State), ∃ f, Front 0x0404 f s ∧ f.p 16 1 = 1 ∧ (s.saf.pair[0]).stop = false) ∧
  (∃ (s : State), ∃ f, Front 0x0404 f s ∧ f.p 16 1 = 1 ∧ (s.saf.pair[0]).stop = true ∧ releasable s 0 = false) ∧
  (∃ (s : State), ∃ f, Front 0x0405 f s) ∧
  (∃ (s : State), ∃ (f : Flight), ∃ b, ∃ (p : PendBlock), Front 0x0401 f s ∧ parseBlock f.inBuf = some b ∧ (p = ({ bytes := b, edition := s.saf.editions + 1, tick := s.now } : PendBlock))) ∧
  (∃ (s : State), ∃ (f : Flight), Front 0x0401 f s ∧ parseBlock f.inBuf = none) ∧
  (∃ (s : State), ∃ (f : Flight), ∃ b, Front 0x0402 f s ∧ f.p 16 1 = 0 ∧ s.saf.active = some b) ∧
  (∃ (s : State), ∃ (f : Flight), Front 0x0402 f s ∧ f.p 16 1 = 0 ∧ s.saf.active = none) ∧
  (∃ (s : State), ∃ (f : Flight), ∃ (p : PendBlock), s.saf.pend = some p ∧ Front 0x0403 f s ∧ f.p 20 4 = p.edition.toNat ∧ ((∃ n : Outlet8, 1 ≤ (outOf s n).state.num ∧ (outOf s n).state.num ≤ 9))) ∧
  (∃ (s : State), ∃ (f : Flight), ∃ (p : PendBlock), s.saf.pend = some p ∧ Front 0x0403 f s ∧ f.p 20 4 = p.edition.toNat ∧ ((∀ n : Outlet8, ¬(1 ≤ (outOf s n).state.num ∧ (outOf s n).state.num ≤ 9))) ∧ f.p 16 4 = crc32c p.bytes ∧ ((∀ n : Outlet8, blockMatches p.bytes n s = true))) ∧
  (∃ (s : State), ∃ (f : Flight), ∃ (p : PendBlock), Undiscarded s ∧ s.saf.pend = some p ∧ p.go = false ∧ p.tick + 38400000 ≤ s.now) ∧
  (∃ (s : State), ∃ (f : Flight), Front 0x0402 f s ∧ 1 < f.p 16 1) ∧
  (∃ (s : State), ∃ (f : Flight), ∃ p, Front 0x0402 f s ∧ f.p 16 1 = 1 ∧ s.saf.pend = some p) ∧
  (∃ (s : State), ∃ (f : Flight), Front 0x0402 f s ∧ f.p 16 1 = 1 ∧ s.saf.pend = none) ∧
  (∃ (s : State), ∃ (f : Flight), Front 0x0403 f s ∧ s.saf.pend = none) ∧
  (∃ (s : State), ∃ (f : Flight), ∃ p, Front 0x0403 f s ∧ s.saf.pend = some p ∧ f.p 20 4 ≠ p.edition.toNat) ∧
  (∃ (s : State), ∃ (f : Flight), ∃ p, Front 0x0403 f s ∧ s.saf.pend = some p ∧ f.p 20 4 = p.edition.toNat ∧ (∀ n : Outlet8, ¬(1 ≤ (outOf s n).state.num ∧ (outOf s n).state.num ≤ 9)) ∧ f.p 16 4 ≠ crc32c p.bytes) ∧
  (∃ (s : State), ∃ (f : Flight), ∃ p, ∃ (n : Outlet8), Front 0x0403 f s ∧ s.saf.pend = some p ∧ f.p 20 4 = p.edition.toNat ∧ (∀ n : Outlet8, ¬(1 ≤ (outOf s n).state.num ∧ (outOf s n).state.num ≤ 9)) ∧ f.p 16 4 = crc32c p.bytes ∧ blockMatches p.bytes n s = false) ∧
  (∃ (s : State), ∃ (f : Flight), Front 0x0404 f s ∧ (f.p 16 1 = 0 ∨ 3 < f.p 16 1)) :=
  ⟨⟨{ up with saf := { up.saf with active := some stopBlk, inp := Vector.replicate 4 { openRun := 8 }, pair := up.saf.pair } }, 3, by delta Undiscarded; decide +kernel, by decide +kernel⟩,
  ⟨at_ 640 ({ up with saf := { up.saf with active := some stopBlk, inp := Vector.replicate 4 { waitOpen := some 0 }, pair := up.saf.pair } }), 3, 0, by delta Undiscarded; decide +kernel, by decide +kernel⟩,
  ⟨{ up with saf := { up.saf with active := some stopBlk, inp := Vector.replicate 4 { recog := some false }, pair := Vector.replicate 2 { chat := true }, samples := 10000 } }, 1, by delta Undiscarded; decide +kernel, by decide +kernel⟩,
  ⟨up, by delta LinkUp; decide +kernel⟩,
  ⟨wf (fl 0x0404 ([1])) ({ up with saf := { up.saf with active := some stopBlk, inp := Vector.replicate 4 { recog := some false }, pair := #v[{ stop := true }, {}] } }), fl 0x0404 ([1]), ⟨rfl, rfl, by decide +kernel, rfl, by decide +kernel⟩, by decide +kernel⟩,
  ⟨wf (fl 0x0404 ([1])) (up), fl 0x0404 ([1]), ⟨rfl, rfl, by decide +kernel, rfl, by decide +kernel⟩, by decide +kernel⟩,
  ⟨wf (fl 0x0404 ([1])) ({ up with saf := { up.saf with active := some stopBlk, inp := up.saf.inp, pair := #v[{ stop := true }, {}] } }), fl 0x0404 ([1]), ⟨rfl, rfl, by decide +kernel, rfl, by decide +kernel⟩, by decide +kernel⟩,
  ⟨wf (fl 0x0405 []) (up), fl 0x0405 [], ⟨rfl, rfl, by decide +kernel, rfl, by decide +kernel⟩⟩,
  ⟨wf (fl 0x0401 [] 128 (safBlk)) (up), fl 0x0401 [] 128 (safBlk), (parseBlock safBlk).get (by decide +kernel), ({ bytes := ((parseBlock safBlk).get (by decide +kernel)), edition := (wf (fl 0x0401 [] 128 (safBlk)) (up)).saf.editions + 1, tick := (wf (fl 0x0401 [] 128 (safBlk)) (up)).now } : PendBlock), ⟨rfl, rfl, by decide +kernel, rfl, by decide +kernel⟩, by simp [fl], rfl⟩,
  ⟨wf (fl 0x0401 []) (up), fl 0x0401 [], ⟨rfl, rfl, by decide +kernel, rfl, by decide +kernel⟩, by decide +kernel⟩,
  ⟨wf (fl 0x0402 []) ({ up with saf := { up.saf with active := some stopBlk, inp := up.saf.inp, pair := up.saf.pair } }), fl 0x0402 [], stopBlk, ⟨rfl, rfl, by decide +kernel, rfl, by decide +kernel⟩, by decide +kernel⟩,
  ⟨wf (fl 0x0402 []) (up), fl 0x0402 [], ⟨rfl, rfl, by decide +kernel, rfl, by decide +kernel⟩, by decide +kernel⟩,
  ⟨wf (fl 0x0403 []) ({ so { o0 with state := .connected } with saf := { up.saf with pend := some safPend } }), fl 0x0403 [], safPend, by decide +kernel, ⟨rfl, rfl, by decide +kernel, rfl, by decide +kernel⟩, by decide +kernel, ⟨0, by decide +kernel⟩⟩,
  ⟨wf (fl 0x0403 (leBytes 4 (crc32c safBlk) ++ leBytes 4 0)) ({ (up) with saf := { (up).saf with pend := some safPend } }), fl 0x0403 (leBytes 4 (crc32c safBlk) ++ leBytes 4 0), safPend, by decide +kernel, ⟨rfl, rfl, by decide +kernel, rfl, by decide +kernel⟩, by decide +kernel⟩,
  ⟨at_ 38400000 ({ (up) with saf := { (up).saf with pend := some safPend } }), fl 0 [], safPend, by delta Undiscarded; decide +kernel, by decide +kernel⟩,
  ⟨wf (fl 0x0402 ([2])) (up), fl 0x0402 ([2]), ⟨rfl, rfl, by decide +kernel, rfl, by decide +kernel⟩, by decide +kernel⟩,
  ⟨wf (fl 0x0402 ([1])) ({ (up) with saf := { (up).saf with pend := some safPend } }), fl 0x0402 ([1]), safPend, ⟨rfl, rfl, by decide +kernel, rfl, by decide +kernel⟩, by decide +kernel⟩,
  ⟨wf (fl 0x0402 ([1])) (up), fl 0x0402 ([1]), ⟨rfl, rfl, by decide +kernel, rfl, by decide +kernel⟩, by decide +kernel⟩,
  ⟨wf (fl 0x0403 []) (up), fl 0x0403 [], ⟨rfl, rfl, by decide +kernel, rfl, by decide +kernel⟩, by decide +kernel⟩,
  ⟨wf (fl 0x0403 (leBytes 4 0 ++ leBytes 4 1)) ({ (up) with saf := { (up).saf with pend := some safPend } }), fl 0x0403 (leBytes 4 0 ++ leBytes 4 1), safPend, ⟨rfl, rfl, by decide +kernel, rfl, by decide +kernel⟩, by decide +kernel⟩,
  ⟨wf (fl 0x0403 []) ({ (up) with saf := { (up).saf with pend := some safPend } }), fl 0x0403 [], safPend, ⟨rfl, rfl, by decide +kernel, rfl, by decide +kernel⟩, by decide +kernel⟩,
  ⟨wf (fl 0x0403 (leBytes 4 (crc32c safBlk) ++ leBytes 4 0)) ({ so { ocfg := 0 } with saf := { up.saf with pend := some safPend } }), fl 0x0403 (leBytes 4 (crc32c safBlk) ++ leBytes 4 0), safPend, 7, ⟨rfl, rfl, by decide +kernel, rfl, by decide +kernel⟩, by decide +kernel⟩,
  ⟨wf (fl 0x0404 ([4])) (up), fl 0x0404 ([4]), ⟨rfl, rfl, by decide +kernel, rfl, by decide +kernel⟩, by decide +kernel⟩⟩

/-- States and operands that meet the hypotheses of VehicleMatching, clause by clause. -/
theorem wit_VehicleMatching :
  (∃ (s : State), ∃ (n : Outlet8), ∃ (l : Link), l = linkOf s n ∧ s.isReady 5 = true) ∧
  (∃ (s : State), ∃ (n : Outlet8), ∃ (l : Link), ∃ (vmac : W48), ∃ (runId : W64), l = linkOf s n ∧ s.isReady 5 = true ∧ slacEligible s n = true) ∧
  (∃ (s : State), ∃ (n : Outlet8), ∃ (l : Link), ∃ (runId : W64), ∃ (atten : List (Option Nat)), ∃ (a : Nat), l = linkOf s n ∧ s.isReady 5 = true ∧ l.slac = 2 ∧ l.runId = runId ∧ atten.getD n.val none = some a ∧ ((∀ m : Outlet8, m ≠ n → ∀ b, atten.getD m.val none = some b → a < b + 6))) ∧
  (∃ (s : State), ∃ (n : Outlet8), ∃ (l : Link), ∃ (vmac : W48), ∃ (runId : W64), l = linkOf s n ∧ s.isReady 5 = true ∧ l.slac = 3 ∧ l.runId = runId ∧ l.mac = vmac) ∧
  (∃ (s : State), ∃ (n : Outlet8), ∃ (l : Link), l = linkOf s n ∧ s.isReady 5 = true ∧ ((l.slac = 2 ∨ l.slac = 3))) ∧
  (∃ (s : State), ∃ (n : Outlet8), ∃ (l : Link), l = linkOf s n ∧ s.isReady 5 = true ∧ l.slac = 1 ∧ (outOf s n).session ≠ 0 ∧ (outOf s n).hlc = true ∧ (mirrorOf s n).released = false ∧ (outOf s n).modeFixed = false ∧ (outOf s n).connTick + 64000 * (s.vlk.outCfg[n.val]).2 ≤ s.now) ∧
  (∃ (s : State), ∃ (n : Outlet8), ∃ (l : Link), ∃ addr, ∃ (ask : Bool), ∃ (tls : Bool), l = linkOf s n ∧ s.isReady 5 = true ∧ (mirrorOf s n).matched = true ∧ addr = linkLocal (stationMac s n) ∧ security s n ask = some tls) ∧
  (∃ (s : State), ∃ (n : Outlet8), ∃ (l : Link), ∃ addr, ∃ h, ∃ v13, l = linkOf s n ∧ s.isReady 5 = true ∧ (mirrorOf s n).matched = true ∧ addr = linkLocal (stationMac s n) ∧ l.tcp = false ∧ security s n true = some true ∧ tlsChoice h = some v13 ∧ longCount s < 32) ∧
  (∃ (s : State), ∃ (n : Outlet8), ∃ (l : Link), ∃ addr, l = linkOf s n ∧ s.isReady 5 = true ∧ (mirrorOf s n).matched = true ∧ addr = linkLocal (stationMac s n) ∧ l.tcp = false ∧ l.sdpTls = false ∧ security s n false = some false) ∧
  (∃ (s : State), ∃ (n : Outlet8), ∃ (l : Link), ∃ addr, ∃ (ask : TlsAsk), l = linkOf s n ∧ s.isReady 5 = true ∧ (mirrorOf s n).matched = true ∧ addr = linkLocal (stationMac s n) ∧ l.tcp = true) :=
  ⟨⟨lk { slac := 5 } {} oh, 7, linkOf (lk { slac := 5 } {} oh) (7 : Outlet8), rfl, by decide +kernel⟩,
  ⟨so { oh with state := .connected }, 7, linkOf (so { oh with state := .connected }) (7 : Outlet8), 0, 0, rfl, by decide +kernel⟩,
  ⟨lk { slac := 2, runId := 7 } {} oh, 0, linkOf (lk { slac := 2, runId := 7 } {} oh) (0 : Outlet8), 7, [some 10], 10, rfl, by decide +kernel, by decide +kernel, by decide +kernel, by decide +kernel, by
      intro m hm b hb
      match m, hm with
      | ⟨0, _⟩, hm => exact absurd rfl hm
      | ⟨k + 1, _⟩, _ => simp at hb⟩,
  ⟨lk { slac := 3 } {} oh, 7, linkOf (lk { slac := 3 } {} oh) (7 : Outlet8), 0, 0, rfl, by decide +kernel⟩,
  ⟨lk { slac := 3 } {} oh, 7, linkOf (lk { slac := 3 } {} oh) (7 : Outlet8), rfl, by decide +kernel⟩,
  ⟨at_ 1280000 (lk { slac := 1 } {} { oh with session := 1 }), 7, linkOf (at_ 1280000 (lk { slac := 1 } {} { oh with session := 1 })) (7 : Outlet8), rfl, by decide +kernel⟩,
  ⟨lk {} { matched := true } oh, 7, linkOf (lk {} { matched := true } oh) (7 : Outlet8), linkLocal (stationMac (lk {} { matched := true } oh) (7 : Outlet8)), true, false, rfl, by decide +kernel, by decide +kernel, rfl, by decide +kernel⟩,
  ⟨keyed 1 { type := .pair, usage := 1, pub := gKey } { lk {} { matched := true } oh with vlk := { (lk {} { matched := true } oh).vlk with secc := cert } }, 7, linkOf (keyed 1 { type := .pair, usage := 1, pub := gKey } { lk {} { matched := true } oh with vlk := { (lk {} { matched := true } oh).vlk with secc := cert } }) (7 : Outlet8), linkLocal (stationMac (keyed 1 { type := .pair, usage := 1, pub := gKey } { lk {} { matched := true } oh with vlk := { (lk {} { matched := true } oh).vlk with secc := cert } }) (7 : Outlet8)), { tls12 := true, tls13 := true, suites := [.aes128GcmSha256], p256 := true, resume := false, earlyData := false, compression := false, serverName := [], clientCert := true }, true, rfl, by decide +kernel, by decide +kernel, rfl, by decide +kernel⟩,
  ⟨lk {} { matched := true } oh, 7, linkOf (lk {} { matched := true } oh) (7 : Outlet8), linkLocal (stationMac (lk {} { matched := true } oh) (7 : Outlet8)), rfl, by decide +kernel, by decide +kernel, rfl, by decide +kernel⟩,
  ⟨lk { tcp := true } { matched := true } oh, 7, linkOf (lk { tcp := true } { matched := true } oh) (7 : Outlet8), linkLocal (stationMac (lk { tcp := true } { matched := true } oh) (7 : Outlet8)), .none, rfl, by decide +kernel, by decide +kernel, rfl, by decide +kernel⟩⟩

/-- States and operands that meet the hypotheses of VehicleSession, clause by clause. -/
theorem wit_VehicleSession :
  (∃ (s : State), ∃ (r : State), ∃ (n : Outlet8), ∃ (l : Link), ∃ (offers : List AppOffer), ∃ (o : AppOffer), l = linkOf s n ∧ s.isReady 5 = true ∧ l.tcp = true ∧ l.hand = none ∧ l.dinDone = false ∧ (r = modLink n (fun l => { l with lastReq := s.now }) s) ∧ l.phase = .idle ∧ l.resumeUntil = none ∧ bestOffer (offers.filter (offerOk s n)) = some o) ∧
  (∃ (s : State), ∃ (r : State), ∃ (n : Outlet8), ∃ (l : Link), ∃ (sid : W64), ∃ (evccid : W48), l = linkOf s n ∧ s.isReady 5 = true ∧ l.tcp = true ∧ l.hand = none ∧ l.dinDone = false ∧ (r = modLink n (fun l => { l with lastReq := s.now }) s) ∧ l.resumeUntil = none ∧ (outOf s n).modeFixed = true) ∧
  (∃ (s : State), ∃ (r : State), ∃ (n : Outlet8), ∃ (l : Link), ∃ (sid : W64), ∃ (evccid : W48), l = linkOf s n ∧ s.isReady 5 = true ∧ l.tcp = true ∧ l.hand = none ∧ l.dinDone = false ∧ (r = modLink n (fun l => { l with lastReq := s.now }) s) ∧ l.resumeUntil = none ∧ (outOf s n).modeFixed = false ∧ l.phase = .agreed) ∧
  (∃ (s : State), ∃ (r : State), ∃ (n : Outlet8), ∃ (l : Link), ∃ (c : ContractChain), l = linkOf s n ∧ s.isReady 5 = true ∧ l.tcp = true ∧ l.hand = none ∧ l.dinDone = false ∧ (r = modLink n (fun l => { l with lastReq := s.now }) s) ∧ l.v2g = false) ∧
  (∃ (s : State), ∃ (r : State), ∃ (n : Outlet8), ∃ (l : Link), l = linkOf s n ∧ s.isReady 5 = true ∧ l.tcp = true ∧ l.hand = none ∧ l.dinDone = false ∧ (r = modLink n (fun l => { l with lastReq := s.now }) s)) ∧
  (∃ (s : State), ∃ (r : State), ∃ (n : Outlet8), ∃ (l : Link), ∃ (c : ContractChain), ∃ (k : Fin 8), l = linkOf s n ∧ s.isReady 5 = true ∧ l.tcp = true ∧ l.hand = none ∧ l.dinDone = false ∧ (r = modLink n (fun l => { l with lastReq := s.now }) s) ∧ l.v2g = true ∧ (((l.proto = 2 ∧ l.pnc = true ∧ l.phase = .payment) ∨ (l.proto = 3 ∧ contractOffered s n = true ∧ l.tls = true ∧ l.phase = .authSetup))) ∧ chainOk s n c = some k) ∧
  (∃ (s : State), ∃ (r : State), ∃ (n : Outlet8), ∃ (l : Link), l = linkOf s n ∧ s.isReady 5 = true ∧ l.tcp = true ∧ l.hand = none ∧ l.dinDone = false ∧ (r = modLink n (fun l => { l with lastReq := s.now }) s) ∧ l.v2g = true ∧ l.phase ∈ authPhases l false) ∧
  (∃ (s : State), ∃ (r : State), ∃ (n : Outlet8), ∃ (l : Link), ∃ (p : EvParams), l = linkOf s n ∧ s.isReady 5 = true ∧ l.tcp = true ∧ l.hand = none ∧ l.dinDone = false ∧ (r = modLink n (fun l => { l with lastReq := s.now }) s) ∧ l.v2g = true ∧ (outOf s n).authed = true ∧ ((l.phase = .schedule ∨ l.phase = .renegotiate ∨ (l.proto = 2 ∧ l.phase = .authorised))) ∧ l.schedReady = false ∧ l.schedDenied = false ∧ (openReq s n (fun d => decide (d.kind = 2)) = false) ∧ s.vlk.open_.length < 16 ∧ s.vlk.waits = []) ∧
  (∃ (s : State), ∃ (r : State), ∃ (n : Outlet8), ∃ (l : Link), ∃ (p : EvParams), l = linkOf s n ∧ s.isReady 5 = true ∧ l.tcp = true ∧ l.hand = none ∧ l.dinDone = false ∧ (r = modLink n (fun l => { l with lastReq := s.now }) s) ∧ l.v2g = true ∧ (outOf s n).authed = false) ∧
  (∃ (s : State), ∃ (r : State), ∃ (n : Outlet8), ∃ (l : Link), ∃ (body : List Byte), l = linkOf s n ∧ s.isReady 5 = true ∧ l.tcp = true ∧ l.hand = none ∧ l.dinDone = false ∧ (r = modLink n (fun l => { l with lastReq := s.now }) s) ∧ l.v2g = true ∧ l.phase ∈ certPhases l false ∧ body.length ≤ 8192 ∧ (openReq s n (fun d => decide (d.kind = 3)) = false) ∧ s.vlk.open_.length < 16 ∧ s.vlk.waits = []) ∧
  (∃ (s : State), ∃ (r : State), ∃ (n : Outlet8), ∃ (l : Link), l = linkOf s n ∧ s.isReady 5 = true ∧ l.tcp = true ∧ l.hand = none ∧ l.dinDone = false ∧ (r = modLink n (fun l => { l with lastReq := s.now }) s) ∧ l.v2g = true ∧ l.phase = .charging ∧ l.bpt = false) ∧
  (∃ (s : State), ∃ (r : State), ∃ (n : Outlet8), ∃ (l : Link), l = linkOf s n ∧ s.isReady 5 = true ∧ l.tcp = true ∧ l.hand = none ∧ l.dinDone = false ∧ (r = modLink n (fun l => { l with lastReq := s.now }) s) ∧ l.v2g = true) ∧
  (∃ (s : State), ∃ (r : State), ∃ (n : Outlet8), ∃ (l : Link), l = linkOf s n ∧ s.isReady 5 = true ∧ l.tcp = true ∧ l.hand = none ∧ l.dinDone = false ∧ (r = modLink n (fun l => { l with lastReq := s.now }) s) ∧ l.v2g = true ∧ ((l.proto = 2 ∨ l.proto = 3)) ∧ ((l.phase = .ready ∨ l.phase = .charging))) ∧
  (∃ (s : State), ∃ (r : State), ∃ (n : Outlet8), ∃ (l : Link), ∃ (k : V2gKind), l = linkOf s n ∧ s.isReady 5 = true ∧ l.tcp = true ∧ l.hand = none ∧ l.dinDone = false ∧ (r = modLink n (fun l => { l with lastReq := s.now }) s) ∧ l.v2g = true ∧ (k = .other ∨ (k = .powerDeliveryStart ∧ l.phase ≠ .ready) ∨ (k = .authorizationSetup ∧ l.phase ≠ .setup))) ∧
  (∃ (s : State), ∃ (r : State), ∃ (n : Outlet8), ∃ (l : Link), l = linkOf s n ∧ s.isReady 5 = true ∧ l.tcp = true ∧ l.hand = none ∧ l.dinDone = false ∧ (r = modLink n (fun l => { l with lastReq := s.now }) s) ∧ l.v2g = true ∧ max l.lastReq l.openTick + 3840000 ≤ s.now) ∧
  (∃ (s : State), ∃ (r : State), ∃ (n : Outlet8), ∃ (l : Link), ∃ (h : V2gtpHeader), l = linkOf s n ∧ s.isReady 5 = true ∧ l.tcp = true ∧ l.hand = none ∧ l.dinDone = false ∧ (r = modLink n (fun l => { l with lastReq := s.now }) s) ∧ l.v2g = true ∧ 8192 < h.len) :=
  ⟨⟨lk { tcp := true } {} oh, modLink (7 : Outlet8) (fun l => { l with lastReq := (lk { tcp := true } {} oh).now }) (lk { tcp := true } {} oh), 7, linkOf (lk { tcp := true } {} oh) (7 : Outlet8), [{ proto := .iso2, major := 2, minor := 0, priority := 1 }], { proto := .iso2, major := 2, minor := 0, priority := 1 }, rfl, by decide +kernel, by decide +kernel, by decide +kernel, by decide +kernel, rfl, by decide +kernel⟩,
  ⟨lk { tcp := true, proto := 2 } {} { oh with modeFixed := true }, modLink (7 : Outlet8) (fun l => { l with lastReq := (lk { tcp := true, proto := 2 } {} { oh with modeFixed := true }).now }) (lk { tcp := true, proto := 2 } {} { oh with modeFixed := true }), 7, linkOf (lk { tcp := true, proto := 2 } {} { oh with modeFixed := true }) (7 : Outlet8), 0, 0, rfl, by decide +kernel, by decide +kernel, by decide +kernel, by decide +kernel, rfl, by decide +kernel⟩,
  ⟨lk { tcp := true, proto := 2, phase := .agreed } {} oh, modLink (7 : Outlet8) (fun l => { l with lastReq := (lk { tcp := true, proto := 2, phase := .agreed } {} oh).now }) (lk { tcp := true, proto := 2, phase := .agreed } {} oh), 7, linkOf (lk { tcp := true, proto := 2, phase := .agreed } {} oh) (7 : Outlet8), 0, 0, rfl, by decide +kernel, by decide +kernel, by decide +kernel, by decide +kernel, rfl, by decide +kernel⟩,
  ⟨lk { tcp := true } {} oh, modLink (7 : Outlet8) (fun l => { l with lastReq := (lk { tcp := true } {} oh).now }) (lk { tcp := true } {} oh), 7, linkOf (lk { tcp := true } {} oh) (7 : Outlet8), { certs := [], emaid := [] }, rfl, by decide +kernel, by decide +kernel, by decide +kernel, by decide +kernel, rfl, by decide +kernel⟩,
  ⟨lk { tcp := true, v2g := true, proto := 2 } {} oh, modLink (7 : Outlet8) (fun l => { l with lastReq := (lk { tcp := true, v2g := true, proto := 2 } {} oh).now }) (lk { tcp := true, v2g := true, proto := 2 } {} oh), 7, linkOf (lk { tcp := true, v2g := true, proto := 2 } {} oh) (7 : Outlet8), rfl, by decide +kernel, by decide +kernel, by decide +kernel, by decide +kernel, rfl⟩,
  ⟨{ (lk { tcp := true, v2g := true, proto := 2, pnc := true, phase := .payment } {} oh) with vlk := { (lk { tcp := true, v2g := true, proto := 2, pnc := true, phase := .payment } {} oh).vlk with roots := Vector.replicate 8 cert } }, modLink (7 : Outlet8) (fun l => { l with lastReq := ({ (lk { tcp := true, v2g := true, proto := 2, pnc := true, phase := .payment } {} oh) with vlk := { (lk { tcp := true, v2g := true, proto := 2, pnc := true, phase := .payment } {} oh).vlk with roots := Vector.replicate 8 cert } } : State).now }) ({ (lk { tcp := true, v2g := true, proto := 2, pnc := true, phase := .payment } {} oh) with vlk := { (lk { tcp := true, v2g := true, proto := 2, pnc := true, phase := .payment } {} oh).vlk with roots := Vector.replicate 8 cert } } : State), 7, linkOf ({ (lk { tcp := true, v2g := true, proto := 2, pnc := true, phase := .payment } {} oh) with vlk := { (lk { tcp := true, v2g := true, proto := 2, pnc := true, phase := .payment } {} oh).vlk with roots := Vector.replicate 8 cert } } : State) (7 : Outlet8), { certs := [cert], emaid := [] }, 0, rfl, by decide +kernel, by decide +kernel, by decide +kernel, by decide +kernel, rfl, by decide +kernel⟩,
  ⟨lk { tcp := true, v2g := true, proto := 2, phase := .payment } {} oh, modLink (7 : Outlet8) (fun l => { l with lastReq := (lk { tcp := true, v2g := true, proto := 2, phase := .payment } {} oh).now }) (lk { tcp := true, v2g := true, proto := 2, phase := .payment } {} oh), 7, linkOf (lk { tcp := true, v2g := true, proto := 2, phase := .payment } {} oh) (7 : Outlet8), rfl, by decide +kernel, by decide +kernel, by decide +kernel, by decide +kernel, rfl, by decide +kernel⟩,
  ⟨lk { tcp := true, v2g := true, proto := 2, phase := .authorised } {} { oh with authed := true }, modLink (7 : Outlet8) (fun l => { l with lastReq := (lk { tcp := true, v2g := true, proto := 2, phase := .authorised } {} { oh with authed := true }).now }) (lk { tcp := true, v2g := true, proto := 2, phase := .authorised } {} { oh with authed := true }), 7, linkOf (lk { tcp := true, v2g := true, proto := 2, phase := .authorised } {} { oh with authed := true }) (7 : Outlet8), { evMax := 320, evMin := 60, energyWh := 0, departure := 0, evMaxDischarge := 0, dynamic := false }, rfl, by decide +kernel, by decide +kernel, by decide +kernel, by decide +kernel, rfl, by decide +kernel⟩,
  ⟨lk { tcp := true, v2g := true, proto := 2 } {} oh, modLink (7 : Outlet8) (fun l => { l with lastReq := (lk { tcp := true, v2g := true, proto := 2 } {} oh).now }) (lk { tcp := true, v2g := true, proto := 2 } {} oh), 7, linkOf (lk { tcp := true, v2g := true, proto := 2 } {} oh) (7 : Outlet8), { evMax := 320, evMin := 60, energyWh := 0, departure := 0, evMaxDischarge := 0, dynamic := false }, rfl, by decide +kernel, by decide +kernel, by decide +kernel, by decide +kernel, rfl, by decide +kernel⟩,
  ⟨lk { tcp := true, v2g := true, proto := 2, pnc := true, phase := .payment } {} oh, modLink (7 : Outlet8) (fun l => { l with lastReq := (lk { tcp := true, v2g := true, proto := 2, pnc := true, phase := .payment } {} oh).now }) (lk { tcp := true, v2g := true, proto := 2, pnc := true, phase := .payment } {} oh), 7, linkOf (lk { tcp := true, v2g := true, proto := 2, pnc := true, phase := .payment } {} oh) (7 : Outlet8), List.replicate 8192 0, rfl, by decide +kernel, by decide +kernel, by decide +kernel, by decide +kernel, rfl, by decide +kernel⟩,
  ⟨lk { tcp := true, v2g := true, proto := 2, phase := .charging } {} oh, modLink (7 : Outlet8) (fun l => { l with lastReq := (lk { tcp := true, v2g := true, proto := 2, phase := .charging } {} oh).now }) (lk { tcp := true, v2g := true, proto := 2, phase := .charging } {} oh), 7, linkOf (lk { tcp := true, v2g := true, proto := 2, phase := .charging } {} oh) (7 : Outlet8), rfl, by decide +kernel, by decide +kernel, by decide +kernel, by decide +kernel, rfl, by decide +kernel⟩,
  ⟨lk { tcp := true, v2g := true, proto := 2 } {} oh, modLink (7 : Outlet8) (fun l => { l with lastReq := (lk { tcp := true, v2g := true, proto := 2 } {} oh).now }) (lk { tcp := true, v2g := true, proto := 2 } {} oh), 7, linkOf (lk { tcp := true, v2g := true, proto := 2 } {} oh) (7 : Outlet8), rfl, by decide +kernel, by decide +kernel, by decide +kernel, by decide +kernel, rfl, by decide +kernel⟩,
  ⟨lk { tcp := true, v2g := true, proto := 3, phase := .ready } {} oh, modLink (7 : Outlet8) (fun l => { l with lastReq := (lk { tcp := true, v2g := true, proto := 3, phase := .ready } {} oh).now }) (lk { tcp := true, v2g := true, proto := 3, phase := .ready } {} oh), 7, linkOf (lk { tcp := true, v2g := true, proto := 3, phase := .ready } {} oh) (7 : Outlet8), rfl, by decide +kernel, by decide +kernel, by decide +kernel, by decide +kernel, rfl, by decide +kernel⟩,
  ⟨lk { tcp := true, v2g := true, proto := 2 } {} oh, modLink (7 : Outlet8) (fun l => { l with lastReq := (lk { tcp := true, v2g := true, proto := 2 } {} oh).now }) (lk { tcp := true, v2g := true, proto := 2 } {} oh), 7, linkOf (lk { tcp := true, v2g := true, proto := 2 } {} oh) (7 : Outlet8), .other, rfl, by decide +kernel, by decide +kernel, by decide +kernel, by decide +kernel, rfl, by decide +kernel⟩,
  ⟨at_ 3840000 (lk { tcp := true, v2g := true, proto := 2 } {} oh), modLink (7 : Outlet8) (fun l => { l with lastReq := (at_ 3840000 (lk { tcp := true, v2g := true, proto := 2 } {} oh)).now }) (at_ 3840000 (lk { tcp := true, v2g := true, proto := 2 } {} oh)), 7, linkOf (at_ 3840000 (lk { tcp := true, v2g := true, proto := 2 } {} oh)) (7 : Outlet8), rfl, by decide +kernel, by decide +kernel, by decide +kernel, by decide +kernel, rfl, by decide +kernel⟩,
  ⟨lk { tcp := true, v2g := true, proto := 2 } {} oh, modLink (7 : Outlet8) (fun l => { l with lastReq := (lk { tcp := true, v2g := true, proto := 2 } {} oh).now }) (lk { tcp := true, v2g := true, proto := 2 } {} oh), 7, linkOf (lk { tcp := true, v2g := true, proto := 2 } {} oh) (7 : Outlet8), { version := 1, ptype := .exi, len := 8193 }, rfl, by decide +kernel, by decide +kernel, by decide +kernel, by decide +kernel, rfl, by decide +kernel⟩⟩

/-- States and operands that meet the hypotheses of VehicleDecisions, clause by clause. -/
theorem wit_VehicleDecisions :
  (∃ (s : State), ∃ (f : Flight), ∃ (d : Decision), ∃ (r : W32), s.isReady 5 = true ∧ s.vlk.open_ = [d] ∧ d.reqId = r.toNat ∧ d.deadline ≤ s.now) ∧
  (∃ (s : State), ∃ (f : Flight), ∃ (t0 : Nat), s.isReady 5 = true ∧ s.vlk.waits = [(f.seq, t0)] ∧ t0 ≤ s.now ∧ flight? f.seq s = some f) ∧
  (∃ (s : State), ∃ (f : Flight), ∃ (n : Outlet8), ∃ (t0 : Nat), s.isReady 5 = true ∧ (linkOf s n).resumeUntil = some t0 ∧ t0 ≤ s.now) ∧
  (∃ (s : State), ∃ (f : Flight), Front 0x0503 f s ∧ 10 ≤ f.p 16 2 ∧ f.p 16 2 ≤ 60000 ∧ s.hif.run = false) ∧
  (∃ (s : State), ∃ (f : Flight), Front 0x0503 f s ∧ 10 ≤ f.p 16 2 ∧ f.p 16 2 ≤ 60000 ∧ s.hif.run = true ∧ ((∀ d ∈ s.vlk.open_, d.delivered = true))) ∧
  (∃ (s : State), ∃ (f : Flight), Front 0x0504 f s ∧ ((∀ b, answerForm f b = true)) ∧ s.vlk.defaulted.contains (f.p 16 4) = true) ∧
  (∃ (s : State), ∃ (f : Flight), ∃ (d : Decision), Front 0x0504 f s ∧ ((∀ b, answerForm f b = true)) ∧ s.vlk.defaulted = [] ∧ s.vlk.open_ = [d] ∧ d.reqId = f.p 16 4 ∧ d.kind = 1 ∧ f.p 20 1 = 1 ∧ f.p 21 1 = 1 ∧ d.isContract = false ∧ (outOf s d.outlet).authed = false ∧ (outOf s d.outlet).session = d.session ∧ 1 ≤ (outOf s d.outlet).state.num ∧ (outOf s d.outlet).state.num ≤ 4 ∧ iresOk s d.outlet = true) ∧
  (∃ (s : State), ∃ (f : Flight), Front 0x0505 f s ∧ (linkOf s f.outlet).v2g = true ∧ digitalMode s f.outlet = true ∧ (outOf s f.outlet).state = .charging) ∧
  (∃ (s : State), ∃ (f : Flight), Front 0x0505 f s ∧ (linkOf s f.outlet).v2g = false) ∧
  (∃ (s : State), ∃ (f : Flight), Front 0x0506 f s) ∧
  (∃ (s : State), ∃ (f : Flight), ∃ (idx : Fin 8), Front 0x0501 f s ∧ f.p 16 1 = 1 ∧ f.p 17 1 = idx.val ∧ f.bufLen = 0) ∧
  (∃ (s : State), ∃ (f : Flight), ∃ c, Front 0x0502 f s ∧ f.p 16 1 = 0 ∧ f.p 17 1 = 0 ∧ c = s.vlk.secc ∧ c.length ≤ f.bufLen) ∧
  (∃ (s : State), ∃ (f : Flight), Front 0x0503 f s ∧ (f.p 16 2 < 10 ∨ 60000 < f.p 16 2)) ∧
  (∃ (s : State), ∃ (f : Flight), Front 0x0504 f s ∧ (∀ b, answerForm f b = false)) ∧
  (∃ (s : State), ∃ (f : Flight), Front 0x0504 f s ∧ (∀ b, answerForm f b = true) ∧ s.vlk.defaulted.contains (f.p 16 4) = false ∧ (∀ d ∈ s.vlk.open_, d.reqId ≠ f.p 16 4)) ∧
  (∃ (s : State), ∃ (f : Flight), ∃ (d : Decision), Front 0x0504 f s ∧ (∀ b, answerForm f b = true) ∧ s.vlk.defaulted = [] ∧ s.vlk.open_ = [d] ∧ d.reqId = f.p 16 4 ∧ d.kind ≠ f.p 20 1) ∧
  (∃ (s : State), ∃ (f : Flight), Front 0x0501 f s ∧ (1 < f.p 16 1 ∨ (f.p 16 1 = 1 ∧ (8 ≤ f.p 17 1 ∨ 2048 < f.bufLen)) ∨ (f.p 16 1 = 0 ∧ f.p 17 1 ≠ 0))) ∧
  (∃ (s : State), ∃ (f : Flight), Front 0x0502 f s ∧ (1 < f.p 16 1 ∨ 8 ≤ f.p 17 1 ∨ (f.p 16 1 = 0 ∧ f.p 17 1 ≠ 0))) ∧
  (∃ (s : State), ∃ (f : Flight), ∃ c, Front 0x0502 f s ∧ f.p 16 1 = 0 ∧ f.p 17 1 = 0 ∧ c = s.vlk.secc ∧ f.bufLen < c.length) :=
  ⟨⟨{ (up) with vlk := { (up).vlk with open_ := [{ reqId := 1, kind := 1, outlet := 7, proto := 1, flags := 0, session := 5, sid := 0, deadline := 0, fields := [1], body := [] }] } }, fl 0 [], { reqId := 1, kind := 1, outlet := 7, proto := 1, flags := 0, session := 5, sid := 0, deadline := 0, fields := [1], body := [] }, 1, by decide +kernel⟩,
  ⟨wf (fl 0x0503 []) ({ (up) with vlk := { (up).vlk with waits := [(1, 0)] } }), fl 0x0503 [], 0, by decide +kernel⟩,
  ⟨lk { resumeUntil := some 0 } {} oh, fl 0 [], 7, 0, by decide +kernel⟩,
  ⟨wf (fl 0x0503 (leBytes 2 60000)) (up), fl 0x0503 (leBytes 2 60000), ⟨rfl, rfl, by decide +kernel, rfl, by decide +kernel⟩, by decide +kernel⟩,
  ⟨wf (fl 0x0503 (leBytes 2 60000)) ({ (up) with hif := { (up).hif with run := true } }), fl 0x0503 (leBytes 2 60000), ⟨rfl, rfl, by decide +kernel, rfl, by decide +kernel⟩, by decide +kernel⟩,
  ⟨wf (fl 0x0504 (leBytes 4 1 ++ [1, 1] ++ List.replicate 10 0++ leBytes 2 800)) ({ (up) with vlk := { (up).vlk with defaulted := [1] } }), fl 0x0504 (leBytes 4 1 ++ [1, 1] ++ List.replicate 10 0++ leBytes 2 800), ⟨rfl, rfl, by decide +kernel, rfl, by decide +kernel⟩, by decide +kernel⟩,
  ⟨wf (fl 0x0504 (leBytes 4 1 ++ [1, 1] ++ List.replicate 10 0++ leBytes 2 800)) ({ so { oh with state := .authorising, session := 5 } with vlk := { up.vlk with open_ := [{ reqId := 1, kind := 1, outlet := 7, proto := 1, flags := 0, session := 5, sid := 0, deadline := 0, fields := [1], body := [] }] } }), fl 0x0504 (leBytes 4 1 ++ [1, 1] ++ List.replicate 10 0++ leBytes 2 800), { reqId := 1, kind := 1, outlet := 7, proto := 1, flags := 0, session := 5, sid := 0, deadline := 0, fields := [1], body := [] }, ⟨rfl, rfl, by decide +kernel, rfl, by decide +kernel⟩, by decide +kernel⟩,
  ⟨wf (fl 0x0505 [] 0 [] 7) (lk { v2g := true } { digital := true } { oh with state := .charging }), fl 0x0505 [] 0 [] 7, ⟨rfl, rfl, by decide +kernel, rfl, by decide +kernel⟩, by decide +kernel⟩,
  ⟨wf (fl 0x0505 []) (up), fl 0x0505 [], ⟨rfl, rfl, by decide +kernel, rfl, by decide +kernel⟩, by decide +kernel⟩,
  ⟨wf (fl 0x0506 []) (up), fl 0x0506 [], ⟨rfl, rfl, by decide +kernel, rfl, by decide +kernel⟩⟩,
  ⟨wf (fl 0x0501 ([1, 7])) (up), fl 0x0501 ([1, 7]), 7, ⟨rfl, rfl, by decide +kernel, rfl, by decide +kernel⟩, by decide +kernel⟩,
  ⟨wf (fl 0x0502 []) (up), fl 0x0502 [], (wf (fl 0x0502 []) (up)).vlk.secc, ⟨rfl, rfl, by decide +kernel, rfl, by decide +kernel⟩, by decide +kernel, by decide +kernel, rfl, by decide +kernel⟩,
  ⟨wf (fl 0x0503 (leBytes 2 60001)) (up), fl 0x0503 (leBytes 2 60001), ⟨rfl, rfl, by decide +kernel, rfl, by decide +kernel⟩, by decide +kernel⟩,
  ⟨wf (fl 0x0504 (leBytes 4 1 ++ [1, 2])) (up), fl 0x0504 (leBytes 4 1 ++ [1, 2]), ⟨rfl, rfl, by decide +kernel, rfl, by decide +kernel⟩, by decide +kernel⟩,
  ⟨wf (fl 0x0504 (leBytes 4 1 ++ [1, 1] ++ List.replicate 10 0 ++ leBytes 2 800)) (up), fl 0x0504 (leBytes 4 1 ++ [1, 1] ++ List.replicate 10 0 ++ leBytes 2 800), ⟨rfl, rfl, by decide +kernel, rfl, by decide +kernel⟩, by decide +kernel⟩,
  ⟨wf (fl 0x0504 (leBytes 4 1 ++ [1, 1] ++ List.replicate 10 0 ++ leBytes 2 800)) ({ (up) with vlk := { (up).vlk with open_ := [{ reqId := 1, kind := 2, outlet := 7, proto := 1, flags := 0, session := 5, sid := 0, deadline := 0, fields := [1], body := [] }] } }), fl 0x0504 (leBytes 4 1 ++ [1, 1] ++ List.replicate 10 0 ++ leBytes 2 800), { reqId := 1, kind := 2, outlet := 7, proto := 1, flags := 0, session := 5, sid := 0, deadline := 0, fields := [1], body := [] }, ⟨rfl, rfl, by decide +kernel, rfl, by decide +kernel⟩, by decide +kernel⟩,
  ⟨wf (fl 0x0501 ([1, 8])) (up), fl 0x0501 ([1, 8]), ⟨rfl, rfl, by decide +kernel, rfl, by decide +kernel⟩, by decide +kernel⟩,
  ⟨wf (fl 0x0502 ([0, 1])) (up), fl 0x0502 ([0, 1]), ⟨rfl, rfl, by decide +kernel, rfl, by decide +kernel⟩, by decide +kernel⟩,
  ⟨wf (fl 0x0502 []) ({ (up) with vlk := { (up).vlk with secc := [0] } }), fl 0x0502 [], [0], ⟨rfl, rfl, by decide +kernel, rfl, by decide +kernel⟩, by decide +kernel, by decide +kernel, rfl, by decide +kernel⟩⟩

/-- States and operands that meet the hypotheses of TransferSender, clause by clause. -/
theorem wit_TransferSender :
  (∃ (s : State), ∃ (m : TokMsg), inDomain s = true ∧ s.bkb.role = 1 ∧ m.sender = s.fuse.serial ∧ s.sct.tok.xfers.length < 8 ∧ m.count ≤ s.sct.tok.spare[m.phase.val]) ∧
  (∃ (s : State), ∃ (m : TokMsg), ∃ (x : OutXfer), inDomain s = true ∧ s.bkb.role = 1 ∧ m.sender = s.fuse.serial ∧ ownXfer s m.xid.toNat = some x ∧ x.state = .offered ∧ s.dfn ≤ x.deadline) ∧
  (∃ (s : State), ∃ (m : TokMsg), ∃ (x : OutXfer), inDomain s = true ∧ s.bkb.role = 1 ∧ m.sender = s.fuse.serial ∧ ownXfer s m.xid.toNat = some x ∧ x.state = .offered) ∧
  (∃ (s : State), ∃ (m : TokMsg), ∃ (x : OutXfer), inDomain s = true ∧ s.bkb.role = 1 ∧ m.sender = s.fuse.serial ∧ ownXfer s m.xid.toNat = some x ∧ x.state = .commitSent) ∧
  (∃ (s : State), ∃ (m : TokMsg), ∃ (x : OutXfer), inDomain s = true ∧ s.bkb.role = 1 ∧ m.sender = s.fuse.serial ∧ ownXfer s m.xid.toNat = some x ∧ x.state = .inDoubt ∧ m.result = 1) ∧
  (∃ (s : State), ∃ (m : TokMsg), ∃ (x : OutXfer), inDomain s = true ∧ s.bkb.role = 1 ∧ m.sender = s.fuse.serial ∧ ownXfer s m.xid.toNat = some x ∧ x.state = .inDoubt ∧ m.result = 2) ∧
  (∃ (s : State), ∃ (m : TokMsg), inDomain s = true ∧ s.bkb.role = 1 ∧ m.sender = s.fuse.serial) :=
  ⟨⟨{ up with bkb := { up.bkb with role := 1 }, sct := { up.sct with domainMode := true, tok := { up.sct.tok with spare := #v[0, 0, 1] } } }, { phase := 2, count := 1, sender := 1, receiver := 2, xid := 5, deadline := 10, result := 0 }, by decide +kernel⟩,
  ⟨{ up with bkb := { up.bkb with role := 1, dfn := 10 }, sct := { up.sct with domainMode := true, tok := { up.sct.tok with xfers := [{ xid := 5, receiver := 2, phase := 2, count := 1, deadline := 10, state := .offered }] } } }, { phase := 2, count := 1, sender := 1, receiver := 2, xid := 5, deadline := 10, result := 0 }, { xid := 5, receiver := 2, phase := 2, count := 1, deadline := 10, state := .offered }, by decide +kernel⟩,
  ⟨{ up with bkb := { up.bkb with role := 1 }, sct := { up.sct with domainMode := true, tok := { up.sct.tok with xfers := [{ xid := 5, receiver := 2, phase := 2, count := 1, deadline := 10, state := .offered }] } } }, { phase := 2, count := 1, sender := 1, receiver := 2, xid := 5, deadline := 10, result := 0 }, { xid := 5, receiver := 2, phase := 2, count := 1, deadline := 10, state := .offered }, by decide +kernel⟩,
  ⟨{ up with bkb := { up.bkb with role := 1 }, sct := { up.sct with domainMode := true, tok := { up.sct.tok with xfers := [{ xid := 5, receiver := 2, phase := 2, count := 1, deadline := 10, state := .commitSent }] } } }, { phase := 2, count := 1, sender := 1, receiver := 2, xid := 5, deadline := 10, result := 0 }, { xid := 5, receiver := 2, phase := 2, count := 1, deadline := 10, state := .commitSent }, by decide +kernel⟩,
  ⟨{ up with bkb := { up.bkb with role := 1 }, sct := { up.sct with domainMode := true, tok := { up.sct.tok with xfers := [{ xid := 5, receiver := 2, phase := 2, count := 1, deadline := 10, state := .inDoubt }] } } }, { phase := 2, count := 1, sender := 1, receiver := 2, xid := 5, deadline := 10, result := 1 }, { xid := 5, receiver := 2, phase := 2, count := 1, deadline := 10, state := .inDoubt }, by decide +kernel⟩,
  ⟨{ up with bkb := { up.bkb with role := 1 }, sct := { up.sct with domainMode := true, tok := { up.sct.tok with xfers := [{ xid := 5, receiver := 2, phase := 2, count := 1, deadline := 10, state := .inDoubt }] } } }, { phase := 2, count := 1, sender := 1, receiver := 2, xid := 5, deadline := 10, result := 2 }, { xid := 5, receiver := 2, phase := 2, count := 1, deadline := 10, state := .inDoubt }, by decide +kernel⟩,
  ⟨{ up with bkb := { up.bkb with role := 1 }, sct := { up.sct with domainMode := true, tok := { up.sct.tok with xfers := [{ xid := 5, receiver := 2, phase := 2, count := 1, deadline := 10, state := .inDoubt }] } } }, { phase := 2, count := 1, sender := 1, receiver := 2, xid := 5, deadline := 10, result := 0 }, by decide +kernel⟩⟩

/-- States and operands that meet the hypotheses of TransferReceiver, clause by clause. -/
theorem wit_TransferReceiver :
  (∃ (s : State), ∃ (m : TokMsg), inDomain s = true ∧ s.bkb.role = 1 ∧ m.receiver = s.fuse.serial ∧ m.deadline.toNat < s.dfn) ∧
  (∃ (s : State), ∃ (m : TokMsg), inDomain s = true ∧ s.bkb.role = 1 ∧ m.receiver = s.fuse.serial ∧ s.dfn ≤ m.deadline.toNat ∧ 256 ≤ s.sct.tok.recs.length) ∧
  (∃ (s : State), ∃ (m : TokMsg), ∃ (r : RecvRec), inDomain s = true ∧ s.bkb.role = 1 ∧ m.receiver = s.fuse.serial ∧ s.dfn ≤ m.deadline.toNat ∧ s.sct.tok.recs.length < 256 ∧ recOf s m.sender m.xid.toNat = some r ∧ r.state = .accepted) ∧
  (∃ (s : State), ∃ (m : TokMsg), inDomain s = true ∧ s.bkb.role = 1 ∧ m.receiver = s.fuse.serial ∧ s.dfn ≤ m.deadline.toNat ∧ recOf s m.sender m.xid.toNat = none ∧ s.sct.tok.recs.length < 256 ∧ takesTokens s m.phase = true) ∧
  (∃ (s : State), ∃ (m : TokMsg), inDomain s = true ∧ s.bkb.role = 1 ∧ m.receiver = s.fuse.serial ∧ s.dfn ≤ m.deadline.toNat ∧ recOf s m.sender m.xid.toNat = none ∧ takesTokens s m.phase = false) ∧
  (∃ (s : State), ∃ (m : TokMsg), ∃ (r : RecvRec), inDomain s = true ∧ s.bkb.role = 1 ∧ m.receiver = s.fuse.serial ∧ recOf s m.sender m.xid.toNat = some r ∧ r.state = .accepted ∧ s.dfn ≤ r.deadline) ∧
  (∃ (s : State), ∃ (m : TokMsg), ∃ (r : RecvRec), inDomain s = true ∧ s.bkb.role = 1 ∧ m.receiver = s.fuse.serial ∧ recOf s m.sender m.xid.toNat = some r ∧ r.state = .committed) ∧
  (∃ (s : State), ∃ (m : TokMsg), inDomain s = true ∧ s.bkb.role = 1 ∧ m.receiver = s.fuse.serial ∧ recOf s m.sender m.xid.toNat = none) ∧
  (∃ (s : State), ∃ (m : TokMsg), inDomain s = true ∧ s.bkb.role = 1 ∧ m.receiver = s.fuse.serial ∧ s.dfn ≤ m.deadline.toNat) ∧
  (∃ (s : State), ∃ (m : TokMsg), ∃ (r : RecvRec), inDomain s = true ∧ s.bkb.role = 1 ∧ m.receiver = s.fuse.serial ∧ m.deadline.toNat < s.dfn ∧ recOf s m.sender m.xid.toNat = some r ∧ r.state = .committed) ∧
  (∃ (s : State), ∃ (m : TokMsg), inDomain s = true ∧ s.bkb.role = 1 ∧ m.receiver = s.fuse.serial ∧ m.deadline.toNat < s.dfn ∧ ((∀ r, recOf s m.sender m.xid.toNat = some r → r.state ≠ .committed))) :=
  ⟨⟨{ up with bkb := { up.bkb with role := 1, dfn := 11 }, sct := { up.sct with domainMode := true, tok := { up.sct.tok with domain := 0 } } }, { phase := 2, count := 1, sender := 2, receiver := 1, xid := 5, deadline := 10, result := 0 }, by decide +kernel⟩,
  ⟨{ up with bkb := { up.bkb with role := 1, dfn := 10 }, sct := { up.sct with domainMode := true, tok := { up.sct.tok with recs := List.replicate 256 { sender := 2, xid := 4, phase := 2, count := 1, deadline := 10, state := .accepted } } } }, { phase := 2, count := 1, sender := 2, receiver := 1, xid := 5, deadline := 10, result := 0 }, by decide +kernel⟩,
  ⟨{ up with bkb := { up.bkb with role := 1, dfn := 10 }, sct := { up.sct with domainMode := true, tok := { up.sct.tok with recs := [{ sender := 2, xid := 5, phase := 2, count := 1, deadline := 10, state := .accepted }] } } }, { phase := 2, count := 1, sender := 2, receiver := 1, xid := 5, deadline := 10, result := 0 }, { sender := 2, xid := 5, phase := 2, count := 1, deadline := 10, state := .accepted }, by decide +kernel⟩,
  ⟨{ so { o0 with state := .authorising, cable := 320 } with bkb := { up.bkb with role := 1, dfn := 10 }, sct := { up.sct with domainMode := true } }, { phase := 2, count := 1, sender := 2, receiver := 1, xid := 5, deadline := 10, result := 0 }, by decide +kernel⟩,
  ⟨{ up with bkb := { up.bkb with role := 1, dfn := 10 }, sct := { up.sct with domainMode := true, tok := { up.sct.tok with domain := 0 } } }, { phase := 2, count := 1, sender := 2, receiver := 1, xid := 5, deadline := 10, result := 0 }, by decide +kernel⟩,
  ⟨{ up with bkb := { up.bkb with role := 1, dfn := 10 }, sct := { up.sct with domainMode := true, tok := { up.sct.tok with recs := [{ sender := 2, xid := 5, phase := 2, count := 1, deadline := 10, state := .accepted }] } } }, { phase := 2, count := 1, sender := 2, receiver := 1, xid := 5, deadline := 10, result := 0 }, { sender := 2, xid := 5, phase := 2, count := 1, deadline := 10, state := .accepted }, by decide +kernel⟩,
  ⟨{ up with bkb := { up.bkb with role := 1 }, sct := { up.sct with domainMode := true, tok := { up.sct.tok with recs := [{ sender := 2, xid := 5, phase := 2, count := 1, deadline := 10, state := .committed }] } } }, { phase := 2, count := 1, sender := 2, receiver := 1, xid := 5, deadline := 10, result := 0 }, { sender := 2, xid := 5, phase := 2, count := 1, deadline := 10, state := .committed }, by decide +kernel⟩,
  ⟨{ up with bkb := { up.bkb with role := 1 }, sct := { up.sct with domainMode := true, tok := { up.sct.tok with domain := 0 } } }, { phase := 2, count := 1, sender := 2, receiver := 1, xid := 5, deadline := 10, result := 0 }, by decide +kernel⟩,
  ⟨{ up with bkb := { up.bkb with role := 1, dfn := 10 }, sct := { up.sct with domainMode := true, tok := { up.sct.tok with domain := 0 } } }, { phase := 2, count := 1, sender := 2, receiver := 1, xid := 5, deadline := 10, result := 0 }, by decide +kernel⟩,
  ⟨{ up with bkb := { up.bkb with role := 1, dfn := 11 }, sct := { up.sct with domainMode := true, tok := { up.sct.tok with recs := [{ sender := 2, xid := 5, phase := 2, count := 1, deadline := 10, state := .committed }] } } }, { phase := 2, count := 1, sender := 2, receiver := 1, xid := 5, deadline := 10, result := 0 }, { sender := 2, xid := 5, phase := 2, count := 1, deadline := 10, state := .committed }, by decide +kernel⟩,
  ⟨{ up with bkb := { up.bkb with role := 1, dfn := 11 }, sct := { up.sct with domainMode := true, tok := { up.sct.tok with domain := 0 } } }, { phase := 2, count := 1, sender := 2, receiver := 1, xid := 5, deadline := 10, result := 0 }, by decide +kernel, by decide +kernel, by decide +kernel, by decide +kernel, fun r h => absurd (show (none : Option RecvRec) = some r from h) (by simp)⟩⟩

/-- States and operands that meet the hypotheses of CoordinatorLedger, clause by clause. -/
theorem wit_CoordinatorLedger :
  (∃ (s : State), ∃ (m : TokMsg), ∃ k, s.isReady 6 = true ∧ s.bkb.role = 2 ∧ m.receiver ≠ s.fuse.serial ∧ slotOf s m.receiver = some k) ∧
  (∃ (s : State), ∃ (m : TokMsg), ∃ k, s.isReady 6 = true ∧ s.bkb.role = 2 ∧ m.sender ≠ s.fuse.serial ∧ slotOf s m.sender = some k) ∧
  (∃ (s : State), ∃ (m : TokMsg), ∃ k, s.isReady 6 = true ∧ s.bkb.role = 2 ∧ ((m.result = 1 ∨ m.result = 2)) ∧ m.sender ≠ s.fuse.serial ∧ slotOf s m.sender = some k ∧ s.sct.tok.taken = [] ∧ s.sct.retiring = [] ∧ verdictOf s m.sender m.xid.toNat = none) ∧
  (∃ (s : State), ∃ (k : Fin 64), ∃ (r : Report), ∃ (e : LedgerEntry), s.isReady 6 = true ∧ s.bkb.role = 2 ∧ e = s.sct.ledger[k.val] ∧ e.serial = r.serial ∧ ((e.state = .present ∨ e.state = .absent))) ∧
  (∃ (s : State), ∃ (k : Fin 64), ∃ (r : Report), ∃ (e : LedgerEntry), s.isReady 6 = true ∧ s.bkb.role = 2 ∧ e = s.sct.ledger[k.val] ∧ e.state = .present ∧ k ≠ s.bkb.slot ∧ e.lastTick + 320000 ≤ s.now) ∧
  (∃ (s : State), ∃ (p : Fin 3), s.isReady 6 = true) ∧
  (∃ (s : State), s.isReady 6 = true ∧ s.bkb.role = 2 ∧ s.sct.domainMode = true ∧ s.bkb.dfn % 500 = 0) ∧
  (∃ (s : State), ∃ (d : Digest), ∃ (rel : List Release), s.isReady 6 = true ∧ s.bkb.role = 1 ∧ s.sct.domainMode = true) :=
  ⟨⟨{ up with bkb := { up.bkb with role := 2 }, sct := { up.sct with domainMode := true, ledger := up.sct.ledger.set 63 { serial := 2, state := .present } } }, { phase := 2, count := 1, sender := 1, receiver := 2, xid := 5, deadline := 10, result := 0 }, 63, by decide +kernel⟩,
  ⟨{ up with bkb := { up.bkb with role := 2 }, sct := { up.sct with domainMode := true, ledger := up.sct.ledger.set 63 { serial := 2, state := .present } } }, { phase := 2, count := 1, sender := 2, receiver := 1, xid := 5, deadline := 10, result := 0 }, 63, by decide +kernel⟩,
  ⟨{ up with bkb := { up.bkb with role := 2 }, sct := { up.sct with domainMode := true, ledger := up.sct.ledger.set 63 { serial := 2, state := .present } } }, { phase := 2, count := 1, sender := 2, receiver := 1, xid := 5, deadline := 10, result := 2 }, 63, by decide +kernel⟩,
  ⟨{ up with bkb := { up.bkb with role := 2 }, sct := { up.sct with domainMode := true, ledger := up.sct.ledger.set 63 { serial := 2, state := .absent } } }, 63, { serial := 2, held := [], transit := [], doubt := [], xfers := [], wants := [], senders := [], budgetEd := 0, budget := [] }, ({ up with bkb := { up.bkb with role := 2 }, sct := { up.sct with domainMode := true, ledger := up.sct.ledger.set 63 { serial := 2, state := .absent } } } : State).sct.ledger[(63 : Fin 64).val], by decide +kernel, by decide +kernel, rfl, by decide +kernel⟩,
  ⟨at_ 320000 ({ up with bkb := { up.bkb with role := 2 }, sct := { up.sct with domainMode := true, ledger := up.sct.ledger.set 63 { serial := 2, state := .present } } }), 63, { serial := 2, held := [], transit := [], doubt := [], xfers := [], wants := [], senders := [], budgetEd := 0, budget := [] }, (at_ 320000 ({ up with bkb := { up.bkb with role := 2 }, sct := { up.sct with domainMode := true, ledger := up.sct.ledger.set 63 { serial := 2, state := .present } } })).sct.ledger[(63 : Fin 64).val], by decide +kernel, by decide +kernel, rfl, by decide +kernel⟩,
  ⟨up, 2, by decide +kernel⟩,
  ⟨{ up with bkb := { up.bkb with role := 2 }, sct := { up.sct with domainMode := true, ledger := up.sct.ledger.set 63 { serial := 2, state := .present } } }, by decide +kernel⟩,
  ⟨{ up with bkb := { up.bkb with role := 1 }, sct := { up.sct with domainMode := true, tok := { up.sct.tok with domain := 0 } } }, { dfn := 0, budgetEd := 0, budget := [], lsum := [], members := 0, absent := 0, lcrc := 0 }, [], by decide +kernel⟩⟩

/-- States and operands that meet the hypotheses of SiteRegistersAndBudget, clause by clause. -/
theorem wit_SiteRegistersAndBudget :
  (∃ (s : State), ∃ (v : W32), LinkUp s ∧ ((bitsOf v.toNat 16 8 < 10 ∨ 250 < bitsOf v.toNat 16 8))) ∧
  (∃ (s : State), ∃ (v : W32), LinkUp s ∧ 10 ≤ bitsOf v.toNat 16 8 ∧ bitsOf v.toNat 16 8 ≤ 250 ∧ bitAt v.toNat 0 = s.sct.domainMode) ∧
  (∃ (s : State), ∃ (v : W32), ∃ (n : Outlet8), LinkUp s ∧ bitAt v.toNat 0 ≠ s.sct.domainMode ∧ (outOf s n).state ≠ .idle ∧ (outOf s n).state ≠ .disabled) ∧
  (∃ (s : State), ∃ (v : W32), LinkUp s ∧ 10 ≤ bitsOf v.toNat 16 8 ∧ bitsOf v.toNat 16 8 ≤ 250 ∧ bitAt v.toNat 0 ≠ s.sct.domainMode ∧ ((∀ n : Outlet8, (outOf s n).state = .idle ∨ (outOf s n).state = .disabled))) ∧
  (∃ (s : State), ∃ (p : Fin 3), ∃ (v : W32), LinkUp s ∧ s.sct.domainMode = false ∧ s.sct.localTok[p.val] ≤ bitsOf v.toNat 0 16 ∧ s.sct.tok.owed[p.val] = 0) ∧
  (∃ (s : State), s.isReady 6 = true ∧ ((∃ c ∈ s.sct.tok.cooling, c.untilTick ≤ s.now))) ∧
  (∃ (s : State), ∃ (n : Outlet8), ∃ (t0 : Nat), s.sct.capSince[n.val] = some t0 ∧ s.isReady 6 = true ∧ s.sct.capStopS ≠ 0 ∧ t0 + 64000 * s.sct.capStopS ≤ s.now ∧ (outOf s n).stopReq = none) ∧
  (∃ (s : State), ∃ (t0 : Nat), s.sct.askAt = some t0 ∧ s.sct.refused = true ∧ t0 ≤ s.now) ∧
  (∃ (s : State), ∃ (g : List Nat), ∃ (ed : W32), isCoord s = true ∧ s.sct.domainMode = true ∧ s.sct.tok.budgetEd < ed ∧ ((∀ p : Fin 3, s.sct.tok.budget[p.val] - g.getD p.val 0 ≤ s.sct.tok.spare[p.val]))) ∧
  (∃ (s : State), ∃ f, Front 0x0601 f s ∧ ((s.sct.domainMode = false ∨ BitVec.ofNat 32 (f.p 24 4) ≤ s.sct.tok.budgetEd))) ∧
  (∃ (s : State), ∃ (f : Flight), ∃ (ed : W32), ∃ (g : List Nat), Front 0x0601 f s ∧ s.sct.domainMode = true ∧ isCoord s = false ∧ ed = BitVec.ofNat 32 (f.p 24 4) ∧ g = [f.p 16 2, f.p 18 2, f.p 20 2] ∧ s.sct.tok.budgetEd < ed) ∧
  (∃ (s : State), ∃ (f : Flight), ∃ (ed : W32), ∃ (g : List Nat), ∃ (t0 : Nat), s.sct.budgetWait = [(f.seq, ed, g, t0)] ∧ t0 + 640000 ≤ s.now ∧ flight? f.seq s = some f) :=
  ⟨⟨up, 0x00090000, by delta LinkUp; decide +kernel, by decide +kernel⟩,
  ⟨up, 0x000A0000, by delta LinkUp; decide +kernel, by decide +kernel⟩,
  ⟨so { o0 with state := .connected }, 0x000A0001, 7, by delta LinkUp; decide +kernel, by decide +kernel⟩,
  ⟨up, 0x00FA0001, by delta LinkUp; decide +kernel, by decide +kernel⟩,
  ⟨up, 2, 1, by delta LinkUp; decide +kernel, by decide +kernel⟩,
  ⟨{ up with sct := { up.sct with tok := { up.sct.tok with cooling := [{ phase := 2, count := 1, untilTick := 0 }] } } }, by decide +kernel, ⟨_, .head _, by decide +kernel⟩⟩,
  ⟨at_ 64000 { up with sct := { up.sct with capStopS := 1, capSince := Vector.replicate 8 (some 0) } }, 7, 0, by decide +kernel⟩,
  ⟨{ (up) with sct := { (up).sct with askAt := some 0, refused := true } }, 0, by decide +kernel⟩,
  ⟨{ up with bkb := { up.bkb with role := 2 }, sct := { up.sct with domainMode := true, tok := { up.sct.tok with domain := 0 } } }, [0, 0, 0], 1, by decide +kernel⟩,
  ⟨wf (fl 0x0601 (leBytes 8 0 ++ leBytes 4 5)) ({ up with bkb := { up.bkb with role := 1 }, sct := { up.sct with domainMode := true, tok := { up.sct.tok with budgetEd := 5 } } }), fl 0x0601 (leBytes 8 0 ++ leBytes 4 5), ⟨rfl, rfl, by decide +kernel, rfl, by decide +kernel⟩, by decide +kernel⟩,
  ⟨wf (fl 0x0601 (leBytes 8 0 ++ leBytes 4 1)) ({ up with bkb := { up.bkb with role := 1 }, sct := { up.sct with domainMode := true, tok := { up.sct.tok with domain := 0 } } }), fl 0x0601 (leBytes 8 0 ++ leBytes 4 1), BitVec.ofNat 32 ((fl 0x0601 (leBytes 8 0 ++ leBytes 4 1)).p 24 4), [(fl 0x0601 (leBytes 8 0 ++ leBytes 4 1)).p 16 2, (fl 0x0601 (leBytes 8 0 ++ leBytes 4 1)).p 18 2, (fl 0x0601 (leBytes 8 0 ++ leBytes 4 1)).p 20 2], ⟨rfl, rfl, by decide +kernel, rfl, by decide +kernel⟩, by decide +kernel, by decide +kernel, rfl, rfl, by decide +kernel⟩,
  ⟨wf (fl 0x0601 []) (at_ 640000 ({ (up) with sct := { (up).sct with budgetWait := [(1, 1, [0, 0, 0], 0)] } })), fl 0x0601 [], 1, [0, 0, 0], 0, by decide +kernel⟩⟩

/-- States and operands that meet the hypotheses of SiteReadsAndRetirement, clause by clause. -/
theorem wit_SiteReadsAndRetirement :
  (∃ (s : State), ∃ (f : Flight), Front 0x0602 f s) ∧
  (∃ (s : State), ∃ (f : Flight), Front 0x0603 f s ∧ isCoord s = false) ∧
  (∃ (s : State), ∃ (f : Flight), Front 0x0603 f s ∧ isCoord s = true) ∧
  (∃ (s : State), ∃ (f : Flight), Front 0x0604 f s ∧ isCoord s = false) ∧
  (∃ (s : State), ∃ (f : Flight), ∃ (k : Fin 64), Front 0x0604 f s ∧ isCoord s = true ∧ slotOf s (BitVec.ofNat 64 (f.p 16 8)) = some k ∧ k = s.bkb.slot) ∧
  (∃ (s : State), ∃ (f : Flight), ∃ (k : Fin 64), Front 0x0604 f s ∧ isCoord s = true ∧ slotOf s (BitVec.ofNat 64 (f.p 16 8)) = some k ∧ k ≠ s.bkb.slot ∧ (s.sct.ledger[k.val]).state = .absent ∧ (s.sct.ledger[k.val]).lastTick + 320000 ≤ s.now ∧ (s.sct.ledger[k.val]).xfers = [] ∧ s.sct.retiring = [] ∧ s.sct.tok.xfers = [] ∧ s.sct.tok.taken = []) ∧
  (∃ (s : State), ∃ (f : Flight), ∃ (r : Retiring), ∃ (t0 : Nat), s.sct.retiring = [r] ∧ r.flights = [(f.seq, t0)] ∧ t0 + 640000 ≤ s.now ∧ flight? f.seq s = some f) ∧
  (∃ (s : State), ∃ (f : Flight), Front 0x0604 f s ∧ isCoord s = true ∧ slotOf s (BitVec.ofNat 64 (f.p 16 8)) = none) :=
  ⟨⟨wf (fl 0x0602 []) (up), fl 0x0602 [], ⟨rfl, rfl, by decide +kernel, rfl, by decide +kernel⟩⟩,
  ⟨wf (fl 0x0603 []) (up), fl 0x0603 [], ⟨rfl, rfl, by decide +kernel, rfl, by decide +kernel⟩, by decide +kernel⟩,
  ⟨wf (fl 0x0603 []) ({ up with bkb := { up.bkb with role := 2 }, sct := { up.sct with domainMode := true, ledger := up.sct.ledger.set 63 { serial := 2, state := .present } } }), fl 0x0603 [], ⟨rfl, rfl, by decide +kernel, rfl, by decide +kernel⟩, by decide +kernel⟩,
  ⟨wf (fl 0x0604 []) (up), fl 0x0604 [], ⟨rfl, rfl, by decide +kernel, rfl, by decide +kernel⟩, by decide +kernel⟩,
  ⟨wf (fl 0x0604 (leBytes 8 2)) ({ up with bkb := { up.bkb with role := 2, slot := 63 }, sct := { up.sct with domainMode := true, ledger := up.sct.ledger.set 63 { serial := 2, state := .present } } }), fl 0x0604 (leBytes 8 2), 63, ⟨rfl, rfl, by decide +kernel, rfl, by decide +kernel⟩, by decide +kernel⟩,
  ⟨wf (fl 0x0604 (leBytes 8 2)) (at_ 320000 ({ up with bkb := { up.bkb with role := 2 }, sct := { up.sct with domainMode := true, ledger := up.sct.ledger.set 63 { serial := 2, state := .absent } } })), fl 0x0604 (leBytes 8 2), 63, ⟨rfl, rfl, by decide +kernel, rfl, by decide +kernel⟩, by decide +kernel⟩,
  ⟨wf (fl 0x0604 []) (at_ 640000 ({ (up) with sct := { (up).sct with retiring := [{ slot := 63, flights := [(1, 0)], asking := [] }] } })), fl 0x0604 [], { slot := 63, flights := [(1, 0)], asking := [] }, 0, by decide +kernel⟩,
  ⟨wf (fl 0x0604 (leBytes 8 2)) ({ up with bkb := { up.bkb with role := 2 }, sct := { up.sct with domainMode := true } }), fl 0x0604 (leBytes 8 2), ⟨rfl, rfl, by decide +kernel, rfl, by decide +kernel⟩, by decide +kernel⟩⟩

/-- States and operands that meet the hypotheses of BackboneFrames, clause by clause. -/
theorem wit_BackboneFrames :
  (∃ (erased : List Bool), ∃ (c : Nat), erased ≠ []) ∧
  (∃ (rate : Fin 4), ∃ (code : Fin 3), ∃ (bps : Nat), ∃ (erased : List Bool), erased.length = depthOf code.val ∧ 4320 ≤ depthOf code.val * bps ∧ erased.count true ≤ ((([[6, 12, 25], [4, 8, 16], [2, 5, 11], [1, 3, 6]] : List (List Nat)).getD rate.val []).getD code.val 0)) ∧
  (∃ (space : Nat), ∃ (l : List (Byte × BkbOut)), ∃ c, ∃ cs, (takeFit space l).2 = c :: cs) ∧
  (∃ (s : State), bkbOn s = true ∧ s.bkb.role = 2 ∧ s.now % 128 = 0 ∧ s.bkb.frameTick ≠ s.now) ∧
  (∃ (s : State), ∃ (p : Poll), ∃ (n : Option Nat), ∃ (rx : SegmentRx), bkbOn s = true ∧ s.bkb.role = 2 ∧ s.bkb.poll = some p ∧ p.left ≤ p.relays.length ∧ withinFraction s.bkb.rateNow rx.bps ((rx.quiet.take 22).map (erasedSymbol rx.floor)) = true ∧ rx.clean = true) ∧
  (∃ (s : State), ∃ (p : Poll), ∃ (n : Option Nat), ∃ (u : Option SegmentRx), ∃ (l : List Nat), bkbOn s = true ∧ s.bkb.role = 2 ∧ s.bkb.poll = some p ∧ p.left ≤ p.relays.length ∧ p.retries < 2 ∧ ((∀ rx, u = some rx → withinFraction s.bkb.rateNow rx.bps ((rx.quiet.take 22).map (erasedSymbol rx.floor)) = false))) ∧
  (∃ (s : State), ∃ (h : Header), ∃ (rx : SegmentRx), bkbOn s = true ∧ ((h.crcOk = false ∨ h.domain ≠ s.bkb.domain))) ∧
  (∃ (s : State), ∃ (h : Header), ∃ (rx : SegmentRx), ∃ d, bkbOn s = true ∧ h.crcOk = true ∧ h.domain = s.bkb.domain ∧ s.bkb.role = 1 ∧ s.bkb.lastDfn = some d ∧ h.dfn.toNat ≤ d) ∧
  (∃ (s : State), ∃ (h : Header), ∃ (rx : SegmentRx), ∃ d, bkbOn s = true ∧ h.crcOk = true ∧ h.domain = s.bkb.domain ∧ s.bkb.role = 1 ∧ s.bkb.lastDfn = some d ∧ d < h.dfn.toNat ∧ h.coord = s.bkb.coord) ∧
  (∃ (s : State), ∃ (h : Header), ∃ (rx : SegmentRx), bkbOn s = true ∧ h.crcOk = true ∧ h.domain = s.bkb.domain ∧ s.bkb.role = 1 ∧ s.bkb.lastDfn = none ∧ h.coord ≠ s.bkb.coord) ∧
  (∃ (s : State), ∃ (h : Header), ∃ (rx : SegmentRx), ∃ c, bkbOn s = true ∧ h.crcOk = true ∧ h.domain = s.bkb.domain ∧ s.bkb.role = 0 ∧ s.bkb.join = .asking ∧ h.uRole = 4 ∧ c = max s.bkb.dfn h.dfn.toNat) ∧
  (∃ (s : State), ∃ (h : Header), ∃ (rx : SegmentRx), bkbOn s = true ∧ h.crcOk = true ∧ h.domain = s.bkb.domain ∧ s.bkb.role = 2 ∧ h.coord < s.fuse.serial) ∧
  (∃ (s : State), ∃ (h : Header), ∃ (rx : SegmentRx), bkbOn s = true ∧ h.crcOk = true ∧ h.domain = s.bkb.domain ∧ s.bkb.role = 2 ∧ s.fuse.serial < h.coord) ∧
  (∃ (s : State), ∃ (k : Fin 64), ∃ (snr : List Nat), bkbOn s = true ∧ s.bkb.role = 1 ∧ k ≠ s.bkb.slot) ∧
  (∃ (s : State), ∃ (links : List LinkRep), bkbOn s = true ∧ s.bkb.role = 2) ∧
  (∃ (s : State), bkbOn s = true) :=
  ⟨⟨[true], 0, by decide +kernel⟩,
  ⟨0, 0, 270, List.replicate 6 true ++ List.replicate 10 false, by decide +kernel⟩,
  ⟨1, [(0, .sounding), (0, .tok 0 { phase := 0, count := 1, sender := 1, receiver := 2, xid := 1, deadline := 0, result := 0 })], (0, .tok 0 { phase := 0, count := 1, sender := 1, receiver := 2, xid := 1, deadline := 0, result := 0 }), [], by decide +kernel⟩,
  ⟨at_ 128 ({ up with bkb := { up.bkb with en := true, domain := 3, role := 2 } }), by decide +kernel⟩,
  ⟨{ up with bkb := { up.bkb with en := true, domain := 3, role := 2, poll := some { slot := 63, relays := [], left := 0, retries := 0 } } }, { slot := 63, relays := [], left := 0, retries := 0 }, some 0, { floor := 1, quiet := List.replicate 22 1, clean := true, bps := 4320 }, by decide +kernel⟩,
  ⟨{ up with bkb := { up.bkb with en := true, domain := 3, role := 2, poll := some { slot := 63, relays := [], left := 0, retries := 1 } } }, { slot := 63, relays := [], left := 0, retries := 1 }, some 0, none, [], by decide +kernel, by decide +kernel, by decide +kernel, by decide +kernel, by decide +kernel, fun _ h => by cases h⟩,
  ⟨{ up with bkb := { up.bkb with en := true, domain := 3, role := 1 } }, { dfn := 11, coord := 9, station := 0, domain := 3, uOwner := 0, uRole := 0, target := 0, gw := false, retry := false, depth := 1, rate := 1, tmap := 0, crcOk := false }, { floor := 1, quiet := List.replicate 22 1, clean := true, bps := 4320 }, by decide +kernel⟩,
  ⟨{ up with bkb := { up.bkb with en := true, domain := 3, role := 1, lastDfn := some 11, coord := 9 } }, { dfn := 11, coord := 9, station := 0, domain := 3, uOwner := 0, uRole := 0, target := 0, gw := false, retry := false, depth := 1, rate := 1, tmap := 0, crcOk := true }, { floor := 1, quiet := List.replicate 22 1, clean := true, bps := 4320 }, 11, by decide +kernel⟩,
  ⟨{ up with bkb := { up.bkb with en := true, domain := 3, role := 1, lastDfn := some 10, coord := 9 } }, { dfn := 11, coord := 9, station := 0, domain := 3, uOwner := 0, uRole := 0, target := 0, gw := false, retry := false, depth := 1, rate := 1, tmap := 0, crcOk := true }, { floor := 1, quiet := List.replicate 22 1, clean := true, bps := 4320 }, 10, by decide +kernel⟩,
  ⟨{ up with bkb := { up.bkb with en := true, domain := 3, role := 1, coord := 8 } }, { dfn := 11, coord := 9, station := 0, domain := 3, uOwner := 0, uRole := 0, target := 0, gw := false, retry := false, depth := 1, rate := 1, tmap := 0, crcOk := true }, { floor := 1, quiet := List.replicate 22 1, clean := true, bps := 4320 }, by decide +kernel⟩,
  ⟨{ up with bkb := { up.bkb with en := true, domain := 3, join := .asking } }, { dfn := 11, coord := 9, station := 0, domain := 3, uOwner := 0, uRole := 4, target := 0, gw := false, retry := false, depth := 1, rate := 1, tmap := 0, crcOk := true }, { floor := 1, quiet := List.replicate 22 1, clean := true, bps := 4320 }, max ({ up with bkb := { up.bkb with en := true, domain := 3, join := .asking } } : State).bkb.dfn ({ dfn := 11, coord := 9, station := 0, domain := 3, uOwner := 0, uRole := 4, target := 0, gw := false, retry := false, depth := 1, rate := 1, tmap := 0, crcOk := true } : Header).dfn.toNat, by decide +kernel, by decide +kernel, by decide +kernel, by decide +kernel, by decide +kernel, by decide +kernel, rfl⟩,
  ⟨{ up with bkb := { up.bkb with en := true, domain := 3, role := 2 } }, { dfn := 11, coord := 0, station := 0, domain := 3, uOwner := 0, uRole := 0, target := 0, gw := false, retry := false, depth := 1, rate := 1, tmap := 0, crcOk := true }, { floor := 1, quiet := List.replicate 22 1, clean := true, bps := 4320 }, by decide +kernel⟩,
  ⟨{ up with bkb := { up.bkb with en := true, domain := 3, role := 2 } }, { dfn := 11, coord := 2, station := 0, domain := 3, uOwner := 0, uRole := 0, target := 0, gw := false, retry := false, depth := 1, rate := 1, tmap := 0, crcOk := true }, { floor := 1, quiet := List.replicate 22 1, clean := true, bps := 4320 }, by decide +kernel⟩,
  ⟨{ up with bkb := { up.bkb with en := true, domain := 3, role := 1 } }, 63, List.replicate 1024 0, by decide +kernel⟩,
  ⟨{ up with bkb := { up.bkb with en := true, domain := 3, role := 2 } }, [], by decide +kernel⟩,
  ⟨{ up with bkb := { up.bkb with en := true, domain := 3, role := 2 } }, by decide +kernel⟩⟩

/-- States and operands that meet the hypotheses of BackboneMembership, clause by clause. -/
theorem wit_BackboneMembership :
  (∃ (s : State), ∃ (serial : W64), ∃ (count : W32), bkbOn s = true ∧ s.bkb.role = 2) ∧
  (∃ (s : State), ∃ (coord : W64), ∃ (k : Fin 64), bkbOn s = true ∧ s.bkb.join = .asking) ∧
  (∃ (s : State), ∃ (coord : W64), bkbOn s = true ∧ s.bkb.join = .asking) ∧
  (∃ (s : State), ∃ (coord : W64), bkbOn s = true ∧ s.bkb.join = .asking ∧ s.sct.domainMode = true) ∧
  (∃ (s : State), ∃ (coord : W64), ∃ (d : W32), ∃ (r : JoinReply), bkbOn s = true ∧ s.bkb.join = .asking ∧ d ≠ s.bkb.domain) ∧
  (∃ (s : State), ∃ (t0 : Nat), bkbOn s = true ∧ s.bkb.coordEn = true ∧ s.bkb.role = 0 ∧ s.bkb.join = .listening t0 ∧ t0 + 64000 ≤ s.now ∧ s.bkb.headerTick + 64000 ≤ s.now) ∧
  (∃ (s : State), bkbOn s = true ∧ s.bkb.role = 1 ∧ s.bkb.headerTick + 32000 ≤ s.now) :=
  ⟨⟨{ up with bkb := { up.bkb with en := true, domain := 3, role := 2 } }, 2, 0, by decide +kernel⟩,
  ⟨{ up with bkb := { up.bkb with en := true, domain := 3, join := .asking } }, 9, 63, by decide +kernel⟩,
  ⟨{ up with bkb := { up.bkb with en := true, domain := 3, join := .asking } }, 9, by decide +kernel⟩,
  ⟨{ { up with bkb := { up.bkb with en := true, domain := 3, join := .asking } } with sct := { up.sct with domainMode := true } }, 9, by decide +kernel⟩,
  ⟨{ up with bkb := { up.bkb with en := true, domain := 3, join := .asking } }, 9, 4, .refused, by decide +kernel⟩,
  ⟨at_ 64000 ({ up with bkb := { up.bkb with en := true, domain := 3, join := .listening 0 } }), 0, by decide +kernel⟩,
  ⟨at_ 32000 ({ up with bkb := { up.bkb with en := true, domain := 3, role := 1 } }), by decide +kernel⟩⟩

/-- States and operands that meet the hypotheses of BackboneCommands, clause by clause. -/
theorem wit_BackboneCommands :
  (∃ (s : State), ∃ (f : Flight), ∃ (v : W32), LinkUp s ∧ ((bitsOf v.toNat 2 2 = 3 ∨ 8 < bitsOf v.toNat 8 4))) ∧
  (∃ (s : State), ∃ (f : Flight), ∃ (v : W32), LinkUp s ∧ bitsOf v.toNat 2 2 ≠ 3 ∧ bitsOf v.toNat 8 4 ≤ 8) ∧
  (∃ (s : State), ∃ (f : Flight), ∃ (v : W32), LinkUp s ∧ v ≠ s.bkb.domain) ∧
  (∃ (s : State), ∃ (f : Flight), ∃ (k : Fin 16), ∃ (v : W32), ∃ (n : Notch), ∃ all, LinkUp s ∧ (n = { first := bitsOf v.toNat 0 10, last := bitsOf v.toNat 16 10, en := bitAt v.toNat 31 }) ∧ all = s.bkb.notch.set k.val n ∧ ((n.en = true → n.first ≤ n.last)) ∧ (448 ≤ ((List.range 1024).filter fun c => !barred all c).length)) ∧
  (∃ (s : State), ∃ (f : Flight), ∃ (k : Fin 16), ∃ (v : W32), LinkUp s ∧ bitAt v.toNat 31 = true ∧ bitsOf v.toNat 16 10 < bitsOf v.toNat 0 10) ∧
  (∃ (s : State), ∃ (f : Flight), Front 0x0704 f s ∧ s.bkb.role = 2) ∧
  (∃ (s : State), ∃ (f : Flight), Front 0x0704 f s ∧ s.bkb.role ≠ 2) ∧
  (∃ (s : State), ∃ (f : Flight), Front 0x0705 f s ∧ s.bkb.relay = none ∧ heldImage (BitVec.ofNat 32 (f.p 16 4)) s = none) ∧
  (∃ (s : State), ∃ (f : Flight), ∃ (x : Fin 2), Front 0x0705 f s ∧ s.bkb.relay = none ∧ heldImage (BitVec.ofNat 32 (f.p 16 4)) s = some x) ∧
  (∃ (s : State), ∃ (f : Flight), Front 0x0706 f s ∧ s.bkb.relay = none) ∧
  (∃ (s : State), ∃ (f : Flight), ∃ (r : Relay), Front 0x0706 f s ∧ s.bkb.relay = some r) ∧
  (∃ (s : State), ∃ (f : Flight), ∃ (x : ImageSlot), ∃ (idx : Nat), ∃ (data : List Byte), bkbOn s = true ∧ armedSlot s = some x ∧ x.sources.getLsbD 1 = true ∧ idx < x.pieces ∧ idx < 5120 ∧ x.bitmap.getLsbD idx = false) ∧
  (∃ (s : State), ∃ (f : Flight), Front 0x0705 f s ∧ s.bkb.relay.isSome = true) :=
  ⟨⟨up, fl 0 [], 0x0000000C, by delta LinkUp; decide +kernel, by decide +kernel⟩,
  ⟨up, fl 0 [], 0x00000809, by delta LinkUp; decide +kernel, by decide +kernel⟩,
  ⟨up, fl 0 [], 5, by delta LinkUp; decide +kernel, by decide +kernel⟩,
  ⟨up, fl 0 [], 15, 0x800A0005, { first := bitsOf (0x800A0005 : W32).toNat 0 10, last := bitsOf (0x800A0005 : W32).toNat 16 10, en := bitAt (0x800A0005 : W32).toNat 31 }, (up).bkb.notch.set (15 : Fin 16).val ({ first := bitsOf (0x800A0005 : W32).toNat 0 10, last := bitsOf (0x800A0005 : W32).toNat 16 10, en := bitAt (0x800A0005 : W32).toNat 31 } : Notch), by delta LinkUp; decide +kernel, rfl, rfl, by decide +kernel⟩,
  ⟨up, fl 0 [], 15, 0x80040005, by delta LinkUp; decide +kernel, by decide +kernel⟩,
  ⟨wf (fl 0x0704 []) ({ (up) with bkb := { (up).bkb with role := 2 } }), fl 0x0704 [], ⟨rfl, rfl, by decide +kernel, rfl, by decide +kernel⟩, by decide +kernel⟩,
  ⟨wf (fl 0x0704 []) (up), fl 0x0704 [], ⟨rfl, rfl, by decide +kernel, rfl, by decide +kernel⟩, by decide +kernel⟩,
  ⟨wf (fl 0x0705 (leBytes 4 9)) (up), fl 0x0705 (leBytes 4 9), ⟨rfl, rfl, by decide +kernel, rfl, by decide +kernel⟩, by decide +kernel⟩,
  ⟨wf (fl 0x0705 (leBytes 4 1)) (up), fl 0x0705 (leBytes 4 1), 0, ⟨rfl, rfl, by decide +kernel, rfl, by decide +kernel⟩, by decide +kernel⟩,
  ⟨wf (fl 0x0706 []) (up), fl 0x0706 [], ⟨rfl, rfl, by decide +kernel, rfl, by decide +kernel⟩, by decide +kernel⟩,
  ⟨wf (fl 0x0706 []) ({ (up) with bkb := { (up).bkb with relay := some { imageId := 1, pieces := 1 } } }), fl 0x0706 [], { imageId := 1, pieces := 1 }, ⟨rfl, rfl, by decide +kernel, rfl, by decide +kernel⟩, by decide +kernel⟩,
  ⟨armedImg { imageId := 7, pieces := 8, sources := 2 } ({ up with bkb := { up.bkb with en := true, domain := 3, role := 1 } }), fl 0 [], { imageId := 7, pieces := 8, sources := 2 }, 7, List.replicate 512 0, by decide +kernel⟩,
  ⟨wf (fl 0x0705 []) ({ (up) with bkb := { (up).bkb with relay := some { imageId := 1, pieces := 1, slot := 1 } } }), fl 0x0705 [], ⟨rfl, rfl, by decide +kernel, rfl, by decide +kernel⟩, by decide +kernel⟩⟩

/-- States and operands that meet the hypotheses of UplinkEnvelopes, clause by clause. -/
theorem wit_UplinkEnvelopes :
  (∃ (s : State), ∃ (f : Flight), Front 0x0701 f s ∧ s.upl.en = false) ∧
  (∃ (s : State), ∃ (f : Flight), Front 0x0701 f s ∧ s.upl.en = true ∧ 64 ≤ s.upl.out.length) ∧
  (∃ (s : State), ∃ (f : Flight), ∃ e, Front 0x0701 f s ∧ uplOn s = true ∧ s.upl.out.length < 64 ∧ s.upl.dual = false ∧ s.upl.activeB = false ∧ s.upl.hinge = none ∧ ((∀ e ∈ s.upl.out, e.seq ≠ s.upl.nextSeq)) ∧ (e = ({ kind := 0, serial := s.fuse.serial, epoch := s.upl.epoch, seq := BitVec.ofNat 32 s.upl.nextSeq, ack := BitVec.ofNat 32 s.upl.inAck, path := 0, dual := false, payload := f.inBuf } : Envelope))) ∧
  (∃ (s : State), ∃ (f : Flight), Front 0x0702 f s ∧ ((f.p 16 2 < 10 ∨ 60000 < f.p 16 2))) ∧
  (∃ (s : State), ∃ (f : Flight), Front 0x0702 f s ∧ 10 ≤ f.p 16 2 ∧ f.p 16 2 ≤ 60000 ∧ s.hif.run = false) ∧
  (∃ (s : State), ∃ (f : Flight), Front 0x0702 f s ∧ 10 ≤ f.p 16 2 ∧ f.p 16 2 ≤ 60000 ∧ s.hif.run = true ∧ s.upl.inbound = []) ∧
  (∃ (s : State), ∃ (f : Flight), ∃ e, ∃ es, Front 0x0702 f s ∧ 10 ≤ f.p 16 2 ∧ f.p 16 2 ≤ 60000 ∧ s.hif.run = true ∧ s.upl.inbound = e :: es ∧ s.upl.waits = []) ∧
  (∃ (s : State), ∃ (f : Flight), ∃ (t0 : Nat), s.upl.waits = [(f.seq, t0)] ∧ t0 ≤ s.now ∧ flight? f.seq s = some f) ∧
  (∃ (s : State), ∃ (f : Flight), ∃ (p : NetPath), ∃ (e : Envelope), e.serial = s.fuse.serial ∧ uplOn s = true ∧ e.payload.length ≤ 1476) ∧
  (∃ (s : State), ∃ (f : Flight), ∃ (p : NetPath), ∃ (e : Envelope), e.serial = s.fuse.serial ∧ uplOn s = true ∧ e.payload.length ≤ 1476 ∧ e.kind = 0 ∧ s.upl.inEpoch = some e.epoch ∧ s.upl.waits = [] ∧ s.upl.drill = none ∧ s.upl.hinge = none ∧ s.upl.inAck < e.seq.toNat ∧ s.upl.inAhead.contains e.seq.toNat = false ∧ s.upl.inbound.length < 64) ∧
  (∃ (s : State), ∃ (f : Flight), ∃ (p : NetPath), ∃ (e : Envelope), e.serial = s.fuse.serial ∧ uplOn s = true ∧ e.payload.length ≤ 1476 ∧ e.kind = 0 ∧ s.upl.inEpoch = some e.epoch ∧ s.upl.waits = [] ∧ s.upl.drill = none ∧ s.upl.hinge = none ∧ e.seq.toNat ≤ s.upl.inAck) ∧
  (∃ (s : State), ∃ (f : Flight), ∃ e ∈ s.upl.out, ∃ (t0 : Nat), e.sentTick = some t0 ∧ t0 + 3200 ≤ s.now) ∧
  (∃ (s : State), ∃ (f : Flight), uplOn s = true ∧ s.upl.dual = false ∧ s.upl.hinge = none ∧ dueAgain s ≠ [] ∧ s.upl.activeB = false) ∧
  (∃ (s : State), ∃ (f : Flight), uplOn s = true ∧ s.upl.dual = false ∧ s.upl.hinge = none ∧ dueAgain s ≠ [] ∧ s.upl.activeB = true) ∧
  (∃ (s : State), ∃ (f : Flight), ∃ (e : Envelope), ∃ (k : Fin 64), e.serial ≠ s.fuse.serial ∧ s.rst.codUp = true ∧ s.imageRuns = true ∧ s.bkb.role = 2 ∧ slotOf s e.serial = some k ∧ e.payload.length ≤ 1476) ∧
  (∃ (s : State), ∃ (f : Flight), ∃ (e : Envelope), ∃ (k : Fin 64), e.serial ≠ s.fuse.serial ∧ s.rst.codUp = true ∧ s.imageRuns = true ∧ s.bkb.role = 2 ∧ slotOf s e.serial = some k ∧ e.payload.length ≤ 1476 ∧ s.bkb.speed ≠ 3) ∧
  (∃ (s : State), ∃ (f : Flight), ∃ e, uplOn s = true ∧ s.upl.hinge = none ∧ s.upl.ackOwed.isSome = true ∧ ((s.upl.dual = true ∧ s.upl.heardB = false ∨ s.upl.dual = false ∧ s.upl.activeB = false)) ∧ (e = ({ kind := 1, serial := s.fuse.serial, epoch := s.upl.epoch, seq := 0, ack := BitVec.ofNat 32 s.upl.inAck, path := 0, dual := s.upl.dual, payload := [] } : Envelope))) ∧
  (∃ (s : State), ∃ (f : Flight), uplOn s = true ∧ s.upl.hinge = none ∧ s.upl.ackOwed.isSome = true ∧ ((s.upl.dual = true ∧ s.upl.heardB = true ∨ s.upl.dual = false ∧ s.upl.activeB = true))) :=
  ⟨⟨wf (fl 0x0701 []) (up), fl 0x0701 [], ⟨rfl, rfl, by decide +kernel, rfl, by decide +kernel⟩, by decide +kernel⟩,
  ⟨wf (fl 0x0701 []) ({ (up) with upl := { (up).upl with en := true, out := List.replicate 64 { seq := 1, payload := [] } } }), fl 0x0701 [], ⟨rfl, rfl, by decide +kernel, rfl, by decide +kernel⟩, by decide +kernel⟩,
  ⟨wf (fl 0x0701 []) ({ (up) with upl := { (up).upl with en := true } }), fl 0x0701 [], ({ kind := 0, serial := (wf (fl 0x0701 []) ({ (up) with upl := { (up).upl with en := true } })).fuse.serial, epoch := (wf (fl 0x0701 []) ({ (up) with upl := { (up).upl with en := true } })).upl.epoch, seq := BitVec.ofNat 32 (wf (fl 0x0701 []) ({ (up) with upl := { (up).upl with en := true } })).upl.nextSeq, ack := BitVec.ofNat 32 (wf (fl 0x0701 []) ({ (up) with upl := { (up).upl with en := true } })).upl.inAck, path := 0, dual := false, payload := (fl 0x0701 []).inBuf } : Envelope), ⟨rfl, rfl, by decide +kernel, rfl, by decide +kernel⟩, by decide +kernel, by decide +kernel, by decide +kernel, by decide +kernel, by decide +kernel, by decide +kernel, rfl⟩,
  ⟨wf (fl 0x0702 (leBytes 2 60001)) (up), fl 0x0702 (leBytes 2 60001), ⟨rfl, rfl, by decide +kernel, rfl, by decide +kernel⟩, by decide +kernel⟩,
  ⟨wf (fl 0x0702 (leBytes 2 10)) ({ (up) with hif := { (up).hif with run := false } }), fl 0x0702 (leBytes 2 10), ⟨rfl, rfl, by decide +kernel, rfl, by decide +kernel⟩, by decide +kernel⟩,
  ⟨wf (fl 0x0702 (leBytes 2 10)) ({ (up) with hif := { (up).hif with run := true } }), fl 0x0702 (leBytes 2 10), ⟨rfl, rfl, by decide +kernel, rfl, by decide +kernel⟩, by decide +kernel⟩,
  ⟨wf (fl 0x0702 (leBytes 2 60000)) ({ up with hif := { up.hif with run := true }, upl := { up.upl with inbound := [{ seq := 1, payload := [], path := 0 }] } }), fl 0x0702 (leBytes 2 60000), { seq := 1, payload := [], path := 0 }, [], ⟨rfl, rfl, by decide +kernel, rfl, by decide +kernel⟩, by decide +kernel⟩,
  ⟨wf (fl 0x0702 []) ({ (up) with upl := { (up).upl with waits := [(1, 0)] } }), fl 0x0702 [], 0, by decide +kernel⟩,
  ⟨{ (up) with upl := { (up).upl with en := true } }, fl 0 [], .a, { kind := 0, serial := 1, epoch := 4, seq := 1, ack := 0, payload := [] }, by decide +kernel⟩,
  ⟨{ (up) with upl := { (up).upl with en := true, inEpoch := some 4 } }, fl 0 [], .a, { kind := 0, serial := 1, epoch := 4, seq := 1, ack := 0, payload := [] }, by decide +kernel⟩,
  ⟨{ (up) with upl := { (up).upl with en := true, inEpoch := some 4, inAck := 1 } }, fl 0 [], .a, { kind := 0, serial := 1, epoch := 4, seq := 1, ack := 0, payload := [] }, by decide +kernel⟩,
  ⟨at_ 3200 ({ (up) with upl := { (up).upl with en := true, out := [{ seq := 1, payload := [], sentTick := some 0 }] } }), fl 0 [], { seq := 1, payload := [], sentTick := some 0 }, by decide +kernel, 0, by decide +kernel⟩,
  ⟨{ (up) with upl := { (up).upl with en := true, out := [{ seq := 1, payload := [] }] } }, fl 0 [], by decide +kernel⟩,
  ⟨{ (up) with upl := { (up).upl with en := true, activeB := true, out := [{ seq := 1, payload := [] }] } }, fl 0 [], by decide +kernel⟩,
  ⟨{ up with bkb := { up.bkb with role := 2 }, sct := { up.sct with domainMode := true, ledger := up.sct.ledger.set 63 { serial := 2, state := .present } } }, fl 0 [], { kind := 0, serial := 2, epoch := 4, seq := 1, ack := 0, payload := [] }, 63, by decide +kernel⟩,
  ⟨{ up with bkb := { up.bkb with role := 2, speed := 2 }, sct := { up.sct with domainMode := true, ledger := up.sct.ledger.set 63 { serial := 2, state := .present } } }, fl 0 [], { kind := 0, serial := 2, epoch := 4, seq := 1, ack := 0, payload := [] }, 63, by decide +kernel⟩,
  ⟨{ (up) with upl := { (up).upl with en := true, ackOwed := some 0 } }, fl 0 [], ({ kind := 1, serial := ({ (up) with upl := { (up).upl with en := true, ackOwed := some 0 } } : State).fuse.serial, epoch := ({ (up) with upl := { (up).upl with en := true, ackOwed := some 0 } } : State).upl.epoch, seq := 0, ack := BitVec.ofNat 32 ({ (up) with upl := { (up).upl with en := true, ackOwed := some 0 } } : State).upl.inAck, path := 0, dual := ({ (up) with upl := { (up).upl with en := true, ackOwed := some 0 } } : State).upl.dual, payload := [] } : Envelope), by decide +kernel, by decide +kernel, by decide +kernel, by decide +kernel, rfl⟩,
  ⟨{ (up) with upl := { (up).upl with en := true, ackOwed := some 0, activeB := true } }, fl 0 [], by decide +kernel⟩⟩

/-- States and operands that meet the hypotheses of UplinkPaths, clause by clause. -/
theorem wit_UplinkPaths :
  (∃ (s : State), ∃ (f : Flight), s.rst.codUp = true) ∧
  (∃ (s : State), ∃ (f : Flight), ∃ (k : Fin 3), s.rst.codUp = true ∧ s.imageRuns = true) ∧
  (∃ (s : State), ∃ (f : Flight), ∃ (p : NetPath), uplOn s = true ∧ s.upl.dual = false ∧ s.upl.activeB = decide (p = .b) ∧ s.upl.hinge = none ∧ s.upl.proveBy = none ∧ s.upl.trying = none ∧ s.upl.drill = none ∧ (if p = .b then s.upl.lastB else s.upl.lastA) + 19200 ≤ s.now ∧ pathOk s (decide (p = .b)) = true) ∧
  (∃ (s : State), ∃ (f : Flight), ∃ (t0 : Nat), s.upl.proveBy = some t0 ∧ uplOn s = true ∧ t0 ≤ s.now) ∧
  (∃ (s : State), ∃ (f : Flight), ∃ (t0 : Nat), s.upl.trying = some t0 ∧ uplOn s = true ∧ t0 + 64000 ≤ s.now) ∧
  (∃ (s : State), ∃ (f : Flight), Front 0x0703 f s ∧ 2 < f.p 16 1) ∧
  (∃ (s : State), ∃ (f : Flight), Front 0x0703 f s ∧ f.p 16 1 ≤ 2 ∧ s.upl.en = true ∧ s.upl.dual = false ∧ s.bkb.role ≠ 2 ∧ s.upl.drill = none ∧ standbyDown s = true) ∧
  (∃ (s : State), ∃ (f : Flight), Front 0x0703 f s ∧ f.p 16 1 ≤ 2 ∧ s.upl.en = true ∧ s.upl.dual = false ∧ s.bkb.role ≠ 2 ∧ s.upl.drill = none ∧ standbyDown s = false) ∧
  (∃ (s : State), ∃ (f : Flight), ∃ (d : Drill), s.upl.drill = some d ∧ uplOn s = true ∧ d.step = 1 ∧ d.start + 19200 ≤ s.now) ∧
  (∃ (s : State), ∃ (f : Flight), ∃ (v : W32), LinkUp s ∧ s.upl.en = true ∧ bitAt v.toNat 1 ≠ s.upl.dual) ∧
  (∃ (s : State), ∃ (f : Flight), ∃ (v : W32), LinkUp s ∧ s.upl.en = false) ∧
  (∃ (s : State), ∃ (f : Flight), ∃ (v : W32), LinkUp s ∧ s.upl.en = true ∧ bitAt v.toNat 0 = false ∧ bitAt v.toNat 1 = s.upl.dual ∧ s.upl.drill = none) ∧
  (∃ (s : State), ∃ (f : Flight), Front 0x0703 f s ∧ f.p 16 1 ≤ 2 ∧ (s.upl.en = false ∨ s.upl.dual = true ∨ s.bkb.role = 2 ∨ s.upl.drill.isSome = true)) :=
  ⟨⟨up, fl 0 [], by decide +kernel⟩,
  ⟨up, fl 0 [], 2, by decide +kernel⟩,
  ⟨at_ 19200 ({ (up) with upl := { (up).upl with en := true, bOk := true, aOk := true } }), fl 0 [], .a, by decide +kernel⟩,
  ⟨{ (up) with upl := { (up).upl with en := true, proveBy := some 0 } }, fl 0 [], 0, by decide +kernel⟩,
  ⟨at_ 64000 ({ (up) with upl := { (up).upl with en := true, trying := some 0 } }), fl 0 [], 0, by decide +kernel⟩,
  ⟨wf (fl 0x0703 ([3])) (up), fl 0x0703 ([3]), ⟨rfl, rfl, by decide +kernel, rfl, by decide +kernel⟩, by decide +kernel⟩,
  ⟨wf (fl 0x0703 ([2])) ({ (up) with upl := { (up).upl with en := true } }), fl 0x0703 ([2]), ⟨rfl, rfl, by decide +kernel, rfl, by decide +kernel⟩, by decide +kernel⟩,
  ⟨wf (fl 0x0703 ([2])) ({ (up) with upl := { (up).upl with en := true, bOk := true }, bkb := { (up).bkb with role := 1, gw := true } }), fl 0x0703 ([2]), ⟨rfl, rfl, by decide +kernel, rfl, by decide +kernel⟩, by decide +kernel⟩,
  ⟨at_ 19200 ({ (up) with upl := { (up).upl with en := true, drill := some { flight := 1, mode := 0, start := 0, step := 1 } } }), fl 0 [], { flight := 1, mode := 0, start := 0, step := 1 }, by decide +kernel⟩,
  ⟨{ (up) with upl := { (up).upl with en := true } }, fl 0 [], 2, by delta LinkUp; decide +kernel, by decide +kernel⟩,
  ⟨up, fl 0 [], 1, by delta LinkUp; decide +kernel, by decide +kernel⟩,
  ⟨{ (up) with upl := { (up).upl with en := true } }, fl 0 [], 0, by delta LinkUp; decide +kernel, by decide +kernel⟩,
  ⟨wf (fl 0x0703 ([2])) ({ (up) with upl := { (up).upl with en := false } }), fl 0x0703 ([2]), ⟨rfl, rfl, by decide +kernel, rfl, by decide +kernel⟩, by decide +kernel⟩⟩

/-- States and operands that meet the hypotheses of CardReader, clause by clause. -/
theorem wit_CardReader :
  (∃ (s : State), ∃ (amp : Nat), ∃ (cards : List Card), s.isReady 8 = true ∧ pingDue s = true ∧ s.nfc.applyCfg.en = true ∧ triggers s.nfc.applyCfg.thresh amp s.nfc.pings = false) ∧
  (∃ (s : State), ∃ (amp : Nat), ∃ (cards : List Card), s.isReady 8 = true ∧ pingDue s = true ∧ s.nfc.applyCfg.en = true ∧ triggers s.nfc.applyCfg.thresh amp s.nfc.pings = true ∧ s.nfc.heldUntil.isSome = true) ∧
  (∃ (s : State), ∃ (amp : Nat), ∃ (cards : List Card), s.isReady 8 = true ∧ pingDue s = true ∧ s.nfc.applyCfg.en = true ∧ triggers s.nfc.applyCfg.thresh amp s.nfc.pings = true ∧ s.nfc.heldUntil = none) ∧
  (∃ (s : State), ∃ (t0 : Nat), s.nfc.heldUntil = some t0 ∧ t0 ≤ s.now) ∧
  (∃ (s : State), ∃ (t0 : Nat), s.nfc.heldUntil = some t0) ∧
  (∃ (s : State), ∃ f, Front 0x0806 f s ∧ s.nfc.heldUntil = none) ∧
  (∃ (s : State), ∃ f, Front 0x0806 f s ∧ s.nfc.heldUntil.isSome = true ∧ s.nfc.exchange.isSome = true) ∧
  (∃ (s : State), ∃ f, Front 0x0806 f s ∧ s.nfc.heldUntil.isSome = true ∧ s.nfc.exchange = none) ∧
  (∃ (s : State), ∃ (f : Flight), ∃ (t0 : Nat), ∃ (ans : List Byte), ∃ n, s.nfc.exchange = some (f.seq, t0) ∧ flight? f.seq s = some f ∧ s.nfc.heldUntil.isSome = true ∧ s.now ≤ t0 + 320000 ∧ n = min 258 ans.length) ∧
  (∃ (s : State), ∃ (f : Flight), ∃ (t0 : Nat), s.nfc.exchange = some (f.seq, t0) ∧ flight? f.seq s = some f ∧ t0 + 320000 ≤ s.now) :=
  ⟨⟨{ (up) with nfc := { (up).nfc with pings := List.replicate 8 100 } }, 97, [], by decide +kernel⟩,
  ⟨{ (up) with nfc := { (up).nfc with pings := List.replicate 8 100, heldUntil := some 0 } }, 96, [], by decide +kernel⟩,
  ⟨{ (up) with nfc := { (up).nfc with pings := List.replicate 8 100 } }, 104, [{ ktype := 1, ident := [1, 2, 3, 4], isoDep := false }], by decide +kernel⟩,
  ⟨{ (up) with nfc := { (up).nfc with heldUntil := some 0 } }, 0, by decide +kernel⟩,
  ⟨{ (up) with nfc := { (up).nfc with heldUntil := some 0 } }, 0, by decide +kernel⟩,
  ⟨wf (fl 0x0806 []) (up), fl 0x0806 [], ⟨rfl, rfl, by decide +kernel, rfl, by decide +kernel⟩, by decide +kernel⟩,
  ⟨wf (fl 0x0806 []) ({ (up) with nfc := { (up).nfc with heldUntil := some 0, exchange := some (9, 0) } }), fl 0x0806 [], ⟨rfl, rfl, by decide +kernel, rfl, by decide +kernel⟩, by decide +kernel⟩,
  ⟨wf (fl 0x0806 []) ({ (up) with nfc := { (up).nfc with heldUntil := some 0 } }), fl 0x0806 [], ⟨rfl, rfl, by decide +kernel, rfl, by decide +kernel⟩, by decide +kernel⟩,
  ⟨wf (fl 0x0806 [] 2) (at_ 320000 ({ (up) with nfc := { (up).nfc with heldUntil := some 0, exchange := some (1, 0) } })), fl 0x0806 [] 2, 0, [0x90, 0], 2, by decide +kernel⟩,
  ⟨wf (fl 0x0806 []) (at_ 320000 ({ (up) with nfc := { (up).nfc with heldUntil := some 0, exchange := some (1, 0) } })), fl 0x0806 [], 0, by decide +kernel⟩⟩

/-- States and operands that meet the hypotheses of AuthorisationList, clause by clause. -/
theorem wit_AuthorisationList :
  (∃ (s : State), ∃ (f : Flight), Front 0x0801 f s ∧ ((f.bufLen % 32 ≠ 0 ∨ f.bufLen = 0 ∨ 16384 < f.bufLen))) ∧
  (∃ (s : State), ∃ (f : Flight), ∃ (e : ListEntry), ∃ (old : Nat × ListEntry), Front 0x0801 f s ∧ f.bufLen = 32 ∧ parseBatch 1 f.inBuf = some [e] ∧ listFind e.ktype e.klen e.key s = some old) ∧
  (∃ (s : State), ∃ (f : Flight), ∃ (e : ListEntry), Front 0x0801 f s ∧ f.bufLen = 32 ∧ parseBatch 1 f.inBuf = some [e] ∧ listFind e.ktype e.klen e.key s = none ∧ s.nfc.entries.length < 16384) ∧
  (∃ (s : State), ∃ (f : Flight), ∃ (e : ListEntry), ∃ i, Front 0x0801 f s ∧ f.bufLen = 32 ∧ parseBatch 1 f.inBuf = some [e] ∧ listFind e.ktype e.klen e.key s = none ∧ 16384 ≤ s.nfc.entries.length ∧ evictIndex s = some i) ∧
  (∃ (s : State), ∃ (f : Flight), ∃ (e : ListEntry), Front 0x0801 f s ∧ f.bufLen = 32 ∧ parseBatch 1 f.inBuf = some [e] ∧ listFind e.ktype e.klen e.key s = none ∧ 16384 ≤ s.nfc.entries.length ∧ ((∀ x ∈ s.nfc.entries, x.2.pinned = true))) ∧
  (∃ (s : State), ∃ (f : Flight), ∃ kt, ∃ kl, ∃ key, ∃ i, ∃ e, f.listKey = some (kt, kl, key) ∧ listFind kt kl key s = some (i, e) ∧ Front 0x0802 f s) ∧
  (∃ (s : State), ∃ (f : Flight), ∃ kt, ∃ kl, ∃ key, ∃ i, ∃ e, f.listKey = some (kt, kl, key) ∧ listFind kt kl key s = some (i, e) ∧ Front 0x0804 f s) ∧
  (∃ (s : State), ∃ (f : Flight), ∃ kt, ∃ kl, ∃ key, f.listKey = some (kt, kl, key) ∧ listFind kt kl key s = none ∧ Front 0x0802 f s) ∧
  (∃ (s : State), ∃ (f : Flight), ∃ kt, ∃ kl, ∃ key, f.listKey = some (kt, kl, key) ∧ listFind kt kl key s = none ∧ Front 0x0804 f s) ∧
  (∃ (s : State), ∃ (f : Flight), Front 0x0803 f s ∧ ((f.p 16 1 = 0 ∨ 3 < f.p 16 1))) ∧
  (∃ (s : State), ∃ (f : Flight), Front 0x0803 f s ∧ 1 ≤ f.p 16 1 ∧ f.p 16 1 ≤ 3 ∧ sparseWf ({} : ListEntry) s.nfc.entries = true) ∧
  (∃ (s : State), ∃ (f : Flight), ∃ first, ∃ n, Front 0x0805 f s ∧ first = f.p 16 2 ∧ n = f.p 18 2 ∧ 1 ≤ n ∧ n ≤ 512 ∧ first + n ≤ 16384 ∧ f.bufLen = 32 * n) ∧
  (∃ (s : State), ∃ (f : Flight), s.isReady 18 = true ∧ s.nfc.saveTick + 3840000 ≤ s.now) ∧
  (∃ (s : State), ∃ (f : Flight), s.isReady 18 = true ∧ s.clk.unsynced = true) ∧
  (∃ (s : State), ∃ (f : Flight), s.isReady 18 = true ∧ s.clk.unsynced = false ∧ sparseWf ({} : ListEntry) s.nfc.entries = true) ∧
  (∃ (s : State), ∃ (f : Flight), f.listKey = none ∧ Front 0x0802 f s) ∧
  (∃ (s : State), ∃ (f : Flight), f.listKey = none ∧ Front 0x0804 f s) ∧
  (∃ (s : State), ∃ (f : Flight), Front 0x0805 f s ∧ (f.p 18 2 = 0 ∨ 512 < f.p 18 2 ∨ 16384 < f.p 16 2 + f.p 18 2 ∨ f.bufLen ≠ 32 * f.p 18 2)) :=
  ⟨⟨wf (fl 0x0801 [] 16416) (up), fl 0x0801 [] 16416, ⟨rfl, rfl, by decide +kernel, rfl, by decide +kernel⟩, by decide +kernel⟩,
  ⟨wf (fl 0x0801 [] 32 ([1, 0, 4, 0, 9, 9, 9, 9] ++ List.replicate 24 0)) ({ (up) with nfc := { (up).nfc with entries := [(16383, { ktype := 1, klen := 4, key := [9, 9, 9, 9, 0, 0, 0, 0, 0, 0, 0, 0, 0, 0, 0, 0] })] } }), fl 0x0801 [] 32 ([1, 0, 4, 0, 9, 9, 9, 9] ++ List.replicate 24 0), { ktype := 1, klen := 4, key := [9, 9, 9, 9, 0, 0, 0, 0, 0, 0, 0, 0, 0, 0, 0, 0] }, (16383, { ktype := 1, klen := 4, key := [9, 9, 9, 9, 0, 0, 0, 0, 0, 0, 0, 0, 0, 0, 0, 0] }), ⟨rfl, rfl, by decide +kernel, rfl, by decide +kernel⟩, by decide +kernel⟩,
  ⟨wf (fl 0x0801 [] 32 ([1, 0, 4, 0, 9, 9, 9, 9] ++ List.replicate 24 0)) (up), fl 0x0801 [] 32 ([1, 0, 4, 0, 9, 9, 9, 9] ++ List.replicate 24 0), { ktype := 1, klen := 4, key := [9, 9, 9, 9, 0, 0, 0, 0, 0, 0, 0, 0, 0, 0, 0, 0] }, ⟨rfl, rfl, by decide +kernel, rfl, by decide +kernel⟩, by decide +kernel⟩,
  ⟨wf (fl 0x0801 [] 32 ([1, 0, 4, 0, 9, 9, 9, 9] ++ List.replicate 24 0)) (fullList 16384 false up), fl 0x0801 [] 32 ([1, 0, 4, 0, 9, 9, 9, 9] ++ List.replicate 24 0), { ktype := 1, klen := 4, key := [9, 9, 9, 9, 0, 0, 0, 0, 0, 0, 0, 0, 0, 0, 0, 0] }, 0, ⟨rfl, rfl, by decide +kernel, rfl, by decide +kernel⟩, by decide +kernel, by decide +kernel, fullList_find _ _ _ _, fullList_len _ _ _, fullList_evict 16383 _ rfl⟩,
  ⟨wf (fl 0x0801 [] 32 ([1, 0, 4, 0, 9, 9, 9, 9] ++ List.replicate 24 0)) (fullList 16384 true up), fl 0x0801 [] 32 ([1, 0, 4, 0, 9, 9, 9, 9] ++ List.replicate 24 0), { ktype := 1, klen := 4, key := [9, 9, 9, 9, 0, 0, 0, 0, 0, 0, 0, 0, 0, 0, 0, 0] }, ⟨rfl, rfl, by decide +kernel, rfl, by decide +kernel⟩, by decide +kernel, by decide +kernel, fullList_find _ _ _ _, fullList_len _ _ _, fullList_pinned _ _⟩,
  ⟨wf (fl 0x0802 ([1, 4] ++ [9, 9, 9, 9, 0, 0, 0, 0, 0, 0, 0, 0, 0, 0, 0, 0])) ({ (up) with nfc := { (up).nfc with entries := [(16383, { ktype := 1, klen := 4, key := [9, 9, 9, 9, 0, 0, 0, 0, 0, 0, 0, 0, 0, 0, 0, 0] })] } }), fl 0x0802 ([1, 4] ++ [9, 9, 9, 9, 0, 0, 0, 0, 0, 0, 0, 0, 0, 0, 0, 0]), 1, 4, [9, 9, 9, 9, 0, 0, 0, 0, 0, 0, 0, 0, 0, 0, 0, 0], 16383, { ktype := 1, klen := 4, key := [9, 9, 9, 9, 0, 0, 0, 0, 0, 0, 0, 0, 0, 0, 0, 0] }, by decide +kernel, by decide +kernel, ⟨rfl, rfl, by decide +kernel, rfl, by decide +kernel⟩⟩,
  ⟨wf (fl 0x0804 ([1, 4] ++ [9, 9, 9, 9, 0, 0, 0, 0, 0, 0, 0, 0, 0, 0, 0, 0])) ({ (up) with nfc := { (up).nfc with entries := [(16383, { ktype := 1, klen := 4, key := [9, 9, 9, 9, 0, 0, 0, 0, 0, 0, 0, 0, 0, 0, 0, 0] })] } }), fl 0x0804 ([1, 4] ++ [9, 9, 9, 9, 0, 0, 0, 0, 0, 0, 0, 0, 0, 0, 0, 0]), 1, 4, [9, 9, 9, 9, 0, 0, 0, 0, 0, 0, 0, 0, 0, 0, 0, 0], 16383, { ktype := 1, klen := 4, key := [9, 9, 9, 9, 0, 0, 0, 0, 0, 0, 0, 0, 0, 0, 0, 0] }, by decide +kernel, by decide +kernel, ⟨rfl, rfl, by decide +kernel, rfl, by decide +kernel⟩⟩,
  ⟨wf (fl 0x0802 ([1, 4] ++ [9, 9, 9, 9, 0, 0, 0, 0, 0, 0, 0, 0, 0, 0, 0, 0])) (up), fl 0x0802 ([1, 4] ++ [9, 9, 9, 9, 0, 0, 0, 0, 0, 0, 0, 0, 0, 0, 0, 0]), 1, 4, [9, 9, 9, 9, 0, 0, 0, 0, 0, 0, 0, 0, 0, 0, 0, 0], by decide +kernel, by decide +kernel, ⟨rfl, rfl, by decide +kernel, rfl, by decide +kernel⟩⟩,
  ⟨wf (fl 0x0804 ([1, 4] ++ [9, 9, 9, 9, 0, 0, 0, 0, 0, 0, 0, 0, 0, 0, 0, 0])) (up), fl 0x0804 ([1, 4] ++ [9, 9, 9, 9, 0, 0, 0, 0, 0, 0, 0, 0, 0, 0, 0, 0]), 1, 4, [9, 9, 9, 9, 0, 0, 0, 0, 0, 0, 0, 0, 0, 0, 0, 0], by decide +kernel, by decide +kernel, ⟨rfl, rfl, by decide +kernel, rfl, by decide +kernel⟩⟩,
  ⟨wf (fl 0x0803 ([4])) (up), fl 0x0803 ([4]), ⟨rfl, rfl, by decide +kernel, rfl, by decide +kernel⟩, by decide +kernel⟩,
  ⟨wf (fl 0x0803 ([3])) (up), fl 0x0803 ([3]), ⟨rfl, rfl, by decide +kernel, rfl, by decide +kernel⟩, by decide +kernel⟩,
  ⟨wf (fl 0x0805 (leBytes 2 15872 ++ leBytes 2 512) 16384) (up), fl 0x0805 (leBytes 2 15872 ++ leBytes 2 512) 16384, (fl 0x0805 (leBytes 2 15872 ++ leBytes 2 512) 16384).p 16 2, (fl 0x0805 (leBytes 2 15872 ++ leBytes 2 512) 16384).p 18 2, ⟨rfl, rfl, by decide +kernel, rfl, by decide +kernel⟩, rfl, rfl, by decide +kernel⟩,
  ⟨at_ 3840000 up, fl 0 [], by decide +kernel⟩,
  ⟨up, fl 0 [], by decide +kernel⟩,
  ⟨{ (up) with clk := { (up).clk with unsynced := false } }, fl 0 [], by decide +kernel⟩,
  ⟨wf (fl 0x0802 []) (up), fl 0x0802 [], by decide +kernel, ⟨rfl, rfl, by decide +kernel, rfl, by decide +kernel⟩⟩,
  ⟨wf (fl 0x0804 []) (up), fl 0x0804 [], by decide +kernel, ⟨rfl, rfl, by decide +kernel, rfl, by decide +kernel⟩⟩,
  ⟨wf (fl 0x0805 (leBytes 2 16384 ++ leBytes 2 1) 32) (up), fl 0x0805 (leBytes 2 16384 ++ leBytes 2 1) 32, ⟨rfl, rfl, by decide +kernel, rfl, by decide +kernel⟩, by decide +kernel⟩⟩

/-- States and operands that meet the hypotheses of TagFieldCommands, clause by clause. -/
theorem wit_TagFieldCommands :
  (∃ (s : State), s.tag.field = false) ∧
  (∃ (s : State), s.tag.field = true ∧ s.tag.quiet = false) ∧
  (∃ (s : State), s.tag.field = true) ∧
  (∃ (s : State), ∃ (u : W64), s.tag.field = true ∧ u ≠ s.fuse.tagUid) ∧
  (∃ (s : State), ∃ (c : Byte), s.tag.field = true) ∧
  (∃ (s : State), ∃ (p : Nat), ∃ (n : Nat), s.tag.field = true ∧ s.tag.jobs = []) ∧
  (∃ (s : State), ∃ (b : Nat), ∃ (u : State), s.tag.field = true ∧ b < 2048 ∧ mayRead b s = true ∧ u = fieldTakes (b / 4) 1 s) ∧
  (∃ (s : State), ∃ (b : Nat), ∃ (n : Nat), ∃ (u : State), s.tag.field = true ∧ u = fieldTakes (b / 4) ((b + n - 1) / 4 + 1 - b / 4) s ∧ 1 ≤ n ∧ n ≤ 32 ∧ b + n ≤ 2048 ∧ b / 512 = (b + n - 1) / 512 ∧ mayRead b s = true) ∧
  (∃ (s : State), ∃ (b : Nat), ∃ (n : Nat), ∃ (u : State), s.tag.field = true ∧ u = fieldTakes (b / 4) ((b + n - 1) / 4 + 1 - b / 4) s ∧ 1 ≤ n ∧ n ≤ 32 ∧ b + n ≤ 2048 ∧ b / 512 = (b + n - 1) / 512 ∧ mayRead b s = false) ∧
  (∃ (s : State), ∃ (b : Nat), ∃ (n : Nat), ∃ (u : State), s.tag.field = true ∧ u = fieldTakes (b / 4) ((b + n - 1) / 4 + 1 - b / 4) s ∧ 1 ≤ n ∧ 2048 < b + n) ∧
  (∃ (s : State), ∃ (b : Nat), ∃ (data : List Byte), ∃ (n : Nat), ∃ g, s.tag.field = true ∧ sparseWf ({} : Page) s.tag.pages = true ∧ data.length = 4 * n ∧ 1 ≤ n ∧ b % 4 + n ≤ 4 ∧ b < 2048 ∧ mayWrite b s = true ∧ g = pageOf (fieldTakes (b / 4) 1 s) (b / 4)) ∧
  (∃ (s : State), ∃ (b : Nat), ∃ (data : List Byte), ∃ (n : Nat), ∃ g, ∃ (cut : Nat), s.tag.field = true ∧ sparseWf ({} : Page) s.tag.pages = true ∧ data.length = 4 * n ∧ 1 ≤ n ∧ b % 4 + n ≤ 4 ∧ b < 2048 ∧ mayWrite b s = true ∧ g = pageOf (fieldTakes (b / 4) 1 s) (b / 4) ∧ 1 ≤ cut) ∧
  (∃ (s : State), ∃ (b : Nat), ∃ (data : List Byte), ∃ (n : Nat), ∃ g, ∃ (cut : Nat), s.tag.field = true ∧ sparseWf ({} : Page) s.tag.pages = true ∧ data.length = 4 * n ∧ 1 ≤ n ∧ b % 4 + n ≤ 4 ∧ b < 2048 ∧ mayWrite b s = true ∧ g = pageOf (fieldTakes (b / 4) 1 s) (b / 4) ∧ n = 1) ∧
  (∃ (s : State), s.tag.field = true ∧ s.tag.jobs = []) ∧
  (∃ (s : State), ∃ (m : Byte), ∃ (k : Byte), ∃ (pw : W32), ∃ (u : State), ∃ (a : TagArea), s.tag.field = true ∧ m.toNat = bitsOf s.fuse.tagUid.toNat 48 8 ∧ (u = settingsFree { s with tag := closeAreas s.tag }) ∧ tagArea? k.toNat u = some a) ∧
  (∃ (s : State), ∃ (m : Byte), ∃ (k : Byte), ∃ (pw : W32), ∃ (u : State), ∃ (a : TagArea), s.tag.field = true ∧ m.toNat = bitsOf s.fuse.tagUid.toNat 48 8 ∧ (u = settingsFree { s with tag := closeAreas s.tag }) ∧ tagArea? k.toNat u = some a ∧ a.locked = true) ∧
  (∃ (s : State), ∃ (m : Byte), ∃ (k : Byte), ∃ (pw : W32), ∃ (u : State), ∃ (a : TagArea), s.tag.field = true ∧ m.toNat = bitsOf s.fuse.tagUid.toNat 48 8 ∧ (u = settingsFree { s with tag := closeAreas s.tag }) ∧ tagArea? k.toNat u = some a ∧ a.locked = false ∧ pw = a.password) ∧
  (∃ (s : State), ∃ (m : Byte), ∃ (k : Byte), ∃ (pw : W32), ∃ (u : State), ∃ (a : TagArea), s.tag.field = true ∧ m.toNat = bitsOf s.fuse.tagUid.toNat 48 8 ∧ (u = settingsFree { s with tag := closeAreas s.tag }) ∧ tagArea? k.toNat u = some a ∧ a.locked = false ∧ pw ≠ a.password) ∧
  (∃ (s : State), ∃ (m : Byte), ∃ (k : Byte), ∃ (pw : W32), ∃ (u : State), ∃ (a : TagArea), ∃ (cut : Nat), s.tag.field = true ∧ m.toNat = bitsOf s.fuse.tagUid.toNat 48 8 ∧ (u = settingsFree { s with tag := closeAreas s.tag }) ∧ tagArea? k.toNat u = some a ∧ a.locked = false ∧ 1 ≤ cut ∧ cut ≤ 3) ∧
  (∃ (s : State), ∃ (m : Byte), ∃ (k : Byte), ∃ (pw : W32), ∃ (u : State), ∃ (a : TagArea), s.tag.field = true ∧ m.toNat = bitsOf s.fuse.tagUid.toNat 48 8 ∧ (u = settingsFree { s with tag := closeAreas s.tag }) ∧ tagArea? k.toNat u = some a ∧ a.locked = false ∧ u.tag.cut = none) :=
  ⟨⟨up, by decide +kernel⟩,
  ⟨{ (up) with tag := { (up).tag with field := true } }, by decide +kernel⟩,
  ⟨{ (up) with tag := { (up).tag with field := true } }, by decide +kernel⟩,
  ⟨{ (up) with tag := { (up).tag with field := true } }, 2, by decide +kernel⟩,
  ⟨{ (up) with tag := { (up).tag with field := true } }, 0xFF, by decide +kernel⟩,
  ⟨{ (up) with tag := { (up).tag with field := true } }, 511, 1, by decide +kernel⟩,
  ⟨{ (up) with tag := { (up).tag with field := true } }, 2047, fieldTakes ((2047 : Nat) / 4) 1 ({ (up) with tag := { (up).tag with field := true } } : State), by decide +kernel, by decide +kernel, by decide +kernel, rfl⟩,
  ⟨{ (up) with tag := { (up).tag with field := true } }, 2016, 32, fieldTakes ((2016 : Nat) / 4) (((2016 : Nat) + (32 : Nat) - 1) / 4 + 1 - (2016 : Nat) / 4) ({ (up) with tag := { (up).tag with field := true } } : State), by decide +kernel, rfl, by decide +kernel⟩,
  ⟨{ (up) with tag := { (up).tag with field := true, area := Vector.replicate 3 { rp := true, wp := true } } }, 2016, 32, fieldTakes ((2016 : Nat) / 4) (((2016 : Nat) + (32 : Nat) - 1) / 4 + 1 - (2016 : Nat) / 4) ({ (up) with tag := { (up).tag with field := true, area := Vector.replicate 3 { rp := true, wp := true } } } : State), by decide +kernel, rfl, by decide +kernel⟩,
  ⟨{ (up) with tag := { (up).tag with field := true } }, 2047, 2, fieldTakes ((2047 : Nat) / 4) (((2047 : Nat) + (2 : Nat) - 1) / 4 + 1 - (2047 : Nat) / 4) ({ (up) with tag := { (up).tag with field := true } } : State), by decide +kernel, rfl, by decide +kernel⟩,
  ⟨{ (up) with tag := { (up).tag with field := true, area := Vector.replicate 3 { wp := false } } }, 2044, List.replicate 16 7, 4, pageOf (fieldTakes ((2044 : Nat) / 4) 1 ({ (up) with tag := { (up).tag with field := true, area := Vector.replicate 3 { wp := false } } } : State)) ((2044 : Nat) / 4), by decide +kernel, by decide +kernel, by decide +kernel, by decide +kernel, by decide +kernel, by decide +kernel, by decide +kernel, rfl⟩,
  ⟨{ (up) with tag := { (up).tag with field := true, area := Vector.replicate 3 { wp := false } } }, 2044, List.replicate 16 7, 4, pageOf (fieldTakes ((2044 : Nat) / 4) 1 ({ (up) with tag := { (up).tag with field := true, area := Vector.replicate 3 { wp := false } } } : State)) ((2044 : Nat) / 4), 1, by decide +kernel, by decide +kernel, by decide +kernel, by decide +kernel, by decide +kernel, by decide +kernel, by decide +kernel, rfl, by decide +kernel⟩,
  ⟨{ (up) with tag := { (up).tag with field := true, area := Vector.replicate 3 { wp := false } } }, 2044, List.replicate 4 7, 1, pageOf (fieldTakes ((2044 : Nat) / 4) 1 ({ (up) with tag := { (up).tag with field := true, area := Vector.replicate 3 { wp := false } } } : State)) ((2044 : Nat) / 4), 0, by decide +kernel, by decide +kernel, by decide +kernel, by decide +kernel, by decide +kernel, by decide +kernel, by decide +kernel, rfl, by decide +kernel⟩,
  ⟨{ (up) with tag := { (up).tag with field := true } }, by decide +kernel⟩,
  ⟨{ (up) with tag := { (up).tag with field := true } }, 0x01, 3, 0, settingsFree { ({ (up) with tag := { (up).tag with field := true } } : State) with tag := closeAreas ({ (up) with tag := { (up).tag with field := true } } : State).tag }, {}, by decide +kernel, by decide +kernel, rfl, by decide +kernel⟩,
  ⟨{ (up) with tag := { (up).tag with field := true, area := Vector.replicate 3 { locked := true } } }, 0x01, 3, 0, settingsFree { ({ (up) with tag := { (up).tag with field := true, area := Vector.replicate 3 { locked := true } } } : State) with tag := closeAreas ({ (up) with tag := { (up).tag with field := true, area := Vector.replicate 3 { locked := true } } } : State).tag }, { locked := true }, by decide +kernel, by decide +kernel, rfl, by decide +kernel⟩,
  ⟨{ (up) with tag := { (up).tag with field := true } }, 0x01, 3, 0, settingsFree { ({ (up) with tag := { (up).tag with field := true } } : State) with tag := closeAreas ({ (up) with tag := { (up).tag with field := true } } : State).tag }, {}, by decide +kernel, by decide +kernel, rfl, by decide +kernel⟩,
  ⟨{ (up) with tag := { (up).tag with field := true } }, 0x01, 3, 1, settingsFree { ({ (up) with tag := { (up).tag with field := true } } : State) with tag := closeAreas ({ (up) with tag := { (up).tag with field := true } } : State).tag }, {}, by decide +kernel, by decide +kernel, rfl, by decide +kernel⟩,
  ⟨{ (up) with tag := { (up).tag with field := true } }, 0x01, 3, 0, settingsFree { ({ (up) with tag := { (up).tag with field := true } } : State) with tag := closeAreas ({ (up) with tag := { (up).tag with field := true } } : State).tag }, {}, 3, by decide +kernel, by decide +kernel, rfl, by decide +kernel⟩,
  ⟨{ (up) with tag := { (up).tag with field := true } }, 0x01, 3, 0, settingsFree { ({ (up) with tag := { (up).tag with field := true } } : State) with tag := closeAreas ({ (up) with tag := { (up).tag with field := true } } : State).tag }, {}, by decide +kernel, by decide +kernel, rfl, by decide +kernel⟩⟩

/-- States and operands that meet the hypotheses of TagHostSide, clause by clause. -/
theorem wit_TagHostSide :
  (∃ (s : State), s.tag.field = false) ∧
  (∃ (s : State), ∃ t, s.tag.field = true ∧ s.tag.onDue = true ∧ s.tag.fieldTick + 64 ≤ s.now ∧ t = tickFd s) ∧
  (∃ (s : State), s.tag.field = true) ∧
  (∃ (s : State), s.tag.offDue = true ∧ s.tag.fieldTick + 6400 ≤ s.now) ∧
  (∃ (s : State), sparseWf ({} : Page) s.tag.pages = true ∧ s.tag.cut = none) ∧
  (∃ (s : State), ∃ p, ∃ bytes, ∃ step, sparseWf ({} : Page) s.tag.pages = true ∧ s.tag.cut = some (.page p bytes, step) ∧ (pageOf s p).flag = none) ∧
  (∃ (s : State), s.isReady 8 = true ∧ recordDue s = true ∧ sparseWf ({} : Page) s.tag.pages = true) ∧
  (∃ (s : State), ∃ (f : Flight), ∃ first, ∃ n, first = f.p 16 2 ∧ n = f.p 18 2 ∧ 1 ≤ n ∧ first + n ≤ 512 ∧ f.bufLen = 16 * n ∧ Front 0x0810 f s ∧ ((∀ i, i < n → fieldHolds s (first + i) = false))) ∧
  (∃ (s : State), ∃ (f : Flight), ∃ first, ∃ n, ∃ m, first = f.p 16 2 ∧ n = f.p 18 2 ∧ 1 ≤ n ∧ first + n ≤ 512 ∧ f.bufLen = 16 * n ∧ Front 0x0810 f s ∧ m < n ∧ ((∀ i, i < m → fieldHolds s (first + i) = false)) ∧ fieldHolds s (first + m) = true) ∧
  (∃ (s : State), ∃ (f : Flight), ∃ first, ∃ n, first = f.p 16 2 ∧ n = f.p 18 2 ∧ 1 ≤ n ∧ first + n ≤ 512 ∧ f.bufLen = 16 * n ∧ Front 0x0811 f s ∧ first < 128 ∧ 124 < first + n) ∧
  (∃ (s : State), ∃ (f : Flight), ∃ first, ∃ n, first = f.p 16 2 ∧ n = f.p 18 2 ∧ 1 ≤ n ∧ first + n ≤ 512 ∧ f.bufLen = 16 * n ∧ Front 0x0811 f s ∧ ((128 ≤ first ∨ first + n ≤ 124))) ∧
  (∃ (s : State), ∃ j, ∃ js, ∃ p, ∃ bytes, s.tag.jobs = j :: js ∧ j.todo = [.page p bytes] ∧ j.step = 2 ∧ fieldHolds s p = true) ∧
  (∃ (s : State), ∃ j, ∃ js, ∃ p, ∃ bytes, ∃ t, s.tag.jobs = j :: js ∧ j.todo = [.page p bytes] ∧ j.step = 2 ∧ fieldHolds s p = false ∧ sparseWf ({} : Page) s.tag.pages = true ∧ t = tagStep (tagStep (tagStep (tagStep s)))) ∧
  (∃ (s : State), ∃ j, ∃ js, ∃ p, ∃ bytes, ∃ t, ∃ q, s.tag.jobs = j :: js ∧ j.todo = [.page p bytes] ∧ j.step = 2 ∧ fieldHolds s p = false ∧ sparseWf ({} : Page) s.tag.pages = true ∧ t = tagStep (tagStep (tagStep (tagStep s))) ∧ q ≠ p) ∧
  (∃ (s : State), ∃ j, ∃ js, ∃ p, ∃ bytes, ∃ ws, ∃ q, ∃ n, s.tag.jobs = j :: js ∧ j.todo = .page p bytes :: ws ∧ q ≤ p ∧ p < q + n ∧ sparseWf ({} : Page) s.tag.pages = true ∧ j.step < 4) ∧
  (∃ (s : State), ∃ j, ∃ js, ∃ p, ∃ bytes, ∃ ws, ∃ q, ∃ n, s.tag.jobs = j :: js ∧ j.todo = .page p bytes :: ws ∧ q ≤ p ∧ p < q + n ∧ sparseWf ({} : Page) s.tag.pages = true ∧ 4 ≤ j.step) ∧
  (∃ (s : State), ∃ f, Front 0x0810 f s ∧ f.p 18 2 = 0) ∧
  (∃ (s : State), ∃ f, Front 0x0812 f s ∧ ((f.p 16 1 = 0 ∨ 3 < f.p 16 1 ∨ f.p 17 1 = 0 ∨ 15 < f.p 17 1))) ∧
  (∃ (s : State), ∃ (f : Flight), ∃ a, Front 0x0812 f s ∧ 1 ≤ f.p 17 1 ∧ f.p 17 1 ≤ 15 ∧ f.p 18 1 ≤ 3 ∧ f.p 19 1 ≤ 1 ∧ tagArea? (f.p 16 1) s = some a) ∧
  (∃ (s : State), ∃ j, ∃ js, ∃ k, ∃ limit, ∃ rp, ∃ wp, ∃ pw, ∃ fd, ∃ a, ∃ t, s.tag.jobs = j :: js ∧ j.todo = [.area k limit rp wp pw fd] ∧ j.step = 2 ∧ tagArea? k s = some a ∧ t = tagStep (tagStep (tagStep (tagStep s)))) ∧
  (∃ (s : State), ∃ f, Front 0x0813 f s ∧ f.p 16 1 ≤ 7) ∧
  (∃ (s : State), ∃ j, ∃ js, ∃ m, ∃ t, s.tag.jobs = j :: js ∧ j.todo = [.unlock m] ∧ j.step = 2 ∧ t = tagStep (tagStep (tagStep (tagStep s)))) ∧
  (∃ (s : State), ∃ j, ∃ js, ∃ m, ∃ t, ∃ (i : Fin 3), s.tag.jobs = j :: js ∧ j.todo = [.unlock m] ∧ j.step = 2 ∧ t = tagStep (tagStep (tagStep (tagStep s)))) ∧
  (∃ (s : State), ∃ f, Front 0x0813 f s ∧ 7 < f.p 16 1) :=
  ⟨⟨up, by decide +kernel⟩,
  ⟨at_ 64 ({ (up) with tag := { (up).tag with field := true, onDue := true } }), tickFd (at_ 64 ({ (up) with tag := { (up).tag with field := true, onDue := true } })), by decide +kernel, by decide +kernel, by decide +kernel, rfl⟩,
  ⟨{ (up) with tag := { (up).tag with field := true } }, by decide +kernel⟩,
  ⟨at_ 6400 ({ (up) with tag := { (up).tag with offDue := true } }), by decide +kernel⟩,
  ⟨up, by decide +kernel⟩,
  ⟨{ (up) with tag := { (up).tag with cut := some (.page 5 [], 4) } }, 5, [], 4, by decide +kernel⟩,
  ⟨up, by decide +kernel⟩,
  ⟨wf (fl 0x0810 (leBytes 2 511 ++ leBytes 2 1) 16) (up), fl 0x0810 (leBytes 2 511 ++ leBytes 2 1) 16, (fl 0x0810 (leBytes 2 511 ++ leBytes 2 1) 16).p 16 2, (fl 0x0810 (leBytes 2 511 ++ leBytes 2 1) 16).p 18 2, rfl, rfl, by decide +kernel, by decide +kernel, by decide +kernel, ⟨rfl, rfl, by decide +kernel, rfl, by decide +kernel⟩, (by intro i h; cases i with | zero => decide +kernel | succ i => exact absurd h (show ¬ i + 1 < 1 by omega))⟩,
  ⟨wf (fl 0x0810 (leBytes 2 511 ++ leBytes 2 1) 16) ({ (up) with tag := { (up).tag with hold := some (0, 511, 1) } }), fl 0x0810 (leBytes 2 511 ++ leBytes 2 1) 16, (fl 0x0810 (leBytes 2 511 ++ leBytes 2 1) 16).p 16 2, (fl 0x0810 (leBytes 2 511 ++ leBytes 2 1) 16).p 18 2, 0, rfl, rfl, by decide +kernel, by decide +kernel, by decide +kernel, ⟨rfl, rfl, by decide +kernel, rfl, by decide +kernel⟩, by decide +kernel, (by intro i h; exact absurd h (Nat.not_lt_zero _)), by decide +kernel⟩,
  ⟨wf (fl 0x0811 (leBytes 2 124 ++ leBytes 2 1) 16) (up), fl 0x0811 (leBytes 2 124 ++ leBytes 2 1) 16, (fl 0x0811 (leBytes 2 124 ++ leBytes 2 1) 16).p 16 2, (fl 0x0811 (leBytes 2 124 ++ leBytes 2 1) 16).p 18 2, rfl, rfl, by decide +kernel, by decide +kernel, by decide +kernel, ⟨rfl, rfl, by decide +kernel, rfl, by decide +kernel⟩, by decide +kernel⟩,
  ⟨wf (fl 0x0811 (leBytes 2 123 ++ leBytes 2 1) 16) (up), fl 0x0811 (leBytes 2 123 ++ leBytes 2 1) 16, (fl 0x0811 (leBytes 2 123 ++ leBytes 2 1) 16).p 16 2, (fl 0x0811 (leBytes 2 123 ++ leBytes 2 1) 16).p 18 2, rfl, rfl, by decide +kernel, by decide +kernel, by decide +kernel, ⟨rfl, rfl, by decide +kernel, rfl, by decide +kernel⟩, by decide +kernel⟩,
  ⟨{ (up) with tag := { (up).tag with jobs := [{ flight := 1, todo := [.page 5 []] }], hold := some (0, 5, 1) } }, { flight := 1, todo := [.page 5 []] }, [], 5, [], by decide +kernel⟩,
  ⟨{ (up) with tag := { (up).tag with jobs := [{ flight := 1, todo := [.page 5 []] }] } }, { flight := 1, todo := [.page 5 []] }, [], 5, [], tagStep (tagStep (tagStep (tagStep ({ (up) with tag := { (up).tag with jobs := [{ flight := 1, todo := [.page 5 []] }] } } : State)))), by decide +kernel, by decide +kernel, by decide +kernel, by decide +kernel, by decide +kernel, rfl⟩,
  ⟨{ (up) with tag := { (up).tag with jobs := [{ flight := 1, todo := [.page 5 []] }] } }, { flight := 1, todo := [.page 5 []] }, [], 5, [], tagStep (tagStep (tagStep (tagStep ({ (up) with tag := { (up).tag with jobs := [{ flight := 1, todo := [.page 5 []] }] } } : State)))), 4, by decide +kernel, by decide +kernel, by decide +kernel, by decide +kernel, by decide +kernel, rfl, by decide +kernel⟩,
  ⟨{ (up) with tag := { (up).tag with jobs := [{ flight := 1, todo := [.page 5 []] }] } }, { flight := 1, todo := [.page 5 []] }, [], 5, [], [], 5, 1, by decide +kernel⟩,
  ⟨{ (up) with tag := { (up).tag with jobs := [{ flight := 1, todo := [.page 5 []], step := 4 }] } }, { flight := 1, todo := [.page 5 []], step := 4 }, [], 5, [], [], 5, 1, by decide +kernel⟩,
  ⟨wf (fl 0x0810 []) (up), fl 0x0810 [], ⟨rfl, rfl, by decide +kernel, rfl, by decide +kernel⟩, by decide +kernel⟩,
  ⟨wf (fl 0x0812 ([4, 1])) (up), fl 0x0812 ([4, 1]), ⟨rfl, rfl, by decide +kernel, rfl, by decide +kernel⟩, by decide +kernel⟩,
  ⟨wf (fl 0x0812 ([3, 15, 3, 1])) (up), fl 0x0812 ([3, 15, 3, 1]), {}, ⟨rfl, rfl, by decide +kernel, rfl, by decide +kernel⟩, by decide +kernel⟩,
  ⟨{ (up) with tag := { (up).tag with jobs := [{ flight := 1, todo := [.area 3 5 true true 7 false] }] } }, { flight := 1, todo := [.area 3 5 true true 7 false] }, [], 3, 5, true, true, 7, false, {}, tagStep (tagStep (tagStep (tagStep ({ (up) with tag := { (up).tag with jobs := [{ flight := 1, todo := [.area 3 5 true true 7 false] }] } } : State)))), by decide +kernel, by decide +kernel, by decide +kernel, by decide +kernel, rfl⟩,
  ⟨wf (fl 0x0813 ([7])) (up), fl 0x0813 ([7]), ⟨rfl, rfl, by decide +kernel, rfl, by decide +kernel⟩, by decide +kernel⟩,
  ⟨{ (up) with tag := { (up).tag with jobs := [{ flight := 1, todo := [.unlock 7] }] } }, { flight := 1, todo := [.unlock 7] }, [], 7, tagStep (tagStep (tagStep (tagStep ({ (up) with tag := { (up).tag with jobs := [{ flight := 1, todo := [.unlock 7] }] } } : State)))), by decide +kernel, by decide +kernel, by decide +kernel, rfl⟩,
  ⟨{ (up) with tag := { (up).tag with jobs := [{ flight := 1, todo := [.unlock 7] }] } }, { flight := 1, todo := [.unlock 7] }, [], 7, tagStep (tagStep (tagStep (tagStep ({ (up) with tag := { (up).tag with jobs := [{ flight := 1, todo := [.unlock 7] }] } } : State)))), 2, by decide +kernel, by decide +kernel, by decide +kernel, rfl⟩,
  ⟨wf (fl 0x0813 ([8])) (up), fl 0x0813 ([8]), ⟨rfl, rfl, by decide +kernel, rfl, by decide +kernel⟩, by decide +kernel⟩⟩

/-- States and operands that meet the hypotheses of DisplayUpdates, clause by clause. -/
theorem wit_DisplayUpdates :
  (∃ (s : State), ∃ (f : Flight), ∃ (image : BitVec 256), Front 0x0903 f s ∧ f.p 16 1 ≤ 1 ∧ s.lcd.en = true ∧ image = BitVec.ofNat 256 (leAt f.inBuf 0 32) ∧ s.lcd.upd = none ∧ s.lcd.next = none ∧ s.lcd.indet = false ∧ ((bitAt (f.p 16 1) 0 = true ∨ imageShown image s = false))) ∧
  (∃ (s : State), ∃ (f : Flight), ∃ (image : BitVec 256), Front 0x0903 f s ∧ f.p 16 1 ≤ 1 ∧ s.lcd.en = true ∧ image = BitVec.ofNat 256 (leAt f.inBuf 0 32) ∧ s.lcd.upd = none ∧ s.lcd.next = none ∧ s.lcd.indet = false ∧ bitAt (f.p 16 1) 0 = false ∧ imageShown image s = true ∧ flight? f.seq s = some f) ∧
  (∃ (s : State), ∃ (f : Flight), ∃ (image : BitVec 256), Front 0x0903 f s ∧ f.p 16 1 ≤ 1 ∧ s.lcd.en = true ∧ image = BitVec.ofNat 256 (leAt f.inBuf 0 32) ∧ ((s.lcd.upd.isSome = true ∨ s.lcd.next.isSome = true ∨ s.lcd.indet = true))) ∧
  (∃ (s : State), ∃ (f : Flight), ∃ p, s.lcd.next = some p ∧ s.lcd.upd = none ∧ s.lcd.indet = false ∧ lcdMayStart s = true) ∧
  (∃ (s : State), ∃ (f : Flight), Front 0x0903 f s ∧ 1 < f.p 16 1) ∧
  (∃ (s : State), ∃ (f : Flight), Front 0x0903 f s ∧ f.p 16 1 ≤ 1 ∧ s.lcd.en = false) ∧
  (∃ (s : State), ∃ (f : Flight), ∃ (u : LcdUpdate), s.lcd.upd = some u ∧ s.rst.held0 = false ∧ s.lcd.discharge = none ∧ u.phaseEnd ≤ s.now ∧ s.lcd.stopping = false ∧ u.phase = .reset ∧ u.commons ≠ []) ∧
  (∃ (s : State), ∃ (f : Flight), ∃ (u : LcdUpdate), ∃ i, ∃ c, s.lcd.upd = some u ∧ s.rst.held0 = false ∧ s.lcd.discharge = none ∧ u.phaseEnd ≤ s.now ∧ s.lcd.stopping = false ∧ u.phase = .select i ∧ u.commons[i]? = some c ∧ c < 4) ∧
  (∃ (s : State), ∃ (f : Flight), ∃ (u : LcdUpdate), s.lcd.upd = some u ∧ s.rst.held0 = false ∧ s.lcd.discharge = none ∧ u.phaseEnd ≤ s.now ∧ s.lcd.stopping = false ∧ u.phase = .settle ∧ u.why = .draw ∧ s.lcd.indet = false ∧ s.lcd.pend = none ∧ s.lcd.next = none) ∧
  (∃ (s : State), ∃ (f : Flight), ∃ (u : LcdUpdate), s.lcd.upd = some u ∧ s.rst.held0 = false ∧ s.lcd.discharge = none ∧ u.phaseEnd ≤ s.now ∧ s.lcd.stopping = true ∧ u.phase = .reset) ∧
  (∃ (s : State), ∃ (f : Flight), ∃ (u : LcdUpdate), s.lcd.upd = some u ∧ s.rst.held0 = false ∧ s.lcd.discharge = none ∧ u.phaseEnd ≤ s.now ∧ s.lcd.stopping = true ∧ u.phase = .settle ∧ u.why = .draw) ∧
  (∃ (s : State), ∃ (f : Flight), ∃ (t0 : Nat), s.lcd.discharge = some t0 ∧ t0 ≤ s.now ∧ s.rst.held0 = false ∧ s.lcd.pend = none ∧ s.lcd.next = none ∧ s.lcd.indet = false) ∧
  (∃ (s : State), ∃ (f : Flight), ∃ (v : W32), LinkUp s ∧ ((s.lcd.upd.isSome = true ∨ 20 < signed 8 (bitsOf v.toNat 8 8)))) ∧
  (∃ (s : State), ∃ (f : Flight), ∃ (v : W32), LinkUp s ∧ s.lcd.upd = none ∧ signed 8 (bitsOf v.toNat 8 8) ≤ 20 ∧ -20 ≤ signed 8 (bitsOf v.toNat 8 8) ∧ ((bitAt v.toNat 0 = true ∨ s.lcd.en = false))) ∧
  (∃ (s : State), ∃ (f : Flight), ∃ (a : Nat), ∃ (b : Nat), ∃ (t0 : Nat), s.lcd.crackTick = some t0 ∧ s.now < t0 + 6400) ∧
  (∃ (s : State), ∃ (f : Flight), ∃ (a : Nat), ∃ (b : Nat), s.isReady 9 = true ∧ s.lcd.crackEn = true ∧ crackDue s = true ∧ crackFails a b = true ∧ s.lcd.crackBad = 1) ∧
  (∃ (s : State), ∃ (f : Flight), ∃ (a : Nat), ∃ (b : Nat), s.isReady 9 = true ∧ s.lcd.crackEn = true ∧ crackDue s = true ∧ crackFails a b = false ∧ s.lcd.crackGood = 9) ∧
  (∃ (s : State), ∃ (f : Flight), ∃ (a : Nat), ∃ (b : Nat), s.isReady 9 = true ∧ s.lcd.crackEn = true ∧ crackDue s = true ∧ crackFails a b = true ∧ s.lcd.crackBad = 0) :=
  ⟨⟨wf (fl 0x0903 ([1])) (up), fl 0x0903 ([1]), BitVec.ofNat 256 (leAt (fl 0x0903 ([1])).inBuf 0 32), ⟨rfl, rfl, by decide +kernel, rfl, by decide +kernel⟩, by decide +kernel, by decide +kernel, rfl, by decide +kernel⟩,
  ⟨wf (fl 0x0903 []) (up), fl 0x0903 [], BitVec.ofNat 256 (leAt (fl 0x0903 []).inBuf 0 32), ⟨rfl, rfl, by decide +kernel, rfl, by decide +kernel⟩, by decide +kernel, by decide +kernel, rfl, by decide +kernel⟩,
  ⟨wf (fl 0x0903 []) ({ (up) with lcd := { (up).lcd with upd := some { image := 0, why := .draw, full := false, flight := some 1, band := 0, wave := up.lcd.wave[0], commons := [3], phase := .reset, start := 0, phaseEnd := 0 } } }), fl 0x0903 [], BitVec.ofNat 256 (leAt (fl 0x0903 []).inBuf 0 32), ⟨rfl, rfl, by decide +kernel, rfl, by decide +kernel⟩, by decide +kernel, by decide +kernel, rfl, by decide +kernel⟩,
  ⟨{ (up) with lcd := { (up).lcd with next := some { image := 0, full := true, flight := some 1 } } }, fl 0 [], { image := 0, full := true, flight := some 1 }, by decide +kernel⟩,
  ⟨wf (fl 0x0903 ([2])) (up), fl 0x0903 ([2]), ⟨rfl, rfl, by decide +kernel, rfl, by decide +kernel⟩, by decide +kernel⟩,
  ⟨wf (fl 0x0903 []) ({ (up) with lcd := { (up).lcd with en := false } }), fl 0x0903 [], ⟨rfl, rfl, by decide +kernel, rfl, by decide +kernel⟩, by decide +kernel⟩,
  ⟨{ (up) with lcd := { (up).lcd with upd := some { image := 0, why := .draw, full := false, flight := some 1, band := 0, wave := up.lcd.wave[0], commons := [3], phase := .reset, start := 0, phaseEnd := 0 } } }, fl 0 [], { image := 0, why := .draw, full := false, flight := some 1, band := 0, wave := up.lcd.wave[0], commons := [3], phase := .reset, start := 0, phaseEnd := 0 }, by decide +kernel⟩,
  ⟨{ (up) with lcd := { (up).lcd with upd := some { image := 0, why := .draw, full := false, flight := some 1, band := 0, wave := up.lcd.wave[0], commons := [3], phase := .select 0, start := 0, phaseEnd := 0 } } }, fl 0 [], { image := 0, why := .draw, full := false, flight := some 1, band := 0, wave := up.lcd.wave[0], commons := [3], phase := .select 0, start := 0, phaseEnd := 0 }, 0, 3, by decide +kernel⟩,
  ⟨{ (up) with lcd := { (up).lcd with upd := some { image := 0, why := .draw, full := false, flight := some 1, band := 0, wave := up.lcd.wave[0], commons := [3], phase := .settle, start := 0, phaseEnd := 0 } } }, fl 0 [], { image := 0, why := .draw, full := false, flight := some 1, band := 0, wave := up.lcd.wave[0], commons := [3], phase := .settle, start := 0, phaseEnd := 0 }, by decide +kernel⟩,
  ⟨{ (up) with lcd := { (up).lcd with stopping := true, upd := some { image := 0, why := .draw, full := false, flight := some 1, band := 0, wave := up.lcd.wave[0], commons := [3], phase := .reset, start := 0, phaseEnd := 0 } } }, fl 0 [], { image := 0, why := .draw, full := false, flight := some 1, band := 0, wave := up.lcd.wave[0], commons := [3], phase := .reset, start := 0, phaseEnd := 0 }, by decide +kernel⟩,
  ⟨{ (up) with lcd := { (up).lcd with stopping := true, upd := some { image := 0, why := .draw, full := false, flight := some 1, band := 0, wave := up.lcd.wave[0], commons := [3], phase := .settle, start := 0, phaseEnd := 0 } } }, fl 0 [], { image := 0, why := .draw, full := false, flight := some 1, band := 0, wave := up.lcd.wave[0], commons := [3], phase := .settle, start := 0, phaseEnd := 0 }, by decide +kernel⟩,
  ⟨{ (up) with lcd := { (up).lcd with discharge := some 0 } }, fl 0 [], 0, by decide +kernel⟩,
  ⟨up, fl 0 [], 0x1500, by delta LinkUp; decide +kernel, by decide +kernel⟩,
  ⟨up, fl 0 [], 0x1401, by delta LinkUp; decide +kernel, by decide +kernel⟩,
  ⟨at_ 6399 ({ (up) with lcd := { (up).lcd with crackTick := some 0 } }), fl 0 [], 2001, 5, 0, by decide +kernel⟩,
  ⟨{ (up) with lcd := { (up).lcd with crackEn := true, crackBad := 1 } }, fl 0 [], 2001, 5, by decide +kernel⟩,
  ⟨{ (up) with lcd := { (up).lcd with crackEn := true, crackGood := 9 } }, fl 0 [], 2000, 5, by decide +kernel⟩,
  ⟨{ (up) with lcd := { (up).lcd with crackEn := true } }, fl 0 [], 2000, 4, by decide +kernel⟩⟩

/-- States and operands that meet the hypotheses of TablesAndLamps, clause by clause. -/
theorem wit_TablesAndLamps :
  (∃ (s : State), ∃ (f : Flight), Front 0x0901 f s ∧ ((s.lcd.upd.isSome = true ∨ s.lcd.pend.isSome = true ∨ s.lcd.next.isSome = true))) ∧
  (∃ (s : State), ∃ (f : Flight), Front 0x0901 f s ∧ s.lcd.upd = none ∧ s.lcd.pend = none ∧ s.lcd.next = none ∧ legendOk (slice f.inBuf 0 256) = false) ∧
  (∃ (s : State), ∃ (f : Flight), Front 0x0901 f s ∧ s.lcd.upd = none ∧ s.lcd.pend = none ∧ s.lcd.next = none ∧ legendOk (slice f.inBuf 0 256) = true) ∧
  (∃ (s : State), ∃ (f : Flight), ∃ b, Front 0x0902 f s ∧ b < 6 ∧ Wave.ofBytes (slice f.inBuf (16 * b) 16) = none) ∧
  (∃ (s : State), ∃ (f : Flight), ∃ (w : Vector Wave 6), Front 0x0902 f s ∧ ((∀ b : Fin 6, Wave.ofBytes (slice f.inBuf (16 * b.val) 16) = some w[b.val]))) ∧
  (∃ (s : State), ∃ (f : Flight), ∃ r, ∃ g, ∃ b, Front 0x0A01 f s ∧ gammaTable (slice f.inBuf 0 128) = some r ∧ gammaTable (slice f.inBuf 128 128) = some g ∧ gammaTable (slice f.inBuf 256 128) = some b) ∧
  (∃ (s : State), ∃ (f : Flight), Front 0x0A01 f s ∧ gammaTable (slice f.inBuf 0 128) = none) ∧
  (∃ (s : State), ∃ (f : Flight), ∃ i, Front 0x0A02 f s ∧ i < 6 ∧ 4095 < f.p (16 + 2 * i) 2) ∧
  (∃ (s : State), ∃ (f : Flight), Front 0x0A02 f s ∧ ((∀ i, i < 6 → f.p (16 + 2 * i) 2 ≤ 4095))) ∧
  (∃ (s : State), ∃ (f : Flight), ∃ (n : Outlet8), ∃ l, s.lmp.pend[n.val] = some l ∧ pwmBegan s.now (3 * n.val) = true) ∧
  (∃ (s : State), ∃ (f : Flight), ∃ (n : Outlet8), pwmBegan s.now (3 * n.val) = false) ∧
  (∃ (s : State), ∃ (f : Flight), ∃ (n : Outlet8), ∃ (c : Fin 3), ∃ (j : Fin 24), j.val = 3 * n.val + c.val) ∧
  (∃ (s : State), ∃ (f : Flight), ∃ (n : Outlet8), ∃ l, l = s.lmp.lamp[n.val] ∧ l.isSet = true ∧ l.on ≠ 0 ∧ l.second = false ∧ l.since + 640 * l.on ≤ s.now) ∧
  (∃ (s : State), ∃ (f : Flight), ∃ (n : Outlet8), ∃ l, l = s.lmp.lamp[n.val] ∧ l.isSet = true ∧ l.on ≠ 0 ∧ l.second = true ∧ l.since + 640 * l.off ≤ s.now) :=
  ⟨⟨wf (fl 0x0901 []) ({ (up) with lcd := { (up).lcd with upd := some { image := 0, why := .draw, full := false, flight := some 1, band := 0, wave := up.lcd.wave[0], commons := [3], phase := .reset, start := 0, phaseEnd := 0 } } }), fl 0x0901 [], ⟨rfl, rfl, by decide +kernel, rfl, by decide +kernel⟩, by decide +kernel⟩,
  ⟨wf (fl 0x0901 []) (up), fl 0x0901 [], ⟨rfl, rfl, by decide +kernel, rfl, by decide +kernel⟩, by decide +kernel⟩,
  ⟨wf (fl 0x0901 [] 256 ((List.range 256).map (BitVec.ofNat 8))) (up), fl 0x0901 [] 256 ((List.range 256).map (BitVec.ofNat 8)), ⟨rfl, rfl, by decide +kernel, rfl, by decide +kernel⟩, by decide +kernel⟩,
  ⟨wf (fl 0x0902 []) (up), fl 0x0902 [], 5, ⟨rfl, rfl, by decide +kernel, rfl, by decide +kernel⟩, by decide +kernel⟩,
  ⟨wf (fl 0x0902 [] 96 ((List.replicate 6 ([380, 400, 240, 140, 250, 300, 100, 0].flatMap (leBytes 2))).flatten)) (up), fl 0x0902 [] 96 ((List.replicate 6 ([380, 400, 240, 140, 250, 300, 100, 0].flatMap (leBytes 2))).flatten), Vector.replicate 6 ⟨380, 400, 240, 140, 250, 300, 100⟩, ⟨rfl, rfl, by decide +kernel, rfl, by decide +kernel⟩, by decide +kernel⟩,
  ⟨wf (fl 0x0A01 [] 384 ((List.replicate 192 [0x00, 0x01]).flatten)) (up), fl 0x0A01 [] 384 ((List.replicate 192 [0x00, 0x01]).flatten), Vector.replicate 64 256, Vector.replicate 64 256, Vector.replicate 64 256, ⟨rfl, rfl, by decide +kernel, rfl, by decide +kernel⟩, by decide +kernel⟩,
  ⟨wf (fl 0x0A01 [] 0 ([0xFF, 0x0F])) (up), fl 0x0A01 [] 0 ([0xFF, 0x0F]), ⟨rfl, rfl, by decide +kernel, rfl, by decide +kernel⟩, by decide +kernel⟩,
  ⟨wf (fl 0x0A02 (List.replicate 10 0 ++ leBytes 2 4096)) (up), fl 0x0A02 (List.replicate 10 0 ++ leBytes 2 4096), 5, ⟨rfl, rfl, by decide +kernel, rfl, by decide +kernel⟩, by decide +kernel⟩,
  ⟨wf (fl 0x0A02 (leBytes 2 4095)) (up), fl 0x0A02 (leBytes 2 4095), ⟨rfl, rfl, by decide +kernel, rfl, by decide +kernel⟩, by decide +kernel⟩,
  ⟨at_ 6 ({ (up) with lmp := { (up).lmp with pend := Vector.replicate 8 (some {}) } }), fl 0 [], 0, {}, by decide +kernel⟩,
  ⟨up, fl 0 [], 0, by decide +kernel⟩,
  ⟨up, fl 0 [], 7, 2, 23, by decide +kernel⟩,
  ⟨at_ 640 ({ (up) with lmp := { (up).lmp with lamp := Vector.replicate 8 { isSet := true, on := 1 } } }), fl 0 [], 7, (at_ 640 ({ (up) with lmp := { (up).lmp with lamp := Vector.replicate 8 { isSet := true, on := 1 } } })).lmp.lamp[(7 : Outlet8).val], rfl, by decide +kernel⟩,
  ⟨{ (up) with lmp := { (up).lmp with lamp := Vector.replicate 8 { isSet := true, on := 1, second := true } } }, fl 0 [], 7, ({ (up) with lmp := { (up).lmp with lamp := Vector.replicate 8 { isSet := true, on := 1, second := true } } } : State).lmp.lamp[(7 : Outlet8).val], rfl, by decide +kernel⟩⟩

/-- States and operands that meet the hypotheses of LoadSwitchCommands, clause by clause. -/
theorem wit_LoadSwitchCommands :
  (∃ (s : State), ∃ (f : Flight), Front 0x0B01 f s ∧ ((23 < f.p 16 1 ∨ 5 < f.p 17 1 ∨ 3 < f.p 18 1 ∨ (f.p 17 1 ≤ 2 ∧ f.p 18 1 ≠ 0)))) ∧
  (∃ (s : State), ∃ (f : Flight), ∃ (k : Fin 24), ∃ (j : Fin 4), ∃ (m : Nat), ∃ c, Front 0x0B01 f s ∧ f.p 16 1 = k.val ∧ f.p 17 1 = m ∧ m ≤ 5 ∧ f.p 18 1 = j.val ∧ ((m ≤ 2 → j = 0)) ∧ c = chOf s k ∧ ((owned s k = true ∨ ((c.oc = true ∨ c.th = true) ∧ m ≠ 0)))) ∧
  (∃ (s : State), ∃ (f : Flight), ∃ (k : Fin 24), ∃ (j : Fin 4), ∃ (m : Nat), ∃ c, Front 0x0B01 f s ∧ f.p 16 1 = k.val ∧ f.p 17 1 = m ∧ m ≤ 5 ∧ f.p 18 1 = j.val ∧ ((m ≤ 2 → j = 0)) ∧ c = chOf s k ∧ owned s k = false ∧ (((c.oc = false ∧ c.th = false) ∨ m = 0)) ∧ c.pendMode = none ∧ ((∀ t0, c.modeTick = some t0 → t0 + 640 ≤ s.now))) ∧
  (∃ (s : State), ∃ (f : Flight), ∃ (k : Fin 24), ∃ (j : Fin 4), ∃ (m : Nat), ∃ c, ∃ (t0 : Nat), Front 0x0B01 f s ∧ f.p 16 1 = k.val ∧ f.p 17 1 = m ∧ m ≤ 5 ∧ f.p 18 1 = j.val ∧ ((m ≤ 2 → j = 0)) ∧ c = chOf s k ∧ owned s k = false ∧ (((c.oc = false ∧ c.th = false) ∨ m = 0)) ∧ c.pendMode = none ∧ c.modeTick = some t0 ∧ s.now < t0 + 640 ∧ modeOfNum m ≠ c.mode) ∧
  (∃ (s : State), ∃ (f : Flight), ∃ (k : Fin 24), ∃ (j : Fin 4), ∃ (m : Nat), ∃ c, ∃ p, ∃ i, ∃ l, Front 0x0B01 f s ∧ f.p 16 1 = k.val ∧ f.p 17 1 = m ∧ m ≤ 5 ∧ f.p 18 1 = j.val ∧ ((m ≤ 2 → j = 0)) ∧ c = chOf s k ∧ owned s k = false ∧ (((c.oc = false ∧ c.th = false) ∨ m = 0)) ∧ c.pendMode = some (p, i, l) ∧ p ≠ c.mode ∧ modeOfNum m ≠ p) ∧
  (∃ (s : State), ∃ (f : Flight), ∃ (k : Fin 24), ∃ (j : Fin 4), ∃ (m : Nat), ∃ c, ∃ p, ∃ i, ∃ l, Front 0x0B01 f s ∧ f.p 16 1 = k.val ∧ f.p 17 1 = m ∧ m ≤ 5 ∧ f.p 18 1 = j.val ∧ ((m ≤ 2 → j = 0)) ∧ c = chOf s k ∧ owned s k = false ∧ (((c.oc = false ∧ c.th = false) ∨ m = 0)) ∧ c.pendMode = some (p, i, l) ∧ ((modeOfNum m = p ∨ (p = c.mode ∧ ∀ t0, c.modeTick = some t0 → t0 + 640 ≤ s.now)))) ∧
  (∃ (s : State), ∃ (f : Flight), ∃ (k : Fin 24), Front 0x0B02 f s ∧ f.p 16 3 = 2 ^ k.val ∧ owned s k = true ∧ 1 ≤ (outOf s (bridgeOutlet k)).state.num ∧ (outOf s (bridgeOutlet k)).state.num ≤ 9) ∧
  (∃ (s : State), ∃ (f : Flight), ∃ (k : Fin 24), Front 0x0B02 f s ∧ f.p 16 3 = 2 ^ k.val ∧ owned s k = false ∧ (((chOf s k).oc = true ∨ (chOf s k).th = true)) ∧ (((chOf s k).th = true → (chOf s k).hot < 150))) ∧
  (∃ (s : State), ∃ (f : Flight), ∃ (k : Fin 24), Front 0x0B02 f s ∧ f.p 16 3 = 2 ^ k.val ∧ owned s k = false ∧ (chOf s k).th = true ∧ 150 ≤ (chOf s k).hot) ∧
  (∃ (s : State), ∃ (f : Flight), Front 0x0B03 f s) ∧
  (∃ (s : State), ∃ (f : Flight), ∃ (k : Fin 24), ∃ (v : W32), LinkUp s ∧ chcfgOk v.toNat = true ∧ ((owned s k = false ∨ (outOf s (bridgeOutlet k)).idle = true))) ∧
  (∃ (s : State), ∃ (f : Flight), ∃ (k : Fin 24), ∃ (v : W32), LinkUp s ∧ chcfgOk v.toNat = false) ∧
  (∃ (s : State), ∃ (f : Flight), ∃ (j : Fin 4), ∃ (p : PwmIn), ∃ (us : Nat), p = s.lsw.pwm[j.val] ∧ s.rst.held0 = false ∧ p.edgeAt = none) ∧
  (∃ (s : State), ∃ (f : Flight), ∃ (j : Fin 4), ∃ (p : PwmIn), ∃ (us : Nat), ∃ (t0 : Nat), p = s.lsw.pwm[j.val] ∧ s.rst.held0 = false ∧ p.edgeAt = some t0) ∧
  (∃ (s : State), ∃ (f : Flight), ∃ (j : Fin 4), ∃ (p : PwmIn), ∃ (us : Nat), ∃ (t0 : Nat), p = s.lsw.pwm[j.val] ∧ s.rst.held0 = false ∧ p.edgeAt = some t0 ∧ us < t0 + 2) ∧
  (∃ (s : State), ∃ (f : Flight), ∃ (j : Fin 4), ∃ (p : PwmIn), ∃ (us : Nat), ∃ (t0 : Nat), p = s.lsw.pwm[j.val] ∧ s.rst.held0 = false ∧ p.edgeAt = some t0 ∧ t0 + 2 ≤ us) ∧
  (∃ (s : State), ∃ (f : Flight), ∃ (j : Fin 4), ∃ (p : PwmIn), ∃ (us : Nat), ∃ (t0 : Nat), p = s.lsw.pwm[j.val] ∧ s.rst.held0 = false ∧ p.edgeAt = some t0 ∧ 64 * (t0 + 2) ≤ 1000 * s.now) ∧
  (∃ (s : State), ∃ (f : Flight), ∃ (j : Fin 4), ∃ (p : PwmIn), ∃ (us : Nat), ∃ (h : Bool), p = s.lsw.pwm[j.val] ∧ s.rst.held0 = true) ∧
  (∃ (s : State), ∃ (f : Flight), ∃ (j : Fin 4), ∃ (p : PwmIn), ∃ (us : Nat), ∃ q, ∃ e, p = s.lsw.pwm[j.val] ∧ q = ((pwmEdge j us s).lsw.pwm)[j.val] ∧ (e = us :: p.edges.filter (fun x => decide (us < x + 1000)))) ∧
  (∃ (s : State), ∃ (f : Flight), ∃ (j : Fin 4), ∃ (p : PwmIn), ∃ (us : Nat), ∃ q, ∃ e, p = s.lsw.pwm[j.val] ∧ q = ((pwmEdge j us s).lsw.pwm)[j.val] ∧ (e = us :: p.edges.filter (fun x => decide (us < x + 1000))) ∧ p.high = false) ∧
  (∃ (s : State), ∃ (f : Flight), ∃ (j : Fin 4), ∃ (p : PwmIn), ∃ (us : Nat), ∃ q, ∃ e, p = s.lsw.pwm[j.val] ∧ q = ((pwmEdge j us s).lsw.pwm)[j.val] ∧ (e = us :: p.edges.filter (fun x => decide (us < x + 1000))) ∧ p.high = true) ∧
  (∃ (s : State), ∃ (f : Flight), ∃ (j : Fin 4), ∃ (p : PwmIn), ∃ (us : Nat), p = s.lsw.pwm[j.val] ∧ p.fast = true ∧ 64 * (p.fastUs + 10000) ≤ 1000 * s.now) :=
  ⟨⟨wf (fl 0x0B01 ([24])) (up), fl 0x0B01 ([24]), ⟨rfl, rfl, by decide +kernel, rfl, by decide +kernel⟩, by decide +kernel⟩,
  ⟨wf (fl 0x0B01 ([23, 1])) ({ (up) with lsw := { (up).lsw with ch := Vector.replicate 24 { oc := true } } }), fl 0x0B01 ([23, 1]), 23, 0, 1, chOf (wf (fl 0x0B01 ([23, 1])) ({ (up) with lsw := { (up).lsw with ch := Vector.replicate 24 { oc := true } } })) (23 : Fin 24), ⟨rfl, rfl, by decide +kernel, rfl, by decide +kernel⟩, by decide +kernel, by decide +kernel, by decide +kernel, by decide +kernel, by decide +kernel, rfl, by decide +kernel⟩,
  ⟨wf (fl 0x0B01 ([23, 5, 3])) (at_ 640 ({ (up) with lsw := { (up).lsw with ch := Vector.replicate 24 { modeTick := some 0 } } })), fl 0x0B01 ([23, 5, 3]), 23, 3, 5, chOf (wf (fl 0x0B01 ([23, 5, 3])) (at_ 640 ({ (up) with lsw := { (up).lsw with ch := Vector.replicate 24 { modeTick := some 0 } } }))) (23 : Fin 24), ⟨rfl, rfl, by decide +kernel, rfl, by decide +kernel⟩, by decide +kernel, by decide +kernel, by decide +kernel, by decide +kernel, by decide +kernel, rfl, by decide +kernel, by decide +kernel, by decide +kernel, fun t h => by cases (show some 0 = some t from h); decide +kernel⟩,
  ⟨wf (fl 0x0B01 ([23, 1])) ({ (up) with lsw := { (up).lsw with ch := Vector.replicate 24 { modeTick := some 0 } } }), fl 0x0B01 ([23, 1]), 23, 0, 1, chOf (wf (fl 0x0B01 ([23, 1])) ({ (up) with lsw := { (up).lsw with ch := Vector.replicate 24 { modeTick := some 0 } } })) (23 : Fin 24), 0, ⟨rfl, rfl, by decide +kernel, rfl, by decide +kernel⟩, by decide +kernel, by decide +kernel, by decide +kernel, by decide +kernel, by decide +kernel, rfl, by decide +kernel⟩,
  ⟨wf (fl 0x0B01 ([23, 2])) ({ (up) with lsw := { (up).lsw with ch := Vector.replicate 24 { pendMode := some (.high, 0, []) } } }), fl 0x0B01 ([23, 2]), 23, 0, 2, chOf (wf (fl 0x0B01 ([23, 2])) ({ (up) with lsw := { (up).lsw with ch := Vector.replicate 24 { pendMode := some (.high, 0, []) } } })) (23 : Fin 24), .high, 0, [], ⟨rfl, rfl, by decide +kernel, rfl, by decide +kernel⟩, by decide +kernel, by decide +kernel, by decide +kernel, by decide +kernel, by decide +kernel, rfl, by decide +kernel⟩,
  ⟨wf (fl 0x0B01 ([23, 1])) ({ (up) with lsw := { (up).lsw with ch := Vector.replicate 24 { pendMode := some (.high, 0, []) } } }), fl 0x0B01 ([23, 1]), 23, 0, 1, chOf (wf (fl 0x0B01 ([23, 1])) ({ (up) with lsw := { (up).lsw with ch := Vector.replicate 24 { pendMode := some (.high, 0, []) } } })) (23 : Fin 24), .high, 0, [], ⟨rfl, rfl, by decide +kernel, rfl, by decide +kernel⟩, by decide +kernel, by decide +kernel, by decide +kernel, by decide +kernel, by decide +kernel, rfl, by decide +kernel, by decide +kernel, by decide +kernel, (.inl rfl)⟩,
  ⟨wf (fl 0x0B02 (leBytes 3 0x8000)) (so { o0 with state := .opening }), fl 0x0B02 (leBytes 3 0x8000), 15, ⟨rfl, rfl, by decide +kernel, rfl, by decide +kernel⟩, by decide +kernel⟩,
  ⟨wf (fl 0x0B02 (leBytes 3 0x800000)) ({ (up) with lsw := { (up).lsw with ch := Vector.replicate 24 { oc := true, th := true, hot := 149 } } }), fl 0x0B02 (leBytes 3 0x800000), 23, ⟨rfl, rfl, by decide +kernel, rfl, by decide +kernel⟩, by decide +kernel⟩,
  ⟨wf (fl 0x0B02 (leBytes 3 0x800000)) ({ (up) with lsw := { (up).lsw with ch := Vector.replicate 24 { th := true, hot := 150 } } }), fl 0x0B02 (leBytes 3 0x800000), 23, ⟨rfl, rfl, by decide +kernel, rfl, by decide +kernel⟩, by decide +kernel⟩,
  ⟨wf (fl 0x0B03 []) (up), fl 0x0B03 [], ⟨rfl, rfl, by decide +kernel, rfl, by decide +kernel⟩⟩,
  ⟨up, fl 0 [], 23, 0x00000010, by delta LinkUp; decide +kernel, by decide +kernel⟩,
  ⟨up, fl 0 [], 23, 0, by delta LinkUp; decide +kernel, by decide +kernel⟩,
  ⟨up, fl 0 [], 3, (up).lsw.pwm[(3 : Fin 4).val], 0, rfl, by decide +kernel⟩,
  ⟨{ (up) with lsw := { (up).lsw with pwm := Vector.replicate 4 { edgeAt := some 0 } } }, fl 0 [], 3, ({ (up) with lsw := { (up).lsw with pwm := Vector.replicate 4 { edgeAt := some 0 } } } : State).lsw.pwm[(3 : Fin 4).val], 0, 0, rfl, by decide +kernel⟩,
  ⟨{ (up) with lsw := { (up).lsw with pwm := Vector.replicate 4 { edgeAt := some 0 } } }, fl 0 [], 3, ({ (up) with lsw := { (up).lsw with pwm := Vector.replicate 4 { edgeAt := some 0 } } } : State).lsw.pwm[(3 : Fin 4).val], 1, 0, rfl, by decide +kernel⟩,
  ⟨{ (up) with lsw := { (up).lsw with pwm := Vector.replicate 4 { edgeAt := some 0 } } }, fl 0 [], 3, ({ (up) with lsw := { (up).lsw with pwm := Vector.replicate 4 { edgeAt := some 0 } } } : State).lsw.pwm[(3 : Fin 4).val], 2, 0, rfl, by decide +kernel⟩,
  ⟨at_ 1 ({ (up) with lsw := { (up).lsw with pwm := Vector.replicate 4 { edgeAt := some 0 } } }), fl 0 [], 3, (at_ 1 ({ (up) with lsw := { (up).lsw with pwm := Vector.replicate 4 { edgeAt := some 0 } } })).lsw.pwm[(3 : Fin 4).val], 0, 0, rfl, by decide +kernel⟩,
  ⟨{ (up) with rst := { (up).rst with held0 := true } }, fl 0 [], 3, ({ (up) with rst := { (up).rst with held0 := true } } : State).lsw.pwm[(3 : Fin 4).val], 0, true, rfl, by decide +kernel⟩,
  ⟨up, fl 0 [], 3, (up).lsw.pwm[(3 : Fin 4).val], 0, ((pwmEdge (3 : Fin 4) (0 : Nat) (up)).lsw.pwm)[(3 : Fin 4).val], (0 : Nat) :: ((up).lsw.pwm[(3 : Fin 4).val]).edges.filter (fun x => decide ((0 : Nat) < x + 1000)), rfl, rfl, rfl⟩,
  ⟨up, fl 0 [], 3, (up).lsw.pwm[(3 : Fin 4).val], 0, ((pwmEdge (3 : Fin 4) (0 : Nat) (up)).lsw.pwm)[(3 : Fin 4).val], (0 : Nat) :: ((up).lsw.pwm[(3 : Fin 4).val]).edges.filter (fun x => decide ((0 : Nat) < x + 1000)), rfl, rfl, rfl, by decide +kernel⟩,
  ⟨{ (up) with lsw := { (up).lsw with pwm := Vector.replicate 4 { high := true } } }, fl 0 [], 3, ({ (up) with lsw := { (up).lsw with pwm := Vector.replicate 4 { high := true } } } : State).lsw.pwm[(3 : Fin 4).val], 0, ((pwmEdge (3 : Fin 4) (0 : Nat) ({ (up) with lsw := { (up).lsw with pwm := Vector.replicate 4 { high := true } } } : State)).lsw.pwm)[(3 : Fin 4).val], (0 : Nat) :: (({ (up) with lsw := { (up).lsw with pwm := Vector.replicate 4 { high := true } } } : State).lsw.pwm[(3 : Fin 4).val]).edges.filter (fun x => decide ((0 : Nat) < x + 1000)), rfl, rfl, rfl, by decide +kernel⟩,
  ⟨at_ 640 ({ (up) with lsw := { (up).lsw with pwm := Vector.replicate 4 { fast := true } } }), fl 0 [], 3, (at_ 640 ({ (up) with lsw := { (up).lsw with pwm := Vector.replicate 4 { fast := true } } })).lsw.pwm[(3 : Fin 4).val], 0, rfl, by decide +kernel⟩⟩

/-- States and operands that meet the hypotheses of LoadSwitchProtection, clause by clause. -/
theorem wit_LoadSwitchProtection :
  (∃ (s : State), ∃ (k : Fin 24), ∃ c, c = chOf s k ∧ chOn s k = true ∧ blanking s k = false ∧ c.retries < c.retryMax) ∧
  (∃ (s : State), ∃ (k : Fin 24), ∃ c, c = chOf s k ∧ chOn s k = true ∧ blanking s k = false ∧ c.retryMax ≤ c.retries) ∧
  (∃ (s : State), ∃ (k : Fin 24), ((chOn s k = false ∨ blanking s k = true))) ∧
  (∃ (s : State), ∃ (k : Fin 24), ∃ (t0 : Nat), (chOf s k).retryAt = some t0 ∧ t0 ≤ s.now ∧ (chOf s k).dipped = false) ∧
  (∃ (s : State), ∃ (k : Fin 24), ∃ (t0 : Nat), (chOf s k).onSince = some t0 ∧ chOn s k = true ∧ t0 + 64000 ≤ s.now) ∧
  (∃ (s : State), ∃ (k : Fin 24), s.rst.held0 = false ∧ (chOf s k).th = false) ∧
  (∃ (s : State), ∃ (g : Fin 4), ∃ k, s.rst.held0 = false ∧ 2320 ≤ s.lsw.temp[g.val] ∧ foldPaced g 64 s = true ∧ foldNext s g = some k) ∧
  (∃ (s : State), ∃ (g : Fin 4), s.lsw.temp[g.val] < 2320) ∧
  (∃ (s : State), ∃ (g : Fin 4), ∃ k, ∃ l, s.rst.held0 = false ∧ s.lsw.temp[g.val] < 2080 ∧ foldPaced g 640 s = true ∧ s.lsw.folds[g.val] = k :: l) ∧
  (∃ (s : State), ∃ (ma : List Nat), ∃ (lim : BitVec 24), ∃ (hot : List Int), ∃ (grp : List Int), ∃ (whole : BitVec 24), ∃ (vaux : Nat), s.rst.held0 = false) ∧
  (∃ (s : State), ∃ (dv : Nat), s.rst.held0 = false ∧ s.lsw.uv = false ∧ dv < 60) ∧
  (∃ (s : State), ∃ (dv : Nat), s.rst.held0 = false ∧ s.lsw.ov = false ∧ 340 < dv) ∧
  (∃ (s : State), ∃ (dv : Nat), ((dv < 60 ∨ 340 < dv ∨ (s.lsw.uv = true ∧ dv ≤ 65) ∨ (s.lsw.ov = true ∧ 330 ≤ dv)))) ∧
  (∃ (s : State), ∃ (dv : Nat), s.rst.held0 = false ∧ ((s.lsw.uv = true ∨ s.lsw.ov = true)) ∧ 60 ≤ dv ∧ dv ≤ 340 ∧ ((s.lsw.uv = true → 65 < dv)) ∧ ((s.lsw.ov = true → dv < 330))) :=
  ⟨⟨{ (up) with lsw := { (up).lsw with ch := Vector.replicate 24 { mode := .high } } }, 23, chOf ({ (up) with lsw := { (up).lsw with ch := Vector.replicate 24 { mode := .high } } } : State) (23 : Fin 24), rfl, by decide +kernel⟩,
  ⟨{ (up) with lsw := { (up).lsw with ch := Vector.replicate 24 { mode := .high, retries := 3 } } }, 23, chOf ({ (up) with lsw := { (up).lsw with ch := Vector.replicate 24 { mode := .high, retries := 3 } } } : State) (23 : Fin 24), rfl, by decide +kernel⟩,
  ⟨up, 23, by decide +kernel⟩,
  ⟨{ (up) with lsw := { (up).lsw with ch := Vector.replicate 24 { retryAt := some 0 } } }, 23, 0, by decide +kernel⟩,
  ⟨at_ 64000 ({ (up) with lsw := { (up).lsw with ch := Vector.replicate 24 { mode := .high, onSince := some 0 } } }), 23, 0, by decide +kernel⟩,
  ⟨up, 23, by decide +kernel⟩,
  ⟨{ (up) with lsw := { (up).lsw with ch := Vector.replicate 24 { mode := .high }, temp := Vector.replicate 4 2320 } }, 3, 23, by decide +kernel⟩,
  ⟨up, 3, by decide +kernel⟩,
  ⟨{ (up) with lsw := { (up).lsw with temp := Vector.replicate 4 2079, folds := Vector.replicate 4 [23] } }, 3, 23, [], by decide +kernel⟩,
  ⟨up, [], 0, [], [], 0, 240, by decide +kernel⟩,
  ⟨up, 59, by decide +kernel⟩,
  ⟨up, 341, by decide +kernel⟩,
  ⟨up, 59, by decide +kernel⟩,
  ⟨{ (up) with lsw := { (up).lsw with uv := true } }, 66, by decide +kernel⟩⟩

/-- States and operands that meet the hypotheses of KeySlots, clause by clause. -/
theorem wit_KeySlots :
  (∃ (s : State), ∃ (f : Flight), ((31 < f.p 16 1 ∨ 31 < f.p 18 1 ∨ 1 < f.p 19 1)) ∧ Front 0x0C01 f s) ∧
  (∃ (s : State), ∃ (f : Flight), ((31 < f.p 16 1 ∨ 31 < f.p 18 1 ∨ 1 < f.p 19 1)) ∧ Front 0x0C02 f s) ∧
  (∃ (s : State), ∃ (f : Flight), f.p 16 1 ≤ 31 ∧ f.p 18 1 ≤ 31 ∧ f.p 19 1 ≤ 1 ∧ f.keyForm = none ∧ Front 0x0C01 f s) ∧
  (∃ (s : State), ∃ (f : Flight), f.p 16 1 ≤ 31 ∧ f.p 18 1 ≤ 31 ∧ f.p 19 1 ≤ 1 ∧ f.keyForm = none ∧ Front 0x0C02 f s) ∧
  (∃ (s : State), ∃ (f : Flight), ∃ ty, ∃ u, Front 0x0C01 f s ∧ f.keyForm = some (ty, u) ∧ ty ≠ .pub ∧ fillCheck f.slot ty u false s = none ∧ s.key.rngFail = false ∧ ty = .pair ∧ longCount s < 32) ∧
  (∃ (s : State), ∃ (f : Flight), ∃ ty, ∃ u, Front 0x0C01 f s ∧ f.keyForm = some (ty, u) ∧ ty ≠ .pub ∧ fillCheck f.slot ty u false s = none ∧ s.key.rngFail = false ∧ ty ≠ .pair) ∧
  (∃ (s : State), ∃ (f : Flight), ∃ ty, ∃ u, ∃ st, Front 0x0C01 f s ∧ f.keyForm = some (ty, u) ∧ ty ≠ .pub ∧ fillCheck f.slot ty u false s = some st) ∧
  (∃ (s : State), ∃ (f : Flight), ∃ u, Front 0x0C02 f s ∧ f.keyForm = some (.pair, u)) ∧
  (∃ (s : State), ∃ (f : Flight), ∃ ty, ∃ u, Front 0x0C02 f s ∧ f.keyForm = some (ty, u) ∧ ((ty = .aes128 ∨ ty = .aes256 ∨ ty = .hmac)) ∧ f.bufLen = ty.secretLen ∧ fillCheck f.slot ty u true s = none) ∧
  (∃ (s : State), ∃ (f : Flight), ∃ r, Front 0x0C03 f s ∧ f.p 16 1 ≤ 31 ∧ s.key.rootFail = false ∧ (s.key.slot[f.slot.val]).unusable = false ∧ r = (s.key.slot[f.slot.val]).rec_ ∧ ((r.type = .pair ∨ r.type = .pub))) ∧
  (∃ (s : State), ∃ (f : Flight), ∃ r, Front 0x0C03 f s ∧ f.p 16 1 ≤ 31 ∧ s.key.rootFail = false ∧ (s.key.slot[f.slot.val]).unusable = false ∧ r = (s.key.slot[f.slot.val]).rec_ ∧ r.type ≠ .pair ∧ r.type ≠ .pub) ∧
  (∃ (s : State), ∃ (f : Flight), Front 0x0C0B f s ∧ f.p 16 4 = 0) ∧
  (∃ (s : State), ∃ (f : Flight), Front 0x0C0B f s ∧ f.p 16 4 ≠ 0 ∧ bitAt (f.p 16 4) 0 = false) ∧
  (∃ (s : State), ∃ (f : Flight), Front 0x0C0C f s ∧ f.p 16 4 ≠ 0 ∧ s.key.rootFail = false) ∧
  (∃ (s : State), ∃ (f : Flight), Front 0x0C0A f s ∧ s.key.rngFail = true) ∧
  (∃ (s : State), ∃ (f : Flight), Front 0x0C0A f s ∧ s.key.rngFail = false) ∧
  (∃ (s : State), ∃ (f : Flight), ∃ msg, Front 0x0C09 f s ∧ f.p 16 1 = 0 ∧ f.bufLen ≤ 4128 ∧ msg = f.inBuf.take (f.bufLen - 32)) ∧
  (∃ (s : State), ∃ (f : Flight), ∃ msg, Front 0x0C08 f s ∧ 1 ≤ f.p 16 1 ∧ f.p 16 1 ≤ 31 ∧ slotCheck f.slot 4 s = none ∧ f.bufLen ≤ 4128 ∧ msg = f.inBuf.take (f.bufLen - 32)) ∧
  (∃ (s : State), ∃ (f : Flight), ∃ u, Front 0x0C01 f s ∧ f.keyForm = some (.pub, u)) ∧
  (∃ (s : State), ∃ (f : Flight), ∃ ty, ∃ u, Front 0x0C01 f s ∧ f.keyForm = some (ty, u) ∧ ty ≠ .pub ∧ fillCheck f.slot ty u false s = none ∧ s.key.rngFail = true) ∧
  (∃ (s : State), ∃ (f : Flight), ∃ ty, ∃ u, Front 0x0C01 f s ∧ f.keyForm = some (ty, u) ∧ ty ≠ .pub ∧ fillCheck f.slot ty u false s = none ∧ s.key.rngFail = false ∧ ty = .pair ∧ 32 ≤ longCount s) ∧
  (∃ (s : State), ∃ (f : Flight), ∃ ty, ∃ u, ∃ (st : Status), Front 0x0C02 f s ∧ f.keyForm = some (ty, u) ∧ (ty = .aes128 ∨ ty = .aes256 ∨ ty = .hmac) ∧ f.bufLen ≠ ty.secretLen) ∧
  (∃ (s : State), ∃ (f : Flight), ∃ ty, ∃ u, ∃ (st : Status), Front 0x0C02 f s ∧ f.keyForm = some (ty, u) ∧ (ty = .aes128 ∨ ty = .aes256 ∨ ty = .hmac) ∧ f.bufLen = ty.secretLen ∧ fillCheck f.slot ty u true s = some st) ∧
  (∃ (s : State), ∃ (f : Flight), Front 0x0C03 f s ∧ 31 < f.p 16 1) ∧
  (∃ (s : State), ∃ (f : Flight), Front 0x0C03 f s ∧ f.p 16 1 ≤ 31 ∧ (s.key.rootFail = true ∨ (s.key.slot[f.slot.val]).unusable = true)) ∧
  (∃ (s : State), ∃ (f : Flight), Front 0x0C0B f s ∧ bitAt (f.p 16 4) 0 = true ∧ f.p 24 8 ≠ s.fuse.serial.toNat) ∧
  (∃ (s : State), ∃ (f : Flight), Front 0x0C0B f s ∧ bitAt (f.p 16 4) 0 = true ∧ f.p 24 8 = s.fuse.serial.toNat ∧ (s.prn.store.any fun r => r.sig.isNone) = true) ∧
  (∃ (s : State), ∃ (f : Flight), Front 0x0C0C f s ∧ f.p 16 4 = 0) ∧
  (∃ (s : State), ∃ (f : Flight), Front 0x0C0C f s ∧ f.p 16 4 ≠ 0 ∧ s.key.rootFail = true) ∧
  (∃ (s : State), ∃ (f : Flight), Front 0x0C09 f s ∧ f.p 16 1 ≠ 0) :=
  ⟨⟨wf (fl 0x0C01 ([32])) (up), fl 0x0C01 ([32]), by decide +kernel, ⟨rfl, rfl, by decide +kernel, rfl, by decide +kernel⟩⟩,
  ⟨wf (fl 0x0C02 ([0, 0, 0, 2])) (up), fl 0x0C02 ([0, 0, 0, 2]), by decide +kernel, ⟨rfl, rfl, by decide +kernel, rfl, by decide +kernel⟩⟩,
  ⟨wf (fl 0x0C01 ([31, 31, 31, 1])) (up), fl 0x0C01 ([31, 31, 31, 1]), by decide +kernel, by decide +kernel, by decide +kernel, by decide +kernel, ⟨rfl, rfl, by decide +kernel, rfl, by decide +kernel⟩⟩,
  ⟨wf (fl 0x0C02 ([31, 1, 2])) (up), fl 0x0C02 ([31, 1, 2]), by decide +kernel, by decide +kernel, by decide +kernel, by decide +kernel, ⟨rfl, rfl, by decide +kernel, rfl, by decide +kernel⟩⟩,
  ⟨wf (fl 0x0C01 ([31, 1, 5])) (up), fl 0x0C01 ([31, 1, 5]), .pair, 5, ⟨rfl, rfl, by decide +kernel, rfl, by decide +kernel⟩, by decide +kernel⟩,
  ⟨wf (fl 0x0C01 ([31, 5, 16, 1])) (up), fl 0x0C01 ([31, 5, 16, 1]), .hmac, 16, ⟨rfl, rfl, by decide +kernel, rfl, by decide +kernel⟩, by decide +kernel⟩,
  ⟨wf (fl 0x0C01 ([0, 1, 1])) (up), fl 0x0C01 ([0, 1, 1]), .pair, 1, .denied, ⟨rfl, rfl, by decide +kernel, rfl, by decide +kernel⟩, by decide +kernel⟩,
  ⟨wf (fl 0x0C02 ([31, 1, 1])) (up), fl 0x0C02 ([31, 1, 1]), 1, ⟨rfl, rfl, by decide +kernel, rfl, by decide +kernel⟩, by decide +kernel⟩,
  ⟨wf (fl 0x0C02 ([31, 3, 8]) 16) (up), fl 0x0C02 ([31, 3, 8]) 16, .aes128, 8, ⟨rfl, rfl, by decide +kernel, rfl, by decide +kernel⟩, by decide +kernel⟩,
  ⟨wf (fl 0x0C03 ([0])) (up), fl 0x0C03 ([0]), ((wf (fl 0x0C03 ([0])) (up)).key.slot[(fl 0x0C03 ([0])).slot.val]).rec_, ⟨rfl, rfl, by decide +kernel, rfl, by decide +kernel⟩, by decide +kernel, by decide +kernel, by decide +kernel, rfl, by decide +kernel⟩,
  ⟨wf (fl 0x0C03 ([31])) (up), fl 0x0C03 ([31]), ((wf (fl 0x0C03 ([31])) (up)).key.slot[(fl 0x0C03 ([31])).slot.val]).rec_, ⟨rfl, rfl, by decide +kernel, rfl, by decide +kernel⟩, by decide +kernel, by decide +kernel, by decide +kernel, rfl, by decide +kernel⟩,
  ⟨wf (fl 0x0C0B []) (up), fl 0x0C0B [], ⟨rfl, rfl, by decide +kernel, rfl, by decide +kernel⟩, by decide +kernel⟩,
  ⟨wf (fl 0x0C0B (leBytes 4 0x80000000)) (up), fl 0x0C0B (leBytes 4 0x80000000), ⟨rfl, rfl, by decide +kernel, rfl, by decide +kernel⟩, by decide +kernel⟩,
  ⟨wf (fl 0x0C0C (leBytes 4 1)) (up), fl 0x0C0C (leBytes 4 1), ⟨rfl, rfl, by decide +kernel, rfl, by decide +kernel⟩, by decide +kernel⟩,
  ⟨wf (fl 0x0C0A []) ({ (up) with key := { (up).key with rngFail := true } }), fl 0x0C0A [], ⟨rfl, rfl, by decide +kernel, rfl, by decide +kernel⟩, by decide +kernel⟩,
  ⟨wf (fl 0x0C0A []) (up), fl 0x0C0A [], ⟨rfl, rfl, by decide +kernel, rfl, by decide +kernel⟩, by decide +kernel⟩,
  ⟨wf (fl 0x0C09 [] 4128) (up), fl 0x0C09 [] 4128, (fl 0x0C09 [] 4128).inBuf.take ((fl 0x0C09 [] 4128).bufLen - 32), ⟨rfl, rfl, by decide +kernel, rfl, by decide +kernel⟩, by decide +kernel, by decide +kernel, rfl⟩,
  ⟨wf (fl 0x0C08 ([31]) 4128) (keyed 31 { type := .hmac, usage := 16 } up), fl 0x0C08 ([31]) 4128, (fl 0x0C08 ([31]) 4128).inBuf.take ((fl 0x0C08 ([31]) 4128).bufLen - 32), ⟨rfl, rfl, by decide +kernel, rfl, by decide +kernel⟩, by decide +kernel, by decide +kernel, by decide +kernel, by decide +kernel, rfl⟩,
  ⟨wf (fl 0x0C01 ([31, 2, 2])) (up), fl 0x0C01 ([31, 2, 2]), 2, ⟨rfl, rfl, by decide +kernel, rfl, by decide +kernel⟩, by decide +kernel⟩,
  ⟨wf (fl 0x0C01 ([31, 5, 16])) ({ (up) with key := { (up).key with rngFail := true } }), fl 0x0C01 ([31, 5, 16]), .hmac, 16, ⟨rfl, rfl, by decide +kernel, rfl, by decide +kernel⟩, by decide +kernel⟩,
  ⟨wf (fl 0x0C01 ([31, 1, 5])) ({ (up) with key := { (up).key with queue := List.replicate 32 { kind := .sign, steps := 1, req := .flight 9, tick := 0, slots := [] } } }), fl 0x0C01 ([31, 1, 5]), .pair, 5, ⟨rfl, rfl, by decide +kernel, rfl, by decide +kernel⟩, by decide +kernel⟩,
  ⟨wf (fl 0x0C02 ([31, 5, 16]) 31) (up), fl 0x0C02 ([31, 5, 16]) 31, .hmac, 16, .denied, ⟨rfl, rfl, by decide +kernel, rfl, by decide +kernel⟩, by decide +kernel⟩,
  ⟨wf (fl 0x0C02 ([31, 5, 16]) 32) (keyed 31 { locked := true } up), fl 0x0C02 ([31, 5, 16]) 32, .hmac, 16, .denied, ⟨rfl, rfl, by decide +kernel, rfl, by decide +kernel⟩, by decide +kernel⟩,
  ⟨wf (fl 0x0C03 ([32])) (up), fl 0x0C03 ([32]), ⟨rfl, rfl, by decide +kernel, rfl, by decide +kernel⟩, by decide +kernel⟩,
  ⟨wf (fl 0x0C03 ([31])) ({ (up) with key := { (up).key with rootFail := true } }), fl 0x0C03 ([31]), ⟨rfl, rfl, by decide +kernel, rfl, by decide +kernel⟩, by decide +kernel⟩,
  ⟨wf (fl 0x0C0B ([1])) (up), fl 0x0C0B ([1]), ⟨rfl, rfl, by decide +kernel, rfl, by decide +kernel⟩, by decide +kernel⟩,
  ⟨wf (fl 0x0C0B (leBytes 8 1 ++ leBytes 8 1)) ({ (up) with prn := { (up).prn with store := [{ rctr := 1, rtype := 0, outlet := 0, body := [] }] } }), fl 0x0C0B (leBytes 8 1 ++ leBytes 8 1), ⟨rfl, rfl, by decide +kernel, rfl, by decide +kernel⟩, by decide +kernel⟩,
  ⟨wf (fl 0x0C0C []) (up), fl 0x0C0C [], ⟨rfl, rfl, by decide +kernel, rfl, by decide +kernel⟩, by decide +kernel⟩,
  ⟨wf (fl 0x0C0C ([1])) ({ (up) with key := { (up).key with rootFail := true } }), fl 0x0C0C ([1]), ⟨rfl, rfl, by decide +kernel, rfl, by decide +kernel⟩, by decide +kernel⟩,
  ⟨wf (fl 0x0C09 ([1])) (up), fl 0x0C09 ([1]), ⟨rfl, rfl, by decide +kernel, rfl, by decide +kernel⟩, by decide +kernel⟩⟩

/-- States and operands that meet the hypotheses of LongKeyOperations, clause by clause. -/
theorem wit_LongKeyOperations :
  (∃ (s : State), ∃ (f : Flight), 1 ≤ f.p 16 1 ∧ f.p 16 1 ≤ 31 ∧ longCount s < 32 ∧ Front 0x0C04 f s ∧ slotCheck f.slot 0 s = none ∧ s.key.rngFail = false) ∧
  (∃ (s : State), ∃ (f : Flight), 1 ≤ f.p 16 1 ∧ f.p 16 1 ≤ 31 ∧ longCount s < 32 ∧ Front 0x0C05 f s ∧ slotCheck f.slot 1 s = none) ∧
  (∃ (s : State), ∃ (f : Flight), ∃ (k : Fin 32), ∃ ty, 1 ≤ f.p 16 1 ∧ f.p 16 1 ≤ 31 ∧ longCount s < 32 ∧ Front 0x0C06 f s ∧ slotCheck f.slot 2 s = none ∧ f.p 17 1 = k.val ∧ keyTypeOf (f.p 18 1) = some ty ∧ 3 ≤ f.p 18 1 ∧ usageOk ty (f.p 19 1) = true ∧ f.p 20 1 ≤ 1 ∧ (decodePoint (f.inBuf.take 65)).isSome = true ∧ fillCheck k ty (f.p 19 1) false s = none) ∧
  (∃ (s : State), ∃ (f : Flight), 1 ≤ f.p 16 1 ∧ f.p 16 1 ≤ 31 ∧ longCount s < 32 ∧ Front 0x0C07 f s ∧ slotCheck f.slot 3 s = none ∧ f.p 17 1 ≤ 1 ∧ f.p 20 2 + 16 < f.bufLen) ∧
  (∃ (s : State), ∃ (f : Flight), Front 0x0C06 f s ∧ ((f.p 18 1 < 3 ∨ 5 < f.p 18 1))) ∧
  (∃ (s : State), ∃ (f : Flight), ∃ st, Front 0x0C04 f s ∧ f.p 16 1 ≤ 31 ∧ slotCheck f.slot 0 s = some st) ∧
  (∃ (s : State), ∃ (f : Flight), ∃ o, ∃ rest, ∃ (t0 : Nat), Reached .host s ∧ s.rst.msdUp = true ∧ s.key.done = o :: rest ∧ o.doneAt = some t0 ∧ t0 < s.now ∧ o.dropped = false ∧ o.req = .flight f.seq ∧ flight? f.seq s = some f ∧ o.kind = .verify) ∧
  (∃ (s : State), ∃ (f : Flight), ∃ o, ∃ rest, ∃ (t0 : Nat), ∃ r, Reached .host s ∧ s.rst.msdUp = true ∧ s.key.done = o :: rest ∧ o.doneAt = some t0 ∧ t0 < s.now ∧ o.dropped = false ∧ o.req = .flight f.seq ∧ flight? f.seq s = some f ∧ o.kind = .sign ∧ s.key.rngFail = false ∧ (r = signDigest (beNat (s.key.slot[f.slot.val]).rec_.secret) (slice f.param 8 32) { s with key := { s.key with done := rest } })) ∧
  (∃ (s : State), ∃ (f : Flight), ∃ o, ∃ rest, ∃ (t0 : Nat), Reached .host s ∧ s.rst.msdUp = true ∧ s.key.done = o :: rest ∧ o.doneAt = some t0 ∧ t0 < s.now ∧ o.dropped = false ∧ o.req = .flight f.seq ∧ flight? f.seq s = some f ∧ o.kind = .generate ∧ shut f.slot s = true) ∧
  (∃ (s : State), ∃ (f : Flight), ∃ o, ∃ rest, ∃ (t0 : Nat), Reached .host s ∧ s.rst.msdUp = true ∧ s.key.done = o :: rest ∧ o.doneAt = some t0 ∧ t0 < s.now ∧ o.dropped = false ∧ o.req = .flight f.seq ∧ flight? f.seq s = some f ∧ o.kind = .generate ∧ s.key.rngFail = false ∧ shut f.slot s = false) ∧
  (∃ (s : State), ∃ (f : Flight), ∃ o, ∃ rest, Reached .host s ∧ s.key.done = o :: rest ∧ o.doneAt = some s.now) ∧
  (∃ (s : State), ∃ (f : Flight), ∃ (err : List Nat), ∃ (t0 : Nat), Reached .back s ∧ s.key.monDown = some t0 ∧ s.isReady 12 = true ∧ t0 + 128 ≤ s.now ∧ 0x3E ≤ s.now % 64) ∧
  (∃ (s : State), ∃ (f : Flight), s.isReady 12 = true) ∧
  (∃ (s : State), ∃ (f : Flight), s.isReady 12 = true ∧ s.key.rngFail = true) ∧
  (∃ (s : State), ∃ (f : Flight), Front 0x0C04 f s ∧ 1 ≤ f.p 16 1 ∧ f.p 16 1 ≤ 31 ∧ slotCheck f.slot 0 s = none ∧ s.key.rngFail = true) ∧
  (∃ (s : State), ∃ (f : Flight), Front 0x0C04 f s ∧ 1 ≤ f.p 16 1 ∧ f.p 16 1 ≤ 31 ∧ slotCheck f.slot 0 s = none ∧ s.key.rngFail = false ∧ 32 ≤ longCount s) ∧
  (∃ (s : State), ∃ (f : Flight), ∃ ty, Front 0x0C06 f s ∧ f.p 16 1 ≤ 31 ∧ f.p 17 1 ≤ 31 ∧ f.p 19 1 ≤ 31 ∧ f.p 20 1 ≤ 1 ∧ keyTypeOf (f.p 18 1) = some ty ∧ 3 ≤ f.p 18 1 ∧ usageOk ty (f.p 19 1) = false) ∧
  (∃ (s : State), ∃ (f : Flight), Front 0x0C07 f s ∧ (1 < f.p 17 1 ∨ f.bufLen < f.p 20 2 + 16)) :=
  ⟨⟨wf (fl 0x0C04 ([31])) (keyed 31 { type := .pair, usage := 1 } up), fl 0x0C04 ([31]), by decide +kernel, by decide +kernel, by decide +kernel, ⟨rfl, rfl, by decide +kernel, rfl, by decide +kernel⟩, by decide +kernel⟩,
  ⟨wf (fl 0x0C05 ([31])) (keyed 31 { type := .pub, usage := 2 } up), fl 0x0C05 ([31]), by decide +kernel, by decide +kernel, by decide +kernel, ⟨rfl, rfl, by decide +kernel, rfl, by decide +kernel⟩, by decide +kernel⟩,
  ⟨wf (fl 0x0C06 ([31, 30, 5, 16]) 65 (gKey)) (keyed 31 { type := .pair, usage := 4 } up), fl 0x0C06 ([31, 30, 5, 16]) 65 (gKey), 30, .hmac, by decide +kernel, by decide +kernel, by decide +kernel, ⟨rfl, rfl, by decide +kernel, rfl, by decide +kernel⟩, by decide +kernel⟩,
  ⟨wf (fl 0x0C07 ([31]) 17) (keyed 31 { type := .aes128, usage := 8 } up), fl 0x0C07 ([31]) 17, by decide +kernel, by decide +kernel, by decide +kernel, ⟨rfl, rfl, by decide +kernel, rfl, by decide +kernel⟩, by decide +kernel⟩,
  ⟨wf (fl 0x0C06 ([0, 0, 2])) (up), fl 0x0C06 ([0, 0, 2]), ⟨rfl, rfl, by decide +kernel, rfl, by decide +kernel⟩, by decide +kernel⟩,
  ⟨wf (fl 0x0C04 ([31])) (up), fl 0x0C04 ([31]), .denied, ⟨rfl, rfl, by decide +kernel, rfl, by decide +kernel⟩, by decide +kernel⟩,
  ⟨wf (fl 0x0C05 []) (at_ 2 ({ (up) with key := { (up).key with done := [{ kind := .verify, steps := 1, req := .flight 1, tick := 0, slots := [], doneAt := some 1 }] } })), fl 0x0C05 [], { kind := .verify, steps := 1, req := .flight 1, tick := 0, slots := [], doneAt := some 1 }, [], 1, by delta Reached; decide +kernel, by decide +kernel⟩,
  ⟨wf (fl 0x0C04 []) (at_ 2 ({ (up) with key := { (up).key with done := [{ kind := .sign, steps := 1, req := .flight 1, tick := 0, slots := [], doneAt := some 1 }] } })), fl 0x0C04 [], { kind := .sign, steps := 1, req := .flight 1, tick := 0, slots := [], doneAt := some 1 }, [], 1, signDigest (beNat ((wf (fl 0x0C04 []) (at_ 2 ({ (up) with key := { (up).key with done := [{ kind := .sign, steps := 1, req := .flight 1, tick := 0, slots := [], doneAt := some 1 }] } }))).key.slot[(fl 0x0C04 []).slot.val]).rec_.secret) (slice (fl 0x0C04 []).param 8 32) { (wf (fl 0x0C04 []) (at_ 2 ({ (up) with key := { (up).key with done := [{ kind := .sign, steps := 1, req := .flight 1, tick := 0, slots := [], doneAt := some 1 }] } }))) with key := { (wf (fl 0x0C04 []) (at_ 2 ({ (up) with key := { (up).key with done := [{ kind := .sign, steps := 1, req := .flight 1, tick := 0, slots := [], doneAt := some 1 }] } }))).key with done := ([]) } }, by delta Reached; decide +kernel, by decide +kernel, by decide +kernel, by decide +kernel, by decide +kernel, by decide +kernel, by decide +kernel, by decide +kernel, by decide +kernel, by decide +kernel, rfl⟩,
  ⟨wf (fl 0x0C01 []) (keyed 0 { type := .pair, usage := 1, locked := true } (at_ 2 ({ (up) with key := { (up).key with done := [{ kind := .generate, steps := 1, req := .flight 1, tick := 0, slots := [], doneAt := some 1 }] } }))), fl 0x0C01 [], { kind := .generate, steps := 1, req := .flight 1, tick := 0, slots := [], doneAt := some 1 }, [], 1, by delta Reached; decide +kernel, by decide +kernel⟩,
  ⟨wf (fl 0x0C01 ([31])) (at_ 2 ({ (up) with key := { (up).key with done := [{ kind := .generate, steps := 1, req := .flight 1, tick := 0, slots := [], doneAt := some 1 }] } })), fl 0x0C01 ([31]), { kind := .generate, steps := 1, req := .flight 1, tick := 0, slots := [], doneAt := some 1 }, [], 1, by delta Reached; decide +kernel, by decide +kernel⟩,
  ⟨at_ 2 ({ (up) with key := { (up).key with done := [{ kind := .sign, steps := 1, req := .flight 1, tick := 0, slots := [], doneAt := some 2 }] } }), fl 0 [], { kind := .sign, steps := 1, req := .flight 1, tick := 0, slots := [], doneAt := some 2 }, [], by delta Reached; decide +kernel, by decide +kernel⟩,
  ⟨at_ 190 (win .back ({ (up) with key := { (up).key with monDown := some 0 } })), fl 0 [], [], 0, by delta Reached; decide +kernel, by decide +kernel⟩,
  ⟨up, fl 0 [], by decide +kernel⟩,
  ⟨{ (up) with key := { (up).key with rngFail := true } }, fl 0 [], by decide +kernel⟩,
  ⟨wf (fl 0x0C04 ([31])) (keyed 31 { type := .pair, usage := 1 } ({ (up) with key := { (up).key with rngFail := true } })), fl 0x0C04 ([31]), ⟨rfl, rfl, by decide +kernel, rfl, by decide +kernel⟩, by decide +kernel⟩,
  ⟨wf (fl 0x0C04 ([31])) (keyed 31 { type := .pair, usage := 1 } ({ (up) with key := { (up).key with queue := List.replicate 32 { kind := .sign, steps := 1, req := .flight 9, tick := 0, slots := [] } } })), fl 0x0C04 ([31]), ⟨rfl, rfl, by decide +kernel, rfl, by decide +kernel⟩, by decide +kernel⟩,
  ⟨wf (fl 0x0C06 ([1, 2, 5, 31, 1])) (up), fl 0x0C06 ([1, 2, 5, 31, 1]), .hmac, ⟨rfl, rfl, by decide +kernel, rfl, by decide +kernel⟩, by decide +kernel⟩,
  ⟨wf (fl 0x0C07 ([1, 0]) 15) (up), fl 0x0C07 ([1, 0]) 15, ⟨rfl, rfl, by decide +kernel, rfl, by decide +kernel⟩, by decide +kernel⟩⟩

/-- States and operands that meet the hypotheses of Update, clause by clause. -/
theorem wit_Update :
  (∃ (s : State), ∃ (f : Flight), ∃ (k : Fin 2), k = otherSlot s ∧ Front 0x0D01 f s ∧ f.p 16 4 ≠ 0 ∧ f.p 16 4 < 2 ^ 32 ∧ 1 ≤ f.p 20 2 ∧ f.p 20 2 ≤ 5120 ∧ 1 ≤ f.p 22 1 ∧ f.p 22 1 ≤ 3 ∧ s.upd.recovery = false ∧ s.upd.trial = false ∧ ((∀ r, s.bkb.relay = some r → r.slot ≠ k)) ∧ s.upd.mark = .none) ∧
  (∃ (s : State), ∃ (f : Flight), ∃ (k : Fin 2), k = otherSlot s ∧ Front 0x0D01 f s ∧ f.p 16 4 ≠ 0 ∧ f.p 16 4 < 2 ^ 32 ∧ 1 ≤ f.p 20 2 ∧ f.p 20 2 ≤ 5120 ∧ 1 ≤ f.p 22 1 ∧ f.p 22 1 ≤ 3 ∧ s.upd.recovery = false ∧ s.upd.trial = true) ∧
  (∃ (s : State), ∃ (f : Flight), ∃ (k : Fin 2), ∃ r, k = otherSlot s ∧ Front 0x0D01 f s ∧ f.p 16 4 ≠ 0 ∧ f.p 16 4 < 2 ^ 32 ∧ 1 ≤ f.p 20 2 ∧ f.p 20 2 ≤ 5120 ∧ 1 ≤ f.p 22 1 ∧ f.p 22 1 ≤ 3 ∧ s.upd.recovery = false ∧ s.bkb.relay = some r ∧ r.slot = k) ∧
  (∃ (s : State), ∃ (f : Flight), ∃ (k : Fin 2), ∃ (x : ImageSlot), ∃ idx, k = otherSlot s ∧ Front 0x0D02 f s ∧ armedSlot s = some x ∧ idx = f.p 16 2 ∧ f.bufLen = 512 ∧ idx < x.pieces ∧ idx < 5120 ∧ f.p 20 4 = x.imageId.toNat ∧ x.sources.getLsbD 0 = true ∧ x.bitmap.getLsbD idx = true) ∧
  (∃ (s : State), ∃ (f : Flight), ∃ (k : Fin 2), ∃ (x : ImageSlot), ∃ idx, k = otherSlot s ∧ Front 0x0D02 f s ∧ armedSlot s = some x ∧ idx = f.p 16 2 ∧ f.bufLen = 512 ∧ idx < x.pieces ∧ idx < 5120 ∧ f.p 20 4 = x.imageId.toNat ∧ x.sources.getLsbD 0 = true ∧ x.bitmap.getLsbD idx = false) ∧
  (∃ (s : State), ∃ (f : Flight), ∃ (k : Fin 2), ∃ (x : ImageSlot), k = otherSlot s ∧ Front 0x0D03 f s ∧ armedSlot s = some x) ∧
  (∃ (s : State), ∃ (f : Flight), ∃ (k : Fin 2), k = otherSlot s ∧ Front 0x0D04 f s ∧ s.upd.trial = false ∧ (imageSlot s k).whole = true ∧ s.upd.armed = true ∧ f.p 16 4 = (imageSlot s k).imageId.toNat) ∧
  (∃ (s : State), ∃ (f : Flight), ∃ (k : Fin 2), k = otherSlot s ∧ Front 0x0D04 f s ∧ ((s.upd.trial = true ∨ (imageSlot s k).whole = false))) ∧
  (∃ (s : State), ∃ (f : Flight), ∃ (k : Fin 2), k = otherSlot s ∧ Front 0x0D05 f s ∧ s.upd.recovery = false ∧ s.upd.trial = true) ∧
  (∃ (s : State), ∃ (f : Flight), ∃ (k : Fin 2), k = otherSlot s ∧ Front 0x0D05 f s ∧ s.upd.recovery = false ∧ s.upd.trial = false) ∧
  (∃ (s : State), ∃ (f : Flight), ∃ (k : Fin 2), k = otherSlot s ∧ Front 0x0D06 f s ∧ s.upd.recovery = false ∧ s.upd.trial = true) ∧
  (∃ (s : State), ∃ (f : Flight), ∃ (k : Fin 2), ∃ (t0 : Nat), k = otherSlot s ∧ Reached .done s ∧ s.rst.apdUp = true ∧ trialEnd s = some t0 ∧ t0 ≤ s.now) ∧
  (∃ (s : State), ∃ (f : Flight), ∃ (k : Fin 2), k = otherSlot s ∧ Front 0x0D07 f s) ∧
  (∃ (s : State), ∃ (f : Flight), ∃ (k : Fin 2), ∃ (b : BootIn), ∃ (c : BootTry), ∃ ok, ∃ s1, ∃ v, ∃ r, k = otherSlot s ∧ s.rst.apdUp = true ∧ s.upd.checking = some c ∧ checkTiles c.slot s = (ok, s1) ∧ v = bootView c.slot ok b s1 ∧ r = bootCheck v (if c.trial then some (imageSlot s s.upd.confSlot).sfmt else none) s1 ∧ c.trial = true ∧ c.hashed = true ∧ r = 0) ∧
  (∃ (s : State), ∃ (f : Flight), ∃ (k : Fin 2), ∃ (b : BootIn), ∃ (c : BootTry), ∃ ok, ∃ s1, ∃ v, ∃ r, k = otherSlot s ∧ s.rst.apdUp = true ∧ s.upd.checking = some c ∧ checkTiles c.slot s = (ok, s1) ∧ v = bootView c.slot ok b s1 ∧ r = bootCheck v (if c.trial then some (imageSlot s s.upd.confSlot).sfmt else none) s1 ∧ c.trial = false ∧ c.hashed = true ∧ r = 0) ∧
  (∃ (s : State), ∃ (f : Flight), ∃ (k : Fin 2), ∃ (b : BootIn), ∃ (c : BootTry), ∃ ok, ∃ s1, ∃ v, ∃ r, k = otherSlot s ∧ s.rst.apdUp = true ∧ s.upd.checking = some c ∧ checkTiles c.slot s = (ok, s1) ∧ v = bootView c.slot ok b s1 ∧ r = bootCheck v (if c.trial then some (imageSlot s s.upd.confSlot).sfmt else none) s1 ∧ r ≠ 0 ∧ ((r ≤ 6 ∨ c.hashed = true)) ∧ c.last = false ∧ c.trial = true) ∧
  (∃ (s : State), ∃ (f : Flight), ∃ (k : Fin 2), ∃ (b : BootIn), ∃ (c : BootTry), ∃ ok, ∃ s1, ∃ v, ∃ r, k = otherSlot s ∧ s.rst.apdUp = true ∧ s.upd.checking = some c ∧ checkTiles c.slot s = (ok, s1) ∧ v = bootView c.slot ok b s1 ∧ r = bootCheck v (if c.trial then some (imageSlot s s.upd.confSlot).sfmt else none) s1 ∧ r ≠ 0 ∧ ((r ≤ 6 ∨ c.hashed = true)) ∧ c.last = false ∧ c.trial = false ∧ (imageSlot s k).whole = true) ∧
  (∃ (s : State), ∃ (f : Flight), ∃ (k : Fin 2), ∃ (b : BootIn), ∃ (c : BootTry), ∃ ok, ∃ s1, ∃ v, ∃ r, k = otherSlot s ∧ s.rst.apdUp = true ∧ s.upd.checking = some c ∧ checkTiles c.slot s = (ok, s1) ∧ v = bootView c.slot ok b s1 ∧ r = bootCheck v (if c.trial then some (imageSlot s s.upd.confSlot).sfmt else none) s1 ∧ r ≠ 0 ∧ ((r ≤ 6 ∨ c.hashed = true)) ∧ ((c.last = true ∨ (c.trial = false ∧ (imageSlot s k).whole = false)))) ∧
  (∃ (s : State), ∃ (f : Flight), ∃ (k : Fin 2), ∃ (b : BootIn), ∃ (c : BootTry), ∃ ok, ∃ s1, ∃ v, ∃ r, k = otherSlot s ∧ s.rst.apdUp = true ∧ s.upd.checking = some c ∧ checkTiles c.slot s = (ok, s1) ∧ v = bootView c.slot ok b s1 ∧ r = bootCheck v (if c.trial then some (imageSlot s s.upd.confSlot).sfmt else none) s1 ∧ c.hashed = false ∧ ((r = 0 ∨ 6 < r))) ∧
  (∃ (s : State), ∃ (f : Flight), ∃ (k : Fin 2), k = otherSlot s ∧ Front 0x0D01 f s ∧ (f.p 16 4 = 0 ∨ f.p 20 2 = 0 ∨ 5120 < f.p 20 2 ∨ f.p 22 1 = 0 ∨ 3 < f.p 22 1 ∨ (s.upd.recovery = true ∧ f.p 22 1 = 2))) ∧
  (∃ (s : State), ∃ (f : Flight), ∃ (k : Fin 2), k = otherSlot s ∧ Front 0x0D01 f s ∧ f.p 16 4 ≠ 0 ∧ 1 ≤ f.p 20 2 ∧ f.p 20 2 ≤ 5120 ∧ (f.p 22 1 = 1 ∨ f.p 22 1 = 3) ∧ s.upd.mark ≠ .none) ∧
  (∃ (s : State), ∃ (f : Flight), ∃ (k : Fin 2), k = otherSlot s ∧ Front 0x0D02 f s ∧ armedSlot s = none) ∧
  (∃ (s : State), ∃ (f : Flight), ∃ (k : Fin 2), ∃ x, k = otherSlot s ∧ Front 0x0D02 f s ∧ armedSlot s = some x ∧ (f.bufLen ≠ 512 ∨ x.pieces ≤ f.p 16 2)) ∧
  (∃ (s : State), ∃ (f : Flight), ∃ (k : Fin 2), ∃ x, k = otherSlot s ∧ Front 0x0D02 f s ∧ armedSlot s = some x ∧ f.bufLen = 512 ∧ f.p 16 2 < x.pieces ∧ (f.p 20 4 ≠ x.imageId.toNat ∨ x.sources.getLsbD 0 = false)) ∧
  (∃ (s : State), ∃ (f : Flight), ∃ (k : Fin 2), k = otherSlot s ∧ Front 0x0D03 f s ∧ armedSlot s = none) ∧
  (∃ (s : State), ∃ (f : Flight), ∃ (k : Fin 2), k = otherSlot s ∧ Front 0x0D04 f s ∧ s.upd.trial = false ∧ (imageSlot s k).whole = true ∧ (s.upd.armed = false ∨ f.p 16 4 ≠ (imageSlot s k).imageId.toNat)) ∧
  (∃ (s : State), ∃ (f : Flight), ∃ (k : Fin 2), k = otherSlot s ∧ s.upd.recovery = true ∧ Front 0x0D05 f s) ∧
  (∃ (s : State), ∃ (f : Flight), ∃ (k : Fin 2), k = otherSlot s ∧ s.upd.recovery = true ∧ Front 0x0D06 f s) ∧
  (∃ (s : State), ∃ (f : Flight), ∃ (k : Fin 2), k = otherSlot s ∧ Front 0x0D06 f s ∧ s.upd.recovery = false ∧ s.upd.trial = false) :=
  ⟨⟨wf (fl 0x0D01 (leBytes 4 7 ++ leBytes 2 5120 ++ [3])) (up), fl 0x0D01 (leBytes 4 7 ++ leBytes 2 5120 ++ [3]), 1, by decide +kernel, ⟨rfl, rfl, by decide +kernel, rfl, by decide +kernel⟩, by decide +kernel⟩,
  ⟨wf (fl 0x0D01 (leBytes 4 7 ++ leBytes 2 5120 ++ [3])) ({ (up) with upd := { (up).upd with trial := true } }), fl 0x0D01 (leBytes 4 7 ++ leBytes 2 5120 ++ [3]), 1, by decide +kernel, ⟨rfl, rfl, by decide +kernel, rfl, by decide +kernel⟩, by decide +kernel⟩,
  ⟨wf (fl 0x0D01 (leBytes 4 7 ++ leBytes 2 5120 ++ [3])) ({ (up) with bkb := { (up).bkb with relay := some { imageId := 1, pieces := 1, slot := 1 } } }), fl 0x0D01 (leBytes 4 7 ++ leBytes 2 5120 ++ [3]), 1, { imageId := 1, pieces := 1, slot := 1 }, by decide +kernel, ⟨rfl, rfl, by decide +kernel, rfl, by decide +kernel⟩, by decide +kernel⟩,
  ⟨wf (fl 0x0D02 (leBytes 2 7 ++ leBytes 2 0 ++ leBytes 4 7) 512) ({ up with upd := { up.upd with slot := #v[up.upd.slot[0], { imageId := 7, pieces := 8, sources := 1, bitmap := 255 }], armed := true } }), fl 0x0D02 (leBytes 2 7 ++ leBytes 2 0 ++ leBytes 4 7) 512, 1, { imageId := 7, pieces := 8, sources := 1, bitmap := 255 }, (fl 0x0D02 (leBytes 2 7 ++ leBytes 2 0 ++ leBytes 4 7) 512).p 16 2, by decide +kernel, ⟨rfl, rfl, by decide +kernel, rfl, by decide +kernel⟩, by decide +kernel, rfl, by decide +kernel⟩,
  ⟨wf (fl 0x0D02 (leBytes 2 7 ++ leBytes 2 0 ++ leBytes 4 7) 512) ({ up with upd := { up.upd with slot := #v[up.upd.slot[0], { imageId := 7, pieces := 8, sources := 1, bitmap := 127 }], armed := true } }), fl 0x0D02 (leBytes 2 7 ++ leBytes 2 0 ++ leBytes 4 7) 512, 1, { imageId := 7, pieces := 8, sources := 1, bitmap := 127 }, (fl 0x0D02 (leBytes 2 7 ++ leBytes 2 0 ++ leBytes 4 7) 512).p 16 2, by decide +kernel, ⟨rfl, rfl, by decide +kernel, rfl, by decide +kernel⟩, by decide +kernel, rfl, by decide +kernel⟩,
  ⟨wf (fl 0x0D03 []) ({ up with upd := { up.upd with slot := #v[up.upd.slot[0], { imageId := 7, pieces := 8, sources := 1, bitmap := 0 }], armed := true } }), fl 0x0D03 [], 1, { imageId := 7, pieces := 8, sources := 1, bitmap := 0 }, by decide +kernel, ⟨rfl, rfl, by decide +kernel, rfl, by decide +kernel⟩, by decide +kernel⟩,
  ⟨wf (fl 0x0D04 (leBytes 4 7)) ({ up with upd := { up.upd with slot := #v[up.upd.slot[0], { imageId := 7, pieces := 8, sources := 1, bitmap := 255 }], armed := true } }), fl 0x0D04 (leBytes 4 7), 1, by decide +kernel, ⟨rfl, rfl, by decide +kernel, rfl, by decide +kernel⟩, by decide +kernel⟩,
  ⟨wf (fl 0x0D04 []) (up), fl 0x0D04 [], 1, by decide +kernel, ⟨rfl, rfl, by decide +kernel, rfl, by decide +kernel⟩, by decide +kernel⟩,
  ⟨wf (fl 0x0D05 []) ({ (up) with upd := { (up).upd with trial := true } }), fl 0x0D05 [], 1, by decide +kernel, ⟨rfl, rfl, by decide +kernel, rfl, by decide +kernel⟩, by decide +kernel⟩,
  ⟨wf (fl 0x0D05 []) (up), fl 0x0D05 [], 1, by decide +kernel, ⟨rfl, rfl, by decide +kernel, rfl, by decide +kernel⟩, by decide +kernel⟩,
  ⟨wf (fl 0x0D06 []) ({ (up) with upd := { (up).upd with trial := true } }), fl 0x0D06 [], 1, by decide +kernel, ⟨rfl, rfl, by decide +kernel, rfl, by decide +kernel⟩, by decide +kernel⟩,
  ⟨win .done (at_ 38400000 ({ (up) with upd := { (up).upd with trial := true, trialTick := some 0 } })), fl 0 [], 1, 38400000, by decide +kernel, by delta Reached; decide +kernel, by decide +kernel⟩,
  ⟨wf (fl 0x0D07 []) (up), fl 0x0D07 [], 1, by decide +kernel, ⟨rfl, rfl, by decide +kernel, rfl, by decide +kernel⟩⟩,
  ⟨checks { slot := 1, trial := true, fell := false, last := false, hashed := true }, fl 0 [], 1, { header := beBytes 2 0x5546 ++ [1, 0] ++ beBytes 4 7 ++ leBytes 4 0 ++ beBytes 2 8, tilesOk := true, sigOk := true }, { slot := 1, trial := true, fell := false, last := false, hashed := true }, (checkTiles 1 (checks { slot := 1, trial := true, fell := false, last := false, hashed := true })).1, (checkTiles 1 (checks { slot := 1, trial := true, fell := false, last := false, hashed := true })).2, bootView ({ slot := 1, trial := true, fell := false, last := false, hashed := true } : BootTry).slot ((checkTiles 1 (checks { slot := 1, trial := true, fell := false, last := false, hashed := true })).1) ({ header := beBytes 2 0x5546 ++ [1, 0] ++ beBytes 4 7 ++ leBytes 4 0 ++ beBytes 2 8, tilesOk := true, sigOk := true } : BootIn) ((checkTiles 1 (checks { slot := 1, trial := true, fell := false, last := false, hashed := true })).2), bootCheck (bootView ({ slot := 1, trial := true, fell := false, last := false, hashed := true } : BootTry).slot ((checkTiles 1 (checks { slot := 1, trial := true, fell := false, last := false, hashed := true })).1) ({ header := beBytes 2 0x5546 ++ [1, 0] ++ beBytes 4 7 ++ leBytes 4 0 ++ beBytes 2 8, tilesOk := true, sigOk := true } : BootIn) ((checkTiles 1 (checks { slot := 1, trial := true, fell := false, last := false, hashed := true })).2)) (if ({ slot := 1, trial := true, fell := false, last := false, hashed := true } : BootTry).trial then some (imageSlot (checks { slot := 1, trial := true, fell := false, last := false, hashed := true }) (checks { slot := 1, trial := true, fell := false, last := false, hashed := true }).upd.confSlot).sfmt else none) ((checkTiles 1 (checks { slot := 1, trial := true, fell := false, last := false, hashed := true })).2), by decide +kernel, by decide +kernel, by decide +kernel, Prod.mk.eta.symm, rfl, rfl, by decide +kernel, by decide +kernel, rfl⟩,
  ⟨checks { slot := 0, trial := false, fell := false, last := false, hashed := true }, fl 0 [], 1, { header := beBytes 2 0x5546 ++ [1, 0] ++ beBytes 4 7 ++ leBytes 4 0 ++ beBytes 2 1, tilesOk := true, sigOk := true }, { slot := 0, trial := false, fell := false, last := false, hashed := true }, (checkTiles 0 (checks { slot := 0, trial := false, fell := false, last := false, hashed := true })).1, (checkTiles 0 (checks { slot := 0, trial := false, fell := false, last := false, hashed := true })).2, bootView ({ slot := 0, trial := false, fell := false, last := false, hashed := true } : BootTry).slot ((checkTiles 0 (checks { slot := 0, trial := false, fell := false, last := false, hashed := true })).1) ({ header := beBytes 2 0x5546 ++ [1, 0] ++ beBytes 4 7 ++ leBytes 4 0 ++ beBytes 2 1, tilesOk := true, sigOk := true } : BootIn) ((checkTiles 0 (checks { slot := 0, trial := false, fell := false, last := false, hashed := true })).2), bootCheck (bootView ({ slot := 0, trial := false, fell := false, last := false, hashed := true } : BootTry).slot ((checkTiles 0 (checks { slot := 0, trial := false, fell := false, last := false, hashed := true })).1) ({ header := beBytes 2 0x5546 ++ [1, 0] ++ beBytes 4 7 ++ leBytes 4 0 ++ beBytes 2 1, tilesOk := true, sigOk := true } : BootIn) ((checkTiles 0 (checks { slot := 0, trial := false, fell := false, last := false, hashed := true })).2)) (if ({ slot := 0, trial := false, fell := false, last := false, hashed := true } : BootTry).trial then some (imageSlot (checks { slot := 0, trial := false, fell := false, last := false, hashed := true }) (checks { slot := 0, trial := false, fell := false, last := false, hashed := true }).upd.confSlot).sfmt else none) ((checkTiles 0 (checks { slot := 0, trial := false, fell := false, last := false, hashed := true })).2), by decide +kernel, by decide +kernel, by decide +kernel, Prod.mk.eta.symm, rfl, rfl, by decide +kernel, by decide +kernel, rfl⟩,
  ⟨checks { slot := 1, trial := true, fell := false, last := false, hashed := true }, fl 0 [], 1, { header := beBytes 2 0x5546 ++ [1, 0] ++ beBytes 4 7 ++ leBytes 4 0 ++ beBytes 2 9, tilesOk := true, sigOk := true }, { slot := 1, trial := true, fell := false, last := false, hashed := true }, (checkTiles 1 (checks { slot := 1, trial := true, fell := false, last := false, hashed := true })).1, (checkTiles 1 (checks { slot := 1, trial := true, fell := false, last := false, hashed := true })).2, bootView ({ slot := 1, trial := true, fell := false, last := false, hashed := true } : BootTry).slot ((checkTiles 1 (checks { slot := 1, trial := true, fell := false, last := false, hashed := true })).1) ({ header := beBytes 2 0x5546 ++ [1, 0] ++ beBytes 4 7 ++ leBytes 4 0 ++ beBytes 2 9, tilesOk := true, sigOk := true } : BootIn) ((checkTiles 1 (checks { slot := 1, trial := true, fell := false, last := false, hashed := true })).2), bootCheck (bootView ({ slot := 1, trial := true, fell := false, last := false, hashed := true } : BootTry).slot ((checkTiles 1 (checks { slot := 1, trial := true, fell := false, last := false, hashed := true })).1) ({ header := beBytes 2 0x5546 ++ [1, 0] ++ beBytes 4 7 ++ leBytes 4 0 ++ beBytes 2 9, tilesOk := true, sigOk := true } : BootIn) ((checkTiles 1 (checks { slot := 1, trial := true, fell := false, last := false, hashed := true })).2)) (if ({ slot := 1, trial := true, fell := false, last := false, hashed := true } : BootTry).trial then some (imageSlot (checks { slot := 1, trial := true, fell := false, last := false, hashed := true }) (checks { slot := 1, trial := true, fell := false, last := false, hashed := true }).upd.confSlot).sfmt else none) ((checkTiles 1 (checks { slot := 1, trial := true, fell := false, last := false, hashed := true })).2), by decide +kernel, by decide +kernel, by decide +kernel, Prod.mk.eta.symm, rfl, rfl, by decide +kernel⟩,
  ⟨checks { slot := 0, trial := false, fell := false, last := false, hashed := false }, fl 0 [], 1, { header := beBytes 2 0x5546 ++ [1, 0] ++ beBytes 4 7 ++ leBytes 4 0 ++ beBytes 2 2, tilesOk := true, sigOk := true }, { slot := 0, trial := false, fell := false, last := false, hashed := false }, (checkTiles 0 (checks { slot := 0, trial := false, fell := false, last := false, hashed := false })).1, (checkTiles 0 (checks { slot := 0, trial := false, fell := false, last := false, hashed := false })).2, bootView ({ slot := 0, trial := false, fell := false, last := false, hashed := false } : BootTry).slot ((checkTiles 0 (checks { slot := 0, trial := false, fell := false, last := false, hashed := false })).1) ({ header := beBytes 2 0x5546 ++ [1, 0] ++ beBytes 4 7 ++ leBytes 4 0 ++ beBytes 2 2, tilesOk := true, sigOk := true } : BootIn) ((checkTiles 0 (checks { slot := 0, trial := false, fell := false, last := false, hashed := false })).2), bootCheck (bootView ({ slot := 0, trial := false, fell := false, last := false, hashed := false } : BootTry).slot ((checkTiles 0 (checks { slot := 0, trial := false, fell := false, last := false, hashed := false })).1) ({ header := beBytes 2 0x5546 ++ [1, 0] ++ beBytes 4 7 ++ leBytes 4 0 ++ beBytes 2 2, tilesOk := true, sigOk := true } : BootIn) ((checkTiles 0 (checks { slot := 0, trial := false, fell := false, last := false, hashed := false })).2)) (if ({ slot := 0, trial := false, fell := false, last := false, hashed := false } : BootTry).trial then some (imageSlot (checks { slot := 0, trial := false, fell := false, last := false, hashed := false }) (checks { slot := 0, trial := false, fell := false, last := false, hashed := false }).upd.confSlot).sfmt else none) ((checkTiles 0 (checks { slot := 0, trial := false, fell := false, last := false, hashed := false })).2), by decide +kernel, by decide +kernel, by decide +kernel, Prod.mk.eta.symm, rfl, rfl, by decide +kernel⟩,
  ⟨checks { slot := 0, trial := false, fell := false, last := true, hashed := false }, fl 0 [], 1, { header := beBytes 2 0x5546 ++ [1, 0] ++ beBytes 4 7 ++ leBytes 4 0 ++ beBytes 2 2, tilesOk := true, sigOk := true }, { slot := 0, trial := false, fell := false, last := true, hashed := false }, (checkTiles 0 (checks { slot := 0, trial := false, fell := false, last := true, hashed := false })).1, (checkTiles 0 (checks { slot := 0, trial := false, fell := false, last := true, hashed := false })).2, bootView ({ slot := 0, trial := false, fell := false, last := true, hashed := false } : BootTry).slot ((checkTiles 0 (checks { slot := 0, trial := false, fell := false, last := true, hashed := false })).1) ({ header := beBytes 2 0x5546 ++ [1, 0] ++ beBytes 4 7 ++ leBytes 4 0 ++ beBytes 2 2, tilesOk := true, sigOk := true } : BootIn) ((checkTiles 0 (checks { slot := 0, trial := false, fell := false, last := true, hashed := false })).2), bootCheck (bootView ({ slot := 0, trial := false, fell := false, last := true, hashed := false } : BootTry).slot ((checkTiles 0 (checks { slot := 0, trial := false, fell := false, last := true, hashed := false })).1) ({ header := beBytes 2 0x5546 ++ [1, 0] ++ beBytes 4 7 ++ leBytes 4 0 ++ beBytes 2 2, tilesOk := true, sigOk := true } : BootIn) ((checkTiles 0 (checks { slot := 0, trial := false, fell := false, last := true, hashed := false })).2)) (if ({ slot := 0, trial := false, fell := false, last := true, hashed := false } : BootTry).trial then some (imageSlot (checks { slot := 0, trial := false, fell := false, last := true, hashed := false }) (checks { slot := 0, trial := false, fell := false, last := true, hashed := false }).upd.confSlot).sfmt else none) ((checkTiles 0 (checks { slot := 0, trial := false, fell := false, last := true, hashed := false })).2), by decide +kernel, by decide +kernel, by decide +kernel, Prod.mk.eta.symm, rfl, rfl, by decide +kernel⟩,
  ⟨checks { slot := 1, trial := true, fell := false, last := false, hashed := false }, fl 0 [], 1, { header := beBytes 2 0x5546 ++ [1, 0] ++ beBytes 4 7 ++ leBytes 4 0 ++ beBytes 2 8, tilesOk := true, sigOk := true }, { slot := 1, trial := true, fell := false, last := false, hashed := false }, (checkTiles 1 (checks { slot := 1, trial := true, fell := false, last := false, hashed := false })).1, (checkTiles 1 (checks { slot := 1, trial := true, fell := false, last := false, hashed := false })).2, bootView ({ slot := 1, trial := true, fell := false, last := false, hashed := false } : BootTry).slot ((checkTiles 1 (checks { slot := 1, trial := true, fell := false, last := false, hashed := false })).1) ({ header := beBytes 2 0x5546 ++ [1, 0] ++ beBytes 4 7 ++ leBytes 4 0 ++ beBytes 2 8, tilesOk := true, sigOk := true } : BootIn) ((checkTiles 1 (checks { slot := 1, trial := true, fell := false, last := false, hashed := false })).2), bootCheck (bootView ({ slot := 1, trial := true, fell := false, last := false, hashed := false } : BootTry).slot ((checkTiles 1 (checks { slot := 1, trial := true, fell := false, last := false, hashed := false })).1) ({ header := beBytes 2 0x5546 ++ [1, 0] ++ beBytes 4 7 ++ leBytes 4 0 ++ beBytes 2 8, tilesOk := true, sigOk := true } : BootIn) ((checkTiles 1 (checks { slot := 1, trial := true, fell := false, last := false, hashed := false })).2)) (if ({ slot := 1, trial := true, fell := false, last := false, hashed := false } : BootTry).trial then some (imageSlot (checks { slot := 1, trial := true, fell := false, last := false, hashed := false }) (checks { slot := 1, trial := true, fell := false, last := false, hashed := false }).upd.confSlot).sfmt else none) ((checkTiles 1 (checks { slot := 1, trial := true, fell := false, last := false, hashed := false })).2), by decide +kernel, by decide +kernel, by decide +kernel, Prod.mk.eta.symm, rfl, rfl, by decide +kernel⟩,
  ⟨wf (fl 0x0D01 (leBytes 4 7 ++ leBytes 2 5121 ++ [3])) (up), fl 0x0D01 (leBytes 4 7 ++ leBytes 2 5121 ++ [3]), 1, by decide +kernel, ⟨rfl, rfl, by decide +kernel, rfl, by decide +kernel⟩, by decide +kernel⟩,
  ⟨wf (fl 0x0D01 (leBytes 4 7 ++ leBytes 2 5120 ++ [3])) ({ (up) with upd := { (up).upd with mark := .pending } }), fl 0x0D01 (leBytes 4 7 ++ leBytes 2 5120 ++ [3]), 1, by decide +kernel, ⟨rfl, rfl, by decide +kernel, rfl, by decide +kernel⟩, by decide +kernel⟩,
  ⟨wf (fl 0x0D02 [] 512) (up), fl 0x0D02 [] 512, 1, by decide +kernel, ⟨rfl, rfl, by decide +kernel, rfl, by decide +kernel⟩, by decide +kernel⟩,
  ⟨wf (fl 0x0D02 (leBytes 2 1) 512) ({ (up) with upd := { (up).upd with armed := true, slot := (up).upd.slot.set 1 { imageId := 7, pieces := 1, bitmap := 1, sources := 2, loaded := true } } }), fl 0x0D02 (leBytes 2 1) 512, 1, { imageId := 7, pieces := 1, bitmap := 1, sources := 2, loaded := true }, by decide +kernel, ⟨rfl, rfl, by decide +kernel, rfl, by decide +kernel⟩, by decide +kernel⟩,
  ⟨wf (fl 0x0D02 (leBytes 4 0 ++ leBytes 4 7) 512) ({ (up) with upd := { (up).upd with armed := true, slot := (up).upd.slot.set 1 { imageId := 7, pieces := 1, bitmap := 1, sources := 2, loaded := true } } }), fl 0x0D02 (leBytes 4 0 ++ leBytes 4 7) 512, 1, { imageId := 7, pieces := 1, bitmap := 1, sources := 2, loaded := true }, by decide +kernel, ⟨rfl, rfl, by decide +kernel, rfl, by decide +kernel⟩, by decide +kernel⟩,
  ⟨wf (fl 0x0D03 []) (up), fl 0x0D03 [], 1, by decide +kernel, ⟨rfl, rfl, by decide +kernel, rfl, by decide +kernel⟩, by decide +kernel⟩,
  ⟨wf (fl 0x0D04 (leBytes 4 8)) ({ (up) with upd := { (up).upd with armed := true, slot := (up).upd.slot.set 1 { imageId := 7, pieces := 1, bitmap := 1, sources := 2, loaded := true } } }), fl 0x0D04 (leBytes 4 8), 1, by decide +kernel, ⟨rfl, rfl, by decide +kernel, rfl, by decide +kernel⟩, by decide +kernel⟩,
  ⟨wf (fl 0x0D05 []) ({ (up) with upd := { (up).upd with recovery := true } }), fl 0x0D05 [], 1, by decide +kernel, by decide +kernel, ⟨rfl, rfl, by decide +kernel, rfl, by decide +kernel⟩⟩,
  ⟨wf (fl 0x0D06 []) ({ (up) with upd := { (up).upd with recovery := true } }), fl 0x0D06 [], 1, by decide +kernel, by decide +kernel, ⟨rfl, rfl, by decide +kernel, rfl, by decide +kernel⟩⟩,
  ⟨wf (fl 0x0D06 []) (up), fl 0x0D06 [], 1, by decide +kernel, ⟨rfl, rfl, by decide +kernel, rfl, by decide +kernel⟩, by decide +kernel⟩⟩

/-- States and operands that meet the hypotheses of MemoryAndPort, clause by clause. -/
theorem wit_MemoryAndPort :
  (∃ (s : State), ∃ (r : Reloc), placed s = true) ∧
  (∃ (s : State), ∃ (m : MemId), ∃ (a : Nat), ∃ (d : W64), ∃ (p : Bool), a < memWords m ∧ sparseWf ({} : Stored) (memTable m s) = true) ∧
  (∃ (s : State), ∃ (m : MemId), ∃ (a : Nat), ∃ w, ∃ (b : Nat), w = wordAt m a s ∧ w.valid = true ∧ w.flips = [b] ∧ b < 73 ∧ a < memWords m ∧ sparseWf ({} : Stored) (memTable m s) = true) ∧
  (∃ (s : State), ∃ (m : MemId), ∃ (a : Nat), ∃ w, ∃ (b : Nat), ∃ (c : Nat), w = wordAt m a s ∧ w.valid = true ∧ w.flips = [b, c] ∧ b < c ∧ c < 73 ∧ a < memWords m ∧ sparseWf ({} : Stored) (memTable m s) = true) ∧
  (∃ (s : State), ∃ (who : Fin 8), ∃ (a : Nat), ∃ (d : W64), ∃ (q : Bool), s.rst.held0 = false ∧ s.mem.waiting = [] ∧ s.mem.busy = none ∧ s.mem.freeze = false) ∧
  (∃ (s : State), ∃ (who : Fin 8), ∃ (a : Nat), ∃ (d : W64), ∃ (q : Bool), s.rst.held0 = false ∧ s.mem.waiting = [] ∧ a < memWords .mram ∧ (s.mem.busy = some { who := who, xfer := .write a [(d, q)] }) ∧ sparseWf ({} : Stored) s.mem.mram = true) ∧
  (∃ (s : State), ∃ (w : PortXfer), ∃ (r : PortReq), s.rst.held0 = false ∧ s.mem.waiting = [] ∧ s.mem.busy = some w ∧ s.mem.freeze = false ∧ w.moved + 1 < xferSize w.xfer ∧ portClass w.who < portClass r.requester ∧ w.who ≠ r.requester) ∧
  (∃ (s : State), ∃ (k : Fin 8), ∃ (v : W32), LinkUp s ∧ k.val < 4) ∧
  (∃ (s : State), ∃ (k : Fin 8), ∃ (v : W32), LinkUp s ∧ 4 ≤ k.val ∧ ((∀ w, s.mem.busy = some w → w.who ≠ k))) ∧
  (∃ (s : State), s.rst.msdUp = true ∧ (s.mem.windowNo + 1) * 230400000 ≤ s.now) ∧
  (∃ (s : State), ∃ f, Front 0x0E01 f s) :=
  ⟨⟨State.reset, { tile := 0, spare := true }, Laws.placed_unmoved _ rfl⟩,
  ⟨up, .metSram, 32767, 5, false, by decide +kernel⟩,
  ⟨{ (up) with mem := { (up).mem with met := [(32767, { data := 5, valid := true, flips := [72] })] } }, .metSram, 32767, wordAt (.metSram : MemId) (32767 : Nat) ({ (up) with mem := { (up).mem with met := [(32767, { data := 5, valid := true, flips := [72] })] } } : State), 72, rfl, by decide +kernel⟩,
  ⟨{ (up) with mem := { (up).mem with met := [(32767, { data := 5, valid := true, flips := [71, 72] })] } }, .metSram, 32767, wordAt (.metSram : MemId) (32767 : Nat) ({ (up) with mem := { (up).mem with met := [(32767, { data := 5, valid := true, flips := [71, 72] })] } } : State), 71, 72, rfl, by decide +kernel⟩,
  ⟨up, 3, 0, 5, false, by decide +kernel⟩,
  ⟨{ (up) with mem := { (up).mem with busy := some { who := 3, xfer := .write 1048575 [(5, false)] } } }, 3, 1048575, 5, false, by decide +kernel⟩,
  ⟨{ (up) with mem := { (up).mem with busy := some { who := 7, xfer := .read 0 64, moved := 62 } } }, { who := 7, xfer := .read 0 64, moved := 62 }, { requester := 3, xfer := .read 0 1 }, by decide +kernel⟩,
  ⟨up, 3, 0, by delta LinkUp; decide +kernel, by decide +kernel⟩,
  ⟨up, 4, 7, by delta LinkUp; decide +kernel, by decide +kernel, fun w h => absurd (show (none : Option PortXfer) = some w from h) (by simp)⟩,
  ⟨at_ 230400000 up, by decide +kernel⟩,
  ⟨wf (fl 0x0E01 []) (up), fl 0x0E01 [], ⟨rfl, rfl, by decide +kernel, rfl, by decide +kernel⟩⟩⟩

/-- States and operands that meet the hypotheses of EveryStepKeepsMemoryCanonical, clause by clause. -/
theorem wit_EveryStepKeepsMemoryCanonical :
  (∃ (s : State), ∃ (t : State), MemoryCanonical s ∧ step s = .next t) :=
  ⟨{ up with pending := [.genGtcLoRead] }, after .genGtcLoRead up, ⟨rfl, rfl, rfl⟩, rfl⟩

/-- States and operands that meet the hypotheses of EveryStepKeepsIdentityAndOrder, clause by clause. -/
theorem wit_EveryStepKeepsIdentityAndOrder :
  (∃ (s : State), ∃ (t : State), step s = .next t) ∧
  (∃ (s : State), ∃ (t : State), ∃ (i : Fin 16), step s = .next t ∧ s.fuse.rstChg.getLsbD i.val = true) :=
  ⟨⟨{ up with pending := [.genGtcLoRead] }, after .genGtcLoRead up, rfl⟩,
  ⟨{ up with pending := [.genGtcLoRead], fuse := { up.fuse with rstChg := 0xFFFF } }, after .genGtcLoRead { up with fuse := { up.fuse with rstChg := 0xFFFF } }, 15, rfl, by decide +kernel⟩⟩

/-- States and operands that meet the hypotheses of EveryCommandCompletes, clause by clause. -/
theorem wit_EveryCommandCompletes :
  (∃ (c : Instr), ∃ (s : State), ((∀ b off v, c = .registerWrite b off v → ∃ r, regAt b off = some r))) :=
  ⟨.registerWrite .bar0 0x0048 0, up, fun b off v h => by cases h; exact ⟨(regAt .bar0 0x0048).get (by decide +kernel), by simp⟩⟩

end Sys2Proof.Tests
end

section
/-! The read of GEN_GTC_LO (R47): the model cuts the two halves out of the tick's number, the register rule out of the 48-bit counter. -/

namespace Sys2Proof.Proofs

open Sys2Proof Sys2Proof.Machine Sys2Proof.Safety Sys2Proof.Laws

/-- The numeric form of a field of a bit vector, in which the model writes the halves of a wide register. -/
theorem ofNat_toNat_div_eq_extractLsb' {w : Nat} (start len : Nat) (x : BitVec w) :
    BitVec.ofNat len (x.toNat / 2 ^ start) = x.extractLsb' start len := by
  rw [← Nat.shiftRight_eq_div_pow]
  rfl

/-- A field that reaches the top of the vector loses no bit above it. -/
theorem toNat_extractLsb'_of_le {w start len : Nat} (h : w ≤ start + len) (x : BitVec w) :
    (x.extractLsb' start len).toNat = x.toNat / 2 ^ start := by
  have fits : x.toNat / 2 ^ start < 2 ^ len :=
    Nat.div_lt_of_lt_mul <| calc
      x.toNat < 2 ^ w := x.isLt
      _ ≤ 2 ^ (start + len) := Nat.pow_le_pow_right (by decide) h
      _ = 2 ^ start * 2 ^ len := Nat.pow_add ..
  rw [BitVec.extractLsb'_toNat, Nat.shiftRight_eq_div_pow, Nat.mod_eq_of_lt fits]

/-- R47, with the link up: the low half of GTC is returned, the high half latched. -/
theorem exec_genGtcLoRead_up {s : State} (up : LinkUp s) :
    exec .genGtcLoRead s = .next { s with
      gen := { s.gen with gtcHi := s.gen.gtc.extractLsb' 32 16 }
      lastRead := s.gen.gtc.extractLsb' 0 32 } := by
  have runs : exec .genGtcLoRead s = execGenGtcLoRead s := rfl
  have low : BitVec.ofNat 32 s.now = s.gen.gtc.extractLsb' 0 32 := rfl
  have high : BitVec.ofNat 16 (s.now / 2 ^ 32) = s.gen.gtc.extractLsb' 32 16 :=
    ofNat_toNat_div_eq_extractLsb' 32 16 s.gen.gtc
  rw [runs, execGenGtcLoRead, hostAcc_up _ up, low, high]

/-- GEN_GTC_HI reads the latch, with no effect of its own. -/
theorem readReg_genGtcHi (s : State) : readReg .genGtcHi s = s.gen.gtcHi.toNat := rfl

/-- Settles O2: the access acts because the link is up, and 16 bits hold all of GTC above bit 31. -/
theorem gtcReadLatchesHighHalf : Obligations.GtcReadLatchesHighHalf := by
  intro s up
  refine ⟨exec_genGtcLoRead_up up, fun t ht => ?_⟩
  rw [exec_genGtcLoRead_up up] at ht
  cases ht
  rw [readReg_genGtcHi]
  exact toNat_extractLsb'_of_le (by decide) s.gen.gtc

end Sys2Proof.Proofs
end

section
/-! Doorbells (R71). An ignored doorbell raises DB_INVALID and posts HIF_ERROR. Where the link does not accept the write of that event, R474
raises WRITE_FAIL on top, and HIF_ERR.RING, the ring of the most recent error (R68), is then that of the EVQ. -/

namespace Sys2Proof.Proofs

open Sys2Proof Sys2Proof.Machine Sys2Proof.Safety Sys2Proof.Laws

/-! ### HIF_ERR.RING after an error -/

@[simp] theorem sendMsix_errRing (v : Fin 32) (s : State) : (sendMsix v s).hif.errRing = s.hif.errRing := by
  unfold sendMsix
  dsimp only
  split <;> rfl

@[simp] theorem writeEvent_errRing (e : Event) (s : State) : (writeEvent e s).hif.errRing = s.hif.errRing := by
  unfold writeEvent
  split
  dsimp only
  split
  · exact sendMsix_errRing _ _
  · rfl

@[simp] theorem placeEvent_errRing (e : Event) (s : State) : (placeEvent e s).hif.errRing = s.hif.errRing := by
  unfold placeEvent
  split
  · exact writeEvent_errRing e s
  · rfl

@[simp] theorem stageEvent_errRing (e : Event) (s : State) : (stageEvent e s).hif.errRing = s.hif.errRing := by
  unfold stageEvent
  split <;> rfl

@[simp] theorem routeEvent_errRing (e : Event) (s : State) : (routeEvent e s).hif.errRing = s.hif.errRing := by
  unfold routeEvent
  split
  · exact placeEvent_errRing e s
  · exact stageEvent_errRing e s

@[simp] theorem setErr_errRing (bit ring : Nat) (s : State) : (setErr bit ring s).hif.errRing = BitVec.ofNat 6 ring := by
  unfold setErr
  dsimp only
  split
  · rfl
  · exact routeEvent_errRing _ _

/-- An event entry waits that the link does not accept, and WRITE_FAIL has not been set for it (R474). -/
def eventUnwritten (s : State) : Bool := !s.hif.evWaiting.isEmpty && !s.hif.linkOk && !s.hif.evq.failed

/-- The error of the event's own write is the later one. -/
theorem raiseErr_errRing_of_eventUnwritten {bit ring : Nat} {s : State} (unwritten : eventUnwritten (setErr bit ring s) = true) :
    (raiseErr bit ring s).hif.errRing = 32 := by
  have writeFail : raiseErr bit ring s = setErr 4 32 _ := if_pos unwritten
  rw [writeFail, setErr_errRing]
  rfl

/-! ### The doorbell of a submission ring -/

theorem writeSqDoorbell_of_size_le {n : Fin 16} {v : Nat} {s : State} (past : 2 ^ (s.hif.sq[n.val]).sizeLog2 ≤ v) :
    writeSqDoorbell n v s = raiseErr 0 n.val s := by
  simp [writeSqDoorbell, past]

theorem exec_sqDoorbellWrite_up {n : Fin 16} {v : W32} {s : State} (up : LinkUp s) :
    exec (.sqDoorbellWrite n v) s = .next (writeSqDoorbell n v.toNat s) := by
  have runs : exec (.sqDoorbellWrite n v) s = execSqDoorbellWrite n v s := rfl
  rw [runs, execSqDoorbellWrite, hostAcc_up _ up]

/-- Every function is ready, RUN is 1, every ring is enabled with 16 entries and is empty, no error stands, and in this tick the link
accepts no write. -/
def refusingLink : State :=
  let s := State.reset
  { s with
    gen := { s.gen with ready := BitVec.allOnes 19 }
    hif := { run := true, sq := Vector.replicate 16 { en := true }, cq := Vector.replicate 16 { en := true },
             evq := { en := true }, linkOk := false } }

theorem refusingLink_up : LinkUp refusingLink := by
  unfold LinkUp
  decide

/-- HIF_ERROR takes the EVQ's next entry, and its write is not accepted. -/
theorem eventUnwritten_dbInvalid_refusingLink : eventUnwritten (setErr 0 (0 : Fin 16).val refusingLink) = true := by
  decide

/-- Refutes O4: in `refusingLink` the index 16 is not below SQ0's size, so DB_INVALID is set for ring 0, but the write of its HIF_ERROR
fails and leaves 32, the EVQ, as the ring of the most recent error. -/
theorem not_doorbells : ¬ Obligations.Doorbells := by
  unfold Obligations.Doorbells
  intro h
  have past : 2 ^ (refusingLink.hif.sq[(0 : Fin 16).val]).sizeLog2 ≤ (16 : W32).toNat := by decide
  obtain ⟨ignored, _⟩ := h.1 refusingLink 0 16 refusingLink_up (by decide)
  obtain ⟨t, ht, _, ring, _⟩ := ignored (.inr (.inl past))
  rw [exec_sqDoorbellWrite_up refusingLink_up, writeSqDoorbell_of_size_le past] at ht
  cases ht
  rw [raiseErr_errRing_of_eventUnwritten eventUnwritten_dbInvalid_refusingLink] at ring
  exact absurd ring (by decide)

end Sys2Proof.Proofs
end

section
set_option Elab.async false -- one theorem after another, which keeps Lean within its memory
/-! What no operation of the part touches beyond its own: the identity fuses, the reset levels that have been changed once, the queue of
commands, and the canonical form of the stored words. `Kept` says so of two states; every operation keeps it. -/

namespace Sys2Proof.Proofs

open Sys2Proof Sys2Proof.Machine Sys2Proof.Safety Sys2Proof.Laws

/-- The fuses of identity are the same, and a reset source whose level has been changed keeps it and its mark (R66, R449). -/
def FuseKept (f g : Fuse) : Prop :=
  g = { f with rstMap := g.rstMap, rstChg := g.rstChg } ∧
  ∀ i : Fin 16, f.rstChg.getLsbD i.val = true → g.rstChg.getLsbD i.val = true ∧ g.rstMap[i.val] = f.rstMap[i.val]

theorem FuseKept.refl (f : Fuse) : FuseKept f f := ⟨rfl, fun _ h => ⟨h, rfl⟩⟩

theorem FuseKept.trans {f g k : Fuse} (h1 : FuseKept f g) (h2 : FuseKept g k) : FuseKept f k := by
  obtain ⟨e1, l1⟩ := h1
  obtain ⟨e2, l2⟩ := h2
  refine ⟨by rw [e2, e1], fun i hi => ?_⟩
  obtain ⟨c1, m1⟩ := l1 i hi
  obtain ⟨c2, m2⟩ := l2 i c1
  exact ⟨c2, m2.trans m1⟩

/-- The stored words of a memory block are in canonical form. -/
def WordsCanonical (m : Mem) : Prop :=
  sparseWf ({} : Stored) m.mram = true ∧ sparseWf ({} : Stored) m.app = true ∧ sparseWf ({} : Stored) m.met = true

/-- From s to t the fuses are kept, the queue stands, and the stored words stay canonical. -/
structure Kept (s t : State) : Prop where
  fuse : FuseKept s.fuse t.fuse
  pending : t.pending = s.pending
  words : WordsCanonical s.mem → WordsCanonical t.mem

/-- The same of a command's answer. -/
def KeptRes (s : State) (r : Res) : Prop := ∀ t, r = .next t → Kept s t

variable {s0 s t : State}

theorem Kept.refl (s : State) : Kept s s := ⟨.refl _, rfl, id⟩

theorem Kept.trans (h : Kept s0 s) (h' : Kept s t) : Kept s0 t :=
  ⟨h.fuse.trans h'.fuse, h'.pending.trans h.pending, fun c => h'.words (h.words c)⟩

/-- Every unit but the fuses, the memory and the queue may change freely. -/
theorem Kept.units {gen rst hif jnl adc nrg watch bill clk prn ppy tam ses saf vlk sct bkb upl nfc tag lcd lmp lsw key upd outbox lastRead free}
    (h : Kept s0 s) :
    Kept s0 ⟨gen, s.fuse, rst, hif, jnl, adc, nrg, watch, bill, clk, prn, ppy, tam, ses, saf, vlk, sct, bkb, upl, nfc, tag, lcd, lmp, lsw,
      key, upd, s.mem, outbox, lastRead, free, s.pending⟩ :=
  ⟨h.fuse, h.pending, h.words⟩

/-- Where the stored words are cleared or changed too, it is their form that is to be shown. -/
theorem Kept.unitsAndMem {gen rst hif jnl adc nrg watch bill clk prn ppy tam ses saf vlk sct bkb upl nfc tag lcd lmp lsw key upd mem outbox
    lastRead free} (hm : WordsCanonical s.mem → WordsCanonical mem) (h : Kept s0 s) :
    Kept s0 ⟨gen, s.fuse, rst, hif, jnl, adc, nrg, watch, bill, clk, prn, ppy, tam, ses, saf, vlk, sct, bkb, upl, nfc, tag, lcd, lmp, lsw,
      key, upd, mem, outbox, lastRead, free, s.pending⟩ :=
  ⟨h.fuse, h.pending, fun c => hm (h.words c)⟩

theorem Kept.of_journalAndEventsOnly (f : JournalAndEventsOnly s t) (h : Kept s0 s) : Kept s0 t := by
  unfold JournalAndEventsOnly at f
  rw [f]
  exact h.units

theorem Kept.of_hostOnly (f : HostOnly s t) : Kept s0 s → Kept s0 t := .of_journalAndEventsOnly (EventsOnly.journal (HostOnly.events f))

theorem Kept.of_eventsOnly (f : EventsOnly s t) : Kept s0 s → Kept s0 t := .of_journalAndEventsOnly (EventsOnly.journal f)

theorem Kept.of_hostAndJournalOnly (f : HostAndJournalOnly s t) : Kept s0 s → Kept s0 t := .of_journalAndEventsOnly (HostAndJournalOnly.events f)

theorem Kept.ite {c : Prop} [Decidable c] {a b : State} (ha : Kept s0 a) (hb : Kept s0 b) : Kept s0 (if c then a else b) := by
  split
  · exact ha
  · exact hb

theorem Kept.ite_snd {α : Type} {c : Prop} [Decidable c] {a b : α × State} (ha : Kept s0 a.2) (hb : Kept s0 b.2) :
    Kept s0 (if c then a else b).2 := by
  split
  · exact ha
  · exact hb

/-- The state of a pair that an equation takes apart. -/
theorem Kept.of_snd {α : Type} {p : α × State} {a : α} (e : p = (a, t)) (h : Kept s0 p.2) : Kept s0 t := by
  rw [e] at h
  exact h

theorem Kept.foldl {α : Type} {f : State → α → State} {l : List α} (hf : ∀ t a, Kept s0 t → Kept s0 (f t a)) (h : Kept s0 s) :
    Kept s0 (l.foldl f s) := by
  induction l generalizing s with
  | nil => exact h
  | cons a l ih => exact ih (hf s a h)

/-- The same of a fold that gathers something beside the state. -/
theorem Kept.foldl_snd {α β : Type} {f : β × State → α → β × State} {l : List α} {b : β × State}
    (hf : ∀ p a, Kept s0 p.2 → Kept s0 (f p a).2) (h : Kept s0 b.2) : Kept s0 (l.foldl f b).2 := by
  induction l generalizing b with
  | nil => exact h
  | cons a l ih => exact ih (hf b a h)

theorem forFin_kept {k : Nat} {f : Fin k → State → State} (hf : ∀ i t, Kept s0 t → Kept s0 (f i t)) (h : Kept s0 s) :
    Kept s0 (forFin k f s) := Kept.foldl (fun t i => hf i t) h

theorem Kept.iterate {f : State → State} {k : Nat} (hf : ∀ t, Kept s0 t → Kept s0 (f t)) (h : Kept s0 s) : Kept s0 (Nat.repeat f k s) := by
  induction k with
  | zero => exact h
  | succ k ih => exact hf _ ih

theorem KeptRes.next (h : Kept s0 t) : KeptRes s0 (.next t) := fun _ e => by cases e; exact h

theorem KeptRes.ite {c : Prop} [Decidable c] {a b : Res} (ha : KeptRes s0 a) (hb : KeptRes s0 b) : KeptRes s0 (if c then a else b) := by
  split
  · exact ha
  · exact hb

/-- The same of a row of a state machine, which may not be taken. -/
def KeptOpt (s : State) (o : Option State) : Prop := ∀ t, o = some t → Kept s t

theorem KeptOpt.some (h : Kept s0 t) : KeptOpt s0 (some t) := fun _ e => by cases e; exact h

theorem KeptOpt.none : KeptOpt s0 none := fun _ e => by cases e

theorem KeptOpt.ite {c : Prop} [Decidable c] {a b : Option State} (ha : KeptOpt s0 a) (hb : KeptOpt s0 b) :
    KeptOpt s0 (if c then a else b) := by
  split
  · exact ha
  · exact hb

/-- A change of the memory block that leaves the stored words alone. -/
theorem modMem_kept {f : Mem → Mem} (h : Kept s0 s)
    (hf : (f s.mem).mram = s.mem.mram ∧ (f s.mem).app = s.mem.app ∧ (f s.mem).met = s.mem.met := by exact ⟨rfl, rfl, rfl⟩) :
    Kept s0 (modMem f s) := by
  refine Kept.unitsAndMem (fun c => ?_) h
  obtain ⟨hr, ha, ht⟩ := hf
  unfold WordsCanonical
  rw [hr, ha, ht]
  exact c

/-- Writing a word keeps the tables canonical (R415). -/
theorem setWord_kept {m a w} (h : Kept s0 s) : Kept s0 (setWord m a w s) := by
  unfold setWord
  refine .ite h ?_
  cases m with
  | mram => exact .unitsAndMem (fun ⟨r, a, t⟩ => ⟨sparseSet_wf _ _ _ _ r, a, t⟩) h
  | appSram => exact .unitsAndMem (fun ⟨r, a, t⟩ => ⟨r, sparseSet_wf _ _ _ _ a, t⟩) h
  | metSram => exact .unitsAndMem (fun ⟨r, a, t⟩ => ⟨r, a, sparseSet_wf _ _ _ _ t⟩) h

end Sys2Proof.Proofs
end

section
set_option Elab.async false -- one theorem after another, which keeps Lean within its memory
/-! Every operation of the part, in the order in which the model defines them, keeps what `Kept` says. Each lemma goes through the
branches of one definition and cites the lemmas of what it calls. -/

namespace Sys2Proof.Proofs

open Sys2Proof Sys2Proof.Machine Sys2Proof.Safety Sys2Proof.Laws

variable {s0 s t : State}

theorem freeBytes_kept {n} (h : Kept s0 s) : Kept s0 (freeBytes n s).2 := by
  unfold freeBytes
  exact .units h

theorem drawNat_kept (h : Kept s0 s) : Kept s0 (drawNat s).2 := by
  unfold drawNat
  exact .units h

theorem drawBool_kept (h : Kept s0 s) : Kept s0 (drawBool s).2 := by
  unfold drawBool
  exact .units h

theorem emit_kept {o} (h : Kept s0 s) : Kept s0 (emit o s) := .of_hostOnly (emit_hostOnly _ _) h

theorem sendMsix_kept {v} (h : Kept s0 s) : Kept s0 (sendMsix v s) := .of_hostOnly (sendMsix_hostOnly _ _) h

theorem produce_kept {code target data gtc} (h : Kept s0 s) : Kept s0 (produce code target data gtc s).2 := by
  unfold produce
  exact .units h

theorem writeEvent_kept {e} (h : Kept s0 s) : Kept s0 (writeEvent e s) := .of_hostOnly (writeEvent_hostOnly _ _) h

theorem raiseErr_kept {bit ring} (h : Kept s0 s) : Kept s0 (raiseErr bit ring s) := .of_hostOnly (raiseErr_hostOnly _ _ _) h

theorem post_kept {code target data} (h : Kept s0 s) : Kept s0 (post code target data s) := .of_hostOnly (post_hostOnly _ _ _ _) h

theorem flushWhere_kept {sel} (h : Kept s0 s) : Kept s0 (flushWhere sel s) := .of_eventsOnly (flushWhere_eventsOnly _ _) h

theorem postSes_kept {code target data} (h : Kept s0 s) : Kept s0 (postSes code target data s) := .of_eventsOnly (postSes_eventsOnly _ _ _ _) h

theorem postSaf_kept {code target data} (h : Kept s0 s) : Kept s0 (postSaf code target data s) := .of_eventsOnly (postSaf_eventsOnly _ _ _ _) h

theorem postMail_kept {code target data} (h : Kept s0 s) : Kept s0 (postMail code target data s) := .of_eventsOnly (postMail_eventsOnly _ _ _ _) h

theorem postLate_kept {code target data} (h : Kept s0 s) : Kept s0 (postLate code target data s) := .of_eventsOnly (postLate_eventsOnly _ _ _ _) h

theorem flushLate_kept {code} (h : Kept s0 s) : Kept s0 (flushLate code s) := by
  unfold flushLate
  exact flushWhere_kept h

theorem holdDone_kept {seq st data} (h : Kept s0 s) : Kept s0 (holdDone seq st data s) := by
  unfold holdDone
  exact .units h

theorem inSafety_kept {act : State → State} (hact : ∀ t, Kept s0 t → Kept s0 (act t)) (h : Kept s0 s) : KeptRes s0 (inSafety act s) := by
  unfold inSafety
  exact .next (.ite h (hact _ h))

theorem drainEvents_kept (h : Kept s0 s) : Kept s0 (drainEvents s) := .of_hostOnly (drainEvents_hostOnly _) h

theorem holdEvent_kept {code data gtc} (h : Kept s0 s) : Kept s0 (holdEvent code data gtc s) := by
  unfold holdEvent
  split
  rename_i s1 e1
  have h1 : Kept s0 s1 := .of_snd e1 (produce_kept h)
  exact .units h1

theorem unwaitEvents_kept (h : Kept s0 s) : Kept s0 (unwaitEvents s) := by
  unfold unwaitEvents
  exact .units h

theorem putCompletion_kept {cq c} (h : Kept s0 s) : Kept s0 (putCompletion cq c s) := .of_hostOnly (putCompletion_hostOnly _ _ _) h

theorem openEntry_kept {opcode tag ring fence idx whole} (h : Kept s0 s) : Kept s0 (openEntry opcode tag ring fence idx whole s) := by
  unfold openEntry
  exact .units h

theorem complete_kept {f st detail data buf} (h : Kept s0 s) :
    Kept s0 (complete f st detail data buf s) := .of_hostAndJournalOnly (complete_frame _ _ _ _ _ _) h

theorem completeSt_kept {f st} (h : Kept s0 s) :
    Kept s0 (completeSt f st s) := .of_hostAndJournalOnly (completeSt_frame _ _ _) h

theorem completeSeq_kept {seq st detail data buf} (h : Kept s0 s) :
    Kept s0 (completeSeq seq st detail data buf s) := .of_hostAndJournalOnly (completeSeq_frame _ _ _ _ _ _) h

theorem keepRunning_kept {f} (h : Kept s0 s) : Kept s0 (keepRunning f s) := .of_hostOnly (keepRunning_hostOnly _ _) h

theorem dispatch_kept {opcode} {act : Flight → State → State} (hact : ∀ a0 t, Kept s0 t → Kept s0 (act a0 t)) (h : Kept s0 s) : Kept s0 (dispatch opcode act s) := by
  unfold dispatch
  split
  · split
    · exact .ite (hact _ _ h) h
    · exact h
  · exact h

theorem requestLong_kept {kind steps req slots} (h : Kept s0 s) : Kept s0 (requestLong kind steps req slots s) := by
  unfold requestLong
  exact .units h

theorem askLong_kept {f kind steps req slots} (h : Kept s0 s) : Kept s0 (askLong f kind steps req slots s) := by
  unfold askLong
  exact .ite (completeSt_kept h) (keepRunning_kept (requestLong_kept h))

theorem dropReq_kept {hit} (h : Kept s0 s) : Kept s0 (dropReq hit s) := by
  unfold dropReq
  exact .units h

theorem dropLong_kept {seq} (h : Kept s0 s) : Kept s0 (dropLong seq s) := by
  unfold dropLong
  exact dropReq_kept h

theorem abortFlight_kept {f} (h : Kept s0 s) : Kept s0 (abortFlight f s) := by
  unfold abortFlight
  exact completeSt_kept (dropLong_kept h)

theorem abortClasses_kept {hit} (h : Kept s0 s) : Kept s0 (abortClasses hit s) := by
  unfold abortClasses
  exact .foldl (fun _ _ h1 => abortFlight_kept h1) h

theorem readyEvent_kept {bit v} (h : Kept s0 s) : Kept s0 (readyEvent bit v s) := by
  unfold readyEvent
  exact .ite (post_kept h) h

theorem setReady_kept {bit v} (h : Kept s0 s) : Kept s0 (setReady bit v s) := by
  unfold setReady
  exact .ite h (readyEvent_kept (.units h))

theorem loseReady_kept {bits} (h : Kept s0 s) : Kept s0 (loseReady bits s) := by
  unfold loseReady
  exact abortClasses_kept (.foldl (fun _ _ h1 => setReady_kept h1) h)

theorem setReplace_kept {cause} (h : Kept s0 s) : Kept s0 (setReplace cause s) := by
  unfold setReplace
  exact .ite h (post_kept (.units h))

theorem listTouch_kept {idx} (h : Kept s0 s) : Kept s0 (listTouch idx s) := by
  unfold listTouch
  exact .units h

theorem listLookup_kept {ktype klen key} (h : Kept s0 s) : Kept s0 (listLookup ktype klen key s).2 := by
  unfold listLookup
  split
  · exact listTouch_kept h
  · exact h

theorem listPut_kept {idx e} (h : Kept s0 s) : Kept s0 (listPut idx e s) := by
  unfold listPut
  exact listTouch_kept (.units h)

theorem listInsert_kept {e} (h : Kept s0 s) : Kept s0 (listInsert e s).2 := by
  unfold listInsert
  split
  · exact listPut_kept h
  · split
    · split
      rename_i s1 e1
      have h1 : Kept s0 s1 := .of_snd e1 (drawNat_kept h)
      split
      · exact listPut_kept h1
      · exact h1
    · split
      · exact listPut_kept h
      · exact h

theorem listRemove_kept {idx} (h : Kept s0 s) : Kept s0 (listRemove idx s) := by
  unfold listRemove
  exact .units h

theorem listRemoveIf_kept {p} (h : Kept s0 s) : Kept s0 (listRemoveIf p s).2 := by
  unfold listRemoveIf
  exact .foldl (fun _ _ h1 => listRemove_kept h1) h

theorem learnContract_kept {hash limit} (h : Kept s0 s) : Kept s0 (learnContract hash limit s) := by
  unfold learnContract
  split
  · extract_lets key1
    split
    · exact listTouch_kept h
    · exact listInsert_kept h
  · exact h

theorem listExpire_kept (h : Kept s0 s) : Kept s0 (listExpire s) := by
  unfold listExpire
  exact .ite h (listRemoveIf_kept h)

theorem execAuthListExpiry_kept (h : Kept s0 s) : KeptRes s0 (execAuthListExpiry s) := by
  unfold execAuthListExpiry
  exact .next (.ite (listExpire_kept h) h)

theorem execListRecencySave_kept (h : Kept s0 s) : KeptRes s0 (execListRecencySave s) := by
  unfold execListRecencySave
  exact .next (.ite (.units h) h)

theorem listReload_kept (h : Kept s0 s) : Kept s0 (listReload s) := by
  unfold listReload
  exact .units h

theorem insertAll_kept {es : List ListEntry} {a v} (h : Kept s0 s) : Kept s0 (insertAll es a v s).2 := by
  induction es generalizing a v s with
  | nil => exact h
  | cons e es ih =>
    have h1 := listInsert_kept (e := e) h
    unfold insertAll
    split
    · rename_i s2 e2
      exact ih (.of_snd e2 h1)
    · rename_i s2 e2
      exact .of_snd e2 h1

theorem nfcListWrite_kept {f} (h : Kept s0 s) : Kept s0 (nfcListWrite f s) := by
  unfold nfcListWrite
  extract_lets n1
  split
  · exact completeSt_kept h
  · split
    · exact completeSt_kept h
    · split
      rename_i s2 e2
      have h2 : Kept s0 s2 := .of_snd e2 (insertAll_kept h)
      exact complete_kept h2

theorem runNfcListWrite_kept (h : Kept s0 s) : KeptRes s0 (runNfcListWrite s) := by
  unfold runNfcListWrite
  exact .next (dispatch_kept (fun _ _ h1 => nfcListWrite_kept h1) h)

theorem nfcListDelete_kept {f} (h : Kept s0 s) : Kept s0 (nfcListDelete f s) := by
  unfold nfcListDelete
  split
  · exact completeSt_kept h
  · split
    · exact complete_kept (listRemove_kept h)
    · exact complete_kept h

theorem runNfcListDelete_kept (h : Kept s0 s) : KeptRes s0 (runNfcListDelete s) := by
  unfold runNfcListDelete
  exact .next (dispatch_kept (fun _ _ h1 => nfcListDelete_kept h1) h)

theorem nfcListClear_kept {f} (h : Kept s0 s) : Kept s0 (nfcListClear f s) := by
  unfold nfcListClear
  extract_lets m1
  split
  · exact completeSt_kept h
  · split
    rename_i s2 e2
    have h2 : Kept s0 s2 := .of_snd e2 (listRemoveIf_kept h)
    exact complete_kept h2

theorem runNfcListClear_kept (h : Kept s0 s) : KeptRes s0 (runNfcListClear s) := by
  unfold runNfcListClear
  exact .next (dispatch_kept (fun _ _ h1 => nfcListClear_kept h1) h)

theorem nfcListLookup_kept {f} (h : Kept s0 s) : Kept s0 (nfcListLookup f s) := by
  unfold nfcListLookup
  split
  · exact completeSt_kept h
  · split
    rename_i s1 e1
    have h1 : Kept s0 s1 := .of_snd e1 (listLookup_kept h)
    exact complete_kept h1

theorem runNfcListLookup_kept (h : Kept s0 s) : KeptRes s0 (runNfcListLookup s) := by
  unfold runNfcListLookup
  exact .next (dispatch_kept (fun _ _ h1 => nfcListLookup_kept h1) h)

theorem nfcListRead_kept {f} (h : Kept s0 s) : Kept s0 (nfcListRead f s) := by
  unfold nfcListRead
  exact .ite (completeSt_kept h) (complete_kept h)

theorem runNfcListRead_kept (h : Kept s0 s) : KeptRes s0 (runNfcListRead s) := by
  unfold runNfcListRead
  exact .next (dispatch_kept (fun _ _ h1 => nfcListRead_kept h1) h)

theorem mtrReject_kept (h : Kept s0 s) : Kept s0 (mtrReject s) := by
  unfold mtrReject
  exact .units h

theorem writeChcfg_kept {k v} (h : Kept s0 s) : Kept s0 (writeChcfg k v s) := by
  unfold writeChcfg
  exact .ite (mtrReject_kept h) (.units h)

theorem execMtrChcfgWrite_kept {k v} (h : Kept s0 s) : KeptRes s0 (execMtrChcfgWrite k v s) := by
  unfold execMtrChcfgWrite
  exact .next (.ite (writeChcfg_kept h) h)

theorem writeGcfg_kept {v} (h : Kept s0 s) : Kept s0 (writeGcfg v s) := by
  unfold writeGcfg
  exact .ite (mtrReject_kept h) (.units h)

theorem execMtrGcfgWrite_kept {v} (h : Kept s0 s) : KeptRes s0 (execMtrGcfgWrite v s) := by
  unfold execMtrGcfgWrite
  exact .next (.ite (writeGcfg_kept h) h)

theorem execMtrSealSet_kept (h : Kept s0 s) : KeptRes s0 (execMtrSealSet s) := by
  unfold execMtrSealSet
  exact .next (.ite (.units h) h)

theorem execSettlingEnd_kept {g} (h : Kept s0 s) : KeptRes s0 (execSettlingEnd g s) := by
  unfold execSettlingEnd
  refine .next ?_
  split
  · exact .ite (.units h) h
  · exact h

theorem startSettling_kept {g} (h : Kept s0 s) : Kept s0 (startSettling g s) := by
  unfold startSettling
  exact .units h

theorem applyChannelCfg_kept (h : Kept s0 s) : Kept s0 (applyChannelCfg s) := by
  unfold applyChannelCfg
  extract_lets +onlyGivenNames changed1 s2 s3 cap4
  have h2 : Kept s0 s2 := .foldl (fun _ _ h5 => startSettling_kept (.units h5)) h
  have hap4 : Kept s0 cap4 := by
    unfold cap4
    split
    · exact h2
    · exact .foldl (fun _ _ h6 => .ite (startSettling_kept h6) h6) (.units h2)
  exact .units hap4

theorem execMtrOverload_kept {k neg} (h : Kept s0 s) : KeptRes s0 (execMtrOverload k neg s) := by
  unfold execMtrOverload
  exact .next (.ite (.units h) h)

theorem postOverloads_kept {before} (h : Kept s0 s) : Kept s0 (postOverloads before s) := by
  unfold postOverloads
  exact .foldl (fun _ _ h1 => .ite (post_kept h1) h1) h

theorem tickSamples_kept {mods} (h : Kept s0 s) : Kept s0 (tickSamples mods s) := by
  unfold tickSamples
  extract_lets +onlyGivenNames before2 s3 first4
  have h3 : Kept s0 s3 := by
    unfold s3
    refine .foldl ?_ h
    intro t8 x9 h10
    split
    exact .units h10
  exact postOverloads_kept (.units h3)

theorem benchSecond_kept (h : Kept s0 s) : Kept s0 (benchSecond s) := by
  unfold benchSecond
  exact .ite (.units h) h

theorem benchStep_kept {sums} (h : Kept s0 s) : Kept s0 (benchStep sums s) := by
  unfold benchStep
  extract_lets +onlyGivenNames mean1 temp2 e3 diff4 absE5 bad6 filt7 filt_8 lo9 hi10 out11 target12 step13 g14 g_15
  split
  split
  exact .ite (setReplace_kept (.units h)) (.units h)

theorem runBenchmarkCalibration_kept (h : Kept s0 s) : KeptRes s0 (runBenchmarkCalibration s) := by
  unfold runBenchmarkCalibration
  refine .next ?_
  split
  · exact .ite (benchStep_kept h) h
  · exact h

theorem execBenchGainSave_kept (h : Kept s0 s) : KeptRes s0 (execBenchGainSave s) := by
  unfold execBenchGainSave
  exact .next (.ite (.units h) h)

theorem execMtrTmpFirstWrite_kept (h : Kept s0 s) : KeptRes s0 (execMtrTmpFirstWrite s) := by
  unfold execMtrTmpFirstWrite
  refine .next ?_
  split
  · exact .ite (.units h) h
  · exact h

theorem applyGain_kept (h : Kept s0 s) : Kept s0 (applyGain s) := by
  unfold applyGain
  split
  · exact .units h
  · exact h

theorem mtrRawCapture_kept {f} (h : Kept s0 s) : Kept s0 (mtrRawCapture f s) := by
  unfold mtrRawCapture
  exact .ite (completeSt_kept h) (.ite (completeSt_kept h) (keepRunning_kept (.units h)))

theorem runMtrRawCapture_kept (h : Kept s0 s) : KeptRes s0 (runMtrRawCapture s) := by
  unfold runMtrRawCapture
  exact .next (dispatch_kept (fun _ _ h1 => mtrRawCapture_kept h1) h)

theorem tickCapture_kept {corrected} (h : Kept s0 s) : Kept s0 (tickCapture corrected s) := by
  unfold tickCapture
  split
  · exact h
  · exact .ite h (.units h)

theorem rawDone_kept (h : Kept s0 s) : Kept s0 (rawDone s) := by
  unfold rawDone
  split
  · exact h
  · exact .ite (completeSeq_kept (.units h)) h

theorem runRawCaptureDone_kept (h : Kept s0 s) : KeptRes s0 (runRawCaptureDone s) := by
  unfold runRawCaptureDone
  exact .next (rawDone_kept h)

theorem mtrRawAbort_kept {f} (h : Kept s0 s) : Kept s0 (mtrRawAbort f s) := by
  unfold mtrRawAbort
  split
  · exact completeSt_kept (.units h)
  · exact completeSt_kept h

theorem runMtrRawAbort_kept (h : Kept s0 s) : KeptRes s0 (runMtrRawAbort s) := by
  unfold runMtrRawAbort
  exact .next (dispatch_kept (fun _ _ h1 => mtrRawAbort_kept h1) h)

theorem mtrUnseal_kept {f} (h : Kept s0 s) : Kept s0 (mtrUnseal f s) := by
  unfold mtrUnseal
  extract_lets slot1
  split
  · exact completeSt_kept h
  · split
    · exact completeSt_kept h
    · split
      · exact completeSt_kept h
      · split
        · exact completeSt_kept h
        · exact askLong_kept h

theorem runMtrUnseal_kept (h : Kept s0 s) : KeptRes s0 (runMtrUnseal s) := by
  unfold runMtrUnseal
  exact .next (dispatch_kept (fun _ _ h1 => mtrUnseal_kept h1) h)

theorem unsealResult_kept {f} (h : Kept s0 s) : Kept s0 (unsealResult f s) := by
  unfold unsealResult
  exact .ite (complete_kept (.units h)) (completeSt_kept h)

theorem tickCorrect_kept (h : Kept s0 s) : Kept s0 (tickCorrect s) := by
  unfold tickCorrect
  exact .units h

theorem applyEnergyCfg_kept (h : Kept s0 s) : Kept s0 (applyEnergyCfg s) := by
  unfold applyEnergyCfg
  exact .units (.units h)

theorem mtrCorrWrite_kept {f} (h : Kept s0 s) : Kept s0 (mtrCorrWrite f s) := by
  unfold mtrCorrWrite
  extract_lets +onlyGivenNames n1
  split
  · exact completeSt_kept h
  · extract_lets +onlyGivenNames recs2
    split
    · exact complete_kept h
    · exact complete_kept (.units h)

theorem runMtrCorrWrite_kept (h : Kept s0 s) : KeptRes s0 (runMtrCorrWrite s) := by
  unfold runMtrCorrWrite
  exact .next (dispatch_kept (fun _ _ h1 => mtrCorrWrite_kept h1) h)

theorem mtrCorrRead_kept {f} (h : Kept s0 s) : Kept s0 (mtrCorrRead f s) := by
  unfold mtrCorrRead
  extract_lets k1
  split
  · exact .ite (complete_kept h) (completeSt_kept h)
  · exact completeSt_kept h

theorem runMtrCorrRead_kept (h : Kept s0 s) : KeptRes s0 (runMtrCorrRead s) := by
  unfold runMtrCorrRead
  exact .next (dispatch_kept (fun _ _ h1 => mtrCorrRead_kept h1) h)

theorem writePhmap_kept {n v} (h : Kept s0 s) : Kept s0 (writePhmap n v s) := by
  unfold writePhmap
  split
  · exact .ite (mtrReject_kept h) (.units h)
  · exact mtrReject_kept h

theorem execMtrPhmapWrite_kept {n v} (h : Kept s0 s) : KeptRes s0 (execMtrPhmapWrite n v s) := by
  unfold execMtrPhmapWrite
  exact .next (.ite (writePhmap_kept h) h)

theorem writeCreep_kept {v} (h : Kept s0 s) : Kept s0 (writeCreep v s) := by
  unfold writeCreep
  exact .ite (mtrReject_kept h) (.units h)

theorem writePulse_kept {n v} (h : Kept s0 s) : Kept s0 (writePulse n v s) := by
  unfold writePulse
  exact .ite (mtrReject_kept h) (.units h)

theorem execMtrPulseWrite_kept {n v} (h : Kept s0 s) : KeptRes s0 (execMtrPulseWrite n v s) := by
  unfold execMtrPulseWrite
  exact .next (.ite (writePulse_kept h) h)

theorem execPulseEnd_kept {n} (h : Kept s0 s) : KeptRes s0 (execPulseEnd n s) := by
  unfold execPulseEnd
  exact .next (.ite (.units h) h)

theorem cycleTick_kept {g tick} (h : Kept s0 s) : Kept s0 (cycleTick g tick s) := by
  unfold cycleTick
  exact .units h

theorem quantityClose_kept (h : Kept s0 s) : Kept s0 (quantityClose s) := by
  unfold quantityClose
  split
  · exact h
  · exact .ite (.units (.foldl (fun _ _ h1 => cycleTick_kept h1) h)) h

theorem pfPhi_kept {p q s2 i2} (h : Kept s0 s) : Kept s0 (pfPhi p q s2 i2 s).2 := by
  unfold pfPhi
  split
  rename_i s1 e1
  have h1 : Kept s0 s1 := .of_snd e1 (.ite_snd (drawNat_kept h) h)
  exact .ite_snd h1 (.ite_snd (drawNat_kept h1) h1)

theorem angleOrFree_kept {d p nominal} (h : Kept s0 s) : Kept s0 (angleOrFree d p nominal s).2 := by
  unfold angleOrFree
  split
  · split
    · exact h
    · split
      rename_i s1 e1
      have h1 : Kept s0 s1 := .of_snd e1 (drawNat_kept h)
      exact h1
  · split
    rename_i s2 e2
    have h2 : Kept s0 s2 := .of_snd e2 (drawNat_kept h)
    exact h2

theorem quantOf_kept {g d} (h : Kept s0 s) : Kept s0 (quantOf g d s).2 := by
  unfold quantOf
  extract_lets +onlyGivenNames m1 base2
  split
  · exact h
  · extract_lets vp3 nominal4
    split
    rename_i s5 e5
    have h5 : Kept s0 s5 := .of_snd e5 (pfPhi_kept h)
    split
    rename_i s6 e6
    have h6 : Kept s0 s6 := .of_snd e6 (pfPhi_kept h5)
    split
    rename_i s7 e7
    have h7 : Kept s0 s7 := .of_snd e7 (pfPhi_kept h6)
    split
    rename_i s8 e8
    have h8 : Kept s0 s8 := .of_snd e8 (angleOrFree_kept h7)
    split
    rename_i s9 e9
    have h9 : Kept s0 s9 := .of_snd e9 (angleOrFree_kept h8)
    exact h9

theorem checkSequence_kept {g q} (h : Kept s0 s) : Kept s0 (checkSequence g q s) := by
  unfold checkSequence
  extract_lets +onlyGivenNames c1 put2
  split
  · exact h
  · split
    · exact h
    · exact .ite (post_kept (.units h)) (.ite (post_kept (.units h)) (.units h))

theorem checkNeutral_kept {n m} (h : Kept s0 s) : Kept s0 (checkNeutral n m s) := by
  unfold checkNeutral
  exact .ite h (.ite (post_kept (.units h)) (.ite (post_kept (.units h)) (.units h)))

theorem interpolateGroup_kept {g m} (h : Kept s0 s) : Kept s0 (interpolateGroup g m s) := by
  unfold interpolateGroup
  extract_lets +onlyGivenNames one s1
  have hone : ∀ t k i, Kept s0 t → Kept s0 (one t k i) := by
    intro t k i ht
    show Kept s0 (dite _ _ _)
    split
    · exact .units (.units ht)
    · exact ht
  have h1 : Kept s0 s1 := .foldl (fun t _ => hone t _ _) h
  split
  · exact hone _ _ _ h1
  · exact h1

theorem formCycle_kept {g} (h : Kept s0 s) : Kept s0 (formCycle g s) := by
  unfold formCycle
  split
  · exact h
  · extract_lets m1
    split
    rename_i s2 e2
    have h2 : Kept s0 s2 := .of_snd e2 (quantOf_kept h)
    extract_lets +onlyGivenNames c3 c_4 s5 s6
    have h6 : Kept s0 s6 := interpolateGroup_kept (.units h2)
    extract_lets s7
    have h7 : Kept s0 s7 := .ite h6 (checkSequence_kept h6)
    split
    · exact .ite h7 (checkNeutral_kept h7)
    · exact h7

theorem mtrQuantRead_kept {f} (h : Kept s0 s) : Kept s0 (mtrQuantRead f s) := by
  unfold mtrQuantRead
  extract_lets g1
  split
  · exact complete_kept h
  · exact complete_kept h

theorem runMtrQuantRead_kept (h : Kept s0 s) : KeptRes s0 (runMtrQuantRead s) := by
  unfold runMtrQuantRead
  exact .next (dispatch_kept (fun _ _ h1 => mtrQuantRead_kept h1) h)

theorem mtrAccRead_kept {f} (h : Kept s0 s) : Kept s0 (mtrAccRead f s) := by
  unfold mtrAccRead
  exact complete_kept h

theorem runMtrAccRead_kept (h : Kept s0 s) : KeptRes s0 (runMtrAccRead s) := by
  unfold runMtrAccRead
  exact .next (dispatch_kept (fun _ _ h1 => mtrAccRead_kept h1) h)

theorem armWatch_kept (h : Kept s0 s) : Kept s0 (armWatch s) := by
  unfold armWatch
  exact .units h

theorem execWatchStart_kept (h : Kept s0 s) : KeptRes s0 (execWatchStart s) := by
  unfold execWatchStart
  refine .next ?_
  split
  · exact .ite (.units h) h
  · exact h

theorem execWatchWindowEnd_kept {mods} (h : Kept s0 s) : KeptRes s0 (execWatchWindowEnd mods s) := by
  unfold execWatchWindowEnd
  refine .next ?_
  split
  · exact .ite (.units h) h
  · exact h

theorem endWatch_kept {kind} (h : Kept s0 s) : Kept s0 (endWatch kind s) := by
  unfold endWatch
  exact .units h

theorem execWatchHoursExpiry_kept (h : Kept s0 s) : KeptRes s0 (execWatchHoursExpiry s) := by
  unfold execWatchHoursExpiry
  refine .next ?_
  split
  · exact .ite (.units (endWatch_kept h)) h
  · exact h

theorem execWatchCellLow_kept (h : Kept s0 s) : KeptRes s0 (execWatchCellLow s) := by
  unfold execWatchCellLow
  exact .next (.ite (.units (endWatch_kept h)) h)

theorem stopWatch_kept (h : Kept s0 s) : Kept s0 (stopWatch s) := by
  unfold stopWatch
  exact .units (.ite (endWatch_kept h) h)

theorem copyWatchLog_kept (h : Kept s0 s) : Kept s0 (copyWatchLog s) := by
  unfold copyWatchLog
  exact .foldl (fun _ _ h1 => post_kept h1) (.ite (post_kept (.units h)) (.units h))

theorem mtrWatchRead_kept {f} (h : Kept s0 s) : Kept s0 (mtrWatchRead f s) := by
  unfold mtrWatchRead
  exact .ite (completeSt_kept h) (complete_kept h)

theorem runMtrWatchRead_kept (h : Kept s0 s) : KeptRes s0 (runMtrWatchRead s) := by
  unfold runMtrWatchRead
  exact .next (dispatch_kept (fun _ _ h1 => mtrWatchRead_kept h1) h)

theorem modBill_kept {n f} (h : Kept s0 s) : Kept s0 (modBill n f s) := by
  unfold modBill
  exact .units h

theorem setCounters_kept {n c} (h : Kept s0 s) : Kept s0 (setCounters n c s) := by
  unfold setCounters
  exact .units h

theorem commitBill_kept {n} (h : Kept s0 s) : Kept s0 (commitBill n s) := by
  unfold commitBill
  exact .units h

theorem commitDirty_kept (h : Kept s0 s) : Kept s0 (commitDirty s) := by
  unfold commitDirty
  exact forFin_kept (fun _ _ h1 => .ite (commitBill_kept h1) h1) h

theorem freezeBill_kept {n} (h : Kept s0 s) : Kept s0 (freezeBill n s) := by
  unfold freezeBill
  exact post_kept (setReplace_kept (.units (setCounters_kept h)))

theorem restoreQuarantine_kept {n} (h : Kept s0 s) : Kept s0 (restoreQuarantine n s) := by
  unfold restoreQuarantine
  extract_lets +onlyGivenNames b1
  split
  split
  exact .units (setCounters_kept h)

theorem reconcileBill_kept {n} (h : Kept s0 s) : Kept s0 (reconcileBill n s) := by
  unfold reconcileBill
  extract_lets b1
  split
  · exact restoreQuarantine_kept h
  · split
    · exact freezeBill_kept h
    · exact .ite (post_kept (.units (setCounters_kept h))) (.units (setCounters_kept h))

theorem restoreIntervals_kept (h : Kept s0 s) : Kept s0 (restoreIntervals s) := by
  unfold restoreIntervals
  extract_lets live
  generalize live = live
  cases live with
  | nil => exact h
  | cons => exact .units h

theorem scrubBill_kept {n j} (h : Kept s0 s) : Kept s0 (scrubBill n j s) := by
  unfold scrubBill
  exact .ite (.units h) (.ite (post_kept (.units h)) h)

theorem openPart_kept {flags n} (h : Kept s0 s) : Kept s0 (openPart flags n s) := by
  unfold openPart
  exact modBill_kept h

theorem openRetro_kept {flags n} (h : Kept s0 s) : Kept s0 (openRetro flags n s) := by
  unfold openRetro
  exact modBill_kept h

theorem closePart_kept {flags closesIvl n} (h : Kept s0 s) : Kept s0 (closePart flags closesIvl n s) := by
  unfold closePart
  extract_lets b1
  split
  · exact h
  · exact post_kept (modBill_kept h)

theorem everyOutlet_kept {f : Outlet8 → State → State} (hf : ∀ a0 t, Kept s0 t → Kept s0 (f a0 t)) (h : Kept s0 s) : Kept s0 (everyOutlet f s) := by
  unfold everyOutlet
  exact forFin_kept (fun _ _ h1 => hf _ _ h1) h

theorem tickParts_kept (h : Kept s0 s) : Kept s0 (tickParts s) := by
  unfold tickParts
  exact everyOutlet_kept (fun _ _ h1 => modBill_kept h1) h

theorem intervalBoundary_kept (h : Kept s0 s) : Kept s0 (intervalBoundary s) := by
  unfold intervalBoundary
  exact .ite (everyOutlet_kept (fun _ _ h1 => openPart_kept h1) (.units (everyOutlet_kept (fun _ _ h2 => closePart_kept h2) (.units h))))
      h

theorem runIntervalBoundary_kept (h : Kept s0 s) : KeptRes s0 (runIntervalBoundary s) := by
  unfold runIntervalBoundary
  exact .next (intervalBoundary_kept h)

theorem evalRate_kept {cause} (h : Kept s0 s) : Kept s0 (evalRate cause s) := by
  unfold evalRate
  exact .ite (everyOutlet_kept (fun _ _ h1 => .ite h1 (modBill_kept h1)) (.units h)) (post_kept (everyOutlet_kept (fun _ _ h2 => .ite h2
      (modBill_kept h2)) (.units h)))

theorem minuteTariff_kept (h : Kept s0 s) : Kept s0 (minuteTariff s) := by
  unfold minuteTariff
  split
  · exact h
  · split
    · exact .ite (evalRate_kept (.units h)) (evalRate_kept h)
    · exact evalRate_kept h

theorem secondFlags_kept (h : Kept s0 s) : Kept s0 (secondFlags s) := by
  unfold secondFlags
  exact .units h

theorem execRtcSecondEdge_kept (h : Kept s0 s) : KeptRes s0 (execRtcSecondEdge s) := by
  unfold execRtcSecondEdge
  exact .next (secondFlags_kept (.units h))

theorem execRtcTempCorrection_kept {temp} (h : Kept s0 s) : KeptRes s0 (execRtcTempCorrection temp s) := by
  unfold execRtcTempCorrection
  exact .next (.units h)

theorem postClock_kept {cause delta} (h : Kept s0 s) : Kept s0 (postClock cause delta s) := by
  unfold postClock
  exact post_kept h

theorem runSlewDone_kept (h : Kept s0 s) : KeptRes s0 (runSlewDone s) := by
  unfold runSlewDone
  exact .next (.ite (postClock_kept (.units h)) h)

theorem closeRetro_kept {flags} (h : Kept s0 s) : Kept s0 (closeRetro flags s) := by
  unfold closeRetro
  exact postClock_kept (.units (everyOutlet_kept (fun _ _ h1 => closePart_kept h1) h))

theorem closeEmpty_kept {n} (h : Kept s0 s) : Kept s0 (closeEmpty n s) := by
  unfold closeEmpty
  exact closePart_kept (openPart_kept h)

theorem runRetroClose_kept (h : Kept s0 s) : KeptRes s0 (runRetroClose s) := by
  unfold runRetroClose
  exact .next (.ite (evalRate_kept (everyOutlet_kept (fun _ _ h1 => openPart_kept h1) (closeRetro_kept h))) h)

theorem openAfterJump_kept (h : Kept s0 s) : Kept s0 (openAfterJump s) := by
  unfold openAfterJump
  exact everyOutlet_kept (fun _ _ h1 => openPart_kept h1) (.units h)

theorem moveClock_kept {delta} (h : Kept s0 s) : Kept s0 (moveClock delta s) := by
  unfold moveClock
  extract_lets +onlyGivenNames new1 start2 stop3 sec4 sync5 move6 set7 s8
  have h8 : Kept s0 s8 := postClock_kept h
  split
  · exact .ite (.units (.units h8)) (evalRate_kept (.ite (everyOutlet_kept (fun _ _ h16 => openPart_kept h16) (.units (.units
      (closeRetro_kept h8)))) (openAfterJump_kept (.units (everyOutlet_kept (fun _ _ h17 => closeEmpty_kept h17) (.units (closeRetro_kept
      h8)))))))
  · split
    · exact postClock_kept (everyOutlet_kept (fun _ _ h23 => openRetro_kept h23) (.units (.units (.units (everyOutlet_kept (fun _ _ h24
        => closePart_kept h24) h8)))))
    · split
      · exact evalRate_kept (everyOutlet_kept (fun _ _ h28 => openPart_kept h28) (.units (.units (everyOutlet_kept (fun _ _ h29 =>
          closePart_kept h29) h8))))
      · exact evalRate_kept (openAfterJump_kept (.units (.units (everyOutlet_kept (fun _ _ h30 => closePart_kept h30) h8))))

theorem clockStep_kept {p} (h : Kept s0 s) : Kept s0 (clockStep p s) := by
  unfold clockStep
  exact .foldl (fun _ _ h1 => holdDone_kept h1) (moveClock_kept h)

theorem bilTimeSet_kept {f} (h : Kept s0 s) : Kept s0 (bilTimeSet f s) := by
  unfold bilTimeSet
  exact .ite (completeSt_kept h) (.ite (completeSt_kept h) (.ite (complete_kept (postClock_kept (.units h))) (keepRunning_kept (.units
      h))))

theorem runBilTimeSet_kept (h : Kept s0 s) : KeptRes s0 (runBilTimeSet s) := by
  unfold runBilTimeSet
  exact .next (dispatch_kept (fun _ _ h1 => bilTimeSet_kept h1) h)

theorem runBilTimeRead_kept (h : Kept s0 s) : KeptRes s0 (runBilTimeRead s) := by
  unfold runBilTimeRead
  exact .next (dispatch_kept (fun _ _ h1 => complete_kept h1) h)

theorem postPower_kept {up pseq} (h : Kept s0 s) : Kept s0 (postPower up pseq s) := by
  unfold postPower
  exact post_kept h

theorem powerUpEntry_kept {cleared} (h : Kept s0 s) : Kept s0 (powerUpEntry cleared s) := by
  unfold powerUpEntry
  split
  · exact h
  · exact postPower_kept (.units h)

theorem powerDownEntry_kept (h : Kept s0 s) : Kept s0 (powerDownEntry s) := by
  unfold powerDownEntry
  exact postPower_kept (.units h)

theorem closeAtStart_kept {n} (h : Kept s0 s) : Kept s0 (closeAtStart n s) := by
  unfold closeAtStart
  split
  · exact h
  · exact closePart_kept h

theorem closeRetroAtStart_kept (h : Kept s0 s) : Kept s0 (closeRetroAtStart s) := by
  unfold closeRetroAtStart
  exact .ite (everyOutlet_kept (fun _ _ h1 => closePart_kept (openPart_kept h1)) (closeRetro_kept h)) (closeRetro_kept h)

theorem openHere_kept {flags} (h : Kept s0 s) : Kept s0 (openHere flags s) := by
  unfold openHere
  exact everyOutlet_kept (fun _ _ h1 => openPart_kept h1) (.units h)

theorem reopenParts_kept {entry : State → State} {flags} (hentry : ∀ t, Kept s0 t → Kept s0 (entry t)) (h : Kept s0 s) : Kept s0 (reopenParts entry flags s) := by
  unfold reopenParts
  extract_lets +onlyGivenNames held4 before5
  split
  · exact hentry _ h
  · extract_lets +onlyGivenNames s12
    have h12 : Kept s0 s12 := hentry _ (.ite (closeRetroAtStart_kept h) (everyOutlet_kept (fun _ _ h13 => closeAtStart_kept h13) h))
    exact .ite (postClock_kept (everyOutlet_kept (fun _ _ h14 => openRetro_kept h14) (.units h12))) (openHere_kept (.units h12))

theorem powerUp_kept (h : Kept s0 s) : Kept s0 (powerUp s) := by
  unfold powerUp
  exact reopenParts_kept (fun _ h1 => powerUpEntry_kept (evalRate_kept h1)) (.units h)

theorem powerFailRecord_kept (h : Kept s0 s) : Kept s0 (powerFailRecord s) := by
  unfold powerFailRecord
  split
  · exact reopenParts_kept (fun _ h5 => powerDownEntry_kept h5) h
  · exact .ite (powerDownEntry_kept (.ite h (everyOutlet_kept (fun _ _ h6 => closePart_kept h6) h))) (everyOutlet_kept (fun _ _ h7 =>
      openPart_kept h7) (powerDownEntry_kept (.ite h (everyOutlet_kept (fun _ _ h8 => closePart_kept h8) h))))

theorem tickPower_kept (h : Kept s0 s) : Kept s0 (tickPower s) := by
  unfold tickPower
  extract_lets +onlyGivenNames s1
  have h1 : Kept s0 s1 := .ite (powerUp_kept h) h
  split
  · exact .ite (powerUpEntry_kept (.units h1)) h1
  · exact h1

theorem writeBilCfg_kept {v} (h : Kept s0 s) : Kept s0 (writeBilCfg v s) := by
  unfold writeBilCfg
  exact .ite (.units h) (.units h)

theorem execBilCfgWrite_kept {v} (h : Kept s0 s) : KeptRes s0 (execBilCfgWrite v s) := by
  unfold execBilCfgWrite
  exact .next (.ite (writeBilCfg_kept h) h)

theorem writeBilClk_kept {v} (h : Kept s0 s) : Kept s0 (writeBilClk v s) := by
  unfold writeBilClk
  exact .ite (.units h) (.units h)

theorem keepBillRead_kept {status} (h : Kept s0 s) : Kept s0 (keepBillRead status s) := by
  unfold keepBillRead
  exact forFin_kept (fun _ _ h1 => .units h1) h

theorem bilRegRead_kept {f} (h : Kept s0 s) : Kept s0 (bilRegRead f s) := by
  unfold bilRegRead
  exact .ite (completeSt_kept h) (complete_kept h)

theorem runBilRegRead_kept (h : Kept s0 s) : KeptRes s0 (runBilRegRead s) := by
  unfold runBilRegRead
  exact .next (dispatch_kept (fun _ _ h1 => bilRegRead_kept h1) h)

theorem bilShortRead_kept {f} (h : Kept s0 s) : Kept s0 (bilShortRead f s) := by
  unfold bilShortRead
  exact .ite (completeSt_kept h) (.ite (complete_kept h) (complete_kept (commitBill_kept (modBill_kept h))))

theorem runBilShortRead_kept (h : Kept s0 s) : KeptRes s0 (runBilShortRead s) := by
  unfold runBilShortRead
  exact .next (dispatch_kept (fun _ _ h1 => bilShortRead_kept h1) h)

theorem readLog_kept {α : Type} {f} {log : List α} {num bytes size limit} (h : Kept s0 s) :
    Kept s0 (readLog f log num bytes size limit s) := by
  unfold readLog
  exact .ite (completeSt_kept h) (complete_kept h)

theorem runBilIntervalRead_kept (h : Kept s0 s) : KeptRes s0 (runBilIntervalRead s) := by
  unfold runBilIntervalRead
  exact .next (dispatch_kept (fun _ _ h1 => readLog_kept h1) h)

theorem runBilPowerRead_kept (h : Kept s0 s) : KeptRes s0 (runBilPowerRead s) := by
  unfold runBilPowerRead
  exact .next (dispatch_kept (fun _ _ h1 => readLog_kept h1) h)

theorem bilCalendarWrite_kept {f} (h : Kept s0 s) : Kept s0 (bilCalendarWrite f s) := by
  unfold bilCalendarWrite
  exact .ite (completeSt_kept h) (complete_kept (.units h))

theorem runBilCalendarWrite_kept (h : Kept s0 s) : KeptRes s0 (runBilCalendarWrite s) := by
  unfold runBilCalendarWrite
  exact .next (dispatch_kept (fun _ _ h1 => bilCalendarWrite_kept h1) h)

theorem bilCalendarRead_kept {f} (h : Kept s0 s) : Kept s0 (bilCalendarRead f s) := by
  unfold bilCalendarRead
  extract_lets w1
  split
  · exact completeSt_kept h
  · split
    · exact complete_kept h
    · exact completeSt_kept h

theorem runBilCalendarRead_kept (h : Kept s0 s) : KeptRes s0 (runBilCalendarRead s) := by
  unfold runBilCalendarRead
  exact .next (dispatch_kept (fun _ _ h1 => bilCalendarRead_kept h1) h)

theorem resetMd_kept {n} (h : Kept s0 s) : Kept s0 (resetMd n s) := by
  unfold resetMd
  exact commitBill_kept (modBill_kept h)

theorem bilMdReset_kept {f} (h : Kept s0 s) : Kept s0 (bilMdReset f s) := by
  unfold bilMdReset
  exact complete_kept (.foldl (fun _ _ h1 => resetMd_kept h1) h)

theorem runBilMdReset_kept (h : Kept s0 s) : KeptRes s0 (runBilMdReset s) := by
  unfold runBilMdReset
  exact .next (dispatch_kept (fun _ _ h1 => bilMdReset_kept h1) h)

theorem flipBit_kept {u} (h : Kept s0 s) : Kept s0 (flipBit u s) := by
  unfold flipBit
  exact .ite h (setWord_kept h)

theorem postTile_kept {kind tile} (h : Kept s0 s) : Kept s0 (postTile kind tile s) := by
  unfold postTile
  exact postMail_kept h

theorem queueReloc_kept {tile failed} (h : Kept s0 s) : Kept s0 (queueReloc tile failed s) := by
  unfold queueReloc
  exact .ite h (.ite (modMem_kept h) (.ite (modMem_kept h) h))

theorem noteCorrection_kept {m a bit scrub} (h : Kept s0 s) : Kept s0 (noteCorrection m a bit scrub s) := by
  unfold noteCorrection
  extract_lets +onlyGivenNames key1 here2 win3 s4 pass5
  have h4 : Kept s0 s4 := modMem_kept h
  split
  · exact .ite (queueReloc_kept (modMem_kept h4)) (modMem_kept h4)
  · exact .ite (modMem_kept h4) (setReplace_kept (modMem_kept h4))

theorem readWord_kept {m a scrub} (h : Kept s0 s) : Kept s0 (readWord m a scrub s).2 := by
  unfold readWord
  extract_lets +onlyGivenNames w
  refine .ite_snd h ?_
  extract_lets +onlyGivenNames v s1 c
  have h1 : Kept s0 s1 := .ite (noteCorrection_kept h) h
  refine .ite_snd (setWord_kept h1) ?_
  generalize c = c
  match c with
  | [] => exact setWord_kept h1
  | [_] => exact setWord_kept (noteCorrection_kept h1)
  | [_, _] => exact .unitsAndMem id (setWord_kept h1)
  | _ :: _ :: _ :: _ => exact setWord_kept h1

theorem countWrites_kept {t1 k} (h : Kept s0 s) : Kept s0 (countWrites t1 k s) := by
  unfold countWrites
  exact .ite (modMem_kept (modMem_kept h)) (modMem_kept h)

theorem writeWord_kept {m a d poison} (h : Kept s0 s) : Kept s0 (writeWord m a d poison s) := by
  unfold writeWord
  exact .ite (countWrites_kept (setWord_kept h)) (setWord_kept h)

theorem mergeWord_kept {m a mask d} (h : Kept s0 s) : Kept s0 (mergeWord m a mask d s) := by
  unfold mergeWord
  split
  · exact writeWord_kept h
  · split
    rename_i s1 e1
    have h1 : Kept s0 s1 := .of_snd e1 (readWord_kept h)
    exact writeWord_kept h1

theorem failTile_kept {t1} (h : Kept s0 s) : Kept s0 (failTile t1 s) := by
  unfold failTile
  exact queueReloc_kept (postTile_kept (modMem_kept (.foldl (fun _ _ h1 => setWord_kept h1) h)))

theorem verifyTile_kept {t1} (h : Kept s0 s) : Kept s0 (verifyTile t1 s) := by
  unfold verifyTile
  exact .ite (failTile_kept (modMem_kept h)) (modMem_kept h)

theorem portWord_kept {a} (h : Kept s0 s) : Kept s0 (portWord a s).2 := by
  unfold portWord
  exact readWord_kept (.ite h (verifyTile_kept h))

theorem portRead_kept {a} (h : Kept s0 s) : Kept s0 (portRead a s) := by
  unfold portRead
  exact portWord_kept h

theorem writePiece_kept {k i bytes} (h : Kept s0 s) : Kept s0 (writePiece k i bytes s) := by
  unfold writePiece
  exact .foldl (fun _ _ h1 => writeWord_kept h1) h

theorem readPiece_kept {k i} (h : Kept s0 s) : Kept s0 (readPiece k i s).2 := by
  unfold readPiece
  exact .ite_snd (.foldl_snd (fun _ _ h1 => portWord_kept h1) h) (freeBytes_kept h)

theorem level0_kept {src wait gtc} (h : Kept s0 s) : Kept s0 (level0 src wait gtc s) :=
  .unitsAndMem (fun ⟨c, _, _⟩ => ⟨c, rfl, rfl⟩) h

theorem modUpl_kept {f} (h : Kept s0 s) : Kept s0 (modUpl f s) := by
  unfold modUpl
  exact .units h

theorem postPath_kept {cause b cond} (h : Kept s0 s) : Kept s0 (postPath cause b cond s) := by
  unfold postPath
  exact postMail_kept h

theorem setPathOk_kept {b ok} (h : Kept s0 s) : Kept s0 (setPathOk b ok s) := by
  unfold setPathOk
  exact modUpl_kept h

theorem startHinge_kept {toB cond} (h : Kept s0 s) : Kept s0 (startHinge toB cond s) := by
  unfold startHinge
  exact modUpl_kept h

theorem endDrill_kept {d detail} (h : Kept s0 s) : Kept s0 (endDrill d detail s) := by
  unfold endDrill
  exact completeSeq_kept (modUpl_kept h)

theorem drillDead_kept {d cond} (h : Kept s0 s) : Kept s0 (drillDead d cond s) := by
  unfold drillDead
  exact startHinge_kept (modUpl_kept (postPath_kept (setReplace_kept (setPathOk_kept h))))

theorem hingeAway_kept {b cond} (h : Kept s0 s) : Kept s0 (hingeAway b cond s) := by
  unfold hingeAway
  split
  · exact .ite (startHinge_kept (endDrill_kept h)) (.ite (drillDead_kept h) (startHinge_kept h))
  · exact startHinge_kept h

theorem pathFail_kept {b cond} (h : Kept s0 s) : Kept s0 (pathFail b cond s) := by
  unfold pathFail
  exact .ite (setPathOk_kept h) (.ite (postPath_kept (setPathOk_kept h)) (.ite (hingeAway_kept (postPath_kept (setPathOk_kept h)))
      (setPathOk_kept h)))

theorem losePathB_kept (h : Kept s0 s) : Kept s0 (losePathB s) := by
  unfold losePathB
  exact .ite (pathFail_kept h) h

theorem clearFn_kept {cls} (h : Kept s0 s) : Kept s0 (clearFn cls s) := by
  unfold clearFn
  split
  · exact dropReq_kept (.units h)
  · exact .units h
  · exact .units h
  · exact .units h
  · exact .units h
  · exact .units h
  · exact .units h
  · exact h

theorem clearLevel_kept {level cls} (h : Kept s0 s) : Kept s0 (clearLevel level cls s) := by
  unfold clearLevel
  extract_lets +onlyGivenNames s1
  have h1 : Kept s0 s1 := .ite (losePathB_kept h) h
  split
  · refine .foldl (fun _ _ h => clearFn_kept h) (dropReq_kept ?_)
    exact .unitsAndMem (fun ⟨c, _, m⟩ => ⟨c, rfl, m⟩) (loseReady_kept h1)
  · split
    · exact .foldl (fun _ _ h => clearFn_kept h) (.units (loseReady_kept h1))
    · exact clearFn_kept (.units (loseReady_kept h1))

theorem raiseLow_kept {src level func ms held} (h : Kept s0 s) : Kept s0 (raiseLow src level func ms held s) := by
  unfold raiseLow
  exact .ite (holdEvent_kept (.ite (.units h) (clearLevel_kept (.units h)))) (post_kept (.ite (.units h) (clearLevel_kept (.units h))))

theorem raise_kept {src level func} (h : Kept s0 s) : Kept s0 (raise src level func s) := by
  unfold raise
  exact .ite (.units h) (.ite (level0_kept h) (raiseLow_kept h))

theorem hostAcc_kept {act : State → State} (hact : ∀ t, Kept s0 t → Kept s0 (act t)) (h : Kept s0 s) : Kept s0 (hostAcc act s) := by
  unfold hostAcc
  exact .ite (hact _ h) h

theorem setOutRing_kept {r q} (h : Kept s0 s) : Kept s0 (setOutRing r q s) := by
  unfold setOutRing
  split
  · exact .units h
  · exact .units h

theorem readySnapshot_kept (h : Kept s0 s) : Kept s0 (readySnapshot s).2 := by
  unfold readySnapshot
  refine .foldl_snd ?_ h
  intro x3 x4 h5
  split
  · split
    rename_i s6 e6
    have h6 : Kept s0 s6 := .of_snd e6 (produce_kept h5)
    exact h6
  · exact h5

theorem evqEnabled_kept (h : Kept s0 s) : Kept s0 (evqEnabled s) := by
  unfold evqEnabled
  split
  rename_i s1 e1
  have h1 : Kept s0 s1 := .of_snd e1 (readySnapshot_kept h)
  exact drainEvents_kept (.units h1)

theorem coalesce_kept {r timeout} (h : Kept s0 s) : Kept s0 (coalesce r timeout s) := by
  unfold coalesce
  exact .ite (sendMsix_kept (setOutRing_kept h)) h

theorem writeSqCfg_kept {n v} (h : Kept s0 s) : Kept s0 (writeSqCfg n v s) := by
  unfold writeSqCfg
  exact .ite (raiseErr_kept h) (.units h)

theorem writeOutCfg_kept {r v} (h : Kept s0 s) : Kept s0 (writeOutCfg r v s) := by
  unfold writeOutCfg
  extract_lets +onlyGivenNames q1 v2 enNew3 size4 onlyEn5 onlyIrq6 bound7 rejected8 num9
  split
  · exact raiseErr_kept h
  · extract_lets q110 up11 q212 s13
    have h13 : Kept s0 s13 := setOutRing_kept h
    split
    · exact coalesce_kept (setOutRing_kept h)
    · exact .ite (evqEnabled_kept (setOutRing_kept h)) (coalesce_kept (.ite (unwaitEvents_kept (setOutRing_kept h)) (setOutRing_kept h)))

theorem writeRingReg_kept {r g v} (h : Kept s0 s) : Kept s0 (writeRingReg r g v s) := by
  unfold writeRingReg
  split
  · exact writeSqCfg_kept h
  · exact writeOutCfg_kept h
  · exact writeOutCfg_kept h
  · exact h
  · exact .ite (raiseErr_kept h) (.units h)
  · exact .ite (raiseErr_kept h) (.units h)
  · exact .ite (raiseErr_kept h) (setOutRing_kept h)
  · exact .ite (raiseErr_kept h) (setOutRing_kept h)

theorem execRingCfgWrite_kept {r g v} (h : Kept s0 s) : KeptRes s0 (execRingCfgWrite r g v s) := by
  unfold execRingCfgWrite
  exact .next (hostAcc_kept (fun _ h1 => writeRingReg_kept h1) h)

theorem execRingEnable_kept {r} (h : Kept s0 s) : KeptRes s0 (execRingEnable r s) := by
  unfold execRingEnable
  exact .next (hostAcc_kept (fun _ h1 => writeRingReg_kept h1) h)

theorem execRingDisable_kept {r} (h : Kept s0 s) : KeptRes s0 (execRingDisable r s) := by
  unfold execRingDisable
  exact .next (hostAcc_kept (fun _ h1 => writeRingReg_kept h1) h)

theorem endHostWaits_kept (h : Kept s0 s) : Kept s0 (endHostWaits s) := by
  unfold endHostWaits
  exact .foldl (fun _ _ h1 => completeSeq_kept h1) (.units h)

theorem forgetCompletions_kept (h : Kept s0 s) : Kept s0 (forgetCompletions s) := by
  unfold forgetCompletions
  exact .units h

theorem setRun_kept (h : Kept s0 s) : Kept s0 (setRun s) := by
  unfold setRun
  exact drainEvents_kept (.units h)

theorem clearRun_kept (h : Kept s0 s) : Kept s0 (clearRun s) := by
  unfold clearRun
  exact endHostWaits_kept (forgetCompletions_kept (.units (unwaitEvents_kept h)))

theorem execHifRunSet_kept (h : Kept s0 s) : KeptRes s0 (execHifRunSet s) := by
  unfold execHifRunSet
  exact .next (hostAcc_kept (fun _ h1 => setRun_kept h1) h)

theorem execHifRunClear_kept (h : Kept s0 s) : KeptRes s0 (execHifRunClear s) := by
  unfold execHifRunClear
  exact .next (hostAcc_kept (fun _ h1 => clearRun_kept h1) h)

theorem resetHif_kept (h : Kept s0 s) : Kept s0 (resetHif s) := by
  unfold resetHif
  exact endHostWaits_kept (forgetCompletions_kept (.units (unwaitEvents_kept h)))

theorem execPcieReset_kept {k} (h : Kept s0 s) : KeptRes s0 (execPcieReset k s) := by
  unfold execPcieReset
  exact .next (.ite (raise_kept h) (raiseLow_kept (resetHif_kept h)))

theorem writeSqDoorbell_kept {n v} (h : Kept s0 s) : Kept s0 (writeSqDoorbell n v s) := by
  unfold writeSqDoorbell
  exact .ite (raiseErr_kept h) (.units h)

theorem writeOutDoorbell_kept {r v} (h : Kept s0 s) : Kept s0 (writeOutDoorbell r v s) := by
  unfold writeOutDoorbell
  extract_lets +onlyGivenNames q1 n2 num3
  split
  · exact raiseErr_kept h
  · split
    · exact h
    · extract_lets s4
      have h4 : Kept s0 s4 := setOutRing_kept h
      split
      · exact drainEvents_kept (setOutRing_kept h)
      · exact setOutRing_kept h

theorem execSqDoorbellWrite_kept {n v} (h : Kept s0 s) : KeptRes s0 (execSqDoorbellWrite n v s) := by
  unfold execSqDoorbellWrite
  exact .next (hostAcc_kept (fun _ h1 => writeSqDoorbell_kept h1) h)

theorem execCqDoorbellWrite_kept {r v} (h : Kept s0 s) : KeptRes s0 (execCqDoorbellWrite r v s) := by
  unfold execCqDoorbellWrite
  exact .next (hostAcc_kept (fun _ h1 => writeOutDoorbell_kept h1) h)

theorem execMsixCoalTimeout_kept {r} (h : Kept s0 s) : KeptRes s0 (execMsixCoalTimeout r s) := by
  unfold execMsixCoalTimeout
  exact .next (coalesce_kept h)

theorem fetch_kept {sq raw readOk buf torn} (h : Kept s0 s) : Kept s0 (fetch sq raw readOk buf torn s) := by
  unfold fetch
  split
  · extract_lets +onlyGivenNames q1 seq2 f03 f4 s5 s6
    extract_lets +onlyGivenNames s7 s8
    have h7 : Kept s0 s7 := .units h
    have h8 : Kept s0 s8 := openEntry_kept h7
    split
    · exact h8
    · extract_lets +onlyGivenNames s9
      extract_lets +onlyGivenNames s10
      have h10 : Kept s0 s10 := .units h8
      split
      · exact completeSt_kept (raiseErr_kept h10)
      · split
        · exact completeSt_kept h10
        · split
          · split
            · exact .units h10
            · exact completeSt_kept (raiseErr_kept h10)
          · exact h10
  · exact h

theorem execDescriptorFetch_kept {sq raw readOk buf torn} (h : Kept s0 s) : KeptRes s0 (execDescriptorFetch sq raw readOk buf torn s) := by
  unfold execDescriptorFetch
  exact .next (fetch_kept h)

theorem execJnlSeqLoRead_kept {e} (h : Kept s0 s) : KeptRes s0 (execJnlSeqLoRead e s) := by
  unfold execJnlSeqLoRead
  refine .next (hostAcc_kept ?_ h)
  intro t3 h4
  split
  · exact .units h4
  · exact .units h4

theorem selectEntry_kept {v} (h : Kept s0 s) : Kept s0 (selectEntry v s) := by
  unfold selectEntry
  extract_lets +onlyGivenNames sel1 s2
  extract_lets +onlyGivenNames s3
  have h3 : Kept s0 s3 := .units h
  split
  · exact .units h3
  · split
    · exact .units h3
    · split
      · exact .units h3
      · split
        rename_i s4 e4
        have h4 : Kept s0 s4 := .of_snd e4 (freeBytes_kept h3)
        exact .units h4

theorem execJnlSelHiWrite_kept {v} (h : Kept s0 s) : KeptRes s0 (execJnlSelHiWrite v s) := by
  unfold execJnlSelHiWrite
  exact .next (hostAcc_kept (fun _ h1 => selectEntry_kept h1) h)

theorem execGenGtcLoRead_kept (h : Kept s0 s) : KeptRes s0 (execGenGtcLoRead s) := by
  unfold execGenGtcLoRead
  exact .next (hostAcc_kept (fun _ h1 => .units h1) h)

theorem execGenTickHwmRead_kept (h : Kept s0 s) : KeptRes s0 (execGenTickHwmRead s) := by
  unfold execGenTickHwmRead
  exact .next (hostAcc_kept (fun _ h1 => .units h1) h)

theorem noteOverrun_kept {w} (h : Kept s0 s) : Kept s0 (noteOverrun w s) := by
  unfold noteOverrun
  exact .units h

theorem overrun_kept {w} (h : Kept s0 s) : Kept s0 (overrun w s) := by
  unfold overrun
  split
  · split
    · exact .ite (noteOverrun_kept h) h
    · exact h
  · extract_lets +onlyGivenNames s1
    have h1 : Kept s0 s1 := noteOverrun_kept h
    split
    · exact post_kept (raise_kept (noteOverrun_kept h))
    · exact .units (raise_kept h1)

theorem runSysNop_kept (h : Kept s0 s) : KeptRes s0 (runSysNop s) := by
  unfold runSysNop
  exact .next (dispatch_kept (fun _ _ h1 => completeSt_kept h1) h)

theorem sysJournalRead_kept {f} (h : Kept s0 s) : Kept s0 (sysJournalRead f s) := by
  unfold sysJournalRead
  exact .ite (completeSt_kept h) (complete_kept h)

theorem runSysJournalRead_kept (h : Kept s0 s) : KeptRes s0 (runSysJournalRead s) := by
  unfold runSysJournalRead
  exact .next (dispatch_kept (fun _ _ h1 => sysJournalRead_kept h1) h)

theorem runSysJournalInfo_kept (h : Kept s0 s) : KeptRes s0 (runSysJournalInfo s) := by
  unfold runSysJournalInfo
  exact .next (dispatch_kept (fun _ _ h1 => complete_kept h1) h)

theorem sysReplaceAck_kept {f} (h : Kept s0 s) : Kept s0 (sysReplaceAck f s) := by
  unfold sysReplaceAck
  exact .ite (completeSt_kept h) (complete_kept (.units h))

theorem runSysReplaceAck_kept (h : Kept s0 s) : KeptRes s0 (runSysReplaceAck s) := by
  unfold runSysReplaceAck
  exact .next (dispatch_kept (fun _ _ h1 => sysReplaceAck_kept h1) h)

theorem runSysReadySnapshot_kept (h : Kept s0 s) : KeptRes s0 (runSysReadySnapshot s) := by
  unfold runSysReadySnapshot
  exact .next (dispatch_kept (fun _ _ h1 => complete_kept h1) h)

theorem sysResetRequest_kept {f} (h : Kept s0 s) : Kept s0 (sysResetRequest f s) := by
  unfold sysResetRequest
  exact .ite (completeSt_kept h) (complete_kept (.units h))

theorem runSysResetRequest_kept (h : Kept s0 s) : KeptRes s0 (runSysResetRequest s) := by
  unfold runSysResetRequest
  exact .next (dispatch_kept (fun _ _ h1 => sysResetRequest_kept h1) h)

theorem raiseRequests_kept (h : Kept s0 s) : Kept s0 (raiseRequests s) := by
  unfold raiseRequests
  exact .foldl (fun _ _ h1 => raiseLow_kept h1) (.units h)

/-- SYS_RESET_MAP is the one command that changes a fuse, and only where the source's level has not been changed before (R449). -/
theorem sysResetMap_kept {f} (h : Kept s0 s) : Kept s0 (sysResetMap f s) := by
  unfold sysResetMap
  extract_lets +onlyGivenNames src level
  split
  · exact completeSt_kept h
  rename_i allowed
  split
  · exact completeSt_kept h
  rename_i unchanged
  have small : src < 16 := by
    simp only [mapAllowed, Bool.not_eq_true', Bool.not_eq_false, decide_eq_true_eq] at allowed
    omega
  have other : ∀ i : Fin 16, s.fuse.rstChg.getLsbD i.val = true → src % 16 ≠ i.val := fun i hi e =>
    unchanged (by rw [← Nat.mod_eq_of_lt small, e]; exact hi)
  exact complete_kept (h.trans ⟨⟨rfl, fun i hi => ⟨by simp [hi], by simp [other i hi]⟩⟩, rfl, id⟩)

theorem runSysResetMap_kept (h : Kept s0 s) : KeptRes s0 (runSysResetMap s) := by
  unfold runSysResetMap
  exact .next (dispatch_kept (fun _ _ h1 => sysResetMap_kept h1) h)

theorem drawScalar_kept (h : Kept s0 s) : Kept s0 (drawScalar s).2 := by
  unfold drawScalar
  split
  rename_i s1 e1
  have h1 : Kept s0 s1 := .of_snd e1 (freeBytes_kept h)
  exact h1

theorem signDigest_kept {d digest} (h : Kept s0 s) : Kept s0 (signDigest d digest s).2 := by
  unfold signDigest
  split
  rename_i s1 e1
  have h1 : Kept s0 s1 := .of_snd e1 (freeBytes_kept h)
  exact h1

theorem queuePrn_kept {k} (h : Kept s0 s) : Kept s0 (queuePrn k s) := by
  induction k generalizing s with
  | zero => exact h
  | succ k ih =>
    unfold queuePrn
    split
    · exact h
    · exact .ite (ih (requestLong_kept (.units h))) h

theorem storeSnapshot_kept {rtype n body flight} (h : Kept s0 s) : Kept s0 (storeSnapshot rtype n body flight s) := by
  unfold storeSnapshot
  exact .ite h (queuePrn_kept (.units h))

theorem snapshot_kept {rtype n session authRef flight} (h : Kept s0 s) : Kept s0 (snapshot rtype n session authRef flight s) := by
  unfold snapshot
  exact storeSnapshot_kept h

theorem endSnapshot_kept {n} (h : Kept s0 s) : Kept s0 (endSnapshot n s) := by
  unfold endSnapshot
  split
  · exact storeSnapshot_kept (.units h)
  · exact h

theorem runPrnEndSnapshot_kept {n} (h : Kept s0 s) : KeptRes s0 (runPrnEndSnapshot n s) := by
  unfold runPrnEndSnapshot
  refine .next ?_
  split
  · exact .ite (endSnapshot_kept h) h
  · exact h

theorem markDue_kept (h : Kept s0 s) : Kept s0 (markDue s) := by
  unfold markDue
  exact .units h

theorem dueSnapshots_kept (h : Kept s0 s) : Kept s0 (dueSnapshots s) := by
  unfold dueSnapshots
  exact forFin_kept (fun _ _ h1 => .ite (endSnapshot_kept h1) h1) h

theorem relatePrn_kept (h : Kept s0 s) : Kept s0 (relatePrn s) := by
  unfold relatePrn
  exact .units h

theorem requeuePrn_kept (h : Kept s0 s) : Kept s0 (requeuePrn s) := by
  unfold requeuePrn
  exact queuePrn_kept (.units h)

/-- The arithmetic of the signature plays no part: under `id` it stays a variable in the proof that the kernel checks. -/
theorem prnSigned_kept {rctr} (h : Kept s0 s) : Kept s0 (prnSigned rctr s) := by
  have hsign : ∀ {d g t}, Kept s0 t → Kept s0 (signDigest d g t).2 := signDigest_kept
  unfold prnSigned
  generalize signDigest = sign at hsign ⊢
  revert sign
  refine id fun sign hsign => ?_
  split
  · exact h
  · split
    rename_i s1 e1
    have h1 : Kept s0 s1 := .of_snd e1 (hsign h)
    split
    · exact requeuePrn_kept h1
    · extract_lets +onlyGivenNames l prn s2 s3
      have h3 : Kept s0 s3 := post_kept (.units h1)
      split
      · exact completeSeq_kept h3
      · exact h3

theorem bilPrnSign_kept {f} (h : Kept s0 s) : Kept s0 (bilPrnSign f s) := by
  unfold bilPrnSign
  exact .ite (completeSt_kept h) (.ite (completeSt_kept h) (.ite (completeSt_kept h) (keepRunning_kept (snapshot_kept h))))

theorem runBilPrnSign_kept (h : Kept s0 s) : KeptRes s0 (runBilPrnSign s) := by
  unfold runBilPrnSign
  exact .next (dispatch_kept (fun _ _ h1 => bilPrnSign_kept h1) h)

theorem bilPrnFetch_kept {f} (h : Kept s0 s) : Kept s0 (bilPrnFetch f s) := by
  unfold bilPrnFetch
  exact .ite (completeSt_kept h) (complete_kept h)

theorem runBilPrnFetch_kept (h : Kept s0 s) : KeptRes s0 (runBilPrnFetch s) := by
  unfold runBilPrnFetch
  exact .next (dispatch_kept (fun _ _ h1 => bilPrnFetch_kept h1) h)

theorem bilPrnKeyRead_kept {f} (h : Kept s0 s) : Kept s0 (bilPrnKeyRead f s) := by
  unfold bilPrnKeyRead
  exact .ite (completeSt_kept h) (.ite (complete_kept h) (completeSt_kept h))

theorem runBilPrnKeyRead_kept (h : Kept s0 s) : KeptRes s0 (runBilPrnKeyRead s) := by
  unfold runBilPrnKeyRead
  exact .next (dispatch_kept (fun _ _ h1 => bilPrnKeyRead_kept h1) h)

theorem bilPrnCertRead_kept {f} (h : Kept s0 s) : Kept s0 (bilPrnCertRead f s) := by
  unfold bilPrnCertRead
  exact .ite (completeSt_kept h) (.ite (complete_kept h) (complete_kept h))

theorem runBilPrnCertRead_kept (h : Kept s0 s) : KeptRes s0 (runBilPrnCertRead s) := by
  unfold runBilPrnCertRead
  exact .next (dispatch_kept (fun _ _ h1 => bilPrnCertRead_kept h1) h)

theorem logTamper_kept {i state at_} (h : Kept s0 s) : Kept s0 (logTamper i state at_ s) := by
  unfold logTamper
  exact .units h

theorem tamperInput_kept {i high} (h : Kept s0 s) : Kept s0 (tamperInput i high s) := by
  unfold tamperInput
  exact .ite (.units h) (.ite (.units h) (.ite (.units h) (.ite (.units h) (.ite (logTamper_kept (.units (logTamper_kept (.units h))))
      (logTamper_kept (.units h))))))

theorem execTamperSample_kept {coverHigh termHigh} (h : Kept s0 s) : KeptRes s0 (execTamperSample coverHigh termHigh s) := by
  unfold execTamperSample
  exact .next (tamperInput_kept (tamperInput_kept (.units h)))

theorem execTamperChatterEnd_kept {i} (h : Kept s0 s) : KeptRes s0 (execTamperChatterEnd i s) := by
  unfold execTamperChatterEnd
  exact .next (.ite (logTamper_kept (.units h)) h)

theorem copyTamper_kept {due} (h : Kept s0 s) : Kept s0 (copyTamper due s) := by
  unfold copyTamper
  extract_lets +onlyGivenNames t new
  generalize new = new
  cases new with
  | nil => exact h
  | cons => exact .foldl (fun _ _ h => postLate_kept h) (.ite (postLate_kept (.units h)) (.units h))

theorem runTamperCopy_kept (h : Kept s0 s) : KeptRes s0 (runTamperCopy s) := by
  unfold runTamperCopy
  exact .next (.ite (copyTamper_kept h) h)

theorem runBilTamperRead_kept (h : Kept s0 s) : KeptRes s0 (runBilTamperRead s) := by
  unfold runBilTamperRead
  exact .next (dispatch_kept (fun _ _ h1 => readLog_kept h1) h)

theorem writeTamper_kept {v} (h : Kept s0 s) : Kept s0 (writeTamper v s) := by
  unfold writeTamper
  exact .units h

theorem modAcc_kept {n f} (h : Kept s0 s) : Kept s0 (modAcc n f s) := by
  unfold modAcc
  exact .units h

theorem postPpy_kept {n cause} (h : Kept s0 s) : Kept s0 (postPpy n cause s) := by
  unfold postPpy
  exact postLate_kept h

theorem spillActive_kept {n imp} (h : Kept s0 s) : Kept s0 (spillActive n imp s) := by
  unfold spillActive
  exact .ite (modAcc_kept (.units (modBill_kept h))) (.units (modBill_kept h))

theorem spillReactive_kept {n i} (h : Kept s0 s) : Kept s0 (spillReactive n i s) := by
  unfold spillReactive
  exact modBill_kept h

theorem spillOutlet_kept {n} (h : Kept s0 s) : Kept s0 (spillOutlet n s) := by
  unfold spillOutlet
  split
  extract_lets fine inward
  split
  split
  extract_lets s1 s2 s3 s4 s5
  have h1 : Kept s0 s1 := .units h
  have h2 : Kept s0 s2 := .ite h1 (modBill_kept h1)
  have h3 : Kept s0 s3 := .iterate (fun _ h => spillActive_kept h) h2
  have h4 : Kept s0 s4 := .iterate (fun _ h => spillActive_kept h) h3
  have h5 : Kept s0 s5 := .iterate (fun _ h => spillReactive_kept h) h4
  exact .iterate (fun _ h => spillReactive_kept h) h5

theorem spillAll_kept (h : Kept s0 s) : Kept s0 (spillAll s) := by
  unfold spillAll
  exact .units (.units (forFin_kept (fun _ _ h1 => spillOutlet_kept h1) h))

theorem pulseStart_kept {n} (h : Kept s0 s) : Kept s0 (pulseStart n s) := by
  unfold pulseStart
  exact .ite (modBill_kept (.units h)) h

theorem commitAccount_kept {n} (h : Kept s0 s) : Kept s0 (commitAccount n s) := by
  unfold commitAccount
  exact .ite (.units h) h

theorem commitAll_kept (h : Kept s0 s) : Kept s0 (commitAll s) := by
  unfold commitAll
  exact forFin_kept (fun _ _ h1 => commitAccount_kept h1) (commitDirty_kept h)

theorem evalFriendly_kept {n} (h : Kept s0 s) : Kept s0 (evalFriendly n s) := by
  unfold evalFriendly
  exact .ite h (postPpy_kept (modAcc_kept h))

theorem evalEmergency_kept {n} (h : Kept s0 s) : Kept s0 (evalEmergency n s) := by
  unfold evalEmergency
  exact .ite (postPpy_kept (modAcc_kept (.ite (postPpy_kept (.ite h (modAcc_kept h))) (.ite h (modAcc_kept h))))) (.ite (postPpy_kept
      (.ite h (modAcc_kept h))) (.ite h (modAcc_kept h)))

theorem evalCredit_kept {n} (h : Kept s0 s) : Kept s0 (evalCredit n s) := by
  unfold evalCredit
  exact .ite h (.ite (.ite (.units (postPpy_kept (modAcc_kept h))) (postPpy_kept (modAcc_kept h))) (.ite (postPpy_kept (modAcc_kept h))
      (modAcc_kept h)))

theorem applySettings_kept {n} (h : Kept s0 s) : Kept s0 (applySettings n s) := by
  unfold applySettings
  split
  · exact evalFriendly_kept (.units (modAcc_kept h))
  · exact h

theorem evalAccount_kept {n} (h : Kept s0 s) : Kept s0 (evalAccount n s) := by
  unfold evalAccount
  exact evalCredit_kept (evalEmergency_kept h)

theorem minuteEdge_kept (h : Kept s0 s) : Kept s0 (minuteEdge s) := by
  unfold minuteEdge
  exact .ite (forFin_kept (fun _ _ h1 => evalAccount_kept (evalFriendly_kept h1)) (minuteTariff_kept (.units (intervalBoundary_kept h))))
      (intervalBoundary_kept h)

theorem runRtcMinuteEdge_kept (h : Kept s0 s) : KeptRes s0 (runRtcMinuteEdge s) := by
  unfold runRtcMinuteEdge
  exact .next (minuteEdge_kept h)

theorem stepNow_kept (h : Kept s0 s) : Kept s0 (stepNow s) := by
  unfold stepNow
  split
  · exact .ite (forFin_kept (fun _ _ h1 => evalAccount_kept (evalFriendly_kept h1)) (clockStep_kept (minuteEdge_kept h))) h
  · exact h

theorem runClockStep_kept (h : Kept s0 s) : KeptRes s0 (runClockStep s) := by
  unfold runClockStep
  exact .next (stepNow_kept h)

theorem bilPpyConfig_kept {f} (h : Kept s0 s) : Kept s0 (bilPpyConfig f s) := by
  unfold bilPpyConfig
  extract_lets p1 cur2
  split
  · exact completeSt_kept h
  · split
    · exact completeSt_kept h
    · exact .ite (completeSt_kept h) (completeSt_kept (.units h))

theorem runBilPpyConfig_kept (h : Kept s0 s) : KeptRes s0 (runBilPpyConfig s) := by
  unfold runBilPpyConfig
  exact .next (dispatch_kept (fun _ _ h1 => bilPpyConfig_kept h1) h)

theorem bilPpyEmergency_kept {f} (h : Kept s0 s) : Kept s0 (bilPpyEmergency f s) := by
  unfold bilPpyEmergency
  exact keepRunning_kept (.units h)

theorem runBilPpyEmergency_kept (h : Kept s0 s) : KeptRes s0 (runBilPpyEmergency s) := by
  unfold runBilPpyEmergency
  exact .next (dispatch_kept (fun _ _ h1 => bilPpyEmergency_kept h1) h)

theorem activateReq_kept {n seq} (h : Kept s0 s) : Kept s0 (activateReq n seq s) := by
  unfold activateReq
  exact .ite h (.ite (holdDone_kept (evalCredit_kept (postPpy_kept (modAcc_kept h)))) (holdDone_kept h))

theorem runEmergencyActivate_kept {n} (h : Kept s0 s) : KeptRes s0 (runEmergencyActivate n s) := by
  unfold runEmergencyActivate
  exact .next (.foldl (fun _ _ h1 => activateReq_kept h1) (.units h))

theorem bilPpyTopup_kept {f} (h : Kept s0 s) : Kept s0 (bilPpyTopup f s) := by
  unfold bilPpyTopup
  extract_lets a1 t2 tseq3 amount4 expiry5
  split
  · exact completeSt_kept h
  · split
    · exact completeSt_kept h
    · split
      · exact completeSt_kept h
      · split
        · exact completeSt_kept h
        · split
          · exact completeSt_kept h
          · exact askLong_kept h

theorem runBilPpyTopup_kept (h : Kept s0 s) : KeptRes s0 (runBilPpyTopup s) := by
  unfold runBilPpyTopup
  exact .next (dispatch_kept (fun _ _ h1 => bilPpyTopup_kept h1) h)

theorem topupResult_kept {f slots} (h : Kept s0 s) : Kept s0 (topupResult f slots s) := by
  unfold topupResult
  exact .ite (.units h) (completeSt_kept h)

theorem applyToken_kept {n e} (h : Kept s0 s) : Kept s0 (applyToken n e s) := by
  unfold applyToken
  split
  extract_lets a1
  split
  · exact h
  · split
    · exact holdDone_kept h
    · exact holdDone_kept (evalAccount_kept (postPpy_kept (modAcc_kept h)))

theorem runTopupApply_kept (h : Kept s0 s) : KeptRes s0 (runTopupApply s) := by
  unfold runTopupApply
  exact .next (forFin_kept (fun _ _ h1 => .foldl (fun _ _ h2 => applyToken_kept h2) (.units h1)) h)

theorem runBilPpyRead_kept (h : Kept s0 s) : KeptRes s0 (runBilPpyRead s) := by
  unfold runBilPpyRead
  exact .next (dispatch_kept (fun _ _ h1 => complete_kept h1) h)

theorem reconcileAccount_kept {n} (h : Kept s0 s) : Kept s0 (reconcileAccount n s) := by
  unfold reconcileAccount
  extract_lets +onlyGivenNames p1 sums2 put3
  split
  · exact .units h
  · exact postPpy_kept (.units h)

theorem modOut_kept {n f} (h : Kept s0 s) : Kept s0 (modOut n f s) := by
  unfold modOut
  exact .units h

theorem sesReject_kept (h : Kept s0 s) : Kept s0 (sesReject s) := by
  unfold sesReject
  exact .units h

theorem writeOcfg_kept {n v} (h : Kept s0 s) : Kept s0 (writeOcfg n v s) := by
  unfold writeOcfg
  exact .ite (modOut_kept h) (sesReject_kept h)

theorem execSesOcfgWrite_kept {n v} (h : Kept s0 s) : KeptRes s0 (execSesOcfgWrite n v s) := by
  unfold execSesOcfgWrite
  exact .next (hostAcc_kept (fun _ h1 => writeOcfg_kept h1) h)

theorem writeCoil_kept {n v} (h : Kept s0 s) : Kept s0 (writeCoil n v s) := by
  unfold writeCoil
  exact .ite (modOut_kept h) (sesReject_kept h)

theorem execSesCoilWrite_kept {n v} (h : Kept s0 s) : KeptRes s0 (execSesCoilWrite n v s) := by
  unfold execSesCoilWrite
  exact .next (hostAcc_kept (fun _ h1 => writeCoil_kept h1) h)

theorem writeSesCfg_kept {v} (h : Kept s0 s) : Kept s0 (writeSesCfg v s) := by
  unfold writeSesCfg
  exact .ite (sesReject_kept h) (.units h)

theorem postCoil_kept {n kind data} (h : Kept s0 s) : Kept s0 (postCoil n kind data s) := by
  unfold postCoil
  exact postSes_kept h

theorem tickReadback_kept {n rb} (h : Kept s0 s) : Kept s0 (tickReadback n rb s) := by
  unfold tickReadback
  extract_lets o1
  split
  split
  exact .ite (postCoil_kept (setReplace_kept (.ite (postCoil_kept (setReplace_kept (modOut_kept h))) (modOut_kept h)))) (.ite
      (postCoil_kept (setReplace_kept (modOut_kept h))) (modOut_kept h))

theorem execCoilPullInEnd_kept {n} (h : Kept s0 s) : KeptRes s0 (execCoilPullInEnd n s) := by
  unfold execCoilPullInEnd
  refine inSafety_kept ?_ h
  intro t3 h4
  split
  · exact .ite (modOut_kept h4) h4
  · exact h4

theorem postLock_kept {n kind} (h : Kept s0 s) : Kept s0 (postLock n kind s) := by
  unfold postLock
  exact postSes_kept h

theorem unlockDone_kept {n} (h : Kept s0 s) : Kept s0 (unlockDone n s) := by
  unfold unlockDone
  split
  · exact completeSeq_kept (modOut_kept h)
  · exact h

theorem tickResidual_kept {n} (h : Kept s0 s) : Kept s0 (tickResidual n s) := by
  unfold tickResidual
  exact .ite (modOut_kept h) h

theorem postRcd_kept {n kind step} (h : Kept s0 s) : Kept s0 (postRcd n kind step s) := by
  unfold postRcd
  exact postSes_kept h

theorem dropTls_kept {n} (h : Kept s0 s) : Kept s0 (dropTls n s) := by
  unfold dropTls
  exact .units (dropReq_kept h)

theorem endMatch_kept {n} (h : Kept s0 s) : Kept s0 (endMatch n s) := by
  unfold endMatch
  extract_lets l1 m2 s3 s4
  have h3 : Kept s0 s3 := .ite (postMail_kept h) h
  have h4 : Kept s0 s4 := .ite (postMail_kept h3) h3
  split
  rename_i s5 e5
  have h5 : Kept s0 s5 := .of_snd e5 (.ite_snd (freeBytes_kept h4) h4)
  exact .units (dropTls_kept h5)

theorem markRecord_kept {n tick} (h : Kept s0 s) : Kept s0 (markRecord n tick s) := by
  unfold markRecord
  split
  · exact modOut_kept (.units h)
  · exact h

theorem keepEndValues_kept {n} (h : Kept s0 s) : Kept s0 (keepEndValues n s) := by
  unfold keepEndValues
  exact .ite (modOut_kept h) h

theorem openSession_kept {n} (h : Kept s0 s) : Kept s0 (openSession n s) := by
  unfold openSession
  exact .units (markRecord_kept h)

theorem postState_kept {n old no} (h : Kept s0 s) : Kept s0 (postState n old no s) := by
  unfold postState
  exact postSes_kept h

theorem shuntEdge_kept (h : Kept s0 s) : Kept s0 (shuntEdge s) := by
  unfold shuntEdge
  exact .ite (.units h) h

theorem weldedEntry_kept {n} (h : Kept s0 s) : Kept s0 (weldedEntry n s) := by
  unfold weldedEntry
  exact postSes_kept h

theorem endLockDrive_kept {n} (h : Kept s0 s) : Kept s0 (endLockDrive n s) := by
  unfold endLockDrive
  exact modOut_kept h

theorem unlockInIdle_kept {old n} (h : Kept s0 s) : Kept s0 (unlockInIdle old n s) := by
  unfold unlockInIdle
  exact .ite (modOut_kept h) h

theorem lockLost_kept {n} (h : Kept s0 s) : Kept s0 (lockLost n s) := by
  unfold lockLost
  exact postLock_kept (modOut_kept h)

theorem enter_kept {n new reason} (h : Kept s0 s) : Kept s0 (enter n new reason s) := by
  unfold enter
  extract_lets +onlyGivenNames old1 s2 no3 s4 s5 ends6 o7 s8 s9 s10 s11
  have h2 : Kept s0 s2 := .ite (openSession_kept h) h
  have h4 : Kept s0 s4 := modOut_kept h2
  have h5 : Kept s0 s5 := postState_kept h4
  have h8 : Kept s0 s8 := .ite (markRecord_kept h5) h5
  have h9 : Kept s0 s9 := .ite (modOut_kept h8) h8
  have h10 : Kept s0 s10 := .ite (endMatch_kept h9) h9
  extract_lets +onlyGivenNames s12
  have h12 : Kept s0 s12 := modOut_kept h10
  extract_lets s13
  have h13 : Kept s0 s13 := by
    unfold s13
    split
    · split
      · refine modOut_kept (.ite (endMatch_kept (.ite (modOut_kept (.ite (markRecord_kept (postState_kept (modOut_kept (.ite
          (openSession_kept h) h)))) (postState_kept (modOut_kept (.ite (openSession_kept h) h))))) (.ite (markRecord_kept
          (postState_kept (modOut_kept (.ite (openSession_kept h) h)))) (postState_kept (modOut_kept (.ite (openSession_kept h) h))))))
          (.ite (modOut_kept (.ite (markRecord_kept (postState_kept (modOut_kept (.ite (openSession_kept h) h)))) (postState_kept
          (modOut_kept (.ite (openSession_kept h) h))))) (.ite (markRecord_kept (postState_kept (modOut_kept (.ite (openSession_kept h)
          h)))) (postState_kept (modOut_kept (.ite (openSession_kept h) h))))))
      · refine .ite (endMatch_kept (.ite (modOut_kept (.ite (markRecord_kept (postState_kept (modOut_kept (.ite (openSession_kept h)
          h)))) (postState_kept (modOut_kept (.ite (openSession_kept h) h))))) (.ite (markRecord_kept (postState_kept (modOut_kept (.ite
          (openSession_kept h) h)))) (postState_kept (modOut_kept (.ite (openSession_kept h) h)))))) (.ite (modOut_kept (.ite
          (markRecord_kept (postState_kept (modOut_kept (.ite (openSession_kept h) h)))) (postState_kept (modOut_kept (.ite
          (openSession_kept h) h))))) (.ite (markRecord_kept (postState_kept (modOut_kept (.ite (openSession_kept h) h))))
          (postState_kept (modOut_kept (.ite (openSession_kept h) h)))))
    · refine modOut_kept (.ite (endMatch_kept (.ite (modOut_kept (.ite (markRecord_kept (postState_kept (modOut_kept (.ite
        (openSession_kept h) h)))) (postState_kept (modOut_kept (.ite (openSession_kept h) h))))) (.ite (markRecord_kept (postState_kept
        (modOut_kept (.ite (openSession_kept h) h)))) (postState_kept (modOut_kept (.ite (openSession_kept h) h)))))) (.ite (modOut_kept
        (.ite (markRecord_kept (postState_kept (modOut_kept (.ite (openSession_kept h) h)))) (postState_kept (modOut_kept (.ite
        (openSession_kept h) h))))) (.ite (markRecord_kept (postState_kept (modOut_kept (.ite (openSession_kept h) h)))) (postState_kept
        (modOut_kept (.ite (openSession_kept h) h))))))
    · refine modOut_kept (.ite (endMatch_kept (.ite (modOut_kept (.ite (markRecord_kept (postState_kept (modOut_kept (.ite
        (openSession_kept h) h)))) (postState_kept (modOut_kept (.ite (openSession_kept h) h))))) (.ite (markRecord_kept (postState_kept
        (modOut_kept (.ite (openSession_kept h) h)))) (postState_kept (modOut_kept (.ite (openSession_kept h) h)))))) (.ite (modOut_kept
        (.ite (markRecord_kept (postState_kept (modOut_kept (.ite (openSession_kept h) h)))) (postState_kept (modOut_kept (.ite
        (openSession_kept h) h))))) (.ite (markRecord_kept (postState_kept (modOut_kept (.ite (openSession_kept h) h)))) (postState_kept
        (modOut_kept (.ite (openSession_kept h) h))))))
    · refine modOut_kept (.units (.ite (endMatch_kept (.ite (modOut_kept (.ite (markRecord_kept (postState_kept (modOut_kept (.ite
        (openSession_kept h) h)))) (postState_kept (modOut_kept (.ite (openSession_kept h) h))))) (.ite (markRecord_kept (postState_kept
        (modOut_kept (.ite (openSession_kept h) h)))) (postState_kept (modOut_kept (.ite (openSession_kept h) h)))))) (.ite (modOut_kept
        (.ite (markRecord_kept (postState_kept (modOut_kept (.ite (openSession_kept h) h)))) (postState_kept (modOut_kept (.ite
        (openSession_kept h) h))))) (.ite (markRecord_kept (postState_kept (modOut_kept (.ite (openSession_kept h) h)))) (postState_kept
        (modOut_kept (.ite (openSession_kept h) h)))))))
    · refine unlockInIdle_kept (.ite (endMatch_kept (.ite (modOut_kept (.ite (markRecord_kept (postState_kept (modOut_kept (.ite
        (openSession_kept h) h)))) (postState_kept (modOut_kept (.ite (openSession_kept h) h))))) (.ite (markRecord_kept (postState_kept
        (modOut_kept (.ite (openSession_kept h) h)))) (postState_kept (modOut_kept (.ite (openSession_kept h) h)))))) (.ite (modOut_kept
        (.ite (markRecord_kept (postState_kept (modOut_kept (.ite (openSession_kept h) h)))) (postState_kept (modOut_kept (.ite
        (openSession_kept h) h))))) (.ite (markRecord_kept (postState_kept (modOut_kept (.ite (openSession_kept h) h)))) (postState_kept
        (modOut_kept (.ite (openSession_kept h) h))))))
    · split
      · refine lockLost_kept (modOut_kept (.ite (endMatch_kept (.ite (modOut_kept (.ite (markRecord_kept (postState_kept (modOut_kept
          (.ite (openSession_kept h) h)))) (postState_kept (modOut_kept (.ite (openSession_kept h) h))))) (.ite (markRecord_kept
          (postState_kept (modOut_kept (.ite (openSession_kept h) h)))) (postState_kept (modOut_kept (.ite (openSession_kept h) h))))))
          (.ite (modOut_kept (.ite (markRecord_kept (postState_kept (modOut_kept (.ite (openSession_kept h) h)))) (postState_kept
          (modOut_kept (.ite (openSession_kept h) h))))) (.ite (markRecord_kept (postState_kept (modOut_kept (.ite (openSession_kept h)
          h)))) (postState_kept (modOut_kept (.ite (openSession_kept h) h)))))))
      · refine modOut_kept (.ite (endMatch_kept (.ite (modOut_kept (.ite (markRecord_kept (postState_kept (modOut_kept (.ite
          (openSession_kept h) h)))) (postState_kept (modOut_kept (.ite (openSession_kept h) h))))) (.ite (markRecord_kept
          (postState_kept (modOut_kept (.ite (openSession_kept h) h)))) (postState_kept (modOut_kept (.ite (openSession_kept h) h))))))
          (.ite (modOut_kept (.ite (markRecord_kept (postState_kept (modOut_kept (.ite (openSession_kept h) h)))) (postState_kept
          (modOut_kept (.ite (openSession_kept h) h))))) (.ite (markRecord_kept (postState_kept (modOut_kept (.ite (openSession_kept h)
          h)))) (postState_kept (modOut_kept (.ite (openSession_kept h) h))))))
    · refine modOut_kept (.ite (endMatch_kept (.ite (modOut_kept (.ite (markRecord_kept (postState_kept (modOut_kept (.ite
        (openSession_kept h) h)))) (postState_kept (modOut_kept (.ite (openSession_kept h) h))))) (.ite (markRecord_kept (postState_kept
        (modOut_kept (.ite (openSession_kept h) h)))) (postState_kept (modOut_kept (.ite (openSession_kept h) h)))))) (.ite (modOut_kept
        (.ite (markRecord_kept (postState_kept (modOut_kept (.ite (openSession_kept h) h)))) (postState_kept (modOut_kept (.ite
        (openSession_kept h) h))))) (.ite (markRecord_kept (postState_kept (modOut_kept (.ite (openSession_kept h) h)))) (postState_kept
        (modOut_kept (.ite (openSession_kept h) h))))))
    · refine endLockDrive_kept (.ite (endMatch_kept (.ite (modOut_kept (.ite (markRecord_kept (postState_kept (modOut_kept (.ite
        (openSession_kept h) h)))) (postState_kept (modOut_kept (.ite (openSession_kept h) h))))) (.ite (markRecord_kept (postState_kept
        (modOut_kept (.ite (openSession_kept h) h)))) (postState_kept (modOut_kept (.ite (openSession_kept h) h)))))) (.ite (modOut_kept
        (.ite (markRecord_kept (postState_kept (modOut_kept (.ite (openSession_kept h) h)))) (postState_kept (modOut_kept (.ite
        (openSession_kept h) h))))) (.ite (markRecord_kept (postState_kept (modOut_kept (.ite (openSession_kept h) h)))) (postState_kept
        (modOut_kept (.ite (openSession_kept h) h))))))
    · refine unlockDone_kept (endLockDrive_kept (.ite (endMatch_kept (.ite (modOut_kept (.ite (markRecord_kept (postState_kept
        (modOut_kept (.ite (openSession_kept h) h)))) (postState_kept (modOut_kept (.ite (openSession_kept h) h))))) (.ite
        (markRecord_kept (postState_kept (modOut_kept (.ite (openSession_kept h) h)))) (postState_kept (modOut_kept (.ite
        (openSession_kept h) h)))))) (.ite (modOut_kept (.ite (markRecord_kept (postState_kept (modOut_kept (.ite (openSession_kept h)
        h)))) (postState_kept (modOut_kept (.ite (openSession_kept h) h))))) (.ite (markRecord_kept (postState_kept (modOut_kept (.ite
        (openSession_kept h) h)))) (postState_kept (modOut_kept (.ite (openSession_kept h) h)))))))
    · refine weldedEntry_kept (markRecord_kept (endLockDrive_kept (.ite (endMatch_kept (.ite (modOut_kept (.ite (markRecord_kept
        (postState_kept (modOut_kept (.ite (openSession_kept h) h)))) (postState_kept (modOut_kept (.ite (openSession_kept h) h)))))
        (.ite (markRecord_kept (postState_kept (modOut_kept (.ite (openSession_kept h) h)))) (postState_kept (modOut_kept (.ite
        (openSession_kept h) h)))))) (.ite (modOut_kept (.ite (markRecord_kept (postState_kept (modOut_kept (.ite (openSession_kept h)
        h)))) (postState_kept (modOut_kept (.ite (openSession_kept h) h))))) (.ite (markRecord_kept (postState_kept (modOut_kept (.ite
        (openSession_kept h) h)))) (postState_kept (modOut_kept (.ite (openSession_kept h) h))))))))
    · exact h10
  exact modOut_kept h13

theorem clearOut_kept {n} (h : Kept s0 s) : Kept s0 (clearOut n s) := by
  unfold clearOut
  exact modOut_kept h

/-- The row of the state machine that is taken (R204). -/
theorem rowOf_kept {n} (h : Kept s0 s) : KeptOpt s0 (rowOf n s) := by
  unfold rowOf
  extract_lets +onlyGivenNames o due is plugged stop unreq sub ended early
  clear_value stop
  have hu : ∀ {t}, Kept s0 t → Kept s0 (unreq t) := modOut_kept
  have hs : ∀ {e r t}, Kept s0 t → Kept s0 (sub e r t) := modOut_kept
  have enters : ∀ {c r t}, Kept s0 t → KeptOpt s0 (some (enter n c r t)) := fun h => .some (enter_kept h)
  have hearly : KeptOpt s0 early := by
    refine .ite (enters h) ?_
    split
    · exact enters (hu h)
    · exact .none
  have stopped : ∀ {t : State} {f : Reason → State}, Kept s0 t → (∀ r, Kept s0 (f r)) → Kept s0 (match stop with | some r => f r | none => t) := by
    intro t f ht hf
    split
    · exact hf _
    · exact ht
  clear_value early o
  split
  · exact .ite (enters h) .none
  · exact .ite (enters (modOut_kept h)) (.ite (enters h) (.ite (enters h) hearly))
  · exact .ite (enters h) (.ite (enters h) hearly)
  · split
    · exact enters h
    · exact enters h
    · exact hearly
  · exact .ite (enters h) (.ite (enters h) (.ite (enters h) hearly))
  · split
    · rename_i row
      exact .some (hearly _ rfl)
    · exact .ite (enters h) .none
  · refine .ite (enters h) (.ite (enters (hs (clearOut_kept h))) ?_)
    split
    · exact enters (hs (clearOut_kept (hu h)))
    · exact .none
  · refine .ite (enters (hs (clearOut_kept h))) (.ite (enters (hs h)) (.ite (enters (hs (clearOut_kept h))) ?_))
    split
    · exact enters (hs (hu h))
    · exact .none
  · have h1 := stopped (f := fun r => sub true false (modOut n (fun o => { o with stopReq := none, reason := if o.resuming then r else o.reason }) s)) h
      fun _ => hs (modOut_kept h)
    exact .ite (enters (clearOut_kept h1)) (.ite (.some h1) .none)
  · have h1 := stopped (f := fun r => sub true false (modOut n (fun o => { o with stopReq := none, reason := if o.resuming then r else o.reason }) s)) h
      fun _ => hs (modOut_kept h)
    exact .ite (enters h1) (.ite (enters h1) (.ite (.some h1) .none))
  · exact .ite (enters h) .none
  · exact .ite (enters h) (.ite (enters h) (.ite (enters h) (.ite (enters h) .none)))
  · exact .ite (enters h) .none
  · exact .ite .none (enters h)

theorem evalOnce_kept {n} (h : Kept s0 s) : Kept s0 (evalOnce n s) := by
  unfold evalOnce
  extract_lets +onlyGivenNames o
  refine .ite (enter_kept (clearOut_kept h)) ?_
  extract_lets fr
  clear_value fr
  split
  · exact enter_kept (clearOut_kept h)
  · split
    · rename_i row
      exact rowOf_kept h _ row
    · exact .ite (modOut_kept h) h

theorem closeRequests_kept {n} (h : Kept s0 s) : Kept s0 (closeRequests n s) := by
  unfold closeRequests
  extract_lets +onlyGivenNames o1
  split
  exact .foldl (fun _ _ h2 => completeSeq_kept h2) (modOut_kept h)

theorem releaseInFault_kept {n} (h : Kept s0 s) : Kept s0 (releaseInFault n s) := by
  unfold releaseInFault
  exact .ite (modOut_kept h) h

theorem evalOut_kept {n} (h : Kept s0 s) : Kept s0 (evalOut n s) := by
  unfold evalOut
  exact .ite h (modOut_kept (releaseInFault_kept (closeRequests_kept (.ite (evalOnce_kept (evalOnce_kept h)) (evalOnce_kept h)))))

theorem evalAll_kept (h : Kept s0 s) : Kept s0 (evalAll s) := by
  unfold evalAll
  exact forFin_kept (fun _ _ h1 => evalOut_kept h1) h

theorem requestStop_kept {n r} (h : Kept s0 s) : Kept s0 (requestStop n r s) := by
  unfold requestStop
  exact modOut_kept h

theorem postPilot_kept {n} (h : Kept s0 s) : Kept s0 (postPilot n s) := by
  unfold postPilot
  exact postSes_kept h

theorem recognise_kept {n} (h : Kept s0 s) : Kept s0 (recognise n s) := by
  unfold recognise
  split
  · split
    · exact postPilot_kept (modOut_kept h)
    · exact h
  · exact h

theorem execPilotStateRecognised_kept {n} (h : Kept s0 s) : KeptRes s0 (execPilotStateRecognised n s) := by
  unfold execPilotStateRecognised
  exact inSafety_kept (fun _ h1 => recognise_kept h1) h

theorem takeStopRequest_kept {n} (h : Kept s0 s) : Kept s0 (takeStopRequest n s) := by
  unfold takeStopRequest
  split
  · exact .ite (modOut_kept h) h
  · exact h

theorem takeFaultClear_kept {n} (h : Kept s0 s) : Kept s0 (takeFaultClear n s) := by
  unfold takeFaultClear
  exact .ite (modOut_kept h) h

theorem takeUnlock_kept {n} (h : Kept s0 s) : Kept s0 (takeUnlock n s) := by
  unfold takeUnlock
  extract_lets +onlyGivenNames o1
  split
  · split
    · extract_lets s2
      have h2 : Kept s0 s2 := modOut_kept h
      split
      · exact .ite (modOut_kept h2) h2
      · exact modOut_kept h2
    · exact h
  · exact h

theorem execStateMachineRequest_kept {n} (h : Kept s0 s) : KeptRes s0 (execStateMachineRequest n s) := by
  unfold execStateMachineRequest
  exact inSafety_kept (fun _ h1 => takeStopRequest_kept (takeFaultClear_kept (takeUnlock_kept (recognise_kept h1)))) h

theorem execPilotFault_kept {n} (h : Kept s0 s) : KeptRes s0 (execPilotFault n s) := by
  unfold execPilotFault
  refine inSafety_kept ?_ h
  intro t3 h4
  split
  · split
    · exact postPilot_kept (modOut_kept h4)
    · exact h4
  · exact h4

theorem execProximityNoneTimeout_kept {n} (h : Kept s0 s) : KeptRes s0 (execProximityNoneTimeout n s) := by
  unfold execProximityNoneTimeout
  exact inSafety_kept (fun _ h1 => .ite (modOut_kept h1) h1) h

theorem execAuthTimeout_kept {n} (h : Kept s0 s) : KeptRes s0 (execAuthTimeout n s) := by
  unfold execAuthTimeout
  exact inSafety_kept (fun _ h1 => .ite (modOut_kept h1) h1) h

theorem execPreauthExpiry_kept {n} (h : Kept s0 s) : KeptRes s0 (execPreauthExpiry n s) := by
  unfold execPreauthExpiry
  refine inSafety_kept ?_ h
  intro t3 h4
  split
  · exact .ite (modOut_kept h4) h4
  · exact h4

theorem execStoppingTimeout_kept {n} (h : Kept s0 s) : KeptRes s0 (execStoppingTimeout n s) := by
  unfold execStoppingTimeout
  exact inSafety_kept (fun _ h1 => .ite (modOut_kept h1) h1) h

theorem execFaultDriveEnd_kept {n} (h : Kept s0 s) : KeptRes s0 (execFaultDriveEnd n s) := by
  unfold execFaultDriveEnd
  exact inSafety_kept (fun _ h1 => .ite (modOut_kept h1) h1) h

theorem mirrorConfirm_kept {n} (h : Kept s0 s) : Kept s0 (mirrorConfirm n s) := by
  unfold mirrorConfirm
  extract_lets +onlyGivenNames o pos before waited
  refine .ite h ?_
  extract_lets s1 s2 s3 s4
  have h1 : Kept s0 s1 := modOut_kept h
  have h2 : Kept s0 s2 := by
    unfold s2
    clear_value waited
    split
    · exact .ite (postCoil_kept (setReplace_kept h1)) h1
    · exact h1
  have h3 : Kept s0 s3 := .ite (markRecord_kept h2) h2
  have h4 : Kept s0 s4 := .ite (modOut_kept h3) (.ite (modOut_kept h3) h3)
  exact modOut_kept h4

theorem execMirrorConfirm_kept {n} (h : Kept s0 s) : KeptRes s0 (execMirrorConfirm n s) := by
  unfold execMirrorConfirm
  exact inSafety_kept (fun _ h1 => mirrorConfirm_kept h1) h

theorem execMirrorTimeout_kept {n} (h : Kept s0 s) : KeptRes s0 (execMirrorTimeout n s) := by
  unfold execMirrorTimeout
  refine inSafety_kept ?_ h
  intro t3 h4
  split
  · exact .ite (.ite (modOut_kept (modOut_kept h4)) (modOut_kept (modOut_kept h4))) h4
  · exact h4

theorem execShuntTripRelease_kept (h : Kept s0 s) : KeptRes s0 (execShuntTripRelease s) := by
  unfold execShuntTripRelease
  exact inSafety_kept (fun _ h1 => .ite (.units h1) h1) h

theorem lockConfirm_kept {n} (h : Kept s0 s) : Kept s0 (lockConfirm n s) := by
  unfold lockConfirm
  exact .ite h (.ite (lockLost_kept (modOut_kept h)) (modOut_kept h))

theorem execLockConfirm_kept {n} (h : Kept s0 s) : KeptRes s0 (execLockConfirm n s) := by
  unfold execLockConfirm
  exact inSafety_kept (fun _ h1 => lockConfirm_kept h1) h

theorem execLockDriveEnd_kept {n} (h : Kept s0 s) : KeptRes s0 (execLockDriveEnd n s) := by
  unfold execLockDriveEnd
  refine inSafety_kept ?_ h
  intro t3 h4
  split
  · exact .ite (unlockDone_kept (modOut_kept h4)) h4
  · exact h4

theorem lockTimeout_kept {n} (h : Kept s0 s) : Kept s0 (lockTimeout n s) := by
  unfold lockTimeout
  extract_lets o1
  split
  · exact .ite h (.ite (modOut_kept h) (unlockDone_kept (postLock_kept (modOut_kept h))))
  · exact h

theorem execLockDriveTimeout_kept {n} (h : Kept s0 s) : KeptRes s0 (execLockDriveTimeout n s) := by
  unfold execLockDriveTimeout
  exact inSafety_kept (fun _ h1 => lockTimeout_kept h1) h

theorem execLockRetry_kept {n} (h : Kept s0 s) : KeptRes s0 (execLockRetry n s) := by
  unfold execLockRetry
  refine inSafety_kept ?_ h
  intro t3 h4
  split
  · split
    · exact .ite (modOut_kept h4) h4
    · exact h4
  · exact h4

theorem execRcdTrip_kept {n} (h : Kept s0 s) : KeptRes s0 (execRcdTrip n s) := by
  unfold execRcdTrip
  exact inSafety_kept (fun _ h1 => .ite (postRcd_kept (modOut_kept h1)) h1) h

theorem testPhase_kept {n} (h : Kept s0 s) : Kept s0 (testPhase n s) := by
  unfold testPhase
  extract_lets +onlyGivenNames o1
  split
  · exact .ite h (.ite (.ite h (.ite (modOut_kept h) (postRcd_kept (modOut_kept h)))) (.ite (.ite h (.ite (modOut_kept h) (postRcd_kept
      (modOut_kept h)))) (.ite (modOut_kept h) (.ite (postRcd_kept (modOut_kept h)) h))))
  · exact h

theorem execRcdSelfTestPhaseEnd_kept {n} (h : Kept s0 s) : KeptRes s0 (execRcdSelfTestPhaseEnd n s) := by
  unfold execRcdSelfTestPhaseEnd
  exact inSafety_kept (fun _ h1 => testPhase_kept h1) h

theorem execEvOvercurrent_kept {n} (h : Kept s0 s) : KeptRes s0 (execEvOvercurrent n s) := by
  unfold execEvOvercurrent
  exact inSafety_kept (fun _ h1 => .ite (requestStop_kept (modOut_kept h1)) h1) h

theorem loadCheck_kept {n q} (h : Kept s0 s) : Kept s0 (loadCheck n q s) := by
  unfold loadCheck
  extract_lets +onlyGivenNames o1
  split
  · exact .ite h (.ite (modOut_kept h) (modOut_kept h))
  · exact h

theorem openVoltCheck_kept {n q} (h : Kept s0 s) : Kept s0 (openVoltCheck n q s) := by
  unfold openVoltCheck
  extract_lets +onlyGivenNames o1
  split
  · exact .ite (modOut_kept h) h
  · exact h

theorem sessionCycle_kept {n} (h : Kept s0 s) : Kept s0 (sessionCycle n s) := by
  unfold sessionCycle
  split
  · exact openVoltCheck_kept (loadCheck_kept (modOut_kept h))
  · exact h

theorem runCycleEnd_kept {g} (h : Kept s0 s) : KeptRes s0 (runCycleEnd g s) := by
  unfold runCycleEnd
  refine .next ?_
  split
  · extract_lets s1
    have h1 : Kept s0 s1 := formCycle_kept h
    split
    · exact sessionCycle_kept h1
    · exact h1
  · exact h

theorem outletInputs_kept {n i} (h : Kept s0 s) : Kept s0 (outletInputs n i s) := by
  unfold outletInputs
  exact tickResidual_kept (modOut_kept (tickReadback_kept (modOut_kept h)))

theorem outletTick_kept {n i} (h : Kept s0 s) : Kept s0 (outletTick n i s) := by
  unfold outletTick
  exact modOut_kept (outletInputs_kept h)

theorem applyOutlets_kept (h : Kept s0 s) : Kept s0 (applyOutlets s) := by
  unfold applyOutlets
  exact forFin_kept (fun _ _ h1 => modOut_kept h1) h

theorem sessionTick_kept {i} (h : Kept s0 s) : Kept s0 (sessionTick i s) := by
  unfold sessionTick
  exact .ite (forFin_kept (fun _ _ h1 => outletTick_kept h1) h) h

theorem startSnapshots_kept (h : Kept s0 s) : Kept s0 (startSnapshots s) := by
  unfold startSnapshots
  exact forFin_kept (fun _ _ h1 => .ite (snapshot_kept (modOut_kept (.ite (snapshot_kept (.units h1)) h1))) (keepEndValues_kept (.ite
      (snapshot_kept (.units h1)) h1))) h

theorem closeAtReset_kept {n} (h : Kept s0 s) : Kept s0 (closeAtReset n s) := by
  unfold closeAtReset
  exact modOut_kept (markRecord_kept h)

theorem startSession_kept (h : Kept s0 s) : Kept s0 (startSession s) := by
  unfold startSession
  exact forFin_kept (fun _ _ h1 => enter_kept (clearOut_kept h1)) (.units h)

theorem sesAuthorise_kept {f} (h : Kept s0 s) : Kept s0 (sesAuthorise f s) := by
  unfold sesAuthorise
  exact .ite (completeSt_kept h) (.ite (completeSt_kept h) (.ite (.ite (completeSt_kept h) (.ite (completeSt_kept h) (.ite (complete_kept
      (modOut_kept h)) (complete_kept (modOut_kept h))))) (.ite (completeSt_kept h) (complete_kept (modOut_kept h)))))

theorem runSesAuthorise_kept (h : Kept s0 s) : KeptRes s0 (runSesAuthorise s) := by
  unfold runSesAuthorise
  exact .next (dispatch_kept (fun _ _ h1 => sesAuthorise_kept h1) h)

theorem sesStop_kept {f} (h : Kept s0 s) : Kept s0 (sesStop f s) := by
  unfold sesStop
  exact .ite (completeSt_kept h) (.ite (completeSt_kept h) (complete_kept (requestStop_kept h)))

theorem runSesStop_kept (h : Kept s0 s) : KeptRes s0 (runSesStop s) := by
  unfold runSesStop
  exact .next (dispatch_kept (fun _ _ h1 => sesStop_kept h1) h)

theorem sesLimit_kept {f} (h : Kept s0 s) : Kept s0 (sesLimit f s) := by
  unfold sesLimit
  exact .ite (completeSt_kept h) (complete_kept (modOut_kept h))

theorem runSesLimit_kept (h : Kept s0 s) : KeptRes s0 (runSesLimit s) := by
  unfold runSesLimit
  exact .next (dispatch_kept (fun _ _ h1 => sesLimit_kept h1) h)

theorem keepSesRead_kept (h : Kept s0 s) : Kept s0 (keepSesRead s) := by
  unfold keepSesRead
  exact .units h

theorem sesRead_kept {f} (h : Kept s0 s) : Kept s0 (sesRead f s) := by
  unfold sesRead
  exact complete_kept h

theorem runSesRead_kept (h : Kept s0 s) : KeptRes s0 (runSesRead s) := by
  unfold runSesRead
  exact .next (dispatch_kept (fun _ _ h1 => sesRead_kept h1) h)

theorem sesFaultClear_kept {f} (h : Kept s0 s) : Kept s0 (sesFaultClear f s) := by
  unfold sesFaultClear
  exact .ite (.ite (keepRunning_kept (modOut_kept h)) (completeSt_kept h)) (.ite (.ite (keepRunning_kept (modOut_kept h))
      (completeSt_kept h)) (completeSt_kept h))

theorem runSesFaultClear_kept (h : Kept s0 s) : KeptRes s0 (runSesFaultClear s) := by
  unfold runSesFaultClear
  exact .next (dispatch_kept (fun _ _ h1 => sesFaultClear_kept h1) h)

theorem sesUnlock_kept {f} (h : Kept s0 s) : Kept s0 (sesUnlock f s) := by
  unfold sesUnlock
  exact .ite (completeSt_kept h) (.ite (complete_kept h) (.ite (completeSt_kept h) (keepRunning_kept (modOut_kept h))))

theorem runSesUnlock_kept (h : Kept s0 s) : KeptRes s0 (runSesUnlock s) := by
  unfold runSesUnlock
  exact .next (dispatch_kept (fun _ _ h1 => sesUnlock_kept h1) h)

theorem modLink_kept {n f} (h : Kept s0 s) : Kept s0 (modLink n f s) := by
  unfold modLink
  exact .units h

theorem modMirror_kept {n f} (h : Kept s0 s) : Kept s0 (modMirror n f s) := by
  unfold modMirror
  exact .units h

theorem say_kept {n o} (h : Kept s0 s) : Kept s0 (say n o s) := by
  unfold say
  exact emit_kept h

theorem sendAs_kept {ac n m} (h : Kept s0 s) : Kept s0 (sendAs ac n m s) := by
  unfold sendAs
  exact say_kept h

theorem sayV2g_kept {n m} (h : Kept s0 s) : Kept s0 (sayV2g n m s) := by
  unfold sayV2g
  exact sendAs_kept h

theorem postLink_kept {n cause mac} (h : Kept s0 s) : Kept s0 (postLink n cause mac s) := by
  unfold postLink
  exact postMail_kept h

theorem postV2g_kept {n cause endCause} (h : Kept s0 s) : Kept s0 (postV2g n cause endCause s) := by
  unfold postV2g
  exact postMail_kept h

theorem keepMirror_kept {n} (h : Kept s0 s) : Kept s0 (keepMirror n s) := by
  unfold keepMirror
  exact .ite h (modMirror_kept h)

theorem release_kept {n digital} (h : Kept s0 s) : Kept s0 (release n digital s) := by
  unfold release
  exact .ite h (postV2g_kept (modMirror_kept h))

theorem closeLink_kept {n} (h : Kept s0 s) : Kept s0 (closeLink n s) := by
  unfold closeLink
  exact keepMirror_kept (modLink_kept (dropTls_kept h))

theorem endV2g_kept {n cause} (h : Kept s0 s) : Kept s0 (endV2g n cause s) := by
  unfold endV2g
  exact .ite (.ite (.ite (modOut_kept (closeLink_kept (postV2g_kept h))) (modOut_kept (requestStop_kept (closeLink_kept (postV2g_kept
      h))))) (.ite (closeLink_kept (postV2g_kept h)) (release_kept (closeLink_kept (postV2g_kept h))))) (closeLink_kept h)

theorem closeWith_kept {n cause} (h : Kept s0 s) : Kept s0 (closeWith n cause s) := by
  unfold closeWith
  exact .ite (endV2g_kept (say_kept h)) h

theorem answerAs_kept {ac n r} (h : Kept s0 s) : Kept s0 (answerAs ac n r s) := by
  unfold answerAs
  exact modLink_kept (sendAs_kept h)

theorem answer_kept {n r} (h : Kept s0 s) : Kept s0 (answer n r s) := by
  unfold answer
  exact answerAs_kept h

theorem sendLimit_kept {n} (h : Kept s0 s) : Kept s0 (sendLimit n s) := by
  unfold sendLimit
  exact modMirror_kept (sendAs_kept h)

theorem sequenceFail_kept {n} (h : Kept s0 s) : Kept s0 (sequenceFail n s) := by
  unfold sequenceFail
  exact closeWith_kept (answer_kept h)

theorem failClose_kept {n} (h : Kept s0 s) : Kept s0 (failClose n s) := by
  unfold failClose
  exact closeWith_kept (answer_kept h)

theorem vlkUp_kept {act : State → State} (hact : ∀ t, Kept s0 t → Kept s0 (act t)) (h : Kept s0 s) : Kept s0 (vlkUp act s) := by
  unfold vlkUp
  exact .ite (hact _ h) h

theorem execCmSlacParmReq_kept {n vmac runId} (h : Kept s0 s) : KeptRes s0 (execCmSlacParmReq n vmac runId s) := by
  unfold execCmSlacParmReq
  exact .next (vlkUp_kept (fun _ h1 => .ite (say_kept (modLink_kept h1)) h1) h)

theorem slacSounding_kept {runId atten} (h : Kept s0 s) : Kept s0 (slacSounding runId atten s) := by
  unfold slacSounding
  extract_lets heard2
  refine forFin_kept ?_ h
  intro x5 t6 h7
  split
  · exact .ite (say_kept (modLink_kept h7)) h7
  · exact h7

theorem execSlacSounding_kept {runId atten} (h : Kept s0 s) : KeptRes s0 (execSlacSounding runId atten s) := by
  unfold execSlacSounding
  exact .next (vlkUp_kept (fun _ h1 => slacSounding_kept h1) h)

theorem slacFail_kept {n} (h : Kept s0 s) : Kept s0 (slacFail n s) := by
  unfold slacFail
  exact release_kept (postLink_kept (modLink_kept h))

theorem slacMatch_kept {n vmac runId} (h : Kept s0 s) : Kept s0 (slacMatch n vmac runId s) := by
  unfold slacMatch
  extract_lets same1 s2
  have h2 : Kept s0 s2 := forFin_kept (fun _ _ h3 => .ite (slacFail_kept h3) h3) h
  split
  · split
    rename_i s4 e4
    have h4 : Kept s0 s4 := .of_snd e4 (freeBytes_kept h2)
    split
    rename_i s5 e5
    have h5 : Kept s0 s5 := .of_snd e5 (freeBytes_kept h4)
    exact say_kept (postLink_kept (modMirror_kept (say_kept (modLink_kept h5))))
  · exact h2

theorem execCmSlacMatchReq_kept {n vmac runId} (h : Kept s0 s) : KeptRes s0 (execCmSlacMatchReq n vmac runId s) := by
  unfold execCmSlacMatchReq
  exact .next (vlkUp_kept (fun _ h1 => slacMatch_kept h1) h)

theorem execCmValidateReq_kept {n} (h : Kept s0 s) : KeptRes s0 (execCmValidateReq n s) := by
  unfold execCmValidateReq
  exact .next (vlkUp_kept (fun _ h1 => say_kept h1) h)

theorem execSlacTimeout_kept {n} (h : Kept s0 s) : KeptRes s0 (execSlacTimeout n s) := by
  unfold execSlacTimeout
  exact .next (vlkUp_kept (fun _ h1 => .ite (slacFail_kept h1) h1) h)

theorem execSlacWaitTimeout_kept {n} (h : Kept s0 s) : KeptRes s0 (execSlacWaitTimeout n s) := by
  unfold execSlacWaitTimeout
  exact .next (vlkUp_kept (fun _ h1 => .ite (release_kept (postLink_kept h1)) h1) h)

theorem execSdpRequest_kept {n tls} (h : Kept s0 s) : KeptRes s0 (execSdpRequest n tls s) := by
  unfold execSdpRequest
  refine .next (vlkUp_kept ?_ h)
  intro t3 h4
  split
  · split
    · exact say_kept (modLink_kept h4)
    · exact h4
  · exact h4

theorem requestTls_kept {n} (h : Kept s0 s) : Kept s0 (requestTls n s) := by
  unfold requestTls
  exact .ite (requestLong_kept h) (.units h)

theorem queueTls_kept {k} (h : Kept s0 s) : Kept s0 (queueTls k s) := by
  induction k generalizing s with
  | zero => exact h
  | succ k ih =>
    unfold queueTls
    split
    · exact h
    · exact .ite (ih (requestLong_kept (.units h))) h

theorem tlsFail_kept {n} (h : Kept s0 s) : Kept s0 (tlsFail n s) := by
  unfold tlsFail
  exact .ite (endV2g_kept (say_kept h)) h

theorem tlsDone_kept {n} (h : Kept s0 s) : Kept s0 (tlsDone n s) := by
  have hsign : ∀ {d g t}, Kept s0 t → Kept s0 (signDigest d g t).2 := signDigest_kept
  unfold tlsDone
  generalize signDigest = sign at hsign ⊢
  revert sign
  refine id fun sign hsign => ?_
  split
  · exact h
  · refine .ite (tlsFail_kept h) ?_
    split
    rename_i s1 e1
    have h1 : Kept s0 s1 := .of_snd e1 (freeBytes_kept h)
    split
    rename_i s2 e2
    have h2 : Kept s0 s2 := .of_snd e2 (hsign h1)
    split
    · exact requestTls_kept h2
    · exact keepMirror_kept (say_kept (modLink_kept h2))

theorem tlsAbort_kept {n} (h : Kept s0 s) : Kept s0 (tlsAbort n s) := by
  unfold tlsAbort
  exact .ite h (tlsFail_kept h)

theorem tcpConnect_kept {n ask} (h : Kept s0 s) : Kept s0 (tcpConnect n ask s) := by
  unfold tcpConnect
  extract_lets +onlyGivenNames l1 asks2
  split
  · exact h
  · split
    · exact say_kept h
    · split
      · split
        · exact requestTls_kept (say_kept (modLink_kept h))
        · exact say_kept h
      · exact keepMirror_kept (say_kept (modLink_kept h))
      · exact say_kept h

theorem execTcpConnect_kept {n ask} (h : Kept s0 s) : KeptRes s0 (execTcpConnect n ask s) := by
  unfold execTcpConnect
  exact .next (vlkUp_kept (fun _ h1 => tcpConnect_kept h1) h)

theorem execV2gtpFrame_kept {n f} (h : Kept s0 s) : KeptRes s0 (execV2gtpFrame n f s) := by
  unfold execV2gtpFrame
  exact .next (vlkUp_kept (fun _ h1 => .ite (closeWith_kept h1) h1) h)

theorem execTcpConnectionLost_kept {n} (h : Kept s0 s) : KeptRes s0 (execTcpConnectionLost n s) := by
  unfold execTcpConnectionLost
  exact .next (vlkUp_kept (fun _ h1 => .ite (endV2g_kept h1) h1) h)

theorem execV2gIdleTimeout_kept {n} (h : Kept s0 s) : KeptRes s0 (execV2gIdleTimeout n s) := by
  unfold execV2gIdleTimeout
  exact .next (vlkUp_kept (fun _ h1 => .ite (closeWith_kept h1) h1) h)

theorem deliver_kept {seq d} (h : Kept s0 s) : Kept s0 (deliver seq d s) := by
  unfold deliver
  exact completeSeq_kept (.units h)

theorem postDecide_kept {d why verdict} (h : Kept s0 s) : Kept s0 (postDecide d why verdict s) := by
  unfold postDecide
  exact postMail_kept h

theorem authAccept_kept {d ref limit} (h : Kept s0 s) : Kept s0 (authAccept d ref limit s) := by
  unfold authAccept
  exact .ite (modOut_kept h) h

theorem authDeny_kept {d} (h : Kept s0 s) : Kept s0 (authDeny d s) := by
  unfold authDeny
  exact .ite (modOut_kept h) h

theorem forSession_kept {d} {act : State → State} (hact : ∀ t, Kept s0 t → Kept s0 (act t)) (h : Kept s0 s) : Kept s0 (forSession d act s) := by
  unfold forSession
  exact .ite (hact _ h) h

theorem setSchedule_kept {d ps currency} (h : Kept s0 s) : Kept s0 (setSchedule d ps currency s) := by
  unfold setSchedule
  exact forSession_kept (fun _ h1 => modLink_kept (modMirror_kept h1)) h

theorem applyDefault_kept {d} (h : Kept s0 s) : Kept s0 (applyDefault d s).2 := by
  unfold applyDefault
  split
  · split
    · split
      rename_i s1 e1
      have h1 : Kept s0 s1 := .of_snd e1 (listLookup_kept h)
      split
      · exact authAccept_kept h1
      · exact authDeny_kept h1
    · exact h
  · exact .ite_snd (.ite_snd (forSession_kept (fun _ h2 => modLink_kept h2) h) (setSchedule_kept h)) (forSession_kept (fun _ h3 =>
      answer_kept h3) h)

theorem needDecision_kept {n kind seconds fields body} (h : Kept s0 s) : Kept s0 (needDecision n kind seconds fields body s) := by
  unfold needDecision
  extract_lets +onlyGivenNames l1 d2 s3
  extract_lets +onlyGivenNames s4
  have h4 : Kept s0 s4 := .units h
  split
  · split
    rename_i s5 e5
    have h5 : Kept s0 s5 := .of_snd e5 (applyDefault_kept h4)
    exact postDecide_kept (.units h5)
  · extract_lets +onlyGivenNames s6
    extract_lets +onlyGivenNames s7
    have h7 : Kept s0 s7 := .units h4
    split
    · exact deliver_kept (.units h7)
    · exact postDecide_kept h7

theorem decisionDeadline_kept {reqId} (h : Kept s0 s) : Kept s0 (decisionDeadline reqId s) := by
  unfold decisionDeadline
  split
  · split
    · extract_lets +onlyGivenNames s1
      extract_lets s2
      have h2 : Kept s0 s2 := .units h
      split
      rename_i s3 e3
      have h3 : Kept s0 s3 := .of_snd e3 (applyDefault_kept h2)
      exact postDecide_kept h3
    · exact h
  · exact h

theorem execDecisionDeadline_kept {reqId} (h : Kept s0 s) : KeptRes s0 (execDecisionDeadline reqId s) := by
  unfold execDecisionDeadline
  exact .next (vlkUp_kept (fun _ h1 => decisionDeadline_kept h1) h)

theorem decisionWaitTimeout_kept (h : Kept s0 s) : Kept s0 (decisionWaitTimeout s) := by
  unfold decisionWaitTimeout
  split
  · exact completeSeq_kept (.units h)
  · exact h

theorem execDecisionWaitTimeout_kept (h : Kept s0 s) : KeptRes s0 (execDecisionWaitTimeout s) := by
  unfold execDecisionWaitTimeout
  exact .next (vlkUp_kept (fun _ h1 => decisionWaitTimeout_kept h1) h)

theorem request_kept {n} {act : State → State} (hact : ∀ t, Kept s0 t → Kept s0 (act t)) (h : Kept s0 s) : Kept s0 (request n act s) := by
  unfold request
  exact vlkUp_kept (fun _ h1 => .ite (.ite (failClose_kept (modLink_kept h1)) (hact _ (modLink_kept h1))) h1) h

theorem inSession_kept {n} {act : State → State} (hact : ∀ t, Kept s0 t → Kept s0 (act t)) (h : Kept s0 s) : Kept s0 (inSession n act s) := by
  unfold inSession
  exact request_kept (fun _ h1 => .ite (hact _ h1) (sequenceFail_kept h1)) h

theorem inPhase_kept {n ok} {act : State → State} (hact : ∀ t, Kept s0 t → Kept s0 (act t)) (h : Kept s0 s) : Kept s0 (inPhase n ok act s) := by
  unfold inPhase
  exact .ite (hact _ h) (sequenceFail_kept h)

theorem goPhase_kept {n p} (h : Kept s0 s) : Kept s0 (goPhase n p s) := by
  unfold goPhase
  exact modLink_kept h

theorem appProtocol_kept {n offers} (h : Kept s0 s) : Kept s0 (appProtocol n offers s) := by
  unfold appProtocol
  refine inPhase_kept ?_ h
  intro t3 h4
  split
  · exact keepMirror_kept (modLink_kept (sayV2g_kept h4))
  · exact release_kept (sayV2g_kept h4)

theorem execSupportedAppProtocolReq_kept {n offers} (h : Kept s0 s) : KeptRes s0 (execSupportedAppProtocolReq n offers s) := by
  unfold execSupportedAppProtocolReq
  exact .next (request_kept (fun _ h1 => appProtocol_kept h1) h)

theorem notRejoined_kept {n} (h : Kept s0 s) : Kept s0 (notRejoined n s) := by
  unfold notRejoined
  exact modOut_kept (requestStop_kept (closeLink_kept (modLink_kept (postMail_kept h))))

theorem askEvccid_kept {n} (h : Kept s0 s) : Kept s0 (askEvccid n s) := by
  unfold askEvccid
  exact .ite (needDecision_kept (modMirror_kept (modLink_kept h))) h

theorem rejoin_kept {n evccid} (h : Kept s0 s) : Kept s0 (rejoin n evccid s) := by
  unfold rejoin
  exact .ite (postV2g_kept (answer_kept (keepMirror_kept (modLink_kept h)))) (askEvccid_kept (postV2g_kept (answer_kept (keepMirror_kept
      (modLink_kept h)))))

theorem sessionSetup_kept {n sid evccid} (h : Kept s0 s) : Kept s0 (sessionSetup n sid evccid s) := by
  unfold sessionSetup
  extract_lets l2
  split
  · exact answer_kept h
  · refine inPhase_kept ?_ h
    intro t6 h7
    split
    · exact .ite (rejoin_kept h7) (notRejoined_kept (answer_kept h7))
    · split
      rename_i s8 e8
      have h8 : Kept s0 s8 := .of_snd e8 (freeBytes_kept h7)
      exact askEvccid_kept (postV2g_kept (sayV2g_kept (answer_kept (keepMirror_kept (modLink_kept h8)))))

theorem execSessionSetupReq_kept {n sessionId evccid} (h : Kept s0 s) : KeptRes s0 (execSessionSetupReq n sessionId evccid s) := by
  unfold execSessionSetupReq
  exact .next (request_kept (fun _ h1 => sessionSetup_kept h1) h)

theorem paymentDetails_kept {n c} (h : Kept s0 s) : Kept s0 (paymentDetails n c s) := by
  unfold paymentDetails
  extract_lets +onlyGivenNames l1 allowed2
  split
  · exact sequenceFail_kept h
  · split
    · exact keepMirror_kept (answer_kept (modLink_kept h))
    · exact answer_kept (modLink_kept h)

theorem execPaymentDetailsReq_kept {n c} (h : Kept s0 s) : KeptRes s0 (execPaymentDetailsReq n c s) := by
  unfold execPaymentDetailsReq
  exact .next (inSession_kept (fun _ h1 => paymentDetails_kept h1) h)

theorem authAnswer_kept {n} (h : Kept s0 s) : Kept s0 (authAnswer n s) := by
  unfold authAnswer
  exact .ite (answer_kept h) (.ite (answer_kept (goPhase_kept h)) (answer_kept (goPhase_kept h)))

theorem authorization_kept {n contract} (h : Kept s0 s) : Kept s0 (authorization n contract s) := by
  unfold authorization
  extract_lets l2 o3
  refine inPhase_kept ?_ h
  intro t6 h7
  split
  · split
    · exact sequenceFail_kept h7
    · exact .ite (authAnswer_kept h7) (authAnswer_kept (needDecision_kept h7))
  · exact authAnswer_kept h7

theorem execAuthorizationReq_kept {n contract} (h : Kept s0 s) : KeptRes s0 (execAuthorizationReq n contract s) := by
  unfold execAuthorizationReq
  exact .next (inSession_kept (fun _ h1 => authorization_kept h1) h)

theorem sendTariff_kept {n} (h : Kept s0 s) : Kept s0 (sendTariff n s) := by
  unfold sendTariff
  exact .ite (sayV2g_kept h) h

theorem sendSchedule_kept {n} (h : Kept s0 s) : Kept s0 (sendSchedule n s) := by
  unfold sendSchedule
  exact sendTariff_kept (.ite (.ite (sayV2g_kept (.ite h (sayV2g_kept h))) (.ite h (sayV2g_kept h))) (sendLimit_kept (.ite (sayV2g_kept
      (.ite h (sayV2g_kept h))) (.ite h (sayV2g_kept h)))))

theorem schedFinished_kept {n} (h : Kept s0 s) : Kept s0 (schedFinished n s) := by
  unfold schedFinished
  exact release_kept (modLink_kept (sendSchedule_kept (answer_kept h)))

theorem exchangeOngoing_kept {n} (h : Kept s0 s) : Kept s0 (exchangeOngoing n s) := by
  unfold exchangeOngoing
  exact .ite (answer_kept h) (sendLimit_kept (answer_kept h))

theorem chargeParameters_kept {n p} (h : Kept s0 s) : Kept s0 (chargeParameters n p s) := by
  unfold chargeParameters
  refine inPhase_kept (fun _ h2 => .ite (answer_kept (.ite (keepMirror_kept (modLink_kept h2)) (needDecision_kept (keepMirror_kept
      (modLink_kept h2))))) (.ite (schedFinished_kept (.ite (keepMirror_kept (modLink_kept h2)) (needDecision_kept (keepMirror_kept
      (modLink_kept h2))))) (exchangeOngoing_kept (.ite (keepMirror_kept (modLink_kept h2)) (needDecision_kept (keepMirror_kept
      (modLink_kept h2))))))) h

theorem execChargeParameterDiscoveryReq_kept {n p} (h : Kept s0 s) : KeptRes s0 (execChargeParameterDiscoveryReq n p s) := by
  unfold execChargeParameterDiscoveryReq
  exact .next (inSession_kept (fun _ h1 => .ite (chargeParameters_kept h1) (sequenceFail_kept h1)) h)

theorem execCertificateInstallationReq_kept {n update body} (h : Kept s0 s) : KeptRes s0 (execCertificateInstallationReq n update body s) := by
  unfold execCertificateInstallationReq
  exact .next (inSession_kept (fun _ h1 => inPhase_kept (fun _ h2 => .ite (sequenceFail_kept h2) (needDecision_kept h2)) h1) h)

theorem chargingStatus_kept {n} (h : Kept s0 s) : Kept s0 (chargingStatus n s) := by
  unfold chargingStatus
  exact inPhase_kept (fun _ h1 => .ite (sendAs_kept (sendLimit_kept (answerAs_kept h1))) (sendLimit_kept (answerAs_kept h1))) h

theorem execChargingStatusReq_kept {n} (h : Kept s0 s) : KeptRes s0 (execChargingStatusReq n s) := by
  unfold execChargingStatusReq
  exact .next (inSession_kept (fun _ h1 => chargingStatus_kept h1) h)

theorem sessionStop_kept {n pause} (h : Kept s0 s) : Kept s0 (sessionStop n pause s) := by
  unfold sessionStop
  exact .ite (sequenceFail_kept h) (.ite (endV2g_kept (say_kept (answer_kept h))) (requestStop_kept (endV2g_kept (say_kept (answer_kept
      h)))))

theorem execSessionStopReq_kept {n pause} (h : Kept s0 s) : KeptRes s0 (execSessionStopReq n pause s) := by
  unfold execSessionStopReq
  exact .next (inSession_kept (fun _ h1 => sessionStop_kept h1) h)

theorem v2gOther_kept {n k} (h : Kept s0 s) : Kept s0 (v2gOther n k s) := by
  unfold v2gOther
  extract_lets l1 contract2 bptOn3
  split
  · exact inPhase_kept (fun _ h4 => sayV2g_kept (sayV2g_kept (answer_kept (goPhase_kept h4)))) h
  · exact inPhase_kept (fun _ h5 => sayV2g_kept (answer_kept (goPhase_kept h5))) h
  · exact .ite (inPhase_kept (fun _ h6 => answer_kept h6) h) (sequenceFail_kept h)
  · exact .ite (inPhase_kept (fun _ h7 => sayV2g_kept (answer_kept h7)) h) (sequenceFail_kept h)
  · exact .ite (sequenceFail_kept h) (inPhase_kept (fun _ h8 => keepMirror_kept (answer_kept (modLink_kept h8))) h)
  · exact .ite (sequenceFail_kept h) (inPhase_kept (fun _ h9 => keepMirror_kept (answer_kept (modLink_kept h9))) h)
  · exact inPhase_kept (fun _ h10 => sayV2g_kept (answer_kept (goPhase_kept h10))) h
  · exact inPhase_kept (fun _ h11 => keepMirror_kept (goPhase_kept (modLink_kept (answerAs_kept h11)))) h
  · exact inPhase_kept (fun _ h12 => answer_kept (goPhase_kept h12)) h
  · exact inPhase_kept (fun _ h13 => answer_kept (goPhase_kept h13)) h
  · exact inPhase_kept (fun _ h14 => answer_kept (goPhase_kept h14)) h
  · exact inPhase_kept (fun _ h15 => answer_kept (goPhase_kept h15)) h
  · exact inPhase_kept (fun _ h16 => answer_kept (goPhase_kept h16)) h
  · exact inPhase_kept (fun _ h17 => answer_kept (goPhase_kept h17)) h
  · exact sequenceFail_kept h

theorem execV2gRequest_kept {n k} (h : Kept s0 s) : KeptRes s0 (execV2gRequest n k s) := by
  unfold execV2gRequest
  exact .next (.ite (request_kept (fun _ h1 => failClose_kept h1) h) (inSession_kept (fun _ h2 => v2gOther_kept h2) h))

theorem execResumeTimeout_kept {n} (h : Kept s0 s) : KeptRes s0 (execResumeTimeout n s) := by
  unfold execResumeTimeout
  refine .next (vlkUp_kept ?_ h)
  intro t3 h4
  split
  · exact .ite (notRejoined_kept h4) h4
  · exact h4

theorem restoreLinks_kept (h : Kept s0 s) : Kept s0 (restoreLinks s) := by
  unfold restoreLinks
  exact forFin_kept (fun _ _ h1 => .ite h1 (modLink_kept h1)) h

theorem vlkDecisionWait_kept {f} (h : Kept s0 s) : Kept s0 (vlkDecisionWait f s) := by
  unfold vlkDecisionWait
  extract_lets +onlyGivenNames ms1
  split
  · exact completeSt_kept h
  · split
    · exact completeSt_kept h
    · split
      · exact deliver_kept h
      · exact keepRunning_kept (.units h)

theorem runVlkDecisionWait_kept (h : Kept s0 s) : KeptRes s0 (runVlkDecisionWait s) := by
  unfold runVlkDecisionWait
  exact .next (dispatch_kept (fun _ _ h1 => vlkDecisionWait_kept h1) h)

theorem answerAuth_kept {d v ref lim} (h : Kept s0 s) : Kept s0 (answerAuth d v ref lim s).2 := by
  unfold answerAuth
  exact .ite_snd h (.ite_snd (.ite (learnContract_kept (authAccept_kept h)) (authAccept_kept h)) (.ite (authDeny_kept h) h))

theorem vlkDecisionAnswer_kept {f} (h : Kept s0 s) : Kept s0 (vlkDecisionAnswer f s) := by
  unfold vlkDecisionAnswer
  extract_lets +onlyGivenNames id kind v found bpt data
  refine .ite (complete_kept h) (.ite (complete_kept h) ?_)
  clear_value found
  split
  · exact complete_kept h
  · extract_lets +onlyGivenNames drop
    have hd : Kept s0 (drop s) := .units h
    refine .ite (complete_kept h) (.ite ?_ (.ite (.ite ?_ ?_) (.ite ?_ ?_)))
    · exact complete_kept (answerAuth_kept hd)
    · exact complete_kept (setSchedule_kept hd)
    · exact complete_kept (forSession_kept (fun _ h => requestStop_kept (modLink_kept h)) hd)
    · exact complete_kept (forSession_kept (fun _ h => answer_kept h) hd)
    · have h1 := drawBool_kept h
      exact .ite (complete_kept (forSession_kept (fun _ h => sayV2g_kept h) (.units h1))) (complete_kept h1)

theorem runVlkDecisionAnswer_kept (h : Kept s0 s) : KeptRes s0 (runVlkDecisionAnswer s) := by
  unfold runVlkDecisionAnswer
  exact .next (dispatch_kept (fun _ _ h1 => vlkDecisionAnswer_kept h1) h)

theorem vlkRenegotiate_kept {f} (h : Kept s0 s) : Kept s0 (vlkRenegotiate f s) := by
  unfold vlkRenegotiate
  exact .ite (completeSt_kept (modLink_kept h)) (completeSt_kept h)

theorem runVlkRenegotiate_kept (h : Kept s0 s) : KeptRes s0 (runVlkRenegotiate s) := by
  unfold runVlkRenegotiate
  exact .next (dispatch_kept (fun _ _ h1 => vlkRenegotiate_kept h1) h)

theorem runVlkSessionRead_kept (h : Kept s0 s) : KeptRes s0 (runVlkSessionRead s) := by
  unfold runVlkSessionRead
  exact .next (dispatch_kept (fun _ _ h1 => complete_kept h1) h)

theorem vlkCertWrite_kept {f} (h : Kept s0 s) : Kept s0 (vlkCertWrite f s) := by
  unfold vlkCertWrite
  extract_lets +onlyGivenNames which1 idx2 done3
  split
  · exact .ite (completeSt_kept h) (.ite (complete_kept (.units h)) (.ite (completeSt_kept h) (complete_kept (.units h))))
  · split
    · split
      · exact .ite (completeSt_kept h) (.ite (completeSt_kept h) (complete_kept (.units h)))
      · exact completeSt_kept h
    · exact completeSt_kept h

theorem runVlkCertWrite_kept (h : Kept s0 s) : KeptRes s0 (runVlkCertWrite s) := by
  unfold runVlkCertWrite
  exact .next (dispatch_kept (fun _ _ h1 => vlkCertWrite_kept h1) h)

theorem vlkCertRead_kept {f} (h : Kept s0 s) : Kept s0 (vlkCertRead f s) := by
  unfold vlkCertRead
  exact .ite (completeSt_kept h) (.ite (complete_kept h) (complete_kept h))

theorem runVlkCertRead_kept (h : Kept s0 s) : KeptRes s0 (runVlkCertRead s) := by
  unfold runVlkCertRead
  exact .next (dispatch_kept (fun _ _ h1 => vlkCertRead_kept h1) h)

theorem writeVlkCfg_kept {v} (h : Kept s0 s) : Kept s0 (writeVlkCfg v s) := by
  unfold writeVlkCfg
  exact .ite (.units h) (.units h)

theorem writeVlkTiming_kept {v} (h : Kept s0 s) : Kept s0 (writeVlkTiming v s) := by
  unfold writeVlkTiming
  exact .ite (.units h) (.units h)

theorem cryTo_kept {slot o} (h : Kept s0 s) : Kept s0 (cryTo slot o s) := by
  unfold cryTo
  exact emit_kept h

theorem cry_kept {o} (h : Kept s0 s) : Kept s0 (cry o s) := by
  unfold cry
  exact cryTo_kept h

theorem queueD_kept {slot o} (h : Kept s0 s) : Kept s0 (queueD slot o s) := by
  unfold queueD
  exact .units h

theorem sendEther_kept {e} (h : Kept s0 s) : Kept s0 (sendEther e s) := by
  unfold sendEther
  exact emit_kept h

theorem modTok_kept {f} (h : Kept s0 s) : Kept s0 (modTok f s) := by
  unfold modTok
  exact .units h

theorem persistTokens_kept (h : Kept s0 s) : Kept s0 (persistTokens s) := by
  unfold persistTokens
  exact .units h

theorem putTok_kept {f} (h : Kept s0 s) : Kept s0 (putTok f s) := by
  unfold putTok
  exact persistTokens_kept (modTok_kept h)

theorem postSctIntegrity_kept {k} (h : Kept s0 s) : Kept s0 (postSctIntegrity k s) := by
  unfold postSctIntegrity
  exact postMail_kept h

theorem reconcileTokens_kept (h : Kept s0 s) : Kept s0 (reconcileTokens s) := by
  unfold reconcileTokens
  split
  · exact .units h
  · exact postSctIntegrity_kept (.units h)

theorem takeBack_kept {held} (h : Kept s0 s) : Kept s0 (takeBack held s) := by
  unfold takeBack
  exact .ite (postSctIntegrity_kept (putTok_kept (.units h))) h

theorem tickPeaks_kept (h : Kept s0 s) : Kept s0 (tickPeaks s) := by
  unfold tickPeaks
  exact .units h

theorem takeTokens_kept {n d} (h : Kept s0 s) : Kept s0 (takeTokens n d s) := by
  unfold takeTokens
  exact .ite h (.foldl (fun _ _ h1 => modTok_kept h1) h)

theorem takeAll_kept {n} (h : Kept s0 s) : Kept s0 (takeAll n s) := by
  unfold takeAll
  exact forFin_kept (fun _ _ h1 => .ite h1 (modTok_kept h1)) h

theorem takeExcess_kept (h : Kept s0 s) : Kept s0 (takeExcess s) := by
  unfold takeExcess
  exact forFin_kept (fun _ _ h1 => .ite (takeAll_kept h1) (takeTokens_kept h1)) h

theorem freeTokens_kept {p k} (h : Kept s0 s) : Kept s0 (freeTokens p k s) := by
  induction k generalizing s with
  | zero => exact h
  | succ k ih =>
    unfold freeTokens
    split
    · exact ih (takeTokens_kept h)
    · exact h

theorem payOwed_kept {p} (h : Kept s0 s) : Kept s0 (payOwed p s) := by
  unfold payOwed
  exact .ite h (.ite (modTok_kept (modTok_kept h)) (modTok_kept h))

theorem postBudget_kept (h : Kept s0 s) : Kept s0 (postBudget s) := by
  unfold postBudget
  exact postMail_kept h

theorem settleOwed_kept (h : Kept s0 s) : Kept s0 (settleOwed s) := by
  unfold settleOwed
  exact .ite (postBudget_kept (.units (forFin_kept (fun _ _ h1 => payOwed_kept (freeTokens_kept (payOwed_kept h1))) h))) (forFin_kept
      (fun _ _ h2 => payOwed_kept (freeTokens_kept (payOwed_kept h2))) h)

theorem giveSurplus_kept (h : Kept s0 s) : Kept s0 (giveSurplus s) := by
  unfold giveSurplus
  split
  · refine forFin_kept ?_ h
    intro x4 t5 h6
    split
    · exact freeTokens_kept h6
    · exact h6
  · exact h

theorem giveTokens_kept {n d} (h : Kept s0 s) : Kept s0 (giveTokens n d s) := by
  unfold giveTokens
  exact .foldl (fun _ _ h1 => modTok_kept h1) h

theorem assignSpare_kept (h : Kept s0 s) : Kept s0 (assignSpare s) := by
  unfold assignSpare
  exact .foldl (fun _ _ h1 => giveTokens_kept h1) (.foldl (fun _ _ h2 => .ite (giveTokens_kept h2) h2) h)

theorem handOver_kept (h : Kept s0 s) : Kept s0 (handOver s) := by
  unfold handOver
  exact forFin_kept (fun _ _ h1 => modOut_kept h1) h

theorem tickCapacity_kept (h : Kept s0 s) : Kept s0 (tickCapacity s) := by
  unfold tickCapacity
  exact .units h

theorem agentPoll_kept (h : Kept s0 s) : Kept s0 (agentPoll s) := by
  unfold agentPoll
  extract_lets +onlyGivenNames s1
  have h1 : Kept s0 s1 := tickPeaks_kept h
  exact .ite (tickCapacity_kept (handOver_kept (.ite (assignSpare_kept (giveSurplus_kept (settleOwed_kept (takeExcess_kept h1))))
      (persistTokens_kept (assignSpare_kept (giveSurplus_kept (settleOwed_kept (takeExcess_kept h1)))))))) h1

theorem execCoolingEnd_kept (h : Kept s0 s) : KeptRes s0 (execCoolingEnd s) := by
  unfold execCoolingEnd
  exact .next (.ite (putTok_kept h) h)

theorem execCapacityStop_kept {n} (h : Kept s0 s) : KeptRes s0 (execCapacityStop n s) := by
  unfold execCapacityStop
  refine .next ?_
  split
  · exact .ite (requestStop_kept (.units h)) h
  · exact h

theorem sctReject_kept (h : Kept s0 s) : Kept s0 (sctReject s) := by
  unfold sctReject
  exact .units h

theorem discardTokens_kept (h : Kept s0 s) : Kept s0 (discardTokens s) := by
  unfold discardTokens
  exact putTok_kept (.units h)

theorem changeMode_kept (h : Kept s0 s) : Kept s0 (changeMode s) := by
  unfold changeMode
  exact .ite (discardTokens_kept h) (putTok_kept (discardTokens_kept h))

theorem writeSctCfg_kept {v} (h : Kept s0 s) : Kept s0 (writeSctCfg v s) := by
  unfold writeSctCfg
  exact .ite (sctReject_kept h) (.ite (changeMode_kept (.units h)) (.units h))

theorem execSctModeWrite_kept {v} (h : Kept s0 s) : KeptRes s0 (execSctModeWrite v s) := by
  unfold execSctModeWrite
  exact .next (hostAcc_kept (fun _ h1 => writeSctCfg_kept h1) h)

theorem writeSctLocal_kept {p v} (h : Kept s0 s) : Kept s0 (writeSctLocal p v s) := by
  unfold writeSctLocal
  exact .ite (.units h) (.ite (putTok_kept (.units h)) (persistTokens_kept (payOwed_kept (modTok_kept (.units h)))))

theorem settleSct_kept {mode loc} (h : Kept s0 s) : Kept s0 (settleSct mode loc s) := by
  unfold settleSct
  exact .ite (changeMode_kept (.units h)) (forFin_kept (fun _ _ h1 => writeSctLocal_kept h1) h)

theorem execSctLocalWrite_kept {p v} (h : Kept s0 s) : KeptRes s0 (execSctLocalWrite p v s) := by
  unfold execSctLocalWrite
  exact .next (hostAcc_kept (fun _ h1 => writeSctLocal_kept h1) h)

theorem modEntry_kept {k f} (h : Kept s0 s) : Kept s0 (modEntry k f s) := by
  unfold modEntry
  exact .units h

theorem noteRelay_kept {mtype m} (h : Kept s0 s) : Kept s0 (noteRelay mtype m s) := by
  unfold noteRelay
  exact .ite (.units (.units h)) (.units h)

theorem sendTok_kept {mtype dst m} (h : Kept s0 s) : Kept s0 (sendTok mtype dst m s) := by
  unfold sendTok
  split
  · split
    · exact noteRelay_kept (.units h)
    · exact h
  · exact .units h

theorem receiveTok_kept {mtype dst m} {act : State → State} (hact : ∀ t, Kept s0 t → Kept s0 (act t)) (h : Kept s0 s) : Kept s0 (receiveTok mtype dst m act s) := by
  unfold receiveTok
  exact .ite (.ite (hact _ h) (.ite (sendTok_kept h) h)) (.ite (sendTok_kept h) h)

theorem postDoubt_kept {k xid p n} (h : Kept s0 s) : Kept s0 (postDoubt k xid p n s) := by
  unfold postDoubt
  exact postMail_kept h

theorem actMove_kept {m} (h : Kept s0 s) : Kept s0 (actMove m s) := by
  unfold actMove
  exact .ite (.units h) (sendTok_kept (putTok_kept (.units (.units h))))

theorem execMove_kept {m} (h : Kept s0 s) : KeptRes s0 (execMove m s) := by
  unfold execMove
  exact .next (receiveTok_kept (fun _ h1 => actMove_kept h1) h)

theorem closeXfer_kept {x back} (h : Kept s0 s) : Kept s0 (closeXfer x back s) := by
  unfold closeXfer
  exact .ite (.units (putTok_kept h)) (putTok_kept h)

theorem setXfer_kept {x st} (h : Kept s0 s) : Kept s0 (setXfer x st s) := by
  unfold setXfer
  exact putTok_kept h

theorem execAccept_kept {m} (h : Kept s0 s) : KeptRes s0 (execAccept m s) := by
  unfold execAccept
  refine .next (receiveTok_kept ?_ h)
  intro t3 h4
  split
  · exact .ite (setXfer_kept h4) h4
  · exact h4

theorem execRefuse_kept {m} (h : Kept s0 s) : KeptRes s0 (execRefuse m s) := by
  unfold execRefuse
  refine .next (receiveTok_kept ?_ h)
  intro t3 h4
  split
  · exact .ite (closeXfer_kept h4) h4
  · exact h4

theorem execAck_kept {m} (h : Kept s0 s) : KeptRes s0 (execAck m s) := by
  unfold execAck
  refine .next (receiveTok_kept ?_ h)
  intro t3 h4
  split
  · exact .ite (closeXfer_kept h4) h4
  · exact h4

theorem actResolve_kept {xid result} (h : Kept s0 s) : Kept s0 (actResolve xid result s) := by
  unfold actResolve
  split
  · exact .ite (postDoubt_kept (closeXfer_kept h)) h
  · exact h

theorem execResolve_kept {m} (h : Kept s0 s) : KeptRes s0 (execResolve m s) := by
  unfold execResolve
  exact .next (receiveTok_kept (fun _ h1 => actResolve_kept h1) h)

theorem execOffer_kept {m} (h : Kept s0 s) : KeptRes s0 (execOffer m s) := by
  unfold execOffer
  refine .next (receiveTok_kept ?_ h)
  intro t3 h4
  split
  · exact h4
  · split
    · exact sendTok_kept h4
    · split
      · exact .ite (sendTok_kept h4) h4
      · exact .ite (sendTok_kept h4) (sendTok_kept (putTok_kept h4))

theorem execCommit_kept {m} (h : Kept s0 s) : KeptRes s0 (execCommit m s) := by
  unfold execCommit
  refine .next (receiveTok_kept ?_ h)
  intro t3 h4
  split
  · exact .ite (sendTok_kept (.units (putTok_kept h4))) (.ite (sendTok_kept h4) h4)
  · exact h4

theorem execQuery_kept {m} (h : Kept s0 s) : KeptRes s0 (execQuery m s) := by
  unfold execQuery
  exact .next (receiveTok_kept (fun _ h1 => sendTok_kept h1) h)

theorem settleTaken_kept {sender xid committed} (h : Kept s0 s) : Kept s0 (settleTaken sender xid committed s) := by
  unfold settleTaken
  split
  · exact putTok_kept h
  · exact h

theorem learnVerdict_kept {m committed kept} (h : Kept s0 s) : Kept s0 (learnVerdict m committed kept s) := by
  unfold learnVerdict
  exact .ite (actResolve_kept (settleTaken_kept (.ite h (.units h)))) (sendTok_kept (settleTaken_kept (.ite h (.units h))))

theorem askDoubt_kept {m} (h : Kept s0 s) : Kept s0 (askDoubt m s) := by
  unfold askDoubt
  split
  · exact learnVerdict_kept h
  · split
    · split
      · exact learnVerdict_kept h
      · exact learnVerdict_kept h
      · exact h
    · exact sendTok_kept h

theorem postMember_kept {k serial slot} (h : Kept s0 s) : Kept s0 (postMember k serial slot s) := by
  unfold postMember
  exact postMail_kept h

theorem decideFor_kept {serial} (h : Kept s0 s) : Kept s0 (decideFor serial s) := by
  unfold decideFor
  exact .foldl (fun _ _ h1 => learnVerdict_kept h1) h

theorem retireStep_kept {r} (h : Kept s0 s) : Kept s0 (retireStep r s) := by
  unfold retireStep
  extract_lets +onlyGivenNames e one
  have hone : ∀ a x, Kept s0 a.2 → Kept s0 (one a x).2 := by
    intro a x ha
    obtain ⟨r, t⟩ := a
    show Kept s0 (Prod.snd (match verdictOf _ _ _ with | some _ => _ | none => _))
    have h1 : ∀ c : Prop, [Decidable c] → ∀ m, Kept s0 (if c then askDoubt m t else t) := fun _ _ _ => .ite (askDoubt_kept ha) ha
    split
    · exact h1 _ _
    · exact .ite_snd (h1 _ _) (putTok_kept (h1 _ _))
  split
  rename_i r' s1 e1
  have h1 : Kept s0 s1 := .of_snd e1 (.foldl_snd hone h)
  extract_lets keep
  exact .ite (.units h1) (.foldl (fun _ _ h => completeSeq_kept h) (postMember_kept (.units (decideFor_kept (modEntry_kept (.units
    (putTok_kept h1)))))))

theorem retireAll_kept (h : Kept s0 s) : Kept s0 (retireAll s) := by
  unfold retireAll
  exact .foldl (fun _ _ h1 => retireStep_kept h1) h

theorem execStatus_kept {m} (h : Kept s0 s) : KeptRes s0 (execStatus m s) := by
  unfold execStatus
  exact .next (.ite (retireAll_kept (learnVerdict_kept h)) h)

theorem transferDeadline_kept (h : Kept s0 s) : Kept s0 (transferDeadline s) := by
  unfold transferDeadline
  extract_lets dfn5 late6 s7 dead8 s9
  have h7 : Kept s0 s7 := .foldl (fun _ _ h10 => .ite (closeXfer_kept h10) (.ite (postDoubt_kept (setXfer_kept h10)) h10)) h
  have h9 : Kept s0 s9 := .ite (putTok_kept h7) h7
  exact .ite (retireAll_kept h9) h9

theorem execTransferDeadline_kept (h : Kept s0 s) : KeptRes s0 (execTransferDeadline s) := by
  unfold execTransferDeadline
  exact .next (.ite (transferDeadline_kept h) h)

theorem adoptBudget_kept {ed b} (h : Kept s0 s) : Kept s0 (adoptBudget ed b s) := by
  unfold adoptBudget
  exact .ite (putTok_kept (.units h)) (.ite (putTok_kept h) h)

theorem forgetVerdicts_kept {serial open_} (h : Kept s0 s) : Kept s0 (forgetVerdicts serial open_ s) := by
  unfold forgetVerdicts
  exact .units h

theorem memberReport_kept {slot r} (h : Kept s0 s) : Kept s0 (memberReport slot r s) := by
  unfold memberReport
  exact .ite h (adoptBudget_kept (forgetVerdicts_kept (modEntry_kept h)))

theorem execMemberReport_kept {slot r} (h : Kept s0 s) : KeptRes s0 (execMemberReport slot r s) := by
  unfold execMemberReport
  exact .next (.ite (memberReport_kept h) h)

theorem execMemberAbsent_kept {slot} (h : Kept s0 s) : KeptRes s0 (execMemberAbsent slot s) := by
  unfold execMemberAbsent
  exact .next (.ite (postMember_kept (modEntry_kept h)) h)

theorem keepOwn_kept (h : Kept s0 s) : Kept s0 (keepOwn s) := by
  unfold keepOwn
  exact .ite h (.units h)

theorem refreshSelf_kept (h : Kept s0 s) : Kept s0 (refreshSelf s) := by
  unfold refreshSelf
  exact modEntry_kept (keepOwn_kept h)

theorem dropReleased_kept {rel} (h : Kept s0 s) : Kept s0 (dropReleased rel s) := by
  unfold dropReleased
  exact .ite (putTok_kept h) h

theorem budgetShown_kept {ed} (h : Kept s0 s) : Kept s0 (budgetShown ed s) := by
  unfold budgetShown
  split
  exact .foldl (fun _ _ h1 => completeSeq_kept h1) (.units h)

theorem ledgerDigest_kept {d rel} (h : Kept s0 s) : Kept s0 (ledgerDigest d rel s) := by
  unfold ledgerDigest
  exact takeBack_kept (dropReleased_kept (budgetShown_kept (adoptBudget_kept (.units h))))

theorem execLedgerDigest_kept {d rel} (h : Kept s0 s) : KeptRes s0 (execLedgerDigest d rel s) := by
  unfold execLedgerDigest
  exact .next (.ite (ledgerDigest_kept h) h)

theorem applyBudget_kept {target ed} (h : Kept s0 s) : Kept s0 (applyBudget target ed s) := by
  unfold applyBudget
  exact .ite (persistTokens_kept (settleOwed_kept (.units (putTok_kept h)))) h

theorem execBudgetRequest_kept {target edition} (h : Kept s0 s) : KeptRes s0 (execBudgetRequest target edition s) := by
  unfold execBudgetRequest
  exact .next (.ite (applyBudget_kept h) h)

theorem sharing_kept (h : Kept s0 s) : Kept s0 (sharing s) := by
  unfold sharing
  exact dropReleased_kept (.foldl (fun _ _ h1 => .ite (actMove_kept h1) (sendTok_kept h1)) (.units (forFin_kept (fun _ _ h2 =>
      modEntry_kept h2) (refreshSelf_kept h))))

theorem execSharingComputation_kept (h : Kept s0 s) : KeptRes s0 (execSharingComputation s) := by
  unfold execSharingComputation
  exact .next (.ite (sharing_kept h) h)

theorem refuseNode_kept (h : Kept s0 s) : Kept s0 (refuseNode s) := by
  unfold refuseNode
  exact postMail_kept (.units (.ite (handOver_kept (discardTokens_kept h)) h))

theorem joinTokens_kept {domain} (h : Kept s0 s) : Kept s0 (joinTokens domain s) := by
  unfold joinTokens
  exact .ite (postMail_kept (.units (.ite h (.ite (handOver_kept (putTok_kept (discardTokens_kept h))) (putTok_kept h))))) (.ite h (.ite
      (handOver_kept (putTok_kept (discardTokens_kept h))) (putTok_kept h)))

theorem execJoinRetry_kept (h : Kept s0 s) : KeptRes s0 (execJoinRetry s) := by
  unfold execJoinRetry
  refine .next ?_
  split
  · exact .ite (.units h) h
  · exact h

theorem sctBudgetSet_kept {f} (h : Kept s0 s) : Kept s0 (sctBudgetSet f s) := by
  unfold sctBudgetSet
  exact .ite (complete_kept h) (.ite (applyBudget_kept (keepRunning_kept (.units h))) (cryTo_kept (keepRunning_kept (.units h))))

theorem runSctBudgetSet_kept (h : Kept s0 s) : KeptRes s0 (runSctBudgetSet s) := by
  unfold runSctBudgetSet
  exact .next (dispatch_kept (fun _ _ h1 => sctBudgetSet_kept h1) h)

theorem execSctBudgetSetTimeout_kept (h : Kept s0 s) : KeptRes s0 (execSctBudgetSetTimeout s) := by
  unfold execSctBudgetSetTimeout
  refine .next ?_
  split
  · exact completeSeq_kept (.units h)
  · exact h

theorem runSctRead_kept (h : Kept s0 s) : KeptRes s0 (runSctRead s) := by
  unfold runSctRead
  exact .next (dispatch_kept (fun _ _ h1 => complete_kept h1) h)

theorem runSctLedgerRead_kept (h : Kept s0 s) : KeptRes s0 (runSctLedgerRead s) := by
  unfold runSctLedgerRead
  exact .next (dispatch_kept (fun _ _ h1 => .ite (complete_kept (refreshSelf_kept h1)) (completeSt_kept h1)) h)

theorem sctRetire_kept {f} (h : Kept s0 s) : Kept s0 (sctRetire f s) := by
  unfold sctRetire
  extract_lets serial1
  split
  · exact completeSt_kept h
  · split
    · exact completeSt_kept h
    · exact .ite (completeSt_kept h) (retireStep_kept (modEntry_kept (keepRunning_kept h)))

theorem runSctRetire_kept (h : Kept s0 s) : KeptRes s0 (runSctRetire s) := by
  unfold runSctRetire
  exact .next (dispatch_kept (fun _ _ h1 => sctRetire_kept h1) h)

theorem execSctRetireTimeout_kept (h : Kept s0 s) : KeptRes s0 (execSctRetireTimeout s) := by
  unfold execSctRetireTimeout
  refine .next ?_
  extract_lets due1
  split
  · exact .units (.foldl (fun _ _ h2 => completeSeq_kept h2) h)
  · exact h

theorem putEnvelope_kept {b kind seq} (h : Kept s0 s) : Kept s0 (putEnvelope b kind seq s) := by
  unfold putEnvelope
  exact .ite (sendEther_kept h) (.ite h (modUpl_kept h))

theorem markSent_kept {seqs} (h : Kept s0 s) : Kept s0 (markSent seqs s) := by
  unfold markSent
  exact modUpl_kept h

theorem sentOnB_kept (h : Kept s0 s) : Kept s0 (sentOnB s) := by
  unfold sentOnB
  exact .ite h (modUpl_kept (markSent_kept h))

theorem sendData_kept {seqs} (h : Kept s0 s) : Kept s0 (sendData seqs s) := by
  unfold sendData
  exact .ite (markSent_kept (modUpl_kept (.foldl (fun _ _ h1 => .foldl (fun _ _ h2 => putEnvelope_kept h2) h1) h))) (.foldl (fun _ _ h3
      => .foldl (fun _ _ h4 => putEnvelope_kept h4) h3) h)

theorem pathBack_kept {b} (h : Kept s0 s) : Kept s0 (pathBack b s) := by
  unfold pathBack
  exact .ite h (.ite (postPath_kept (setPathOk_kept h)) (setPathOk_kept h))

theorem finishHinge_kept {toB cond} (h : Kept s0 s) : Kept s0 (finishHinge toB cond s) := by
  unfold finishHinge
  extract_lets s1 s2 s3
  have h1 : Kept s0 s1 := modUpl_kept h
  have h2 : Kept s0 s2 := postPath_kept h1
  have h3 : Kept s0 s3 := sendData_kept h2
  split
  · exact .ite (endDrill_kept h3) (.ite (modUpl_kept h3) (putEnvelope_kept (modUpl_kept h3)))
  · exact modUpl_kept h3

theorem tickHinge_kept (h : Kept s0 s) : Kept s0 (tickHinge s) := by
  unfold tickHinge
  split
  · exact .ite (finishHinge_kept h) h
  · exact h

theorem provePath_kept {b} (h : Kept s0 s) : Kept s0 (provePath b s) := by
  unfold provePath
  split
  · exact h
  · extract_lets +onlyGivenNames s1
    have h1 : Kept s0 s1 := modUpl_kept h
    split
    · exact .ite (endDrill_kept h1) (.ite (.ite (endDrill_kept (postPath_kept h1)) (startHinge_kept (modUpl_kept (postPath_kept h1)))) h1)
    · exact h1

theorem serveRecv_kept (h : Kept s0 s) : Kept s0 (serveRecv s) := by
  unfold serveRecv
  split
  · exact completeSeq_kept (modUpl_kept h)
  · exact h

theorem takeData_kept {b e} (h : Kept s0 s) : Kept s0 (takeData b e s) := by
  unfold takeData
  extract_lets q1
  split
  · exact modUpl_kept h
  · split
    · exact h
    · split
      exact serveRecv_kept (modUpl_kept h)

theorem takeEnvelope_kept {b e} (h : Kept s0 s) : Kept s0 (takeEnvelope b e s) := by
  unfold takeEnvelope
  exact .ite (takeData_kept (provePath_kept (pathBack_kept (modUpl_kept h)))) (provePath_kept (pathBack_kept (modUpl_kept h)))

theorem execUplinkEnvelope_kept {p e} (h : Kept s0 s) : KeptRes s0 (execUplinkEnvelope p e s) := by
  unfold execUplinkEnvelope
  refine .next ?_
  extract_lets b1
  split
  · exact .ite (takeEnvelope_kept h) h
  · split
    · split
      · exact .ite (.ite h (sendEther_kept h)) (queueD_kept h)
      · exact h
    · exact h

theorem execEnvelopeRetransmit_kept (h : Kept s0 s) : KeptRes s0 (execEnvelopeRetransmit s) := by
  unfold execEnvelopeRetransmit
  exact .next (.ite (sendData_kept h) h)

theorem execAckEnvelopeSend_kept (h : Kept s0 s) : KeptRes s0 (execAckEnvelopeSend s) := by
  unfold execAckEnvelopeSend
  exact .next (.ite (putEnvelope_kept (modUpl_kept h)) h)

theorem execPhyLinkDown_kept (h : Kept s0 s) : KeptRes s0 (execPhyLinkDown s) := by
  unfold execPhyLinkDown
  exact .next (.ite (pathFail_kept (loseReady_kept (.units h))) h)

theorem execPhyLinkUp_kept {speed} (h : Kept s0 s) : KeptRes s0 (execPhyLinkUp speed s) := by
  unfold execPhyLinkUp
  exact .next (.ite (.ite (pathBack_kept (setReady_kept (.units h))) (.units h)) h)

theorem execGatewaySilent_kept {p} (h : Kept s0 s) : KeptRes s0 (execGatewaySilent p s) := by
  unfold execGatewaySilent
  exact .next (.ite (.ite (pathFail_kept h) (startHinge_kept (postPath_kept h))) h)

theorem execHingeProofTimeout_kept (h : Kept s0 s) : KeptRes s0 (execHingeProofTimeout s) := by
  unfold execHingeProofTimeout
  refine .next ?_
  split
  · split
    · extract_lets b1 s2 s3
      have h2 : Kept s0 s2 := modUpl_kept (setPathOk_kept h)
      have h3 : Kept s0 s3 := postPath_kept (setReplace_kept h2)
      split
      · exact .ite (endDrill_kept h3) h3
      · exact h3
    · exact h
  · exact h

theorem execPathTrySwitch_kept (h : Kept s0 s) : KeptRes s0 (execPathTrySwitch s) := by
  unfold execPathTrySwitch
  refine .next ?_
  split
  · exact .ite (sendData_kept (modUpl_kept h)) h
  · exact h

theorem execDrillTimeout_kept (h : Kept s0 s) : KeptRes s0 (execDrillTimeout s) := by
  unfold execDrillTimeout
  refine .next ?_
  split
  · exact .ite (drillDead_kept h) h
  · exact h

theorem bkbUplSend_kept {f} (h : Kept s0 s) : Kept s0 (bkbUplSend f s) := by
  unfold bkbUplSend
  exact .ite (completeSt_kept h) (.ite (completeSt_kept h) (complete_kept (.ite (sendData_kept (modUpl_kept h)) (modUpl_kept h))))

theorem runBkbUplSend_kept (h : Kept s0 s) : KeptRes s0 (runBkbUplSend s) := by
  unfold runBkbUplSend
  exact .next (dispatch_kept (fun _ _ h1 => bkbUplSend_kept h1) h)

theorem bkbUplRecv_kept {f} (h : Kept s0 s) : Kept s0 (bkbUplRecv f s) := by
  unfold bkbUplRecv
  exact .ite (completeSt_kept h) (.ite (completeSt_kept h) (serveRecv_kept (keepRunning_kept (modUpl_kept h))))

theorem runBkbUplRecv_kept (h : Kept s0 s) : KeptRes s0 (runBkbUplRecv s) := by
  unfold runBkbUplRecv
  exact .next (dispatch_kept (fun _ _ h1 => bkbUplRecv_kept h1) h)

theorem execBkbUplRecvTimeout_kept (h : Kept s0 s) : KeptRes s0 (execBkbUplRecvTimeout s) := by
  unfold execBkbUplRecvTimeout
  refine .next ?_
  split
  · exact completeSeq_kept (modUpl_kept h)
  · exact h

theorem bkbUplSwitch_kept {f} (h : Kept s0 s) : Kept s0 (bkbUplSwitch f s) := by
  unfold bkbUplSwitch
  exact .ite (completeSt_kept h) (.ite (completeSt_kept h) (.ite (completeSt_kept h) (keepRunning_kept (startHinge_kept (modUpl_kept
      h)))))

theorem runBkbUplSwitch_kept (h : Kept s0 s) : KeptRes s0 (runBkbUplSwitch s) := by
  unfold runBkbUplSwitch
  exact .next (dispatch_kept (fun _ _ h1 => bkbUplSwitch_kept h1) h)

theorem writeUplCfg_kept {v} (h : Kept s0 s) : Kept s0 (writeUplCfg v s) := by
  unfold writeUplCfg
  extract_lets +onlyGivenNames en1 dual2 pref3
  split
  · exact modUpl_kept h
  · extract_lets +onlyGivenNames s4
    have h4 : Kept s0 s4 := modUpl_kept h
    split
    · exact modUpl_kept h4
    · split
      · extract_lets s5
        have h5 : Kept s0 s5 := modUpl_kept h4
        split
        · exact completeSeq_kept h5
        · exact h5
      · exact h4

theorem execBkbUplCfgWrite_kept {v} (h : Kept s0 s) : KeptRes s0 (execBkbUplCfgWrite v s) := by
  unfold execBkbUplCfgWrite
  exact .next (hostAcc_kept (fun _ h1 => writeUplCfg_kept h1) h)

theorem writeEthCfg_kept {v} (h : Kept s0 s) : Kept s0 (writeEthCfg v s) := by
  unfold writeEthCfg
  exact .ite (modUpl_kept h) (.units h)

theorem modBkb_kept {f} (h : Kept s0 s) : Kept s0 (modBkb f s) := by
  unfold modBkb
  exact .units h

theorem postRole_kept (h : Kept s0 s) : Kept s0 (postRole s) := by
  unfold postRole
  exact postMail_kept h

theorem checkPathB_kept {cond was} (h : Kept s0 s) : Kept s0 (checkPathB cond was s) := by
  unfold checkPathB
  exact .ite (.ite h (pathBack_kept h)) (.ite (pathFail_kept h) h)

theorem setRole_kept {role coord slot join} (h : Kept s0 s) : Kept s0 (setRole role coord slot join s) := by
  unfold setRole
  exact postRole_kept (checkPathB_kept (.ite (setReady_kept (modUpl_kept (modBkb_kept h))) (loseReady_kept (modBkb_kept h))))

theorem rejoinDomain_kept (h : Kept s0 s) : Kept s0 (rejoinDomain s) := by
  unfold rejoinDomain
  exact .ite (modBkb_kept h) (setRole_kept h)

theorem leaveDomain_kept (h : Kept s0 s) : Kept s0 (leaveDomain s) := by
  unfold leaveDomain
  exact modBkb_kept (rejoinDomain_kept h)

theorem cryHeader_kept {h1} (h : Kept s0 s) : Kept s0 (cryHeader h1 s) := by
  unfold cryHeader
  exact cry_kept h

theorem blockDecodes_kept {rate bps erased clean} (h : Kept s0 s) : Kept s0 (blockDecodes rate bps erased clean s).2 := by
  unfold blockDecodes
  exact .ite_snd (.ite_snd h (drawBool_kept h)) h

theorem afterSent_kept {o} (h : Kept s0 s) : Kept s0 (afterSent o s) := by
  unfold afterSent
  split
  · exact budgetShown_kept (.units h)
  · exact h

theorem sendD_kept (h : Kept s0 s) : Kept s0 (sendD s) := by
  unfold sendD
  exact .ite h (cry_kept (.foldl (fun _ _ h1 => afterSent_kept (cryTo_kept h1)) (modBkb_kept h)))

theorem pollPrep_kept {k} (h : Kept s0 s) : Kept s0 (pollPrep k s) := by
  unfold pollPrep
  exact .foldl (fun _ _ h1 => .ite (askDoubt_kept h1) h1) h

theorem sendDown_kept {k} (h : Kept s0 s) : Kept s0 (sendDown k s) := by
  unfold sendDown
  exact modEntry_kept (modBkb_kept (refreshSelf_kept (pollPrep_kept h)))

theorem pollFrame_kept {p} (h : Kept s0 s) : Kept s0 (pollFrame p s) := by
  unfold pollFrame
  exact modBkb_kept (.ite (sendDown_kept (cryHeader_kept h)) (cryHeader_kept h))

theorem nextPoll_kept (h : Kept s0 s) : Kept s0 (nextPoll s) := by
  unfold nextPoll
  extract_lets present_1 s2 start3 idle4
  have h2 : Kept s0 s2 := .ite (modBkb_kept h) h
  split
  · split
    · exact pollFrame_kept (modBkb_kept h2)
    · split
      · exact pollFrame_kept (modBkb_kept h2)
      · exact cryHeader_kept h2
  · split
    · exact pollFrame_kept (modBkb_kept h2)
    · exact cryHeader_kept h2

theorem pollFailed_kept {p} (h : Kept s0 s) : Kept s0 (pollFailed p s) := by
  unfold pollFailed
  exact .ite (modBkb_kept h) (modBkb_kept h)

theorem nextPiece_kept (h : Kept s0 s) : Kept s0 (nextPiece s) := by
  unfold nextPiece
  extract_lets run1 n2
  split
  · exact h
  · split
    · exact queueD_kept (modBkb_kept h)
    · split
      · extract_lets next3
        split
        rename_i s4 e4
        have h4 : Kept s0 s4 := .of_snd e4 (readPiece_kept h)
        exact queueD_kept (modBkb_kept h4)
      · exact h

theorem frameHead_kept (h : Kept s0 s) : Kept s0 (frameHead s) := by
  unfold frameHead
  extract_lets +onlyGivenNames d1
  split
  · exact cry_kept (cryHeader_kept h)
  · split
    · exact cryHeader_kept h
    · split
      · split
        · exact cryHeader_kept (modBkb_kept h)
        · exact cryHeader_kept h
      · extract_lets s2
        have h2 : Kept s0 s2 := by
          unfold s2
          split
          · exact .ite (pollFailed_kept h) h
          · exact h
        split
        · exact pollFrame_kept h2
        · exact nextPoll_kept h2

theorem frameContent_kept (h : Kept s0 s) : Kept s0 (frameContent s) := by
  unfold frameContent
  exact .ite (frameHead_kept h) (sendD_kept (nextPiece_kept (frameHead_kept h)))

theorem backboneFrame_kept (h : Kept s0 s) : Kept s0 (backboneFrame s) := by
  unfold backboneFrame
  extract_lets s1 s2 s3
  have h1 : Kept s0 s1 := modBkb_kept h
  have h2 : Kept s0 s2 := .ite (modBkb_kept h1) h1
  have h3 : Kept s0 s3 := by
    unfold s3
    split
    · split
      rename_i s4 e4
      have h4 : Kept s0 s4 := .of_snd e4 (drawNat_kept h2)
      exact modBkb_kept h4
    · exact h2
  exact .ite h3 (frameContent_kept h3)

theorem execBackboneFrame_kept (h : Kept s0 s) : KeptRes s0 (execBackboneFrame s) := by
  unfold execBackboneFrame
  exact .next (.ite (backboneFrame_kept h) h)

theorem hear_kept {k} (h : Kept s0 s) : Kept s0 (hear k s) := by
  unfold hear
  exact modEntry_kept h

theorem postRelay_kept {k r} (h : Kept s0 s) : Kept s0 (postRelay k r s) := by
  unfold postRelay
  exact postMail_kept h

theorem relayReport_kept {k lacking} (h : Kept s0 s) : Kept s0 (relayReport k lacking s) := by
  unfold relayReport
  split
  · exact .ite (postRelay_kept (modBkb_kept h)) (modBkb_kept h)
  · exact h

theorem heardResponse_kept {p missed lacking} (h : Kept s0 s) : Kept s0 (heardResponse p missed lacking s) := by
  unfold heardResponse
  exact relayReport_kept (hear_kept (modBkb_kept h))

theorem pollResponse_kept {slot u missed lacking} (h : Kept s0 s) : Kept s0 (pollResponse slot u missed lacking s) := by
  unfold pollResponse
  split
  · split
    · exact h
    · split
      · exact pollFailed_kept h
      · split
        rename_i s1 e1
        have h1 : Kept s0 s1 := .of_snd e1 (blockDecodes_kept h)
        exact .ite (heardResponse_kept h1) (pollFailed_kept h1)
  · exact h

theorem execPollResponse_kept {slot u missed lacking} (h : Kept s0 s) : KeptRes s0 (execPollResponse slot u missed lacking s) := by
  unfold execPollResponse
  exact .next (.ite (pollResponse_kept h) h)

theorem becomeCoordinator_kept (h : Kept s0 s) : Kept s0 (becomeCoordinator s) := by
  unfold becomeCoordinator
  exact refreshSelf_kept (setRole_kept (.ite (takeBack_kept (joinTokens_kept (modBkb_kept (.units h)))) (joinTokens_kept (modBkb_kept
      (.units h)))))

theorem execBecomeCoordinator_kept (h : Kept s0 s) : KeptRes s0 (execBecomeCoordinator s) := by
  unfold execBecomeCoordinator
  exact .next (.ite (becomeCoordinator_kept h) h)

theorem execHeaderLossRejoin_kept (h : Kept s0 s) : KeptRes s0 (execHeaderLossRejoin s) := by
  unfold execHeaderLossRejoin
  exact .next (.ite (rejoinDomain_kept h) h)

theorem joinRequest_kept {serial count} (h : Kept s0 s) : Kept s0 (joinRequest serial count s) := by
  unfold joinRequest
  extract_lets +onlyGivenNames s1
  have h1 : Kept s0 s1 := .ite (modBkb_kept h) h
  split
  · exact queueD_kept (.units h1)
  · split
    · exact queueD_kept (hear_kept h1)
    · split
      · exact postMember_kept (queueD_kept (modEntry_kept h1))
      · exact postMember_kept (queueD_kept h1)

theorem execJoinRequest_kept {serial count} (h : Kept s0 s) : KeptRes s0 (execJoinRequest serial count s) := by
  unfold execJoinRequest
  exact .next (.ite (joinRequest_kept h) h)

theorem joinAnswer_kept {domain coord r} (h : Kept s0 s) : Kept s0 (joinAnswer domain coord r s) := by
  unfold joinAnswer
  split
  · exact h
  · split
    · exact setRole_kept (joinTokens_kept h)
    · exact setRole_kept (refuseNode_kept h)
    · exact .ite (handOver_kept (discardTokens_kept h)) h

theorem execJoinAnswer_kept {domain coord r} (h : Kept s0 s) : KeptRes s0 (execJoinAnswer domain coord r s) := by
  unfold execJoinAnswer
  exact .next (.ite (joinAnswer_kept h) h)

theorem relayPieces_kept (h : Kept s0 s) : Kept s0 (relayPieces s).2 := by
  unfold relayPieces
  split
  · extract_lets j1
    split
    rename_i s2 e2
    have h2 : Kept s0 s2 := .of_snd e2 (readPiece_kept h)
    split
    rename_i s3 e3
    have h3 : Kept s0 s3 := .of_snd e3 (readPiece_kept h2)
    exact h3
  · exact h

theorem respond_kept {retry} (h : Kept s0 s) : Kept s0 (respond retry s) := by
  unfold respond
  extract_lets from_1
  split
  rename_i s2 e2
  have h2 : Kept s0 s2 := .of_snd e2 (.ite_snd h (relayPieces_kept h))
  exact .foldl (fun _ _ h3 => cryTo_kept h3) (.ite h2 (keepOwn_kept (sentOnB_kept (modBkb_kept h2))))

theorem actInFrame_kept {h1 rx} (h : Kept s0 s) : Kept s0 (actInFrame h1 rx s) := by
  unfold actInFrame
  exact .ite (respond_kept (.ite h (modBkb_kept h))) (.ite (cry_kept h) (.ite (cry_kept h) h))

theorem endBlock_kept {rate bps d b} (h : Kept s0 s) : Kept s0 (endBlock rate bps d s b) := by
  unfold endBlock
  extract_lets syms1
  split
  rename_i s2 e2
  have h2 : Kept s0 s2 := .of_snd e2 (blockDecodes_kept h)
  exact .ite h2 (modBkb_kept h2)

theorem takeD_kept {h1 rx} (h : Kept s0 s) : Kept s0 (takeD h1 rx s) := by
  unfold takeD
  exact modBkb_kept (.foldl (fun _ _ h1 => endBlock_kept h1) (modBkb_kept h))

theorem memberHeader_kept {h1 d} (h : Kept s0 s) : Kept s0 (memberHeader h1 d s) := by
  unfold memberHeader
  exact .ite h (.ite (setRole_kept (modBkb_kept h)) (modBkb_kept (actInFrame_kept (takeD_kept (checkPathB_kept (modBkb_kept h))))))

theorem seekerHeader_kept {h1} (h : Kept s0 s) : Kept s0 (seekerHeader h1 s) := by
  unfold seekerHeader
  extract_lets s1 s2
  have h1 : Kept s0 s1 := modBkb_kept h
  have h2 : Kept s0 s2 := by
    unfold s2
    split
    · exact .ite (modBkb_kept h1) h1
    · exact h1
  split
  · split
    rename_i s3 e3
    have h3 : Kept s0 s3 := .of_snd e3 (drawNat_kept h2)
    exact cry_kept h3
  · exact h2

theorem rivalHeader_kept {h1} (h : Kept s0 s) : Kept s0 (rivalHeader h1 s) := by
  unfold rivalHeader
  exact .ite (setRole_kept (modBkb_kept h)) (.ite (setRole_kept h) h)

theorem execFrameHeader_kept {f} (h : Kept s0 s) : KeptRes s0 (execFrameHeader f s) := by
  unfold execFrameHeader
  exact .next (.ite (.ite (rivalHeader_kept h) (.ite (memberHeader_kept h) (.ite (seekerHeader_kept h) h))) h)

theorem rebuildAtlas_kept (h : Kept s0 s) : Kept s0 (rebuildAtlas s) := by
  unfold rebuildAtlas
  exact modBkb_kept h

theorem sounding_kept {src snr} (h : Kept s0 s) : Kept s0 (sounding src snr s) := by
  unfold sounding
  exact .ite (rebuildAtlas_kept (modBkb_kept h)) (modBkb_kept h)

theorem execSounding_kept {src snr} (h : Kept s0 s) : KeptRes s0 (execSounding src snr s) := by
  unfold execSounding
  exact .next (.ite (sounding_kept h) h)

theorem execSurveyReport_kept {links} (h : Kept s0 s) : KeptRes s0 (execSurveyReport links s) := by
  unfold execSurveyReport
  exact .next (.ite (rebuildAtlas_kept (modBkb_kept h)) h)

theorem execRouteFailedExpiry_kept (h : Kept s0 s) : KeptRes s0 (execRouteFailedExpiry s) := by
  unfold execRouteFailedExpiry
  exact .next (modBkb_kept h)

theorem runBkbAtlasRead_kept (h : Kept s0 s) : KeptRes s0 (runBkbAtlasRead s) := by
  unfold runBkbAtlasRead
  exact .next (dispatch_kept (fun _ _ h1 => .ite (complete_kept h1) (completeSt_kept h1)) h)

theorem bkbReject_kept (h : Kept s0 s) : Kept s0 (bkbReject s) := by
  unfold bkbReject
  exact modBkb_kept h

theorem writeBkbCfg_kept {v} (h : Kept s0 s) : Kept s0 (writeBkbCfg v s) := by
  unfold writeBkbCfg
  exact .ite (bkbReject_kept h) (.ite (leaveDomain_kept (modBkb_kept h)) (modBkb_kept h))

theorem forgetLedger_kept (h : Kept s0 s) : Kept s0 (forgetLedger s) := by
  unfold forgetLedger
  exact .foldl (fun _ _ h1 => completeSeq_kept h1) (.units h)

theorem writeDomain_kept {v} (h : Kept s0 s) : Kept s0 (writeDomain v s) := by
  unfold writeDomain
  exact .ite h (leaveDomain_kept (forgetLedger_kept (modBkb_kept h)))

theorem execBkbCfgWrite_kept {domain v} (h : Kept s0 s) : KeptRes s0 (execBkbCfgWrite domain v s) := by
  unfold execBkbCfgWrite
  exact .next (hostAcc_kept (fun _ h1 => .ite (writeDomain_kept h1) (writeBkbCfg_kept h1)) h)

theorem writeNotch_kept {k v} (h : Kept s0 s) : Kept s0 (writeNotch k v s) := by
  unfold writeNotch
  exact .ite (bkbReject_kept h) (modBkb_kept h)

theorem execBkbNotchWrite_kept {k v} (h : Kept s0 s) : KeptRes s0 (execBkbNotchWrite k v s) := by
  unfold execBkbNotchWrite
  exact .next (hostAcc_kept (fun _ h1 => writeNotch_kept h1) h)

theorem tickFrames_kept (h : Kept s0 s) : Kept s0 (tickFrames s) := by
  unfold tickFrames
  exact .ite (modBkb_kept h) h

theorem postKey_kept {cause slot err} (h : Kept s0 s) : Kept s0 (postKey cause slot err s) := by
  unfold postKey
  exact post_kept h

theorem putKey_kept {k r} (h : Kept s0 s) : Kept s0 (putKey k r s) := by
  unfold putKey
  exact .units h

theorem checkKey_kept {k} (h : Kept s0 s) : Kept s0 (checkKey k s) := by
  unfold checkKey
  extract_lets +onlyGivenNames e1
  split
  · exact h
  · split
    · exact .units h
    · exact .ite (.units h) (postKey_kept (.units h))

theorem rebuildRoot_kept {cells} (h : Kept s0 s) : Kept s0 (rebuildRoot cells s) := by
  unfold rebuildRoot
  split
  · exact postKey_kept (setReplace_kept (.units h))
  · exact postKey_kept (.ite (setReplace_kept (.units h)) (.units h))

theorem startKeys_kept {cells} (h : Kept s0 s) : Kept s0 (startKeys cells s) := by
  unfold startKeys
  exact forFin_kept (fun _ _ h1 => checkKey_kept h1) (.ite (.units (rebuildRoot_kept h)) (rebuildRoot_kept h))

theorem runPufHealthCheck_kept {err} (h : Kept s0 s) : KeptRes s0 (runPufHealthCheck err s) := by
  unfold runPufHealthCheck
  refine .next ?_
  split
  · exact .ite (.ite (postKey_kept (setReplace_kept (.units h))) (.units h)) h
  · exact h

theorem execEntropyFailure_kept {failed} (h : Kept s0 s) : KeptRes s0 (execEntropyFailure failed s) := by
  unfold execEntropyFailure
  exact .next (.ite h (.ite (postKey_kept (.units h)) (.ite (postKey_kept (.units h)) h)))

theorem abortLong_kept {o} (h : Kept s0 s) : Kept s0 (abortLong s o) := by
  unfold abortLong
  split
  · exact completeSeq_kept h
  · exact tlsAbort_kept h
  · exact h

theorem queueBoot_kept (h : Kept s0 s) : Kept s0 (queueBoot s) := by
  unfold queueBoot
  split
  · exact .ite h (requestLong_kept h)
  · exact h

theorem longStep_kept (h : Kept s0 s) : Kept s0 (longStep s) := by
  unfold longStep
  extract_lets +onlyGivenNames drops2 headDropped3 s4 s5
  have h5 : Kept s0 s5 := .foldl (fun _ _ h6 => abortLong_kept h6) (.units h)
  extract_lets +onlyGivenNames s7
  extract_lets s8
  have h8 : Kept s0 s8 := by
    unfold s8
    split
    · exact h5
    · split
      · exact .ite h5 (.ite (.units h5) (.units h5))
      · exact h5
  exact queueBoot_kept (queueTls_kept (queuePrn_kept h8))

theorem generateDone_kept {f} (h : Kept s0 s) : Kept s0 (generateDone f s) := by
  unfold generateDone
  split
  · exact completeSt_kept h
  · split
    · exact completeSt_kept h
    · split
      rename_i s1 e1
      have h1 : Kept s0 s1 := .of_snd e1 (drawScalar_kept h)
      exact complete_kept (putKey_kept h1)

theorem signDone_kept {f} (h : Kept s0 s) : Kept s0 (signDone f s) := by
  unfold signDone
  split
  · exact completeSt_kept h
  · split
    rename_i s1 e1
    have h1 : Kept s0 s1 := .of_snd e1 (signDigest_kept h)
    split
    · exact complete_kept h1
    · exact requestLong_kept h1

theorem verifyDone_kept {f} (h : Kept s0 s) : Kept s0 (verifyDone f s) := by
  unfold verifyDone
  exact completeSt_kept h

theorem ecdhDone_kept {f} (h : Kept s0 s) : Kept s0 (ecdhDone f s) := by
  unfold ecdhDone
  extract_lets t1 d2
  split
  · exact .ite (completeSt_kept h) (complete_kept (putKey_kept h))
  · exact completeSt_kept h

theorem gcmDone_kept {f} (h : Kept s0 s) : Kept s0 (gcmDone f s) := by
  unfold gcmDone
  extract_lets key1 a2 n3 aad4 body5 iv6
  split
  · split
    exact complete_kept h
  · split
    · exact complete_kept h
    · exact completeSt_kept h

theorem hashDone_kept {f} (h : Kept s0 s) : Kept s0 (hashDone f s) := by
  unfold hashDone
  exact complete_kept h

theorem hmacDone_kept {f} (h : Kept s0 s) : Kept s0 (hmacDone f s) := by
  unfold hmacDone
  exact complete_kept h

theorem keyDone_kept {kind f} (h : Kept s0 s) : Kept s0 (keyDone kind f s) := by
  unfold keyDone
  split
  · exact generateDone_kept h
  · exact signDone_kept h
  · exact verifyDone_kept h
  · exact ecdhDone_kept h
  · exact gcmDone_kept h
  · exact hashDone_kept h
  · exact hmacDone_kept h
  · exact h
  · exact h
  · exact h
  · exact h
  · exact h

theorem prnDone_kept {r} (h : Kept s0 s) : Kept s0 (prnDone r s) := by
  unfold prnDone
  extract_lets +onlyGivenNames older1
  split
  · split
    · extract_lets +onlyGivenNames l2 s3
      extract_lets s4
      have h4 : Kept s0 s4 := .units h
      split
      · exact completeSeq_kept h4
      · exact h4
    · exact h
  · exact .ite (requeuePrn_kept h) (prnSigned_kept h)

theorem bootHashed_kept (h : Kept s0 s) : Kept s0 (bootHashed s) := by
  unfold bootHashed
  exact .units h

theorem deliverLong_kept {o} (h : Kept s0 s) : Kept s0 (deliverLong o s) := by
  unfold deliverLong
  split
  · exact prnDone_kept h
  · split
    · exact keyDone_kept h
    · exact h
  · split
    · exact unsealResult_kept h
    · exact h
  · split
    · exact topupResult_kept h
    · exact h
  · exact tlsDone_kept h
  · exact bootHashed_kept h

theorem runLongOperationDone_kept (h : Kept s0 s) : KeptRes s0 (runLongOperationDone s) := by
  unfold runLongOperationDone
  refine .next ?_
  split
  · exact .ite (.ite (abortLong_kept (.units h)) (deliverLong_kept (.units h))) h
  · exact h

theorem keyGenerate_kept {f} (h : Kept s0 s) : Kept s0 (keyGenerate f s) := by
  unfold keyGenerate
  split
  · exact completeSt_kept h
  · split
    · exact completeSt_kept h
    · split
      · exact completeSt_kept h
      · split
        · exact completeSt_kept h
        · split
          · exact askLong_kept h
          · split
            rename_i s1 e1
            have h1 : Kept s0 s1 := .of_snd e1 (freeBytes_kept h)
            exact complete_kept (putKey_kept h1)

theorem runKeyGenerate_kept (h : Kept s0 s) : KeptRes s0 (runKeyGenerate s) := by
  unfold runKeyGenerate
  exact .next (dispatch_kept (fun _ _ h1 => keyGenerate_kept h1) h)

theorem keyImport_kept {f} (h : Kept s0 s) : Kept s0 (keyImport f s) := by
  unfold keyImport
  split
  · exact completeSt_kept h
  · extract_lets +onlyGivenNames len1
    split
    · exact completeSt_kept h
    · split
      · exact completeSt_kept h
      · split
        · exact completeSt_kept h
        · exact complete_kept (putKey_kept h)

theorem runKeyImport_kept (h : Kept s0 s) : KeptRes s0 (runKeyImport s) := by
  unfold runKeyImport
  exact .next (dispatch_kept (fun _ _ h1 => keyImport_kept h1) h)

theorem keyPublicRead_kept {f} (h : Kept s0 s) : Kept s0 (keyPublicRead f s) := by
  unfold keyPublicRead
  exact .ite (completeSt_kept h) (.ite (completeSt_kept h) (.ite (complete_kept h) (completeSt_kept h)))

theorem runKeyPublicRead_kept (h : Kept s0 s) : KeptRes s0 (runKeyPublicRead s) := by
  unfold runKeyPublicRead
  exact .next (dispatch_kept (fun _ _ h1 => keyPublicRead_kept h1) h)

theorem useKey_kept {bit} {act : Flight → State → State} {f} (hact : ∀ a0 t, Kept s0 t → Kept s0 (act a0 t)) (h : Kept s0 s) : Kept s0 (useKey bit act f s) := by
  unfold useKey
  split
  · exact completeSt_kept h
  · split
    · exact completeSt_kept h
    · exact .ite (completeSt_kept h) (hact _ _ h)

theorem keySign_kept {f} (h : Kept s0 s) : Kept s0 (keySign f s) := by
  unfold keySign
  exact useKey_kept (fun _ _ h1 => .ite (completeSt_kept h1) (askLong_kept h1)) h

theorem runKeySign_kept (h : Kept s0 s) : KeptRes s0 (runKeySign s) := by
  unfold runKeySign
  exact .next (dispatch_kept (fun _ _ h1 => keySign_kept h1) h)

theorem keyVerify_kept {f} (h : Kept s0 s) : Kept s0 (keyVerify f s) := by
  unfold keyVerify
  exact useKey_kept (fun _ _ h1 => askLong_kept h1) h

theorem runKeyVerify_kept (h : Kept s0 s) : KeptRes s0 (runKeyVerify s) := by
  unfold runKeyVerify
  exact .next (dispatch_kept (fun _ _ h1 => keyVerify_kept h1) h)

theorem keyEcdh_kept {f} (h : Kept s0 s) : Kept s0 (keyEcdh f s) := by
  unfold keyEcdh
  extract_lets t1
  split
  · exact completeSt_kept h
  · split
    · exact completeSt_kept h
    · split
      · exact completeSt_kept h
      · split
        · exact completeSt_kept h
        · refine useKey_kept ?_ h
          intro x6 t7 h8
          split
          · exact completeSt_kept h8
          · exact askLong_kept h8

theorem runKeyEcdh_kept (h : Kept s0 s) : KeptRes s0 (runKeyEcdh s) := by
  unfold runKeyEcdh
  exact .next (dispatch_kept (fun _ _ h1 => keyEcdh_kept h1) h)

theorem longOrNow_kept {kind steps slots f} (h : Kept s0 s) : Kept s0 (longOrNow kind steps slots f s) := by
  unfold longOrNow
  exact .ite (keyDone_kept h) (askLong_kept h)

theorem keyAesGcm_kept {f} (h : Kept s0 s) : Kept s0 (keyAesGcm f s) := by
  unfold keyAesGcm
  exact .ite (completeSt_kept h) (useKey_kept (fun _ _ h1 => longOrNow_kept h1) h)

theorem runKeyAesGcm_kept (h : Kept s0 s) : KeptRes s0 (runKeyAesGcm s) := by
  unfold runKeyAesGcm
  exact .next (dispatch_kept (fun _ _ h1 => keyAesGcm_kept h1) h)

theorem keyHmac_kept {f} (h : Kept s0 s) : Kept s0 (keyHmac f s) := by
  unfold keyHmac
  exact useKey_kept (fun _ _ h1 => longOrNow_kept h1) h

theorem runKeyHmac_kept (h : Kept s0 s) : KeptRes s0 (runKeyHmac s) := by
  unfold runKeyHmac
  exact .next (dispatch_kept (fun _ _ h1 => keyHmac_kept h1) h)

theorem keyHash_kept {f} (h : Kept s0 s) : Kept s0 (keyHash f s) := by
  unfold keyHash
  exact .ite (completeSt_kept h) (longOrNow_kept h)

theorem runKeyHash_kept (h : Kept s0 s) : KeptRes s0 (runKeyHash s) := by
  unfold runKeyHash
  exact .next (dispatch_kept (fun _ _ h1 => keyHash_kept h1) h)

theorem keyRandom_kept {f} (h : Kept s0 s) : Kept s0 (keyRandom f s) := by
  unfold keyRandom
  split
  · exact completeSt_kept h
  · split
    rename_i s1 e1
    have h1 : Kept s0 s1 := .of_snd e1 (freeBytes_kept h)
    exact complete_kept h1

theorem runKeyRandom_kept (h : Kept s0 s) : KeptRes s0 (runKeyRandom s) := by
  unfold runKeyRandom
  exact .next (dispatch_kept (fun _ _ h1 => keyRandom_kept h1) h)

theorem dropWaits_kept (h : Kept s0 s) : Kept s0 (dropWaits s) := by
  unfold dropWaits
  exact .foldl (fun _ _ h1 => tlsFail_kept h1) (.units h)

theorem destroyKey_kept {k} (h : Kept s0 s) : Kept s0 (destroyKey k s) := by
  unfold destroyKey
  exact postKey_kept (.units (.ite (dropWaits_kept h) h))

theorem keyDestroy_kept {f} (h : Kept s0 s) : Kept s0 (keyDestroy f s) := by
  unfold keyDestroy
  exact .ite (completeSt_kept h) (.ite (completeSt_kept h) (complete_kept (.foldl (fun _ _ h1 => destroyKey_kept h1) h)))

theorem runKeyDestroy_kept (h : Kept s0 s) : KeptRes s0 (runKeyDestroy s) := by
  unfold runKeyDestroy
  exact .next (dispatch_kept (fun _ _ h1 => keyDestroy_kept h1) h)

theorem keyLock_kept {f} (h : Kept s0 s) : Kept s0 (keyLock f s) := by
  unfold keyLock
  exact .ite (completeSt_kept h) (.ite (completeSt_kept h) (complete_kept (.foldl (fun _ _ h1 => .units h1) h)))

theorem runKeyLock_kept (h : Kept s0 s) : KeptRes s0 (runKeyLock s) := by
  unfold runKeyLock
  exact .next (dispatch_kept (fun _ _ h1 => keyLock_kept h1) h)

theorem modLcd_kept {f} (h : Kept s0 s) : Kept s0 (modLcd f s) := by
  unfold modLcd
  exact .units h

theorem postLcd_kept {cause} (h : Kept s0 s) : Kept s0 (postLcd cause s) := by
  unfold postLcd
  exact postMail_kept h

theorem beginUpdate_kept {image why fullAsked flight t5} (h : Kept s0 s) : Kept s0 (beginUpdate image why fullAsked flight t5 s) := by
  unfold beginUpdate
  exact modLcd_kept h

theorem completeShown_kept {flight} (h : Kept s0 s) : Kept s0 (completeShown flight s) := by
  unfold completeShown
  split
  · exact completeSeq_kept h
  · exact h

theorem startPending_kept (h : Kept s0 s) : Kept s0 (startPending s) := by
  unfold startPending
  split
  · exact .ite (.ite (completeShown_kept (modLcd_kept h)) (beginUpdate_kept (modLcd_kept h))) h
  · exact h

theorem drawImage_kept {p} (h : Kept s0 s) : Kept s0 (drawImage p s) := by
  unfold drawImage
  extract_lets +onlyGivenNames free1
  split
  · exact completeShown_kept h
  · split
    · exact modLcd_kept h
    · extract_lets s2
      have h2 : Kept s0 s2 := by
        unfold s2
        split
        · split
          · exact completeSeq_kept h
          · exact h
        · exact h
      exact modLcd_kept h2

theorem beginAllOff_kept {t1} (h : Kept s0 s) : Kept s0 (beginAllOff t1 s) := by
  unfold beginAllOff
  exact beginUpdate_kept h

theorem lcdResume_kept (h : Kept s0 s) : Kept s0 (lcdResume s) := by
  unfold lcdResume
  split
  · exact h
  · split
    · exact beginAllOff_kept h
    · split
      · exact beginUpdate_kept (modLcd_kept h)
      · exact startPending_kept h

theorem lcdEdge_kept (h : Kept s0 s) : Kept s0 (lcdEdge s) := by
  unfold lcdEdge
  exact .ite (lcdResume_kept h) h

theorem releaseLines_kept (h : Kept s0 s) : Kept s0 (releaseLines s) := by
  unfold releaseLines
  exact modLcd_kept h

theorem endUpdate_kept {u} (h : Kept s0 s) : Kept s0 (endUpdate u s) := by
  unfold endUpdate
  extract_lets +onlyGivenNames s1
  have h1 : Kept s0 s1 := releaseLines_kept (modLcd_kept h)
  split
  · extract_lets d2
    refine lcdResume_kept ?_
    split
    · exact completeSeq_kept h1
    · exact h1
  · exact .ite (beginUpdate_kept h1) h1
  · exact lcdResume_kept (postLcd_kept (modLcd_kept h1))

theorem startDischarge_kept (h : Kept s0 s) : Kept s0 (startDischarge s) := by
  unfold startDischarge
  exact modLcd_kept h

theorem selectDone_kept {u i} (h : Kept s0 s) : Kept s0 (selectDone u i s) := by
  unfold selectDone
  exact modLcd_kept h

theorem phaseDone_kept {u} (h : Kept s0 s) : Kept s0 (phaseDone u s) := by
  unfold phaseDone
  split
  · exact selectDone_kept h
  · exact h

theorem phaseEnd_kept (h : Kept s0 s) : Kept s0 (phaseEnd s) := by
  unfold phaseEnd
  split
  · exact h
  · split
    · exact h
    · extract_lets s1
      have h1 : Kept s0 s1 := phaseDone_kept h
      split
      · exact .ite (startDischarge_kept (endUpdate_kept h1)) (endUpdate_kept h1)
      · exact .ite (startDischarge_kept h1) (modLcd_kept h1)

theorem execLcdPhaseEnd_kept (h : Kept s0 s) : KeptRes s0 (execLcdPhaseEnd s) := by
  unfold execLcdPhaseEnd
  exact .next (.ite h (phaseEnd_kept h))

theorem lcdStop_kept (h : Kept s0 s) : Kept s0 (lcdStop s) := by
  unfold lcdStop
  exact .ite h (.ite (modLcd_kept h) (startDischarge_kept h))

theorem dischargeEnd_kept (h : Kept s0 s) : Kept s0 (dischargeEnd s) := by
  unfold dischargeEnd
  split
  · refine .ite h ?_
    extract_lets q s1
    have h1 : Kept s0 s1 := releaseLines_kept (modLcd_kept h)
    refine lcdResume_kept ?_
    clear_value q
    split
    · exact completeSeq_kept h1
    · exact h1
  · exact h

theorem execLcdDischargeEnd_kept (h : Kept s0 s) : KeptRes s0 (execLcdDischargeEnd s) := by
  unfold execLcdDischargeEnd
  exact .next (dischargeEnd_kept h)

theorem lcdReady_kept (h : Kept s0 s) : Kept s0 (lcdReady s) := by
  unfold lcdReady
  exact .ite (lcdResume_kept (postLcd_kept (modLcd_kept h))) (modLcd_kept h)

theorem writeLcdCfg_kept {v} (h : Kept s0 s) : Kept s0 (writeLcdCfg v s) := by
  unfold writeLcdCfg
  exact .ite (modLcd_kept h) (.ite (lcdStop_kept (modLcd_kept h)) (lcdResume_kept (modLcd_kept h)))

theorem execLcdCfgWrite_kept {v} (h : Kept s0 s) : KeptRes s0 (execLcdCfgWrite v s) := by
  unfold execLcdCfgWrite
  exact .next (hostAcc_kept (fun _ h1 => writeLcdCfg_kept h1) h)

theorem lcdLegendWrite_kept {f} (h : Kept s0 s) : Kept s0 (lcdLegendWrite f s) := by
  unfold lcdLegendWrite
  exact .ite (completeSt_kept h) (.ite (completeSt_kept h) (completeSt_kept (modLcd_kept h)))

theorem runLcdLegendWrite_kept (h : Kept s0 s) : KeptRes s0 (runLcdLegendWrite s) := by
  unfold runLcdLegendWrite
  exact .next (dispatch_kept (fun _ _ h1 => lcdLegendWrite_kept h1) h)

theorem lcdWaveWrite_kept {f} (h : Kept s0 s) : Kept s0 (lcdWaveWrite f s) := by
  unfold lcdWaveWrite
  exact .ite (completeSt_kept h) (completeSt_kept (modLcd_kept h))

theorem runLcdWaveWrite_kept (h : Kept s0 s) : KeptRes s0 (runLcdWaveWrite s) := by
  unfold runLcdWaveWrite
  exact .next (dispatch_kept (fun _ _ h1 => lcdWaveWrite_kept h1) h)

theorem lcdDraw_kept {f} (h : Kept s0 s) : Kept s0 (lcdDraw f s) := by
  unfold lcdDraw
  exact .ite (completeSt_kept h) (.ite (completeSt_kept h) (drawImage_kept (keepRunning_kept (modLcd_kept h))))

theorem runLcdDraw_kept (h : Kept s0 s) : KeptRes s0 (runLcdDraw s) := by
  unfold runLcdDraw
  exact .next (dispatch_kept (fun _ _ h1 => lcdDraw_kept h1) h)

theorem crackCheck_kept {loopOhm landOhm} (h : Kept s0 s) : Kept s0 (crackCheck loopOhm landOhm s) := by
  unfold crackCheck
  exact .ite (.ite (postLcd_kept (modLcd_kept h)) (modLcd_kept h)) (.ite (postLcd_kept (modLcd_kept h)) (modLcd_kept h))

theorem execCrackCheck_kept {loopOhm landOhm} (h : Kept s0 s) : KeptRes s0 (execCrackCheck loopOhm landOhm s) := by
  unfold execCrackCheck
  exact .next (.ite (crackCheck_kept (modLcd_kept h)) h)

theorem lmpGammaWrite_kept {f} (h : Kept s0 s) : Kept s0 (lmpGammaWrite f s) := by
  unfold lmpGammaWrite
  split
  · exact completeSt_kept (.units h)
  · exact completeSt_kept h

theorem runLmpGammaWrite_kept (h : Kept s0 s) : KeptRes s0 (runLmpGammaWrite s) := by
  unfold runLmpGammaWrite
  exact .next (dispatch_kept (fun _ _ h1 => lmpGammaWrite_kept h1) h)

theorem lmpSet_kept {f} (h : Kept s0 s) : Kept s0 (lmpSet f s) := by
  unfold lmpSet
  exact .ite (completeSt_kept h) (complete_kept (.units h))

theorem runLmpSet_kept (h : Kept s0 s) : KeptRes s0 (runLmpSet s) := by
  unfold runLmpSet
  exact .next (dispatch_kept (fun _ _ h1 => lmpSet_kept h1) h)

theorem execLampBlinkPhase_kept {n} (h : Kept s0 s) : KeptRes s0 (execLampBlinkPhase n s) := by
  unfold execLampBlinkPhase
  exact .next (.units h)

theorem lampTake_kept {n} (h : Kept s0 s) : Kept s0 (lampTake n s) := by
  unfold lampTake
  split
  · exact .ite (.units h) h
  · exact h

theorem lampEdge_kept (h : Kept s0 s) : Kept s0 (lampEdge s) := by
  unfold lampEdge
  exact .units (forFin_kept (fun _ _ h1 => lampTake_kept h1) h)

theorem writeLmpCfg_kept {v} (h : Kept s0 s) : Kept s0 (writeLmpCfg v s) := by
  unfold writeLmpCfg
  exact .units h

theorem modCh_kept {k f} (h : Kept s0 s) : Kept s0 (modCh k f s) := by
  unfold modCh
  exact .units h

theorem turnOn_kept {t1 k} (h : Kept s0 s) : Kept s0 (turnOn t1 k s) := by
  unfold turnOn
  exact .ite (modCh_kept h) (modCh_kept h)

theorem postLsw_kept {k cause} (h : Kept s0 s) : Kept s0 (postLsw k cause s) := by
  unfold postLsw
  exact .ite (postMail_kept h) h

theorem postSupply_kept {cause input} (h : Kept s0 s) : Kept s0 (postSupply cause input s) := by
  unfold postSupply
  exact .ite (postMail_kept h) h

theorem bridgeFault_kept {k} (h : Kept s0 s) : Kept s0 (bridgeFault k s) := by
  unfold bridgeFault
  exact .ite (modOut_kept h) h

theorem overcurrent_kept {k} (h : Kept s0 s) : Kept s0 (overcurrent k s) := by
  unfold overcurrent
  exact .ite (postLsw_kept (modCh_kept (modCh_kept (bridgeFault_kept h)))) (postLsw_kept (modCh_kept (modCh_kept (bridgeFault_kept h))))

theorem execLswOvercurrent_kept {k} (h : Kept s0 s) : KeptRes s0 (execLswOvercurrent k s) := by
  unfold execLswOvercurrent
  exact .next (.ite (overcurrent_kept h) h)

theorem retry_kept {k} (h : Kept s0 s) : Kept s0 (retry k s) := by
  unfold retry
  split
  · exact .ite (turnOn_kept (modCh_kept h)) h
  · exact h

theorem execLswRetry_kept {k} (h : Kept s0 s) : KeptRes s0 (execLswRetry k s) := by
  unfold execLswRetry
  exact .next (retry_kept h)

theorem execLswRetriesReset_kept {k} (h : Kept s0 s) : KeptRes s0 (execLswRetriesReset k s) := by
  unfold execLswRetriesReset
  refine .next ?_
  split
  · exact .ite (modCh_kept h) h
  · exact h

theorem thermalLatch_kept {k} (h : Kept s0 s) : Kept s0 (thermalLatch k s) := by
  unfold thermalLatch
  exact .ite h (postLsw_kept (modCh_kept (bridgeFault_kept h)))

theorem execLswThermalLatch_kept {k} (h : Kept s0 s) : KeptRes s0 (execLswThermalLatch k s) := by
  unfold execLswThermalLatch
  exact .next (.ite h (thermalLatch_kept h))

theorem setFolds_kept {g l} (h : Kept s0 s) : Kept s0 (setFolds g l s) := by
  unfold setFolds
  exact .units h

theorem foldBack_kept {g} (h : Kept s0 s) : Kept s0 (foldBack g s) := by
  unfold foldBack
  split
  · split
    · exact postLsw_kept (modCh_kept (setFolds_kept h))
    · exact h
  · exact h

theorem execLswFoldBack_kept {g} (h : Kept s0 s) : KeptRes s0 (execLswFoldBack g s) := by
  unfold execLswFoldBack
  exact .next (.ite h (foldBack_kept h))

theorem foldRestore_kept {g} (h : Kept s0 s) : Kept s0 (foldRestore g s) := by
  unfold foldRestore
  split
  · split
    · exact postLsw_kept (turnOn_kept (modCh_kept (setFolds_kept h)))
    · exact h
  · exact h

theorem execLswFoldRestore_kept {g} (h : Kept s0 s) : KeptRes s0 (execLswFoldRestore g s) := by
  unfold execLswFoldRestore
  exact .next (.ite h (foldRestore_kept h))

theorem measureCh_kept {k ma lim hot whole} (h : Kept s0 s) : Kept s0 (measureCh k ma lim hot whole s) := by
  unfold measureCh
  extract_lets on1 blank2 whole3 bad4 since5 s6 c7
  have h6 : Kept s0 s6 := modCh_kept h
  split
  · split
    extract_lets s8
    have h8 : Kept s0 s8 := modCh_kept h6
    split
    · exact postLsw_kept h8
    · exact h8
  · exact h6

theorem execLswMeasurement_kept {ma limit hot grp wholeOn vaux} (h : Kept s0 s) : KeptRes s0 (execLswMeasurement ma limit hot grp wholeOn vaux s) := by
  unfold execLswMeasurement
  exact .next (.ite h (forFin_kept (fun _ _ h1 => measureCh_kept h1) (.units h)))

theorem dipAll_kept (h : Kept s0 s) : Kept s0 (dipAll s) := by
  unfold dipAll
  exact .units h

theorem execVauxUndervoltage_kept {dv} (h : Kept s0 s) : KeptRes s0 (execVauxUndervoltage dv s) := by
  unfold execVauxUndervoltage
  exact .next (.ite h (postSupply_kept (.units (dipAll_kept h))))

theorem execVauxOvervoltage_kept {dv} (h : Kept s0 s) : KeptRes s0 (execVauxOvervoltage dv s) := by
  unfold execVauxOvervoltage
  exact .next (.ite h (postSupply_kept (.units (dipAll_kept h))))

theorem restoreCh_kept {acc k} (h : Kept s0 acc.2) : Kept s0 (restoreCh acc k).2 :=
  .ite_snd (turnOn_kept (modCh_kept h)) (modCh_kept h)

theorem execVauxRestore_kept {dv} (h : Kept s0 s) : KeptRes s0 (execVauxRestore dv s) := by
  unfold execVauxRestore
  refine .next (.ite h ?_)
  have h1 : Kept s0 ((allFin 24).foldl restoreCh (0, { s with lsw := { s.lsw with vaux := dv } })).2 :=
    .foldl_snd (fun _ _ h => restoreCh_kept h) (.units h)
  generalize List.foldl _ _ _ = p at h1 ⊢
  exact postSupply_kept (.units h1)

theorem modPwm_kept {j f} (h : Kept s0 s) : Kept s0 (modPwm j f s) := by
  unfold modPwm
  exact .units h

theorem edgeCh_kept {us k before} (h : Kept s0 s) : Kept s0 (edgeCh us k before s) := by
  unfold edgeCh
  split
  · exact .ite h (modCh_kept h)
  · exact modCh_kept h

theorem pwmEdge_kept {j us} (h : Kept s0 s) : Kept s0 (pwmEdge j us s) := by
  unfold pwmEdge
  exact .ite (postSupply_kept (.foldl (fun _ _ h1 => edgeCh_kept h1) (modPwm_kept h))) (.foldl (fun _ _ h2 => edgeCh_kept h2)
      (modPwm_kept h))

theorem settlePwm_kept {j} (h : Kept s0 s) : Kept s0 (settlePwm j s) := by
  unfold settlePwm
  split
  · exact .ite (pwmEdge_kept h) h
  · exact h

theorem execPwmInputEdge_kept {j high us} (h : Kept s0 s) : KeptRes s0 (execPwmInputEdge j high us s) := by
  unfold execPwmInputEdge
  refine .next ?_
  extract_lets p1
  split
  · exact modPwm_kept h
  · split
    · exact .ite h (.ite (modPwm_kept h) (modPwm_kept (pwmEdge_kept h)))
    · exact .ite h (modPwm_kept h)

theorem execPwmFastClear_kept {j} (h : Kept s0 s) : KeptRes s0 (execPwmFastClear j s) := by
  unfold execPwmFastClear
  exact .next (.ite (.foldl (fun _ _ h1 => turnOn_kept h1) (postSupply_kept (modPwm_kept h))) h)

theorem writeLswChcfg_kept {k v} (h : Kept s0 s) : Kept s0 (writeLswChcfg k v s) := by
  unfold writeLswChcfg
  exact .ite (modCh_kept h) (.units h)

theorem execLswChcfgWrite_kept {k v} (h : Kept s0 s) : KeptRes s0 (execLswChcfgWrite k v s) := by
  unfold execLswChcfgWrite
  exact .next (hostAcc_kept (fun _ h1 => writeLswChcfg_kept h1) h)

theorem lswSet_kept {f} (h : Kept s0 s) : Kept s0 (lswSet f s) := by
  unfold lswSet
  exact .ite (completeSt_kept h) (.ite (completeSt_kept h) (.ite (completeSt_kept h) (keepRunning_kept (modCh_kept h))))

theorem runLswSet_kept (h : Kept s0 s) : KeptRes s0 (runLswSet s) := by
  unfold runLswSet
  exact .next (dispatch_kept (fun _ _ h1 => lswSet_kept h1) h)

theorem unfold_kept {k} (h : Kept s0 s) : Kept s0 (unfold k s) := by
  unfold unfold
  exact modCh_kept (.units h)

theorem setMode_kept {mode j k} (h : Kept s0 s) : Kept s0 (setMode mode j k s) := by
  unfold setMode
  exact .ite (modCh_kept (.ite (unfold_kept h) h)) (turnOn_kept (modCh_kept (.ite (unfold_kept h) h)))

theorem applyCh_kept {k} (h : Kept s0 s) : Kept s0 (applyCh k s) := by
  unfold applyCh
  extract_lets +onlyGivenNames s1 s2
  have h1 : Kept s0 s1 := .ite (modCh_kept h) h
  have h2 : Kept s0 s2 := .ite (modCh_kept h1) h1
  split
  · exact .foldl (fun _ _ h3 => completeSeq_kept h3) (.ite (modCh_kept h2) (setMode_kept (modCh_kept h2)))
  · exact h2

theorem applyChannels_kept (h : Kept s0 s) : Kept s0 (applyChannels s) := by
  unfold applyChannels
  exact forFin_kept (fun _ _ h1 => applyCh_kept h1) (.ite h (forFin_kept (fun _ _ h2 => settlePwm_kept h2) h))

theorem clearCh_kept {k} (h : Kept s0 s) : Kept s0 (clearCh k s).2 := by
  unfold clearCh
  exact .ite (setMode_kept (modCh_kept h)) (modCh_kept h)

theorem lswClear_kept {f} (h : Kept s0 s) : Kept s0 (lswClear f s) := by
  unfold lswClear
  extract_lets m ks bad
  refine .ite (completeSt_kept h) (complete_kept ?_)
  have fold : ∀ (l : List (Fin 24)) (acc : Nat × Bool × State), Kept s0 acc.2.2 →
      Kept s0 (l.foldl (fun (acc : Nat × Bool × State) k =>
        match clearCh k acc.2.2 with
        | ((cl, st), s) => (acc.1 + (if cl then 2 ^ k.val else 0), acc.2.1 || st, s)) acc).2.2 := by
    intro l
    induction l with
    | nil => exact fun _ h => h
    | cons k l ih => exact fun acc h => ih _ (clearCh_kept h)
  exact fold ks _ h

theorem runLswClear_kept (h : Kept s0 s) : KeptRes s0 (runLswClear s) := by
  unfold runLswClear
  exact .next (dispatch_kept (fun _ _ h1 => lswClear_kept h1) h)

theorem lswRead_kept {f} (h : Kept s0 s) : Kept s0 (lswRead f s) := by
  unfold lswRead
  exact complete_kept h

theorem runLswRead_kept (h : Kept s0 s) : KeptRes s0 (runLswRead s) := by
  unfold runLswRead
  exact .next (dispatch_kept (fun _ _ h1 => lswRead_kept h1) h)

theorem lswReady_kept (h : Kept s0 s) : Kept s0 (lswReady s) := by
  unfold lswReady
  refine forFin_kept ?_ (.units h)
  intro x3 t4 h5
  extract_lets +onlyGivenNames c6
  split
  exact .ite (postLsw_kept (modCh_kept h5)) (.ite (postLsw_kept (modCh_kept h5)) (.ite (postLsw_kept (modCh_kept h5)) (.ite (postLsw_kept
      (modCh_kept h5)) (modCh_kept h5))))

theorem modPair_kept {k f} (h : Kept s0 s) : Kept s0 (modPair k f s) := by
  unfold modPair
  exact .units h

theorem modInp_kept {c f} (h : Kept s0 s) : Kept s0 (modInp c f s) := by
  unfold modInp
  exact .units h

theorem postEstop_kept {k cause} (h : Kept s0 s) : Kept s0 (postEstop k cause s) := by
  unfold postEstop
  exact postSaf_kept h

theorem takeStop_kept {k} (h : Kept s0 s) : Kept s0 (takeStop k s) := by
  unfold takeStop
  exact .ite h (forFin_kept (fun _ _ h1 => .ite (modOut_kept h1) h1) (postEstop_kept (modPair_kept h)))

theorem releaseStop_kept {k} (h : Kept s0 s) : Kept s0 (releaseStop k s) := by
  unfold releaseStop
  exact postEstop_kept (modPair_kept h)

theorem autoRelease_kept {k} (h : Kept s0 s) : Kept s0 (autoRelease k s) := by
  unfold autoRelease
  exact .ite (releaseStop_kept h) h

theorem recognisedOpen_kept {c} (h : Kept s0 s) : Kept s0 (recognisedOpen c s) := by
  unfold recognisedOpen
  exact takeStop_kept (modPair_kept (modInp_kept (modInp_kept h)))

theorem recognisedClosed_kept {c} (h : Kept s0 s) : Kept s0 (recognisedClosed c s) := by
  unfold recognisedClosed
  exact autoRelease_kept (.ite (postEstop_kept (modPair_kept (.ite (postEstop_kept (modInp_kept (modInp_kept h))) (modInp_kept
      (modInp_kept h))))) (.ite (postEstop_kept (modInp_kept (modInp_kept h))) (modInp_kept (modInp_kept h))))

theorem contactRecognised_kept {c} (h : Kept s0 s) : Kept s0 (contactRecognised c s) := by
  unfold contactRecognised
  exact .ite h (.ite (.ite (recognisedOpen_kept (modInp_kept h)) (modInp_kept h)) (.ite (.ite (recognisedClosed_kept (modInp_kept h))
      (modInp_kept h)) h))

theorem execEstopContactRecognised_kept {c} (h : Kept s0 s) : KeptRes s0 (execEstopContactRecognised c s) := by
  unfold execEstopContactRecognised
  exact inSafety_kept (fun _ h1 => contactRecognised_kept h1) h

theorem execEstopDiscrepancy_kept {k} (h : Kept s0 s) : KeptRes s0 (execEstopDiscrepancy k s) := by
  unfold execEstopDiscrepancy
  exact inSafety_kept (fun _ h1 => .ite (.ite (modInp_kept (modInp_kept (modPair_kept h1))) (postEstop_kept (modInp_kept (modInp_kept
      (modPair_kept h1))))) h1) h

theorem execEstopChatterClear_kept {k} (h : Kept s0 s) : KeptRes s0 (execEstopChatterClear k s) := by
  unfold execEstopChatterClear
  exact inSafety_kept (fun _ h1 => .ite (autoRelease_kept (postEstop_kept (modPair_kept h1))) h1) h

theorem chatterCheck_kept {k} (h : Kept s0 s) : Kept s0 (chatterCheck k s) := by
  unfold chatterCheck
  exact .ite (takeStop_kept (postEstop_kept (modPair_kept h))) h

theorem stopSamples_kept {i} (h : Kept s0 s) : Kept s0 (stopSamples i s) := by
  unfold stopSamples
  exact .ite h (forFin_kept (fun _ _ h1 => chatterCheck_kept h1) (.units h))

theorem compareBlock_kept (h : Kept s0 s) : Kept s0 (compareBlock s) := by
  unfold compareBlock
  exact .ite (.units h) h

theorem postBlock_kept {cause check edition} (h : Kept s0 s) : Kept s0 (postBlock cause check edition s) := by
  unfold postBlock
  exact postSaf_kept h

theorem activateOne_kept {p} (h : Kept s0 s) : Kept s0 (activateOne s p) := by
  unfold activateOne
  exact postBlock_kept (.units h)

theorem pairActivated_kept {usedBefore k} (h : Kept s0 s) : Kept s0 (pairActivated usedBefore k s) := by
  unfold pairActivated
  exact .ite (takeStop_kept (modInp_kept (modInp_kept h))) (autoRelease_kept h)

theorem activateBlock_kept (h : Kept s0 s) : Kept s0 (activateBlock s) := by
  unfold activateBlock
  split
  · exact h
  · exact forFin_kept (fun _ _ h1 => pairActivated_kept h1) (.foldl (fun _ _ h2 => activateOne_kept h2) (.units h))

theorem checkBlock_kept (h : Kept s0 s) : Kept s0 (checkBlock s) := by
  unfold checkBlock
  split
  · exact h
  · extract_lets +onlyGivenNames good1
    split
    · exact .units h
    · exact .ite h (postBlock_kept (.units h))

theorem safBlockWrite_kept {f} (h : Kept s0 s) : Kept s0 (safBlockWrite f s) := by
  unfold safBlockWrite
  split
  · exact completeSt_kept h
  · exact complete_kept (postBlock_kept (.units h))

theorem runSafBlockWrite_kept (h : Kept s0 s) : KeptRes s0 (runSafBlockWrite s) := by
  unfold runSafBlockWrite
  exact .next (dispatch_kept (fun _ _ h1 => safBlockWrite_kept h1) h)

theorem safBlockRead_kept {f} (h : Kept s0 s) : Kept s0 (safBlockRead f s) := by
  unfold safBlockRead
  extract_lets w src
  refine .ite (completeSt_kept h) ?_
  clear_value src
  split
  · exact complete_kept h
  · exact completeSt_kept h

theorem runSafBlockRead_kept (h : Kept s0 s) : KeptRes s0 (runSafBlockRead s) := by
  unfold runSafBlockRead
  exact .next (dispatch_kept (fun _ _ h1 => safBlockRead_kept h1) h)

theorem safCommission_kept {f} (h : Kept s0 s) : Kept s0 (safCommission f s) := by
  unfold safCommission
  extract_lets +onlyGivenNames busy1
  split
  · exact completeSt_kept h
  · exact .ite (completeSt_kept h) (.ite (completeSt_kept h) (.ite (complete_kept (postBlock_kept (.units h))) (.ite (complete_kept h)
      (complete_kept (.units h)))))

theorem runSafCommission_kept (h : Kept s0 s) : KeptRes s0 (runSafCommission s) := by
  unfold runSafCommission
  exact .next (dispatch_kept (fun _ _ h1 => safCommission_kept h1) h)

theorem execSafPendingExpiry_kept (h : Kept s0 s) : KeptRes s0 (execSafPendingExpiry s) := by
  unfold execSafPendingExpiry
  refine inSafety_kept ?_ h
  intro t3 h4
  split
  · exact .ite (postBlock_kept (.units h4)) h4
  · exact h4

theorem safEstopRelease_kept {f} (h : Kept s0 s) : Kept s0 (safEstopRelease f s) := by
  unfold safEstopRelease
  exact .ite (completeSt_kept h) (.ite (completeSt_kept h) (.ite (completeSt_kept h) (complete_kept (.foldl (fun _ _ h1 =>
      releaseStop_kept h1) h))))

theorem runSafEstopRelease_kept (h : Kept s0 s) : KeptRes s0 (runSafEstopRelease s) := by
  unfold runSafEstopRelease
  exact .next (dispatch_kept (fun _ _ h1 => safEstopRelease_kept h1) h)

theorem execSafEstopRead_kept (h : Kept s0 s) : KeptRes s0 (execSafEstopRead s) := by
  unfold execSafEstopRead
  exact .next (hostAcc_kept (fun _ h1 => .units h1) h)

theorem runSafStatusRead_kept (h : Kept s0 s) : KeptRes s0 (runSafStatusRead s) := by
  unfold runSafStatusRead
  exact .next (dispatch_kept (fun _ _ h1 => complete_kept h1) h)

theorem hurtCopy_kept {o j how} (h : Kept s0 s) : Kept s0 (hurtCopy o j how s) := by
  unfold hurtCopy
  split
  · exact .units h
  · exact .units h
  · exact .units h
  · exact .units h
  · exact .units h
  · exact .units h

theorem scrubAccount_kept {n j} (h : Kept s0 s) : Kept s0 (scrubAccount n j s) := by
  unfold scrubAccount
  exact .units h

theorem scrubTokens_kept {j} (h : Kept s0 s) : Kept s0 (scrubTokens j s) := by
  unfold scrubTokens
  exact .ite h (.units h)

theorem scrubHelper_kept (h : Kept s0 s) : Kept s0 (scrubHelper s) := by
  unfold scrubHelper
  split
  · exact .units h
  · exact h

theorem checkOwner_kept {o j} (h : Kept s0 s) : Kept s0 (checkOwner o j s) := by
  unfold checkOwner
  split
  · exact scrubBill_kept h
  · exact scrubAccount_kept h
  · exact checkBlock_kept h
  · exact checkKey_kept h
  · exact scrubTokens_kept h
  · exact scrubHelper_kept h

theorem notifyOwners_kept {t1} (h : Kept s0 s) : Kept s0 (notifyOwners t1 s) := by
  unfold notifyOwners
  exact modMem_kept h

theorem checkNoticed_kept {w} (h : Kept s0 s) : Kept s0 (checkNoticed w s) := by
  unfold checkNoticed
  split
  exact .foldl (fun _ _ h1 => checkOwner_kept h1) (modMem_kept h)

theorem scrubStep_kept (h : Kept s0 s) : Kept s0 (scrubStep s) := by
  unfold scrubStep
  split
  extract_lets ws1 s2 s3 last4
  have h2 : Kept s0 s2 := .foldl (fun _ _ h5 => readWord_kept h5) h
  have h3 : Kept s0 s3 := by
    unfold s3
    split
    · exact notifyOwners_kept (verifyTile_kept h2)
    · exact h2
  exact modMem_kept h3

theorem moveWord_kept {x i} (h : Kept s0 s) : Kept s0 (moveWord x i s) := by
  unfold moveWord
  split
  · split
    · exact writeWord_kept h
    · exact h
  · exact mergeWord_kept h
  · exact portRead_kept h

theorem modPrio_kept {k f} (h : Kept s0 s) : Kept s0 (modPrio k f s) := by
  unfold modPrio
  exact modMem_kept h

theorem arbitrate_kept (h : Kept s0 s) : Kept s0 (arbitrate s) := by
  unfold arbitrate
  split
  · exact h
  · split
    · exact h
    · exact modMem_kept (modPrio_kept (.foldl (fun _ _ h1 => modPrio_kept h1) h))

theorem endXfer_kept {w} (h : Kept s0 s) : Kept s0 (endXfer w s) := by
  unfold endXfer
  exact modMem_kept (modPrio_kept h)

theorem preempt_kept {w} (h : Kept s0 s) : Kept s0 (preempt w s) := by
  unfold preempt
  exact modMem_kept h

theorem wordBoundary_kept (h : Kept s0 s) : Kept s0 (wordBoundary s) := by
  unfold wordBoundary
  split
  · exact h
  · exact .ite (endXfer_kept (moveWord_kept h)) (.ite (preempt_kept (modMem_kept (moveWord_kept h))) (modMem_kept (moveWord_kept h)))

theorem raiseReq_kept {r} (h : Kept s0 s) : Kept s0 (raiseReq s r) := by
  unfold raiseReq
  exact .ite h (modMem_kept h)

theorem execMramPortRequest_kept {reqs} (h : Kept s0 s) : KeptRes s0 (execMramPortRequest reqs s) := by
  unfold execMramPortRequest
  exact .next (.ite h (arbitrate_kept (wordBoundary_kept (.foldl (fun _ _ h1 => raiseReq_kept h1) h))))

theorem writeArbPrio_kept {k v} (h : Kept s0 s) : Kept s0 (writeArbPrio k v s) := by
  unfold writeArbPrio
  exact .ite h (.ite (modMem_kept h) (modPrio_kept (modMem_kept h)))

theorem execArbPrioWrite_kept {k v} (h : Kept s0 s) : KeptRes s0 (execArbPrioWrite k v s) := by
  unfold execArbPrioWrite
  exact .next (hostAcc_kept (fun _ h1 => writeArbPrio_kept h1) h)

theorem drainPort_kept {k} (h : Kept s0 s) : Kept s0 (drainPort k s) := by
  induction k generalizing s with
  | zero => exact h
  | succ k ih =>
    unfold drainPort
    exact .ite (ih (wordBoundary_kept h)) h

theorem mapTile_kept {t1 p} (h : Kept s0 s) : Kept s0 (mapTile t1 p s) := by
  unfold mapTile
  exact modMem_kept h

theorem exchangeTiles_kept {t1 u} (h : Kept s0 s) : Kept s0 (exchangeTiles t1 u s) := by
  unfold exchangeTiles
  exact mapTile_kept (mapTile_kept h)

theorem countCopy_kept {t1} (h : Kept s0 s) : Kept s0 (countCopy t1 s) := by
  unfold countCopy
  exact countWrites_kept h

theorem exchangeTile_kept {t1} (h : Kept s0 s) : Kept s0 (exchangeTile t1 s) := by
  unfold exchangeTile
  split
  · exact postTile_kept (countCopy_kept (countCopy_kept (exchangeTiles_kept (modMem_kept h))))
  · exact h

theorem switchTile_kept {r} (h : Kept s0 s) : Kept s0 (switchTile r s) := by
  unfold switchTile
  split
  · exact postTile_kept (.ite (setReplace_kept (countCopy_kept (mapTile_kept (modMem_kept h)))) (countCopy_kept (mapTile_kept
      (modMem_kept h))))
  · exact exchangeTile_kept h

theorem wearStep_kept (h : Kept s0 s) : Kept s0 (wearStep s) := by
  unfold wearStep
  split
  · exact h
  · exact .ite (modMem_kept (.foldl (fun _ _ h1 => readWord_kept h1) h)) (arbitrate_kept (modMem_kept (switchTile_kept (modMem_kept
      (drainPort_kept (modMem_kept h))))))

theorem execCeRateWindowEnd_kept (h : Kept s0 s) : KeptRes s0 (execCeRateWindowEnd s) := by
  unfold execCeRateWindowEnd
  exact .next (.ite (.ite (setReplace_kept (modMem_kept h)) (modMem_kept h)) h)

theorem memLogRead_kept {f} (h : Kept s0 s) : Kept s0 (memLogRead f s) := by
  unfold memLogRead
  exact complete_kept h

theorem runMemLogRead_kept (h : Kept s0 s) : KeptRes s0 (runMemLogRead s) := by
  unfold runMemLogRead
  exact .next (dispatch_kept (fun _ _ h1 => memLogRead_kept h1) h)

theorem consume_kept {c n} (h : Kept s0 s) : Kept s0 (consume c n s) := by
  unfold consume
  split
  · split
    · split
      rename_i s1 e1
      have h1 : Kept s0 s1 := .of_snd e1 (freeBytes_kept h)
      exact complete_kept h1
    · exact h
  · exact .units h
  · exact checkOwner_kept (hurtCopy_kept h)
  · exact .units h
  · split
    rename_i s2 e2
    have h2 : Kept s0 s2 := .of_snd e2 (drawBool_kept h)
    split
    · exact .ite (.units h2) h2
    · exact h2
  · exact raise_kept h
  · exact h

theorem consumeAll_kept {k l} (h : Kept s0 s) : Kept s0 (consumeAll k l s) := by
  induction k generalizing l s with
  | zero =>
    unfold consumeAll
    exact h
  | succ k ih =>
    cases l with
    | nil => exact h
    | cons e t => exact ih (postMail_kept (consume_kept h))

theorem writeCeCfg_kept {v} (h : Kept s0 s) : Kept s0 (writeCeCfg v s) := by
  unfold writeCeCfg
  exact .ite h (modMem_kept h)

theorem modNfc_kept {f} (h : Kept s0 s) : Kept s0 (modNfc f s) := by
  unfold modNfc
  exact .units h

theorem calmPing_kept {amp} (h : Kept s0 s) : Kept s0 (calmPing amp s) := by
  unfold calmPing
  exact modNfc_kept h

theorem postCard_kept {ktype klen key result index} (h : Kept s0 s) : Kept s0 (postCard ktype klen key result index s) := by
  unfold postCard
  exact postMail_kept h

theorem emptyPoll_kept {amp} (h : Kept s0 s) : Kept s0 (emptyPoll amp s) := by
  unfold emptyPoll
  exact .ite (modNfc_kept h) (modNfc_kept h)

theorem holdCard_kept {c} (h : Kept s0 s) : Kept s0 (holdCard c s) := by
  unfold holdCard
  exact modNfc_kept h

theorem reportCard_kept {c} (h : Kept s0 s) : Kept s0 (reportCard c s) := by
  unfold reportCard
  split
  · exact h
  · extract_lets key1
    split
    rename_i s2 e2
    have h2 : Kept s0 s2 := .of_snd e2 (listLookup_kept h)
    exact .ite (holdCard_kept (modNfc_kept (postCard_kept h2))) (modNfc_kept (postCard_kept h2))

theorem pollResult_kept {amp hit} (h : Kept s0 s) : Kept s0 (pollResult amp hit s) := by
  unfold pollResult
  split
  · exact emptyPoll_kept h
  · exact .ite (modNfc_kept h) (modNfc_kept (postCard_kept (modNfc_kept h)))
  · exact reportCard_kept (modNfc_kept h)

theorem poll_kept {amp cards} (h : Kept s0 s) : Kept s0 (poll amp cards s) := by
  unfold poll
  exact .ite (pollResult_kept (.foldl (fun _ _ h1 => emit_kept h1) (emit_kept h))) (emit_kept (pollResult_kept (.foldl (fun _ _ h2 =>
      emit_kept h2) (emit_kept h))))

theorem ping_kept {amp cards} (h : Kept s0 s) : Kept s0 (ping amp cards s) := by
  unfold ping
  exact .ite (modNfc_kept h) (.ite (.ite (modNfc_kept (modNfc_kept (modNfc_kept h))) (poll_kept (modNfc_kept (modNfc_kept h))))
      (calmPing_kept (modNfc_kept (modNfc_kept h))))

theorem execNfcPing_kept {amp cards} (h : Kept s0 s) : KeptRes s0 (execNfcPing amp cards s) := by
  unfold execNfcPing
  exact .next (.ite (ping_kept h) h)

theorem fieldOff_kept (h : Kept s0 s) : Kept s0 (fieldOff s) := by
  unfold fieldOff
  exact emit_kept (modNfc_kept h)

theorem execNfcFieldHoldEnd_kept (h : Kept s0 s) : KeptRes s0 (execNfcFieldHoldEnd s) := by
  unfold execNfcFieldHoldEnd
  refine .next ?_
  split
  · exact .ite (fieldOff_kept h) h
  · exact h

theorem execIsoDepCardLeft_kept (h : Kept s0 s) : KeptRes s0 (execIsoDepCardLeft s) := by
  unfold execIsoDepCardLeft
  exact .next (.ite (fieldOff_kept h) h)

theorem nfcExchange_kept {f} (h : Kept s0 s) : Kept s0 (nfcExchange f s) := by
  unfold nfcExchange
  exact .ite (completeSt_kept h) (.ite (completeSt_kept h) (emit_kept (keepRunning_kept (modNfc_kept h))))

theorem runNfcExchange_kept (h : Kept s0 s) : KeptRes s0 (runNfcExchange s) := by
  unfold runNfcExchange
  exact .next (dispatch_kept (fun _ _ h1 => nfcExchange_kept h1) h)

theorem execNfcExchangeAnswer_kept {answer} (h : Kept s0 s) : KeptRes s0 (execNfcExchangeAnswer answer s) := by
  unfold execNfcExchangeAnswer
  refine .next ?_
  split
  · exact .ite (completeSeq_kept (modNfc_kept h)) h
  · exact h

theorem execNfcExchangeTimeout_kept (h : Kept s0 s) : KeptRes s0 (execNfcExchangeTimeout s) := by
  unfold execNfcExchangeTimeout
  refine .next ?_
  split
  · exact .ite (completeSeq_kept (modNfc_kept h)) h
  · exact h

theorem writeNfcCfg_kept {v} (h : Kept s0 s) : Kept s0 (writeNfcCfg v s) := by
  unfold writeNfcCfg
  exact .ite (modNfc_kept h) (modNfc_kept h)

theorem modTag_kept {f} (h : Kept s0 s) : Kept s0 (modTag f s) := by
  unfold modTag
  exact .units h

theorem setPage_kept {p g} (h : Kept s0 s) : Kept s0 (setPage p g s) := by
  unfold setPage
  exact modTag_kept h

theorem cutWrite_kept {p bytes step} (h : Kept s0 s) : Kept s0 (cutWrite p bytes step s) := by
  unfold cutWrite
  extract_lets g1 g_2
  split
  · exact h
  · exact h
  · split
    rename_i s3 e3
    have h3 : Kept s0 s3 := .of_snd e3 (freeBytes_kept h)
    exact setPage_kept h3
  · split
    rename_i s4 e4
    have h4 : Kept s0 s4 := .of_snd e4 (drawBool_kept h)
    exact setPage_kept h4
  · exact setPage_kept h

theorem postTag_kept {cause data} (h : Kept s0 s) : Kept s0 (postTag cause data s) := by
  unfold postTag
  exact .ite (postMail_kept h) h

theorem stepWrite_kept {w step} (h : Kept s0 s) : Kept s0 (stepWrite w step s) := by
  unfold stepWrite
  split
  · extract_lets g1
    split
    · exact setPage_kept h
    · exact setPage_kept h
    · exact setPage_kept h
    · exact h
  · split
    · exact modTag_kept h
    · exact modTag_kept h
    · exact modTag_kept h
    · exact h

theorem cutSet_kept {new step} (h : Kept s0 s) : Kept s0 (cutSet new step s) := by
  unfold cutSet
  split
  · exact h
  · exact h
  · exact h
  · split
    rename_i s1 e1
    have h1 : Kept s0 s1 := .of_snd e1 (drawBool_kept h)
    exact .ite (modTag_kept h1) h1
  · exact modTag_kept h

theorem settleCut_kept (h : Kept s0 s) : Kept s0 (settleCut s) := by
  unfold settleCut
  split
  · exact h
  · extract_lets s1
    have h1 : Kept s0 s1 := modTag_kept h
    split
    · exact .ite (setPage_kept h1) (cutWrite_kept h1)
    · exact cutSet_kept h1

theorem completeFlags_kept (h : Kept s0 s) : Kept s0 (completeFlags s) := by
  unfold completeFlags
  exact .foldl (fun _ _ h1 => postTag_kept (setPage_kept h1)) (.ite (modTag_kept (settleCut_kept h)) (settleCut_kept h))

theorem tagPowerUp_kept (h : Kept s0 s) : Kept s0 (tagPowerUp s) := by
  unfold tagPowerUp
  exact completeFlags_kept (modTag_kept h)

theorem execTagPowerUp_kept (h : Kept s0 s) : KeptRes s0 (execTagPowerUp s) := by
  unfold execTagPowerUp
  exact .next (tagPowerUp_kept h)

theorem tagFieldOn_kept (h : Kept s0 s) : Kept s0 (tagFieldOn s) := by
  unfold tagFieldOn
  exact .ite h (modTag_kept h)

theorem tickFd_kept (h : Kept s0 s) : Kept s0 (tickFd s) := by
  unfold tickFd
  exact .ite (postTag_kept (modTag_kept h)) h

theorem execTagFieldOn_kept (h : Kept s0 s) : KeptRes s0 (execTagFieldOn s) := by
  unfold execTagFieldOn
  exact .next (tagFieldOn_kept h)

theorem tagFieldOff_kept (h : Kept s0 s) : Kept s0 (tagFieldOff s) := by
  unfold tagFieldOff
  exact .ite (modTag_kept h) h

theorem execTagFieldOff_kept (h : Kept s0 s) : KeptRes s0 (execTagFieldOff s) := by
  unfold execTagFieldOff
  exact .next (tagFieldOff_kept h)

theorem execFdOutRelease_kept (h : Kept s0 s) : KeptRes s0 (execFdOutRelease s) := by
  unfold execFdOutRelease
  exact .next (.ite (postTag_kept (modTag_kept h)) h)

theorem answerTag_kept {o} (h : Kept s0 s) : Kept s0 (answerTag o s) := by
  unfold answerTag
  exact emit_kept h

theorem inField_kept {act : State → State} (hact : ∀ t, Kept s0 t → Kept s0 (act t)) (h : Kept s0 s) : KeptRes s0 (inField act s) := by
  unfold inField
  exact .next (.ite (hact _ h) h)

theorem execInventory_kept {afi} (h : Kept s0 s) : KeptRes s0 (execInventory afi s) := by
  unfold execInventory
  exact inField_kept (fun _ h1 => .ite h1 (answerTag_kept h1)) h

theorem execStayQuiet_kept {uid} (h : Kept s0 s) : KeptRes s0 (execStayQuiet uid s) := by
  unfold execStayQuiet
  exact inField_kept (fun _ h1 => .ite (modTag_kept h1) h1) h

theorem execSelect_kept {uid} (h : Kept s0 s) : KeptRes s0 (execSelect uid s) := by
  unfold execSelect
  exact inField_kept (fun _ h1 => .ite (answerTag_kept (modTag_kept h1)) (modTag_kept h1)) h

theorem execResetToReady_kept {uid} (h : Kept s0 s) : KeptRes s0 (execResetToReady uid s) := by
  unfold execResetToReady
  exact inField_kept (fun _ h1 => .ite (answerTag_kept (modTag_kept h1)) h1) h

theorem execGetSystemInformation_kept (h : Kept s0 s) : KeptRes s0 (execGetSystemInformation s) := by
  unfold execGetSystemInformation
  exact inField_kept (fun _ h1 => answerTag_kept h1) h

theorem jobBusy_kept (h : Kept s0 s) : Kept s0 (jobBusy s) := by
  unfold jobBusy
  split
  · exact completeSeq_kept (modTag_kept h)
  · exact h

theorem jobNext_kept {j} (h : Kept s0 s) : Kept s0 (jobNext j s) := by
  unfold jobNext
  split
  · exact h
  · exact completeSeq_kept (modTag_kept h)
  · exact modTag_kept h

theorem tagStep_kept (h : Kept s0 s) : Kept s0 (tagStep s) := by
  unfold tagStep
  split
  · exact h
  · split
    · exact h
    · exact .ite (jobBusy_kept h) (.ite (modTag_kept (stepWrite_kept h)) (jobNext_kept (stepWrite_kept h)))

theorem tagTick_kept (h : Kept s0 s) : Kept s0 (tagTick s) := by
  unfold tagTick
  exact .ite (tagStep_kept (tickFd_kept h)) (tickFd_kept h)

theorem fieldTakes_kept {first n} (h : Kept s0 s) : Kept s0 (fieldTakes first n s) := by
  unfold fieldTakes
  extract_lets s1
  have h1 : Kept s0 s1 := by
    unfold s1
    split
    · split
      · exact .ite (.ite (jobBusy_kept h) (jobNext_kept (stepWrite_kept (.ite (stepWrite_kept h) h)))) h
      · exact h
    · exact h
  exact modTag_kept h1

theorem settingsFree_kept (h : Kept s0 s) : Kept s0 (settingsFree s) := by
  unfold settingsFree
  split
  · split
    · exact h
    · exact .ite (jobBusy_kept h) (jobNext_kept (stepWrite_kept (.ite (stepWrite_kept h) h)))
    · exact h
  · exact h

theorem readBlocksAnswer_kept {b count} (h : Kept s0 s) : Kept s0 (readBlocksAnswer b count s) := by
  unfold readBlocksAnswer
  exact .ite (answerTag_kept h) (.ite (answerTag_kept h) (answerTag_kept h))

theorem readBlocks_kept {b count} (h : Kept s0 s) : Kept s0 (readBlocks b count s) := by
  unfold readBlocks
  exact readBlocksAnswer_kept (fieldTakes_kept h)

theorem execReadSingleBlock_kept {b} (h : Kept s0 s) : KeptRes s0 (execReadSingleBlock b s) := by
  unfold execReadSingleBlock
  exact inField_kept (fun _ h1 => readBlocks_kept h1) h

theorem execReadMultipleBlocks_kept {b count} (h : Kept s0 s) : KeptRes s0 (execReadMultipleBlocks b count s) := by
  unfold execReadMultipleBlocks
  exact inField_kept (fun _ h1 => readBlocks_kept h1) h

theorem writeBlocks_kept {b data cut} (h : Kept s0 s) : Kept s0 (writeBlocks b data cut s) := by
  unfold writeBlocks
  exact .ite (answerTag_kept h) (.ite (answerTag_kept h) (.ite (answerTag_kept h) (.ite (answerTag_kept (postTag_kept (setPage_kept
      (fieldTakes_kept h)))) (cutWrite_kept (fieldTakes_kept h)))))

theorem execWriteSingleBlock_kept {b data cut} (h : Kept s0 s) : KeptRes s0 (execWriteSingleBlock b data cut s) := by
  unfold execWriteSingleBlock
  exact inField_kept (fun _ h1 => writeBlocks_kept h1) h

theorem execWriteMultipleBlocks_kept {b data cut} (h : Kept s0 s) : KeptRes s0 (execWriteMultipleBlocks b data cut s) := by
  unfold execWriteMultipleBlocks
  exact inField_kept (fun _ h1 => writeBlocks_kept h1) h

theorem modArea_kept {k f} (h : Kept s0 s) : Kept s0 (modArea k f s) := by
  unfold modArea
  exact modTag_kept h

/-- A commit that is done leaves a state like the one before, and so does one that the field cuts off. -/
theorem commitArea_kept {k f cut} (h : Kept s0 s) :
    Kept s0 (commitArea k f cut s).2 ∧ ∀ t, (commitArea k f cut s).1 = some t → Kept s0 t := by
  unfold commitArea
  extract_lets new
  split
  · exact ⟨h, fun t e => by cases e; exact modTag_kept h⟩
  · exact ⟨cutSet_kept h, fun t e => by cases e⟩

theorem Kept.of_commitArea {k f cut} {a : Option State} (h : Kept s0 s) (e : commitArea k f cut s = (a, t)) :
    Kept s0 t ∧ ∀ u, a = some u → Kept s0 u := by
  have both := commitArea_kept (k := k) (f := f) (cut := cut) h
  rwa [e] at both

theorem comparePassword_kept {k pw cut} (h : Kept s0 s) : Kept s0 (comparePassword k pw cut s) := by
  unfold comparePassword
  split
  · exact h
  · split
    · split
      · rename_i e
        exact answerTag_kept (postTag_kept (modArea_kept ((Kept.of_commitArea h e).2 _ rfl)))
      · rename_i e
        exact (Kept.of_commitArea h e).1
    · have h1 : ∀ d f, Kept s0 (postTag 3 d (modArea k f s)) := fun _ _ => postTag_kept (modArea_kept h)
      exact answerTag_kept (.ite (postTag_kept (h1 _ _)) (h1 _ _))

theorem presentPassword_kept {mfr area pw cut} (h : Kept s0 s) : Kept s0 (presentPassword mfr area pw cut s) := by
  unfold presentPassword
  extract_lets +onlyGivenNames k
  refine .ite (answerTag_kept h) ?_
  extract_lets s1
  have h1 : Kept s0 s1 := settingsFree_kept (modTag_kept h)
  split
  · exact answerTag_kept h1
  · refine .ite (answerTag_kept h1) ?_
    split
    · rename_i e
      exact comparePassword_kept ((Kept.of_commitArea h1 e).2 _ rfl)
    · rename_i e
      exact (Kept.of_commitArea h1 e).1

theorem execPresentPassword_kept {mfr area pw cut} (h : Kept s0 s) : KeptRes s0 (execPresentPassword mfr area pw cut s) := by
  unfold execPresentPassword
  exact inField_kept (fun _ h1 => presentPassword_kept h1) h

theorem execTagUnsupportedCommand_kept {_code} (h : Kept s0 s) : KeptRes s0 (execTagUnsupportedCommand _code s) := by
  unfold execTagUnsupportedCommand
  exact inField_kept (fun _ h1 => answerTag_kept h1) h

theorem nfcTagRead_kept {f} (h : Kept s0 s) : Kept s0 (nfcTagRead f s) := by
  unfold nfcTagRead
  split
  · exact completeSt_kept h
  · exact complete_kept h

theorem runNfcTagRead_kept (h : Kept s0 s) : KeptRes s0 (runNfcTagRead s) := by
  unfold runNfcTagRead
  exact .next (dispatch_kept (fun _ _ h1 => nfcTagRead_kept h1) h)

theorem writePages_kept {first n bytes} (h : Kept s0 s) : Kept s0 (writePages first n bytes s) := by
  unfold writePages
  exact .foldl (fun _ _ h1 => setPage_kept h1) h

theorem startTagJob_kept {f todo} (h : Kept s0 s) : Kept s0 (startTagJob f todo s) := by
  unfold startTagJob
  exact keepRunning_kept (modTag_kept h)

theorem nfcTagWrite_kept {f} (h : Kept s0 s) : Kept s0 (nfcTagWrite f s) := by
  unfold nfcTagWrite
  split
  · exact completeSt_kept h
  · exact .ite (completeSt_kept h) (startTagJob_kept h)

theorem runNfcTagWrite_kept (h : Kept s0 s) : KeptRes s0 (runNfcTagWrite s) := by
  unfold runNfcTagWrite
  exact .next (dispatch_kept (fun _ _ h1 => nfcTagWrite_kept h1) h)

theorem nfcTagArea_kept {f} (h : Kept s0 s) : Kept s0 (nfcTagArea f s) := by
  unfold nfcTagArea
  exact .ite (completeSt_kept h) (startTagJob_kept h)

theorem runNfcTagArea_kept (h : Kept s0 s) : KeptRes s0 (runNfcTagArea s) := by
  unfold runNfcTagArea
  exact .next (dispatch_kept (fun _ _ h1 => nfcTagArea_kept h1) h)

theorem nfcTagUnlock_kept {f} (h : Kept s0 s) : Kept s0 (nfcTagUnlock f s) := by
  unfold nfcTagUnlock
  exact .ite (completeSt_kept h) (startTagJob_kept h)

theorem runNfcTagUnlock_kept (h : Kept s0 s) : KeptRes s0 (runNfcTagUnlock s) := by
  unfold runNfcTagUnlock
  exact .next (dispatch_kept (fun _ _ h1 => nfcTagUnlock_kept h1) h)

theorem execTagStatusRecordWrite_kept (h : Kept s0 s) : KeptRes s0 (execTagStatusRecordWrite s) := by
  unfold execTagStatusRecordWrite
  exact .next (.ite (modTag_kept (writePages_kept h)) h)

theorem modUpd_kept {f} (h : Kept s0 s) : Kept s0 (modUpd f s) := by
  unfold modUpd
  exact .units h

theorem postUpd_kept {cause why reason id} (h : Kept s0 s) : Kept s0 (postUpd cause why reason id s) := by
  unfold postUpd
  exact postMail_kept h

theorem storePiece_kept {idx bytes} (h : Kept s0 s) : Kept s0 (storePiece idx bytes s) := by
  unfold storePiece
  exact .ite (postUpd_kept (modUpd_kept (writePiece_kept h))) (modUpd_kept (writePiece_kept h))

theorem updArm_kept {f} (h : Kept s0 s) : Kept s0 (updArm f s) := by
  unfold updArm
  exact .ite (completeSt_kept h) (.ite (completeSt_kept h) (complete_kept (modUpd_kept h)))

theorem runUpdArm_kept (h : Kept s0 s) : KeptRes s0 (runUpdArm s) := by
  unfold runUpdArm
  exact .next (dispatch_kept (fun _ _ h1 => updArm_kept h1) h)

theorem updPieceWrite_kept {f} (h : Kept s0 s) : Kept s0 (updPieceWrite f s) := by
  unfold updPieceWrite
  extract_lets +onlyGivenNames idx1
  split
  · exact completeSt_kept h
  · exact .ite (completeSt_kept h) (.ite (completeSt_kept h) (.ite (complete_kept h) (complete_kept (storePiece_kept h))))

theorem runUpdPieceWrite_kept (h : Kept s0 s) : KeptRes s0 (runUpdPieceWrite s) := by
  unfold runUpdPieceWrite
  exact .next (dispatch_kept (fun _ _ h1 => updPieceWrite_kept h1) h)

theorem relayPiece_kept {id idx data} (h : Kept s0 s) : Kept s0 (relayPiece id idx data s) := by
  unfold relayPiece
  split
  · exact .ite (storePiece_kept h) h
  · exact h

theorem execFirmwarePiece_kept {id idx data} (h : Kept s0 s) : KeptRes s0 (execFirmwarePiece id idx data s) := by
  unfold execFirmwarePiece
  exact .next (.ite h (.ite (modBkb_kept (relayPiece_kept h)) (relayPiece_kept h)))

theorem updBitmapRead_kept {f} (h : Kept s0 s) : Kept s0 (updBitmapRead f s) := by
  unfold updBitmapRead
  exact complete_kept h

theorem runUpdBitmapRead_kept (h : Kept s0 s) : KeptRes s0 (runUpdBitmapRead s) := by
  unfold runUpdBitmapRead
  exact .next (dispatch_kept (fun _ _ h1 => updBitmapRead_kept h1) h)

theorem bkbRelayStart_kept {f} (h : Kept s0 s) : Kept s0 (bkbRelayStart f s) := by
  unfold bkbRelayStart
  split
  · exact completeSt_kept h
  · extract_lets id1
    split
    · exact completeSt_kept h
    · exact complete_kept (postRelay_kept (modBkb_kept h))

theorem runBkbRelayStart_kept (h : Kept s0 s) : KeptRes s0 (runBkbRelayStart s) := by
  unfold runBkbRelayStart
  exact .next (dispatch_kept (fun _ _ h1 => bkbRelayStart_kept h1) h)

theorem bkbRelayStop_kept {f} (h : Kept s0 s) : Kept s0 (bkbRelayStop f s) := by
  unfold bkbRelayStop
  split
  · exact completeSt_kept h
  · exact completeSt_kept (postRelay_kept (modBkb_kept h))

theorem runBkbRelayStop_kept (h : Kept s0 s) : KeptRes s0 (runBkbRelayStop s) := by
  unfold runBkbRelayStop
  exact .next (dispatch_kept (fun _ _ h1 => bkbRelayStop_kept h1) h)

theorem putSettings_kept {t1} (h : Kept s0 s) : Kept s0 (putSettings t1 s) := by
  unfold putSettings
  split
  split
  split
  split
  split
  split
  split
  split
  exact .units h

theorem checkTiles_kept {k} (h : Kept s0 s) : Kept s0 (checkTiles k s).2 := by
  unfold checkTiles
  extract_lets ts1 ofSlot2 bad3 s4 s5
  have h4 : Kept s0 s4 := .foldl (fun _ _ h6 => verifyTile_kept h6) h
  have h5 : Kept s0 s5 := .foldl (fun _ _ h7 => readWord_kept h7) h4
  split
  · exact postMail_kept h5
  · exact h5

theorem bootConfirmed_kept {fell} (h : Kept s0 s) : Kept s0 (bootConfirmed fell s) := by
  unfold bootConfirmed
  exact modUpd_kept h

theorem bootTrial_kept {k header} (h : Kept s0 s) : Kept s0 (bootTrial k header s) := by
  unfold bootTrial
  exact modUpd_kept h

theorem bootRecovery_kept (h : Kept s0 s) : Kept s0 (bootRecovery s) := by
  unfold bootRecovery
  exact postUpd_kept (modUpd_kept h)

theorem endTrial_kept (h : Kept s0 s) : Kept s0 (endTrial s) := by
  unfold endTrial
  split
  · exact modUpd_kept (settleSct_kept (putSettings_kept h))
  · exact h

theorem noteFall_kept {why id} (h : Kept s0 s) : Kept s0 (noteFall why id s) := by
  unfold noteFall
  exact modUpd_kept h

theorem startCheck_kept {c} (h : Kept s0 s) : Kept s0 (startCheck c s) := by
  unfold startCheck
  exact queueBoot_kept (modUpd_kept (dropReq_kept h))

theorem bootResult_kept {c v r} (h : Kept s0 s) : Kept s0 (bootResult c v r s) := by
  unfold bootResult
  exact .ite (.ite (bootTrial_kept h) (bootConfirmed_kept h)) (.ite (bootRecovery_kept (modUpd_kept h)) (.ite (startCheck_kept
      (noteFall_kept (modUpd_kept h))) (.ite (startCheck_kept (modUpd_kept h)) (bootRecovery_kept (modUpd_kept h)))))

theorem imageBootCheck_kept {c b} (h : Kept s0 s) : Kept s0 (imageBootCheck c b s) := by
  unfold imageBootCheck
  split
  rename_i s1 e1
  have h1 : Kept s0 s1 := .of_snd e1 (checkTiles_kept h)
  exact .ite (bootResult_kept (dropReq_kept h1)) h1

theorem execImageBootCheck_kept {b} (h : Kept s0 s) : KeptRes s0 (execImageBootCheck b s) := by
  unfold execImageBootCheck
  refine .next ?_
  split
  · exact .ite (imageBootCheck_kept h) h
  · exact h

theorem bootRelease_kept (h : Kept s0 s) : Kept s0 (bootRelease s) := by
  unfold bootRelease
  exact .ite (startCheck_kept (modUpd_kept h)) (startCheck_kept (.ite (noteFall_kept (endTrial_kept h)) h))

theorem updReady_kept (h : Kept s0 s) : Kept s0 (updReady s) := by
  unfold updReady
  extract_lets s1
  have h1 : Kept s0 s1 := .ite (postUpd_kept (modUpd_kept h)) h
  split
  · exact postUpd_kept (modUpd_kept h1)
  · exact h1

theorem raiseUpdate_kept (h : Kept s0 s) : Kept s0 (raiseUpdate s) := by
  unfold raiseUpdate
  exact raiseLow_kept h

theorem updActivate_kept {f} (h : Kept s0 s) : Kept s0 (updActivate f s) := by
  unfold updActivate
  exact .ite (completeSt_kept h) (.ite (completeSt_kept h) (raiseUpdate_kept (complete_kept (modUpd_kept h))))

theorem runUpdActivate_kept (h : Kept s0 s) : KeptRes s0 (runUpdActivate s) := by
  unfold runUpdActivate
  exact .next (dispatch_kept (fun _ _ h1 => updActivate_kept h1) h)

theorem updConfirm_kept {f} (h : Kept s0 s) : Kept s0 (updConfirm f s) := by
  unfold updConfirm
  exact .ite (completeSt_kept h) (.ite (completeSt_kept h) (complete_kept (postUpd_kept (modUpd_kept h))))

theorem runUpdConfirm_kept (h : Kept s0 s) : KeptRes s0 (runUpdConfirm s) := by
  unfold runUpdConfirm
  exact .next (dispatch_kept (fun _ _ h1 => updConfirm_kept h1) h)

theorem updRevert_kept {f} (h : Kept s0 s) : Kept s0 (updRevert f s) := by
  unfold updRevert
  exact .ite (completeSt_kept h) (.ite (completeSt_kept h) (raiseUpdate_kept (completeSt_kept (modUpd_kept h))))

theorem runUpdRevert_kept (h : Kept s0 s) : KeptRes s0 (runUpdRevert s) := by
  unfold runUpdRevert
  exact .next (dispatch_kept (fun _ _ h1 => updRevert_kept h1) h)

theorem runTrialExpiry_kept (h : Kept s0 s) : KeptRes s0 (runTrialExpiry s) := by
  unfold runTrialExpiry
  refine .next ?_
  split
  · exact .ite (raiseUpdate_kept (modUpd_kept h)) h
  · exact h

theorem runUpdStatusRead_kept (h : Kept s0 s) : KeptRes s0 (runUpdStatusRead s) := by
  unfold runUpdStatusRead
  exact .next (dispatch_kept (fun _ _ h1 => complete_kept h1) h)

theorem writeUpdCfg_kept {v} (h : Kept s0 s) : Kept s0 (writeUpdCfg v s) := by
  unfold writeUpdCfg
  exact .ite h (modUpd_kept h)

theorem modRst_kept {f} (h : Kept s0 s) : Kept s0 (modRst f s) := by
  unfold modRst
  exact .units h

theorem postPwr_kept (h : Kept s0 s) : Kept s0 (postPwr s) := by
  unfold postPwr
  exact post_kept h

theorem railChange_kept {vp12 vn12} (h : Kept s0 s) : Kept s0 (railChange vp12 vn12 s) := by
  unfold railChange
  exact .ite (postPwr_kept (modRst_kept (modRst_kept h))) (modRst_kept h)

theorem execRailRangeChange_kept {vp12 vn12} (h : Kept s0 s) : KeptRes s0 (execRailRangeChange vp12 vn12 s) := by
  unfold execRailRangeChange
  exact .next (railChange_kept h)

theorem vbatMeasure_kept {mv} (h : Kept s0 s) : Kept s0 (vbatMeasure mv s) := by
  unfold vbatMeasure
  extract_lets low1 absent2 take3
  split
  · exact h
  · split
    · exact postPwr_kept (modRst_kept (modRst_kept h))
    · exact .ite h (.ite (postPwr_kept (modRst_kept h)) (modRst_kept h))

theorem execVbatMeasurement_kept {mv} (h : Kept s0 s) : KeptRes s0 (execVbatMeasurement mv s) := by
  unfold execVbatMeasurement
  exact .next (vbatMeasure_kept h)

theorem clearBtd_kept (h : Kept s0 s) : Kept s0 (clearBtd s) := by
  unfold clearBtd
  exact .units h

theorem restoreBtd_kept (h : Kept s0 s) : Kept s0 (restoreBtd s) := by
  unfold restoreBtd
  exact .units h

theorem powerGood_kept (h : Kept s0 s) : Kept s0 (powerGood s) := by
  unfold powerGood
  exact .ite (modRst_kept (.ite (.ite (raise_kept (stopWatch_kept h)) (level0_kept (stopWatch_kept h))) (stopWatch_kept h))) h

theorem execPowerGood_kept (h : Kept s0 s) : KeptRes s0 (execPowerGood s) := by
  unfold execPowerGood
  exact .next (powerGood_kept h)

theorem brownOut_kept {b deep cell hurts} (h : Kept s0 s) : Kept s0 (brownOut b deep cell hurts s) := by
  unfold brownOut
  extract_lets +onlyGivenNames s5 s6 s7 s8
  have h5 : Kept s0 s5 := .foldl (fun _ _ h9 => hurtCopy_kept h9) h
  have h6 : Kept s0 s6 := raise_kept h5
  have h7 : Kept s0 s7 := modRst_kept h6
  exact .ite (.ite (.units h7) h7) (clearBtd_kept (.ite (.units h7) h7))

theorem execRstPin_kept (h : Kept s0 s) : KeptRes s0 (execRstPin s) := by
  unfold execRstPin
  exact .next (raise_kept h)

theorem execPllLockLoss_kept {pllB} (h : Kept s0 s) : KeptRes s0 (execPllLockLoss pllB s) := by
  unfold execPllLockLoss
  refine .next ?_
  split
  · exact raise_kept h
  · exact raise_kept h

theorem execWdtMsdExpiry_kept (h : Kept s0 s) : KeptRes s0 (execWdtMsdExpiry s) := by
  unfold execWdtMsdExpiry
  exact .next (.ite (raise_kept h) h)

theorem execWdtApdExpiry_kept (h : Kept s0 s) : KeptRes s0 (execWdtApdExpiry s) := by
  unfold execWdtApdExpiry
  exact .next (.ite (raise_kept h) h)

theorem execCriticalStateMismatch_kept {c} (h : Kept s0 s) : KeptRes s0 (execCriticalStateMismatch c s) := by
  unfold execCriticalStateMismatch
  refine .next ?_
  split
  · exact .ite (raise_kept h) h
  · exact .ite (raise_kept h) h
  · exact .ite (raise_kept h) h

theorem execGtcStart_kept {locked i} (h : Kept s0 s) : KeptRes s0 (execGtcStart locked i s) := by
  unfold execGtcStart
  exact .next (.ite (.ite (.units h) (level0_kept h)) h)

theorem startEvents_kept (h : Kept s0 s) : Kept s0 (startEvents s) := by
  unfold startEvents
  split
  · exact h
  · exact modRst_kept (holdEvent_kept (.ite (holdEvent_kept h) h))

theorem startBill_kept {n} (h : Kept s0 s) : Kept s0 (startBill n s) := by
  unfold startBill
  exact .units (reconcileBill_kept h)

theorem releaseMsd_kept (h : Kept s0 s) : Kept s0 (releaseMsd s) := by
  unfold releaseMsd
  exact modRst_kept h

theorem startMsd_kept {i} (h : Kept s0 s) : Kept s0 (startMsd i s) := by
  unfold startMsd
  extract_lets +onlyGivenNames s13 s14 s15 s16 s17 s18 s19 s20
  have h15 : Kept s0 s15 := releaseMsd_kept (.units h)
  have h16 : Kept s0 s16 := restoreBtd_kept (startEvents_kept h15)
  have h17 : Kept s0 s17 := checkBlock_kept (startKeys_kept h16)
  have h18 : Kept s0 s18 := relatePrn_kept h17
  have h19 : Kept s0 s19 := restoreIntervals_kept (forFin_kept (fun _ _ h21 => startBill_kept h21) h18)
  have h20 : Kept s0 s20 := reconcileTokens_kept (forFin_kept (fun _ _ h22 => reconcileAccount_kept h22) h19)
  extract_lets s27 s28
  have h27 : Kept s0 s27 := copyWatchLog_kept (forFin_kept (fun _ _ h29 => closeAtReset_kept h29) h20)
  have h28 : Kept s0 s28 := .ite (leaveDomain_kept h27) h27
  exact .ite (bootRelease_kept h28) h28

theorem releaseHolds_kept (h : Kept s0 s) : Kept s0 (releaseHolds s) := by
  unfold releaseHolds
  exact .ite (leaveDomain_kept (.ite (bootRelease_kept (modRst_kept h)) (modRst_kept h))) (.ite (bootRelease_kept (modRst_kept h))
      (modRst_kept h))

theorem onReady_kept {bit} (h : Kept s0 s) : Kept s0 (onReady bit s) := by
  unfold onReady
  split
  · exact .units h
  · exact copyTamper_kept h
  · exact startSession_kept h
  · exact restoreLinks_kept h
  · exact .units h
  · exact completeFlags_kept h
  · exact lcdReady_kept h
  · exact lswReady_kept h
  · exact queuePrn_kept h
  · exact .unitsAndMem id h
  · exact modRst_kept h
  · exact pathBack_kept h
  · exact updReady_kept (listReload_kept h)
  · exact h

theorem linkUp_kept (h : Kept s0 s) : Kept s0 (linkUp s) := by
  unfold linkUp
  exact modRst_kept h

theorem functionReady_kept {bit} (h : Kept s0 s) : Kept s0 (functionReady bit s) := by
  unfold functionReady
  exact .ite h (onReady_kept (setReady_kept (.ite (linkUp_kept h) h)))

theorem execFunctionReady_kept {bit} (h : Kept s0 s) : KeptRes s0 (execFunctionReady bit s) := by
  unfold execFunctionReady
  exact .next (functionReady_kept h)

theorem powerFail_kept {i} (h : Kept s0 s) : Kept s0 (powerFail i s) := by
  unfold powerFail
  exact .ite (armWatch_kept (lcdStop_kept (modRst_kept (powerFailRecord_kept (stepNow_kept (minuteEdge_kept (modRst_kept h)))))))
      (modRst_kept h)

theorem runPowerFailWarning_kept {i} (h : Kept s0 s) : KeptRes s0 (runPowerFailWarning i s) := by
  unfold runPowerFailWarning
  exact .next (.ite (powerFail_kept h) h)

theorem powerFailClear_kept (h : Kept s0 s) : Kept s0 (powerFailClear s) := by
  unfold powerFailClear
  exact .ite (lcdResume_kept (.units (modRst_kept h))) h

theorem execPowerFailClear_kept (h : Kept s0 s) : KeptRes s0 (execPowerFailClear s) := by
  unfold execPowerFailClear
  exact .next (powerFailClear_kept h)

theorem writeOverrun_kept {v} (h : Kept s0 s) : Kept s0 (writeOverrun v s) := by
  unfold writeOverrun
  exact .ite (.units h) (.units h)

theorem writeWatch_kept {v} (h : Kept s0 s) : Kept s0 (writeWatch v s) := by
  unfold writeWatch
  exact .units h

theorem writeUpdStatus_kept {v} (h : Kept s0 s) : Kept s0 (writeUpdStatus v s) := by
  unfold writeUpdStatus
  exact modUpd_kept h

theorem writeMsix_kept {k w v} (h : Kept s0 s) : Kept s0 (writeMsix k w v s) := by
  unfold writeMsix
  exact .ite (sendMsix_kept (.units (.units h))) (.units h)

theorem writeGw_kept {hi v} (h : Kept s0 s) : Kept s0 (writeGw hi v s) := by
  unfold writeGw
  exact modUpl_kept h

theorem writeReg_kept {r v} (h : Kept s0 s) : Kept s0 (writeReg r v s) := by
  unfold writeReg
  extract_lets +onlyGivenNames n1
  split
  · exact .units h
  · exact writeOverrun_kept h
  · exact .ite (setRun_kept h) (clearRun_kept h)
  · exact .units h
  · exact writeRingReg_kept h
  · exact .units h
  · exact .units h
  · exact .units h
  · exact writeCeCfg_kept h
  · exact writeArbPrio_kept h
  · exact writeUpdStatus_kept h
  · exact writeUpdCfg_kept h
  · exact writeGcfg_kept h
  · exact .ite (.units h) h
  · exact .ite (.units h) h
  · exact .units h
  · exact writeChcfg_kept h
  · exact writePhmap_kept h
  · exact writePulse_kept h
  · exact writeCreep_kept h
  · exact writeWatch_kept h
  · exact writeBilCfg_kept h
  · exact writeBilClk_kept h
  · exact .ite (.units h) h
  · exact writeTamper_kept h
  · exact writeSesCfg_kept h
  · exact .ite (.units h) h
  · exact writeOcfg_kept h
  · exact writeCoil_kept h
  · exact writeVlkCfg_kept h
  · exact writeVlkTiming_kept h
  · exact .ite (.units h) h
  · exact writeSctCfg_kept h
  · exact .ite (.units h) h
  · exact writeSctLocal_kept h
  · exact writeBkbCfg_kept h
  · exact writeDomain_kept h
  · exact .ite (modBkb_kept h) h
  · exact writeNotch_kept h
  · exact writeUplCfg_kept h
  · exact .ite (modUpl_kept h) h
  · exact writeGw_kept h
  · exact writeEthCfg_kept h
  · exact writeNfcCfg_kept h
  · exact .ite (modNfc_kept h) h
  · exact writeLcdCfg_kept h
  · exact .ite (modLcd_kept h) h
  · exact writeLmpCfg_kept h
  · exact writeLswChcfg_kept h
  · exact .ite (.units h) h
  · exact .units h
  · exact selectEntry_kept h
  · exact writeSqDoorbell_kept h
  · exact writeOutDoorbell_kept h
  · exact writeOutDoorbell_kept h
  · exact writeMsix_kept h
  · exact h

theorem execRegisterWrite_kept {bar off v} (h : Kept s0 s) : KeptRes s0 (execRegisterWrite bar off v s) := by
  unfold execRegisterWrite
  split
  · split
    · exact .next (writeReg_kept h)
    · exact fun _ e => by cases e
  · exact .next h

theorem tickCount_kept {i} (h : Kept s0 s) : Kept s0 (tickCount i s) := by
  unfold tickCount
  exact .units h

theorem takeHurts_kept {i} (h : Kept s0 s) : Kept s0 (takeHurts i s) := by
  unfold takeHurts
  exact .foldl (fun _ _ h1 => hurtCopy_kept h1) (.foldl (fun _ _ h2 => flipBit_kept h2) h)

theorem retryCq_kept {n} (h : Kept s0 s) : Kept s0 (retryCq n s) := by
  unfold retryCq
  exact .ite (.foldl (fun _ _ h1 => putCompletion_kept h1) (.units h)) h

theorem retryEvq_kept (h : Kept s0 s) : Kept s0 (retryEvq s) := by
  unfold retryEvq
  exact drainEvents_kept (.ite (.foldl (fun _ _ h1 => writeEvent_kept h1) (.units h)) h)

theorem retryEntries_kept (h : Kept s0 s) : Kept s0 (retryEntries s) := by
  unfold retryEntries
  exact retryEvq_kept (forFin_kept (fun _ _ h1 => retryCq_kept h1) h)

theorem foregroundA_kept {i} (h : Kept s0 s) : Kept s0 (foregroundA i s) := by
  unfold foregroundA
  exact sessionTick_kept (stopSamples_kept (compareBlock_kept (activateBlock_kept (applyOutlets_kept (applyChannels_kept (shuntEdge_kept
      h))))))

theorem edgeWork_kept (h : Kept s0 s) : Kept s0 (edgeWork s) := by
  unfold edgeWork
  exact lampEdge_kept (lcdEdge_kept (benchSecond_kept (applyGain_kept (applyEnergyCfg_kept (applyChannelCfg_kept (quantityClose_kept
      h))))))

theorem beginB_kept (h : Kept s0 s) : Kept s0 (beginB s) := by
  unfold beginB
  exact .ite (markDue_kept (tickPower_kept (spillAll_kept (tickParts_kept (forFin_kept (fun _ _ h1 => applySettings_kept h1) h)))))
      (tickPower_kept (spillAll_kept (tickParts_kept (forFin_kept (fun _ _ h2 => applySettings_kept h2) h))))

theorem endB_kept (h : Kept s0 s) : Kept s0 (endB s) := by
  unfold endB
  exact keepBillRead_kept (checkNoticed_kept (commitAll_kept (flushLate_kept (flushLate_kept (startSnapshots_kept (dueSnapshots_kept
      (forFin_kept (fun _ _ h1 => pulseStart_kept h1) (forFin_kept (fun _ _ h2 => evalAccount_kept h2) h))))))))

theorem flushDone_kept (h : Kept s0 s) : Kept s0 (flushDone s) := by
  unfold flushDone
  exact .foldl (fun _ _ h1 => completeSeq_kept h1) (.units h)

theorem keepTelemetry_kept (h : Kept s0 s) : Kept s0 (keepTelemetry s) := by
  unfold keepTelemetry
  exact .ite (.units h) h

theorem foregroundC_kept (h : Kept s0 s) : Kept s0 (foregroundC s) := by
  unfold foregroundC
  exact raiseRequests_kept (flushWhere_kept (tickFrames_kept (tickHinge_kept (agentPoll_kept (tagTick_kept (checkNoticed_kept h))))))

theorem pacedStep_kept (h : Kept s0 s) : Kept s0 (pacedStep s) := by
  unfold pacedStep
  exact .ite h (.ite (scrubStep_kept h) (.ite (.ite h (scrubStep_kept h)) (.ite (.ite (scrubStep_kept h) (wearStep_kept h)) (.ite (.units
      h) (.ite h (scrubStep_kept h))))))

theorem background_kept (h : Kept s0 s) : Kept s0 (background s) := by
  unfold background
  exact pacedStep_kept (longStep_kept h)

theorem engines_kept {i} (h : Kept s0 s) : Kept s0 (engines i s) := by
  unfold engines
  exact tickCapture_kept (tickCorrect_kept (consumeAll_kept (tickSamples_kept h)))

theorem setWin_kept {w} (h : Kept s0 s) : Kept s0 (setWin w s) := by
  unfold setWin
  exact .units h

theorem enterSafety_kept {i} (h : Kept s0 s) : Kept s0 (enterSafety i s) := by
  unfold enterSafety
  exact foregroundA_kept (checkNoticed_kept (flushWhere_kept (.units h)))

theorem closeA_kept (h : Kept s0 s) : Kept s0 (closeA s) := by
  unfold closeA
  exact keepSesRead_kept (flushWhere_kept (setWin_kept (evalAll_kept h)))

theorem enterMetering_kept (h : Kept s0 s) : Kept s0 (enterMetering s) := by
  unfold enterMetering
  exact beginB_kept (closeA_kept h)

theorem enterHost_kept (h : Kept s0 s) : Kept s0 (enterHost s) := by
  unfold enterHost
  exact flushDone_kept (keepTelemetry_kept (setWin_kept (endB_kept h)))

theorem enterBack_kept (h : Kept s0 s) : Kept s0 (enterBack s) := by
  unfold enterBack
  split
  · exact setWin_kept h
  · exact .ite (overrun_kept (foregroundC_kept (setWin_kept h))) (background_kept (.units (foregroundC_kept (setWin_kept h))))

theorem finishTick_kept (h : Kept s0 s) : Kept s0 (finishTick s) := by
  unfold finishTick
  split
  · exact setWin_kept h
  · exact .ite (overrun_kept h) (engines_kept (.units h))

/-- The steps on the way into a window. -/
theorem windowSteps_kept : ∀ e ∈ windowSteps, ∀ {s}, Kept s0 s → Kept s0 (e.2 s) := by
  unfold windowSteps
  rw [List.forall_mem_cons, List.forall_mem_cons, List.forall_mem_cons, List.forall_mem_singleton]
  dsimp only
  exact ⟨enterMetering_kept, enterHost_kept, enterBack_kept, finishTick_kept⟩

theorem foldl_windows_kept {l : List (Window × (State → State))} (hl : ∀ e ∈ l, ∀ {s}, Kept s0 s → Kept s0 (e.2 s)) (h : Kept s0 s) :
    Kept s0 (l.foldl (fun t e => if t.rst.msdUp then e.2 t else t) s) := by
  induction l generalizing s with
  | nil => exact h
  | cons e l ih =>
    rw [List.forall_mem_cons] at hl
    obtain ⟨he, hl⟩ := hl
    exact ih hl (.ite (he h) h)

theorem reach_kept {w} (h : Kept s0 s) : Kept s0 (reach w s) := by
  unfold reach
  exact foldl_windows_kept (fun e he => windowSteps_kept e (List.mem_of_mem_filter he)) h

theorem inWindow_kept {w} {act : State → Res} (hact : ∀ t, Kept s0 t → KeptRes s0 (act t)) (h : Kept s0 s) : KeptRes s0 (inWindow w act s) := by
  unfold inWindow
  exact .ite (.next h) (hact _ (reach_kept h))

theorem lostTick_kept {i} (h : Kept s0 s) : Kept s0 (lostTick i s) := by
  unfold lostTick
  exact engines_kept (edgeWork_kept (.units h))

theorem takeTelemetry_kept (h : Kept s0 s) : Kept s0 (takeTelemetry s) := by
  unfold takeTelemetry
  exact .units h

theorem rerunTick_kept (h : Kept s0 s) : Kept s0 (rerunTick s) := by
  unfold rerunTick
  split
  · exact h
  · exact .units (.ite (takeTelemetry_kept (background_kept (foregroundC_kept (enterHost_kept (beginB_kept (closeA_kept (enterSafety_kept
      (.units h)))))))) (background_kept (foregroundC_kept (enterHost_kept (beginB_kept (closeA_kept (enterSafety_kept (.units h))))))))

theorem tickEdge_kept {i} (h : Kept s0 s) : Kept s0 (tickEdge i s) := by
  unfold tickEdge
  extract_lets +onlyGivenNames s1
  have h1 : Kept s0 s1 := retryEntries_kept (takeHurts_kept (tickCount_kept h))
  exact .ite (.ite (lostTick_kept h1) (raise_kept h1)) (enterSafety_kept (edgeWork_kept (.ite h1 (rerunTick_kept (setReplace_kept (.units
      h1))))))

theorem execTickEdge_kept {i} (h : Kept s0 s) : KeptRes s0 (execTickEdge i s) := by
  unfold execTickEdge
  exact .next (.ite (tickEdge_kept (reach_kept h)) (reach_kept h))

theorem execResetRelease_kept {j} (h : Kept s0 s) : KeptRes s0 (execResetRelease j s) := by
  unfold execResetRelease
  refine .next ?_
  split
  · exact h
  · split
    · exact releaseHolds_kept h
    · extract_lets s1
      have h1 : Kept s0 s1 := startMsd_kept h
      split
      · exact enterSafety_kept (edgeWork_kept h1)
      · exact h1

theorem execTickOverrun_kept {w} (h : Kept s0 s) : KeptRes s0 (execTickOverrun w s) := by
  unfold execTickOverrun
  split
  · exact .next (overrun_kept h)
  · exact .next (overrun_kept h)
  · exact .next (overrun_kept (reach_kept h))
  · exact .next (overrun_kept (reach_kept h))
  · exact .next (overrun_kept (reach_kept h))

theorem lastEnergy_kept (h : Kept s0 s) : Kept s0 (lastEnergy s) := by
  unfold lastEnergy
  split
  · extract_lets +onlyGivenNames g1 s2 s3
    have h2 : Kept s0 s2 := by
      unfold s2
      split
      · exact engines_kept (reach_kept h)
      · exact h
    exact .units (commitAll_kept (spillAll_kept (quantityClose_kept (.units h2))))
  · exact h

theorem execBrownOut_kept {b deep cell hurts} (h : Kept s0 s) : KeptRes s0 (execBrownOut b deep cell hurts s) := by
  unfold execBrownOut
  exact .next (brownOut_kept (lastEnergy_kept h))

theorem execTelemetrySnapshot_kept (h : Kept s0 s) : KeptRes s0 (execTelemetrySnapshot s) := by
  unfold execTelemetrySnapshot
  exact inWindow_kept (fun _ h1 => .next (.ite (takeTelemetry_kept h1) h1)) h

theorem execCycleEnd_kept {g} (h : Kept s0 s) : KeptRes s0 (execCycleEnd g s) := by
  unfold execCycleEnd
  exact inWindow_kept (fun _ h1 => runCycleEnd_kept h1) h

theorem execRtcMinuteEdge_kept (h : Kept s0 s) : KeptRes s0 (execRtcMinuteEdge s) := by
  unfold execRtcMinuteEdge
  exact inWindow_kept (fun _ h1 => runRtcMinuteEdge_kept h1) h

theorem execIntervalBoundary_kept (h : Kept s0 s) : KeptRes s0 (execIntervalBoundary s) := by
  unfold execIntervalBoundary
  exact inWindow_kept (fun _ h1 => runIntervalBoundary_kept h1) h

theorem execClockStep_kept (h : Kept s0 s) : KeptRes s0 (execClockStep s) := by
  unfold execClockStep
  exact inWindow_kept (fun _ h1 => runClockStep_kept h1) h

theorem execSlewDone_kept (h : Kept s0 s) : KeptRes s0 (execSlewDone s) := by
  unfold execSlewDone
  exact inWindow_kept (fun _ h1 => runSlewDone_kept h1) h

theorem execRetroClose_kept (h : Kept s0 s) : KeptRes s0 (execRetroClose s) := by
  unfold execRetroClose
  exact inWindow_kept (fun _ h1 => runRetroClose_kept h1) h

theorem execEmergencyActivate_kept {n} (h : Kept s0 s) : KeptRes s0 (execEmergencyActivate n s) := by
  unfold execEmergencyActivate
  exact inWindow_kept (fun _ h1 => runEmergencyActivate_kept h1) h

theorem execTopupApply_kept (h : Kept s0 s) : KeptRes s0 (execTopupApply s) := by
  unfold execTopupApply
  exact inWindow_kept (fun _ h1 => runTopupApply_kept h1) h

theorem execTamperCopy_kept (h : Kept s0 s) : KeptRes s0 (execTamperCopy s) := by
  unfold execTamperCopy
  exact inWindow_kept (fun _ h1 => runTamperCopy_kept h1) h

theorem execPowerFailWarning_kept {i} (h : Kept s0 s) : KeptRes s0 (execPowerFailWarning i s) := by
  unfold execPowerFailWarning
  exact inWindow_kept (fun _ h1 => runPowerFailWarning_kept h1) h

theorem execLongOperationDone_kept (h : Kept s0 s) : KeptRes s0 (execLongOperationDone s) := by
  unfold execLongOperationDone
  exact inWindow_kept (fun _ h1 => runLongOperationDone_kept h1) h

theorem execRawCaptureDone_kept (h : Kept s0 s) : KeptRes s0 (execRawCaptureDone s) := by
  unfold execRawCaptureDone
  exact inWindow_kept (fun _ h1 => runRawCaptureDone_kept h1) h

theorem execPrnEndSnapshot_kept {n} (h : Kept s0 s) : KeptRes s0 (execPrnEndSnapshot n s) := by
  unfold execPrnEndSnapshot
  exact inWindow_kept (fun _ h1 => runPrnEndSnapshot_kept h1) h

theorem execNfcListWrite_kept (h : Kept s0 s) : KeptRes s0 (execNfcListWrite s) := by
  unfold execNfcListWrite
  exact inWindow_kept (fun _ h1 => runNfcListWrite_kept h1) h

theorem execNfcListDelete_kept (h : Kept s0 s) : KeptRes s0 (execNfcListDelete s) := by
  unfold execNfcListDelete
  exact inWindow_kept (fun _ h1 => runNfcListDelete_kept h1) h

theorem execNfcListClear_kept (h : Kept s0 s) : KeptRes s0 (execNfcListClear s) := by
  unfold execNfcListClear
  exact inWindow_kept (fun _ h1 => runNfcListClear_kept h1) h

theorem execNfcListLookup_kept (h : Kept s0 s) : KeptRes s0 (execNfcListLookup s) := by
  unfold execNfcListLookup
  exact inWindow_kept (fun _ h1 => runNfcListLookup_kept h1) h

theorem execNfcListRead_kept (h : Kept s0 s) : KeptRes s0 (execNfcListRead s) := by
  unfold execNfcListRead
  exact inWindow_kept (fun _ h1 => runNfcListRead_kept h1) h

theorem execBilTimeSet_kept (h : Kept s0 s) : KeptRes s0 (execBilTimeSet s) := by
  unfold execBilTimeSet
  exact inWindow_kept (fun _ h1 => runBilTimeSet_kept h1) h

theorem execBilTimeRead_kept (h : Kept s0 s) : KeptRes s0 (execBilTimeRead s) := by
  unfold execBilTimeRead
  exact inWindow_kept (fun _ h1 => runBilTimeRead_kept h1) h

theorem execBilRegRead_kept (h : Kept s0 s) : KeptRes s0 (execBilRegRead s) := by
  unfold execBilRegRead
  exact inWindow_kept (fun _ h1 => runBilRegRead_kept h1) h

theorem execBilShortRead_kept (h : Kept s0 s) : KeptRes s0 (execBilShortRead s) := by
  unfold execBilShortRead
  exact inWindow_kept (fun _ h1 => runBilShortRead_kept h1) h

theorem execBilIntervalRead_kept (h : Kept s0 s) : KeptRes s0 (execBilIntervalRead s) := by
  unfold execBilIntervalRead
  exact inWindow_kept (fun _ h1 => runBilIntervalRead_kept h1) h

theorem execBilPowerRead_kept (h : Kept s0 s) : KeptRes s0 (execBilPowerRead s) := by
  unfold execBilPowerRead
  exact inWindow_kept (fun _ h1 => runBilPowerRead_kept h1) h

theorem execBilCalendarWrite_kept (h : Kept s0 s) : KeptRes s0 (execBilCalendarWrite s) := by
  unfold execBilCalendarWrite
  exact inWindow_kept (fun _ h1 => runBilCalendarWrite_kept h1) h

theorem execBilCalendarRead_kept (h : Kept s0 s) : KeptRes s0 (execBilCalendarRead s) := by
  unfold execBilCalendarRead
  exact inWindow_kept (fun _ h1 => runBilCalendarRead_kept h1) h

theorem execBilMdReset_kept (h : Kept s0 s) : KeptRes s0 (execBilMdReset s) := by
  unfold execBilMdReset
  exact inWindow_kept (fun _ h1 => runBilMdReset_kept h1) h

theorem execBkbAtlasRead_kept (h : Kept s0 s) : KeptRes s0 (execBkbAtlasRead s) := by
  unfold execBkbAtlasRead
  exact inWindow_kept (fun _ h1 => runBkbAtlasRead_kept h1) h

theorem execMtrCorrWrite_kept (h : Kept s0 s) : KeptRes s0 (execMtrCorrWrite s) := by
  unfold execMtrCorrWrite
  exact inWindow_kept (fun _ h1 => runMtrCorrWrite_kept h1) h

theorem execMtrCorrRead_kept (h : Kept s0 s) : KeptRes s0 (execMtrCorrRead s) := by
  unfold execMtrCorrRead
  exact inWindow_kept (fun _ h1 => runMtrCorrRead_kept h1) h

theorem execMtrQuantRead_kept (h : Kept s0 s) : KeptRes s0 (execMtrQuantRead s) := by
  unfold execMtrQuantRead
  exact inWindow_kept (fun _ h1 => runMtrQuantRead_kept h1) h

theorem execMtrAccRead_kept (h : Kept s0 s) : KeptRes s0 (execMtrAccRead s) := by
  unfold execMtrAccRead
  exact inWindow_kept (fun _ h1 => runMtrAccRead_kept h1) h

theorem execMtrWatchRead_kept (h : Kept s0 s) : KeptRes s0 (execMtrWatchRead s) := by
  unfold execMtrWatchRead
  exact inWindow_kept (fun _ h1 => runMtrWatchRead_kept h1) h

theorem execSysNop_kept (h : Kept s0 s) : KeptRes s0 (execSysNop s) := by
  unfold execSysNop
  exact inWindow_kept (fun _ h1 => runSysNop_kept h1) h

theorem execSysJournalRead_kept (h : Kept s0 s) : KeptRes s0 (execSysJournalRead s) := by
  unfold execSysJournalRead
  exact inWindow_kept (fun _ h1 => runSysJournalRead_kept h1) h

theorem execSysJournalInfo_kept (h : Kept s0 s) : KeptRes s0 (execSysJournalInfo s) := by
  unfold execSysJournalInfo
  exact inWindow_kept (fun _ h1 => runSysJournalInfo_kept h1) h

theorem execSysReplaceAck_kept (h : Kept s0 s) : KeptRes s0 (execSysReplaceAck s) := by
  unfold execSysReplaceAck
  exact inWindow_kept (fun _ h1 => runSysReplaceAck_kept h1) h

theorem execSysReadySnapshot_kept (h : Kept s0 s) : KeptRes s0 (execSysReadySnapshot s) := by
  unfold execSysReadySnapshot
  exact inWindow_kept (fun _ h1 => runSysReadySnapshot_kept h1) h

theorem execSysResetRequest_kept (h : Kept s0 s) : KeptRes s0 (execSysResetRequest s) := by
  unfold execSysResetRequest
  exact inWindow_kept (fun _ h1 => runSysResetRequest_kept h1) h

theorem execSysResetMap_kept (h : Kept s0 s) : KeptRes s0 (execSysResetMap s) := by
  unfold execSysResetMap
  exact inWindow_kept (fun _ h1 => runSysResetMap_kept h1) h

theorem execKeyGenerate_kept (h : Kept s0 s) : KeptRes s0 (execKeyGenerate s) := by
  unfold execKeyGenerate
  exact inWindow_kept (fun _ h1 => runKeyGenerate_kept h1) h

theorem execKeyImport_kept (h : Kept s0 s) : KeptRes s0 (execKeyImport s) := by
  unfold execKeyImport
  exact inWindow_kept (fun _ h1 => runKeyImport_kept h1) h

theorem execKeyPublicRead_kept (h : Kept s0 s) : KeptRes s0 (execKeyPublicRead s) := by
  unfold execKeyPublicRead
  exact inWindow_kept (fun _ h1 => runKeyPublicRead_kept h1) h

theorem execKeySign_kept (h : Kept s0 s) : KeptRes s0 (execKeySign s) := by
  unfold execKeySign
  exact inWindow_kept (fun _ h1 => runKeySign_kept h1) h

theorem execKeyVerify_kept (h : Kept s0 s) : KeptRes s0 (execKeyVerify s) := by
  unfold execKeyVerify
  exact inWindow_kept (fun _ h1 => runKeyVerify_kept h1) h

theorem execKeyEcdh_kept (h : Kept s0 s) : KeptRes s0 (execKeyEcdh s) := by
  unfold execKeyEcdh
  exact inWindow_kept (fun _ h1 => runKeyEcdh_kept h1) h

theorem execKeyAesGcm_kept (h : Kept s0 s) : KeptRes s0 (execKeyAesGcm s) := by
  unfold execKeyAesGcm
  exact inWindow_kept (fun _ h1 => runKeyAesGcm_kept h1) h

theorem execKeyHmac_kept (h : Kept s0 s) : KeptRes s0 (execKeyHmac s) := by
  unfold execKeyHmac
  exact inWindow_kept (fun _ h1 => runKeyHmac_kept h1) h

theorem execKeyHash_kept (h : Kept s0 s) : KeptRes s0 (execKeyHash s) := by
  unfold execKeyHash
  exact inWindow_kept (fun _ h1 => runKeyHash_kept h1) h

theorem execKeyRandom_kept (h : Kept s0 s) : KeptRes s0 (execKeyRandom s) := by
  unfold execKeyRandom
  exact inWindow_kept (fun _ h1 => runKeyRandom_kept h1) h

theorem execKeyDestroy_kept (h : Kept s0 s) : KeptRes s0 (execKeyDestroy s) := by
  unfold execKeyDestroy
  exact inWindow_kept (fun _ h1 => runKeyDestroy_kept h1) h

theorem execKeyLock_kept (h : Kept s0 s) : KeptRes s0 (execKeyLock s) := by
  unfold execKeyLock
  exact inWindow_kept (fun _ h1 => runKeyLock_kept h1) h

theorem execLcdLegendWrite_kept (h : Kept s0 s) : KeptRes s0 (execLcdLegendWrite s) := by
  unfold execLcdLegendWrite
  exact inWindow_kept (fun _ h1 => runLcdLegendWrite_kept h1) h

theorem execLcdWaveWrite_kept (h : Kept s0 s) : KeptRes s0 (execLcdWaveWrite s) := by
  unfold execLcdWaveWrite
  exact inWindow_kept (fun _ h1 => runLcdWaveWrite_kept h1) h

theorem execLcdDraw_kept (h : Kept s0 s) : KeptRes s0 (execLcdDraw s) := by
  unfold execLcdDraw
  exact inWindow_kept (fun _ h1 => runLcdDraw_kept h1) h

theorem execLmpGammaWrite_kept (h : Kept s0 s) : KeptRes s0 (execLmpGammaWrite s) := by
  unfold execLmpGammaWrite
  exact inWindow_kept (fun _ h1 => runLmpGammaWrite_kept h1) h

theorem execLmpSet_kept (h : Kept s0 s) : KeptRes s0 (execLmpSet s) := by
  unfold execLmpSet
  exact inWindow_kept (fun _ h1 => runLmpSet_kept h1) h

theorem execLswSet_kept (h : Kept s0 s) : KeptRes s0 (execLswSet s) := by
  unfold execLswSet
  exact inWindow_kept (fun _ h1 => runLswSet_kept h1) h

theorem execLswClear_kept (h : Kept s0 s) : KeptRes s0 (execLswClear s) := by
  unfold execLswClear
  exact inWindow_kept (fun _ h1 => runLswClear_kept h1) h

theorem execLswRead_kept (h : Kept s0 s) : KeptRes s0 (execLswRead s) := by
  unfold execLswRead
  exact inWindow_kept (fun _ h1 => runLswRead_kept h1) h

theorem execMemLogRead_kept (h : Kept s0 s) : KeptRes s0 (execMemLogRead s) := by
  unfold execMemLogRead
  exact inWindow_kept (fun _ h1 => runMemLogRead_kept h1) h

theorem execNfcExchange_kept (h : Kept s0 s) : KeptRes s0 (execNfcExchange s) := by
  unfold execNfcExchange
  exact inWindow_kept (fun _ h1 => runNfcExchange_kept h1) h

theorem execNfcTagRead_kept (h : Kept s0 s) : KeptRes s0 (execNfcTagRead s) := by
  unfold execNfcTagRead
  exact inWindow_kept (fun _ h1 => runNfcTagRead_kept h1) h

theorem execNfcTagWrite_kept (h : Kept s0 s) : KeptRes s0 (execNfcTagWrite s) := by
  unfold execNfcTagWrite
  exact inWindow_kept (fun _ h1 => runNfcTagWrite_kept h1) h

theorem execNfcTagArea_kept (h : Kept s0 s) : KeptRes s0 (execNfcTagArea s) := by
  unfold execNfcTagArea
  exact inWindow_kept (fun _ h1 => runNfcTagArea_kept h1) h

theorem execNfcTagUnlock_kept (h : Kept s0 s) : KeptRes s0 (execNfcTagUnlock s) := by
  unfold execNfcTagUnlock
  exact inWindow_kept (fun _ h1 => runNfcTagUnlock_kept h1) h

theorem execBilPpyConfig_kept (h : Kept s0 s) : KeptRes s0 (execBilPpyConfig s) := by
  unfold execBilPpyConfig
  exact inWindow_kept (fun _ h1 => runBilPpyConfig_kept h1) h

theorem execBilPpyEmergency_kept (h : Kept s0 s) : KeptRes s0 (execBilPpyEmergency s) := by
  unfold execBilPpyEmergency
  exact inWindow_kept (fun _ h1 => runBilPpyEmergency_kept h1) h

theorem execBilPpyTopup_kept (h : Kept s0 s) : KeptRes s0 (execBilPpyTopup s) := by
  unfold execBilPpyTopup
  exact inWindow_kept (fun _ h1 => runBilPpyTopup_kept h1) h

theorem execBilPpyRead_kept (h : Kept s0 s) : KeptRes s0 (execBilPpyRead s) := by
  unfold execBilPpyRead
  exact inWindow_kept (fun _ h1 => runBilPpyRead_kept h1) h

theorem execSafBlockWrite_kept (h : Kept s0 s) : KeptRes s0 (execSafBlockWrite s) := by
  unfold execSafBlockWrite
  exact inWindow_kept (fun _ h1 => runSafBlockWrite_kept h1) h

theorem execSafBlockRead_kept (h : Kept s0 s) : KeptRes s0 (execSafBlockRead s) := by
  unfold execSafBlockRead
  exact inWindow_kept (fun _ h1 => runSafBlockRead_kept h1) h

theorem execSafCommission_kept (h : Kept s0 s) : KeptRes s0 (execSafCommission s) := by
  unfold execSafCommission
  exact inWindow_kept (fun _ h1 => runSafCommission_kept h1) h

theorem execSafEstopRelease_kept (h : Kept s0 s) : KeptRes s0 (execSafEstopRelease s) := by
  unfold execSafEstopRelease
  exact inWindow_kept (fun _ h1 => runSafEstopRelease_kept h1) h

theorem execSafStatusRead_kept (h : Kept s0 s) : KeptRes s0 (execSafStatusRead s) := by
  unfold execSafStatusRead
  exact inWindow_kept (fun _ h1 => runSafStatusRead_kept h1) h

theorem execSctBudgetSet_kept (h : Kept s0 s) : KeptRes s0 (execSctBudgetSet s) := by
  unfold execSctBudgetSet
  exact inWindow_kept (fun _ h1 => runSctBudgetSet_kept h1) h

theorem execSctRead_kept (h : Kept s0 s) : KeptRes s0 (execSctRead s) := by
  unfold execSctRead
  exact inWindow_kept (fun _ h1 => runSctRead_kept h1) h

theorem execSctLedgerRead_kept (h : Kept s0 s) : KeptRes s0 (execSctLedgerRead s) := by
  unfold execSctLedgerRead
  exact inWindow_kept (fun _ h1 => runSctLedgerRead_kept h1) h

theorem execSctRetire_kept (h : Kept s0 s) : KeptRes s0 (execSctRetire s) := by
  unfold execSctRetire
  exact inWindow_kept (fun _ h1 => runSctRetire_kept h1) h

theorem execMtrRawCapture_kept (h : Kept s0 s) : KeptRes s0 (execMtrRawCapture s) := by
  unfold execMtrRawCapture
  exact inWindow_kept (fun _ h1 => runMtrRawCapture_kept h1) h

theorem execMtrRawAbort_kept (h : Kept s0 s) : KeptRes s0 (execMtrRawAbort s) := by
  unfold execMtrRawAbort
  exact inWindow_kept (fun _ h1 => runMtrRawAbort_kept h1) h

theorem execMtrUnseal_kept (h : Kept s0 s) : KeptRes s0 (execMtrUnseal s) := by
  unfold execMtrUnseal
  exact inWindow_kept (fun _ h1 => runMtrUnseal_kept h1) h

theorem execSesAuthorise_kept (h : Kept s0 s) : KeptRes s0 (execSesAuthorise s) := by
  unfold execSesAuthorise
  exact inWindow_kept (fun _ h1 => runSesAuthorise_kept h1) h

theorem execSesStop_kept (h : Kept s0 s) : KeptRes s0 (execSesStop s) := by
  unfold execSesStop
  exact inWindow_kept (fun _ h1 => runSesStop_kept h1) h

theorem execSesLimit_kept (h : Kept s0 s) : KeptRes s0 (execSesLimit s) := by
  unfold execSesLimit
  exact inWindow_kept (fun _ h1 => runSesLimit_kept h1) h

theorem execSesRead_kept (h : Kept s0 s) : KeptRes s0 (execSesRead s) := by
  unfold execSesRead
  exact inWindow_kept (fun _ h1 => runSesRead_kept h1) h

theorem execSesFaultClear_kept (h : Kept s0 s) : KeptRes s0 (execSesFaultClear s) := by
  unfold execSesFaultClear
  exact inWindow_kept (fun _ h1 => runSesFaultClear_kept h1) h

theorem execSesUnlock_kept (h : Kept s0 s) : KeptRes s0 (execSesUnlock s) := by
  unfold execSesUnlock
  exact inWindow_kept (fun _ h1 => runSesUnlock_kept h1) h

theorem execBilPrnSign_kept (h : Kept s0 s) : KeptRes s0 (execBilPrnSign s) := by
  unfold execBilPrnSign
  exact inWindow_kept (fun _ h1 => runBilPrnSign_kept h1) h

theorem execBilPrnFetch_kept (h : Kept s0 s) : KeptRes s0 (execBilPrnFetch s) := by
  unfold execBilPrnFetch
  exact inWindow_kept (fun _ h1 => runBilPrnFetch_kept h1) h

theorem execBilPrnKeyRead_kept (h : Kept s0 s) : KeptRes s0 (execBilPrnKeyRead s) := by
  unfold execBilPrnKeyRead
  exact inWindow_kept (fun _ h1 => runBilPrnKeyRead_kept h1) h

theorem execBilPrnCertRead_kept (h : Kept s0 s) : KeptRes s0 (execBilPrnCertRead s) := by
  unfold execBilPrnCertRead
  exact inWindow_kept (fun _ h1 => runBilPrnCertRead_kept h1) h

theorem execBilTamperRead_kept (h : Kept s0 s) : KeptRes s0 (execBilTamperRead s) := by
  unfold execBilTamperRead
  exact inWindow_kept (fun _ h1 => runBilTamperRead_kept h1) h

theorem execUpdArm_kept (h : Kept s0 s) : KeptRes s0 (execUpdArm s) := by
  unfold execUpdArm
  exact inWindow_kept (fun _ h1 => runUpdArm_kept h1) h

theorem execUpdPieceWrite_kept (h : Kept s0 s) : KeptRes s0 (execUpdPieceWrite s) := by
  unfold execUpdPieceWrite
  exact inWindow_kept (fun _ h1 => runUpdPieceWrite_kept h1) h

theorem execUpdBitmapRead_kept (h : Kept s0 s) : KeptRes s0 (execUpdBitmapRead s) := by
  unfold execUpdBitmapRead
  exact inWindow_kept (fun _ h1 => runUpdBitmapRead_kept h1) h

theorem execBkbRelayStart_kept (h : Kept s0 s) : KeptRes s0 (execBkbRelayStart s) := by
  unfold execBkbRelayStart
  exact inWindow_kept (fun _ h1 => runBkbRelayStart_kept h1) h

theorem execBkbRelayStop_kept (h : Kept s0 s) : KeptRes s0 (execBkbRelayStop s) := by
  unfold execBkbRelayStop
  exact inWindow_kept (fun _ h1 => runBkbRelayStop_kept h1) h

theorem execUpdActivate_kept (h : Kept s0 s) : KeptRes s0 (execUpdActivate s) := by
  unfold execUpdActivate
  exact inWindow_kept (fun _ h1 => runUpdActivate_kept h1) h

theorem execUpdConfirm_kept (h : Kept s0 s) : KeptRes s0 (execUpdConfirm s) := by
  unfold execUpdConfirm
  exact inWindow_kept (fun _ h1 => runUpdConfirm_kept h1) h

theorem execUpdRevert_kept (h : Kept s0 s) : KeptRes s0 (execUpdRevert s) := by
  unfold execUpdRevert
  exact inWindow_kept (fun _ h1 => runUpdRevert_kept h1) h

theorem execUpdStatusRead_kept (h : Kept s0 s) : KeptRes s0 (execUpdStatusRead s) := by
  unfold execUpdStatusRead
  exact inWindow_kept (fun _ h1 => runUpdStatusRead_kept h1) h

theorem execBkbUplSend_kept (h : Kept s0 s) : KeptRes s0 (execBkbUplSend s) := by
  unfold execBkbUplSend
  exact inWindow_kept (fun _ h1 => runBkbUplSend_kept h1) h

theorem execBkbUplRecv_kept (h : Kept s0 s) : KeptRes s0 (execBkbUplRecv s) := by
  unfold execBkbUplRecv
  exact inWindow_kept (fun _ h1 => runBkbUplRecv_kept h1) h

theorem execBkbUplSwitch_kept (h : Kept s0 s) : KeptRes s0 (execBkbUplSwitch s) := by
  unfold execBkbUplSwitch
  exact inWindow_kept (fun _ h1 => runBkbUplSwitch_kept h1) h

theorem execVlkDecisionWait_kept (h : Kept s0 s) : KeptRes s0 (execVlkDecisionWait s) := by
  unfold execVlkDecisionWait
  exact inWindow_kept (fun _ h1 => runVlkDecisionWait_kept h1) h

theorem execVlkDecisionAnswer_kept (h : Kept s0 s) : KeptRes s0 (execVlkDecisionAnswer s) := by
  unfold execVlkDecisionAnswer
  exact inWindow_kept (fun _ h1 => runVlkDecisionAnswer_kept h1) h

theorem execVlkRenegotiate_kept (h : Kept s0 s) : KeptRes s0 (execVlkRenegotiate s) := by
  unfold execVlkRenegotiate
  exact inWindow_kept (fun _ h1 => runVlkRenegotiate_kept h1) h

theorem execVlkSessionRead_kept (h : Kept s0 s) : KeptRes s0 (execVlkSessionRead s) := by
  unfold execVlkSessionRead
  exact inWindow_kept (fun _ h1 => runVlkSessionRead_kept h1) h

theorem execVlkCertWrite_kept (h : Kept s0 s) : KeptRes s0 (execVlkCertWrite s) := by
  unfold execVlkCertWrite
  exact inWindow_kept (fun _ h1 => runVlkCertWrite_kept h1) h

theorem execVlkCertRead_kept (h : Kept s0 s) : KeptRes s0 (execVlkCertRead s) := by
  unfold execVlkCertRead
  exact inWindow_kept (fun _ h1 => runVlkCertRead_kept h1) h

theorem execBenchmarkCalibration_kept (h : Kept s0 s) : KeptRes s0 (execBenchmarkCalibration s) := by
  unfold execBenchmarkCalibration
  exact inWindow_kept (fun _ h1 => runBenchmarkCalibration_kept h1) h

theorem execPufHealthCheck_kept {err} (h : Kept s0 s) : KeptRes s0 (execPufHealthCheck err s) := by
  unfold execPufHealthCheck
  exact inWindow_kept (fun _ h1 => runPufHealthCheck_kept h1) h

theorem execTrialExpiry_kept (h : Kept s0 s) : KeptRes s0 (execTrialExpiry s) := by
  unfold execTrialExpiry
  exact inWindow_kept (fun _ h1 => runTrialExpiry_kept h1) h

end Sys2Proof.Proofs
end

section
set_option Elab.async false -- one theorem after another, which keeps Lean within its memory
/-! What every step keeps (R66, R415, R449). -/

namespace Sys2Proof.Proofs

open Sys2Proof Sys2Proof.Machine Sys2Proof.Safety Sys2Proof.Laws

variable {s0 s t : State}

/-- Every command keeps what `Kept` says, by the lemma of its meaning. -/
theorem exec_kept {c} (h : Kept s0 s) : KeptRes s0 (exec c s) := by
  unfold exec
  split
  · exact execTickEdge_kept h
  · exact execGtcStart_kept h
  · exact execLongOperationDone_kept h
  · exact execTelemetrySnapshot_kept h
  · exact execTickOverrun_kept h
  · exact execGenGtcLoRead_kept h
  · exact execGenTickHwmRead_kept h
  · exact execRegisterWrite_kept h
  · exact execFunctionReady_kept h
  · exact execPcieReset_kept h
  · exact execHifRunSet_kept h
  · exact execHifRunClear_kept h
  · exact execRingEnable_kept h
  · exact execRingDisable_kept h
  · exact execRingCfgWrite_kept h
  · exact execSqDoorbellWrite_kept h
  · exact execCqDoorbellWrite_kept h
  · exact execDescriptorFetch_kept h
  · exact execMsixCoalTimeout_kept h
  · exact execJnlSeqLoRead_kept h
  · exact execJnlSelHiWrite_kept h
  · exact execSysNop_kept h
  · exact execSysJournalRead_kept h
  · exact execSysJournalInfo_kept h
  · exact execSysReplaceAck_kept h
  · exact execSysReadySnapshot_kept h
  · exact execMtrChcfgWrite_kept h
  · exact execMtrGcfgWrite_kept h
  · exact execMtrSealSet_kept h
  · exact execSettlingEnd_kept h
  · exact execMtrOverload_kept h
  · exact execBenchmarkCalibration_kept h
  · exact execBenchGainSave_kept h
  · exact execMtrTmpFirstWrite_kept h
  · exact execMtrRawCapture_kept h
  · exact execRawCaptureDone_kept h
  · exact execMtrRawAbort_kept h
  · exact execMtrUnseal_kept h
  · exact execMtrCorrWrite_kept h
  · exact execMtrCorrRead_kept h
  · exact execMtrPhmapWrite_kept h
  · exact execCycleEnd_kept h
  · exact execMtrPulseWrite_kept h
  · exact execPulseEnd_kept h
  · exact execMtrQuantRead_kept h
  · exact execMtrAccRead_kept h
  · exact execMtrWatchRead_kept h
  · exact execWatchStart_kept h
  · exact execWatchWindowEnd_kept h
  · exact execWatchHoursExpiry_kept h
  · exact execWatchCellLow_kept h
  · exact execRtcSecondEdge_kept h
  · exact execRtcMinuteEdge_kept h
  · exact execRtcTempCorrection_kept h
  · exact execIntervalBoundary_kept h
  · exact execBilCfgWrite_kept h
  · exact execBilTimeSet_kept h
  · exact execClockStep_kept h
  · exact execSlewDone_kept h
  · exact execRetroClose_kept h
  · exact execBilRegRead_kept h
  · exact execBilShortRead_kept h
  · exact execBilIntervalRead_kept h
  · exact execBilPowerRead_kept h
  · exact execBilTimeRead_kept h
  · exact execBilCalendarWrite_kept h
  · exact execBilCalendarRead_kept h
  · exact execBilMdReset_kept h
  · exact execPrnEndSnapshot_kept h
  · exact execBilPrnSign_kept h
  · exact execBilPrnFetch_kept h
  · exact execBilPrnKeyRead_kept h
  · exact execBilPrnCertRead_kept h
  · exact execBilPpyConfig_kept h
  · exact execBilPpyEmergency_kept h
  · exact execEmergencyActivate_kept h
  · exact execBilPpyTopup_kept h
  · exact execTopupApply_kept h
  · exact execBilPpyRead_kept h
  · exact execTamperSample_kept h
  · exact execTamperChatterEnd_kept h
  · exact execTamperCopy_kept h
  · exact execBilTamperRead_kept h
  · exact execSesOcfgWrite_kept h
  · exact execSesCoilWrite_kept h
  · exact execPilotStateRecognised_kept h
  · exact execPilotFault_kept h
  · exact execProximityNoneTimeout_kept h
  · exact execAuthTimeout_kept h
  · exact execPreauthExpiry_kept h
  · exact execStoppingTimeout_kept h
  · exact execFaultDriveEnd_kept h
  · exact execStateMachineRequest_kept h
  · exact execCoilPullInEnd_kept h
  · exact execMirrorConfirm_kept h
  · exact execMirrorTimeout_kept h
  · exact execShuntTripRelease_kept h
  · exact execLockConfirm_kept h
  · exact execLockDriveEnd_kept h
  · exact execLockDriveTimeout_kept h
  · exact execLockRetry_kept h
  · exact execRcdTrip_kept h
  · exact execRcdSelfTestPhaseEnd_kept h
  · exact execEvOvercurrent_kept h
  · exact execSesAuthorise_kept h
  · exact execSesStop_kept h
  · exact execSesLimit_kept h
  · exact execSesRead_kept h
  · exact execSesFaultClear_kept h
  · exact execSesUnlock_kept h
  · exact execEstopContactRecognised_kept h
  · exact execEstopDiscrepancy_kept h
  · exact execEstopChatterClear_kept h
  · exact execSafEstopRead_kept h
  · exact execSafBlockWrite_kept h
  · exact execSafBlockRead_kept h
  · exact execSafCommission_kept h
  · exact execSafPendingExpiry_kept h
  · exact execSafEstopRelease_kept h
  · exact execSafStatusRead_kept h
  · exact execCmSlacParmReq_kept h
  · exact execSlacSounding_kept h
  · exact execCmSlacMatchReq_kept h
  · exact execCmValidateReq_kept h
  · exact execSlacTimeout_kept h
  · exact execSlacWaitTimeout_kept h
  · exact execSdpRequest_kept h
  · exact execTcpConnect_kept h
  · exact execV2gtpFrame_kept h
  · exact execSupportedAppProtocolReq_kept h
  · exact execSessionSetupReq_kept h
  · exact execPaymentDetailsReq_kept h
  · exact execAuthorizationReq_kept h
  · exact execChargeParameterDiscoveryReq_kept h
  · exact execCertificateInstallationReq_kept h
  · exact execChargingStatusReq_kept h
  · exact execSessionStopReq_kept h
  · exact execV2gRequest_kept h
  · exact execDecisionDeadline_kept h
  · exact execV2gIdleTimeout_kept h
  · exact execTcpConnectionLost_kept h
  · exact execResumeTimeout_kept h
  · exact execVlkCertWrite_kept h
  · exact execVlkCertRead_kept h
  · exact execVlkDecisionWait_kept h
  · exact execDecisionWaitTimeout_kept h
  · exact execVlkDecisionAnswer_kept h
  · exact execVlkRenegotiate_kept h
  · exact execVlkSessionRead_kept h
  · exact execOffer_kept h
  · exact execAccept_kept h
  · exact execRefuse_kept h
  · exact execCommit_kept h
  · exact execAck_kept h
  · exact execMove_kept h
  · exact execQuery_kept h
  · exact execStatus_kept h
  · exact execResolve_kept h
  · exact execTransferDeadline_kept h
  · exact execMemberReport_kept h
  · exact execLedgerDigest_kept h
  · exact execSharingComputation_kept h
  · exact execCoolingEnd_kept h
  · exact execCapacityStop_kept h
  · exact execJoinRetry_kept h
  · exact execBudgetRequest_kept h
  · exact execSctModeWrite_kept h
  · exact execSctLocalWrite_kept h
  · exact execSctBudgetSet_kept h
  · exact execSctRead_kept h
  · exact execSctLedgerRead_kept h
  · exact execSctRetire_kept h
  · exact execBackboneFrame_kept h
  · exact execFrameHeader_kept h
  · exact execPollResponse_kept h
  · exact execJoinRequest_kept h
  · exact execJoinAnswer_kept h
  · exact execBecomeCoordinator_kept h
  · exact execHeaderLossRejoin_kept h
  · exact execSounding_kept h
  · exact execSurveyReport_kept h
  · exact execRouteFailedExpiry_kept h
  · exact execFirmwarePiece_kept h
  · exact execBkbCfgWrite_kept h
  · exact execBkbNotchWrite_kept h
  · exact execBkbUplCfgWrite_kept h
  · exact execUplinkEnvelope_kept h
  · exact execEnvelopeRetransmit_kept h
  · exact execAckEnvelopeSend_kept h
  · exact execPhyLinkDown_kept h
  · exact execGatewaySilent_kept h
  · exact execHingeProofTimeout_kept h
  · exact execPathTrySwitch_kept h
  · exact execBkbUplSend_kept h
  · exact execBkbUplRecv_kept h
  · exact execBkbUplSwitch_kept h
  · exact execDrillTimeout_kept h
  · exact execBkbAtlasRead_kept h
  · exact execBkbRelayStart_kept h
  · exact execBkbRelayStop_kept h
  · exact execNfcPing_kept h
  · exact execNfcFieldHoldEnd_kept h
  · exact execNfcExchange_kept h
  · exact execNfcListWrite_kept h
  · exact execNfcListDelete_kept h
  · exact execNfcListClear_kept h
  · exact execNfcListLookup_kept h
  · exact execNfcListRead_kept h
  · exact execListRecencySave_kept h
  · exact execAuthListExpiry_kept h
  · exact execNfcTagRead_kept h
  · exact execNfcTagWrite_kept h
  · exact execNfcTagArea_kept h
  · exact execNfcTagUnlock_kept h
  · exact execTagStatusRecordWrite_kept h
  · exact execTagFieldOn_kept h
  · exact execTagFieldOff_kept h
  · exact execFdOutRelease_kept h
  · exact execTagPowerUp_kept h
  · exact execInventory_kept h
  · exact execStayQuiet_kept h
  · exact execSelect_kept h
  · exact execResetToReady_kept h
  · exact execGetSystemInformation_kept h
  · exact execReadSingleBlock_kept h
  · exact execReadMultipleBlocks_kept h
  · exact execWriteSingleBlock_kept h
  · exact execWriteMultipleBlocks_kept h
  · exact execPresentPassword_kept h
  · exact execTagUnsupportedCommand_kept h
  · exact execLcdLegendWrite_kept h
  · exact execLcdWaveWrite_kept h
  · exact execLcdDraw_kept h
  · exact execLcdPhaseEnd_kept h
  · exact execLcdCfgWrite_kept h
  · exact execLcdDischargeEnd_kept h
  · exact execCrackCheck_kept h
  · exact execLmpGammaWrite_kept h
  · exact execLmpSet_kept h
  · exact execLampBlinkPhase_kept h
  · exact execLswSet_kept h
  · exact execLswClear_kept h
  · exact execLswRead_kept h
  · exact execLswChcfgWrite_kept h
  · exact execPwmInputEdge_kept h
  · exact execPwmFastClear_kept h
  · exact execLswOvercurrent_kept h
  · exact execLswRetry_kept h
  · exact execLswRetriesReset_kept h
  · exact execLswThermalLatch_kept h
  · exact execLswFoldBack_kept h
  · exact execLswFoldRestore_kept h
  · exact execLswMeasurement_kept h
  · exact execVauxUndervoltage_kept h
  · exact execVauxOvervoltage_kept h
  · exact execVauxRestore_kept h
  · exact execKeyGenerate_kept h
  · exact execKeyImport_kept h
  · exact execKeyPublicRead_kept h
  · exact execKeySign_kept h
  · exact execKeyVerify_kept h
  · exact execKeyEcdh_kept h
  · exact execKeyAesGcm_kept h
  · exact execKeyHmac_kept h
  · exact execKeyHash_kept h
  · exact execKeyRandom_kept h
  · exact execKeyDestroy_kept h
  · exact execKeyLock_kept h
  · exact execPufHealthCheck_kept h
  · exact execEntropyFailure_kept h
  · exact execUpdArm_kept h
  · exact execUpdPieceWrite_kept h
  · exact execUpdBitmapRead_kept h
  · exact execUpdActivate_kept h
  · exact execUpdConfirm_kept h
  · exact execUpdRevert_kept h
  · exact execUpdStatusRead_kept h
  · exact execImageBootCheck_kept h
  · exact execTrialExpiry_kept h
  · exact execCeRateWindowEnd_kept h
  · exact execMramPortRequest_kept h
  · exact execArbPrioWrite_kept h
  · exact execMemLogRead_kept h
  · exact execPowerGood_kept h
  · exact execBrownOut_kept h
  · exact execRstPin_kept h
  · exact execPllLockLoss_kept h
  · exact execWdtMsdExpiry_kept h
  · exact execWdtApdExpiry_kept h
  · exact execCriticalStateMismatch_kept h
  · exact execResetRelease_kept h
  · exact execPowerFailWarning_kept h
  · exact execPowerFailClear_kept h
  · exact execRailRangeChange_kept h
  · exact execVbatMeasurement_kept h
  · exact execSysResetRequest_kept h
  · exact execSysResetMap_kept h
  · exact execPhyLinkUp_kept h
  · exact execMemberAbsent_kept h
  · exact execBkbUplRecvTimeout_kept h
  · exact execSctBudgetSetTimeout_kept h
  · exact execSctRetireTimeout_kept h
  · exact execNfcExchangeAnswer_kept h
  · exact execNfcExchangeTimeout_kept h
  · exact execIsoDepCardLeft_kept h

/-- A step runs the front command on the rest of the queue, or idles. -/
theorem step_kept (e : step s = .next t) : Kept { s with pending := s.pending.tail } t := by
  unfold step at e
  split at e
  · rename_i empty
    cases e
    exact ⟨.refl _, by rw [empty]; rfl, id⟩
  · rename_i c rest front
    have tail : s.pending.tail = rest := by rw [front]; rfl
    rw [tail]
    exact exec_kept (.refl _) t e

/-- Settles O57: every operation writes the stored words through `sparseSet`, or clears a memory. -/
theorem everyStepKeepsMemoryCanonical : Obligations.EveryStepKeepsMemoryCanonical := by
  intro s t canonical e
  exact (step_kept e).words canonical

/-- Settles O59: SYS_RESET_MAP alone changes a fuse, no operation touches the queue, and `step` takes the front command. -/
theorem everyStepKeepsIdentityAndOrder : Obligations.EveryStepKeepsIdentityAndOrder := by
  intro s t e
  have kept := step_kept e
  obtain ⟨identity, locked⟩ := kept.fuse
  exact ⟨identity, locked, kept.pending⟩

end Sys2Proof.Proofs
end

section
set_option Elab.async false -- one theorem after another, which keeps Lean within its memory
/-! Every command answers a next state (R16, R75); the step on the front of the queue and the state after reset. -/

namespace Sys2Proof.Proofs

open Sys2Proof Sys2Proof.Machine Sys2Proof.Safety Sys2Proof.Laws

/-- A command of a window completes where its act does. -/
theorem inWindow_completes {w : Window} {act : State → Res} {s : State} (h : ∀ t, Completes (act t)) :
    Completes (inWindow w act s) := by
  unfold inWindow
  split
  · exact ⟨_, rfl⟩
  · exact h _

theorem execTickOverrun_completes (w : Overrun) (s : State) : Completes (execTickOverrun w s) := by
  cases w <;> exact ⟨_, rfl⟩

/-- A write to an offset that names a register completes (log 31). -/
theorem execRegisterWrite_completes {bar : Bar} {off : W16} {v : W32} {r : Reg} {s : State} (h : regAt bar off = some r) :
    Completes (execRegisterWrite bar off v s) := by
  unfold execRegisterWrite
  rw [h]
  split <;> exact ⟨_, rfl⟩

/-- Settles O60: each command's meaning is a next state, in its window or at once. -/
theorem everyCommandCompletes : Obligations.EveryCommandCompletes := by
  intro c s named
  change Completes (exec c s)
  cases c
  case tickEdge => exact ⟨_, rfl⟩
  case gtcStart => exact ⟨_, rfl⟩
  case longOperationDone => exact inWindow_completes fun _ => ⟨_, rfl⟩
  case telemetrySnapshot => exact inWindow_completes fun _ => ⟨_, rfl⟩
  case tickOverrun w => exact execTickOverrun_completes w s
  case genGtcLoRead => exact ⟨_, rfl⟩
  case genTickHwmRead => exact ⟨_, rfl⟩
  case registerWrite bar off v =>
    obtain ⟨r, hr⟩ := named bar off v rfl
    exact execRegisterWrite_completes hr
  case functionReady => exact ⟨_, rfl⟩
  case pcieReset => exact ⟨_, rfl⟩
  case hifRunSet => exact ⟨_, rfl⟩
  case hifRunClear => exact ⟨_, rfl⟩
  case ringEnable => exact ⟨_, rfl⟩
  case ringDisable => exact ⟨_, rfl⟩
  case ringCfgWrite => exact ⟨_, rfl⟩
  case sqDoorbellWrite => exact ⟨_, rfl⟩
  case cqDoorbellWrite => exact ⟨_, rfl⟩
  case descriptorFetch => exact ⟨_, rfl⟩
  case msixCoalTimeout => exact ⟨_, rfl⟩
  case jnlSeqLoRead => exact ⟨_, rfl⟩
  case jnlSelHiWrite => exact ⟨_, rfl⟩
  case sysNop => exact inWindow_completes fun _ => ⟨_, rfl⟩
  case sysJournalRead => exact inWindow_completes fun _ => ⟨_, rfl⟩
  case sysJournalInfo => exact inWindow_completes fun _ => ⟨_, rfl⟩
  case sysReplaceAck => exact inWindow_completes fun _ => ⟨_, rfl⟩
  case sysReadySnapshot => exact inWindow_completes fun _ => ⟨_, rfl⟩
  case mtrChcfgWrite => exact ⟨_, rfl⟩
  case mtrGcfgWrite => exact ⟨_, rfl⟩
  case mtrSealSet => exact ⟨_, rfl⟩
  case settlingEnd => exact ⟨_, rfl⟩
  case mtrOverload => exact ⟨_, rfl⟩
  case benchmarkCalibration => exact inWindow_completes fun _ => ⟨_, rfl⟩
  case benchGainSave => exact ⟨_, rfl⟩
  case mtrTmpFirstWrite => exact ⟨_, rfl⟩
  case mtrRawCapture => exact inWindow_completes fun _ => ⟨_, rfl⟩
  case rawCaptureDone => exact inWindow_completes fun _ => ⟨_, rfl⟩
  case mtrRawAbort => exact inWindow_completes fun _ => ⟨_, rfl⟩
  case mtrUnseal => exact inWindow_completes fun _ => ⟨_, rfl⟩
  case mtrCorrWrite => exact inWindow_completes fun _ => ⟨_, rfl⟩
  case mtrCorrRead => exact inWindow_completes fun _ => ⟨_, rfl⟩
  case mtrPhmapWrite => exact ⟨_, rfl⟩
  case cycleEnd => exact inWindow_completes fun _ => ⟨_, rfl⟩
  case mtrPulseWrite => exact ⟨_, rfl⟩
  case pulseEnd => exact ⟨_, rfl⟩
  case mtrQuantRead => exact inWindow_completes fun _ => ⟨_, rfl⟩
  case mtrAccRead => exact inWindow_completes fun _ => ⟨_, rfl⟩
  case mtrWatchRead => exact inWindow_completes fun _ => ⟨_, rfl⟩
  case watchStart => exact ⟨_, rfl⟩
  case watchWindowEnd => exact ⟨_, rfl⟩
  case watchHoursExpiry => exact ⟨_, rfl⟩
  case watchCellLow => exact ⟨_, rfl⟩
  case rtcSecondEdge => exact ⟨_, rfl⟩
  case rtcMinuteEdge => exact inWindow_completes fun _ => ⟨_, rfl⟩
  case rtcTempCorrection => exact ⟨_, rfl⟩
  case intervalBoundary => exact inWindow_completes fun _ => ⟨_, rfl⟩
  case bilCfgWrite => exact ⟨_, rfl⟩
  case bilTimeSet => exact inWindow_completes fun _ => ⟨_, rfl⟩
  case clockStep => exact inWindow_completes fun _ => ⟨_, rfl⟩
  case slewDone => exact inWindow_completes fun _ => ⟨_, rfl⟩
  case retroClose => exact inWindow_completes fun _ => ⟨_, rfl⟩
  case bilRegRead => exact inWindow_completes fun _ => ⟨_, rfl⟩
  case bilShortRead => exact inWindow_completes fun _ => ⟨_, rfl⟩
  case bilIntervalRead => exact inWindow_completes fun _ => ⟨_, rfl⟩
  case bilPowerRead => exact inWindow_completes fun _ => ⟨_, rfl⟩
  case bilTimeRead => exact inWindow_completes fun _ => ⟨_, rfl⟩
  case bilCalendarWrite => exact inWindow_completes fun _ => ⟨_, rfl⟩
  case bilCalendarRead => exact inWindow_completes fun _ => ⟨_, rfl⟩
  case bilMdReset => exact inWindow_completes fun _ => ⟨_, rfl⟩
  case prnEndSnapshot => exact inWindow_completes fun _ => ⟨_, rfl⟩
  case bilPrnSign => exact inWindow_completes fun _ => ⟨_, rfl⟩
  case bilPrnFetch => exact inWindow_completes fun _ => ⟨_, rfl⟩
  case bilPrnKeyRead => exact inWindow_completes fun _ => ⟨_, rfl⟩
  case bilPrnCertRead => exact inWindow_completes fun _ => ⟨_, rfl⟩
  case bilPpyConfig => exact inWindow_completes fun _ => ⟨_, rfl⟩
  case bilPpyEmergency => exact inWindow_completes fun _ => ⟨_, rfl⟩
  case emergencyActivate => exact inWindow_completes fun _ => ⟨_, rfl⟩
  case bilPpyTopup => exact inWindow_completes fun _ => ⟨_, rfl⟩
  case topupApply => exact inWindow_completes fun _ => ⟨_, rfl⟩
  case bilPpyRead => exact inWindow_completes fun _ => ⟨_, rfl⟩
  case tamperSample => exact ⟨_, rfl⟩
  case tamperChatterEnd => exact ⟨_, rfl⟩
  case tamperCopy => exact inWindow_completes fun _ => ⟨_, rfl⟩
  case bilTamperRead => exact inWindow_completes fun _ => ⟨_, rfl⟩
  case sesOcfgWrite => exact ⟨_, rfl⟩
  case sesCoilWrite => exact ⟨_, rfl⟩
  case pilotStateRecognised => exact ⟨_, rfl⟩
  case pilotFault => exact ⟨_, rfl⟩
  case proximityNoneTimeout => exact ⟨_, rfl⟩
  case authTimeout => exact ⟨_, rfl⟩
  case preauthExpiry => exact ⟨_, rfl⟩
  case stoppingTimeout => exact ⟨_, rfl⟩
  case faultDriveEnd => exact ⟨_, rfl⟩
  case stateMachineRequest => exact ⟨_, rfl⟩
  case coilPullInEnd => exact ⟨_, rfl⟩
  case mirrorConfirm => exact ⟨_, rfl⟩
  case mirrorTimeout => exact ⟨_, rfl⟩
  case shuntTripRelease => exact ⟨_, rfl⟩
  case lockConfirm => exact ⟨_, rfl⟩
  case lockDriveEnd => exact ⟨_, rfl⟩
  case lockDriveTimeout => exact ⟨_, rfl⟩
  case lockRetry => exact ⟨_, rfl⟩
  case rcdTrip => exact ⟨_, rfl⟩
  case rcdSelfTestPhaseEnd => exact ⟨_, rfl⟩
  case evOvercurrent => exact ⟨_, rfl⟩
  case sesAuthorise => exact inWindow_completes fun _ => ⟨_, rfl⟩
  case sesStop => exact inWindow_completes fun _ => ⟨_, rfl⟩
  case sesLimit => exact inWindow_completes fun _ => ⟨_, rfl⟩
  case sesRead => exact inWindow_completes fun _ => ⟨_, rfl⟩
  case sesFaultClear => exact inWindow_completes fun _ => ⟨_, rfl⟩
  case sesUnlock => exact inWindow_completes fun _ => ⟨_, rfl⟩
  case estopContactRecognised => exact ⟨_, rfl⟩
  case estopDiscrepancy => exact ⟨_, rfl⟩
  case estopChatterClear => exact ⟨_, rfl⟩
  case safEstopRead => exact ⟨_, rfl⟩
  case safBlockWrite => exact inWindow_completes fun _ => ⟨_, rfl⟩
  case safBlockRead => exact inWindow_completes fun _ => ⟨_, rfl⟩
  case safCommission => exact inWindow_completes fun _ => ⟨_, rfl⟩
  case safPendingExpiry => exact ⟨_, rfl⟩
  case safEstopRelease => exact inWindow_completes fun _ => ⟨_, rfl⟩
  case safStatusRead => exact inWindow_completes fun _ => ⟨_, rfl⟩
  case cmSlacParmReq => exact ⟨_, rfl⟩
  case slacSounding => exact ⟨_, rfl⟩
  case cmSlacMatchReq => exact ⟨_, rfl⟩
  case cmValidateReq => exact ⟨_, rfl⟩
  case slacTimeout => exact ⟨_, rfl⟩
  case slacWaitTimeout => exact ⟨_, rfl⟩
  case sdpRequest => exact ⟨_, rfl⟩
  case tcpConnect => exact ⟨_, rfl⟩
  case v2gtpFrame => exact ⟨_, rfl⟩
  case supportedAppProtocolReq => exact ⟨_, rfl⟩
  case sessionSetupReq => exact ⟨_, rfl⟩
  case paymentDetailsReq => exact ⟨_, rfl⟩
  case authorizationReq => exact ⟨_, rfl⟩
  case chargeParameterDiscoveryReq => exact ⟨_, rfl⟩
  case certificateInstallationReq => exact ⟨_, rfl⟩
  case chargingStatusReq => exact ⟨_, rfl⟩
  case sessionStopReq => exact ⟨_, rfl⟩
  case v2gRequest => exact ⟨_, rfl⟩
  case decisionDeadline => exact ⟨_, rfl⟩
  case v2gIdleTimeout => exact ⟨_, rfl⟩
  case tcpConnectionLost => exact ⟨_, rfl⟩
  case resumeTimeout => exact ⟨_, rfl⟩
  case vlkCertWrite => exact inWindow_completes fun _ => ⟨_, rfl⟩
  case vlkCertRead => exact inWindow_completes fun _ => ⟨_, rfl⟩
  case vlkDecisionWait => exact inWindow_completes fun _ => ⟨_, rfl⟩
  case decisionWaitTimeout => exact ⟨_, rfl⟩
  case vlkDecisionAnswer => exact inWindow_completes fun _ => ⟨_, rfl⟩
  case vlkRenegotiate => exact inWindow_completes fun _ => ⟨_, rfl⟩
  case vlkSessionRead => exact inWindow_completes fun _ => ⟨_, rfl⟩
  case offer => exact ⟨_, rfl⟩
  case accept => exact ⟨_, rfl⟩
  case refuse => exact ⟨_, rfl⟩
  case commit => exact ⟨_, rfl⟩
  case ack => exact ⟨_, rfl⟩
  case move => exact ⟨_, rfl⟩
  case query => exact ⟨_, rfl⟩
  case status => exact ⟨_, rfl⟩
  case resolve => exact ⟨_, rfl⟩
  case transferDeadline => exact ⟨_, rfl⟩
  case memberReport => exact ⟨_, rfl⟩
  case ledgerDigest => exact ⟨_, rfl⟩
  case sharingComputation => exact ⟨_, rfl⟩
  case coolingEnd => exact ⟨_, rfl⟩
  case capacityStop => exact ⟨_, rfl⟩
  case joinRetry => exact ⟨_, rfl⟩
  case budgetRequest => exact ⟨_, rfl⟩
  case sctModeWrite => exact ⟨_, rfl⟩
  case sctLocalWrite => exact ⟨_, rfl⟩
  case sctBudgetSet => exact inWindow_completes fun _ => ⟨_, rfl⟩
  case sctRead => exact inWindow_completes fun _ => ⟨_, rfl⟩
  case sctLedgerRead => exact inWindow_completes fun _ => ⟨_, rfl⟩
  case sctRetire => exact inWindow_completes fun _ => ⟨_, rfl⟩
  case backboneFrame => exact ⟨_, rfl⟩
  case frameHeader => exact ⟨_, rfl⟩
  case pollResponse => exact ⟨_, rfl⟩
  case joinRequest => exact ⟨_, rfl⟩
  case joinAnswer => exact ⟨_, rfl⟩
  case becomeCoordinator => exact ⟨_, rfl⟩
  case headerLossRejoin => exact ⟨_, rfl⟩
  case sounding => exact ⟨_, rfl⟩
  case surveyReport => exact ⟨_, rfl⟩
  case routeFailedExpiry => exact ⟨_, rfl⟩
  case firmwarePiece => exact ⟨_, rfl⟩
  case bkbCfgWrite => exact ⟨_, rfl⟩
  case bkbNotchWrite => exact ⟨_, rfl⟩
  case bkbUplCfgWrite => exact ⟨_, rfl⟩
  case uplinkEnvelope => exact ⟨_, rfl⟩
  case envelopeRetransmit => exact ⟨_, rfl⟩
  case ackEnvelopeSend => exact ⟨_, rfl⟩
  case phyLinkDown => exact ⟨_, rfl⟩
  case gatewaySilent => exact ⟨_, rfl⟩
  case hingeProofTimeout => exact ⟨_, rfl⟩
  case pathTrySwitch => exact ⟨_, rfl⟩
  case bkbUplSend => exact inWindow_completes fun _ => ⟨_, rfl⟩
  case bkbUplRecv => exact inWindow_completes fun _ => ⟨_, rfl⟩
  case bkbUplSwitch => exact inWindow_completes fun _ => ⟨_, rfl⟩
  case drillTimeout => exact ⟨_, rfl⟩
  case bkbAtlasRead => exact inWindow_completes fun _ => ⟨_, rfl⟩
  case bkbRelayStart => exact inWindow_completes fun _ => ⟨_, rfl⟩
  case bkbRelayStop => exact inWindow_completes fun _ => ⟨_, rfl⟩
  case nfcPing => exact ⟨_, rfl⟩
  case nfcFieldHoldEnd => exact ⟨_, rfl⟩
  case nfcExchange => exact inWindow_completes fun _ => ⟨_, rfl⟩
  case nfcListWrite => exact inWindow_completes fun _ => ⟨_, rfl⟩
  case nfcListDelete => exact inWindow_completes fun _ => ⟨_, rfl⟩
  case nfcListClear => exact inWindow_completes fun _ => ⟨_, rfl⟩
  case nfcListLookup => exact inWindow_completes fun _ => ⟨_, rfl⟩
  case nfcListRead => exact inWindow_completes fun _ => ⟨_, rfl⟩
  case listRecencySave => exact ⟨_, rfl⟩
  case authListExpiry => exact ⟨_, rfl⟩
  case nfcTagRead => exact inWindow_completes fun _ => ⟨_, rfl⟩
  case nfcTagWrite => exact inWindow_completes fun _ => ⟨_, rfl⟩
  case nfcTagArea => exact inWindow_completes fun _ => ⟨_, rfl⟩
  case nfcTagUnlock => exact inWindow_completes fun _ => ⟨_, rfl⟩
  case tagStatusRecordWrite => exact ⟨_, rfl⟩
  case tagFieldOn => exact ⟨_, rfl⟩
  case tagFieldOff => exact ⟨_, rfl⟩
  case fdOutRelease => exact ⟨_, rfl⟩
  case tagPowerUp => exact ⟨_, rfl⟩
  case inventory => exact ⟨_, rfl⟩
  case stayQuiet => exact ⟨_, rfl⟩
  case select => exact ⟨_, rfl⟩
  case resetToReady => exact ⟨_, rfl⟩
  case getSystemInformation => exact ⟨_, rfl⟩
  case readSingleBlock => exact ⟨_, rfl⟩
  case readMultipleBlocks => exact ⟨_, rfl⟩
  case writeSingleBlock => exact ⟨_, rfl⟩
  case writeMultipleBlocks => exact ⟨_, rfl⟩
  case presentPassword => exact ⟨_, rfl⟩
  case tagUnsupportedCommand => exact ⟨_, rfl⟩
  case lcdLegendWrite => exact inWindow_completes fun _ => ⟨_, rfl⟩
  case lcdWaveWrite => exact inWindow_completes fun _ => ⟨_, rfl⟩
  case lcdDraw => exact inWindow_completes fun _ => ⟨_, rfl⟩
  case lcdPhaseEnd => exact ⟨_, rfl⟩
  case lcdCfgWrite => exact ⟨_, rfl⟩
  case lcdDischargeEnd => exact ⟨_, rfl⟩
  case crackCheck => exact ⟨_, rfl⟩
  case lmpGammaWrite => exact inWindow_completes fun _ => ⟨_, rfl⟩
  case lmpSet => exact inWindow_completes fun _ => ⟨_, rfl⟩
  case lampBlinkPhase => exact ⟨_, rfl⟩
  case lswSet => exact inWindow_completes fun _ => ⟨_, rfl⟩
  case lswClear => exact inWindow_completes fun _ => ⟨_, rfl⟩
  case lswRead => exact inWindow_completes fun _ => ⟨_, rfl⟩
  case lswChcfgWrite => exact ⟨_, rfl⟩
  case pwmInputEdge => exact ⟨_, rfl⟩
  case pwmFastClear => exact ⟨_, rfl⟩
  case lswOvercurrent => exact ⟨_, rfl⟩
  case lswRetry => exact ⟨_, rfl⟩
  case lswRetriesReset => exact ⟨_, rfl⟩
  case lswThermalLatch => exact ⟨_, rfl⟩
  case lswFoldBack => exact ⟨_, rfl⟩
  case lswFoldRestore => exact ⟨_, rfl⟩
  case lswMeasurement => exact ⟨_, rfl⟩
  case vauxUndervoltage => exact ⟨_, rfl⟩
  case vauxOvervoltage => exact ⟨_, rfl⟩
  case vauxRestore => exact ⟨_, rfl⟩
  case keyGenerate => exact inWindow_completes fun _ => ⟨_, rfl⟩
  case keyImport => exact inWindow_completes fun _ => ⟨_, rfl⟩
  case keyPublicRead => exact inWindow_completes fun _ => ⟨_, rfl⟩
  case keySign => exact inWindow_completes fun _ => ⟨_, rfl⟩
  case keyVerify => exact inWindow_completes fun _ => ⟨_, rfl⟩
  case keyEcdh => exact inWindow_completes fun _ => ⟨_, rfl⟩
  case keyAesGcm => exact inWindow_completes fun _ => ⟨_, rfl⟩
  case keyHmac => exact inWindow_completes fun _ => ⟨_, rfl⟩
  case keyHash => exact inWindow_completes fun _ => ⟨_, rfl⟩
  case keyRandom => exact inWindow_completes fun _ => ⟨_, rfl⟩
  case keyDestroy => exact inWindow_completes fun _ => ⟨_, rfl⟩
  case keyLock => exact inWindow_completes fun _ => ⟨_, rfl⟩
  case pufHealthCheck => exact inWindow_completes fun _ => ⟨_, rfl⟩
  case entropyFailure => exact ⟨_, rfl⟩
  case updArm => exact inWindow_completes fun _ => ⟨_, rfl⟩
  case updPieceWrite => exact inWindow_completes fun _ => ⟨_, rfl⟩
  case updBitmapRead => exact inWindow_completes fun _ => ⟨_, rfl⟩
  case updActivate => exact inWindow_completes fun _ => ⟨_, rfl⟩
  case updConfirm => exact inWindow_completes fun _ => ⟨_, rfl⟩
  case updRevert => exact inWindow_completes fun _ => ⟨_, rfl⟩
  case updStatusRead => exact inWindow_completes fun _ => ⟨_, rfl⟩
  case imageBootCheck => exact ⟨_, rfl⟩
  case trialExpiry => exact inWindow_completes fun _ => ⟨_, rfl⟩
  case ceRateWindowEnd => exact ⟨_, rfl⟩
  case mramPortRequest => exact ⟨_, rfl⟩
  case arbPrioWrite => exact ⟨_, rfl⟩
  case memLogRead => exact inWindow_completes fun _ => ⟨_, rfl⟩
  case powerGood => exact ⟨_, rfl⟩
  case brownOut => exact ⟨_, rfl⟩
  case rstPin => exact ⟨_, rfl⟩
  case pllLockLoss => exact ⟨_, rfl⟩
  case wdtMsdExpiry => exact ⟨_, rfl⟩
  case wdtApdExpiry => exact ⟨_, rfl⟩
  case criticalStateMismatch => exact ⟨_, rfl⟩
  case resetRelease => exact ⟨_, rfl⟩
  case powerFailWarning => exact inWindow_completes fun _ => ⟨_, rfl⟩
  case powerFailClear => exact ⟨_, rfl⟩
  case railRangeChange => exact ⟨_, rfl⟩
  case vbatMeasurement => exact ⟨_, rfl⟩
  case sysResetRequest => exact inWindow_completes fun _ => ⟨_, rfl⟩
  case sysResetMap => exact inWindow_completes fun _ => ⟨_, rfl⟩
  case phyLinkUp => exact ⟨_, rfl⟩
  case memberAbsent => exact ⟨_, rfl⟩
  case bkbUplRecvTimeout => exact ⟨_, rfl⟩
  case sctBudgetSetTimeout => exact ⟨_, rfl⟩
  case sctRetireTimeout => exact ⟨_, rfl⟩
  case nfcExchangeAnswer => exact ⟨_, rfl⟩
  case nfcExchangeTimeout => exact ⟨_, rfl⟩
  case isoDepCardLeft => exact ⟨_, rfl⟩

/-- Settles O1. -/
theorem stepRunsFrontCommand : Obligations.StepRunsFrontCommand := by
  refine ⟨fun c rest s front => ?_, fun s empty => ?_⟩
  · unfold step
    rw [front]
  · unfold step
    rw [empty]

/-- Settles O58: nothing is listed in a memory after reset. -/
theorem memoryCanonicalAtReset : Obligations.MemoryCanonicalAtReset := ⟨rfl, rfl, rfl⟩

/-- Settles O16: the rings have their shipped values each, and the other fields theirs. -/
theorem resetValues : Obligations.ResetValues := by
  have rings : ∀ n : Fin 16, State.reset.hif.sq[n.val] = {} ∧ State.reset.hif.cq[n.val] = {} := fun n =>
    ⟨Vector.getElem_replicate _, Vector.getElem_replicate _⟩
  refine ⟨rfl, rfl, rfl, rfl, rfl, rfl, rfl, fun n => ?_, rfl, rfl, rfl, rfl, rfl⟩
  obtain ⟨sq, cq⟩ := rings n
  rw [sq, cq]
  exact ⟨rfl, rfl, rfl, rfl⟩

end Sys2Proof.Proofs
end

section
set_option Elab.async false -- one theorem after another, which keeps Lean within its memory
/-! Ring registers (R68, R69) on a link that accepts no write: as with a doorbell, HIF_ERR.RING is left at the EVQ. -/

namespace Sys2Proof.Proofs

open Sys2Proof Sys2Proof.Machine Sys2Proof.Safety Sys2Proof.Laws

theorem exec_ringCfgWrite_up {r : Ring} {g : RingReg} {v : W32} {s : State} (up : LinkUp s) :
    exec (.ringCfgWrite r g v) s = .next (writeRingReg r g v s) := by
  have runs : exec (.ringCfgWrite r g v) s = execRingCfgWrite r g v s := rfl
  rw [runs, execRingCfgWrite, hostAcc_up _ up]

theorem writeRingReg_sqBaseLo_enabled {n : Fin 16} {v : W32} {s : State} (on : (s.hif.sq[n.val]).en = true) :
    writeRingReg (.sq n) .baseLo v s = raiseErr 1 n.val s := if_pos on

/-- HIF_ERROR of the CFG_REJECT takes the EVQ's next entry, and its write is not accepted. -/
theorem eventUnwritten_cfgReject_refusingLink : eventUnwritten (setErr 1 (0 : Fin 16).val refusingLink) = true := by
  decide

/-- Refutes O5: in `refusingLink` SQ0 is enabled, so a write of its BASE_LO sets CFG_REJECT for ring 0, but the write of that HIF_ERROR
fails and leaves 32, the EVQ, as the ring of the most recent error. -/
theorem not_ringConfiguration : ¬ Obligations.RingConfiguration := by
  unfold Obligations.RingConfiguration
  rintro ⟨_, base, _⟩
  have on : (refusingLink.hif.sq[(0 : Fin 16).val]).en = true := by decide
  obtain ⟨rejected, _⟩ := base refusingLink 0 0 refusingLink_up
  obtain ⟨t, ht, _, ring, _⟩ := rejected on
  rw [exec_ringCfgWrite_up refusingLink_up, writeRingReg_sqBaseLo_enabled on] at ht
  cases ht
  rw [raiseErr_errRing_of_eventUnwritten eventUnwritten_cfgReject_refusingLink] at ring
  exact absurd ring (by decide)

end Sys2Proof.Proofs
end

section
set_option Elab.async false -- one theorem after another, which keeps Lean within its memory
/-! The rules through which the statements about single commands go: how a command reaches its act, and which units a completion, an event
and a host access leave alone. -/

namespace Sys2Proof.Proofs

open Sys2Proof Sys2Proof.Machine Sys2Proof.Safety Sys2Proof.Laws

/-! ### From a command to its act -/

/-- The tick of a front descriptor has come to foreground C. -/
theorem Front.reached {opc : Nat} {f : Flight} {s : State} (h : Front opc f s) : Reached .host s := by
  obtain ⟨_, win, _, _, _, lost⟩ := h
  exact ⟨by rw [win], lost⟩

/-- A descriptor command acts on the front descriptor that carries its opcode. -/
theorem exec_front {opc : Nat} {act : Flight → State → State} {c : Instr} {f : Flight} {s : State} (h : Front opc f s)
    (runs : exec c s = inWindow .host (fun t => .next (dispatch opc act t)) s) : exec c s = .next (act f s) := by
  rw [runs, inWindow_reached _ (Front.reached h), dispatch_front act h]

/-- A command of a window acts where the tick has come to it. -/
theorem exec_reached {w : Window} {act : State → Res} {c : Instr} {s : State} (h : Reached w s)
    (runs : exec c s = inWindow w act s) : exec c s = act s := by
  rw [runs, inWindow_reached _ h]

/-- A host access acts where the link is up. -/
theorem exec_up {act : State → State} {c : Instr} {s : State} (up : LinkUp s) (runs : exec c s = .next (hostAcc act s)) :
    exec c s = .next (act s) := by
  rw [runs, hostAcc_up _ up]

/-- A command of foreground A acts in a tick that stands. -/
theorem exec_undiscarded {act : State → State} {c : Instr} {s : State} (h : Undiscarded s) (runs : exec c s = inSafety act s) :
    exec c s = .next (act s) := by
  rw [runs, inSafety_undiscarded _ h]

/-! ### Fields of registers -/

/-- A bit of a register. -/
theorem bitAt_toNat {w : Nat} (x : BitVec w) (i : Nat) : bitAt x.toNat i = x.getLsbD i := by
  rw [bitAt, bitsOf, BitVec.getLsbD, Nat.testBit_eq_decide_div_mod_eq]
  simp [beq_eq_decide]

/-! ### Units that stand -/

section
variable {s t : State}

theorem HostAndJournalOnly.gen (h : HostAndJournalOnly s t) : t.gen = s.gen := by
  unfold HostAndJournalOnly at h
  rw [h]

theorem HostAndJournalOnly.fuse (h : HostAndJournalOnly s t) : t.fuse = s.fuse := by
  unfold HostAndJournalOnly at h
  rw [h]

theorem HostAndJournalOnly.rst (h : HostAndJournalOnly s t) : t.rst = s.rst := by
  unfold HostAndJournalOnly at h
  rw [h]

theorem HostAndJournalOnly.adc (h : HostAndJournalOnly s t) : t.adc = s.adc := by
  unfold HostAndJournalOnly at h
  rw [h]

theorem HostAndJournalOnly.nrg (h : HostAndJournalOnly s t) : t.nrg = s.nrg := by
  unfold HostAndJournalOnly at h
  rw [h]

theorem HostAndJournalOnly.watch (h : HostAndJournalOnly s t) : t.watch = s.watch := by
  unfold HostAndJournalOnly at h
  rw [h]

theorem HostAndJournalOnly.bill (h : HostAndJournalOnly s t) : t.bill = s.bill := by
  unfold HostAndJournalOnly at h
  rw [h]

theorem HostAndJournalOnly.clk (h : HostAndJournalOnly s t) : t.clk = s.clk := by
  unfold HostAndJournalOnly at h
  rw [h]

theorem HostAndJournalOnly.prn (h : HostAndJournalOnly s t) : t.prn = s.prn := by
  unfold HostAndJournalOnly at h
  rw [h]

theorem HostAndJournalOnly.ppy (h : HostAndJournalOnly s t) : t.ppy = s.ppy := by
  unfold HostAndJournalOnly at h
  rw [h]

theorem HostAndJournalOnly.tam (h : HostAndJournalOnly s t) : t.tam = s.tam := by
  unfold HostAndJournalOnly at h
  rw [h]

theorem HostAndJournalOnly.ses (h : HostAndJournalOnly s t) : t.ses = s.ses := by
  unfold HostAndJournalOnly at h
  rw [h]

theorem HostAndJournalOnly.saf (h : HostAndJournalOnly s t) : t.saf = s.saf := by
  unfold HostAndJournalOnly at h
  rw [h]

theorem HostAndJournalOnly.vlk (h : HostAndJournalOnly s t) : t.vlk = s.vlk := by
  unfold HostAndJournalOnly at h
  rw [h]

theorem HostAndJournalOnly.sct (h : HostAndJournalOnly s t) : t.sct = s.sct := by
  unfold HostAndJournalOnly at h
  rw [h]

theorem HostAndJournalOnly.bkb (h : HostAndJournalOnly s t) : t.bkb = s.bkb := by
  unfold HostAndJournalOnly at h
  rw [h]

theorem HostAndJournalOnly.upl (h : HostAndJournalOnly s t) : t.upl = s.upl := by
  unfold HostAndJournalOnly at h
  rw [h]

theorem HostAndJournalOnly.nfc (h : HostAndJournalOnly s t) : t.nfc = s.nfc := by
  unfold HostAndJournalOnly at h
  rw [h]

theorem HostAndJournalOnly.tag (h : HostAndJournalOnly s t) : t.tag = s.tag := by
  unfold HostAndJournalOnly at h
  rw [h]

theorem HostAndJournalOnly.lcd (h : HostAndJournalOnly s t) : t.lcd = s.lcd := by
  unfold HostAndJournalOnly at h
  rw [h]

theorem HostAndJournalOnly.lmp (h : HostAndJournalOnly s t) : t.lmp = s.lmp := by
  unfold HostAndJournalOnly at h
  rw [h]

theorem HostAndJournalOnly.lsw (h : HostAndJournalOnly s t) : t.lsw = s.lsw := by
  unfold HostAndJournalOnly at h
  rw [h]

theorem HostAndJournalOnly.key (h : HostAndJournalOnly s t) : t.key = s.key := by
  unfold HostAndJournalOnly at h
  rw [h]

theorem HostAndJournalOnly.upd (h : HostAndJournalOnly s t) : t.upd = s.upd := by
  unfold HostAndJournalOnly at h
  rw [h]

theorem HostAndJournalOnly.mem (h : HostAndJournalOnly s t) : t.mem = s.mem := by
  unfold HostAndJournalOnly at h
  rw [h]

theorem HostAndJournalOnly.lastRead (h : HostAndJournalOnly s t) : t.lastRead = s.lastRead := by
  unfold HostAndJournalOnly at h
  rw [h]

theorem HostAndJournalOnly.free (h : HostAndJournalOnly s t) : t.free = s.free := by
  unfold HostAndJournalOnly at h
  rw [h]

theorem HostAndJournalOnly.pending (h : HostAndJournalOnly s t) : t.pending = s.pending := by
  unfold HostAndJournalOnly at h
  rw [h]

end

section
variable (f : Flight) (st : Status) (detail seq : Nat) (data : List Byte) (buf : Option (List Byte)) (s : State)

@[simp] theorem complete_gen : (complete f st detail data buf s).gen = s.gen := HostAndJournalOnly.gen (complete_frame f st detail data buf s)
@[simp] theorem complete_fuse : (complete f st detail data buf s).fuse = s.fuse := HostAndJournalOnly.fuse (complete_frame f st detail data buf s)
@[simp] theorem complete_rst : (complete f st detail data buf s).rst = s.rst := HostAndJournalOnly.rst (complete_frame f st detail data buf s)
@[simp] theorem complete_adc : (complete f st detail data buf s).adc = s.adc := HostAndJournalOnly.adc (complete_frame f st detail data buf s)
@[simp] theorem complete_nrg : (complete f st detail data buf s).nrg = s.nrg := HostAndJournalOnly.nrg (complete_frame f st detail data buf s)
@[simp] theorem complete_watch : (complete f st detail data buf s).watch = s.watch := HostAndJournalOnly.watch (complete_frame f st detail data buf s)
@[simp] theorem complete_bill : (complete f st detail data buf s).bill = s.bill := HostAndJournalOnly.bill (complete_frame f st detail data buf s)
@[simp] theorem complete_clk : (complete f st detail data buf s).clk = s.clk := HostAndJournalOnly.clk (complete_frame f st detail data buf s)
@[simp] theorem complete_prn : (complete f st detail data buf s).prn = s.prn := HostAndJournalOnly.prn (complete_frame f st detail data buf s)
@[simp] theorem complete_ppy : (complete f st detail data buf s).ppy = s.ppy := HostAndJournalOnly.ppy (complete_frame f st detail data buf s)
@[simp] theorem complete_tam : (complete f st detail data buf s).tam = s.tam := HostAndJournalOnly.tam (complete_frame f st detail data buf s)
@[simp] theorem complete_ses : (complete f st detail data buf s).ses = s.ses := HostAndJournalOnly.ses (complete_frame f st detail data buf s)
@[simp] theorem complete_saf : (complete f st detail data buf s).saf = s.saf := HostAndJournalOnly.saf (complete_frame f st detail data buf s)
@[simp] theorem complete_vlk : (complete f st detail data buf s).vlk = s.vlk := HostAndJournalOnly.vlk (complete_frame f st detail data buf s)
@[simp] theorem complete_sct : (complete f st detail data buf s).sct = s.sct := HostAndJournalOnly.sct (complete_frame f st detail data buf s)
@[simp] theorem complete_bkb : (complete f st detail data buf s).bkb = s.bkb := HostAndJournalOnly.bkb (complete_frame f st detail data buf s)
@[simp] theorem complete_upl : (complete f st detail data buf s).upl = s.upl := HostAndJournalOnly.upl (complete_frame f st detail data buf s)
@[simp] theorem complete_nfc : (complete f st detail data buf s).nfc = s.nfc := HostAndJournalOnly.nfc (complete_frame f st detail data buf s)
@[simp] theorem complete_tag : (complete f st detail data buf s).tag = s.tag := HostAndJournalOnly.tag (complete_frame f st detail data buf s)
@[simp] theorem complete_lcd : (complete f st detail data buf s).lcd = s.lcd := HostAndJournalOnly.lcd (complete_frame f st detail data buf s)
@[simp] theorem complete_lmp : (complete f st detail data buf s).lmp = s.lmp := HostAndJournalOnly.lmp (complete_frame f st detail data buf s)
@[simp] theorem complete_lsw : (complete f st detail data buf s).lsw = s.lsw := HostAndJournalOnly.lsw (complete_frame f st detail data buf s)
@[simp] theorem complete_key : (complete f st detail data buf s).key = s.key := HostAndJournalOnly.key (complete_frame f st detail data buf s)
@[simp] theorem complete_upd : (complete f st detail data buf s).upd = s.upd := HostAndJournalOnly.upd (complete_frame f st detail data buf s)
@[simp] theorem complete_mem : (complete f st detail data buf s).mem = s.mem := HostAndJournalOnly.mem (complete_frame f st detail data buf s)
@[simp] theorem complete_lastRead : (complete f st detail data buf s).lastRead = s.lastRead := HostAndJournalOnly.lastRead (complete_frame f st detail data buf s)
@[simp] theorem complete_free : (complete f st detail data buf s).free = s.free := HostAndJournalOnly.free (complete_frame f st detail data buf s)
@[simp] theorem complete_pending : (complete f st detail data buf s).pending = s.pending := HostAndJournalOnly.pending (complete_frame f st detail data buf s)

@[simp] theorem completeSt_gen : (completeSt f st s).gen = s.gen := HostAndJournalOnly.gen (completeSt_frame f st s)
@[simp] theorem completeSt_fuse : (completeSt f st s).fuse = s.fuse := HostAndJournalOnly.fuse (completeSt_frame f st s)
@[simp] theorem completeSt_rst : (completeSt f st s).rst = s.rst := HostAndJournalOnly.rst (completeSt_frame f st s)
@[simp] theorem completeSt_adc : (completeSt f st s).adc = s.adc := HostAndJournalOnly.adc (completeSt_frame f st s)
@[simp] theorem completeSt_nrg : (completeSt f st s).nrg = s.nrg := HostAndJournalOnly.nrg (completeSt_frame f st s)
@[simp] theorem completeSt_watch : (completeSt f st s).watch = s.watch := HostAndJournalOnly.watch (completeSt_frame f st s)
@[simp] theorem completeSt_bill : (completeSt f st s).bill = s.bill := HostAndJournalOnly.bill (completeSt_frame f st s)
@[simp] theorem completeSt_clk : (completeSt f st s).clk = s.clk := HostAndJournalOnly.clk (completeSt_frame f st s)
@[simp] theorem completeSt_prn : (completeSt f st s).prn = s.prn := HostAndJournalOnly.prn (completeSt_frame f st s)
@[simp] theorem completeSt_ppy : (completeSt f st s).ppy = s.ppy := HostAndJournalOnly.ppy (completeSt_frame f st s)
@[simp] theorem completeSt_tam : (completeSt f st s).tam = s.tam := HostAndJournalOnly.tam (completeSt_frame f st s)
@[simp] theorem completeSt_ses : (completeSt f st s).ses = s.ses := HostAndJournalOnly.ses (completeSt_frame f st s)
@[simp] theorem completeSt_saf : (completeSt f st s).saf = s.saf := HostAndJournalOnly.saf (completeSt_frame f st s)
@[simp] theorem completeSt_vlk : (completeSt f st s).vlk = s.vlk := HostAndJournalOnly.vlk (completeSt_frame f st s)
@[simp] theorem completeSt_sct : (completeSt f st s).sct = s.sct := HostAndJournalOnly.sct (completeSt_frame f st s)
@[simp] theorem completeSt_bkb : (completeSt f st s).bkb = s.bkb := HostAndJournalOnly.bkb (completeSt_frame f st s)
@[simp] theorem completeSt_upl : (completeSt f st s).upl = s.upl := HostAndJournalOnly.upl (completeSt_frame f st s)
@[simp] theorem completeSt_nfc : (completeSt f st s).nfc = s.nfc := HostAndJournalOnly.nfc (completeSt_frame f st s)
@[simp] theorem completeSt_tag : (completeSt f st s).tag = s.tag := HostAndJournalOnly.tag (completeSt_frame f st s)
@[simp] theorem completeSt_lcd : (completeSt f st s).lcd = s.lcd := HostAndJournalOnly.lcd (completeSt_frame f st s)
@[simp] theorem completeSt_lmp : (completeSt f st s).lmp = s.lmp := HostAndJournalOnly.lmp (completeSt_frame f st s)
@[simp] theorem completeSt_lsw : (completeSt f st s).lsw = s.lsw := HostAndJournalOnly.lsw (completeSt_frame f st s)
@[simp] theorem completeSt_key : (completeSt f st s).key = s.key := HostAndJournalOnly.key (completeSt_frame f st s)
@[simp] theorem completeSt_upd : (completeSt f st s).upd = s.upd := HostAndJournalOnly.upd (completeSt_frame f st s)
@[simp] theorem completeSt_mem : (completeSt f st s).mem = s.mem := HostAndJournalOnly.mem (completeSt_frame f st s)
@[simp] theorem completeSt_lastRead : (completeSt f st s).lastRead = s.lastRead := HostAndJournalOnly.lastRead (completeSt_frame f st s)
@[simp] theorem completeSt_free : (completeSt f st s).free = s.free := HostAndJournalOnly.free (completeSt_frame f st s)
@[simp] theorem completeSt_pending : (completeSt f st s).pending = s.pending := HostAndJournalOnly.pending (completeSt_frame f st s)

@[simp] theorem completeSeq_gen : (completeSeq seq st detail data buf s).gen = s.gen :=
  HostAndJournalOnly.gen (completeSeq_frame seq st detail data buf s)
@[simp] theorem completeSeq_fuse : (completeSeq seq st detail data buf s).fuse = s.fuse :=
  HostAndJournalOnly.fuse (completeSeq_frame seq st detail data buf s)
@[simp] theorem completeSeq_rst : (completeSeq seq st detail data buf s).rst = s.rst :=
  HostAndJournalOnly.rst (completeSeq_frame seq st detail data buf s)
@[simp] theorem completeSeq_adc : (completeSeq seq st detail data buf s).adc = s.adc :=
  HostAndJournalOnly.adc (completeSeq_frame seq st detail data buf s)
@[simp] theorem completeSeq_nrg : (completeSeq seq st detail data buf s).nrg = s.nrg :=
  HostAndJournalOnly.nrg (completeSeq_frame seq st detail data buf s)
@[simp] theorem completeSeq_watch : (completeSeq seq st detail data buf s).watch = s.watch :=
  HostAndJournalOnly.watch (completeSeq_frame seq st detail data buf s)
@[simp] theorem completeSeq_bill : (completeSeq seq st detail data buf s).bill = s.bill :=
  HostAndJournalOnly.bill (completeSeq_frame seq st detail data buf s)
@[simp] theorem completeSeq_clk : (completeSeq seq st detail data buf s).clk = s.clk :=
  HostAndJournalOnly.clk (completeSeq_frame seq st detail data buf s)
@[simp] theorem completeSeq_prn : (completeSeq seq st detail data buf s).prn = s.prn :=
  HostAndJournalOnly.prn (completeSeq_frame seq st detail data buf s)
@[simp] theorem completeSeq_ppy : (completeSeq seq st detail data buf s).ppy = s.ppy :=
  HostAndJournalOnly.ppy (completeSeq_frame seq st detail data buf s)
@[simp] theorem completeSeq_tam : (completeSeq seq st detail data buf s).tam = s.tam :=
  HostAndJournalOnly.tam (completeSeq_frame seq st detail data buf s)
@[simp] theorem completeSeq_ses : (completeSeq seq st detail data buf s).ses = s.ses :=
  HostAndJournalOnly.ses (completeSeq_frame seq st detail data buf s)
@[simp] theorem completeSeq_saf : (completeSeq seq st detail data buf s).saf = s.saf :=
  HostAndJournalOnly.saf (completeSeq_frame seq st detail data buf s)
@[simp] theorem completeSeq_vlk : (completeSeq seq st detail data buf s).vlk = s.vlk :=
  HostAndJournalOnly.vlk (completeSeq_frame seq st detail data buf s)
@[simp] theorem completeSeq_sct : (completeSeq seq st detail data buf s).sct = s.sct :=
  HostAndJournalOnly.sct (completeSeq_frame seq st detail data buf s)
@[simp] theorem completeSeq_bkb : (completeSeq seq st detail data buf s).bkb = s.bkb :=
  HostAndJournalOnly.bkb (completeSeq_frame seq st detail data buf s)
@[simp] theorem completeSeq_upl : (completeSeq seq st detail data buf s).upl = s.upl :=
  HostAndJournalOnly.upl (completeSeq_frame seq st detail data buf s)
@[simp] theorem completeSeq_nfc : (completeSeq seq st detail data buf s).nfc = s.nfc :=
  HostAndJournalOnly.nfc (completeSeq_frame seq st detail data buf s)
@[simp] theorem completeSeq_tag : (completeSeq seq st detail data buf s).tag = s.tag :=
  HostAndJournalOnly.tag (completeSeq_frame seq st detail data buf s)
@[simp] theorem completeSeq_lcd : (completeSeq seq st detail data buf s).lcd = s.lcd :=
  HostAndJournalOnly.lcd (completeSeq_frame seq st detail data buf s)
@[simp] theorem completeSeq_lmp : (completeSeq seq st detail data buf s).lmp = s.lmp :=
  HostAndJournalOnly.lmp (completeSeq_frame seq st detail data buf s)
@[simp] theorem completeSeq_lsw : (completeSeq seq st detail data buf s).lsw = s.lsw :=
  HostAndJournalOnly.lsw (completeSeq_frame seq st detail data buf s)
@[simp] theorem completeSeq_key : (completeSeq seq st detail data buf s).key = s.key :=
  HostAndJournalOnly.key (completeSeq_frame seq st detail data buf s)
@[simp] theorem completeSeq_upd : (completeSeq seq st detail data buf s).upd = s.upd :=
  HostAndJournalOnly.upd (completeSeq_frame seq st detail data buf s)
@[simp] theorem completeSeq_mem : (completeSeq seq st detail data buf s).mem = s.mem :=
  HostAndJournalOnly.mem (completeSeq_frame seq st detail data buf s)
@[simp] theorem completeSeq_lastRead : (completeSeq seq st detail data buf s).lastRead = s.lastRead :=
  HostAndJournalOnly.lastRead (completeSeq_frame seq st detail data buf s)
@[simp] theorem completeSeq_free : (completeSeq seq st detail data buf s).free = s.free :=
  HostAndJournalOnly.free (completeSeq_frame seq st detail data buf s)
@[simp] theorem completeSeq_pending : (completeSeq seq st detail data buf s).pending = s.pending :=
  HostAndJournalOnly.pending (completeSeq_frame seq st detail data buf s)

end

section
variable (code target : Nat) (data : List Byte) (s : State)

@[simp] theorem post_gen : (post code target data s).gen = s.gen := HostAndJournalOnly.gen (HostOnly.journal (post_hostOnly code target data s))
@[simp] theorem post_fuse : (post code target data s).fuse = s.fuse := HostAndJournalOnly.fuse (HostOnly.journal (post_hostOnly code target data s))
@[simp] theorem post_rst : (post code target data s).rst = s.rst := HostAndJournalOnly.rst (HostOnly.journal (post_hostOnly code target data s))
@[simp] theorem post_adc : (post code target data s).adc = s.adc := HostAndJournalOnly.adc (HostOnly.journal (post_hostOnly code target data s))
@[simp] theorem post_nrg : (post code target data s).nrg = s.nrg := HostAndJournalOnly.nrg (HostOnly.journal (post_hostOnly code target data s))
@[simp] theorem post_watch : (post code target data s).watch = s.watch := HostAndJournalOnly.watch (HostOnly.journal (post_hostOnly code target data s))
@[simp] theorem post_bill : (post code target data s).bill = s.bill := HostAndJournalOnly.bill (HostOnly.journal (post_hostOnly code target data s))
@[simp] theorem post_clk : (post code target data s).clk = s.clk := HostAndJournalOnly.clk (HostOnly.journal (post_hostOnly code target data s))
@[simp] theorem post_prn : (post code target data s).prn = s.prn := HostAndJournalOnly.prn (HostOnly.journal (post_hostOnly code target data s))
@[simp] theorem post_ppy : (post code target data s).ppy = s.ppy := HostAndJournalOnly.ppy (HostOnly.journal (post_hostOnly code target data s))
@[simp] theorem post_tam : (post code target data s).tam = s.tam := HostAndJournalOnly.tam (HostOnly.journal (post_hostOnly code target data s))
@[simp] theorem post_ses : (post code target data s).ses = s.ses := HostAndJournalOnly.ses (HostOnly.journal (post_hostOnly code target data s))
@[simp] theorem post_saf : (post code target data s).saf = s.saf := HostAndJournalOnly.saf (HostOnly.journal (post_hostOnly code target data s))
@[simp] theorem post_vlk : (post code target data s).vlk = s.vlk := HostAndJournalOnly.vlk (HostOnly.journal (post_hostOnly code target data s))
@[simp] theorem post_sct : (post code target data s).sct = s.sct := HostAndJournalOnly.sct (HostOnly.journal (post_hostOnly code target data s))
@[simp] theorem post_bkb : (post code target data s).bkb = s.bkb := HostAndJournalOnly.bkb (HostOnly.journal (post_hostOnly code target data s))
@[simp] theorem post_upl : (post code target data s).upl = s.upl := HostAndJournalOnly.upl (HostOnly.journal (post_hostOnly code target data s))
@[simp] theorem post_nfc : (post code target data s).nfc = s.nfc := HostAndJournalOnly.nfc (HostOnly.journal (post_hostOnly code target data s))
@[simp] theorem post_tag : (post code target data s).tag = s.tag := HostAndJournalOnly.tag (HostOnly.journal (post_hostOnly code target data s))
@[simp] theorem post_lcd : (post code target data s).lcd = s.lcd := HostAndJournalOnly.lcd (HostOnly.journal (post_hostOnly code target data s))
@[simp] theorem post_lmp : (post code target data s).lmp = s.lmp := HostAndJournalOnly.lmp (HostOnly.journal (post_hostOnly code target data s))
@[simp] theorem post_lsw : (post code target data s).lsw = s.lsw := HostAndJournalOnly.lsw (HostOnly.journal (post_hostOnly code target data s))
@[simp] theorem post_key : (post code target data s).key = s.key := HostAndJournalOnly.key (HostOnly.journal (post_hostOnly code target data s))
@[simp] theorem post_upd : (post code target data s).upd = s.upd := HostAndJournalOnly.upd (HostOnly.journal (post_hostOnly code target data s))
@[simp] theorem post_mem : (post code target data s).mem = s.mem := HostAndJournalOnly.mem (HostOnly.journal (post_hostOnly code target data s))
@[simp] theorem post_lastRead : (post code target data s).lastRead = s.lastRead := HostAndJournalOnly.lastRead (HostOnly.journal (post_hostOnly code target data s))
@[simp] theorem post_free : (post code target data s).free = s.free := HostAndJournalOnly.free (HostOnly.journal (post_hostOnly code target data s))
@[simp] theorem post_pending : (post code target data s).pending = s.pending := HostAndJournalOnly.pending (HostOnly.journal (post_hostOnly code target data s))
@[simp] theorem post_jnl : (post code target data s).jnl = s.jnl := by
  have h := post_hostOnly code target data s
  unfold HostOnly at h
  rw [h]

@[simp] theorem postMail_fuse : (postMail code target data s).fuse = s.fuse := rfl
@[simp] theorem postMail_rst : (postMail code target data s).rst = s.rst := rfl
@[simp] theorem postMail_hif : (postMail code target data s).hif = s.hif := rfl
@[simp] theorem postMail_jnl : (postMail code target data s).jnl = s.jnl := rfl
@[simp] theorem postMail_adc : (postMail code target data s).adc = s.adc := rfl
@[simp] theorem postMail_nrg : (postMail code target data s).nrg = s.nrg := rfl
@[simp] theorem postMail_watch : (postMail code target data s).watch = s.watch := rfl
@[simp] theorem postMail_bill : (postMail code target data s).bill = s.bill := rfl
@[simp] theorem postMail_clk : (postMail code target data s).clk = s.clk := rfl
@[simp] theorem postMail_prn : (postMail code target data s).prn = s.prn := rfl
@[simp] theorem postMail_ppy : (postMail code target data s).ppy = s.ppy := rfl
@[simp] theorem postMail_tam : (postMail code target data s).tam = s.tam := rfl
@[simp] theorem postMail_ses : (postMail code target data s).ses = s.ses := rfl
@[simp] theorem postMail_saf : (postMail code target data s).saf = s.saf := rfl
@[simp] theorem postMail_vlk : (postMail code target data s).vlk = s.vlk := rfl
@[simp] theorem postMail_sct : (postMail code target data s).sct = s.sct := rfl
@[simp] theorem postMail_bkb : (postMail code target data s).bkb = s.bkb := rfl
@[simp] theorem postMail_upl : (postMail code target data s).upl = s.upl := rfl
@[simp] theorem postMail_nfc : (postMail code target data s).nfc = s.nfc := rfl
@[simp] theorem postMail_tag : (postMail code target data s).tag = s.tag := rfl
@[simp] theorem postMail_lcd : (postMail code target data s).lcd = s.lcd := rfl
@[simp] theorem postMail_lmp : (postMail code target data s).lmp = s.lmp := rfl
@[simp] theorem postMail_lsw : (postMail code target data s).lsw = s.lsw := rfl
@[simp] theorem postMail_key : (postMail code target data s).key = s.key := rfl
@[simp] theorem postMail_upd : (postMail code target data s).upd = s.upd := rfl
@[simp] theorem postMail_mem : (postMail code target data s).mem = s.mem := rfl
@[simp] theorem postMail_outbox : (postMail code target data s).outbox = s.outbox := rfl
@[simp] theorem postMail_lastRead : (postMail code target data s).lastRead = s.lastRead := rfl
@[simp] theorem postMail_free : (postMail code target data s).free = s.free := rfl
@[simp] theorem postMail_pending : (postMail code target data s).pending = s.pending := rfl

@[simp] theorem postLate_fuse : (postLate code target data s).fuse = s.fuse := by
  unfold postLate
  split
  · rfl
  · exact post_fuse _ _ _ _

@[simp] theorem postLate_rst : (postLate code target data s).rst = s.rst := by
  unfold postLate
  split
  · rfl
  · exact post_rst _ _ _ _

@[simp] theorem postLate_adc : (postLate code target data s).adc = s.adc := by
  unfold postLate
  split
  · rfl
  · exact post_adc _ _ _ _

@[simp] theorem postLate_nrg : (postLate code target data s).nrg = s.nrg := by
  unfold postLate
  split
  · rfl
  · exact post_nrg _ _ _ _

@[simp] theorem postLate_watch : (postLate code target data s).watch = s.watch := by
  unfold postLate
  split
  · rfl
  · exact post_watch _ _ _ _

@[simp] theorem postLate_bill : (postLate code target data s).bill = s.bill := by
  unfold postLate
  split
  · rfl
  · exact post_bill _ _ _ _

@[simp] theorem postLate_clk : (postLate code target data s).clk = s.clk := by
  unfold postLate
  split
  · rfl
  · exact post_clk _ _ _ _

@[simp] theorem postLate_prn : (postLate code target data s).prn = s.prn := by
  unfold postLate
  split
  · rfl
  · exact post_prn _ _ _ _

@[simp] theorem postLate_ppy : (postLate code target data s).ppy = s.ppy := by
  unfold postLate
  split
  · rfl
  · exact post_ppy _ _ _ _

@[simp] theorem postLate_tam : (postLate code target data s).tam = s.tam := by
  unfold postLate
  split
  · rfl
  · exact post_tam _ _ _ _

@[simp] theorem postLate_ses : (postLate code target data s).ses = s.ses := by
  unfold postLate
  split
  · rfl
  · exact post_ses _ _ _ _

@[simp] theorem postLate_saf : (postLate code target data s).saf = s.saf := by
  unfold postLate
  split
  · rfl
  · exact post_saf _ _ _ _

@[simp] theorem postLate_vlk : (postLate code target data s).vlk = s.vlk := by
  unfold postLate
  split
  · rfl
  · exact post_vlk _ _ _ _

@[simp] theorem postLate_sct : (postLate code target data s).sct = s.sct := by
  unfold postLate
  split
  · rfl
  · exact post_sct _ _ _ _

@[simp] theorem postLate_bkb : (postLate code target data s).bkb = s.bkb := by
  unfold postLate
  split
  · rfl
  · exact post_bkb _ _ _ _

@[simp] theorem postLate_upl : (postLate code target data s).upl = s.upl := by
  unfold postLate
  split
  · rfl
  · exact post_upl _ _ _ _

@[simp] theorem postLate_nfc : (postLate code target data s).nfc = s.nfc := by
  unfold postLate
  split
  · rfl
  · exact post_nfc _ _ _ _

@[simp] theorem postLate_tag : (postLate code target data s).tag = s.tag := by
  unfold postLate
  split
  · rfl
  · exact post_tag _ _ _ _

@[simp] theorem postLate_lcd : (postLate code target data s).lcd = s.lcd := by
  unfold postLate
  split
  · rfl
  · exact post_lcd _ _ _ _

@[simp] theorem postLate_lmp : (postLate code target data s).lmp = s.lmp := by
  unfold postLate
  split
  · rfl
  · exact post_lmp _ _ _ _

@[simp] theorem postLate_lsw : (postLate code target data s).lsw = s.lsw := by
  unfold postLate
  split
  · rfl
  · exact post_lsw _ _ _ _

@[simp] theorem postLate_key : (postLate code target data s).key = s.key := by
  unfold postLate
  split
  · rfl
  · exact post_key _ _ _ _

@[simp] theorem postLate_upd : (postLate code target data s).upd = s.upd := by
  unfold postLate
  split
  · rfl
  · exact post_upd _ _ _ _

@[simp] theorem postLate_mem : (postLate code target data s).mem = s.mem := by
  unfold postLate
  split
  · rfl
  · exact post_mem _ _ _ _

@[simp] theorem postLate_lastRead : (postLate code target data s).lastRead = s.lastRead := by
  unfold postLate
  split
  · rfl
  · exact post_lastRead _ _ _ _

@[simp] theorem postLate_free : (postLate code target data s).free = s.free := by
  unfold postLate
  split
  · rfl
  · exact post_free _ _ _ _

@[simp] theorem postLate_pending : (postLate code target data s).pending = s.pending := by
  unfold postLate
  split
  · rfl
  · exact post_pending _ _ _ _

end

section
variable (cause : Fin 9) (s : State)

@[simp] theorem setReplace_fuse : (setReplace cause s).fuse = s.fuse := by
  unfold setReplace
  split
  · rfl
  · exact post_fuse _ _ _ _

@[simp] theorem setReplace_rst : (setReplace cause s).rst = s.rst := by
  unfold setReplace
  split
  · rfl
  · exact post_rst _ _ _ _

@[simp] theorem setReplace_adc : (setReplace cause s).adc = s.adc := by
  unfold setReplace
  split
  · rfl
  · exact post_adc _ _ _ _

@[simp] theorem setReplace_nrg : (setReplace cause s).nrg = s.nrg := by
  unfold setReplace
  split
  · rfl
  · exact post_nrg _ _ _ _

@[simp] theorem setReplace_watch : (setReplace cause s).watch = s.watch := by
  unfold setReplace
  split
  · rfl
  · exact post_watch _ _ _ _

@[simp] theorem setReplace_bill : (setReplace cause s).bill = s.bill := by
  unfold setReplace
  split
  · rfl
  · exact post_bill _ _ _ _

@[simp] theorem setReplace_clk : (setReplace cause s).clk = s.clk := by
  unfold setReplace
  split
  · rfl
  · exact post_clk _ _ _ _

@[simp] theorem setReplace_prn : (setReplace cause s).prn = s.prn := by
  unfold setReplace
  split
  · rfl
  · exact post_prn _ _ _ _

@[simp] theorem setReplace_ppy : (setReplace cause s).ppy = s.ppy := by
  unfold setReplace
  split
  · rfl
  · exact post_ppy _ _ _ _

@[simp] theorem setReplace_tam : (setReplace cause s).tam = s.tam := by
  unfold setReplace
  split
  · rfl
  · exact post_tam _ _ _ _

@[simp] theorem setReplace_ses : (setReplace cause s).ses = s.ses := by
  unfold setReplace
  split
  · rfl
  · exact post_ses _ _ _ _

@[simp] theorem setReplace_saf : (setReplace cause s).saf = s.saf := by
  unfold setReplace
  split
  · rfl
  · exact post_saf _ _ _ _

@[simp] theorem setReplace_vlk : (setReplace cause s).vlk = s.vlk := by
  unfold setReplace
  split
  · rfl
  · exact post_vlk _ _ _ _

@[simp] theorem setReplace_sct : (setReplace cause s).sct = s.sct := by
  unfold setReplace
  split
  · rfl
  · exact post_sct _ _ _ _

@[simp] theorem setReplace_bkb : (setReplace cause s).bkb = s.bkb := by
  unfold setReplace
  split
  · rfl
  · exact post_bkb _ _ _ _

@[simp] theorem setReplace_upl : (setReplace cause s).upl = s.upl := by
  unfold setReplace
  split
  · rfl
  · exact post_upl _ _ _ _

@[simp] theorem setReplace_nfc : (setReplace cause s).nfc = s.nfc := by
  unfold setReplace
  split
  · rfl
  · exact post_nfc _ _ _ _

@[simp] theorem setReplace_tag : (setReplace cause s).tag = s.tag := by
  unfold setReplace
  split
  · rfl
  · exact post_tag _ _ _ _

@[simp] theorem setReplace_lcd : (setReplace cause s).lcd = s.lcd := by
  unfold setReplace
  split
  · rfl
  · exact post_lcd _ _ _ _

@[simp] theorem setReplace_lmp : (setReplace cause s).lmp = s.lmp := by
  unfold setReplace
  split
  · rfl
  · exact post_lmp _ _ _ _

@[simp] theorem setReplace_lsw : (setReplace cause s).lsw = s.lsw := by
  unfold setReplace
  split
  · rfl
  · exact post_lsw _ _ _ _

@[simp] theorem setReplace_key : (setReplace cause s).key = s.key := by
  unfold setReplace
  split
  · rfl
  · exact post_key _ _ _ _

@[simp] theorem setReplace_upd : (setReplace cause s).upd = s.upd := by
  unfold setReplace
  split
  · rfl
  · exact post_upd _ _ _ _

@[simp] theorem setReplace_mem : (setReplace cause s).mem = s.mem := by
  unfold setReplace
  split
  · rfl
  · exact post_mem _ _ _ _

@[simp] theorem setReplace_lastRead : (setReplace cause s).lastRead = s.lastRead := by
  unfold setReplace
  split
  · rfl
  · exact post_lastRead _ _ _ _

@[simp] theorem setReplace_free : (setReplace cause s).free = s.free := by
  unfold setReplace
  split
  · rfl
  · exact post_free _ _ _ _

@[simp] theorem setReplace_pending : (setReplace cause s).pending = s.pending := by
  unfold setReplace
  split
  · rfl
  · exact post_pending _ _ _ _

end

end Sys2Proof.Proofs
end

section
set_option Elab.async false -- one theorem after another, which keeps Lean within its memory
/-! Host reads with an effect, register writes (R16, R63, R85) and the system class (R86 to R88, R448, R449). -/

namespace Sys2Proof.Proofs

open Sys2Proof Sys2Proof.Machine Sys2Proof.Safety Sys2Proof.Laws

/-! ### Reads with an effect -/

/-- GEN_TICK_HWM's two 13-bit marks stand at bits 0 and 16. -/
theorem tickHwm_word (lo hi : BitVec 13) : field 0 13 lo.toNat + field 16 13 hi.toNat = lo.toNat + 2 ^ 16 * hi.toNat := by
  rw [field, field, Nat.mod_eq_of_lt lo.isLt, Nat.mod_eq_of_lt hi.isLt]
  omega

/-- What a write of JNL_SEL_HI does with the number that it completes (R85). -/
def selectNum (sel : Nat) (s : State) : State :=
  let s := { s with jnl := { s.jnl with sel := BitVec.ofNat 64 sel } }
  if sel < s.jnl.head then { s with jnl := { s.jnl with selState := 2, snap := [] } }
  else if s.jnl.tail ≤ sel then { s with jnl := { s.jnl with selState := 3, snap := [] } }
  else match s.jnl.find sel with
    | some e => { s with jnl := { s.jnl with selState := 1, snap := e.bytes } }
    | none =>
      let (b, s) := freeBytes 32 s
      { s with jnl := { s.jnl with selState := 1, snap := b } }

theorem exec_jnlSelHiWrite_up {v : W32} {sel : Nat} {s : State} (up : LinkUp s) (h : sel = v.toNat * 2 ^ 32 + s.jnl.sel.toNat % 2 ^ 32) :
    exec (.jnlSelHiWrite v) s = .next (selectNum sel s) := by
  have runs : exec (.jnlSelHiWrite v) s = .next (selectEntry v s) := exec_up up rfl
  rw [runs, h]
  rfl

theorem head_sel (j : Journal) (x : W64) : ({ j with sel := x } : Journal).head = j.head := rfl

theorem find_sel (j : Journal) (x : W64) (n : Nat) : ({ j with sel := x } : Journal).find n = j.find n := rfl

theorem selectNum_below {sel : Nat} {s : State} (h : sel < s.jnl.head) :
    selectNum sel s = { s with jnl := { s.jnl with sel := BitVec.ofNat 64 sel, selState := 2, snap := [] } } := by
  simp only [selectNum, head_sel, h, if_true]

theorem selectNum_above {sel : Nat} {s : State} (hl : ¬sel < s.jnl.head) (h : s.jnl.tail ≤ sel) :
    selectNum sel s = { s with jnl := { s.jnl with sel := BitVec.ofNat 64 sel, selState := 3, snap := [] } } := by
  simp only [selectNum, head_sel, hl, h, if_false, if_true]

theorem selectNum_found {sel : Nat} {e : JEntry} {s : State} (hl : ¬sel < s.jnl.head) (hh : ¬s.jnl.tail ≤ sel)
    (h : s.jnl.find sel = some e) :
    selectNum sel s = { s with jnl := { s.jnl with sel := BitVec.ofNat 64 sel, selState := 1, snap := e.bytes } } := by
  simp only [selectNum, head_sel, find_sel, hl, hh, h, if_false]

/-- Settles O3. -/
theorem hostReadsWithEffect : Obligations.HostReadsWithEffect := by
  intro s up
  refine ⟨?_, ?_, ?_, fun v sel hsel => ?_⟩
  · rw [exec_up up rfl, tickHwm_word]
  · exact (exec_up up rfl).trans rfl
  · exact (exec_up up rfl).trans rfl
  · rw [exec_jnlSelHiWrite_up up hsel]
    refine ⟨fun h => ?_, fun h hl => ?_, fun e hl h found => ?_⟩
    · exact congrArg _ (selectNum_below h)
    · exact congrArg _ (selectNum_above (Nat.not_lt.mpr hl) h)
    · exact congrArg _ (selectNum_found (Nat.not_lt.mpr hl) (Nat.not_le.mpr h) found)

/-! ### Register writes -/

theorem exec_registerWrite_named {b : Bar} {off : W16} {v : W32} {r : Reg} {s : State} (up : LinkUp s) (h : regAt b off = some r) :
    exec (.registerWrite b off v) s = .next (writeReg r v s) := by
  have runs : exec (.registerWrite b off v) s = execRegisterWrite b off v s := rfl
  rw [runs, execRegisterWrite, if_pos (show s.isReady 16 = true from up), h]

/-- Settles O11: the register is found by its offset, and each kind of register writes as its access code says. -/
theorem registerWrites : Obligations.RegisterWrites := by
  refine ⟨fun s b off v => ⟨fun r up h => exec_registerWrite_named up h, fun down => ?_, fun r hr => ?_, fun up => ?_, fun up => ?_,
    fun up => ?_⟩, fun s b off v up h => ?_⟩
  · have runs : exec (.registerWrite b off v) s = execRegisterWrite b off v s := rfl
    rw [runs, execRegisterWrite, if_neg (by simp [down])]
  · fin_cases hr <;> rfl
  · have at_ : regAt .bar0 0x0048 = some .genReplMask := by decide
    rw [exec_registerWrite_named up at_, ← ofNat_toNat_div_eq_extractLsb']
    simp [writeReg]
  · have at_ : regAt .bar0 0x2000 = some .rstCause := by decide
    rw [exec_registerWrite_named up at_, ← ofNat_toNat_div_eq_extractLsb']
    simp [writeReg, w1c]
  · have at_ : regAt .bar0 0x3008 = some .pwrCfg := by decide
    rw [exec_registerWrite_named up at_]
    simp [writeReg, bitAt_toNat]
  · have runs : exec (.registerWrite b off v) s = execRegisterWrite b off v s := rfl
    rw [runs, execRegisterWrite, if_pos (show s.isReady 16 = true from up), h]

/-! ### The system class -/

/-- Clearing causes 6 and 7 alone is allowed: no other bit of the mask is set. -/
theorem ackMask_eq_zero_iff {m : Nat} :
    Nat.land m (0xFFFFFFFF - 0xC0) = 0 ↔ ∀ i < 32, i ≠ 6 → i ≠ 7 → m.testBit i = false := by
  have mask : ∀ i, (0xFFFFFFFF - 0xC0 : Nat).testBit i = decide (i < 32 ∧ i ≠ 6 ∧ i ≠ 7) := by
    intro i
    by_cases hi : i < 32
    · interval_cases i <;> decide
    · rw [Nat.testBit_eq_false_of_lt (Nat.lt_of_lt_of_le (by decide : (0xFFFFFFFF - 0xC0 : Nat) < 2 ^ 32) (Nat.pow_le_pow_right (by decide) (by omega)))]
      simp [hi]
  constructor
  · intro h i hi h6 h7
    have bit : (m &&& (0xFFFFFFFF - 0xC0)).testBit i = false := by
      change (Nat.land m (0xFFFFFFFF - 0xC0)).testBit i = false
      rw [h, Nat.zero_testBit]
    rw [Nat.testBit_and, mask] at bit
    simpa [hi, h6, h7] using bit
  · intro h
    apply Nat.eq_of_testBit_eq
    intro i
    change (m &&& (0xFFFFFFFF - 0xC0)).testBit i = _
    rw [Nat.testBit_and, mask, Nat.zero_testBit]
    by_cases hi : i < 32 ∧ i ≠ 6 ∧ i ≠ 7
    · rw [h i hi.1 hi.2.1 hi.2.2, Bool.false_and]
    · simp [hi]

/-- A little-endian number fits its bytes. -/
theorem leNat_lt (bs : List Byte) : leNat bs < 256 ^ bs.length := by
  induction bs with
  | nil => exact Nat.one_pos
  | cons b bs ih =>
    have hb := b.isLt
    rw [leNat, List.length_cons, Nat.pow_succ]
    omega

theorem slice_length (bs : List Byte) (o n : Nat) : (slice bs o n).length = n := by
  simp only [slice, List.length_append, List.length_replicate, List.length_take]
  omega

theorem sysReplaceAck_allowed {f : Flight} {s : State} (h : ∀ i < 32, i ≠ 6 → i ≠ 7 → (f.p 16 4).testBit i = false) :
    sysReplaceAck f s = complete f .ok 0 (leBytes 4 (s.gen.replace &&& ~~~(BitVec.ofNat 9 (f.p 16 4))).toNat) none
      { s with gen := { s.gen with replace := s.gen.replace &&& ~~~(BitVec.ofNat 9 (f.p 16 4)) } } := by
  unfold sysReplaceAck
  rw [if_neg (not_not.mpr (ackMask_eq_zero_iff.mpr h))]
  rfl

theorem sysReplaceAck_other {f : Flight} {s : State} (h : ∃ i < 32, i ≠ 6 ∧ i ≠ 7 ∧ (f.p 16 4).testBit i = true) :
    sysReplaceAck f s = completeSt f .invalid s := by
  obtain ⟨i, hi, h6, h7, bit⟩ := h
  unfold sysReplaceAck
  refine if_pos fun zero => ?_
  have clear := ackMask_eq_zero_iff.mp zero i hi h6 h7
  rw [clear] at bit
  cases bit

/-- The classes with a function of their own, to which a level-3 request may go. -/
theorem resetClass_iff (cls : Nat) :
    ((5 ≤ cls ∧ cls ≤ 0x0B) ∨ cls = 0x0D) ↔ cls ∈ [0x05, 0x06, 0x07, 0x08, 0x09, 0x0A, 0x0B, 0x0D] := by
  simp only [List.mem_cons, List.not_mem_nil, or_false]
  omega

theorem mapAllowed_iff {src level : Nat} :
    mapAllowed src level = true ↔ (src = 4 ∧ level ≤ 1) ∨ ((src = 10 ∨ src = 12) ∧ (level = 1 ∨ level = 3)) := decide_eq_true_iff

theorem sysResetMap_refused {f : Flight} {s : State} (h : mapAllowed (f.p 16 1) (f.p 17 1) = false) :
    sysResetMap f s = completeSt f .invalid s := by
  simp [sysResetMap, h]

theorem sysResetMap_changed {f : Flight} {s : State} (h : mapAllowed (f.p 16 1) (f.p 17 1) = true)
    (hc : s.fuse.rstChg.getLsbD (f.p 16 1) = true) : sysResetMap f s = completeSt f .conflict s := by
  simp [sysResetMap, h, hc]

theorem sysResetMap_fuse {f : Flight} {s : State} (h : mapAllowed (f.p 16 1) (f.p 17 1) = true)
    (hc : s.fuse.rstChg.getLsbD (f.p 16 1) = false) :
    (sysResetMap f s).fuse = { s.fuse with
      rstMap := s.fuse.rstMap.set (f.p 16 1 % 16) (f.p 17 1) (Nat.mod_lt _ (by decide))
      rstChg := s.fuse.rstChg ||| BitVec.ofNat 16 (2 ^ f.p 16 1) } := by
  simp [sysResetMap, h, hc]

theorem getLsbD_twoPow {w : Nat} {i j : Nat} (hi : i < w) : (BitVec.ofNat w (2 ^ j)).getLsbD i = decide (i = j) := by
  rw [BitVec.getLsbD_ofNat, Nat.testBit_two_pow]
  simp [hi, eq_comm]

/-- Settles O10. -/
theorem systemClass : Obligations.SystemClass := by
  refine ⟨fun s f => ⟨fun h => (exec_front h rfl).trans rfl, fun h => (exec_front h rfl).trans rfl, fun h => (exec_front h rfl).trans rfl, fun h ok => ?_, fun h bad => ?_,
      fun h lo hi len es hes => ?_, fun h bad => ?_⟩,
    fun s f => ⟨fun h form ms => ?_, fun h bad => ?_, fun level cls ms req => ?_, fun src level h hsrc hlevel allowed => ?_⟩,
    fun s f h bad => ?_⟩
  · rw [exec_front h rfl, sysReplaceAck_allowed ok]
  · rw [exec_front h rfl, sysReplaceAck_other bad]
  · subst hes
    have inRange : ¬(f.p 24 2 = 0 ∨ 256 < f.p 24 2 ∨ f.bufLen ≠ 32 * f.p 24 2) := by omega
    exact (exec_front (act := sysJournalRead) h rfl).trans (congrArg Host.Outcome.next (if_neg inRange))
  · exact (exec_front (act := sysJournalRead) h rfl).trans (congrArg Host.Outcome.next (if_pos bad))
  · rw [exec_front h rfl, sysResetRequest]
    rw [← resetClass_iff] at form
    dsimp only
    rw [if_neg]
    simp only [Bool.not_eq_true', not_or, Bool.not_eq_false]
    refine ⟨by omega, by omega, ?_, by omega⟩
    split <;> simp <;> omega
  · rw [exec_front h rfl, sysResetRequest]
    rw [← resetClass_iff] at bad
    dsimp only
    rw [if_pos]
    simp only [Bool.not_eq_true']
    by_cases h3 : f.p 16 1 = 3
    · simp [h3]
      omega
    · simp [h3]
      omega
  · unfold raiseRequests
    rw [req]
    rfl
  · rw [exec_front h rfl]
    subst hsrc hlevel
    have ok := mapAllowed_iff.mpr allowed
    refine ⟨fun new => ⟨_, rfl, ?_⟩, fun old => by rw [sysResetMap_changed ok old]⟩
    have small : f.p 16 1 < 16 := by omega
    rw [sysResetMap_fuse ok new]
    refine ⟨?_, ?_, fun i hi other => ⟨?_, ?_⟩⟩
    · simp [Nat.mod_eq_of_lt small, small]
    · rw [BitVec.getLsbD_or, getLsbD_twoPow small]
      simp
    · simp [Nat.mod_eq_of_lt small, Ne.symm other]
    · rw [BitVec.getLsbD_or, getLsbD_twoPow hi]
      simp [other]
  · rw [exec_front h rfl, sysResetMap_refused (by rw [← Bool.not_eq_true, mapAllowed_iff]; exact bad)]

end Sys2Proof.Proofs
end

section
set_option Elab.async false -- one theorem after another, which keeps Lean within its memory
/-! The path of an event (R79, R80, R474): of the host interface unit it changes the error bits, the event ring, what is held of events and
the pending messages, and nothing else. -/

namespace Sys2Proof.Proofs

open Sys2Proof Sys2Proof.Machine Sys2Proof.Safety Sys2Proof.Laws

/-- Of the host interface unit only what events pass through differs. -/
def EvPath (s t : State) : Prop :=
  t.hif = { s.hif with err := t.hif.err, errRing := t.hif.errRing, evq := t.hif.evq, evNext := t.hif.evNext, evWaiting := t.hif.evWaiting,
                       staging := t.hif.staging, heldEv := t.hif.heldEv, lost := t.hif.lost, lostFirst := t.hif.lostFirst,
                       pba := t.hif.pba }

variable {s0 s t : State}

theorem EvPath.refl (s : State) : EvPath s s := rfl

/-- A change on the path, or elsewhere in the part. -/
theorem EvPath.frame (h : EvPath s0 s) (e : EvPath s t) : EvPath s0 t := by
  unfold EvPath at *
  rw [e, h]

theorem EvPath.ite {c : Prop} [Decidable c] {a b : State} (ha : EvPath s0 a) (hb : EvPath s0 b) : EvPath s0 (if c then a else b) := by
  split
  · exact ha
  · exact hb

theorem EvPath.of_snd {α : Type} {p : α × State} {a : α} (e : p = (a, t)) (h : EvPath s0 p.2) : EvPath s0 t := by
  rw [e] at h
  exact h

theorem EvPath.run (h : EvPath s0 t) : t.hif.run = s0.hif.run := by rw [h]

theorem EvPath.sq (h : EvPath s0 t) : t.hif.sq = s0.hif.sq := by rw [h]

theorem EvPath.cq (h : EvPath s0 t) : t.hif.cq = s0.hif.cq := by rw [h]

theorem EvPath.inflight (h : EvPath s0 t) : t.hif.inflight = s0.hif.inflight := by rw [h]

theorem emit_evPath {o} (h : EvPath s0 s) : EvPath s0 (emit o s) := by
  unfold emit
  exact .frame h rfl

theorem sendMsix_evPath {v} (h : EvPath s0 s) : EvPath s0 (sendMsix v s) := by
  unfold sendMsix
  exact .ite (.frame h rfl) (emit_evPath h)

theorem produce_evPath {code target data gtc} (h : EvPath s0 s) : EvPath s0 (produce code target data gtc s).2 := by
  unfold produce
  exact .frame h rfl

theorem writeEvent_evPath {e} (h : EvPath s0 s) : EvPath s0 (writeEvent e s) := by
  unfold writeEvent
  split
  exact .ite (sendMsix_evPath (emit_evPath (.frame h rfl))) (emit_evPath (.frame h rfl))

theorem placeEvent_evPath {e} (h : EvPath s0 s) : EvPath s0 (placeEvent e s) := by
  unfold placeEvent
  exact .ite (writeEvent_evPath h) (.frame h rfl)

theorem stageEvent_evPath {e} (h : EvPath s0 s) : EvPath s0 (stageEvent e s) := by
  unfold stageEvent
  exact .ite (.frame h rfl) (.frame h rfl)

theorem routeEvent_evPath {e} (h : EvPath s0 s) : EvPath s0 (routeEvent e s) := by
  unfold routeEvent
  exact .ite (placeEvent_evPath h) (stageEvent_evPath h)

theorem setErr_evPath {bit ring} (h : EvPath s0 s) : EvPath s0 (setErr bit ring s) := by
  unfold setErr
  extract_lets +onlyGivenNames s1
  extract_lets s2
  have h2 : EvPath s0 s2 := .frame h rfl
  split
  · exact h2
  · split
    rename_i s3 e3
    have h3 : EvPath s0 s3 := .of_snd e3 (produce_evPath h2)
    exact routeEvent_evPath h3

theorem eventFail_evPath (h : EvPath s0 s) : EvPath s0 (eventFail s) := by
  unfold eventFail
  exact .ite (setErr_evPath (.frame h rfl)) h

theorem raiseErr_evPath {bit ring} (h : EvPath s0 s) : EvPath s0 (raiseErr bit ring s) := by
  unfold raiseErr
  exact eventFail_evPath (setErr_evPath h)

theorem drainHeld_evPath {n} (h : EvPath s0 s) : EvPath s0 (drainHeld n s) := by
  induction n generalizing s with
  | zero => exact h
  | succ n ih =>
    unfold drainHeld
    split
    · exact h
    · exact .ite (ih (placeEvent_evPath (.frame h rfl))) h

theorem drainLost_evPath (h : EvPath s0 s) : EvPath s0 (drainLost s) := by
  unfold drainLost
  split
  · split
    rename_i s1 e1
    have h1 : EvPath s0 s1 := .of_snd e1 (produce_evPath h)
    exact placeEvent_evPath (.frame h1 rfl)
  · exact h

theorem drainStaged_evPath {n} (h : EvPath s0 s) : EvPath s0 (drainStaged n s) := by
  induction n generalizing s with
  | zero => exact h
  | succ n ih =>
    unfold drainStaged
    split
    · exact h
    · exact .ite (ih (placeEvent_evPath (.frame h rfl))) h

theorem drainEvents_evPath (h : EvPath s0 s) : EvPath s0 (drainEvents s) := by
  unfold drainEvents
  exact eventFail_evPath (drainStaged_evPath (drainLost_evPath (drainHeld_evPath h)))

end Sys2Proof.Proofs
end

section
set_option Elab.async false -- one theorem after another, which keeps Lean within its memory
/-! What a completion leaves (R78, R473, R474): the path it takes through its ring, stated once for `complete`, and O7, O8 and O9. -/

namespace Sys2Proof.Proofs

open Sys2Proof Sys2Proof.Machine Sys2Proof.Safety Sys2Proof.Laws

/-- Of the host interface unit only what completions and events pass through differs. -/
def CqPath (s t : State) : Prop :=
  t.hif = { s.hif with cq := t.hif.cq, err := t.hif.err, errRing := t.hif.errRing, evq := t.hif.evq, evNext := t.hif.evNext,
                       evWaiting := t.hif.evWaiting, staging := t.hif.staging, heldEv := t.hif.heldEv, lost := t.hif.lost,
                       lostFirst := t.hif.lostFirst, pba := t.hif.pba }

variable {s0 s t u : State}

theorem CqPath.refl (s : State) : CqPath s s := rfl

theorem CqPath.trans (h : CqPath s t) (e : CqPath t u) : CqPath s u := by
  unfold CqPath at *
  rw [e, h]

theorem EvPath.cqPath (h : EvPath s t) : CqPath s t := by
  unfold EvPath at h
  unfold CqPath
  rw [h]

theorem writeCompletion_cqPath {q c} : CqPath s (writeCompletion q c s) := by
  unfold writeCompletion
  dsimp only
  split
  · refine CqPath.trans ?_ (sendMsix_evPath (.refl _)).cqPath
    rfl
  · rfl

theorem completionFail_cqPath {q} : CqPath s (completionFail q s) := by
  unfold completionFail
  dsimp only
  split
  · refine CqPath.trans ?_ (raiseErr_evPath (.refl _)).cqPath
    rfl
  · rfl

theorem putCompletion_cqPath {q c} : CqPath s (putCompletion q c s) := by
  unfold putCompletion
  dsimp only
  split
  · exact writeCompletion_cqPath
  · refine CqPath.trans ?_ completionFail_cqPath
    rfl

/-- The descriptor with the number `seq` leaves the flight. -/
def endFlight (seq : Nat) (s : State) : State :=
  { s with hif := { s.hif with inflight := s.hif.inflight.filter fun g => g.seq != seq } }

/-- The host interface unit after a completion: the descriptor has left the flight, and the rest went the path of the completion. -/
theorem complete_hif {f : Flight} {st : Status} {d : Nat} {data : List Byte} {buf : Option (List Byte)} :
    CqPath (endFlight f.seq s) (complete f st d data buf s) := by
  unfold complete
  extract_lets live sent bad s1 s2 s3 hif s4
  have h1 : CqPath s s1 := by
    unfold s1
    split
    · split <;> rfl
    · rfl
  have h2 : CqPath s s2 := by
    unfold s2
    split
    · exact h1.trans (raiseErr_evPath (.refl _)).cqPath
    · exact h1
  have h4 : CqPath (endFlight f.seq s) s4 := by
    have e4 : s4.hif = { s2.hif with inflight := s2.hif.inflight.filter fun g => g.seq != f.seq } := rfl
    unfold CqPath at h2 ⊢
    rw [e4, h2]
    rfl
  split
  · exact h4.trans putCompletion_cqPath
  · exact h4

theorem HostOnly.jnl (h : HostOnly s t) : t.jnl = s.jnl := by
  unfold HostOnly at h
  rw [h]

theorem raiseErr_jnl {bit ring : Nat} : (raiseErr bit ring s).jnl = s.jnl := HostOnly.jnl (raiseErr_hostOnly _ _ _)

theorem putCompletion_jnl {q c} : (putCompletion q c s).jnl = s.jnl := HostOnly.jnl (putCompletion_hostOnly _ _ _)

/-- A completion closes the entry of its descriptor. -/
@[simp] theorem complete_jnl {f : Flight} {st : Status} {d : Nat} {data : List Byte} {buf : Option (List Byte)} :
    (complete f st d data buf s).jnl = (closeEntry f.seq (d * 256 + st.code) s).jnl := by
  unfold complete
  extract_lets live sent bad s1 s2 s3 hif s4
  have j1 : s1.jnl = s.jnl ∧ s1.gen = s.gen := by
    unfold s1
    split
    · split <;> exact ⟨rfl, rfl⟩
    · exact ⟨rfl, rfl⟩
  have j2 : s2.jnl = s.jnl ∧ s2.gen = s.gen := by
    unfold s2
    split
    · exact ⟨raiseErr_jnl.trans j1.1, (HostAndJournalOnly.gen (HostOnly.journal (raiseErr_hostOnly _ _ _))).trans j1.2⟩
    · exact j1
  have j4 : s4.jnl = (closeEntry f.seq (d * 256 + st.code) s).jnl := by
    unfold s4 s3 closeEntry
    rw [j2.1, j2.2]
  split
  · exact putCompletion_jnl.trans j4
  · exact j4

section
variable {f : Flight} {st : Status} {d : Nat} {data : List Byte} {buf : Option (List Byte)}

@[simp] theorem complete_inflight : (complete f st d data buf s).hif.inflight = s.hif.inflight.filter fun g => g.seq != f.seq := by
  rw [complete_hif]
  rfl

@[simp] theorem complete_run : (complete f st d data buf s).hif.run = s.hif.run := by
  rw [complete_hif]
  rfl

@[simp] theorem complete_sq : (complete f st d data buf s).hif.sq = s.hif.sq := by
  rw [complete_hif]
  rfl

@[simp] theorem complete_linkOk : (complete f st d data buf s).hif.linkOk = s.hif.linkOk := by
  rw [complete_hif]
  rfl

@[simp] theorem complete_bufOk : (complete f st d data buf s).hif.bufOk = s.hif.bufOk := by
  rw [complete_hif]
  rfl

@[simp] theorem completeSt_sq : (completeSt f st s).hif.sq = s.hif.sq := complete_sq

@[simp] theorem completeSt_inflight : (completeSt f st s).hif.inflight = s.hif.inflight.filter fun g => g.seq != f.seq := complete_inflight

@[simp] theorem completeSt_jnl : (completeSt f st s).jnl = (closeEntry f.seq (0 * 256 + st.code) s).jnl := complete_jnl

end

/-- Settles O8. -/
theorem completionClosesEntry : Obligations.CompletionClosesEntry := by
  unfold Obligations.CompletionClosesEntry
  intro s f st detail data buf
  refine ⟨complete_frame f st detail data buf s, ?_, ?_, ?_⟩
  · intro g hg
    rw [complete_inflight] at hg
    exact bne_iff_ne.1 (List.mem_filter.1 hg).2
  · rw [complete_jnl]
    rfl
  · intro e he hseq
    rw [complete_jnl] at he
    obtain ⟨e0, -, rfl⟩ := List.mem_map.1 he
    split at hseq
    next hit => simp [hit]
    next miss => simp [hseq] at miss

/-- An entry opened for a descriptor is still there when the descriptor has been completed. -/
theorem closeEntry_opened {n seq result : Nat} {g : W48} {ring : Fin 16} {idx : Nat}
    (h : ∃ e ∈ s.jnl.entries, e.seq = n ∧ e.gtcAcc = g ∧ e.ring = ring ∧ e.sqIndex = idx) :
    ∃ e ∈ (closeEntry seq result s).jnl.entries, e.seq = n ∧ e.gtcAcc = g ∧ e.ring = ring ∧ e.sqIndex = idx := by
  obtain ⟨e, he, h⟩ := h
  refine ⟨_, List.mem_map.2 ⟨e, he, rfl⟩, ?_⟩
  split <;> exact h

/-- What a fetch leaves of the ring `n` and the journal, `s` being the state before it. -/
structure Fetched (n : Fin 16) (s t : State) : Prop where
  tail : t.jnl.tail = s.jnl.tail + 1
  head : (t.hif.sq[n.val]).head = ((s.hif.sq[n.val]).head + 1) % 2 ^ (s.hif.sq[n.val]).sizeLog2
  entry : ∃ e ∈ t.jnl.entries, e.seq = s.jnl.tail ∧ e.gtcAcc = s.gen.gtc ∧ e.ring = n ∧ e.sqIndex = (s.hif.sq[n.val]).head
  rest : HostAndJournalOnly s t

theorem Fetched.frame {n : Fin 16} (h : Fetched n s t) (sq : u.hif.sq = t.hif.sq) (jnl : u.jnl = t.jnl) (rest : HostAndJournalOnly t u) :
    Fetched n s u :=
  ⟨by rw [jnl, h.tail], by rw [sq, h.head], by rw [jnl]; exact h.entry, HostAndJournalOnly.trans h.rest rest⟩

theorem Fetched.raiseErr {n : Fin 16} {bit ring : Nat} (h : Fetched n s t) : Fetched n s (raiseErr bit ring t) :=
  h.frame (raiseErr_evPath (.refl _)).sq raiseErr_jnl (HostOnly.journal (raiseErr_hostOnly _ _ _))

/-- A descriptor that ends as it is fetched keeps its entry. -/
theorem Fetched.completeSt {n : Fin 16} {f : Flight} {st : Status} (h : Fetched n s t) : Fetched n s (completeSt f st t) :=
  ⟨by rw [completeSt_jnl]; exact h.tail, by rw [completeSt_sq, h.head], by rw [completeSt_jnl]; exact closeEntry_opened h.entry,
    HostAndJournalOnly.trans h.rest (completeSt_frame f st t)⟩

theorem fetch_fetched {n : Fin 16} {raw : List Byte} {ok torn : Bool} {buf : BufRead} (up : s.rst.msdUp = true)
    (choice : fetchChoice s = some n) : Fetched n s (fetch n raw ok buf torn s) := by
  unfold fetch
  rw [if_pos (by simp [up, choice])]
  extract_lets q seq parsed f0 f hif0 s1 s2 hif2 s3
  have h2 : Fetched n s s2 := ⟨rfl, by simp [s2, s1, openEntry, q], ⟨_, List.mem_cons_self, rfl, rfl, rfl, rfl⟩, rfl⟩
  have h3 : Fetched n s s3 := h2.frame rfl rfl rfl
  split
  · exact h2
  split
  · exact h3.raiseErr.completeSt
  split
  · exact h3.completeSt
  split
  · split
    · exact h3.frame rfl rfl rfl
    · exact h3.raiseErr.completeSt
  · exact h3

/-- Settles O7. -/
theorem fetchTakesNextSeq : Obligations.FetchTakesNextSeq := by
  unfold Obligations.FetchTakesNextSeq
  intro s n raw ok torn buf up choice
  obtain ⟨tail, head, entry, rest⟩ := fetch_fetched (raw := raw) (ok := ok) (torn := torn) (buf := buf) up choice
  exact ⟨_, rfl, tail, head, entry, rest⟩

/-- What is dispatched next is in the list it is taken from. -/
theorem nextDispatch_mem {seen l : List Flight} {d : Flight} (h : nextDispatch seen l = some d) : d ∈ l := by
  induction l generalizing seen with
  | nil => cases h
  | cons x xs ih =>
    unfold nextDispatch at h
    split at h
    · cases h
      exact List.mem_cons_self
    · exact List.mem_cons_of_mem _ (ih h)

/-- A descriptor that an earlier one of its ring holds back is not the next one. -/
theorem nextDispatch_heldBack {seen pre post : List Flight} {f g : Flight} (hg : g ∈ seen ∨ g ∈ pre) (ring : g.sq = f.sq)
    (fence : f.fence = true ∨ (g.fence = true ∧ g.running = false)) (before : ∀ h ∈ pre, h.seq ≠ f.seq)
    (after : ∀ h ∈ post, h.seq ≠ f.seq) {d : Flight} (h : nextDispatch seen (pre ++ f :: post) = some d) : d.seq ≠ f.seq := by
  induction pre generalizing seen with
  | nil =>
    have hseen : g ∈ seen := by simpa using hg
    have blocked : fenceBlocks f seen = true := by
      rw [fenceBlocks, List.any_eq_true]
      exact ⟨g, hseen, by simpa [ring] using fence⟩
    rw [List.nil_append, nextDispatch, blocked] at h
    simp only [Bool.not_true, Bool.and_false, Bool.false_eq_true, if_false] at h
    exact after d (nextDispatch_mem h)
  | cons x xs ih =>
    rw [List.cons_append, nextDispatch] at h
    split at h
    · cases h
      exact before _ List.mem_cons_self
    · refine ih ?_ (fun y hy => before y (List.mem_cons_of_mem _ hy)) h
      rcases hg with hg | hg
      · exact .inl (List.mem_cons_of_mem _ hg)
      · rcases List.mem_cons.1 hg with rfl | hg
        · exact .inl List.mem_cons_self
        · exact .inr hg

/-- Settles O9. -/
theorem fenceHoldsBack : Obligations.FenceHoldsBack := by
  unfold Obligations.FenceHoldsBack
  intro s pre post f g split hg ring fence before after d h
  rw [split] at h
  exact nextDispatch_heldBack (.inr hg) ring fence before after h

end Sys2Proof.Proofs
end

section
set_option Elab.async false -- one theorem after another, which keeps Lean within its memory
/-! The host interface unit with RUN at 0 (R67, R68): no completion and no event leaves it, so that a reset of a level from 1 to 3 leaves
its rings, its error bits and its message table alone. `Calm` says so of the state in which the reset begins and one on its way. -/

namespace Sys2Proof.Proofs

open Sys2Proof Sys2Proof.Machine Sys2Proof.Safety Sys2Proof.Laws

/-- RUN is 0, no event waits for the link, and the host interface unit differs in what is in flight and in the events that are held. -/
structure Calm (s t : State) : Prop where
  run : t.hif.run = false
  waiting : t.hif.evWaiting = []
  hif : t.hif = { s.hif with inflight := t.hif.inflight, evNext := t.hif.evNext, staging := t.hif.staging, heldEv := t.hif.heldEv,
                             lost := t.hif.lost, lostFirst := t.hif.lostFirst }
  gtc : t.gen.gtc = s.gen.gtc
  tail : t.jnl.tail = s.jnl.tail
  cause : t.rst.cause = s.rst.cause

variable {s0 s t : State}

theorem Calm.refl (run : s.hif.run = false) (waiting : s.hif.evWaiting = []) : Calm s s := ⟨run, waiting, rfl, rfl, rfl, rfl⟩

/-- A change elsewhere. -/
theorem Calm.frame (h : Calm s0 s) (hif : t.hif = s.hif) (gtc : t.gen.gtc = s.gen.gtc) (tail : t.jnl.tail = s.jnl.tail)
    (cause : t.rst.cause = s.rst.cause) : Calm s0 t := by
  obtain ⟨hr, hw, hh, hg, ht, hc⟩ := h
  exact ⟨by rw [hif, hr], by rw [hif, hw], by rw [hif]; exact hh, gtc.trans hg, tail.trans ht, cause.trans hc⟩

theorem Calm.ite {c : Prop} [Decidable c] {a b : State} (ha : Calm s0 a) (hb : Calm s0 b) : Calm s0 (if c then a else b) := by
  split
  · exact ha
  · exact hb

theorem Calm.foldl {α : Type} {f : State → α → State} {l : List α} (hf : ∀ t a, Calm s0 t → Calm s0 (f t a)) (h : Calm s0 s) :
    Calm s0 (l.foldl f s) := by
  induction l generalizing s with
  | nil => exact h
  | cons a l ih => exact ih (hf s a h)

theorem produce_calm {code target data gtc} (h : Calm s0 s) : Calm s0 (produce code target data gtc s).2 := by
  obtain ⟨hr, hw, hh, hg, ht, hc⟩ := h
  exact ⟨hr, hw, by rw [produce, hh], hg, ht, hc⟩

theorem stageEvent_calm {e} (h : Calm s0 s) : Calm s0 (stageEvent e s) := by
  obtain ⟨hr, hw, hh, hg, ht, hc⟩ := h
  unfold stageEvent
  refine .ite ⟨hr, hw, ?_, hg, ht, hc⟩ ⟨hr, hw, ?_, hg, ht, hc⟩
  · rw [hh]
  · rw [hh]

/-- With RUN at 0 an event is staged. -/
theorem routeEvent_calm {e} (h : Calm s0 s) : Calm s0 (routeEvent e s) := by
  have closed : canPost s = false := by simp [canPost, h.run]
  simp only [routeEvent, closed, Bool.false_and, Bool.false_eq_true, if_false]
  exact stageEvent_calm h

/-- No event waits for the link, so none fails. -/
theorem eventFail_calm (h : Calm s0 s) : Calm s0 (eventFail s) := by
  unfold eventFail
  rw [h.waiting]
  exact h

theorem post_calm {code target data} (h : Calm s0 s) : Calm s0 (post code target data s) := by
  unfold post putEvent
  have h1 := produce_calm (code := code) (target := target) (data := data) (gtc := s.gen.gtc) h
  exact eventFail_calm (routeEvent_calm h1)

theorem holdEvent_calm {code data gtc} (h : Calm s0 s) : Calm s0 (holdEvent code data gtc s) := by
  obtain ⟨hr, hw, hh, hg, ht, hc⟩ := h
  exact ⟨hr, hw, by rw [holdEvent, produce, hh], hg, ht, hc⟩

/-- With RUN at 0 a completion closes its entry and leaves the flight, and that is all (R68). -/
theorem complete_stopped {f st detail data buf} (run : s.hif.run = false) :
    complete f st detail data buf s = { s with
      jnl := (closeEntry f.seq (detail * 256 + st.code) s).jnl
      hif := { s.hif with inflight := s.hif.inflight.filter fun g => g.seq != f.seq } } := by
  cases buf <;> simp [complete, run, closeEntry]

theorem complete_calm {f st detail data buf} (h : Calm s0 s) : Calm s0 (complete f st detail data buf s) := by
  rw [complete_stopped h.run]
  obtain ⟨hr, hw, hh, hg, ht, hc⟩ := h
  exact ⟨hr, hw, by rw [hh], hg, ht, hc⟩


theorem holdLate_calm {code target data} (h : Calm s0 s) : Calm s0 (holdLate code target data s) := by
  unfold holdLate
  exact .frame h rfl rfl rfl rfl

theorem postMail_calm {code target data} (h : Calm s0 s) : Calm s0 (postMail code target data s) := by
  unfold postMail
  exact holdLate_calm h

theorem completeSt_calm {f st} (h : Calm s0 s) : Calm s0 (completeSt f st s) := by
  unfold completeSt
  exact complete_calm h

theorem completeSeq_calm {seq st detail data buf} (h : Calm s0 s) : Calm s0 (completeSeq seq st detail data buf s) := by
  unfold completeSeq
  split
  · exact complete_calm h
  · exact h

theorem dropReq_calm {hit} (h : Calm s0 s) : Calm s0 (dropReq hit s) := by
  unfold dropReq
  exact .frame h rfl rfl rfl rfl

theorem dropLong_calm {seq} (h : Calm s0 s) : Calm s0 (dropLong seq s) := by
  unfold dropLong
  exact dropReq_calm h

theorem abortFlight_calm {f} (h : Calm s0 s) : Calm s0 (abortFlight f s) := by
  unfold abortFlight
  exact completeSt_calm (dropLong_calm h)

theorem abortClasses_calm {hit} (h : Calm s0 s) : Calm s0 (abortClasses hit s) := by
  unfold abortClasses
  exact .foldl (fun _ _ h1 => abortFlight_calm h1) h

theorem readyEvent_calm {bit v} (h : Calm s0 s) : Calm s0 (readyEvent bit v s) := by
  unfold readyEvent
  exact .ite (post_calm h) h

theorem setReady_calm {bit v} (h : Calm s0 s) : Calm s0 (setReady bit v s) := by
  unfold setReady
  exact .ite h (readyEvent_calm (.frame h rfl rfl rfl rfl))

theorem loseReady_calm {bits} (h : Calm s0 s) : Calm s0 (loseReady bits s) := by
  unfold loseReady
  exact abortClasses_calm (.foldl (fun _ _ h1 => setReady_calm h1) h)

theorem setReplace_calm {cause} (h : Calm s0 s) : Calm s0 (setReplace cause s) := by
  unfold setReplace
  exact .ite h (post_calm (.frame h rfl rfl rfl rfl))

theorem modUpl_calm {f} (h : Calm s0 s) : Calm s0 (modUpl f s) := by
  unfold modUpl
  exact .frame h rfl rfl rfl rfl

theorem postPath_calm {cause b cond} (h : Calm s0 s) : Calm s0 (postPath cause b cond s) := by
  unfold postPath
  exact postMail_calm h

theorem setPathOk_calm {b ok} (h : Calm s0 s) : Calm s0 (setPathOk b ok s) := by
  unfold setPathOk
  exact modUpl_calm h

theorem startHinge_calm {toB cond} (h : Calm s0 s) : Calm s0 (startHinge toB cond s) := by
  unfold startHinge
  exact modUpl_calm h

theorem endDrill_calm {d detail} (h : Calm s0 s) : Calm s0 (endDrill d detail s) := by
  unfold endDrill
  exact completeSeq_calm (modUpl_calm h)

theorem drillDead_calm {d cond} (h : Calm s0 s) : Calm s0 (drillDead d cond s) := by
  unfold drillDead
  exact startHinge_calm (modUpl_calm (postPath_calm (setReplace_calm (setPathOk_calm h))))

theorem hingeAway_calm {b cond} (h : Calm s0 s) : Calm s0 (hingeAway b cond s) := by
  unfold hingeAway
  split
  · exact .ite (startHinge_calm (endDrill_calm h)) (.ite (drillDead_calm h) (startHinge_calm h))
  · exact startHinge_calm h

theorem pathFail_calm {b cond} (h : Calm s0 s) : Calm s0 (pathFail b cond s) := by
  unfold pathFail
  exact .ite (setPathOk_calm h) (.ite (postPath_calm (setPathOk_calm h)) (.ite (hingeAway_calm (postPath_calm (setPathOk_calm h)))
      (setPathOk_calm h)))

theorem losePathB_calm (h : Calm s0 s) : Calm s0 (losePathB s) := by
  unfold losePathB
  exact .ite (pathFail_calm h) h

theorem clearFn_calm {cls} (h : Calm s0 s) : Calm s0 (clearFn cls s) := by
  unfold clearFn
  split
  · exact dropReq_calm (.frame h rfl rfl rfl rfl)
  · exact .frame h rfl rfl rfl rfl
  · exact .frame h rfl rfl rfl rfl
  · exact .frame h rfl rfl rfl rfl
  · exact .frame h rfl rfl rfl rfl
  · exact .frame h rfl rfl rfl rfl
  · exact .frame h rfl rfl rfl rfl
  · exact h

theorem clearLevel_calm {level cls} (h : Calm s0 s) : Calm s0 (clearLevel level cls s) := by
  unfold clearLevel
  extract_lets +onlyGivenNames s3
  have h3 : Calm s0 s3 := .ite (losePathB_calm h) h
  exact .ite (.foldl (fun _ _ h4 => clearFn_calm h4) (dropReq_calm (.frame (loseReady_calm h3) rfl rfl rfl rfl))) (.ite (.foldl (fun _ _
      h5 => clearFn_calm h5) (.frame (loseReady_calm h3) rfl rfl rfl rfl)) (clearFn_calm (.frame (loseReady_calm h3) rfl rfl rfl rfl)))


end Sys2Proof.Proofs
end

section
set_option Elab.async false -- one theorem after another, which keeps Lean within its memory
/-! RUN, the PCIe resets and the coalescing timeout of the host interface (O6). -/

namespace Sys2Proof.Proofs

open Sys2Proof Sys2Proof.Machine Sys2Proof.Safety Sys2Proof.Laws

variable {s t u : State}

theorem completeSeq_inflight {seq : Nat} {st : Status} {d : Nat} {data : List Byte} {buf : Option (List Byte)} :
    (completeSeq seq st d data buf s).hif.inflight = s.hif.inflight.filter fun g => g.seq != seq := by
  unfold completeSeq
  split
  next f found =>
    have hseq : f.seq = seq := by simpa [flight?] using List.find?_some found
    rw [complete_inflight, hseq]
  next none =>
    refine (List.filter_eq_self.2 fun g hg => ?_).symm
    simpa using List.find?_eq_none.1 none g hg

/-- The waits of the vehicle link and the uplinks are gone before the descriptors that they held end. -/
theorem endHostWaits_eq : endHostWaits s = (s.vlk.waits ++ s.upl.waits).foldl (fun s w => completeSeq w.1 .timeout 0 [] none s)
    { s with vlk := { s.vlk with waits := [] }, upl := { s.upl with waits := [] } } := rfl

theorem foldl_completeSeq_vlk {α : Type} (l : List (Nat × α)) :
    (l.foldl (fun s w => completeSeq w.1 .timeout 0 [] none s) s).vlk = s.vlk := by
  induction l generalizing s with
  | nil => rfl
  | cons w l ih => rw [List.foldl_cons, ih, completeSeq_vlk]

theorem foldl_completeSeq_upl {α : Type} (l : List (Nat × α)) :
    (l.foldl (fun s w => completeSeq w.1 .timeout 0 [] none s) s).upl = s.upl := by
  induction l generalizing s with
  | nil => rfl
  | cons w l ih => rw [List.foldl_cons, ih, completeSeq_upl]

/-- A descriptor that none of the waits held is the only kind left. -/
theorem foldl_completeSeq_inflight {α : Type} {l : List (Nat × α)} {f : Flight}
    (hf : f ∈ (l.foldl (fun s w => completeSeq w.1 .timeout 0 [] none s) s).hif.inflight) :
    f ∈ s.hif.inflight ∧ ∀ w ∈ l, f.seq ≠ w.1 := by
  induction l generalizing s with
  | nil => exact ⟨hf, fun _ h => absurd h List.not_mem_nil⟩
  | cons w l ih =>
    obtain ⟨inRest, others⟩ := ih hf
    rw [completeSeq_inflight, List.mem_filter] at inRest
    refine ⟨inRest.1, fun v hv => ?_⟩
    rcases List.mem_cons.1 hv with rfl | hv
    · exact bne_iff_ne.1 inRest.2
    · exact others v hv

theorem endHostWaits_calm (h : Calm s t) : Calm s (endHostWaits t) := by
  rw [endHostWaits_eq]
  exact .foldl (fun _ _ h => completeSeq_calm h) (h.frame rfl rfl rfl rfl)

theorem endHostWaits_vlk : (endHostWaits s).vlk.waits = [] := by rw [endHostWaits_eq, foldl_completeSeq_vlk]

theorem endHostWaits_upl : (endHostWaits s).upl.waits = [] := by rw [endHostWaits_eq, foldl_completeSeq_upl]

/-- Where nothing waits for the host, there is nothing to end. -/
theorem endHostWaits_none (hv : s.vlk.waits = []) (hu : s.upl.waits = []) : endHostWaits s = s := by
  have ev : { s.vlk with waits := [] } = s.vlk := by rw [← hv]
  have eu : { s.upl with waits := [] } = s.upl := by rw [← hu]
  rw [endHostWaits_eq, hv, hu, ev, eu]
  rfl

/-- What R68 does where RUN is cleared, before the waits end. -/
def stopRings (s : State) : State :=
  forgetCompletions { unwaitEvents s with hif := { (unwaitEvents s).hif with
    run := false
    sq := s.hif.sq.map fun q => { q with en := false }
    cq := s.hif.cq.map fun q => { q with en := false, reserved := 0, waiting := [], failed := false }
    evq := { (unwaitEvents s).hif.evq with en := false } } }

theorem clearRun_eq : clearRun s = endHostWaits (stopRings s) := rfl

theorem stopRings_hostOnly : HostOnly s (stopRings s) := rfl

theorem clearRun_calm : Calm (stopRings s) (clearRun s) := by
  rw [clearRun_eq]
  exact endHostWaits_calm (.refl rfl rfl)

/-- The rings of the state in which RUN has been cleared. -/
theorem stopRings_rings (n : Fin 16) : ((stopRings s).hif.sq[n.val]).en = false ∧ ((stopRings s).hif.cq[n.val]).en = false ∧
    ((stopRings s).hif.cq[n.val]).reserved = 0 := by
  simp [stopRings, forgetCompletions]

theorem Calm.sq (h : Calm s t) : t.hif.sq = s.hif.sq := by rw [h.hif]

theorem Calm.cq (h : Calm s t) : t.hif.cq = s.hif.cq := by rw [h.hif]

theorem Calm.evq (h : Calm s t) : t.hif.evq = s.hif.evq := by rw [h.hif]

theorem Calm.err (h : Calm s t) : t.hif.err = s.hif.err := by rw [h.hif]

theorem Calm.msix (h : Calm s t) : t.hif.msix = s.hif.msix := by rw [h.hif]

/-- What a reset of a level from 1 to 3 on the PCIe link does before its event is held, from the state with its cause set. -/
theorem raiseLow_pcie {level func ms : Nat} {held : Bool} :
    ∃ r : Rst, r.cause = s.rst.cause ||| BitVec.ofNat 16 (2 ^ Source.pcie.num) ∧
      ∃ u, (u = { s with rst := r } ∨ u = clearLevel level func { s with rst := r }) ∧
        raiseLow .pcie level func ms held s = holdEvent 0x0F06
          [BitVec.ofNat 8 Source.pcie.num, BitVec.ofNat 8 level, BitVec.ofNat 8 func] u.gen.gtc u := by
  unfold raiseLow
  extract_lets cls join h rst0 r s1 data
  refine ⟨r, rfl, s1, ?_, by rw [if_pos rfl]⟩
  unfold s1
  split
  · exact .inl rfl
  · exact .inr rfl

/-- Under a calm host interface unit it stays calm. -/
theorem raiseLow_calm {level func ms : Nat} {held : Bool} (run : s.hif.run = false) (waiting : s.hif.evWaiting = []) :
    ∃ r : Rst, r.cause = s.rst.cause ||| BitVec.ofNat 16 (2 ^ Source.pcie.num) ∧
      Calm { s with rst := r } (raiseLow .pcie level func ms held s) := by
  obtain ⟨r, cause, u, hu, eq⟩ := raiseLow_pcie (s := s) (level := level) (func := func) (ms := ms) (held := held)
  refine ⟨r, cause, ?_⟩
  rw [eq]
  have base : Calm { s with rst := r } { s with rst := r } := .refl run waiting
  refine holdEvent_calm ?_
  rcases hu with rfl | rfl
  · exact base
  · exact clearLevel_calm base

/-- The host interface unit as a PCIe reset leaves it, before the waits end (R67). -/
def clearedHif (s : State) : State :=
  forgetCompletions { s with hif :=
    { inflight := s.hif.inflight, evNext := s.hif.evNext, staging := (unwaitEvents s).hif.staging, heldEv := s.hif.heldEv,
      lost := s.hif.lost, lostFirst := s.hif.lostFirst, linkOk := s.hif.linkOk, bufOk := s.hif.bufOk } }

theorem resetHif_calm : Calm (clearedHif s) (resetHif s) := endHostWaits_calm (.refl rfl rfl)

/-- Settles O6. -/
theorem hostInterfaceControl : Obligations.HostInterfaceControl := by
  unfold Obligations.HostInterfaceControl
  refine ⟨fun s up => ⟨?setRun, ?clearRunNoWaits, ?clearRun⟩, fun s k released => ?pcie, fun s r irq entries due => ?coalesce⟩
  case setRun =>
    have path : EvPath { s with hif := { s.hif with run := true } } (setRun s) := drainEvents_evPath (.refl _)
    exact ⟨setRun s, exec_up up rfl, path.run, path.sq, path.inflight,
      HostOnly.trans (b := { s with hif := { s.hif with run := true } }) rfl (drainEvents_hostOnly _)⟩
  case clearRunNoWaits =>
    intro noVlk noUpl
    have eq : clearRun s = stopRings s := by
      rw [clearRun_eq]
      exact endHostWaits_none noVlk noUpl
    refine ⟨clearRun s, exec_up up rfl, ?_⟩
    rw [eq]
    exact ⟨rfl, rfl, stopRings_rings, rfl, stopRings_hostOnly⟩
  case clearRun =>
    have calm := clearRun_calm (s := s)
    refine ⟨clearRun s, exec_up up rfl, calm.run, by rw [calm.evq]; rfl, endHostWaits_vlk, endHostWaits_upl, fun n => ?_,
      fun w hw f hf => (foldl_completeSeq_inflight hf).2 w hw⟩
    rw [calm.sq, calm.cq]
    exact stopRings_rings n
  case pcie =>
    have reset := resetHif_calm (s := s)
    obtain ⟨r, cause, calm⟩ := raiseLow_calm (s := resetHif s) (level := levelOf .pcie s) (func := 0x10) (ms := 0)
      (held := decide (k ≠ .hotReset)) reset.run reset.waiting
    refine ⟨raiseLow .pcie (levelOf .pcie s) 0x10 0 (k ≠ .hotReset) (resetHif s), ?_, calm.run, ?_, ?_, fun n => ⟨?_, ?_⟩, ?_, ?_, ?_, ?_⟩
    · change execPcieReset k s = _
      rw [execPcieReset, released]
      rfl
    · rw [calm.err]
      exact reset.err
    · rw [calm.evq]
      exact congrArg OutQ.en reset.evq
    · rw [calm.sq]
      change (resetHif s).hif.sq[n.val] = _
      rw [reset.sq]
      exact Vector.getElem_replicate ..
    · rw [calm.cq]
      change (resetHif s).hif.cq[n.val] = _
      rw [reset.cq]
      exact Vector.getElem_replicate ..
    · rw [calm.msix]
      exact reset.msix
    · rw [calm.cause]
      simp [cause, Source.num]
    · rw [calm.gtc]
      exact reset.gtc
    · rw [calm.tail]
      exact reset.tail
  case coalesce =>
    have runs : exec (.msixCoalTimeout r) s = .next (coalesce r true s) := rfl
    simp [runs, coalesce, irq, entries, due]

end Sys2Proof.Proofs
end

section
set_option Elab.async false -- one theorem after another, which keeps Lean within its memory
/-! What the parts of a reset and of a power failure leave alone (R442 to R444, R437): the state of the resets, the tick, the overrun
registers, the journal's numbers and the SRAM of APD. `Side` says so of the state in which such a part begins and one on its way. -/

namespace Sys2Proof.Proofs

open Sys2Proof Sys2Proof.Machine Sys2Proof.Safety Sys2Proof.Laws

/-- Every entry of the journal is whole and closed. -/
def JournalClosed (s : State) : Prop := ∀ e ∈ s.jnl.entries, e.done.isSome = true ∧ e.whole = true

/-- The tick, the inputs of its windows and the overrun registers are as they were. -/
def SameTick (g g' : Gen) : Prop := g' = { g with ready := g'.ready, replace := g'.replace, lateEv := g'.lateEv, lateDone := g'.lateDone }

/-- The tick, the overrun registers and the state of the resets are as they were; the journal keeps its tail and what is closed. -/
structure Side (s t : State) : Prop where
  gen : SameTick s.gen t.gen
  rst : t.rst = s.rst
  tail : t.jnl.tail = s.jnl.tail
  closed : JournalClosed s → JournalClosed t
  app : t.mem.app = s.mem.app

variable {s0 s t : State}

theorem SameTick.trans {a b c : Gen} (h : SameTick a b) (e : SameTick b c) : SameTick a c := by
  unfold SameTick at *
  rw [e, h]

theorem Side.refl (s : State) : Side s s := ⟨rfl, rfl, rfl, id, rfl⟩

/-- A change elsewhere. -/
theorem Side.frame (h : Side s0 s) (gen : SameTick s.gen t.gen)
    (rst : t.rst = s.rst) (tail : t.jnl.tail = s.jnl.tail) (entries : t.jnl.entries = s.jnl.entries) (app : t.mem.app = s.mem.app) :
    Side s0 t := by
  refine ⟨h.gen.trans gen, rst.trans h.rst, tail.trans h.tail, fun c => ?_, app.trans h.app⟩
  unfold JournalClosed
  rw [entries]
  exact h.closed c

/-- The other units may change freely. -/
theorem Side.units {fuse hif adc nrg watch bill clk prn ppy tam ses saf vlk sct bkb upl nfc tag lcd lmp lsw key upd outbox lastRead free
    pending} (h : Side s0 s) :
    Side s0 ⟨s.gen, fuse, s.rst, hif, s.jnl, adc, nrg, watch, bill, clk, prn, ppy, tam, ses, saf, vlk, sct, bkb, upl, nfc, tag, lcd, lmp,
      lsw, key, upd, s.mem, outbox, lastRead, free, pending⟩ := ⟨h.gen, h.rst, h.tail, h.closed, h.app⟩

theorem Side.trans {u : State} (h : Side s t) (e : Side t u) : Side s u :=
  ⟨h.gen.trans e.gen, e.rst.trans h.rst, e.tail.trans h.tail, e.closed ∘ h.closed, e.app.trans h.app⟩

theorem Side.ite {c : Prop} [Decidable c] {a b : State} (ha : Side s0 a) (hb : Side s0 b) : Side s0 (if c then a else b) := by
  split
  · exact ha
  · exact hb

theorem Side.of_snd {α : Type} {p : α × State} {a : α} (e : p = (a, t)) (h : Side s0 p.2) : Side s0 t := by
  rw [e] at h
  exact h

theorem Side.ite_snd {α : Type} {c : Prop} [Decidable c] {a b : α × State} (ha : Side s0 a.2) (hb : Side s0 b.2) :
    Side s0 (if c then a else b).2 := by
  split
  · exact ha
  · exact hb

theorem Side.foldl {α : Type} {f : State → α → State} {l : List α} (hf : ∀ t a, Side s0 t → Side s0 (f t a)) (h : Side s0 s) :
    Side s0 (l.foldl f s) := by
  induction l generalizing s with
  | nil => exact h
  | cons a l ih => exact ih (hf s a h)

theorem Side.foldl_snd {α β : Type} {f : β × State → α → β × State} {l : List α} {b : β}
    (hf : ∀ b t a, Side s0 t → Side s0 (f (b, t) a).2) (h : Side s0 s) : Side s0 (l.foldl f (b, s)).2 := by
  induction l generalizing s b with
  | nil => exact h
  | cons a l ih => exact ih (b := (f (b, s) a).1) (hf b s a h)

theorem Side.of_hostOnly (e : HostOnly s t) (h : Side s0 s) : Side s0 t := by
  unfold HostOnly at e
  rw [e]
  exact h.frame rfl rfl rfl rfl rfl

theorem forFin_side {k : Nat} {f : Fin k → State → State} (hf : ∀ i t, Side s0 t → Side s0 (f i t)) (h : Side s0 s) :
    Side s0 (forFin k f s) := by
  unfold forFin
  exact .foldl (fun t i ht => hf i t ht) h

theorem post_side {code target data} (h : Side s0 s) : Side s0 (post code target data s) := .of_hostOnly (post_hostOnly _ _ _ _) h

/-- An event that is held waits in the host interface unit (R473). -/
theorem holdEvent_side {code data gtc} (h : Side s0 s) : Side s0 (holdEvent code data gtc s) := h.frame rfl rfl rfl rfl rfl

theorem closeEntry_closed {seq result : Nat} (h : JournalClosed s) : JournalClosed (closeEntry seq result s) := by
  intro e he
  obtain ⟨e0, he0, rfl⟩ := List.mem_map.1 he
  split
  · exact ⟨rfl, (h e0 he0).2⟩
  · exact h e0 he0

theorem complete_side {f st detail data buf} (h : Side s0 s) : Side s0 (complete f st detail data buf s) := by
  refine h.trans ⟨?_, complete_rst .., ?_, fun c => ?_, ?_⟩
  · rw [complete_gen]
    rfl
  · rw [complete_jnl]
    rfl
  · unfold JournalClosed
    rw [complete_jnl]
    exact closeEntry_closed c
  · rw [complete_mem]

theorem holdLate_side {code target data} (h : Side s0 s) : Side s0 (holdLate code target data s) :=
  h.frame rfl rfl rfl rfl rfl

theorem postSaf_side {code target data} (h : Side s0 s) : Side s0 (postSaf code target data s) := by
  unfold postSaf
  exact .ite (post_side h) (holdLate_side h)

theorem postMail_side {code target data} (h : Side s0 s) : Side s0 (postMail code target data s) := by
  unfold postMail
  exact holdLate_side h

theorem postLate_side {code target data} (h : Side s0 s) : Side s0 (postLate code target data s) := by
  unfold postLate
  exact .ite (holdLate_side h) (post_side h)

theorem holdDone_side {seq st data} (h : Side s0 s) : Side s0 (holdDone seq st data s) :=
  h.frame rfl rfl rfl rfl rfl

theorem completeSt_side {f st} (h : Side s0 s) : Side s0 (completeSt f st s) := by
  unfold completeSt
  exact complete_side h

theorem completeSeq_side {seq st detail data buf} (h : Side s0 s) : Side s0 (completeSeq seq st detail data buf s) := by
  unfold completeSeq
  split
  · exact complete_side h
  · exact h

theorem requestLong_side {kind steps req slots} (h : Side s0 s) : Side s0 (requestLong kind steps req slots s) := by
  unfold requestLong
  exact .units h

theorem dropReq_side {hit} (h : Side s0 s) : Side s0 (dropReq hit s) := by
  unfold dropReq
  exact .units h

theorem dropLong_side {seq} (h : Side s0 s) : Side s0 (dropLong seq s) := by
  unfold dropLong
  exact dropReq_side h

theorem abortFlight_side {f} (h : Side s0 s) : Side s0 (abortFlight f s) := by
  unfold abortFlight
  exact completeSt_side (dropLong_side h)

theorem abortClasses_side {hit} (h : Side s0 s) : Side s0 (abortClasses hit s) := by
  unfold abortClasses
  exact .foldl (fun _ _ h1 => abortFlight_side h1) h

theorem readyEvent_side {bit v} (h : Side s0 s) : Side s0 (readyEvent bit v s) := by
  unfold readyEvent
  exact .ite (post_side h) h

theorem setReady_side {bit v} (h : Side s0 s) : Side s0 (setReady bit v s) := by
  unfold setReady
  exact .ite h (readyEvent_side (h.frame rfl rfl rfl rfl rfl))

theorem loseReady_side {bits} (h : Side s0 s) : Side s0 (loseReady bits s) := by
  unfold loseReady
  exact abortClasses_side (.foldl (fun _ _ h1 => setReady_side h1) h)

theorem setReplace_side {cause} (h : Side s0 s) : Side s0 (setReplace cause s) := by
  unfold setReplace
  exact .ite h (post_side (h.frame rfl rfl rfl rfl rfl))

theorem armWatch_side (h : Side s0 s) : Side s0 (armWatch s) := by
  unfold armWatch
  exact .units h

theorem copyWatchLog_side (h : Side s0 s) : Side s0 (copyWatchLog s) := by
  unfold copyWatchLog
  exact .foldl (fun _ _ h1 => post_side h1) (.ite (post_side (.units h)) (.units h))

theorem modBill_side {n f} (h : Side s0 s) : Side s0 (modBill n f s) := by
  unfold modBill
  exact .units h

theorem setCounters_side {n c} (h : Side s0 s) : Side s0 (setCounters n c s) := by
  unfold setCounters
  exact .units h

theorem freezeBill_side {n} (h : Side s0 s) : Side s0 (freezeBill n s) := by
  unfold freezeBill
  exact post_side (setReplace_side (.units (setCounters_side h)))

theorem restoreQuarantine_side {n} (h : Side s0 s) : Side s0 (restoreQuarantine n s) := by
  unfold restoreQuarantine
  extract_lets +onlyGivenNames b1
  split
  split
  exact .units (setCounters_side h)

theorem reconcileBill_side {n} (h : Side s0 s) : Side s0 (reconcileBill n s) := by
  unfold reconcileBill
  extract_lets b1
  split
  · exact restoreQuarantine_side h
  · split
    · exact freezeBill_side h
    · exact .ite (post_side (.units (setCounters_side h))) (.units (setCounters_side h))

theorem restoreIntervals_side (h : Side s0 s) : Side s0 (restoreIntervals s) := by
  unfold restoreIntervals
  extract_lets +onlyGivenNames live1
  clear_value live1
  split
  · exact h
  · exact .units h

theorem openPart_side {flags n} (h : Side s0 s) : Side s0 (openPart flags n s) := by
  unfold openPart
  exact modBill_side h

theorem openRetro_side {flags n} (h : Side s0 s) : Side s0 (openRetro flags n s) := by
  unfold openRetro
  exact modBill_side h

theorem closePart_side {flags closesIvl n} (h : Side s0 s) : Side s0 (closePart flags closesIvl n s) := by
  unfold closePart
  extract_lets b1
  split
  · exact h
  · exact post_side (modBill_side h)

theorem everyOutlet_side {f : Outlet8 → State → State} (hf : ∀ a0 t, Side s0 t → Side s0 (f a0 t)) (h : Side s0 s) : Side s0 (everyOutlet f s) := by
  unfold everyOutlet
  exact forFin_side (fun _ _ h1 => hf _ _ h1) h

theorem intervalBoundary_side (h : Side s0 s) : Side s0 (intervalBoundary s) := by
  unfold intervalBoundary
  exact .ite (everyOutlet_side (fun _ _ h1 => openPart_side h1) (.units (everyOutlet_side (fun _ _ h2 => closePart_side h2) (.units h))))
      h

theorem evalRate_side {cause} (h : Side s0 s) : Side s0 (evalRate cause s) := by
  unfold evalRate
  exact .ite (everyOutlet_side (fun _ _ h1 => .ite h1 (modBill_side h1)) (.units h)) (post_side (everyOutlet_side (fun _ _ h2 => .ite h2
      (modBill_side h2)) (.units h)))

theorem minuteTariff_side (h : Side s0 s) : Side s0 (minuteTariff s) := by
  unfold minuteTariff
  split
  · exact h
  · split
    · exact .ite (evalRate_side (.units h)) (evalRate_side h)
    · exact evalRate_side h

theorem postClock_side {cause delta} (h : Side s0 s) : Side s0 (postClock cause delta s) := by
  unfold postClock
  exact post_side h

theorem closeRetro_side {flags} (h : Side s0 s) : Side s0 (closeRetro flags s) := by
  unfold closeRetro
  exact postClock_side (.units (everyOutlet_side (fun _ _ h1 => closePart_side h1) h))

theorem closeEmpty_side {n} (h : Side s0 s) : Side s0 (closeEmpty n s) := by
  unfold closeEmpty
  exact closePart_side (openPart_side h)

theorem openAfterJump_side (h : Side s0 s) : Side s0 (openAfterJump s) := by
  unfold openAfterJump
  exact everyOutlet_side (fun _ _ h1 => openPart_side h1) (.units h)

theorem moveClock_side {delta} (h : Side s0 s) : Side s0 (moveClock delta s) := by
  unfold moveClock
  extract_lets +onlyGivenNames new1 start2 stop3 sec4 sync5 move6 set7 s8
  have h8 : Side s0 s8 := postClock_side h
  split
  · exact .ite (.units (.units h8)) (evalRate_side (.ite (everyOutlet_side (fun _ _ h16 => openPart_side h16) (.units (.units
      (closeRetro_side h8)))) (openAfterJump_side (.units (everyOutlet_side (fun _ _ h17 => closeEmpty_side h17) (.units (closeRetro_side
      h8)))))))
  · split
    · exact postClock_side (everyOutlet_side (fun _ _ h23 => openRetro_side h23) (.units (.units (.units (everyOutlet_side (fun _ _ h24
        => closePart_side h24) h8)))))
    · split
      · exact evalRate_side (everyOutlet_side (fun _ _ h28 => openPart_side h28) (.units (.units (everyOutlet_side (fun _ _ h29 =>
          closePart_side h29) h8))))
      · exact evalRate_side (openAfterJump_side (.units (.units (everyOutlet_side (fun _ _ h30 => closePart_side h30) h8))))

theorem clockStep_side {p} (h : Side s0 s) : Side s0 (clockStep p s) := by
  unfold clockStep
  exact .foldl (fun _ _ h1 => holdDone_side h1) (moveClock_side h)

theorem postPower_side {up pseq} (h : Side s0 s) : Side s0 (postPower up pseq s) := by
  unfold postPower
  exact post_side h

theorem powerDownEntry_side (h : Side s0 s) : Side s0 (powerDownEntry s) := by
  unfold powerDownEntry
  exact postPower_side (.units h)

theorem closeAtStart_side {n} (h : Side s0 s) : Side s0 (closeAtStart n s) := by
  unfold closeAtStart
  split
  · exact h
  · exact closePart_side h

theorem closeRetroAtStart_side (h : Side s0 s) : Side s0 (closeRetroAtStart s) := by
  unfold closeRetroAtStart
  exact .ite (everyOutlet_side (fun _ _ h1 => closePart_side (openPart_side h1)) (closeRetro_side h)) (closeRetro_side h)

theorem openHere_side {flags} (h : Side s0 s) : Side s0 (openHere flags s) := by
  unfold openHere
  exact everyOutlet_side (fun _ _ h1 => openPart_side h1) (.units h)

theorem reopenParts_side {entry : State → State} {flags} (hentry : ∀ t, Side s0 t → Side s0 (entry t)) (h : Side s0 s) : Side s0 (reopenParts entry flags s) := by
  unfold reopenParts
  extract_lets +onlyGivenNames held4 before5
  split
  · exact hentry _ h
  · extract_lets +onlyGivenNames s12
    have h12 : Side s0 s12 := hentry _ (.ite (closeRetroAtStart_side h) (everyOutlet_side (fun _ _ h13 => closeAtStart_side h13) h))
    exact .ite (postClock_side (everyOutlet_side (fun _ _ h14 => openRetro_side h14) (.units h12))) (openHere_side (.units h12))

theorem powerFailRecord_side (h : Side s0 s) : Side s0 (powerFailRecord s) := by
  unfold powerFailRecord
  split
  · exact reopenParts_side (fun _ h5 => powerDownEntry_side h5) h
  · exact .ite (powerDownEntry_side (.ite h (everyOutlet_side (fun _ _ h6 => closePart_side h6) h))) (everyOutlet_side (fun _ _ h7 =>
      openPart_side h7) (powerDownEntry_side (.ite h (everyOutlet_side (fun _ _ h8 => closePart_side h8) h))))

theorem modUpl_side {f} (h : Side s0 s) : Side s0 (modUpl f s) := by
  unfold modUpl
  exact .units h

theorem postPath_side {cause b cond} (h : Side s0 s) : Side s0 (postPath cause b cond s) := by
  unfold postPath
  exact postMail_side h

theorem setPathOk_side {b ok} (h : Side s0 s) : Side s0 (setPathOk b ok s) := by
  unfold setPathOk
  exact modUpl_side h

theorem startHinge_side {toB cond} (h : Side s0 s) : Side s0 (startHinge toB cond s) := by
  unfold startHinge
  exact modUpl_side h

theorem endDrill_side {d detail} (h : Side s0 s) : Side s0 (endDrill d detail s) := by
  unfold endDrill
  exact completeSeq_side (modUpl_side h)

theorem drillDead_side {d cond} (h : Side s0 s) : Side s0 (drillDead d cond s) := by
  unfold drillDead
  exact startHinge_side (modUpl_side (postPath_side (setReplace_side (setPathOk_side h))))

theorem hingeAway_side {b cond} (h : Side s0 s) : Side s0 (hingeAway b cond s) := by
  unfold hingeAway
  split
  · exact .ite (startHinge_side (endDrill_side h)) (.ite (drillDead_side h) (startHinge_side h))
  · exact startHinge_side h

theorem pathFail_side {b cond} (h : Side s0 s) : Side s0 (pathFail b cond s) := by
  unfold pathFail
  exact .ite (setPathOk_side h) (.ite (postPath_side (setPathOk_side h)) (.ite (hingeAway_side (postPath_side (setPathOk_side h)))
      (setPathOk_side h)))

theorem losePathB_side (h : Side s0 s) : Side s0 (losePathB s) := by
  unfold losePathB
  exact .ite (pathFail_side h) h

theorem clearFn_side {cls} (h : Side s0 s) : Side s0 (clearFn cls s) := by
  unfold clearFn
  split
  · exact dropReq_side (.units h)
  · exact .units h
  · exact .units h
  · exact .units h
  · exact .units h
  · exact .units h
  · exact .units h
  · exact h

theorem relatePrn_side (h : Side s0 s) : Side s0 (relatePrn s) := by
  unfold relatePrn
  exact .units h

theorem modAcc_side {n f} (h : Side s0 s) : Side s0 (modAcc n f s) := by
  unfold modAcc
  exact .units h

theorem postPpy_side {n cause} (h : Side s0 s) : Side s0 (postPpy n cause s) := by
  unfold postPpy
  exact postLate_side h

theorem evalFriendly_side {n} (h : Side s0 s) : Side s0 (evalFriendly n s) := by
  unfold evalFriendly
  exact .ite h (postPpy_side (modAcc_side h))

theorem evalEmergency_side {n} (h : Side s0 s) : Side s0 (evalEmergency n s) := by
  unfold evalEmergency
  exact .ite (postPpy_side (modAcc_side (.ite (postPpy_side (.ite h (modAcc_side h))) (.ite h (modAcc_side h))))) (.ite (postPpy_side
      (.ite h (modAcc_side h))) (.ite h (modAcc_side h)))

theorem evalCredit_side {n} (h : Side s0 s) : Side s0 (evalCredit n s) := by
  unfold evalCredit
  exact .ite h (.ite (.ite (.units (postPpy_side (modAcc_side h))) (postPpy_side (modAcc_side h))) (.ite (postPpy_side (modAcc_side h))
      (modAcc_side h)))

theorem evalAccount_side {n} (h : Side s0 s) : Side s0 (evalAccount n s) := by
  unfold evalAccount
  exact evalCredit_side (evalEmergency_side h)

theorem minuteEdge_side (h : Side s0 s) : Side s0 (minuteEdge s) := by
  unfold minuteEdge
  exact .ite (forFin_side (fun _ _ h1 => evalAccount_side (evalFriendly_side h1)) (minuteTariff_side (.units (intervalBoundary_side h))))
      (intervalBoundary_side h)

theorem stepNow_side (h : Side s0 s) : Side s0 (stepNow s) := by
  unfold stepNow
  split
  · exact .ite (forFin_side (fun _ _ h1 => evalAccount_side (evalFriendly_side h1)) (clockStep_side (minuteEdge_side h))) h
  · exact h

theorem reconcileAccount_side {n} (h : Side s0 s) : Side s0 (reconcileAccount n s) := by
  unfold reconcileAccount
  extract_lets +onlyGivenNames p1 sums2 put3
  split
  · exact .units h
  · exact postPpy_side (.units h)

theorem modOut_side {n f} (h : Side s0 s) : Side s0 (modOut n f s) := by
  unfold modOut
  exact .units h

theorem markRecord_side {n tick} (h : Side s0 s) : Side s0 (markRecord n tick s) := by
  unfold markRecord
  split
  · exact modOut_side (.units h)
  · exact h

theorem closeAtReset_side {n} (h : Side s0 s) : Side s0 (closeAtReset n s) := by
  unfold closeAtReset
  exact modOut_side (markRecord_side h)

theorem modTok_side {f} (h : Side s0 s) : Side s0 (modTok f s) := by
  unfold modTok
  exact .units h

theorem persistTokens_side (h : Side s0 s) : Side s0 (persistTokens s) := by
  unfold persistTokens
  exact .units h

theorem putTok_side {f} (h : Side s0 s) : Side s0 (putTok f s) := by
  unfold putTok
  exact persistTokens_side (modTok_side h)

theorem postSctIntegrity_side {k} (h : Side s0 s) : Side s0 (postSctIntegrity k s) := by
  unfold postSctIntegrity
  exact postMail_side h

theorem reconcileTokens_side (h : Side s0 s) : Side s0 (reconcileTokens s) := by
  unfold reconcileTokens
  split
  · exact .units h
  · exact postSctIntegrity_side (.units h)

theorem payOwed_side {p} (h : Side s0 s) : Side s0 (payOwed p s) := by
  unfold payOwed
  exact .ite h (.ite (modTok_side (modTok_side h)) (modTok_side h))

theorem discardTokens_side (h : Side s0 s) : Side s0 (discardTokens s) := by
  unfold discardTokens
  exact putTok_side (.units h)

theorem changeMode_side (h : Side s0 s) : Side s0 (changeMode s) := by
  unfold changeMode
  exact .ite (discardTokens_side h) (putTok_side (discardTokens_side h))

theorem writeSctLocal_side {p v} (h : Side s0 s) : Side s0 (writeSctLocal p v s) := by
  unfold writeSctLocal
  exact .ite (.units h) (.ite (putTok_side (.units h)) (persistTokens_side (payOwed_side (modTok_side (.units h)))))

theorem settleSct_side {mode loc} (h : Side s0 s) : Side s0 (settleSct mode loc s) := by
  unfold settleSct
  exact .ite (changeMode_side (.units h)) (forFin_side (fun _ _ h1 => writeSctLocal_side h1) h)

theorem pathBack_side {b} (h : Side s0 s) : Side s0 (pathBack b s) := by
  unfold pathBack
  exact .ite h (.ite (postPath_side (setPathOk_side h)) (setPathOk_side h))

theorem modBkb_side {f} (h : Side s0 s) : Side s0 (modBkb f s) := by
  unfold modBkb
  exact .units h

theorem postRole_side (h : Side s0 s) : Side s0 (postRole s) := by
  unfold postRole
  exact postMail_side h

theorem checkPathB_side {cond was} (h : Side s0 s) : Side s0 (checkPathB cond was s) := by
  unfold checkPathB
  exact .ite (.ite h (pathBack_side h)) (.ite (pathFail_side h) h)

theorem setRole_side {role coord slot join} (h : Side s0 s) : Side s0 (setRole role coord slot join s) := by
  unfold setRole
  exact postRole_side (checkPathB_side (.ite (setReady_side (modUpl_side (modBkb_side h))) (loseReady_side (modBkb_side h))))

theorem rejoinDomain_side (h : Side s0 s) : Side s0 (rejoinDomain s) := by
  unfold rejoinDomain
  exact .ite (modBkb_side h) (setRole_side h)

theorem leaveDomain_side (h : Side s0 s) : Side s0 (leaveDomain s) := by
  unfold leaveDomain
  exact modBkb_side (rejoinDomain_side h)

theorem postKey_side {cause slot err} (h : Side s0 s) : Side s0 (postKey cause slot err s) := by
  unfold postKey
  exact post_side h

theorem checkKey_side {k} (h : Side s0 s) : Side s0 (checkKey k s) := by
  unfold checkKey
  extract_lets +onlyGivenNames e1
  split
  · exact h
  · split
    · exact .units h
    · exact .ite (.units h) (postKey_side (.units h))

theorem rebuildRoot_side {cells} (h : Side s0 s) : Side s0 (rebuildRoot cells s) := by
  unfold rebuildRoot
  split
  · exact postKey_side (setReplace_side (.units h))
  · exact postKey_side (.ite (setReplace_side (.units h)) (.units h))

theorem startKeys_side {cells} (h : Side s0 s) : Side s0 (startKeys cells s) := by
  unfold startKeys
  exact forFin_side (fun _ _ h1 => checkKey_side h1) (.ite (.units (rebuildRoot_side h)) (rebuildRoot_side h))

theorem queueBoot_side (h : Side s0 s) : Side s0 (queueBoot s) := by
  unfold queueBoot
  split
  · exact .ite h (requestLong_side h)
  · exact h

theorem modLcd_side {f} (h : Side s0 s) : Side s0 (modLcd f s) := by
  unfold modLcd
  exact .units h

theorem beginUpdate_side {image why fullAsked flight t5} (h : Side s0 s) : Side s0 (beginUpdate image why fullAsked flight t5 s) := by
  unfold beginUpdate
  exact modLcd_side h

theorem completeShown_side {flight} (h : Side s0 s) : Side s0 (completeShown flight s) := by
  unfold completeShown
  split
  · exact completeSeq_side h
  · exact h

theorem startPending_side (h : Side s0 s) : Side s0 (startPending s) := by
  unfold startPending
  split
  · exact .ite (.ite (completeShown_side (modLcd_side h)) (beginUpdate_side (modLcd_side h))) h
  · exact h

theorem beginAllOff_side {t1} (h : Side s0 s) : Side s0 (beginAllOff t1 s) := by
  unfold beginAllOff
  exact beginUpdate_side h

theorem lcdResume_side (h : Side s0 s) : Side s0 (lcdResume s) := by
  unfold lcdResume
  split
  · exact h
  · split
    · exact beginAllOff_side h
    · split
      · exact beginUpdate_side (modLcd_side h)
      · exact startPending_side h

theorem startDischarge_side (h : Side s0 s) : Side s0 (startDischarge s) := by
  unfold startDischarge
  exact modLcd_side h

theorem lcdStop_side (h : Side s0 s) : Side s0 (lcdStop s) := by
  unfold lcdStop
  exact .ite h (.ite (modLcd_side h) (startDischarge_side h))

theorem postBlock_side {cause check edition} (h : Side s0 s) : Side s0 (postBlock cause check edition s) := by
  unfold postBlock
  exact postSaf_side h

theorem checkBlock_side (h : Side s0 s) : Side s0 (checkBlock s) := by
  unfold checkBlock
  split
  · exact h
  · extract_lets +onlyGivenNames good1
    split
    · exact .units h
    · exact .ite h (postBlock_side (.units h))

theorem modUpd_side {f} (h : Side s0 s) : Side s0 (modUpd f s) := by
  unfold modUpd
  exact .units h

theorem putSettings_side {t1} (h : Side s0 s) : Side s0 (putSettings t1 s) := by
  unfold putSettings
  split
  split
  split
  split
  split
  split
  split
  split
  exact .units h

theorem endTrial_side (h : Side s0 s) : Side s0 (endTrial s) := by
  unfold endTrial
  split
  · exact modUpd_side (settleSct_side (putSettings_side h))
  · exact h

theorem noteFall_side {why id} (h : Side s0 s) : Side s0 (noteFall why id s) := by
  unfold noteFall
  exact modUpd_side h

theorem startCheck_side {c} (h : Side s0 s) : Side s0 (startCheck c s) := by
  unfold startCheck
  exact queueBoot_side (modUpd_side (dropReq_side h))

theorem bootRelease_side (h : Side s0 s) : Side s0 (bootRelease s) := by
  unfold bootRelease
  exact .ite (startCheck_side (modUpd_side h)) (startCheck_side (.ite (noteFall_side (endTrial_side h)) h))

theorem restoreBtd_side (h : Side s0 s) : Side s0 (restoreBtd s) := by
  unfold restoreBtd
  exact .units h

theorem startBill_side {n} (h : Side s0 s) : Side s0 (startBill n s) := by
  unfold startBill
  exact .units (reconcileBill_side h)

end Sys2Proof.Proofs
end

section
set_option Elab.async false -- one theorem after another, which keeps Lean within its memory
/-! What leaves GEN_READY alone (R27). -/

namespace Sys2Proof.Proofs

open Sys2Proof Sys2Proof.Machine Sys2Proof.Safety Sys2Proof.Laws

/-- GEN_READY is as it was. -/
def SameReady (s t : State) : Prop := t.gen.ready = s.gen.ready

variable {s0 s t : State}

theorem SameReady.frame (h : SameReady s0 s) (e : SameReady s t) : SameReady s0 t := e.trans h

/-- The units but GEN may change freely. -/
theorem SameReady.units {fuse rst hif jnl adc nrg watch bill clk prn ppy tam ses saf vlk sct bkb upl nfc tag lcd lmp lsw key upd mem outbox
    lastRead free pending} (h : SameReady s0 s) :
    SameReady s0 ⟨s.gen, fuse, rst, hif, jnl, adc, nrg, watch, bill, clk, prn, ppy, tam, ses, saf, vlk, sct, bkb, upl, nfc, tag, lcd, lmp,
      lsw, key, upd, mem, outbox, lastRead, free, pending⟩ := h

theorem SameReady.ite {c : Prop} [Decidable c] {a b : State} (ha : SameReady s0 a) (hb : SameReady s0 b) :
    SameReady s0 (if c then a else b) := by
  split
  · exact ha
  · exact hb

theorem SameReady.of_snd {α : Type} {p : α × State} {a : α} (e : p = (a, t)) (h : SameReady s0 p.2) : SameReady s0 t := by
  rw [e] at h
  exact h

theorem SameReady.ite_snd {α : Type} {c : Prop} [Decidable c] {a b : α × State} (ha : SameReady s0 a.2) (hb : SameReady s0 b.2) :
    SameReady s0 (if c then a else b).2 := by
  split
  · exact ha
  · exact hb

theorem SameReady.foldl {α : Type} {f : State → α → State} {l : List α} (hf : ∀ t a, SameReady s0 t → SameReady s0 (f t a))
    (h : SameReady s0 s) : SameReady s0 (l.foldl f s) := by
  induction l generalizing s with
  | nil => exact h
  | cons a l ih => exact ih (hf s a h)

theorem SameReady.foldl_snd {α β : Type} {f : β × State → α → β × State} {l : List α} {b : β}
    (hf : ∀ b t a, SameReady s0 t → SameReady s0 (f (b, t) a).2) (h : SameReady s0 s) : SameReady s0 (l.foldl f (b, s)).2 := by
  induction l generalizing s b with
  | nil => exact h
  | cons a l ih => exact ih (b := (f (b, s) a).1) (hf b s a h)

theorem forFin_sameReady {k : Nat} {f : Fin k → State → State} (hf : ∀ i t, SameReady s0 t → SameReady s0 (f i t)) (h : SameReady s0 s) :
    SameReady s0 (forFin k f s) := by
  unfold forFin
  exact .foldl (fun t i ht => hf i t ht) h

theorem post_sameReady {code target data} (h : SameReady s0 s) : SameReady s0 (post code target data s) :=
  (congrArg Gen.ready (post_gen ..)).trans h

theorem complete_sameReady {f st detail data buf} (h : SameReady s0 s) : SameReady s0 (complete f st detail data buf s) :=
  (congrArg Gen.ready (complete_gen ..)).trans h

theorem freeBytes_sameReady {n} (h : SameReady s0 s) : SameReady s0 (freeBytes n s).2 := by
  unfold freeBytes
  exact .units h

theorem drawBool_sameReady (h : SameReady s0 s) : SameReady s0 (drawBool s).2 := by
  unfold drawBool
  exact .units h

theorem holdLate_sameReady {code target data} (h : SameReady s0 s) : SameReady s0 (holdLate code target data s) := h

theorem postSes_sameReady {code target data} (h : SameReady s0 s) : SameReady s0 (postSes code target data s) := by
  unfold postSes
  exact holdLate_sameReady h

theorem postMail_sameReady {code target data} (h : SameReady s0 s) : SameReady s0 (postMail code target data s) := by
  unfold postMail
  exact holdLate_sameReady h

theorem postLate_sameReady {code target data} (h : SameReady s0 s) : SameReady s0 (postLate code target data s) := by
  unfold postLate
  exact .ite (holdLate_sameReady h) (post_sameReady h)

theorem completeSt_sameReady {f st} (h : SameReady s0 s) : SameReady s0 (completeSt f st s) := by
  unfold completeSt
  exact complete_sameReady h

theorem completeSeq_sameReady {seq st detail data buf} (h : SameReady s0 s) : SameReady s0 (completeSeq seq st detail data buf s) := by
  unfold completeSeq
  split
  · exact complete_sameReady h
  · exact h

theorem requestLong_sameReady {kind steps req slots} (h : SameReady s0 s) : SameReady s0 (requestLong kind steps req slots s) := by
  unfold requestLong
  exact .units h

theorem dropReq_sameReady {hit} (h : SameReady s0 s) : SameReady s0 (dropReq hit s) := by
  unfold dropReq
  exact .units h

theorem dropLong_sameReady {seq} (h : SameReady s0 s) : SameReady s0 (dropLong seq s) := by
  unfold dropLong
  exact dropReq_sameReady h

theorem abortFlight_sameReady {f} (h : SameReady s0 s) : SameReady s0 (abortFlight f s) := by
  unfold abortFlight
  exact completeSt_sameReady (dropLong_sameReady h)

theorem abortClasses_sameReady {hit} (h : SameReady s0 s) : SameReady s0 (abortClasses hit s) := by
  unfold abortClasses
  exact .foldl (fun _ _ h1 => abortFlight_sameReady h1) h

theorem readyEvent_sameReady {bit v} (h : SameReady s0 s) : SameReady s0 (readyEvent bit v s) := by
  unfold readyEvent
  exact .ite (post_sameReady h) h

theorem setReplace_sameReady {cause} (h : SameReady s0 s) : SameReady s0 (setReplace cause s) := by
  unfold setReplace
  exact .ite h (post_sameReady (.frame h rfl))

theorem listReload_sameReady (h : SameReady s0 s) : SameReady s0 (listReload s) := by
  unfold listReload
  exact .units h

theorem modUpl_sameReady {f} (h : SameReady s0 s) : SameReady s0 (modUpl f s) := by
  unfold modUpl
  exact .units h

theorem postPath_sameReady {cause b cond} (h : SameReady s0 s) : SameReady s0 (postPath cause b cond s) := by
  unfold postPath
  exact postMail_sameReady h

theorem setPathOk_sameReady {b ok} (h : SameReady s0 s) : SameReady s0 (setPathOk b ok s) := by
  unfold setPathOk
  exact modUpl_sameReady h

theorem startHinge_sameReady {toB cond} (h : SameReady s0 s) : SameReady s0 (startHinge toB cond s) := by
  unfold startHinge
  exact modUpl_sameReady h

theorem endDrill_sameReady {d detail} (h : SameReady s0 s) : SameReady s0 (endDrill d detail s) := by
  unfold endDrill
  exact completeSeq_sameReady (modUpl_sameReady h)

theorem drillDead_sameReady {d cond} (h : SameReady s0 s) : SameReady s0 (drillDead d cond s) := by
  unfold drillDead
  exact startHinge_sameReady (modUpl_sameReady (postPath_sameReady (setReplace_sameReady (setPathOk_sameReady h))))

theorem hingeAway_sameReady {b cond} (h : SameReady s0 s) : SameReady s0 (hingeAway b cond s) := by
  unfold hingeAway
  split
  · exact .ite (startHinge_sameReady (endDrill_sameReady h)) (.ite (drillDead_sameReady h) (startHinge_sameReady h))
  · exact startHinge_sameReady h

theorem pathFail_sameReady {b cond} (h : SameReady s0 s) : SameReady s0 (pathFail b cond s) := by
  unfold pathFail
  exact .ite (setPathOk_sameReady h) (.ite (postPath_sameReady (setPathOk_sameReady h)) (.ite (hingeAway_sameReady (postPath_sameReady
      (setPathOk_sameReady h))) (setPathOk_sameReady h)))

theorem losePathB_sameReady (h : SameReady s0 s) : SameReady s0 (losePathB s) := by
  unfold losePathB
  exact .ite (pathFail_sameReady h) h

theorem clearFn_sameReady {cls} (h : SameReady s0 s) : SameReady s0 (clearFn cls s) := by
  unfold clearFn
  split
  · exact dropReq_sameReady (.units h)
  · exact .units h
  · exact .units h
  · exact .units h
  · exact .units h
  · exact .units h
  · exact .units h
  · exact h

theorem queuePrn_sameReady {k} (h : SameReady s0 s) : SameReady s0 (queuePrn k s) := by
  induction k generalizing s with
  | zero => exact h
  | succ k ih =>
    unfold queuePrn
    split
    · exact h
    · exact .ite (ih (requestLong_sameReady (.units h))) h

theorem copyTamper_sameReady {due} (h : SameReady s0 s) : SameReady s0 (copyTamper due s) := by
  unfold copyTamper
  extract_lets t1 new2
  clear_value new2
  split
  · exact h
  · exact .foldl (fun _ _ h3 => postLate_sameReady h3) (.ite (postLate_sameReady (.units h)) (.units h))

theorem modOut_sameReady {n f} (h : SameReady s0 s) : SameReady s0 (modOut n f s) := by
  unfold modOut
  exact .units h

theorem postLock_sameReady {n kind} (h : SameReady s0 s) : SameReady s0 (postLock n kind s) := by
  unfold postLock
  exact postSes_sameReady h

theorem unlockDone_sameReady {n} (h : SameReady s0 s) : SameReady s0 (unlockDone n s) := by
  unfold unlockDone
  split
  · exact completeSeq_sameReady (modOut_sameReady h)
  · exact h

theorem dropTls_sameReady {n} (h : SameReady s0 s) : SameReady s0 (dropTls n s) := by
  unfold dropTls
  exact .units (dropReq_sameReady h)

theorem endMatch_sameReady {n} (h : SameReady s0 s) : SameReady s0 (endMatch n s) := by
  unfold endMatch
  extract_lets l1 m2 s3 s4
  have h3 : SameReady s0 s3 := .ite (postMail_sameReady h) h
  have h4 : SameReady s0 s4 := .ite (postMail_sameReady h3) h3
  split
  rename_i s5 e5
  have h5 : SameReady s0 s5 := .of_snd e5 (.ite_snd (freeBytes_sameReady h4) h4)
  exact .units (dropTls_sameReady h5)

theorem markRecord_sameReady {n tick} (h : SameReady s0 s) : SameReady s0 (markRecord n tick s) := by
  unfold markRecord
  split
  · exact modOut_sameReady (.units h)
  · exact h

theorem openSession_sameReady {n} (h : SameReady s0 s) : SameReady s0 (openSession n s) := by
  unfold openSession
  exact .units (markRecord_sameReady h)

theorem postState_sameReady {n old no} (h : SameReady s0 s) : SameReady s0 (postState n old no s) := by
  unfold postState
  exact postSes_sameReady h

theorem weldedEntry_sameReady {n} (h : SameReady s0 s) : SameReady s0 (weldedEntry n s) := by
  unfold weldedEntry
  exact postSes_sameReady h

theorem endLockDrive_sameReady {n} (h : SameReady s0 s) : SameReady s0 (endLockDrive n s) := by
  unfold endLockDrive
  exact modOut_sameReady h

theorem unlockInIdle_sameReady {old n} (h : SameReady s0 s) : SameReady s0 (unlockInIdle old n s) := by
  unfold unlockInIdle
  exact .ite (modOut_sameReady h) h

theorem lockLost_sameReady {n} (h : SameReady s0 s) : SameReady s0 (lockLost n s) := by
  unfold lockLost
  exact postLock_sameReady (modOut_sameReady h)

theorem enter_sameReady {n new reason} (h : SameReady s0 s) : SameReady s0 (enter n new reason s) := by
  unfold enter
  extract_lets +onlyGivenNames old1 s2 no3 s4 s5 ends6 o7 s8 s9 s10 s11
  have h2 : SameReady s0 s2 := .ite (openSession_sameReady h) h
  have h4 : SameReady s0 s4 := modOut_sameReady h2
  have h5 : SameReady s0 s5 := postState_sameReady h4
  have h8 : SameReady s0 s8 := .ite (markRecord_sameReady h5) h5
  have h9 : SameReady s0 s9 := .ite (modOut_sameReady h8) h8
  have h10 : SameReady s0 s10 := .ite (endMatch_sameReady h9) h9
  extract_lets +onlyGivenNames s12
  have h12 : SameReady s0 s12 := modOut_sameReady h10
  extract_lets s13
  have h13 : SameReady s0 s13 := by
    unfold s13
    split
    · split
      · refine modOut_sameReady (.ite (endMatch_sameReady (.ite (modOut_sameReady (.ite (markRecord_sameReady (postState_sameReady
          (modOut_sameReady (.ite (openSession_sameReady h) h)))) (postState_sameReady (modOut_sameReady (.ite (openSession_sameReady h)
          h))))) (.ite (markRecord_sameReady (postState_sameReady (modOut_sameReady (.ite (openSession_sameReady h) h))))
          (postState_sameReady (modOut_sameReady (.ite (openSession_sameReady h) h)))))) (.ite (modOut_sameReady (.ite
          (markRecord_sameReady (postState_sameReady (modOut_sameReady (.ite (openSession_sameReady h) h)))) (postState_sameReady
          (modOut_sameReady (.ite (openSession_sameReady h) h))))) (.ite (markRecord_sameReady (postState_sameReady (modOut_sameReady
          (.ite (openSession_sameReady h) h)))) (postState_sameReady (modOut_sameReady (.ite (openSession_sameReady h) h))))))
      · refine .ite (endMatch_sameReady (.ite (modOut_sameReady (.ite (markRecord_sameReady (postState_sameReady (modOut_sameReady (.ite
          (openSession_sameReady h) h)))) (postState_sameReady (modOut_sameReady (.ite (openSession_sameReady h) h))))) (.ite
          (markRecord_sameReady (postState_sameReady (modOut_sameReady (.ite (openSession_sameReady h) h)))) (postState_sameReady
          (modOut_sameReady (.ite (openSession_sameReady h) h)))))) (.ite (modOut_sameReady (.ite (markRecord_sameReady
          (postState_sameReady (modOut_sameReady (.ite (openSession_sameReady h) h)))) (postState_sameReady (modOut_sameReady (.ite
          (openSession_sameReady h) h))))) (.ite (markRecord_sameReady (postState_sameReady (modOut_sameReady (.ite
          (openSession_sameReady h) h)))) (postState_sameReady (modOut_sameReady (.ite (openSession_sameReady h) h)))))
    · refine modOut_sameReady (.ite (endMatch_sameReady (.ite (modOut_sameReady (.ite (markRecord_sameReady (postState_sameReady
        (modOut_sameReady (.ite (openSession_sameReady h) h)))) (postState_sameReady (modOut_sameReady (.ite (openSession_sameReady h)
        h))))) (.ite (markRecord_sameReady (postState_sameReady (modOut_sameReady (.ite (openSession_sameReady h) h))))
        (postState_sameReady (modOut_sameReady (.ite (openSession_sameReady h) h)))))) (.ite (modOut_sameReady (.ite
        (markRecord_sameReady (postState_sameReady (modOut_sameReady (.ite (openSession_sameReady h) h)))) (postState_sameReady
        (modOut_sameReady (.ite (openSession_sameReady h) h))))) (.ite (markRecord_sameReady (postState_sameReady (modOut_sameReady (.ite
        (openSession_sameReady h) h)))) (postState_sameReady (modOut_sameReady (.ite (openSession_sameReady h) h))))))
    · refine modOut_sameReady (.ite (endMatch_sameReady (.ite (modOut_sameReady (.ite (markRecord_sameReady (postState_sameReady
        (modOut_sameReady (.ite (openSession_sameReady h) h)))) (postState_sameReady (modOut_sameReady (.ite (openSession_sameReady h)
        h))))) (.ite (markRecord_sameReady (postState_sameReady (modOut_sameReady (.ite (openSession_sameReady h) h))))
        (postState_sameReady (modOut_sameReady (.ite (openSession_sameReady h) h)))))) (.ite (modOut_sameReady (.ite
        (markRecord_sameReady (postState_sameReady (modOut_sameReady (.ite (openSession_sameReady h) h)))) (postState_sameReady
        (modOut_sameReady (.ite (openSession_sameReady h) h))))) (.ite (markRecord_sameReady (postState_sameReady (modOut_sameReady (.ite
        (openSession_sameReady h) h)))) (postState_sameReady (modOut_sameReady (.ite (openSession_sameReady h) h))))))
    · refine modOut_sameReady (.units (.ite (endMatch_sameReady (.ite (modOut_sameReady (.ite (markRecord_sameReady (postState_sameReady
        (modOut_sameReady (.ite (openSession_sameReady h) h)))) (postState_sameReady (modOut_sameReady (.ite (openSession_sameReady h)
        h))))) (.ite (markRecord_sameReady (postState_sameReady (modOut_sameReady (.ite (openSession_sameReady h) h))))
        (postState_sameReady (modOut_sameReady (.ite (openSession_sameReady h) h)))))) (.ite (modOut_sameReady (.ite
        (markRecord_sameReady (postState_sameReady (modOut_sameReady (.ite (openSession_sameReady h) h)))) (postState_sameReady
        (modOut_sameReady (.ite (openSession_sameReady h) h))))) (.ite (markRecord_sameReady (postState_sameReady (modOut_sameReady (.ite
        (openSession_sameReady h) h)))) (postState_sameReady (modOut_sameReady (.ite (openSession_sameReady h) h)))))))
    · refine unlockInIdle_sameReady (.ite (endMatch_sameReady (.ite (modOut_sameReady (.ite (markRecord_sameReady (postState_sameReady
        (modOut_sameReady (.ite (openSession_sameReady h) h)))) (postState_sameReady (modOut_sameReady (.ite (openSession_sameReady h)
        h))))) (.ite (markRecord_sameReady (postState_sameReady (modOut_sameReady (.ite (openSession_sameReady h) h))))
        (postState_sameReady (modOut_sameReady (.ite (openSession_sameReady h) h)))))) (.ite (modOut_sameReady (.ite
        (markRecord_sameReady (postState_sameReady (modOut_sameReady (.ite (openSession_sameReady h) h)))) (postState_sameReady
        (modOut_sameReady (.ite (openSession_sameReady h) h))))) (.ite (markRecord_sameReady (postState_sameReady (modOut_sameReady (.ite
        (openSession_sameReady h) h)))) (postState_sameReady (modOut_sameReady (.ite (openSession_sameReady h) h))))))
    · split
      · refine lockLost_sameReady (modOut_sameReady (.ite (endMatch_sameReady (.ite (modOut_sameReady (.ite (markRecord_sameReady
          (postState_sameReady (modOut_sameReady (.ite (openSession_sameReady h) h)))) (postState_sameReady (modOut_sameReady (.ite
          (openSession_sameReady h) h))))) (.ite (markRecord_sameReady (postState_sameReady (modOut_sameReady (.ite
          (openSession_sameReady h) h)))) (postState_sameReady (modOut_sameReady (.ite (openSession_sameReady h) h)))))) (.ite
          (modOut_sameReady (.ite (markRecord_sameReady (postState_sameReady (modOut_sameReady (.ite (openSession_sameReady h) h))))
          (postState_sameReady (modOut_sameReady (.ite (openSession_sameReady h) h))))) (.ite (markRecord_sameReady (postState_sameReady
          (modOut_sameReady (.ite (openSession_sameReady h) h)))) (postState_sameReady (modOut_sameReady (.ite (openSession_sameReady h)
          h)))))))
      · refine modOut_sameReady (.ite (endMatch_sameReady (.ite (modOut_sameReady (.ite (markRecord_sameReady (postState_sameReady
          (modOut_sameReady (.ite (openSession_sameReady h) h)))) (postState_sameReady (modOut_sameReady (.ite (openSession_sameReady h)
          h))))) (.ite (markRecord_sameReady (postState_sameReady (modOut_sameReady (.ite (openSession_sameReady h) h))))
          (postState_sameReady (modOut_sameReady (.ite (openSession_sameReady h) h)))))) (.ite (modOut_sameReady (.ite
          (markRecord_sameReady (postState_sameReady (modOut_sameReady (.ite (openSession_sameReady h) h)))) (postState_sameReady
          (modOut_sameReady (.ite (openSession_sameReady h) h))))) (.ite (markRecord_sameReady (postState_sameReady (modOut_sameReady
          (.ite (openSession_sameReady h) h)))) (postState_sameReady (modOut_sameReady (.ite (openSession_sameReady h) h))))))
    · refine modOut_sameReady (.ite (endMatch_sameReady (.ite (modOut_sameReady (.ite (markRecord_sameReady (postState_sameReady
        (modOut_sameReady (.ite (openSession_sameReady h) h)))) (postState_sameReady (modOut_sameReady (.ite (openSession_sameReady h)
        h))))) (.ite (markRecord_sameReady (postState_sameReady (modOut_sameReady (.ite (openSession_sameReady h) h))))
        (postState_sameReady (modOut_sameReady (.ite (openSession_sameReady h) h)))))) (.ite (modOut_sameReady (.ite
        (markRecord_sameReady (postState_sameReady (modOut_sameReady (.ite (openSession_sameReady h) h)))) (postState_sameReady
        (modOut_sameReady (.ite (openSession_sameReady h) h))))) (.ite (markRecord_sameReady (postState_sameReady (modOut_sameReady (.ite
        (openSession_sameReady h) h)))) (postState_sameReady (modOut_sameReady (.ite (openSession_sameReady h) h))))))
    · refine endLockDrive_sameReady (.ite (endMatch_sameReady (.ite (modOut_sameReady (.ite (markRecord_sameReady (postState_sameReady
        (modOut_sameReady (.ite (openSession_sameReady h) h)))) (postState_sameReady (modOut_sameReady (.ite (openSession_sameReady h)
        h))))) (.ite (markRecord_sameReady (postState_sameReady (modOut_sameReady (.ite (openSession_sameReady h) h))))
        (postState_sameReady (modOut_sameReady (.ite (openSession_sameReady h) h)))))) (.ite (modOut_sameReady (.ite
        (markRecord_sameReady (postState_sameReady (modOut_sameReady (.ite (openSession_sameReady h) h)))) (postState_sameReady
        (modOut_sameReady (.ite (openSession_sameReady h) h))))) (.ite (markRecord_sameReady (postState_sameReady (modOut_sameReady (.ite
        (openSession_sameReady h) h)))) (postState_sameReady (modOut_sameReady (.ite (openSession_sameReady h) h))))))
    · refine unlockDone_sameReady (endLockDrive_sameReady (.ite (endMatch_sameReady (.ite (modOut_sameReady (.ite (markRecord_sameReady
        (postState_sameReady (modOut_sameReady (.ite (openSession_sameReady h) h)))) (postState_sameReady (modOut_sameReady (.ite
        (openSession_sameReady h) h))))) (.ite (markRecord_sameReady (postState_sameReady (modOut_sameReady (.ite (openSession_sameReady
        h) h)))) (postState_sameReady (modOut_sameReady (.ite (openSession_sameReady h) h)))))) (.ite (modOut_sameReady (.ite
        (markRecord_sameReady (postState_sameReady (modOut_sameReady (.ite (openSession_sameReady h) h)))) (postState_sameReady
        (modOut_sameReady (.ite (openSession_sameReady h) h))))) (.ite (markRecord_sameReady (postState_sameReady (modOut_sameReady (.ite
        (openSession_sameReady h) h)))) (postState_sameReady (modOut_sameReady (.ite (openSession_sameReady h) h)))))))
    · refine weldedEntry_sameReady (markRecord_sameReady (endLockDrive_sameReady (.ite (endMatch_sameReady (.ite (modOut_sameReady (.ite
        (markRecord_sameReady (postState_sameReady (modOut_sameReady (.ite (openSession_sameReady h) h)))) (postState_sameReady
        (modOut_sameReady (.ite (openSession_sameReady h) h))))) (.ite (markRecord_sameReady (postState_sameReady (modOut_sameReady (.ite
        (openSession_sameReady h) h)))) (postState_sameReady (modOut_sameReady (.ite (openSession_sameReady h) h)))))) (.ite
        (modOut_sameReady (.ite (markRecord_sameReady (postState_sameReady (modOut_sameReady (.ite (openSession_sameReady h) h))))
        (postState_sameReady (modOut_sameReady (.ite (openSession_sameReady h) h))))) (.ite (markRecord_sameReady (postState_sameReady
        (modOut_sameReady (.ite (openSession_sameReady h) h)))) (postState_sameReady (modOut_sameReady (.ite (openSession_sameReady h)
        h))))))))
    · exact h10
  exact modOut_sameReady h13

theorem clearOut_sameReady {n} (h : SameReady s0 s) : SameReady s0 (clearOut n s) := by
  unfold clearOut
  exact modOut_sameReady h

theorem startSession_sameReady (h : SameReady s0 s) : SameReady s0 (startSession s) := by
  unfold startSession
  exact forFin_sameReady (fun _ _ h1 => enter_sameReady (clearOut_sameReady h1)) (.units h)

theorem modLink_sameReady {n f} (h : SameReady s0 s) : SameReady s0 (modLink n f s) := by
  unfold modLink
  exact .units h

theorem restoreLinks_sameReady (h : SameReady s0 s) : SameReady s0 (restoreLinks s) := by
  unfold restoreLinks
  exact forFin_sameReady (fun _ _ h1 => .ite h1 (modLink_sameReady h1)) h

theorem pathBack_sameReady {b} (h : SameReady s0 s) : SameReady s0 (pathBack b s) := by
  unfold pathBack
  exact .ite h (.ite (postPath_sameReady (setPathOk_sameReady h)) (setPathOk_sameReady h))

theorem modLcd_sameReady {f} (h : SameReady s0 s) : SameReady s0 (modLcd f s) := by
  unfold modLcd
  exact .units h

theorem postLcd_sameReady {cause} (h : SameReady s0 s) : SameReady s0 (postLcd cause s) := by
  unfold postLcd
  exact postMail_sameReady h

theorem beginUpdate_sameReady {image why fullAsked flight t5} (h : SameReady s0 s) : SameReady s0 (beginUpdate image why fullAsked flight t5 s) := by
  unfold beginUpdate
  exact modLcd_sameReady h

theorem completeShown_sameReady {flight} (h : SameReady s0 s) : SameReady s0 (completeShown flight s) := by
  unfold completeShown
  split
  · exact completeSeq_sameReady h
  · exact h

theorem startPending_sameReady (h : SameReady s0 s) : SameReady s0 (startPending s) := by
  unfold startPending
  split
  · exact .ite (.ite (completeShown_sameReady (modLcd_sameReady h)) (beginUpdate_sameReady (modLcd_sameReady h))) h
  · exact h

theorem beginAllOff_sameReady {t1} (h : SameReady s0 s) : SameReady s0 (beginAllOff t1 s) := by
  unfold beginAllOff
  exact beginUpdate_sameReady h

theorem lcdResume_sameReady (h : SameReady s0 s) : SameReady s0 (lcdResume s) := by
  unfold lcdResume
  split
  · exact h
  · split
    · exact beginAllOff_sameReady h
    · split
      · exact beginUpdate_sameReady (modLcd_sameReady h)
      · exact startPending_sameReady h

theorem lcdReady_sameReady (h : SameReady s0 s) : SameReady s0 (lcdReady s) := by
  unfold lcdReady
  exact .ite (lcdResume_sameReady (postLcd_sameReady (modLcd_sameReady h))) (modLcd_sameReady h)

theorem modCh_sameReady {k f} (h : SameReady s0 s) : SameReady s0 (modCh k f s) := by
  unfold modCh
  exact .units h

theorem postLsw_sameReady {k cause} (h : SameReady s0 s) : SameReady s0 (postLsw k cause s) := by
  unfold postLsw
  exact .ite (postMail_sameReady h) h

theorem lswReady_sameReady (h : SameReady s0 s) : SameReady s0 (lswReady s) := by
  unfold lswReady
  refine forFin_sameReady ?_ (.units h)
  intro x3 t4 h5
  extract_lets +onlyGivenNames c6
  split
  exact .ite (postLsw_sameReady (modCh_sameReady h5)) (.ite (postLsw_sameReady (modCh_sameReady h5)) (.ite (postLsw_sameReady
      (modCh_sameReady h5)) (.ite (postLsw_sameReady (modCh_sameReady h5)) (modCh_sameReady h5))))

theorem modTag_sameReady {f} (h : SameReady s0 s) : SameReady s0 (modTag f s) := by
  unfold modTag
  exact .units h

theorem setPage_sameReady {p g} (h : SameReady s0 s) : SameReady s0 (setPage p g s) := by
  unfold setPage
  exact modTag_sameReady h

theorem cutWrite_sameReady {p bytes step} (h : SameReady s0 s) : SameReady s0 (cutWrite p bytes step s) := by
  unfold cutWrite
  extract_lets g1 g_2
  split
  · exact h
  · exact h
  · split
    rename_i s3 e3
    have h3 : SameReady s0 s3 := .of_snd e3 (freeBytes_sameReady h)
    exact setPage_sameReady h3
  · split
    rename_i s4 e4
    have h4 : SameReady s0 s4 := .of_snd e4 (drawBool_sameReady h)
    exact setPage_sameReady h4
  · exact setPage_sameReady h

theorem postTag_sameReady {cause data} (h : SameReady s0 s) : SameReady s0 (postTag cause data s) := by
  unfold postTag
  exact .ite (postMail_sameReady h) h

theorem cutSet_sameReady {new step} (h : SameReady s0 s) : SameReady s0 (cutSet new step s) := by
  unfold cutSet
  split
  · exact h
  · exact h
  · exact h
  · split
    rename_i s1 e1
    have h1 : SameReady s0 s1 := .of_snd e1 (drawBool_sameReady h)
    exact .ite (modTag_sameReady h1) h1
  · exact modTag_sameReady h

theorem settleCut_sameReady (h : SameReady s0 s) : SameReady s0 (settleCut s) := by
  unfold settleCut
  split
  · exact h
  · extract_lets s1
    have h1 : SameReady s0 s1 := modTag_sameReady h
    split
    · exact .ite (setPage_sameReady h1) (cutWrite_sameReady h1)
    · exact cutSet_sameReady h1

theorem completeFlags_sameReady (h : SameReady s0 s) : SameReady s0 (completeFlags s) := by
  unfold completeFlags
  exact .foldl (fun _ _ h1 => postTag_sameReady (setPage_sameReady h1)) (.ite (modTag_sameReady (settleCut_sameReady h))
      (settleCut_sameReady h))

theorem modUpd_sameReady {f} (h : SameReady s0 s) : SameReady s0 (modUpd f s) := by
  unfold modUpd
  exact .units h

theorem postUpd_sameReady {cause why reason id} (h : SameReady s0 s) : SameReady s0 (postUpd cause why reason id s) := by
  unfold postUpd
  exact postMail_sameReady h

theorem updReady_sameReady (h : SameReady s0 s) : SameReady s0 (updReady s) := by
  unfold updReady
  extract_lets s1
  have h1 : SameReady s0 s1 := .ite (postUpd_sameReady (modUpd_sameReady h)) h
  split
  · exact postUpd_sameReady (modUpd_sameReady h1)
  · exact h1

theorem modRst_sameReady {f} (h : SameReady s0 s) : SameReady s0 (modRst f s) := by
  unfold modRst
  exact .units h

theorem onReady_sameReady {bit} (h : SameReady s0 s) : SameReady s0 (onReady bit s) := by
  unfold onReady
  split
  · exact .units h
  · exact copyTamper_sameReady h
  · exact startSession_sameReady h
  · exact restoreLinks_sameReady h
  · exact .units h
  · exact completeFlags_sameReady h
  · exact lcdReady_sameReady h
  · exact lswReady_sameReady h
  · exact queuePrn_sameReady h
  · exact .units h
  · exact modRst_sameReady h
  · exact pathBack_sameReady h
  · exact updReady_sameReady (listReload_sameReady h)
  · exact h

theorem linkUp_sameReady (h : SameReady s0 s) : SameReady s0 (linkUp s) := by
  unfold linkUp
  exact modRst_sameReady h

end Sys2Proof.Proofs
end

section
set_option Elab.async false -- one theorem after another, which keeps Lean within its memory
/-! The resets in operation (O14): level 0, and level 1 of WDT_APD. -/

namespace Sys2Proof.Proofs

open Sys2Proof Sys2Proof.Machine Sys2Proof.Safety Sys2Proof.Laws

variable {s t u : State}

/-- Out of a level-0 hold, a source of level 0 begins one. -/
theorem raise_level0 {src : Source} {func : Nat} (released : s.rst.held0 = false) :
    raise src 0 func s = level0 src (decide (src.num ≤ 3)) (if src.num ≤ 3 ∨ src = .clock then 0xFFFFFFFFFFFF else s.gen.gtc) s := by
  rw [raise, released]
  rfl

/-- Out of a level-0 hold, a source of another level resets what that level reaches. -/
theorem raise_low {src : Source} {level func : Nat} (released : s.rst.held0 = false) (low : level ≠ 0) :
    raise src level func s = raiseLow src level func 0 false s := by
  rw [raise, released, if_neg Bool.false_ne_true, if_neg low]

/-- What R443 says of a level-0 hold of a source that is not a power source: what it sets and what it leaves. -/
structure HeldAtLevel0 (src : Source) (s t : State) : Prop where
  held0 : t.rst.held0 = true
  msdUp : t.rst.msdUp = false
  gtc : t.gen.gtc = 0
  ready : t.gen.ready = 1
  hif : t.hif = { linkOk := s.hif.linkOk }
  entries : t.jnl.entries = s.jnl.entries
  tail : t.jnl.tail = s.jnl.tail
  replace : t.gen.replace = s.gen.replace
  fuse : t.fuse = s.fuse
  sealed : t.adc.sealed = s.adc.sealed
  sec : t.clk.sec = s.clk.sec
  cause : t.rst.cause = s.rst.cause ||| BitVec.ofNat 16 (2 ^ src.num)
  lastSrc : t.rst.lastSrc = src
  lastLevel : t.rst.lastLevel = 0
  count0 : t.rst.count0.toNat = min 65535 (s.rst.count0.toNat + 1)
  holds : t.rst.holds = s.rst.holds.map (fun h => { h with untilTick := h.untilTick - (s.now + 39) })
  mram : t.mem.mram = s.mem.mram
  pending : t.pending = s.pending

/-- COUNT0 saturates. -/
theorem count0_saturates (c : W16) : (if c = 0xFFFF then 0xFFFF else c + 1).toNat = min 65535 (c.toNat + 1) := by
  split
  next top => simp [top]
  next below =>
    have : c.toNat ≠ 65535 := fun h => below (BitVec.eq_of_toNat_eq h)
    have := c.isLt
    rw [BitVec.toNat_add, Nat.mod_eq_of_lt] <;> simp <;> omega

theorem level0_held {src : Source} {wait : Bool} {gtc : W48} (notPower : 3 < src.num) : HeldAtLevel0 src s (level0 src wait gtc s) := by
  have power : decide (src.num ≤ 3) = false := decide_eq_false (by omega)
  refine ⟨rfl, rfl, ?_, ?_, rfl, rfl, rfl, ?_, rfl, rfl, rfl, rfl, rfl, rfl, count0_saturates _, ?_, rfl, rfl⟩
  all_goals simp only [level0, power]
  all_goals rfl

/-- A bit of GEN_READY is set or cleared by itself. -/
theorem setReady_isReady {b : Fin 19} {v : Bool} {k : Nat} (hk : k < 19) :
    (setReady b v s).isReady k = if k = b.val then v else s.isReady k := by
  have event : ∀ u : State, (readyEvent b v u).gen.ready = u.gen.ready := fun u => readyEvent_sameReady (s0 := u) rfl
  have bit : (BitVec.ofNat 19 (2 ^ b.val)).getLsbD k = decide (k = b.val) := getLsbD_twoPow hk
  unfold setReady
  split
  next same =>
    split
    next h => rw [h]; exact same
    next => rfl
  next other =>
    simp only [State.isReady, event]
    cases v
    · simp only [Bool.false_eq_true, if_false, BitVec.getLsbD_and, BitVec.getLsbD_not, bit]
      by_cases h : k = b.val <;> simp [h, hk]
    · simp only [if_true, BitVec.getLsbD_or, bit]
      by_cases h : k = b.val <;> simp [h]

theorem foldl_setReady_isReady {l : List (Fin 19)} {k : Nat} (hk : k < 19) :
    (l.foldl (fun s b => setReady b false s) s).isReady k = (s.isReady k && !l.any fun a => a.val == k) := by
  induction l generalizing s with
  | nil => simp
  | cons b l ih =>
    rw [List.foldl_cons, ih, setReady_isReady hk, List.any_cons]
    by_cases h : k = b.val
    · simp [h]
    · have other : (b.val == k) = false := beq_false_of_ne (Ne.symm h)
      rw [if_neg h, other, Bool.false_or]

/-- A reset takes the readiness of the functions it reaches, and of no other (R444). -/
theorem loseReady_isReady {bits : List (Fin 19)} {k : Nat} (hk : k < 19) :
    (loseReady bits s).isReady k = (s.isReady k && !bits.any fun a => a.val == k) := by
  unfold loseReady
  extract_lets lost
  have aborted : ∀ hit (u : State), (abortClasses hit u).isReady k = u.isReady k := fun hit u =>
    congrArg (fun r => BitVec.getLsbD r k) (abortClasses_sameReady (s0 := u) rfl)
  rw [aborted, foldl_setReady_isReady hk]
  cases ready : s.isReady k
  · rfl
  · have same : (lost.any fun a => a.val == k) = bits.any fun a => a.val == k := by
      unfold lost
      rw [List.any_filter]
      congr 1
      funext a
      by_cases h : a.val = k
      · simp [h, ready]
      · simp [h]
    rw [same]

/-- What a level-1 reset leaves (R444). -/
structure ClearedLevel1 (s t : State) : Prop where
  rst : t.rst = { s.rst with apdUp := false, codUp := false }
  gen : SameTick s.gen t.gen
  app : t.mem.app = []
  ready : ∀ k < 19, t.isReady k = (s.isReady k && !apdCodBits.any fun a => a.val == k)

theorem clearLevel_one {cls : Nat} : ClearedLevel1 s (clearLevel 1 cls s) := by
  unfold clearLevel
  extract_lets s1 s2
  have side1 : Side s s1 := .ite (losePathB_side (.refl s)) (.refl s)
  have ready1 : SameReady s s1 := .ite (losePathB_sameReady rfl) rfl
  have side2 : Side s s2 := loseReady_side side1
  rw [if_pos rfl]
  generalize begun : ({ s2 with rst := { s2.rst with apdUp := false, codUp := false }, mem := { s2.mem with app := [] },
                                upd := { s2.upd with checking := none } } : State) = v
  have end3 : Side v (dropReq (fun r => decide (r = .boot)) v) := dropReq_side (.refl v)
  have ready3 : SameReady v (dropReq (fun r => decide (r = .boot)) v) := dropReq_sameReady rfl
  have side4 := Side.foldl (l := [0x05, 0x06, 0x07, 0x08, 0x09, 0x0B, 0x0D]) (f := fun s c => clearFn c s)
    (fun _ _ h => clearFn_side h) end3
  have ready4 := SameReady.foldl (l := [0x05, 0x06, 0x07, 0x08, 0x09, 0x0B, 0x0D]) (f := fun s c => clearFn c s)
    (fun _ _ h => clearFn_sameReady h) ready3
  subst begun
  refine ⟨by rw [side4.rst, ← side2.rst], side2.gen.trans side4.gen, side4.app, fun k hk => ?_⟩
  have lost : s2.isReady k = (s1.isReady k && !apdCodBits.any fun a => a.val == k) := loseReady_isReady hk
  have same : s1.isReady k = s.isReady k := congrArg (fun r => BitVec.getLsbD r k) ready1
  rw [← same, ← lost]
  exact congrArg (fun r => BitVec.getLsbD r k) ready4

/-- WDT_APD with no hold in force: APD and COD go into reset under a hold of their own. -/
theorem raiseLow_wdtApd (noHold : s.rst.holds = []) :
    ∃ r : Rst, r.cause = s.rst.cause ||| BitVec.ofNat 16 (2 ^ Source.wdtApd.num) ∧ r.lastLevel = 1 ∧ r.msdUp = s.rst.msdUp ∧
      ∃ d, raiseLow .wdtApd 1 0 0 false s = post 0x0F06 0xFF d (clearLevel 1 0 { s with rst := r }) := by
  unfold raiseLow
  extract_lets cls join h rst0 r s1 data
  have alone : join = false := by simp [join, covered, noHold]
  refine ⟨r, rfl, by simp [r, alone], rfl, data, ?_⟩
  rw [if_neg (by decide)]
  unfold s1
  rw [alone]
  rfl

/-- What MSD does while it runs. -/
theorem exec_ticking {c : Instr} {act : State → State} (ticking : Ticking s)
    (runs : exec c s = .next (if s.rst.msdUp then act s else s)) : exec c s = .next (act s) := by
  have up : s.rst.msdUp = true := ticking
  rw [runs, up, if_pos rfl]

/-- Settles O14. -/
theorem resetsInOperation : Obligations.ResetsInOperation := by
  unfold Obligations.ResetsInOperation
  refine ⟨fun s c src released ticking which => ?_, fun s released apd level noHold => ?_⟩
  · have asserts : 3 < src.num ∧ exec c s = .next (raise src 0 0 s) := by
      rcases which with listed | ⟨rfl, rfl, level⟩
      · simp only [List.mem_cons, Prod.mk.injEq, List.not_mem_nil, or_false] at listed
        rcases listed with ⟨rfl, rfl⟩ | ⟨rfl, rfl⟩ | ⟨rfl, rfl⟩ | ⟨rfl, rfl⟩ | ⟨rfl, rfl⟩ | ⟨rfl, rfl⟩
        · exact ⟨by decide, rfl⟩
        · exact ⟨by decide, rfl⟩
        · exact ⟨by decide, exec_ticking ticking rfl⟩
        · exact ⟨by decide, exec_ticking ticking rfl⟩
        · exact ⟨by decide, exec_ticking ticking rfl⟩
        · exact ⟨by decide, exec_ticking ticking rfl⟩
      · have runs : exec .rstPin s = .next (raise .pin (levelOf .pin s) 0 s) := rfl
        exact ⟨by decide, by rw [runs, level]⟩
    obtain ⟨notPower, runs⟩ := asserts
    have h : HeldAtLevel0 src s (raise src 0 0 s) := by
      rw [raise_level0 released]
      exact level0_held notPower
    exact ⟨_, runs, h.held0, h.msdUp, h.gtc, h.ready, h.hif, h.entries, h.tail, h.replace, h.fuse, h.sealed, h.sec, h.cause, h.lastSrc,
      h.lastLevel, h.count0, h.holds, h.mram, h.pending⟩
  · obtain ⟨r, cause, last, msd, d, eq⟩ := raiseLow_wdtApd noHold
    have cleared := clearLevel_one (s := { s with rst := r }) (cls := 0)
    refine ⟨raiseLow .wdtApd 1 0 0 false s, ?_, ?_⟩
    · have runs : exec .wdtApdExpiry s = .next (if s.rst.apdUp then raise .wdtApd (levelOf .wdtApd s) 0 s else s) := rfl
      rw [runs, apd, level, if_pos rfl, raise_low released (by decide)]
    · rw [eq]
      generalize clearLevel 1 0 { s with rst := r } = u at cleared
      have gtc : u.gen.gtc = s.gen.gtc := by rw [cleared.gen]
      refine ⟨?_, ?_, ?_, ?_, ?_, ?_, ?_, fun b hb => ?_⟩
      all_goals simp only [post_rst, post_gen, post_mem, State.isReady, cleared.rst, cleared.app, msd, last, cause, gtc]
      · simp [Source.num]
      · exact cleared.ready b hb

end Sys2Proof.Proofs
end

section
set_option Elab.async false -- one theorem after another, which keeps Lean within its memory
/-! Power-up, brown-out and release (O13), and the supply monitors (O15). -/

namespace Sys2Proof.Proofs

open Sys2Proof Sys2Proof.Machine Sys2Proof.Safety Sys2Proof.Laws

variable {s t u : State}

/-- The journal as the release of MSD leaves it (R443): no entry is open and none was never whole. -/
theorem closeJournal_closed {j : Journal} : ∀ e ∈ (closeJournal j).entries, e.done.isSome = true ∧ e.whole = true := by
  intro e he
  obtain ⟨e0, he0, rfl⟩ := List.mem_map.1 he
  have whole : e0.whole = true := (List.mem_filter.1 he0).2
  split
  · exact ⟨rfl, whole⟩
  next closed => exact ⟨by simpa [Option.isSome_iff_ne_none] using closed, whole⟩

/-- The start of MSD before its units are restored. -/
def msdReleased (s : State) : State :=
  releaseMsd { s with gen := { s.gen with replRead := true }, jnl := closeJournal s.jnl,
                      upl := { s.upl with epoch := s.upl.epoch + 1, activeB := s.upl.preferB } }

/-- The pending RESET event is used up. -/
def eventUsed (s : State) : State := modRst (fun r => { r with event0 := none }) s

theorem eventUsed_of_none (h : s.rst.event0 = none) : eventUsed s = s := by
  have same : { s.rst with event0 := none } = s.rst := by rw [← h]
  rw [eventUsed, modRst, same]

theorem eventUsed_side (h : Side s t) : Side (eventUsed s) (eventUsed t) :=
  ⟨h.gen, congrArg (fun r : Rst => { r with event0 := none }) h.rst, h.tail, h.closed, h.app⟩

/-- That event and its OVERRUN event are held for the host. -/
theorem startEvents_side : Side (eventUsed s) (startEvents s) := by
  unfold startEvents
  split
  next absent =>
    rw [eventUsed_of_none absent]
    exact .refl s
  next src gtc present =>
    exact eventUsed_side (holdEvent_side (.ite (holdEvent_side (.refl s)) (.refl s)))

theorem startMsd_side {i : StartIn} : Side (eventUsed (msdReleased s)) (startMsd i s) := by
  unfold startMsd
  extract_lets gen0 upl0 s1 s2 s3 s4 s5 s6 s7
  have h2 : Side (eventUsed (msdReleased s)) s2 := restoreBtd_side startEvents_side
  have h3 : Side (eventUsed (msdReleased s)) s3 := checkBlock_side (startKeys_side h2)
  have h4 : Side (eventUsed (msdReleased s)) s4 := relatePrn_side h3
  have h5 : Side (eventUsed (msdReleased s)) s5 := restoreIntervals_side (forFin_side (fun _ _ h => startBill_side h) h4)
  have h6 : Side (eventUsed (msdReleased s)) s6 := reconcileTokens_side (forFin_side (fun _ _ h => reconcileAccount_side h) h5)
  have h7 : Side (eventUsed (msdReleased s)) s7 := copyWatchLog_side (forFin_side (fun _ _ h => closeAtReset_side h) h6)
  have h8 := Side.ite (c := (s7.rst.codUp && !s7.rst.fnHeld.contains 0x07) = true) (leaveDomain_side h7) h7
  exact .ite (bootRelease_side h8) h8

theorem releaseHolds_rst : (releaseHolds s).rst = { s.rst with
    holds := liveHolds s
    apdUp := s.rst.apdUp || (!s.rst.apdUp && !(liveHolds s).any Hold.reachesApd)
    codUp := s.rst.codUp || (!s.rst.codUp && !(liveHolds s).any Hold.reachesCod)
    fnHeld := s.rst.fnHeld.filter fun c => (liveHolds s).any (Hold.reachesFn c.toNat) } := by
  unfold releaseHolds
  extract_lets hs apd cod s1 s2
  have h2 : Side s1 s2 := .ite (bootRelease_side (.refl s1)) (.refl s1)
  have h3 : Side s1 (if (bkbOn s2 && decide (s2.bkb.join = .off)) = true then leaveDomain s2 else s2) := .ite (leaveDomain_side h2) h2
  rw [h3.rst]
  rfl

/-- What a brown-out leaves (R443). -/
structure BrownedOut (b : Brown) (cell : Bool) (s t : State) : Prop where
  held0 : t.rst.held0 = true
  waitGood : t.rst.waitGood = true
  cause : t.rst.cause = s.rst.cause ||| BitVec.ofNat 16 (2 ^ (Brown.source b).num)
  gtc : t.gen.gtc = 0
  kept : cell = true → t.clk.sec = s.clk.sec
  lost : cell = false → t.clk.sec = 0 ∧ t.clk.unsynced = true

theorem brownOut_brownedOut {b : Brown} {deep cell : Bool} (released : s.rst.held0 = false) :
    BrownedOut b cell s (brownOut b deep cell [] s) := by
  have power : (Brown.source b).num ≤ 3 := by cases b <;> decide
  unfold brownOut
  extract_lets s1 s2 s3 watch s4
  have e2 : s2 = level0 (Brown.source b) true 0xFFFFFFFFFFFF s := by
    unfold s2 s1
    rw [List.foldl_nil, raise_level0 released, if_pos (.inl power), decide_eq_true power]
  have e4 : s4.rst = s3.rst ∧ s4.gen = s2.gen ∧ s4.clk = s2.clk := by
    unfold s4
    split <;> exact ⟨rfl, rfl, rfl⟩
  rw [e2] at e4
  obtain ⟨rst4, gen4, clk4⟩ := e4
  have rst3 : s3.rst.held0 = true ∧ s3.rst.waitGood = true ∧ s3.rst.cause = s.rst.cause ||| BitVec.ofNat 16 (2 ^ (Brown.source b).num) := by
    unfold s3
    rw [e2]
    exact ⟨rfl, rfl, rfl⟩
  rw [← rst4] at rst3
  have gtc4 : s4.gen.gtc = 0 := by
    rw [gen4]
    cases b <;> rfl
  have sec4 : s4.clk.sec = s.clk.sec := by
    rw [clk4]
    rfl
  cases cell
  · exact ⟨rst3.1, rst3.2.1, rst3.2.2, gtc4, nofun, fun _ => ⟨rfl, rfl⟩⟩
  · exact ⟨rst3.1, rst3.2.1, rst3.2.2, gtc4, fun _ => sec4, nofun⟩

theorem raise_nrg {src : Source} : (raise src 0 0 s).nrg.fine = s.nrg.fine ∧ (raise src 0 0 s).nrg.feeder = s.nrg.feeder := by
  unfold raise
  split
  · exact ⟨rfl, rfl⟩
  · exact ⟨rfl, rfl⟩

/-- A brown-out keeps the energies (R443). -/
theorem brownOut_nrg {b : Brown} {deep cell : Bool} :
    (brownOut b deep cell [] s).nrg.fine = s.nrg.fine ∧ (brownOut b deep cell [] s).nrg.feeder = s.nrg.feeder := by
  have base := raise_nrg (s := s) (src := Brown.source b)
  unfold brownOut
  extract_lets s1 s2 s3 watch s4
  have h4 : s4.nrg.fine = s.nrg.fine ∧ s4.nrg.feeder = s.nrg.feeder := by
    unfold s4
    split
    · exact base
    · exact base
  split
  · exact h4
  · exact h4

theorem lastEnergy_quiet (quiet : s.rst.pfw = false) : lastEnergy s = s := by
  rw [lastEnergy, quiet, Bool.and_false, if_neg Bool.false_ne_true]

/-- Power-good ends the current-only watch (R151). -/
theorem stopWatch_rst : (stopWatch s).rst = s.rst := by
  have ended : ∀ u : State, (endWatch 3 u).rst = u.rst := fun u => by
    unfold endWatch
    extract_lets w
    rfl
  unfold stopWatch
  extract_lets s1
  have h1 : s1.rst = s.rst := by
    unfold s1
    split
    · exact ended s
    · rfl
  exact h1

/-- What power-good ends (R443). -/
theorem powerGood_waiting (held : s.rst.held0 = true) (waits : s.rst.waitGood = true) :
    ∃ u, powerGood s = modRst (fun r => { r with waitGood := false, porArmed := false }) u ∧ u.rst.held0 = true ∧
      (s.rst.porArmed = true → u.rst.cause.getLsbD 0 = true) := by
  have stopped : (stopWatch s).rst = s.rst := stopWatch_rst
  unfold powerGood
  rw [if_pos ⟨held, waits⟩]
  extract_lets s1 s2
  refine ⟨s2, rfl, ?_, ?_⟩
  · unfold s2
    split
    · split
      · rw [raise, if_pos (by rw [stopped, held])]
        exact stopped.symm ▸ held
      · rfl
    · exact stopped.symm ▸ held
  · intro armed
    unfold s2
    rw [if_pos (by rw [stopped, armed])]
    split
    · rw [raise, if_pos (by rw [stopped, held])]
      simp [Source.num]
    · simp [level0, Source.num]

/-- Settles O13. -/
theorem powerUpAndRelease : Obligations.PowerUpAndRelease := by
  unfold Obligations.PowerUpAndRelease
  refine ⟨fun s a b i held noWait => ⟨?locked, ?unlocked⟩, fun s => ⟨?energy, ?brown, ?good⟩, fun s i released => ⟨?start, ?release⟩,
    fun s b notReady may => ?ready⟩
  case locked =>
    intro both
    have runs : exec (.gtcStart (a, b) i) s = execGtcStart (a, b) i s := rfl
    rw [runs, execGtcStart, if_pos ⟨held, noWait⟩, if_pos both]
  case unlocked =>
    intro one
    refine ⟨level0 .clock false 0xFFFFFFFFFFFF s, ?_, rfl, ?_, rfl, rfl⟩
    · have runs : exec (.gtcStart (a, b) i) s = execGtcStart (a, b) i s := rfl
      rw [runs, execGtcStart, if_pos ⟨held, noWait⟩, one, if_neg Bool.false_ne_true]
    · simp [level0, Source.num]
  case energy =>
    intro b deep cell _
    exact ⟨_, rfl, brownOut_nrg⟩
  case brown =>
    intro b deep cell released quiet
    have runs : exec (.brownOut b deep cell []) s = .next (brownOut b deep cell [] (lastEnergy s)) := rfl
    rw [runs, lastEnergy_quiet quiet]
    have out := brownOut_brownedOut (b := b) (deep := deep) (cell := cell) released
    refine ⟨_, rfl, out.held0, out.waitGood, ?_, out.gtc, out.kept, out.lost⟩
    rw [out.cause]
    cases b <;> simp [Brown.source, Source.num]
  case good =>
    intro held waits
    obtain ⟨u, eq, uHeld, cause⟩ := powerGood_waiting held waits
    exact ⟨_, congrArg Host.Outcome.next eq, rfl, uHeld, rfl, cause⟩
  case start =>
    intro down
    have side := startMsd_side (i := i) (s := s)
    have runs : exec (.resetRelease i) s = execResetRelease i s := rfl
    simp only [execResetRelease, released, down, Bool.false_eq_true, if_false] at runs
    generalize startMsd i s = m at side runs
    refine ⟨m, rfl, ?_, ?_, ?_, ?_, side.closed closeJournal_closed, side.tail, by rw [side.gen]; rfl, ?_, ?_⟩
    · rw [side.rst]
      rfl
    · rw [side.rst]
      rfl
    · rw [side.rst]
      rfl
    · rw [side.rst]
      rfl
    · intro j win tin
      rw [runs, win, tin]
    · intro win
      rw [runs]
      split
      next entry _ => exact absurd entry win
      next => rfl
  case release =>
    intro up
    refine ⟨releaseHolds s, ?_, ?_, ?_⟩
    · have runs : exec (.resetRelease i) s = execResetRelease i s := rfl
      rw [runs, execResetRelease, released, up, if_neg Bool.false_ne_true, if_pos rfl]
    · rw [releaseHolds_rst]
      rfl
    · rw [releaseHolds_rst]
      intro none
      have none : liveHolds s = [] := none
      simp [none]
  case ready =>
    have quiet : s.gen.ready.getLsbD b.val = false := notReady
    have up : ∀ v : State, SameReady s v → (setReady b true v).gen.ready = s.gen.ready ||| BitVec.ofNat 19 (2 ^ b.val) := by
      intro v same
      unfold SameReady at same
      rw [setReady, same, quiet, if_neg Bool.false_ne_true]
      exact readyEvent_sameReady (s0 := { v with gen := { v.gen with ready := s.gen.ready ||| BitVec.ofNat 19 (2 ^ b.val) } }) rfl
    refine ⟨functionReady b s, rfl, ?_⟩
    rw [functionReady, notReady, may, if_neg (by decide)]
    have linked : SameReady s (if b.val = 16 then linkUp s else s) := .ite (linkUp_sameReady rfl) rfl
    rw [← up _ linked]
    exact onReady_sameReady (s0 := setReady b true (if b.val = 16 then linkUp s else s)) rfl

end Sys2Proof.Proofs
end

section
set_option Elab.async false -- one theorem after another, which keeps Lean within its memory
/-! The supply monitors (O15). -/

namespace Sys2Proof.Proofs

open Sys2Proof Sys2Proof.Machine Sys2Proof.Safety Sys2Proof.Laws

variable {s t u : State}

theorem Side.gtc (h : Side s t) : t.gen.gtc = s.gen.gtc := by rw [h.gen]

/-- The warning is captured, and what follows it leaves the tick and the other state of the resets alone (R437). -/
theorem powerFail_captures {i : PfIn} (up : s.rst.msdUp = true) (quiet : s.rst.pfw = false)
    (cond : i.vsysLow = true ∨ (s.rst.pfailEn = true ∧ i.pfailLevel = s.rst.pfailPol)) :
    (powerFail i s).rst = { s.rst with pfailIn := i.pfailLevel == s.rst.pfailPol, pfw := true } ∧
      (powerFail i s).gen.gtc = s.gen.gtc := by
  unfold powerFail
  extract_lets active s1 s2
  have fires : (s1.rst.msdUp && !s1.rst.pfw && (i.vsysLow || (active && s1.rst.pfailEn))) = true := by
    have hm : s1.rst.msdUp = true := up
    have hp : s1.rst.pfw = false := quiet
    have hc : (i.vsysLow || (active && s1.rst.pfailEn)) = true := by
      rcases cond with low | ⟨en, level⟩
      · simp [low]
      · have he : s1.rst.pfailEn = true := en
        have ha : active = true := by simp [active, pfailActive, level]
        simp [he, ha]
    rw [hm, hp, hc]
    rfl
  rw [if_pos fires]
  have h2 : Side s1 s2 := powerFailRecord_side (stepNow_side (minuteEdge_side (.refl s1)))
  have h3 := armWatch_side (lcdStop_side (.refl (modRst (fun r => { r with pfw := true }) s2)))
  refine ⟨?_, ?_⟩
  · rw [h3.rst, modRst, h2.rst]
    rfl
  · rw [h3.gtc]
    exact h2.gtc

theorem beginUpdate_clk {image why full flight tick} : (beginUpdate image why full flight tick s).clk = s.clk := modLcd_clk ..

theorem completeShown_clk {flight} : (completeShown flight s).clk = s.clk := by
  unfold completeShown
  split
  · exact completeSeq_clk ..
  · rfl

theorem startPending_clk : (startPending s).clk = s.clk := by
  unfold startPending
  split
  · split
    · extract_lets s1
      split
      · exact completeShown_clk
      · exact beginUpdate_clk
    · rfl
  · rfl

theorem lcdResume_clk : (lcdResume s).clk = s.clk := by
  unfold lcdResume
  split
  · rfl
  split
  · exact beginUpdate_clk
  split
  · exact beginUpdate_clk
  · exact startPending_clk

theorem powerFailClear_ends (up : s.rst.msdUp = true) (warned : s.rst.pfw = true) :
    (powerFailClear s).rst.pfw = false ∧ (powerFailClear s).clk.clearDue = some s.now := by
  unfold powerFailClear
  rw [up, warned, Bool.and_true, if_pos rfl]
  extract_lets s1
  refine ⟨?_, ?_⟩
  · rw [(lcdResume_side (.refl _)).rst]
    rfl
  · rw [lcdResume_clk]
    rfl

theorem EvPath.linkOk (h : EvPath s t) : t.hif.linkOk = s.hif.linkOk := by rw [h]

theorem sendMsix_evNext {v} : (sendMsix v s).hif.evNext = s.hif.evNext := by
  unfold sendMsix
  dsimp only
  split <;> rfl

theorem writeEvent_evNext {e : Event} : (writeEvent e s).hif.evNext = s.hif.evNext := by
  unfold writeEvent
  split
  dsimp only
  split
  · exact sendMsix_evNext
  · rfl

theorem placeEvent_evNext {e : Event} : (placeEvent e s).hif.evNext = s.hif.evNext := by
  unfold placeEvent
  split
  · exact writeEvent_evNext
  · rfl

theorem stageEvent_evNext {e : Event} : (stageEvent e s).hif.evNext = s.hif.evNext := by
  unfold stageEvent
  split <;> rfl

/-- A produced event finds its place under the EVSEQ it has. -/
theorem routeEvent_evNext {e : Event} : (routeEvent e s).hif.evNext = s.hif.evNext := by
  unfold routeEvent
  split
  · exact placeEvent_evNext
  · exact stageEvent_evNext

/-- An event takes the next EVSEQ; with the link up no second event follows it (R80, R474). -/
theorem post_evNext {code target : Nat} {data : List Byte} (link : s.hif.linkOk = true) :
    (post code target data s).hif.evNext = s.hif.evNext + 1 := by
  unfold post putEvent
  split
  rename_i e v made
  have path : EvPath s v := .of_snd made (produce_evPath (.refl s))
  have routed : EvPath s (routeEvent e v) := routeEvent_evPath path
  have fails : eventFail (routeEvent e v) = routeEvent e v := by
    rw [eventFail, routed.linkOk, link, Bool.not_true, Bool.and_false, Bool.false_and, if_neg Bool.false_ne_true]
  rw [fails, routeEvent_evNext]
  exact congrArg (fun p : Event × State => p.2.hif.evNext) made.symm

/-- Settles O15. -/
theorem supplyMonitors : Obligations.SupplyMonitors := by
  unfold Obligations.SupplyMonitors
  refine ⟨fun s up reached => ⟨fun i quiet cond => ?warn, fun warned => ?clear⟩,
    fun s ready link => ⟨fun mv t0 last due => ?vbat, fun p n taken moved => ?rail⟩⟩
  case warn =>
    obtain ⟨rst, gtc⟩ := powerFail_captures up quiet cond
    refine ⟨powerFail i s, ?_, by rw [rst], by rw [rst], gtc⟩
    rw [exec_reached (act := runPowerFailWarning i) reached rfl, runPowerFailWarning]
    exact congrArg Host.Outcome.next (if_pos up)
  case clear =>
    obtain ⟨ended, due⟩ := powerFailClear_ends up warned
    exact ⟨powerFailClear s, rfl, ended, due⟩
  case vbat =>
    refine ⟨vbatMeasure mv s, rfl, ?_⟩
    unfold vbatMeasure
    extract_lets low absent take
    rw [ready, last, Bool.not_true, if_neg Bool.false_ne_true]
    dsimp only
    have late : ¬s.now < t0 + vbatPeriod := Nat.not_lt.2 due
    rw [if_neg late]
    by_cases change : s.rst.vbatLow ≠ low ∨ s.rst.vbatAbsent ≠ absent
    · rw [if_pos change, if_pos change]
      have rst : (postPwr (take s)).rst = (take s).rst := post_rst ..
      refine ⟨rst, post_evNext link, ?_⟩
      rw [rst]
      exact post_hostOnly ..
    · rw [if_neg change, if_neg change]
      exact ⟨rfl, (BitVec.add_zero _).symm, rfl⟩
  case rail =>
    have runs : exec (.railRangeChange p n) s = .next (railChange p n s) := rfl
    rw [runs, railChange]
    extract_lets s1
    rw [if_pos ⟨ready, taken, moved⟩]
    rfl

end Sys2Proof.Proofs
end

section
set_option Elab.async false -- one theorem after another, which keeps Lean within its memory
/-! The tick edge, the windows of a tick and the overruns (O12). -/

namespace Sys2Proof.Proofs

open Sys2Proof Sys2Proof.Machine Sys2Proof.Safety Sys2Proof.Laws

variable {s t u : State}

/-- The tick counters and the state of the resets are as they were. -/
def SameGenRst (s t : State) : Prop := t.gen = s.gen ∧ t.rst = s.rst

theorem SameGenRst.trans (h : SameGenRst s t) (e : SameGenRst t u) : SameGenRst s u := ⟨e.1.trans h.1, e.2.trans h.2⟩

theorem SameGenRst.foldl {α : Type} {f : State → α → State} {l : List α} (hf : ∀ t a, SameGenRst t (f t a)) : SameGenRst s (l.foldl f s) := by
  induction l generalizing s with
  | nil => exact ⟨rfl, rfl⟩
  | cons a l ih => exact (hf s a).trans ih

theorem HostAndJournalOnly.sameGenRst (h : HostAndJournalOnly s t) : SameGenRst s t := ⟨HostAndJournalOnly.gen h, HostAndJournalOnly.rst h⟩

theorem HostOnly.sameGenRst (h : HostOnly s t) : SameGenRst s t := HostAndJournalOnly.sameGenRst (HostOnly.journal h)

theorem setWord_sameGenRst {m : MemId} {a : Nat} {w : Stored} : SameGenRst s (setWord m a w s) := by
  unfold setWord
  split
  · exact ⟨rfl, rfl⟩
  · cases m <;> exact ⟨rfl, rfl⟩

theorem flipBit_sameGenRst {p : Upset} : SameGenRst s (flipBit p s) := by
  unfold flipBit
  extract_lets w
  split
  · exact ⟨rfl, rfl⟩
  · exact setWord_sameGenRst

theorem hurtCopy_sameGenRst {o : Owner} {j : Fin 3} {how : CopyHurt} : SameGenRst s (hurtCopy o j how s) := by
  unfold hurtCopy
  split <;> exact ⟨rfl, rfl⟩

theorem takeHurts_sameGenRst {i : TickIn} : SameGenRst s (takeHurts i s) := by
  unfold takeHurts
  exact (SameGenRst.foldl fun _ _ => flipBit_sameGenRst).trans (.foldl fun _ _ => hurtCopy_sameGenRst)

theorem retryCq_sameGenRst {n : Fin 16} : SameGenRst s (retryCq n s) := by
  unfold retryCq
  extract_lets q
  split
  · exact SameGenRst.trans (t := { s with hif := { s.hif with cq := s.hif.cq.set n.val { q with waiting := [], failed := false } } })
      ⟨rfl, rfl⟩ (.foldl fun _ _ => HostOnly.sameGenRst (putCompletion_hostOnly _ _ _))
  · exact ⟨rfl, rfl⟩

theorem retryEvq_sameGenRst : SameGenRst s (retryEvq s) := by
  unfold retryEvq
  extract_lets q hif0 s1
  have h1 : SameGenRst s s1 := by
    unfold s1
    split
    · exact SameGenRst.trans (t := { s with hif := { s.hif with evWaiting := [], evq := { q with failed := false } } })
        ⟨rfl, rfl⟩ (.foldl fun _ _ => HostOnly.sameGenRst (writeEvent_hostOnly _ _))
    · exact ⟨rfl, rfl⟩
  exact h1.trans (HostOnly.sameGenRst (drainEvents_hostOnly _))

theorem retryEntries_sameGenRst : SameGenRst s (retryEntries s) := by
  unfold retryEntries forFin
  exact (SameGenRst.foldl fun _ _ => retryCq_sameGenRst).trans retryEvq_sameGenRst

/-- What the tick edge does before the edge work: of the tick and the resets, GTC alone moves. -/
theorem edgeStart_sameGenRst {i : TickIn} : SameGenRst (tickCount i s) (retryEntries (takeHurts i (tickCount i s))) :=
  takeHurts_sameGenRst.trans retryEntries_sameGenRst

/-- A tick that has come to a window does not run it again. -/
theorem reach_of_done {w : Window} (h : s.gen.win = .done) : reach w s = s := by
  have none : (windowSteps.filter fun e => decide (s.gen.win.num < e.1.num ∧ e.1.num ≤ w.num)) = [] := by
    rw [h]
    refine List.filter_eq_nil_iff.2 fun e he => ?_
    have : e.1.num ≤ 5 := by cases e.1 <;> decide
    have five : Window.done.num = 5 := rfl
    rw [five, decide_eq_true_eq]
    omega
  rw [reach, none]
  rfl

theorem exec_tickEdge {i : TickIn} (ticking : Ticking s) (done : s.gen.win = .done) : exec (.tickEdge i) s = .next (tickEdge i s) := by
  have runs : exec (.tickEdge i) s = .next (if (reach .done s).rst.msdUp then tickEdge i (reach .done s) else reach .done s) := rfl
  have up : s.rst.msdUp = true := ticking
  rw [runs, reach_of_done done, up, if_pos rfl]

/-- A replacement cause is set, whether it stood or not. -/
theorem setReplace_effect {cause : Fin 9} :
    (setReplace cause s).rst = s.rst ∧ (setReplace cause s).gen = { s.gen with replace := (setReplace cause s).gen.replace } ∧
      (setReplace cause s).gen.replace.getLsbD cause.val = true := by
  unfold setReplace
  split
  next stands => exact ⟨rfl, rfl, stands⟩
  next clear =>
    rw [post_rst, post_gen]
    refine ⟨rfl, rfl, ?_⟩
    rw [BitVec.getLsbD_or, getLsbD_twoPow cause.isLt, decide_eq_true rfl, Bool.or_true]

/-- What an overrun leaves in GEN_OVERRUN (R63). -/
structure Noted (w : Overrun) (s t : State) : Prop where
  ovr : t.gen.ovr = s.gen.ovr ||| BitVec.ofNat 5 (2 ^ overrunBit w)
  count : t.gen.ovrCount = (if s.gen.ovr = 0 then 1 else if s.gen.ovrCount = 255 then 255 else s.gen.ovrCount + 1)
  gtc : t.gen.ovrGtc = (if s.gen.ovr = 0 then s.gen.gtc.extractLsb' 0 32 else s.gen.ovrGtc)

theorem noteOverrun_noted {w : Overrun} : Noted w s (noteOverrun w s) := by
  have low : BitVec.ofNat 32 s.now = s.gen.gtc.extractLsb' 0 32 := by
    rw [State.now]
    exact BitVec.eq_of_toNat_eq (by simp)
  refine ⟨rfl, ?_, ?_⟩
  · simp [noteOverrun]
  · simp [noteOverrun, low]

theorem Noted.frame {w : Overrun} (h : Noted w s t) (ovr : u.gen.ovr = t.gen.ovr) (count : u.gen.ovrCount = t.gen.ovrCount)
    (gtc : u.gen.ovrGtc = t.gen.ovrGtc) : Noted w s u :=
  ⟨ovr.trans h.ovr, count.trans h.count, gtc.trans h.gtc⟩

theorem Noted.side {w : Overrun} (h : Noted w s t) (e : SameTick t.gen u.gen) : Noted w s u := by
  refine h.frame ?_ ?_ ?_ <;> rw [e]

/-- A reset of a level from 1 to 3 leaves the tick alone, and of the state of the resets changes what it reaches (R444). -/
def LowReset (s t : State) : Prop :=
  SameTick s.gen t.gen ∧ t.rst = { s.rst with apdUp := t.rst.apdUp, codUp := t.rst.codUp, fnHeld := t.rst.fnHeld }

theorem LowReset.trans (h : LowReset s t) (e : LowReset t u) : LowReset s u := by
  refine ⟨h.1.trans e.1, ?_⟩
  rw [e.2, h.2]

theorem Side.lowReset (h : Side s t) : LowReset s t := ⟨h.gen, by rw [h.rst]⟩

theorem clearLevel_lowReset {level cls : Nat} : LowReset s (clearLevel level cls s) := by
  unfold clearLevel
  extract_lets s1 s2 rst2 app2 upd2 s3 rst3 s4 c held rst4
  have h1 : Side s s1 := .ite (losePathB_side (.refl s)) (.refl s)
  have cleared : ∀ {v : State} (l : List Nat), LowReset s v → LowReset s (l.foldl (fun s c => clearFn c s) v) := fun l h =>
    h.trans (Side.foldl (fun _ _ h => clearFn_side h) (.refl _)).lowReset
  have lost : ∀ bits, LowReset s (loseReady bits s1) := fun bits => (loseReady_side h1).lowReset
  split
  · refine cleared _ (.trans ?_ (dropReq_side (.refl _)).lowReset)
    exact (lost apdCodBits).trans ⟨rfl, rfl⟩
  split
  · exact cleared _ ((lost codBits).trans ⟨rfl, rfl⟩)
  · exact ((lost (fnBits cls)).trans ⟨rfl, rfl⟩).trans (clearFn_side (.refl _)).lowReset

/-- The cause of a reset of a level from 1 to 3 stands, and its holds are in force (R442, R443). -/
theorem raiseLow_effect {src : Source} {level func ms : Nat} {asserted : Bool} :
    SameTick s.gen (raiseLow src level func ms asserted s).gen ∧ (raiseLow src level func ms asserted s).rst.held0 = s.rst.held0 ∧
      (raiseLow src level func ms asserted s).rst.cause = s.rst.cause ||| BitVec.ofNat 16 (2 ^ src.num) := by
  unfold raiseLow
  extract_lets cls join h rst0 r s1 data
  have h1 : LowReset { s with rst := r } s1 := by
    unfold s1
    split
    · exact ⟨rfl, rfl⟩
    · exact clearLevel_lowReset
  have h2 : ∀ v : State, SameTick s1.gen v.gen → v.rst = s1.rst → SameTick s.gen v.gen ∧ v.rst.held0 = s.rst.held0 ∧
      v.rst.cause = s.rst.cause ||| BitVec.ofNat 16 (2 ^ src.num) := by
    intro v gen rst
    refine ⟨h1.1.trans gen, ?_, ?_⟩
    · rw [rst, h1.2]
    · rw [rst, h1.2]
  split
  · exact h2 _ rfl rfl
  · refine h2 _ ?_ (post_rst ..)
    rw [post_gen]
    rfl

/-- The windows up to the one after the present come in their order (R48). -/
theorem reach_next {w : Window} {f : State → State} (ticking : Ticking s)
    (next : (windowSteps.filter fun e => decide (s.gen.win.num < e.1.num ∧ e.1.num ≤ w.num)) = [(w, f)]) : reach w s = f s := by
  have up : s.rst.msdUp = true := ticking
  rw [reach, next, List.foldl_cons, List.foldl_nil, up, if_pos rfl]

theorem reach_next_two {w w' : Window} {f g : State → State} (ticking : Ticking s)
    (next : (windowSteps.filter fun e => decide (s.gen.win.num < e.1.num ∧ e.1.num ≤ w.num)) = [(w', f), (w, g)]) :
    reach w s = if (f s).rst.msdUp then g (f s) else f s := by
  have up : s.rst.msdUp = true := ticking
  rw [reach, next, List.foldl_cons, List.foldl_cons, List.foldl_nil, up, if_pos rfl]

/-- An overrun of a window of MSD resets the part at level 0 (R61). -/
theorem overrun_msd {w : Overrun} (ticking : Ticking s) (released : s.rst.held0 = false) (msd : ∀ c, w ≠ .fn c) :
    Noted w s (overrun w s) ∧ (overrun w s).rst.cause.getLsbD 9 = true ∧ (overrun w s).rst.held0 = true ∧ (overrun w s).gen.gtc = 0 := by
  have up : s.rst.msdUp = true := ticking
  have eq : overrun w s = { raise .ovrMsd 0 0 (noteOverrun w s) with
      gen := { (raise .ovrMsd 0 0 (noteOverrun w s)).gen with ovrNow := true } } := by
    cases w
    case fn c => exact absurd rfl (msd c)
    all_goals
      unfold overrun
      rw [up]
      rfl
  have raised : raise .ovrMsd 0 0 (noteOverrun w s) = level0 .ovrMsd false s.gen.gtc (noteOverrun w s) := raise_level0 released
  rw [eq, raised]
  refine ⟨noteOverrun_noted.frame rfl rfl rfl, ?_, rfl, rfl⟩
  simp [level0, Source.num, noteOverrun]

/-- An overrun of a function resets that function (R61). -/
theorem overrun_fn {c : Byte} (ticking : Ticking s) (released : s.rst.held0 = false) (level : levelOf .ovrFn s ≠ 0) :
    Noted (.fn c) s (overrun (.fn c) s) ∧ (overrun (.fn c) s).rst.cause.getLsbD 10 = true ∧ (overrun (.fn c) s).rst.held0 = false ∧
      (overrun (.fn c) s).gen.gtc = s.gen.gtc := by
  have up : s.rst.msdUp = true := ticking
  have eq : overrun (.fn c) s = post 0x0F03 0xFF
      (leBytes 4 (overrunWord (raise .ovrFn (levelOf .ovrFn (noteOverrun (.fn c) s)) c.toNat (noteOverrun (.fn c) s))))
      (raise .ovrFn (levelOf .ovrFn (noteOverrun (.fn c) s)) c.toNat (noteOverrun (.fn c) s)) := by
    rw [overrun, up]
    rfl
  have raised : raise .ovrFn (levelOf .ovrFn (noteOverrun (.fn c) s)) c.toNat (noteOverrun (.fn c) s) =
      raiseLow .ovrFn (levelOf .ovrFn s) c.toNat 0 false (noteOverrun (.fn c) s) := raise_low released level
  obtain ⟨gen, held0, cause⟩ := raiseLow_effect (s := noteOverrun (.fn c) s) (src := .ovrFn) (level := levelOf .ovrFn s)
    (func := c.toNat) (ms := 0) (asserted := false)
  rw [eq, raised]
  generalize raiseLow .ovrFn (levelOf .ovrFn s) c.toNat 0 false (noteOverrun (.fn c) s) = v at gen held0 cause
  rw [post_rst, post_gen]
  refine ⟨(noteOverrun_noted.side gen).frame ?_ ?_ ?_, ?_, held0.trans released, ?_⟩
  · rw [post_gen]
  · rw [post_gen]
  · rw [post_gen]
  · rw [cause]
    simp [Source.num, noteOverrun]
  · rw [gen]
    rfl

/-- Settles O12. -/
theorem tickAndItsChecks : Obligations.TickAndItsChecks := by
  unfold Obligations.TickAndItsChecks
  refine ⟨fun s i ticking done ok => ⟨rfl, ?first, ?again⟩, fun s ticking => ⟨?metering, ?host, ?back, ?done, fun w => reach_reached, ?skip,
    ?enterBack, ?finish⟩, fun s i ticking done bad => ⟨?kept, ?lost, ?second⟩, fun s ticking reached due => ?telemetry,
    fun s w ticking released reached low => ?overrun⟩
  case first =>
    intro run
    have run0 : (retryEntries (takeHurts i (tickCount i s))).rst.mismatchRun = 0 := by
      rw [edgeStart_sameGenRst.2]
      exact run
    rw [exec_tickEdge ticking done, tickEdge, ok, if_neg Bool.false_ne_true, if_pos run0]
  case again =>
    intro run
    obtain ⟨gen, rst⟩ := edgeStart_sameGenRst (s := s) (i := i)
    have run1 : (retryEntries (takeHurts i (tickCount i s))).rst.mismatchRun ≠ 0 := by
      rw [rst]
      exact run
    rw [exec_tickEdge ticking done, tickEdge, ok, if_neg Bool.false_ne_true, if_neg run1]
    generalize retryEntries (takeHurts i (tickCount i s)) = v at gen rst run1
    obtain ⟨rRst, rGen, set⟩ := setReplace_effect (s := { v with rst := { v.rst with mismatchRun := 0 } }) (cause := 5)
    generalize setReplace 5 { v with rst := { v.rst with mismatchRun := 0 } } = r at rRst rGen set
    refine ⟨r, by rw [rRst], set, ?_, ?_, rfl⟩
    · have lost : v.gen.lost = (tickCount i s).gen.lost := congrArg Gen.lost gen
      rw [rGen]
      exact lost
    · have gtc : v.gen.gtc = (tickCount i s).gen.gtc := congrArg Gen.gtc gen
      rw [rGen]
      exact gtc
  case metering =>
    intro win
    exact reach_next ticking (by rw [win]; rfl)
  case host =>
    intro win
    exact reach_next ticking (by rw [win]; rfl)
  case back =>
    intro win
    exact reach_next ticking (by rw [win]; rfl)
  case done =>
    intro win
    exact reach_next ticking (by rw [win]; rfl)
  case skip =>
    intro m win first
    rw [first]
    exact reach_next_two (w' := .metering) (f := enterMetering) (g := enterHost) ticking (by rw [win]; rfl)
  case enterBack =>
    intro i c tin fgC
    rw [fgC]
    unfold Machine.enterBack
    split
    next absent =>
      rw [tin] at absent
      cases absent
    next j present =>
    have same : i = j := Option.some.inj (tin.symm.trans present)
    subst same
    extract_lets c
    by_cases inTime : i.fgEnd < 4200
    · rw [if_pos inTime, if_neg (Nat.not_le.2 inTime)]
    · rw [if_neg inTime, if_pos (Nat.not_lt.1 inTime)]
  case finish =>
    intro i tin
    rw [finishTick, tin]
    dsimp only
    by_cases inTime : i.bgEnd < 6000
    · rw [if_pos inTime, if_neg (Nat.not_le.2 inTime)]
    · rw [if_neg inTime, if_pos (Nat.not_lt.1 inTime)]
  case kept =>
    rw [edgeStart_sameGenRst.2]
    rfl
  case lost =>
    intro run
    have run0 : (retryEntries (takeHurts i (tickCount i s))).rst.mismatchRun = 0 := by
      rw [edgeStart_sameGenRst.2]
      exact run
    rw [exec_tickEdge ticking done, tickEdge, bad, if_pos rfl, if_pos run0]
  case second =>
    intro run
    have run1 : (retryEntries (takeHurts i (tickCount i s))).rst.mismatchRun ≠ 0 := by
      rw [edgeStart_sameGenRst.2]
      exact run
    rw [exec_tickEdge ticking done, tickEdge, bad, if_pos rfl, if_neg run1]
  case telemetry =>
    rw [exec_reached (act := fun s => .next (if s.rst.msdUp ∧ s.now % 64000 = 0 then takeTelemetry s else s)) reached rfl]
    dsimp only
    rw [if_pos ⟨ticking, due⟩]
    rfl
  case overrun =>
    have runs : exec (.tickOverrun w) s = .next (overrun w s) := by
      cases w with
      | fgSafety => rfl
      | fgMeter => exact congrArg (fun u => Host.Outcome.next (overrun .fgMeter u)) (reach_reached reached)
      | fgHost => exact congrArg (fun u => Host.Outcome.next (overrun .fgHost u)) (reach_reached reached)
      | bg => exact congrArg (fun u => Host.Outcome.next (overrun .bg u)) (reach_reached reached)
      | fn c => rfl
    refine ⟨overrun w s, runs, ?_⟩
    by_cases msd : ∀ c, w ≠ .fn c
    · obtain ⟨noted, cause, held0, gtc⟩ := overrun_msd ticking released msd
      refine ⟨noted.ovr, noted.count, noted.gtc, ?_⟩
      cases w
      case fn c => exact absurd rfl (msd c)
      all_goals exact ⟨cause, held0, gtc⟩
    · obtain ⟨c, rfl⟩ : ∃ c, w = .fn c := by simpa using msd
      obtain ⟨noted, cause, held0, gtc⟩ := overrun_fn ticking released (low c rfl)
      exact ⟨noted.ovr, noted.count, noted.gtc, cause, held0, gtc⟩

end Sys2Proof.Proofs
end

section
set_option Elab.async false -- one theorem after another, which keeps Lean within its memory
/-! The timers of sensing and the benchmark calibration (O18). -/

namespace Sys2Proof.Proofs

open Sys2Proof Sys2Proof.Machine Sys2Proof.Safety Sys2Proof.Laws

variable {s t u : State}

/-- A step towards a target is at most `step` either way. -/
theorem limitedStep_le {bad : Bool} {g target step : Rat} (pos : 0 ≤ step) :
    (if bad then g else if target < g - step then g - step else if g + step < target then g + step else target) - g ≤ step ∧
      g - (if bad then g else if target < g - step then g - step else if g + step < target then g + step else target) ≤ step := by
  split
  · constructor <;> linarith
  split
  · constructor <;> linarith
  split
  · constructor <;> linarith
  · constructor <;> linarith

/-- A calibration step takes up the second and moves the gain of the next tick by at most 2 ppm (R106). -/
theorem benchStep_effect {sums : Int × Int} :
    ∃ g, (benchStep sums s).adc.second = none ∧ (benchStep sums s).adc.gainNext = some g ∧
      g - s.adc.gain ≤ 2 / 1000000 ∧ s.adc.gain - g ≤ 2 / 1000000 ∧ (benchStep sums s).adc.gain = s.adc.gain := by
  unfold benchStep
  extract_lets mean temp e diff absE bad filt filt' lo hi out target step g g'
  clear_value target bad out filt' temp
  have bounds : g' - s.adc.gain ≤ step ∧ s.adc.gain - g' ≤ step := limitedStep_le (by norm_num [step])
  refine ⟨g', ?_⟩
  split
  rename_i fault fa _
  split
  rename_i clamp ca _
  dsimp only
  split
  · rw [setReplace_adc]
    exact ⟨rfl, rfl, bounds.1, bounds.2, rfl⟩
  · exact ⟨rfl, rfl, bounds.1, bounds.2, rfl⟩

/-- The decimation changes the words that are still inside the filters (R96), not the hold of an overload. -/
theorem decimate_words (d : SlotDec) (mods : BitVec 96) :
    ∃ x bits s2 s3, decimate d mods = (x, { d with bits := bits, s2 := s2, s3 := s3 }) := ⟨_, _, _, _, rfl⟩

/-- The hold of an overload over one tick (R105). -/
theorem slotTick_hold {gain : Rat} {f60 : Bool} {type : Nat} {inv : Bool} {k : Fin 72} {d : SlotDec} {mods : BitVec 96} (used : type ≠ 0) :
    (slotTick gain f60 type inv k d mods).1.holdTicks = (match d.holdNext with | some _ => 6 | none => d.holdTicks - 1) ∧
      (slotTick gain f60 type inv k d mods).1.holdNeg = (match d.holdNext with | some n => n | none => d.holdNeg) ∧
      (slotTick gain f60 type inv k d mods).1.holdNext = none ∧
      (0 < d.holdTicks → (slotTick gain f60 type inv k d mods).1.clamped = true ∧ (slotTick gain f60 type inv k d mods).2.1 = true) := by
  obtain ⟨x4, bits, s2, s3, filtered⟩ := decimate_words d mods
  unfold slotTick
  rw [if_neg used, filtered]
  dsimp only
  cases d.holdNext with
  | none =>
    exact ⟨rfl, rfl, rfl, fun pos => by simp [pos]⟩
  | some n =>
    exact ⟨rfl, rfl, rfl, fun pos => by simp [pos]⟩

/-- Settles O18. -/
theorem sensingAndBenchmark : Obligations.SensingAndBenchmark := by
  unfold Obligations.SensingAndBenchmark
  refine ⟨fun s => ⟨fun g t0 set due => ?settle, fun k neg ticking used => ?overload, fun gain f60 type inv k d mods r used eq => ?slot,
    fun n p eq active due => ?pulse⟩, fun s => ⟨fun sums reached second h0 h1 h2 => ?bench, fun ticking due => ?save, fun sum first => ?tmp⟩⟩
  case settle =>
    have runs : exec (.settlingEnd g) s = execSettlingEnd g s := rfl
    rw [runs, execSettlingEnd, set]
    dsimp only
    rw [if_pos due]
  case overload =>
    have runs : exec (.mtrOverload k neg) s = execMtrOverload k neg s := rfl
    have up : s.rst.msdUp = true := ticking
    rw [runs, execMtrOverload, up, decide_eq_true used]
    rfl
  case slot =>
    obtain ⟨ticks, neg, next, held⟩ := slotTick_hold (gain := gain) (f60 := f60) (inv := inv) (k := k) (d := d) (mods := mods) used
    rw [eq]
    refine ⟨fun n h => ⟨?_, ?_, next⟩, fun h => ?_, held⟩
    · rw [ticks, h]
    · rw [neg, h]
    · rw [ticks, h]
  case pulse =>
    subst eq
    have runs : exec (.pulseEnd n) s = execPulseEnd n s := rfl
    rw [runs, execPulseEnd]
    dsimp only
    rw [if_pos ⟨active, due⟩]
  case bench =>
    obtain ⟨g, none, next, up, down, kept⟩ := benchStep_effect (s := s) (sums := sums)
    refine ⟨benchStep sums s, g, ?_, none, next, up, down, kept⟩
    rw [exec_reached (act := runBenchmarkCalibration) reached rfl, runBenchmarkCalibration, second]
    dsimp only
    rw [if_pos ⟨h0, h1, h2⟩]
  case save =>
    exact congrArg Host.Outcome.next (if_pos ⟨ticking, due⟩)
  case tmp =>
    have runs : exec .mtrTmpFirstWrite s = execMtrTmpFirstWrite s := rfl
    rw [runs, execMtrTmpFirstWrite, first]
    rfl

end Sys2Proof.Proofs
end

section
set_option Elab.async false -- one theorem after another, which keeps Lean within its memory
/-! Raw capture, unsealing (O19), correction records and the metering reads (O20). -/

namespace Sys2Proof.Proofs

open Sys2Proof Sys2Proof.Machine Sys2Proof.Safety Sys2Proof.Laws

variable {s : State} {f : Flight}

/-- A long operation is queued behind the others, and its descriptor keeps running, where the queue has room (R56). -/
theorem askLong_room {kind : OpKind} {steps : Nat} {req : Requester} {slots : List (Fin 32)} (room : s.key.queue.length < 32) :
    askLong f kind steps req slots s = keepRunning f (requestLong kind steps req slots s) := by
  rw [askLong, longCount, if_neg (Nat.not_le.2 room)]

theorem askLong_full {kind : OpKind} {steps : Nat} {req : Requester} {slots : List (Fin 32)} (full : 32 ≤ longCount s) :
    askLong f kind steps req slots s = completeSt f .busy s := by
  rw [askLong, if_pos full]

/-- An unsealing with its fields in range (R92). -/
theorem mtrUnseal_inRange (slot : f.p 16 1 = 2 ∨ f.p 16 1 = 3) (len : f.bufLen = 80) :
    mtrUnseal f s = if !s.adc.sealed ∨ s.adc.sealCount = 0xFFFF then completeSt f .conflict s
      else if f.inBuf.take 16 ≠ unsealMessage s then completeSt f .integrity s
      else match slotCheck (Fin.ofNat 32 (f.p 16 1)) 1 s with
        | some st => completeSt f st s
        | none => askLong f .unseal 131 (.unseal f.seq) [Fin.ofNat 32 (f.p 16 1)] s := by
  rw [mtrUnseal, if_neg (not_or.2 ⟨not_not.2 slot, not_not.2 len⟩)] <;> rfl

/-- The message of the seal goes to the check of the key. -/
theorem mtrUnseal_message (slot : f.p 16 1 = 2 ∨ f.p 16 1 = 3) (len : f.bufLen = 80) (sealed : s.adc.sealed = true)
    (count : s.adc.sealCount ≠ 0xFFFF) (message : f.inBuf.take 16 = unsealMessage s) :
    mtrUnseal f s = match slotCheck (Fin.ofNat 32 (f.p 16 1)) 1 s with
      | some st => completeSt f st s
      | none => askLong f .unseal 131 (.unseal f.seq) [Fin.ofNat 32 (f.p 16 1)] s := by
  rw [mtrUnseal_inRange slot len, if_neg (by simpa [sealed] using count), if_neg (not_not.2 message)]

/-- The samples of a capture that is complete leave with its completion (R111). -/
theorem rawDone_complete {c : Capture} (capture : s.adc.capture = some c) (running : c.aborted = false) (all : c.count ≤ c.done)
    (due : c.first + c.count ≤ s.now) (held : flight? c.seq s = some f) :
    rawDone s = complete f .ok (b2n c.early + 2 * b2n c.cfgChange) (leBytes 6 c.first ++ leBytes 2 c.done ++ leBytes 1 (b2n c.clamped))
      (some (c.words.reverse.flatMap fun w => leBytes 4 w.toNat)) { s with adc := { s.adc with capture := none } } := by
  have found : flight? c.seq { s with adc := { s.adc with capture := none } } = some f := held
  unfold rawDone
  rw [capture]
  dsimp only
  rw [if_pos (by simp [all, due]), completeSeq, found, running]
  rfl

/-- Settles O19. -/
theorem rawCaptureAndUnseal : Obligations.RawCaptureAndUnseal := by
  unfold Obligations.RawCaptureAndUnseal
  refine ⟨fun s f => ⟨?capture, ?abortNone, ?abort, ?done⟩, fun s f front => ⟨?range, fun slot len => ⟨?closed, ?sealed⟩⟩,
    fun s f => ⟨?invalid, ?key⟩⟩
  case capture =>
    intro slots c front eq some lo hi tap start len cEq
    have inRange : ¬((maskSlots (f.p 24 9)).isEmpty ∨ f.p 34 2 = 0 ∨ 4096 < f.p 34 2 ∨ 2 < f.p 33 1 ∨ s.now + 64000 < f.p 16 6 ∨
        f.bufLen ≠ 4 * f.p 34 2 * (maskSlots (f.p 24 9)).length) := by
      rw [← eq, List.isEmpty_iff]
      simp only [some, false_or, not_or, not_not]
      omega
    have act : mtrRawCapture f s = if s.adc.capture.isSome then completeSt f .busy s
        else keepRunning f { s with adc := { s.adc with capture := Option.some c } } := by
      rw [mtrRawCapture, if_neg inRange, cEq, eq]
    refine ⟨fun free => ?_, fun taken => ?_⟩
    · rw [exec_front (act := mtrRawCapture) front rfl, act, free]
      rfl
    · rw [exec_front (act := mtrRawCapture) front rfl, act, if_pos (Option.isSome_iff_ne_none.2 taken)]
  case abortNone =>
    intro front none
    rw [exec_front (act := mtrRawAbort) front rfl, mtrRawAbort, none]
  case abort =>
    intro c front capture
    rw [exec_front (act := mtrRawAbort) front rfl, mtrRawAbort, capture]
  case done =>
    intro c reached capture running all due held
    rw [exec_reached (act := runRawCaptureDone) reached rfl, runRawCaptureDone, rawDone_complete capture running all due held]
  case range =>
    intro out
    have out' : ¬(f.p 16 1 = 2 ∨ f.p 16 1 = 3) ∨ f.bufLen ≠ 80 := by rwa [not_or]
    rw [exec_front (act := mtrUnseal) front rfl, mtrUnseal, if_pos out']
  case closed =>
    intro conflict
    rw [exec_front (act := mtrUnseal) front rfl, mtrUnseal_inRange slot len, if_pos (by simpa using conflict)]
  case sealed =>
    intro sealed count
    refine ⟨fun other => ?_, fun message usable room => ?_⟩
    · rw [exec_front (act := mtrUnseal) front rfl, mtrUnseal_inRange slot len, if_neg (by simpa [sealed] using count)]
      exact congrArg Host.Outcome.next (if_pos other)
    · rw [exec_front (act := mtrUnseal) front rfl, mtrUnseal_message slot len sealed count message, usable]
      exact congrArg Host.Outcome.next (askLong_room room)
  case invalid =>
    intro front out
    have out' : (maskSlots (f.p 24 9)).isEmpty ∨ f.p 34 2 = 0 ∨ 4096 < f.p 34 2 ∨ 2 < f.p 33 1 ∨ s.now + 64000 < f.p 16 6 ∨
        f.bufLen ≠ 4 * f.p 34 2 * (maskSlots (f.p 24 9)).length := by rwa [List.isEmpty_iff]
    rw [exec_front (act := mtrRawCapture) front rfl, mtrRawCapture, if_pos out']
  case key =>
    intro front slot len sealed count message
    refine ⟨fun st check => ?_, fun usable full => ?_⟩
    · rw [exec_front (act := mtrUnseal) front rfl, mtrUnseal_message slot len sealed count message, check]
    · rw [exec_front (act := mtrUnseal) front rfl, mtrUnseal_message slot len sealed count message, usable]
      exact congrArg Host.Outcome.next (askLong_full full)

/-- No correction record passes while the seal is set (R92). -/
theorem corrCheck_sealed {recs : List (List Byte)} (sealed : s.adc.sealed = true) (some : recs ≠ []) : corrCheck s recs ≠ none := by
  cases recs with
  | nil => exact absurd rfl some
  | cons r rs =>
    unfold corrCheck
    rw [List.zipIdx_cons, List.findSome?_cons]
    dsimp only
    cases parseCorr r with
    | none => simp
    | some kc =>
      dsimp only
      rw [sealed, if_pos rfl]
      split
      · exact Option.some_ne_none _
      next passed =>
        split at passed
        · exact absurd passed (Option.some_ne_none _)
        · exact absurd passed (Option.some_ne_none _)

theorem targetGroup_outlet {n : Outlet8} (h : f.target.toNat = n.val) : (targetGroup f).val = n.val := by
  have other : f.target ≠ 0xFF := fun e => by
    rw [e] at h
    have := n.isLt
    simp at h
    omega
  rw [targetGroup, if_neg other, h]
  have := n.isLt
  simp [Fin.ofNat]
  omega

/-- Settles O20. -/
theorem correctionsAndReads : Obligations.CorrectionsAndReads := by
  unfold Obligations.CorrectionsAndReads
  refine ⟨fun s f => ⟨?write, ?read, ?readRange⟩, fun s f => ⟨?quant, ?noQuant, ?accAll, ?acc, ?watch, ?watchRange⟩, ?writeRange⟩
  case write =>
    intro front whole lo hi recs eq
    have act : mtrCorrWrite f s = match corrCheck s recs with
        | some (i, st) => complete f st i [] none s
        | none => complete f .ok 0 (leBytes 1 (f.bufLen / 112)) none
            { s with nrg := { s.nrg with pendCorr := s.nrg.pendCorr ++ recs.filterMap parseCorr } } := by
      rw [mtrCorrWrite, if_neg (by omega), eq] <;> rfl
    refine ⟨fun pass => ?_, fun i st fails => ?_, corrCheck_sealed⟩
    · rw [exec_front (act := mtrCorrWrite) front rfl, act, pass]
    · rw [exec_front (act := mtrCorrWrite) front rfl, act, fails]
  case read =>
    intro h front len
    rw [exec_front (act := mtrCorrRead) front rfl, mtrCorrRead, dif_pos h, if_pos len]
  case readRange =>
    intro front out
    rw [exec_front (act := mtrCorrRead) front rfl, mtrCorrRead]
    split
    next h => rw [if_neg (by omega)]
    next => rfl
  case quant =>
    intro q front quant
    rw [exec_front (act := mtrQuantRead) front rfl, mtrQuantRead, quant]
  case noQuant =>
    intro front quant
    rw [exec_front (act := mtrQuantRead) front rfl, mtrQuantRead, quant]
  case accAll =>
    intro front all
    have g : targetGroup f = 8 := by rw [targetGroup, if_pos all]
    rw [exec_front (act := mtrAccRead) front rfl, mtrAccRead, g]
    rfl
  case acc =>
    intro n front target
    have g := targetGroup_outlet target
    rw [exec_front (act := mtrAccRead) front rfl, mtrAccRead]
    dsimp only
    rw [dif_pos (g ▸ n.isLt)]
    simp only [g]
  case watch =>
    intro front lo hi len
    exact ⟨_, (exec_front (act := mtrWatchRead) front rfl).trans (congrArg Host.Outcome.next (if_neg (by omega)))⟩
  case watchRange =>
    intro front out
    rw [exec_front (act := mtrWatchRead) front rfl, mtrWatchRead, if_pos out]
  case writeRange =>
    intro s f front out
    rw [exec_front (act := mtrCorrWrite) front rfl, mtrCorrWrite, if_pos out]

end Sys2Proof.Proofs
end

section
set_option Elab.async false -- one theorem after another, which keeps Lean within its memory
/-! The end of a cycle and the current-only watch (O21), and the seconds of the clock (O22). -/

namespace Sys2Proof.Proofs

open Sys2Proof Sys2Proof.Machine Sys2Proof.Safety Sys2Proof.Laws

variable {s t u : State} {g : Group}

/-- Energy and the tick are as they were. -/
def SameNrg (s t : State) : Prop := t.nrg = s.nrg ∧ t.gen = s.gen

theorem SameNrg.trans (h : SameNrg s t) (e : SameNrg t u) : SameNrg s u := ⟨e.1.trans h.1, e.2.trans h.2⟩

theorem SameNrg.of_snd {α : Type} {p : α × State} {a : α} (e : p = (a, t)) (h : SameNrg s p.2) : SameNrg s t := by
  rw [e] at h
  exact h

theorem drawNat_sameNrg : SameNrg s (drawNat s).2 := by
  unfold drawNat
  exact ⟨rfl, rfl⟩

theorem pfPhi_sameNrg {p q s2 i2 : Rat} : SameNrg s (pfPhi p q s2 i2 s).2 := by
  unfold pfPhi
  split
  rename_i pf v made
  have h1 : SameNrg s v := by
    split at made
    · cases made
      exact drawNat_sameNrg
    · cases made
      exact ⟨rfl, rfl⟩
  split
  · exact h1
  split
  · exact h1.trans drawNat_sameNrg
  · exact h1

theorem angleOrFree_sameNrg {d : CycleDue} {p : Fin 3} {nominal : Rat} : SameNrg s (angleOrFree d p nominal s).2 := by
  unfold angleOrFree
  split
  · split
    · exact ⟨rfl, rfl⟩
    · exact drawNat_sameNrg
  · exact drawNat_sameNrg

/-- The quantities of a cycle draw on the values that the manual leaves open, and change nothing else. -/
theorem quantOf_sameNrg {d : CycleDue} : SameNrg s (quantOf g d s).2 := by
  unfold quantOf
  extract_lets m base vp nominal
  split
  · exact ⟨rfl, rfl⟩
  · split
    rename_i a s1 e1
    have h1 : SameNrg s s1 := .of_snd e1 pfPhi_sameNrg
    split
    rename_i b s2 e2
    have h2 : SameNrg s s2 := h1.trans (.of_snd e2 pfPhi_sameNrg)
    split
    rename_i c s3 e3
    have h3 : SameNrg s s3 := h2.trans (.of_snd e3 pfPhi_sameNrg)
    split
    rename_i angB s4 e4
    have h4 : SameNrg s s4 := h3.trans (.of_snd e4 angleOrFree_sameNrg)
    split
    rename_i angC s5 e5
    exact h4.trans (.of_snd e5 angleOrFree_sameNrg)

/-- The quantities of the cycle that waited in group `g` stand with the tick `now` (R133). -/
structure CycleFormed (g : Group) (now : Tick) (gtc : W48) (t : State) : Prop where
  due : (t.nrg.cyc[g.val]).due = none
  quant : (t.nrg.cyc[g.val]).quant.isSome = true
  tick : (t.nrg.cyc[g.val]).quantTick = now
  gtc : t.gen.gtc = gtc

section
variable {now : Tick} {gtc : W48}

theorem CycleFormed.frame (h : CycleFormed g now gtc t) (cyc : u.nrg.cyc = t.nrg.cyc) (gen : u.gen = t.gen) : CycleFormed g now gtc u :=
  ⟨by rw [cyc, h.due], by rw [cyc, h.quant], by rw [cyc, h.tick], by rw [gen, h.gtc]⟩

/-- The alarms of a cycle are kept beside its quantities. -/
theorem CycleFormed.put {c : Cycle} (h : CycleFormed g now gtc t) (due : c.due = (t.nrg.cyc[g.val]).due)
    (quant : c.quant = (t.nrg.cyc[g.val]).quant) (tick : c.quantTick = (t.nrg.cyc[g.val]).quantTick) :
    CycleFormed g now gtc { t with nrg := { t.nrg with cyc := t.nrg.cyc.set g.val c } } := by
  refine ⟨?_, ?_, ?_, h.gtc⟩
  all_goals rw [Vector.getElem_set_self]
  · rw [due, h.due]
  · rw [quant, h.quant]
  · rw [tick, h.tick]

theorem CycleFormed.post {code target : Nat} {data : List Byte} (h : CycleFormed g now gtc t) :
    CycleFormed g now gtc (Machine.post code target data t) :=
  h.frame (by rw [post_nrg]) (by rw [post_gen])

theorem checkSequence_formed {q : Quant} (h : CycleFormed g now gtc t) : CycleFormed g now gtc (checkSequence g q t) := by
  unfold checkSequence
  extract_lets c put tgt
  split
  · exact h
  split
  · exact h
  extract_lets wrong c' data
  have kept : c'.due = c.due ∧ c'.quant = c.quant ∧ c'.quantTick = c.quantTick := by
    unfold c'
    split <;> exact ⟨rfl, rfl, rfl⟩
  obtain ⟨due, quant, tick⟩ := kept
  clear_value c'
  have hput : ∀ x : Cycle, x.due = c'.due → x.quant = c'.quant → x.quantTick = c'.quantTick → CycleFormed g now gtc (put x t) :=
    fun x hd hq ht => h.put (hd.trans due) (hq.trans quant) (ht.trans tick)
  split
  · exact (hput _ (by rfl) (by rfl) (by rfl)).post
  split
  · exact (hput _ (by rfl) (by rfl) (by rfl)).post
  · exact hput c' rfl rfl rfl

theorem checkNeutral_formed {n : Outlet8} {m : CycleSums} (h : CycleFormed ⟨n.val, by omega⟩ now gtc t) :
    CycleFormed ⟨n.val, by omega⟩ now gtc (checkNeutral n m t) := by
  unfold checkNeutral
  extract_lets g c all v mean3 dev worst hit c' unb data put
  split
  · exact h
  have kept : c'.due = c.due ∧ c'.quant = c.quant ∧ c'.quantTick = c.quantTick := by
    unfold c'
    split <;> exact ⟨rfl, rfl, rfl⟩
  obtain ⟨due, quant, tick⟩ := kept
  clear_value c'
  have hput : ∀ x : Cycle, x.due = c'.due → x.quant = c'.quant → x.quantTick = c'.quantTick → CycleFormed ⟨n.val, by omega⟩ now gtc (put x t) :=
    fun x hd hq ht => h.put (hd.trans due) (hq.trans quant) (ht.trans tick)
  split
  · exact (hput _ (by rfl) (by rfl) (by rfl)).post
  split
  · exact (hput _ (by rfl) (by rfl) (by rfl)).post
  · exact hput c' rfl rfl rfl

/-- Interpolating the gains and delays of a group leaves its cycles alone. -/
theorem interpolateGroup_formed {m : CycleSums} (h : CycleFormed g now gtc t) : CycleFormed g now gtc (interpolateGroup g m t) := by
  unfold interpolateGroup
  extract_lets one s1
  have hone : ∀ v k x, CycleFormed g now gtc v → CycleFormed g now gtc (one v k x) := by
    intro v k x hv
    unfold one
    split
    · exact hv.frame rfl rfl
    · exact hv
  have h1 : CycleFormed g now gtc s1 := by
    unfold s1
    exact List.foldlRecOn _ _ h fun v hv p _ => hone v _ _ hv
  split
  · exact hone _ _ _ h1
  · exact h1

theorem openVoltCheck_formed {n : Outlet8} {q : Quant} (h : CycleFormed g now gtc t) : CycleFormed g now gtc (openVoltCheck n q t) := by
  unfold openVoltCheck
  extract_lets o
  split
  · split
    · exact h.frame rfl rfl
    · exact h
  · exact h

theorem loadCheck_formed {n : Outlet8} {q : Quant} (h : CycleFormed g now gtc t) : CycleFormed g now gtc (loadCheck n q t) := by
  unfold loadCheck
  extract_lets o
  split
  · split
    · exact h
    split
    · exact h.frame rfl rfl
    · exact h.frame rfl rfl
  · exact h

theorem sessionCycle_formed {n : Outlet8} (h : CycleFormed g now gtc t) : CycleFormed g now gtc (sessionCycle n t) := by
  unfold sessionCycle
  split
  next q _ =>
    have h1 : CycleFormed g now gtc (modOut n (overCheck q t.now) t) := h.frame rfl rfl
    exact openVoltCheck_formed (loadCheck_formed h1)
  · exact h

end

/-- The end of a cycle forms the quantities from the sums that wait (R133). -/
theorem formCycle_formed (due : (s.nrg.cyc[g.val]).due.isSome = true) : CycleFormed g s.now s.gen.gtc (formCycle g s) := by
  unfold formCycle
  split
  next none => rw [none] at due; cases due
  next d _ =>
  extract_lets m
  split
  rename_i q s1 made
  have same : SameNrg s s1 := .of_snd made quantOf_sameNrg
  extract_lets c c' nrg s2 s3
  have h1 : CycleFormed g s.now s.gen.gtc { s1 with nrg := { s1.nrg with cyc := s1.nrg.cyc.set g.val c' } } := by
    refine ⟨?_, ?_, ?_, congrArg Gen.gtc same.2⟩
    all_goals rw [Vector.getElem_set_self]
    · rfl
    · exact congrArg (fun x : Gen => x.gtc.toNat) same.2
  have h2 : CycleFormed g s.now s.gen.gtc s2 := interpolateGroup_formed h1
  have h3 : CycleFormed g s.now s.gen.gtc s3 := by
    unfold s3
    split
    · exact h2
    · exact checkSequence_formed h2
  split
  · split
    · exact h3
    · exact checkNeutral_formed (n := ⟨g.val, _⟩) h3
  · exact h3

/-- The watch of an outlet counts no window. -/
theorem watchOutlet_windows {n : Outlet8} {phases : BitVec 3} {rms : List Nat} {sec frac : Nat} {w : Watch} :
    (watchOutlet n phases rms sec frac w).windows = w.windows := by
  unfold watchOutlet
  extract_lets o on val top above
  split
  · rfl
  split
  · extract_lets r'
    split
    · split <;> rfl
    · rfl
  · split
    · split <;> rfl
    · rfl

/-- The watch after the outlets have seen a window. -/
def watchAfter (outs : Byte) (phs : List (BitVec 3)) (mods : List (BitVec 51200)) (s : State) : Watch :=
  (allFin 8).foldl (fun w n =>
    if outs.getLsbD n.val && decide (phs.getD n.val 0 ≠ 0) then
      watchOutlet n (phs.getD n.val 0) (outletRms n mods s) s.clk.sec (min 63999 (s.clk.frac + (12800 - s.tam.since))) w
    else w) { s.watch with windows := s.watch.windows + 1 }

theorem watchAfter_windows {outs : Byte} {phs : List (BitVec 3)} {mods : List (BitVec 51200)} :
    (watchAfter outs phs mods s).windows = s.watch.windows + 1 := by
  unfold watchAfter
  refine List.foldlRecOn (motive := fun w : Watch => w.windows = s.watch.windows + 1) _ _ rfl fun w kept n _ => ?_
  split
  · rw [watchOutlet_windows, kept]
  · exact kept

/-- The end of the watch closes the record of every outlet. -/
theorem endWatch_watch {kind : Nat} :
    ∃ w : Watch, endWatch kind s = { s with watch := w } ∧ w.running = false ∧ ∀ n : Outlet8, (w.out[n.val]).openRec = none := by
  unfold endWatch
  extract_lets w
  exact ⟨_, rfl, rfl, fun n => congrArg WatchOutlet.openRec (Vector.getElem_replicate ..)⟩

/-- Settles O21. -/
theorem cyclesAndWatch : Obligations.CyclesAndWatch := by
  unfold Obligations.CyclesAndWatch
  refine ⟨fun s g reached due => ?cycle, fun s h outs phs armed => ⟨fun starting => ?start, fun mods running => ?window,
    fun running hours => ?expiry, fun running => ?low⟩⟩
  case cycle =>
    have formed := formCycle_formed (g := g) due
    have runs : exec (.cycleEnd g) s = .next (if h : g.val < 8 then sessionCycle ⟨g.val, h⟩ (formCycle g s) else formCycle g s) := by
      rw [exec_reached (act := runCycleEnd g) reached rfl, runCycleEnd, if_pos due]
    have final : CycleFormed g s.now s.gen.gtc (if h : g.val < 8 then sessionCycle ⟨g.val, h⟩ (formCycle g s) else formCycle g s) := by
      split
      · exact sessionCycle_formed formed
      · exact formed
    exact ⟨_, runs, final.due, final.quant, final.tick, final.gtc⟩
  case start =>
    have runs : exec .watchStart s = execWatchStart s := rfl
    rw [runs, execWatchStart, armed]
    dsimp only
    rw [if_pos starting]
  case window =>
    have windows := watchAfter_windows (s := s) (outs := outs) (phs := phs) (mods := mods)
    have runs : exec (.watchWindowEnd mods) s = .next { s with
        watch := { watchAfter outs phs mods s with bits := watchMemory mods s }
        clk := { s.clk with frac := min 63999 (s.clk.frac + (12800 - s.tam.since)) }
        tam := { s.tam with since := 0 } } := by
      have runs : exec (.watchWindowEnd mods) s = execWatchWindowEnd mods s := rfl
      rw [runs, execWatchWindowEnd, armed]
      dsimp only
      rw [if_pos running]
      rfl
    generalize watchAfter outs phs mods s = w at runs windows
    exact ⟨_, runs, windows, rfl, rfl, rfl⟩
  case expiry =>
    obtain ⟨w, eq, ends, closed⟩ := endWatch_watch (s := s) (kind := 1)
    have runs : exec .watchHoursExpiry s = execWatchHoursExpiry s := rfl
    rw [execWatchHoursExpiry, armed] at runs
    dsimp only at runs
    rw [if_pos ⟨running, hours⟩, eq] at runs
    exact ⟨_, runs, ends, rfl, closed, rfl⟩
  case low =>
    obtain ⟨w, eq, ends, closed⟩ := endWatch_watch (s := s) (kind := 2)
    have runs : exec .watchCellLow s = execWatchCellLow s := rfl
    rw [execWatchCellLow, if_pos running, eq] at runs
    exact ⟨_, runs, ends, rfl, closed, rfl⟩

/-- Settles O22. -/
theorem secondsOfTheClock : Obligations.SecondsOfTheClock := by
  unfold Obligations.SecondsOfTheClock
  refine ⟨fun s up open_ => ⟨_, rfl, rfl, rfl, rfl, ?minute, ?interval, rfl⟩, fun s => ⟨fun temp => rfl, fun ticking reached slew => ?slew⟩⟩
  case minute =>
    simp [secondFlags, up, open_]
  case interval =>
    simp [secondFlags, up, open_, lNom]
  case slew =>
    refine ⟨postClock 1 s.clk.slewDelta { s with clk := { s.clk with slew := none } }, ?_, ?_, ?_⟩
    · rw [exec_reached (act := runSlewDone) reached rfl, runSlewDone, if_pos ⟨ticking, slew⟩]
    · rw [postClock, post_clk]
    · rw [postClock, post_clk]
      exact post_hostOnly ..

end Sys2Proof.Proofs
end

section
set_option Elab.async false -- one theorem after another, which keeps Lean within its memory
/-! What leaves the clock alone (R158 to R170). -/

namespace Sys2Proof.Proofs

open Sys2Proof Sys2Proof.Machine Sys2Proof.Safety Sys2Proof.Laws

/-- The clock is as it was. -/
def SameClk (s t : State) : Prop := t.clk = s.clk

variable {s0 s t : State}

theorem SameClk.frame (h : SameClk s0 s) (e : SameClk s t) : SameClk s0 t := e.trans h

/-- The other units may change freely. -/
theorem SameClk.units {gen fuse rst hif jnl adc nrg watch bill prn ppy tam ses saf vlk sct bkb upl nfc tag lcd lmp lsw key upd
    mem outbox lastRead free pending} (h : SameClk s0 s) :
    SameClk s0 ⟨gen, fuse, rst, hif, jnl, adc, nrg, watch, bill, s.clk, prn, ppy, tam, ses, saf, vlk, sct, bkb, upl, nfc, tag,
    lcd, lmp, lsw, key, upd, mem, outbox, lastRead, free, pending⟩ := h

theorem SameClk.ite {c : Prop} [Decidable c] {a b : State} (ha : SameClk s0 a) (hb : SameClk s0 b) :
    SameClk s0 (if c then a else b) := by
  split
  · exact ha
  · exact hb

theorem SameClk.of_snd {α : Type} {p : α × State} {a : α} (e : p = (a, t)) (h : SameClk s0 p.2) : SameClk s0 t := by
  rw [e] at h
  exact h

theorem SameClk.ite_snd {α : Type} {c : Prop} [Decidable c] {a b : α × State} (ha : SameClk s0 a.2) (hb : SameClk s0 b.2) :
    SameClk s0 (if c then a else b).2 := by
  split
  · exact ha
  · exact hb

theorem SameClk.foldl {α : Type} {f : State → α → State} {l : List α} (hf : ∀ t a, SameClk s0 t → SameClk s0 (f t a))
    (h : SameClk s0 s) : SameClk s0 (l.foldl f s) := by
  induction l generalizing s with
  | nil => exact h
  | cons a l ih => exact ih (hf s a h)

theorem SameClk.foldl_snd {α β : Type} {f : β × State → α → β × State} {l : List α} {b : β}
    (hf : ∀ b t a, SameClk s0 t → SameClk s0 (f (b, t) a).2) (h : SameClk s0 s) : SameClk s0 (l.foldl f (b, s)).2 := by
  induction l generalizing s b with
  | nil => exact h
  | cons a l ih => exact ih (b := (f (b, s) a).1) (hf b s a h)

theorem forFin_sameClk {k : Nat} {f : Fin k → State → State} (hf : ∀ i t, SameClk s0 t → SameClk s0 (f i t)) (h : SameClk s0 s) :
    SameClk s0 (forFin k f s) := by
  unfold forFin
  exact .foldl (fun t i ht => hf i t ht) h

theorem post_sameClk {code target data} (h : SameClk s0 s) : SameClk s0 (post code target data s) := (post_clk ..).trans h

theorem holdLate_sameClk {code target data} (h : SameClk s0 s) : SameClk s0 (holdLate code target data s) := by
  unfold holdLate
  exact .units h

theorem postLate_sameClk {code target data} (h : SameClk s0 s) : SameClk s0 (postLate code target data s) := by
  unfold postLate
  exact .ite (holdLate_sameClk h) (post_sameClk h)

theorem holdDone_sameClk {seq st data} (h : SameClk s0 s) : SameClk s0 (holdDone seq st data s) := by
  unfold holdDone
  exact .units h

theorem modBill_sameClk {n f} (h : SameClk s0 s) : SameClk s0 (modBill n f s) := by
  unfold modBill
  exact .units h

theorem openPart_sameClk {flags n} (h : SameClk s0 s) : SameClk s0 (openPart flags n s) := by
  unfold openPart
  exact modBill_sameClk h

theorem openRetro_sameClk {flags n} (h : SameClk s0 s) : SameClk s0 (openRetro flags n s) := by
  unfold openRetro
  exact modBill_sameClk h

theorem closePart_sameClk {flags closesIvl n} (h : SameClk s0 s) : SameClk s0 (closePart flags closesIvl n s) := by
  unfold closePart
  extract_lets b1
  split
  · exact h
  · exact post_sameClk (modBill_sameClk h)

theorem closeEmpty_sameClk {n} (h : SameClk s0 s) : SameClk s0 (closeEmpty n s) := by
  unfold closeEmpty
  exact closePart_sameClk (openPart_sameClk h)

theorem modAcc_sameClk {n f} (h : SameClk s0 s) : SameClk s0 (modAcc n f s) := by
  unfold modAcc
  exact .units h

theorem postPpy_sameClk {n cause} (h : SameClk s0 s) : SameClk s0 (postPpy n cause s) := by
  unfold postPpy
  exact postLate_sameClk h

theorem evalFriendly_sameClk {n} (h : SameClk s0 s) : SameClk s0 (evalFriendly n s) := by
  unfold evalFriendly
  exact .ite h (postPpy_sameClk (modAcc_sameClk h))

theorem evalEmergency_sameClk {n} (h : SameClk s0 s) : SameClk s0 (evalEmergency n s) := by
  unfold evalEmergency
  exact .ite (postPpy_sameClk (modAcc_sameClk (.ite (postPpy_sameClk (.ite h (modAcc_sameClk h))) (.ite h (modAcc_sameClk h))))) (.ite
      (postPpy_sameClk (.ite h (modAcc_sameClk h))) (.ite h (modAcc_sameClk h)))

theorem evalCredit_sameClk {n} (h : SameClk s0 s) : SameClk s0 (evalCredit n s) := by
  unfold evalCredit
  exact .ite h (.ite (.ite (.units (postPpy_sameClk (modAcc_sameClk h))) (postPpy_sameClk (modAcc_sameClk h))) (.ite (postPpy_sameClk
      (modAcc_sameClk h)) (modAcc_sameClk h)))

theorem evalAccount_sameClk {n} (h : SameClk s0 s) : SameClk s0 (evalAccount n s) := by
  unfold evalAccount
  exact evalCredit_sameClk (evalEmergency_sameClk h)

end Sys2Proof.Proofs
end

section
set_option Elab.async false -- one theorem after another, which keeps Lean within its memory
/-! Interval boundaries, minute edges and the step of the clock (O23). -/

namespace Sys2Proof.Proofs

open Sys2Proof Sys2Proof.Machine Sys2Proof.Safety Sys2Proof.Laws

variable {s t u : State}

/-! ### One outlet among the eight -/

/-- What one step of a pass over all indices does, where the others keep the state before it and the state after it. -/
theorem forFin_one {k : Nat} {n : Fin k} {f : Fin k → State → State} {P Q : State → Prop} (before : ∀ m t, m ≠ n → P t → P (f m t))
    (own : ∀ t, P t → Q (f n t)) (after : ∀ m t, m ≠ n → Q t → Q (f m t)) (h : P s) : Q (forFin k f s) := by
  have pass : ∀ (l : List (Fin k)) (t : State), l.Nodup → n ∈ l → P t → Q (l.foldl (fun s i => f i s) t) := by
    intro l
    induction l with
    | nil => exact fun _ _ absent _ => absurd absent List.not_mem_nil
    | cons m l ih =>
      intro t distinct mem ht
      obtain ⟨notIn, rest⟩ := List.nodup_cons.1 distinct
      rw [List.foldl_cons]
      by_cases here : m = n
      · subst here
        exact List.foldlRecOn l _ (own t ht) fun v hv i hi => after i v (fun e => notIn (e ▸ hi)) hv
      · exact ih _ rest ((List.mem_cons.1 mem).resolve_left (Ne.symm here)) (before m t here ht)
  exact pass _ _ (List.nodup_finRange k) (List.mem_finRange n) h

/-! ### The registers of an outlet -/

theorem modBill_self {n : Outlet8} {f : Bill → Bill} : ((modBill n f s).bill[n.val]) = { f s.bill[n.val] with dirty := true } :=
  vmod_self _ _ _

theorem modBill_other {n m : Outlet8} {f : Bill → Bill} (h : m ≠ n) : ((modBill m f s).bill[n.val]) = s.bill[n.val] :=
  vmod_other _ _ _ _ h

theorem noteDemand_recs {rate ivlS dImp dExp : Nat} {b : Bill} :
    (noteDemand rate ivlS dImp dExp b).recs = b.recs ∧ (noteDemand rate ivlS dImp dExp b).nextIr = b.nextIr := by
  unfold noteDemand
  split <;> exact ⟨rfl, rfl⟩

theorem closePart_other {flags : W16} {ends : Bool} {n m : Outlet8} (h : m ≠ n) :
    (closePart flags ends m s).bill[n.val] = s.bill[n.val] := by
  unfold closePart
  extract_lets b
  split
  · rfl
  · extract_lets eImp eExp ticks last dImp dExp excl rateFlag fl rec_ s1
    rw [post_bill]
    exact modBill_other h

/-- An outlet closes its open record under the next IRSEQ (R176). -/
theorem closePart_self {flags : W16} {ends : Bool} {n : Outlet8} (open_ : (s.bill[n.val]).regs.part.isSome = true) :
    ((closePart flags ends n s).bill[n.val]).nextIr = (s.bill[n.val]).nextIr + 1 ∧
      (((closePart flags ends n s).bill[n.val]).recs.head?.map IRec.irseq) = some (s.bill[n.val]).nextIr := by
  unfold closePart
  extract_lets b
  split
  next none => simp [b, none] at open_
  next p _ =>
    extract_lets eImp eExp ticks last dImp dExp excl rateFlag fl rec_ s1
    have self : (post 0x0205 n.val (leBytes 4 rec_.irseq ++ leBytes 2 fl.toNat) s1).bill[n.val] = s1.bill[n.val] := by rw [post_bill]
    rw [self]
    unfold s1
    rw [modBill_self]
    dsimp only
    split
    · obtain ⟨recs, next⟩ := noteDemand_recs (rate := s.clk.rate) (ivlS := p.ivlS) (dImp := dImp) (dExp := dExp)
        (b := { s.bill[n.val] with recs := (rec_ :: (s.bill[n.val]).recs).take 2880, nextIr := (s.bill[n.val]).nextIr + 1 })
      rw [recs, next]
      exact ⟨rfl, rfl⟩
    · exact ⟨rfl, rfl⟩

theorem openPart_other {flags : W16} {n m : Outlet8} (h : m ≠ n) : (openPart flags m s).bill[n.val] = s.bill[n.val] := modBill_other h

/-- A record opens beside the closed ones. -/
theorem openPart_self {flags : W16} {n : Outlet8} : ((openPart flags n s).bill[n.val]).nextIr = (s.bill[n.val]).nextIr ∧
    ((openPart flags n s).bill[n.val]).recs = (s.bill[n.val]).recs ∧ ((openPart flags n s).bill[n.val]).regs.part.isSome = true := by
  rw [openPart, modBill_self]
  exact ⟨rfl, rfl, rfl⟩

theorem everyClose_bill {flags : W16} {ends : Bool} {n : Outlet8} (open_ : (s.bill[n.val]).regs.part.isSome = true) :
    ((everyOutlet (closePart flags ends) s).bill[n.val]).nextIr = (s.bill[n.val]).nextIr + 1 ∧
      (((everyOutlet (closePart flags ends) s).bill[n.val]).recs.head?.map IRec.irseq) = some (s.bill[n.val]).nextIr := by
  refine forFin_one (n := n) (P := fun t => t.bill[n.val] = s.bill[n.val])
    (Q := fun t => (t.bill[n.val]).nextIr = (s.bill[n.val]).nextIr + 1 ∧
      ((t.bill[n.val]).recs.head?.map IRec.irseq) = some (s.bill[n.val]).nextIr)
    (fun m t other kept => ?_) (fun t kept => ?_) (fun m t other done => ?_) rfl
  · rw [closePart_other other, kept]
  · rw [← kept] at open_ ⊢
    exact closePart_self open_
  · rw [closePart_other other]
    exact done

theorem everyOpen_bill {flags : W16} {n : Outlet8} : ((everyOutlet (openPart flags) s).bill[n.val]).nextIr = (s.bill[n.val]).nextIr ∧
    ((everyOutlet (openPart flags) s).bill[n.val]).recs = (s.bill[n.val]).recs ∧
    ((everyOutlet (openPart flags) s).bill[n.val]).regs.part.isSome = true := by
  refine forFin_one (n := n) (P := fun t => t.bill[n.val] = s.bill[n.val])
    (Q := fun t => (t.bill[n.val]).nextIr = (s.bill[n.val]).nextIr ∧ (t.bill[n.val]).recs = (s.bill[n.val]).recs ∧
      (t.bill[n.val]).regs.part.isSome = true)
    (fun m t other kept => ?_) (fun t kept => ?_) (fun m t other done => ?_) rfl
  · rw [openPart_other other, kept]
  · rw [← kept]
    exact openPart_self
  · rw [openPart_other other]
    exact done

/-! ### The clock -/

theorem everyOutlet_sameClk {s0 : State} {f : Outlet8 → State → State} (hf : ∀ n t, SameClk s0 t → SameClk s0 (f n t)) (h : SameClk s0 s) :
    SameClk s0 (everyOutlet f s) := forFin_sameClk hf h

theorem everyClose_clk {flags : W16} {ends : Bool} : (everyOutlet (closePart flags ends) s).clk = s.clk :=
  everyOutlet_sameClk (s0 := s) (fun _ _ h => closePart_sameClk h) rfl

theorem everyOpen_clk {flags : W16} : (everyOutlet (openPart flags) s).clk = s.clk :=
  everyOutlet_sameClk (s0 := s) (fun _ _ h => openPart_sameClk h) rfl

theorem everyEmpty_clk : (everyOutlet closeEmpty s).clk = s.clk :=
  everyOutlet_sameClk (s0 := s) (fun _ _ h => closeEmpty_sameClk h) rfl

theorem everyRetro_clk {flags : W16} : (everyOutlet (openRetro flags) s).clk = s.clk :=
  everyOutlet_sameClk (s0 := s) (fun _ _ h => openRetro_sameClk h) rfl

theorem postClock_clk {cause : Nat} {delta : Int} : (postClock cause delta s).clk = s.clk := post_clk ..

/-- A new rate is in force, with the calendar's DST; the rest of the clock stands. -/
theorem evalRate_clk {cause : Nat} : ∃ dst, (evalRate cause s).clk = { s.clk with rate := rateAt s.clk.active s.clk.sec, dst := dst } := by
  unfold evalRate
  extract_lets r dst cause' old clk s1 s2
  have h2 : s2.clk = s1.clk := everyOutlet_sameClk (s0 := s1) (fun n t h => .ite h (modBill_sameClk h)) rfl
  refine ⟨dst, ?_⟩
  split
  · exact h2
  · rw [post_clk]
    exact h2

theorem evalAccounts_clk : (forFin 8 (fun n s => evalAccount n (evalFriendly n s)) s).clk = s.clk :=
  forFin_sameClk (s0 := s) (fun _ _ h => evalAccount_sameClk (evalFriendly_sameClk h)) rfl

/-- The boundary of an interval moves nothing of the clock but the interval (R174). -/
theorem intervalBoundary_clk : ∃ due last act,
    (intervalBoundary s).clk = { s.clk with ivlDue := due, lastClosed := last, ivlActive := act } := by
  unfold intervalBoundary
  split
  · extract_lets clk s1 act
    have h1 : s1.clk = { s.clk with ivlDue := false } := everyClose_clk
    clear_value s1
    have moved : ∀ last, ({ s1.clk with lastClosed := last, ivlActive := act } : Clock) =
        { s.clk with ivlDue := false, lastClosed := last, ivlActive := act } := fun last => by rw [h1]
    exact ⟨false, s1.clk.sec, act, everyOpen_clk.trans (moved _)⟩
  · exact ⟨_, _, _, rfl⟩

/-- A new rate, and a calendar that begins, move no time. -/
theorem minuteTariff_time : (minuteTariff s).clk.sec = s.clk.sec ∧ (minuteTariff s).clk.frac = s.clk.frac := by
  have rate : ∀ (cause : Nat) (u : State), (evalRate cause u).clk.sec = u.clk.sec ∧ (evalRate cause u).clk.frac = u.clk.frac := by
    intro cause u
    obtain ⟨dst, eq⟩ := evalRate_clk (s := u) (cause := cause)
    rw [eq]
    exact ⟨rfl, rfl⟩
  unfold minuteTariff
  split
  · exact ⟨rfl, rfl⟩
  split
  · split
    · exact rate _ _
    · exact rate _ _
  · exact rate _ _

/-- The minute edge moves no time. -/
theorem minuteEdge_time : (minuteEdge s).clk.sec = s.clk.sec ∧ (minuteEdge s).clk.frac = s.clk.frac := by
  obtain ⟨due, last, act, eq⟩ := intervalBoundary_clk (s := s)
  unfold minuteEdge
  extract_lets s1 clk s3
  have h1 : s1.clk.sec = s.clk.sec ∧ s1.clk.frac = s.clk.frac := by
    unfold s1
    rw [eq]
    exact ⟨rfl, rfl⟩
  split
  · have h3 : s3.clk.sec = s1.clk.sec ∧ s3.clk.frac = s1.clk.frac := minuteTariff_time
    rw [evalAccounts_clk]
    exact ⟨h3.1.trans h1.1, h3.2.trans h1.2⟩
  · exact h1

/-- The clock stands at the instant `new`, in 1/64 ms, and no step is pending. -/
structure MovedTo (new : Nat) (t : State) : Prop where
  pending : t.clk.stepPend = none
  synced : t.clk.unsynced = false
  sec : t.clk.sec = new / 64000
  frac : t.clk.frac = new % 64000

theorem MovedTo.frame {new : Nat} (h : MovedTo new t) (pending : u.clk.stepPend = t.clk.stepPend) (synced : u.clk.unsynced = t.clk.unsynced)
    (sec : u.clk.sec = t.clk.sec) (frac : u.clk.frac = t.clk.frac) : MovedTo new u :=
  ⟨pending.trans h.pending, synced.trans h.synced, sec.trans h.sec, frac.trans h.frac⟩

theorem MovedTo.clk {new : Nat} (h : MovedTo new t) (same : u.clk = t.clk) : MovedTo new u :=
  h.frame (by rw [same]) (by rw [same]) (by rw [same]) (by rw [same])

theorem MovedTo.evalRate {new cause : Nat} (h : MovedTo new t) : MovedTo new (evalRate cause t) := by
  obtain ⟨dst, eq⟩ := evalRate_clk (s := t) (cause := cause)
  exact h.frame (by rw [eq]) (by rw [eq]) (by rw [eq]) (by rw [eq])

theorem MovedTo.everyOpen {new : Nat} {flags : W16} (h : MovedTo new t) : MovedTo new (everyOutlet (openPart flags) t) := h.clk everyOpen_clk

theorem MovedTo.openAfterJump {new : Nat} (h : MovedTo new t) : MovedTo new (openAfterJump t) := by
  unfold Machine.openAfterJump
  extract_lets start late
  exact MovedTo.everyOpen (h.frame rfl rfl rfl rfl)

/-- A step puts the clock at the time set, in each of its cases (R165). -/
theorem moveClock_movedTo {delta : Int} : MovedTo (rtcTicks s + delta * 64).toNat (moveClock delta s) := by
  unfold moveClock
  extract_lets new start stop sec sync move set s1 s2 s3
  change MovedTo new _
  have setTo : ∀ v : State, MovedTo new (set v) := fun v => ⟨rfl, rfl, rfl, rfl⟩
  clear_value new
  split
  · split
    · exact setTo s1
    · have h2 : ∀ v : State, v.clk = s2.clk → MovedTo new (sync v) := by
        intro v same
        have moved : MovedTo new (sync s2) := ⟨rfl, rfl, rfl, rfl⟩
        have synced : (sync v).clk = (sync s2).clk := congrArg (fun c : Clock => { c with unsynced := false }) same
        exact moved.clk synced
      have h3 : MovedTo new s3 := by
        unfold s3
        split
        · exact (h2 s2 rfl).everyOpen
        · exact (h2 (everyOutlet closeEmpty s2) everyEmpty_clk).openAfterJump
      exact h3.evalRate
  split
  · refine MovedTo.clk ?_ postClock_clk
    refine MovedTo.clk ?_ everyRetro_clk
    exact (setTo (everyOutlet (closePart 3 false) s1)).frame rfl rfl rfl rfl
  split
  · exact MovedTo.evalRate (MovedTo.everyOpen (setTo _))
  · exact MovedTo.evalRate (MovedTo.openAfterJump (setTo _))

theorem clockStep_movedTo {p : StepPend} : MovedTo (rtcTicks s + p.delta * 64).toNat (clockStep p s) := by
  unfold clockStep
  extract_lets t
  refine MovedTo.clk moveClock_movedTo ?_
  exact SameClk.foldl (s0 := moveClock p.delta s) (fun _ _ h => holdDone_sameClk h) rfl

theorem closeRetro_clk {flags : W16} : (closeRetro flags s).clk = { s.clk with retro := false } := by
  unfold closeRetro
  extract_lets s1
  have h1 : s1.clk = s.clk := everyClose_clk
  rw [postClock_clk]
  exact congrArg (fun c : Clock => { c with retro := false }) h1

/-- Settles O23. -/
theorem intervalsAndDemand : Obligations.IntervalsAndDemand := by
  unfold Obligations.IntervalsAndDemand
  refine ⟨fun s reached due => ?boundary, fun s => ⟨fun reached due live passive => ?minute, fun p reached pending late => ?step,
    fun ticking reached retro caught => ⟨fun known => ?retro, fun restarted start => ?restarted⟩⟩⟩
  case boundary =>
    refine ⟨intervalBoundary s, ?_, ?_⟩
    · rw [exec_reached (act := runIntervalBoundary) reached rfl, runIntervalBoundary]
    unfold intervalBoundary
    rw [if_pos due]
    extract_lets clk s1 act
    have clk1 : s1.clk = { s.clk with ivlDue := false } := everyClose_clk
    have bill1 : ∀ n : Outlet8, (s.bill[n.val]).regs.part.isSome = true → (s1.bill[n.val]).nextIr = (s.bill[n.val]).nextIr + 1 ∧
        ((s1.bill[n.val]).recs.head?.map IRec.irseq) = some (s.bill[n.val]).nextIr := fun n open_ =>
      everyClose_bill (s := { s with clk := { s.clk with ivlDue := false } }) open_
    clear_value s1 act
    generalize opened : ({ s1 with clk := { s1.clk with lastClosed := s1.clk.sec, ivlActive := act } } : State) = s2
    have bill2 : s2.bill = s1.bill := by rw [← opened]
    have clk2 : s2.clk.ivlDue = false ∧ s2.clk.lastClosed = s.clk.sec := by
      rw [← opened, clk1]
      exact ⟨rfl, rfl⟩
    refine ⟨?_, ?_, fun n open_ => ?_⟩
    · rw [everyOpen_clk, clk2.1]
    · rw [everyOpen_clk, clk2.2]
    · obtain ⟨next, recs, isOpen⟩ := everyOpen_bill (s := s2) (flags := 0) (n := n)
      obtain ⟨closed, head⟩ := bill1 n open_
      rw [bill2] at next recs
      exact ⟨next.trans closed, by rw [recs, head], isOpen⟩
  case minute =>
    obtain ⟨ivlDue, last, act, eq⟩ := intervalBoundary_clk (s := s)
    refine ⟨minuteEdge s, ?_, ?_⟩
    · rw [exec_reached (act := runRtcMinuteEdge) reached rfl, runRtcMinuteEdge]
    unfold minuteEdge
    extract_lets s1 clk s3
    have clk1 : s1.clk = { s.clk with ivlDue := ivlDue, lastClosed := last, ivlActive := act } := eq
    rw [if_pos (by rw [clk1]; exact due), evalAccounts_clk]
    unfold s3 clk
    clear_value s1
    generalize cleared : ({ s1 with clk := { s1.clk with minuteDue := false } } : State) = s2
    have clk2 : s2.clk = { s.clk with ivlDue := ivlDue, lastClosed := last, ivlActive := act, minuteDue := false } := by
      rw [← cleared, clk1]
    have tariff : minuteTariff s2 = evalRate 0 s2 := by
      unfold minuteTariff
      rw [clk2]
      dsimp only
      rw [live, if_neg Bool.false_ne_true, passive]
    obtain ⟨dst, rate⟩ := evalRate_clk (s := s2) (cause := 0)
    rw [tariff, rate, clk2]
    exact ⟨rfl, rfl, rfl⟩
  case step =>
    have moved := clockStep_movedTo (s := minuteEdge s) (p := p)
    obtain ⟨sec, frac⟩ := minuteEdge_time (s := s)
    refine ⟨stepNow s, ?_, ?_⟩
    · rw [exec_reached (act := runClockStep) reached rfl, runClockStep]
    have eq : stepNow s = forFin 8 (fun n s => evalAccount n (evalFriendly n s)) (clockStep p (minuteEdge s)) := by
      unfold stepNow
      rw [pending]
      exact if_pos late
    rw [eq, evalAccounts_clk, moved.sec, moved.frac, rtcTicks, sec, frac]
    exact ⟨moved.pending, moved.synced, rfl, rfl⟩
  case retro =>
    have open_ : ¬(s.clk.restarted = true ∧ s.clk.lastClosed = 0) := by
      rintro ⟨restarted, start⟩
      rcases known with h | h
      · rw [h] at restarted
        cases restarted
      · exact h start
    refine ⟨evalRate 4 (everyOutlet (openPart 1) (closeRetro 0 s)), ?_, ?_⟩
    · rw [exec_reached (act := runRetroClose) reached rfl, runRetroClose, if_pos ⟨ticking, retro, caught, open_⟩]
    obtain ⟨dst, rate⟩ := evalRate_clk (s := everyOutlet (openPart 1) (closeRetro 0 s)) (cause := 4)
    rw [rate, everyOpen_clk, closeRetro_clk]
    exact ⟨rfl, rfl⟩
  case restarted =>
    rw [exec_reached (act := runRetroClose) reached rfl, runRetroClose, if_neg fun h => h.2.2.2 ⟨restarted, start⟩]

end Sys2Proof.Proofs
end

section
set_option Elab.async false -- one theorem after another, which keeps Lean within its memory
/-! Signed readings and the tamper log (O25). -/

namespace Sys2Proof.Proofs

open Sys2Proof Sys2Proof.Machine Sys2Proof.Safety Sys2Proof.Laws

variable {s t u : State} {f : Flight}

/-! ### Snapshots -/

theorem mem_storePrn {r : PrnRec} {store : List PrnRec} : r ∈ storePrn r store := by
  unfold storePrn
  split
  · exact List.mem_cons_self
  · split <;> exact List.mem_cons_self

/-- A snapshot that waits for its signature is there under its counter. -/
def Waits (rctr rtype : Nat) (n : Outlet8) (flight : Option Nat) (t : State) : Prop :=
  ∃ r ∈ t.prn.store, r.rctr = rctr ∧ r.rtype = rtype ∧ r.outlet = n ∧ r.sig = none ∧ r.flight = flight

/-- Queuing signatures marks the records, and leaves RCTR and the billing registers alone. -/
theorem queuePrn_kept_waits {k : Nat} {rctr rtype : Nat} {n : Outlet8} {flight : Option Nat} (h : Waits rctr rtype n flight s) :
    Waits rctr rtype n flight (queuePrn k s) ∧ (queuePrn k s).prn.rctr = s.prn.rctr ∧ (queuePrn k s).bill = s.bill := by
  induction k generalizing s with
  | zero => exact ⟨h, rfl, rfl⟩
  | succ k ih =>
    unfold queuePrn
    split
    · exact ⟨h, rfl, rfl⟩
    next r _ =>
      split
      · extract_lets l
        obtain ⟨x, hx, fields⟩ := h
        have marked : Waits rctr rtype n flight (requestLong .prn 77 (.prn r.rctr) [0] { s with prn := { s.prn with store := l } }) := by
          refine ⟨_, List.mem_map.2 ⟨x, hx, rfl⟩, ?_⟩
          split <;> exact fields
        exact ih marked
      · exact ⟨h, rfl, rfl⟩

/-- A snapshot takes the next RCTR and waits for its signature (R177). -/
theorem storeSnapshot_stores {rtype : Nat} {n : Outlet8} {body : List Byte} {flight : Option Nat} (open_ : prnBlocked s = false) :
    Waits s.prn.rctr rtype n flight (storeSnapshot rtype n body flight s) ∧
      (storeSnapshot rtype n body flight s).prn.rctr = s.prn.rctr + 1 ∧ (storeSnapshot rtype n body flight s).bill = s.bill := by
  unfold storeSnapshot
  rw [open_, if_neg Bool.false_ne_true]
  extract_lets b r prn s1
  have stored : Waits s.prn.rctr rtype n flight s1 := ⟨r, mem_storePrn, rfl, rfl, rfl, rfl, rfl⟩
  exact queuePrn_kept_waits stored

/-- BIL_PRN_SIGN with its buffer in size, where it can be queued. -/
theorem bilPrnSign_stores (len : f.bufLen = 272) (open_ : prnBlocked s = false) (queue : longCount s < 32)
    (own : (s.prn.store.filter fun r => r.rtype == 0 && r.sig.isNone).length < 8) :
    Waits s.prn.rctr 0 f.outlet (some f.seq) (bilPrnSign f s) ∧ (bilPrnSign f s).prn.rctr = s.prn.rctr + 1 := by
  unfold bilPrnSign
  extract_lets waiting o
  rw [if_neg (not_not.2 len), open_, if_neg Bool.false_ne_true, if_neg (by omega)]
  obtain ⟨stored, next, -⟩ := storeSnapshot_stores (s := s) (rtype := 0) (n := f.outlet)
    (body := prnBody 0 f.outlet o.session (if o.session = 0 then 0 else o.authRef) s) (flight := some f.seq) open_
  exact ⟨stored, next⟩

/-! ### The tamper inputs -/

/-- An input that is off reads closed, and that is all. -/
theorem tamperInput_off {i : Fin 2} {high : Bool} (off : (s.tam.inp[i.val]).en = false) :
    ∃ x, tamperInput i high s = { s with tam := { s.tam with inp := s.tam.inp.set i.val x } } := by
  unfold tamperInput
  extract_lets x put n
  have off : x.en = false := off
  rw [off]
  exact ⟨_, rfl⟩

/-- The second sample that shows an opening counts it and logs it (R191). -/
theorem tamperInput_opens {high : Bool} (en : (s.tam.inp[0]).en = true) (closed : (s.tam.inp[0]).isOpen = false)
    (second : (s.tam.inp[0]).differ = 1) (calm : (s.tam.inp[0]).chatter = false) (first : (s.tam.inp[0]).changes = [])
    (shows : (high != (s.tam.inp[0]).pol) = true) :
    ∃ x : TamperIn, ∃ e : TamperRec, x.isOpen = true ∧ x.openings = (s.tam.inp[0]).openings + 1 ∧ e.tseq = s.tam.nextSeq ∧
      tamperInput 0 high s = { s with tam := { s.tam with
        inp := s.tam.inp.set 0 x, log := (e :: s.tam.log).take 64, nextSeq := s.tam.nextSeq + 1 } } := by
  unfold tamperInput
  extract_lets x put n level last at_ ch x2 s2
  have en : x.en = true := en
  have differs : level ≠ last.isOpen := by
    rw [show level = true from shows, show last.isOpen = false from closed]
    decide
  have counted : last.differ ≠ 0 := by
    rw [show last.differ = 1 from second]
    decide
  have quiet : x2.chatter = false := calm
  have few : ¬8 ≤ ch.length := by
    have : ch = [n] := by
      unfold ch
      rw [show last.changes = [] from first]
      rfl
    rw [this]
    exact Nat.not_le.2 (by simp)
  have isOpen : x2.isOpen = true := shows
  have openings : x2.openings = (s.tam.inp[0]).openings + 1 := by
    have one : b2n level = 1 := by rw [show level = true from shows]; rfl
    exact congrArg (fun k => (s.tam.inp[0]).openings + k) one
  rw [en, if_neg (by decide), if_neg differs, if_neg counted, quiet, if_neg Bool.false_ne_true, if_neg few]
  exact ⟨x2, _, isOpen, openings, rfl, rfl⟩

/-- The log entry that waits is copied under its number (R192). -/
theorem copyTamper_one {due : TamperRec → Bool} {e : TamperRec} (log : s.tam.log = [e]) (new : s.tam.posted < e.tseq) (now : due e = true) :
    (copyTamper due s).tam.copy = (e :: s.tam.copy).take 256 ∧ (copyTamper due s).tam.posted = e.tseq ∧
      HostOnly { s with tam := (copyTamper due s).tam, gen := { s.gen with lateEv := (copyTamper due s).gen.lateEv } } (copyTamper due s) := by
  unfold copyTamper
  extract_lets tam entries
  have one : entries = [e] := by simp [entries, tam, log, new, now]
  clear_value entries
  subst one
  dsimp only
  generalize copied : ({ s with tam := { tam with
    copy := ([e].reverse ++ tam.copy).take 256, posted := tam.posted + (e.tseq - (tam.posted + 1)) + 1 } } : State) = s1
  have copy1 : s1.tam.copy = (e :: s.tam.copy).take 256 := by rw [← copied]; rfl
  have posted1 : s1.tam.posted = e.tseq := by
    rw [← copied]
    change s.tam.posted + (e.tseq - (s.tam.posted + 1)) + 1 = e.tseq
    omega
  have rest1 : s1 = { s with tam := s1.tam } := by rw [← copied]
  rw [List.foldl_cons, List.foldl_nil]
  generalize counted : (if 0 < e.tseq - (tam.posted + 1) then _ else s1) = s2
  have events2 : EventsOnly s1 s2 := by
    rw [← counted]
    split
    · exact postLate_eventsOnly ..
    · rfl
  have events3 := EventsOnly.trans events2 (postLate_eventsOnly 0x0209 0xFF
    ([BitVec.ofNat 8 e.input.val, BitVec.ofNat 8 e.state, BitVec.ofNat 8 e.power] ++ leBytes 4 e.tseq) s2)
  generalize postLate 0x0209 0xFF _ s2 = s3 at events3
  unfold EventsOnly at events3
  have tam3 : s3.tam = s1.tam := by rw [events3]
  refine ⟨by rw [tam3, copy1], by rw [tam3, posted1], ?_⟩
  unfold HostOnly
  rw [tam3]
  refine events3.trans ?_
  rw [rest1]

/-- Settles O25. -/
theorem signedReadingsAndTamper : Obligations.SignedReadingsAndTamper := by
  unfold Obligations.SignedReadingsAndTamper
  refine ⟨fun s f => ⟨fun n d reached due ready tick open_ => ?snapshot, fun front len open_ queue own => ?sign, fun front len open_ full => ?busy,
    fun front len blocked => ?denied, fun front lo hi len => ?fetch, fun front root usable pair => ?key, fun c front which eq fits => ?cert⟩,
    fun s => ⟨fun a b en closed second calm first off shows => ?sample, fun i chatter quiet => ?chatter,
      fun e reached ready log new tick => ?copy, fun f front => ?read⟩,
    fun s f => ⟨fun front len => ?signRange, fun front out => ?fetchRange, fun front bad => ?keyFails, fun front root usable other => ?keyDenied,
      fun front which => ?certRange, fun c front which eq short => ?certShort⟩⟩
  case snapshot =>
    generalize drawn : ({ s with bill := s.bill.set n.val { s.bill[n.val] with due := none } } : State) = s1
    have open1 : prnBlocked s1 = false := by
      rw [← drawn]
      exact open_
    have rctr1 : s1.prn.rctr = s.prn.rctr := by rw [← drawn]
    have due1 : (s1.bill[n.val]).due = none := by
      rw [← drawn]
      exact congrArg Bill.due (Vector.getElem_set_self ..)
    have eq : endSnapshot n s = storeSnapshot 2 n (d.body.getD (prnBody 2 n d.session d.authRef s)) none s1 := by
      rw [endSnapshot, due, ← drawn]
    obtain ⟨⟨r, mem, num, rtype, outlet, sig, -⟩, next, bill⟩ := storeSnapshot_stores (rtype := 2) (n := n)
      (body := d.body.getD (prnBody 2 n d.session d.authRef s)) (flight := none) open1
    refine ⟨endSnapshot n s, ?_, ?_, ?_, ?_⟩
    · rw [exec_reached (act := runPrnEndSnapshot n) reached rfl, runPrnEndSnapshot, due]
      dsimp only
      rw [if_pos ⟨ready, tick⟩]
    · rw [eq, bill, due1]
    · rw [eq, next, rctr1]
    · rw [eq]
      exact ⟨r, mem, num.trans rctr1, rtype, outlet, sig⟩
  case sign =>
    obtain ⟨⟨r, mem, num, rtype, outlet, sig, flight⟩, next⟩ := bilPrnSign_stores len open_ queue own
    exact ⟨_, exec_front (act := bilPrnSign) front rfl, next, r, mem, num, rtype, outlet, sig, flight⟩
  case busy =>
    rw [exec_front (act := bilPrnSign) front rfl, bilPrnSign, if_neg (not_not.2 len), open_, if_neg Bool.false_ne_true, if_pos full]
  case denied =>
    rw [exec_front (act := bilPrnSign) front rfl, bilPrnSign, if_neg (not_not.2 len), blocked, if_pos rfl]
  case fetch =>
    exact ⟨_, _, (exec_front (act := bilPrnFetch) front rfl).trans (congrArg Host.Outcome.next (if_neg (by omega)))⟩
  case key =>
    rw [exec_front (act := bilPrnKeyRead) front rfl, bilPrnKeyRead]
    rw [if_neg (by simp [root, usable]), if_pos pair]
  case cert =>
    rw [exec_front (act := bilPrnCertRead) front rfl, bilPrnCertRead, ← eq]
    rw [if_neg (Nat.not_lt.2 which), if_neg (Nat.not_lt.2 fits)]
  case sample =>
    generalize begun : ({ s with
      clk := { s.clk with frac := if s.rst.msdUp then s.clk.frac else min 63999 (s.clk.frac + 2000) }
      tam := { s.tam with samples := s.tam.samples + 1, since := if s.watch.running then s.tam.since + 2000 else 0 } } : State) = s0
    have runs : exec (.tamperSample a b) s = .next (tamperInput 1 b (tamperInput 0 a s0)) := by rw [← begun]; rfl
    have tam0 : s0.tam.inp = s.tam.inp ∧ s0.tam.samples = s.tam.samples + 1 ∧ s0.tam.nextSeq = s.tam.nextSeq := by
      rw [← begun]
      exact ⟨rfl, rfl, rfl⟩
    obtain ⟨inp0, samples0, next0⟩ := tam0
    rw [← inp0] at en closed second calm first off shows ⊢
    obtain ⟨x, e, isOpen, openings, tseq, eq⟩ := tamperInput_opens en closed second calm first shows
    generalize tamperInput 0 a s0 = s1 at runs eq
    have off1 : (s1.tam.inp[1]).en = false := by
      rw [eq]
      simpa using off
    obtain ⟨y, eq2⟩ := tamperInput_off (i := 1) (high := b) off1
    generalize tamperInput 1 b s1 = s2 at runs eq2
    have inp2 : s2.tam.inp[0] = x := by
      rw [eq2, eq]
      simp
    refine ⟨s2, runs, ?_, ?_, ?_, ?_, ?_⟩
    · rw [eq2, eq]
      exact samples0
    · rw [inp2, isOpen]
    · rw [inp2, openings]
    · rw [eq2, eq]
      exact congrArg (· + 1) next0
    · rw [eq2, eq]
      exact congrArg some (tseq.trans next0)
  case chatter =>
    refine ⟨_, congrArg Host.Outcome.next (if_pos ⟨chatter, quiet⟩), ?_, rfl, rfl⟩
    exact congrArg TamperIn.chatter (Vector.getElem_set_self ..)
  case copy =>
    obtain ⟨copy, posted, rest⟩ := copyTamper_one (due := fun e => decide (e.tick < s.now)) log new (decide_eq_true tick)
    refine ⟨copyTamper (fun e => decide (e.tick < s.now)) s, ?_, copy, posted, rest⟩
    rw [exec_reached (act := runTamperCopy) reached rfl, runTamperCopy, if_pos ready]
  case read =>
    exact (exec_front front rfl).trans rfl
  case signRange =>
    rw [exec_front (act := bilPrnSign) front rfl, bilPrnSign, if_pos len]
  case fetchRange =>
    rw [exec_front (act := bilPrnFetch) front rfl, bilPrnFetch, if_pos out]
  case keyFails =>
    rw [exec_front (act := bilPrnKeyRead) front rfl, bilPrnKeyRead, if_pos bad]
  case keyDenied =>
    rw [exec_front (act := bilPrnKeyRead) front rfl, bilPrnKeyRead]
    rw [if_neg (by simp [root, usable]), if_neg other]
  case certRange =>
    rw [exec_front (act := bilPrnCertRead) front rfl, bilPrnCertRead, if_pos which]
  case certShort =>
    rw [exec_front (act := bilPrnCertRead) front rfl, bilPrnCertRead, ← eq]
    rw [if_neg (Nat.not_lt.2 which), if_pos short]

end Sys2Proof.Proofs
end

section
set_option Elab.async false -- one theorem after another, which keeps Lean within its memory
/-! Prepayment (O26). -/

namespace Sys2Proof.Proofs

open Sys2Proof Sys2Proof.Machine Sys2Proof.Safety Sys2Proof.Laws

variable {s t u : State} {f : Flight} {n : Outlet8}

/-! ### What an evaluation of the account can change -/

/-- An outlet's account in which only what is shown of it may differ: credit out, emergency credit available. -/
def shown (x y z : Bool) (p : Ppy) : Ppy := { p with acc := { p.acc with creditOut := x, emgAvail := y }, dirty := z }

/-- The accounts are as before, but for what the account of `n` shows. -/
def OnlyShown (n : Outlet8) (s t : State) : Prop := ∃ x y z, t.ppy = s.ppy.set n.val (shown x y z (s.ppy[n.val]))

theorem OnlyShown.of_ppy (same : t.ppy = s.ppy) : OnlyShown n s t :=
  ⟨(s.ppy[n.val]).acc.creditOut, (s.ppy[n.val]).acc.emgAvail, (s.ppy[n.val]).dirty, by rw [same]; exact (Vector.set_getElem_self ..).symm⟩

theorem OnlyShown.trans (first : OnlyShown n s t) (second : OnlyShown n t u) : OnlyShown n s u := by
  obtain ⟨x, y, z, first⟩ := first
  obtain ⟨x2, y2, z2, second⟩ := second
  exact ⟨x2, y2, z2, by simp [second, first, shown]⟩

theorem OnlyShown.self (h : OnlyShown n s t) : ∃ x y z, t.ppy[n.val] = shown x y z (s.ppy[n.val]) := by
  obtain ⟨x, y, z, h⟩ := h
  exact ⟨x, y, z, by simp [h]⟩

theorem OnlyShown.other (h : OnlyShown n s t) {k : Outlet8} (ne : k ≠ n) : t.ppy[k.val] = s.ppy[k.val] := by
  obtain ⟨x, y, z, h⟩ := h
  rw [h]
  exact Vector.getElem_set_ne _ _ fun e => ne (Fin.ext e.symm)

@[simp] theorem postPpy_ppy {cause : Nat} : (postPpy n cause s).ppy = s.ppy := postLate_ppy ..

theorem OnlyShown.postPpy {cause : Nat} (h : OnlyShown n s t) : OnlyShown n s (postPpy n cause t) := h.trans (.of_ppy postPpy_ppy)

theorem modAcc_onlyShown {g : Account → Account} (x y : Bool)
    (h : g (s.ppy[n.val]).acc = { (s.ppy[n.val]).acc with creditOut := x, emgAvail := y }) : OnlyShown n s (modAcc n g s) :=
  ⟨x, y, true, by simp [modAcc, vmod, shown, h]⟩

theorem evalCredit_onlyShown : OnlyShown n s (evalCredit n s) := by
  unfold evalCredit
  extract_lets a v s1 s2
  have credit : OnlyShown n s s1 := modAcc_onlyShown v (s.ppy[n.val]).acc.emgAvail rfl
  split
  · exact .of_ppy rfl
  · split
    · split
      · exact credit.postPpy.trans (.of_ppy rfl)
      · exact credit.postPpy
    · split
      · exact credit.postPpy
      · exact credit

/-- Without automatic activation, the evaluation of emergency credit only shows whether there is some. -/
theorem evalEmergency_onlyShown (manual : (s.ppy[n.val]).acc.set.autoEmg = false) : OnlyShown n s (evalEmergency n s) := by
  unfold evalEmergency
  extract_lets a v s1 s2
  have auto : (v && a.set.autoEmg) = false := by rw [show a.set.autoEmg = false from manual, Bool.and_false]
  have avail : OnlyShown n s s1 := by
    unfold s1
    split
    · exact .of_ppy rfl
    · exact modAcc_onlyShown (s.ppy[n.val]).acc.creditOut v rfl
  rw [auto, if_neg Bool.false_ne_true]
  unfold s2
  split
  · exact avail.postPpy
  · exact avail

theorem evalAccount_onlyShown (manual : (s.ppy[n.val]).acc.set.autoEmg = false) : OnlyShown n s (evalAccount n s) :=
  (evalEmergency_onlyShown manual).trans evalCredit_onlyShown

/-! ### An emergency request -/

/-- The request that is due is taken out and acted on. -/
theorem emergencyActivate_one {seq t0 : Nat} (req : (s.ppy[n.val]).emgReq = [(seq, t0)]) (before : t0 < s.now) :
    runEmergencyActivate n s = .next (activateReq n seq { s with ppy := s.ppy.set n.val { s.ppy[n.val] with emgReq := [] } }) := by
  simp [runEmergencyActivate, req, before]

/-- Emergency credit that is available is added to the emergency credit and to the debt (R184). -/
theorem activateReq_ok {seq : Nat} (inFlight : flight? seq s = some f) (avail : (s.ppy[n.val]).acc.emgOk = true) :
    ∃ x y z, (activateReq n seq s).ppy[n.val] = shown x y z { s.ppy[n.val] with acc := Account.activate (s.ppy[n.val]).acc } := by
  rw [activateReq, inFlight, Option.isNone_some, if_neg Bool.false_ne_true, if_pos avail]
  extract_lets s1
  have credit : OnlyShown n (postPpy n 3 (modAcc n Account.activate s)) s1 := evalCredit_onlyShown
  obtain ⟨x, y, z, self⟩ := credit.self
  refine ⟨x, y, z, self.trans ?_⟩
  rw [postPpy_ppy]
  rw [modAcc, vmod_self]
  rfl

/-- Emergency credit that is not available is refused with DENIED. -/
theorem activateReq_denied {seq : Nat} (inFlight : flight? seq s = some f) (none_ : (s.ppy[n.val]).acc.emgOk = false) :
    activateReq n seq s = holdDone seq .denied [] s := by
  rw [activateReq, inFlight, Option.isNone_some, if_neg Bool.false_ne_true, none_, if_neg Bool.false_ne_true]

/-! ### A top-up token -/

/-- What TOPUP_APPLY does for one outlet. -/
def applyPart (n : Outlet8) (s : State) : State :=
  ((s.ppy[n.val]).apply.filter fun e => decide (e.2.2.2 < s.now)).foldl (fun s e => applyToken n e s)
    { s with ppy := s.ppy.set n.val { s.ppy[n.val] with apply := (s.ppy[n.val]).apply.filter fun e => !decide (e.2.2.2 < s.now) } }

theorem applyPart_none (none_ : (s.ppy[n.val]).apply = []) : applyPart n s = s := by
  have same : ({ s.ppy[n.val] with apply := [] } : Ppy) = s.ppy[n.val] := by rw [← none_]
  simp [applyPart, none_, same]

/-- The outlet's tokens are taken out. -/
def tokensTaken (n : Outlet8) (s : State) : State := { s with ppy := s.ppy.set n.val { s.ppy[n.val] with apply := [] } }

theorem applyPart_one {e : Nat × Nat × Nat × Tick} (one : (s.ppy[n.val]).apply = [e]) (before : e.2.2.2 < s.now) :
    applyPart n s = applyToken n e (tokensTaken n s) := by
  simp [applyPart, one, before, tokensTaken]

/-- Where one outlet alone has a token due, TOPUP_APPLY applies that token. -/
theorem topupApply_one {e : Nat × Nat × Nat × Tick} (one : (s.ppy[n.val]).apply = [e]) (before : e.2.2.2 < s.now)
    (others : ∀ k : Outlet8, k ≠ n → (s.ppy[k.val]).apply = [])
    (kept : ∀ k : Outlet8, k ≠ n → ((applyToken n e (tokensTaken n s)).ppy[k.val]).apply = []) :
    forFin 8 applyPart s = applyToken n e (tokensTaken n s) :=
  forFin_one (n := n) (P := fun t => t = s) (Q := fun t => t = applyToken n e (tokensTaken n s))
    (fun _ _ ne same => by rw [same]; exact applyPart_none (others _ ne))
    (fun _ same => by rw [same]; exact applyPart_one one before)
    (fun m t ne same => by rw [same]; exact applyPart_none (kept m ne)) rfl

/-- The outlet's account after a token is the account topped up, under the new window. -/
theorem applyToken_self {seq tseq amount t0 h : Nat} {m : W64} (inFlight : flight? seq s = some f)
    (fresh : windowTest (s.ppy[n.val]).acc.h (s.ppy[n.val]).acc.mask tseq = some (h, m))
    (manual : (s.ppy[n.val]).acc.set.autoEmg = false) :
    (∀ k : Outlet8, k ≠ n → (applyToken n (seq, tseq, amount, t0) s).ppy[k.val] = s.ppy[k.val]) ∧
      ∃ x y z, (applyToken n (seq, tseq, amount, t0) s).ppy[n.val] =
        shown x y z { s.ppy[n.val] with acc := { (s.ppy[n.val]).acc.topUp amount with h := h, mask := m } } := by
  unfold applyToken
  dsimp only
  rw [inFlight, Option.isNone_some, if_neg Bool.false_ne_true, fresh]
  dsimp only
  generalize topped : postPpy n 6 (modAcc n (fun a => { a.topUp amount with h := h, mask := m }) s) = s1
  have ppy : s1.ppy = (modAcc n (fun a => { a.topUp amount with h := h, mask := m }) s).ppy := by rw [← topped]; exact postPpy_ppy
  have own : s1.ppy[n.val] = { s.ppy[n.val] with
      acc := { (s.ppy[n.val]).acc.topUp amount with h := h, mask := m }, dirty := true } := by
    rw [ppy]; simp [modAcc, vmod]
  have set_ : ((s.ppy[n.val]).acc.topUp amount).set = (s.ppy[n.val]).acc.set := by
    unfold Account.topUp
    extract_lets a part a2
    split <;> rfl
  have evaluated : OnlyShown n s1 (evalAccount n s1) := evalAccount_onlyShown (by rw [own]; exact set_ ▸ manual)
  refine ⟨fun k ne => ?_, ?_⟩
  · refine (evaluated.other ne).trans ?_
    rw [ppy]
    exact vmod_other _ _ _ _ ne.symm
  · obtain ⟨x, y, z, self⟩ := evaluated.self
    exact ⟨x, y, z, self.trans (by rw [own]; rfl)⟩

/-- D falls by the recovery share and C rises by the rest, where no emergency credit is in use (R186). -/
theorem topUp_effect {a : Account} {amount : Nat} (noEmergency : a.e = 0) :
    (a.topUp amount).topup = a.topup + amount ∧ (a.topUp amount).d = a.d - min a.d (amount * a.set.recovery / 100) ∧
      (a.topUp amount).c = a.c + ((amount : Nat) - min a.d (amount * a.set.recovery / 100)) := by
  unfold Account.topUp
  extract_lets a1 part a2
  have debt : a1.d = a.d := by simp [a1, noEmergency]
  have share : part = min a.d (amount * a.set.recovery / 100) := by unfold part; rw [debt]
  split <;> exact ⟨rfl, by rw [← share, ← debt], by rw [← share]⟩

/-- A number that the window has seen is CONFLICT at the second test. -/
theorem applyToken_conflict {seq tseq amount t0 : Nat} (inFlight : flight? seq s = some f)
    (seen : windowTest (s.ppy[n.val]).acc.h (s.ppy[n.val]).acc.mask tseq = none) :
    applyToken n (seq, tseq, amount, t0) s = holdDone seq .conflict [] s := by
  unfold applyToken
  dsimp only
  rw [inFlight, Option.isNone_some, if_neg Bool.false_ne_true, seen]

/-! ### The descriptor of a token -/

/-- The form of a top-up token for its outlet (R186). -/
def tokenForm (f : Flight) : Bool :=
  decide (f.bufLen = 96) && decide (beAt f.inBuf 0 2 = 0x5455) && decide (byteAt f.inBuf 2 = 1) && decide (beAt f.inBuf 20 4 = 0) &&
    decide (byteAt f.inBuf 3 = f.outlet.val) && decide (beAt f.inBuf 12 4 ≠ 0) && decide (beAt f.inBuf 16 4 ≠ 0)

/-- The token cannot be paid into this account. -/
def notPayable (f : Flight) (s : State) : Prop :=
  (s.ppy[f.outlet.val]).acc.set.enable = false ∨ beAt f.inBuf 4 8 ≠ s.fuse.serial.toNat ∨
    (beAt f.inBuf 24 8 ≠ 0 ∧ (beAt f.inBuf 24 8 < s.clk.sec ∨ s.clk.unsynced = true)) ∨
    1000000000000 < (s.ppy[f.outlet.val]).acc.c + beAt f.inBuf 16 4

theorem bilPpyTopup_form (bad : tokenForm f = false) : bilPpyTopup f s = completeSt f .invalid s := by
  unfold bilPpyTopup
  extract_lets a t tseq amount expiry
  refine if_pos ?_
  simp only [tokenForm, Bool.and_eq_false_iff, decide_eq_false_iff_not] at bad
  tauto

theorem bilPpyTopup_formed (good : tokenForm f = true) : bilPpyTopup f s =
    if (s.ppy[f.outlet.val]).acc.doubt then completeSt f .frozen s
    else if !(s.ppy[f.outlet.val]).acc.set.enable ∨ beAt f.inBuf 4 8 ≠ s.fuse.serial.toNat ∨
        (beAt f.inBuf 24 8 ≠ 0 ∧ (beAt f.inBuf 24 8 < s.clk.sec ∨ s.clk.unsynced)) ∨
        1000000000000 < (s.ppy[f.outlet.val]).acc.c + beAt f.inBuf 16 4 then completeSt f .denied s
    else if (windowTest (s.ppy[f.outlet.val]).acc.h (s.ppy[f.outlet.val]).acc.mask (beAt f.inBuf 12 4)).isNone then completeSt f .conflict s
    else if (slotCheck (Fin.ofNat 32 (s.ppy[f.outlet.val]).acc.set.keyslot) 1 s).isSome then
      completeSt f ((slotCheck (Fin.ofNat 32 (s.ppy[f.outlet.val]).acc.set.keyslot) 1 s).getD .ok) s
    else askLong f .topup 131 (.topup f.seq) [Fin.ofNat 32 (s.ppy[f.outlet.val]).acc.set.keyslot] s := by
  unfold bilPpyTopup
  extract_lets a t tseq amount expiry
  simp only [tokenForm, Bool.and_eq_true, decide_eq_true_eq] at good
  rw [if_neg (by tauto)]
  cases slotCheck (Fin.ofNat 32 a.set.keyslot) 1 s <;> rfl

theorem bilPpyTopup_doubt (good : tokenForm f = true) (doubt : (s.ppy[f.outlet.val]).acc.doubt = true) :
    bilPpyTopup f s = completeSt f .frozen s := by
  rw [bilPpyTopup_formed good, if_pos doubt]

theorem bilPpyTopup_denied (good : tokenForm f = true) (sure : (s.ppy[f.outlet.val]).acc.doubt = false) (not_ : notPayable f s) :
    bilPpyTopup f s = completeSt f .denied s := by
  rw [bilPpyTopup_formed good, sure, if_neg Bool.false_ne_true, if_pos]
  unfold notPayable at not_
  rcases not_ with disabled | rest
  · exact .inl (by rw [disabled]; rfl)
  · exact .inr rest

theorem bilPpyTopup_seen (good : tokenForm f = true) (sure : (s.ppy[f.outlet.val]).acc.doubt = false) (payable : ¬notPayable f s)
    (seen : windowTest (s.ppy[f.outlet.val]).acc.h (s.ppy[f.outlet.val]).acc.mask (beAt f.inBuf 12 4) = none) :
    bilPpyTopup f s = completeSt f .conflict s := by
  rw [bilPpyTopup_formed good, sure, if_neg Bool.false_ne_true, if_neg, seen]
  · rfl
  · rwa [Bool.not_eq_true']

theorem bilPpyTopup_asks (good : tokenForm f = true) (sure : (s.ppy[f.outlet.val]).acc.doubt = false) (payable : ¬notPayable f s)
    (fresh : (windowTest (s.ppy[f.outlet.val]).acc.h (s.ppy[f.outlet.val]).acc.mask (beAt f.inBuf 12 4)).isSome = true)
    (key : slotCheck (Fin.ofNat 32 (s.ppy[f.outlet.val]).acc.set.keyslot) 1 s = none) :
    bilPpyTopup f s = askLong f .topup 131 (.topup f.seq) [Fin.ofNat 32 (s.ppy[f.outlet.val]).acc.set.keyslot] s := by
  have fresh : (windowTest (s.ppy[f.outlet.val]).acc.h (s.ppy[f.outlet.val]).acc.mask (beAt f.inBuf 12 4)).isNone = false := by
    rw [Option.isNone_eq_false_iff]; exact fresh
  rw [bilPpyTopup_formed good, sure, if_neg Bool.false_ne_true, if_neg, fresh, if_neg Bool.false_ne_true, key]
  · rfl
  · rwa [Bool.not_eq_true']

/-! ### The settings -/

/-- Whether prepayment is enabled by the settings that wait, or else by those in force. -/
def enableNext (p : Ppy) : Bool := match p.pendSet with | some c => c.enable | none => p.acc.set.enable

theorem bilPpyConfig_len (len : f.bufLen ≠ 208) : bilPpyConfig f s = completeSt f .invalid s := by
  unfold bilPpyConfig
  exact if_pos len

theorem bilPpyConfig_form (bad : parsePpy f.inBuf = none) : bilPpyConfig f s = completeSt f .invalid s := by
  unfold bilPpyConfig
  rw [bad]
  exact ite_self _

theorem bilPpyConfig_parsed {c : PpySet} (len : f.bufLen = 208) (parsed : parsePpy f.inBuf = some c) : bilPpyConfig f s =
    if c.enable ≠ enableNext (s.ppy[f.outlet.val]) ∧ !(s.ses.out[f.outlet.val]).atRest then completeSt f .conflict s
    else completeSt f .ok { s with ppy := s.ppy.set f.outlet.val { s.ppy[f.outlet.val] with pendSet := some c } } := by
  unfold bilPpyConfig
  extract_lets p cur
  rw [parsed]
  exact if_neg (not_not.2 len)

/-- Settles O26. -/
theorem prepayment : Obligations.Prepayment := by
  unfold Obligations.Prepayment
  refine ⟨fun s f => ⟨fun c p front len parsed rest eq => ?config, fun front bad => ?form, fun p front eq => ?request,
      fun n t0 reached req before inFlight avail => ?activate, fun front => ?read⟩,
    fun s f n a eq => ⟨fun front on len magic version zero own seq amount sure enable serial noExpiry room => ⟨fun fresh key queue => ?asks, fun seen => ?seen⟩,
      fun tseq amount t0 h m reached one before inFlight others fresh noEmergency manual => ?apply⟩,
    fun s f => ⟨fun c p cur front len parsed eq eqCur => ⟨fun same => ?same, fun other busy => ?conflict⟩, fun front len => ?length,
      fun n t0 reached req before inFlight none_ => ?refused⟩,
    fun s f a ok front eq eqOk => ⟨fun bad => ?badForm, fun good doubt => ?doubt, fun good sure not_ => ?denied⟩,
    fun s f n tseq amount t0 reached one before inFlight others seen => ?again⟩
  case config =>
    refine (exec_front (act := bilPpyConfig) front rfl).trans (congrArg Host.Outcome.next ?_)
    rw [bilPpyConfig_parsed len parsed, rest, if_neg (fun h => Bool.false_ne_true h.2), eq]
  case form => exact (exec_front (act := bilPpyConfig) front rfl).trans (congrArg Host.Outcome.next (bilPpyConfig_form bad))
  case request =>
    rw [eq]
    exact exec_front (act := bilPpyEmergency) front rfl
  case activate =>
    refine ⟨_, (exec_reached (act := runEmergencyActivate n) reached rfl).trans (emergencyActivate_one req before), ?_⟩
    generalize taken : ({ s with ppy := s.ppy.set n.val { s.ppy[n.val] with emgReq := [] } } : State) = s1
    have own : s1.ppy[n.val] = { s.ppy[n.val] with emgReq := [] } := by rw [← taken]; exact Vector.getElem_set_self _
    have inFlight1 : flight? f.seq s1 = some f := by rw [← taken]; exact inFlight
    obtain ⟨x, y, z, self⟩ := activateReq_ok (n := n) inFlight1 (by rw [own]; exact avail)
    rw [self, own]
    exact ⟨rfl, rfl, rfl, rfl⟩
  case read => exact (exec_front front rfl).trans rfl
  case asks =>
    subst on eq
    have good : tokenForm f = true := by simp [tokenForm, len, magic, version, zero, own, seq, amount]
    refine (exec_front (act := bilPpyTopup) front rfl).trans (congrArg Host.Outcome.next ?_)
    rw [bilPpyTopup_asks good sure (by simp [notPayable, enable, serial, noExpiry, room]) fresh key, askLong_room queue]
  case seen =>
    subst on eq
    have good : tokenForm f = true := by simp [tokenForm, len, magic, version, zero, own, seq, amount]
    refine (exec_front (act := bilPpyTopup) front rfl).trans (congrArg Host.Outcome.next ?_)
    exact bilPpyTopup_seen good sure (by simp [notPayable, enable, serial, noExpiry, room]) seen
  case apply =>
    subst eq
    have own : (tokensTaken n s).ppy[n.val] = { s.ppy[n.val] with apply := [] } := Vector.getElem_set_self _
    have other : ∀ k : Outlet8, k ≠ n → (tokensTaken n s).ppy[k.val] = s.ppy[k.val] :=
      fun k ne => Vector.getElem_set_ne n.isLt k.isLt fun e => ne (Fin.ext e.symm)
    obtain ⟨kept, x, y, z, self⟩ := applyToken_self (n := n) (s := tokensTaken n s) (amount := amount) (t0 := t0) (h := h) (m := m)
      (seq := f.seq) (f := f) inFlight (by rw [own]; exact fresh) (by rw [own]; exact manual)
    have done := topupApply_one one before others fun k ne => by rw [kept k ne, other k ne, others k ne]
    obtain ⟨topup, debt, credit⟩ := topUp_effect (a := (s.ppy[n.val]).acc) (amount := amount) noEmergency
    refine ⟨_, (exec_reached (act := runTopupApply) reached rfl).trans (congrArg Host.Outcome.next done), ?_⟩
    rw [self, own]
    exact ⟨rfl, rfl, rfl, topup, debt, credit⟩
  case same =>
    refine (exec_front (act := bilPpyConfig) front rfl).trans (congrArg Host.Outcome.next ?_)
    have next : cur = enableNext (s.ppy[f.outlet.val]) := by rw [eqCur, eq]; rfl
    rw [bilPpyConfig_parsed len parsed, if_neg (fun h => h.1 (same.trans next)), eq]
  case conflict =>
    refine (exec_front (act := bilPpyConfig) front rfl).trans (congrArg Host.Outcome.next ?_)
    have next : cur = enableNext (s.ppy[f.outlet.val]) := by rw [eqCur, eq]; rfl
    rw [bilPpyConfig_parsed len parsed, if_pos ⟨fun e => other (e.trans next.symm), by rw [busy]; rfl⟩]
  case length => exact (exec_front (act := bilPpyConfig) front rfl).trans (congrArg Host.Outcome.next (bilPpyConfig_len len))
  case refused =>
    refine ⟨_, (exec_reached (act := runEmergencyActivate n) reached rfl).trans (emergencyActivate_one req before), ?_⟩
    generalize taken : ({ s with ppy := s.ppy.set n.val { s.ppy[n.val] with emgReq := [] } } : State) = s1
    have own : s1.ppy[n.val] = { s.ppy[n.val] with emgReq := [] } := by rw [← taken]; exact Vector.getElem_set_self _
    have inFlight1 : flight? f.seq s1 = some f := by rw [← taken]; exact inFlight
    have late : s1.gen = s.gen := by rw [← taken]
    rw [activateReq_denied inFlight1 (by rw [own]; exact none_), ← late]
    exact ⟨(congrArg Ppy.emgReq own).trans rfl, (congrArg Ppy.acc own).trans rfl, rfl⟩
  case badForm =>
    have form : tokenForm f = false := eqOk.symm.trans bad
    exact (exec_front (act := bilPpyTopup) front rfl).trans (congrArg Host.Outcome.next (bilPpyTopup_form form))
  case doubt =>
    subst eq
    exact (exec_front (act := bilPpyTopup) front rfl).trans (congrArg Host.Outcome.next (bilPpyTopup_doubt (eqOk.symm.trans good) doubt))
  case denied =>
    subst eq
    exact (exec_front (act := bilPpyTopup) front rfl).trans (congrArg Host.Outcome.next (bilPpyTopup_denied (eqOk.symm.trans good) sure not_))
  case again =>
    have own : (tokensTaken n s).ppy[n.val] = { s.ppy[n.val] with apply := [] } := Vector.getElem_set_self _
    have other : ∀ k : Outlet8, k ≠ n → (tokensTaken n s).ppy[k.val] = s.ppy[k.val] :=
      fun k ne => Vector.getElem_set_ne n.isLt k.isLt fun e => ne (Fin.ext e.symm)
    have conflict : applyToken n (f.seq, tseq, amount, t0) (tokensTaken n s) = holdDone f.seq .conflict [] (tokensTaken n s) :=
      applyToken_conflict (f := f) inFlight (by rw [own]; exact seen)
    have done := topupApply_one one before others fun k ne => by
      rw [conflict]
      exact (congrArg Ppy.apply (other k ne)).trans (others k ne)
    refine ⟨_, (exec_reached (act := runTopupApply) reached rfl).trans (congrArg Host.Outcome.next (done.trans conflict)), ?_⟩
    exact ⟨(congrArg Ppy.apply own).trans rfl, (congrArg Ppy.acc own).trans rfl, rfl⟩

end Sys2Proof.Proofs
end

section
set_option Elab.async false -- one theorem after another, which keeps Lean within its memory
/-! The rows of the session state machine: what an evaluation leaves on its outlet (O27 to O30). -/

namespace Sys2Proof.Proofs

open Sys2Proof Sys2Proof.Machine Sys2Proof.Safety Sys2Proof.Laws

variable {s t u : State} {n : Outlet8} {r : Reason} {new : SesState}

/-! ### Changes of an outlet -/

theorem modOut_congr {f g : Outlet → Outlet} (same : f (outOf s n) = g (outOf s n)) : modOut n f s = modOut n g s := by
  have vec : vmod s.ses.out n f = vmod s.ses.out n g := congrArg (fun o => s.ses.out.set n.val o) same
  unfold modOut
  rw [vec]

theorem modOut_modOut {f g : Outlet → Outlet} : modOut n g (modOut n f s) = modOut n (fun o => g (f o)) s := by
  have vec : vmod (vmod s.ses.out n f) n g = vmod s.ses.out n (fun o => g (f o)) := by simp [vmod]
  unfold modOut
  rw [vec]

theorem modOut_id {f : Outlet → Outlet} (same : f (outOf s n) = outOf s n) : modOut n f s = s := by
  have vec : vmod s.ses.out n f = s.ses.out := by
    unfold vmod
    rw [show f s.ses.out[n.val] = s.ses.out[n.val] from same, Vector.set_getElem_self]
  unfold modOut
  rw [vec]

/-! ### The gist of an outlet -/

/-- What a transition is about: the state, its reason, the two latches, the session and whether it ends. -/
structure Gist where
  state : SesState
  reason : Reason
  latchA : Bool
  latchB : Bool
  session : Nat
  ending : Bool

/-- The same with another session. -/
def Gist.inSession (no : Nat) (ending : Bool) (g : Gist) : Gist := ⟨g.state, g.reason, g.latchA, g.latchB, no, ending⟩

/-- The same in another state. -/
def Gist.into (new : SesState) (reason : Option Reason) (g : Gist) : Gist :=
  ⟨new, reason.getD g.reason, g.latchA, g.latchB, g.session, g.ending⟩

/-- The gist of an outlet. -/
def gist (o : Outlet) : Gist := ⟨o.state, o.reason, o.latchA, o.latchB, o.session, o.ending⟩

theorem gist_state {o : Outlet} {g : Gist} (h : gist o = g) : o.state = g.state := congrArg Gist.state h
theorem gist_reason {o : Outlet} {g : Gist} (h : gist o = g) : o.reason = g.reason := congrArg Gist.reason h
theorem gist_latchA {o : Outlet} {g : Gist} (h : gist o = g) : o.latchA = g.latchA := congrArg Gist.latchA h
theorem gist_latchB {o : Outlet} {g : Gist} (h : gist o = g) : o.latchB = g.latchB := congrArg Gist.latchB h
theorem gist_session {o : Outlet} {g : Gist} (h : gist o = g) : o.session = g.session := congrArg Gist.session h
theorem gist_ending {o : Outlet} {g : Gist} (h : gist o = g) : o.ending = g.ending := congrArg Gist.ending h

@[simp] theorem gist_setDrive {d : Drive} {o : Outlet} : gist (o.setDrive d) = gist o := by unfold Outlet.setDrive; split <;> rfl

@[simp] theorem gist_startLock {toLock : Bool} {now : Nat} {o : Outlet} : gist (o.startLock toLock now) = gist o := by
  unfold Outlet.startLock
  split
  · rfl
  · split <;> rfl

@[simp] theorem gist_fault {o : Outlet} : gist (o.fault r) = gist o := rfl
@[simp] theorem gist_due {o : Outlet} {x : Trig} : gist (o.due x) = gist o := rfl
@[simp] theorem gist_closeSession {o : Outlet} : gist o.closeSession = (gist o).inSession 0 o.ending := rfl

/-! ### What the parts of a transition leave on an outlet -/

@[simp] theorem outOf_markRecord {tick : Nat} : gist (outOf (markRecord n tick s) n) = gist (outOf s n) := by
  unfold markRecord
  split
  · rw [outOf_modOut_self]
    rfl
  · rfl

@[simp] theorem outOf_dropTls {m : Outlet8} : outOf (dropTls m s) n = outOf s n := rfl

@[simp] theorem outOf_endMatch {m : Outlet8} : outOf (endMatch m s) n = outOf s n := by
  unfold endMatch
  extract_lets l x s1 s2
  have ses1 : s1.ses = s.ses := by unfold s1; split <;> rfl
  have ses2 : s2.ses = s.ses := by unfold s2; split <;> exact ses1
  split
  next bytes s3 split_ =>
    have ses3 : s3.ses = s.ses := by
      have parts := congrArg (fun x => x.2.ses) split_
      refine parts.symm.trans ?_
      split <;> exact ses2
    exact (congrArg (fun x : Ses => x.out[n.val]) ses3)

@[simp] theorem outOf_completeSeq {seq : Nat} {st : Status} {detail : Nat} {data : List Byte} {buf : Option (List Byte)} :
    outOf (completeSeq seq st detail data buf s) n = outOf s n := by
  unfold outOf
  rw [completeSeq_ses]

/-- A waiting unlock that ends takes only its own marks. -/
theorem unlockDone_outlet {α : Type} {m : Outlet8} (g : Outlet → α) (marks : ∀ o, g { o with unlockSeq := none, unlockAsk := none } = g o) :
    g (outOf (unlockDone m s) m) = g (outOf s m) := by
  unfold unlockDone
  split
  · rw [outOf_completeSeq, outOf_modOut_self, marks]
  · rfl

@[simp] theorem markRecord_nextSession {tick : Nat} : (markRecord n tick s).ses.nextSession = s.ses.nextSession := by
  unfold markRecord
  split <;> rfl

/-- Entry into CONNECTED opens the next session. -/
theorem outOf_openSession : gist (outOf (openSession n s) n) =
    (gist (outOf s n)).inSession s.ses.nextSession false := by
  unfold openSession
  extract_lets s1 o pre o' cfg
  have marked : gist o = gist (outOf s n) := outOf_markRecord
  have put : gist o' = (gist o).inSession s1.ses.nextSession false := rfl
  rw [show s1.ses.nextSession = s.ses.nextSession from markRecord_nextSession] at put
  rw [← marked]
  exact (congrArg gist (Vector.getElem_set_self (xs := s1.ses.out) (x := o') n.isLt)).trans put

@[simp] theorem openSession_nextSession : (openSession n s).ses.nextSession = s.ses.nextSession + 1 :=
  congrArg (· + 1) (markRecord_nextSession (n := n) (tick := s.now) (s := s))

/-- A state in which a session ends. -/
def endsSession (new : SesState) : Bool := new = .ended || new = .fault || new = .welded || new = .disabled

/-- The session of an outlet once it has entered a state. -/
def sessionIn (new : SesState) (next old : Nat) : Nat := if new = .connected then next else if endsSession new then 0 else old


/-- Where a lock is to be unlocked in IDLE, its drive starts, and no more. -/
@[simp] theorem outOf_unlockInIdle {old : SesState} : gist (outOf (unlockInIdle old n s) n) = gist (outOf s n) := by
  unfold unlockInIdle
  extract_lets o
  split
  · rw [outOf_modOut_self, gist_startLock]
  · rfl

@[simp] theorem outOf_endLockDrive : gist (outOf (endLockDrive n s) n) = gist (outOf s n) := by
  unfold endLockDrive
  rw [outOf_modOut_self]
  rfl

/-- The gist after the entry into a state: CLOSING, which sets latch A, is left out. -/
def entered (new : SesState) (reason : Option Reason) (next : Nat) (o : Outlet) : Gist :=
  ⟨new, reason.getD o.reason, o.latchA, o.latchB, sessionIn new next o.session, !decide (new = .connected) && o.ending⟩

theorem enter_gist {reason : Option Reason} (other : new ≠ .closing) :
    gist (outOf (enter n new reason s) n) = entered new reason s.ses.nextSession (outOf s n) := by
  unfold enter
  extract_lets old s1 no s2 s3 ends o s4 s5 s6 sct sClose s7
  have g1 : gist (outOf s1 n) = (gist (outOf s n)).inSession (if new = .connected then s.ses.nextSession else (outOf s n).session)
      (!decide (new = .connected) && (outOf s n).ending) := by
    unfold s1
    by_cases conn : new = .connected
    · rw [if_pos conn, if_pos conn, outOf_openSession, decide_eq_true conn]
      rfl
    · rw [if_neg conn, if_neg conn, decide_eq_false conn]
      rfl
  have g3 : gist (outOf s3 n) = (gist (outOf s1 n)).into new reason :=
    congrArg gist (outOf_modOut_self n _ s1)
  have g4 : gist (outOf s4 n) = gist (outOf s3 n) := by
    unfold s4
    split
    · exact outOf_markRecord
    · rfl
  have g5 : gist (outOf s5 n) = (gist (outOf s4 n)).inSession (if endsSession new then 0 else (gist (outOf s4 n)).session) (outOf s4 n).ending := by
    unfold s5
    by_cases ended : ends
    · rw [if_pos ended, outOf_modOut_self, gist_closeSession, if_pos (show endsSession new = true from by simpa [ends, endsSession] using ended)]
    · rw [if_neg ended, if_neg (show ¬endsSession new = true from by simpa [ends, endsSession] using ended)]
      rfl
  have g6 : gist (outOf s6 n) = gist (outOf s5 n) := by
    unfold s6
    split
    · rw [outOf_endMatch]
    · rfl
  have g7 : gist (outOf s7 n) = gist (outOf s6 n) := by
    unfold s7
    cases new with
    | connected =>
      dsimp only
      split
      · rw [outOf_modOut_self, gist_fault]
      · rfl
    | locking | ended =>
      dsimp only
      rw [outOf_modOut_self, gist_startLock]
    | selfTest | authorising =>
      dsimp only
      rw [outOf_modOut_self]
      rfl
    | idle => exact outOf_unlockInIdle
    | closing => exact absurd rfl other
    | fault => exact outOf_endLockDrive
    | disabled => exact (unlockDone_outlet gist fun _ => rfl).trans outOf_endLockDrive
    | welded => exact (outOf_markRecord (tick := s6.now + 4) (s := endLockDrive n s6)).trans outOf_endLockDrive
    | ready | charging | stopping | opening => rfl
  rw [outOf_modOut_self, gist_setDrive, g7, g6, g5, show (outOf s4 n).ending = (gist (outOf s4 n)).ending from rfl, g4, g3, g1]
  cases new <;> rfl

/-! ### The evaluation of the rows -/

/-- The rows of an outlet are taken: the state machine runs, the outlet has made no transition in this tick and is confirmed. -/
def Begun (n : Outlet8) (s : State) : Prop :=
  s.ses.started = true ∧ (outOf s n).lastTrans ≠ some s.now ∧ unconfirmed s n = false

theorem begun_of_settled (h : Settled n s) : Begun n s := ⟨h.2.1, h.2.2.1, h.2.2.2.1⟩

theorem sound_of_settled (h : Settled n s) : faultOf (outOf s n) = none := h.2.2.2.2

/-- What the rows look at beside the outlet. -/
structure Beside (s t : State) : Prop where
  started : t.ses.started = s.ses.started
  next : t.ses.nextSession = s.ses.nextSession
  now : t.now = s.now
  saf : t.saf = s.saf
  fuse : t.fuse = s.fuse

theorem Beside.trans (first : Beside s t) (second : Beside t u) : Beside s u :=
  ⟨second.started.trans first.started, second.next.trans first.next, second.now.trans first.now, second.saf.trans first.saf,
    second.fuse.trans first.fuse⟩

theorem modOut_beside {f : Outlet → Outlet} : Beside s (modOut n f s) := ⟨rfl, rfl, rfl, rfl, rfl⟩
theorem postSes_beside {code target : Nat} {data : List Byte} : Beside s (postSes code target data s) := ⟨rfl, rfl, rfl, rfl, rfl⟩
theorem completeSeq_beside {seq : Nat} {st : Status} {detail : Nat} {data : List Byte} {buf : Option (List Byte)} :
    Beside s (completeSeq seq st detail data buf s) :=
  ⟨by rw [completeSeq_ses], by rw [completeSeq_ses], by unfold State.now; rw [completeSeq_gen], by rw [completeSeq_saf], by rw [completeSeq_fuse]⟩
theorem markRecord_beside {tick : Nat} : Beside s (markRecord n tick s) := by
  unfold markRecord
  split <;> exact ⟨rfl, rfl, rfl, rfl, rfl⟩
theorem unlockDone_beside : Beside s (unlockDone n s) := by
  unfold unlockDone
  split
  · exact modOut_beside.trans completeSeq_beside
  · exact ⟨rfl, rfl, rfl, rfl, rfl⟩

/-- The rows are taken still, where the outlet's configuration and its last transition stand. -/
theorem Begun.of_beside (h : Begun n s) (b : Beside s t) (last : (outOf t n).lastTrans = (outOf s n).lastTrans)
    (cfg : (outOf t n).ocfg = (outOf s n).ocfg) : Begun n t := by
  obtain ⟨started, trans, confirmed⟩ := h
  refine ⟨b.started.trans started, by rw [last, b.now]; exact trans, ?_⟩
  unfold unconfirmed outEn isDc at confirmed ⊢
  rw [b.saf, cfg, b.fuse]
  exact confirmed

/-- The rows after the fault row, where no fault is seen. -/
theorem evalOnce_row {w : State} (h : Begun n s) (sound : faultOf (outOf s n) = none) (row : rowOf n s = some w) : evalOnce n s = w := by
  unfold evalOnce
  extract_lets o fr
  have none_ : fr = none := by
    unfold fr
    rw [show faultOf o = none from sound]
    exact ite_self _
  rw [h.2.2, Bool.false_and, if_neg Bool.false_ne_true, none_, row]

/-- The fault row (R204). -/
theorem evalOnce_fault (h : Begun n s) (lo : 1 ≤ (outOf s n).state.num) (hi : (outOf s n).state.num ≤ 10)
    (fault : faultOf (outOf s n) = some r) : evalOnce n s = enter n .fault (some r) (clearOut n s) := by
  unfold evalOnce
  extract_lets o fr
  have some_ : fr = some r := by
    unfold fr
    rw [if_pos (by simp [SesState.num10, o, lo, hi])]
    exact fault
  rw [h.2.2, Bool.false_and, if_neg Bool.false_ne_true, some_]

/-- What follows the rows: what was due has been used, a fault's lock is released, the drive is set. -/
def afterRows (n : Outlet8) (s : State) : State :=
  modOut n (fun o => o.setDrive (stateDrive (releaseInFault n (closeRequests n s)) n o)) (releaseInFault n (closeRequests n s))

/-- One evaluation, but for the row marked "same tick". -/
theorem evalOut_once (h : Begun n s) (single : ¬((outOf s n).state = .selfTest ∧ (outOf (evalOnce n s) n).state = .authorising)) :
    evalOut n s = afterRows n (evalOnce n s) := by
  obtain ⟨started, trans, -⟩ := h
  unfold evalOut
  extract_lets s1 s2 s3
  have once : s2 = evalOnce n s := if_neg single
  rw [if_neg (by rw [started]; exact fun h => h.elim Bool.false_ne_true trans)]
  unfold s3
  rw [once]
  rfl

/-- Descriptors that complete with the outlet's state leave the outlet as it is. -/
theorem completeEach_outlet (l : List (Tick × Nat)) : ∀ t : State, outOf (l.foldl
    (fun s e => completeSeq e.2 .ok 0 [BitVec.ofNat 8 (outOf s n).state.num] none s) t) n = outOf t n := by
  induction l with
  | nil => exact fun _ => rfl
  | cons e l ih => exact fun t => (ih _).trans outOf_completeSeq

/-- What closing the requests leaves on the outlet. -/
theorem closeRequests_outlet : ∃ later trigs, outOf (closeRequests n s) n = { outOf s n with
    clearReq := later, trigs := trigs,
    stopReq := if (outOf s n).trigs.contains .request && decide ((outOf s n).session = 0) then none else (outOf s n).stopReq } := by
  unfold closeRequests
  dsimp only
  rw [completeEach_outlet, outOf_modOut_self]
  exact ⟨_, _, rfl⟩

/-- The accepted clears that are left once the requests are closed: those that are not due. -/
theorem closeRequests_clearReq : (outOf (closeRequests n s) n).clearReq =
    (outOf s n).clearReq.filter fun e => !((outOf s n).trigs.contains .faultClear && decide (e.1 < s.now)) := by
  unfold closeRequests
  dsimp only
  rw [completeEach_outlet, outOf_modOut_self]
  rw [List.partition_eq_filter_filter]
  rfl

@[simp] theorem closeRequests_gist : gist (outOf (closeRequests n s) n) = gist (outOf s n) := by
  obtain ⟨later, trigs, eq⟩ := closeRequests_outlet (n := n) (s := s)
  rw [eq]
  rfl

@[simp] theorem releaseInFault_gist : gist (outOf (releaseInFault n s) n) = gist (outOf s n) := by
  unfold releaseInFault
  extract_lets o
  split
  · rw [outOf_modOut_self]
    dsimp only
    split
    · rw [gist_startLock]
      rfl
    · rfl
  · rfl

@[simp] theorem afterRows_gist : gist (outOf (afterRows n s) n) = gist (outOf s n) := by
  unfold afterRows
  rw [outOf_modOut_self, gist_setDrive, releaseInFault_gist, closeRequests_gist]

/-- A row that is taken: what stands at the end of foreground A (R204). -/
theorem evalOut_row {w : State} {reason : Option Reason} (h : Begun n s) (sound : faultOf (outOf s n) = none)
    (row : rowOf n s = some (enter n new reason w)) (closing : new ≠ .closing) (auth : new ≠ .authorising) :
    evalOut n s = afterRows n (enter n new reason w) ∧
      gist (outOf (evalOut n s) n) = entered new reason w.ses.nextSession (outOf w n) := by
  have once := evalOnce_row h sound row
  have into := enter_gist (n := n) (s := w) (reason := reason) closing
  have out : evalOut n s = afterRows n (enter n new reason w) := by
    rw [evalOut_once h, once]
    rw [once, gist_state into]
    exact fun both => auth both.2
  exact ⟨out, by rw [out, afterRows_gist, into]⟩

/-- The fault row that is taken: FAULT with both latches cleared and the session closed. -/
theorem evalOut_fault (h : Begun n s) (lo : 1 ≤ (outOf s n).state.num) (hi : (outOf s n).state.num ≤ 10)
    (fault : faultOf (outOf s n) = some r) :
    (outOf (evalOut n s) n).state = .fault ∧ (outOf (evalOut n s) n).reason = r ∧ (outOf (evalOut n s) n).latchA = false ∧
      (outOf (evalOut n s) n).latchB = false ∧ (outOf (evalOut n s) n).session = 0 := by
  have once := evalOnce_fault h lo hi fault
  have into := enter_gist (n := n) (s := clearOut n s) (new := .fault) (reason := some r) (by decide)
  have clear : outOf (clearOut n s) n = (outOf s n).clearLatches s.now := outOf_modOut_self ..
  have all : gist (outOf (evalOut n s) n) = ⟨.fault, r, false, false, 0, (outOf s n).ending⟩ := by
    rw [evalOut_once h, afterRows_gist, once, into, clear]
    · rfl
    · rw [once, gist_state into]
      exact fun both => SesState.noConfusion both.2
  exact ⟨gist_state all, gist_reason all, gist_latchA all, gist_latchB all, gist_session all⟩

end Sys2Proof.Proofs
end

section
set_option Elab.async false -- one theorem after another, which keeps Lean within its memory
/-! The rows of the session state machine (O28). -/

namespace Sys2Proof.Proofs

open Sys2Proof Sys2Proof.Machine Sys2Proof.Safety Sys2Proof.Laws

variable {α : Type} {s t u : State} {n : Outlet8} {r : Reason}

/-! ### Rows of R204 -/

theorem rowOf_idle_plugged (state : (outOf s n).state = .idle) (det : (outOf s n).det = some .b) :
    rowOf n s = some (enter n .connected none s) := by
  simp [rowOf, state, det]

theorem rowOf_connected_none (state : (outOf s n).state = .connected) (ires : iresOk s n = true) (caseT : (outOf s n).caseT = false)
    (pp : ¬(1 ≤ (outOf s n).pp ∧ (outOf s n).pp ≤ 4)) (due : (outOf s n).trigs.contains .proximityNone = true) :
    rowOf n s = some (enter n .ended (some .proximityNone) s) := by
  simp only [rowOf, state, ires, caseT, due, decide_eq_false pp, Bool.or_false, Bool.not_true, Bool.false_eq_true, if_false, if_true]

theorem rowOf_authorising_timeout (state : (outOf s n).state = .authorising) (authed : (outOf s n).authed = false)
    (denied : (outOf s n).denied = false) (due : (outOf s n).trigs.contains .authTimeout = true) :
    rowOf n s = some (enter n .ended (some .authTimeout) s) := by
  simp only [rowOf, state, authed, denied, due, Bool.false_and, Bool.false_eq_true, if_false, if_true]

/-- STOPPING ends with its time, whether or not a stop request was taken before. -/
theorem rowOf_stopping_timeout (state : (outOf s n).state = .stopping) (due : (outOf s n).trigs.contains .stoppingTimeout = true) :
    ∃ w, rowOf n s = some (enter n .opening none (clearOut n w)) := by
  simp only [rowOf, state, due, Bool.or_true, if_true]
  exact ⟨_, rfl⟩

/-- The outlet of a stop that is taken in CHARGING. -/
def stopTaken (o : Outlet) : Outlet := { o with stopReq := none, ending := true, resuming := false }

theorem rowOf_charging_stop {t0 : Tick} (state : (outOf s n).state = .charging) (det : (outOf s n).det = some .c)
    (limit : 60 ≤ (outOf s n).iLim) (req : (outOf s n).stopReq = some (t0, r)) (due : (outOf s n).trigs.contains .request = true) :
    ∃ w, rowOf n s = some (enter n .stopping (some r) w) ∧ outOf w n = stopTaken (outOf s n) := by
  have low : decide ((outOf s n).iLim < 60) = false := decide_eq_false (by omega)
  simp only [rowOf, state, det, req, due, low, Option.map_some, Option.some.injEq, reduceCtorEq, decide_false, Bool.false_and,
    Bool.and_false, Bool.or_false, Bool.false_eq_true, if_false, if_true]
  exact ⟨_, rfl, by rw [outOf_modOut_self, outOf_modOut_self]; rfl⟩

/-! ### A stop request -/

theorem startLock_stopReq {o : Outlet} {toLock : Bool} {now : Nat} : (o.startLock toLock now).stopReq = o.stopReq := by
  unfold Outlet.startLock
  split
  · rfl
  · split <;> rfl

theorem setDrive_stopReq {o : Outlet} {d : Drive} : (o.setDrive d).stopReq = o.stopReq := by unfold Outlet.setDrive; split <;> rfl

theorem setDrive_driveSoon {o : Outlet} {d : Drive} : (o.setDrive d).driveSoon = d := by
  unfold Outlet.setDrive
  split
  · assumption
  · rfl

/-- No stop request stands after the rows where none stands as they end. -/
theorem stopReq_afterRows (none_ : (outOf s n).stopReq = none) : (outOf (afterRows n s) n).stopReq = none := by
  have closed : (outOf (closeRequests n s) n).stopReq = none := by
    obtain ⟨later, trigs, eq⟩ := closeRequests_outlet (n := n) (s := s)
    rw [eq]
    dsimp only
    rw [none_, ite_self]
  unfold afterRows
  rw [outOf_modOut_self, setDrive_stopReq]
  unfold releaseInFault
  extract_lets o
  split
  · rw [outOf_modOut_self]
    dsimp only
    split
    · rw [startLock_stopReq]
      exact closed
    · exact closed
  · exact closed

/-- An outlet that has just come into a state. -/
def landed (new : SesState) (reason : Option Reason) (now : Nat) (o : Outlet) : Outlet :=
  { o with state := new, entry := now, lastTrans := some now, reason := reason.getD o.reason, faults := [], faultHigh := false }

theorem enter_stopping {reason : Option Reason} : enter n .stopping reason s =
    modOut n (fun o => o.setDrive (stateDrive
        (postState n (outOf s n).state (outOf s n).session (modOut n (landed .stopping reason s.now) s)) n o))
      (postState n (outOf s n).state (outOf s n).session (modOut n (landed .stopping reason s.now) s)) := rfl

theorem enter_stopping_stopReq {reason : Option Reason} : (outOf (enter n .stopping reason s) n).stopReq = (outOf s n).stopReq := by
  rw [enter_stopping, outOf_modOut_self, setDrive_stopReq]
  exact (congrArg Outlet.stopReq (outOf_modOut_self n (landed .stopping reason s.now) s)).trans rfl

/-! ### The events that make a row due -/

theorem begun_modOut {f : Outlet → Outlet} (h : Begun n s) (last : (f (outOf s n)).lastTrans = (outOf s n).lastTrans)
    (cfg : (f (outOf s n)).ocfg = (outOf s n).ocfg) : Begun n (modOut n f s) :=
  h.of_beside modOut_beside (by rw [outOf_modOut_self, last]) (by rw [outOf_modOut_self, cfg])

/-- An outlet with something due for its rows. -/
theorem outOf_due {x : Trig} : outOf (modOut n (Outlet.due x) s) n = { outOf s n with trigs := (outOf s n).trigs ++ [x] } :=
  outOf_modOut_self ..

theorem due_contains {x : Trig} {o : Outlet} : (o.due x).trigs.contains x = true := by simp [Outlet.due]

/-- The pilot states that follow a recognised pilot state: no fault is seen where it is not E. -/
theorem faultOf_recognised {o : Outlet} {p : Pilot} (sound : faultOf o = none) (notE : p ≠ .e) :
    faultOf { o with det := some p } = none := by
  unfold faultOf at sound ⊢
  rw [if_neg (by simp [notE])]
  split at sound
  · cases sound
  · exact sound

/-- A readback fault is acted on where no other is seen. -/
theorem faultOf_pilot {o : Outlet} (e : PilotErr) (sound : faultOf o = none) : ∃ r, faultOf { o with pilotErr := some e } = some r := by
  unfold faultOf at sound ⊢
  split at sound
  · cases sound
  next ok =>
    rw [if_neg ok]
    cases e <;> exact ⟨_, rfl⟩

theorem takeUnlock_outlet (g : Outlet → α) (lock : ∀ o now, g (Outlet.startLock false now o) = g o)
    (ask : ∀ o, g { o with unlockAsk := none } = g o) : g (outOf (takeUnlock n s) n) = g (outOf s n) := by
  unfold takeUnlock
  extract_lets o s1
  split
  · split
    · have taken : g (outOf s1 n) = g (outOf s n) := by rw [outOf_modOut_self, ask]
      split
      · split
        · rw [outOf_modOut_self, lock, taken]
        · exact taken
      · rw [outOf_modOut_self, lock, taken]
    · rfl
  · rfl

/-- The parts of an outlet that the drive of a lock leaves alone and the rows of a stop look at. -/
def stopView (o : Outlet) : SesState × Option Pilot × Nat × Option (Tick × Reason) × Option Reason × Option Tick × W32 :=
  (o.state, o.det, o.iLim, o.stopReq, faultOf o, o.lastTrans, o.ocfg)

theorem startLock_stopView {o : Outlet} {toLock : Bool} {now : Nat} : stopView (o.startLock toLock now) = stopView o := by
  unfold Outlet.startLock
  split
  · rfl
  · split <;> rfl

theorem takeUnlock_beside : Beside s (takeUnlock n s) := by
  unfold takeUnlock
  extract_lets o
  split
  · split
    · split
      · split <;> exact ⟨rfl, rfl, rfl, rfl, rfl⟩
      · exact ⟨rfl, rfl, rfl, rfl, rfl⟩
    · exact ⟨rfl, rfl, rfl, rfl, rfl⟩
  · exact ⟨rfl, rfl, rfl, rfl, rfl⟩

theorem takeFaultClear_beside : Beside s (takeFaultClear n s) := by
  unfold takeFaultClear
  split <;> exact ⟨rfl, rfl, rfl, rfl, rfl⟩

theorem takeFaultClear_stopView : stopView (outOf (takeFaultClear n s) n) = stopView (outOf s n) := by
  unfold takeFaultClear
  split
  · rw [outOf_modOut_self]
    rfl
  · rfl

theorem recognise_none (none_ : (outOf s n).candidate = none) : recognise n s = s := by
  unfold recognise
  rw [none_]
  exact ite_self _

theorem recognise_some {p : Pilot} (started : s.ses.started = true) (some_ : (outOf s n).candidate = some p) :
    recognise n s = postPilot n (modOut n (fun o => { o with det := some p }) s) := by
  unfold recognise
  rw [started, if_pos rfl, some_]

/-- A waiting stop request is due in a later tick. -/
theorem takeStopRequest_due {t0 : Tick} (req : (outOf s n).stopReq = some (t0, r)) (before : t0 < s.now) :
    takeStopRequest n s = modOut n (Outlet.due .request) s := by
  unfold takeStopRequest
  rw [req]
  exact if_pos before

/-- STOPPING with its reason, where a stop is taken in CHARGING. -/
theorem evalOut_stop {t0 : Tick} (h : Begun n s) (sound : faultOf (outOf s n) = none) (state : (outOf s n).state = .charging)
    (det : (outOf s n).det = some .c) (limit : 60 ≤ (outOf s n).iLim) (req : (outOf s n).stopReq = some (t0, r))
    (due : (outOf s n).trigs.contains .request = true) :
    (outOf (evalOut n s) n).state = .stopping ∧ (outOf (evalOut n s) n).reason = r ∧ (outOf (evalOut n s) n).ending = true ∧
      (outOf (evalOut n s) n).stopReq = none := by
  obtain ⟨w, row, taken⟩ := rowOf_charging_stop state det limit req due
  obtain ⟨out, all⟩ := evalOut_row h sound row (by decide) (by decide)
  refine ⟨gist_state all, gist_reason all, ?_, ?_⟩
  · rw [gist_ending all, taken]
    rfl
  · rw [out]
    exact stopReq_afterRows (by rw [enter_stopping_stopReq, taken]; rfl)

/-- Entry into CONNECTED takes the next session number. -/
theorem enter_connected_next {reason : Option Reason} : (enter n .connected reason s).ses.nextSession = s.ses.nextSession + 1 := by
  have entry : (enter n .connected reason s).ses.nextSession = (openSession n s).ses.nextSession := by
    unfold enter
    extract_lets old s1 no s2 s3 ends o s4 s5 s6 sct sClose s7
    have s3next : s7.ses.nextSession = s1.ses.nextSession := by
      unfold s7
      dsimp only
      split <;> rfl
    exact s3next
  rw [entry, openSession_nextSession]

theorem afterRows_next : (afterRows n s).ses.nextSession = s.ses.nextSession := by
  have closed : (closeRequests n s).ses.nextSession = s.ses.nextSession := by
    unfold closeRequests
    dsimp only
    refine List.foldlRecOn (motive := fun t : State => t.ses.nextSession = s.ses.nextSession) _ _ rfl fun t same e _ => ?_
    rw [completeSeq_ses, same]
  refine Eq.trans ?_ closed
  unfold afterRows releaseInFault
  dsimp only
  split <;> rfl

/-- Settles O28. -/
theorem sessionTransitions : Obligations.SessionTransitions := by
  unfold Obligations.SessionTransitions
  intro s n o eq settled
  have lost : Undiscarded s := settled.1
  have begun := begun_of_settled settled
  have sound := sound_of_settled settled
  refine ⟨fun p candidate => ?pilot, fun e calm fault lo hi => ?readback, fun state late ires caseT pp => ?proximity,
    fun state late authed denied => ?authorising, fun state late => ?stopping, fun state low late closed => ?drive,
    fun t0 r state candidate req before det limit => ?stop, fun p pre late => ?preauth⟩
  all_goals subst eq
  case pilot =>
    have out : outOf (recognise n s) n = { outOf s n with det := some p } := by
      rw [recognise_some begun.1 candidate]
      exact (outOf_modOut_self ..)
    refine ⟨_, exec_undiscarded (act := recognise n) lost rfl, by rw [out], fun state isB u eq => ?_⟩
    subst eq isB
    have beside : Beside s (recognise n s) := by
      rw [recognise_some begun.1 candidate]
      exact modOut_beside.trans postSes_beside
    have begun1 : Begun n (recognise n s) := begun.of_beside beside (by rw [out]) (by rw [out])
    obtain ⟨rows, all⟩ := evalOut_row begun1 (by rw [out]; exact faultOf_recognised sound (by decide))
      (rowOf_idle_plugged (by rw [out]; exact state) (by rw [out])) (by decide) (by decide)
    refine ⟨gist_state all, (gist_session all).trans beside.next, ?_⟩
    rw [rows, afterRows_next, enter_connected_next, beside.next]
  case readback =>
    have act : (fun s : State => if s.ses.started ∧ (outOf s n).pilotErr.isNone then
        match (outOf s n).pilotFault? with
        | some e => postPilot n (modOut n (fun o => { o with pilotErr := some e }) s)
        | none => s
      else s) s = postPilot n (modOut n (fun o => { o with pilotErr := some e }) s) := by
      dsimp only
      rw [if_pos ⟨begun.1, by rw [calm]; rfl⟩, fault]
    obtain ⟨r, raised⟩ := faultOf_pilot e sound
    have out : outOf (postPilot n (modOut n (fun o => { o with pilotErr := some e }) s)) n = { outOf s n with pilotErr := some e } :=
      outOf_modOut_self ..
    have beside : Beside s (postPilot n (modOut n (fun o => { o with pilotErr := some e }) s)) := modOut_beside.trans postSes_beside
    refine ⟨_, _, (exec_undiscarded lost rfl).trans (congrArg Host.Outcome.next act), by rw [out], rfl, ?_⟩
    obtain ⟨state, -, latchA, latchB, session⟩ := evalOut_fault (r := r)
      (begun.of_beside beside (by rw [out]) (by rw [out])) (by rw [out]; exact lo) (by rw [out]; exact hi) (by rw [out]; exact raised)
    exact ⟨state, latchA, latchB, session⟩
  case proximity =>
    refine ⟨_, _, (exec_undiscarded lost rfl).trans (congrArg Host.Outcome.next (if_pos ⟨state, late⟩)), rfl, ?_⟩
    obtain ⟨-, all⟩ := evalOut_row (begun_modOut (f := Outlet.due .proximityNone) begun rfl rfl) (by rw [outOf_due]; exact sound)
      (rowOf_connected_none (by rw [outOf_due]; exact state) ires (by rw [outOf_due]; exact caseT)
        (by rw [outOf_due]; exact pp) (by rw [outOf_modOut_self]; exact due_contains)) (by decide) (by decide)
    exact ⟨gist_state all, gist_reason all⟩
  case authorising =>
    refine ⟨_, _, (exec_undiscarded lost rfl).trans (congrArg Host.Outcome.next (if_pos ⟨state, late⟩)), rfl, ?_⟩
    obtain ⟨-, all⟩ := evalOut_row (begun_modOut (f := Outlet.due .authTimeout) begun rfl rfl) (by rw [outOf_due]; exact sound)
      (rowOf_authorising_timeout (by rw [outOf_due]; exact state) (by rw [outOf_due]; exact authed)
        (by rw [outOf_due]; exact denied) (by rw [outOf_modOut_self]; exact due_contains)) (by decide) (by decide)
    exact ⟨gist_state all, gist_reason all⟩
  case stopping =>
    refine ⟨_, _, (exec_undiscarded lost rfl).trans (congrArg Host.Outcome.next (if_pos ⟨state, late⟩)), rfl, ?_⟩
    obtain ⟨w, row⟩ := rowOf_stopping_timeout (n := n) (s := modOut n (Outlet.due .stoppingTimeout) s) (by rw [outOf_due]; exact state)
      (by rw [outOf_modOut_self]; exact due_contains)
    obtain ⟨-, all⟩ := evalOut_row (begun_modOut (f := Outlet.due .stoppingTimeout) begun rfl rfl) (by rw [outOf_due]; exact sound) row (by decide) (by decide)
    have clear : outOf (clearOut n w) n = (outOf w n).clearLatches w.now := outOf_modOut_self ..
    exact ⟨gist_state all, (gist_latchA all).trans (by rw [clear]; rfl), (gist_latchB all).trans (by rw [clear]; rfl)⟩
  case drive =>
    refine ⟨_, (exec_undiscarded lost rfl).trans (congrArg Host.Outcome.next (if_pos ⟨state, by rw [low]; rfl, late⟩)), ?_⟩
    rw [outOf_modOut_self]
    exact setDrive_driveSoon
  case stop =>
    have act : takeStopRequest n (takeFaultClear n (takeUnlock n (recognise n s))) =
        modOut n (Outlet.due .request) (takeFaultClear n (takeUnlock n s)) := by
      rw [recognise_none candidate]
      have view : stopView (outOf (takeFaultClear n (takeUnlock n s)) n) = stopView (outOf s n) :=
        takeFaultClear_stopView.trans (takeUnlock_outlet stopView (fun _ _ => startLock_stopView) fun _ => rfl)
      refine takeStopRequest_due (t0 := t0) (r := r) ((congrArg (fun v => v.2.2.2.1) view).trans req) ?_
      rw [(takeUnlock_beside.trans takeFaultClear_beside).now]
      exact before
    refine ⟨_, _, (exec_undiscarded (act := fun s => takeStopRequest n (takeFaultClear n (takeUnlock n (recognise n s)))) lost rfl).trans
      (congrArg Host.Outcome.next act), rfl, ?_⟩
    have beside : Beside s (takeFaultClear n (takeUnlock n s)) := takeUnlock_beside.trans takeFaultClear_beside
    have view : stopView (outOf (takeFaultClear n (takeUnlock n s)) n) = stopView (outOf s n) :=
      takeFaultClear_stopView.trans (takeUnlock_outlet stopView (fun _ _ => startLock_stopView) fun _ => rfl)
    generalize takeFaultClear n (takeUnlock n s) = s1 at beside view
    obtain ⟨hstate, hdet, hlim, hreq, hfault, hlast, hcfg⟩ : _ ∧ _ ∧ _ ∧ _ ∧ _ ∧ _ ∧ _ := by
      simpa only [stopView, Prod.mk.injEq] using view
    refine evalOut_stop (t0 := t0) (begun_modOut (begun.of_beside beside hlast hcfg) rfl rfl) ?_ ?_ ?_ ?_ ?_ ?_
    · rw [outOf_due]; exact hfault.trans sound
    · rw [outOf_due]; exact hstate.trans state
    · rw [outOf_due]; exact hdet.trans det
    · rw [outOf_due]; exact le_of_le_of_eq limit hlim.symm
    · rw [outOf_due]; exact hreq.trans req
    · rw [outOf_modOut_self]; exact due_contains
  case preauth =>
    refine Eq.trans (b := execPreauthExpiry n s) rfl ?_
    rw [execPreauthExpiry, inSafety_undiscarded _ lost]
    rw [pre]
    exact congrArg Host.Outcome.next (if_pos late)

end Sys2Proof.Proofs
end

section
set_option Elab.async false -- one theorem after another, which keeps Lean within its memory
/-! Contactor mirrors, shunt trip and cable lock (O29). -/

namespace Sys2Proof.Proofs

open Sys2Proof Sys2Proof.Machine Sys2Proof.Safety Sys2Proof.Laws

variable {s t u : State} {n : Outlet8} {r : Reason}

/-- Where no fault is seen, one that is raised is the one acted on. -/
theorem faultOf_raised {o o' : Outlet} (sound : faultOf o = none) (det : o'.det = o.det) (drive : o'.drive = o.drive)
    (err : o'.pilotErr = o.pilotErr) (raised : o'.faults = o.faults ++ [r]) : faultOf o' = some r := by
  unfold faultOf at sound ⊢
  rw [det, drive, err, raised]
  split at sound
  · cases sound
  next notE =>
    rw [if_neg notE]
    split at sound
    · cases sound
    · cases sound
    · rw [List.head?_eq_none_iff.1 sound]
      rfl

/-- A record that is marked takes only its own marks from the outlet. -/
theorem markRecord_outlet {α : Type} (g : Outlet → α) (marks : ∀ o, g { o with record := none, endVals := none } = g o) {tick : Nat} :
    g (outOf (markRecord n tick s) n) = g (outOf s n) := by
  unfold markRecord
  split
  · rw [outOf_modOut_self, marks]
    rfl
  · rfl

@[simp] theorem outOf_setReplace {cause : Fin 9} : outOf (setReplace cause s) n = outOf s n := by
  unfold outOf
  rw [setReplace_ses]

/-- The confirmed position of the mirror and its tick. -/
def mirrorView (o : Outlet) : Option Bool × Tick := (o.mirror, o.mirTick)

/-- A mirror that is confirmed shows its last position from this tick on (R214). -/
theorem mirrorConfirm_shows (run : 3 ≤ (outOf s n).mirRun) (new : (outOf s n).mirror ≠ some (outOf s n).mirLast) :
    mirrorView (outOf (mirrorConfirm n s) n) = (some (outOf s n).mirLast, s.now) := by
  unfold mirrorConfirm
  extract_lets o pos before waited s1 s2 s3 s4
  rw [if_neg (fun h => h.elim (fun h => absurd run (Nat.not_le.2 h)) fun h => new h.1)]
  clear_value waited
  have v1 : mirrorView (outOf s1 n) = (some pos, s.now) := congrArg mirrorView (outOf_modOut_self ..)
  have v2 : mirrorView (outOf s2 n) = mirrorView (outOf s1 n) := by
    unfold s2
    split
    · split
      · exact congrArg mirrorView (outOf_setReplace (s := s1))
      · rfl
    · rfl
  have v3 : mirrorView (outOf s3 n) = mirrorView (outOf s2 n) := by
    unfold s3
    split
    · exact markRecord_outlet mirrorView fun _ => rfl
    · rfl
  have v4 : mirrorView (outOf s4 n) = mirrorView (outOf s3 n) := by
    unfold s4
    split
    · rw [outOf_modOut_self]
      rfl
    · split
      · rw [outOf_modOut_self]
        rfl
      · rfl
  have pass : ∀ o' : Outlet, mirrorView (o'.checksPass before) = mirrorView o' := by
    intro o'
    unfold Outlet.checksPass
    split <;> rfl
  rw [outOf_modOut_self, pass, v4, v3, v2, v1]

/-- An outlet without a shunt trip to hold. -/
theorem shuntHeld_none (none_ : ∀ m : Outlet8, bitAt (activeByte s 12) m.val = true → (outOf s m).state ≠ .welded) : shuntHeld s = false := by
  unfold shuntHeld
  refine List.any_eq_false.2 fun m _ => ?_
  simp only [Bool.and_eq_true, decide_eq_true_eq, not_and]
  exact none_ m

/-- A lock that is confirmed shows its last position (R219). -/
theorem lockConfirm_shows (run : 3 ≤ (outOf s n).lockRun) (new : (outOf s n).lock ≠ some (outOf s n).lockLast)
    (moving : (outOf s n).unlockFailed = false ∨ (outOf s n).lockIdle = false) :
    (outOf (lockConfirm n s) n).lock = some (outOf s n).lockLast := by
  unfold lockConfirm
  extract_lets o pos driving ld s1 lost
  have acts : ¬(o.lockRun < 3 ∨ (o.lock = some pos ∨ o.unlockFailed = true ∧ o.lockIdle = true) ∧ (!driving) = true) := by
    rintro (few | ⟨same | ⟨failed, idle⟩, -⟩)
    · exact absurd run (Nat.not_le.2 few)
    · exact new same
    · rcases moving with not_ | not_
      · exact Bool.false_ne_true (not_.symm.trans failed)
      · exact Bool.false_ne_true (not_.symm.trans idle)
  rw [if_neg acts]
  have shown : (outOf s1 n).lock = some pos := congrArg Outlet.lock (outOf_modOut_self ..)
  split
  · exact ((congrArg Outlet.lock (outOf_modOut_self n (Outlet.fault .lockLost) s1)).trans rfl).trans shown
  · exact shown

/-! ### Rows of R204 -/

/-- OPENING ends in WELDED where a check has failed and both are judged. -/
theorem rowOf_opening_failed (state : (outOf s n).state = .opening) (failed : (outOf s n).openFailed = true)
    (done : (outOf s n).checksDone = true) : ∃ w, rowOf n s = some (enter n .welded (some .welded) w) := by
  simp only [rowOf, state, failed, done, Bool.and_true, if_true]
  exact ⟨_, rfl⟩

theorem rowOf_locking_locked (state : (outOf s n).state = .locking) (locked : (outOf s n).lock = some true)
    (idle : (outOf s n).lockIdle = true) (sound : (outOf s n).lockFailed = false) :
    rowOf n s = some (enter n .selfTest none s) := by
  simp only [rowOf, state, locked, idle, sound, decide_true, Bool.not_false, Bool.and_true, Bool.or_true, if_true]

theorem rowOf_locking_failed (state : (outOf s n).state = .locking) (caseT : (outOf s n).caseT = false)
    (failed : (outOf s n).lockFailed = true) : rowOf n s = some (enter n .ended (some .lockFail) s) := by
  simp only [rowOf, state, caseT, failed, Bool.not_true, Bool.and_false, Bool.or_false, Bool.false_eq_true, if_false, if_true]

/-! ### The lock's drive through the rows -/

theorem setDrive_lockDrive {o : Outlet} {d : Drive} : (o.setDrive d).lockDrive = o.lockDrive := by unfold Outlet.setDrive; split <;> rfl

/-- The rows leave a lock's drive alone in a state that is not FAULT. -/
theorem lockDrive_afterRows (notFault : (outOf s n).state ≠ .fault) : (outOf (afterRows n s) n).lockDrive = (outOf s n).lockDrive := by
  obtain ⟨later, trigs, eq⟩ := closeRequests_outlet (n := n) (s := s)
  have closed : (outOf (closeRequests n s) n).lockDrive = (outOf s n).lockDrive := by rw [eq]
  have state : (outOf (closeRequests n s) n).state ≠ .fault := by rw [eq]; exact notFault
  unfold afterRows
  rw [outOf_modOut_self, setDrive_lockDrive]
  unfold releaseInFault
  extract_lets o
  split
  · rw [outOf_modOut_self]
    dsimp only
    rw [decide_eq_false state, Bool.false_and, if_neg Bool.false_ne_true]
    exact closed
  · exact closed

/-- What the rows of LOCKING look at. -/
def lockView (o : Outlet) : SesState × Option Bool × Option LockDrive × Option Bool × Bool × Option Reason × Option Tick × W32 :=
  (o.state, o.lock, o.lockDrive, o.lockAsk, o.lockFailed, faultOf o, o.lastTrans, o.ocfg)

/-- An outlet whose lock drive has failed for the second time. -/
def driveFailed (toLock : Bool) (o : Outlet) : Outlet :=
  { o with lockDrive := none, lock := none, lockFailed := toLock, unlockFailed := !toLock }

/-- A drive of the lock whose time has passed without confirmation (R219). -/
theorem lockTimeout_due {d : LockDrive} (drive : (outOf s n).lockDrive = some d) (open_ : d.confirmed = none) (noRetry : d.retryAt = none)
    (late : d.start + 640 * (outOf s n).lockT ≤ s.now) : lockTimeout n s =
      if d.attempt = 1 then modOut n (fun o => { o with lockDrive := some { d with retryAt := some (s.now + 32000) } }) s
      else unlockDone n (postLock n (if d.toLock then 0 else 1) (modOut n (driveFailed d.toLock) s)) := by
  unfold lockTimeout
  dsimp only
  rw [drive]
  dsimp only
  rw [open_, noRetry, decide_eq_false (Nat.not_lt.2 late)]
  rfl

/-- Entry into SELF-TEST starts its first step. -/
def testing (now : Nat) (o : Outlet) : Outlet := { o with test := some { step := 1, start := now } }

theorem enter_selfTest {reason : Option Reason} : ∃ d : Outlet → Drive, enter n .selfTest reason s =
    modOut n (fun o => o.setDrive (d o)) (modOut n (testing s.now)
      (postState n (outOf s n).state (outOf s n).session (modOut n (landed .selfTest reason s.now) s))) := ⟨_, rfl⟩

theorem enter_selfTest_lockDrive {reason : Option Reason} : (outOf (enter n .selfTest reason s) n).lockDrive = (outOf s n).lockDrive := by
  obtain ⟨d, eq⟩ := enter_selfTest (n := n) (s := s) (reason := reason)
  rw [eq, outOf_modOut_self, setDrive_lockDrive, outOf_modOut_self]
  exact (congrArg Outlet.lockDrive (outOf_modOut_self n (landed .selfTest reason s.now) s)).trans rfl

/-- Settles O29. -/
theorem contactorAndLock : Obligations.ContactorAndLock := by
  unfold Obligations.ContactorAndLock
  intro s n o eq settled
  have lost : Undiscarded s := settled.1
  have begun := begun_of_settled settled
  have sound := sound_of_settled settled
  refine ⟨fun t0 set late => ?pullIn, fun run new => ?mirror, fun t0 wait late state => ?closing, fun t0 wait late state volt => ?opening,
    fun shunt late none_ => ?shunt, fun run new moving => ?lock, fun d t0 drive confirmed late state locked ok ask => ?driveEnd,
    fun d drive open_ noRetry late => ⟨fun first => ?retry, fun second toLock state caseT => ?gaveUp⟩, fun d t0 drive retry late => ?again⟩
  all_goals subst eq
  case pullIn =>
    refine Eq.trans (b := execCoilPullInEnd n s) rfl ?_
    rw [execCoilPullInEnd, inSafety_undiscarded _ lost, set]
    exact congrArg Host.Outcome.next (if_pos late)
  case mirror =>
    have shown := mirrorConfirm_shows run new
    exact ⟨_, exec_undiscarded (act := mirrorConfirm n) lost rfl, congrArg Prod.fst shown, congrArg Prod.snd shown⟩
  case closing =>
    refine ⟨modOut n (Outlet.fault .contactorFb) (modOut n (fun o => { o with mirWait := none }) s), _, ?_, rfl, ?_⟩
    · refine Eq.trans (b := execMirrorTimeout n s) rfl ?_
      rw [execMirrorTimeout, inSafety_undiscarded _ lost, wait]
      exact congrArg Host.Outcome.next (if_pos late)
    have out : outOf (modOut n (Outlet.fault .contactorFb) (modOut n (fun o => { o with mirWait := none }) s)) n =
        Outlet.fault .contactorFb { outOf s n with mirWait := none } := by rw [outOf_modOut_self, outOf_modOut_self]
    obtain ⟨into, reason, latchA, latchB, -⟩ := evalOut_fault (r := .contactorFb)
      (begun.of_beside (modOut_beside.trans modOut_beside) (by rw [out]; rfl) (by rw [out]; rfl))
      (by rw [out]; exact le_of_le_of_eq (by decide) (congrArg SesState.num state).symm)
      (by rw [out]; exact le_of_eq_of_le (congrArg SesState.num state) (by decide))
      (by rw [out]; exact faultOf_raised sound rfl rfl rfl rfl)
    exact ⟨into, reason, latchA, latchB⟩
  case opening =>
    refine ⟨modOut n (fun o => { o with chkMirror := .failed }) (modOut n (fun o => { o with mirWait := none }) s), _, ?_, rfl, ?_⟩
    · refine Eq.trans (b := execMirrorTimeout n s) rfl ?_
      rw [execMirrorTimeout, inSafety_undiscarded _ lost, wait]
      exact congrArg Host.Outcome.next (if_pos late)
    generalize failed : modOut n (fun o => { o with chkMirror := .failed }) (modOut n (fun o => { o with mirWait := none }) s) = t
    have out : outOf t n = { outOf s n with mirWait := none, chkMirror := .failed } := by
      rw [← failed, outOf_modOut_self, outOf_modOut_self]
    have beside : Beside s t := by rw [← failed]; exact modOut_beside.trans modOut_beside
    obtain ⟨w, row⟩ := rowOf_opening_failed (n := n) (s := t) (by rw [out]; exact state) (by rw [out]; rfl)
      (by rw [out]; rcases volt with v | v <;> simp [Outlet.checksDone, v])
    obtain ⟨-, all⟩ := evalOut_row (begun.of_beside beside (by rw [out]) (by rw [out]))
      (by rw [out]; exact sound) row (by decide) (by decide)
    exact ⟨gist_state all, gist_reason all⟩
  case shunt =>
    refine (exec_undiscarded lost rfl).trans (congrArg Host.Outcome.next (if_pos ⟨shunt, ?_, late⟩))
    rw [shuntHeld_none none_]
    rfl
  case lock => exact ⟨_, exec_undiscarded (act := lockConfirm n) lost rfl, lockConfirm_shows run new moving⟩
  case driveEnd =>
    refine ⟨unlockDone n (modOut n (fun o => { o with lockDrive := none }) s), _, ?_, rfl, ?_⟩
    · obtain ⟨toLock, start, attempt, conf, retryAt⟩ := d
      have some_ : conf = some t0 := confirmed
      rw [some_] at drive
      refine Eq.trans (b := execLockDriveEnd n s) rfl ?_
      rw [execLockDriveEnd, inSafety_undiscarded _ lost, drive]
      exact congrArg Host.Outcome.next (if_pos late)
    have beside : Beside s (unlockDone n (modOut n (fun o => { o with lockDrive := none }) s)) := modOut_beside.trans unlockDone_beside
    have view : lockView (outOf (unlockDone n (modOut n (fun o => { o with lockDrive := none }) s)) n) =
        lockView { outOf s n with lockDrive := none } :=
      (unlockDone_outlet lockView fun _ => rfl).trans (congrArg lockView (outOf_modOut_self ..))
    generalize unlockDone n (modOut n (fun o => { o with lockDrive := none }) s) = t at beside view
    obtain ⟨hstate, hlock, hdrive, hask, hfailed, hfault, hlast, hcfg⟩ : _ ∧ _ ∧ _ ∧ _ ∧ _ ∧ _ ∧ _ ∧ _ := by
      simpa only [lockView, Prod.mk.injEq] using view
    have idle : (outOf t n).lockIdle = true := by rw [Outlet.lockIdle, hdrive, hask, ask]; rfl
    obtain ⟨rows, all⟩ := evalOut_row (begun.of_beside beside hlast hcfg) (hfault.trans sound)
      (rowOf_locking_locked (hstate.trans state) (hlock.trans locked) idle (hfailed.trans ok)) (by decide) (by decide)
    refine ⟨gist_state all, ?_⟩
    rw [rows, lockDrive_afterRows, enter_selfTest_lockDrive, hdrive]
    rw [gist_state (enter_gist (by decide))]
    exact SesState.noConfusion
  case retry =>
    refine (exec_undiscarded (act := lockTimeout n) lost rfl).trans (congrArg Host.Outcome.next ?_)
    rw [lockTimeout_due drive open_ noRetry late, if_pos first]
  case gaveUp =>
    generalize failed : unlockDone n (postLock n 0 (modOut n (driveFailed true) s)) = t
    refine ⟨t, _, ?_, rfl, ?_⟩
    · refine (exec_undiscarded (act := lockTimeout n) lost rfl).trans (congrArg Host.Outcome.next ?_)
      rw [lockTimeout_due drive open_ noRetry late, if_neg second, toLock]
      exact failed
    have beside : Beside s t := by
      rw [← failed]
      exact (modOut_beside.trans postSes_beside).trans unlockDone_beside
    have view : lockView (outOf t n) = lockView (driveFailed true (outOf s n)) := by
      rw [← failed]
      exact (unlockDone_outlet lockView fun _ => rfl).trans (congrArg lockView (outOf_modOut_self ..))
    obtain ⟨hstate, hlock, hdrive, hask, hfailed, hfault, hlast, hcfg⟩ : _ ∧ _ ∧ _ ∧ _ ∧ _ ∧ _ ∧ _ ∧ _ := by
      simpa only [lockView, Prod.mk.injEq] using view
    obtain ⟨-, all⟩ := evalOut_row (begun.of_beside beside hlast hcfg) (hfault.trans sound)
      (rowOf_locking_failed (hstate.trans state) (by rw [Outlet.caseT, hcfg]; exact caseT) hfailed) (by decide) (by decide)
    exact ⟨gist_state all, gist_reason all⟩
  case again =>
    refine Eq.trans (b := execLockRetry n s) rfl ?_
    rw [execLockRetry, inSafety_undiscarded _ lost, drive]
    dsimp only
    rw [retry]
    exact congrArg Host.Outcome.next (if_pos late)

end Sys2Proof.Proofs
end

section
set_option Elab.async false -- one theorem after another, which keeps Lean within its memory
/-! Residual current, its self-test and the overcurrent of the vehicle (O30). -/

namespace Sys2Proof.Proofs

open Sys2Proof Sys2Proof.Machine Sys2Proof.Safety Sys2Proof.Laws

variable {s t u : State} {n : Outlet8} {r : Reason}

/-- A state in which residual current is watched and a fault is acted on. -/
def watched (x : SesState) : Prop := x = .closing ∨ x = .charging ∨ x = .stopping ∨ x = .opening

theorem watched_armed {o : Outlet} (h : watched o.state) : o.armed = true ∧ o.state ≠ .fault ∧ 1 ≤ o.state.num ∧ o.state.num ≤ 10 := by
  unfold Outlet.armed
  rcases h with h | h | h | h <;> rw [h] <;> exact ⟨rfl, SesState.noConfusion, by decide, by decide⟩

/-- A criterion of R222 has held its time. -/
def critMet (o : Outlet) (i : Nat) : Bool := decide ((rcdLevels.getD i (0, 1)).2 ≤ o.rcdRun.toList.getD i 0)

theorem critMet_iff {o : Outlet} {i : Nat} (h : i < 6) : critMet o i = true ↔ (rcdLevels.getD i (0, 1)).2 ≤ o.rcdRun[i] := by
  have run : o.rcdRun.toList.getD i 0 = o.rcdRun[i] := by simp [h]
  rw [critMet, run, decide_eq_true_eq]

/-- RCD_TRIP where a criterion is met. -/
theorem rcdTrip_met (lost : Undiscarded s) (watch : watched (outOf s n).state)
    (met : (critMet (outOf s n) 0 || critMet (outOf s n) 1 || critMet (outOf s n) 2) = true ∨
      (critMet (outOf s n) 3 || critMet (outOf s n) 4 || critMet (outOf s n) 5) = true) :
    exec (.rcdTrip n) s = .next (postRcd n (if critMet (outOf s n) 0 || critMet (outOf s n) 1 || critMet (outOf s n) 2 then 0 else 1) 0
      (modOut n (Outlet.fault (if critMet (outOf s n) 0 || critMet (outOf s n) 1 || critMet (outOf s n) 2 then .rcdDc else .rcdAc)) s)) := by
  obtain ⟨armed, notFault, -⟩ := watched_armed watch
  refine (exec_undiscarded lost rfl).trans (congrArg Host.Outcome.next (if_pos ⟨armed, notFault, ?_⟩))
  rwa [Bool.or_eq_true]

/-- FAULT after a trip. -/
theorem evalOut_trip {kind : Nat} (settled : Settled n s) (watch : watched (outOf s n).state) :
    (outOf (evalOut n (postRcd n kind 0 (modOut n (Outlet.fault r) s))) n).state = .fault ∧
      (outOf (evalOut n (postRcd n kind 0 (modOut n (Outlet.fault r) s))) n).reason = r ∧
      (outOf (evalOut n (postRcd n kind 0 (modOut n (Outlet.fault r) s))) n).latchA = false ∧
      (outOf (evalOut n (postRcd n kind 0 (modOut n (Outlet.fault r) s))) n).latchB = false := by
  obtain ⟨-, -, lo, hi⟩ := watched_armed watch
  have out : outOf (postRcd n kind 0 (modOut n (Outlet.fault r) s)) n = (outOf s n).fault r := outOf_modOut_self ..
  have beside : Beside s (postRcd n kind 0 (modOut n (Outlet.fault r) s)) := modOut_beside.trans postSes_beside
  obtain ⟨state, reason, latchA, latchB, -⟩ := evalOut_fault (r := r)
    ((begun_of_settled settled).of_beside beside (by rw [out]; rfl) (by rw [out]; rfl))
    (by rw [out]; exact lo) (by rw [out]; exact hi) (by rw [out]; exact faultOf_raised (sound_of_settled settled) rfl rfl rfl rfl)
  exact ⟨state, reason, latchA, latchB⟩

/-! ### The self-test -/

/-- The mean of the samples of a step. -/
def stepMean (w : SelfTest) : Rat := if w.count = 0 then 0 else w.sum / w.count

/-- The first step of the self-test, once its time has passed (R223). -/
theorem testPhase_first {w : SelfTest} (test : (outOf s n).test = some w) (open_ : w.done = none) (first : w.step = 1)
    (late : w.start + 1280 ≤ s.now) : testPhase n s =
      if stepMean w < 2 / 1000 ∧ -(2 / 1000) < stepMean w then
        modOut n (fun o => { o with test := some { step := 2, start := s.now, b := stepMean w } }) s
      else postRcd n 2 1 (modOut n (fun o => { o with test := some { w with done := some false } }) s) := by
  unfold testPhase
  dsimp only
  rw [test]
  dsimp only
  rw [open_, first, if_neg (by decide), if_pos rfl, if_neg (Nat.not_lt.2 late)]
  rfl

theorem rowOf_selfTest_failed {w : SelfTest} (state : (outOf s n).state = .selfTest) (test : (outOf s n).test = some w)
    (failed : w.done = some false) : rowOf n s = some (enter n .ended (some .rcdTest) s) := by
  obtain ⟨step, start, sum, count, b, done⟩ := w
  have some_ : done = some false := failed
  rw [some_] at test
  simp only [rowOf, state, test]

/-- Settles O30. -/
theorem residualCurrentProtection : Obligations.ResidualCurrentProtection := by
  unfold Obligations.ResidualCurrentProtection
  intro s n o eq settled
  subst eq
  have lost : Undiscarded s := settled.1
  have begun := begun_of_settled settled
  have sound := sound_of_settled settled
  refine ⟨fun i watch held => ?dc, fun i watch calm held => ?ac, fun w mean state test open_ first late eqMean =>
    ⟨fun below above => ?second, fun out => ?failed⟩, fun over_ noStop => ?overcurrent⟩
  case dc =>
    have met : (critMet (outOf s n) 0 || critMet (outOf s n) 1 || critMet (outOf s n) 2) = true := by
      have : critMet (outOf s n) i.val = true := (critMet_iff (by omega)).2 held
      revert this
      match i with
      | 0 => exact fun h => by rw [show critMet (outOf s n) 0 = true from h]; rfl
      | 1 => exact fun h => by rw [show critMet (outOf s n) 1 = true from h, Bool.or_true]; rfl
      | 2 => exact fun h => by rw [show critMet (outOf s n) 2 = true from h, Bool.or_true]
    have act := rcdTrip_met lost watch (.inl met)
    rw [met, if_pos rfl, if_pos rfl] at act
    exact ⟨_, _, act, rfl, evalOut_trip settled watch⟩
  case ac =>
    have noDc : (critMet (outOf s n) 0 || critMet (outOf s n) 1 || critMet (outOf s n) 2) = false := by
      have none_ (j : Fin 3) : critMet (outOf s n) j.val = false := by
        rw [Bool.eq_false_iff, Ne, critMet_iff (by omega)]
        exact Nat.not_le.2 (calm j)
      rw [show critMet (outOf s n) 0 = false from none_ 0, show critMet (outOf s n) 1 = false from none_ 1,
        show critMet (outOf s n) 2 = false from none_ 2]
      rfl
    have met : (critMet (outOf s n) 3 || critMet (outOf s n) 4 || critMet (outOf s n) 5) = true := by
      have : critMet (outOf s n) (3 + i.val) = true := (critMet_iff (by omega)).2 held
      revert this
      match i with
      | 0 => exact fun h => by rw [show critMet (outOf s n) 3 = true from h]; rfl
      | 1 => exact fun h => by rw [show critMet (outOf s n) 4 = true from h, Bool.or_true]; rfl
      | 2 => exact fun h => by rw [show critMet (outOf s n) 5 = true from h, Bool.or_true]
    have act := rcdTrip_met lost watch (.inr met)
    rw [noDc, if_neg Bool.false_ne_true, if_neg Bool.false_ne_true] at act
    exact ⟨_, _, act, rfl, evalOut_trip settled watch⟩
  case second =>
    refine (exec_undiscarded (act := testPhase n) lost rfl).trans (congrArg Host.Outcome.next ?_)
    subst eqMean
    rw [testPhase_first test open_ first late]
    exact if_pos ⟨below, above⟩
  case failed =>
    subst eqMean
    have outside : ¬(stepMean w < 2 / 1000 ∧ -(2 / 1000) < stepMean w) := by
      rintro ⟨below, above⟩
      exact out.elim (fun h => absurd below (not_lt.2 h)) fun h => absurd above (not_lt.2 h)
    refine ⟨_, _, (exec_undiscarded (act := testPhase n) lost rfl).trans (congrArg Host.Outcome.next
      ((testPhase_first test open_ first late).trans (if_neg outside))), rfl, ?_⟩
    generalize fails : postRcd n 2 1 (modOut n (fun o => { o with test := some { w with done := some false } }) s) = t
    have outlet : outOf t n = { outOf s n with test := some { w with done := some false } } := by
      rw [← fails]
      exact outOf_modOut_self ..
    have beside : Beside s t := by
      rw [← fails]
      exact modOut_beside.trans postSes_beside
    obtain ⟨-, all⟩ := evalOut_row (begun.of_beside beside (by rw [outlet]) (by rw [outlet])) (by rw [outlet]; exact sound)
      (rowOf_selfTest_failed (by rw [outlet]; exact state) (by rw [outlet]) rfl) (by decide) (by decide)
    exact ⟨gist_state all, gist_reason all⟩
  case overcurrent =>
    obtain ⟨p, high⟩ := over_
    have any : ((outOf s n).overRun.toList.any fun r => decide (500 ≤ r)) = true :=
      List.any_eq_true.2 ⟨_, by simp, decide_eq_true high⟩
    refine (exec_undiscarded lost rfl).trans (congrArg Host.Outcome.next ((if_pos any).trans ?_))
    rw [requestStop, modOut_modOut]
    refine modOut_congr ?_
    dsimp only
    rw [noStop]
    rfl

end Sys2Proof.Proofs
end

section
set_option Elab.async false -- one theorem after another, which keeps Lean within its memory
/-! The configuration and the descriptors of an outlet (O27). -/

namespace Sys2Proof.Proofs

open Sys2Proof Sys2Proof.Machine Sys2Proof.Safety Sys2Proof.Laws

variable {s t u : State} {f : Flight} {n : Outlet8}

/-! ### The set-up registers -/

theorem writeOcfg_taken {v : Nat} (idle : (outOf s n).idle = true) (ok : ocfgOk v = true) (dc : (bitAt v 0 && isDc s n) = false) :
    writeOcfg n v s = modOut n (fun o => { o with pendOcfg := some (BitVec.ofNat 32 v &&& 0x037F7FFF) }) s := by
  rw [writeOcfg, if_pos]
  rw [idle, ok, dc]
  rfl

theorem writeOcfg_rejected {v : Nat} (bad : (outOf s n).idle = false ∨ ocfgOk v = false) : writeOcfg n v s = sesReject s := by
  rw [writeOcfg, if_neg]
  rcases bad with h | h <;> rw [h] <;> simp

theorem writeCoil_taken {v : Nat} (idle : (outOf s n).idle = true) (ok : coilOk v = true) :
    writeCoil n v s = modOut n (fun o => { o with pendCoil := some (BitVec.ofNat 32 v &&& 0xFFFF) }) s := by
  rw [writeCoil, if_pos]
  rw [idle, ok]
  rfl

theorem writeCoil_rejected {v : Nat} (bad : (outOf s n).idle = false ∨ coilOk v = false) : writeCoil n v s = sesReject s := by
  rw [writeCoil, if_neg]
  rcases bad with h | h <;> rw [h] <;> simp

/-! ### SES_AUTHORISE -/

/-- The fields of SES_AUTHORISE are in range (R207). -/
def authRange (f : Flight) : Prop := f.p 16 1 ≤ 1 ∧ (f.p 40 2 = 0 ∨ (60 ≤ f.p 40 2 ∧ f.p 40 2 ≤ 800))

/-- An outlet that is authorised by this descriptor. -/
def authorised (f : Flight) (o : Outlet) : Outlet :=
  { o with authed := true, denied := false, authRef := BitVec.ofNat 64 (f.p 24 8), iSes := if f.p 40 2 = 0 then none else some (f.p 40 2) }

/-- The pre-authorisation of this descriptor. -/
def preAuthOf (f : Flight) (s : State) : PreAuth :=
  { authRef := BitVec.ofNat 64 (f.p 24 8), limit := f.p 40 2, untilTick := s.now + 64000 * s.ses.preauthS }

theorem sesAuthorise_range (bad : ¬authRange f) : sesAuthorise f s = completeSt f .invalid s := by
  unfold sesAuthorise
  refine if_pos ?_
  unfold authRange at bad
  omega

/-- SES_AUTHORISE with its fields in range. -/
theorem sesAuthorise_ranged (range : authRange f) : sesAuthorise f s =
    if !iresOk s f.outlet ∨ 11 ≤ (outOf s f.outlet).state.num then completeSt f .denied s
    else if (outOf s f.outlet).state = .idle then
      if f.p 32 8 ≠ 0 then completeSt f .conflict s
      else if s.ses.preauthS = 0 then completeSt f .denied s
      else if f.p 16 1 = 0 then complete f .ok 0 (leBytes 8 0) none (modOut f.outlet (fun o => { o with preAuth := none }) s)
      else complete f .ok (b2n (outOf s f.outlet).preAuth.isSome) (leBytes 8 0) none
        (modOut f.outlet (fun o => { o with preAuth := some (preAuthOf f s) }) s)
    else if 5 ≤ (outOf s f.outlet).state.num ∨ f.p 32 8 ≠ (outOf s f.outlet).session then completeSt f .conflict s
    else complete f .ok 0 (leBytes 8 (f.p 32 8)) none (modOut f.outlet (fun o =>
      if f.p 16 1 = 1 then authorised f o else { o with authed := false, denied := true }) s) := by
  unfold sesAuthorise
  refine if_neg ?_
  unfold authRange at range
  omega

/-- A faulty, welded or disabled outlet, or one without its residual-current slot, is refused. -/
theorem sesAuthorise_denied (range : authRange f) (bad : iresOk s f.outlet = false ∨ 11 ≤ (outOf s f.outlet).state.num) :
    sesAuthorise f s = completeSt f .denied s := by
  rw [sesAuthorise_ranged range, if_pos]
  rcases bad with h | h
  · exact .inl (by rw [h]; rfl)
  · exact .inr h

theorem num_idle {o : Outlet} : o.state.num = 0 ↔ o.state = .idle := by cases o.state <;> simp [SesState.num]

/-- In IDLE a descriptor with session 0 is held as a pre-authorisation or ends the one held. -/
theorem sesAuthorise_idle (range : authRange f) (ires : iresOk s f.outlet = true) (idle : (outOf s f.outlet).state = .idle) :
    sesAuthorise f s =
      if f.p 32 8 ≠ 0 then completeSt f .conflict s
      else if s.ses.preauthS = 0 then completeSt f .denied s
      else if f.p 16 1 = 0 then complete f .ok 0 (leBytes 8 0) none (modOut f.outlet (fun o => { o with preAuth := none }) s)
      else complete f .ok (b2n (outOf s f.outlet).preAuth.isSome) (leBytes 8 0) none
        (modOut f.outlet (fun o => { o with preAuth := some (preAuthOf f s) }) s) := by
  rw [sesAuthorise_ranged range, if_neg, if_pos idle]
  rw [ires, idle]
  exact fun h => h.elim (fun h => Bool.noConfusion h) fun h => absurd h (by decide)

/-- From CONNECTED to AUTHORISING the session's number decides. -/
theorem sesAuthorise_session (range : authRange f) (ires : iresOk s f.outlet = true) (lo : 1 ≤ (outOf s f.outlet).state.num)
    (hi : (outOf s f.outlet).state.num ≤ 4) (no : f.p 32 8 = (outOf s f.outlet).session) : sesAuthorise f s =
      complete f .ok 0 (leBytes 8 (outOf s f.outlet).session) none (modOut f.outlet (fun o =>
        if f.p 16 1 = 1 then authorised f o else { o with authed := false, denied := true }) s) := by
  have notIdle : (outOf s f.outlet).state ≠ .idle := fun h => by rw [num_idle.2 h] at lo; omega
  rw [sesAuthorise_ranged range, if_neg, if_neg notIdle, if_neg, no]
  · exact fun h => h.elim (fun h => by omega) fun h => h no
  · rw [ires]
    exact fun h => h.elim (fun h => Bool.noConfusion h) fun h => by omega

/-- Another state, or another session's number, is CONFLICT. -/
theorem sesAuthorise_conflict (range : authRange f) (ires : iresOk s f.outlet = true)
    (bad : ((outOf s f.outlet).state = .idle ∧ f.p 32 8 ≠ 0) ∨ (5 ≤ (outOf s f.outlet).state.num ∧ (outOf s f.outlet).state.num ≤ 10) ∨
      (1 ≤ (outOf s f.outlet).state.num ∧ (outOf s f.outlet).state.num ≤ 4 ∧ f.p 32 8 ≠ (outOf s f.outlet).session)) :
    sesAuthorise f s = completeSt f .conflict s := by
  by_cases idle : (outOf s f.outlet).state = .idle
  · have zero : (outOf s f.outlet).state.num = 0 := num_idle.2 idle
    have no : f.p 32 8 ≠ 0 := by
      rcases bad with h | h | h
      · exact h.2
      · omega
      · omega
    rw [sesAuthorise_idle range ires idle, if_pos no]
  · have low : ¬11 ≤ (outOf s f.outlet).state.num := by
      rcases bad with h | h | h
      · exact absurd h.1 idle
      · omega
      · omega
    rw [sesAuthorise_ranged range, if_neg, if_neg idle, if_pos]
    · rcases bad with h | h | h
      · exact absurd h.1 idle
      · exact .inl h.1
      · exact .inr h.2.2
    · rw [ires]
      exact fun h => h.elim (fun h => Bool.noConfusion h) low

/-! ### The other descriptors -/

theorem requestStop_none (none_ : (outOf s n).stopReq = none) {r : Reason} :
    requestStop n r s = modOut n (fun o => { o with stopReq := some (s.now, r) }) s :=
  modOut_congr (by rw [none_]; rfl)

theorem requestStop_some (some_ : (outOf s n).stopReq.isSome = true) {r : Reason} : requestStop n r s = s :=
  modOut_id (if_pos some_)

theorem sesStop_open (unit : f.p 16 1 = 2) (lo : 1 ≤ (outOf s f.outlet).state.num) (hi : (outOf s f.outlet).state.num ≤ 9) :
    sesStop f s = complete f .ok 0 [BitVec.ofNat 8 (outOf s f.outlet).state.num] none (requestStop f.outlet .hostStop s) := by
  unfold sesStop
  exact (if_neg (by omega)).trans (if_neg (by omega))

/-- The limit in force follows its terms, which an update leaves alone (R200). -/
theorem updateLimit_effect {now : Nat} {o : Outlet} : (o.updateLimit now).iHost = o.iHost ∧ (o.updateLimit now).iSes = o.iSes ∧
    (o.updateLimit now).iLim = (o.updateLimit now).limit := by
  unfold Outlet.updateLimit
  extract_lets i h old
  split
  next same => exact ⟨rfl, rfl, same.symm⟩
  next => exact ⟨rfl, rfl, rfl⟩

/-- The outlet under a new host limit. -/
def hostLimited (l now : Nat) (o : Outlet) : Outlet :=
  ({ o with iHost := if l = 0xFFFF then none else some l, iSes := none } : Outlet).updateLimit now

theorem hostLimited_effect {l now : Nat} {o : Outlet} : (hostLimited l now o).iHost = (if l = 0xFFFF then none else some l) ∧
    (hostLimited l now o).iSes = none ∧ (hostLimited l now o).iLim = (hostLimited l now o).limit :=
  updateLimit_effect

theorem sesLimit_taken (range : f.p 16 2 ≤ 800 ∨ f.p 16 2 = 0xFFFF) : sesLimit f s =
    complete f .ok 0 (leBytes 2 (outOf (modOut f.outlet (hostLimited (f.p 16 2) s.now) s) f.outlet).iLim) none
      (modOut f.outlet (hostLimited (f.p 16 2) s.now) s) := by
  unfold sesLimit
  exact if_neg (by omega)

/-- SES_LIMIT sets the limit of the host, which the limit in force follows. -/
theorem sesLimit_exec (front : Front 0x0303 f s) (eq : f.outlet = n) (range : f.p 16 2 ≤ 800 ∨ f.p 16 2 = 0xFFFF) :
    ∃ u, exec .sesLimit s = .next (complete f .ok 0 (leBytes 2 (outOf u n).iLim) none u) ∧
      (outOf u n).iHost = (if f.p 16 2 = 0xFFFF then none else some (f.p 16 2)) ∧ (outOf u n).iSes = none ∧
      (outOf u n).iLim = (outOf u n).limit ∧ u = { s with ses := u.ses } := by
  subst eq
  refine ⟨modOut f.outlet (hostLimited (f.p 16 2) s.now) s, (exec_front (act := sesLimit) front rfl).trans
    (congrArg Host.Outcome.next (sesLimit_taken range)), ?_⟩
  rw [outOf_modOut_self]
  obtain ⟨host, own, limit⟩ := hostLimited_effect (l := f.p 16 2) (now := s.now) (o := outOf s f.outlet)
  exact ⟨host, own, limit, rfl⟩

/-- What SES_FAULT_CLEAR records. -/
def clearAsked (f : Flight) (s : State) : State := modOut f.outlet (fun o => { o with clearReq := o.clearReq ++ [(s.now, f.seq)] }) s

theorem sesFaultClear_fault (state : (outOf s f.outlet).state = .fault) : sesFaultClear f s =
    if (outOf s f.outlet).opened then keepRunning f (clearAsked f s) else completeSt f .denied s := by
  unfold sesFaultClear
  exact if_pos state

theorem sesFaultClear_welded (state : (outOf s f.outlet).state = .welded) : sesFaultClear f s =
    if (outOf s f.outlet).mirror = some false ∧ 50 ≤ (outOf s f.outlet).quietCycles then keepRunning f (clearAsked f s)
    else completeSt f .denied s := by
  unfold sesFaultClear
  exact (if_neg (by rw [state]; exact SesState.noConfusion)).trans (if_pos state)

theorem sesFaultClear_other (fault : (outOf s f.outlet).state ≠ .fault) (welded : (outOf s f.outlet).state ≠ .welded) :
    sesFaultClear f s = completeSt f .conflict s := by
  unfold sesFaultClear
  exact (if_neg fault).trans (if_neg welded)

/-- The states in which the host may unlock the cable. -/
def unlockable (o : Outlet) : Prop := o.state = .ended ∨ (o.state = .fault ∧ o.opened = true)

theorem unlockable_iff {o : Outlet} : (o.state = .ended || (o.state = .fault && o.opened)) = true ↔ unlockable o := by simp [unlockable]

theorem sesUnlock_denied (bad : ¬unlockable (outOf s f.outlet)) : sesUnlock f s = completeSt f .denied s := by
  unfold sesUnlock
  refine if_pos ?_
  rw [Bool.not_eq_true', Bool.eq_false_iff, Ne, unlockable_iff]
  exact bad

theorem sesUnlock_taken (ok : unlockable (outOf s f.outlet)) : sesUnlock f s =
    if (outOf s f.outlet).caseT then complete f .ok 0 [BitVec.ofNat 8 (outOf s f.outlet).lockCode] none s
    else if (outOf s f.outlet).unlockSeq.isSome then completeSt f .busy s
    else keepRunning f (modOut f.outlet (fun o => { o with unlockSeq := some f.seq, unlockAsk := some s.now }) s) := by
  unfold sesUnlock
  refine if_neg ?_
  rw [Bool.not_eq_true', Bool.eq_false_iff, Ne, unlockable_iff, not_not]
  exact ok

/-! ### An accepted fault clear -/

/-- FAULT is left by the host's clear, where no other row comes first. -/
theorem rowOf_fault_clear (state : (outOf s n).state = .fault) (opened : (outOf s n).opened = true)
    (reason : (outOf s n).reason ≠ .restart) (det : (outOf s n).det ≠ some .a)
    (due : (outOf s n).trigs.contains .faultClear = true) : rowOf n s = some (enter n
      (if (outOf s n).det = some .b ∨ (outOf s n).det = some .c ∨ (outOf s n).det = some .d then .connected else .idle) none s) := by
  have sound : (outOf s n).openFailed = false := by
    unfold Outlet.opened at opened
    simp only [Bool.and_eq_true, decide_eq_true_eq] at opened
    unfold Outlet.openFailed
    rw [opened.1, opened.2]
    rfl
  simp only [rowOf, state, sound, opened, due, decide_eq_false reason, decide_eq_false det, Bool.and_false, Bool.false_and,
    Bool.false_eq_true, if_false, if_true, Bool.or_eq_true, decide_eq_true_eq, or_assoc]

/-- An entry keeps the accepted clears and what is due. -/
def clearView (o : Outlet) : List (Tick × Nat) × List Trig := (o.clearReq, o.trigs)

theorem setDrive_clearView {o : Outlet} {d : Drive} : clearView (o.setDrive d) = clearView o := by unfold Outlet.setDrive; split <;> rfl

theorem startLock_clearView {o : Outlet} {toLock : Bool} {now : Nat} : clearView (o.startLock toLock now) = clearView o := by
  unfold Outlet.startLock
  split
  · rfl
  · split <;> rfl

theorem openSession_clearView : clearView (outOf (openSession n s) n) = clearView (outOf s n) := by
  have marked : clearView (outOf (markRecord n s.now s) n) = clearView (outOf s n) := markRecord_outlet clearView fun _ => rfl
  unfold openSession
  extract_lets s1 o pre o' cfg
  have put : clearView o' = clearView o := rfl
  exact ((congrArg clearView (Vector.getElem_set_self (xs := s1.ses.out) (x := o') n.isLt)).trans put).trans marked

theorem enter_clearView {new : SesState} {reason : Option Reason} (either : new = .connected ∨ new = .idle) :
    clearView (outOf (enter n new reason s) n) = clearView (outOf s n) := by
  unfold enter
  extract_lets old s1 no s2 s3 ends o s4 s5 s6 sct sClose s7
  have v1 : clearView (outOf s1 n) = clearView (outOf s n) := by
    unfold s1
    split
    · exact openSession_clearView
    · rfl
  have v3 : clearView (outOf s3 n) = clearView (outOf s1 n) :=
    (congrArg clearView (outOf_modOut_self n (landed new reason s1.now) s1)).trans rfl
  have v4 : clearView (outOf s4 n) = clearView (outOf s3 n) := by
    unfold s4
    split
    · exact markRecord_outlet clearView fun _ => rfl
    · rfl
  have v5 : clearView (outOf s5 n) = clearView (outOf s4 n) := by
    unfold s5
    split
    · exact (congrArg clearView (outOf_modOut_self n Outlet.closeSession s4)).trans rfl
    · rfl
  have v6 : clearView (outOf s6 n) = clearView (outOf s5 n) := by
    unfold s6
    split
    · rw [outOf_endMatch]
    · rfl
  have v7 : clearView (outOf s7 n) = clearView (outOf s6 n) := by
    unfold s7
    rcases either with rfl | rfl
    · dsimp only
      split
      · rw [outOf_modOut_self]
        rfl
      · rfl
    · dsimp only
      unfold unlockInIdle
      extract_lets o
      split
      · rw [outOf_modOut_self, startLock_clearView]
      · rfl
  rw [outOf_modOut_self, setDrive_clearView, v7, v6, v5, v4, v3, v1]

/-- Where every accepted clear is due, none is left after the rows. -/
theorem afterRows_cleared (due : (outOf s n).trigs.contains .faultClear = true) (before : ∀ e ∈ (outOf s n).clearReq, e.1 < s.now) :
    (outOf (afterRows n s) n).clearReq = [] := by
  have closed : (outOf (closeRequests n s) n).clearReq = [] := by
    rw [closeRequests_clearReq, due]
    refine List.filter_eq_nil_iff.2 fun e mem => ?_
    simp [before e mem]
  have drive (o : Outlet) (d : Drive) : (o.setDrive d).clearReq = o.clearReq := congrArg Prod.fst setDrive_clearView
  have lock (o : Outlet) (now : Nat) : (o.startLock false now).clearReq = o.clearReq := congrArg Prod.fst startLock_clearView
  unfold afterRows
  rw [outOf_modOut_self, drive]
  unfold releaseInFault
  extract_lets o
  split
  · rw [outOf_modOut_self]
    dsimp only
    split
    · rw [lock]
      exact closed
    · exact closed
  · exact closed

theorem endMatch_now : (endMatch n s).now = s.now := by
  unfold endMatch
  extract_lets l x s1 s2
  have now1 : s1.now = s.now := by unfold s1; split <;> rfl
  have now2 : s2.now = s.now := by unfold s2; split <;> exact now1
  split
  next bytes s3 split_ =>
    have now3 : s3.now = s.now := by
      have parts := congrArg (fun x => x.2.now) split_
      refine parts.symm.trans ?_
      split <;> exact now2
    exact now3

theorem enter_now {new : SesState} {reason : Option Reason} (either : new = .connected ∨ new = .idle) : (enter n new reason s).now = s.now := by
  unfold enter
  extract_lets old s1 no s2 s3 ends o s4 s5 s6 sct sClose s7
  have now1 : s1.now = s.now := by
    unfold s1
    split
    · exact (markRecord_beside (n := n) (s := s) (tick := s.now)).now
    · rfl
  have now4 : s4.now = s1.now := by
    unfold s4
    split
    · exact (markRecord_beside (s := s3)).now
    · rfl
  have now5 : s5.now = s4.now := by unfold s5; split <;> rfl
  have now6 : s6.now = s5.now := by
    unfold s6
    split
    · exact endMatch_now
    · rfl
  have now7 : s7.now = s6.now := by
    unfold s7
    rcases either with rfl | rfl
    · dsimp only
      split <;> rfl
    · dsimp only
      unfold unlockInIdle
      extract_lets o
      split <;> rfl
  exact now7.trans (now6.trans (now5.trans (now4.trans now1)))

/-- An accepted clear takes the outlet out of FAULT and is used up (R205, R226). -/
theorem evalOut_clear (begun : Begun n s) (sound : faultOf (outOf s n) = none) (state : (outOf s n).state = .fault)
    (opened : (outOf s n).opened = true) (reason : (outOf s n).reason ≠ .restart) (det : (outOf s n).det ≠ some .a)
    (due : (outOf s n).trigs.contains .faultClear = true) (before : ∀ e ∈ (outOf s n).clearReq, e.1 < s.now) :
    (outOf (evalOut n s) n).clearReq = [] ∧ (outOf (evalOut n s) n).state =
      (if (outOf s n).det = some .b ∨ (outOf s n).det = some .c ∨ (outOf s n).det = some .d then .connected else .idle) := by
  have row := rowOf_fault_clear state opened reason det due
  generalize target : (if (outOf s n).det = some .b ∨ (outOf s n).det = some .c ∨ (outOf s n).det = some .d
    then SesState.connected else .idle) = new at row
  have either : new = .connected ∨ new = .idle := by
    rw [← target]
    split
    · exact .inl rfl
    · exact .inr rfl
  have closing : new ≠ .closing := by rcases either with rfl | rfl <;> exact SesState.noConfusion
  have auth : new ≠ .authorising := by rcases either with rfl | rfl <;> exact SesState.noConfusion
  obtain ⟨rows, all⟩ := evalOut_row begun sound row closing auth
  refine ⟨?_, gist_state all⟩
  have view := enter_clearView (n := n) (s := s) (reason := none) either
  have clears : (outOf (enter n new none s) n).clearReq = (outOf s n).clearReq := congrArg Prod.fst view
  have trigs : (outOf (enter n new none s) n).trigs = (outOf s n).trigs := congrArg Prod.snd view
  rw [rows]
  refine afterRows_cleared (by rw [trigs]; exact due) fun e mem => ?_
  rw [enter_now either]
  exact before e (clears ▸ mem)

/-- The requests of a tick in which only a fault clear is due. -/
theorem request_clear (none_ : (outOf s n).candidate = none) (noStop : (outOf s n).stopReq = none) (noAsk : (outOf s n).unlockAsk = none)
    {t0 seq : Nat} (clear : (outOf s n).clearReq = [(t0, seq)]) (before : t0 < s.now) :
    takeStopRequest n (takeFaultClear n (takeUnlock n (recognise n s))) = modOut n (Outlet.due .faultClear) s := by
  have unlock : takeUnlock n s = s := by
    unfold takeUnlock
    dsimp only
    rw [noAsk]
  have cleared : takeFaultClear n s = modOut n (Outlet.due .faultClear) s := by
    unfold takeFaultClear
    rw [clear, if_pos (by simp [before])]
  rw [recognise_none none_, unlock, cleared]
  unfold takeStopRequest
  rw [outOf_due]
  dsimp only
  rw [noStop]

/-- Settles O27. -/
theorem outletCommands : Obligations.OutletCommands := by
  unfold Obligations.OutletCommands
  refine ⟨fun s n v up => ⟨fun idle ok dc => ?ocfg, fun bad => ?ocfgBad, fun idle ok => ?coil, fun bad => ?coilBad⟩,
    fun s f n o eqN eqO => ⟨fun front accept range ires => ⟨fun lo hi no => ?auth, fun idle no pre => ?pre, fun high => ?authDenied⟩,
      fun front unit lo hi none_ => ?stop, fun front unit => ?stopUnit, fun front range => ?limit, fun front all => ?limitAll,
      fun b front eq => ?read, fun front => ⟨fun state opened => ?clear, fun state opened => ?clearNot, fun state mirror quiet => ?welded,
        fun state bad => ?weldedNot, fun fault welded => ?clearOther⟩,
      fun t0 settled state opened clear before cand noStop noAsk reason det => ?leaves,
      fun front state none_ => ⟨fun caseT => ?unlock, fun caseT => ?tethered⟩⟩,
    fun s f n o eqN eqO => ⟨fun front bad => ?range, fun front accept range => ⟨fun bad => ?denied, fun ires =>
        ⟨fun bad => ?conflict, fun idle no pre => ?noPre, fun accept idle no pre => ?endPre, fun accept lo hi no => ?deny⟩⟩,
      fun front unit bad => ?stopClosed, fun front unit lo hi some_ => ?stopAgain, fun front hi other => ?limitRange,
      fun front notEnded notFault => ?locked, fun front ok caseT => ⟨fun busy => ?busy, fun none_ => ?unlockAgain⟩⟩⟩
  all_goals try subst eqN eqO
  case ocfg =>
    rw [exec_up (act := writeOcfg n v.toNat) up rfl, writeOcfg_taken idle ok dc, BitVec.ofNat_toNat, BitVec.setWidth_eq]
  case ocfgBad =>
    rw [exec_up (act := writeOcfg n v.toNat) up rfl, writeOcfg_rejected bad]
    rfl
  case coil =>
    rw [exec_up (act := writeCoil n v.toNat) up rfl, writeCoil_taken idle ok, BitVec.ofNat_toNat, BitVec.setWidth_eq]
  case coilBad =>
    rw [exec_up (act := writeCoil n v.toNat) up rfl, writeCoil_rejected bad]
    rfl
  case auth =>
    refine (exec_front (act := sesAuthorise) front rfl).trans (congrArg Host.Outcome.next ?_)
    rw [sesAuthorise_session ⟨le_of_eq accept, range⟩ ires lo hi no]
    exact congrArg _ (modOut_congr (if_pos accept))
  case pre =>
    refine (exec_front (act := sesAuthorise) front rfl).trans (congrArg Host.Outcome.next ?_)
    rw [sesAuthorise_idle ⟨le_of_eq accept, range⟩ ires idle, if_neg (not_not.2 no), if_neg (by omega), if_neg (by omega)]
    rfl
  case authDenied =>
    exact (exec_front (act := sesAuthorise) front rfl).trans (congrArg Host.Outcome.next
      (sesAuthorise_denied ⟨le_of_eq accept, range⟩ (.inr high)))
  case stop =>
    refine (exec_front (act := sesStop) front rfl).trans (congrArg Host.Outcome.next ?_)
    rw [sesStop_open unit lo hi, requestStop_none none_]
  case stopUnit => exact (exec_front (act := sesStop) front rfl).trans (congrArg Host.Outcome.next (if_pos unit))
  case limit =>
    obtain ⟨u, runs, host, own, limit, rest⟩ := sesLimit_exec front rfl (.inl range)
    exact ⟨u, runs, host.trans (if_neg (by omega)), own, limit, rest⟩
  case limitAll =>
    obtain ⟨u, runs, host, own, limit, rest⟩ := sesLimit_exec front rfl (.inr all)
    exact ⟨u, runs, host.trans (if_pos all), own, limit, rest⟩
  case read =>
    subst eq
    exact exec_front (act := sesRead) front rfl
  case clear =>
    exact (exec_front (act := sesFaultClear) front rfl).trans (congrArg Host.Outcome.next ((sesFaultClear_fault state).trans (if_pos opened)))
  case clearNot =>
    refine (exec_front (act := sesFaultClear) front rfl).trans (congrArg Host.Outcome.next ((sesFaultClear_fault state).trans (if_neg ?_)))
    rw [opened]
    exact Bool.false_ne_true
  case welded =>
    exact (exec_front (act := sesFaultClear) front rfl).trans (congrArg Host.Outcome.next
      ((sesFaultClear_welded state).trans (if_pos ⟨mirror, quiet⟩)))
  case weldedNot =>
    refine (exec_front (act := sesFaultClear) front rfl).trans (congrArg Host.Outcome.next ((sesFaultClear_welded state).trans (if_neg ?_)))
    rintro ⟨mirror, quiet⟩
    exact bad.elim (fun h => h mirror) fun h => absurd quiet (Nat.not_le.2 h)
  case clearOther =>
    exact (exec_front (act := sesFaultClear) front rfl).trans (congrArg Host.Outcome.next (sesFaultClear_other fault welded))
  case leaves =>
    have lost : Undiscarded s := settled.1
    refine ⟨_, (exec_undiscarded (act := fun s => takeStopRequest f.outlet (takeFaultClear f.outlet (takeUnlock f.outlet
      (recognise f.outlet s)))) lost rfl).trans (congrArg Host.Outcome.next (request_clear cand noStop noAsk clear before)), ?_⟩
    have left := evalOut_clear (n := f.outlet) (s := modOut f.outlet (Outlet.due .faultClear) s)
      (begun_modOut (begun_of_settled settled) rfl rfl) (by rw [outOf_due]; exact sound_of_settled settled)
      (by rw [outOf_due]; exact state) (by rw [outOf_due]; exact opened) (by rw [outOf_due]; exact reason) (by rw [outOf_due]; exact det)
      (by rw [outOf_modOut_self]; exact due_contains) (by
        rw [outOf_due]
        dsimp only
        rw [clear]
        intro e mem
        rw [List.mem_singleton.1 mem]
        exact before)
    rw [outOf_due] at left
    exact left
  case unlock =>
    refine (exec_front (act := sesUnlock) front rfl).trans (congrArg Host.Outcome.next ?_)
    rw [sesUnlock_taken (.inl state), caseT, if_neg Bool.false_ne_true, none_]
    rfl
  case tethered =>
    refine (exec_front (act := sesUnlock) front rfl).trans (congrArg Host.Outcome.next ?_)
    rw [sesUnlock_taken (.inl state), caseT, if_pos rfl]
  case range =>
    refine (exec_front (act := sesAuthorise) front rfl).trans (congrArg Host.Outcome.next (sesAuthorise_range ?_))
    rintro ⟨accept, range⟩
    exact bad.elim (fun h => absurd accept (Nat.not_le.2 h)) fun h => h range
  case denied =>
    exact (exec_front (act := sesAuthorise) front rfl).trans (congrArg Host.Outcome.next (sesAuthorise_denied ⟨accept, range⟩ bad))
  case conflict =>
    exact (exec_front (act := sesAuthorise) front rfl).trans (congrArg Host.Outcome.next (sesAuthorise_conflict ⟨accept, range⟩ ires bad))
  case noPre =>
    refine (exec_front (act := sesAuthorise) front rfl).trans (congrArg Host.Outcome.next ?_)
    rw [sesAuthorise_idle ⟨accept, range⟩ ires idle, if_neg (not_not.2 no), if_pos pre]
  case endPre =>
    refine (exec_front (act := sesAuthorise) front rfl).trans (congrArg Host.Outcome.next ?_)
    rw [sesAuthorise_idle ⟨le_of_eq_of_le accept (by decide), range⟩ ires idle, if_neg (not_not.2 no), if_neg (by omega), if_pos accept]
  case deny =>
    refine (exec_front (act := sesAuthorise) front rfl).trans (congrArg Host.Outcome.next ?_)
    rw [sesAuthorise_session ⟨le_of_eq_of_le accept (by decide), range⟩ ires lo hi no]
    exact congrArg _ (modOut_congr (if_neg (by omega)))
  case stopClosed =>
    refine (exec_front (act := sesStop) front rfl).trans (congrArg Host.Outcome.next ?_)
    unfold sesStop
    exact (if_neg (by omega)).trans (if_pos bad)
  case stopAgain =>
    refine (exec_front (act := sesStop) front rfl).trans (congrArg Host.Outcome.next ?_)
    rw [sesStop_open unit lo hi, requestStop_some some_]
  case limitRange =>
    exact (exec_front (act := sesLimit) front rfl).trans (congrArg Host.Outcome.next (if_pos ⟨hi, other⟩))
  case locked =>
    refine (exec_front (act := sesUnlock) front rfl).trans (congrArg Host.Outcome.next (sesUnlock_denied ?_))
    rintro (ended | ⟨fault, opened⟩)
    · exact notEnded ended
    · exact notFault.elim (fun h => h fault) fun h => Bool.false_ne_true (h.symm.trans opened)
  case busy =>
    refine (exec_front (act := sesUnlock) front rfl).trans (congrArg Host.Outcome.next ?_)
    rw [sesUnlock_taken ok, caseT, if_neg Bool.false_ne_true, if_pos busy]
  case unlockAgain =>
    refine (exec_front (act := sesUnlock) front rfl).trans (congrArg Host.Outcome.next ?_)
    rw [sesUnlock_taken ok, caseT, if_neg Bool.false_ne_true, none_]
    rfl

end Sys2Proof.Proofs
end

section
set_option Elab.async false -- one theorem after another, which keeps Lean within its memory
/-! The emergency-stop inputs and the safety parameter block (O31). -/

namespace Sys2Proof.Proofs

open Sys2Proof Sys2Proof.Machine Sys2Proof.Safety Sys2Proof.Laws

variable {s t u : State} {f : Flight} {k : Fin 2} {c : Fin 4}

/-! ### What the events of the safety unit leave -/

@[simp] theorem postSaf_saf {code target : Nat} {data : List Byte} : (postSaf code target data s).saf = s.saf := by
  unfold postSaf
  split
  · exact post_saf ..
  · rfl

@[simp] theorem postEstop_saf {cause : Nat} : (postEstop k cause s).saf = s.saf := postSaf_saf

@[simp] theorem postBlock_saf {cause check edition : Nat} : (postBlock cause check edition s).saf = s.saf := postSaf_saf

/-- In foreground C an event of the safety unit waits for the next foreground A (R253). -/
theorem postBlock_held {cause check edition : Nat} (win : s.gen.win = .host) : postBlock cause check edition s =
    { s with gen := { s.gen with lateEv := s.gen.lateEv ++
      [(0x0402, 0xFF, [BitVec.ofNat 8 cause] ++ leBytes 4 check ++ leBytes 4 edition)] } } := by
  unfold postBlock postSaf
  rw [if_neg (by rw [win]; exact Window.noConfusion)]
  rfl

/-! ### The stop inputs -/

theorem modPair_self {g : StopPair → StopPair} : (modPair k g s).saf.pair[k.val] = g (s.saf.pair[k.val]) := vmod_self ..

theorem modInp_self {g : StopInput → StopInput} : (modInp c g s).saf.inp[c.val] = g (s.saf.inp[c.val]) := vmod_self ..

theorem modInp_other {d : Fin 4} (ne : d ≠ c) {g : StopInput → StopInput} : (modInp d g s).saf.inp[c.val] = s.saf.inp[c.val] :=
  vmod_other _ _ _ _ ne

/-- The outlets of a stop are faulted; the inputs stay, and the pair's stop is in force (R235). -/
theorem takeStop_effect : (takeStop k s).saf.inp = s.saf.inp ∧ ((takeStop k s).saf.pair[k.val]).stop = true := by
  unfold takeStop
  split
  next on => exact ⟨rfl, on⟩
  next =>
    extract_lets s1
    have saf1 : s1.saf = (modPair k (fun p => { p with stop := true }) s).saf := postEstop_saf
    have stays : ∀ g : Outlet8 → State → State, (∀ n t, (g n t).saf = t.saf) → (forFin 8 g s1).saf = s1.saf := fun g keeps =>
      List.foldlRecOn (motive := fun t : State => t.saf = s1.saf) _ _ rfl fun t same n _ => (keeps n t).trans same
    have all := stays (fun n s => if bitAt (pairMask s k) n.val && decide (1 ≤ (outOf s n).state.num) && (outOf s n).state.num10 then
        modOut n (Outlet.fault .safety) s else s) fun n t => by split <;> rfl
    have both : _ = (modPair k (fun p => { p with stop := true }) s).saf := all.trans saf1
    refine ⟨(congrArg Saf.inp both).trans rfl, ?_⟩
    exact (congrArg (fun a : Saf => (a.pair[k.val]).stop) both).trans (congrArg StopPair.stop (modPair_self ..))

theorem partner_ne : partner c ≠ c := by revert c; decide

/-- A contact that is recognised open puts the stop of its pair in force (R234, R235). -/
theorem contactRecognised_open (block : s.saf.active.isSome = true) (deb : 1 ≤ activeByte s 10)
    (run : activeByte s 10 ≤ (s.saf.inp[c.val]).openRun) (new : (s.saf.inp[c.val]).recog ≠ some true)
    (used : pairUsed s (pairOfChan c) = true) :
    ((contactRecognised c s).saf.inp[c.val]).recog = some true ∧ ((contactRecognised c s).saf.inp[c.val]).tick = s.now ∧
      ((contactRecognised c s).saf.pair[(pairOfChan c).val]).stop = true := by
  unfold contactRecognised
  extract_lets x d act
  have some_ : s.saf.active.isNone = false := by rw [Option.isNone_eq_false_iff]; exact block
  rw [if_neg (by rw [some_]; exact fun h => h.elim Bool.false_ne_true fun h => by omega), if_pos ⟨run, new⟩]
  unfold act
  rw [if_pos (show pairUsed (modInp c (fun x => { x with recog := some true, tick := s.now }) s) (pairOfChan c) = true from used)]
  unfold recognisedOpen
  extract_lets k q both near s1
  obtain ⟨inp, stop⟩ := takeStop_effect (k := k) (s := modPair k (fun p => { p with openOk := p.disc && near || (p.openOk && !both) }) s1)
  have own : s1.saf.inp[c.val] = { s.saf.inp[c.val] with
      recog := some true, tick := s.now, waitOpen := awaitPartner (s.saf.inp[c.val]).waitOpen both s.now } := by
    unfold s1
    rw [modInp_self, modInp_other partner_ne, modInp_self]
    rfl
  rw [inp]
  refine ⟨?_, ?_, stop⟩
  · exact congrArg StopInput.recog own
  · exact congrArg StopInput.tick own

/-- An automatic release only ends a stop. -/
theorem autoRelease_chat : ((autoRelease k s).saf.pair[k.val]).chat = (s.saf.pair[k.val]).chat := by
  unfold autoRelease
  split
  · unfold releaseStop
    exact (congrArg (fun a : Saf => (a.pair[k.val]).chat) postEstop_saf).trans ((congrArg StopPair.chat (modPair_self ..)).trans rfl)
  · rfl

theorem chanOfPair : c = chanA (pairOfChan c) ∨ c = chanB (pairOfChan c) := by revert c; decide

/-- A partner has been awaited for DISC (R236). -/
def lateWait (k : Fin 2) (s : State) (w : Option Tick) : Bool := match w with | some t => decide (t + pairDisc s k ≤ s.now) | none => false

/-- A channel has awaited its partner for DISC. -/
def lateChan (k : Fin 2) (s : State) (c : Fin 4) : Bool := lateWait k s (s.saf.inp[c.val]).waitOpen || lateWait k s (s.saf.inp[c.val]).waitClosed

/-- The waits of a channel that have lasted too long end. -/
def dropLate (k : Fin 2) (s : State) (x : StopInput) : StopInput :=
  { x with waitOpen := if lateWait k s x.waitOpen then none else x.waitOpen,
           waitClosed := if lateWait k s x.waitClosed then none else x.waitClosed }

/-- A pair with a discrepancy fault, whose late waits have ended. -/
def discrepant (k : Fin 2) (s : State) : State :=
  modInp (chanA k) (dropLate k s) (modInp (chanB k) (dropLate k s) (modPair k (fun p => { p with disc := true, openOk := false }) s))

theorem estopDiscrepancy_late (lost : Undiscarded s) (used : pairUsed s k = true)
    (late : (lateChan k s (chanA k) || lateChan k s (chanB k)) = true) :
    exec (.estopDiscrepancy k) s = .next (if (s.saf.pair[k.val]).disc then discrepant k s else postEstop k 3 (discrepant k s)) :=
  (exec_undiscarded lost rfl).trans (congrArg Host.Outcome.next (if_pos ⟨used, late⟩))

theorem discrepant_pair : (discrepant k s).saf.pair[k.val] = { s.saf.pair[k.val] with disc := true, openOk := false } := modPair_self ..

theorem chans_ne : chanA k ≠ chanB k := by revert k; decide

/-- Each channel of a pair with a discrepancy drops its late waits. -/
theorem discrepant_inp (chan : c = chanA k ∨ c = chanB k) : (discrepant k s).saf.inp[c.val] = dropLate k s (s.saf.inp[c.val]) := by
  unfold discrepant
  rcases chan with rfl | rfl
  · rw [modInp_self, modInp_other chans_ne.symm]
    rfl
  · rw [modInp_other chans_ne, modInp_self]
    rfl

/-! ### A release -/

theorem releaseStop_pair {j : Fin 2} : (releaseStop k s).saf.pair[j.val] =
    (modPair k (fun p => { p with stop := false }) s).saf.pair[j.val] :=
  congrArg (fun a : Saf => a.pair[j.val]) postEstop_saf

theorem named_first : ((allFin 2).filter fun k => bitAt 1 k.val) = [0] := by decide

/-- SAF_ESTOP_RELEASE of the first pair alone (R239, R252). -/
theorem safEstopRelease_first (mask : f.p 16 1 = 1) : safEstopRelease f s =
    if !(s.saf.pair[0]).stop then completeSt f .conflict s
    else if !releasable s 0 then completeSt f .denied s
    else complete f .ok 0 (leBytes 1 (stopBits (releaseStop 0 s))) none (releaseStop 0 s) := by
  unfold safEstopRelease
  extract_lets m named s1
  have one : named = [0] := by unfold named m; rw [mask]; exact named_first
  have released : s1 = releaseStop 0 s := by unfold s1; rw [one]; rfl
  rw [if_neg (by omega), one, released]
  simp only [List.any_cons, List.any_nil, Bool.or_false]
  rfl

/-! ### The block -/

theorem maskOf_eq_zero {l : List Bool} : maskOf l = 0 ↔ ∀ b ∈ l, b = false := by
  induction l with
  | nil => simp [maskOf]
  | cons b l ih =>
    rw [List.forall_mem_cons, ← ih]
    cases b <;> simp [maskOf, b2n]

/-- The outlets whose live registers differ from a block, as a mask. -/
def differMask (b : List Byte) (s : State) : Nat := maskOf ((allFin 8).map fun m => !blockMatches b m s)

theorem differMask_eq_zero {b : List Byte} : differMask b s = 0 ↔ ∀ n : Outlet8, blockMatches b n s = true := by
  unfold differMask
  rw [maskOf_eq_zero, List.forall_mem_map]
  simp [allFin]

/-- SAF_COMMISSION with a pending block (R249). -/
theorem safCommission_pend {p : PendBlock} (pend : s.saf.pend = some p) : safCommission f s =
    if f.p 20 4 ≠ p.edition.toNat then completeSt f .conflict s
    else if (allFin 8).any fun n => decide (1 ≤ (outOf s n).state.num ∧ (outOf s n).state.num ≤ 9) then completeSt f .denied s
    else if f.p 16 4 ≠ crc32c p.bytes then complete f .integrity 0 (leBytes 4 s.saf.check.toNat) none
      (postBlock 2 (f.p 16 4) p.edition.toNat { s with saf := { s.saf with pend := none } })
    else if differMask p.bytes s ≠ 0 then complete f .conflict (differMask p.bytes s) [] none s
    else complete f .ok 0 (leBytes 4 (crc32c p.bytes)) none { s with saf := { s.saf with pend := some { p with go := true } } } := by
  unfold safCommission
  extract_lets busy
  rw [pend]
  rfl

/-- No session runs. -/
theorem no_session (rest : ∀ n : Outlet8, ¬(1 ≤ (outOf s n).state.num ∧ (outOf s n).state.num ≤ 9)) :
    ¬((allFin 8).any fun n => decide (1 ≤ (outOf s n).state.num ∧ (outOf s n).state.num ≤ 9)) = true := by
  rw [List.any_eq_true]
  rintro ⟨n, -, h⟩
  exact rest n (of_decide_eq_true h)

/-- Settles O31. -/
theorem safetyInputsAndBlock : Obligations.SafetyInputsAndBlock := by
  unfold Obligations.SafetyInputsAndBlock
  refine ⟨fun s => ⟨fun c lost block deb run new used => ?contact, fun c t0 lost used wait late => ?discrepancy,
      fun k lost chat quiet => ?chatter, fun up => ?estopRead, fun f front mask => ⟨fun on ok => ?release, fun off => ?noStop, fun on bad => ?held⟩,
      fun f front => ?status⟩,
    fun s f => ⟨fun b p front parsed eq => ?write, fun front bad => ?writeBad, fun b front which active => ?readActive,
      fun front which none_ => ?readNone, fun p pend front edition => ⟨fun busy => ?busy, fun rest crc same => ?go⟩,
      fun p lost pend waits late => ?expiry⟩,
    fun s f => ⟨fun front which => ?readRange, fun p front which pend => ?readPend, fun front which none_ => ?readNoPend,
      fun front none_ => ?noPend, fun p front pend => ⟨fun edition => ?edition, fun edition rest => ⟨fun crc => ?crc, fun n crc other => ?differs⟩⟩,
      fun front mask => ?releaseRange⟩⟩
  case contact => exact ⟨_, exec_undiscarded (act := contactRecognised c) lost rfl, contactRecognised_open block deb run new used⟩
  case discrepancy =>
    have lateOpen : lateWait (pairOfChan c) s (s.saf.inp[c.val]).waitOpen = true := by
      rw [wait]
      exact decide_eq_true late
    have lateC : lateChan (pairOfChan c) s c = true := by rw [lateChan, lateOpen, Bool.true_or]
    have chan : c = chanA (pairOfChan c) ∨ c = chanB (pairOfChan c) := chanOfPair
    have runs := estopDiscrepancy_late (k := pairOfChan c) lost used (by
      rcases chan with h | h
      · rw [← h, lateC, Bool.true_or]
      · rw [← h, lateC, Bool.or_true])
    have saf : (if (s.saf.pair[(pairOfChan c).val]).disc then discrepant (pairOfChan c) s
        else postEstop (pairOfChan c) 3 (discrepant (pairOfChan c) s)).saf = (discrepant (pairOfChan c) s).saf := by
      split
      · rfl
      · exact postEstop_saf
    refine ⟨_, runs, ?_, ?_⟩
    · exact (congrArg (fun a : Saf => (a.pair[(pairOfChan c).val]).disc) saf).trans (congrArg StopPair.disc discrepant_pair)
    · refine (congrArg (fun a : Saf => (a.inp[c.val]).waitOpen) saf).trans ?_
      exact (congrArg StopInput.waitOpen (discrepant_inp chan)).trans (if_pos lateOpen)
  case chatter =>
    have quietChan (c : Fin 4) (h : c = chanA k ∨ c = chanB k) :
        (decide ((s.saf.inp[c.val]).recog = some false) && decide ((s.saf.inp[c.val]).quietFrom + 10000 ≤ s.saf.samples)) = true := by
      obtain ⟨closed, long⟩ := quiet c h
      rw [decide_eq_true closed, decide_eq_true long]
      rfl
    refine ⟨_, (exec_undiscarded lost rfl).trans (congrArg Host.Outcome.next
      (if_pos ⟨chat, quietChan (chanA k) (.inl rfl), quietChan (chanB k) (.inr rfl)⟩)), ?_⟩
    rw [autoRelease_chat]
    exact (congrArg (fun a : Saf => (a.pair[k.val]).chat) postEstop_saf).trans (congrArg StopPair.chat (modPair_self ..))
  case estopRead =>
    refine Eq.trans (b := execSafEstopRead s) rfl ?_
    rw [execSafEstopRead, hostAcc_up _ up]
  case release =>
    have runs := safEstopRelease_first (f := f) (s := s) mask
    rw [on, ok] at runs
    refine ⟨_, (exec_front (act := safEstopRelease) front rfl).trans (congrArg Host.Outcome.next runs), ?_, ?_⟩
    · refine (congrArg (fun a : Saf => (a.pair[0]).stop) (complete_saf ..)).trans ?_
      exact (congrArg StopPair.stop (releaseStop_pair (j := 0))).trans (congrArg StopPair.stop (modPair_self ..))
    · refine (congrArg (fun a : Saf => a.pair[1]) (complete_saf ..)).trans ?_
      exact (releaseStop_pair (j := 1)).trans (vmod_other _ _ (1 : Fin 2) _ (by decide))
  case noStop =>
    have runs := safEstopRelease_first (f := f) (s := s) mask
    rw [off] at runs
    exact (exec_front (act := safEstopRelease) front rfl).trans (congrArg Host.Outcome.next runs)
  case held =>
    have runs := safEstopRelease_first (f := f) (s := s) mask
    rw [on, bad] at runs
    exact (exec_front (act := safEstopRelease) front rfl).trans (congrArg Host.Outcome.next runs)
  case status => exact (exec_front front rfl).trans rfl
  case write =>
    have runs : safBlockWrite f s = complete f .ok 0 (leBytes 4 (crc32c b) ++ leBytes 4 (s.saf.editions + 1).toNat) none
        (postBlock 0 (crc32c b) (s.saf.editions + 1).toNat
          { s with saf := { s.saf with editions := s.saf.editions + 1, armed := commissioned s, pend := some p } }) := by
      unfold safBlockWrite
      rw [parsed, eq]
    have win : ({ s with saf := { s.saf with editions := s.saf.editions + 1, armed := commissioned s, pend := some p } } : State).gen.win =
      .host := front.2.1
    rw [postBlock_held win] at runs
    refine ⟨_, (exec_front (act := safBlockWrite) front rfl).trans (congrArg Host.Outcome.next runs), complete_saf .., ?_⟩
    rw [complete_saf]
    exact complete_frame ..
  case writeBad =>
    refine (exec_front (act := safBlockWrite) front rfl).trans (congrArg Host.Outcome.next ?_)
    unfold safBlockWrite
    rw [bad]
  case readActive =>
    refine (exec_front (act := safBlockRead) front rfl).trans (congrArg Host.Outcome.next ?_)
    unfold safBlockRead
    dsimp only
    rw [if_neg (by omega), if_pos which, active]
    rfl
  case readNone =>
    refine (exec_front (act := safBlockRead) front rfl).trans (congrArg Host.Outcome.next ?_)
    unfold safBlockRead
    dsimp only
    rw [if_neg (by omega), if_pos which, none_]
    rfl
  case busy =>
    refine (exec_front (act := safCommission) front rfl).trans (congrArg Host.Outcome.next ?_)
    obtain ⟨n, running⟩ := busy
    have any : ((allFin 8).any fun n => decide (1 ≤ (outOf s n).state.num ∧ (outOf s n).state.num ≤ 9)) = true :=
      List.any_eq_true.2 ⟨n, List.mem_finRange n, decide_eq_true running⟩
    rw [safCommission_pend pend, if_neg (not_not.2 edition), if_pos any]
  case go =>
    have runs := safCommission_pend (f := f) pend
    rw [if_neg (not_not.2 edition), if_neg (no_session rest), if_neg (not_not.2 crc), if_neg (not_not.2 (differMask_eq_zero.2 same))] at runs
    refine ⟨_, (exec_front (act := safCommission) front rfl).trans (congrArg Host.Outcome.next runs), complete_saf .., ?_⟩
    rw [complete_saf]
    exact complete_frame ..
  case expiry =>
    have runs : exec .safPendingExpiry s = .next (postBlock 3 (crc32c p.bytes) p.edition.toNat { s with saf := { s.saf with pend := none } }) := by
      refine Eq.trans (b := execSafPendingExpiry s) rfl ?_
      rw [execSafPendingExpiry, inSafety_undiscarded _ lost, pend]
      exact congrArg Host.Outcome.next (if_pos ⟨by rw [waits]; rfl, late⟩)
    refine ⟨_, runs, postBlock_saf, ?_⟩
    rw [postBlock_saf]
    exact postSaf_eventsOnly ..
  case readRange => exact (exec_front (act := safBlockRead) front rfl).trans (congrArg Host.Outcome.next (if_pos which))
  case readPend =>
    refine (exec_front (act := safBlockRead) front rfl).trans (congrArg Host.Outcome.next ?_)
    unfold safBlockRead
    dsimp only
    rw [if_neg (by omega), if_neg (by omega), pend]
    rfl
  case readNoPend =>
    refine (exec_front (act := safBlockRead) front rfl).trans (congrArg Host.Outcome.next ?_)
    unfold safBlockRead
    dsimp only
    rw [if_neg (by omega), if_neg (by omega), none_]
    rfl
  case noPend =>
    refine (exec_front (act := safCommission) front rfl).trans (congrArg Host.Outcome.next ?_)
    unfold safCommission
    dsimp only
    rw [none_]
  case edition =>
    refine (exec_front (act := safCommission) front rfl).trans (congrArg Host.Outcome.next ?_)
    rw [safCommission_pend pend, if_pos edition]
  case crc =>
    have runs := safCommission_pend (f := f) pend
    have win : ({ s with saf := { s.saf with pend := none } } : State).gen.win = .host := front.2.1
    rw [if_neg (not_not.2 edition), if_neg (no_session rest), if_pos crc, postBlock_held win] at runs
    refine ⟨_, (exec_front (act := safCommission) front rfl).trans (congrArg Host.Outcome.next runs), complete_saf .., ?_⟩
    rw [complete_saf]
    exact complete_frame ..
  case differs =>
    refine (exec_front (act := safCommission) front rfl).trans (congrArg Host.Outcome.next ?_)
    have differ : differMask p.bytes s ≠ 0 := fun zero => Bool.false_ne_true (other.symm.trans (differMask_eq_zero.1 zero n))
    rw [safCommission_pend pend, if_neg (not_not.2 edition), if_neg (no_session rest), if_neg (not_not.2 crc), if_pos differ]
    rfl
  case releaseRange =>
    exact (exec_front (act := safEstopRelease) front rfl).trans (congrArg Host.Outcome.next (if_pos mask))

end Sys2Proof.Proofs
end

section
set_option Elab.async false -- one theorem after another, which keeps Lean within its memory
/-! SLAC, SDP and the TCP connection (O32). -/

namespace Sys2Proof.Proofs

open Sys2Proof Sys2Proof.Machine Sys2Proof.Safety Sys2Proof.Laws

variable {s t u : State} {n m : Outlet8}

/-! ### Links and mirrors under the operations of the vehicle link -/

theorem linkOf_modLink_other (ne : m ≠ n) {g : Link → Link} : linkOf (modLink m g s) n = linkOf s n := vmod_other _ _ _ _ ne

@[simp] theorem linkOf_say {o : VlkOut} : linkOf (say m o s) n = linkOf s n := rfl
@[simp] theorem linkOf_modMirror {g : Mirror → Mirror} : linkOf (modMirror m g s) n = linkOf s n := rfl
@[simp] theorem linkOf_modOut {g : Outlet → Outlet} : linkOf (modOut m g s) n = linkOf s n := rfl
@[simp] theorem linkOf_postLink {cause : Nat} {mac : W48} : linkOf (postLink m cause mac s) n = linkOf s n := rfl
@[simp] theorem linkOf_postV2g {cause endCause : Nat} : linkOf (postV2g m cause endCause s) n = linkOf s n := rfl
@[simp] theorem linkOf_requestStop {r : Reason} : linkOf (requestStop m r s) n = linkOf s n := rfl
@[simp] theorem mirrorOf_say {o : VlkOut} : mirrorOf (say m o s) n = mirrorOf s n := rfl
@[simp] theorem mirrorOf_modLink {g : Link → Link} : mirrorOf (modLink m g s) n = mirrorOf s n := rfl
@[simp] theorem mirrorOf_postLink {cause : Nat} {mac : W48} : mirrorOf (postLink m cause mac s) n = mirrorOf s n := rfl
@[simp] theorem mirrorOf_postV2g {cause endCause : Nat} : mirrorOf (postV2g m cause endCause s) n = mirrorOf s n := rfl

@[simp] theorem linkOf_release {digital : Bool} : linkOf (release m digital s) n = linkOf s n := by
  unfold release
  dsimp only
  split <;> rfl

@[simp] theorem linkOf_keepMirror : linkOf (keepMirror m s) n = linkOf s n := by
  unfold keepMirror
  dsimp only
  split <;> rfl

/-- A link that is changed by one function is changed by any that gives the same. -/
theorem modLink_congr {f g : Link → Link} (same : f (linkOf s n) = g (linkOf s n)) : modLink n f s = modLink n g s := by
  have vec : vmod s.vlk.link n f = vmod s.vlk.link n g := congrArg (fun l => s.vlk.link.set n.val l) same
  unfold modLink
  rw [vec]

/-- The vehicle link acts where it is ready. -/
theorem exec_vlkUp {act : State → State} {c : Instr} (ready : s.isReady 5 = true) (runs : exec c s = .next (vlkUp act s)) :
    exec c s = .next (act s) := by
  rw [runs, vlkUp, if_pos ready]

/-! ### SLAC -/

/-- A failed matching shows its outlet as failed. -/
theorem slacFail_self : (linkOf (slacFail n s) n).slac = 5 := by
  unfold slacFail
  dsimp only
  rw [linkOf_release, linkOf_postLink, linkOf_modLink_self]

theorem slacFail_other (ne : m ≠ n) : linkOf (slacFail m s) n = linkOf s n := by
  unfold slacFail
  dsimp only
  rw [linkOf_release, linkOf_postLink, linkOf_modLink_other ne]

/-- What SLAC_SOUNDING does at one outlet. -/
def soundPart (runId : W64) (atten : List (Option Nat)) (n : Outlet8) (s : State) : State :=
  match atten.getD n.val none with
  | some a =>
    if (linkOf s n).slac = 2 ∧ (linkOf s n).runId = runId ∧
        !((allFin 8).any fun m => decide (m ≠ n) && (match atten.getD m.val none with | some b => decide (b + 6 ≤ a) | none => false)) then
      say n (.attenChar runId a) (modLink n (fun l => { l with slac := 3, atten := a }) s)
    else s
  | none => s

theorem slacSounding_parts {runId : W64} {atten : List (Option Nat)} :
    slacSounding runId atten s = forFin 8 (soundPart runId atten) s := rfl

theorem soundPart_other {runId : W64} {atten : List (Option Nat)} (ne : m ≠ n) : linkOf (soundPart runId atten m s) n = linkOf s n := by
  unfold soundPart
  split
  · split
    · exact linkOf_modLink_other ne
    · rfl
  · rfl

/-- An outlet that no other hears 6 dB better takes its attenuation (R258). -/
theorem soundPart_self {runId : W64} {atten : List (Option Nat)} {a : Nat} (slac : (linkOf s n).slac = 2) (run : (linkOf s n).runId = runId)
    (heard : atten.getD n.val none = some a) (best : ∀ m : Outlet8, m ≠ n → ∀ b, atten.getD m.val none = some b → a < b + 6) :
    (linkOf (soundPart runId atten n s) n).slac = 3 ∧ (linkOf (soundPart runId atten n s) n).atten = a := by
  have noBetter : ((allFin 8).any fun m => decide (m ≠ n) &&
      (match atten.getD m.val none with | some b => decide (b + 6 ≤ a) | none => false)) = false := by
    refine List.any_eq_false.2 fun m _ => ?_
    rw [Bool.and_eq_true, decide_eq_true_eq]
    rintro ⟨ne, better⟩
    cases h : atten.getD m.val none with
    | none => rw [h] at better; exact Bool.false_ne_true better
    | some b =>
      rw [h] at better
      have := best m ne b h
      have := of_decide_eq_true better
      omega
  unfold soundPart
  rw [heard]
  dsimp only
  rw [if_pos ⟨slac, run, by rw [noBetter]; rfl⟩, linkOf_say, linkOf_modLink_self]
  exact ⟨rfl, rfl⟩

theorem slacSounding_answers {runId : W64} {atten : List (Option Nat)} {a : Nat} (slac : (linkOf s n).slac = 2)
    (run : (linkOf s n).runId = runId) (heard : atten.getD n.val none = some a)
    (best : ∀ m : Outlet8, m ≠ n → ∀ b, atten.getD m.val none = some b → a < b + 6) :
    (linkOf (slacSounding runId atten s) n).slac = 3 ∧ (linkOf (slacSounding runId atten s) n).atten = a := by
  rw [slacSounding_parts]
  refine forFin_one (n := n) (P := fun t => linkOf t n = linkOf s n)
    (Q := fun t => (linkOf t n).slac = 3 ∧ (linkOf t n).atten = a) (fun m t ne same => (soundPart_other ne).trans same)
    (fun t same => ?_) (fun m t ne done => ?_) rfl
  · rw [← same] at slac run
    exact soundPart_self slac run heard best
  · rw [soundPart_other ne]
    exact done

/-- The other outlets of a matching fail; the matched one is as it was. -/
theorem slacOthers_fail {hit : State → Outlet8 → Prop} [∀ s m, Decidable (hit s m)] :
    linkOf (forFin 8 (fun m s => if m ≠ n ∧ hit s m then slacFail m s else s) s) n = linkOf s n := by
  refine List.foldlRecOn (motive := fun t => linkOf t n = linkOf s n) _ _ rfl fun t same m _ => ?_
  dsimp only
  split
  next ok => rw [slacFail_other ok.1, same]
  next => exact same

/-- The match request of the vehicle that was answered matches (R259). -/
theorem slacMatch_matches {vmac : W48} {runId : W64} (slac : (linkOf s n).slac = 3) (run : (linkOf s n).runId = runId)
    (mac : (linkOf s n).mac = vmac) : (linkOf (slacMatch n vmac runId s) n).slac = 4 ∧
      (mirrorOf (slacMatch n vmac runId s) n).matched = true ∧ (mirrorOf (slacMatch n vmac runId s) n).mac = vmac := by
  unfold slacMatch
  extract_lets same s1
  have link : linkOf s1 n = linkOf s n := slacOthers_fail
  have hit : same s1 n = true ∧ (linkOf s1 n).slac = 3 := by
    refine ⟨?_, by rw [link, slac]⟩
    unfold same
    rw [link, run, mac, slac]
    simp
  rw [if_pos hit]
  dsimp only [freeBytes]
  refine ⟨?_, ?_, ?_⟩
  · rw [linkOf_say, linkOf_postLink, linkOf_modMirror, linkOf_say, linkOf_modLink_self]
  · rw [mirrorOf_say, mirrorOf_postLink, mirrorOf_modMirror_self]
  · rw [mirrorOf_say, mirrorOf_postLink, mirrorOf_modMirror_self]

/-- A release in a session whose mode is still open (R268). -/
theorem release_mode {digital : Bool} (open_ : (outOf s n).modeFixed = false) (session : (outOf s n).session ≠ 0)
    (new : (mirrorOf s n).released = false) :
    (mirrorOf (release n digital s) n).released = true ∧ (mirrorOf (release n digital s) n).digital = digital := by
  unfold release
  dsimp only
  rw [if_neg (by rw [open_, new]; simp [session]), mirrorOf_postV2g, mirrorOf_modMirror_self]
  exact ⟨rfl, rfl⟩

/-- Settles O32. -/
theorem vehicleMatching : Obligations.VehicleMatching := by
  unfold Obligations.VehicleMatching
  intro s n l eq ready
  subst eq
  refine ⟨rfl, fun vmac runId eligible => ?parm, fun runId atten a slac run heard best => ?sounding, fun vmac runId slac run mac => ?match_,
    ?validate, fun slac => ?timeout, fun slac session hlc held open_ late => ?wait, fun matched addr eqAddr =>
      ⟨fun ask tls sec => ?sdp, fun h v13 noTcp sec choice room => ?tls, fun noTcp plain sec => ?plain, fun tcp ask => ?refuse⟩⟩
  case parm => exact (exec_vlkUp ready rfl).trans (congrArg Host.Outcome.next (if_pos eligible))
  case sounding =>
    exact ⟨_, exec_vlkUp (act := slacSounding runId atten) ready rfl, slacSounding_answers slac run heard best⟩
  case match_ => exact ⟨_, exec_vlkUp (act := slacMatch n vmac runId) ready rfl, slacMatch_matches slac run mac⟩
  case validate => exact exec_vlkUp (act := say n .validateCnf) ready rfl
  case timeout => exact ⟨_, (exec_vlkUp ready rfl).trans (congrArg Host.Outcome.next (if_pos slac)), slacFail_self⟩
  case wait =>
    refine ⟨_, (exec_vlkUp ready rfl).trans (congrArg Host.Outcome.next (if_pos ⟨session, hlc, slac, by rw [held]; rfl, late⟩)), ?_⟩
    exact release_mode (s := postLink n 2 0 s) open_ session held
  case sdp =>
    subst eqAddr
    have runs : exec (.sdpRequest n ask) s = .next (say n (.sdp (linkLocal (stationMac s n)) (60000 + n.val) tls)
        (modLink n (fun l => { l with sdpTls := tls }) s)) := by
      refine Eq.trans (b := execSdpRequest n ask s) rfl ?_
      rw [execSdpRequest, vlkUp, if_pos ready, if_pos matched, sec]
    refine ⟨_, runs, rfl, ?_⟩
    rw [linkOf_say, linkOf_modLink_self]
  case tls =>
    refine (exec_vlkUp (act := tcpConnect n (.hello h)) ready rfl).trans (congrArg Host.Outcome.next ?_)
    unfold tcpConnect
    extract_lets l asks l'
    rw [matched, if_neg (by decide), show l.tcp = false from noTcp, if_neg Bool.false_ne_true,
      show security s n (l.sdpTls || asks) = some true from by rw [show asks = true from rfl, Bool.or_true, sec]]
    dsimp only
    rw [choice]
    dsimp only
    rw [requestTls, if_pos]
    · exact congrArg _ (congrArg _ (modLink_congr rfl))
    · exact room
  case plain =>
    refine ⟨_, exec_vlkUp (act := tcpConnect n .none) ready rfl, ?_⟩
    unfold tcpConnect
    extract_lets l asks l'
    rw [matched, if_neg (by decide), show l.tcp = false from noTcp, if_neg Bool.false_ne_true,
      show security s n (l.sdpTls || asks) = some false from by rw [show l.sdpTls = false from plain, show asks = false from rfl, Bool.or_false, sec]]
    dsimp only
    rw [linkOf_keepMirror, linkOf_say, linkOf_modLink_self]
    exact ⟨rfl, rfl, rfl, rfl⟩
  case refuse =>
    subst eqAddr
    refine (exec_vlkUp (act := tcpConnect n ask) ready rfl).trans (congrArg Host.Outcome.next ?_)
    unfold tcpConnect
    extract_lets l asks
    rw [matched, if_neg (by decide), show l.tcp = true from tcp, if_pos rfl]
    rfl

end Sys2Proof.Proofs
end

section
set_option Elab.async false -- one theorem after another, which keeps Lean within its memory
/-! The V2G session, message by message (O33). -/

namespace Sys2Proof.Proofs

open Sys2Proof Sys2Proof.Machine Sys2Proof.Safety Sys2Proof.Laws

variable {s t u : State} {n m : Outlet8}

/-! ### Requests of the vehicle -/

/-- A request of a vehicle whose connection is up: the tick of the last request stands (R280). -/
def requested (n : Outlet8) (s : State) : State := modLink n (fun l => { l with lastReq := s.now }) s

@[simp] theorem linkOf_requested : linkOf (requested n s) n = { linkOf s n with lastReq := s.now } := linkOf_modLink_self ..

/-- The vehicle's connection is up, and what it sends is answered. -/
structure Connected (n : Outlet8) (s : State) : Prop where
  ready : s.isReady 5 = true
  tcp : (linkOf s n).tcp = true
  hand : (linkOf s n).hand = none
  open_ : (linkOf s n).dinDone = false

theorem request_acts (h : Connected n s) {act : State → State} : request n act s = act (requested n s) := by
  unfold request vlkUp
  rw [if_pos h.ready]
  dsimp only
  rw [if_pos ⟨h.tcp, h.hand⟩, if_neg]
  · rfl
  · exact fun d => Bool.false_ne_true (h.open_.symm.trans d)

theorem inSession_acts (h : Connected n s) (v2g : (linkOf s n).v2g = true) {act : State → State} :
    inSession n act s = act (requested n s) := by
  unfold inSession
  rw [request_acts h, if_pos]
  rw [linkOf_requested]
  exact v2g

theorem inSession_fails (h : Connected n s) (v2g : (linkOf s n).v2g = false) {act : State → State} :
    inSession n act s = sequenceFail n (requested n s) := by
  unfold inSession
  rw [request_acts h, if_neg]
  rw [linkOf_requested]
  exact fun d => Bool.false_ne_true (v2g.symm.trans d)

theorem inPhase_acts {ok : List V2gPhase} {act : State → State} (phase : (linkOf s n).phase ∈ ok) : inPhase n ok act s = act s :=
  if_pos (List.contains_iff_mem.2 phase)

theorem inPhase_fails {ok : List V2gPhase} {act : State → State} (phase : (linkOf s n).phase ∉ ok) :
    inPhase n ok act s = sequenceFail n s :=
  if_neg fun h => phase (List.contains_iff_mem.1 h)

/-! ### The end of a connection -/

/-- No connection and no V2G session stand. -/
def Closed (n : Outlet8) (s : State) : Prop := (linkOf s n).v2g = false ∧ (linkOf s n).tcp = false

theorem closed_link {m : Mirror} {l : Link} : (l.closed m).v2g = false ∧ (l.closed m).tcp = false := by
  unfold Link.closed
  dsimp only
  split <;> exact ⟨rfl, rfl⟩

theorem closeLink_closed : Closed n (closeLink n s) := by
  unfold Closed closeLink
  rw [linkOf_keepMirror, linkOf_modLink_self]
  exact closed_link

/-- The end of a V2G session takes its connection too (R280). -/
theorem endV2g_closed {cause : Nat} : Closed n (endV2g n cause s) := by
  unfold endV2g
  split
  · extract_lets s1
    have gone : Closed n s1 := closeLink_closed
    split
    · split <;> exact gone
    · split
      · exact gone
      · unfold Closed
        rw [linkOf_release]
        exact gone
  · exact closeLink_closed

theorem closeWith_closed {cause : Nat} (tcp : (linkOf s n).tcp = true) : Closed n (closeWith n cause s) := by
  unfold closeWith
  rw [if_pos tcp]
  exact endV2g_closed

@[simp] theorem linkOf_answerAs {ac : Bool} {res : V2gRes} : linkOf (answerAs ac n res s) n = { linkOf s n with reneg := false } :=
  linkOf_modLink_self ..

@[simp] theorem linkOf_answer {res : V2gRes} : linkOf (answer n res s) n = { linkOf s n with reneg := false } := linkOf_answerAs

theorem sequenceFail_closed (tcp : (linkOf s n).tcp = true) : Closed n (sequenceFail n s) :=
  closeWith_closed (by rw [linkOf_answer]; exact tcp)

theorem failClose_closed (tcp : (linkOf s n).tcp = true) : Closed n (failClose n s) :=
  closeWith_closed (by rw [linkOf_answer]; exact tcp)

/-! ### The protocol and the session's setup -/

@[simp] theorem linkOf_sayV2g {msg : V2gMsg} : linkOf (sayV2g m msg s) n = linkOf s n := rfl
@[simp] theorem mirrorOf_sayV2g {msg : V2gMsg} : mirrorOf (sayV2g m msg s) n = mirrorOf s n := rfl

theorem keepMirror_shows (noResume : (linkOf s n).resumeUntil = none) :
    (mirrorOf (keepMirror n s) n).proto = (linkOf s n).proto ∧ (mirrorOf (keepMirror n s) n).ev = (linkOf s n).ev := by
  unfold keepMirror
  dsimp only
  rw [noResume]
  dsimp only [Option.isSome_none]
  rw [if_neg Bool.false_ne_true, mirrorOf_modMirror_self]
  exact ⟨rfl, rfl⟩

/-- The protocol agreed on stands in link and mirror (R263, R270). -/
theorem appProtocol_agrees {offers : List AppOffer} {o : AppOffer} (phase : (linkOf s n).phase = .idle)
    (noResume : (linkOf s n).resumeUntil = none) (best : bestOffer (offers.filter (offerOk s n)) = some o) :
    (linkOf (appProtocol n offers s) n).proto = protoNum o.proto ∧ (mirrorOf (appProtocol n offers s) n).proto = protoNum o.proto ∧
      (linkOf (appProtocol n offers s) n).phase = .agreed := by
  unfold appProtocol
  rw [inPhase_acts (by rw [phase]; exact List.mem_singleton_self _), best]
  dsimp only
  generalize agreed : modLink n (fun l => { l with proto := protoNum o.proto, phase := .agreed }) _ = s1
  have link : linkOf s1 n = { linkOf s n with proto := protoNum o.proto, phase := .agreed } := by
    rw [← agreed, linkOf_modLink_self, linkOf_sayV2g]
  obtain ⟨proto, -⟩ := keepMirror_shows (n := n) (s := s1) (by rw [link]; exact noResume)
  rw [linkOf_keepMirror, proto, link]
  exact ⟨rfl, rfl, rfl⟩

/-- The links and the mirrors stand, and the sessions. -/
def SameDialogue (s t : State) : Prop := t.vlk.link = s.vlk.link ∧ t.vlk.mirror = s.vlk.mirror ∧ t.ses = s.ses

theorem SameDialogue.link (h : SameDialogue s t) : linkOf t n = linkOf s n := by
  unfold linkOf
  rw [h.1]

theorem SameDialogue.mirror (h : SameDialogue s t) : mirrorOf t n = mirrorOf s n := by
  unfold mirrorOf
  rw [h.2.1]

/-- A decision whose default does nothing leaves links and mirrors as they are, however it is queued (R272). -/
theorem needDecision_dialogue {kind seconds : Nat} {fields body : List Byte}
    (idle : ∀ d t, d.kind = kind → d.fields = slice fields 0 32 → SameDialogue t (applyDefault d t).2) :
    SameDialogue s (needDecision n kind seconds fields body s) := by
  unfold needDecision
  dsimp only
  split
  · exact idle _ _ rfl rfl
  · split
    · exact ⟨by unfold deliver; rw [completeSeq_vlk], by unfold deliver; rw [completeSeq_vlk], by unfold deliver; rw [completeSeq_ses]⟩
    · exact ⟨rfl, rfl, rfl⟩

/-- An authorisation of a vehicle's identifier has no effect by default (R274). -/
theorem applyDefault_evccid {d : Decision} (kind : d.kind = 1) (other : d.isContract = false) : applyDefault d s = (0, s) := by
  unfold applyDefault
  rw [if_pos kind, other, if_neg Bool.false_ne_true]

theorem evccid_fields {mac : W48} : byteAt (slice ([1] ++ macBytes mac) 0 32) 0 = 1 := rfl

/-- Asking for the identifier's authorisation keeps the session and what it says of the vehicle. -/
theorem askEvccid_keeps : (linkOf (askEvccid n s) n).v2g = (linkOf s n).v2g ∧ (linkOf (askEvccid n s) n).ev = (linkOf s n).ev ∧
    (mirrorOf (askEvccid n s) n).ev = (mirrorOf s n).ev := by
  unfold askEvccid
  dsimp only
  split
  · generalize asked : modMirror n _ (modLink n _ s) = s1
    have link : (linkOf s1 n).v2g = (linkOf s n).v2g ∧ (linkOf s1 n).ev = (linkOf s n).ev := by
      rw [← asked, linkOf_modMirror, linkOf_modLink_self]
      exact ⟨rfl, rfl⟩
    have mirror : (mirrorOf s1 n).ev = (mirrorOf s n).ev := by
      rw [← asked, mirrorOf_modMirror_self, mirrorOf_modLink]
    have same : SameDialogue s1 (needDecision n 1 s.vlk.authDl ([1] ++ macBytes (linkOf s n).ev.evccid) [] s1) :=
      needDecision_dialogue fun d t kind fields => by
        have other : d.isContract = false := by
          unfold Decision.isContract
          rw [fields, evccid_fields]
          exact Bool.and_false _
        rw [applyDefault_evccid kind other]
        exact ⟨rfl, rfl, rfl⟩
    rw [same.link, same.mirror]
    exact ⟨link.1, link.2, mirror⟩
  · exact ⟨rfl, rfl, rfl⟩

/-- A new session stands in link and mirror with the vehicle's identifier (R264, R270). -/
theorem sessionSetup_opens {sid : W64} {evccid : W48} (noResume : (linkOf s n).resumeUntil = none)
    (open_ : (outOf s n).modeFixed = false) (phase : (linkOf s n).phase = .agreed) :
    (linkOf (sessionSetup n sid evccid s) n).v2g = true ∧ (linkOf (sessionSetup n sid evccid s) n).ev.evccid = evccid ∧
      (mirrorOf (sessionSetup n sid evccid s) n).ev.evccid = evccid := by
  unfold sessionSetup
  dsimp only
  rw [if_neg (by rw [open_]; exact fun h => Bool.false_ne_true h.1), inPhase_acts (by rw [phase]; exact List.mem_singleton_self _),
    noResume]
  dsimp only [freeBytes, Option.isSome_none]
  rw [if_neg Bool.false_ne_true]
  generalize opened : modLink n _ _ = s1
  have link : (linkOf s1 n).v2g = true ∧ (linkOf s1 n).ev.evccid = evccid ∧ (linkOf s1 n).resumeUntil = none := by
    rw [← opened, linkOf_modLink_self]
    exact ⟨rfl, rfl, noResume⟩
  obtain ⟨v2g, ev, resume⟩ := link
  obtain ⟨-, shown⟩ := keepMirror_shows resume
  generalize answered : postV2g n 0 0 _ = s2
  have link2 : (linkOf s2 n).v2g = (linkOf s1 n).v2g ∧ (linkOf s2 n).ev = (linkOf s1 n).ev := by
    rw [← answered, linkOf_postV2g, linkOf_sayV2g, linkOf_answer, linkOf_keepMirror]
    exact ⟨rfl, rfl⟩
  have mirror2 : (mirrorOf s2 n).ev = (linkOf s1 n).ev := by
    rw [← answered, mirrorOf_postV2g, mirrorOf_sayV2g, ← shown]
    rfl
  obtain ⟨v2g3, ev3, mirror3⟩ := askEvccid_keeps (n := n) (s := s2)
  refine ⟨?_, ?_, ?_⟩
  · rw [v2g3, link2.1, v2g]
  · rw [ev3, link2.2, ev]
  · rw [mirror3, mirror2, ev]

/-! ### A request whose answer only notes the tick -/

theorem offerOk_requested {o : AppOffer} : offerOk (requested n s) n o = offerOk s n o := by
  unfold offerOk
  rw [linkOf_requested]
  rfl

theorem trustRoots_requested : trustRoots (requested n s) n = trustRoots s n := by
  unfold trustRoots
  rw [linkOf_requested]
  rfl

theorem contractOffered_requested : contractOffered (requested n s) n = contractOffered s n := by
  unfold contractOffered
  rw [trustRoots_requested, linkOf_requested]
  rfl

theorem chainOk_requested {c : ContractChain} : chainOk (requested n s) n c = chainOk s n c := by
  unfold chainOk rootOf
  rw [trustRoots_requested]
  rfl

/-! ### Contracts, authorisation and parameters -/

/-- A contract chain that verifies stands in the link, with its root (R265). -/
theorem paymentDetails_takes {c : ContractChain} {k : Fin 8} (place : ((linkOf s n).proto = 2 ∧ (linkOf s n).pnc = true ∧
      (linkOf s n).phase = .payment) ∨ ((linkOf s n).proto = 3 ∧ contractOffered s n = true ∧ (linkOf s n).tls = true ∧
      (linkOf s n).phase = .authSetup)) (chain : chainOk s n c = some k) :
    (linkOf (paymentDetails n c s) n).contract = some (k.val, sha256 (c.certs.headD []), c.emaid) := by
  unfold paymentDetails
  extract_lets l allowed
  have ok : allowed = true := by
    unfold allowed
    rcases place with ⟨proto, pnc, phase⟩ | ⟨proto, offered, tls, phase⟩
    · rw [show l.proto = 2 from proto, if_pos rfl, show l.pnc = true from pnc, show l.phase = .payment from phase]
      rfl
    · rw [show l.proto = 3 from proto, if_neg (by decide), offered, show l.tls = true from tls, show l.phase = .authSetup from phase]
      rfl
  rw [ok, if_neg (by decide), chain]
  dsimp only
  rw [linkOf_keepMirror, linkOf_answer, linkOf_modLink_self]

theorem openReq_congr {p : Decision → Bool} (open_ : t.vlk.open_ = s.vlk.open_) (session : (outOf t n).session = (outOf s n).session)
    (sid : (linkOf t n).sessionId = (linkOf s n).sessionId) : openReq t n p = openReq s n p := by
  unfold openReq
  rw [open_, session, sid]

theorem openReq_requested {p : Decision → Bool} : openReq (requested n s) n p = openReq s n p :=
  openReq_congr rfl rfl (by rw [linkOf_requested])

/-- The decision that an outlet's session asks for. -/
def newDecision (n : Outlet8) (kind seconds : Nat) (fields body : List Byte) (s : State) : Decision :=
  { reqId := s.vlk.nextReq, kind := kind, outlet := n, proto := (linkOf s n).proto,
    flags := BitVec.ofNat 8 (flag 0 (linkOf s n).tls + flag 1 (linkOf s n).bpt), session := (outOf s n).session, sid := (linkOf s n).sessionId,
    deadline := s.now + 64000 * seconds, fields := slice fields 0 32, body := body }

/-- A decision that finds its place in the queue, with none waiting for it, is announced (R272). -/
theorem needDecision_queued {kind seconds : Nat} {fields body : List Byte} (room : s.vlk.open_.length < 16) (noWait : s.vlk.waits = []) :
    needDecision n kind seconds fields body s = postDecide (newDecision n kind seconds fields body s) 0 0
      { s with vlk := { s.vlk with nextReq := s.vlk.nextReq + 1, open_ := s.vlk.open_ ++ [newDecision n kind seconds fields body s] } } := by
  unfold needDecision
  dsimp only
  rw [if_neg (Nat.not_le.2 room), noWait]
  rfl

theorem keepMirror_open : (keepMirror n s).vlk.open_ = s.vlk.open_ ∧ (keepMirror n s).vlk.waits = s.vlk.waits ∧
    (keepMirror n s).vlk.nextReq = s.vlk.nextReq ∧ (keepMirror n s).vlk.schedDl = s.vlk.schedDl ∧ (keepMirror n s).ses = s.ses ∧
    (keepMirror n s).now = s.now := by
  unfold keepMirror
  dsimp only
  split <;> exact ⟨rfl, rfl, rfl, rfl, rfl, rfl⟩

/-- An exchange that goes on leaves the open decisions and their count (R271). -/
theorem exchangeOngoing_open : (exchangeOngoing n s).vlk.open_ = s.vlk.open_ ∧ (exchangeOngoing n s).vlk.nextReq = s.vlk.nextReq := by
  unfold exchangeOngoing
  dsimp only
  split <;> exact ⟨rfl, rfl⟩

/-- A parameter exchange that needs a schedule asks for one (R273). -/
theorem chargeParameters_asks {p : EvParams} (phase : (linkOf s n).phase = .schedule ∨ (linkOf s n).phase = .renegotiate ∨
      ((linkOf s n).proto = 2 ∧ (linkOf s n).phase = .authorised)) (notReady : (linkOf s n).schedReady = false)
    (notDenied : (linkOf s n).schedDenied = false) (none_ : openReq s n (fun d => decide (d.kind = 2)) = false)
    (room : s.vlk.open_.length < 16) (noWait : s.vlk.waits = []) :
    (chargeParameters n p s).vlk.nextReq = s.vlk.nextReq + 1 ∧ ∃ d ∈ (chargeParameters n p s).vlk.open_, d.kind = 2 ∧ d.outlet = n ∧
      d.reqId = s.vlk.nextReq ∧ d.deadline = s.now + 64000 * s.vlk.schedDl := by
  have place : (linkOf s n).phase ∈ (if (linkOf s n).proto = 3 then [.schedule, .renegotiate]
      else [.authorised, .schedule, .renegotiate] : List V2gPhase) := by
    rcases phase with phase | phase | ⟨proto, phase⟩
    · rw [phase]; split <;> simp
    · rw [phase]; split <;> simp
    · rw [phase, proto, if_neg (by decide)]; simp
  unfold chargeParameters
  rw [inPhase_acts place]
  dsimp only
  generalize taken : keepMirror n (modLink n _ s) = s1
  have link : linkOf s1 n = { takeVehicle p (linkOf s n) with phase := .schedule } := by
    rw [← taken, linkOf_keepMirror, linkOf_modLink_self]
  obtain ⟨open1, waits1, next1, dl1, ses1, now1⟩ := keepMirror_open (n := n)
    (s := modLink n (fun l => { takeVehicle p l with phase := .schedule }) s)
  rw [taken] at open1 waits1 next1 dl1 ses1 now1
  have still : openReq s1 n (fun d => decide (d.kind = 2)) = false := by
    rw [openReq_congr (s := s) open1 (by unfold outOf; rw [ses1]; rfl) (by rw [link]; rfl), none_]
  have notReady1 : (linkOf s1 n).schedReady = false := by rw [link]; exact notReady
  have notDenied1 : (linkOf s1 n).schedDenied = false := by rw [link]; exact notDenied
  rw [notReady1, notDenied1, still, if_neg (show ¬(false = true ∨ false = true ∨ false = true) by decide)]
  rw [needDecision_queued (s := s1) (by rw [open1]; exact room) (waits1.trans noWait)]
  generalize decision : newDecision n 2 _ _ _ s1 = d
  generalize announced : postDecide d 0 0 _ = s2
  have link2 : linkOf s2 n = linkOf s1 n := by rw [← announced]; rfl
  have open2 : s2.vlk.open_ = s1.vlk.open_ ++ [d] := by rw [← announced]; rfl
  have next2 : s2.vlk.nextReq = s1.vlk.nextReq + 1 := by rw [← announced]; rfl
  rw [link2, notDenied1, if_neg Bool.false_ne_true, notReady1, if_neg Bool.false_ne_true]
  obtain ⟨openEnd, nextEnd⟩ := exchangeOngoing_open (n := n) (s := s2)
  refine ⟨by rw [nextEnd, next2, next1]; rfl, d, by rw [openEnd, open2]; simp, ?_⟩
  rw [← decision]
  exact ⟨rfl, rfl, next1, by rw [newDecision, now1, dl1]; rfl⟩

/-- The end of a V2G session by the vehicle asks the outlet to stop (R278, R279). -/
theorem sessionStop_ends : Closed n (sessionStop n false s) ∧
    ((outOf s n).state ≠ .stopping → (outOf (sessionStop n false s) n).stopReq.isSome = true) := by
  unfold sessionStop
  rw [if_neg (fun h => Bool.false_ne_true h.1)]
  dsimp only
  have state : (outOf (answer n .ok s) n).state = (outOf s n).state := rfl
  rw [state]
  split
  next stopping => exact ⟨endV2g_closed, fun other => absurd stopping other⟩
  next =>
    refine ⟨endV2g_closed (s := say n .tcpClose (answer n .ok s)) (cause := 0), fun _ => ?_⟩
    unfold requestStop
    rw [outOf_modOut_self]
    split
    · assumption
    · rfl

/-! ### Requests out of their place -/

theorem v2gOther_other : v2gOther n .other s = sequenceFail n s := rfl

theorem v2gOther_start (phase : (linkOf s n).phase ≠ .ready) : v2gOther n .powerDeliveryStart s = sequenceFail n s := by
  have fails (act : State → State) : inPhase n [.ready] act s = sequenceFail n s := inPhase_fails fun mem => phase (List.mem_singleton.1 mem)
  unfold v2gOther
  dsimp only
  split
  case h_9 | h_10 => exact fails _
  case h_15 => rfl
  all_goals contradiction

theorem v2gOther_authSetup (phase : (linkOf s n).phase ≠ .setup) : v2gOther n .authorizationSetup s = sequenceFail n s := by
  have fails (act : State → State) : inPhase n [.setup] act s = sequenceFail n s := inPhase_fails fun mem => phase (List.mem_singleton.1 mem)
  unfold v2gOther
  dsimp only
  split
  case h_7 => exact fails _
  case h_15 => rfl
  all_goals contradiction

/-- Settles O33. -/
theorem vehicleSession : Obligations.VehicleSession := by
  unfold Obligations.VehicleSession
  intro s r n l eq ready tcp hand open_ eqR
  have eqR : r = requested n s := eqR
  subst eq eqR
  have up : Connected n s := ⟨ready, tcp, hand, open_⟩
  have tcpR : (linkOf (requested n s) n).tcp = true := by rw [linkOf_requested]; exact tcp
  refine ⟨fun offers o phase resume best => ?protocol, fun sid evccid resume => ⟨fun fixed => ?refused, fun mode phase => ?setup⟩,
    fun c v2g => ?noSession, ?undecodable, (failClose_closed tcpR).2, fun v2g => ⟨fun c k place chain => ?contract, fun phase => ?authorise,
      fun p authed phase notReady notDenied none_ room noWait => ?parameters, fun p authed => ?early, fun body phase len none_ room noWait => ?install,
      fun phase bpt => ?status, ?stop, fun proto phase => ?delivery, fun k kind => ?misplaced, fun late => ?idle, ?lost, fun h long => ?frame⟩⟩
  case protocol =>
    refine ⟨_, congrArg Host.Outcome.next (request_acts up), ?_⟩
    refine appProtocol_agrees (by rw [linkOf_requested]; exact phase) (by rw [linkOf_requested]; exact resume) ?_
    rw [show offerOk (requested n s) n = offerOk s n from funext fun _ => offerOk_requested]
    exact best
  case refused =>
    refine (congrArg Host.Outcome.next (request_acts up (act := sessionSetup n sid evccid))).trans (congrArg Host.Outcome.next ?_)
    unfold sessionSetup
    dsimp only
    exact if_pos ⟨fixed, by rw [linkOf_requested]; exact resume⟩
  case setup =>
    refine ⟨_, congrArg Host.Outcome.next (request_acts up), ?_⟩
    exact sessionSetup_opens (by rw [linkOf_requested]; exact resume) mode (by rw [linkOf_requested]; exact phase)
  case noSession => exact ⟨_, congrArg Host.Outcome.next (inSession_fails up v2g), (sequenceFail_closed tcpR).2⟩
  case undecodable => exact congrArg Host.Outcome.next ((if_pos rfl).trans (request_acts up))
  case contract =>
    refine ⟨_, congrArg Host.Outcome.next (inSession_acts up v2g), paymentDetails_takes (k := k) ?_ (by rw [chainOk_requested]; exact chain)⟩
    rw [contractOffered_requested, linkOf_requested]
    exact place
  case authorise =>
    refine (congrArg Host.Outcome.next (inSession_acts up v2g (act := authorization n false))).trans (congrArg Host.Outcome.next ?_)
    unfold authorization
    dsimp only
    rw [inPhase_acts (by rw [linkOf_requested]; exact phase), if_neg Bool.false_ne_true]
    rfl
  case parameters =>
    have runs : exec (.chargeParameterDiscoveryReq n p) s = .next (chargeParameters n p (requested n s)) :=
      congrArg Host.Outcome.next ((inSession_acts up v2g).trans (if_pos authed))
    refine ⟨_, runs, chargeParameters_asks ?_ ?_ ?_ ?_ room noWait⟩
    · rw [linkOf_requested]; exact phase
    · rw [linkOf_requested]; exact notReady
    · rw [linkOf_requested]; exact notDenied
    · rw [openReq_requested]; exact none_
  case early =>
    have fails : exec (.chargeParameterDiscoveryReq n p) s = .next (sequenceFail n (requested n s)) :=
      congrArg Host.Outcome.next ((inSession_acts up v2g).trans (if_neg fun h => Bool.false_ne_true (authed.symm.trans h)))
    exact ⟨_, fails, (sequenceFail_closed tcpR).2⟩
  case install =>
    have runs : exec (.certificateInstallationReq n false body) s =
        .next (needDecision n 3 s.vlk.certDl [BitVec.ofNat 8 (b2n false)] body (requested n s)) := by
      refine congrArg Host.Outcome.next ((inSession_acts up v2g).trans ?_)
      rw [inPhase_acts (by rw [linkOf_requested]; exact phase), openReq_requested, none_]
      exact if_neg (by rintro (h | h); exacts [absurd len (Nat.not_le.2 h), Bool.false_ne_true h])
    rw [needDecision_queued (s := requested n s) room noWait] at runs
    exact ⟨_, runs, _, List.mem_append_right _ (List.mem_singleton_self _), rfl, rfl, rfl, rfl⟩
  case status =>
    refine (congrArg Host.Outcome.next (inSession_acts up v2g (act := chargingStatus n))).trans (congrArg Host.Outcome.next ?_)
    unfold chargingStatus
    rw [inPhase_acts (by rw [linkOf_requested, phase]; exact List.mem_singleton_self _)]
    dsimp only
    refine if_neg fun h => ?_
    have same : (linkOf (sendLimit n (answerAs true n .ok (requested n s))) n).bpt = (linkOf s n).bpt := by
      unfold sendLimit
      dsimp only
      rw [linkOf_modMirror]
      refine (congrArg Link.bpt (linkOf_answerAs (ac := true) (res := .ok) (s := requested n s))).trans ?_
      rw [linkOf_requested]
    exact Bool.false_ne_true (bpt.symm.trans (same.symm.trans h))
  case stop =>
    obtain ⟨⟨noV2g, noTcp⟩, stops⟩ := sessionStop_ends (n := n) (s := requested n s)
    exact ⟨_, congrArg Host.Outcome.next (inSession_acts up v2g), noV2g, noTcp, stops⟩
  case delivery =>
    refine (congrArg Host.Outcome.next ((if_neg (by decide)).trans (inSession_acts up v2g))).trans (congrArg Host.Outcome.next ?_)
    have place : (linkOf (requested n s) n).phase ∈ ([.ready, .charging] : List V2gPhase) := by
      rw [linkOf_requested]
      rcases phase with phase | phase
      · exact phase ▸ List.mem_cons_self
      · exact phase ▸ List.mem_cons_of_mem _ (List.mem_singleton_self _)
    have protoR : (linkOf (requested n s) n).proto = (linkOf s n).proto := by rw [linkOf_requested]
    unfold v2gOther
    dsimp only
    rw [protoR]
    rcases proto with proto | proto <;> rw [proto] <;> exact inPhase_acts place
  case misplaced =>
    have fails : v2gOther n k (requested n s) = sequenceFail n (requested n s) := by
      rcases kind with rfl | ⟨rfl, phase⟩ | ⟨rfl, phase⟩
      · exact v2gOther_other
      · exact v2gOther_start (by rw [linkOf_requested]; exact phase)
      · exact v2gOther_authSetup (by rw [linkOf_requested]; exact phase)
    have decoded : k ≠ .undecodable := by
      rcases kind with rfl | ⟨rfl, -⟩ | ⟨rfl, -⟩ <;> exact V2gKind.noConfusion
    have runs : exec (.v2gRequest n k) s = .next (sequenceFail n (requested n s)) :=
      congrArg Host.Outcome.next ((if_neg decoded).trans ((inSession_acts up v2g).trans fails))
    exact ⟨_, runs, (sequenceFail_closed tcpR).2⟩
  case idle =>
    refine ⟨_, (exec_vlkUp ready rfl).trans (congrArg Host.Outcome.next (if_pos ⟨v2g, late⟩)), closeWith_closed tcp⟩
  case lost => exact ⟨_, (exec_vlkUp ready rfl).trans (congrArg Host.Outcome.next (if_pos tcp)), endV2g_closed⟩
  case frame => exact ⟨_, (exec_vlkUp ready rfl).trans (congrArg Host.Outcome.next (if_pos long)), closeWith_closed tcp⟩

end Sys2Proof.Proofs
end

section
set_option Elab.async false -- one theorem after another, which keeps Lean within its memory
/-! Decisions, their deadlines and the descriptors of the vehicle link (O34). -/

namespace Sys2Proof.Proofs

open Sys2Proof Sys2Proof.Machine Sys2Proof.Safety Sys2Proof.Laws

variable {s t u : State} {f : Flight} {n : Outlet8} {d : Decision}

/-! ### The open decisions -/

/-- The decisions that are open and those that took their default. -/
def SameDecisions (s t : State) : Prop := t.vlk.open_ = s.vlk.open_ ∧ t.vlk.defaulted = s.vlk.defaulted

theorem SameDecisions.trans (first : SameDecisions s t) (second : SameDecisions t u) : SameDecisions s u :=
  ⟨second.1.trans first.1, second.2.trans first.2⟩

theorem forSession_decisions {act : State → State} (keeps : ∀ t, SameDecisions t (act t)) : SameDecisions s (forSession d act s) := by
  unfold forSession
  dsimp only
  split
  · exact keeps s
  · exact ⟨rfl, rfl⟩

theorem authAccept_decisions {ref : W64} {limit : Nat} : SameDecisions s (authAccept d ref limit s) := by
  unfold authAccept
  dsimp only
  split <;> exact ⟨rfl, rfl⟩

theorem authDeny_decisions : SameDecisions s (authDeny d s) := by
  unfold authDeny
  dsimp only
  split <;> exact ⟨rfl, rfl⟩

theorem listLookup_decisions {ktype klen : Nat} {key : List Byte} : SameDecisions s (listLookup ktype klen key s).2 := by
  unfold listLookup
  split <;> exact ⟨rfl, rfl⟩

/-- A default changes no decision but its own. -/
theorem applyDefault_decisions : SameDecisions s (applyDefault d s).2 := by
  unfold applyDefault
  split
  · split
    · have looked := listLookup_decisions (ktype := 4) (klen := 16) (key := slice d.body 0 16) (s := s)
      generalize listLookup 4 16 (slice d.body 0 16) s = found at looked
      obtain ⟨hit, s1⟩ := found
      cases hit with
      | none => exact looked.trans authDeny_decisions
      | some e => exact looked.trans authAccept_decisions
    · exact ⟨rfl, rfl⟩
  · split
    · split
      · exact forSession_decisions fun _ => ⟨rfl, rfl⟩
      · exact forSession_decisions fun _ => ⟨rfl, rfl⟩
    · exact forSession_decisions fun _ => ⟨rfl, rfl⟩

/-- A decision past its deadline is removed, and counts as defaulted (R274). -/
theorem decisionDeadline_late {r : W32} (open_ : s.vlk.open_ = [d]) (id : d.reqId = r.toNat) (late : d.deadline ≤ s.now) :
    (decisionDeadline r s).vlk.open_ = [] ∧ d.reqId ∈ (decisionDeadline r s).vlk.defaulted := by
  unfold decisionDeadline
  rw [open_, List.find?_cons_of_pos (by rw [id]; exact beq_self_eq_true _)]
  dsimp only
  rw [if_pos late]
  generalize removed : ({ s with vlk := { s.vlk with open_ := _, defaulted := _ } } : State) = s1
  have open1 : s1.vlk.open_ = [] := by rw [← removed]; simp
  have gone : s1.vlk.defaulted = d.reqId :: s.vlk.defaulted := by rw [← removed]
  obtain ⟨same, sameGone⟩ := applyDefault_decisions (d := d) (s := s1)
  refine ⟨same.trans open1, ?_⟩
  have posted : (postDecide d 1 (applyDefault d s1).1 (applyDefault d s1).2).vlk.defaulted = d.reqId :: s.vlk.defaulted :=
    sameGone.trans gone
  rw [posted]
  exact List.mem_cons_self

/-- A wait whose time has come completes with TIMEOUT (R272). -/
theorem decisionWaitTimeout_late {t0 : Tick} (waits : s.vlk.waits = [(f.seq, t0)]) (late : t0 ≤ s.now) (inFlight : flight? f.seq s = some f) :
    decisionWaitTimeout s = complete f .timeout 0 [] none { s with vlk := { s.vlk with waits := [] } } := by
  unfold decisionWaitTimeout
  rw [waits, show [(f.seq, t0)].find? (fun w => decide (w.2 ≤ s.now)) = some (f.seq, t0) by simp [late]]
  dsimp only
  rw [show ([(f.seq, t0)].filter fun x => x.1 != f.seq) = [] by simp]
  unfold completeSeq
  rw [show flight? f.seq { s with vlk := { s.vlk with waits := [] } } = some f from inFlight]

/-! ### A session that is not rejoined -/

/-- A V2G session that its vehicle does not rejoin ends (R281). -/
theorem notRejoined_ends : (mirrorOf (notRejoined n s) n).sessionId = 0 ∧ (outOf (notRejoined n s) n).stopDone = true ∧
    (linkOf (notRejoined n s) n).resumeUntil = none := by
  unfold notRejoined
  dsimp only
  generalize ended : modLink n (fun l => { l with resumeUntil := none }) _ = s1
  have noResume : (linkOf s1 n).resumeUntil = none := by rw [← ended, linkOf_modLink_self]
  have closed : linkOf (modLink n (Link.closed (mirrorOf s1 n)) (dropTls n s1)) n = (linkOf s1 n).closed (mirrorOf s1 n) :=
    linkOf_modLink_self ..
  have stays : ((linkOf s1 n).closed (mirrorOf s1 n)).resumeUntil = none := by
    unfold Link.closed
    dsimp only
    rw [noResume]
    exact (if_neg Bool.false_ne_true) ▸ rfl
  refine ⟨?_, ?_, ?_⟩
  · change (mirrorOf (closeLink n s1) n).sessionId = 0
    unfold closeLink keepMirror
    dsimp only
    rw [closed, stays, Option.isSome_none, if_neg Bool.false_ne_true, mirrorOf_modMirror_self]
    dsimp only
    rw [(closed_link (m := mirrorOf s1 n) (l := linkOf s1 n)).1, if_neg Bool.false_ne_true]
  · rw [outOf_modOut_self]
  · change (linkOf (closeLink n s1) n).resumeUntil = none
    unfold closeLink
    rw [linkOf_keepMirror, closed, stays]

/-! ### Descriptors -/

/-- The data of an answer's completion: the decision's number. -/
def answerData (f : Flight) : List Byte := leBytes 4 (f.p 16 4)

theorem answer_form (bad : ∀ b, answerForm f b = false) : vlkDecisionAnswer f s = complete f .invalid 0 (answerData f) none s := by
  unfold vlkDecisionAnswer
  extract_lets id kind v found bpt data
  rw [bad, if_pos (by decide)]
  rfl

theorem answer_late (form : ∀ b, answerForm f b = true) (gone : s.vlk.defaulted.contains (f.p 16 4) = true) :
    vlkDecisionAnswer f s = complete f .timeout 0 (answerData f) none s := by
  unfold vlkDecisionAnswer
  extract_lets id kind v found bpt data
  rw [form, if_neg (by decide), if_pos gone]
  rfl

/-- An answer to a decision that is not open is CONFLICT. -/
theorem answer_unknown (form : ∀ b, answerForm f b = true) (still : s.vlk.defaulted.contains (f.p 16 4) = false)
    (none_ : s.vlk.open_.find? (fun d => d.reqId == f.p 16 4) = none) :
    vlkDecisionAnswer f s = complete f .conflict 0 (answerData f) none s := by
  unfold vlkDecisionAnswer
  extract_lets id kind v found bpt data
  have unknown : found = none := none_
  rw [form, if_neg (by decide), still, if_neg Bool.false_ne_true, unknown]
  rfl

/-- An answer of another kind is CONFLICT. -/
theorem answer_kind (form : ∀ b, answerForm f b = true) (still : s.vlk.defaulted.contains (f.p 16 4) = false)
    (some_ : s.vlk.open_.find? (fun d => d.reqId == f.p 16 4) = some d) (other : d.kind ≠ f.p 20 1) :
    vlkDecisionAnswer f s = complete f .conflict 0 (answerData f) none s := by
  unfold vlkDecisionAnswer
  extract_lets id kind v found bpt data
  have known : found = some d := some_
  rw [form, if_neg (by decide), still, if_neg Bool.false_ne_true, known]
  dsimp only
  rw [if_pos other]
  rfl

/-- An answer to an authorisation takes the decision out and gives its effect (R275). -/
theorem answer_auth (form : ∀ b, answerForm f b = true) (still : s.vlk.defaulted.contains (f.p 16 4) = false)
    (some_ : s.vlk.open_.find? (fun d => d.reqId == f.p 16 4) = some d) (same : d.kind = f.p 20 1) (auth : f.p 20 1 = 1) :
    ∃ detail, vlkDecisionAnswer f s = complete f .ok detail (answerData f) none
      (answerAuth d (f.p 21 1) (BitVec.ofNat 64 (f.p 24 8)) (f.p 32 2)
        { s with vlk := { s.vlk with open_ := s.vlk.open_.filter fun e => e.reqId != f.p 16 4 } }).2 := by
  unfold vlkDecisionAnswer
  extract_lets id kind v found bpt data
  have known : found = some d := some_
  rw [form, if_neg (by decide), still, if_neg Bool.false_ne_true, known]
  dsimp only
  rw [if_neg (not_not.2 same), if_pos (show kind = 1 from auth)]
  exact ⟨_, rfl⟩

/-- An accept in time authorises the outlet of the session (R275). -/
theorem answerAuth_accepts {ref : W64} {limit : Nat} (plain : d.isContract = false) (fresh : (outOf s d.outlet).authed = false)
    (session : (outOf s d.outlet).session = d.session) (lo : 1 ≤ (outOf s d.outlet).state.num) (hi : (outOf s d.outlet).state.num ≤ 4)
    (ires : iresOk s d.outlet = true) : (outOf (answerAuth d 1 ref limit s).2 d.outlet).authed = true ∧
      (outOf (answerAuth d 1 ref limit s).2 d.outlet).authRef = ref ∧ (answerAuth d 1 ref limit s).2.vlk.open_ = s.vlk.open_ := by
  have accepted : (answerAuth d 1 ref limit s).2 = authAccept d ref limit s := by
    unfold answerAuth
    rw [fresh, if_neg Bool.false_ne_true, if_pos rfl, plain]
    rfl
  rw [accepted]
  refine ⟨?_, ?_, authAccept_decisions.1⟩
  all_goals
    unfold authAccept
    dsimp only
    rw [if_pos ⟨session, lo, hi, by rw [fresh]; rfl, ires⟩, outOf_modOut_self]

theorem find_only {id : Nat} (open_ : s.vlk.open_ = [d]) (eq : d.reqId = id) : s.vlk.open_.find? (fun d => d.reqId == id) = some d := by
  rw [open_, List.find?_cons_of_pos (by rw [eq]; exact beq_self_eq_true _)]

/-- Settles O34. -/
theorem vehicleDecisions : Obligations.VehicleDecisions := by
  unfold Obligations.VehicleDecisions
  refine fun s f => ⟨fun d r ready open_ id late => ?deadline, fun t0 ready waits late inFlight => ?waitEnds, fun n t0 ready resume late => ?notRejoined,
    fun front lo hi stopped => ?waitStopped, fun front lo hi run all => ?waits, fun front form gone => ?late,
    fun d front form none_ open_ id kind kindF accept plain fresh session lo hi ires => ?accepts, fun front v2g digital state => ?renegotiate,
    fun front v2g => ?noSession, fun front => ?read, fun idx front which index empty => ?emptyRoot, fun c front which index eq fits => ?certRead,
    fun front bad => ?waitRange, fun front bad => ?form, fun front form still all => ?unknown, fun d front form none_ open_ id other => ?kind,
    fun front bad => ?certRange, fun front bad => ?readRange, fun c front which index eq short => ?readShort⟩
  case deadline => exact ⟨_, exec_vlkUp (act := decisionDeadline r) ready rfl, decisionDeadline_late open_ id late⟩
  case waitEnds =>
    exact (exec_vlkUp (act := decisionWaitTimeout) ready rfl).trans (congrArg Host.Outcome.next (decisionWaitTimeout_late waits late inFlight))
  case notRejoined =>
    have runs : exec (.resumeTimeout n) s = .next (notRejoined n s) := by
      refine Eq.trans (b := execResumeTimeout n s) rfl ?_
      rw [execResumeTimeout, vlkUp, if_pos ready, resume]
      exact congrArg Host.Outcome.next (if_pos late)
    exact ⟨_, runs, notRejoined_ends⟩
  case waitStopped =>
    refine (exec_front (act := vlkDecisionWait) front rfl).trans (congrArg Host.Outcome.next ?_)
    unfold vlkDecisionWait
    dsimp only
    rw [if_neg (by omega), stopped]
    rfl
  case waits =>
    refine (exec_front (act := vlkDecisionWait) front rfl).trans (congrArg Host.Outcome.next ?_)
    have none_ : s.vlk.open_.find? (fun d => !d.delivered) = none := by
      refine List.find?_eq_none.2 fun d mem => ?_
      rw [all d mem]
      decide
    unfold vlkDecisionWait
    dsimp only
    rw [if_neg (by omega), run, none_]
    rfl
  case late => exact (exec_front (act := vlkDecisionAnswer) front rfl).trans (congrArg Host.Outcome.next (answer_late form gone))
  case accepts =>
    obtain ⟨detail, runs⟩ := answer_auth form (by rw [none_]; rfl) (find_only open_ id) (kind.trans kindF.symm) kindF
    rw [accept] at runs
    refine ⟨_, (exec_front (act := vlkDecisionAnswer) front rfl).trans (congrArg Host.Outcome.next runs), ?_⟩
    have left : (s.vlk.open_.filter fun e => e.reqId != f.p 16 4) = [] := by rw [open_]; simp [id]
    rw [left]
    obtain ⟨authed, ref, open1⟩ := answerAuth_accepts (s := { s with vlk := { s.vlk with open_ := [] } }) (ref := BitVec.ofNat 64 (f.p 24 8))
      (limit := f.p 32 2) plain fresh session lo hi ires
    unfold outOf
    rw [complete_vlk, complete_ses]
    exact ⟨open1, authed, ref⟩
  case renegotiate =>
    exact (exec_front (act := vlkRenegotiate) front rfl).trans (congrArg Host.Outcome.next (if_pos ⟨v2g, digital, state⟩))
  case noSession =>
    exact (exec_front (act := vlkRenegotiate) front rfl).trans (congrArg Host.Outcome.next
      (if_neg fun h => Bool.false_ne_true (v2g.symm.trans h.1)))
  case read => exact (exec_front front rfl).trans rfl
  case emptyRoot =>
    refine (exec_front (act := vlkCertWrite) front rfl).trans (congrArg Host.Outcome.next ?_)
    have slot : Fin.ofNat 8 (f.p 17 1) = idx := by
      rw [index]
      exact Fin.ext (Nat.mod_eq_of_lt idx.isLt)
    have low : f.p 17 1 < 8 := index ▸ idx.isLt
    unfold vlkCertWrite
    dsimp only
    rw [if_pos which, if_neg (by omega), if_pos empty]
    simp only [slot, empty]
  case certRead =>
    refine (exec_front (act := vlkCertRead) front rfl).trans (congrArg Host.Outcome.next ?_)
    unfold vlkCertRead
    dsimp only
    rw [if_neg (by omega), if_pos which, ← eq, if_neg (by omega)]
  case waitRange => exact (exec_front (act := vlkDecisionWait) front rfl).trans (congrArg Host.Outcome.next (if_pos bad))
  case form => exact (exec_front (act := vlkDecisionAnswer) front rfl).trans (congrArg Host.Outcome.next (answer_form bad))
  case unknown =>
    refine (exec_front (act := vlkDecisionAnswer) front rfl).trans (congrArg Host.Outcome.next (answer_unknown form still ?_))
    exact List.find?_eq_none.2 fun d mem h => all d mem (by simpa using h)
  case kind =>
    exact (exec_front (act := vlkDecisionAnswer) front rfl).trans (congrArg Host.Outcome.next
      (answer_kind form (by rw [none_]; rfl) (find_only open_ id) other))
  case certRange =>
    refine (exec_front (act := vlkCertWrite) front rfl).trans (congrArg Host.Outcome.next ?_)
    unfold vlkCertWrite
    dsimp only
    rcases bad with other | ⟨root, range⟩ | ⟨chain, index⟩
    · rw [if_neg (by omega), if_neg (by omega)]
    · rw [if_pos root, if_pos range]
    · rw [if_neg (by omega), if_neg (by omega)]
  case readRange => exact (exec_front (act := vlkCertRead) front rfl).trans (congrArg Host.Outcome.next (if_pos bad))
  case readShort =>
    refine (exec_front (act := vlkCertRead) front rfl).trans (congrArg Host.Outcome.next ?_)
    unfold vlkCertRead
    dsimp only
    rw [if_neg (by omega), if_pos which, ← eq, if_pos short]

end Sys2Proof.Proofs
end

section
set_option Elab.async false -- one theorem after another, which keeps Lean within its memory
/-! The sender of a token transfer (chapter 11): what a change of an open transfer leaves in the tokens, and the deadlines. -/

namespace Sys2Proof.Proofs

open Sys2Proof Sys2Proof.Machine Sys2Proof.Safety Sys2Proof.Laws

/-! ### Messages for this node -/

/-- A message for a node that takes part in transfers is handled by it. -/
theorem receiveTok_own {mtype : Nat} {dst : W64} {m : TokMsg} {act : State → State} {s : State} (joined : inDomain s = true)
    (own : dst = s.fuse.serial) : receiveTok mtype dst m act s = act s :=
  (if_pos joined).trans (if_pos own)

/-- A member sends in its next response. -/
theorem sendTok_member {s : State} (member : s.bkb.role = 1) (mtype : Nat) (dst : W64) (m : TokMsg) :
    sendTok mtype dst m s = { s with bkb := { s.bkb with up := s.bkb.up ++ [(mtype, m)] } } :=
  if_neg (by rw [member]; decide)

@[simp] theorem putTok_tok (f : Tokens → Tokens) (s : State) : (putTok f s).sct.tok = f s.sct.tok := rfl

@[simp] theorem putTok_bkb (f : Tokens → Tokens) (s : State) : (putTok f s).bkb = s.bkb := rfl

@[simp] theorem putTok_fuse (f : Tokens → Tokens) (s : State) : (putTok f s).fuse = s.fuse := rfl

@[simp] theorem putTok_gen (f : Tokens → Tokens) (s : State) : (putTok f s).gen = s.gen := rfl

@[simp] theorem postDoubt_sct (k xid : Nat) (p : Fin 3) (n : Nat) (s : State) : (postDoubt k xid p n s).sct = s.sct := rfl

/-! ### Open transfers by their XID -/

/-- A transfer that is found carries the XID. -/
theorem xid_of_ownXfer {s : State} {xid : Nat} {x : OutXfer} (h : ownXfer s xid = some x) : x.xid = xid := by
  simpa using List.find?_some h

theorem closeXfer_xfers (x : OutXfer) (back : Bool) (s : State) :
    (closeXfer x back s).sct.tok.xfers = s.sct.tok.xfers.filter fun y => y.xid != x.xid := by
  cases back <;> rfl

theorem closeXfer_spare_dropped (x : OutXfer) (s : State) : (closeXfer x false s).sct.tok.spare = s.sct.tok.spare := rfl

theorem closeXfer_spare_back (x : OutXfer) (s : State) :
    (closeXfer x true s).sct.tok.spare = vmod s.sct.tok.spare x.phase (· + x.count) := rfl

/-- A transfer that is closed is open no more. -/
theorem ownXfer_closeXfer (x : OutXfer) (back : Bool) (s : State) : ownXfer (closeXfer x back s) x.xid = none := by
  rw [ownXfer, closeXfer_xfers, List.find?_eq_none]
  intro y hy
  have other := (List.mem_filter.mp hy).2
  simpa using other

theorem setXfer_xfers (x : OutXfer) (st : XState) (s : State) :
    (setXfer x st s).sct.tok.xfers = s.sct.tok.xfers.map fun y => if y.xid = x.xid then { y with state := st } else y := rfl

/-- A transfer that passes to another state is found in it. -/
theorem ownXfer_setXfer {s : State} {xid : Nat} {x : OutXfer} (found : ownXfer s xid = some x) (st : XState) :
    ownXfer (setXfer x st s) xid = some { x with state := st } := by
  have named := xid_of_ownXfer found
  have same : ((fun y : OutXfer => y.xid == xid) ∘ fun y => if y.xid = x.xid then { y with state := st } else y) =
      fun y => y.xid == xid := by
    funext y
    by_cases h : y.xid = x.xid <;> simp [h]
  rw [ownXfer, setXfer_xfers, List.find?_map, same]
  rw [ownXfer] at found
  rw [found, Option.map_some, if_pos rfl]

/-! ### The acts of the sender -/

section
variable {s : State} {m : TokMsg} {x : OutXfer} (joined : inDomain s = true) (own : m.sender = s.fuse.serial)
  (found : ownXfer s m.xid.toNat = some x)

include joined own in
/-- A MOVE that the node can act on. -/
theorem move_offers (member : s.bkb.role = 1) (room : s.sct.tok.xfers.length < 8) (enough : m.count ≤ s.sct.tok.spare[m.phase.val]) :
    ∃ t, exec (.move m) s = .next t ∧
      t.sct.tok.spare = vmod s.sct.tok.spare m.phase (· - m.count) ∧ t.sct.nextXid = s.sct.nextXid + 1 ∧
      t.sct.tok.xfers = s.sct.tok.xfers ++ [{ xid := s.sct.nextXid, receiver := m.receiver, phase := m.phase, count := m.count,
                                              deadline := s.dfn + s.sct.xferExp * 10, state := .offered }] ∧
      t.bkb.up.length = s.bkb.up.length + 1 ∧ t.sct.copies = Vector.replicate 3 { image := (t.sct.seq, t.sct.tok) } := by
  have can : ¬(8 ≤ s.sct.tok.xfers.length ∨ s.sct.tok.spare[m.phase.val] < m.count) := by omega
  refine ⟨_, congrArg Host.Outcome.next ((receiveTok_own joined own).trans ((if_neg can).trans (sendTok_member ?_ _ _ _))),
    rfl, rfl, rfl, ?_, rfl⟩
  · exact member
  · exact List.length_append

include joined own found in
/-- ACCEPT before the deadline. -/
theorem accept_commits (offered : x.state = .offered) (inTime : s.dfn ≤ x.deadline) :
    exec (.accept m) s = .next (setXfer x .commitSent s) := by
  refine congrArg Host.Outcome.next ((receiveTok_own joined own).trans ?_)
  simp only [found]
  exact if_pos ⟨offered, inTime⟩

include joined own found in
/-- REFUSE of an offer. -/
theorem refuse_returns (offered : x.state = .offered) : exec (.refuse m) s = .next (closeXfer x true s) := by
  refine congrArg Host.Outcome.next ((receiveTok_own joined own).trans ?_)
  simp only [found]
  exact if_pos offered

include joined own found in
/-- ACK of a transfer whose COMMIT has been sent. -/
theorem ack_closes (sent : x.state = .commitSent) : exec (.ack m) s = .next (closeXfer x false s) := by
  refine congrArg Host.Outcome.next ((receiveTok_own joined own).trans ?_)
  simp only [found]
  exact if_pos sent

include joined own found in
/-- RESOLVE of a transfer in doubt. -/
theorem resolve_closes (doubt : x.state = .inDoubt) (answer : m.result = 1 ∨ m.result = 2) :
    exec (.resolve m) s = .next (postDoubt m.result x.xid x.phase x.count (closeXfer x (decide (m.result = 2)) s)) := by
  refine congrArg Host.Outcome.next ((receiveTok_own joined own).trans ?_)
  rw [actResolve, found]
  exact if_pos ⟨doubt, answer⟩

end

/-! ### Deadlines -/

/-- One look at a transfer past its deadline. -/
def lapse (s : State) (x : OutXfer) : State :=
  if x.state = .offered then closeXfer x true s
  else if x.state = .commitSent then postDoubt 0 x.xid x.phase x.count (setXfer x .inDoubt s)
  else s

/-- A list of open transfers stands under a state: each transfer of the state is one of the list, as it was or in doubt. -/
def StemsFrom (l : List OutXfer) (s : State) : Prop :=
  ∀ y ∈ s.sct.tok.xfers, ∃ y₀ ∈ l, y₀.xid = y.xid ∧ y₀.deadline = y.deadline ∧ (y.state = y₀.state ∨ y.state = .inDoubt)

theorem lapse_stems {l : List OutXfer} {s : State} (h : StemsFrom l s) (x : OutXfer) : StemsFrom l (lapse s x) := by
  unfold lapse
  split
  · intro y hy
    rw [closeXfer_xfers] at hy
    exact h y (List.mem_filter.mp hy).1
  · split
    · intro y hy
      rw [postDoubt_sct, setXfer_xfers] at hy
      obtain ⟨z, hz, rfl⟩ := List.mem_map.mp hy
      obtain ⟨y₀, hy₀, xid, deadline, state⟩ := h z hz
      by_cases same : z.xid = x.xid
      · rw [if_pos same]
        exact ⟨y₀, hy₀, xid, deadline, .inr rfl⟩
      · rw [if_neg same]
        exact ⟨y₀, hy₀, xid, deadline, state⟩
    · exact h

/-- A transfer that has been looked at is closed or in doubt. -/
def Lapsed (x : OutXfer) (s : State) : Prop := ∀ y ∈ s.sct.tok.xfers, y.xid = x.xid → x.state = .inDoubt ∨ y.state = .inDoubt

theorem lapse_lapsed (s : State) (x : OutXfer) : Lapsed x (lapse s x) := by
  intro y hy same
  cases st : x.state with
  | offered =>
    rw [lapse, if_pos st, closeXfer_xfers] at hy
    have other := (List.mem_filter.mp hy).2
    simp [same] at other
  | commitSent =>
    rw [lapse, if_neg (by rw [st]; decide), if_pos st, postDoubt_sct, setXfer_xfers] at hy
    obtain ⟨z, -, rfl⟩ := List.mem_map.mp hy
    by_cases h : z.xid = x.xid
    · rw [if_pos h]
      exact .inr rfl
    · rw [if_neg h] at same
      exact absurd same h
  | inDoubt => exact .inl rfl

theorem lapse_keeps {s : State} {x : OutXfer} (h : Lapsed x s) (z : OutXfer) : Lapsed x (lapse s z) := by
  unfold lapse
  split
  · intro y hy
    rw [closeXfer_xfers] at hy
    exact h y (List.mem_filter.mp hy).1
  · split
    · intro y hy same
      rw [postDoubt_sct, setXfer_xfers] at hy
      obtain ⟨w, hw, rfl⟩ := List.mem_map.mp hy
      by_cases hz : w.xid = z.xid
      · rw [if_pos hz]
        exact .inr rfl
      · rw [if_neg hz] at same ⊢
        exact h w hw same
    · exact h

/-- Looks at a list of transfers leave each of them closed or in doubt. -/
theorem lapses_lapsed (late : List OutXfer) (s : State) : ∀ x ∈ late, Lapsed x (late.foldl lapse s) := by
  have kept : ∀ (l : List OutXfer) (x : OutXfer) (s : State), Lapsed x s → Lapsed x (l.foldl lapse s) := by
    intro l x
    induction l with
    | nil => intro s h; exact h
    | cons z zs ih => intro s h; exact ih _ (lapse_keeps h z)
  induction late generalizing s with
  | nil => intro x hx; cases hx
  | cons z zs ih =>
    intro x hx
    rcases List.mem_cons.mp hx with rfl | hx
    · exact kept zs x _ (lapse_lapsed s x)
    · exact ih (lapse s z) x hx

theorem lapses_stem {l late : List OutXfer} {s : State} (h : StemsFrom l s) : StemsFrom l (late.foldl lapse s) := by
  induction late generalizing s with
  | nil => exact h
  | cons z zs ih => exact ih (lapse_stems h z)

/-- After the looks, every open transfer past its deadline is in doubt. -/
theorem lapses_inDoubt (s : State) (dfn : Nat) :
    ∀ y ∈ ((s.sct.tok.xfers.filter fun x => decide (x.deadline < dfn)).foldl lapse s).sct.tok.xfers,
      y.deadline < dfn → y.state = .inDoubt := by
  intro y hy past
  obtain ⟨x, hx, xid, deadline, state⟩ := lapses_stem (fun y hy => ⟨y, hy, rfl, rfl, .inl rfl⟩) y hy
  have late : x ∈ s.sct.tok.xfers.filter fun x => decide (x.deadline < dfn) :=
    List.mem_filter.mpr ⟨hx, by simpa [deadline] using past⟩
  rcases lapses_lapsed _ s x late y hy xid.symm with doubt | doubt
  · rcases state with state | state
    · rw [state, doubt]
    · exact state
  · exact doubt

/-- The records past their deadline expire. -/
def expire (dfn : Nat) (s : State) : State :=
  if s.sct.tok.recs.any fun r => decide (r.state = .accepted ∧ r.deadline < dfn) then
    putTok (fun t => { t with recs := t.recs.map fun r => if r.state = .accepted ∧ r.deadline < dfn then { r with state := .expired } else r }) s
  else s

theorem expire_xfers (dfn : Nat) (s : State) : (expire dfn s).sct.tok.xfers = s.sct.tok.xfers := by
  unfold expire
  split <;> rfl

/-- No accepted record is past its deadline then. -/
theorem expire_recs (dfn : Nat) (s : State) : ∀ r ∈ (expire dfn s).sct.tok.recs, r.deadline < dfn → r.state ≠ .accepted := by
  intro r hr past accepted
  unfold expire at hr
  split at hr
  case isTrue dead =>
    obtain ⟨q, -, rfl⟩ := List.mem_map.mp hr
    by_cases h : q.state = .accepted ∧ q.deadline < dfn
    · rw [if_pos h] at accepted
      exact RState.noConfusion accepted
    · rw [if_neg h] at accepted past
      exact h ⟨accepted, past⟩
  case isFalse none =>
    exact none (List.any_eq_true.mpr ⟨r, hr, decide_eq_true ⟨accepted, past⟩⟩)

theorem lapse_bkb (s : State) (x : OutXfer) : (lapse s x).bkb = s.bkb := by
  unfold lapse
  split
  · rfl
  · split <;> rfl

theorem lapses_bkb (late : List OutXfer) (s : State) : (late.foldl lapse s).bkb = s.bkb := by
  induction late generalizing s with
  | nil => rfl
  | cons z zs ih => exact (ih (lapse s z)).trans (lapse_bkb s z)

theorem expire_bkb (dfn : Nat) (s : State) : (expire dfn s).bkb = s.bkb := by
  unfold expire
  split <;> rfl

/-- A member looks at its deadlines and, with no ledger of its own, at no retirement. -/
theorem transferDeadline_member {s : State} (member : s.bkb.role = 1) :
    transferDeadline s = expire s.dfn ((s.sct.tok.xfers.filter fun x => decide (x.deadline < s.dfn)).foldl lapse s) := by
  have plain : isCoord (expire s.dfn ((s.sct.tok.xfers.filter fun x => decide (x.deadline < s.dfn)).foldl lapse s)) = false := by
    rw [isCoord, expire_bkb, lapses_bkb, member]
    exact Bool.and_false _
  exact if_neg (by rw [Bool.not_eq_true]; exact plain)

/-- Settles O35: each act of the sender is the change of one open transfer, found by its XID; the deadlines are looks at the late ones. -/
theorem transferSender : Obligations.TransferSender := by
  unfold Obligations.TransferSender
  intro s m joined member own
  refine ⟨move_offers joined own member, fun x found => ?_, ?_⟩
  · have named := xid_of_ownXfer found
    refine ⟨fun offered inTime => ⟨_, accept_commits joined own found offered inTime, ownXfer_setXfer found _, rfl⟩,
      fun offered => ⟨_, refuse_returns joined own found offered, named ▸ ownXfer_closeXfer x true s, closeXfer_spare_back x s⟩,
      fun sent => ⟨_, ack_closes joined own found sent, named ▸ ownXfer_closeXfer x false s, closeXfer_spare_dropped x s⟩,
      fun doubt answer => ⟨_, resolve_closes joined own found doubt (.inl answer), ?_, ?_⟩,
      fun doubt answer => ⟨_, resolve_closes joined own found doubt (.inr answer), ?_, ?_⟩⟩
    · exact named ▸ ownXfer_closeXfer x _ s
    · rw [postDoubt_sct, answer]
      exact closeXfer_spare_dropped x s
    · exact named ▸ ownXfer_closeXfer x _ s
    · rw [postDoubt_sct, answer]
      exact closeXfer_spare_back x s
  · have ready : s.isReady 6 = true := by
      rw [inDomain, Bool.and_eq_true, Bool.and_eq_true] at joined
      exact joined.1.1
    have run : exec .transferDeadline s = .next (transferDeadline s) :=
      congrArg Host.Outcome.next (if_pos ⟨ready, .inl member⟩)
    refine ⟨_, run, ?_, ?_⟩
    · rw [transferDeadline_member member, expire_xfers]
      exact lapses_inDoubt s s.dfn
    · rw [transferDeadline_member member]
      exact expire_recs _ _

end Sys2Proof.Proofs
end

section
set_option Elab.async false -- one theorem after another, which keeps Lean within its memory
/-! The shares of a phase (R304): a wanter appears once, and the shares of all of them fit the budget. -/

namespace Sys2Proof.Proofs

open Sys2Proof Sys2Proof.Machine Sys2Proof.Safety Sys2Proof.Laws

theorem insertNat_perm {α : Type} (key : α → Nat) (a : α) (l : List α) : (insertNat key a l).Perm (a :: l) := by
  induction l with
  | nil => exact .refl _
  | cons b t ih =>
    rw [insertNat]
    split
    · exact .refl _
    · exact (ih.cons b).trans (.swap a b t)

theorem sortNat_perm {α : Type} (key : α → Nat) (l : List α) : (sortNat key l).Perm l := by
  induction l with
  | nil => exact .refl _
  | cons a t ih => exact (insertNat_perm key a (sortNat key t)).trans (ih.cons a)

/-- The wanters of one member on a phase. -/
def wanters (s : State) (p : Fin 3) (k : Fin 64) : List (Wanter × WantRep) :=
  if (s.sct.ledger[k.val]).state = .free then []
  else ((s.sct.ledger[k.val]).wants.zipIdx.filter fun w => w.1.phases.contains p).map fun w => ((k, w.2), w.1)

theorem wantsOn_eq (s : State) (p : Fin 3) : wantsOn s p = (allFin 64).flatMap (wanters s p) := rfl

theorem wanters_slot {s : State} {p : Fin 3} {k : Fin 64} {w : Wanter} (h : w ∈ (wanters s p k).map (·.1)) : w.1 = k := by
  obtain ⟨x, hx, rfl⟩ := List.mem_map.mp h
  unfold wanters at hx
  split at hx
  · cases hx
  · obtain ⟨y, -, rfl⟩ := List.mem_map.mp hx
    rfl

theorem wanters_nodup (s : State) (p : Fin 3) (k : Fin 64) : ((wanters s p k).map (·.1)).Nodup := by
  unfold wanters
  split
  · exact List.nodup_nil
  · generalize (s.sct.ledger[k.val]).wants = ws
    have places : (ws.zipIdx.map (·.2)).Nodup := by
      rw [List.zipIdx_map_snd]
      exact List.nodup_range'
    have kept : ((ws.zipIdx.filter fun w => w.1.phases.contains p).map (·.2)).Nodup :=
      places.sublist (List.filter_sublist.map _)
    rw [List.map_map]
    have split : ((fun x : Wanter × WantRep => x.1) ∘ fun w : WantRep × Nat => ((k, w.2), w.1)) =
        (fun i : Nat => (k, i)) ∘ fun w : WantRep × Nat => w.2 := rfl
    rw [split, ← List.map_map]
    exact kept.map fun a b e => (Prod.mk.inj e).2

/-- No wanter appears twice on a phase. -/
theorem wantsOn_nodup (s : State) (p : Fin 3) : ((wantsOn s p).map (·.1)).Nodup := by
  rw [wantsOn_eq, List.map_flatMap, List.nodup_flatMap]
  refine ⟨fun k _ => wanters_nodup s p k, (List.nodup_finRange 64).imp fun {a b} ne => ?_⟩
  intro w ha hb
  exact ne ((wanters_slot ha).symm.trans (wanters_slot hb))

/-- At the level that step 1 finds, the wants fit. -/
theorem levelFit_fits (ws : List Nat) (b : Nat) : ∀ l, levelFit ws b l ≠ 0 → (ws.map fun w => min w (levelFit ws b l)).sum ≤ b
  | 0, h => absurd rfl h
  | l + 1, h => by
    rw [levelFit] at h ⊢
    split
    case isTrue fits => exact fits
    case isFalse tight =>
      rw [if_neg tight] at h
      exact levelFit_fits ws b l h

theorem fitSixty_keys : ∀ (ws : List (Wanter × WantRep)) (b : Nat), (fitSixty ws b).map (·.1) = ws.map (·.1)
  | [], _ => rfl
  | (k, w) :: ws, b => by
    rw [fitSixty]
    split <;> simp [fitSixty_keys ws]

/-- What step 3 gives out fits the budget. -/
theorem fitSixty_fits : ∀ (ws : List (Wanter × WantRep)) (b : Nat), ((fitSixty ws b).map (·.2)).sum ≤ b
  | [], b => Nat.zero_le b
  | (k, w) :: ws, b => by
    rw [fitSixty]
    split
    case isTrue fits =>
      have rest := fitSixty_fits ws (b - min w.want 60)
      rw [List.map_cons, List.sum_cons]
      omega
    case isFalse =>
      rw [List.map_cons, List.sum_cons, Nat.zero_add]
      exact fitSixty_fits ws b

/-- A pair of a list without equal keys is found by its key. -/
theorem find?_key {α β : Type} [DecidableEq α] {l : List (α × β)} (distinct : (l.map (·.1)).Nodup) {x : α × β} (h : x ∈ l) :
    (l.find? fun y => decide (y.1 = x.1)) = some x := by
  induction l with
  | nil => cases h
  | cons z zs ih =>
    rw [List.map_cons, List.nodup_cons] at distinct
    rcases List.mem_cons.mp h with rfl | h
    · exact List.find?_cons_of_pos (by simp)
    · have other : z.1 ≠ x.1 := fun e => distinct.1 (List.mem_map.mpr ⟨x, h, e.symm⟩)
      rw [List.find?_cons_of_neg (by simpa using other)]
      exact ih distinct.2 h

/-- The shares of a phase never exceed its budget. -/
theorem shares_fit (s : State) (p : Fin 3) : ((wantsOn s p).map fun x => shareOf s p x.1 x.2).sum ≤ s.sct.tok.budget[p.val] := by
  by_cases high : 60 ≤ levelFit ((wantsOn s p).map fun w => w.2.want) s.sct.tok.budget[p.val] 800
  · have level : (wantsOn s p).map (fun x => shareOf s p x.1 x.2) =
        ((wantsOn s p).map fun w => w.2.want).map
          fun w => min w (levelFit ((wantsOn s p).map fun w => w.2.want) s.sct.tok.budget[p.val] 800) := by
      rw [List.map_map]
      exact List.map_congr_left fun x _ => if_pos high
    rw [level]
    exact levelFit_fits _ _ _ (by omega)
  · have order := sortNat_perm (fun w : Wanter × WantRep => w.2.entry) (wantsOn s p)
    generalize inOrder : sortNat (fun w : Wanter × WantRep => w.2.entry) (wantsOn s p) = ws at order
    let given := fitSixty ws s.sct.tok.budget[p.val]
    have keys : given.map (·.1) = ws.map (·.1) := fitSixty_keys _ _
    have distinct : (given.map (·.1)).Nodup := by
      rw [keys]
      exact (order.map _).nodup_iff.mpr (wantsOn_nodup s p)
    have shares : ((wantsOn s p).map fun x => shareOf s p x.1 x.2) =
        ((wantsOn s p).map (·.1)).map fun k => (given.find? fun x => decide (x.1 = k)).elim 0 (·.2) := by
      rw [List.map_map]
      refine List.map_congr_left fun x _ => (if_neg high).trans ?_
      rw [inOrder]
      rfl
    calc ((wantsOn s p).map fun x => shareOf s p x.1 x.2).sum
        = ((ws.map (·.1)).map fun k => (given.find? fun x => decide (x.1 = k)).elim 0 (·.2)).sum := by
          rw [shares]
          exact ((order.map _).map _).symm.sum_eq
      _ = (given.map (·.2)).sum := by
          rw [← keys, List.map_map]
          refine congrArg List.sum (List.map_congr_left fun x hx => ?_)
          rw [Function.comp_apply, find?_key distinct hx]
          rfl
      _ ≤ s.sct.tok.budget[p.val] := fitSixty_fits _ _

end Sys2Proof.Proofs
end

section
set_option Elab.async false -- one theorem after another, which keeps Lean within its memory
/-! The coordinator and its ledger (R296, R300 to R305): relays, answers, reports, the targets and the digest. -/

namespace Sys2Proof.Proofs

open Sys2Proof Sys2Proof.Machine Sys2Proof.Safety Sys2Proof.Laws

/-! ### Relays -/

@[simp] theorem noteRelay_bkb (mtype : Nat) (m : TokMsg) (s : State) : (noteRelay mtype m s).bkb = s.bkb := by
  unfold noteRelay
  dsimp only
  split <;> rfl

@[simp] theorem noteRelay_tok (mtype : Nat) (m : TokMsg) (s : State) : (noteRelay mtype m s).sct.tok = s.sct.tok := by
  unfold noteRelay
  dsimp only
  split <;> rfl

@[simp] theorem noteRelay_ledger (mtype : Nat) (m : TokMsg) (s : State) : (noteRelay mtype m s).sct.ledger = s.sct.ledger := by
  unfold noteRelay
  dsimp only
  split <;> rfl

@[simp] theorem noteRelay_verdicts (mtype : Nat) (m : TokMsg) (s : State) : (noteRelay mtype m s).sct.verdicts = s.sct.verdicts := by
  unfold noteRelay
  dsimp only
  split <;> rfl

@[simp] theorem noteRelay_retiring (mtype : Nat) (m : TokMsg) (s : State) : (noteRelay mtype m s).sct.retiring = s.sct.retiring := by
  unfold noteRelay
  dsimp only
  split <;> rfl

/-- The coordinator sends in the addressee's next poll. -/
theorem sendTok_coord {s : State} {k : Fin 64} {dst : W64} (coord : s.bkb.role = 2) (found : slotOf s dst = some k) (mtype : Nat)
    (m : TokMsg) : sendTok mtype dst m s = noteRelay mtype m { s with bkb := { s.bkb with down := s.bkb.down ++ [(k, m, mtype)] } } := by
  rw [sendTok, if_pos coord, found]

/-- Sending changes no count. -/
@[simp] theorem sendTok_tok (mtype : Nat) (dst : W64) (m : TokMsg) (s : State) : (sendTok mtype dst m s).sct.tok = s.sct.tok := by
  unfold sendTok
  split
  · split
    · rw [noteRelay_tok]
    · rfl
  · rfl

@[simp] theorem sendTok_ledger (mtype : Nat) (dst : W64) (m : TokMsg) (s : State) : (sendTok mtype dst m s).sct.ledger = s.sct.ledger := by
  unfold sendTok
  split
  · split
    · rw [noteRelay_ledger]
    · rfl
  · rfl

theorem isCoord_of {s : State} (ready : s.isReady 6 = true) (coord : s.bkb.role = 2) : isCoord s = true := by
  rw [isCoord, ready, coord]
  rfl

/-- The coordinator relays what is for another node. -/
theorem receiveTok_relays {s : State} {dst : W64} (ready : s.isReady 6 = true) (coord : s.bkb.role = 2) (other : dst ≠ s.fuse.serial)
    (mtype : Nat) (m : TokMsg) (act : State → State) : receiveTok mtype dst m act s = sendTok mtype dst m s := by
  by_cases joined : inDomain s = true
  · exact (if_pos joined).trans ((if_neg other).trans (if_pos coord))
  · exact (if_neg joined).trans (if_pos ⟨isCoord_of ready coord, other⟩)

/-- What a relay leaves: the message in the addressee's next poll, unchanged. -/
theorem relayed {s : State} {dst : W64} {k : Fin 64} (ready : s.isReady 6 = true) (coord : s.bkb.role = 2) (other : dst ≠ s.fuse.serial)
    (found : slotOf s dst = some k) (mtype : Nat) (m : TokMsg) (act : State → State) :
    (receiveTok mtype dst m act s).bkb = { s.bkb with down := s.bkb.down ++ [(k, m, mtype)] } ∧
      (receiveTok mtype dst m act s).sct.tok = s.sct.tok := by
  rw [receiveTok_relays ready coord other, sendTok_coord coord found, noteRelay_bkb, noteRelay_tok]
  exact ⟨rfl, rfl⟩

/-! ### Answers -/

theorem settleTaken_none {s : State} (none : s.sct.tok.taken = []) (sender : W64) (xid : Nat) (c : Bool) :
    settleTaken sender xid c s = s := by
  rw [settleTaken, none]
  rfl

/-- An answer that was not known is kept and sent to the transfer's sender. -/
theorem learnVerdict_sends {s : State} {m : TokMsg} {k : Fin 64} {c : Bool} (coord : s.bkb.role = 2) (other : m.sender ≠ s.fuse.serial)
    (found : slotOf s m.sender = some k) (taken : s.sct.tok.taken = []) (unknown : verdictOf s m.sender m.xid.toNat = none) :
    learnVerdict m c false s = noteRelay 9 { m with result := if c then 1 else 2 }
      { s with sct := { s.sct with verdicts := s.sct.verdicts ++ [⟨m.sender, m.xid.toNat, c, false⟩] }
               bkb := { s.bkb with down := s.bkb.down ++ [(k, { m with result := if c then 1 else 2 }, 9)] } } := by
  unfold learnVerdict
  dsimp only
  rw [unknown, if_neg (c := (none : Option Bool).isSome = true) Bool.false_ne_true]
  rw [settleTaken_none (by exact taken), if_neg (by exact other), sendTok_coord (by exact coord) (by exact found)]

/-- STATUS: the answer is sent on and kept. -/
theorem status_answers {s : State} {m : TokMsg} {k : Fin 64} (ready : s.isReady 6 = true) (coord : s.bkb.role = 2)
    (answer : m.result = 1 ∨ m.result = 2) (other : m.sender ≠ s.fuse.serial) (found : slotOf s m.sender = some k)
    (taken : s.sct.tok.taken = []) (retiring : s.sct.retiring = []) (unknown : verdictOf s m.sender m.xid.toNat = none) :
    ∃ t, exec (.status m) s = .next t ∧ t.bkb = { s.bkb with down := s.bkb.down ++ [(k, m, 9)] } ∧
      verdictOf t m.sender m.xid.toNat = some (decide (m.result = 1)) := by
  have same : ({ m with result := if decide (m.result = 1) then 1 else 2 } : TokMsg) = m := by
    rcases answer with one | two
    · rw [one]
      exact congrArg (fun r => ({ m with result := r } : TokMsg)) one.symm
    · rw [two]
      exact congrArg (fun r => ({ m with result := r } : TokMsg)) two.symm
  have learnt := learnVerdict_sends (c := decide (m.result = 1)) coord other found taken unknown
  rw [same] at learnt
  have run : exec (.status m) s = .next (retireAll (learnVerdict m (decide (m.result = 1)) false s)) :=
    congrArg Host.Outcome.next (if_pos ⟨isCoord_of ready coord, answer⟩)
  have still : retireAll (learnVerdict m (decide (m.result = 1)) false s) = learnVerdict m (decide (m.result = 1)) false s := by
    rw [retireAll, learnt, noteRelay_retiring, retiring]
    rfl
  refine ⟨_, run, ?_, ?_⟩
  · rw [still, learnt, noteRelay_bkb]
  · rw [verdictOf, Option.map_eq_none_iff] at unknown
    rw [still, learnt, verdictOf, noteRelay_verdicts, List.find?_append, unknown]
    simp

/-! ### Reports -/

/-- A budget of a later edition. -/
theorem adoptBudget_later {ed : W32} {b : List Nat} {s : State} (later : s.sct.tok.budgetEd < ed) :
    (adoptBudget ed b s).sct.tok.budgetEd = ed ∧ (adoptBudget ed b s).sct.tok.budget = toVec 3 0 b := by
  rw [adoptBudget, if_pos later]
  exact ⟨rfl, rfl⟩

/-- What an adopted budget leaves alone. -/
theorem adoptBudget_frame (ed : W32) (b : List Nat) (s : State) :
    (adoptBudget ed b s).sct.ledger = s.sct.ledger ∧ (adoptBudget ed b s).sct.digest = s.sct.digest ∧
      (adoptBudget ed b s).sct.ledgerDoubt = s.sct.ledgerDoubt ∧ (adoptBudget ed b s).sct.tok.recs = s.sct.tok.recs := by
  unfold adoptBudget
  dsimp only
  split
  · exact ⟨rfl, rfl, rfl, rfl⟩
  · split <;> exact ⟨rfl, rfl, rfl, rfl⟩

theorem modEntry_self (k : Fin 64) (f : LedgerEntry → LedgerEntry) (s : State) :
    (modEntry k f s).sct.ledger[k.val] = f s.sct.ledger[k.val] :=
  vmod_self _ _ _

theorem modEntry_other {k j : Fin 64} (ne : j ≠ k) (f : LedgerEntry → LedgerEntry) (s : State) :
    (modEntry j f s).sct.ledger[k.val] = s.sct.ledger[k.val] :=
  vmod_other _ _ _ _ ne

/-- The frame count of the coordinator is its own. -/
theorem dfn_coord {s : State} (coord : s.bkb.role = 2) : s.dfn = s.bkb.dfn := by
  rw [State.dfn, if_neg (by rw [coord]; decide)]

/-- A report of a member enters its slot. -/
theorem memberReport_enters {s : State} {k : Fin 64} {r : Report} (ready : s.isReady 6 = true) (coord : s.bkb.role = 2)
    (named : (s.sct.ledger[k.val]).serial = r.serial)
    (heard : (s.sct.ledger[k.val]).state = .present ∨ (s.sct.ledger[k.val]).state = .absent) :
    ∃ t, exec (.memberReport k r) s = .next t ∧
      (t.sct.ledger[k.val]).state = .present ∧ (t.sct.ledger[k.val]).held = toVec 3 0 r.held ∧
      (t.sct.ledger[k.val]).lastDfn = s.bkb.dfn ∧ (t.sct.ledger[k.val]).xfers = r.xfers.take 8 ∧
      (s.sct.tok.budgetEd < r.budgetEd → t.sct.tok.budgetEd = r.budgetEd ∧ t.sct.tok.budget = toVec 3 0 r.budget) := by
  have taken : ¬((s.sct.ledger[k.val]).state = .free ∨ (s.sct.ledger[k.val]).serial ≠ r.serial ∨
      (s.sct.ledger[k.val]).state = .retiring) := by
    rintro (free | other | retiring)
    · rcases heard with h | h <;> exact SlotState.noConfusion (h.symm.trans free)
    · exact other named
    · rcases heard with h | h <;> exact SlotState.noConfusion (h.symm.trans retiring)
  have run : exec (.memberReport k r) s = .next (adoptBudget r.budgetEd r.budget (forgetVerdicts r.serial r.xfers
      (modEntry k (fun e => e.take r s.dfn s.now) s))) :=
    congrArg Host.Outcome.next ((if_pos (isCoord_of ready coord)).trans (if_neg taken))
  obtain ⟨ledger, -⟩ := adoptBudget_frame r.budgetEd r.budget (forgetVerdicts r.serial r.xfers
    (modEntry k (fun e => e.take r s.dfn s.now) s))
  have entry : ∀ t : State, t.sct.ledger = (modEntry k (fun e => e.take r s.dfn s.now) s).sct.ledger →
      t.sct.ledger[k.val] = (s.sct.ledger[k.val]).take r s.dfn s.now :=
    fun t h => (congrArg (fun l : Vector LedgerEntry 64 => l[k.val]) h).trans (modEntry_self k _ s)
  refine ⟨_, run, ?_⟩
  rw [entry _ ledger]
  refine ⟨?_, rfl, dfn_coord coord, rfl, fun later => adoptBudget_later later⟩
  show (if (s.sct.ledger[k.val]).state = .absent then .present else (s.sct.ledger[k.val]).state) = SlotState.present
  rcases heard with h | h
  · rw [h]; rfl
  · rw [if_pos h]

/-- A member that has not been heard for 5 s is absent. -/
theorem memberAbsent_marks {s : State} {k : Fin 64} (ready : s.isReady 6 = true) (coord : s.bkb.role = 2)
    (heard : (s.sct.ledger[k.val]).state = .present) (other : k ≠ s.bkb.slot) (silent : (s.sct.ledger[k.val]).lastTick + 320000 ≤ s.now) :
    ∃ t, exec (.memberAbsent k) s = .next t ∧
      t.sct = { s.sct with ledger := s.sct.ledger.set k.val { s.sct.ledger[k.val] with state := .absent } } ∧
      EventsOnly { s with sct := t.sct } t :=
  ⟨_, congrArg Host.Outcome.next (if_pos ⟨isCoord_of ready coord, heard, other, silent⟩), rfl, rfl⟩

/-! ### Targets -/

theorem actMove_ledger (m : TokMsg) (s : State) : (actMove m s).sct.ledger = s.sct.ledger := by
  unfold actMove
  dsimp only
  split
  · rfl
  · rw [sendTok_ledger]
    rfl

theorem dropReleased_ledger (rel : List Release) (s : State) : (dropReleased rel s).sct.ledger = s.sct.ledger := by
  unfold dropReleased
  dsimp only
  split <;> rfl

/-- Every member's target is set, as the shares of one moment give it. -/
def giveTargets (u : State) : State :=
  forFin 64 (fun k t => modEntry k (fun e => { e with target := Vector.ofFn fun p => memberTarget u k p }) t) u

/-- The coordinator takes its own target too. -/
def takeTarget (t : State) : State := { t with sct := { t.sct with target := (t.sct.ledger[t.bkb.slot.val]).target.map some } }

/-- A directive goes out, or is acted on. -/
def direct (s : State) (d : Directive) : State :=
  let m : TokMsg := { phase := d.phase, count := d.count, sender := (s.sct.ledger[d.src.val]).serial,
                      receiver := (s.sct.ledger[d.dst.val]).serial, xid := 0, deadline := 0, result := 0 }
  if d.src = s.bkb.slot then actMove m s else sendTok 6 m.sender m s

theorem sharing_eq (s : State) : sharing s =
    dropReleased (releasesOf (takeTarget (giveTargets (refreshSelf s)))
        ((takeTarget (giveTargets (refreshSelf s))).sct.ledger[(takeTarget (giveTargets (refreshSelf s))).bkb.slot.val]).senders)
      ((directives (takeTarget (giveTargets (refreshSelf s)))).foldl direct (takeTarget (giveTargets (refreshSelf s)))) := rfl

theorem direct_ledger (s : State) (d : Directive) : (direct s d).sct.ledger = s.sct.ledger := by
  unfold direct
  dsimp only
  split
  · exact actMove_ledger _ s
  · exact sendTok_ledger _ _ _ s

theorem directs_ledger (ds : List Directive) (s : State) : (ds.foldl direct s).sct.ledger = s.sct.ledger := by
  induction ds generalizing s with
  | nil => rfl
  | cons d ds ih => exact (ih (direct s d)).trans (direct_ledger s d)

theorem takeTarget_ledger (t : State) : (takeTarget t).sct.ledger = t.sct.ledger := rfl

theorem sharing_ledger (s : State) : (sharing s).sct.ledger = (giveTargets (refreshSelf s)).sct.ledger := by
  rw [sharing_eq, dropReleased_ledger, directs_ledger, takeTarget_ledger]

theorem giveTargets_target (u : State) (k : Fin 64) :
    ((giveTargets u).sct.ledger[k.val]).target = Vector.ofFn fun p => memberTarget u k p := by
  refine forFin_one (s := u) (n := k) (P := fun _ => True)
    (Q := fun t => (t.sct.ledger[k.val]).target = Vector.ofFn fun p => memberTarget u k p)
    (fun _ _ _ _ => trivial) (fun t _ => ?_) (fun j t ne h => ?_) trivial
  · rw [modEntry_self]
  · rw [modEntry_other ne]
    exact h

/-- A sharing computation gives every member its target. -/
theorem sharing_targets (s : State) (k : Fin 64) (p : Fin 3) :
    ((sharing s).sct.ledger[k.val]).target[p.val] = memberTarget (refreshSelf s) k p := by
  calc ((sharing s).sct.ledger[k.val]).target[p.val]
      = ((giveTargets (refreshSelf s)).sct.ledger[k.val]).target[p.val] :=
        congrArg (fun l : Vector LedgerEntry 64 => (l[k.val]).target[p.val]) (sharing_ledger s)
    _ = (Vector.ofFn fun p => memberTarget (refreshSelf s) k p)[p.val] :=
        congrArg (fun v : Vector Nat 3 => v[p.val]) (giveTargets_target (refreshSelf s) k)
    _ = memberTarget (refreshSelf s) k p := by simp

/-! ### The digest -/

/-- Completions change no counts. -/
theorem budgetShown_sct (ed : W32) (s : State) :
    (budgetShown ed s).sct = { s.sct with budgetWait := (s.sct.budgetWait.partition fun w => decide (w.2.1 = ed)).2 } := by
  have done : ∀ (l : List (Nat × W32 × List Nat × Tick)) (u : State),
      (l.foldl (fun s w => completeSeq w.1 .ok 0 (leBytes 4 ed.toNat) none s) u).sct = u.sct := by
    intro l
    induction l with
    | nil => exact fun _ => rfl
    | cons w ws ih => exact fun u => (ih _).trans (HostAndJournalOnly.sct (completeSeq_frame w.1 .ok 0 _ none u))
  exact done _ _

theorem dropReleased_sct (rel : List Release) (s : State) :
    ∃ t : Tokens, (dropReleased rel s).sct.tok = t ∧ t.budget = s.sct.tok.budget ∧ t.budgetEd = s.sct.tok.budgetEd ∧
      (dropReleased rel s).sct.digest = s.sct.digest ∧ (dropReleased rel s).sct.ledgerDoubt = s.sct.ledgerDoubt := by
  refine ⟨_, rfl, ?_⟩
  unfold dropReleased
  dsimp only
  split <;> exact ⟨rfl, rfl, rfl, rfl⟩

/-- A record that a release entry covers stands only where it is still accepted. -/
theorem dropReleased_recs (rel : List Release) (s : State) : ∀ r ∈ (dropReleased rel s).sct.tok.recs, ∀ e ∈ rel,
    e.sender = r.sender → r.xid < e.closed.toNat → r.state = .accepted := by
  intro r hr e he sender covered
  have named : (rel.any fun e => decide (e.sender = r.sender ∧ r.xid < e.closed.toNat)) = true :=
    List.any_eq_true.mpr ⟨e, he, decide_eq_true ⟨sender, covered⟩⟩
  by_contra other
  unfold dropReleased at hr
  dsimp only at hr
  split at hr
  case isTrue =>
    have kept := (List.mem_filter.mp hr).2
    rw [named] at kept
    simp [other] at kept
  case isFalse none =>
    exact none (List.any_eq_true.mpr ⟨r, hr, by rw [named]; simp [other]⟩)

theorem takeBack_frame (held : Vector Nat 3) (s : State) :
    (takeBack held s).sct.digest = s.sct.digest ∧ (takeBack held s).sct.ledgerDoubt = false ∧
      (s.sct.ledgerDoubt = true → (takeBack held s).sct.tok.spare = held) ∧
      (takeBack held s).sct.tok.budget = s.sct.tok.budget ∧ (takeBack held s).sct.tok.budgetEd = s.sct.tok.budgetEd ∧
      (takeBack held s).sct.tok.recs = s.sct.tok.recs := by
  unfold takeBack
  split
  case isTrue => exact ⟨rfl, rfl, fun _ => rfl, rfl, rfl, rfl⟩
  case isFalse sure => exact ⟨rfl, (Bool.not_eq_true _).mp sure, fun h => absurd h sure, rfl, rfl, rfl⟩

/-- What a member takes from a digest. -/
theorem ledgerDigest_taken (d : Digest) (rel : List Release) (s : State) :
    (ledgerDigest d rel s).sct.digest = some d ∧ (ledgerDigest d rel s).sct.ledgerDoubt = false ∧
      (s.sct.ledgerDoubt = true → (ledgerDigest d rel s).sct.tok.spare = toVec 3 0 d.own) ∧
      (s.sct.tok.budgetEd < d.budgetEd → (ledgerDigest d rel s).sct.tok.budgetEd = d.budgetEd ∧
        (ledgerDigest d rel s).sct.tok.budget = toVec 3 0 d.budget) ∧
      ∀ r ∈ (ledgerDigest d rel s).sct.tok.recs, ∀ e ∈ rel, e.sender = r.sender → r.xid < e.closed.toNat → r.state = .accepted := by
  have shown := budgetShown_sct d.budgetEd (adoptBudget d.budgetEd d.budget { s with sct := { s.sct with digest := some d } })
  obtain ⟨-, digest, doubt, -⟩ := adoptBudget_frame d.budgetEd d.budget { s with sct := { s.sct with digest := some d } }
  have later := adoptBudget_later (ed := d.budgetEd) (b := d.budget) (s := { s with sct := { s.sct with digest := some d } })
  generalize adopted : adoptBudget d.budgetEd d.budget { s with sct := { s.sct with digest := some d } } = a at *
  generalize waiting : budgetShown d.budgetEd a = b at *
  obtain ⟨_, rfl, budget, edition, digest', doubt'⟩ := dropReleased_sct rel b
  have recs := dropReleased_recs rel b
  generalize dropped : dropReleased rel b = c at *
  obtain ⟨digest'', sure, spare, budget', edition', recs'⟩ := takeBack_frame (toVec 3 0 d.own) c
  have whole : ledgerDigest d rel s = takeBack (toVec 3 0 d.own) c := by
    rw [← dropped, ← waiting, ← adopted]
    rfl
  rw [whole]
  refine ⟨?_, sure, fun h => spare ?_, fun h => ⟨?_, ?_⟩, ?_⟩
  · rw [digest'', digest', shown]
    exact digest
  · rw [doubt', shown]
    exact doubt.trans h
  · rw [edition', edition, shown]
    exact (later h).1
  · rw [budget', budget, shown]
    exact (later h).2
  · rw [recs']
    exact recs

/-- Settles O37: relays and answers go to the addressee's next poll; the shares fit since a wanter appears once on a phase; the targets
and what a digest gives stand at the end of their acts. -/
theorem coordinatorLedger : Obligations.CoordinatorLedger := by
  unfold Obligations.CoordinatorLedger
  intro s ready
  refine ⟨fun coord m => ⟨fun k other found => ⟨_, rfl, relayed ready coord other found 1 m _⟩,
      fun k other found => ⟨_, rfl, relayed ready coord other found 2 m _⟩,
      fun k answer other found taken retiring unknown => status_answers ready coord answer other found taken retiring unknown⟩,
    fun coord k r e entry => ?_, shares_fit s, fun coord domain now => ?_, fun d rel member domain => ?_⟩
  · subst entry
    exact ⟨fun named heard => memberReport_enters ready coord named heard,
      fun heard other silent => memberAbsent_marks ready coord heard other silent⟩
  · refine ⟨_, congrArg Host.Outcome.next (if_pos ⟨isCoord_of ready coord, domain, ?_⟩), sharing_targets s⟩
    rw [dfn_coord coord]
    exact now
  · exact ⟨_, congrArg Host.Outcome.next (if_pos ⟨ready, domain, member⟩), ledgerDigest_taken d rel s⟩

end Sys2Proof.Proofs
end

section
set_option Elab.async false -- one theorem after another, which keeps Lean within its memory
/-! The registers of site current and the domain budget (R290 to R295, R306, R310). -/

namespace Sys2Proof.Proofs

open Sys2Proof Sys2Proof.Machine Sys2Proof.Safety Sys2Proof.Laws

/-! ### SCT_CFG and SCT_LOCALp -/

/-- Every outlet is idle or disabled. -/
def atRest (s : State) : Bool := (allFin 8).all fun n => decide ((outOf s n).state = .idle ∨ (outOf s n).state = .disabled)

/-- What a write of SCT_CFG that is taken sets at once. -/
def setSctCfg (v : Nat) (s : State) : State :=
  { s with sct := { s.sct with domainMode := bitAt v 0, capStopS := bitsOf v 8 8, xferExp := bitsOf v 16 8 } }

theorem writeSctCfg_eq (v : Nat) (s : State) : writeSctCfg v s =
    if bitsOf v 16 8 < 10 ∨ 250 < bitsOf v 16 8 ∨ (bitAt v 0 ≠ s.sct.domainMode ∧ !atRest s) then sctReject s
    else if decide (bitAt v 0 ≠ s.sct.domainMode) then changeMode (setSctCfg v s) else setSctCfg v s := rfl

theorem changeMode_tok (s : State) : (changeMode s).sct.domainMode = s.sct.domainMode ∧
    (changeMode s).sct.tok = if s.sct.domainMode then { domain := s.sct.tok.domain } else
      { domain := s.sct.tok.domain, spare := s.sct.localTok } := by
  have mode : (discardTokens s).sct.domainMode = s.sct.domainMode := rfl
  unfold changeMode
  dsimp only
  rw [mode]
  split <;> exact ⟨rfl, rfl⟩

/-- SPARE follows a local current that is raised. -/
theorem writeSctLocal_raises {s : State} {p : Fin 3} {v : Nat} (local_ : s.sct.domainMode = false)
    (raised : s.sct.localTok[p.val] ≤ bitsOf v 0 16) (free : s.sct.tok.owed[p.val] = 0) :
    (writeSctLocal p v s).sct.localTok[p.val] = bitsOf v 0 16 ∧
      (writeSctLocal p v s).sct.tok.spare[p.val] = s.sct.tok.spare[p.val] + (bitsOf v 0 16 - s.sct.localTok[p.val]) := by
  unfold writeSctLocal
  dsimp only
  rw [if_neg (by rw [local_]; decide), if_pos raised]
  refine ⟨Vector.getElem_set_self p.isLt, ?_⟩
  rw [putTok_tok]
  refine (vmod_self _ _ _).trans ?_
  show _ + (_ - _ - min _ s.sct.tok.owed[p.val]) = _
  rw [free, Nat.min_zero, Nat.sub_zero]

/-! ### COOLING_END -/

/-- Adding to SPARE for cooled tokens changes SPARE alone. -/
theorem addSpares_rest (l : List Cooling) (t : Tokens) :
    (l.foldl (fun t c => addSpare c.phase c.count t) t).assigned = t.assigned ∧
      (l.foldl (fun t c => addSpare c.phase c.count t) t).cooling = t.cooling := by
  induction l generalizing t with
  | nil => exact ⟨rfl, rfl⟩
  | cons c l ih => exact ih (addSpare c.phase c.count t)

/-- Cooled tokens of a phase. -/
def coolingSum (p : Fin 3) (l : List Cooling) : Nat := ((l.filter fun c => decide (c.phase = p)).map fun c => c.count).sum

theorem coolingSum_cons (p : Fin 3) (c : Cooling) (l : List Cooling) :
    coolingSum p (c :: l) = (if c.phase = p then c.count else 0) + coolingSum p l := by
  unfold coolingSum
  rw [List.filter_cons]
  by_cases h : c.phase = p
  · rw [if_pos (by simpa using h), if_pos h]
    rfl
  · rw [if_neg (by simpa using h), if_neg h, Nat.zero_add]

theorem addSpares_spare (l : List Cooling) (t : Tokens) (p : Fin 3) :
    (l.foldl (fun t c => addSpare c.phase c.count t) t).spare[p.val] = t.spare[p.val] + coolingSum p l := by
  induction l generalizing t with
  | nil => rfl
  | cons c l ih =>
    rw [List.foldl_cons, ih, coolingSum_cons]
    by_cases h : c.phase = p
    · subst h
      rw [if_pos rfl, ← Nat.add_assoc]
      exact congrArg (· + _) (vmod_self _ _ _)
    · rw [if_neg h, Nat.zero_add]
      exact congrArg (· + _) (vmod_other _ _ _ _ h)

/-- Tokens that cool are those that have cooled and those that still cool. -/
theorem coolingSum_split (p : Fin 3) (now : Tick) (l : List Cooling) :
    coolingSum p (l.filter fun c => decide (now < c.untilTick)) + coolingSum p (l.filter fun c => decide (c.untilTick ≤ now)) =
      coolingSum p l := by
  induction l with
  | nil => rfl
  | cons c l ih =>
    rw [List.filter_cons, List.filter_cons, coolingSum_cons p c l, ← ih]
    by_cases h : now < c.untilTick
    · rw [if_pos (by simpa using h), if_neg (by simpa using h), coolingSum_cons]
      omega
    · rw [if_neg (by simpa using h), if_pos (by simpa using Nat.not_lt.mp h), coolingSum_cons]
      omega

/-- Cooled tokens become spare, and HELD stays. -/
theorem coolingEnd_held {s : State} (ready : s.isReady 6 = true) (due : ∃ c ∈ s.sct.tok.cooling, c.untilTick ≤ s.now) :
    ∃ t, exec .coolingEnd s = .next t ∧ (∀ p : Fin 3, t.sct.tok.held p = s.sct.tok.held p) ∧
      ∀ c ∈ t.sct.tok.cooling, s.now < c.untilTick := by
  obtain ⟨c, hc, past⟩ := due
  have some_ : c ∈ s.sct.tok.cooling.filter fun c => decide (c.untilTick ≤ s.now) := List.mem_filter.mpr ⟨hc, decide_eq_true past⟩
  have run : (!(s.sct.tok.cooling.filter fun c => decide (c.untilTick ≤ s.now)).isEmpty) = true := by
    cases h : s.sct.tok.cooling.filter fun c => decide (c.untilTick ≤ s.now) with
    | nil => rw [h] at some_; cases some_
    | cons _ _ => rfl
  refine ⟨_, congrArg Host.Outcome.next (if_pos ⟨ready, run⟩), fun p => ?_, fun d hd => ?_⟩
  · rw [putTok_tok]
    obtain ⟨assigned, cooling⟩ := addSpares_rest (s.sct.tok.cooling.filter fun c => decide (c.untilTick ≤ s.now))
      { s.sct.tok with cooling := s.sct.tok.cooling.filter fun c => decide (s.now < c.untilTick) }
    have spare := addSpares_spare (s.sct.tok.cooling.filter fun c => decide (c.untilTick ≤ s.now))
      { s.sct.tok with cooling := s.sct.tok.cooling.filter fun c => decide (s.now < c.untilTick) } p
    have sum := coolingSum_split p s.now s.sct.tok.cooling
    unfold Tokens.held Tokens.assignedOn Tokens.coolingOn
    rw [assigned, cooling, spare]
    simp only [coolingSum] at sum ⊢
    omega
  · rw [putTok_tok, (addSpares_rest _ _).2] at hd
    exact of_decide_eq_true (List.mem_filter.mp hd).2

/-! ### The domain budget -/

/-- The coordinator of a domain holds enough spare tokens for all it owes. -/
def Covers (s : State) : Prop :=
  s.bkb.role = 2 ∧ s.sct.domainMode = true ∧ ∀ q : Fin 3, s.sct.tok.owed[q.val] ≤ s.sct.tok.spare[q.val]

/-- What is owed on a phase leaves SPARE and the budget. -/
def pay (p : Fin 3) (t : Tokens) : Tokens :=
  { t with spare := vmod t.spare p (· - t.owed[p.val]), owed := vmod t.owed p (· - t.owed[p.val]),
           budget := vmod t.budget p (· - t.owed[p.val]) }

theorem vmod_id {α : Type} {k : Nat} {v : Vector α k} {i : Fin k} {f : α → α} (same : f v[i.val] = v[i.val]) : vmod v i f = v := by
  rw [vmod, same, Vector.set_getElem_self]

theorem pay_nothing {p : Fin 3} {t : Tokens} (none : t.owed[p.val] = 0) : pay p t = t := by
  unfold pay
  rw [none, vmod_id rfl, vmod_id rfl, vmod_id rfl]

theorem owing_coord {s : State} {p : Fin 3} (coord : s.bkb.role = 2) : owing s p = s.sct.tok.owed[p.val] :=
  if_neg fun h => h.2 coord

theorem payOwed_covered {s : State} (covers : Covers s) (p : Fin 3) : payOwed p s = modTok (pay p) s := by
  obtain ⟨coord, domain, enough⟩ := covers
  have whole : min (owing s p) s.sct.tok.spare[p.val] = s.sct.tok.owed[p.val] := by
    rw [owing_coord coord]
    exact Nat.min_eq_left (enough p)
  unfold payOwed
  dsimp only
  rw [whole]
  split
  case isTrue none =>
    rw [modTok, pay_nothing none]
  case isFalse => exact if_pos domain

/-- Nothing is owed on a phase that has been paid. -/
theorem pay_owed (p : Fin 3) (t : Tokens) : (pay p t).owed[p.val] = 0 := by
  refine (vmod_self _ _ _).trans ?_
  exact Nat.sub_self _

theorem pay_other {p q : Fin 3} (ne : p ≠ q) (t : Tokens) : (pay p t).owed[q.val] = t.owed[q.val] ∧
    (pay p t).spare[q.val] = t.spare[q.val] ∧ (pay p t).budget[q.val] = t.budget[q.val] :=
  ⟨vmod_other _ _ _ _ ne, vmod_other _ _ _ _ ne, vmod_other _ _ _ _ ne⟩

theorem Covers.pay {s : State} (covers : Covers s) (p : Fin 3) : Covers (modTok (pay p) s) := by
  obtain ⟨coord, domain, enough⟩ := covers
  refine ⟨coord, domain, fun q => ?_⟩
  by_cases h : p = q
  · subst h
    exact Nat.le_trans (Nat.le_of_eq (pay_owed p s.sct.tok)) (Nat.zero_le _)
  · obtain ⟨owed, spare, -⟩ := pay_other h s.sct.tok
    calc (modTok (Proofs.pay p) s).sct.tok.owed[q.val] = s.sct.tok.owed[q.val] := owed
      _ ≤ s.sct.tok.spare[q.val] := enough q
      _ = _ := spare.symm

/-- One pass of the settlement. -/
def settlePass (p : Fin 3) (s : State) : State :=
  payOwed p (freeTokens p (owing (payOwed p s) p - (payOwed p s).sct.tok.coolingOn p) (payOwed p s))

/-- Where SPARE covers what is owed, a pass takes it from there and from no outlet. -/
theorem settlePass_covered {s : State} (covers : Covers s) (p : Fin 3) : settlePass p s = modTok (pay p) s := by
  have paid : owing (modTok (pay p) s) p = 0 := (owing_coord (s := modTok (pay p) s) covers.1).trans (pay_owed p s.sct.tok)
  unfold settlePass
  rw [payOwed_covered covers, paid, Nat.zero_sub, freeTokens, payOwed_covered (covers.pay p)]
  show modTok (pay p) (modTok (pay p) s) = modTok (pay p) s
  have twice : pay p (pay p s.sct.tok) = pay p s.sct.tok := pay_nothing (pay_owed p _)
  exact congrArg (fun t => { s with sct := { s.sct with tok := t } }) twice

/-- SCT_BUDGET goes out once nothing is owed. -/
def closeBudget (s : State) : State :=
  if s.sct.budgetOpen ∧ s.sct.tok.owed.toList.all (fun x => decide (x = 0)) then
    postBudget { s with sct := { s.sct with budgetOpen := false } }
  else s

theorem settleOwed_eq (s : State) : settleOwed s = closeBudget (forFin 3 settlePass s) := by
  have passes : (fun p s => payOwed p (freeTokens p (owing (payOwed p s) p - (payOwed p s).sct.tok.coolingOn p) (payOwed p s))) = settlePass := rfl
  unfold settleOwed closeBudget
  dsimp only
  rw [passes]

theorem closeBudget_tok (s : State) : (closeBudget s).sct.tok = s.sct.tok := by
  unfold closeBudget
  split <;> rfl

theorem settleOwed_tok (s : State) : (settleOwed s).sct.tok = (forFin 3 settlePass s).sct.tok := by
  rw [settleOwed_eq, closeBudget_tok]

/-- What the tokens hold on one phase, with what no settlement touches. -/
structure OnPhase (p : Fin 3) (a : Tokens) (spare owed budget : Nat) (t : Tokens) : Prop where
  assigned : t.assigned = a.assigned
  cooling : t.cooling = a.cooling
  edition : t.budgetEd = a.budgetEd
  spare : t.spare[p.val] = spare
  owed : t.owed[p.val] = owed
  budget : t.budget[p.val] = budget

theorem settleOwed_phase {s : State} {a : Tokens} {p : Fin 3} {x o b : Nat} (covers : Covers s) (h : OnPhase p a x o b s.sct.tok) :
    OnPhase p a (x - o) 0 (b - o) (settleOwed s).sct.tok := by
  rw [settleOwed_tok]
  refine (forFin_one (s := s) (n := p) (P := fun t => Covers t ∧ OnPhase p a x o b t.sct.tok)
    (Q := fun t => Covers t ∧ OnPhase p a (x - o) 0 (b - o) t.sct.tok) (fun q t ne ht => ?_) (fun t ht => ?_) (fun q t ne ht => ?_)
    ⟨covers, h⟩).2
  · obtain ⟨cov, assigned, cooling, edition, spare, owed, budget⟩ := ht
    obtain ⟨owed', spare', budget'⟩ := pay_other ne t.sct.tok
    rw [settlePass_covered cov]
    exact ⟨cov.pay q, assigned, cooling, edition, spare'.trans spare, owed'.trans owed, budget'.trans budget⟩
  · obtain ⟨cov, assigned, cooling, edition, spare, owed, budget⟩ := ht
    rw [settlePass_covered cov]
    refine ⟨cov.pay p, assigned, cooling, edition, ?_, pay_owed p _, ?_⟩
    · refine (vmod_self _ _ _).trans ?_
      rw [spare, owed]
    · refine (vmod_self _ _ _).trans ?_
      rw [budget, owed]
  · obtain ⟨cov, assigned, cooling, edition, spare, owed, budget⟩ := ht
    obtain ⟨owed', spare', budget'⟩ := pay_other ne t.sct.tok
    rw [settlePass_covered cov]
    exact ⟨cov.pay q, assigned, cooling, edition, spare'.trans spare, owed'.trans owed, budget'.trans budget⟩

/-- The new budget of a phase: tokens that it adds, or tokens that it takes away. -/
def fund (g : Vector Nat 3) (t : Tokens) (p : Fin 3) : Tokens :=
  if t.budget[p.val] < g[p.val] then
    { addSpare p (g[p.val] - t.budget[p.val]) t with budget := t.budget.set p.val g[p.val], owed := t.owed.set p.val 0 }
  else { t with owed := t.owed.set p.val (t.budget[p.val] - g[p.val]) }

theorem fund_rest (g : Vector Nat 3) (t : Tokens) (p : Fin 3) :
    (fund g t p).assigned = t.assigned ∧ (fund g t p).cooling = t.cooling ∧ (fund g t p).budgetEd = t.budgetEd := by
  unfold fund
  split <;> exact ⟨rfl, rfl, rfl⟩

theorem fund_other {g : Vector Nat 3} {p q : Fin 3} (ne : p ≠ q) (t : Tokens) : (fund g t p).owed[q.val] = t.owed[q.val] ∧
    (fund g t p).spare[q.val] = t.spare[q.val] ∧ (fund g t p).budget[q.val] = t.budget[q.val] := by
  have apart : p.val ≠ q.val := fun e => ne (Fin.ext e)
  unfold fund
  split
  · exact ⟨Vector.getElem_set_ne p.isLt q.isLt apart, vmod_other _ _ _ _ ne, Vector.getElem_set_ne p.isLt q.isLt apart⟩
  · exact ⟨Vector.getElem_set_ne p.isLt q.isLt apart, rfl, rfl⟩

/-- A phase once its new budget is in force: what is added is spare at once, what is taken away is owed. -/
theorem fund_self {g : Vector Nat 3} {p : Fin 3} {a t : Tokens} {x o b : Nat} (h : OnPhase p a x o b t) :
    OnPhase p a (x + (g[p.val] - b)) (b - g[p.val]) (max b g[p.val]) (fund g t p) := by
  obtain ⟨assigned, cooling, edition, spare, owed, budget⟩ := h
  obtain ⟨assigned', cooling', edition'⟩ := fund_rest g t p
  have values : (fund g t p).spare[p.val] = x + (g[p.val] - b) ∧ (fund g t p).owed[p.val] = b - g[p.val] ∧
      (fund g t p).budget[p.val] = max b g[p.val] := by
    unfold fund
    rw [budget]
    by_cases more : b < g[p.val]
    · rw [if_pos more]
      refine ⟨?_, (Vector.getElem_set_self p.isLt).trans (by omega), (Vector.getElem_set_self p.isLt).trans (by omega)⟩
      exact (vmod_self _ _ _).trans (by rw [spare])
    · rw [if_neg more]
      exact ⟨by rw [spare]; omega, Vector.getElem_set_self p.isLt, by rw [budget]; omega⟩
  exact ⟨assigned'.trans assigned, cooling'.trans cooling, edition'.trans edition, values.1, values.2.1, values.2.2⟩

/-- A phase keeps what it is while another one gets its budget. -/
theorem fund_keeps {g : Vector Nat 3} {p q : Fin 3} {a t : Tokens} {x o b : Nat} (ne : q ≠ p) (h : OnPhase p a x o b t) :
    OnPhase p a x o b (fund g t q) := by
  obtain ⟨assigned, cooling, edition, spare, owed, budget⟩ := h
  obtain ⟨assigned', cooling', edition'⟩ := fund_rest g t q
  obtain ⟨owed', spare', budget'⟩ := fund_other ne t
  exact ⟨assigned'.trans assigned, cooling'.trans cooling, edition'.trans edition, spare'.trans spare, owed'.trans owed,
    budget'.trans budget⟩

/-- Every phase gets its budget. -/
theorem funds_phase {g : Vector Nat 3} {p : Fin 3} {t : Tokens} :
    OnPhase p t (t.spare[p.val] + (g[p.val] - t.budget[p.val])) (t.budget[p.val] - g[p.val]) (max t.budget[p.val] g[p.val])
      ((allFin 3).foldl (fund g) t) := by
  have own : ∀ p : Fin 3, OnPhase p t t.spare[p.val] t.owed[p.val] t.budget[p.val] t := fun _ => ⟨rfl, rfl, rfl, rfl, rfl, rfl⟩
  show OnPhase p t _ _ _ (fund g (fund g (fund g t 0) 1) 2)
  match p with
  | 0 => exact fund_keeps (by decide) (fund_keeps (by decide) (fund_self (own 0)))
  | 1 => exact fund_keeps (by decide) (fund_self (fund_keeps (by decide) (own 1)))
  | 2 => exact fund_self (fund_keeps (by decide) (fund_keeps (by decide) (own 2)))

/-- The edition and the budgets of a request, before what is owed is settled. -/
def applyFunds (g : Vector Nat 3) (ed : W32) (s : State) : State :=
  { putTok (fun t => (allFin 3).foldl (fund g) { t with budgetEd := ed }) s with
    sct := { (putTok (fun t => (allFin 3).foldl (fund g) { t with budgetEd := ed }) s).sct with budgetOpen := true } }

theorem applyFunds_tok (g : Vector Nat 3) (ed : W32) (s : State) :
    (applyFunds g ed s).sct.tok = (allFin 3).foldl (fund g) { s.sct.tok with budgetEd := ed } := rfl

theorem applyFunds_role (g : Vector Nat 3) (ed : W32) (s : State) : (applyFunds g ed s).bkb.role = s.bkb.role := rfl

theorem applyFunds_mode (g : Vector Nat 3) (ed : W32) (s : State) : (applyFunds g ed s).sct.domainMode = s.sct.domainMode := rfl

theorem persistTokens_tok (s : State) : (persistTokens s).sct.tok = s.sct.tok := rfl

theorem applyBudget_later {g : List Nat} {ed : W32} {s : State} (later : s.sct.tok.budgetEd < ed) :
    applyBudget g ed s = persistTokens (settleOwed (applyFunds (toVec 3 0 g) ed s)) :=
  if_pos later

theorem toVec_get {α : Type} {n : Nat} (d : α) (l : List α) (i : Fin n) : (toVec n d l)[i.val] = l.getD i.val d := by
  simp [toVec]

/-- A budget that SPARE covers is in force at once, and HELD follows it. -/
theorem applyBudget_covered {g : List Nat} {ed : W32} {s : State} (coord : s.bkb.role = 2) (domain : s.sct.domainMode = true)
    (later : s.sct.tok.budgetEd < ed) (enough : ∀ p : Fin 3, s.sct.tok.budget[p.val] - g.getD p.val 0 ≤ s.sct.tok.spare[p.val])
    (p : Fin 3) : OnPhase p { s.sct.tok with budgetEd := ed }
      (s.sct.tok.spare[p.val] + (g.getD p.val 0 - s.sct.tok.budget[p.val]) - (s.sct.tok.budget[p.val] - g.getD p.val 0)) 0
      (g.getD p.val 0) (applyBudget g ed s).sct.tok := by
  have phases : ∀ q : Fin 3, OnPhase q { s.sct.tok with budgetEd := ed }
      (s.sct.tok.spare[q.val] + (g.getD q.val 0 - s.sct.tok.budget[q.val])) (s.sct.tok.budget[q.val] - g.getD q.val 0)
      (max s.sct.tok.budget[q.val] (g.getD q.val 0)) (applyFunds (toVec 3 0 g) ed s).sct.tok := fun q => by
    have h := funds_phase (g := toVec 3 0 g) (p := q) (t := { s.sct.tok with budgetEd := ed })
    rw [toVec_get] at h
    rw [applyFunds_tok]
    exact h
  have covers : Covers (applyFunds (toVec 3 0 g) ed s) := by
    refine ⟨(applyFunds_role _ ed s).trans coord, (applyFunds_mode _ ed s).trans domain, fun q => ?_⟩
    rw [(phases q).owed, (phases q).spare]
    exact Nat.le_trans (enough q) (Nat.le_add_right _ _)
  have settled := settleOwed_phase covers (phases p)
  rw [applyBudget_later later, persistTokens_tok]
  obtain ⟨assigned, cooling, edition, spare, owed, budget⟩ := settled
  exact ⟨assigned, cooling, edition, spare, owed, budget.trans (by omega)⟩

theorem budgetRequest_inForce {g : List Nat} {ed : W32} {s : State} (coord : isCoord s = true) (domain : s.sct.domainMode = true)
    (later : s.sct.tok.budgetEd < ed) (enough : ∀ p : Fin 3, s.sct.tok.budget[p.val] - g.getD p.val 0 ≤ s.sct.tok.spare[p.val]) :
    ∃ t, exec (.budgetRequest g ed) s = .next t ∧ t.sct.tok.budgetEd = ed ∧
      ∀ p : Fin 3, t.sct.tok.budget[p.val] = g.getD p.val 0 ∧
        t.sct.tok.held p + s.sct.tok.budget[p.val] = s.sct.tok.held p + g.getD p.val 0 := by
  have role : s.bkb.role = 2 := by
    rw [isCoord, Bool.and_eq_true] at coord
    exact of_decide_eq_true coord.2
  have phases := applyBudget_covered role domain later enough
  refine ⟨_, congrArg Host.Outcome.next (if_pos ⟨coord, domain⟩), (phases 0).edition, fun p => ⟨(phases p).budget, ?_⟩⟩
  have cover := enough p
  unfold Tokens.held Tokens.assignedOn Tokens.coolingOn
  rw [(phases p).assigned, (phases p).cooling, (phases p).spare]
  dsimp only
  omega

/-! ### The descriptors and the timers -/

/-- Settles O38: a write of SCT_CFG goes by its guard; COOLING_END moves tokens between parts of HELD; each phase of a budget is funded,
then settled from SPARE. -/
theorem siteRegistersAndBudget : Obligations.SiteRegistersAndBudget := by
  unfold Obligations.SiteRegistersAndBudget
  intro s
  refine ⟨fun v up range => ?_, fun v up lo hi same => ?_, fun v n up change idle disabled => ?_, fun v up lo hi change rest => ?_,
    fun p v up mode raised free => ?_, coolingEnd_held, fun n t0 since ready on late free => ?_, fun t0 ask refused late => ?_,
    fun g ed => budgetRequest_inForce, fun f front refused => ?_, fun f ed g front domain member edition target later => ?_,
    fun f ed g t0 wait late found => ?_⟩
  · refine (exec_up (act := writeSctCfg v.toNat) up rfl).trans (congrArg Host.Outcome.next (if_pos ?_))
    rcases range with lo | hi
    · exact .inl lo
    · exact .inr (.inl hi)
  · refine (exec_up (act := writeSctCfg v.toNat) up rfl).trans (congrArg Host.Outcome.next ?_)
    rw [writeSctCfg_eq, if_neg (by rintro (h | h | h) <;> [omega; omega; exact h.1 same]), if_neg (by simpa using same), setSctCfg, same]
  · refine (exec_up (act := writeSctCfg v.toNat) up rfl).trans (congrArg Host.Outcome.next ?_)
    have busy : atRest s = false := by
      rw [atRest, List.all_eq_false]
      exact ⟨n, List.mem_finRange n, by simp [idle, disabled]⟩
    rw [writeSctCfg_eq, if_pos (.inr (.inr ⟨change, by rw [busy]; rfl⟩))]
    rfl
  · have resting : atRest s = true := by
      rw [atRest, List.all_eq_true]
      exact fun n _ => decide_eq_true (rest n)
    have run : exec (.sctModeWrite v) s = .next (changeMode (setSctCfg v.toNat s)) := by
      refine (exec_up (act := writeSctCfg v.toNat) up rfl).trans (congrArg Host.Outcome.next ?_)
      rw [writeSctCfg_eq, if_neg (by rintro (h | h | h) <;> [omega; omega; exact absurd h.2 (by rw [resting]; decide)]),
        if_pos (by simpa using change)]
    exact ⟨_, run, changeMode_tok (setSctCfg v.toNat s)⟩
  · exact ⟨_, exec_up (act := writeSctLocal p v.toNat) up rfl, writeSctLocal_raises mode raised free⟩
  · have run : exec (.capacityStop n) s =
        .next (requestStop n .capacity { s with sct := { s.sct with capSince := s.sct.capSince.set n.val none } }) := by
      refine congrArg Host.Outcome.next ?_
      simp only [since]
      exact if_pos ⟨ready, on, late⟩
    refine ⟨_, run, ?_⟩
    rw [requestStop_none (by exact free), outOf_modOut_self]
    rfl
  · refine congrArg Host.Outcome.next ?_
    simp only [ask]
    exact if_pos ⟨refused, late⟩
  · refine (exec_front (act := sctBudgetSet) front rfl).trans (congrArg Host.Outcome.next (if_pos ?_))
    rcases refused with local_ | old
    · rw [local_]; exact .inl rfl
    · exact .inr old
  · subst edition target
    refine (exec_front (act := sctBudgetSet) front rfl).trans (congrArg Host.Outcome.next ((if_neg ?_).trans (if_neg ?_)))
    · rintro (h | h)
      · rw [domain] at h; exact absurd h (by decide)
      · exact absurd later (BitVec.not_lt.mpr h)
    · exact fun h => absurd (h.symm.trans member) (by decide)
  · refine congrArg Host.Outcome.next ?_
    have due : (s.sct.budgetWait.find? fun w => decide (w.2.2.2 + 640000 ≤ s.now)) = some (f.seq, ed, g, t0) := by
      rw [wait]
      simp [late]
    have left : (s.sct.budgetWait.filter fun x => x.1 != f.seq) = [] := by
      rw [wait]
      simp
    simp only [due, left]
    have here : flight? f.seq { s with sct := { s.sct with budgetWait := [] } } = some f := found
    rw [completeSeq, here]

end Sys2Proof.Proofs
end

section
set_option Elab.async false -- one theorem after another, which keeps Lean within its memory
/-! The reads of site current and retirement (R307, R310). -/

namespace Sys2Proof.Proofs

open Sys2Proof Sys2Proof.Machine Sys2Proof.Safety Sys2Proof.Laws

/-! ### Decisions that change no count -/

/-- The node has no open transfer, of its own or taken over. -/
def NoneOpen (t : Tokens) : Prop := t.xfers = [] ∧ t.taken = []

/-- An answer is kept where none is known. -/
def keepVerdict (m : TokMsg) (c kept : Bool) (s : State) : State :=
  if (verdictOf s m.sender m.xid.toNat).isSome then s
  else { s with sct := { s.sct with verdicts := s.sct.verdicts ++ [⟨m.sender, m.xid.toNat, c, kept⟩] } }

theorem keepVerdict_tok (m : TokMsg) (c kept : Bool) (s : State) : (keepVerdict m c kept s).sct.tok = s.sct.tok := by
  unfold keepVerdict
  split <;> rfl

theorem keepVerdict_ledger (m : TokMsg) (c kept : Bool) (s : State) : (keepVerdict m c kept s).sct.ledger = s.sct.ledger := by
  unfold keepVerdict
  split <;> rfl

/-- What is done with an answer. -/
def spreadVerdict (m : TokMsg) (c : Bool) (s : State) : State :=
  if m.sender = s.fuse.serial then actResolve m.xid.toNat (if c then 1 else 2) s
  else sendTok 9 m.sender { m with result := if c then 1 else 2 } s

theorem learnVerdict_eq (m : TokMsg) (c kept : Bool) (s : State) :
    learnVerdict m c kept s = spreadVerdict m c (settleTaken m.sender m.xid.toNat c (keepVerdict m c kept s)) := rfl

/-- With nothing open, an answer changes no count and no entry. -/
theorem learnVerdict_noneOpen {s : State} (none : NoneOpen s.sct.tok) (m : TokMsg) (c kept : Bool) :
    (learnVerdict m c kept s).sct.tok = s.sct.tok ∧ (learnVerdict m c kept s).sct.ledger = s.sct.ledger := by
  obtain ⟨xfers, taken⟩ := none
  rw [learnVerdict_eq, ← keepVerdict_tok m c kept s, ← keepVerdict_ledger m c kept s]
  rw [← keepVerdict_tok m c kept s] at xfers taken
  generalize keepVerdict m c kept s = u at *
  rw [settleTaken_none taken, spreadVerdict]
  split
  · have unknown : ownXfer u m.xid.toNat = none := by rw [ownXfer, xfers]; rfl
    rw [actResolve, unknown]
    exact ⟨rfl, rfl⟩
  · exact ⟨sendTok_tok _ _ _ _, sendTok_ledger _ _ _ _⟩

theorem decideFor_noneOpen {s : State} (none : NoneOpen s.sct.tok) (serial : W64) :
    (decideFor serial s).sct.tok = s.sct.tok ∧ (decideFor serial s).sct.ledger = s.sct.ledger := by
  refine List.foldlRecOn (motive := fun t : State => t.sct.tok = s.sct.tok ∧ t.sct.ledger = s.sct.ledger) _ _ ⟨rfl, rfl⟩ ?_
  rintro t ⟨tok, ledger⟩ m -
  obtain ⟨tok', ledger'⟩ := learnVerdict_noneOpen (s := t) (by rw [tok]; exact none) m (t.sct.ackRelayed.contains (m.sender, m.xid.toNat)) true
  exact ⟨tok'.trans tok, ledger'.trans ledger⟩

/-! ### A retirement that ends at once -/

/-- The member's last HELD comes to SPARE, and its slot is free. -/
def freeSlot (r : Retiring) (s : State) : State :=
  let t := putTok (fun t => (allFin 3).foldl (fun t p => addSpare p ((s.sct.ledger[r.slot.val]).held[p.val] + r.back[p.val]) t) t) s
  modEntry r.slot (fun _ => {}) { t with bkb := { t.bkb with down := t.bkb.down.filter fun d => decide (d.1 ≠ r.slot)
                                                             again := t.bkb.again.filter fun d => decide (d.1 ≠ r.slot) } }

/-- The retirement is over: its entry in the list goes, the event is posted and the descriptors complete. -/
def endRetirement (r : Retiring) (serial : W64) (keep : List Retiring) (s : State) : State :=
  r.flights.foldl (fun s q => completeSeq q.1 .ok 0 [BitVec.ofNat 8 r.slot.val] none s)
    (postMember 2 serial r.slot.val { s with sct := { s.sct with retiring := keep, retired := serial :: s.sct.retired } })

theorem retireStep_noneAsked {r : Retiring} (none : r.asking = []) (s : State) :
    retireStep r s = endRetirement r (s.sct.ledger[r.slot.val]).serial (s.sct.retiring.filter fun q => decide (q.slot ≠ r.slot))
      (decideFor (s.sct.ledger[r.slot.val]).serial (freeSlot r s)) := by
  obtain ⟨slot, flights, asking, back⟩ := r
  subst none
  rfl

theorem completeSeqs_sct (done : List (Nat × Tick)) (st : Status) (data : List Byte) (s : State) :
    (done.foldl (fun s q => completeSeq q.1 st 0 data none s) s).sct = s.sct := by
  induction done generalizing s with
  | nil => rfl
  | cons q qs ih => exact (ih _).trans (HostAndJournalOnly.sct (completeSeq_frame q.1 st 0 data none s))

theorem endRetirement_tok (r : Retiring) (serial : W64) (keep : List Retiring) (s : State) :
    (endRetirement r serial keep s).sct.tok = s.sct.tok ∧ (endRetirement r serial keep s).sct.ledger = s.sct.ledger := by
  unfold endRetirement
  rw [completeSeqs_sct]
  exact ⟨rfl, rfl⟩

theorem freeSlot_state (r : Retiring) (s : State) : ((freeSlot r s).sct.ledger[r.slot.val]).state = .free :=
  congrArg LedgerEntry.state (modEntry_self r.slot _ _)

theorem freeSlot_noneOpen {r : Retiring} {s : State} (none : NoneOpen s.sct.tok) : NoneOpen (freeSlot r s).sct.tok := none

theorem addSpare_three (g : Fin 3 → Nat) (t : Tokens) :
    ((allFin 3).foldl (fun t p => addSpare p (g p) t) t).spare = Vector.ofFn fun p => t.spare[p.val] + g p := by
  have passes : (allFin 3).foldl (fun t p => addSpare p (g p) t) t = addSpare 2 (g 2) (addSpare 1 (g 1) (addSpare 0 (g 0) t)) := rfl
  rw [passes]
  ext i hi
  rw [Vector.getElem_ofFn]
  match i, hi with
  | 0, _ => exact (vmod_other _ 2 0 _ (by decide)).trans ((vmod_other _ 1 0 _ (by decide)).trans (vmod_self _ 0 _))
  | 1, _ => exact (vmod_other _ 2 1 _ (by decide)).trans ((vmod_self _ 1 _).trans (congrArg (· + g 1) (vmod_other _ 0 1 _ (by decide))))
  | 2, _ => exact (vmod_self _ 2 _).trans (congrArg (· + g 2) ((vmod_other _ 1 2 _ (by decide)).trans (vmod_other _ 0 2 _ (by decide))))

theorem freeSlot_spare (r : Retiring) (s : State) : (freeSlot r s).sct.tok.spare =
    Vector.ofFn fun p => s.sct.tok.spare[p.val] + ((s.sct.ledger[r.slot.val]).held[p.val] + r.back[p.val]) :=
  addSpare_three _ _

/-- A retirement of a member without an open transfer ends at its first look. -/
theorem retireStep_ends {r : Retiring} {s : State} (none : r.asking = []) (noneOpen : NoneOpen s.sct.tok) :
    ((retireStep r s).sct.ledger[r.slot.val]).state = .free ∧ (retireStep r s).sct.tok.spare =
      Vector.ofFn fun p => s.sct.tok.spare[p.val] + ((s.sct.ledger[r.slot.val]).held[p.val] + r.back[p.val]) := by
  obtain ⟨tok, ledger⟩ := decideFor_noneOpen (freeSlot_noneOpen (r := r) noneOpen) (s.sct.ledger[r.slot.val]).serial
  obtain ⟨tok', ledger'⟩ := endRetirement_tok r (s.sct.ledger[r.slot.val]).serial
    (s.sct.retiring.filter fun q => decide (q.slot ≠ r.slot)) (decideFor (s.sct.ledger[r.slot.val]).serial (freeSlot r s))
  rw [retireStep_noneAsked none, tok', tok]
  refine ⟨?_, freeSlot_spare r s⟩
  exact (congrArg (fun l : Vector LedgerEntry 64 => (l[r.slot.val]).state) (ledger'.trans ledger)).trans (freeSlot_state r s)

/-! ### SCT_RETIRE -/

section
variable {s : State} {f : Flight} {k : Fin 64} (coord : isCoord s = true) (found : slotOf s (BitVec.ofNat 64 (f.p 16 8)) = some k)

include coord in
/-- SCT_RETIRE on the coordinator goes by the slot of the serial. -/
theorem sctRetire_unknown (none_ : slotOf s (BitVec.ofNat 64 (f.p 16 8)) = none) : sctRetire f s = completeSt f .invalid s := by
  unfold sctRetire
  dsimp only
  rw [if_neg (by rw [coord]; decide), none_]

include coord found in
theorem sctRetire_own (own : k = s.bkb.slot) : sctRetire f s = completeSt f .denied s := by
  unfold sctRetire
  dsimp only
  rw [if_neg (by rw [coord]; decide), found]
  exact if_pos (.inl own)

/-- The retirement that a first SCT_RETIRE begins. -/
def firstAsked (f : Flight) (k : Fin 64) (s : State) : Retiring :=
  { slot := k, flights := [(f.seq, s.now)], asking := (s.sct.ledger[k.val]).xfers }

include coord found in
theorem sctRetire_begins (other : k ≠ s.bkb.slot) (silent : (s.sct.ledger[k.val]).lastTick + 320000 ≤ s.now)
    (first : s.sct.retiring = []) : sctRetire f s =
      retireStep (firstAsked f k s) (modEntry k (fun e => { e with state := .retiring }) (keepRunning f s)) := by
  have old : (s.sct.retiring.find? fun r => decide (r.slot = k)) = none := by rw [first]; rfl
  unfold sctRetire
  dsimp only
  rw [if_neg (by rw [coord]; decide), found]
  refine (if_neg ?_).trans ?_
  · rintro (own | ⟨-, early⟩)
    · exact other own
    · exact absurd early (Nat.not_lt.mpr silent)
  · rw [old]
    rfl

include coord found in
/-- A member that has not been heard for 5 s and reports no transfer is retired at once. -/
theorem sctRetire_ends (front : Front 0x0604 f s) (other : k ≠ s.bkb.slot)
    (silent : (s.sct.ledger[k.val]).lastTick + 320000 ≤ s.now) (noXfer : (s.sct.ledger[k.val]).xfers = []) (first : s.sct.retiring = [])
    (noneOpen : NoneOpen s.sct.tok) : ∃ t, exec .sctRetire s = .next t ∧ (t.sct.ledger[k.val]).state = .free ∧
      t.sct.tok.spare = Vector.ofFn fun p => s.sct.tok.spare[p.val] + ((s.sct.ledger[k.val]).held)[p.val] := by
  obtain ⟨state, spare⟩ := retireStep_ends (r := firstAsked f k s)
    (s := modEntry k (fun e => { e with state := .retiring }) (keepRunning f s)) noXfer noneOpen
  have run := (exec_front (c := .sctRetire) (act := sctRetire) front rfl).trans
    (congrArg Host.Outcome.next (sctRetire_begins coord found other silent first))
  refine ⟨_, run, state, spare.trans ?_⟩
  have entry : (modEntry k (fun e => { e with state := .retiring }) (keepRunning f s)).sct.ledger[k.val] =
      { s.sct.ledger[k.val] with state := .retiring } := modEntry_self k _ _
  have held : ∀ p : Fin 3, ((modEntry k (fun e => { e with state := .retiring }) (keepRunning f s)).sct.ledger[k.val]).held[p.val] +
      (firstAsked f k s).back[p.val] = ((s.sct.ledger[k.val]).held)[p.val] := fun p => by
    have none : (firstAsked f k s).back[p.val] = 0 := Vector.getElem_replicate _
    rw [entry, none, Nat.add_zero]
  exact congrArg Vector.ofFn (funext fun p => congrArg (s.sct.tok.spare[p.val] + ·) (held p))

end

/-! ### The timeout of SCT_RETIRE -/

theorem sctRetireTimeout_one {s : State} {f : Flight} {r : Retiring} {t0 : Tick} (one : s.sct.retiring = [r])
    (asked : r.flights = [(f.seq, t0)]) (late : t0 + 640000 ≤ s.now) (found : flight? f.seq s = some f) :
    ∃ t, exec .sctRetireTimeout s = .next t ∧ t.sct = { s.sct with retiring := [{ r with flights := [] }] } ∧
      HostAndJournalOnly { s with sct := t.sct } t := by
  have due : (s.sct.retiring.find? fun q => q.flights.any fun x => decide (x.2 + 640000 ≤ s.now)) = some r := by
    rw [one]
    simp [asked, late]
  have frame := complete_frame f .timeout 0 [BitVec.ofNat 8 r.slot.val] none s
  have run : exec .sctRetireTimeout s = .next
      { complete f .timeout 0 [BitVec.ofNat 8 r.slot.val] none s with
        sct := { s.sct with retiring := [{ r with flights := [] }] } } := by
    refine congrArg Host.Outcome.next ?_
    simp only [due]
    have waits : (r.flights.filter fun x => decide (x.2 + 640000 ≤ s.now)) = [(f.seq, t0)] := by
      rw [asked]
      simp [late]
    have left : (r.flights.filter fun x => !decide (x.2 + 640000 ≤ s.now)) = [] := by
      rw [asked]
      simp [late]
    rw [waits, List.foldl_cons, List.foldl_nil, completeSeq, found]
    rw [HostAndJournalOnly.sct frame, one, List.map_singleton, if_pos rfl, left]
  refine ⟨_, run, rfl, ?_⟩
  unfold HostAndJournalOnly at frame ⊢
  rw [frame]

/-- Settles O39: the reads are their acts; a retirement that no transfer holds back frees the slot at its first look, and decisions
about other members' transfers change no count of a node with none open. -/
theorem siteReadsAndRetirement : Obligations.SiteReadsAndRetirement := by
  unfold Obligations.SiteReadsAndRetirement
  intro s f
  refine ⟨fun front => ?_, fun front member => ?_, fun front coord => ?_, fun front member => ?_,
    fun k front coord found => ⟨fun own => ?_, fun other absent silent noXfer first noXfers noTaken =>
      sctRetire_ends coord found front other silent noXfer first ⟨noXfers, noTaken⟩⟩,
    fun r t0 one asked late found => sctRetireTimeout_one one asked late found, fun front coord none_ => ?_⟩
  · exact (exec_front front rfl).trans rfl
  · exact (exec_front front rfl).trans (congrArg Host.Outcome.next (if_neg (by rw [member]; decide)))
  · exact ⟨_, _, (exec_front front rfl).trans (congrArg Host.Outcome.next (if_pos coord)), rfl, rfl, by
      unfold refreshSelf keepOwn
      dsimp only
      split <;> rfl⟩
  · exact (exec_front (act := sctRetire) front rfl).trans (congrArg Host.Outcome.next (if_pos (by rw [member]; rfl)))
  · exact (exec_front (act := sctRetire) front rfl).trans (congrArg Host.Outcome.next (sctRetire_own coord found own))
  · exact (exec_front (act := sctRetire) front rfl).trans (congrArg Host.Outcome.next (sctRetire_unknown coord none_))

end Sys2Proof.Proofs
end

section
set_option Elab.async false -- one theorem after another, which keeps Lean within its memory
/-! What a completion, an event of the mailboxes, a replacement cause and a change of readiness leave alone: every unit but the general
one, where the tick stands, the host interface, the journal and the key engine's queue. -/

namespace Sys2Proof.Proofs

open Sys2Proof Sys2Proof.Machine Sys2Proof.Safety Sys2Proof.Laws

/-- The units of the functions are as they were, and the tick stands. -/
def Aside (s t : State) : Prop :=
  SameTick s.gen t.gen ∧ t = { s with gen := t.gen, hif := t.hif, jnl := t.jnl, key := t.key, outbox := t.outbox }

section
variable {s t u : State}

theorem Aside.refl (s : State) : Aside s s := ⟨rfl, rfl⟩

theorem Aside.trans (h : Aside s t) (e : Aside t u) : Aside s u := by
  obtain ⟨gen, units⟩ := h
  obtain ⟨gen', units'⟩ := e
  refine ⟨gen.trans gen', ?_⟩
  rw [units', units]

/-- Everything but what may change is read off. -/
theorem Aside.unit {α : Type} (h : Aside s t) {f : State → α}
    (blind : ∀ (v : State) gen hif jnl key outbox, f { v with gen := gen, hif := hif, jnl := jnl, key := key, outbox := outbox } = f v) :
    f t = f s :=
  (congrArg f h.2).trans (blind s _ _ _ _ _)

theorem Aside.upl (h : Aside s t) : t.upl = s.upl := h.unit fun _ _ _ _ _ _ => rfl
theorem Aside.bkb (h : Aside s t) : t.bkb = s.bkb := h.unit fun _ _ _ _ _ _ => rfl
theorem Aside.sct (h : Aside s t) : t.sct = s.sct := h.unit fun _ _ _ _ _ _ => rfl
theorem Aside.rst (h : Aside s t) : t.rst = s.rst := h.unit fun _ _ _ _ _ _ => rfl
theorem Aside.upd (h : Aside s t) : t.upd = s.upd := h.unit fun _ _ _ _ _ _ => rfl
theorem Aside.fuse (h : Aside s t) : t.fuse = s.fuse := h.unit fun _ _ _ _ _ _ => rfl

theorem Aside.now (h : Aside s t) : t.now = s.now := by
  have gen := h.1
  unfold SameTick at gen
  rw [State.now, gen]
  rfl

theorem Aside.imageRuns (h : Aside s t) : t.imageRuns = s.imageRuns := by
  rw [State.imageRuns, State.imageRuns, h.rst, h.upd]

theorem Aside.uplOn (h : Aside s t) : uplOn t = uplOn s := by
  rw [Machine.uplOn, Machine.uplOn, h.rst, h.imageRuns, h.upl]

theorem HostAndJournalOnly.aside (h : HostAndJournalOnly s t) : Aside s t := by
  have gen := HostAndJournalOnly.gen h
  unfold HostAndJournalOnly at h
  refine ⟨by rw [gen]; rfl, ?_⟩
  rw [h]

end

theorem completeSeq_aside (seq : Nat) (st : Status) (d : Nat) (data : List Byte) (buf : Option (List Byte)) (s : State) :
    Aside s (completeSeq seq st d data buf s) :=
  HostAndJournalOnly.aside (completeSeq_frame seq st d data buf s)

theorem post_aside (code target : Nat) (data : List Byte) (s : State) : Aside s (post code target data s) :=
  HostAndJournalOnly.aside (HostOnly.journal (post_hostOnly code target data s))

theorem postMail_aside (code target : Nat) (data : List Byte) (s : State) : Aside s (postMail code target data s) := ⟨rfl, rfl⟩

theorem postPath_aside (cause : Nat) (b : Bool) (cond : Nat) (s : State) : Aside s (postPath cause b cond s) := postMail_aside _ _ _ s

/-- A change of readiness, of a cause or of what waits to be posted. -/
theorem Aside.gen {s : State} {g : Gen} (same : SameTick s.gen g) : Aside s { s with gen := g } := ⟨same, rfl⟩

theorem setReplace_aside (cause : Fin 9) (s : State) : Aside s (setReplace cause s) := by
  unfold setReplace
  split
  · exact .refl s
  · exact (Aside.gen (g := { s.gen with replace := s.gen.replace ||| BitVec.ofNat 9 (2 ^ cause.val) }) rfl).trans (post_aside _ _ _ _)

theorem readyEvent_aside (bit : Fin 19) (v : Bool) (s : State) : Aside s (readyEvent bit v s) := by
  unfold readyEvent
  split
  · exact post_aside _ _ _ _
  · exact .refl s

theorem setReady_aside (bit : Fin 19) (v : Bool) (s : State) : Aside s (setReady bit v s) := by
  unfold setReady
  split
  · exact .refl s
  · exact (Aside.gen (g := { s.gen with ready := _ }) rfl).trans (readyEvent_aside bit v _)

theorem foldl_aside {α : Type} {f : State → α → State} {l : List α} (hf : ∀ t a, Aside t (f t a)) (s : State) : Aside s (l.foldl f s) := by
  induction l generalizing s with
  | nil => exact .refl s
  | cons a l ih => exact (hf s a).trans (ih (f s a))

theorem loseReady_aside (bits : List (Fin 19)) (s : State) : Aside s (loseReady bits s) := by
  unfold loseReady abortClasses
  refine (foldl_aside (fun t b => setReady_aside b false t) s).trans (foldl_aside (fun t f => ?_) _)
  exact Aside.trans (t := dropLong f.seq t) ⟨rfl, rfl⟩ (HostAndJournalOnly.aside (completeSt_frame f .aborted _))

end Sys2Proof.Proofs
end

section
set_option Elab.async false -- one theorem after another, which keeps Lean within its memory
/-! The two paths of the uplink (R331 to R336): what a path's failure and its return do, the hinge and the drill. -/

namespace Sys2Proof.Proofs

open Sys2Proof Sys2Proof.Machine Sys2Proof.Safety Sys2Proof.Laws

variable {s : State} {b : Bool} {cond : Nat}

/-! ### A path and its state -/

@[simp] theorem pathOk_setPathOk (b ok : Bool) (s : State) : pathOk (setPathOk b ok s) b = ok := by
  cases b <;> rfl

theorem pathOk_upl {s t : State} (same : t.upl = s.upl) (b : Bool) : pathOk t b = pathOk s b := by
  rw [pathOk, pathOk, same]

theorem pathOk_startHinge (toB : Bool) (cond : Nat) (s : State) (x : Bool) : pathOk (startHinge toB cond s) x = pathOk s x := rfl

theorem endDrill_aside (d : Drill) (detail : Nat) (s : State) : Aside (modUpl (fun u => { u with drill := none }) s) (endDrill d detail s) :=
  completeSeq_aside _ _ _ _ _ _

/-- A drill whose path is dead: the path fails, and the hinge goes back (R335). -/
theorem drillDead_upl (d : Drill) (cond : Nat) (s : State) : (drillDead d cond s).upl =
    { (setPathOk s.upl.activeB false s).upl with drill := some { d with step := 2 }, hinge := some (s.now, !s.upl.activeB, 4),
                                                 bQueue := [], proveBy := none, trying := none } := by
  have aside := (setReplace_aside 6 (setPathOk s.upl.activeB false s)).trans (postPath_aside 3 s.upl.activeB cond _)
  have upl := aside.upl
  have now : _ = s.now := aside.now
  unfold drillDead startHinge modUpl
  dsimp only
  rw [← upl, ← now]
  rfl

theorem drillDead_replace (d : Drill) (cond : Nat) (s : State) : (drillDead d cond s).gen.replace.getLsbD 6 = true :=
  (setReplace_effect (cause := 6) (s := setPathOk s.upl.activeB false s)).2.2

/-- The other path is as it was. -/
theorem pathOk_setPathOk_down {x : Bool} (down : pathOk s x = false) : pathOk (setPathOk b false s) x = false := by
  cases x <;> cases b <;> [rfl; exact down; exact down; rfl]

theorem pathOk_drillDead {d : Drill} {x : Bool} (down : pathOk (setPathOk s.upl.activeB false s) x = false) :
    pathOk (drillDead d cond s) x = false := by
  rw [pathOk, drillDead_upl]
  exact down

/-- A path that is down when it fails stays so. -/
theorem pathOk_hingeAway {x : Bool} (down : pathOk s x = false) : pathOk (hingeAway b cond s) x = false := by
  unfold hingeAway
  split
  · split
    · rw [pathOk_startHinge, pathOk_upl (endDrill_aside _ _ s).upl]
      exact down
    · split
      · exact pathOk_drillDead (pathOk_setPathOk_down down)
      · exact down
  · exact down

/-- A path that fails is down. -/
theorem pathFail_down : pathOk (pathFail b cond s) b = false := by
  unfold pathFail
  dsimp only
  split
  · exact pathOk_setPathOk b false s
  · split
    · exact (pathOk_upl (postPath_aside 1 b cond _).upl b).trans (pathOk_setPathOk b false s)
    · split
      · exact pathOk_hingeAway ((pathOk_upl (postPath_aside 1 b cond _).upl b).trans (pathOk_setPathOk b false s))
      · exact pathOk_setPathOk b false s

/-- The uplink's own state apart, a failing path changes nothing of the functions. -/
theorem hingeAway_beside : Aside { s with upl := (hingeAway b cond s).upl } (hingeAway b cond s) := by
  have drilled (d : Drill) (c : Nat) (v : State) : Aside { v with upl := (drillDead d c v).upl } (drillDead d c v) := by
    obtain ⟨gen, units⟩ := (setReplace_aside 6 (setPathOk v.upl.activeB false v)).trans (postPath_aside 3 v.upl.activeB c _)
    refine ⟨gen, ?_⟩
    unfold drillDead startHinge modUpl
    dsimp only
    rw [units]
    rfl
  unfold hingeAway
  split
  · split
    · rename_i d _ _
      obtain ⟨gen, units⟩ := endDrill_aside d 0 s
      refine ⟨gen, ?_⟩
      unfold startHinge modUpl
      dsimp only
      rw [units]
      rfl
    · split
      · exact drilled _ _ s
      · exact .refl _
  · exact .refl _

/-- The active path of native mode fails, with no hinge on the way: the node hinges away. -/
theorem pathFail_active (on : uplOn s = true) (ok : pathOk s b = true) (native : s.upl.dual = false) (active : s.upl.activeB = b)
    (steady : s.upl.hinge = none) : pathFail b cond s = hingeAway b cond (postPath 1 b cond (setPathOk b false s)) := by
  have up : ¬((!uplOn s) = true ∨ (!pathOk s b) = true) := by
    rw [on, ok]
    decide
  have still : (setPathOk b false s).upl.dual = false ∧ (setPathOk b false s).upl.activeB = b ∧ (setPathOk b false s).upl.hinge = none := by
    cases b <;> exact ⟨native, active, steady⟩
  unfold pathFail
  dsimp only
  rw [if_neg up, if_neg (by rw [still.1]; decide), if_pos ⟨still.2.1, by rw [still.2.2]; rfl⟩]

/-- Without a drill the node hinges to the other path at once. -/
theorem hingeAway_plain (noDrill : s.upl.drill = none) : hingeAway b cond s = startHinge (!b) cond s := by
  rw [hingeAway, noDrill]

/-- A drill that waits for its answer on the path ends as one whose path is dead. -/
theorem hingeAway_drill {d : Drill} (drill : s.upl.drill = some d) (mode : d.mode ≠ 0) (waits : d.step = 1) :
    hingeAway b cond s = drillDead d cond s := by
  rw [hingeAway, drill]
  exact (if_neg mode).trans (if_pos waits)

theorem setPathOk_rest (b ok : Bool) (s : State) : (setPathOk b ok s).upl.drill = s.upl.drill ∧
    (setPathOk b ok s).upl.activeB = s.upl.activeB ∧ (setPathOk b ok s).now = s.now := by
  cases b <;> exact ⟨rfl, rfl, rfl⟩

/-- The hinge that the failure of the active path begins. -/
theorem pathFail_hinges (on : uplOn s = true) (ok : pathOk s b = true) (native : s.upl.dual = false) (active : s.upl.activeB = b)
    (steady : s.upl.hinge = none) :
    (s.upl.drill = none → (pathFail b cond s).upl.hinge = some (s.now, !b, cond)) ∧
    ∀ d, s.upl.drill = some d → d.mode ≠ 0 → d.step = 1 → (pathFail b cond s).upl.hinge = some (s.now, !b, 4) ∧
      (pathFail b cond s).upl.drill = some { d with step := 2 } ∧ (pathFail b cond s).gen.replace.getLsbD 6 = true := by
  obtain ⟨drill, path, now⟩ := setPathOk_rest b false s
  have posted := postPath_aside 1 b cond (setPathOk b false s)
  rw [pathFail_active on ok native active steady]
  refine ⟨fun noDrill => ?_, fun d drills mode waits => ?_⟩
  · rw [hingeAway_plain (by rw [posted.upl, drill, noDrill])]
    show some ((postPath 1 b cond (setPathOk b false s)).now, !b, cond) = _
    rw [posted.now, now]
  · rw [hingeAway_drill (by rw [posted.upl, drill, drills]) mode waits, drillDead_upl]
    refine ⟨?_, rfl, drillDead_replace d cond _⟩
    show some ((postPath 1 b cond (setPathOk b false s)).now, !(postPath 1 b cond (setPathOk b false s)).upl.activeB, 4) = _
    rw [posted.now, now, posted.upl, path, active]

theorem pathFail_bkb : (pathFail b cond s).bkb = s.bkb := by
  unfold pathFail
  dsimp only
  split
  · cases b <;> rfl
  · split
    · cases b <;> rfl
    · split
      · rw [hingeAway_beside.bkb]
        cases b <;> rfl
      · cases b <;> rfl

theorem pathBack_up : pathOk (pathBack b s) b = true := by
  unfold pathBack
  split
  next up => exact up
  next =>
    dsimp only
    split
    · exact (pathOk_upl (postPath_aside 2 b 0 _).upl b).trans (pathOk_setPathOk b true s)
    · exact pathOk_setPathOk b true s

theorem pathBack_bkb : (pathBack b s).bkb = s.bkb := by
  unfold pathBack
  split
  · rfl
  · dsimp only
    split <;> cases b <;> rfl

/-! ### The PHY and the gateway's silence -/

theorem phyLinkDown_fails (up : s.rst.codUp = true) : ∃ t, exec .phyLinkDown s = .next t ∧ t.upl.aOk = false ∧ t.bkb.speed = 3 ∧
    t.isReady 17 = false ∧
    (uplOn s = true → s.upl.aOk = true → s.upl.dual = false → s.upl.activeB = false → s.upl.hinge = none →
      (s.upl.drill = none → t.upl.hinge = some (s.now, true, 0)) ∧
      (∀ d, s.upl.drill = some d → d.mode ≠ 0 → d.step = 1 → t.upl.hinge = some (s.now, true, 4) ∧
        t.upl.drill = some { d with step := 2 } ∧ t.gen.replace.getLsbD 6 = true)) := by
  have lost := loseReady_aside [17] { s with bkb := { s.bkb with speed := 3 } }
  have unready : (loseReady [17] { s with bkb := { s.bkb with speed := 3 } }).isReady 17 = false := by
    rw [loseReady_isReady (by decide)]
    exact Bool.and_false _
  refine ⟨_, congrArg Host.Outcome.next (if_pos up), ?_⟩
  generalize loseReady [17] { s with bkb := { s.bkb with speed := 3 } } = u at lost unready
  refine ⟨pathFail_down (b := false), by rw [pathFail_bkb, lost.bkb], ?_, fun on ok native active steady => ?_⟩
  · exact (congrArg (fun r : BitVec 19 => r.getLsbD 17) (pathFail_sameReady (s0 := u) rfl)).trans unready
  · have now : u.now = s.now := lost.now
    have upl : u.upl = s.upl := lost.upl
    have hinges := pathFail_hinges (s := u) (b := false) (cond := 0) (lost.uplOn.trans on) (by rw [pathOk, upl]; exact ok)
      (by rw [upl, native]) (by rw [upl, active]) (by rw [upl, steady])
    rw [upl, now] at hinges
    exact hinges

theorem phyLinkUp_recovers {k : Fin 3} (up : s.rst.codUp = true) (runs : s.imageRuns = true) :
    ∃ t, exec (.phyLinkUp k) s = .next t ∧ t.upl.aOk = true ∧ t.bkb.speed = k.val ∧ t.isReady 17 = true := by
  have ready := setReady_aside 17 true { s with bkb := { s.bkb with speed := k.val } }
  have bit : (setReady 17 true { s with bkb := { s.bkb with speed := k.val } }).isReady 17 = true := by
    rw [setReady_isReady (by decide)]
    rfl
  refine ⟨_, congrArg Host.Outcome.next ((if_pos up).trans (if_pos runs)), ?_⟩
  generalize setReady 17 true { s with bkb := { s.bkb with speed := k.val } } = u at ready bit
  refine ⟨pathBack_up (b := false), by rw [pathBack_bkb, ready.bkb], ?_⟩
  exact (congrArg (fun r : BitVec 19 => r.getLsbD 17) (pathBack_sameReady (s0 := u) rfl)).trans bit

theorem gatewaySilent_hinges {p : NetPath} (on : uplOn s = true) (native : s.upl.dual = false)
    (active : s.upl.activeB = decide (p = .b)) (steady : s.upl.hinge = none) (proven : s.upl.proveBy = none) (trying : s.upl.trying = none)
    (noDrill : s.upl.drill = none) (silent : (if p = .b then s.upl.lastB else s.upl.lastA) + 19200 ≤ s.now)
    (ok : pathOk s (decide (p = .b)) = true) : ∃ t, exec (.gatewaySilent p) s = .next t ∧ pathOk t (decide (p = .b)) = false ∧
      t.upl.hinge = some (s.now, !decide (p = .b), 1) := by
  have last : (if decide (p = .b) = true then s.upl.lastB else s.upl.lastA) + 19200 ≤ s.now := by
    simpa only [decide_eq_true_eq] using silent
  have run : exec (.gatewaySilent p) s = .next (pathFail (decide (p = .b)) 1 s) := by
    refine congrArg Host.Outcome.next ((if_pos ⟨on, .inr ⟨active, ?_, ?_, ?_, ?_⟩, last⟩).trans (if_pos (.inr ok)))
    · rw [steady]; rfl
    · rw [proven]; rfl
    · rw [trying]; rfl
    · rw [noDrill]; rfl
  exact ⟨_, run, pathFail_down, (pathFail_hinges on ok native active steady).1 noDrill⟩

/-! ### Proof and drill -/

/-- The new path has brought no proof in 300 ms (R333). -/
def unproven (s : State) : State :=
  postPath 3 s.upl.activeB 1 (setReplace 6 (modUpl (fun u => { u with proveBy := none, trying := some s.now })
    (setPathOk s.upl.activeB false s)))

/-- A drill that only hinges ends with its proof or without it (R335). -/
def endHingeDrill (s : State) : State :=
  match s.upl.drill with
  | some d => if d.mode = 0 then endDrill d 0 s else s
  | none => s

theorem unproven_upl : (unproven s).upl = { (setPathOk s.upl.activeB false s).upl with proveBy := none, trying := some s.now } :=
  ((setReplace_aside 6 _).trans (postPath_aside 3 s.upl.activeB 1 _)).upl

theorem unproven_replace : (unproven s).gen.replace.getLsbD 6 = true :=
  (setReplace_effect (cause := 6) (s := modUpl (fun u => { u with proveBy := none, trying := some s.now })
    (setPathOk s.upl.activeB false s))).2.2

/-- The end of such a drill clears it, and nothing else of the uplink or of the causes. -/
theorem endHingeDrill_rest : ∃ drill, (endHingeDrill s).upl = { s.upl with drill := drill } ∧ (endHingeDrill s).gen = s.gen := by
  unfold endHingeDrill
  split
  next d _ =>
    split
    · have gen : (endDrill d 0 s).gen = (modUpl (fun u => { u with drill := none }) s).gen :=
        HostAndJournalOnly.gen (completeSeq_frame _ _ _ _ _ _)
      exact ⟨none, (endDrill_aside d 0 s).upl, gen⟩
    · exact ⟨s.upl.drill, rfl, rfl⟩
  next => exact ⟨s.upl.drill, rfl, rfl⟩

theorem hingeProofTimeout_tries {t0 : Tick} (proves : s.upl.proveBy = some t0) (on : uplOn s = true) (late : t0 ≤ s.now) :
    ∃ t, exec .hingeProofTimeout s = .next t ∧ t.upl.proveBy = none ∧ t.upl.trying = some s.now ∧
      pathOk t s.upl.activeB = false ∧ t.gen.replace.getLsbD 6 = true := by
  have run : exec .hingeProofTimeout s = .next (endHingeDrill (unproven s)) := by
    refine congrArg Host.Outcome.next ?_
    simp only [proves]
    exact if_pos ⟨on, late⟩
  obtain ⟨drill, upl, gen⟩ := endHingeDrill_rest (s := unproven s)
  refine ⟨_, run, ?_, ?_, ?_, ?_⟩
  · rw [upl, unproven_upl]
  · rw [upl, unproven_upl]
  · rw [pathOk, upl, unproven_upl]
    exact pathOk_setPathOk s.upl.activeB false s
  · rw [gen]
    exact unproven_replace

/-- Sending changes the marks of what is sent and the queue of path B, not the path. -/
theorem putEnvelope_path (b : Bool) (kind seq : Nat) (s : State) :
    (putEnvelope b kind seq s).upl.activeB = s.upl.activeB ∧ (putEnvelope b kind seq s).upl.trying = s.upl.trying := by
  unfold putEnvelope
  split
  · exact ⟨rfl, rfl⟩
  · split <;> exact ⟨rfl, rfl⟩

theorem sendData_path (seqs : List Nat) (s : State) :
    (sendData seqs s).upl.activeB = s.upl.activeB ∧ (sendData seqs s).upl.trying = s.upl.trying := by
  have one : ∀ (b : Bool) (l : List Nat) (v : State), (l.foldl (fun s q => putEnvelope b 0 q s) v).upl.activeB = v.upl.activeB ∧
      (l.foldl (fun s q => putEnvelope b 0 q s) v).upl.trying = v.upl.trying := by
    intro b l
    induction l with
    | nil => exact fun _ => ⟨rfl, rfl⟩
    | cons q qs ih =>
      intro v
      obtain ⟨active, trying⟩ := ih (putEnvelope b 0 q v)
      exact ⟨active.trans (putEnvelope_path b 0 q v).1, trying.trans (putEnvelope_path b 0 q v).2⟩
  have all : ∀ (ps : List Bool) (v : State),
      (ps.foldl (fun s b => seqs.foldl (fun s q => putEnvelope b 0 q s) s) v).upl.activeB = v.upl.activeB ∧
      (ps.foldl (fun s b => seqs.foldl (fun s q => putEnvelope b 0 q s) s) v).upl.trying = v.upl.trying := by
    intro ps
    induction ps with
    | nil => exact fun _ => ⟨rfl, rfl⟩
    | cons p ps ih =>
      intro v
      obtain ⟨active, trying⟩ := ih (seqs.foldl (fun s q => putEnvelope p 0 q s) v)
      exact ⟨active.trans (one p seqs v).1, trying.trans (one p seqs v).2⟩
  unfold sendData
  dsimp only
  split <;> exact all _ s

theorem pathTrySwitch_switches {t0 : Tick} (tries : s.upl.trying = some t0) (on : uplOn s = true) (late : t0 + 64000 ≤ s.now) :
    ∃ t, exec .pathTrySwitch s = .next t ∧ t.upl.activeB = !s.upl.activeB ∧ t.upl.trying = some s.now := by
  have run : exec .pathTrySwitch s = .next (sendData (s.upl.out.map fun e => e.seq)
      (modUpl (fun u => { u with activeB := !u.activeB, trying := some s.now, bQueue := [] }) s)) := by
    refine congrArg Host.Outcome.next ?_
    simp only [tries]
    exact if_pos ⟨on, late⟩
  exact ⟨_, run, sendData_path _ _⟩

theorem drillTimeout_hinges {d : Drill} (drill : s.upl.drill = some d) (on : uplOn s = true) (waits : d.step = 1)
    (late : d.start + 19200 ≤ s.now) : ∃ t, exec .drillTimeout s = .next t ∧
      t.upl.hinge = some (s.now, !s.upl.activeB, 4) ∧ t.upl.drill = some { d with step := 2 } ∧
      pathOk t s.upl.activeB = false ∧ t.gen.replace.getLsbD 6 = true := by
  have run : exec .drillTimeout s = .next (drillDead d 1 s) := by
    refine congrArg Host.Outcome.next ?_
    simp only [drill]
    exact if_pos ⟨on, waits, late⟩
  refine ⟨_, run, ?_, ?_, pathOk_drillDead (pathOk_setPathOk _ _ s), drillDead_replace d 1 s⟩
  · rw [drillDead_upl]
  · rw [drillDead_upl]

/-! ### BKB_UPL_CFG -/

theorem writeUplCfg_disabled {v : Nat} (off : s.upl.en = false) : (writeUplCfg v s).upl.en = bitAt v 0 ∧
    (writeUplCfg v s).upl.dual = bitAt v 1 ∧ (writeUplCfg v s).upl.preferB = bitAt v 2 ∧
    (bitAt v 0 = true → (writeUplCfg v s).upl.activeB = bitAt v 2) := by
  unfold writeUplCfg
  dsimp only
  rw [if_neg (by rw [off]; exact fun h => absurd h.1 (by decide))]
  by_cases on : bitAt v 0 = true
  · rw [if_pos ⟨on, by rw [off]; rfl⟩]
    exact ⟨rfl, rfl, rfl, fun _ => rfl⟩
  · rw [if_neg (fun h => on h.1), if_neg (by rw [off]; exact fun h => absurd h.1 (by decide))]
    exact ⟨rfl, rfl, rfl, fun h => absurd h on⟩

theorem writeUplCfg_off {v : Nat} (on : s.upl.en = true) (off : bitAt v 0 = false) (mode : bitAt v 1 = s.upl.dual)
    (noDrill : s.upl.drill = none) : (writeUplCfg v s).upl.en = false ∧ (writeUplCfg v s).upl.hinge = none ∧
    (writeUplCfg v s).upl.bQueue = [] := by
  unfold writeUplCfg
  dsimp only
  rw [if_neg (fun h => h.2 mode), if_neg (by rw [off]; exact fun h => absurd h.1 (by decide)), if_pos ⟨on, by rw [off]; rfl⟩, noDrill]
  exact ⟨off, rfl, rfl⟩

/-- Settles O44: the failure and the return of a path are one lemma each; every clause is one of them behind the guard of its command. -/
theorem uplinkPaths : Obligations.UplinkPaths := by
  unfold Obligations.UplinkPaths
  intro s f
  refine ⟨phyLinkDown_fails, fun k => phyLinkUp_recovers,
    fun p on native active steady proven trying noDrill silent ok =>
      gatewaySilent_hinges on native active steady proven trying noDrill silent ok,
    fun t0 => hingeProofTimeout_tries, fun t0 => pathTrySwitch_switches, fun front mode => ?_,
    fun front mode on native member noDrill => ⟨fun down => ?_, fun up => ?_⟩, fun d => drillTimeout_hinges, fun v up on change => ?_,
    fun v up off => ⟨_, exec_up (act := writeUplCfg v.toNat) up rfl, writeUplCfg_disabled off⟩,
    fun v up on off mode noDrill => ⟨_, exec_up (act := writeUplCfg v.toNat) up rfl, writeUplCfg_off on off mode noDrill⟩,
    fun front mode busy => ?_⟩
  · exact (exec_front (act := bkbUplSwitch) front rfl).trans (congrArg Host.Outcome.next (if_pos mode))
  · refine (exec_front (act := bkbUplSwitch) front rfl).trans (congrArg Host.Outcome.next ?_)
    refine (if_neg (Nat.not_lt.mpr mode)).trans ((if_neg ?_).trans (if_pos down))
    rw [on, native, noDrill]
    simp [member]
  · refine (exec_front (act := bkbUplSwitch) front rfl).trans (congrArg Host.Outcome.next ?_)
    refine (if_neg (Nat.not_lt.mpr mode)).trans ((if_neg ?_).trans ((if_neg (by rw [up]; decide)).trans rfl))
    rw [on, native, noDrill]
    simp [member]
  · exact (exec_up (act := writeUplCfg v.toNat) up rfl).trans (congrArg Host.Outcome.next (if_pos ⟨on, change⟩))
  · refine (exec_front (act := bkbUplSwitch) front rfl).trans (congrArg Host.Outcome.next ((if_neg (Nat.not_lt.mpr mode)).trans (if_pos ?_)))
    rcases busy with off | dual | coord | drill
    · exact .inl (by rw [off]; rfl)
    · exact .inr (.inl dual)
    · exact .inr (.inr (.inl coord))
    · exact .inr (.inr (.inr drill))

end Sys2Proof.Proofs
end

section
set_option Elab.async false -- one theorem after another, which keeps Lean within its memory
/-! What has left the part stays sent: events and completions only add to it. -/

namespace Sys2Proof.Proofs

open Sys2Proof Sys2Proof.Machine Sys2Proof.Safety Sys2Proof.Laws

/-- What had left the part is still among what has left it. -/
def OnlySends (s t : State) : Prop := s.outbox <:+ t.outbox

section
variable {s0 s : State}

theorem OnlySends.refl (s : State) : OnlySends s s := List.suffix_refl _

theorem OnlySends.mem {t : State} (h : OnlySends s t) {o : Out} (sent : o ∈ s.outbox) : o ∈ t.outbox := List.IsSuffix.subset h sent

theorem emit_onlySends {o : Out} (h : OnlySends s0 s) : OnlySends s0 (emit o s) := List.suffix_cons_iff.mpr (.inr h)

theorem sendMsix_onlySends {v : Fin 32} (h : OnlySends s0 s) : OnlySends s0 (sendMsix v s) := by
  unfold sendMsix
  dsimp only
  split
  · exact h
  · exact emit_onlySends h

theorem writeEvent_onlySends {e : Event} (h : OnlySends s0 s) : OnlySends s0 (writeEvent e s) := by
  unfold writeEvent
  dsimp only
  split
  · exact sendMsix_onlySends (emit_onlySends h)
  · exact emit_onlySends h

theorem routeEvent_onlySends {e : Event} (h : OnlySends s0 s) : OnlySends s0 (routeEvent e s) := by
  unfold routeEvent placeEvent stageEvent
  split
  · split
    · exact writeEvent_onlySends h
    · exact h
  · split <;> exact h

theorem setErr_onlySends {bit ring : Nat} (h : OnlySends s0 s) : OnlySends s0 (setErr bit ring s) := by
  unfold setErr
  dsimp only
  split
  · exact h
  · exact routeEvent_onlySends h

theorem eventFail_onlySends (h : OnlySends s0 s) : OnlySends s0 (eventFail s) := by
  unfold eventFail
  split
  · exact setErr_onlySends h
  · exact h

theorem raiseErr_onlySends {bit ring : Nat} (h : OnlySends s0 s) : OnlySends s0 (raiseErr bit ring s) :=
  eventFail_onlySends (setErr_onlySends h)

theorem putCompletion_onlySends {cq : Fin 16} {c : Completion} (h : OnlySends s0 s) : OnlySends s0 (putCompletion cq c s) := by
  unfold putCompletion
  dsimp only
  split
  · unfold writeCompletion
    dsimp only
    split
    · exact sendMsix_onlySends (emit_onlySends h)
    · exact emit_onlySends h
  · unfold completionFail
    dsimp only
    split
    · exact raiseErr_onlySends h
    · exact h

/-- A completion's data buffer, where it leaves. -/
theorem bufferSent_onlySends {live : Bool} {f : Flight} {buf : Option (List Byte)} (h : OnlySends s0 s) :
    OnlySends s0 (match buf with | some b => if live then emit (.buffer f.bufAddr b) s else s | none => s) := by
  split
  · split
    · exact emit_onlySends h
    · exact h
  · exact h

theorem complete_onlySends {f : Flight} {st : Status} {d : Nat} {data : List Byte} {buf : Option (List Byte)} (h : OnlySends s0 s) :
    OnlySends s0 (complete f st d data buf s) := by
  unfold complete
  extract_lets live sent bad s1 s2 s3 hif s4
  have h1 : OnlySends s0 s1 := bufferSent_onlySends h
  have h2 : OnlySends s0 s2 := by
    unfold s2
    split
    · exact raiseErr_onlySends h1
    · exact h1
  have h4 : OnlySends s0 s4 := h2
  split
  · exact putCompletion_onlySends h4
  · exact h4

end

end Sys2Proof.Proofs
end

section
set_option Elab.async false -- one theorem after another, which keeps Lean within its memory
/-! Envelopes of the uplink (R328 to R334, R337): sending, receiving, acknowledging and sending again. -/

namespace Sys2Proof.Proofs

open Sys2Proof Sys2Proof.Machine Sys2Proof.Safety Sys2Proof.Laws

variable {s : State} {f : Flight}

/-! ### Sending on path A -/

/-- A list of data envelopes on path A: each leaves at once, and the uplink's state stands. -/
theorem putEnvelopes_a (l : List Nat) (s : State) :
    l.foldl (fun s q => putEnvelope false 0 q s) s = { s with outbox := (l.map fun q => Out.envelope (ownEnvelope s false 0 q)
      (etherBytes s (envelopeBytes (ownEnvelope s false 0 q)))).reverse ++ s.outbox } := by
  induction l generalizing s with
  | nil => rfl
  | cons q qs ih =>
    rw [List.foldl_cons, ih, List.map_cons, List.reverse_cons, List.append_assoc]
    rfl

/-- What native mode on path A sends. -/
theorem sendData_a {seqs : List Nat} (native : s.upl.dual = false) (steady : s.upl.hinge = none) (pathA : s.upl.activeB = false) :
    sendData seqs s = markSent seqs (modUpl (fun u => { u with ackTick := s.now, ackOwed := none })
      { s with outbox := (seqs.map fun q => Out.envelope (ownEnvelope s false 0 q)
        (etherBytes s (envelopeBytes (ownEnvelope s false 0 q)))).reverse ++ s.outbox }) := by
  have paths : dataPaths s = [false] := by
    unfold dataPaths
    rw [if_neg (by rw [native]; decide), if_neg (by rw [steady]; decide), pathA]
  unfold sendData
  dsimp only
  rw [paths, List.foldl_cons, List.foldl_nil, putEnvelopes_a]
  exact (if_pos (by decide)).trans rfl

theorem mem_sent {seqs : List Nat} {q : Nat} (h : q ∈ seqs) (o : List Out) :
    Out.envelope (ownEnvelope s false 0 q) (etherBytes s (envelopeBytes (ownEnvelope s false 0 q))) ∈
      (seqs.map fun q => Out.envelope (ownEnvelope s false 0 q) (etherBytes s (envelopeBytes (ownEnvelope s false 0 q)))).reverse ++ o :=
  List.mem_append_left _ (List.mem_reverse.mpr (List.mem_map.mpr ⟨q, h, rfl⟩))

/-! ### Sending on path B -/

theorem waitsB_after (s : State) (q r : Nat) (h : waitsB s 0 r = true) : waitsB (putEnvelope true 0 q s) 0 r = true := by
  unfold putEnvelope
  rw [if_neg (by decide)]
  split
  · exact h
  · unfold waitsB at h ⊢
    exact (List.any_append ..).trans (by rw [h]; rfl)

/-- What is put on path B waits there, by the 32 bits of its SEQ. -/
theorem waitsB_put {q : Nat} (small : q < 2 ^ 32) (s : State) : waitsB (putEnvelope true 0 q s) 0 q = true := by
  unfold putEnvelope
  rw [if_neg (by decide)]
  split
  next waits => exact waits
  next =>
    have seq : (BitVec.ofNat 32 q).toNat = q := by
      rw [BitVec.toNat_ofNat, Nat.mod_eq_of_lt small]
    unfold waitsB
    refine (List.any_append ..).trans ?_
    rw [List.any_cons]
    simp [ownEnvelope, seq]

theorem putEnvelope_b_rest (q : Nat) (s : State) :
    (putEnvelope true 0 q s).outbox = s.outbox ∧ (putEnvelope true 0 q s).upl.out = s.upl.out := by
  unfold putEnvelope
  rw [if_neg (by decide)]
  split <;> exact ⟨rfl, rfl⟩

/-- A list of data envelopes on path B: each waits there, and nothing leaves. -/
theorem putEnvelopes_b (l : List Nat) (s : State) :
    (l.foldl (fun s q => putEnvelope true 0 q s) s).outbox = s.outbox ∧
      (l.foldl (fun s q => putEnvelope true 0 q s) s).upl.out = s.upl.out ∧
      (∀ r, waitsB s 0 r = true → waitsB (l.foldl (fun s q => putEnvelope true 0 q s) s) 0 r = true) ∧
      ∀ q ∈ l, q < 2 ^ 32 → waitsB (l.foldl (fun s q => putEnvelope true 0 q s) s) 0 q = true := by
  induction l generalizing s with
  | nil => exact ⟨rfl, rfl, fun _ h => h, fun q h => absurd h List.not_mem_nil⟩
  | cons q qs ih =>
    obtain ⟨outbox, out, kept, put⟩ := ih (putEnvelope true 0 q s)
    obtain ⟨outbox', out'⟩ := putEnvelope_b_rest q s
    refine ⟨outbox.trans outbox', out.trans out', fun r h => kept r (waitsB_after s q r h), fun r hr small => ?_⟩
    rcases List.mem_cons.mp hr with rfl | hr
    · exact kept r (waitsB_put small s)
    · exact put r hr small

theorem sendData_b {seqs : List Nat} (native : s.upl.dual = false) (steady : s.upl.hinge = none) (pathB : s.upl.activeB = true) :
    sendData seqs s = seqs.foldl (fun s q => putEnvelope true 0 q s) s := by
  have paths : dataPaths s = [true] := by
    unfold dataPaths
    rw [if_neg (by rw [native]; decide), if_neg (by rw [steady]; decide), pathB]
  unfold sendData
  dsimp only
  rw [paths, List.foldl_cons, List.foldl_nil]
  exact if_neg (by decide)

/-! ### BKB_UPL_SEND and BKB_UPL_RECV -/

theorem markSent_out (seqs : List Nat) (s : State) : (markSent seqs s).upl.out =
    s.upl.out.map fun e => if seqs.contains e.seq then { e with sentTick := some s.now } else e := rfl

/-- A new envelope joins the queue. -/
def queueOut (f : Flight) (s : State) : State :=
  modUpl (fun u => { u with nextSeq := s.upl.nextSeq + 1, out := u.out ++ [{ seq := s.upl.nextSeq, payload := f.inBuf }] }) s

theorem bkbUplSend_takes (on : s.upl.en = true) (room : s.upl.out.length < 64) : bkbUplSend f s =
    complete f .ok 0 (leBytes 4 s.upl.nextSeq ++ leBytes 2 s.upl.epoch.toNat) none
      (if uplOn (queueOut f s) then sendData [s.upl.nextSeq] (queueOut f s) else queueOut f s) :=
  (if_neg (by rw [on]; decide)).trans (if_neg (Nat.not_le.mpr room))

/-- The new envelope is found by its SEQ. -/
theorem queueOut_found (fresh : ∀ e ∈ s.upl.out, e.seq ≠ s.upl.nextSeq) :
    (queueOut f s).upl.out.find? (fun e => e.seq == s.upl.nextSeq) = some { seq := s.upl.nextSeq, payload := f.inBuf } := by
  show (s.upl.out ++ _).find? _ = _
  rw [List.find?_append, List.find?_eq_none.mpr (fun e he => by simpa using fresh e he)]
  simp

theorem bkbUplSend_sends {e : Envelope} (front : Front 0x0701 f s) (on : uplOn s = true) (room : s.upl.out.length < 64)
    (native : s.upl.dual = false) (pathA : s.upl.activeB = false) (steady : s.upl.hinge = none)
    (fresh : ∀ e ∈ s.upl.out, e.seq ≠ s.upl.nextSeq)
    (is : e = ({ kind := 0, serial := s.fuse.serial, epoch := s.upl.epoch, seq := BitVec.ofNat 32 s.upl.nextSeq,
                 ack := BitVec.ofNat 32 s.upl.inAck, path := 0, dual := false, payload := f.inBuf } : Envelope)) :
    ∃ t, exec .bkbUplSend s = .next t ∧ t.upl.nextSeq = s.upl.nextSeq + 1 ∧
      t.upl.out = s.upl.out ++ [{ seq := s.upl.nextSeq, payload := f.inBuf, sentTick := some s.now }] ∧
      .envelope e (etherBytes s (envelopeBytes e)) ∈ t.outbox := by
  have en : s.upl.en = true := by
    rw [uplOn, Bool.and_eq_true] at on
    exact on.2
  have own : ownEnvelope (queueOut f s) false 0 s.upl.nextSeq = e := by
    have dual : (queueOut f s).upl.dual = false := native
    rw [ownEnvelope, queueOut_found fresh, dual, is]
    rfl
  have run := (exec_front (c := .bkbUplSend) (act := bkbUplSend) front rfl).trans
    (congrArg Host.Outcome.next ((bkbUplSend_takes en room).trans (congrArg _ (if_pos on))))
  have sent := sendData_a (seqs := [s.upl.nextSeq]) (s := queueOut f s) native steady pathA
  have inBox := mem_sent (s := queueOut f s) (List.mem_singleton_self s.upl.nextSeq) (queueOut f s).outbox
  rw [own] at inBox
  refine ⟨_, run, ?_, ?_, (complete_onlySends (.refl _)).mem ?_⟩
  · rw [HostAndJournalOnly.upl (complete_frame _ _ _ _ _ _), sent]
    rfl
  · rw [HostAndJournalOnly.upl (complete_frame _ _ _ _ _ _), sent, markSent_out]
    show (s.upl.out ++ _).map _ = _
    have rest : s.upl.out.map (fun e => if [s.upl.nextSeq].contains e.seq then { e with sentTick := some s.now } else e) = s.upl.out := by
      refine (List.map_congr_left fun e he => ?_).trans (List.map_id _)
      exact if_neg (by simpa using fresh e he)
    refine (List.map_append ..).trans ?_
    exact congrArg₂ (· ++ ·) rest (congrArg (fun x => [x]) ((if_pos (by simp)).trans rfl))
  · rw [sent]
    exact inBox

theorem serveRecv_empty (none_ : s.upl.inbound = []) : serveRecv s = s := by
  unfold serveRecv
  rw [none_]
  split
  next h => cases h
  next => rfl

theorem serveRecv_nobody (none_ : s.upl.waits = []) : serveRecv s = s := by
  unfold serveRecv
  rw [none_]

theorem serveRecv_serves {q : Nat} {t0 : Tick} {ws : List (Nat × Tick)} {e : InEnv} {es : List InEnv} (waits : s.upl.waits = (q, t0) :: ws)
    (inbound : s.upl.inbound = e :: es) : ∃ data, serveRecv s =
      completeSeq q .ok 0 data (some e.payload) (modUpl (fun u => { u with waits := ws, inbound := es }) s) := by
  refine ⟨leBytes 2 e.payload.length ++ leBytes 4 e.seq ++ [BitVec.ofNat 8 e.path], ?_⟩
  unfold serveRecv
  rw [waits, inbound]

/-- A receiver joins those that wait. -/
def joinRecv (f : Flight) (s : State) : State :=
  keepRunning f (modUpl (fun u => { u with waits := u.waits ++ [(f.seq, s.now + 64 * f.p 16 2)] }) s)

theorem bkbUplRecv_waits (lo : 10 ≤ f.p 16 2) (hi : f.p 16 2 ≤ 60000) (run : s.hif.run = true) :
    bkbUplRecv f s = serveRecv (joinRecv f s) :=
  (if_neg (by omega)).trans (if_neg (by rw [run]; decide))

theorem bkbUplRecv_serves {e : InEnv} {es : List InEnv} (lo : 10 ≤ f.p 16 2) (hi : f.p 16 2 ≤ 60000) (run : s.hif.run = true)
    (inbound : s.upl.inbound = e :: es) (alone : s.upl.waits = []) :
    (bkbUplRecv f s).upl = { s.upl with inbound := es } ∧ HostAndJournalOnly { s with upl := { s.upl with inbound := es } } (bkbUplRecv f s) := by
  have waits : (joinRecv f s).upl.waits = [(f.seq, s.now + 64 * f.p 16 2)] := by
    show s.upl.waits ++ _ = _
    rw [alone]
    rfl
  obtain ⟨data, served⟩ := serveRecv_serves waits inbound
  have frame := completeSeq_frame f.seq .ok 0 data (some e.payload) (modUpl (fun u => { u with waits := [], inbound := es }) (joinRecv f s))
  have upl : (modUpl (fun u => { u with waits := [], inbound := es }) (joinRecv f s)).upl = { s.upl with inbound := es } := by
    show ({ s.upl with waits := [], inbound := es } : Upl) = _
    rw [← alone]
  rw [bkbUplRecv_waits lo hi run, served]
  refine ⟨(HostAndJournalOnly.upl frame).trans upl, HostAndJournalOnly.trans (b := modUpl (fun u => { u with waits := [], inbound := es }) (joinRecv f s)) ?_ frame⟩
  unfold HostAndJournalOnly
  rw [← upl]
  rfl

/-! ### Envelopes from the gateway -/

/-- What an envelope of the gateway brings besides its payload: its EPOCH, its ACK and the sign of life. -/
def noteEnvelope (b : Bool) (e : Envelope) (s : State) : State :=
  let now := s.now
  let fresh := decide (s.upl.inEpoch ≠ some e.epoch)
  modUpl (fun u =>
    let u := if fresh then { u with inEpoch := some e.epoch, inAck := 0, inAhead := [] } else u
    let u := { u with heardB := b, out := if e.epoch = u.epoch then u.out.filter fun x => decide (e.ack.toNat < x.seq) else u.out }
    if b then { u with lastB := now } else { u with lastA := now }) s

theorem takeEnvelope_eq (b : Bool) (e : Envelope) (s : State) : takeEnvelope b e s =
    if e.kind = 0 then takeData b e (provePath b (pathBack b (noteEnvelope b e s))) else provePath b (pathBack b (noteEnvelope b e s)) := rfl

theorem noteEnvelope_heard (b : Bool) (e : Envelope) (s : State) :
    (noteEnvelope b e s).upl.inEpoch = some e.epoch ∧ (noteEnvelope b e s).upl.heardB = b ∧
      (b = false → (noteEnvelope b e s).upl.lastA = s.now) ∧ (b = true → (noteEnvelope b e s).upl.lastB = s.now) := by
  unfold noteEnvelope modUpl
  dsimp only
  by_cases fresh : s.upl.inEpoch = some e.epoch
  · rw [if_neg (c := decide (s.upl.inEpoch ≠ some e.epoch) = true) (by simpa using fresh)]
    cases b <;> [exact ⟨fresh, rfl, fun _ => rfl, nofun⟩; exact ⟨fresh, rfl, nofun, fun _ => rfl⟩]
  · rw [if_pos (c := decide (s.upl.inEpoch ≠ some e.epoch) = true) (by simpa using fresh)]
    cases b <;> [exact ⟨rfl, rfl, fun _ => rfl, nofun⟩; exact ⟨rfl, rfl, nofun, fun _ => rfl⟩]

/-- An EPOCH that is known leaves what has been received. -/
theorem noteEnvelope_known {b : Bool} {e : Envelope} (known : s.upl.inEpoch = some e.epoch) :
    (noteEnvelope b e s).upl.inAck = s.upl.inAck ∧ (noteEnvelope b e s).upl.inAhead = s.upl.inAhead := by
  unfold noteEnvelope modUpl
  dsimp only
  rw [if_neg (c := decide (s.upl.inEpoch ≠ some e.epoch) = true) (by simpa using known)]
  cases b <;> exact ⟨rfl, rfl⟩

theorem noteEnvelope_queue (b : Bool) (e : Envelope) (s : State) :
    (noteEnvelope b e s).upl.inbound = s.upl.inbound ∧ (noteEnvelope b e s).upl.waits = s.upl.waits := by
  unfold noteEnvelope modUpl
  dsimp only
  split <;> split <;> exact ⟨rfl, rfl⟩

/-- The uplink differs in the states of its paths, in its hinge and in its drill only. -/
def PathsOnly (u v : Upl) : Prop :=
  v = { u with aOk := v.aOk, bOk := v.bOk, proveBy := v.proveBy, trying := v.trying, drill := v.drill, hinge := v.hinge, bQueue := v.bQueue }

theorem pathBack_pathsOnly (b : Bool) (s : State) : PathsOnly s.upl (pathBack b s).upl := by
  unfold pathBack
  split
  · rfl
  · dsimp only
    split <;> cases b <;> rfl

theorem provePath_pathsOnly (b : Bool) (s : State) : PathsOnly s.upl (provePath b s).upl := by
  unfold provePath
  split
  · rfl
  · extract_lets proven
    split
    · split
      · rw [(endDrill_aside _ _ _).upl]
        rfl
      · split
        · dsimp only
          split
          · rw [(endDrill_aside _ _ _).upl]
            rfl
          · rfl
        · rfl
    · rfl

/-- A path that is up is not taken down by its proof. -/
theorem pathOk_provePath (b x : Bool) (s : State) : pathOk (provePath b s) x = pathOk s x := by
  unfold provePath
  split
  · rfl
  · extract_lets proven
    split
    · split
      · exact pathOk_upl (endDrill_aside _ _ _).upl x
      · split
        · dsimp only
          split
          · exact pathOk_upl (endDrill_aside _ _ _).upl x
          · rfl
        · rfl
    · rfl

/-- The uplink differs in what has been received and in its receivers only. -/
def ReceivedOnly (u v : Upl) : Prop :=
  v = { u with inAck := v.inAck, inAhead := v.inAhead, ackOwed := v.ackOwed, inbound := v.inbound, waits := v.waits }

theorem serveRecv_receivedOnly (s : State) : ReceivedOnly s.upl (serveRecv s).upl := by
  unfold serveRecv
  split
  · dsimp only
    rw [(completeSeq_aside _ _ _ _ _ _).upl]
    rfl
  · rfl

theorem takeData_receivedOnly (b : Bool) (e : Envelope) (s : State) : ReceivedOnly s.upl (takeData b e s).upl := by
  unfold takeData
  dsimp only
  split
  · rfl
  · split
    · rfl
    · have h := serveRecv_receivedOnly
      unfold ReceivedOnly at h ⊢
      rw [h]
      rfl

theorem takeEnvelope_heard (b : Bool) (e : Envelope) (s : State) :
    (takeEnvelope b e s).upl.inEpoch = some e.epoch ∧ (takeEnvelope b e s).upl.heardB = b ∧ pathOk (takeEnvelope b e s) b = true ∧
      (b = false → (takeEnvelope b e s).upl.lastA = s.now) ∧ (b = true → (takeEnvelope b e s).upl.lastB = s.now) := by
  obtain ⟨epoch, heard, lastA, lastB⟩ := noteEnvelope_heard b e s
  have back := pathBack_pathsOnly b (noteEnvelope b e s)
  have proven := provePath_pathsOnly b (pathBack b (noteEnvelope b e s))
  have ok : pathOk (provePath b (pathBack b (noteEnvelope b e s))) b = true := (pathOk_provePath b b _).trans pathBack_up
  have whole : ∀ v : Upl, ReceivedOnly (provePath b (pathBack b (noteEnvelope b e s))).upl v →
      v.inEpoch = some e.epoch ∧ v.heardB = b ∧ (if b then v.bOk else v.aOk) = true ∧ (b = false → v.lastA = s.now) ∧
        (b = true → v.lastB = s.now) := by
    intro v h
    have same {α : Type} (field : Upl → α) (received : ∀ (u : Upl) a l o i w, field { u with inAck := a, inAhead := l, ackOwed := o, inbound := i, waits := w } = field u)
        (paths : ∀ (u : Upl) a b p t d h q, field { u with aOk := a, bOk := b, proveBy := p, trying := t, drill := d, hinge := h, bQueue := q } = field u) :
        field v = field (noteEnvelope b e s).upl :=
      ((congrArg field h).trans (received ..)).trans (((congrArg field proven).trans (paths ..)).trans ((congrArg field back).trans (paths ..)))
    refine ⟨(same Upl.inEpoch (fun _ _ _ _ _ _ => rfl) fun _ _ _ _ _ _ _ _ => rfl).trans epoch,
      (same Upl.heardB (fun _ _ _ _ _ _ => rfl) fun _ _ _ _ _ _ _ _ => rfl).trans heard, ?_,
      fun a => (same Upl.lastA (fun _ _ _ _ _ _ => rfl) fun _ _ _ _ _ _ _ _ => rfl).trans (lastA a),
      fun a => (same Upl.lastB (fun _ _ _ _ _ _ => rfl) fun _ _ _ _ _ _ _ _ => rfl).trans (lastB a)⟩
    refine Eq.trans ?_ ok
    rw [pathOk]
    cases b <;> [exact (congrArg Upl.aOk h :); exact (congrArg Upl.bOk h :)]
  rw [takeEnvelope_eq]
  split
  · exact whole _ (takeData_receivedOnly b e _)
  · exact whole _ rfl

theorem advanceAck_le (n a : Nat) (l : List Nat) : a ≤ (advanceAck n a l).1 := by
  induction n generalizing a l with
  | zero => exact Nat.le_refl a
  | succ n ih =>
    rw [advanceAck]
    split
    · exact Nat.le_trans (Nat.le_succ a) (ih _ _)
    · exact Nat.le_refl a

/-- Data not seen before is queued, with its acknowledgement owed. -/
theorem takeData_new {b : Bool} {e : Envelope} (new : s.upl.inAck < e.seq.toNat) (apart : s.upl.inAhead.contains e.seq.toNat = false)
    (room : s.upl.inbound.length < 64) (nobody : s.upl.waits = []) :
    (takeData b e s).upl.inbound = s.upl.inbound ++ [{ seq := e.seq.toNat, payload := e.payload, path := b2n b }] ∧
      (takeData b e s).upl.ackOwed.isSome = true ∧ (e.seq.toNat = s.upl.inAck + 1 → e.seq.toNat ≤ (takeData b e s).upl.inAck) := by
  have unseen : ¬(e.seq.toNat ≤ s.upl.inAck ∨ s.upl.inAhead.contains e.seq.toNat = true) := by
    rw [apart]
    rintro (old | ahead)
    · exact absurd new (Nat.not_lt.mpr old)
    · exact absurd ahead (by decide)
  unfold takeData
  dsimp only
  rw [if_neg unseen, if_neg (Nat.not_le.mpr room), serveRecv_nobody (by exact nobody)]
  refine ⟨rfl, rfl, fun next => ?_⟩
  show e.seq.toNat ≤ (advanceAck (s.upl.inAhead.length + 1) s.upl.inAck (e.seq.toNat :: s.upl.inAhead)).1
  rw [advanceAck, next, if_pos (by simp)]
  exact advanceAck_le _ _ _

/-- Data seen before is acknowledged again and changes no queue. -/
theorem takeData_old {b : Bool} {e : Envelope} (old : e.seq.toNat ≤ s.upl.inAck) :
    (takeData b e s).upl.inbound = s.upl.inbound ∧ (takeData b e s).upl.inAck = s.upl.inAck ∧
      (takeData b e s).upl.ackOwed.isSome = true := by
  unfold takeData
  dsimp only
  rw [if_pos (.inl old)]
  exact ⟨rfl, rfl, rfl⟩

/-- What stands of the queue when the payload of a known EPOCH is looked at. -/
theorem proven_queue {b : Bool} {e : Envelope} (known : s.upl.inEpoch = some e.epoch) :
    (provePath b (pathBack b (noteEnvelope b e s))).upl.inAck = s.upl.inAck ∧
      (provePath b (pathBack b (noteEnvelope b e s))).upl.inAhead = s.upl.inAhead ∧
      (provePath b (pathBack b (noteEnvelope b e s))).upl.inbound = s.upl.inbound ∧
      (provePath b (pathBack b (noteEnvelope b e s))).upl.waits = s.upl.waits := by
  obtain ⟨ack, ahead⟩ := noteEnvelope_known (b := b) known
  obtain ⟨inbound, waits⟩ := noteEnvelope_queue b e s
  have back := pathBack_pathsOnly b (noteEnvelope b e s)
  have proven := provePath_pathsOnly b (pathBack b (noteEnvelope b e s))
  unfold PathsOnly at back proven
  rw [proven, back]
  exact ⟨ack, ahead, inbound, waits⟩

/-! ### Envelopes sent again, and acknowledgements -/

theorem mem_dueAgain {e : OutEnv} {t0 : Tick} (h : e ∈ s.upl.out) (sent : e.sentTick = some t0) (late : t0 + 3200 ≤ s.now) :
    e.seq ∈ dueAgain s := by
  refine List.mem_map.mpr ⟨e, List.mem_filter.mpr ⟨h, ?_⟩, rfl⟩
  rw [sent]
  exact decide_eq_true late

theorem envelopeRetransmit_runs (on : uplOn s = true) (due : dueAgain s ≠ []) :
    exec .envelopeRetransmit s = .next (sendData (dueAgain s) s) := by
  refine congrArg Host.Outcome.next (if_pos ⟨on, ?_⟩)
  cases h : dueAgain s with
  | nil => exact absurd h due
  | cons _ _ => rfl

theorem retransmit_a (on : uplOn s = true) (native : s.upl.dual = false) (steady : s.upl.hinge = none) (due : dueAgain s ≠ [])
    (pathA : s.upl.activeB = false) : ∃ t, exec .envelopeRetransmit s = .next t ∧
      (∀ q ∈ dueAgain s, .envelope (ownEnvelope s false 0 q) (etherBytes s (envelopeBytes (ownEnvelope s false 0 q))) ∈ t.outbox ∧
        ∀ e ∈ t.upl.out, e.seq = q → e.sentTick = some s.now) ∧ t.upl.ackTick = s.now ∧ t.upl.ackOwed = none := by
  refine ⟨_, envelopeRetransmit_runs on due, ?_⟩
  rw [sendData_a native steady pathA]
  refine ⟨fun q hq => ⟨mem_sent hq s.outbox, fun e he named => ?_⟩, rfl, rfl⟩
  rw [markSent_out] at he
  obtain ⟨e0, -, rfl⟩ := List.mem_map.mp he
  by_cases listed : (dueAgain s).contains e0.seq = true
  · rw [if_pos listed]
    rfl
  · rw [if_neg listed] at named
    exact absurd (by rw [named]; simpa using hq) listed

/-- The acknowledgement of this moment. -/
theorem ackEnvelope_runs (on : uplOn s = true) (steady : s.upl.hinge = none) (owed : s.upl.ackOwed.isSome = true) :
    exec .ackEnvelopeSend s = .next (putEnvelope (if s.upl.dual then s.upl.heardB else s.upl.activeB) 1 0
      (modUpl (fun u => { u with ackOwed := none, ackTick := s.now }) s)) :=
  congrArg Host.Outcome.next (if_pos ⟨on, steady, .inl owed⟩)

/-- Settles O43: what goes out on path A and what waits for path B are one lemma each; the envelope's way in is cut into what it notes,
what it proves and what it brings. -/
theorem uplinkEnvelopes : Obligations.UplinkEnvelopes := by
  unfold Obligations.UplinkEnvelopes
  intro s f
  refine ⟨fun front off => ?_, fun front on full => ?_, fun e front on room native pathA steady fresh is =>
      bkbUplSend_sends front on room native pathA steady fresh is, fun front range => ?_, fun front lo hi stopped => ?_,
    fun front lo hi run empty => ?_, fun e es front lo hi run inbound alone => ?_, fun t0 waits late found => ?_,
    fun p e own on fits => ?_, fun p e own on fits data known nobody noDrill steady => ⟨fun new apart room => ?_, fun old => ?_⟩,
    fun e he t0 => mem_dueAgain he, fun on native steady due => ⟨retransmit_a on native steady due, fun pathB => ?_⟩,
    fun e k other up runs coord found fits => ⟨?_, fun link => ?_⟩, fun e on steady owed path is => ?_, fun on steady owed path => ?_⟩
  · exact (exec_front (act := bkbUplSend) front rfl).trans (congrArg Host.Outcome.next (if_pos (by rw [off]; rfl)))
  · exact (exec_front (act := bkbUplSend) front rfl).trans
      (congrArg Host.Outcome.next ((if_neg (by rw [on]; decide)).trans (if_pos full)))
  · exact (exec_front (act := bkbUplRecv) front rfl).trans (congrArg Host.Outcome.next (if_pos range))
  · exact (exec_front (act := bkbUplRecv) front rfl).trans
      (congrArg Host.Outcome.next ((if_neg (by omega)).trans (if_pos (by rw [stopped]; rfl))))
  · refine (exec_front (act := bkbUplRecv) front rfl).trans (congrArg Host.Outcome.next ?_)
    rw [bkbUplRecv_waits lo hi run, serveRecv_empty (by exact empty)]
    rfl
  · exact ⟨_, exec_front (act := bkbUplRecv) front rfl, (bkbUplRecv_serves lo hi run inbound alone).1,
      (bkbUplRecv_serves lo hi run inbound alone).1 ▸ (bkbUplRecv_serves lo hi run inbound alone).2⟩
  · refine congrArg Host.Outcome.next ?_
    have due : (s.upl.waits.find? fun w => decide (w.2 ≤ s.now)) = some (f.seq, t0) := by
      rw [waits]
      simp [late]
    have left : (s.upl.waits.filter fun x => x.1 != f.seq) = [] := by
      rw [waits]
      simp
    simp only [due]
    have here : flight? f.seq (modUpl (fun u => { u with waits := u.waits.filter fun x => x.1 != f.seq }) s) = some f := found
    rw [completeSeq, here, modUpl, left]
  · obtain ⟨epoch, heard, ok, lastA, lastB⟩ := takeEnvelope_heard (decide (p = .b)) e s
    refine ⟨_, congrArg Host.Outcome.next ((if_pos own).trans (if_pos ⟨on, fits⟩)), epoch, heard, fun a => ?_, fun b => ?_⟩
    · subst a
      exact ⟨ok, lastA rfl⟩
    · subst b
      exact ⟨ok, lastB rfl⟩
  · obtain ⟨ack, ahead, inbound, waits⟩ := proven_queue (b := decide (p = .b)) known
    refine ⟨_, congrArg Host.Outcome.next ((if_pos own).trans ((if_pos ⟨on, fits⟩).trans ((takeEnvelope_eq _ e s).trans (if_pos data)))), ?_⟩
    rw [← ack] at new ⊢
    rw [← ahead] at apart
    rw [← inbound] at room ⊢
    exact takeData_new new apart room (waits.trans nobody)
  · obtain ⟨ack, ahead, inbound, waits⟩ := proven_queue (b := decide (p = .b)) known
    refine ⟨_, congrArg Host.Outcome.next ((if_pos own).trans ((if_pos ⟨on, fits⟩).trans ((takeEnvelope_eq _ e s).trans (if_pos data)))), ?_⟩
    rw [← ack] at old ⊢
    rw [← inbound]
    exact takeData_old old
  · obtain ⟨outbox, out, -, waits⟩ := putEnvelopes_b (dueAgain s) s
    refine ⟨_, envelopeRetransmit_runs on due, ?_⟩
    rw [sendData_b native steady pathB]
    exact ⟨outbox, out, waits⟩
  · refine congrArg Host.Outcome.next ((if_neg other).trans ((if_pos ⟨up, runs, coord, fits⟩).trans ?_))
    rw [found]
    rfl
  · refine congrArg Host.Outcome.next ((if_neg other).trans ((if_pos ⟨up, runs, coord, fits⟩).trans ?_))
    rw [found]
    exact if_neg link
  · have a : (if s.upl.dual then s.upl.heardB else s.upl.activeB) = false := by
      rcases path with ⟨dual, heard⟩ | ⟨native, active⟩
      · rw [dual]; exact heard
      · rw [native]; exact active
    rw [ackEnvelope_runs on steady owed, a, is]
    rfl
  · have b : (if s.upl.dual then s.upl.heardB else s.upl.activeB) = true := by
      rcases path with ⟨dual, heard⟩ | ⟨native, active⟩
      · rw [dual]; exact heard
      · rw [native]; exact active
    rw [ackEnvelope_runs on steady owed, b, putEnvelope, if_neg (by decide)]
    have same : waitsB (modUpl (fun u => { u with ackOwed := none, ackTick := s.now }) s) 1 0 = waitsB s 1 0 := rfl
    rw [same]
    split
    · rw [List.append_nil]
      rfl
    · rfl

end Sys2Proof.Proofs
end

section
set_option Elab.async false -- one theorem after another, which keeps Lean within its memory
/-! Joining and leaving a domain (R294, R295, R307, R318 to R321). -/

namespace Sys2Proof.Proofs

open Sys2Proof Sys2Proof.Machine Sys2Proof.Safety Sys2Proof.Laws

variable {s t u : State}

/-! ### The units beside the uplink -/

/-- The uplink, readiness, events and completions apart, the units are as they were. -/
def BesideUpl (s t : State) : Prop := Aside { s with upl := t.upl } t

theorem Aside.besideUpl (h : Aside s t) : BesideUpl s t := by
  have upl := h.upl
  have same : { s with upl := t.upl } = s := by rw [upl]
  rw [BesideUpl, same]
  exact h

theorem BesideUpl.refl (s : State) : BesideUpl s s := Aside.refl s

theorem modUpl_besideUpl (f : Upl → Upl) (s : State) : BesideUpl s (modUpl f s) := ⟨rfl, rfl⟩

theorem BesideUpl.trans (h : BesideUpl s t) (e : BesideUpl t u) : BesideUpl s u := by
  obtain ⟨gen, units⟩ := h
  obtain ⟨gen', units'⟩ := e
  refine ⟨gen.trans gen', ?_⟩
  rw [units', units]

theorem BesideUpl.bkb (h : BesideUpl s t) : t.bkb = s.bkb :=
  Aside.bkb (s := { s with upl := t.upl }) h

theorem BesideUpl.sct (h : BesideUpl s t) : t.sct = s.sct :=
  Aside.sct (s := { s with upl := t.upl }) h

theorem BesideUpl.fuse (h : BesideUpl s t) : t.fuse = s.fuse :=
  Aside.fuse (s := { s with upl := t.upl }) h

theorem BesideUpl.now (h : BesideUpl s t) : t.now = s.now :=
  Aside.now (s := { s with upl := t.upl }) h

theorem setPathOk_besideUpl (b ok : Bool) (s : State) : BesideUpl s (setPathOk b ok s) := modUpl_besideUpl _ s

theorem pathFail_besideUpl (b : Bool) (cond : Nat) (s : State) : BesideUpl s (pathFail b cond s) := by
  unfold pathFail
  dsimp only
  split
  · exact setPathOk_besideUpl b false s
  · split
    · exact (setPathOk_besideUpl b false s).trans (postPath_aside 1 b cond _).besideUpl
    · split
      · exact ((setPathOk_besideUpl b false s).trans (postPath_aside 1 b cond _).besideUpl).trans hingeAway_beside
      · exact setPathOk_besideUpl b false s

theorem pathBack_besideUpl (b : Bool) (s : State) : BesideUpl s (pathBack b s) := by
  unfold pathBack
  split
  · exact .refl s
  · dsimp only
    split
    · exact (setPathOk_besideUpl b true s).trans (postPath_aside 2 b 0 _).besideUpl
    · exact setPathOk_besideUpl b true s

theorem checkPathB_besideUpl (cond : Nat) (was : Bool) (s : State) : BesideUpl s (checkPathB cond was s) := by
  unfold checkPathB
  split
  · split
    · exact .refl s
    · exact pathBack_besideUpl true s
  · split
    · exact pathFail_besideUpl true cond s
    · exact .refl s

/-! ### A change of the role -/

/-- The backbone once its role has changed. -/
def inRole (role : Nat) (coord : W64) (slot : Fin 64) (join : JoinState) (b : Bkb) : Bkb :=
  { b with role := role, coord := coord, slot := slot, join := join, gw := if role = 1 then b.gw else false,
           poll := none, pollFrames := 0, lastPoll := none, dSyms := [], dPos := none, lastU := none, missed := [] }

/-- The readiness that goes with the role. -/
def roleReady (role : Nat) (s : State) : State :=
  if role = 1 ∨ role = 2 then setReady 7 true (modUpl (fun u => { u with shown := true }) s) else loseReady [7] s

theorem setRole_eq (role : Nat) (coord : W64) (slot : Fin 64) (join : JoinState) (s : State) :
    setRole role coord slot join s = postRole (checkPathB 2 false (roleReady role (modBkb (inRole role coord slot join) s))) := rfl

theorem roleReady_besideUpl (role : Nat) (s : State) : BesideUpl s (roleReady role s) := by
  unfold roleReady
  split
  · exact (modUpl_besideUpl _ s).trans (setReady_aside 7 true _).besideUpl
  · exact (loseReady_aside [7] s).besideUpl

theorem setRole_besideUpl (role : Nat) (coord : W64) (slot : Fin 64) (join : JoinState) (s : State) :
    BesideUpl (modBkb (inRole role coord slot join) s) (setRole role coord slot join s) := by
  rw [setRole_eq]
  exact ((roleReady_besideUpl role _).trans (checkPathB_besideUpl 2 false _)).trans (postMail_aside _ _ _ _).besideUpl

theorem setRole_bkb (role : Nat) (coord : W64) (slot : Fin 64) (join : JoinState) (s : State) :
    (setRole role coord slot join s).bkb = inRole role coord slot join s.bkb :=
  (setRole_besideUpl role coord slot join s).bkb

theorem setRole_sct (role : Nat) (coord : W64) (slot : Fin 64) (join : JoinState) (s : State) :
    (setRole role coord slot join s).sct = s.sct :=
  (setRole_besideUpl role coord slot join s).sct

theorem checkPathB_sameReady {s0 : State} {cond : Nat} {was : Bool} (h : SameReady s0 s) : SameReady s0 (checkPathB cond was s) := by
  unfold checkPathB
  exact .ite (.ite h (pathBack_sameReady h)) (.ite (pathFail_sameReady h) h)

/-- BKB is ready in a member's role. -/
theorem setRole_member_ready (coord : W64) (slot : Fin 64) (join : JoinState) (s : State) : (setRole 1 coord slot join s).isReady 7 = true := by
  rw [setRole_eq]
  generalize modBkb (inRole 1 coord slot join) s = v
  have bit : (roleReady 1 v).isReady 7 = true := (setReady_isReady (by decide)).trans rfl
  exact (congrArg (fun r : BitVec 19 => r.getLsbD 7) (checkPathB_sameReady (s0 := roleReady 1 v) (cond := 2) (was := false) rfl)).trans bit

/-! ### Discarding and handing over -/

theorem handOver_besideSes (s : State) : ∃ ses, handOver s = { s with ses := ses } := by
  refine List.foldlRecOn (motive := fun v : State => ∃ ses, v = { s with ses := ses }) _ _ ⟨s.ses, rfl⟩ ?_
  rintro v ⟨ses, rfl⟩ n -
  exact ⟨_, rfl⟩

theorem handOver_sct (s : State) : (handOver s).sct = s.sct := by
  obtain ⟨ses, h⟩ := handOver_besideSes s
  rw [h]

theorem handOver_bkb (s : State) : (handOver s).bkb = s.bkb := by
  obtain ⟨ses, h⟩ := handOver_besideSes s
  rw [h]

theorem handOver_fuse (s : State) : (handOver s).fuse = s.fuse := by
  obtain ⟨ses, h⟩ := handOver_besideSes s
  rw [h]

theorem discardTokens_rest (s : State) : (discardTokens s).sct.ledger = s.sct.ledger ∧ (discardTokens s).bkb = s.bkb ∧
    (discardTokens s).fuse = s.fuse := ⟨rfl, rfl, rfl⟩

theorem putTok_rest (f : Tokens → Tokens) (s : State) : (putTok f s).sct.ledger = s.sct.ledger ∧ (putTok f s).bkb = s.bkb ∧
    (putTok f s).fuse = s.fuse := ⟨rfl, rfl, rfl⟩

theorem handOver_now (s : State) : (handOver s).now = s.now := by
  obtain ⟨ses, h⟩ := handOver_besideSes s
  rw [h]
  rfl

/-- Tokens are held under the domain that was joined. -/
theorem joinTokens_domain (d : W32) (s : State) : (joinTokens d s).sct.tok.domain = d := by
  unfold joinTokens
  extract_lets v
  have under : v.sct.tok.domain = d := by
    unfold v
    split
    next same => exact same
    next =>
      split
      · rw [handOver_sct]
        rfl
      · rfl
  split <;> exact under

theorem joinTokens_ledger (d : W32) (s : State) : (joinTokens d s).sct.ledger = s.sct.ledger ∧ (joinTokens d s).bkb = s.bkb ∧
    (joinTokens d s).fuse = s.fuse := by
  unfold joinTokens
  extract_lets v
  have under : v.sct.ledger = s.sct.ledger ∧ v.bkb = s.bkb ∧ v.fuse = s.fuse := by
    unfold v
    split
    · exact ⟨rfl, rfl, rfl⟩
    · split
      · rw [handOver_sct, handOver_bkb, handOver_fuse]
        obtain ⟨ledger, bkb, fuse⟩ := putTok_rest (fun t => { t with domain := d }) (discardTokens s)
        obtain ⟨ledger', bkb', fuse'⟩ := discardTokens_rest s
        exact ⟨ledger.trans ledger', bkb.trans bkb', fuse.trans fuse'⟩
      · exact putTok_rest _ s
  split <;> exact under

/-- A refused node asks again in 60 s; in a domain it has nothing left. -/
theorem refuseNode_sct (s : State) : (refuseNode s).sct.refused = true ∧ (refuseNode s).sct.askAt = some (s.now + 3840000) ∧
    (s.sct.domainMode = true → (refuseNode s).sct.tok = { domain := s.sct.tok.domain }) ∧
    (s.sct.domainMode = false → (refuseNode s).sct.tok = s.sct.tok) := by
  unfold refuseNode
  extract_lets v
  have now : v.now = s.now := by
    unfold v
    split
    · rw [handOver_now]
      rfl
    · rfl
  refine ⟨rfl, congrArg (fun n => some (n + 3840000)) now, fun domain => ?_, fun local_ => ?_⟩
  · show v.sct.tok = _
    unfold v
    rw [if_pos domain, handOver_sct]
    rfl
  · show v.sct.tok = _
    unfold v
    rw [if_neg (by rw [local_]; decide)]

/-! ### A join request -/

/-- The frame count never falls. -/
def countOn (count : Nat) (s : State) : State := modBkb (fun b => { b with dfn := max b.dfn count }) s

/-- What is done with a request once the frame count is known. -/
def enrol (serial : W64) (s : State) : State :=
  if s.sct.retired.contains serial then
    queueD 0xFF (.joinAnswer serial .retired) { s with sct := { s.sct with retired := s.sct.retired.filter fun x => decide (x ≠ serial) } }
  else match slotOf s serial with
    | some k => queueD 0xFF (.joinAnswer serial (.slot k)) (hear k s)
    | none => match (allFin 64).find? fun k => decide ((s.sct.ledger[k.val]).state = .free) with
      | some k =>
        postMember 0 serial k.val (queueD 0xFF (.joinAnswer serial (.slot k))
          (modEntry k (fun _ => { serial := serial, state := .present, lastTick := s.now, lastDfn := s.bkb.dfn }) s))
      | none => postMember 3 serial 0xFF (queueD 0xFF (.joinAnswer serial .refused) s)

theorem joinRequest_eq (serial : W64) (count : W32) (s : State) : joinRequest serial count s = enrol serial (countOn count.toNat s) := by
  have counted : (if s.bkb.dfn ≤ count.toNat then modBkb (fun b => { b with dfn := count.toNat }) s else s) = countOn count.toNat s := by
    unfold countOn modBkb
    dsimp only
    split
    next less => rw [Nat.max_eq_right less]
    next more => rw [Nat.max_eq_left (Nat.le_of_not_le more)]
  rw [← counted]
  rfl

theorem enrol_dfn (serial : W64) (s : State) : (enrol serial s).bkb.dfn = s.bkb.dfn := by
  unfold enrol
  split
  · rfl
  · split
    · rfl
    · split <;> rfl

/-- The first slot that is free is found. -/
theorem find?_firstFree {p : Fin 64 → Bool} {k : Fin 64} (here : p k = true) (first : ∀ j < k, p j = false) :
    (allFin 64).find? p = some k := by
  cases found : (allFin 64).find? p with
  | none => exact absurd here (by simpa using List.find?_eq_none.mp found k (List.mem_finRange k))
  | some j =>
    have at_j := List.find?_some found
    rcases Nat.lt_trichotomy j.val k.val with less | same | more
    · rw [first j less] at at_j
      exact absurd at_j (by decide)
    · rw [Fin.ext same]
    · have early : ∀ i < j, p i = false := by
        intro i hi
        have h := List.find?_eq_some_iff_getElem.mp found
        obtain ⟨-, n, hn, at_n, before⟩ := h
        have jn : j.val = n := by
          rw [← at_n]
          simp [allFin]
        have im := before i.val (by omega)
        simpa [allFin] using im
      rw [early k more] at here
      exact absurd here (by decide)

/-- The answer to a request, by what the ledger says of its serial. -/
theorem enrol_answers (serial : W64) (s : State) :
    (s.sct.retired.contains serial = true → (enrol serial s).bkb.dQueue = s.bkb.dQueue ++ [(0xFF, .joinAnswer serial .retired)] ∧
      (enrol serial s).sct.retired.contains serial = false) ∧
    (s.sct.retired.contains serial = false → ∀ k, slotOf s serial = some k →
      (enrol serial s).bkb.dQueue = s.bkb.dQueue ++ [(0xFF, .joinAnswer serial (.slot k))] ∧
        ((enrol serial s).sct.ledger[k.val]).lastTick = s.now) ∧
    (s.sct.retired.contains serial = false → slotOf s serial = none → ∀ k : Fin 64, (s.sct.ledger[k.val]).state = .free →
      (∀ j : Fin 64, j < k → (s.sct.ledger[j.val]).state ≠ .free) →
        (enrol serial s).bkb.dQueue = s.bkb.dQueue ++ [(0xFF, .joinAnswer serial (.slot k))] ∧
        ((enrol serial s).sct.ledger[k.val]).serial = serial ∧ ((enrol serial s).sct.ledger[k.val]).state = .present) ∧
    (s.sct.retired.contains serial = false → slotOf s serial = none → (∀ k : Fin 64, (s.sct.ledger[k.val]).state ≠ .free) →
      (enrol serial s).bkb.dQueue = s.bkb.dQueue ++ [(0xFF, .joinAnswer serial .refused)]) := by
  refine ⟨fun retired => ?_, fun active k found => ?_, fun active unknown k free first => ?_, fun active unknown full => ?_⟩
  · rw [enrol, if_pos retired]
    refine ⟨rfl, ?_⟩
    show (s.sct.retired.filter fun x => decide (x ≠ serial)).contains serial = false
    simp
  · rw [enrol, if_neg (by rw [active]; decide), found]
    exact ⟨rfl, congrArg LedgerEntry.lastTick (modEntry_self k _ s)⟩
  · have slot : ((allFin 64).find? fun k => decide ((s.sct.ledger[k.val]).state = .free)) = some k :=
      find?_firstFree (decide_eq_true free) fun j hj => decide_eq_false (first j hj)
    rw [enrol, if_neg (by rw [active]; decide), unknown]
    simp only [slot]
    have entry := modEntry_self k (fun _ => { serial := serial, state := .present, lastTick := s.now, lastDfn := s.bkb.dfn }) s
    exact ⟨rfl, congrArg LedgerEntry.serial entry, congrArg LedgerEntry.state entry⟩
  · have none_ : ((allFin 64).find? fun k => decide ((s.sct.ledger[k.val]).state = .free)) = none :=
      List.find?_eq_none.mpr fun k _ => by simpa using full k
    rw [enrol, if_neg (by rw [active]; decide), unknown]
    simp only [none_]
    rfl

/-! ### A new coordinator -/

theorem slotOf_congr {s t : State} (same : ∀ k : Fin 64, ((t.sct.ledger[k.val]).state = .free ↔ (s.sct.ledger[k.val]).state = .free) ∧
    ((s.sct.ledger[k.val]).state ≠ .free → (t.sct.ledger[k.val]).serial = (s.sct.ledger[k.val]).serial)) (serial : W64) :
    slotOf t serial = slotOf s serial := by
  unfold slotOf
  congr 1
  funext k
  obtain ⟨free, named⟩ := same k
  by_cases h : (s.sct.ledger[k.val]).state = .free
  · simp [h, free.mpr h]
  · have ht : (t.sct.ledger[k.val]).state ≠ .free := fun e => h (free.mp e)
    simp [h, ht, named h]

/-- The slot of a new coordinator goes by who is in which slot. -/
theorem coordSlot_congr {s t : State} (same : ∀ k : Fin 64, ((t.sct.ledger[k.val]).state = .free ↔ (s.sct.ledger[k.val]).state = .free) ∧
    ((s.sct.ledger[k.val]).state ≠ .free → (t.sct.ledger[k.val]).serial = (s.sct.ledger[k.val]).serial)) (slot : t.bkb.slot = s.bkb.slot)
    (fuse : t.fuse = s.fuse) : coordSlot t = coordSlot s := by
  have free : ∀ k : Fin 64, decide ((t.sct.ledger[k.val]).state = .free) = decide ((s.sct.ledger[k.val]).state = .free) :=
    fun k => decide_eq_decide.mpr (same k).1
  unfold coordSlot
  dsimp only
  rw [slotOf_congr same, slot, fuse]
  simp only [free]

theorem anew_entry (now : Tick) (e : LedgerEntry) : ((e.anew now).state = .free ↔ e.state = .free) ∧
    (e.state ≠ .free → (e.anew now).serial = e.serial ∧ (e.anew now).state = if e.state = .retiring then .retiring else .absent) := by
  unfold LedgerEntry.anew
  by_cases h : e.state = .free
  · rw [if_pos h]
    exact ⟨iff_of_true rfl h, fun n => absurd h n⟩
  · rw [if_neg h]
    refine ⟨iff_of_false ?_ h, fun _ => ⟨rfl, rfl⟩⟩
    show (if e.state = .retiring then SlotState.retiring else .absent) ≠ .free
    split <;> decide

/-- The slots that the node knows of, before any member is heard, and a backbone without anything of a former coordinator. -/
def afresh (s : State) : State :=
  modBkb (fun b => { b with down := [], again := [], sent := [], dQueue := [], lastSlot := 0, lastSound := 0, absentTick := s.now,
                            absentDue := [], atlas := Vector.replicate 64 [], links := [], dMap := [], depthNow := b.depth,
                            rateNow := b.rate }) { s with sct := { s.sct with ledger := s.sct.ledger.map (LedgerEntry.anew s.now) } }

/-- A node of a domain in LEDGER_DOUBT takes its own holdings from its own last report. -/
def takeOwn (s : State) : State := if s.sct.domainMode then takeBack s.sct.ownHeld s else s

/-- The node once it knows its ledger and holdings as coordinator. -/
def heir (s : State) : State := takeOwn (joinTokens s.bkb.domain (afresh s))

theorem becomeCoordinator_eq (s : State) :
    becomeCoordinator s = refreshSelf (setRole 2 (heir s).fuse.serial (coordSlot (heir s)) .joined (heir s)) := rfl

theorem takeBack_rest (held : Vector Nat 3) (s : State) : (takeBack held s).sct.ledger = s.sct.ledger ∧ (takeBack held s).bkb = s.bkb ∧
    (takeBack held s).fuse = s.fuse := by
  unfold takeBack
  split <;> exact ⟨rfl, rfl, rfl⟩

theorem takeOwn_rest (s : State) : (takeOwn s).sct.ledger = s.sct.ledger ∧ (takeOwn s).bkb = s.bkb ∧ (takeOwn s).fuse = s.fuse := by
  unfold takeOwn
  split
  · exact takeBack_rest _ s
  · exact ⟨rfl, rfl, rfl⟩

theorem heir_rest (s : State) : (heir s).sct.ledger = s.sct.ledger.map (LedgerEntry.anew s.now) ∧ (heir s).bkb.slot = s.bkb.slot ∧
    (heir s).fuse = s.fuse := by
  obtain ⟨ledger, bkb, fuse⟩ := takeOwn_rest (joinTokens s.bkb.domain (afresh s))
  obtain ⟨ledger', bkb', fuse'⟩ := joinTokens_ledger s.bkb.domain (afresh s)
  exact ⟨ledger.trans ledger', (congrArg Bkb.slot (bkb.trans bkb')).trans rfl, fuse.trans fuse'⟩

/-- Who is in which slot stays. -/
theorem heir_entries (s : State) (k : Fin 64) : (heir s).sct.ledger[k.val] = (s.sct.ledger[k.val]).anew s.now :=
  (congrArg (fun l : Vector LedgerEntry 64 => l[k.val]) (heir_rest s).1).trans (Vector.getElem_map _ _)

theorem heir_slot (s : State) : coordSlot (heir s) = coordSlot s := by
  refine coordSlot_congr (fun k => ?_) (heir_rest s).2.1 (heir_rest s).2.2
  rw [heir_entries]
  exact ⟨(anew_entry s.now _).1, fun h => ((anew_entry s.now _).2 h).1⟩

theorem keepOwn_rest (s : State) : (keepOwn s).sct.ledger = s.sct.ledger ∧ (keepOwn s).bkb = s.bkb ∧ (keepOwn s).fuse = s.fuse := by
  unfold keepOwn
  split <;> exact ⟨rfl, rfl, rfl⟩

/-- The coordinator's own entry is its own; the others stay. -/
theorem refreshSelf_entries (s : State) : (refreshSelf s).bkb = s.bkb ∧ ∀ k : Fin 64,
    (k = s.bkb.slot → ((refreshSelf s).sct.ledger[k.val]).serial = s.fuse.serial ∧ ((refreshSelf s).sct.ledger[k.val]).state = .present) ∧
    (k ≠ s.bkb.slot → (refreshSelf s).sct.ledger[k.val] = s.sct.ledger[k.val]) := by
  obtain ⟨ledger, bkb, fuse⟩ := keepOwn_rest s
  unfold refreshSelf
  generalize keepOwn s = u at *
  rw [← ledger, ← fuse, ← bkb]
  have own := modEntry_self u.bkb.slot (fun e =>
    { e.take (selfReport u) u.dfn u.now with serial := u.fuse.serial, state := .present }) u
  refine ⟨rfl, fun k => ⟨fun here => ?_, fun other => modEntry_other (Ne.symm other) _ u⟩⟩
  subst here
  exact ⟨congrArg LedgerEntry.serial own, congrArg LedgerEntry.state own⟩

theorem becomeCoordinator_ledger (s : State) : (becomeCoordinator s).bkb.role = 2 ∧ (becomeCoordinator s).bkb.slot = coordSlot s ∧
    (becomeCoordinator s).bkb.coord = s.fuse.serial ∧ ((becomeCoordinator s).sct.ledger[(coordSlot s).val]).serial = s.fuse.serial ∧
    ((becomeCoordinator s).sct.ledger[(coordSlot s).val]).state = .present ∧
    ∀ k : Fin 64, k ≠ coordSlot s → (becomeCoordinator s).sct.ledger[k.val] = (s.sct.ledger[k.val]).anew s.now := by
  have fuse : (setRole 2 (heir s).fuse.serial (coordSlot (heir s)) .joined (heir s)).fuse.serial = s.fuse.serial :=
    congrArg Fuse.serial ((setRole_besideUpl 2 (heir s).fuse.serial (coordSlot (heir s)) .joined (heir s)).fuse.trans (heir_rest s).2.2)
  have bkb := setRole_bkb 2 (heir s).fuse.serial (coordSlot (heir s)) .joined (heir s)
  have ledger := congrArg Sct.ledger (setRole_sct 2 (heir s).fuse.serial (coordSlot (heir s)) .joined (heir s))
  rw [becomeCoordinator_eq]
  generalize setRole 2 (heir s).fuse.serial (coordSlot (heir s)) .joined (heir s) = u at *
  have slot : u.bkb.slot = coordSlot s := (congrArg Bkb.slot bkb).trans (heir_slot s)
  obtain ⟨same, entries⟩ := refreshSelf_entries u
  rw [slot] at entries
  obtain ⟨serial, state⟩ := (entries (coordSlot s)).1 rfl
  refine ⟨?_, ?_, ?_, serial.trans fuse, state, fun k other => ?_⟩
  · rw [same, bkb]
    rfl
  · rw [same, slot]
  · rw [same, bkb]
    exact congrArg Fuse.serial (heir_rest s).2.2
  · rw [(entries k).2 other]
    exact (congrArg (fun l : Vector LedgerEntry 64 => l[k.val]) ledger).trans (heir_entries s k)

/-- Settles O41: a request goes by what the ledger says of its serial; every change of the role is one lemma; a new coordinator's ledger
is the old one, entry by entry anew. -/
theorem backboneMembership : Obligations.BackboneMembership := by
  unfold Obligations.BackboneMembership
  intro s on
  refine ⟨fun serial count coord => ?_, fun asking coord => ⟨fun k => ?_, ?_, fun domain => ?_, fun d r other => ?_⟩,
    fun t0 may role listening quiet silent => ?_, fun member lost => ?_⟩
  · have run : exec (.joinRequest serial count) s = .next (enrol serial (countOn count.toNat s)) := by
      rw [← joinRequest_eq]
      exact congrArg Host.Outcome.next (if_pos ⟨on, coord⟩)
    exact ⟨_, run, enrol_dfn serial _, enrol_answers serial (countOn count.toNat s)⟩
  · have run : exec (.joinAnswer s.bkb.domain coord (.slot k)) s = .next (setRole 1 coord k .joined (joinTokens s.bkb.domain s)) :=
      congrArg Host.Outcome.next ((if_pos on).trans (if_neg (by rw [asking]; simp)))
    refine ⟨_, run, ?_⟩
    rw [setRole_bkb, setRole_sct, setRole_member_ready]
    exact ⟨rfl, rfl, rfl, rfl, joinTokens_domain _ s, rfl⟩
  · have run : exec (.joinAnswer s.bkb.domain coord .refused) s = .next (setRole 3 coord 0 .off (refuseNode s)) :=
      congrArg Host.Outcome.next ((if_pos on).trans (if_neg (by rw [asking]; simp)))
    refine ⟨_, run, ?_⟩
    rw [setRole_bkb, setRole_sct]
    exact ⟨rfl, refuseNode_sct s⟩
  · have run : exec (.joinAnswer s.bkb.domain coord .retired) s = .next (handOver (discardTokens s)) :=
      congrArg Host.Outcome.next ((if_pos on).trans ((if_neg (by rw [asking]; simp)).trans (if_pos domain)))
    refine ⟨_, run, ?_, ?_⟩
    · rw [handOver_sct]
      rfl
    · rw [handOver_bkb]
      rfl
  · exact congrArg Host.Outcome.next ((if_pos on).trans (if_pos (.inl other)))
  · have run : exec .becomeCoordinator s = .next (becomeCoordinator s) := by
      refine congrArg Host.Outcome.next (if_pos ⟨on, may, .inl ⟨role, ?_⟩, silent⟩)
      rw [listening]
      exact decide_eq_true quiet
    obtain ⟨role', slot, coord, serial, state, others⟩ := becomeCoordinator_ledger s
    refine ⟨_, run, role', slot, coord, serial, state, fun k other => ?_⟩
    rw [others k other]
    exact ⟨(anew_entry s.now _).1.mpr, (anew_entry s.now _).2⟩
  · have run : exec .headerLossRejoin s = .next (setRole 0 s.bkb.coord s.bkb.slot (.listening s.now) s) := by
      refine congrArg Host.Outcome.next ((if_pos ⟨on, member, lost⟩).trans ?_)
      unfold rejoinDomain
      dsimp only
      rw [if_neg (by rw [member]; decide), if_pos on]
    refine ⟨_, run, ?_⟩
    rw [setRole_bkb]
    exact ⟨rfl, rfl, rfl⟩

end Sys2Proof.Proofs
end

section
set_option Elab.async false -- one theorem after another, which keeps Lean within its memory
/-! What the work within a frame leaves alone (R315 to R323): the frame counts, the last header, GW and the role. -/

namespace Sys2Proof.Proofs

open Sys2Proof Sys2Proof.Machine Sys2Proof.Safety Sys2Proof.Laws

/-- The frame counts, the ticks of the frame and of the last header, GW and the role. -/
def frameOf (b : Bkb) : Nat × Option Nat × Tick × Tick × Bool × Nat := (b.dfn, b.lastDfn, b.frameTick, b.headerTick, b.gw, b.role)

/-- The frame being counted is as it was. -/
def SameFrame (s t : State) : Prop := frameOf t.bkb = frameOf s.bkb

variable {s0 s t : State}

theorem SameFrame.frame (h : SameFrame s0 s) (e : SameFrame s t) : SameFrame s0 t := e.trans h

theorem SameFrame.ite {c : Prop} [Decidable c] {a b : State} (ha : SameFrame s0 a) (hb : SameFrame s0 b) :
    SameFrame s0 (if c then a else b) := by
  split
  · exact ha
  · exact hb

theorem SameFrame.of_snd {α : Type} {p : α × State} {a : α} (e : p = (a, t)) (h : SameFrame s0 p.2) : SameFrame s0 t := by
  rw [e] at h
  exact h

theorem SameFrame.ite_snd {α : Type} {c : Prop} [Decidable c] {a b : α × State} (ha : SameFrame s0 a.2) (hb : SameFrame s0 b.2) :
    SameFrame s0 (if c then a else b).2 := by
  split
  · exact ha
  · exact hb

theorem SameFrame.foldl {α : Type} {f : State → α → State} {l : List α} (hf : ∀ t a, SameFrame s0 t → SameFrame s0 (f t a))
    (h : SameFrame s0 s) : SameFrame s0 (l.foldl f s) := by
  induction l generalizing s with
  | nil => exact h
  | cons a l ih => exact ih (hf s a h)

theorem SameFrame.foldl_snd {α β : Type} {f : β × State → α → β × State} {l : List α} {b : β}
    (hf : ∀ b t a, SameFrame s0 t → SameFrame s0 (f (b, t) a).2) (h : SameFrame s0 s) : SameFrame s0 (l.foldl f (b, s)).2 := by
  induction l generalizing s b with
  | nil => exact h
  | cons a l ih => exact ih (b := (f (b, s) a).1) (hf b s a h)

theorem post_sameFrame {code target data} (h : SameFrame s0 s) : SameFrame s0 (post code target data s) := (congrArg frameOf (post_bkb ..)).trans h

theorem complete_sameFrame {f st detail data buf} (h : SameFrame s0 s) : SameFrame s0 (complete f st detail data buf s) :=
  (congrArg frameOf (complete_bkb ..)).trans h

theorem freeBytes_sameFrame {n} (h : SameFrame s0 s) : SameFrame s0 (freeBytes n s).2 := by
  unfold freeBytes
  exact .frame h rfl

theorem drawBool_sameFrame (h : SameFrame s0 s) : SameFrame s0 (drawBool s).2 := by
  unfold drawBool
  exact .frame h rfl

theorem emit_sameFrame {o} (h : SameFrame s0 s) : SameFrame s0 (emit o s) := by
  unfold emit
  exact .frame h rfl

theorem holdLate_sameFrame {code target data} (h : SameFrame s0 s) : SameFrame s0 (holdLate code target data s) := by
  unfold holdLate
  exact .frame h rfl

theorem postMail_sameFrame {code target data} (h : SameFrame s0 s) : SameFrame s0 (postMail code target data s) := by
  unfold postMail
  exact holdLate_sameFrame h

theorem completeSeq_sameFrame {seq st detail data buf} (h : SameFrame s0 s) : SameFrame s0 (completeSeq seq st detail data buf s) := by
  unfold completeSeq
  split
  · exact complete_sameFrame h
  · exact h

theorem setReplace_sameFrame {cause} (h : SameFrame s0 s) : SameFrame s0 (setReplace cause s) := by
  unfold setReplace
  exact .ite h (post_sameFrame (.frame h rfl))

theorem modMem_sameFrame {f} (h : SameFrame s0 s) : SameFrame s0 (modMem f s) := by
  unfold modMem
  exact .frame h rfl

theorem setWord_sameFrame {m a w} (h : SameFrame s0 s) : SameFrame s0 (setWord m a w s) := by
  unfold setWord
  split
  · exact h
  · split
    · exact modMem_sameFrame h
    · exact modMem_sameFrame h
    · exact modMem_sameFrame h

theorem postTile_sameFrame {kind tile} (h : SameFrame s0 s) : SameFrame s0 (postTile kind tile s) := by
  unfold postTile
  exact postMail_sameFrame h

theorem queueReloc_sameFrame {tile failed} (h : SameFrame s0 s) : SameFrame s0 (queueReloc tile failed s) := by
  unfold queueReloc
  exact .ite h (.ite (modMem_sameFrame h) (.ite (modMem_sameFrame h) h))

theorem noteCorrection_sameFrame {m a bit scrub} (h : SameFrame s0 s) : SameFrame s0 (noteCorrection m a bit scrub s) := by
  unfold noteCorrection
  extract_lets +onlyGivenNames key1 here2 win3 s4 pass5
  have h4 : SameFrame s0 s4 := modMem_sameFrame h
  split
  · exact .ite (queueReloc_sameFrame (modMem_sameFrame h4)) (modMem_sameFrame h4)
  · exact .ite (modMem_sameFrame h4) (setReplace_sameFrame (modMem_sameFrame h4))

theorem readWord_sameFrame {m a scrub} (h : SameFrame s0 s) : SameFrame s0 (readWord m a scrub s).2 := by
  unfold readWord
  extract_lets +onlyGivenNames w1
  split
  · exact h
  · extract_lets +onlyGivenNames v2 s3 c4
    have h3 : SameFrame s0 s3 := .ite (noteCorrection_sameFrame h) h
    split
    · exact setWord_sameFrame h3
    · clear_value c4
      split
      · exact setWord_sameFrame h3
      · exact setWord_sameFrame (noteCorrection_sameFrame h3)
      · exact modMem_sameFrame (setWord_sameFrame h3)
      · exact setWord_sameFrame h3

theorem failTile_sameFrame {t1} (h : SameFrame s0 s) : SameFrame s0 (failTile t1 s) := by
  unfold failTile
  exact queueReloc_sameFrame (postTile_sameFrame (modMem_sameFrame (.foldl (fun _ _ h1 => setWord_sameFrame h1) h)))

theorem verifyTile_sameFrame {t1} (h : SameFrame s0 s) : SameFrame s0 (verifyTile t1 s) := by
  unfold verifyTile
  exact .ite (failTile_sameFrame (modMem_sameFrame h)) (modMem_sameFrame h)

theorem portWord_sameFrame {a} (h : SameFrame s0 s) : SameFrame s0 (portWord a s).2 := by
  unfold portWord
  exact readWord_sameFrame (.ite h (verifyTile_sameFrame h))

theorem readPiece_sameFrame {k i} (h : SameFrame s0 s) : SameFrame s0 (readPiece k i s).2 := by
  unfold readPiece
  exact .ite_snd (.foldl_snd (fun _ _ _ h1 => portWord_sameFrame h1) h) (freeBytes_sameFrame h)

theorem modUpl_sameFrame {f} (h : SameFrame s0 s) : SameFrame s0 (modUpl f s) := by
  unfold modUpl
  exact .frame h rfl

theorem postPath_sameFrame {cause b cond} (h : SameFrame s0 s) : SameFrame s0 (postPath cause b cond s) := by
  unfold postPath
  exact postMail_sameFrame h

theorem setPathOk_sameFrame {b ok} (h : SameFrame s0 s) : SameFrame s0 (setPathOk b ok s) := by
  unfold setPathOk
  exact modUpl_sameFrame h

theorem startHinge_sameFrame {toB cond} (h : SameFrame s0 s) : SameFrame s0 (startHinge toB cond s) := by
  unfold startHinge
  exact modUpl_sameFrame h

theorem endDrill_sameFrame {d detail} (h : SameFrame s0 s) : SameFrame s0 (endDrill d detail s) := by
  unfold endDrill
  exact completeSeq_sameFrame (modUpl_sameFrame h)

theorem drillDead_sameFrame {d cond} (h : SameFrame s0 s) : SameFrame s0 (drillDead d cond s) := by
  unfold drillDead
  exact startHinge_sameFrame (modUpl_sameFrame (postPath_sameFrame (setReplace_sameFrame (setPathOk_sameFrame h))))

theorem hingeAway_sameFrame {b cond} (h : SameFrame s0 s) : SameFrame s0 (hingeAway b cond s) := by
  unfold hingeAway
  split
  · exact .ite (startHinge_sameFrame (endDrill_sameFrame h)) (.ite (drillDead_sameFrame h) (startHinge_sameFrame h))
  · exact startHinge_sameFrame h

theorem pathFail_sameFrame {b cond} (h : SameFrame s0 s) : SameFrame s0 (pathFail b cond s) := by
  unfold pathFail
  exact .ite (setPathOk_sameFrame h) (.ite (postPath_sameFrame (setPathOk_sameFrame h)) (.ite (hingeAway_sameFrame (postPath_sameFrame
      (setPathOk_sameFrame h))) (setPathOk_sameFrame h)))

theorem cryTo_sameFrame {slot o} (h : SameFrame s0 s) : SameFrame s0 (cryTo slot o s) := by
  unfold cryTo
  exact emit_sameFrame h

theorem cry_sameFrame {o} (h : SameFrame s0 s) : SameFrame s0 (cry o s) := by
  unfold cry
  exact cryTo_sameFrame h

theorem queueD_sameFrame {slot o} (h : SameFrame s0 s) : SameFrame s0 (queueD slot o s) := by
  unfold queueD
  exact .frame h rfl

theorem modTok_sameFrame {f} (h : SameFrame s0 s) : SameFrame s0 (modTok f s) := by
  unfold modTok
  exact .frame h rfl

theorem persistTokens_sameFrame (h : SameFrame s0 s) : SameFrame s0 (persistTokens s) := by
  unfold persistTokens
  exact .frame h rfl

theorem putTok_sameFrame {f} (h : SameFrame s0 s) : SameFrame s0 (putTok f s) := by
  unfold putTok
  exact persistTokens_sameFrame (modTok_sameFrame h)

theorem modEntry_sameFrame {k f} (h : SameFrame s0 s) : SameFrame s0 (modEntry k f s) := by
  unfold modEntry
  exact .frame h rfl

theorem noteRelay_sameFrame {mtype m} (h : SameFrame s0 s) : SameFrame s0 (noteRelay mtype m s) := by
  unfold noteRelay
  exact .ite (.frame (.frame h rfl) rfl) (.frame h rfl)

theorem sendTok_sameFrame {mtype dst m} (h : SameFrame s0 s) : SameFrame s0 (sendTok mtype dst m s) := by
  unfold sendTok
  split
  · split
    · exact noteRelay_sameFrame (.frame h rfl)
    · exact h
  · exact .frame h rfl

theorem postDoubt_sameFrame {k xid p n} (h : SameFrame s0 s) : SameFrame s0 (postDoubt k xid p n s) := by
  unfold postDoubt
  exact postMail_sameFrame h

theorem closeXfer_sameFrame {x back} (h : SameFrame s0 s) : SameFrame s0 (closeXfer x back s) := by
  cases back <;> exact h

theorem actResolve_sameFrame {xid result} (h : SameFrame s0 s) : SameFrame s0 (actResolve xid result s) := by
  unfold actResolve
  split
  · exact .ite (postDoubt_sameFrame (closeXfer_sameFrame h)) h
  · exact h

theorem settleTaken_sameFrame {sender xid committed} (h : SameFrame s0 s) : SameFrame s0 (settleTaken sender xid committed s) := by
  unfold settleTaken
  split
  · exact putTok_sameFrame h
  · exact h

theorem learnVerdict_sameFrame {m committed kept} (h : SameFrame s0 s) : SameFrame s0 (learnVerdict m committed kept s) := by
  unfold learnVerdict
  exact .ite (actResolve_sameFrame (settleTaken_sameFrame (.ite h (.frame h rfl)))) (sendTok_sameFrame (settleTaken_sameFrame (.ite h
      (.frame h rfl))))

theorem askDoubt_sameFrame {m} (h : SameFrame s0 s) : SameFrame s0 (askDoubt m s) := by
  unfold askDoubt
  split
  · exact learnVerdict_sameFrame h
  · split
    · split
      · exact learnVerdict_sameFrame h
      · exact learnVerdict_sameFrame h
      · exact h
    · exact sendTok_sameFrame h

theorem keepOwn_sameFrame (h : SameFrame s0 s) : SameFrame s0 (keepOwn s) := by
  unfold keepOwn
  exact .ite h (.frame h rfl)

theorem refreshSelf_sameFrame (h : SameFrame s0 s) : SameFrame s0 (refreshSelf s) := by
  unfold refreshSelf
  exact modEntry_sameFrame (keepOwn_sameFrame h)

theorem budgetShown_sameFrame {ed} (h : SameFrame s0 s) : SameFrame s0 (budgetShown ed s) := by
  unfold budgetShown
  split
  exact .foldl (fun _ _ h1 => completeSeq_sameFrame h1) (.frame h rfl)

theorem markSent_sameFrame {seqs} (h : SameFrame s0 s) : SameFrame s0 (markSent seqs s) := by
  unfold markSent
  exact modUpl_sameFrame h

theorem sentOnB_sameFrame (h : SameFrame s0 s) : SameFrame s0 (sentOnB s) := by
  unfold sentOnB
  exact .ite h (modUpl_sameFrame (markSent_sameFrame h))

theorem pathBack_sameFrame {b} (h : SameFrame s0 s) : SameFrame s0 (pathBack b s) := by
  unfold pathBack
  exact .ite h (.ite (postPath_sameFrame (setPathOk_sameFrame h)) (setPathOk_sameFrame h))

theorem modBkb_sameFrame {f} (h : SameFrame s0 s) (counts : frameOf (f s.bkb) = frameOf s.bkb := by rfl) : SameFrame s0 (modBkb f s) :=
  .frame h counts

theorem checkPathB_sameFrame {cond was} (h : SameFrame s0 s) : SameFrame s0 (checkPathB cond was s) := by
  unfold checkPathB
  exact .ite (.ite h (pathBack_sameFrame h)) (.ite (pathFail_sameFrame h) h)

theorem cryHeader_sameFrame {h1} (h : SameFrame s0 s) : SameFrame s0 (cryHeader h1 s) := by
  unfold cryHeader
  exact cry_sameFrame h

theorem blockDecodes_sameFrame {rate bps erased clean} (h : SameFrame s0 s) : SameFrame s0 (blockDecodes rate bps erased clean s).2 := by
  unfold blockDecodes
  exact .ite_snd (.ite_snd h (drawBool_sameFrame h)) h

theorem afterSent_sameFrame {o} (h : SameFrame s0 s) : SameFrame s0 (afterSent o s) := by
  unfold afterSent
  split
  · exact budgetShown_sameFrame (.frame h rfl)
  · exact h

theorem sendD_sameFrame (h : SameFrame s0 s) : SameFrame s0 (sendD s) := by
  unfold sendD
  exact .ite h (cry_sameFrame (.foldl (fun _ _ h1 => afterSent_sameFrame (cryTo_sameFrame h1)) (modBkb_sameFrame h)))

theorem pollPrep_sameFrame {k} (h : SameFrame s0 s) : SameFrame s0 (pollPrep k s) := by
  unfold pollPrep
  exact .foldl (fun _ _ h1 => .ite (askDoubt_sameFrame h1) h1) h

theorem sendDown_sameFrame {k} (h : SameFrame s0 s) : SameFrame s0 (sendDown k s) := by
  unfold sendDown
  exact modEntry_sameFrame (modBkb_sameFrame (refreshSelf_sameFrame (pollPrep_sameFrame h)))

theorem pollFrame_sameFrame {p} (h : SameFrame s0 s) : SameFrame s0 (pollFrame p s) := by
  unfold pollFrame
  exact modBkb_sameFrame (.ite (sendDown_sameFrame (cryHeader_sameFrame h)) (cryHeader_sameFrame h))

theorem nextPoll_sameFrame (h : SameFrame s0 s) : SameFrame s0 (nextPoll s) := by
  unfold nextPoll
  extract_lets present_1 s2 start3 idle4
  have h2 : SameFrame s0 s2 := .ite (modBkb_sameFrame h) h
  split
  · split
    · exact pollFrame_sameFrame (modBkb_sameFrame h2)
    · split
      · exact pollFrame_sameFrame (modBkb_sameFrame h2)
      · exact cryHeader_sameFrame h2
  · split
    · exact pollFrame_sameFrame (modBkb_sameFrame h2)
    · exact cryHeader_sameFrame h2

theorem pollFailed_sameFrame {p} (h : SameFrame s0 s) : SameFrame s0 (pollFailed p s) := by
  unfold pollFailed
  exact .ite (modBkb_sameFrame h) (modBkb_sameFrame h)

theorem nextPiece_sameFrame (h : SameFrame s0 s) : SameFrame s0 (nextPiece s) := by
  unfold nextPiece
  extract_lets run1 n2
  split
  · exact h
  · split
    · exact queueD_sameFrame (modBkb_sameFrame h)
    · split
      · extract_lets next3
        split
        rename_i s4 e4
        have h4 : SameFrame s0 s4 := .of_snd e4 (readPiece_sameFrame h)
        exact queueD_sameFrame (modBkb_sameFrame h4)
      · exact h

theorem frameHead_sameFrame (h : SameFrame s0 s) : SameFrame s0 (frameHead s) := by
  unfold frameHead
  extract_lets +onlyGivenNames d1
  split
  · exact cry_sameFrame (cryHeader_sameFrame h)
  · split
    · exact cryHeader_sameFrame h
    · split
      · split
        · exact cryHeader_sameFrame (modBkb_sameFrame h)
        · exact cryHeader_sameFrame h
      · extract_lets s2
        have h2 : SameFrame s0 s2 := by
          unfold s2
          split
          · exact .ite (pollFailed_sameFrame h) h
          · exact h
        split
        · exact pollFrame_sameFrame h2
        · exact nextPoll_sameFrame h2

theorem frameContent_sameFrame (h : SameFrame s0 s) : SameFrame s0 (frameContent s) := by
  unfold frameContent
  exact .ite (frameHead_sameFrame h) (sendD_sameFrame (nextPiece_sameFrame (frameHead_sameFrame h)))

theorem relayPieces_sameFrame (h : SameFrame s0 s) : SameFrame s0 (relayPieces s).2 := by
  unfold relayPieces
  split
  · extract_lets j1
    split
    rename_i s2 e2
    have h2 : SameFrame s0 s2 := .of_snd e2 (readPiece_sameFrame h)
    split
    rename_i s3 e3
    have h3 : SameFrame s0 s3 := .of_snd e3 (readPiece_sameFrame h2)
    exact h3
  · exact h

theorem respond_sameFrame {retry} (h : SameFrame s0 s) : SameFrame s0 (respond retry s) := by
  unfold respond
  extract_lets from_1
  split
  rename_i s2 e2
  have h2 : SameFrame s0 s2 := .of_snd e2 (.ite_snd h (relayPieces_sameFrame h))
  exact .foldl (fun _ _ h3 => cryTo_sameFrame h3) (.ite h2 (keepOwn_sameFrame (sentOnB_sameFrame (modBkb_sameFrame h2))))

theorem actInFrame_sameFrame {h1 rx} (h : SameFrame s0 s) : SameFrame s0 (actInFrame h1 rx s) := by
  unfold actInFrame
  exact .ite (respond_sameFrame (.ite h (modBkb_sameFrame h))) (.ite (cry_sameFrame h) (.ite (cry_sameFrame h) h))

theorem endBlock_sameFrame {rate bps d b} (h : SameFrame s0 s) : SameFrame s0 (endBlock rate bps d s b) := by
  unfold endBlock
  extract_lets syms1
  split
  rename_i s2 e2
  have h2 : SameFrame s0 s2 := .of_snd e2 (blockDecodes_sameFrame h)
  exact .ite h2 (modBkb_sameFrame h2)

theorem takeD_sameFrame {h1 rx} (h : SameFrame s0 s) : SameFrame s0 (takeD h1 rx s) := by
  unfold takeD
  exact modBkb_sameFrame (.foldl (fun _ _ h1 => endBlock_sameFrame h1) (modBkb_sameFrame h))

end Sys2Proof.Proofs
end

section
set_option Elab.async false -- one theorem after another, which keeps Lean within its memory
/-! Codewords and the space of D (R314, R317): the erased bits of a codeword counted one by one, the bursts that every rate survives, and
the containers that fit. -/

namespace Sys2Proof.Proofs

open Sys2Proof Sys2Proof.Machine Sys2Proof.Safety Sys2Proof.Laws

/-! ### Bits of a symbol -/

/-- One more coded bit goes to the symbol of its remainder. -/
theorem bitsBelow_succ {d i : Nat} (hi : i < d) (p : Nat) : bitsBelow d i (p + 1) = bitsBelow d i p + if p % d = i then 1 else 0 := by
  have hd : 0 < d := Nat.lt_of_le_of_lt (Nat.zero_le i) hi
  unfold bitsBelow
  have shift : p + 1 + d - 1 - i = (p + d - 1 - i) + 1 := by omega
  rw [shift, Nat.succ_div]
  congr 1
  have dvd : d ∣ p + d - 1 - i + 1 ↔ p % d = i := by
    have same : p + d - 1 - i + 1 = p + d - i := by omega
    rw [same, ← Nat.modEq_iff_dvd' (by omega)]
    unfold Nat.ModEq
    rw [Nat.add_mod_right, Nat.mod_eq_of_lt hi]
    exact eq_comm
  by_cases h : p % d = i
  · rw [if_pos h, if_pos (dvd.mpr h)]
  · rw [if_neg h, if_neg (fun e => h (dvd.mp e))]

theorem bitsBelow_mono (d i : Nat) {p q : Nat} (h : p ≤ q) : bitsBelow d i p ≤ bitsBelow d i q :=
  Nat.div_le_div_right (by omega)

/-- Of a list with its places, one place. -/
theorem sum_atPlace (l : List Bool) (r k : Nat) :
    ((l.zipIdx k).map fun e => if e.1 then (if r = e.2 then 1 else 0) else 0).sum =
      if k ≤ r ∧ l.getD (r - k) false = true then 1 else 0 := by
  induction l generalizing k with
  | nil => simp
  | cons a l ih =>
    rw [List.zipIdx_cons, List.map_cons, List.sum_cons, ih]
    rcases Nat.lt_trichotomy r k with less | same | more
    · have below : ¬k ≤ r := Nat.not_le.mpr less
      have before : ¬k + 1 ≤ r := by omega
      have apart : r ≠ k := Nat.ne_of_lt less
      cases a <;> simp [below, before, apart]
    · subst same
      cases a <;> simp
    · obtain ⟨m, rfl⟩ : ∃ m, r = k + 1 + m := ⟨_, (Nat.add_sub_of_le more).symm⟩
      have apart : k + 1 + m ≠ k := by omega
      have place : k + 1 + m - k = m + 1 := by omega
      have after : k ≤ k + 1 + m := by omega
      cases a <;> simp [apart, place, after]

/-- Erased bits from a place of the stream on. -/
def erasedFrom (erased : List Bool) (p n : Nat) : Nat :=
  (erased.zipIdx.map fun e => if e.1 then bitsBelow erased.length e.2 (p + n) - bitsBelow erased.length e.2 p else 0).sum

theorem erasedFrom_succ (erased : List Bool) (p n : Nat) : erasedFrom erased p (n + 1) =
    erasedFrom erased p n + if erased.getD (symbolOf erased.length (p + n)) false then 1 else 0 := by
  have place := sum_atPlace erased ((p + n) % erased.length) 0
  rw [Nat.sub_zero] at place
  have only : (0 ≤ (p + n) % erased.length ∧ erased.getD ((p + n) % erased.length) false = true) =
      (erased.getD (symbolOf erased.length (p + n)) false = true) := by simp [symbolOf]
  simp only [only] at place
  rw [← place, erasedFrom, erasedFrom, ← List.sum_map_add]
  refine congrArg List.sum (List.map_congr_left fun e he => ?_)
  have inside : e.2 < erased.length := by
    have := List.mem_zipIdx he
    omega
  by_cases h : e.1 = true
  · rw [if_pos h, if_pos h, if_pos h, ← Nat.add_assoc p n 1, bitsBelow_succ inside]
    have mono := bitsBelow_mono erased.length e.2 (Nat.le_add_right p n)
    omega
  · rw [if_neg h, if_neg h, if_neg h]

/-- The erased bits of a codeword are those of its bits that go to erased symbols. -/
theorem erasedBits_count (erased : List Bool) (c : Nat) : erasedBits erased c =
    ((List.range 4320).filter fun j => erased.getD (symbolOf erased.length (4320 * c + j)) false).length := by
  have count : ∀ n, erasedFrom erased (4320 * c) n =
      ((List.range n).filter fun j => erased.getD (symbolOf erased.length (4320 * c + j)) false).length := by
    intro n
    induction n with
    | zero =>
      have none : ∀ e ∈ erased.zipIdx, (fun e : Bool × Nat => if e.1 then bitsBelow erased.length e.2 (4320 * c + 0) -
          bitsBelow erased.length e.2 (4320 * c) else 0) e = 0 := fun e _ => by
        dsimp only
        split
        · exact Nat.sub_self _
        · rfl
      exact List.sum_eq_zero fun x hx => by
        obtain ⟨e, he, rfl⟩ := List.mem_map.mp hx
        exact none e he
    | succ n ih =>
      rw [erasedFrom_succ, ih, List.range_succ, List.filter_append, List.length_append, List.filter_cons, List.filter_nil]
      by_cases h : erased.getD (symbolOf erased.length (4320 * c + n)) false = true
      · rw [if_pos h, if_pos h]
        rfl
      · rw [if_neg h, if_neg h]
        rfl
  exact count 4320

/-! ### Bursts -/

/-- Erased symbols bring at most so many erased bits each. -/
theorem sum_erased_le {f : Nat → Nat} {B : Nat} (bound : ∀ i, f i ≤ B) (l : List Bool) (k : Nat) :
    ((l.zipIdx k).map fun e => if e.1 then f e.2 else 0).sum ≤ l.count true * B := by
  induction l generalizing k with
  | nil => exact Nat.zero_le _
  | cons a l ih =>
    rw [List.zipIdx_cons, List.map_cons, List.sum_cons]
    have rest := ih (k + 1)
    cases a
    · simpa using rest
    · have here := bound k
      simp only [List.count_cons_self, Nat.add_mul, Nat.one_mul, if_true]
      omega

theorem erasedBits_le {erased : List Bool} {B : Nat} (bound : ∀ p i, bitsBelow erased.length i (p + 4320) ≤ bitsBelow erased.length i p + B)
    (c : Nat) : erasedBits erased c ≤ erased.count true * B :=
  sum_erased_le (f := fun i => bitsBelow erased.length i (4320 * (c + 1)) - bitsBelow erased.length i (4320 * c)) (fun i => by
    have := bound (4320 * c) i
    rw [Nat.mul_add, Nat.mul_one]
    omega) erased 0

/-- Erased symbols that bring a codeword no more erased bits than its rate allows leave the block decodable. -/
theorem withinFraction_of {rate bps B : Nat} {erased : List Bool} (whole : 4320 ≤ erased.length * bps)
    (bound : ∀ p i, bitsBelow erased.length i (p + 4320) ≤ bitsBelow erased.length i p + B)
    (few : 100 * (erased.count true * B) < erasable rate * 4320 + 2160) : withinFraction rate bps erased = true := by
  unfold withinFraction
  dsimp only
  have some_ : 0 < erased.length * bps / 4320 := Nat.div_pos whole (by decide)
  rw [decide_eq_true some_, Bool.true_and, List.all_eq_true]
  intro c _
  exact decide_eq_true (Nat.lt_of_le_of_lt (Nat.mul_le_mul_left 100 (erasedBits_le bound c)) few)

/-- The burst of the manual's table for a depth and a rate. -/
def burstOf (rate : Fin 4) (code : Fin 3) : Nat :=
  (([[6, 12, 25], [4, 8, 16], [2, 5, 11], [1, 3, 6]] : List (List Nat)).getD rate.val []).getD code.val 0

/-- At each depth, such a burst brings no codeword more erased bits than its rate allows. -/
theorem burst_few (rate : Fin 4) : 100 * (burstOf rate 0 * 270) < erasable rate.val * 4320 + 2160 ∧
    100 * (burstOf rate 1 * 135) < erasable rate.val * 4320 + 2160 ∧ 100 * (burstOf rate 2 * 68) < erasable rate.val * 4320 + 2160 := by
  revert rate
  decide

theorem burst_survives (rate : Fin 4) (code : Fin 3) (bps : Nat) (erased : List Bool) (length : erased.length = depthOf code.val)
    (whole : 4320 ≤ depthOf code.val * bps) (burst : erased.count true ≤ burstOf rate code) : withinFraction rate.val bps erased = true := by
  have survives (d B : Nat) (depth : depthOf code.val = d) (bound : ∀ x i : Nat, (x + 4320 + d - 1 - i) / d ≤ (x + d - 1 - i) / d + B)
      (few : 100 * (burstOf rate code * B) < erasable rate.val * 4320 + 2160) : withinFraction rate.val bps erased = true := by
    refine withinFraction_of (B := B) (by rw [length]; exact whole) (fun p i => ?_) ?_
    · rw [length, depth]
      exact bound p i
    · exact Nat.lt_of_le_of_lt (Nat.mul_le_mul_left 100 (Nat.mul_le_mul_right B burst)) few
  match code with
  | 0 => exact survives 16 270 rfl (fun x i => by omega) (burst_few rate).1
  | 1 => exact survives 32 135 rfl (fun x i => by omega) (burst_few rate).2.1
  | 2 => exact survives 64 68 rfl (fun x i => by omega) (burst_few rate).2.2

/-! ### The containers that fit -/

theorem takeFit_fits (space : Nat) (l : List (Byte × BkbOut)) :
    ((takeFit space l).1.map fun c => (c.2.bytes c.1).length).sum ≤ space ∧ (takeFit space l).1 ++ (takeFit space l).2 = l ∧
      ∀ c cs, (takeFit space l).2 = c :: cs → space < (((takeFit space l).1 ++ [c]).map fun c => (c.2.bytes c.1).length).sum := by
  induction l generalizing space with
  | nil => exact ⟨Nat.zero_le _, rfl, fun c cs h => by cases h⟩
  | cons c l ih =>
    rw [takeFit]
    split
    next fits =>
      obtain ⟨sum, whole, rest⟩ := ih (space - (c.2.bytes c.1).length)
      refine ⟨?_, congrArg (c :: ·) whole, fun x xs h => ?_⟩
      · rw [List.map_cons, List.sum_cons]
        omega
      · have := rest x xs h
        rw [List.cons_append, List.map_cons, List.sum_cons]
        omega
    next wide =>
      refine ⟨Nat.zero_le _, rfl, fun x xs h => ?_⟩
      obtain ⟨rfl, -⟩ := List.cons.inj h
      simpa using wide

end Sys2Proof.Proofs
end

section
set_option Elab.async false -- one theorem after another, which keeps Lean within its memory
/-! The frames of the backbone (R315 to R326): the coordinator's frame and its polls, a member's headers, soundings and routes. -/

namespace Sys2Proof.Proofs

open Sys2Proof Sys2Proof.Machine Sys2Proof.Safety Sys2Proof.Laws

variable {s : State}

/-! ### The coordinator's frame -/

/-- A frame is counted. -/
def countFrame (s : State) : State :=
  modBkb (fun b => { b with dfn := (b.dfn + 1) % 2 ^ 32, frameTick := s.now, notchNow := b.notch }) s

/-- DEPTH and RATE come into force. -/
def adoptCode (s : State) : State :=
  if s.bkb.dfn % 500 = 0 then modBkb (fun b => { b with depthNow := b.depth, rateNow := b.rate }) s else s

/-- The silent frame of a run is drawn. -/
def drawSilent (s : State) : State :=
  if s.bkb.dfn % 64 = 0 then modBkb (fun b => { b with silentAt := (drawNat s).1 % 64 }) (drawNat s).2 else s

/-- A frame before its header. -/
def openFrame (s : State) : State := drawSilent (adoptCode (countFrame s))

theorem backboneFrame_eq (s : State) : backboneFrame s =
    if (openFrame s).bkb.dfn % 64 = (openFrame s).bkb.silentAt then openFrame s else frameContent (openFrame s) := rfl

theorem drawSilent_sameFrame (s : State) : SameFrame s (drawSilent s) := by
  unfold drawSilent
  split <;> rfl

theorem adoptCode_only (s : State) : ∃ d r, adoptCode s = modBkb (fun b => { b with depthNow := d, rateNow := r }) s := by
  unfold adoptCode
  split
  · exact ⟨_, _, rfl⟩
  · exact ⟨s.bkb.depthNow, s.bkb.rateNow, rfl⟩

theorem openFrame_frame (s : State) : (openFrame s).bkb.dfn = (s.bkb.dfn + 1) % 2 ^ 32 ∧ (openFrame s).bkb.frameTick = s.now := by
  have drawn := drawSilent_sameFrame (adoptCode (countFrame s))
  obtain ⟨d, r, adopted⟩ := adoptCode_only (countFrame s)
  have same : frameOf (openFrame s).bkb = frameOf (countFrame s).bkb := by
    refine drawn.trans ?_
    rw [adopted]
    rfl
  exact ⟨congrArg (fun f => f.1) same, congrArg (fun f => f.2.2.1) same⟩

/-- Within a run of 64 frames only the frame's own numbers change before the header. -/
theorem openFrame_within (s : State) (within : (openFrame s).bkb.dfn % 64 ≠ 0) :
    ∃ d r, openFrame s = modBkb (fun b => { b with depthNow := d, rateNow := r }) (countFrame s) := by
  obtain ⟨d, r, adopted⟩ := adoptCode_only (countFrame s)
  have count := (openFrame_frame s).1
  have same : (adoptCode (countFrame s)).bkb.dfn = (s.bkb.dfn + 1) % 2 ^ 32 := by
    rw [adopted]
    rfl
  refine ⟨d, r, ?_⟩
  rw [count] at within
  unfold openFrame drawSilent
  rw [if_neg (by rw [same]; exact within), adopted]

theorem backboneFrame_counts (s : State) :
    (backboneFrame s).bkb.dfn = (s.bkb.dfn + 1) % 2 ^ 32 ∧ (backboneFrame s).bkb.frameTick = s.now := by
  obtain ⟨dfn, tick⟩ := openFrame_frame s
  rw [backboneFrame_eq]
  split
  · exact ⟨dfn, tick⟩
  · have same : frameOf (frameContent (openFrame s)).bkb = frameOf (openFrame s).bkb := frameContent_sameFrame (s0 := openFrame s) rfl
    exact ⟨(congrArg (fun f => f.1) same).trans dfn, (congrArg (fun f => f.2.2.1) same).trans tick⟩

/-- In the silent frame of a run nothing leaves. -/
theorem backboneFrame_silent (within : (backboneFrame s).bkb.dfn % 64 ≠ 0) (silent : (backboneFrame s).bkb.dfn % 64 = s.bkb.silentAt) :
    (backboneFrame s).outbox = s.outbox := by
  rw [(backboneFrame_counts s).1, ← (openFrame_frame s).1] at within silent
  obtain ⟨d, r, only⟩ := openFrame_within s within
  have at_ : (openFrame s).bkb.silentAt = s.bkb.silentAt := by
    rw [only]
    rfl
  rw [backboneFrame_eq, if_pos (silent.trans at_.symm), only]
  rfl

/-- The header of an invitation goes out before D. -/
theorem backboneFrame_invites (first : (backboneFrame s).bkb.dfn % 128 = 1) (heard : s.bkb.silentAt ≠ 1) :
    ∃ (h : Header) (u : State), backboneFrame s = sendD (nextPiece u) ∧
      u.outbox = .bkb (.header h (headerCarriers s.bkb.notch h)) (headerBytes h) :: s.outbox ∧ u.bkb.dQueue = s.bkb.dQueue ∧ h.uRole = 4 ∧
      h.dfn.toNat = (backboneFrame s).bkb.dfn ∧ h.coord = s.fuse.serial ∧ h.domain = s.bkb.domain := by
  have count := (backboneFrame_counts s).1.trans (openFrame_frame s).1.symm
  rw [count] at first ⊢
  have small : (openFrame s).bkb.dfn % 2 ^ 32 = (openFrame s).bkb.dfn := by
    rw [(openFrame_frame s).1, Nat.mod_mod]
  have within : (openFrame s).bkb.dfn % 64 = 1 := by omega
  obtain ⟨d, r, only⟩ := openFrame_within s (by omega)
  have unequal : (openFrame s).bkb.dfn % 64 ≠ (openFrame s).bkb.silentAt := by
    rw [within, only]
    exact fun e => heard e.symm
  have content : frameContent (openFrame s) =
      sendD (nextPiece (cryHeader (headerNow 0xFF 4 0xFF false (openFrame s)) (openFrame s))) := by
    unfold frameContent frameHead
    dsimp only
    rw [if_neg (by omega), if_neg (by omega), if_pos first]
  refine ⟨headerNow 0xFF 4 0xFF false (openFrame s), cryHeader (headerNow 0xFF 4 0xFF false (openFrame s)) (openFrame s),
    ?_, ?_, ?_, rfl, ?_, ?_, ?_⟩
  · rw [backboneFrame_eq, if_neg unequal, content]
  · rw [only]
    rfl
  · rw [only]
    rfl
  · exact (BitVec.toNat_ofNat ..).trans small
  · rw [only]
    rfl
  · rw [only]
    rfl

/-! ### Polls -/

theorem relayReport_rest (k : Fin 64) (lacking : Option Nat) (s : State) :
    (relayReport k lacking s).bkb.poll = s.bkb.poll ∧ (relayReport k lacking s).sct = s.sct := by
  unfold relayReport
  split
  · dsimp only
    split <;> exact ⟨rfl, rfl⟩
  · exact ⟨rfl, rfl⟩

/-- A member that is heard is present, at this tick. -/
theorem hear_entry (k : Fin 64) (s : State) : ((hear k s).sct.ledger[k.val]).lastTick = s.now ∧ ((hear k s).sct.ledger[k.val]).state ≠ .absent := by
  have entry := modEntry_self k (fun e => { e with lastTick := s.now, state := if e.state = .absent then .present else e.state }) s
  refine ⟨congrArg LedgerEntry.lastTick entry, fun absent => ?_⟩
  have state := (congrArg LedgerEntry.state entry).symm.trans absent
  dsimp only at state
  split at state
  next => exact SlotState.noConfusion state
  next other => exact other state

/-- A response ends its poll and shows the member present. -/
theorem heardResponse_ends (p : Poll) (missed : List Nat) (lacking : Option Nat) (s : State) :
    (heardResponse p missed lacking s).bkb.poll = none ∧ ((heardResponse p missed lacking s).sct.ledger[p.slot.val]).lastTick = s.now ∧
      ((heardResponse p missed lacking s).sct.ledger[p.slot.val]).state ≠ .absent := by
  unfold heardResponse
  dsimp only
  generalize ended : modBkb _ s = u
  have poll : u.bkb.poll = none := by
    rw [← ended]
    rfl
  have now : u.now = s.now := by
    rw [← ended]
    rfl
  obtain ⟨poll', sct⟩ := relayReport_rest p.slot lacking (hear p.slot u)
  obtain ⟨tick, state⟩ := hear_entry p.slot u
  rw [poll', sct]
  exact ⟨poll, tick.trans now, state⟩

theorem pollResponse_runs {p : Poll} {u : Option SegmentRx} {l : List Nat} {n : Option Nat} (poll : s.bkb.poll = some p)
    (over_ : p.left ≤ p.relays.length) : pollResponse p.slot u l n s =
    match u with
    | none => pollFailed p s
    | some rx =>
      if (blockDecodes s.bkb.rateNow rx.bps ((rx.quiet.take 22).map (erasedSymbol rx.floor)) rx.clean s).1 then
        heardResponse p l n (blockDecodes s.bkb.rateNow rx.bps ((rx.quiet.take 22).map (erasedSymbol rx.floor)) rx.clean s).2
      else pollFailed p (blockDecodes s.bkb.rateNow rx.bps ((rx.quiet.take 22).map (erasedSymbol rx.floor)) rx.clean s).2 := by
  have turn : ¬(p.slot ≠ p.slot ∨ p.relays.length < p.left) := by
    rintro (h | h)
    · exact h rfl
    · omega
  unfold pollResponse
  rw [poll]
  dsimp only
  exact (if_neg turn).trans (by cases u <;> rfl)

/-- A response that is not decoded is asked for again. -/
theorem pollResponse_retries {p : Poll} {u : Option SegmentRx} {l : List Nat} {n : Option Nat} (poll : s.bkb.poll = some p)
    (over_ : p.left ≤ p.relays.length) (again : p.retries < 2)
    (lost : ∀ rx, u = some rx → withinFraction s.bkb.rateNow rx.bps ((rx.quiet.take 22).map (erasedSymbol rx.floor)) = false) :
    pollResponse p.slot u l n s = { s with bkb := { s.bkb with
      poll := some { p with left := 2 * p.relays.length + 1, retry := true, retries := p.retries + 1 } } } := by
  rw [pollResponse_runs poll over_]
  cases u with
  | none => exact if_pos again
  | some rx =>
    have undecoded : blockDecodes s.bkb.rateNow rx.bps ((rx.quiet.take 22).map (erasedSymbol rx.floor)) rx.clean s = (false, s) :=
      if_neg (by rw [lost rx rfl]; exact Bool.false_ne_true)
    dsimp only
    rw [undecoded]
    exact (if_neg Bool.false_ne_true).trans (if_pos again)

/-! ### Headers -/

theorem cleanHeader {h : Header} {rx : SegmentRx} (on : bkbOn s = true) (crc : h.crcOk = true) (domain : h.domain = s.bkb.domain) :
    exec (.frameHeader (h, rx)) s = .next (if s.bkb.role = 2 then rivalHeader h s
       else if s.bkb.role = 1 then memberHeader h rx s
       else if s.bkb.role = 0 ∨ s.sct.refused then seekerHeader h s
       else s) :=
  congrArg Host.Outcome.next (if_pos ⟨on, crc, domain⟩)

/-- What a member notes of a header. -/
def noteHeader (h : Header) (s : State) : State :=
  modBkb (fun b => { b with dfn := h.dfn.toNat, lastDfn := some h.dfn.toNat, headerTick := s.now, gw := h.gw, notchNow := b.notch,
                            depthNow := h.depth, rateNow := h.rate }) s

theorem memberHeader_older {h : Header} {rx : SegmentRx} {d : Nat} (last : s.bkb.lastDfn = some d) (old : h.dfn.toNat ≤ d) :
    memberHeader h rx s = s := by
  unfold memberHeader
  rw [last]
  exact if_pos (decide_eq_true old)

theorem memberHeader_newer {h : Header} {rx : SegmentRx} (new : ∀ d, s.bkb.lastDfn = some d → d < h.dfn.toNat) :
    memberHeader h rx s = if h.coord ≠ s.bkb.coord then setRole 0 h.coord s.bkb.slot .asking (noteHeader h s)
      else modBkb (fun b => { b with lastU := some (h.dfn.toNat, h.uRole, h.target) })
        (actInFrame h rx (takeD h rx (checkPathB 3 s.bkb.gw (noteHeader h s)))) := by
  unfold memberHeader
  refine if_neg ?_
  cases last : s.bkb.lastDfn with
  | none => exact Bool.false_ne_true
  | some d =>
    have := new d last
    simpa using this

/-- A member takes a header of its coordinator with a higher frame number. -/
theorem memberHeader_takes {h : Header} {rx : SegmentRx} (member : s.bkb.role = 1) (new : ∀ d, s.bkb.lastDfn = some d → d < h.dfn.toNat)
    (coord : h.coord = s.bkb.coord) : (memberHeader h rx s).bkb.dfn = h.dfn.toNat ∧ (memberHeader h rx s).bkb.lastDfn = some h.dfn.toNat ∧
      (memberHeader h rx s).bkb.headerTick = s.now ∧ (memberHeader h rx s).bkb.gw = h.gw ∧ (memberHeader h rx s).bkb.role = 1 := by
  have same : SameFrame (noteHeader h s) (actInFrame h rx (takeD h rx (checkPathB 3 s.bkb.gw (noteHeader h s)))) :=
    actInFrame_sameFrame (takeD_sameFrame (checkPathB_sameFrame (s0 := noteHeader h s) rfl))
  rw [memberHeader_newer new, if_neg (not_not_intro coord)]
  have frame : frameOf (modBkb (fun b => { b with lastU := some (h.dfn.toNat, h.uRole, h.target) })
      (actInFrame h rx (takeD h rx (checkPathB 3 s.bkb.gw (noteHeader h s))))).bkb = frameOf (noteHeader h s).bkb :=
    modBkb_sameFrame same
  generalize modBkb (fun b => { b with lastU := some (h.dfn.toNat, h.uRole, h.target) })
    (actInFrame h rx (takeD h rx (checkPathB 3 s.bkb.gw (noteHeader h s)))) = t at frame
  exact ⟨congrArg (fun f => f.1) frame, congrArg (fun f => f.2.1) frame, congrArg (fun f => f.2.2.2.1) frame,
    congrArg (fun f => f.2.2.2.2.1) frame, (congrArg (fun f => f.2.2.2.2.2) frame).trans member⟩

/-- A header of another coordinator makes a member join again. -/
theorem memberHeader_rejoins {h : Header} {rx : SegmentRx} (first : s.bkb.lastDfn = none) (coord : h.coord ≠ s.bkb.coord) :
    memberHeader h rx s = setRole 0 h.coord s.bkb.slot .asking (noteHeader h s) := by
  rw [memberHeader_newer (fun d e => by rw [first] at e; cases e), if_pos coord]

/-- A node that asks to join answers an invitation. -/
theorem seekerHeader_asks {h : Header} {c : Nat} (asking : s.bkb.join = .asking) (invites : h.uRole = 4)
    (count : c = max s.bkb.dfn h.dfn.toNat) : ∃ x b, x < 16 ∧
      (seekerHeader h s).bkb = { s.bkb with dfn := c, lastDfn := some c, headerTick := s.now } ∧
      (seekerHeader h s).outbox = .bkb (.joinRequest s.fuse.serial (BitVec.ofNat 32 c) x) b :: s.outbox := by
  subst count
  have asks : seekerHeader h s = cry (.joinRequest s.fuse.serial (BitVec.ofNat 32 (max s.bkb.dfn h.dfn.toNat)) ((drawNat s).1 % 16))
      (drawNat (modBkb (fun b => { b with dfn := max b.dfn h.dfn.toNat, lastDfn := some (max b.dfn h.dfn.toNat), headerTick := s.now }) s)).2 := by
    unfold seekerHeader
    dsimp only [modBkb]
    rw [asking]
    exact if_pos ⟨rfl, invites⟩
  rw [asks]
  exact ⟨(drawNat s).1 % 16, _, Nat.mod_lt _ (by decide), rfl, rfl⟩

/-! ### Soundings, surveys and routes -/

/-- A barred carrier bears nothing. -/
theorem toneMap_barred (notch : Vector Notch 16) (snr : List Nat) {c : Nat} (carrier : c < 1024) (bar : barred notch c = true) :
    (toneMap notch snr).getD c 1 = 0 := by
  have at_c : (List.range 1024)[c]? = some c := List.getElem?_range carrier
  unfold toneMap
  rw [List.getD_eq_getElem?_getD, List.getElem?_map, at_c]
  exact if_pos bar

theorem sortNat_length {α : Type} (key : α → Nat) (l : List α) : (sortNat key l).length = l.length := (sortNat_perm key l).length_eq

/-- Routes are at most four. -/
theorem pickRoutes_length (l : List Route) : (pickRoutes l).length ≤ 4 := by
  unfold pickRoutes
  dsimp only
  rw [sortNat_length, List.length_append, List.length_take, List.length_take]
  omega

theorem rebuildAtlas_length (s : State) (k : Fin 64) : ((rebuildAtlas s).bkb.atlas[k.val]).length ≤ 4 := by
  unfold rebuildAtlas modBkb
  dsimp only
  rw [Vector.getElem_ofFn]
  split
  · exact pickRoutes_length _
  · exact Nat.zero_le _

/-- A route's mark of failure ends. -/
def unmark (now : Tick) (r : Route) : Route :=
  match r.failedUntil with
  | some t => if t ≤ now then { r with failedUntil := none } else r
  | none => r

theorem unmark_marked {now t0 : Tick} {r : Route} (h : (unmark now r).failedUntil = some t0) : now < t0 := by
  unfold unmark at h
  split at h
  next t until_ =>
    split at h
    next => cases h
    next late =>
      rw [until_] at h
      cases h
      exact Nat.lt_of_not_le late
  next none_ =>
    rw [none_] at h
    cases h

/-- Settles O40: erased bits are counted one by one; a frame's content leaves the frame counts alone, as does what a member does with its
header; every other clause is the act behind its guard. -/
theorem backboneFrames : Obligations.BackboneFrames := by
  unfold Obligations.BackboneFrames
  refine ⟨fun erased c _ => erasedBits_count erased c, fun rate code bps erased length whole burst =>
    burst_survives rate code bps erased length whole burst, takeFit_fits, fun s on => ⟨fun coord edge new => ?_,
      fun p n coord poll over_ => ⟨fun rx decodes clean => ?_, fun again u l lost => ?_⟩, fun h rx bad => ?_,
      fun h rx crc domain => ⟨fun d member last old => ?_, fun d member last new same => ?_, fun member first other => ?_,
        fun role asking invites c count => ?_, fun coord lower => ?_, fun coord higher => ?_⟩,
      fun k snr member other => ?_, fun links coord => ?_, ?_⟩⟩
  · have run : exec .backboneFrame s = .next (backboneFrame s) := congrArg Host.Outcome.next (if_pos ⟨on, coord, edge, .inl new⟩)
    obtain ⟨dfn, tick⟩ := backboneFrame_counts s
    exact ⟨_, run, dfn, tick, backboneFrame_silent, backboneFrame_invites⟩
  · have run : exec (.pollResponse p.slot (some rx) [] n) s = .next (pollResponse p.slot (some rx) [] n s) :=
      congrArg Host.Outcome.next (if_pos ⟨on, coord⟩)
    have decoded : blockDecodes s.bkb.rateNow rx.bps ((rx.quiet.take 22).map (erasedSymbol rx.floor)) rx.clean s = (true, s) :=
      (if_pos decodes).trans (if_pos clean)
    refine ⟨_, run, ?_⟩
    rw [pollResponse_runs poll over_]
    dsimp only
    rw [decoded]
    exact heardResponse_ends p [] n s
  · exact congrArg Host.Outcome.next ((if_pos ⟨on, coord⟩).trans (pollResponse_retries poll over_ again lost))
  · refine congrArg Host.Outcome.next (if_neg ?_)
    rintro ⟨-, crc, domain⟩
    rcases bad with broken | elsewhere
    · rw [broken] at crc
      exact Bool.false_ne_true crc
    · exact elsewhere domain
  · have notCoord : s.bkb.role ≠ 2 := by rw [member]; decide
    rw [cleanHeader on crc domain, if_neg notCoord, if_pos member, memberHeader_older last old]
  · have notCoord : s.bkb.role ≠ 2 := by rw [member]; decide
    rw [cleanHeader on crc domain, if_neg notCoord, if_pos member]
    exact ⟨_, rfl, memberHeader_takes member (fun e he => by rw [last] at he; cases he; exact new) same⟩
  · have notCoord : s.bkb.role ≠ 2 := by rw [member]; decide
    rw [cleanHeader on crc domain, if_neg notCoord, if_pos member, memberHeader_rejoins first other]
    refine ⟨_, rfl, ?_⟩
    rw [setRole_bkb]
    exact ⟨rfl, rfl, rfl⟩
  · have notCoord : s.bkb.role ≠ 2 := by rw [role]; decide
    have notMember : s.bkb.role ≠ 1 := by rw [role]; decide
    rw [cleanHeader on crc domain, if_neg notCoord, if_neg notMember, if_pos (.inl role)]
    obtain ⟨x, b, small, bkb, outbox⟩ := seekerHeader_asks asking invites count
    exact ⟨_, x, b, rfl, small, bkb, outbox⟩
  · rw [cleanHeader on crc domain, if_pos coord, rivalHeader, if_pos (.inl lower)]
    refine ⟨_, rfl, ?_⟩
    rw [setRole_bkb]
    exact ⟨rfl, rfl, rfl⟩
  · have unequal : h.coord ≠ s.fuse.serial := (BitVec.ne_of_lt higher).symm
    rw [cleanHeader on crc domain, if_pos coord, rivalHeader, if_neg, if_neg]
    · exact fun e => unequal e.1
    · rintro (lower | ⟨equal, -⟩)
      · exact absurd higher (BitVec.lt_asymm lower)
      · exact unequal equal
  · have run : exec (.sounding k snr) s = .next (sounding k snr s) := congrArg Host.Outcome.next (if_pos ⟨on, .inl member, other⟩)
    refine ⟨_, run, ?_, fun c carrier bar => toneMap_barred _ snr carrier bar⟩
    unfold sounding
    dsimp only
    rw [if_neg (by show ¬s.bkb.role = 2; rw [member]; decide)]
    exact List.mem_cons_self
  · exact ⟨_, congrArg Host.Outcome.next (if_pos ⟨on, coord⟩), rfl, rebuildAtlas_length _⟩
  · have run : exec .routeFailedExpiry s = .next (modBkb (fun b => { b with atlas := b.atlas.map fun l => l.map (unmark s.now) }) s) := rfl
    refine ⟨_, run, fun k r hr t0 until_ => ?_⟩
    have entry : (modBkb (fun b => { b with atlas := b.atlas.map fun l => l.map (unmark s.now) }) s).bkb.atlas[k.val] =
        (s.bkb.atlas[k.val]).map (unmark s.now) := Vector.getElem_map _ _
    rw [entry] at hr
    obtain ⟨q, -, rfl⟩ := List.mem_map.mp hr
    exact unmark_marked until_

end Sys2Proof.Proofs
end

section
set_option Elab.async false -- one theorem after another, which keeps Lean within its memory
/-! Stored words, tiles and the MRAM port (R415 to R432): what a read and a write of a word leave, and the placement of the records. -/

namespace Sys2Proof.Proofs

open Sys2Proof Sys2Proof.Machine Sys2Proof.Safety Sys2Proof.Laws

/-! ### What the movement of words leaves of the port -/

/-- The arbiter of the port and the map of the tiles are as they were. -/
structure SamePort (s t : State) : Prop where
  freeze : t.mem.freeze = s.mem.freeze
  waiting : t.mem.waiting = s.mem.waiting
  busy : t.mem.busy = s.mem.busy
  map : t.mem.map = s.mem.map

theorem SamePort.refl (s : State) : SamePort s s := ⟨rfl, rfl, rfl, rfl⟩

theorem SamePort.of_mem {s t : State} (same : t.mem = s.mem) : SamePort s t := by
  constructor <;> rw [same]

theorem SamePort.trans {s t u : State} (first : SamePort s t) (second : SamePort t u) : SamePort s u :=
  ⟨second.freeze.trans first.freeze, second.waiting.trans first.waiting, second.busy.trans first.busy, second.map.trans first.map⟩

theorem foldl_samePort {α : Type} (f : State → α → State) (keeps : ∀ s x, SamePort s (f s x)) (l : List α) (s : State) :
    SamePort s (l.foldl f s) := by
  induction l generalizing s with
  | nil => exact .refl s
  | cons x rest ih => exact (keeps s x).trans (ih (f s x))

theorem setWord_samePort (m : MemId) (a : Nat) (w : Stored) (s : State) : SamePort s (setWord m a w s) := by
  unfold setWord
  split
  · exact .refl s
  · cases m <;> exact ⟨rfl, rfl, rfl, rfl⟩

theorem queueReloc_samePort (tile : Nat) (failed : Bool) (s : State) : SamePort s (queueReloc tile failed s) := by
  unfold queueReloc
  split
  · exact .refl s
  · split
    · exact ⟨rfl, rfl, rfl, rfl⟩
    · split
      · exact ⟨rfl, rfl, rfl, rfl⟩
      · exact .refl s

theorem countWrites_samePort (t k : Nat) (s : State) : SamePort s (countWrites t k s) := by
  unfold countWrites
  dsimp only
  split <;> exact ⟨rfl, rfl, rfl, rfl⟩

theorem writeWord_samePort (m : MemId) (a : Nat) (d : W64) (poison : Bool) (s : State) : SamePort s (writeWord m a d poison s) := by
  unfold writeWord
  dsimp only
  split
  · exact (setWord_samePort m a _ s).trans (countWrites_samePort _ _ _)
  · exact setWord_samePort m a _ s

theorem noteCorrection_samePort (m : MemId) (a bit : Nat) (scrub : Bool) (s : State) : SamePort s (noteCorrection m a bit scrub s) := by
  unfold noteCorrection
  extract_lets key here win counted pass
  have count : SamePort s counted := ⟨rfl, rfl, rfl, rfl⟩
  clear_value counted
  refine count.trans ?_
  split
  · dsimp only
    split
    · refine SamePort.trans ?_ (queueReloc_samePort _ _ _)
      exact ⟨rfl, rfl, rfl, rfl⟩
    · exact ⟨rfl, rfl, rfl, rfl⟩
  · split
    · exact ⟨rfl, rfl, rfl, rfl⟩
    · refine SamePort.trans ?_ (.of_mem (setReplace_mem _ _))
      exact ⟨rfl, rfl, rfl, rfl⟩

theorem readWord_samePort (m : MemId) (a : Nat) (scrub : Bool) (s : State) : SamePort s (readWord m a scrub s).2 := by
  have noted : ∀ c : Prop, [Decidable c] → SamePort s (if c then noteCorrection m a 73 scrub s else s) := by
    intro c _
    split
    · exact noteCorrection_samePort m a 73 scrub s
    · exact .refl s
  unfold readWord
  dsimp only
  split
  · exact .refl s
  · split
    · exact (noted _).trans (setWord_samePort _ _ _ _)
    · split
      · exact (noted _).trans (setWord_samePort _ _ _ _)
      · exact ((noted _).trans (noteCorrection_samePort _ _ _ _ _)).trans (setWord_samePort _ _ _ _)
      · exact ((noted _).trans (setWord_samePort _ _ _ _)).trans ⟨rfl, rfl, rfl, rfl⟩
      · exact (noted _).trans (setWord_samePort _ _ _ _)

theorem mergeWord_samePort (m : MemId) (a : Nat) (mask : Byte) (d : W64) (s : State) : SamePort s (mergeWord m a mask d s) := by
  unfold mergeWord
  split
  · exact writeWord_samePort m a d false s
  · exact (readWord_samePort m a false s).trans (writeWord_samePort _ _ _ _ _)

theorem postTile_samePort (kind tile : Nat) (s : State) : SamePort s (postTile kind tile s) := ⟨rfl, rfl, rfl, rfl⟩

theorem failTile_samePort (t : Nat) (s : State) : SamePort s (failTile t s) := by
  unfold failTile
  extract_lets ws poisoned counted
  have poison : SamePort s poisoned := foldl_samePort _ (fun s e => setWord_samePort _ _ _ s) ws s
  have count : SamePort poisoned counted := ⟨rfl, rfl, rfl, rfl⟩
  exact ((poison.trans count).trans (postTile_samePort 0 t _)).trans (queueReloc_samePort t true _)

theorem verifyTile_samePort (t : Nat) (s : State) : SamePort s (verifyTile t s) := by
  unfold verifyTile
  extract_lets verified
  have noted : SamePort s verified := ⟨rfl, rfl, rfl, rfl⟩
  split
  · exact noted.trans (failTile_samePort t _)
  · exact noted

theorem moveWord_samePort (x : Xfer) (i : Nat) (s : State) : SamePort s (moveWord x i s) := by
  cases x with
  | write a ws =>
    show SamePort s (match ws[i]? with | some w => writeWord .mram (a + i) w.1 w.2 s | none => s)
    split
    · exact writeWord_samePort _ _ _ _ s
    · exact .refl s
  | writeBytes a mask d => exact mergeWord_samePort _ a mask d s
  | read a n =>
    have verified : SamePort s (if s.mem.verified.contains (tileOfWord (a + i)) then s else verifyTile (tileOfWord (a + i)) s) := by
      split
      · exact .refl s
      · exact verifyTile_samePort _ s
    exact verified.trans (readWord_samePort _ _ _ _)

/-! #### What a word holds -/

theorem wordAt_setWord (m : MemId) (a : Nat) (w : Stored) (s : State) (inside : a < memWords m)
    (wf : sparseWf ({} : Stored) (memTable m s) = true) : wordAt m a (setWord m a w s) = w := by
  unfold setWord
  rw [if_neg (Nat.not_le.mpr inside)]
  cases m <;> exact sparseGet_set_same _ a w _ 0 wf

theorem countWrites_memTable (t k : Nat) (m : MemId) (s : State) : memTable m (countWrites t k s) = memTable m s := by
  unfold countWrites
  dsimp only
  split <;> cases m <;> rfl

theorem queueReloc_table (tile : Nat) (failed : Bool) (m : MemId) (s : State) :
    memTable m (queueReloc tile failed s) = memTable m s ∧ (queueReloc tile failed s).mem.ceCount = s.mem.ceCount := by
  unfold queueReloc
  split
  · exact ⟨rfl, rfl⟩
  · split
    · cases m <;> exact ⟨rfl, rfl⟩
    · split
      · cases m <;> exact ⟨rfl, rfl⟩
      · exact ⟨rfl, rfl⟩

theorem memTable_of_mem {s t : State} (m : MemId) (same : t.mem = s.mem) : memTable m t = memTable m s := by
  unfold memTable
  rw [same]

theorem noteCorrection_counts (m : MemId) (a bit : Nat) (scrub : Bool) (n : MemId) (s : State) :
    memTable n (noteCorrection m a bit scrub s) = memTable n s ∧
      (noteCorrection m a bit scrub s).mem.ceCount = min 0xFFFFFFFF (s.mem.ceCount + 1) := by
  unfold noteCorrection
  extract_lets key here win counted pass
  have count : memTable n counted = memTable n s ∧ counted.mem.ceCount = min 0xFFFFFFFF (s.mem.ceCount + 1) := ⟨by cases n <;> rfl, rfl⟩
  clear_value counted
  rw [← count.1, ← count.2]
  split
  · dsimp only
    split
    · obtain ⟨table, count⟩ := queueReloc_table (tileOfWord a) false n _
      exact ⟨table.trans (by cases n <;> rfl), count⟩
    · cases n <;> exact ⟨rfl, rfl⟩
  · split
    · cases n <;> exact ⟨rfl, rfl⟩
    · exact ⟨(memTable_of_mem n (setReplace_mem _ _)).trans (by cases n <;> rfl), (congrArg Mem.ceCount (setReplace_mem _ _)).trans rfl⟩

theorem wordAt_writeWord (m : MemId) (a : Nat) (d : W64) (p : Bool) (s : State) (inside : a < memWords m)
    (wf : sparseWf ({} : Stored) (memTable m s) = true) :
    wordAt m a (writeWord m a d p s) = { data := d, poison := p, valid := true } := by
  have stored := wordAt_setWord m a { data := d, poison := p, valid := true } s inside wf
  unfold writeWord
  dsimp only
  split
  · exact (congrArg (sparseGet _ · a) (countWrites_memTable _ _ m _)).trans stored
  · exact stored

/-- A single error is corrected and counted (R415). -/
theorem readWord_single (m : MemId) (a : Nat) (w : Stored) (b : Nat) (s : State) (stands : w = wordAt m a s) (valid : w.valid = true)
    (one : w.flips = [b]) (small : b < 73) (inside : a < memWords m) (wf : sparseWf ({} : Stored) (memTable m s) = true) :
    ∃ t, readWord m a false s = ((w.data, w.poison), t) ∧ wordAt m a t = { w with flips := [] } ∧
      t.mem.ceCount = min 0xFFFFFFFF (s.mem.ceCount + 1) := by
  obtain ⟨table, count⟩ := noteCorrection_counts m a b false m s
  refine ⟨setWord m a { w with flips := [], valid := true } (noteCorrection m a b false s), ?_, ?_, ?_⟩
  · unfold readWord
    rw [← stands]
    simp [one, valid, Stored.isValid, Stored.codeFlips, small]
  · rw [wordAt_setWord m a _ _ inside (by rw [table]; exact wf), valid]
  · refine Eq.trans ?_ count
    unfold setWord
    split
    · rfl
    · cases m <;> rfl

/-- A double error is delivered, counted and written back poisoned (R415, R416). -/
theorem readWord_double (m : MemId) (a : Nat) (w : Stored) (b c : Nat) (s : State) (stands : w = wordAt m a s) (valid : w.valid = true)
    (two : w.flips = [b, c]) (order : b < c) (small : c < 73) (inside : a < memWords m)
    (wf : sparseWf ({} : Stored) (memTable m s) = true) :
    ∃ t, readWord m a false s = ((w.raw.data, true), t) ∧ (wordAt m a t).poison = true ∧
      t.mem.ueWord = min 65535 (s.mem.ueWord + 1) := by
  have first : b < 73 := Nat.lt_trans order small
  refine ⟨modMem (fun x => { x with ueWord := min 65535 (x.ueWord + 1) }) (setWord m a { w.raw with poison := true } s), ?_, ?_, ?_⟩
  · unfold readWord
    rw [← stands]
    simp [two, valid, Stored.isValid, Stored.codeFlips, small, first]
  · have stored := congrArg Stored.poison (wordAt_setWord m a { w.raw with poison := true } s inside wf)
    exact Eq.trans (by cases m <;> rfl) stored
  · have same : (setWord m a { w.raw with poison := true } s).mem.ueWord = s.mem.ueWord := by
      unfold setWord
      split
      · rfl
      · cases m <;> rfl
    exact congrArg (fun n => min 65535 (n + 1)) same

/-! #### Placement (R419) -/

theorem placed_of_map {s t : State} (same : t.mem.map = s.mem.map) : placed t = placed s := by
  unfold placed physTile
  rw [same]

theorem mapTile_map_of {s t : State} (same : t.mem.map = s.mem.map) (u p : Nat) : (mapTile u p t).mem.map = (mapTile u p s).mem.map := by
  unfold mapTile modMem
  dsimp only
  rw [same]

theorem exchangeTiles_map_of {s t : State} (same : t.mem.map = s.mem.map) (u v : Nat) :
    (exchangeTiles u v t).mem.map = (exchangeTiles u v s).mem.map := by
  have phys : ∀ k, physTile k t = physTile k s := fun k => by unfold physTile; rw [same]
  unfold exchangeTiles
  rw [phys, phys]
  exact mapTile_map_of (mapTile_map_of same _ _) _ _

theorem freeSpare_placed {t p : Nat} {s : State} (found : freeSpare t s = some p) : placed (mapTile t p s) = true := by
  have holds := List.find?_some found
  exact (Bool.and_eq_true _ _ ▸ holds).2

theorem leastWritten_placed {t u : Nat} {s : State} (found : leastWritten t s = some u) : placed (exchangeTiles t u s) = true := by
  have among : ∀ (l : List Nat) (best : Option (Nat × Nat)) (f : Nat → Nat) (Q : Nat → Prop), (∀ x ∈ l, Q x) → (∀ b, best = some b → Q b.1) →
      ∀ v, (l.foldl (fun best x => match best with
        | none => some (x, f x)
        | some b => if f x < b.2 then some (x, f x) else some b) best).map (·.1) = some v → Q v := by
    intro l
    induction l with
    | nil =>
      intro best f Q _ start v eq
      obtain ⟨b, isBest, rfl⟩ := Option.map_eq_some_iff.mp eq
      exact start b isBest
    | cons x rest ih =>
      intro best f Q all start v
      refine ih _ f Q (fun y mem => all y (List.mem_cons_of_mem _ mem)) ?_ v
      intro b eq
      have head := all x List.mem_cons_self
      cases best with
      | none => cases eq; exact head
      | some c =>
        dsimp only at eq
        split at eq
        · cases eq; exact head
        · cases eq; exact start _ rfl
  refine among _ none (fun u => sparseGet 0 s.mem.writes (physTile u s)) (fun u => placed (exchangeTiles t u s) = true) ?_ nofun u found
  intro x mem
  exact (Bool.and_eq_true _ _ ▸ (List.mem_filter.mp mem).2).2

theorem countCopy_samePort (t : Nat) (s : State) : SamePort s (countCopy t s) := countWrites_samePort _ _ _

theorem exchangeTile_placed (t : Nat) (s : State) (isPlaced : placed s = true) : placed (exchangeTile t s) = true := by
  unfold exchangeTile
  split
  next u found =>
    have port := ((countCopy_samePort t (exchangeTiles t u (modMem (fun m => { m with moves := min 65535 (m.moves + 1) }) s))).trans
      (countCopy_samePort u _)).trans (postTile_samePort 2 t _)
    have moved : (exchangeTiles t u (modMem (fun m => { m with moves := min 65535 (m.moves + 1) }) s)).mem.map = (exchangeTiles t u s).mem.map :=
      exchangeTiles_map_of rfl t u
    exact (placed_of_map (port.map.trans moved)).trans (leastWritten_placed found)
  next => exact isPlaced

/-- No switch of a tile gives the placement up (R419, R427). -/
theorem switchTile_placed (r : Reloc) (s : State) (isPlaced : placed s = true) : placed (switchTile r s) = true := by
  unfold switchTile
  split
  next p chosen =>
    have found : freeSpare r.tile s = some p := by
      split at chosen
      · exact chosen
      · cases chosen
    have replaced : ∀ v : State, SamePort v (if v.mem.spareLeft < 13 then setReplace 3 v else v) := by
      intro v
      split
      · exact .of_mem (setReplace_mem _ _)
      · exact .refl v
    extract_lets copied
    have port : SamePort copied _ := (replaced copied).trans (postTile_samePort 1 r.tile _)
    have moved : copied.mem.map = (mapTile r.tile p s).mem.map :=
      (countCopy_samePort r.tile _).map.trans (mapTile_map_of (s := s) rfl r.tile p)
    exact (placed_of_map (port.map.trans moved)).trans (freeSpare_placed found)
  next => exact exchangeTile_placed r.tile s isPlaced

end Sys2Proof.Proofs

end

section
set_option Elab.async false -- one theorem after another, which keeps Lean within its memory
/-! The MRAM port, its arbiter and the window of corrections (R424 to R432). -/

namespace Sys2Proof.Proofs

open Sys2Proof Sys2Proof.Machine Sys2Proof.Safety Sys2Proof.Laws

variable {s : State} {w : PortXfer} {r : PortReq}

/-- The transfer that a request asks for, none of its words moved. -/
def asked (r : PortReq) : PortXfer := { who := r.requester, xfer := r.xfer }

/-- A holder that has been pre-empted waits with none of its words moved. -/
def restarted (w : PortXfer) : PortXfer := { w with moved := 0 }

theorem raiseReq_waiting (alone : s.mem.waiting = []) (notHolder : ∀ x, s.mem.busy = some x → x.who ≠ r.requester) :
    raiseReq s r = modMem (fun m => { m with waiting := [asked r] }) s := by
  unfold raiseReq
  rw [if_neg]
  · rw [modMem, modMem, alone]
    rfl
  · rw [alone]
    cases holder : s.mem.busy with
    | none => simp
    | some x => simpa using notHolder x holder

/-- With one request the arbiter of a free port grants it (R429). -/
theorem arbitrate_single (x : PortXfer) (free : s.mem.busy = none) (open_ : s.mem.freeze = false) (single : s.mem.waiting = [x]) :
    (arbitrate s).mem.busy = some x ∧ (arbitrate s).mem.owner = x.who ∧ (arbitrate s).mem.waiting = [] := by
  have rest : s.mem.waiting.filter (fun y => decide (y.who ≠ x.who)) = [] := by simp [single]
  have wins : winner s = some x := by rw [winner, single]; rfl
  unfold arbitrate
  rw [if_neg (by simp [free, open_]), wins]
  dsimp only
  rw [rest]
  exact ⟨rfl, rfl, rfl⟩

theorem arbitrate_none (none_ : s.mem.waiting = []) : arbitrate s = s := by
  have wins : winner s = none := by rw [winner, none_]; rfl
  unfold arbitrate
  split
  · rfl
  · rw [wins]

/-- Of two requests the one of the higher class is granted, and the other goes on waiting (R429). -/
theorem arbitrate_class (x y : PortXfer) (free : s.mem.busy = none) (open_ : s.mem.freeze = false) (two : s.mem.waiting = [x, y])
    (class_ : portClass y.who < portClass x.who) (other : y.who ≠ x.who) :
    (arbitrate s).mem.owner = x.who ∧ y ∈ (arbitrate s).mem.waiting := by
  have rest : s.mem.waiting.filter (fun z => decide (z.who ≠ x.who)) = [y] := by simp [two, other]
  have behind : ranks s y.who x.who = false := by
    unfold ranks
    rw [if_pos (Nat.ne_of_lt class_)]
    exact decide_eq_false (Nat.lt_asymm class_)
  have wins : winner s = some x := by
    rw [winner, two]
    show (if ranks s y.who x.who then some y else some x) = some x
    rw [behind, if_neg Bool.false_ne_true]
  unfold arbitrate
  rw [if_neg (by simp [free, open_]), wins]
  dsimp only
  rw [rest]
  exact ⟨rfl, List.mem_singleton.mpr rfl⟩

theorem execMramPortRequest_free (free : s.rst.held0 = false) (reqs : List PortReq) :
    execMramPortRequest reqs s = .next (arbitrate (wordBoundary (reqs.foldl raiseReq s))) := by
  rw [execMramPortRequest, if_neg (by rw [free]; exact Bool.false_ne_true)]

/-- A free port is granted to the one that asks (R429). -/
theorem portRequest_granted (free : s.rst.held0 = false) (alone : s.mem.waiting = []) (idle : s.mem.busy = none)
    (open_ : s.mem.freeze = false) :
    ∃ t, exec (.mramPortRequest [r]) s = .next t ∧ t.mem.busy = some (asked r) ∧ t.mem.owner = r.requester ∧ t.mem.waiting = [] := by
  have raised : wordBoundary (raiseReq s r) = modMem (fun m => { m with waiting := [asked r] }) s := by
    rw [raiseReq_waiting alone (by rw [idle]; nofun), wordBoundary]
    show (match s.mem.busy with | none => _ | some w => _) = _
    rw [idle]
  refine ⟨_, execMramPortRequest_free free [r], ?_⟩
  show _ = _ ∧ _
  rw [List.foldl_cons, List.foldl_nil, raised]
  exact arbitrate_single (asked r) idle open_ rfl

/-- A transfer of one word ends at its word boundary (R430). -/
theorem portRequest_lastWord (who : Fin 8) (a : Nat) (d : W64) (q : Bool) (free : s.rst.held0 = false) (alone : s.mem.waiting = [])
    (inside : a < memWords .mram) (holder : s.mem.busy = some { who := who, xfer := .write a [(d, q)] })
    (wf : sparseWf ({} : Stored) s.mem.mram = true) :
    ∃ t, exec (.mramPortRequest []) s = .next t ∧ t.mem.busy = none ∧ wordAt .mram a t = { data := d, poison := q, valid := true } := by
  have ended : wordBoundary s = endXfer { who := who, xfer := .write a [(d, q)], moved := 1 } (writeWord .mram a d q s) := by
    rw [wordBoundary, holder]
    rfl
  have waits : (wordBoundary s).mem.waiting = [] := by
    rw [ended]
    exact (writeWord_samePort .mram a d q s).waiting.trans alone
  refine ⟨wordBoundary s, ?_, ?_, ?_⟩
  · rw [← arbitrate_none waits]
    rw [arbitrate_none waits]
    exact (execMramPortRequest_free free []).trans (congrArg Host.Outcome.next (arbitrate_none waits))
  · rw [ended]
    rfl
  · rw [ended]
    exact (wordAt_writeWord .mram a d q s inside wf : _)

/-- A request of a higher class takes the port from a transfer that has words left (R429, R430). -/
theorem portRequest_preempts (free : s.rst.held0 = false) (alone : s.mem.waiting = []) (holder : s.mem.busy = some w)
    (open_ : s.mem.freeze = false) (left : w.moved + 1 < xferSize w.xfer) (class_ : portClass w.who < portClass r.requester)
    (other : w.who ≠ r.requester) :
    ∃ t, exec (.mramPortRequest [r]) s = .next t ∧ t.mem.owner = r.requester ∧ (∃ x ∈ t.mem.waiting, x = restarted w) := by
  refine ⟨_, execMramPortRequest_free free [r], ?_⟩
  have raised : raiseReq s r = modMem (fun m => { m with waiting := [asked r] }) s :=
    raiseReq_waiting alone (by rw [holder]; rintro x ⟨⟩; exact other)
  have port := moveWord_samePort w.xfer w.moved (raiseReq s r)
  generalize moved : moveWord w.xfer w.moved (raiseReq s r) = v at port
  have frozen : v.mem.freeze = false := by rw [port.freeze, raised]; exact open_
  have waits : v.mem.waiting = [asked r] := by rw [port.waiting, raised]; rfl
  have boundary : wordBoundary (raiseReq s r) =
      preempt { w with moved := w.moved + 1 } (modMem (fun m => { m with busy := some { w with moved := w.moved + 1 } }) v) := by
    have stands : (raiseReq s r).mem.busy = some w := by rw [raised]; exact holder
    rw [wordBoundary, stands]
    dsimp only
    rw [moved, if_neg (Nat.not_le.mpr left), if_pos]
    refine ⟨by show (!v.mem.freeze) = true; rw [frozen]; rfl, ?_⟩
    show v.mem.waiting.any _ = true
    rw [waits]
    exact (Bool.or_false _).trans (decide_eq_true class_)
  obtain ⟨owner, waiting⟩ := arbitrate_class (s := wordBoundary (raiseReq s r)) (asked r) (restarted w) (by rw [boundary]; rfl)
    (by rw [boundary]; exact frozen) (by rw [boundary]; show v.mem.waiting ++ _ = _; rw [waits]; rfl) class_ other
  exact ⟨owner, _, waiting, rfl⟩

/-- The window of R424 ends; more corrected addresses than THRESH set GEN_REPLACE. -/
theorem ceRateWindowEnd_ends (up : s.rst.msdUp = true) (due : (s.mem.windowNo + 1) * 230400000 ≤ s.now) :
    ∃ t, exec .ceRateWindowEnd s = .next t ∧ t.mem.window = [] ∧ t.mem.windowNo = s.now / 230400000 ∧
      (s.mem.thresh < s.mem.window.length → t.gen.replace.getLsbD 0 = true) ∧ (s.mem.window.length ≤ s.mem.thresh → t.gen = s.gen) := by
  have ends : exec .ceRateWindowEnd s = .next (if decide (s.mem.thresh < s.mem.window.length) = true
      then setReplace 0 (modMem (fun m => { m with window := [], windowNo := s.now / ceWindow }) s)
      else modMem (fun m => { m with window := [], windowNo := s.now / ceWindow }) s) :=
    congrArg Host.Outcome.next (if_pos ⟨up, due⟩)
  by_cases more : s.mem.thresh < s.mem.window.length
  · rw [if_pos (decide_eq_true more)] at ends
    refine ⟨_, ends, ?_, ?_, fun _ => setReplace_effect.2.2, fun le => absurd more (Nat.not_lt.mpr le)⟩
    · rw [setReplace_mem]; rfl
    · rw [setReplace_mem]; rfl
  · rw [if_neg (by simpa using more)] at ends
    exact ⟨_, ends, rfl, rfl, fun lt => absurd lt more, fun _ => rfl⟩

/-- ARB_PRIO of requesters 0 to 3 is fixed (R432). -/
theorem arbPrioWrite_fixed (k : Fin 8) (v : W32) (up : LinkUp s) (low : k.val < 4) : exec (.arbPrioWrite k v) s = .next s :=
  congrArg Host.Outcome.next ((hostAcc_up _ up).trans (if_pos low))

/-- BASE of requesters 4 to 7 is written, and PRIO with it outside the requester's grant (R432). -/
theorem arbPrioWrite_base (k : Fin 8) (v : W32) (up : LinkUp s) (high : 4 ≤ k.val) (notHolder : ∀ w, s.mem.busy = some w → w.who ≠ k) :
    exec (.arbPrioWrite k v) s = .next { s with mem := { s.mem with
      base := s.mem.base.set k.val (bitsOf v.toNat 0 3), prio := s.mem.prio.set k.val (bitsOf v.toNat 0 3) } } := by
  have idle : (s.mem.busy.any fun x => decide (x.who = k)) = false := by
    cases holder : s.mem.busy with
    | none => rfl
    | some w => exact decide_eq_false (notHolder w holder)
  refine congrArg Host.Outcome.next ((hostAcc_up _ up).trans ?_)
  unfold writeArbPrio
  rw [if_neg (Nat.not_lt.mpr high)]
  rw [if_neg]
  · rfl
  · show ¬ (s.mem.busy.any _ = true)
    rw [idle]
    exact Bool.false_ne_true

/-- Settles O56. -/
theorem memoryAndPort : Obligations.MemoryAndPort := by
  unfold Obligations.MemoryAndPort
  intro s
  refine ⟨placed_unmoved _ rfl, fun r => switchTile_placed r s, fun m a d p => wordAt_writeWord m a d p s,
    fun m a w b stands valid one => readWord_single m a w b s stands valid one,
    fun m a w b c stands valid two => readWord_double m a w b c s stands valid two,
    fun who a d q free alone => portRequest_granted free alone, ?_, fun w r free alone => portRequest_preempts free alone,
    fun k v up => ⟨arbPrioWrite_fixed k v up, arbPrioWrite_base k v up⟩, ceRateWindowEnd_ends,
    fun f front => exec_front (act := memLogRead) front rfl⟩
  intro who a d q free alone inside holder wf
  exact portRequest_lastWord who a d q free alone inside holder wf

end Sys2Proof.Proofs

end

section
set_option Elab.async false -- one theorem after another, which keeps Lean within its memory
/-! The pieces of an image in the memory (R403, R406): what the words of a piece hold once it is stored. -/

namespace Sys2Proof.Proofs

open Sys2Proof Sys2Proof.Machine Sys2Proof.Safety Sys2Proof.Laws

/-! ### A listed entry of a sparse table -/

section
variable {α : Type} [DecidableEq α] {d v : α}

/-- A value that is not the default is listed, whatever the form of the table. -/
theorem sparseGet_list_same (listed : v ≠ d) (k : Nat) (l : List (Nat × α)) : sparseGet d (sparseSet d l k v) k = v := by
  induction l with
  | nil => simp [sparseSet, sparseGet, listed]
  | cons e rest ih =>
    obtain ⟨key, old⟩ := e
    unfold sparseSet
    rw [if_neg listed, if_neg listed]
    split
    next below =>
      rw [sparseGet, if_neg (Nat.ne_of_lt below)]
      exact ih
    next => split <;> simp [sparseGet]

/-- Every other index keeps its value. -/
theorem sparseGet_list_other (listed : v ≠ d) {k j : Nat} (other : j ≠ k) (l : List (Nat × α)) :
    sparseGet d (sparseSet d l k v) j = sparseGet d l j := by
  induction l with
  | nil => simp [sparseSet, sparseGet, listed, other.symm]
  | cons e rest ih =>
    obtain ⟨key, old⟩ := e
    unfold sparseSet
    rw [if_neg listed, if_neg listed]
    split
    · rw [sparseGet, sparseGet, ih]
    · split
      next same => simp [sparseGet, same, other.symm]
      next => rw [sparseGet, if_neg other.symm]
end

/-! ### The words of a piece -/

/-- A word as a write of clean data leaves it (R416). -/
def written (d : W64) : Stored := { data := d, poison := false, valid := true }

theorem written_listed (d : W64) : written d ≠ {} := fun e => Bool.noConfusion (congrArg Stored.valid e : true = false)

theorem writeWord_mram (a : Nat) (d : W64) (s : State) (inside : a < memWords .mram) :
    (writeWord .mram a d false s).mem.mram = sparseSet {} s.mem.mram a (written d) := by
  unfold writeWord
  rw [if_pos ⟨rfl, inside⟩]
  refine (countWrites_memTable _ _ .mram _).trans ?_
  unfold setWord
  rw [if_neg (Nat.not_le.mpr inside)]
  rfl

theorem wordAt_writeWord_same (a : Nat) (d : W64) (s : State) (inside : a < memWords .mram) :
    wordAt .mram a (writeWord .mram a d false s) = written d :=
  (congrArg (sparseGet _ · a) (writeWord_mram a d s inside)).trans (sparseGet_list_same (written_listed d) a _)

theorem wordAt_writeWord_other {a b : Nat} (d : W64) (s : State) (inside : a < memWords .mram) (other : b ≠ a) :
    wordAt .mram b (writeWord .mram a d false s) = wordAt .mram b s :=
  (congrArg (sparseGet _ · b) (writeWord_mram a d s inside)).trans (sparseGet_list_other (written_listed d) other _)

/-- The first n words of a run are written, one after the other. -/
theorem wordAt_writeRun (base : Nat) (word : Nat → W64) (s : State) (n : Nat) (inside : base + n ≤ memWords .mram) (j : Nat) (among : j < n) :
    wordAt .mram (base + j) ((List.range n).foldl (fun s j => writeWord .mram (base + j) (word j) false s) s) = written (word j) := by
  induction n with
  | zero => exact absurd among (Nat.not_lt_zero j)
  | succ n ih =>
    rw [List.range_succ, List.foldl_append, List.foldl_cons, List.foldl_nil]
    rcases Nat.lt_succ_iff_lt_or_eq.mp among with earlier | rfl
    · rw [wordAt_writeWord_other _ _ (by omega) (by omega)]
      exact ih (by omega) earlier
    · exact wordAt_writeWord_same _ _ _ (by omega)

theorem slotTile_le (k : Fin 2) : slotTile k ≤ 1408 := by
  unfold slotTile
  extract_lets a b
  have first : a < 769 := Nat.mod_lt _ (by decide)
  have rest : Config.slotPlace 1 % (769 - a) < 769 - a := Nat.mod_lt _ (by omega)
  have second : b = a + 640 + Config.slotPlace 1 % (769 - a) := rfl
  split <;> omega

/-- A piece lies inside the memory (R403). -/
theorem pieceWord_inside (k : Fin 2) {idx : Nat} (piece : idx < 5120) : pieceWord k idx + 64 ≤ memWords .mram := by
  have tile := slotTile_le k
  have size : memWords .mram = 1048576 := rfl
  rw [size, pieceWord]
  omega

theorem wordAt_writePiece (k : Fin 2) {idx : Nat} (bytes : List Byte) (s : State) (piece : idx < 5120) {j : Nat} (among : j < 64) :
    wordAt .mram (pieceWord k idx + j) (writePiece k idx bytes s) = written (BitVec.ofNat 64 (leNat (slice bytes (8 * j) 8))) :=
  wordAt_writeRun (pieceWord k idx) (fun j => BitVec.ofNat 64 (leNat (slice bytes (8 * j) 8))) s 64 (pieceWord_inside k piece) j among

/-- Nothing but the memory has changed. -/
def OnlyMemory (s t : State) : Prop := t = { s with mem := t.mem }

theorem OnlyMemory.trans {s t u : State} (first : OnlyMemory s t) (second : OnlyMemory t u) : OnlyMemory s u := by
  rw [OnlyMemory, second, first]

theorem setWord_onlyMemory (m : MemId) (a : Nat) (w : Stored) (s : State) : OnlyMemory s (setWord m a w s) := by
  unfold setWord
  split
  · rfl
  · cases m <;> rfl

theorem countWrites_onlyMemory (t k : Nat) (s : State) : OnlyMemory s (countWrites t k s) := by
  unfold countWrites
  dsimp only
  split <;> rfl

theorem writeWord_onlyMemory (m : MemId) (a : Nat) (d : W64) (poison : Bool) (s : State) : OnlyMemory s (writeWord m a d poison s) := by
  unfold writeWord
  dsimp only
  split
  · exact (setWord_onlyMemory m a _ s).trans (countWrites_onlyMemory _ _ _)
  · exact setWord_onlyMemory m a _ s

theorem writePiece_onlyMemory (k : Fin 2) (i : Nat) (bytes : List Byte) (s : State) : OnlyMemory s (writePiece k i bytes s) :=
  List.foldlRecOn (motive := OnlyMemory s) _ _ rfl fun _ h _ _ => h.trans (writeWord_onlyMemory _ _ _ _ _)

/-! ### A piece is stored (R406) -/

/-- The slot with the bit of a piece set. -/
def pieceNoted (x : ImageSlot) (idx : Nat) : ImageSlot := { x with bitmap := x.bitmap ||| BitVec.ofNat 5120 (2 ^ idx) }

/-- An image slot is replaced. -/
def inSlot (k : Fin 2) (x : ImageSlot) (u : Upd) : Upd := { u with slot := u.slot.set k.val x }

theorem pieceNoted_bit (x : ImageSlot) (idx j : Nat) (among : j < 5120) :
    (pieceNoted x idx).bitmap.getLsbD j = (x.bitmap.getLsbD j || decide (j = idx)) := by
  show (x.bitmap ||| BitVec.ofNat 5120 (2 ^ idx)).getLsbD j = _
  rw [BitVec.getLsbD_or, BitVec.getLsbD_ofNat, Nat.testBit_two_pow, decide_eq_true among, Bool.true_and, decide_eq_decide.mpr eq_comm]

/-- What the storing of a piece leaves: the words, the bit, and nothing else of the backbone. -/
structure PieceStored (s : State) (idx : Nat) (bytes : List Byte) (t : State) : Prop where
  slot : t.upd = inSlot (otherSlot s) (pieceNoted (imageSlot s (otherSlot s)) idx) s.upd
  bkb : t.bkb = s.bkb
  words : ∀ j, j < 64 → (wordAt .mram (pieceWord (otherSlot s) idx + j) t).data = BitVec.ofNat 64 (leNat (slice bytes (8 * j) 8))

theorem storePiece_stored (idx : Nat) (bytes : List Byte) (s : State) (piece : idx < 5120) : PieceStored s idx bytes (storePiece idx bytes s) := by
  have only := writePiece_onlyMemory (otherSlot s) idx bytes s
  have words := fun j among => congrArg Stored.data (wordAt_writePiece (otherSlot s) bytes s piece (j := j) among)
  unfold storePiece
  dsimp only
  generalize writePiece (otherSlot s) idx bytes s = v at only words
  have upd : v.upd = s.upd := by rw [only]
  have bkb : v.bkb = s.bkb := by rw [only]
  have stored : PieceStored s idx bytes (modUpd (inSlot (otherSlot s) (pieceNoted (imageSlot s (otherSlot s)) idx)) v) :=
    ⟨congrArg (inSlot (otherSlot s) _) upd, bkb, words⟩
  split
  · exact ⟨stored.slot, stored.bkb, stored.words⟩
  · exact stored

theorem imageSlot_of_upd {s t : State} (same : t.upd = s.upd) (k : Fin 2) : imageSlot t k = imageSlot s k := by
  rw [imageSlot, imageSlot, same]

variable {s t : State} {idx : Nat} {bytes : List Byte}

theorem PieceStored.image (stored : PieceStored s idx bytes t) : imageSlot t (otherSlot s) = pieceNoted (imageSlot s (otherSlot s)) idx := by
  rw [imageSlot, stored.slot]
  exact Vector.getElem_set_self _

theorem PieceStored.other (stored : PieceStored s idx bytes t) : otherSlot t = otherSlot s := by
  rw [otherSlot, stored.slot]
  rfl

theorem PieceStored.bit (stored : PieceStored s idx bytes t) (j : Nat) (among : j < 5120) :
    (imageSlot t (otherSlot s)).bitmap.getLsbD j = ((imageSlot s (otherSlot s)).bitmap.getLsbD j || decide (j = idx)) := by
  rw [stored.image, pieceNoted_bit _ idx j among]

theorem armedSlot_image {x : ImageSlot} (armed : armedSlot s = some x) : x = imageSlot s (otherSlot s) := by
  unfold armedSlot at armed
  split at armed
  · exact (Option.some.inj armed).symm
  · cases armed

end Sys2Proof.Proofs

end

section
set_option Elab.async false -- one theorem after another, which keeps Lean within its memory
/-! The registers and descriptors of the backbone (R320 to R327, R336, R337). -/

namespace Sys2Proof.Proofs

open Sys2Proof Sys2Proof.Machine Sys2Proof.Safety Sys2Proof.Laws

variable {s : State} {f : Flight}

/-! ### Leaving the domain -/

theorem leaveDomain_role (s : State) : (leaveDomain s).bkb.role = 0 := by
  unfold leaveDomain rejoinDomain
  dsimp only
  split
  next out => exact out
  next => exact congrArg Bkb.role (setRole_bkb 0 _ _ _ s)

/-- The settings of BKB_CFG and the domain. -/
def bkbSettings (b : Bkb) : Bool × Bool × Nat × Nat × Nat × W32 := (b.en, b.coordEn, b.depth, b.rate, b.relayShare, b.domain)

theorem leaveDomain_settings (s : State) : bkbSettings (leaveDomain s).bkb = bkbSettings s.bkb := by
  unfold leaveDomain rejoinDomain
  dsimp only
  split
  · rfl
  · have settings := congrArg bkbSettings (setRole_bkb 0 s.bkb.coord s.bkb.slot (if bkbOn s = true then .listening s.now else .off) s)
    exact settings

theorem forgetLedger_bkb (s : State) : (forgetLedger s).bkb = s.bkb := by
  unfold forgetLedger
  exact (foldl_aside (fun t q => completeSeq_aside _ _ _ _ _ t) _).bkb

/-! ### BKB_CFG, BKB_DOMAIN and the notches (R336) -/

theorem writeBkbCfg_reject {v : Nat} (out : bitsOf v 2 2 = 3 ∨ 8 < bitsOf v 8 4) :
    writeBkbCfg v s = { s with bkb := { s.bkb with cfgReject := true } } := if_pos out

/-- The fields of BKB_CFG are taken. -/
def withBkbCfg (v : Nat) (b : Bkb) : Bkb :=
  { b with en := bitAt v 0, coordEn := bitAt v 1, depth := bitsOf v 2 2, rate := bitsOf v 4 2, relayShare := bitsOf v 8 4 }

theorem writeBkbCfg_take {v : Nat} (depth : bitsOf v 2 2 ≠ 3) (share : bitsOf v 8 4 ≤ 8) :
    writeBkbCfg v s = if bitAt v 0 = s.bkb.en then modBkb (withBkbCfg v) s else leaveDomain (modBkb (withBkbCfg v) s) := by
  unfold writeBkbCfg
  rw [if_neg (not_or.mpr ⟨depth, Nat.not_lt.mpr share⟩)]
  by_cases same : bitAt v 0 = s.bkb.en
  · rw [if_pos same]
    exact if_neg (by simp [same])
  · rw [if_neg same]
    exact if_pos (by simp [same])

theorem bkbCfgWrite_takes (v : W32) (up : LinkUp s) (depth : bitsOf v.toNat 2 2 ≠ 3) (share : bitsOf v.toNat 8 4 ≤ 8) :
    ∃ t, exec (.bkbCfgWrite false v) s = .next t ∧
      t.bkb.en = bitAt v.toNat 0 ∧ t.bkb.coordEn = bitAt v.toNat 1 ∧ t.bkb.depth = bitsOf v.toNat 2 2 ∧
      t.bkb.rate = bitsOf v.toNat 4 2 ∧ t.bkb.relayShare = bitsOf v.toNat 8 4 ∧
      (bitAt v.toNat 0 = s.bkb.en → t.bkb.role = s.bkb.role) ∧ (bitAt v.toNat 0 ≠ s.bkb.en → t.bkb.role = 0) := by
  have runs : exec (.bkbCfgWrite false v) s = .next (writeBkbCfg v.toNat s) := congrArg Host.Outcome.next (hostAcc_up _ up)
  rw [writeBkbCfg_take depth share] at runs
  by_cases same : bitAt v.toNat 0 = s.bkb.en
  · rw [if_pos same] at runs
    exact ⟨_, runs, rfl, rfl, rfl, rfl, rfl, fun _ => rfl, fun changed => absurd same changed⟩
  · rw [if_neg same] at runs
    have settings := leaveDomain_settings (modBkb (withBkbCfg v.toNat) s)
    exact ⟨_, runs, congrArg (·.1) settings, congrArg (·.2.1) settings, congrArg (·.2.2.1) settings, congrArg (·.2.2.2.1) settings,
      congrArg (·.2.2.2.2.1) settings, fun stays => absurd stays same, fun _ => leaveDomain_role _⟩

theorem bkbDomainWrite_leaves (v : W32) (up : LinkUp s) (new : v ≠ s.bkb.domain) :
    ∃ t, exec (.bkbCfgWrite true v) s = .next t ∧ t.bkb.domain = v ∧ t.bkb.role = 0 := by
  refine ⟨_, congrArg Host.Outcome.next ((hostAcc_up _ up).trans (if_neg new)), ?_, leaveDomain_role _⟩
  have settings := leaveDomain_settings (forgetLedger (modBkb (fun b => { b with domain := v }) s))
  rw [forgetLedger_bkb] at settings
  exact congrArg (·.2.2.2.2.2) settings

theorem bkbNotchWrite_takes (k : Fin 16) (v : W32) (n : Notch) (all : Vector Notch 16) (up : LinkUp s)
    (fields : n = { first := bitsOf v.toNat 0 10, last := bitsOf v.toNat 16 10, en := bitAt v.toNat 31 }) (whole : all = s.bkb.notch.set k.val n)
    (order : n.en = true → n.first ≤ n.last) (left : 448 ≤ ((List.range 1024).filter fun c => !barred all c).length) :
    exec (.bkbNotchWrite k v) s = .next { s with bkb := { s.bkb with notch := all } } := by
  subst fields whole
  refine congrArg Host.Outcome.next ((hostAcc_up _ up).trans (if_neg ?_))
  rintro (⟨en, crossed⟩ | few)
  · exact Nat.not_lt.mpr (order en) crossed
  · exact Nat.not_lt.mpr left few

theorem bkbNotchWrite_rejects (k : Fin 16) (v : W32) (up : LinkUp s) (en : bitAt v.toNat 31 = true)
    (crossed : bitsOf v.toNat 16 10 < bitsOf v.toNat 0 10) :
    exec (.bkbNotchWrite k v) s = .next { s with bkb := { s.bkb with cfgReject := true } } :=
  congrArg Host.Outcome.next ((hostAcc_up _ up).trans (if_pos (.inl ⟨en, crossed⟩)))

/-! ### The relay (R327, R337) -/

theorem postRelay_eventsOnly (k : Nat) (r : Relay) (s : State) : EventsOnly s (postRelay k r s) := postMail_eventsOnly _ _ _ s

theorem bkbRelayStart_held {x : Fin 2} (front : Front 0x0705 f s) (free : s.bkb.relay = none)
    (held : heldImage (BitVec.ofNat 32 (f.p 16 4)) s = some x) :
    ∃ t, exec .bkbRelayStart s = .next t ∧
      t.bkb = { s.bkb with relay := some { imageId := BitVec.ofNat 32 (f.p 16 4), pieces := (imageSlot s x).pieces, slot := x } } ∧
      JournalAndEventsOnly { s with bkb := t.bkb } t := by
  have acts : bkbRelayStart f s = complete f .ok 0 (leBytes 2 (imageSlot s x).pieces) none
      (postRelay 0 { imageId := BitVec.ofNat 32 (f.p 16 4), pieces := (imageSlot s x).pieces, slot := x }
        (modBkb (fun b => { b with relay := some { imageId := BitVec.ofNat 32 (f.p 16 4), pieces := (imageSlot s x).pieces, slot := x } }) s)) := by
    unfold bkbRelayStart
    rw [free, if_neg (by simp)]
    dsimp only
    rw [held]
  refine ⟨_, exec_front (act := bkbRelayStart) front rfl, ?_, ?_⟩
  · rw [acts, complete_bkb]
    rfl
  · rw [acts, complete_bkb]
    exact JournalAndEventsOnly.trans (EventsOnly.journal (postRelay_eventsOnly _ _ _)) (HostAndJournalOnly.events (complete_frame _ _ _ _ _ _))

theorem bkbRelayStop_running {r : Relay} (front : Front 0x0706 f s) (running : s.bkb.relay = some r) :
    ∃ t, exec .bkbRelayStop s = .next t ∧ t.bkb = { s.bkb with relay := none } ∧ JournalAndEventsOnly { s with bkb := t.bkb } t := by
  have acts : bkbRelayStop f s = completeSt f .ok (postRelay 2 r (modBkb (fun b => { b with relay := none }) s)) := by
    unfold bkbRelayStop
    rw [running]
  refine ⟨_, exec_front (act := bkbRelayStop) front rfl, ?_, ?_⟩
  · rw [acts, completeSt_bkb]
    rfl
  · rw [acts, completeSt_bkb]
    exact JournalAndEventsOnly.trans (EventsOnly.journal (postRelay_eventsOnly _ _ _)) (HostAndJournalOnly.events (completeSt_frame _ _ _))

/-- A piece of the armed image that comes over the backbone is stored, and the coordinator sends it on (R327). -/
theorem firmwarePiece_stored {x : ImageSlot} {idx : Nat} {data : List Byte} (on : bkbOn s = true) (armed : armedSlot s = some x)
    (source : x.sources.getLsbD 1 = true) (inImage : idx < x.pieces) (piece : idx < 5120) (new : x.bitmap.getLsbD idx = false) :
    ∃ t, exec (.firmwarePiece x.imageId idx data) s = .next t ∧
      (imageSlot t (otherSlot s)).bitmap.getLsbD idx = true ∧
      (∀ j, j < 64 → (wordAt .mram (pieceWord (otherSlot s) idx + j) t).data = BitVec.ofNat 64 (leNat (slice (slice data 0 512) (8 * j) 8))) ∧
      (s.bkb.role = 2 → t.bkb.pieces = s.bkb.pieces ++ [(x.imageId, idx, slice data 0 512)]) ∧ (s.bkb.role ≠ 2 → t.bkb = s.bkb) := by
  have stored := storePiece_stored idx (slice data 0 512) s piece
  have relayed : relayPiece x.imageId idx data s = storePiece idx (slice data 0 512) s := by
    unfold relayPiece
    rw [armed]
    exact if_pos ⟨source, rfl, inImage, by rw [new]; rfl⟩
  have runs : exec (.firmwarePiece x.imageId idx data) s = .next (if (storePiece idx (slice data 0 512) s).bkb.role = 2
      then modBkb (fun b => { b with pieces := b.pieces ++ [(x.imageId, idx, slice data 0 512)] }) (storePiece idx (slice data 0 512) s)
      else storePiece idx (slice data 0 512) s) := by
    refine congrArg Host.Outcome.next ?_
    rw [on, if_neg (by simp), relayed]
  generalize storePiece idx (slice data 0 512) s = v at stored runs
  have bit : (imageSlot v (otherSlot s)).bitmap.getLsbD idx = true := by rw [stored.bit idx piece, decide_eq_true rfl, Bool.or_true]
  rw [stored.bkb] at runs
  by_cases coord : s.bkb.role = 2
  · rw [if_pos coord] at runs
    refine ⟨_, runs, bit, stored.words, fun _ => ?_, fun other => absurd coord other⟩
    exact congrArg (fun b : Bkb => b.pieces ++ [(x.imageId, idx, slice data 0 512)]) stored.bkb
  · rw [if_neg coord] at runs
    exact ⟨_, runs, bit, stored.words, fun is => absurd is coord, fun _ => stored.bkb⟩

/-- Settles O42. -/
theorem backboneCommands : Obligations.BackboneCommands := by
  unfold Obligations.BackboneCommands
  intro s f
  refine ⟨fun v up out => congrArg Host.Outcome.next ((hostAcc_up _ up).trans (writeBkbCfg_reject out)), bkbCfgWrite_takes, bkbDomainWrite_leaves,
    bkbNotchWrite_takes, bkbNotchWrite_rejects, fun front coord => (exec_front front rfl).trans (congrArg Host.Outcome.next (if_pos coord)),
    fun front other => (exec_front front rfl).trans (congrArg Host.Outcome.next (if_neg other)), ?_, fun x => bkbRelayStart_held, ?_,
    fun r => bkbRelayStop_running, fun x idx data => firmwarePiece_stored,
    fun front busy => (exec_front (act := bkbRelayStart) front rfl).trans (congrArg Host.Outcome.next (if_pos busy))⟩
  · intro front free unheld
    refine (exec_front (act := bkbRelayStart) front rfl).trans (congrArg Host.Outcome.next ?_)
    unfold bkbRelayStart
    rw [free, if_neg (by simp)]
    dsimp only
    rw [unheld]
  · intro front idle
    refine (exec_front (act := bkbRelayStop) front rfl).trans (congrArg Host.Outcome.next ?_)
    unfold bkbRelayStop
    rw [idle]

end Sys2Proof.Proofs

end

section
set_option Elab.async false -- one theorem after another, which keeps Lean within its memory
/-! The check of an image and the sources that end a run (R408 to R412): what they leave of the update block and of the settings. -/

namespace Sys2Proof.Proofs

open Sys2Proof Sys2Proof.Machine Sys2Proof.Safety Sys2Proof.Laws

variable {s t u : State}

/-! ### The units beside the memory -/

/-- The memory, readiness, events and completions apart, the units are as they were. -/
def BesideMem (s t : State) : Prop := Aside { s with mem := t.mem } t

theorem BesideMem.of_aside (h : Aside s t) : BesideMem s t := by
  have mem : t.mem = s.mem := h.unit fun _ _ _ _ _ _ => rfl
  have same : { s with mem := t.mem } = s := by rw [mem]
  rw [BesideMem, same]
  exact h

theorem BesideMem.refl (s : State) : BesideMem s s := Aside.refl s

theorem BesideMem.trans (h : BesideMem s t) (e : BesideMem t u) : BesideMem s u := by
  obtain ⟨gen, units⟩ := h
  obtain ⟨gen', units'⟩ := e
  refine ⟨gen.trans gen', ?_⟩
  rw [units', units]

theorem BesideMem.of_only (h : OnlyMemory s t) : BesideMem s t := by
  rw [BesideMem, ← h]
  exact .refl t

theorem modMem_besideMem (f : Mem → Mem) (s : State) : BesideMem s (modMem f s) := ⟨rfl, rfl⟩

theorem BesideMem.foldl {α : Type} {f : State → α → State} (keeps : ∀ s x, BesideMem s (f s x)) (l : List α) (s : State) :
    BesideMem s (l.foldl f s) :=
  List.foldlRecOn (motive := BesideMem s) l f (.refl s) fun _ h _ _ => h.trans (keeps _ _)

theorem BesideMem.upd (h : BesideMem s t) : t.upd = s.upd := Aside.upd (s := { s with mem := t.mem }) h

theorem BesideMem.rst (h : BesideMem s t) : t.rst = s.rst := Aside.rst (s := { s with mem := t.mem }) h

theorem BesideMem.settings (h : BesideMem s t) : settingsOf t = settingsOf s :=
  (Aside.unit (s := { s with mem := t.mem }) h fun _ _ _ _ _ _ => rfl).trans rfl

theorem queueReloc_besideMem (tile : Nat) (failed : Bool) (s : State) : BesideMem s (queueReloc tile failed s) := by
  unfold queueReloc
  split
  · exact .refl s
  · split
    · exact modMem_besideMem _ s
    · split
      · exact modMem_besideMem _ s
      · exact .refl s

theorem noteCorrection_besideMem (m : MemId) (a bit : Nat) (scrub : Bool) (s : State) : BesideMem s (noteCorrection m a bit scrub s) := by
  unfold noteCorrection
  extract_lets key here win counted pass
  have count : BesideMem s counted := modMem_besideMem _ s
  clear_value counted
  refine count.trans ?_
  split
  · dsimp only
    split
    · exact (modMem_besideMem _ _).trans (queueReloc_besideMem _ _ _)
    · exact modMem_besideMem _ _
  · split
    · exact modMem_besideMem _ _
    · exact (modMem_besideMem _ _).trans (.of_aside (setReplace_aside _ _))

theorem readWord_besideMem (m : MemId) (a : Nat) (scrub : Bool) (s : State) : BesideMem s (readWord m a scrub s).2 := by
  have noted : ∀ c : Prop, [Decidable c] → BesideMem s (if c then noteCorrection m a 73 scrub s else s) := by
    intro c _
    split
    · exact noteCorrection_besideMem m a 73 scrub s
    · exact .refl s
  have stored : ∀ w t, BesideMem t (setWord m a w t) := fun w t => .of_only (setWord_onlyMemory m a w t)
  unfold readWord
  dsimp only
  split
  · exact .refl s
  · split
    · exact (noted _).trans (stored _ _)
    · split
      · exact (noted _).trans (stored _ _)
      · exact ((noted _).trans (noteCorrection_besideMem _ _ _ _ _)).trans (stored _ _)
      · exact ((noted _).trans (stored _ _)).trans (modMem_besideMem _ _)
      · exact (noted _).trans (stored _ _)

theorem failTile_besideMem (t : Nat) (s : State) : BesideMem s (failTile t s) := by
  unfold failTile
  extract_lets ws poisoned counted
  have poison : BesideMem s poisoned := .foldl (fun s _ => .of_only (setWord_onlyMemory _ _ _ s)) ws s
  have count : BesideMem poisoned counted := modMem_besideMem _ _
  exact ((poison.trans count).trans (.of_aside (postMail_aside _ _ _ _))).trans (queueReloc_besideMem t true _)

theorem verifyTile_besideMem (t : Nat) (s : State) : BesideMem s (verifyTile t s) := by
  unfold verifyTile
  extract_lets verified
  have noted : BesideMem s verified := modMem_besideMem _ s
  split
  · exact noted.trans (failTile_besideMem t _)
  · exact noted

theorem checkTiles_besideMem (k : Fin 2) (s : State) : BesideMem s (checkTiles k s).2 := by
  unfold checkTiles
  extract_lets ts ofSlot bad verified read
  have verify : BesideMem s verified := .foldl (fun s t => verifyTile_besideMem t s) ts s
  have reads : BesideMem verified read := .foldl (fun s _ => readWord_besideMem _ _ _ s) _ verified
  split
  · exact (verify.trans reads).trans (.of_aside (postMail_aside _ _ _ _))
  · exact verify.trans reads

/-! ### The result of a check (R409 to R411) -/

theorem queueBoot_upd (s : State) : (queueBoot s).upd = s.upd := by
  unfold queueBoot
  split
  · split <;> rfl
  · rfl

theorem startCheck_upd (c : BootTry) (s : State) : (startCheck c s).upd = { s.upd with checking := some c } := by
  unfold startCheck
  rw [queueBoot_upd]
  rfl

theorem bootResult_trial {c : BootTry} {v : BootView} (trial : c.trial = true) : bootResult c v 0 s = bootTrial c.slot v.header s :=
  (if_pos rfl).trans (if_pos trial)

theorem bootResult_confirmed {c : BootTry} {v : BootView} (confirmed : c.trial = false) : bootResult c v 0 s = bootConfirmed c.fell s :=
  (if_pos rfl).trans (if_neg (by rw [confirmed]; exact Bool.false_ne_true))

/-- The reason that a check failed for stands in UPD_STATUS. -/
def withReason (r : Nat) (s : State) : State := modUpd (fun u => { u with reason := r }) s

theorem bootResult_failed {c : BootTry} {v : BootView} {r : Nat} (failed : r ≠ 0) :
    bootResult c v r s =
      (if c.last then bootRecovery (withReason r s)
       else if c.trial then startCheck { slot := s.upd.confSlot, trial := false, fell := true, last := true } (noteFall 0 v.img.imageId (withReason r s))
       else if (imageSlot s (otherSlot s)).whole then startCheck { slot := otherSlot s, trial := true, fell := c.fell, last := true } (withReason r s)
       else bootRecovery (withReason r s)) :=
  if_neg failed

/-- After the check of the trial image the confirmed one is checked. -/
theorem bootResult_failed_trial {c : BootTry} {v : BootView} {r : Nat} (failed : r ≠ 0) (more : c.last = false) (trial : c.trial = true) :
    bootResult c v r s = startCheck { slot := s.upd.confSlot, trial := false, fell := true, last := true } (noteFall 0 v.img.imageId (withReason r s)) := by
  rw [bootResult_failed failed, more, trial]
  rfl

/-- After the check of the confirmed image a whole one in the other slot is checked. -/
theorem bootResult_failed_other {c : BootTry} {v : BootView} {r : Nat} (failed : r ≠ 0) (more : c.last = false) (confirmed : c.trial = false)
    (whole : (imageSlot s (otherSlot s)).whole = true) :
    bootResult c v r s = startCheck { slot := otherSlot s, trial := true, fell := c.fell, last := true } (withReason r s) := by
  rw [bootResult_failed failed, more, confirmed, whole]
  rfl

/-- With no image left the recovery loader starts. -/
theorem bootResult_failed_last {c : BootTry} {v : BootView} {r : Nat} (failed : r ≠ 0)
    (last : c.last = true ∨ (c.trial = false ∧ (imageSlot s (otherSlot s)).whole = false)) :
    bootResult c v r s = bootRecovery (withReason r s) := by
  rw [bootResult_failed failed]
  rcases last with last | ⟨confirmed, part⟩
  · rw [last]
    rfl
  · rw [confirmed, part]
    exact ite_self _

/-! ### The sources that end a run (R442, R444) -/

/-- A reset of a level from 1 to 3 ends a check and leaves the rest of the update block. -/
def UpdStands (s t : State) : Prop := t.upd = { s.upd with checking := t.upd.checking }

theorem UpdStands.of_upd (same : t.upd = s.upd) : UpdStands s t := by
  rw [UpdStands, same]

theorem UpdStands.trans (h : UpdStands s t) (e : UpdStands t u) : UpdStands s u := by
  rw [UpdStands, e, h]

theorem clearFn_upd (cls : Nat) (s : State) : (clearFn cls s).upd = s.upd := by
  unfold clearFn
  split <;> rfl

theorem foldl_clearFn_upd (l : List Nat) (s : State) : (l.foldl (fun s c => clearFn c s) s).upd = s.upd :=
  List.foldlRecOn (motive := fun t : State => t.upd = s.upd) l _ rfl fun _ h _ _ => (clearFn_upd _ _).trans h

theorem losePathB_upd (s : State) : (losePathB s).upd = s.upd := by
  unfold losePathB
  split
  · exact Aside.upd (s := { s with upl := (pathFail true 2 s).upl }) (pathFail_besideUpl true 2 s)
  · rfl

theorem clearLevel_updStands (level cls : Nat) (s : State) : UpdStands s (clearLevel level cls s) := by
  unfold clearLevel
  extract_lets s1 s2 rst2 app2 upd2 s3 rst3 s4 c held rst4
  have path : s1.upd = s.upd := by
    unfold s1
    split
    · exact losePathB_upd s
    · rfl
  have lost : ∀ bits, (loseReady bits s1).upd = s.upd := fun bits => (loseReady_aside bits s1).upd.trans path
  split
  · refine UpdStands.trans (.of_upd (lost apdCodBits)) ?_
    rw [UpdStands, foldl_clearFn_upd]
    rfl
  · split
    · exact .of_upd ((foldl_clearFn_upd _ _).trans (lost codBits))
    · exact .of_upd ((clearFn_upd _ _).trans (lost (fnBits cls)))

theorem raiseLow_updStands (src : Source) (level func ms : Nat) (asserted : Bool) (notPcie : src ≠ .pcie) (s : State) :
    UpdStands s (raiseLow src level func ms asserted s) := by
  unfold raiseLow
  extract_lets cls join h rst0 r s1 data
  have cleared : UpdStands s s1 := by
    unfold s1
    split
    · exact .of_upd rfl
    · exact UpdStands.trans (t := { s with rst := r }) (.of_upd rfl) (clearLevel_updStands level cls _)
  clear_value s1 data
  rw [if_neg notPcie]
  exact cleared.trans (.of_upd (post_upd _ _ _ _))

/-- The UPDATE source asserts: its cause stands, and the update block stands but for a check. -/
theorem raiseUpdate_effect (s : State) :
    (raiseUpdate s).rst.cause = s.rst.cause ||| BitVec.ofNat 16 (2 ^ Source.update.num) ∧ UpdStands s (raiseUpdate s) :=
  ⟨raiseLow_effect.2.2, raiseLow_updStands .update _ 0 0 false nofun s⟩

end Sys2Proof.Proofs

end

section
set_option Elab.async false -- one theorem after another, which keeps Lean within its memory
/-! Firmware update, boot and trial (chapter 17). -/

namespace Sys2Proof.Proofs

open Sys2Proof Sys2Proof.Machine Sys2Proof.Safety Sys2Proof.Laws

variable {s t : State} {f : Flight} {k : Fin 2}

/-! ### The slots -/

theorem otherSlot_ne_confSlot (s : State) : (otherSlot s).val ≠ s.upd.confSlot.val := by
  unfold otherSlot
  split
  next zero => rw [zero]; decide
  next nonzero => exact fun e => nonzero e.symm

theorem f_p_lt (f : Flight) (o : Nat) : f.p o 4 < 2 ^ 32 := by
  have bound := leNat_lt (slice f.param (o - 16) 4)
  rw [slice_length] at bound
  exact bound

theorem imageId_ne_zero {n : Nat} (small : n < 2 ^ 32) (nonzero : n ≠ 0) : (BitVec.ofNat 32 n : W32) ≠ 0 := by
  intro e
  have value := congrArg BitVec.toNat e
  rw [BitVec.toNat_ofNat, Nat.mod_eq_of_lt small] at value
  exact nonzero value

/-! ### UPD_ARM (R405) -/

/-- The fields of UPD_ARM are in range. -/
structure ArmFields (f : Flight) : Prop where
  id : f.p 16 4 ≠ 0
  first : 1 ≤ f.p 20 2
  last : f.p 20 2 ≤ 5120
  some : 1 ≤ f.p 22 1
  sources : f.p 22 1 ≤ 3

/-- A relay reads the slot that would be armed. -/
def relaysOther (s : State) : Bool := match s.bkb.relay with | some r => decide (r.slot = otherSlot s) | none => false

theorem relaysOther_false (elsewhere : ∀ r, s.bkb.relay = some r → r.slot ≠ otherSlot s) : relaysOther s = false := by
  unfold relaysOther
  split
  next r stands => exact decide_eq_false (elsewhere r stands)
  next => rfl

theorem relaysOther_true {r : Relay} (relay : s.bkb.relay = some r) (here : r.slot = otherSlot s) : relaysOther s = true := by
  unfold relaysOther
  rw [relay]
  exact decide_eq_true here

/-- The armed slot as UPD_ARM leaves it. -/
def armedImage (f : Flight) (s : State) : ImageSlot :=
  { imageId := BitVec.ofNat 32 (f.p 16 4), pieces := f.p 20 2, sources := BitVec.ofNat 2 (if s.upd.recovery then 1 else f.p 22 1),
    sfmt := (imageSlot s (otherSlot s)).sfmt, loaded := true }

/-- An image is armed in a slot. -/
def withArmed (k : Fin 2) (x : ImageSlot) (u : Upd) : Upd := { u with slot := u.slot.set k.val x, armed := true }

theorem updArm_fields (fields : ArmFields f) (ring : s.upd.recovery = false ∨ bitAt (f.p 22 1) 0 = true) :
    updArm f s =
      if s.upd.trial ∨ relaysOther s ∨ s.upd.mark ≠ .none then completeSt f .conflict s
      else complete f .ok 0 [BitVec.ofNat 8 (otherSlot s).val] none
        (modUpd (withArmed (otherSlot s) (armedImage f s)) s) := by
  refine if_neg ?_
  rintro (id | none_ | many | none_ | many | ⟨recovery, noRing⟩)
  · exact imageId_ne_zero (f_p_lt f 16) fields.id id
  · exact Nat.ne_of_gt fields.first none_
  · exact Nat.not_lt.mpr fields.last many
  · exact Nat.ne_of_gt fields.some none_
  · exact Nat.not_lt.mpr fields.sources many
  · rcases ring with normal | ring
    · exact Bool.noConfusion (normal.symm.trans recovery)
    · rw [ring] at noRing
      exact Bool.noConfusion noRing

theorem updArm_conflict (front : Front 0x0D01 f s) (fields : ArmFields f) (ring : s.upd.recovery = false ∨ bitAt (f.p 22 1) 0 = true)
    (why : s.upd.trial = true ∨ relaysOther s = true ∨ s.upd.mark ≠ .none) : exec .updArm s = .next (completeSt f .conflict s) :=
  (exec_front (act := updArm) front rfl).trans (congrArg Host.Outcome.next ((updArm_fields fields ring).trans (if_pos why)))

theorem updArm_invalid (front : Front 0x0D01 f s)
    (out : f.p 16 4 = 0 ∨ f.p 20 2 = 0 ∨ 5120 < f.p 20 2 ∨ f.p 22 1 = 0 ∨ 3 < f.p 22 1 ∨ (s.upd.recovery = true ∧ f.p 22 1 = 2)) :
    exec .updArm s = .next (completeSt f .invalid s) := by
  refine (exec_front (act := updArm) front rfl).trans (congrArg Host.Outcome.next (if_pos ?_))
  rcases out with id | none_ | many | none_ | many | ⟨recovery, source⟩
  · exact .inl (by rw [id]; rfl)
  · exact .inr (.inl none_)
  · exact .inr (.inr (.inl many))
  · exact .inr (.inr (.inr (.inl none_)))
  · exact .inr (.inr (.inr (.inr (.inl many))))
  · exact .inr (.inr (.inr (.inr (.inr ⟨recovery, by rw [source]; rfl⟩))))

theorem updArm_arms (front : Front 0x0D01 f s) (fields : ArmFields f) (normal : s.upd.recovery = false) (settled : s.upd.trial = false)
    (elsewhere : ∀ r, s.bkb.relay = some r → r.slot ≠ otherSlot s) (unmarked : s.upd.mark = .none) :
    ∃ t, exec .updArm s = .next t ∧ t.upd.armed = true ∧
      (imageSlot t (otherSlot s)).imageId = BitVec.ofNat 32 (f.p 16 4) ∧ (imageSlot t (otherSlot s)).pieces = f.p 20 2 ∧
      (imageSlot t (otherSlot s)).bitmap = 0 ∧ (imageSlot t (otherSlot s)).loaded = true ∧
      imageSlot t s.upd.confSlot = imageSlot s s.upd.confSlot := by
  have acts := (updArm_fields (s := s) fields (.inl normal)).trans (if_neg (by
    rw [settled, relaysOther_false elsewhere, unmarked]
    simp))
  refine ⟨_, (exec_front (act := updArm) front rfl).trans (congrArg Host.Outcome.next acts), ?_⟩
  generalize done : complete f .ok 0 [BitVec.ofNat 8 (otherSlot s).val] none
    (modUpd (withArmed (otherSlot s) (armedImage f s)) s) = t
  have upd : t.upd = withArmed (otherSlot s) (armedImage f s) s.upd := by
    rw [← done, complete_upd]
    rfl
  have armed : imageSlot t (otherSlot s) = armedImage f s := by
    rw [imageSlot, upd]
    exact Vector.getElem_set_self _
  refine ⟨by rw [upd]; rfl, by rw [armed]; rfl, by rw [armed]; rfl, by rw [armed]; rfl, by rw [armed]; rfl, ?_⟩
  rw [imageSlot, upd]
  exact Vector.getElem_set_ne (otherSlot s).isLt s.upd.confSlot.isLt (otherSlot_ne_confSlot s)

/-! ### UPD_PIECE_WRITE and UPD_BITMAP_READ (R406, R407) -/

theorem updPieceWrite_armed {x : ImageSlot} (armed : armedSlot s = some x) :
    updPieceWrite f s =
      if f.bufLen ≠ 512 ∨ x.pieces ≤ f.p 16 2 then completeSt f .invalid s
      else if f.p 20 4 ≠ x.imageId.toNat ∨ !x.sources.getLsbD 0 then completeSt f .conflict s
      else if x.bitmap.getLsbD (f.p 16 2) then complete f .ok 1 (leBytes 2 x.received) none s
      else complete f .ok 0 (leBytes 2 (imageSlot (storePiece (f.p 16 2) (slice f.inBuf 0 512) s)
        (otherSlot (storePiece (f.p 16 2) (slice f.inBuf 0 512) s))).received) none (storePiece (f.p 16 2) (slice f.inBuf 0 512) s) := by
  unfold updPieceWrite
  rw [armed]

theorem updPieceWrite_front (front : Front 0x0D02 f s) : exec .updPieceWrite s = .next (updPieceWrite f s) :=
  exec_front (act := updPieceWrite) front rfl

section
variable {x : ImageSlot} (front : Front 0x0D02 f s) (armed : armedSlot s = some x)
include front armed

theorem updPieceWrite_invalid (out : f.bufLen ≠ 512 ∨ x.pieces ≤ f.p 16 2) : exec .updPieceWrite s = .next (completeSt f .invalid s) :=
  (updPieceWrite_front front).trans (congrArg Host.Outcome.next ((updPieceWrite_armed armed).trans (if_pos out)))

variable (length : f.bufLen = 512) (piece : f.p 16 2 < x.pieces)
include length piece

theorem updPieceWrite_conflict (why : f.p 20 4 ≠ x.imageId.toNat ∨ x.sources.getLsbD 0 = false) :
    exec .updPieceWrite s = .next (completeSt f .conflict s) := by
  refine (updPieceWrite_front front).trans (congrArg Host.Outcome.next ((updPieceWrite_armed armed).trans ((if_neg ?_).trans (if_pos ?_))))
  · exact not_or.mpr ⟨not_not.mpr length, Nat.not_le.mpr piece⟩
  · exact why.imp_right fun off => by rw [off]; rfl

variable (id : f.p 20 4 = x.imageId.toNat) (source : x.sources.getLsbD 0 = true)
include id source

omit front in
theorem updPieceWrite_passed :
    updPieceWrite f s = if x.bitmap.getLsbD (f.p 16 2) then complete f .ok 1 (leBytes 2 x.received) none s
      else complete f .ok 0 (leBytes 2 (imageSlot (storePiece (f.p 16 2) (slice f.inBuf 0 512) s)
        (otherSlot (storePiece (f.p 16 2) (slice f.inBuf 0 512) s))).received) none (storePiece (f.p 16 2) (slice f.inBuf 0 512) s) := by
  refine (updPieceWrite_armed armed).trans ((if_neg ?_).trans (if_neg ?_))
  · exact not_or.mpr ⟨not_not.mpr length, Nat.not_le.mpr piece⟩
  · exact not_or.mpr ⟨not_not.mpr id, by rw [source]; exact Bool.false_ne_true⟩

theorem updPieceWrite_again (seen : x.bitmap.getLsbD (f.p 16 2) = true) :
    exec .updPieceWrite s = .next (complete f .ok 1 (leBytes 2 x.received) none s) :=
  (updPieceWrite_front front).trans (congrArg Host.Outcome.next ((updPieceWrite_passed armed length piece id source).trans (if_pos seen)))

theorem updPieceWrite_stores (inside : f.p 16 2 < 5120) (new : x.bitmap.getLsbD (f.p 16 2) = false) :
    ∃ t, exec .updPieceWrite s = .next t ∧ (imageSlot t (otherSlot s)).bitmap.getLsbD (f.p 16 2) = true ∧
      (∀ j, j < 5120 → j ≠ f.p 16 2 → (imageSlot t (otherSlot s)).bitmap.getLsbD j = x.bitmap.getLsbD j) ∧
      ∀ j, j < 64 → (wordAt .mram (pieceWord (otherSlot s) (f.p 16 2) + j) t).data =
        BitVec.ofNat 64 (leNat (slice (slice f.inBuf 0 512) (8 * j) 8)) := by
  have stored := storePiece_stored (f.p 16 2) (slice f.inBuf 0 512) s inside
  refine ⟨_, (updPieceWrite_front front).trans (congrArg Host.Outcome.next
    ((updPieceWrite_passed armed length piece id source).trans (if_neg (by rw [new]; exact Bool.false_ne_true)))), ?_⟩
  generalize storePiece (f.p 16 2) (slice f.inBuf 0 512) s = v at stored
  rw [imageSlot_of_upd (complete_upd _ _ _ _ _ v)]
  refine ⟨?_, fun j among other => ?_, fun j among => ?_⟩
  · rw [stored.bit _ inside, decide_eq_true rfl, Bool.or_true]
  · rw [stored.bit j among, decide_eq_false other, Bool.or_false, armedSlot_image armed]
  · have same : (complete f .ok 0 (leBytes 2 (imageSlot v (otherSlot v)).received) none v).mem = v.mem := complete_mem _ _ _ _ _ v
    rw [wordAt, memTable_of_mem .mram same]
    exact stored.words j among
end

/-! ### UPD_ACTIVATE, UPD_CONFIRM and the end of a trial (R408, R412) -/

theorem updActivate_pending (front : Front 0x0D04 f s) (settled : s.upd.trial = false) (whole : (imageSlot s (otherSlot s)).whole = true)
    (armed : s.upd.armed = true) (id : f.p 16 4 = (imageSlot s (otherSlot s)).imageId.toNat) :
    ∃ t, exec .updActivate s = .next t ∧ t.upd.mark = .pending ∧
      t.rst.cause = s.rst.cause ||| BitVec.ofNat 16 (2 ^ Source.update.num) := by
  have acts : updActivate f s =
      raiseUpdate (complete f .ok 0 [BitVec.ofNat 8 (otherSlot s).val] none (modUpd (fun u => { u with mark := .pending }) s)) := by
    unfold updActivate
    dsimp only
    rw [settled, whole, armed, if_neg (by simp), if_neg (not_or.mpr ⟨by simp, not_not.mpr id⟩)]
  refine ⟨_, (exec_front (act := updActivate) front rfl).trans (congrArg Host.Outcome.next acts), ?_⟩
  generalize done : complete f .ok 0 [BitVec.ofNat 8 (otherSlot s).val] none (modUpd (fun u => { u with mark := .pending }) s) = v
  obtain ⟨cause, upd⟩ := raiseUpdate_effect v
  have mark : v.upd.mark = .pending := by rw [← done, complete_upd]; rfl
  have rst : v.rst = s.rst := by rw [← done, complete_rst]; rfl
  rw [upd, cause, rst]
  exact ⟨mark, rfl⟩

theorem updActivate_conflict (front : Front 0x0D04 f s) (why : s.upd.trial = true ∨ (imageSlot s (otherSlot s)).whole = false) :
    exec .updActivate s = .next (completeSt f .conflict s) :=
  (exec_front (act := updActivate) front rfl).trans
    (congrArg Host.Outcome.next (if_pos (why.imp_right fun part => by rw [part]; rfl)))

theorem updActivate_invalid (front : Front 0x0D04 f s) (settled : s.upd.trial = false) (whole : (imageSlot s (otherSlot s)).whole = true)
    (why : s.upd.armed = false ∨ f.p 16 4 ≠ (imageSlot s (otherSlot s)).imageId.toNat) :
    exec .updActivate s = .next (completeSt f .invalid s) := by
  refine (exec_front (act := updActivate) front rfl).trans (congrArg Host.Outcome.next ((if_neg ?_).trans (if_pos ?_)))
  · rw [settled, whole]
    simp
  · exact why.imp_left fun off => by rw [off]; rfl

theorem updConfirm_normal (normal : s.upd.recovery = false) (trial : s.upd.trial = true) (front : Front 0x0D05 f s) :
    ∃ t, exec .updConfirm s = .next t ∧ t.upd.confSlot = s.upd.runSlot ∧ t.upd.trial = false ∧ t.upd.armed = false ∧ t.upd.area = none ∧
      t.upd.floor.toNat = max s.upd.floor.toNat s.upd.trialSvn.toNat := by
  refine ⟨_, (exec_front (act := updConfirm) front rfl).trans (congrArg Host.Outcome.next
    ((if_neg (by rw [normal]; exact Bool.false_ne_true)).trans (if_neg (by rw [trial]; exact Bool.false_ne_true)))), ?_⟩
  rw [complete_upd]
  refine ⟨rfl, rfl, rfl, rfl, ?_⟩
  show (BitVec.ofNat 32 (max s.upd.floor.toNat s.upd.trialSvn.toNat)).toNat = _
  rw [BitVec.toNat_ofNat]
  exact Nat.mod_eq_of_lt (max_lt s.upd.floor.isLt s.upd.trialSvn.isLt)

theorem updRevert_normal (normal : s.upd.recovery = false) (trial : s.upd.trial = true) (front : Front 0x0D06 f s) :
    ∃ t, exec .updRevert s = .next t ∧ t.upd.fallWhy = some 3 ∧ t.rst.cause = s.rst.cause ||| BitVec.ofNat 16 (2 ^ Source.update.num) := by
  have acts : updRevert f s = raiseUpdate (completeSt f .ok (modUpd (fun u => { u with fallWhy := some 3 }) s)) :=
    (if_neg (by rw [normal]; exact Bool.false_ne_true)).trans (if_neg (by rw [trial]; exact Bool.false_ne_true))
  refine ⟨_, (exec_front (act := updRevert) front rfl).trans (congrArg Host.Outcome.next acts), ?_⟩
  generalize done : completeSt f .ok (modUpd (fun u => { u with fallWhy := some 3 }) s) = v
  obtain ⟨cause, upd⟩ := raiseUpdate_effect v
  have why : v.upd.fallWhy = some 3 := by rw [← done, completeSt_upd]; rfl
  have rst : v.rst = s.rst := by rw [← done, completeSt_rst]; rfl
  rw [upd, cause, rst]
  exact ⟨why, rfl⟩

theorem trialExpiry_falls {t0 : Tick} (reached : Reached .done s) (up : s.rst.apdUp = true) (ends : trialEnd s = some t0) (due : t0 ≤ s.now) :
    ∃ t, exec .trialExpiry s = .next t ∧ t.upd.fallWhy = some 1 ∧ t.rst.cause = s.rst.cause ||| BitVec.ofNat 16 (2 ^ Source.update.num) := by
  have acts : runTrialExpiry s = .next (raiseUpdate (modUpd (fun u => { u with fallWhy := some 1 }) s)) := by
    unfold runTrialExpiry
    rw [ends]
    exact congrArg Host.Outcome.next (if_pos ⟨up, due⟩)
  refine ⟨_, (exec_reached reached rfl).trans acts, ?_⟩
  obtain ⟨cause, upd⟩ := raiseUpdate_effect (modUpd (fun u => { u with fallWhy := some 1 }) s)
  rw [upd, cause]
  exact ⟨rfl, rfl⟩

/-! ### The boot check (R409 to R413) -/

section
variable {b : BootIn} {c : BootTry} {ok : Bool} {s1 : State} {v : BootView} {r : Nat} (up : s.rst.apdUp = true)
  (runs : s.upd.checking = some c) (checked : checkTiles c.slot s = (ok, s1)) (view : v = bootView c.slot ok b s1)
  (reason : r = bootCheck v (if c.trial then some (imageSlot s s.upd.confSlot).sfmt else none) s1)
include up runs checked view reason

/-- The check has a result where an item before the signature fails, or the long operation has been made. -/
theorem imageBootCheck_acts :
    exec (.imageBootCheck b) s = .next (if (1 ≤ r ∧ r ≤ 6) ∨ c.hashed then bootResult c v r (dropReq (fun r => decide (r = .boot)) s1) else s1) := by
  have upd : s1.upd = s.upd := by
    have beside := checkTiles_besideMem c.slot s
    rw [checked] at beside
    exact beside.upd
  have format : bootCheck (bootView c.slot ok b s1) (if c.trial then some (imageSlot s1 s1.upd.confSlot).sfmt else none) s1 = r := by
    rw [reason, view, imageSlot_of_upd upd, upd]
  have acts : imageBootCheck c b s = if (1 ≤ r ∧ r ≤ 6) ∨ c.hashed then bootResult c v r (dropReq (fun r => decide (r = .boot)) s1) else s1 := by
    unfold imageBootCheck
    rw [checked]
    dsimp only
    rw [format, ← view]
  refine congrArg Host.Outcome.next ?_
  rw [runs]
  exact (if_pos up).trans acts

theorem imageBootCheck_waits (notHashed : c.hashed = false) (why : r = 0 ∨ 6 < r) : exec (.imageBootCheck b) s = .next s1 := by
  refine (imageBootCheck_acts up runs checked view reason).trans (congrArg Host.Outcome.next (if_neg ?_))
  rw [notHashed]
  rintro (⟨low, high⟩ | hashed)
  · omega
  · exact Bool.noConfusion hashed

/-- With a result the check ends in a state whose update block and settings are as they were. -/
theorem imageBootCheck_result (result : (1 ≤ r ∧ r ≤ 6) ∨ c.hashed = true) :
    ∃ u : State, exec (.imageBootCheck b) s = .next (bootResult c v r u) ∧ u.upd = s.upd ∧ settingsOf u = settingsOf s := by
  have beside := checkTiles_besideMem c.slot s
  rw [checked] at beside
  exact ⟨_, (imageBootCheck_acts up runs checked view reason).trans (congrArg Host.Outcome.next (if_pos result)), beside.upd, beside.settings⟩

theorem imageBootCheck_trial (trial : c.trial = true) (hashed : c.hashed = true) (passed : r = 0) :
    ∃ t, exec (.imageBootCheck b) s = .next t ∧ t.upd.trial = true ∧ t.upd.runSlot = c.slot ∧ t.upd.confSlot = s.upd.confSlot ∧
      t.upd.area = some (settingsOf s) ∧ t.upd.checking = none := by
  obtain ⟨u, acts, upd, settings⟩ := imageBootCheck_result up runs checked view reason (.inr hashed)
  rw [passed, bootResult_trial trial] at acts
  have conf := congrArg Upd.confSlot upd
  have area := congrArg some settings
  exact ⟨_, acts, rfl, rfl, conf, area, rfl⟩

theorem imageBootCheck_confirmed (confirmed : c.trial = false) (hashed : c.hashed = true) (passed : r = 0) :
    ∃ t, exec (.imageBootCheck b) s = .next t ∧ t.upd.trial = false ∧ t.upd.runSlot = s.upd.confSlot ∧ t.upd.recovery = false ∧
      t.upd.checking = none := by
  obtain ⟨u, acts, upd, settings⟩ := imageBootCheck_result up runs checked view reason (.inr hashed)
  rw [passed, bootResult_confirmed confirmed] at acts
  exact ⟨_, acts, rfl, congrArg Upd.confSlot upd, rfl, rfl⟩

section
variable (failed : r ≠ 0) (result : r ≤ 6 ∨ c.hashed = true)
include failed result

theorem imageBootCheck_failed :
    ∃ u : State, exec (.imageBootCheck b) s = .next (bootResult c v r u) ∧ u.upd = s.upd := by
  obtain ⟨u, acts, upd, settings⟩ :=
    imageBootCheck_result up runs checked view reason (result.imp_left fun le => ⟨Nat.one_le_iff_ne_zero.mpr failed, le⟩)
  exact ⟨u, acts, upd⟩

theorem imageBootCheck_trial_failed (more : c.last = false) (trial : c.trial = true) :
    ∃ t d, exec (.imageBootCheck b) s = .next t ∧ t.upd.reason = r ∧ t.upd.checking = some d ∧ d.slot = s.upd.confSlot ∧ d.trial = false ∧
      d.last = true := by
  obtain ⟨u, acts, upd⟩ := imageBootCheck_failed up runs checked view reason failed result
  rw [bootResult_failed_trial failed more trial] at acts
  refine ⟨_, { slot := u.upd.confSlot, trial := false, fell := true, last := true }, acts, ?_, ?_, congrArg Upd.confSlot upd, rfl, rfl⟩
  · rw [startCheck_upd]
    rfl
  · rw [startCheck_upd]

theorem imageBootCheck_confirmed_failed (more : c.last = false) (confirmed : c.trial = false)
    (whole : (imageSlot s (otherSlot s)).whole = true) :
    ∃ t d, exec (.imageBootCheck b) s = .next t ∧ t.upd.reason = r ∧ t.upd.checking = some d ∧ d.slot = otherSlot s ∧ d.trial = true ∧
      d.last = true := by
  obtain ⟨u, acts, upd⟩ := imageBootCheck_failed up runs checked view reason failed result
  have other : otherSlot u = otherSlot s := by rw [otherSlot, otherSlot, upd]
  rw [← other, ← imageSlot_of_upd upd] at whole
  rw [bootResult_failed_other failed more confirmed whole] at acts
  refine ⟨_, { slot := otherSlot u, trial := true, fell := c.fell, last := true }, acts, ?_, ?_, other, rfl, rfl⟩
  · rw [startCheck_upd]
    rfl
  · rw [startCheck_upd]

theorem imageBootCheck_last_failed (last : c.last = true ∨ (c.trial = false ∧ (imageSlot s (otherSlot s)).whole = false)) :
    ∃ t, exec (.imageBootCheck b) s = .next t ∧ t.upd.reason = r ∧ t.upd.recovery = true ∧ t.upd.checking = none := by
  obtain ⟨u, acts, upd⟩ := imageBootCheck_failed up runs checked view reason failed result
  have other : otherSlot u = otherSlot s := by rw [otherSlot, otherSlot, upd]
  rw [← other, ← imageSlot_of_upd upd] at last
  rw [bootResult_failed_last failed last] at acts
  exact ⟨_, acts, rfl, rfl, rfl⟩
end
end

/-- Settles O55. -/
theorem update : Obligations.Update := by
  unfold Obligations.Update
  rintro s f k rfl
  refine ⟨?_, ?_, ?_, updActivate_pending, updActivate_conflict, fun front normal trial => updConfirm_normal normal trial front, ?_,
    fun front normal trial => updRevert_normal normal trial front, fun t0 => trialExpiry_falls,
    fun front => exec_front (act := fun f s => complete f .ok 0 (leBytes 4 (updStatusWord s) ++ leBytes 4 (updPiecesWord s)) none s) front rfl,
    ?_, updArm_invalid, ?_, ?_, ?_, ?_, updActivate_invalid, ?_, ?_⟩
  · intro front id _ first last some sources normal
    have fields : ArmFields f := ⟨id, first, last, some, sources⟩
    exact ⟨updArm_arms front fields normal, fun trial => updArm_conflict front fields (.inl normal) (.inl trial),
      fun r relay here => updArm_conflict front fields (.inl normal) (.inr (.inl (relaysOther_true relay here)))⟩
  · rintro x idx front armed rfl length piece inside id source
    exact ⟨updPieceWrite_again front armed length piece id source, updPieceWrite_stores front armed length piece id source inside⟩
  · intro x front armed
    refine (exec_front (act := updBitmapRead) front rfl).trans (congrArg Host.Outcome.next ?_)
    rw [updBitmapRead, armed]
    rfl
  · intro front normal settled
    exact (exec_front (act := updConfirm) front rfl).trans (congrArg Host.Outcome.next
      ((if_neg (by rw [normal]; exact Bool.false_ne_true)).trans (if_pos (by rw [settled]; rfl))))
  · intro b c ok s1 v r up runs checked view reason
    exact ⟨imageBootCheck_trial up runs checked view reason, imageBootCheck_confirmed up runs checked view reason,
      fun failed result => ⟨imageBootCheck_trial_failed up runs checked view reason failed result,
        imageBootCheck_confirmed_failed up runs checked view reason failed result,
        imageBootCheck_last_failed up runs checked view reason failed result⟩,
      imageBootCheck_waits up runs checked view reason⟩
  · intro front id first last source marked
    refine updArm_conflict front ⟨id, first, last, ?_, ?_⟩ (.inr ?_) (.inr (.inr marked)) <;> rcases source with one | three
    · omega
    · omega
    · omega
    · omega
    · rw [one]; rfl
    · rw [three]; rfl
  · intro front unarmed
    refine (updPieceWrite_front front).trans (congrArg Host.Outcome.next ?_)
    unfold updPieceWrite
    rw [unarmed]
  · intro x front armed
    exact ⟨updPieceWrite_invalid front armed, updPieceWrite_conflict front armed⟩
  · intro front unarmed
    refine (exec_front (act := updBitmapRead) front rfl).trans (congrArg Host.Outcome.next ?_)
    rw [updBitmapRead, unarmed]
    show complete f .ok 0 (leBytes 2 (ImageSlot.received {})) (some (leBytes 640 (BitVec.ofNat 5120 0).toNat)) s = _
    rw [BitVec.toNat_zero]
    rfl
  · intro recovery
    exact ⟨fun front => (exec_front (act := updConfirm) front rfl).trans (congrArg Host.Outcome.next (if_pos recovery)),
      fun front => (exec_front (act := updRevert) front rfl).trans (congrArg Host.Outcome.next (if_pos recovery))⟩
  · intro front normal settled
    exact (exec_front (act := updRevert) front rfl).trans (congrArg Host.Outcome.next
      ((if_neg (by rw [normal]; exact Bool.false_ne_true)).trans (if_pos (by rw [settled]; rfl))))

end Sys2Proof.Proofs

end

section
set_option Elab.async false -- one theorem after another, which keeps Lean within its memory
/-! The card reader (R339 to R343). -/

namespace Sys2Proof.Proofs

open Sys2Proof Sys2Proof.Machine Sys2Proof.Safety Sys2Proof.Laws

variable {s : State} {amp : Nat} {cards : List Card}

/-! ### The reader's state -/

/-- What an accepted configuration leaves of the reader. -/
theorem applyCfg_leaves (n : Nfc) :
    n.applyCfg.pings = n.pings ∧ n.applyCfg.calm = n.calm ∧ n.applyCfg.heldUntil = n.heldUntil ∧ n.applyCfg.misses = n.misses ∧
      n.applyCfg.reported = n.reported := by
  unfold Nfc.applyCfg
  split <;> exact ⟨rfl, rfl, rfl, rfl, rfl⟩

/-- The reader at a ping: an accepted configuration is in force and the ping's tick is noted (R339, R357). -/
def pinged (s : State) : State := modNfc (fun n => { n with pingTick := some s.now }) (modNfc Nfc.applyCfg s)

theorem nfcPing_enabled (ready : s.isReady 8 = true) (due : pingDue s = true) (en : s.nfc.applyCfg.en = true) :
    exec (.nfcPing amp cards) s = .next (if triggers s.nfc.applyCfg.thresh amp s.nfc.pings
      then (if s.nfc.heldUntil.isSome then modNfc (fun n => { n with calm := 0 }) (pinged s) else poll amp cards (pinged s))
      else calmPing amp (pinged s)) := by
  obtain ⟨pings, calm, held, misses, reported⟩ := applyCfg_leaves s.nfc
  have on : ¬ ((!(modNfc Nfc.applyCfg s).nfc.en) = true) := by
    show ¬ ((!s.nfc.applyCfg.en) = true)
    rw [en]
    exact Bool.false_ne_true
  have acts : ping amp cards s = if triggers s.nfc.applyCfg.thresh amp s.nfc.applyCfg.pings
      then (if s.nfc.applyCfg.heldUntil.isSome then modNfc (fun n => { n with calm := 0 }) (pinged s) else poll amp cards (pinged s))
      else calmPing amp (pinged s) := if_neg on
  rw [pings, held] at acts
  exact congrArg Host.Outcome.next ((if_pos ⟨ready, due⟩).trans acts)

/-! ### What a poll leaves -/

/-- The outputs of a state stand in a later one. -/
theorem mem_emit {o x : Out} {s : State} (mem : x ∈ s.outbox) : x ∈ (emit o s).outbox := List.mem_cons_of_mem _ mem

theorem protocols_sent (l : List RfOut) (s : State) (o : RfOut) (mem : o ∈ l) : .rf o ∈ (l.foldl (fun s o => emit (.rf o) s) s).outbox := by
  have stays : ∀ (l : List RfOut) (s : State) (x : Out), x ∈ s.outbox → x ∈ (l.foldl (fun s o => emit (.rf o) s) s).outbox := by
    intro l
    induction l with
    | nil => exact fun _ _ h => h
    | cons o rest ih => exact fun s x h => ih _ x (mem_emit h)
  induction l generalizing s with
  | nil => cases mem
  | cons p rest ih =>
    rcases List.mem_cons.mp mem with rfl | later
    · exact stays rest _ _ List.mem_cons_self
    · exact ih _ later

/-- The reader, the outputs and the tick, as the rules of a poll read them. -/
structure ReaderSame (s t : State) : Prop where
  nfc : t.nfc = s.nfc
  now : t.now = s.now

theorem protocols_reader (l : List RfOut) (s : State) : ReaderSame s (l.foldl (fun s o => emit (.rf o) s) s) := by
  induction l generalizing s with
  | nil => exact ⟨rfl, rfl⟩
  | cons o rest ih =>
    have first := ih (emit (.rf o) s)
    exact ⟨first.nfc, first.now⟩

/-- A lookup leaves all of the reader but the recency of the entry found. -/
theorem listLookup_state (kt kl : Nat) (key : List Byte) (s : State) :
    ∃ r, (listLookup kt kl key s).2 = modNfc (fun n => { n with recency := r }) s := by
  unfold listLookup
  split
  · exact ⟨_, rfl⟩
  · exact ⟨s.nfc.recency, rfl⟩

/-- The reader once a card has been reported. -/
def reportedNfc (held : Bool) (c : Card) (now : Tick) (r : List Nat) (n : Nfc) : Nfc :=
  if held then { n with recency := r, reported := true, heldUntil := some (now + 320000), rate := min c.rate n.maxRate }
  else { n with recency := r, reported := true }

theorem reportCard_new (c : Card) (new : s.nfc.reported = false) :
    ∃ r, (reportCard c s).nfc = reportedNfc (decide (c.isoDep = true ∧ c.ktype ≠ 3)) c s.now r s.nfc ∧ (reportCard c s).outbox = s.outbox := by
  obtain ⟨r, found⟩ := listLookup_state c.ktype c.ident.length (slice c.ident 0 16) s
  refine ⟨r, ?_⟩
  unfold reportCard
  rw [if_neg (by rw [new]; exact Bool.false_ne_true)]
  dsimp only
  rw [found]
  unfold reportedNfc
  by_cases iso : c.isoDep = true ∧ c.ktype ≠ 3
  · rw [if_pos iso, if_pos (decide_eq_true iso)]
    exact ⟨rfl, rfl⟩
  · rw [if_neg iso, if_neg (by simpa using iso)]
    exact ⟨rfl, rfl⟩

theorem pollResult_outbox (hit : PollHit) (s : State) : (pollResult amp hit s).outbox = s.outbox := by
  have report : ∀ (c : Card) (v : State), (reportCard c v).outbox = v.outbox := by
    intro c v
    cases seen : v.nfc.reported with
    | false =>
      obtain ⟨r, nfc, outbox⟩ := reportCard_new c seen
      exact outbox
    | true => rw [reportCard, if_pos seen]
  cases hit with
  | nothing =>
    show (emptyPoll amp s).outbox = _
    unfold emptyPoll
    split <;> rfl
  | one c => exact (report c _).trans rfl
  | several kt =>
    unfold pollResult
    dsimp only
    split <;> rfl

/-- The state once the protocols have run. -/
def polled (cards : List Card) (s : State) : State :=
  (s.nfc.protocols cards).foldl (fun s o => emit (.rf o) s) (emit (.field true) s)

theorem polled_reader (cards : List Card) (s : State) : ReaderSame s (polled cards s) := by
  have run := protocols_reader (s.nfc.protocols cards) (emit (.field true) s)
  exact ⟨run.nfc, run.now⟩

theorem poll_eq (amp : Nat) (cards : List Card) (s : State) :
    poll amp cards s = (if (pollResult amp ((polled cards s).nfc.anticollision cards) (polled cards s)).nfc.heldUntil.isSome
      then pollResult amp ((polled cards s).nfc.anticollision cards) (polled cards s)
      else emit (.field false) (pollResult amp ((polled cards s).nfc.anticollision cards) (polled cards s))) := rfl

theorem poll_nfc (amp : Nat) (cards : List Card) (s : State) :
    (poll amp cards s).nfc = (pollResult amp (s.nfc.anticollision cards) (polled cards s)).nfc := by
  rw [poll_eq, (polled_reader cards s).nfc]
  split <;> rfl

theorem poll_sends (amp : Nat) (cards : List Card) (s : State) (o : RfOut) (mem : o ∈ s.nfc.protocols cards) :
    .rf o ∈ (poll amp cards s).outbox := by
  have sent : Out.rf o ∈ (pollResult amp ((polled cards s).nfc.anticollision cards) (polled cards s)).outbox := by
    rw [pollResult_outbox]
    exact protocols_sent _ _ o mem
  rw [poll_eq]
  split
  · exact sent
  · exact mem_emit sent

/-! ### Pings (R339 to R341) -/

theorem nfcPing_calm (ready : s.isReady 8 = true) (due : pingDue s = true) (en : s.nfc.applyCfg.en = true)
    (below : triggers s.nfc.applyCfg.thresh amp s.nfc.pings = false) :
    ∃ t, exec (.nfcPing amp cards) s = .next t ∧ t.nfc.pings = (amp :: s.nfc.pings).take 8 ∧ t.nfc.pingTick = some s.now ∧
      (1 ≤ s.nfc.calm → t.nfc.reported = false) := by
  obtain ⟨pings, calm, held, misses, reported⟩ := applyCfg_leaves s.nfc
  have runs := nfcPing_enabled (amp := amp) (cards := cards) ready due en
  rw [below, if_neg Bool.false_ne_true] at runs
  refine ⟨_, runs, ?_, rfl, fun second => ?_⟩
  · exact congrArg (fun l : List Nat => (amp :: l).take 8) pings
  · show (s.nfc.applyCfg.reported && decide (min 2 (s.nfc.applyCfg.calm + 1) < 2)) = false
    rw [calm, decide_eq_false (by omega), Bool.and_false]

theorem nfcPing_held (ready : s.isReady 8 = true) (due : pingDue s = true) (en : s.nfc.applyCfg.en = true)
    (above : triggers s.nfc.applyCfg.thresh amp s.nfc.pings = true) (held : s.nfc.heldUntil.isSome = true) :
    exec (.nfcPing amp cards) s = .next { s with nfc := { s.nfc.applyCfg with pingTick := some s.now, calm := 0 } } := by
  have runs := nfcPing_enabled (amp := amp) (cards := cards) ready due en
  rw [above, held] at runs
  exact runs

theorem nfcPing_polls (ready : s.isReady 8 = true) (due : pingDue s = true) (en : s.nfc.applyCfg.en = true)
    (above : triggers s.nfc.applyCfg.thresh amp s.nfc.pings = true) (free : s.nfc.heldUntil = none) :
    exec (.nfcPing amp cards) s = .next (poll amp cards (pinged s)) := by
  have runs := nfcPing_enabled (amp := amp) (cards := cards) ready due en
  rw [above, free] at runs
  exact runs

theorem poll_nothing (none_ : s.nfc.anticollision cards = .nothing) (third : s.nfc.misses = 2) :
    (poll amp cards s).nfc.pings = List.replicate 8 amp ∧ (poll amp cards s).nfc.misses = 0 := by
  have due : 3 ≤ (polled cards s).nfc.misses + 1 := by rw [(polled_reader cards s).nfc, third]
  have empty : pollResult amp .nothing (polled cards s) = modNfc (fun n => { n with misses := 0, pings := List.replicate 8 amp, calm := 0 }) (polled cards s) :=
    if_pos due
  rw [poll_nfc, none_, empty]
  exact ⟨rfl, rfl⟩

theorem poll_several {k : Nat} (many : s.nfc.anticollision cards = .several k) (free : s.nfc.heldUntil = none) :
    (poll amp cards s).nfc.reported = true ∧ (poll amp cards s).nfc.heldUntil = none := by
  have held : (polled cards s).nfc.heldUntil = none := by rw [(polled_reader cards s).nfc, free]
  rw [poll_nfc, many]
  unfold pollResult
  dsimp only
  split
  next seen => exact ⟨seen, held⟩
  next => exact ⟨rfl, held⟩

theorem poll_one {c : Card} (one : s.nfc.anticollision cards = .one c) (free : s.nfc.heldUntil = none) (new : s.nfc.reported = false) :
    (poll amp cards s).nfc.reported = true ∧ (poll amp cards s).nfc.misses = 0 ∧
      (c.isoDep = true → c.ktype ≠ 3 →
        (poll amp cards s).nfc.heldUntil = some (s.now + 320000) ∧ (poll amp cards s).nfc.rate = min c.rate s.nfc.maxRate) ∧
      ((c.isoDep = false ∨ c.ktype = 3) → (poll amp cards s).nfc.heldUntil = none) := by
  obtain ⟨nfc, now⟩ := polled_reader cards s
  obtain ⟨r, shown, outbox⟩ := reportCard_new (s := modNfc (fun n => { n with misses := 0, calm := 0 }) (polled cards s)) c
    ((congrArg Nfc.reported nfc).trans new)
  have tick : (modNfc (fun n => { n with misses := 0, calm := 0 }) (polled cards s)).now = s.now := now
  have unit : (modNfc (fun n => { n with misses := 0, calm := 0 }) (polled cards s)).nfc = { s.nfc with misses := 0, calm := 0 } :=
    congrArg (fun n : Nfc => { n with misses := 0, calm := 0 }) nfc
  have after : (poll amp cards s).nfc =
      reportedNfc (decide (c.isoDep = true ∧ c.ktype ≠ 3)) c s.now r { s.nfc with misses := 0, calm := 0 } := by
    rw [poll_nfc, one, ← tick, ← unit]
    exact shown
  rw [after]
  unfold reportedNfc
  by_cases iso : c.isoDep = true ∧ c.ktype ≠ 3
  · rw [if_pos (decide_eq_true iso)]
    refine ⟨rfl, rfl, fun _ _ => ⟨rfl, rfl⟩, ?_⟩
    rintro (plain | vicinity)
    · exact absurd (iso.1.symm.trans plain) Bool.true_eq_false.mp
    · exact absurd vicinity iso.2
  · rw [if_neg (by simpa using iso)]
    exact ⟨rfl, rfl, fun dep kind => absurd ⟨dep, kind⟩ iso, fun _ => free⟩

/-! ### The exchange with a held card (R343) -/

theorem nfcExchange_starts {f : Flight} (front : Front 0x0806 f s) (held : s.nfc.heldUntil.isSome = true) (idle : s.nfc.exchange = none) :
    exec .nfcExchange s = .next (emit (.apdu f.inBuf) (keepRunning f { s with nfc := { s.nfc with exchange := some (f.seq, s.now) } })) := by
  refine (exec_front (act := nfcExchange) front rfl).trans (congrArg Host.Outcome.next ((if_neg ?_).trans (if_neg ?_)))
  · rw [Option.isNone_iff_eq_none]
    exact fun e => by rw [e] at held; exact Bool.noConfusion held
  · rw [idle]
    exact Bool.false_ne_true

theorem nfcExchange_busy {f : Flight} (front : Front 0x0806 f s) (held : s.nfc.heldUntil.isSome = true) (runs : s.nfc.exchange.isSome = true) :
    exec .nfcExchange s = .next (completeSt f .busy s) := by
  refine (exec_front (act := nfcExchange) front rfl).trans (congrArg Host.Outcome.next ((if_neg ?_).trans (if_pos runs)))
  rw [Option.isNone_iff_eq_none]
  exact fun e => by rw [e] at held; exact Bool.noConfusion held

/-- A descriptor in flight completes under its SEQ, whatever the reader holds. -/
theorem completeSeq_exchange {f : Flight} (flies : flight? f.seq s = some f) (st : Status) (data : List Byte) (buf : Option (List Byte)) :
    completeSeq f.seq st 0 data buf { s with nfc := { s.nfc with exchange := none } } =
      complete f st 0 data buf { s with nfc := { s.nfc with exchange := none } } := by
  have stands : flight? f.seq { s with nfc := { s.nfc with exchange := none } } = some f := flies
  rw [completeSeq, stands]

theorem nfcExchangeAnswer_completes {f : Flight} {t0 : Tick} (runs : s.nfc.exchange = some (f.seq, t0)) (flies : flight? f.seq s = some f)
    (ans : List Byte) (held : s.nfc.heldUntil.isSome = true) (inTime : s.now ≤ t0 + 320000) :
    exec (.nfcExchangeAnswer ans) s =
      .next (complete f .ok 0 (leBytes 2 (min 258 ans.length)) (some (ans.take (min 258 ans.length)))
        { s with nfc := { s.nfc with exchange := none } }) := by
  refine congrArg Host.Outcome.next ?_
  rw [runs]
  exact (if_pos ⟨held, inTime⟩).trans (completeSeq_exchange flies _ _ _)

theorem nfcExchangeTimeout_completes {f : Flight} {t0 : Tick} (runs : s.nfc.exchange = some (f.seq, t0)) (flies : flight? f.seq s = some f)
    (late : t0 + 320000 ≤ s.now) :
    exec .nfcExchangeTimeout s = .next (complete f .timeout 0 [] none { s with nfc := { s.nfc with exchange := none } }) := by
  refine congrArg Host.Outcome.next ?_
  rw [runs]
  exact (if_pos late).trans (completeSeq_exchange flies _ _ _)

/-- Settles O45. -/
theorem cardReader : Obligations.CardReader := by
  unfold Obligations.CardReader
  intro s
  refine ⟨fun amp cards ready due en => ⟨nfcPing_calm ready due en, nfcPing_held ready due en, fun above free => ?_⟩, ?_, ?_, ?_, ?_⟩
  · obtain ⟨pings, calm, held, misses, reported⟩ := applyCfg_leaves s.nfc
    have off : (pinged s).nfc.heldUntil = none := held.trans free
    exact ⟨_, nfcPing_polls ready due en above free, poll_sends amp cards (pinged s),
      fun none_ third => poll_nothing (s := pinged s) none_ (misses.trans third),
      fun k many => poll_several (s := pinged s) many off,
      fun c one new => poll_one (s := pinged s) one off (reported.trans new)⟩
  · intro t0 held due
    refine congrArg Host.Outcome.next ?_
    rw [held]
    exact if_pos due
  · intro t0 held
    exact congrArg Host.Outcome.next (if_pos (by rw [held]; rfl))
  · intro f front
    refine ⟨fun free => ?_, nfcExchange_busy front, nfcExchange_starts front⟩
    exact (exec_front (act := nfcExchange) front rfl).trans (congrArg Host.Outcome.next (if_pos (by rw [free]; rfl)))
  · rintro f t0 runs flies
    refine ⟨?_, nfcExchangeTimeout_completes runs flies⟩
    rintro ans held inTime n rfl
    exact nfcExchangeAnswer_completes runs flies ans held inTime

end Sys2Proof.Proofs

end

section
set_option Elab.async false -- one theorem after another, which keeps Lean within its memory
/-! The authorisation list (R344 to R349, R358). -/

namespace Sys2Proof.Proofs

open Sys2Proof Sys2Proof.Machine Sys2Proof.Safety Sys2Proof.Laws

variable {s : State} {f : Flight}

/-! ### Removal from a sparse table -/

section
variable {α : Type} [DecidableEq α] {d : α}

theorem sparseWfFrom_le {lo : Nat} {l : List (Nat × α)} (wf : sparseWfFrom d lo l = true) {x : Nat × α} (mem : x ∈ l) : lo ≤ x.1 := by
  induction l generalizing lo with
  | nil => cases mem
  | cons e rest ih =>
    simp only [sparseWfFrom, Bool.and_eq_true, decide_eq_true_eq] at wf
    obtain ⟨⟨low, _⟩, tail⟩ := wf
    rcases List.mem_cons.mp mem with rfl | later
    · exact low
    · exact Nat.le_trans (Nat.le_succ_of_le low) (ih tail later)

/-- A removal takes the entry of its index out of a table in canonical form. -/
theorem mem_sparseSet_default {lo : Nat} {l : List (Nat × α)} (wf : sparseWfFrom d lo l = true) (k : Nat) (x : Nat × α) :
    x ∈ sparseSet d l k d ↔ x ∈ l ∧ x.1 ≠ k := by
  induction l generalizing lo with
  | nil => simp [sparseSet]
  | cons e rest ih =>
    obtain ⟨key, v⟩ := e
    simp only [sparseWfFrom, Bool.and_eq_true, decide_eq_true_eq] at wf
    obtain ⟨_, tail⟩ := wf
    have above : ∀ y ∈ rest, key < y.1 := fun y mem => sparseWfFrom_le tail mem
    unfold sparseSet
    rw [if_pos rfl, if_pos rfl]
    split
    next below =>
      rw [List.mem_cons, List.mem_cons, ih tail, or_and_right]
      refine or_congr_left (and_iff_left_of_imp ?_).symm
      rintro rfl
      exact Nat.ne_of_lt below
    next notBelow =>
      split
      next same =>
        subst same
        rw [List.mem_cons]
        constructor
        · exact fun mem => ⟨.inr mem, Nat.ne_of_gt (above x mem)⟩
        · rintro ⟨rfl | mem, other⟩
          · exact absurd rfl other
          · exact mem
      next other =>
        refine (and_iff_left_of_imp ?_).symm
        intro mem
        rcases List.mem_cons.mp mem with rfl | later
        · exact other
        · have far := above x later
          omega

/-- In canonical form an index is listed once. -/
theorem sparseWf_unique {lo : Nat} {l : List (Nat × α)} (wf : sparseWfFrom d lo l = true) {x y : Nat × α} (hx : x ∈ l) (hy : y ∈ l)
    (same : x.1 = y.1) : x = y := by
  induction l generalizing lo with
  | nil => cases hx
  | cons e rest ih =>
    obtain ⟨key, v⟩ := e
    simp only [sparseWfFrom, Bool.and_eq_true, decide_eq_true_eq] at wf
    obtain ⟨_, tail⟩ := wf
    rcases List.mem_cons.mp hx with rfl | hx <;> rcases List.mem_cons.mp hy with rfl | hy
    · rfl
    · exact absurd (same ▸ sparseWfFrom_le tail hy) (Nat.not_succ_le_self _)
    · exact absurd (same ▸ sparseWfFrom_le tail hx) (Nat.not_succ_le_self _)
    · exact ih tail hx hy
end

/-! ### Inserts (R346) -/

/-- Where no index is free, every index of the list is taken. -/
theorem freeIndex_none {l : List (Nat × ListEntry)} {fuel i : Nat} (full : freeIndex l fuel i = none) {j : Nat} (inside : j < fuel) :
    (i + j) % 16384 ∈ l.map (·.1) := by
  induction fuel generalizing i j with
  | zero => exact absurd inside (Nat.not_lt_zero j)
  | succ fuel ih =>
    unfold freeIndex at full
    split at full
    next taken =>
      cases j with
      | zero =>
        obtain ⟨e, mem, same⟩ := List.any_eq_true.mp taken
        exact List.mem_map.mpr ⟨e, mem, beq_iff_eq.mp same⟩
      | succ j =>
        have later := ih full (Nat.lt_of_succ_lt_succ inside)
        rwa [Nat.succ_add_eq_add_succ] at later
    next => cases full

theorem freeIndex_some {l : List (Nat × ListEntry)} {fuel i k : Nat} (found : freeIndex l fuel i = some k) :
    k < 16384 ∧ ∀ x ∈ l, x.1 ≠ k := by
  induction fuel generalizing i with
  | zero => cases found
  | succ fuel ih =>
    unfold freeIndex at found
    split at found
    · exact ih found
    next free =>
      obtain rfl := Option.some.inj found
      refine ⟨Nat.mod_lt _ (by decide), fun x mem same => free (List.any_eq_true.mpr ⟨x, mem, beq_iff_eq.mpr same⟩)⟩

/-- A list that is not full has a free index. -/
theorem freeIndex_of_room {l : List (Nat × ListEntry)} (room : l.length < 16384) (d : Nat) : ∃ k, freeIndex l listSize d = some k := by
  cases found : freeIndex l listSize d with
  | some k => exact ⟨k, rfl⟩
  | none =>
    have all : Finset.range 16384 ⊆ (l.map (·.1)).toFinset := by
      intro x mem
      have small := Finset.mem_range.mp mem
      have taken := freeIndex_none found (j := (x + 16384 - d % 16384) % 16384) (Nat.mod_lt _ (by decide))
      have place : (d + (x + 16384 - d % 16384) % 16384) % 16384 = x := by omega
      exact List.mem_toFinset.mpr (place ▸ taken)
    have card := (Finset.card_le_card all).trans (List.toFinset_card_le _)
    rw [Finset.card_range, List.length_map] at card
    exact absurd room (Nat.not_lt.mpr card)

theorem listInsert_known {e : ListEntry} {old : Nat × ListEntry} (found : listFind e.ktype e.klen e.key s = some old) :
    listInsert e s = (some false, listPut old.1 e s) := by
  unfold listInsert
  rw [found]

theorem listInsert_room {e : ListEntry} (new : listFind e.ktype e.klen e.key s = none) (room : s.nfc.entries.length < 16384) :
    ∃ i, listInsert e s = (some false, listPut i e (drawNat s).2) ∧ i < 16384 ∧ ∀ x ∈ s.nfc.entries, x.1 ≠ i := by
  obtain ⟨k, found⟩ := freeIndex_of_room room (Config.freeNat s.free)
  have drawn : freeIndex (drawNat s).2.nfc.entries listSize (drawNat s).1 = some k := found
  refine ⟨k, ?_, freeIndex_some found⟩
  unfold listInsert
  rw [new]
  dsimp only
  rw [if_pos (show s.nfc.entries.length < listSize from room), drawn]

theorem listInsert_full {e : ListEntry} (new : listFind e.ktype e.klen e.key s = none) (full : 16384 ≤ s.nfc.entries.length) :
    listInsert e s = match evictIndex s with
      | some i => (some true, listPut i e s)
      | none => (none, s) := by
  unfold listInsert
  rw [new]
  dsimp only
  exact if_neg (show ¬ s.nfc.entries.length < listSize from Nat.not_lt.mpr full)

/-- With every entry pinned none is evicted. -/
theorem evictIndex_pinned (pinned : ∀ x ∈ s.nfc.entries, x.2.pinned = true) : evictIndex s = none := by
  have kept : ∀ l : List (Nat × ListEntry), (∀ x ∈ l, x.2.pinned = true) →
      l.foldl (fun (best : Option (Nat × Nat)) e =>
        if e.2.pinned then best
        else
          let r := recencyOf s.nfc.recency e.1
          match best with
          | none => some (e.1, r)
          | some b => if b.2 < r then some (e.1, r) else best) none = none := by
    intro l
    induction l with
    | nil => exact fun _ => rfl
    | cons e rest ih =>
      intro all
      rw [List.foldl_cons, if_pos (all e List.mem_cons_self)]
      exact ih fun x mem => all x (List.mem_cons_of_mem _ mem)
  exact congrArg (Option.map (·.1)) (kept _ pinned)

/-! ### NFC_LIST_WRITE (R346, R358) -/

section
variable {e : ListEntry} (front : Front 0x0801 f s) (one : f.bufLen = 32) (batch : parseBatch 1 f.inBuf = some [e])
include front one batch

theorem nfcListWrite_one :
    exec .nfcListWrite s = .next (complete f (if (insertAll [e] 0 0 s).1.2.2 then .tableFull else .ok) 0
      (leBytes 2 (insertAll [e] 0 0 s).1.1 ++ leBytes 2 (insertAll [e] 0 0 s).1.2.1) none (insertAll [e] 0 0 s).2) := by
  refine (exec_front (act := nfcListWrite) front rfl).trans (congrArg Host.Outcome.next ?_)
  unfold nfcListWrite
  rw [one, if_neg (by decide)]
  dsimp only
  rw [show 32 / 32 = 1 from rfl, batch]

/-- An entry that is taken stands in the list. -/
theorem nfcListWrite_put {ev : Bool} {i : Nat} {u : State} (put : listInsert e s = (some ev, listPut i e u)) (same : u.nfc = s.nfc) :
    ∃ t, exec .nfcListWrite s = .next t ∧ t.nfc.entries = sparseSet {} s.nfc.entries i e ∧ t.nfc.recency.head? = some i := by
  have all : insertAll [e] 0 0 s = ((0 + 1, 0 + b2n ev, false), listPut i e u) := by
    unfold insertAll
    rw [put]
    rfl
  refine ⟨_, nfcListWrite_one front one batch, ?_⟩
  rw [all, complete_nfc]
  have entries := congrArg (fun n : Nfc => sparseSet {} n.entries i e) same
  exact ⟨entries, rfl⟩

theorem nfcListWrite_full (refused : listInsert e s = (none, s)) :
    exec .nfcListWrite s = .next (complete f .tableFull 0 (leBytes 2 0 ++ leBytes 2 0) none s) := by
  have all : insertAll [e] 0 0 s = ((0, 0, true), s) := by
    unfold insertAll
    rw [refused]
  refine (nfcListWrite_one front one batch).trans ?_
  rw [all]
  rfl
end

/-! ### Removals (R348, R358) -/

theorem listRemove_entries (i : Nat) (s : State) : (listRemove i s).nfc.entries = sparseSet {} s.nfc.entries i {} := rfl

theorem removals_entries (out : List (Nat × ListEntry)) (s : State) (wf : sparseWf ({} : ListEntry) s.nfc.entries = true) (x : Nat × ListEntry) :
    x ∈ (out.foldl (fun s e => listRemove e.1 s) s).nfc.entries ↔ x ∈ s.nfc.entries ∧ ∀ e ∈ out, x.1 ≠ e.1 := by
  induction out generalizing s with
  | nil => simp
  | cons e rest ih =>
    have tail : sparseWf ({} : ListEntry) (listRemove e.1 s).nfc.entries = true := sparseSet_wf _ _ _ _ wf
    rw [List.foldl_cons, ih _ tail, listRemove_entries, mem_sparseSet_default wf, List.forall_mem_cons, and_assoc]

/-- What a condition picks is removed, and nothing else. -/
theorem listRemoveIf_entries (p : ListEntry → Bool) (s : State) (wf : sparseWf ({} : ListEntry) s.nfc.entries = true) (x : Nat × ListEntry) :
    x ∈ (listRemoveIf p s).2.nfc.entries ↔ x ∈ s.nfc.entries ∧ p x.2 = false := by
  refine (removals_entries _ s wf x).trans (and_congr_right fun mem => ?_)
  constructor
  · intro others
    by_contra picked
    exact others x (List.mem_filter.mpr ⟨mem, by simpa using picked⟩) rfl
  · intro kept e picked same
    obtain ⟨listed, is⟩ := List.mem_filter.mp picked
    have eq := sparseWf_unique wf mem listed same
    rw [eq] at kept
    exact Bool.noConfusion (kept.symm.trans is)

theorem nfcListClear_clears (front : Front 0x0803 f s) (first : 1 ≤ f.p 16 1) (last : f.p 16 1 ≤ 3)
    (wf : sparseWf ({} : ListEntry) s.nfc.entries = true) :
    ∃ t, exec .nfcListClear s = .next t ∧ ∀ x, x ∈ t.nfc.entries ↔
      x ∈ s.nfc.entries ∧ (if x.2.pinned then bitAt (f.p 16 1) 1 else bitAt (f.p 16 1) 0) = false := by
  refine ⟨_, (exec_front (act := nfcListClear) front rfl).trans (congrArg Host.Outcome.next (if_neg (by omega))), fun x => ?_⟩
  dsimp only
  rw [complete_nfc]
  exact listRemoveIf_entries (fun e => if e.pinned then bitAt (f.p 16 1) 1 else bitAt (f.p 16 1) 0) s wf x

theorem authListExpiry_removes (ready : s.isReady 18 = true) (synced : s.clk.unsynced = false)
    (wf : sparseWf ({} : ListEntry) s.nfc.entries = true) :
    ∃ t, exec .authListExpiry s = .next t ∧ ∀ x, x ∈ t.nfc.entries ↔
      x ∈ s.nfc.entries ∧ (x.2.expiry = 0 ∨ s.clk.sec / 86400 ≤ x.2.expiry) := by
  refine ⟨_, congrArg Host.Outcome.next ((if_pos ready).trans (if_neg (by rw [synced]; exact Bool.false_ne_true))), fun x => ?_⟩
  refine (listRemoveIf_entries _ s wf x).trans (and_congr_right fun _ => ?_)
  rw [Bool.and_eq_false_iff, decide_eq_false_iff_not, decide_eq_false_iff_not, not_not, Nat.not_lt]

/-! ### Lookups (R345, R358) -/

theorem nfcListLookup_hit {kt kl : Nat} {key : List Byte} {i : Nat} {e : ListEntry} (form : f.listKey = some (kt, kl, key))
    (found : listFind kt kl key s = some (i, e)) (front : Front 0x0804 f s) :
    ∃ t, exec .nfcListLookup s = .next t ∧ t.nfc.entries = s.nfc.entries ∧ t.nfc.recency = i :: s.nfc.recency.filter fun j => j != i := by
  refine ⟨_, exec_front (act := nfcListLookup) front rfl, ?_⟩
  have hit : listLookup kt kl key s = (some (i, e), listTouch i s) := by
    unfold listLookup
    rw [found]
  unfold nfcListLookup
  rw [form]
  dsimp only
  rw [hit, complete_nfc]
  exact ⟨rfl, rfl⟩

theorem nfcListLookup_miss {kt kl : Nat} {key : List Byte} (form : f.listKey = some (kt, kl, key))
    (absent : listFind kt kl key s = none) (front : Front 0x0804 f s) :
    exec .nfcListLookup s = .next (complete f .ok 0 ([0] ++ leBytes 2 0xFFFF) none s) := by
  refine (exec_front (act := nfcListLookup) front rfl).trans (congrArg Host.Outcome.next ?_)
  have miss : listLookup kt kl key s = (none, s) := by
    unfold listLookup
    rw [absent]
  unfold nfcListLookup
  rw [form]
  dsimp only
  rw [miss]

theorem nfcListDelete_front (front : Front 0x0802 f s) : exec .nfcListDelete s = .next (nfcListDelete f s) :=
  exec_front (act := nfcListDelete) front rfl

theorem nfcListDelete_hit {kt kl : Nat} {key : List Byte} {i : Nat} {e : ListEntry} (form : f.listKey = some (kt, kl, key))
    (found : listFind kt kl key s = some (i, e)) (front : Front 0x0802 f s) :
    ∃ t, exec .nfcListDelete s = .next t ∧ t.nfc.entries = sparseSet {} s.nfc.entries i {} := by
  refine ⟨_, nfcListDelete_front front, ?_⟩
  unfold nfcListDelete
  rw [form]
  dsimp only
  rw [found, complete_nfc]
  rfl

theorem nfcListDelete_miss {kt kl : Nat} {key : List Byte} (form : f.listKey = some (kt, kl, key))
    (absent : listFind kt kl key s = none) (front : Front 0x0802 f s) :
    exec .nfcListDelete s = .next (complete f .ok 1 (leBytes 2 0xFFFF) none s) := by
  refine (nfcListDelete_front front).trans (congrArg Host.Outcome.next ?_)
  unfold nfcListDelete
  rw [form]
  dsimp only
  rw [absent]

/-- Settles O46. -/
theorem authorisationList : Obligations.AuthorisationList := by
  unfold Obligations.AuthorisationList
  intro s f
  refine ⟨?_, ?_, ?_, ?_, nfcListClear_clears, ?_, ?_, ?_, authListExpiry_removes, ?_, ?_⟩
  · intro front out
    refine (exec_front (act := nfcListWrite) front rfl).trans (congrArg Host.Outcome.next (if_pos ?_))
    omega
  · intro e front one batch
    refine ⟨fun old found => ?_, fun new room => ?_, fun new full => ⟨fun i evict => ?_, fun pinned => ?_⟩⟩
    · exact nfcListWrite_put front one batch (listInsert_known found) rfl
    · obtain ⟨i, insert, inside, free⟩ := listInsert_room new room
      obtain ⟨t, runs, entries, head⟩ := nfcListWrite_put front one batch insert rfl
      exact ⟨t, i, runs, inside, free, entries, head⟩
    · have insert := listInsert_full (e := e) new full
      rw [evict] at insert
      obtain ⟨t, runs, entries, head⟩ := nfcListWrite_put front one batch insert rfl
      exact ⟨t, runs, entries⟩
    · have insert := listInsert_full (e := e) new full
      rw [evictIndex_pinned pinned] at insert
      exact nfcListWrite_full front one batch insert
  · intro kt kl key form
    exact ⟨fun i e found => ⟨nfcListDelete_hit form found, nfcListLookup_hit form found⟩,
      fun absent => ⟨nfcListDelete_miss form absent, nfcListLookup_miss form absent⟩⟩
  · intro front out
    exact (exec_front (act := nfcListClear) front rfl).trans (congrArg Host.Outcome.next (if_pos out))
  · rintro first n front rfl rfl some most inside length
    refine (exec_front (act := nfcListRead) front rfl).trans (congrArg Host.Outcome.next (if_neg ?_))
    unfold listSize
    omega
  · intro ready due
    exact congrArg Host.Outcome.next (if_pos ⟨ready, due⟩)
  · intro ready unsynced
    exact congrArg Host.Outcome.next ((if_pos ready).trans (if_pos unsynced))
  · intro form
    refine ⟨fun front => (nfcListDelete_front front).trans (congrArg Host.Outcome.next ?_),
      fun front => (exec_front (act := nfcListLookup) front rfl).trans (congrArg Host.Outcome.next ?_)⟩
    · unfold nfcListDelete
      rw [form]
    · unfold nfcListLookup
      rw [form]
  · intro front out
    refine (exec_front (act := nfcListRead) front rfl).trans (congrArg Host.Outcome.next (if_pos ?_))
    exact out

end Sys2Proof.Proofs

end

section
set_option Elab.async false -- one theorem after another, which keeps Lean within its memory
/-! The service tag: its pages, its areas and the host writes that go through the steps of R355. -/

namespace Sys2Proof.Proofs

open Sys2Proof Sys2Proof.Machine Sys2Proof.Safety Sys2Proof.Laws

variable {s t u : State} {p q : Nat}

/-! ### Pages -/

/-- The pages stand in canonical form. -/
def PagesWf (s : State) : Prop := sparseWf ({} : Page) s.tag.pages = true

theorem pageOf_of_pages (same : t.tag.pages = s.tag.pages) (p : Nat) : pageOf t p = pageOf s p := by
  rw [pageOf, pageOf, same]

theorem PagesWf.of_pages (wf : PagesWf s) (same : t.tag.pages = s.tag.pages) : PagesWf t := by
  rw [PagesWf, same]
  exact wf

theorem setPage_wf (wf : PagesWf s) (p : Nat) (g : Page) : PagesWf (setPage p g s) := sparseSet_wf _ _ _ _ wf

theorem pageOf_setPage_same (wf : PagesWf s) (p : Nat) (g : Page) : pageOf (setPage p g s) p = g :=
  sparseGet_set_same _ p g _ 0 wf

theorem pageOf_setPage_other (wf : PagesWf s) {p r : Nat} (other : r ≠ p) (g : Page) : pageOf (setPage p g s) r = pageOf s r :=
  sparseGet_set_other _ p r g _ other 0 wf

@[simp] theorem valid_shadow (g : Page) (bytes : List Byte) : (g.shadow bytes).valid = g.valid := by
  unfold Page.shadow Page.valid
  cases g.ptrB <;> rfl

@[simp] theorem ptrB_shadow (g : Page) (bytes : List Byte) : (g.shadow bytes).ptrB = g.ptrB := by
  unfold Page.shadow
  cases g.ptrB <;> rfl

@[simp] theorem flag_shadow (g : Page) (bytes : List Byte) : (g.shadow bytes).flag = g.flag := by
  unfold Page.shadow
  cases g.ptrB <;> rfl

theorem valid_flag (g : Page) (b : Option Bool) : Page.valid { g with flag := b } = g.valid := rfl

/-- A write that has run through makes its bytes the valid copy (R355). -/
theorem valid_swap_shadow (g : Page) (bytes : List Byte) (b : Option Bool) : Page.valid (Page.swap { g.shadow bytes with flag := b }) = bytes := by
  unfold Page.shadow Page.swap Page.valid
  cases g.ptrB <;> rfl

theorem valid_write (g : Page) (bytes : List Byte) : (g.write bytes).valid = bytes := by
  unfold Page.write Page.shadow Page.swap Page.valid
  cases g.ptrB <;> rfl

/-! ### What leaves the areas and the other pages alone -/

/-- Outside the pages of P, and in the areas, the tag holds what it held. -/
structure TagBut (P : Nat → Prop) (s t : State) : Prop where
  area : t.tag.area = s.tag.area
  wf : PagesWf s → PagesWf t
  other : PagesWf s → ∀ r, ¬ P r → pageOf t r = pageOf s r

theorem TagBut.of_tag {P : Nat → Prop} (area : t.tag.area = s.tag.area) (pages : t.tag.pages = s.tag.pages) : TagBut P s t :=
  ⟨area, fun wf => wf.of_pages pages, fun _ r _ => pageOf_of_pages pages r⟩

theorem TagBut.trans {P : Nat → Prop} (h : TagBut P s t) (e : TagBut P t u) : TagBut P s u :=
  ⟨e.area.trans h.area, fun wf => e.wf (h.wf wf), fun wf r out => (e.other (h.wf wf) r out).trans (h.other wf r out)⟩

theorem setPage_tagBut {P : Nat → Prop} (among : P p) (g : Page) (s : State) : TagBut P s (setPage p g s) :=
  ⟨rfl, fun wf => setPage_wf wf p g, fun wf r out => pageOf_setPage_other wf (fun same => out (by rw [same]; exact among)) g⟩

/-! ### The steps of a host write (R355) -/

theorem jobBusy_tag {j : TagJob} {js : List TagJob} (jobs : s.tag.jobs = j :: js) : (jobBusy s).tag = { s.tag with jobs := js } := by
  unfold jobBusy
  rw [jobs]
  dsimp only
  rw [completeSeq_tag]
  rfl

theorem completeSeq_gone (seq : Nat) (st : Status) (d : Nat) (data : List Byte) (buf : Option (List Byte)) (s : State) :
    flight? seq (completeSeq seq st d data buf s) = none := by
  rw [flight?, completeSeq_inflight, List.find?_eq_none]
  intro f mem named
  exact absurd (beq_iff_eq.mp named) (bne_iff_ne.mp (List.mem_filter.mp mem).2)

theorem jobBusy_gone {j : TagJob} {js : List TagJob} (jobs : s.tag.jobs = j :: js) : flight? j.flight (jobBusy s) = none := by
  unfold jobBusy
  rw [jobs]
  exact completeSeq_gone _ _ _ _ _ _

/-- After its last write a descriptor completes. -/
theorem jobNext_last {j : TagJob} {w : TagWrite} (last : j.todo = [w]) :
    (jobNext j s).tag = { s.tag with jobs := s.tag.jobs.drop 1 } ∧ flight? j.flight (jobNext j s) = none := by
  unfold jobNext
  rw [last]
  dsimp only
  rw [completeSeq_tag]
  exact ⟨rfl, completeSeq_gone _ _ _ _ _ _⟩

/-- The next write, or the completion, changes nothing of the tag but its jobs. -/
theorem jobNext_tag (j : TagJob) (s : State) : ∃ js, (jobNext j s).tag = { s.tag with jobs := js } := by
  unfold jobNext
  split
  · exact ⟨_, rfl⟩
  · exact ⟨_, completeSeq_tag _ _ _ _ _ _⟩
  · exact ⟨_, rfl⟩

theorem jobNext_tagBut {P : Nat → Prop} (j : TagJob) (s : State) : TagBut P s (jobNext j s) := by
  obtain ⟨js, same⟩ := jobNext_tag j s
  exact .of_tag (by rw [same]) (by rw [same])

theorem jobBusy_tagBut {P : Nat → Prop} (s : State) : TagBut P s (jobBusy s) := by
  cases jobs : s.tag.jobs with
  | nil =>
    unfold jobBusy
    rw [jobs]
    exact .of_tag rfl rfl
  | cons j js => exact .of_tag (by rw [jobBusy_tag jobs]) (by rw [jobBusy_tag jobs])

/-! ### A field command takes pages (R356) -/

/-- The field holds pages from now on. -/
def holding (first n : Nat) (s : State) : State := modTag (fun t => { t with hold := some (s.now, first, n) }) s

/-- A page write that the field meets from step 4 on finishes. -/
def finished (j : TagJob) (p : Nat) (bytes : List Byte) (s : State) : State :=
  jobNext j (stepWrite (.page p bytes) 5 (if j.step = 4 then stepWrite (.page p bytes) 4 s else s))

theorem fieldTakes_page {j : TagJob} {js : List TagJob} {bytes : List Byte} {ws : List TagWrite} {first n : Nat}
    (jobs : s.tag.jobs = j :: js) (todo : j.todo = .page p bytes :: ws) (low : first ≤ p) (high : p < first + n) :
    fieldTakes first n s = holding first n (if j.step < 4 then jobBusy s else finished j p bytes s) := by
  unfold fieldTakes
  rw [jobs]
  dsimp only
  rw [todo]
  dsimp only
  rw [if_pos ⟨low, high⟩]
  rfl

theorem finished_tagBut {P : Nat → Prop} (among : P p) (j : TagJob) (bytes : List Byte) (s : State) : TagBut P s (finished j p bytes s) := by
  have four : TagBut P s (if j.step = 4 then stepWrite (.page p bytes) 4 s else s) := by
    split
    · exact setPage_tagBut among _ s
    · exact .of_tag rfl rfl
  exact (four.trans (setPage_tagBut among _ _)).trans (jobNext_tagBut j _)

theorem fieldTakes_tagBut (first n : Nat) (s : State) : TagBut (fun r => first ≤ r ∧ r < first + n) s (fieldTakes first n s) := by
  unfold fieldTakes
  refine TagBut.trans (t := match s.tag.jobs with
    | j :: _ => match j.todo with
      | .page p bytes :: _ =>
        if first ≤ p ∧ p < first + n then (if j.step < 4 then jobBusy s else finished j p bytes s) else s
      | _ => s
    | [] => s) ?_ (.of_tag rfl rfl)
  split
  next j js jobs =>
    split
    next p bytes ws todo =>
      split
      next among =>
        split
        · exact jobBusy_tagBut s
        · exact finished_tagBut among j bytes s
      next => exact .of_tag rfl rfl
    next => exact .of_tag rfl rfl
  next => exact .of_tag rfl rfl

/-! ### Areas -/

/-- The place of area k. -/
def areaAt (k : Nat) : Fin 3 := Fin.ofNat 3 (k - 1)

theorem tagArea?_in {k : Nat} (low : 1 ≤ k) (high : k ≤ 3) : tagArea? k s = some s.tag.area[(areaAt k).val] := by
  have place : (areaAt k).val = k - 1 := Nat.mod_eq_of_lt (by omega)
  unfold tagArea?
  rw [if_pos ⟨low, high⟩]
  have listed : s.tag.area.toList[k - 1]? = some s.tag.area[k - 1] := by
    rw [Vector.getElem?_toList, Vector.getElem?_eq_getElem (by omega)]
  rw [listed]
  congr 1
  exact (getElem_congr_idx place).symm

theorem tagArea?_some {k : Nat} {a : TagArea} (found : tagArea? k s = some a) : 1 ≤ k ∧ k ≤ 3 ∧ s.tag.area[(areaAt k).val] = a := by
  by_cases inside : 1 ≤ k ∧ k ≤ 3
  · rw [tagArea?_in inside.1 inside.2] at found
    exact ⟨inside.1, inside.2, Option.some.inj found⟩
  · rw [tagArea?, if_neg inside] at found
    cases found

theorem areaAt_ne {j k : Nat} (lowJ : 1 ≤ j) (highJ : j ≤ 3) (lowK : 1 ≤ k) (highK : k ≤ 3) (other : j ≠ k) : areaAt k ≠ areaAt j := by
  intro same
  have value : (k - 1) % 3 = (j - 1) % 3 := congrArg Fin.val same
  omega

/-- The settings that swapSet brings in keep what an area is open to. -/
theorem swapSet_area (g : Tag) (i : Fin 3) : (swapSet g).area[i.val] = { g.other.1[i.val] with isOpen := (g.area[i.val]).isOpen } := by
  show (Vector.ofFn fun (i : Fin 3) => { g.other.1[i.val] with isOpen := (g.area[i.val]).isOpen })[i.val] = _
  rw [Vector.getElem_ofFn]

end Sys2Proof.Proofs

end

section
set_option Elab.async false -- one theorem after another, which keeps Lean within its memory
/-! The service tag in a field (R352, R353, R355, R356). -/

namespace Sys2Proof.Proofs

open Sys2Proof Sys2Proof.Machine Sys2Proof.Safety Sys2Proof.Laws

variable {s t u : State}

/-! ### Commands in a field -/

theorem inField_on (act : State → State) (field : s.tag.field = true) : inField act s = .next (act s) :=
  congrArg Host.Outcome.next (if_pos field)

theorem fieldTakes_idle (first n : Nat) (jobs : s.tag.jobs = []) : fieldTakes first n s = { s with tag := { s.tag with hold := some (s.now, first, n) } } := by
  unfold fieldTakes
  rw [jobs]
  rfl

theorem mayRead_of_area (same : t.tag.area = s.tag.area) (b : Nat) : mayRead b t = mayRead b s := by
  unfold mayRead tagArea?
  rw [same]

/-! ### Reads of blocks (R352) -/

theorem readBlocks_data {b n : Nat} (taken : u = fieldTakes (b / 4) ((b + n - 1) / 4 + 1 - b / 4) s) (some_ : 1 ≤ n) (most : n ≤ 32)
    (inside : b + n ≤ 2048) (oneArea : b / 512 = (b + n - 1) / 512) (may : mayRead b s = true) :
    readBlocks b n s = { u with outbox := .tag (.data ((List.range n).flatMap fun i => blockBytes (b + i) u)) :: u.outbox } := by
  have open_ : mayRead b u = true := by rw [taken, mayRead_of_area (fieldTakes_tagBut _ _ s).area, may]
  unfold readBlocks
  rw [← taken]
  unfold readBlocksAnswer areaOfBlock
  rw [if_neg (by omega), if_neg (by rw [open_]; exact Bool.false_ne_true)]
  rfl

theorem readBlocks_closed {b n : Nat} (taken : u = fieldTakes (b / 4) ((b + n - 1) / 4 + 1 - b / 4) s) (some_ : 1 ≤ n) (most : n ≤ 32)
    (inside : b + n ≤ 2048) (oneArea : b / 512 = (b + n - 1) / 512) (mayNot : mayRead b s = false) :
    readBlocks b n s = { u with outbox := .tag (.error 0x0F) :: u.outbox } := by
  have closed : mayRead b u = false := by rw [taken, mayRead_of_area (fieldTakes_tagBut _ _ s).area, mayNot]
  unfold readBlocks
  rw [← taken]
  unfold readBlocksAnswer areaOfBlock
  rw [if_neg (by omega), if_pos (by rw [closed]; rfl)]
  rfl

theorem readBlocks_outside {b n : Nat} (taken : u = fieldTakes (b / 4) ((b + n - 1) / 4 + 1 - b / 4) s) (outside : 2048 < b + n) :
    readBlocks b n s = { u with outbox := .tag (.error 0x10) :: u.outbox } := by
  unfold readBlocks
  rw [← taken]
  exact if_pos (.inr (.inr (.inl outside)))

/-! ### Writes of blocks (R352, R355) -/

theorem postTag_tag (cause : Nat) (data : List Byte) (s : State) : (postTag cause data s).tag = s.tag := by
  unfold postTag
  split <;> rfl

/-- A write that a collapse cuts leaves the valid copy of its page and every other page (R355). -/
theorem cutWrite_leaves (p : Nat) (bytes : List Byte) (step : Nat) (wf : PagesWf s) :
    (pageOf (cutWrite p bytes step s) p).valid = (pageOf s p).valid ∧ ∀ r, r ≠ p → pageOf (cutWrite p bytes step s) r = pageOf s r := by
  have stored : ∀ (v : State) (g : Page), v.tag = s.tag → g.valid = (pageOf s p).valid →
      (pageOf (setPage p g v) p).valid = (pageOf s p).valid ∧ ∀ r, r ≠ p → pageOf (setPage p g v) r = pageOf s r := by
    intro v g same valid
    have wfv : PagesWf v := wf.of_pages (by rw [same])
    refine ⟨by rw [pageOf_setPage_same wfv, valid], fun r other => ?_⟩
    rw [pageOf_setPage_other wfv other]
    exact pageOf_of_pages (by rw [same]) r
  have flagged : ∀ b, Page.valid { (pageOf s p).shadow bytes with flag := b } = (pageOf s p).valid := fun b =>
    (valid_flag _ b).trans (valid_shadow _ bytes)
  unfold cutWrite
  split
  · exact ⟨rfl, fun _ _ => rfl⟩
  · exact ⟨rfl, fun _ _ => rfl⟩
  · exact stored _ _ rfl (valid_shadow _ _)
  · refine stored _ _ rfl ?_
    split
    · exact flagged _
    · exact valid_shadow _ bytes
  · exact stored s _ rfl (flagged _)

theorem fieldTakes_otherPages (b : Nat) (wf : PagesWf s) (r : Nat) (other : r ≠ b / 4) : pageOf (fieldTakes (b / 4) 1 s) r = pageOf s r :=
  (fieldTakes_tagBut (b / 4) 1 s).other wf r (by omega)

section
variable {b n : Nat} {data : List Byte} {g : Page} (length : data.length = 4 * n) (some_ : 1 ≤ n) (onePage : b % 4 + n ≤ 4) (inside : b < 2048)
  (may : mayWrite b s = true) (found : g = pageOf (fieldTakes (b / 4) 1 s) (b / 4))
include length some_ onePage inside may found

/-- A write that may be made takes its page and goes through the steps, as far as the field lasts. -/
theorem writeBlocks_goes (cut : Nat) :
    writeBlocks b data cut s =
      (if cut = 0 then answerTag .ok (postTag 5 (leBytes 2 (b / 4))
        (setPage (b / 4) (g.write (mergePage g.valid data (4 * (b % 4)))) (fieldTakes (b / 4) 1 s)))
      else cutWrite (b / 4) (mergePage g.valid data (4 * (b % 4))) cut (fieldTakes (b / 4) 1 s)) := by
  have blocks : data.length / 4 = n := by omega
  unfold writeBlocks
  dsimp only
  rw [blocks, if_neg (by omega), if_neg (by omega), if_neg (by rw [may]; exact Bool.false_ne_true), ← found]

variable (field : s.tag.field = true) (wf : PagesWf s)
include field wf

theorem writeMultipleBlocks_whole :
    ∃ t, exec (.writeMultipleBlocks b data 0) s = .next t ∧
      (pageOf t (b / 4)).valid = g.valid.take (4 * (b % 4)) ++ data ++ g.valid.drop (4 * (b % 4) + 4 * n) ∧
      ∀ p, p ≠ b / 4 → pageOf t p = pageOf s p := by
  have wfu := (fieldTakes_tagBut (b / 4) 1 s).wf wf
  have goes := (writeBlocks_goes length some_ onePage inside may found 0).trans (if_pos rfl)
  refine ⟨_, (inField_on _ field).trans (congrArg Host.Outcome.next goes), ?_, fun r other => ?_⟩
  · rw [pageOf_of_pages (t := answerTag .ok (postTag 5 _ _)) (congrArg Tag.pages (postTag_tag 5 _ _)), pageOf_setPage_same wfu, valid_write,
      ← length]
    rfl
  · rw [pageOf_of_pages (t := answerTag .ok (postTag 5 _ _)) (congrArg Tag.pages (postTag_tag 5 _ _)), pageOf_setPage_other wfu other]
    exact fieldTakes_otherPages b wf r other

theorem writeMultipleBlocks_cut (cut : Nat) (collapses : 1 ≤ cut) :
    ∃ t, exec (.writeMultipleBlocks b data cut) s = .next t ∧ (pageOf t (b / 4)).valid = g.valid ∧
      ∀ p, p ≠ b / 4 → pageOf t p = pageOf s p := by
  have wfu := (fieldTakes_tagBut (b / 4) 1 s).wf wf
  have goes := (writeBlocks_goes length some_ onePage inside may found cut).trans (if_neg (by omega))
  obtain ⟨valid, others⟩ := cutWrite_leaves (b / 4) (mergePage g.valid data (4 * (b % 4))) cut wfu
  refine ⟨_, (inField_on _ field).trans (congrArg Host.Outcome.next goes), valid.trans (by rw [found]), fun r other => ?_⟩
  exact (others r other).trans (fieldTakes_otherPages b wf r other)
end

theorem writeSingleBlock_eq (b : Nat) {data : List Byte} (length : data.length = 4) (cut : Nat) :
    exec (.writeSingleBlock b data cut) s = exec (.writeMultipleBlocks b data cut) s := by
  have whole : slice data 0 4 = data := by
    rw [slice, List.drop_zero, List.take_of_length_le (by omega), length]
    simp
  show inField (writeBlocks b (slice data 0 4) cut) s = inField (writeBlocks b data cut) s
  rw [whole]

/-! ### Passwords (R353, R355) -/

/-- No area is open to the field. -/
def AllClosed (t : Tag) : Prop := ∀ i : Fin 3, (t.area[i.val]).isOpen = false

theorem closeAreas_closed (g : Tag) : AllClosed (closeAreas g) := by
  intro i
  show ((g.area.map fun a : TagArea => { a with isOpen := false })[i.val]).isOpen = false
  rw [Vector.getElem_map]

theorem swapSet_closed {g : Tag} (closed : AllClosed g) : AllClosed (swapSet g) := fun i =>
  (congrArg TagArea.isOpen (swapSet_area g i)).trans (closed i)

theorem AllClosed.of_area {g h : Tag} (closed : AllClosed g) (same : h.area = g.area) : AllClosed h := fun i => by
  rw [same]
  exact closed i

theorem stepWrite_closed (w : TagWrite) (step : Nat) (closed : AllClosed s.tag) : AllClosed (stepWrite w step s).tag := by
  cases w with
  | page p bytes =>
    refine closed.of_area ?_
    show (match step with
      | 3 => setPage p ((pageOf s p).shadow bytes) s
      | 4 => setPage p { pageOf s p with flag := some (!(pageOf s p).ptrB) } s
      | 5 => setPage p (pageOf s p).swap s
      | _ => s).tag.area = _
    split <;> rfl
  | area k limit rp wp pw fd =>
    unfold stepWrite
    dsimp only
    split
    · exact closed
    · exact closed
    · exact swapSet_closed closed
    · exact closed
  | unlock m =>
    unfold stepWrite
    dsimp only
    split
    · exact closed
    · exact closed
    · exact swapSet_closed closed
    · exact closed

theorem settingsFree_closed (closed : AllClosed s.tag) : AllClosed (settingsFree s).tag := by
  have busy : AllClosed (jobBusy s).tag := closed.of_area (jobBusy_tagBut (P := fun _ => True) s).area
  have done : ∀ (j : TagJob) (w : TagWrite), AllClosed (jobNext j (stepWrite w 5 (if j.step = 4 then stepWrite w 4 s else s))).tag := by
    intro j w
    have four : AllClosed (if j.step = 4 then stepWrite w 4 s else s).tag := by
      split
      · exact stepWrite_closed w 4 closed
      · exact closed
    exact (stepWrite_closed w 5 four).of_area (jobNext_tagBut (P := fun _ => True) j _).area
  unfold settingsFree
  split
  next j js jobs =>
    split
    · exact closed
    next w ws page todo =>
      split
      · exact busy
      · exact done j w
    · exact closed
  · exact closed

theorem settingsFree_idle (jobs : s.tag.jobs = []) : settingsFree s = s := by
  unfold settingsFree
  rw [jobs]

/-- The tag once a change of an area's settings has been committed (R355). -/
def committed (k : Nat) (f : TagArea → TagArea) (s : State) : State :=
  modTag (fun t => swapSet { t with other := (vmod s.tag.area (areaAt k) f, s.tag.fdEn) }) s

theorem commitArea_whole (k : Nat) (f : TagArea → TagArea) (s : State) : commitArea k f 0 s = (some (committed k f s), s) := rfl

theorem committed_area (k : Nat) (f : TagArea → TagArea) (keeps : ∀ a, (f a).isOpen = a.isOpen) (s : State) :
    (committed k f s).tag.area = vmod s.tag.area (areaAt k) f := by
  apply Vector.ext
  intro i small
  refine (swapSet_area _ ⟨i, small⟩).trans ?_
  dsimp only
  by_cases here : areaAt k = ⟨i, small⟩
  · have same := vmod_self s.tag.area (areaAt k) f
    rw [here] at same ⊢
    dsimp only at same
    rw [same]
    have open_ := keeps s.tag.area[i]
    rw [← open_]
  · have same := vmod_other s.tag.area (areaAt k) ⟨i, small⟩ f here
    dsimp only at same
    rw [same]

theorem tagArea?_vmod_same {k : Nat} {a : TagArea} {f : TagArea → TagArea} (found : tagArea? k s = some a)
    (changed : t.tag.area = vmod s.tag.area (areaAt k) f) : tagArea? k t = some (f a) := by
  obtain ⟨low, high, is⟩ := tagArea?_some found
  rw [tagArea?_in low high, changed, vmod_self, is]

theorem tagArea?_vmod_other {k j : Nat} {x : TagArea} {f : TagArea → TagArea} (low : 1 ≤ k) (high : k ≤ 3) (other : j ≠ k)
    (changed : t.tag.area = vmod s.tag.area (areaAt k) f) (found : tagArea? j t = some x) : tagArea? j s = some x := by
  obtain ⟨lowJ, highJ, is⟩ := tagArea?_some found
  rw [changed, vmod_other _ _ _ _ (areaAt_ne lowJ highJ low high other)] at is
  rw [tagArea?_in lowJ highJ, is]

/-- The tumbler of an area is counted before the password is compared (R353). -/
def counted (a : TagArea) : TagArea := { a with tumbler := min 15 (a.tumbler + 1) }

theorem modArea_area (k : Nat) (f : TagArea → TagArea) (s : State) : (modArea k f s).tag.area = vmod s.tag.area (areaAt k) f := rfl

/-- The tag once the password of an area has been right: its tumbler is back and it alone is open. -/
theorem comparePassword_right {k : Nat} {pw : W32} {a : TagArea} {v : State} (found : tagArea? k v = some a) (right : pw = a.password) :
    (comparePassword k pw 0 v).tag.area =
      vmod (vmod v.tag.area (areaAt k) fun a => { a with tumbler := 0 }) (areaAt k) fun a => { a with isOpen := true } := by
  unfold comparePassword
  rw [found]
  dsimp only
  rw [if_pos right, commitArea_whole]
  dsimp only
  refine (congrArg Tag.area (postTag_tag 2 _ _)).trans ?_
  refine (modArea_area k _ _).trans ?_
  rw [committed_area k (fun a => { a with tumbler := 0 }) (fun _ => rfl) v]

section
variable {m k : Byte} {pw : W32} {a : TagArea} (named : m.toNat = bitsOf s.fuse.tagUid.toNat 48 8)
  (free : u = settingsFree { s with tag := closeAreas s.tag }) (found : tagArea? k.toNat u = some a) (field : s.tag.field = true)
include free

theorem presented_closed : AllClosed u.tag := by
  rw [free]
  exact settingsFree_closed (closeAreas_closed s.tag)

include named found field

theorem presentPassword_locked (locked : a.locked = true) (cut : Nat) :
    exec (.presentPassword m k pw cut) s = .next { u with outbox := .tag (.error 0xA1) :: u.outbox } := by
  have goes : presentPassword m k pw cut s = answerTag (.error 0xA1) u := by
    unfold presentPassword
    dsimp only
    rw [if_neg (not_not.mpr named), show settingsFree (modTag closeAreas s) = u from free.symm, found]
    exact if_pos locked
  exact (inField_on _ field).trans (congrArg Host.Outcome.next goes)

theorem presentPassword_open (unlocked : a.locked = false) (cut : Nat) :
    exec (.presentPassword m k pw cut) s = .next
      (match commitArea k.toNat counted (if cut ≤ 5 then cut else 0) u with
        | (some v, _) => comparePassword k.toNat pw (cut - 5) v
        | (none, v) => v) := by
  have goes : presentPassword m k pw cut s = (match commitArea k.toNat counted (if cut ≤ 5 then cut else 0) u with
        | (some v, _) => comparePassword k.toNat pw (cut - 5) v
        | (none, v) => v) := by
    unfold presentPassword
    dsimp only
    rw [if_neg (not_not.mpr named), show settingsFree (modTag closeAreas s) = u from free.symm, found]
    dsimp only
    exact if_neg (by rw [unlocked]; exact Bool.false_ne_true)
  exact (inField_on _ field).trans (congrArg Host.Outcome.next goes)

theorem presentPassword_compared (unlocked : a.locked = false) :
    exec (.presentPassword m k pw 0) s = .next (comparePassword k.toNat pw 0 (committed k.toNat counted u)) ∧
      tagArea? k.toNat (committed k.toNat counted u) = some (counted a) :=
  ⟨presentPassword_open named free found field unlocked 0, tagArea?_vmod_same found (committed_area k.toNat counted (fun _ => rfl) u)⟩

theorem presentPassword_right (unlocked : a.locked = false) (right : pw = a.password) :
    ∃ t, exec (.presentPassword m k pw 0) s = .next t ∧ tagArea? k.toNat t = some { a with tumbler := 0, isOpen := true } ∧
      ∀ j, j ≠ k.toNat → ∀ x, tagArea? j t = some x → x.isOpen = false := by
  obtain ⟨runs, stands⟩ := presentPassword_compared (pw := pw) named free found field unlocked
  obtain ⟨low, high, _⟩ := tagArea?_some found
  have area := comparePassword_right stands right
  refine ⟨_, runs, ?_, fun j other x shown => ?_⟩
  · obtain ⟨_, _, is⟩ := tagArea?_some stands
    rw [tagArea?_in low high, area, vmod_self, vmod_self, is]
    rfl
  · obtain ⟨lowJ, highJ, is⟩ := tagArea?_some shown
    have apart := areaAt_ne lowJ highJ low high other
    rw [area, vmod_other _ _ _ _ apart, vmod_other _ _ _ _ apart, committed_area k.toNat counted (fun _ => rfl) u,
      vmod_other _ _ _ _ apart] at is
    rw [← is]
    exact presented_closed free (areaAt j)

theorem presentPassword_wrong (unlocked : a.locked = false) (wrong : pw ≠ a.password) :
    ∃ t, exec (.presentPassword m k pw 0) s = .next t ∧ tagArea? k.toNat t =
      some { a with tumbler := min 15 (a.tumbler + 1), locked := decide (a.limit ≤ min 15 (a.tumbler + 1)) } := by
  obtain ⟨runs, stands⟩ := presentPassword_compared (pw := pw) named free found field unlocked
  refine ⟨_, runs, ?_⟩
  have area : (comparePassword k.toNat pw 0 (committed k.toNat counted u)).tag.area =
      vmod (committed k.toNat counted u).tag.area (areaAt k.toNat)
        fun x => { x with locked := decide ((counted a).limit ≤ (counted a).tumbler) } := by
    unfold comparePassword
    rw [stands]
    dsimp only
    rw [if_neg (show ¬ pw = (counted a).password from wrong)]
    dsimp only [answerTag, emit]
    split
    · exact (congrArg Tag.area (postTag_tag _ _ _)).trans (congrArg Tag.area (postTag_tag _ _ _))
    · exact congrArg Tag.area (postTag_tag _ _ _)
  exact tagArea?_vmod_same stands area

theorem presentPassword_cutEarly (unlocked : a.locked = false) (cut : Nat) (low : 1 ≤ cut) (high : cut ≤ 3) :
    exec (.presentPassword m k pw cut) s = .next u := by
  refine (presentPassword_open named free found field unlocked cut).trans (congrArg Host.Outcome.next ?_)
  rw [if_pos (by omega)]
  have steps : cut = 1 ∨ cut = 2 ∨ cut = 3 := by omega
  rcases steps with rfl | rfl | rfl <;> rfl
end

end Sys2Proof.Proofs

end

section
set_option Elab.async false -- one theorem after another, which keeps Lean within its memory
/-! The service tag at power-up (R355): set commit flags are completed. -/

namespace Sys2Proof.Proofs

open Sys2Proof Sys2Proof.Machine Sys2Proof.Safety Sys2Proof.Laws

variable {s t : State}

/-! ### What a sparse table lists -/

section
variable {α : Type} [DecidableEq α] {d : α}

omit [DecidableEq α] in
theorem mem_of_sparseGet_ne {l : List (Nat × α)} {k : Nat} (listed : sparseGet d l k ≠ d) : (k, sparseGet d l k) ∈ l := by
  induction l with
  | nil => exact absurd rfl listed
  | cons e rest ih =>
    obtain ⟨key, v⟩ := e
    unfold sparseGet at listed ⊢
    split
    next same =>
      subst same
      exact List.mem_cons_self
    next other =>
      rw [if_neg other] at listed
      exact List.mem_cons_of_mem _ (ih listed)

theorem sparseGet_of_mem {lo : Nat} {l : List (Nat × α)} (wf : sparseWfFrom d lo l = true) {x : Nat × α} (mem : x ∈ l) :
    sparseGet d l x.1 = x.2 := by
  induction l generalizing lo with
  | nil => cases mem
  | cons e rest ih =>
    obtain ⟨key, v⟩ := e
    simp only [sparseWfFrom, Bool.and_eq_true, decide_eq_true_eq] at wf
    obtain ⟨_, tail⟩ := wf
    unfold sparseGet
    rcases List.mem_cons.mp mem with rfl | later
    · exact if_pos rfl
    · rw [if_neg (Nat.ne_of_lt (sparseWfFrom_le tail later))]
      exact ih tail later
end

/-! ### Commit flags -/

/-- A page whose commit flag has been completed: the copy that the flag names is valid (R355). -/
def settledPage (g : Page) : Page := { g with ptrB := g.flag.getD g.ptrB, flag := none }

theorem settledPage_clear {g : Page} (clear : g.flag = none) : settledPage g = g := by
  cases g
  cases clear
  rfl

/-- The flag of a page is completed, and the post says so. -/
def completeFlag (s : State) (e : Nat × Page) : State := postTag 6 (leBytes 2 e.1) (setPage e.1 (settledPage e.2) s)

/-- The settings that their flag names come in. -/
def completeSet (s : State) : State := if s.tag.setFlag then modTag swapSet s else s

theorem completeFlags_eq (s : State) :
    completeFlags s = ((settleCut s).tag.pages.filter fun e => e.2.flag.isSome).foldl completeFlag (completeSet (settleCut s)) := rfl

theorem completeFlag_tag (s : State) (e : Nat × Page) : (completeFlag s e).tag = (setPage e.1 (settledPage e.2) s).tag := postTag_tag _ _ _

theorem foldl_completeFlag_tag (l : List (Nat × Page)) (s : State) : ∃ ps, (l.foldl completeFlag s).tag = { s.tag with pages := ps } := by
  induction l generalizing s with
  | nil => exact ⟨s.tag.pages, rfl⟩
  | cons e rest ih =>
    obtain ⟨ps, same⟩ := ih (completeFlag s e)
    refine ⟨ps, same.trans ?_⟩
    rw [completeFlag_tag]
    rfl

theorem completeFlag_wf (wf : PagesWf s) (e : Nat × Page) : PagesWf (completeFlag s e) :=
  (setPage_wf wf e.1 (settledPage e.2)).of_pages (by rw [completeFlag_tag])

theorem pageOf_foldl_completeFlag_other (l : List (Nat × Page)) (wf : PagesWf s) {r : Nat} (absent : ∀ e ∈ l, e.1 ≠ r) :
    pageOf (l.foldl completeFlag s) r = pageOf s r := by
  induction l generalizing s with
  | nil => rfl
  | cons e rest ih =>
    refine (ih (completeFlag_wf wf e) fun x mem => absent x (List.mem_cons_of_mem _ mem)).trans ?_
    rw [pageOf_of_pages (congrArg Tag.pages (completeFlag_tag s e))]
    exact pageOf_setPage_other wf (absent e List.mem_cons_self).symm _

theorem pageOf_foldl_completeFlag_same (l : List (Nat × Page)) (wf : PagesWf s) {r : Nat} {g : Page} (among : ∃ e ∈ l, e.1 = r)
    (unique : ∀ e ∈ l, e.1 = r → e.2 = g) : pageOf (l.foldl completeFlag s) r = settledPage g := by
  induction l generalizing s with
  | nil =>
    obtain ⟨e, mem, _⟩ := among
    cases mem
  | cons e rest ih =>
    by_cases later : ∃ x ∈ rest, x.1 = r
    · exact ih (completeFlag_wf wf e) later fun x mem => unique x (List.mem_cons_of_mem _ mem)
    · have last : ∀ x ∈ rest, x.1 ≠ r := fun x mem same => later ⟨x, mem, same⟩
      have here : e.1 = r := by
        obtain ⟨x, mem, same⟩ := among
        rcases List.mem_cons.mp mem with rfl | more
        · exact same
        · exact absurd same (last x more)
      refine (pageOf_foldl_completeFlag_other rest (completeFlag_wf wf e) last).trans ?_
      rw [pageOf_of_pages (congrArg Tag.pages (completeFlag_tag s e)), ← here, pageOf_setPage_same wf,
        unique e List.mem_cons_self here]

theorem completeSet_pages (s : State) : (completeSet s).tag.pages = s.tag.pages := by
  unfold completeSet
  split <;> rfl

/-- Power-up settles every page by its own flag. -/
theorem pageOf_completeFlags (wf : PagesWf (settleCut s)) (r : Nat) : pageOf (completeFlags s) r = settledPage (pageOf (settleCut s) r) := by
  have wfSet : PagesWf (completeSet (settleCut s)) := wf.of_pages (completeSet_pages _)
  have listed : ∀ e ∈ (settleCut s).tag.pages.filter (fun e => e.2.flag.isSome), pageOf (settleCut s) e.1 = e.2 := fun e mem =>
    sparseGet_of_mem wf (List.mem_filter.mp mem).1
  rw [completeFlags_eq]
  by_cases torn : ∃ e ∈ (settleCut s).tag.pages.filter (fun e => e.2.flag.isSome), e.1 = r
  · exact pageOf_foldl_completeFlag_same _ wfSet torn fun e mem same => by rw [← same, listed e mem]
  · rw [pageOf_foldl_completeFlag_other _ wfSet fun e mem same => torn ⟨e, mem, same⟩, pageOf_of_pages (completeSet_pages _)]
    refine (settledPage_clear ?_).symm
    cases flag : (pageOf (settleCut s) r).flag with
    | none => rfl
    | some b =>
      have notDefault : pageOf (settleCut s) r ≠ {} := fun e => by
        rw [e] at flag
        cases flag
      refine absurd ⟨(r, pageOf (settleCut s) r), List.mem_filter.mpr ⟨mem_of_sparseGet_ne notDefault, ?_⟩, rfl⟩ torn
      show (pageOf (settleCut s) r).flag.isSome = true
      rw [flag]
      rfl

/-- Beside the pages power-up brings in the settings that their flag names. -/
theorem completeFlags_tag (s : State) : ∃ ps, (completeFlags s).tag = { (completeSet (settleCut s)).tag with pages := ps } := by
  rw [completeFlags_eq]
  exact foldl_completeFlag_tag _ _

/-! ### Cut writes -/

theorem settleCut_none (uncut : s.tag.cut = none) : settleCut s = s := by
  unfold settleCut
  rw [uncut]

/-- The tag in a field that has just come: the field states start anew (R355). -/
def woken (s : State) : State := modTag (fun t => { t with quiet := false, selected := false }) s

theorem tagPowerUp_eq (s : State) : tagPowerUp s = completeFlags (woken s) := rfl

/-- With no write cut, power-up settles each page. -/
theorem pageOf_tagPowerUp (wf : PagesWf s) (uncut : s.tag.cut = none) (r : Nat) : pageOf (tagPowerUp s) r = settledPage (pageOf s r) := by
  have same : settleCut (woken s) = woken s := settleCut_none uncut
  rw [tagPowerUp_eq, pageOf_completeFlags (by rw [same]; exact wf), same]
  rfl

theorem tagPowerUp_tag (uncut : s.tag.cut = none) : ∃ ps, (tagPowerUp s).tag = { (completeSet (woken s)).tag with pages := ps } := by
  have same : settleCut (woken s) = woken s := settleCut_none uncut
  obtain ⟨ps, tag⟩ := completeFlags_tag (woken s)
  rw [same] at tag
  exact ⟨ps, tag⟩

/-- The settings that the flag names are in force after power-up. -/
theorem tagPowerUp_settings (uncut : s.tag.cut = none) (flag : s.tag.setFlag = true) :
    (tagPowerUp s).tag.fdEn = s.tag.other.2 ∧ (tagPowerUp s).tag.setFlag = false ∧
      ∀ i : Fin 3, (tagPowerUp s).tag.area[i.val] = { s.tag.other.1[i.val] with isOpen := (s.tag.area[i.val]).isOpen } := by
  obtain ⟨ps, tag⟩ := tagPowerUp_tag uncut
  have set : completeSet (woken s) = modTag swapSet (woken s) := if_pos flag
  rw [tag, set]
  exact ⟨rfl, rfl, fun i => swapSet_area _ i⟩

end Sys2Proof.Proofs

end

section
set_option Elab.async false -- one theorem after another, which keeps Lean within its memory
/-! The commands of the service tag in a field (R352 to R356). -/

namespace Sys2Proof.Proofs

open Sys2Proof Sys2Proof.Machine Sys2Proof.Safety Sys2Proof.Laws

variable {s u : State}

/-- A count whose commit flag is set when the field collapses is completed at power-up (R355). -/
theorem presentPassword_cutLate {m k : Byte} {pw : W32} {a : TagArea} (named : m.toNat = bitsOf s.fuse.tagUid.toNat 48 8)
    (free : u = settingsFree { s with tag := closeAreas s.tag }) (found : tagArea? k.toNat u = some a) (field : s.tag.field = true)
    (unlocked : a.locked = false) (uncut : u.tag.cut = none) :
    ∃ t, exec (.presentPassword m k pw 5) s = .next t ∧ tagArea? k.toNat t = some a ∧
      tagArea? k.toNat (tagPowerUp t) = some { a with tumbler := min 15 (a.tumbler + 1) } := by
  obtain ⟨low, high, is⟩ := tagArea?_some found
  refine ⟨_, presentPassword_open named free found field unlocked 5, found, ?_⟩
  obtain ⟨_, _, settings⟩ := tagPowerUp_settings
    (s := modTag (fun t => { t with other := (vmod u.tag.area (areaAt k.toNat) counted, u.tag.fdEn), setFlag := true }) u) uncut rfl
  refine (tagArea?_in low high).trans (congrArg some ((settings (areaAt k.toNat)).trans ?_))
  show { (vmod u.tag.area (areaAt k.toNat) counted)[(areaAt k.toNat).val] with isOpen := (u.tag.area[(areaAt k.toNat).val]).isOpen } = _
  rw [vmod_self, is]
  rfl

theorem exec_inventory (afi : Option Byte) (s : State) : exec (.inventory afi) s = inField (fun s =>
    if s.tag.quiet ∨ !(afi = none ∨ afi = some 0) then s else answerTag (.inventory s.fuse.tagUid) s) s := rfl

theorem exec_select (uid : W64) (s : State) : exec (.select uid) s = inField (fun s =>
    if uid = s.fuse.tagUid then answerTag .ok (modTag (fun t => { t with quiet := false, selected := true }) s)
    else modTag (fun t => { t with selected := false }) s) s := rfl

theorem exec_inField {act : State → State} {c : Instr} {v : State} (field : s.tag.field = true) (runs : exec c s = inField act s)
    (acts : act s = v) : exec c s = .next v :=
  runs.trans ((inField_on act field).trans (congrArg Host.Outcome.next acts))

/-- Settles O47. -/
theorem tagFieldCommands : Obligations.TagFieldCommands := by
  unfold Obligations.TagFieldCommands
  intro s
  refine ⟨fun off => ?_, fun field => ?_⟩
  · have away : ¬ s.tag.field = true := by rw [off]; exact Bool.false_ne_true
    exact ⟨congrArg Host.Outcome.next (if_neg away), congrArg Host.Outcome.next (if_neg away)⟩
  refine ⟨?_, ?_, ?_, ?_, ?_, exec_inField field rfl rfl, fun c => exec_inField field rfl rfl, fun p n => fieldTakes_idle p n, ?_, ?_, ?_,
    settingsFree_idle, ?_⟩
  · intro loud
    refine exec_inField field (exec_inventory none s) (if_neg ?_)
    rw [loud]
    simp
  · refine exec_inField field rfl ?_
    exact if_pos rfl
  · exact exec_inField field (exec_select _ s) (if_pos rfl)
  · intro u other
    exact exec_inField field (exec_select u s) (if_neg other)
  · refine exec_inField field rfl ?_
    exact if_pos (decide_eq_true rfl)
  · rintro b inside may u rfl
    refine exec_inField field rfl ?_
    have one : (b + 1 - 1) / 4 + 1 - b / 4 = 1 := by omega
    have answered := readBlocks_data (s := s) (b := b) (n := 1) rfl (by omega) (by omega) (by omega) (by omega) may
    rw [one] at answered
    refine answered.trans ?_
    rw [List.range_one, List.flatMap_singleton]
    rfl
  · rintro b n u taken some_
    exact ⟨fun most inside oneArea => ⟨fun may => exec_inField field rfl (readBlocks_data taken some_ most inside oneArea may),
      fun mayNot => exec_inField field rfl (readBlocks_closed taken some_ most inside oneArea mayNot)⟩,
      fun outside => exec_inField field rfl (readBlocks_outside taken outside)⟩
  · rintro b data n g wf length some_ onePage inside may found
    exact ⟨writeMultipleBlocks_whole length some_ onePage inside may found field wf,
      writeMultipleBlocks_cut length some_ onePage inside may found field wf, fun one => writeSingleBlock_eq b (by omega)⟩
  · rintro m k pw u a named free found
    obtain ⟨low, high, is⟩ := tagArea?_some found
    have closed : a.isOpen = false := is ▸ presented_closed free (areaAt k.toNat)
    exact ⟨closed, fun locked => presentPassword_locked named free found field locked 0,
      presentPassword_right named free found field, presentPassword_wrong named free found field,
      fun cut unlocked => presentPassword_cutEarly named free found field unlocked cut,
      presentPassword_cutLate named free found field⟩

end Sys2Proof.Proofs

end

section
set_option Elab.async false -- one theorem after another, which keeps Lean within its memory
/-! The service tag's own moments and its host side (R351, R354 to R358). -/

namespace Sys2Proof.Proofs

open Sys2Proof Sys2Proof.Machine Sys2Proof.Safety Sys2Proof.Laws

variable {s t : State} {f : Flight}

/-! ### The field and FD_OUT (R354) -/

theorem postTag_eventsOnly (cause : Nat) (data : List Byte) (s : State) : EventsOnly s (postTag cause data s) := by
  unfold postTag
  split
  · exact postMail_eventsOnly _ _ _ s
  · rfl

/-- The tag changes and the post may say so. -/
theorem postTag_changed (cause : Nat) (data : List Byte) (g : Tag → Tag) (s : State) :
    (postTag cause data (modTag g s)).tag = g s.tag ∧
      EventsOnly { s with tag := (postTag cause data (modTag g s)).tag } (postTag cause data (modTag g s)) := by
  have tag : (postTag cause data (modTag g s)).tag = g s.tag := postTag_tag _ _ _
  refine ⟨tag, ?_⟩
  rw [tag]
  exact postTag_eventsOnly _ _ _

theorem tickFd_drives (field : s.tag.field = true) (due : s.tag.onDue = true) (passed : s.tag.fieldTick + 64 ≤ s.now) :
    (tickFd s).tag = { s.tag with onDue := false, fd := s.tag.fdEn } ∧ EventsOnly { s with tag := (tickFd s).tag } (tickFd s) := by
  have goes : tickFd s = postTag 0 [] (modTag (fun t => driveFd { t with onDue := false }) s) := if_pos ⟨due, passed⟩
  have driven : driveFd { s.tag with onDue := false } = { s.tag with onDue := false, fd := s.tag.fdEn } := by
    unfold driveFd
    dsimp only
    rw [field]
    rfl
  obtain ⟨tag, events⟩ := postTag_changed 0 [] (fun t => driveFd { t with onDue := false }) s
  rw [goes]
  exact ⟨tag.trans driven, events⟩

theorem tagFieldOff_closes (field : s.tag.field = true) :
    ∃ t, exec .tagFieldOff s = .next t ∧ t.tag.field = false ∧ t.tag.offDue = (!s.tag.onDue) ∧ t.tag.fieldTick = s.now ∧
      t.tag.quiet = false ∧ (∀ i : Fin 3, (t.tag.area[i.val]).isOpen = false) ∧ t = { s with tag := t.tag } :=
  ⟨_, congrArg Host.Outcome.next (if_pos field), rfl, rfl, rfl, rfl, closeAreas_closed s.tag, rfl⟩

/-! ### Power-up after a cut page write (R355) -/

/-- A page write is no longer held as cut. -/
def uncutState (s : State) : State := modTag (fun t => { t with cut := none }) (woken s)

theorem settleCut_page {p : Nat} {bytes : List Byte} {step : Nat} (cut : s.tag.cut = some (.page p bytes, step)) :
    settleCut (woken s) = if step = 5 then setPage p { pageOf s p with flag := some (!(pageOf s p).ptrB) } (uncutState s)
      else cutWrite p bytes step (uncutState s) := by
  unfold settleCut
  rw [show (woken s).tag.cut = some (.page p bytes, step) from cut]
  rfl

theorem completeSet_cut (s : State) : (completeSet s).tag.cut = s.tag.cut := by
  unfold completeSet
  split <;> rfl

theorem cutWrite_cut (p : Nat) (bytes : List Byte) (step : Nat) (s : State) : (cutWrite p bytes step s).tag.cut = s.tag.cut := by
  unfold cutWrite
  split <;> rfl

theorem cutWrite_wf (wf : PagesWf s) (p : Nat) (bytes : List Byte) (step : Nat) : PagesWf (cutWrite p bytes step s) := by
  have stored : ∀ (v : State) (g : Page), v.tag = s.tag → PagesWf (setPage p g v) := fun v g same =>
    setPage_wf (wf.of_pages (by rw [same])) p g
  unfold cutWrite
  split
  · exact wf
  · exact wf
  · exact stored _ _ rfl
  · exact stored _ _ rfl
  · exact stored s _ rfl

/-- Up to step 3 a cut write has set no flag. -/
theorem cutWrite_flag (wf : PagesWf s) (p : Nat) (bytes : List Byte) {step : Nat} (low : 1 ≤ step) (high : step ≤ 3) :
    (pageOf (cutWrite p bytes step s) p).flag = (pageOf s p).flag := by
  have steps : step = 1 ∨ step = 2 ∨ step = 3 := by omega
  rcases steps with rfl | rfl | rfl
  · rfl
  · rfl
  · show (pageOf (setPage p ((pageOf s p).shadow (freeBytes 16 s).1) (freeBytes 16 s).2) p).flag = _
    rw [pageOf_setPage_same (s := (freeBytes 16 s).2) wf, flag_shadow]

theorem tagPowerUp_cutPage {p : Nat} {bytes : List Byte} {step : Nat} (wf : PagesWf s) (cut : s.tag.cut = some (.page p bytes, step))
    (clear : (pageOf s p).flag = none) :
    (tagPowerUp s).tag.cut = none ∧ (step = 5 → pageOf (tagPowerUp s) p = (pageOf s p).swap) ∧
      (1 ≤ step → step ≤ 3 → (pageOf (tagPowerUp s) p).valid = (pageOf s p).valid) := by
  have settled := settleCut_page cut
  have wfUncut : PagesWf (uncutState s) := wf
  have wfSettled : PagesWf (settleCut (woken s)) := by
    rw [settled]
    split
    · exact setPage_wf wfUncut p _
    · exact cutWrite_wf wfUncut p bytes step
  have after := pageOf_completeFlags wfSettled p
  refine ⟨?_, ?_, fun low high => ?_⟩
  · obtain ⟨ps, tag⟩ := completeFlags_tag (woken s)
    rw [tagPowerUp_eq, tag]
    show (completeSet (settleCut (woken s))).tag.cut = none
    rw [completeSet_cut, settled]
    split
    · rfl
    · exact cutWrite_cut p bytes step (uncutState s)
  · rintro rfl
    rw [if_pos rfl] at settled
    rw [tagPowerUp_eq, after, settled, pageOf_setPage_same wfUncut]
    rfl
  · rw [if_neg (by omega)] at settled
    have flag : (pageOf (settleCut (woken s)) p).flag = none := by
      rw [settled]
      exact (cutWrite_flag wfUncut p bytes low high).trans clear
    rw [tagPowerUp_eq, after, settledPage_clear flag, settled]
    exact (cutWrite_leaves p bytes step wfUncut).1

/-! ### The status record (R351) -/

theorem writePages_succ (first n : Nat) (bytes : List Byte) (s : State) :
    writePages first (n + 1) bytes s = setPage (first + n)
      ((pageOf (writePages first n bytes s) (first + n)).write (slice bytes (16 * n) 16)) (writePages first n bytes s) := by
  unfold writePages
  rw [List.range_succ, List.foldl_append, List.foldl_cons, List.foldl_nil]

theorem writePages_wf (wf : PagesWf s) (first n : Nat) (bytes : List Byte) : PagesWf (writePages first n bytes s) := by
  induction n with
  | zero => exact wf
  | succ n ih =>
    rw [writePages_succ]
    exact setPage_wf ih _ _

theorem pageOf_writePages_other (wf : PagesWf s) (first n : Nat) (bytes : List Byte) {r : Nat} (out : r < first ∨ first + n ≤ r) :
    pageOf (writePages first n bytes s) r = pageOf s r := by
  induction n with
  | zero => rfl
  | succ n ih =>
    rw [writePages_succ, pageOf_setPage_other (writePages_wf wf first n bytes) (by omega)]
    exact ih (by omega)

theorem valid_writePages (wf : PagesWf s) (first n : Nat) (bytes : List Byte) {i : Nat} (among : i < n) :
    (pageOf (writePages first n bytes s) (first + i)).valid = slice bytes (16 * i) 16 := by
  induction n with
  | zero => exact absurd among (Nat.not_lt_zero i)
  | succ n ih =>
    rw [writePages_succ]
    rcases Nat.lt_succ_iff_lt_or_eq.mp among with earlier | rfl
    · rw [pageOf_setPage_other (writePages_wf wf first n bytes) (by omega)]
      exact ih earlier
    · rw [pageOf_setPage_same (writePages_wf wf first i bytes), valid_write]

theorem writePages_now (first n : Nat) (bytes : List Byte) (s : State) : (writePages first n bytes s).now = s.now := by
  induction n with
  | zero => rfl
  | succ n ih =>
    rw [writePages_succ]
    exact ih

/-- The tick and the contents of the record that has been written are noted. -/
def recordNoted (s : State) : State := modTag (fun t => { t with statusTick := some s.now, statusOf := (s.gen.replace, s.saf.check) }) s

theorem tagStatusRecordWrite_writes (ready : s.isReady 8 = true) (due : recordDue s = true) (wf : PagesWf s) :
    ∃ t, exec .tagStatusRecordWrite s = .next t ∧ t.tag.statusTick = some s.now ∧
      (∀ i, i < 4 → (pageOf t (124 + i)).valid = slice (statusRecord s) (16 * i) 16) ∧
      ∀ p, (p < 124 ∨ 128 ≤ p) → pageOf t p = pageOf s p := by
  have valid : ∀ i, i < 4 → (pageOf (writePages 124 4 (statusRecord s) s) (124 + i)).valid = slice (statusRecord s) (16 * i) 16 :=
    fun i among => valid_writePages wf 124 4 _ among
  have others : ∀ p, (p < 124 ∨ 128 ≤ p) → pageOf (writePages 124 4 (statusRecord s) s) p = pageOf s p :=
    fun p out => pageOf_writePages_other wf 124 4 _ out
  have tick := writePages_now 124 4 (statusRecord s) s
  have runs : exec .tagStatusRecordWrite s = .next (recordNoted (writePages 124 4 (statusRecord s) s)) :=
    congrArg Host.Outcome.next (if_pos ⟨ready, due⟩)
  generalize writePages 124 4 (statusRecord s) s = v at valid others tick runs
  exact ⟨_, runs, congrArg some tick, valid, others⟩

/-! ### Reads and writes of pages (R356, R358) -/

/-- A run of pages ends at the first one that a condition refuses. -/
theorem takeWhile_range_length {P : Nat → Bool} {m n : Nat} (most : m ≤ n) (passed : ∀ i, i < m → P i = true)
    (stops : m < n → P m = false) : ((List.range n).takeWhile P).length = m := by
  obtain ⟨k, rfl⟩ := Nat.exists_eq_add_of_le most
  have front : (List.range m).takeWhile P ++ [] = List.range m := by
    rw [List.append_nil, List.takeWhile_eq_self_iff]
    exact fun i mem => passed i (List.mem_range.mp mem)
  rw [List.range_add, List.takeWhile_append_of_pos fun i mem => passed i (List.mem_range.mp mem), List.length_append, List.length_range]
  cases k with
  | zero => rfl
  | succ k =>
    rw [List.range_succ_eq_map, List.map_cons, List.takeWhile_cons, Nat.add_zero, stops (by omega)]
    rfl

section
variable {first n : Nat} (isFirst : first = f.p 16 2) (isCount : n = f.p 18 2) (some_ : 1 ≤ n) (inside : first + n ≤ 512)
  (length : f.bufLen = 16 * n)
include isFirst isCount some_ inside length

theorem pages_in : f.pages = some (first, n) := by
  unfold Flight.pages
  rw [← isFirst, ← isCount]
  exact if_neg (by omega)

theorem nfcTagRead_run (front : Front 0x0810 f s) {m : Nat} (most : m ≤ n) (free : ∀ i, i < m → fieldHolds s (first + i) = false)
    (stops : m < n → fieldHolds s (first + m) = true) :
    exec .nfcTagRead s = .next (complete f (if m = n then .ok else .busy) 0 (leBytes 2 m)
      (some ((List.range m).flatMap fun i => (pageOf s (first + i)).valid)) s) := by
  have run : ((List.range n).takeWhile fun i => !fieldHolds s (first + i)).length = m :=
    takeWhile_range_length most (fun i among => by rw [free i among]; rfl) (fun short => by rw [stops short]; rfl)
  refine (exec_front (act := nfcTagRead) front rfl).trans (congrArg Host.Outcome.next ?_)
  unfold nfcTagRead
  rw [pages_in isFirst isCount some_ inside length]
  dsimp only
  rw [run]

theorem nfcTagWrite_own (front : Front 0x0811 f s) (low : first < 128) (high : 124 < first + n) :
    exec .nfcTagWrite s = .next (completeSt f .invalid s) := by
  refine (exec_front (act := nfcTagWrite) front rfl).trans (congrArg Host.Outcome.next ?_)
  unfold nfcTagWrite
  rw [pages_in isFirst isCount some_ inside length]
  exact if_pos ⟨low, high⟩

theorem nfcTagWrite_starts (front : Front 0x0811 f s) (apart : 128 ≤ first ∨ first + n ≤ 124) :
    exec .nfcTagWrite s = .next (startTagJob f ((List.range n).map fun i => .page (first + i) (slice f.inBuf (16 * i) 16)) s) := by
  refine (exec_front (act := nfcTagWrite) front rfl).trans (congrArg Host.Outcome.next ?_)
  unfold nfcTagWrite
  rw [pages_in isFirst isCount some_ inside length]
  exact if_neg (by omega)
end

/-! ### The steps of a host write (R355, R356) -/

/-- The field holds the page of a write. -/
def heldWrite (s : State) (w : TagWrite) : Bool := match w with | .page p _ => fieldHolds s p | _ => false

/-- The write under way has made its step. -/
def stepMade (j : TagJob) (s : State) : State := modTag (fun t => { t with jobs := { j with step := j.step + 1 } :: t.jobs.drop 1 }) s

theorem tagStep_goes {j : TagJob} {js : List TagJob} {w : TagWrite} {ws : List TagWrite} (jobs : s.tag.jobs = j :: js) (todo : j.todo = w :: ws)
    (goes : (heldWrite s w && decide (j.step = 2)) = false) :
    tagStep s = if j.step < 5 then stepMade j (stepWrite w j.step s) else jobNext j (stepWrite w j.step s) := by
  unfold tagStep
  rw [jobs]
  dsimp only
  split
  next none_ => exact absurd (none_.symm.trans todo) nofun
  next w' ws' is =>
    obtain ⟨rfl, rfl⟩ := List.cons.inj (is.symm.trans todo)
    have free : ¬ ((heldWrite s w' && decide (j.step = 2)) = true) := by rw [goes]; exact Bool.false_ne_true
    cases w' <;> exact if_neg free

theorem stepWrite_jobs (w : TagWrite) (k : Nat) (s : State) : (stepWrite w k s).tag.jobs = s.tag.jobs := by
  cases w <;> unfold stepWrite <;> dsimp only <;> split <;> rfl

theorem stepMade_jobs {j : TagJob} {js : List TagJob} {w : TagWrite} {k : Nat} (jobs : s.tag.jobs = j :: js) :
    (stepMade j (stepWrite w k s)).tag.jobs = { j with step := j.step + 1 } :: js := by
  show _ :: (stepWrite w k s).tag.jobs.drop 1 = _
  rw [stepWrite_jobs, jobs]
  rfl

/-- The state after steps 2 to 4 of a write. -/
def threeSteps (j : TagJob) (w : TagWrite) (s : State) : State :=
  stepMade { j with step := 4 } (stepWrite w 4 (stepMade { j with step := 3 } (stepWrite w 3 (stepMade j (stepWrite w 2 s)))))

/-- A descriptor's last write goes through its four steps and ends it. -/
theorem tagStep_four {j : TagJob} {js : List TagJob} {w : TagWrite} (jobs : s.tag.jobs = j :: js) (todo : j.todo = [w]) (begins : j.step = 2)
    (free : heldWrite s w = false) :
    (tagStep (tagStep (tagStep (tagStep s)))).tag = { (stepWrite w 5 (threeSteps j w s)).tag with jobs := js } ∧
      flight? j.flight (tagStep (tagStep (tagStep (tagStep s)))) = none := by
  have two : tagStep s = stepMade j (stepWrite w 2 s) := by
    rw [tagStep_goes jobs todo (by rw [free]; rfl), if_pos (by omega), begins]
  have jobs3 : (stepMade j (stepWrite w 2 s)).tag.jobs = { j with step := 3 } :: js := by
    rw [stepMade_jobs jobs, begins]
  have three := (tagStep_goes jobs3 todo (by simp)).trans (if_pos (show 3 < 5 by decide))
  have jobs4 := stepMade_jobs (w := w) (k := 3) jobs3
  have four := (tagStep_goes jobs4 todo (by simp)).trans (if_pos (show 4 < 5 by decide))
  have jobs5 := stepMade_jobs (w := w) (k := 4) jobs4
  have five := (tagStep_goes jobs5 todo (by simp)).trans (if_neg (show ¬ 5 < 5 by decide))
  obtain ⟨tag, gone⟩ := jobNext_last (s := stepWrite w 5 (threeSteps j w s)) (j := { j with step := 5 }) todo
  have last : tagStep (tagStep (tagStep (tagStep s))) = jobNext { j with step := 5 } (stepWrite w 5 (threeSteps j w s)) := by
    rw [two, three, four]
    exact five
  rw [last]
  refine ⟨tag.trans ?_, gone⟩
  rw [stepWrite_jobs, show (threeSteps j w s).tag.jobs = _ from jobs5]
  rfl

theorem tagStep_busy {j : TagJob} {js : List TagJob} {p : Nat} {bytes : List Byte} (jobs : s.tag.jobs = j :: js) (todo : j.todo = [.page p bytes])
    (begins : j.step = 2) (held : fieldHolds s p = true) :
    tagStep s = completeSeq j.flight .busy 0 (leBytes 2 j.written) none { s with tag := { s.tag with jobs := js } } := by
  have stops : tagStep s = jobBusy s := by
    unfold tagStep
    rw [jobs]
    dsimp only
    split
    next none_ => exact absurd (none_.symm.trans todo) nofun
    next w ws is =>
      obtain ⟨rfl, rfl⟩ := List.cons.inj (is.symm.trans todo)
      exact if_pos (show (fieldHolds s p && decide (j.step = 2)) = true by rw [held, begins]; rfl)
  rw [stops, jobBusy, jobs]
  dsimp only
  rw [todo]
  rfl

/-- Page p holds g, and every other page what it held. -/
structure PageIs (p : Nat) (g : Page) (s v : State) : Prop where
  wf : PagesWf v
  page : pageOf v p = g
  other : ∀ q, q ≠ p → pageOf v q = pageOf s q

theorem PageIs.of_pages {p : Nat} {g : Page} {u v : State} (h : PageIs p g s v) (same : u.tag.pages = v.tag.pages) : PageIs p g s u :=
  ⟨h.wf.of_pages same, (pageOf_of_pages same p).trans h.page, fun q other => (pageOf_of_pages same q).trans (h.other q other)⟩

theorem PageIs.set {p : Nat} {g : Page} {v : State} (h : PageIs p g s v) (g' : Page) : PageIs p g' s (setPage p g' v) :=
  ⟨setPage_wf h.wf p g', pageOf_setPage_same h.wf p g', fun q other => (pageOf_setPage_other h.wf other g').trans (h.other q other)⟩

theorem PageIs.shadow {p : Nat} {g : Page} {v : State} (h : PageIs p g s v) (bytes : List Byte) :
    PageIs p (g.shadow bytes) s (stepWrite (.page p bytes) 3 v) := by
  rw [← h.page]
  exact h.set _

theorem PageIs.flag {p : Nat} {g : Page} {v : State} (h : PageIs p g s v) (bytes : List Byte) :
    PageIs p { g with flag := some (!g.ptrB) } s (stepWrite (.page p bytes) 4 v) := by
  rw [← h.page]
  exact h.set _

theorem PageIs.swap {p : Nat} {g : Page} {v : State} (h : PageIs p g s v) (bytes : List Byte) :
    PageIs p g.swap s (stepWrite (.page p bytes) 5 v) := by
  rw [← h.page]
  exact h.set _

/-- A page write that goes through its steps makes its bytes valid and touches no other page. -/
theorem tagStep_page {j : TagJob} {js : List TagJob} {p : Nat} {bytes : List Byte} (jobs : s.tag.jobs = j :: js) (todo : j.todo = [.page p bytes])
    (begins : j.step = 2) (free : fieldHolds s p = false) (wf : PagesWf s) (done : t = tagStep (tagStep (tagStep (tagStep s)))) :
    (pageOf t p).valid = bytes ∧ t.tag.jobs = js ∧ flight? j.flight t = none ∧ ∀ q, q ≠ p → pageOf t q = pageOf s q := by
  obtain ⟨tag, gone⟩ := tagStep_four jobs todo begins free
  rw [← done] at tag gone
  have start : PageIs p (pageOf s p) s s := ⟨wf, rfl, fun _ _ => rfl⟩
  have two : PageIs p (pageOf s p) s (stepMade j (stepWrite (.page p bytes) 2 s)) := start.of_pages rfl
  have three : PageIs p ((pageOf s p).shadow bytes) s
      (stepMade { j with step := 3 } (stepWrite (.page p bytes) 3 (stepMade j (stepWrite (.page p bytes) 2 s)))) :=
    (two.shadow bytes).of_pages rfl
  have four : PageIs p { (pageOf s p).shadow bytes with flag := some (!((pageOf s p).shadow bytes).ptrB) } s (threeSteps j (.page p bytes) s) :=
    (three.flag bytes).of_pages rfl
  have final := (four.swap bytes).of_pages (u := t) (by rw [tag])
  exact ⟨by rw [final.page, valid_swap_shadow], by rw [tag], gone, final.other⟩

/-- The settings of a host write come in with its last step (R355). -/
theorem tagStep_settings {j : TagJob} {js : List TagJob} {w : TagWrite} (jobs : s.tag.jobs = j :: js) (todo : j.todo = [w]) (begins : j.step = 2)
    (settings : ∀ p bytes, w ≠ .page p bytes) (done : t = tagStep (tagStep (tagStep (tagStep s)))) :
    t.tag.fdEn = (w.settings s.tag).2 ∧ t.tag.jobs = js ∧ flight? j.flight t = none ∧
      ∀ i : Fin 3, t.tag.area[i.val] = { (w.settings s.tag).1[i.val] with isOpen := (s.tag.area[i.val]).isOpen } := by
  cases w with
  | page p bytes => exact absurd rfl (settings p bytes)
  | area k limit rp wp pw fd =>
    obtain ⟨tag, gone⟩ := tagStep_four jobs todo begins rfl
    rw [← done] at tag gone
    rw [tag]
    exact ⟨rfl, rfl, gone, fun i => swapSet_area _ i⟩
  | unlock m =>
    obtain ⟨tag, gone⟩ := tagStep_four jobs todo begins rfl
    rw [← done] at tag gone
    rw [tag]
    exact ⟨rfl, rfl, gone, fun i => swapSet_area _ i⟩

theorem tagStep_area {j : TagJob} {js : List TagJob} {k limit : Nat} {rp wp : Bool} {pw : W32} {fd : Bool} {a : TagArea}
    (jobs : s.tag.jobs = j :: js) (todo : j.todo = [.area k limit rp wp pw fd]) (begins : j.step = 2) (found : tagArea? k s = some a)
    (done : t = tagStep (tagStep (tagStep (tagStep s)))) :
    t.tag.fdEn = fd ∧ t.tag.jobs = js ∧ flight? j.flight t = none ∧
      tagArea? k t = some { a with limit := limit, rp := rp, wp := wp, password := pw, tumbler := 0, locked := false } := by
  obtain ⟨fdEn, left, gone, area⟩ := tagStep_settings jobs todo begins nofun done
  obtain ⟨low, high, is⟩ := tagArea?_some found
  refine ⟨fdEn, left, gone, (tagArea?_in low high).trans (congrArg some ((area (areaAt k)).trans ?_))⟩
  show { (vmod s.tag.area (areaAt k) _)[(areaAt k).val] with isOpen := (s.tag.area[(areaAt k).val]).isOpen } = _
  rw [vmod_self, is]

theorem tagStep_unlock {j : TagJob} {js : List TagJob} {m : Nat} (jobs : s.tag.jobs = j :: js) (todo : j.todo = [.unlock m]) (begins : j.step = 2)
    (done : t = tagStep (tagStep (tagStep (tagStep s)))) :
    t.tag.jobs = js ∧ flight? j.flight t = none ∧ ∀ i : Fin 3, t.tag.area[i.val] =
      if bitAt m i.val then { s.tag.area[i.val] with tumbler := 0, locked := false } else s.tag.area[i.val] := by
  obtain ⟨fdEn, left, gone, area⟩ := tagStep_settings jobs todo begins nofun done
  refine ⟨left, gone, fun i => (area i).trans ?_⟩
  have unlocked : ((TagWrite.unlock m).settings s.tag).1[i.val] =
      if bitAt m i.val then { s.tag.area[i.val] with tumbler := 0, locked := false } else s.tag.area[i.val] := Vector.getElem_ofFn _
  rw [unlocked]
  split <;> rfl

/-- The field meets a host write (R356): before step 4 it is abandoned, from step 4 on it finishes. -/
theorem fieldTakes_meets {j : TagJob} {js : List TagJob} {p q n : Nat} {bytes : List Byte} {ws : List TagWrite} (jobs : s.tag.jobs = j :: js)
    (todo : j.todo = .page p bytes :: ws) (low : q ≤ p) (high : p < q + n) (wf : PagesWf s) :
    (j.step < 4 → (fieldTakes q n s).tag.jobs = js ∧ flight? j.flight (fieldTakes q n s) = none ∧
      pageOf (fieldTakes q n s) p = pageOf s p) ∧
    (4 ≤ j.step → (pageOf (fieldTakes q n s) p).ptrB = !(pageOf s p).ptrB) := by
  rw [fieldTakes_page jobs todo low high]
  refine ⟨fun early => ?_, fun late => ?_⟩
  · rw [if_pos early]
    refine ⟨?_, jobBusy_gone jobs, ?_⟩
    · show (jobBusy s).tag.jobs = js
      rw [jobBusy_tag jobs]
    · exact pageOf_of_pages (t := holding q n (jobBusy s)) (by show (jobBusy s).tag.pages = _; rw [jobBusy_tag jobs]) p
  · rw [if_neg (by omega)]
    have flagged : ∀ c : Prop, [Decidable c] → PagesWf (if c then stepWrite (.page p bytes) 4 s else s) ∧
        (pageOf (if c then stepWrite (.page p bytes) 4 s else s) p).ptrB = (pageOf s p).ptrB := by
      intro c _
      split
      · exact ⟨setPage_wf wf p _, (congrArg Page.ptrB (pageOf_setPage_same (s := s) wf p { pageOf s p with flag := some (!(pageOf s p).ptrB) })).trans rfl⟩
      · exact ⟨wf, rfl⟩
    obtain ⟨wf4, ptr4⟩ := flagged (j.step = 4)
    obtain ⟨left, tag⟩ := jobNext_tag j (stepWrite (.page p bytes) 5 (if j.step = 4 then stepWrite (.page p bytes) 4 s else s))
    have pages := congrArg Tag.pages tag
    have page := pageOf_of_pages (t := holding q n (finished j p bytes s)) (s := stepWrite (.page p bytes) 5 (if j.step = 4 then stepWrite (.page p bytes) 4 s else s))
      pages p
    have swapped := pageOf_setPage_same wf4 p (pageOf (if j.step = 4 then stepWrite (.page p bytes) 4 s else s) p).swap
    rw [page, ← ptr4]
    exact congrArg Page.ptrB swapped

/-- Settles O48. -/
theorem tagHostSide : Obligations.TagHostSide := by
  unfold Obligations.TagHostSide
  intro s
  refine ⟨fun off => congrArg Host.Outcome.next (if_neg (by rw [off]; exact Bool.false_ne_true)), ?_, tagFieldOff_closes, ?_, ?_, ?_,
    tagStatusRecordWrite_writes, ?_, ?_, ?_, ?_, ?_, ?_, ?_, ?_, ?_, ?_⟩
  · rintro field due passed t rfl
    exact tickFd_drives field due passed
  · intro due passed
    exact ⟨_, congrArg Host.Outcome.next (if_pos ⟨due, .inr passed⟩), postTag_changed 1 [] (fun t => { t with fd := false, offDue := false }) s⟩
  · intro wf uncut
    obtain ⟨ps, tag⟩ := tagPowerUp_tag uncut
    have states : ∀ v : State, (completeSet (woken v)).tag.quiet = false ∧ (completeSet (woken v)).tag.selected = false := by
      intro v
      unfold completeSet
      split <;> exact ⟨rfl, rfl⟩
    refine ⟨tagPowerUp s, rfl, ?_, ?_, fun p b flag => ?_, fun p clear => ?_, tagPowerUp_settings uncut⟩
    · rw [tag]
      exact (states s).1
    · rw [tag]
      exact (states s).2
    · rw [pageOf_tagPowerUp wf uncut, settledPage, flag]
      rfl
    · rw [pageOf_tagPowerUp wf uncut, settledPage_clear clear]
  · intro p bytes step wf cut clear
    exact ⟨_, rfl, tagPowerUp_cutPage wf cut clear⟩
  · rintro f first n isFirst isCount some_ inside length
    refine ⟨fun front free => ?_, fun m front short free held => ?_, nfcTagWrite_own isFirst isCount some_ inside length,
      nfcTagWrite_starts isFirst isCount some_ inside length⟩
    · have run := nfcTagRead_run isFirst isCount some_ inside length front (Nat.le_refl n) free fun h => absurd h (Nat.lt_irrefl n)
      rw [if_pos rfl] at run
      exact run
    · have run := nfcTagRead_run isFirst isCount some_ inside length front (Nat.le_of_lt short) free fun _ => held
      rw [if_neg (Nat.ne_of_lt short)] at run
      exact run
  · intro j js p bytes jobs todo begins
    exact ⟨tagStep_busy jobs todo begins, fun free wf t => tagStep_page jobs todo begins free wf⟩
  · intro j js p bytes ws q n jobs todo low high wf
    exact fieldTakes_meets jobs todo low high wf
  · intro f front none_
    refine (exec_front (act := nfcTagRead) front rfl).trans (congrArg Host.Outcome.next ?_)
    have noPages : f.pages = none := if_pos (.inl none_)
    rw [nfcTagRead, noPages]
  · intro f front out
    exact (exec_front (act := nfcTagArea) front rfl).trans (congrArg Host.Outcome.next (if_pos (by omega)))
  · intro f a front low high access fd found
    obtain ⟨first, last, _⟩ := tagArea?_some found
    exact (exec_front (act := nfcTagArea) front rfl).trans (congrArg Host.Outcome.next (if_neg (by omega)))
  · intro j js k limit rp wp pw fd a t jobs todo begins found done
    exact tagStep_area jobs todo begins found done
  · intro f front inside
    exact (exec_front (act := nfcTagUnlock) front rfl).trans (congrArg Host.Outcome.next (if_neg (by omega)))
  · intro j js m t jobs todo begins done
    exact tagStep_unlock jobs todo begins done
  · intro f front out
    exact (exec_front (act := nfcTagUnlock) front rfl).trans (congrArg Host.Outcome.next (if_pos out))

end Sys2Proof.Proofs

end

section
set_option Elab.async false -- one theorem after another, which keeps Lean within its memory
/-! The updates of the display and the crack loop (R359 to R366). -/

namespace Sys2Proof.Proofs

open Sys2Proof Sys2Proof.Machine Sys2Proof.Safety Sys2Proof.Laws

variable {s : State} {f : Flight} {u : LcdUpdate}

/-! ### The bits of a common -/

/-- A common's bits are replaced in a physical image. -/
def withCommon (v c w : Nat) : Nat := v - bitsOf v (64 * c) 64 * 2 ^ (64 * c) + w * 2 ^ (64 * c)

/-- The panel has four commons of 64 lines: each pair of them is a closed statement about division by powers of 2. -/
theorem withCommon_bits {v c d w : Nat} (small : v < 2 ^ 256) (word : w < 2 ^ 64) (hc : c < 4) (hd : d < 4) :
    withCommon v c w < 2 ^ 256 ∧ bitsOf (withCommon v c w) (64 * d) 64 = if d = c then w else bitsOf v (64 * d) 64 := by
  have commonsC : c = 0 ∨ c = 1 ∨ c = 2 ∨ c = 3 := by omega
  have commonsD : d = 0 ∨ d = 1 ∨ d = 2 ∨ d = 3 := by omega
  unfold withCommon bitsOf
  rcases commonsC with rfl | rfl | rfl | rfl <;> rcases commonsD with rfl | rfl | rfl | rfl <;> norm_num <;> omega

/-- A common shows the bits that an image has for it. -/
def showCommon (image : BitVec 256) (c : Nat) (shown : BitVec 256) : BitVec 256 :=
  BitVec.ofNat 256 (withCommon shown.toNat c (commonBits image c))

theorem selectDone_shown (u : LcdUpdate) (i : Nat) (s : State) :
    (selectDone u i s).lcd.shown = showCommon u.image (u.commons.getD i 0) s.lcd.shown := rfl

/-- The end of a select phase brings its common's bits onto the panel and leaves the others (R362). -/
theorem selectDone_bits {i c d : Nat} (common : u.commons[i]? = some c) (hc : c < 4) (hd : d < 4) :
    commonBits (selectDone u i s).lcd.shown d = if d = c then commonBits u.image c else commonBits s.lcd.shown d := by
  have word : commonBits u.image c < 2 ^ 64 := Nat.mod_lt _ (by decide)
  obtain ⟨small, bits⟩ := withCommon_bits s.lcd.shown.isLt word hc hd
  have isC : u.commons.getD i 0 = c := by rw [List.getD_eq_getElem?_getD, common, Option.getD_some]
  rw [selectDone_shown, isC, commonBits, showCommon, BitVec.toNat_ofNat, Nat.mod_eq_of_lt small]
  exact bits

/-! ### Draws (R363) -/

/-- No update runs or is to start, and the image is known. -/
structure LcdFree (s : State) : Prop where
  upd : s.lcd.upd = none
  next : s.lcd.next = none
  indet : s.lcd.indet = false

/-- The image of a draw is stored. -/
def storedImage (f : Flight) (s : State) : State := keepRunning f (modLcd (fun l => { l with stored := BitVec.ofNat 256 (leAt f.inBuf 0 32) }) s)

/-- What the display is to draw. -/
def drawAsked (f : Flight) : LcdPending :=
  { image := BitVec.ofNat 256 (leAt f.inBuf 0 32), full := bitAt (f.p 16 1) 0, flight := some f.seq }

theorem lcdDraw_enabled (front : Front 0x0903 f s) (mode : f.p 16 1 ≤ 1) (en : s.lcd.en = true) :
    exec .lcdDraw s = .next (drawImage (drawAsked f) (storedImage f s)) := by
  refine (exec_front (act := lcdDraw) front rfl).trans (congrArg Host.Outcome.next ((if_neg (Nat.not_lt.mpr mode)).trans (if_neg ?_)))
  rw [en]
  exact Bool.false_ne_true

theorem drawImage_free {p : LcdPending} (free : LcdFree s) :
    drawImage p s = if !p.full && imageShown p.image s then completeShown p.flight s else modLcd (fun l => { l with next := some p }) s := by
  have isFree : (s.lcd.upd.isNone && s.lcd.next.isNone && !s.lcd.indet) = true := by
    rw [free.upd, free.next, free.indet]
    rfl
  unfold drawImage
  dsimp only
  rw [isFree, Bool.true_and]
  exact if_congr Iff.rfl rfl (if_pos rfl)

theorem drawImage_busy {p : LcdPending} (busy : s.lcd.upd.isSome = true ∨ s.lcd.next.isSome = true ∨ s.lcd.indet = true) :
    (drawImage p s).lcd = { s.lcd with pend := some p } := by
  have notFree : (s.lcd.upd.isNone && s.lcd.next.isNone && !s.lcd.indet) = false := by
    rcases busy with upd | next | indet
    · obtain ⟨u, is⟩ := Option.isSome_iff_exists.mp upd
      rw [is]
      rfl
    · obtain ⟨p, is⟩ := Option.isSome_iff_exists.mp next
      rw [is]
      cases s.lcd.upd <;> rfl
    · rw [indet]
      exact Bool.and_false _
  unfold drawImage
  dsimp only
  rw [notFree, Bool.false_and, Bool.false_and, if_neg Bool.false_ne_true, if_neg Bool.false_ne_true]
  split
  · split
    · exact congrArg (fun l : Lcd => { l with pend := some p }) (completeSeq_lcd _ _ _ _ _ s)
    · rfl
  · rfl

theorem storedImage_free (free : LcdFree s) : LcdFree (storedImage f s) := ⟨free.upd, free.next, free.indet⟩

theorem imageShown_stored (image : BitVec 256) : imageShown image (storedImage f s) = imageShown image s := rfl

theorem lcdDraw_next (front : Front 0x0903 f s) (mode : f.p 16 1 ≤ 1) (en : s.lcd.en = true) (free : LcdFree s)
    (needed : (drawAsked f).full = true ∨ imageShown (drawAsked f).image s = false) :
    exec .lcdDraw s = .next (modLcd (fun l => { l with next := some (drawAsked f) }) (storedImage f s)) := by
  refine (lcdDraw_enabled front mode en).trans (congrArg Host.Outcome.next ((drawImage_free (storedImage_free free)).trans (if_neg ?_)))
  rw [imageShown_stored]
  rcases needed with full | other
  · rw [full]
    exact Bool.false_ne_true
  · rw [other, Bool.and_false]
    exact Bool.false_ne_true

theorem lcdDraw_shown (front : Front 0x0903 f s) (mode : f.p 16 1 ≤ 1) (en : s.lcd.en = true) (free : LcdFree s)
    (partial_ : (drawAsked f).full = false) (shown : imageShown (drawAsked f).image s = true) :
    exec .lcdDraw s = .next (completeShown (some f.seq) (storedImage f s)) := by
  refine (lcdDraw_enabled front mode en).trans (congrArg Host.Outcome.next ((drawImage_free (storedImage_free free)).trans (if_pos ?_)))
  rw [imageShown_stored, partial_, shown]
  rfl

theorem keepRunning_frame (f : Flight) (s : State) : HostAndJournalOnly s (keepRunning f s) := rfl

/-! ### Starting and going on (R362 to R365) -/

/-- Nothing waits to be drawn. -/
structure LcdIdle (s : State) : Prop where
  indet : s.lcd.indet = false
  pend : s.lcd.pend = none
  next : s.lcd.next = none

/-- With nothing to draw the sequencer does not go on. -/
theorem lcdResume_idle (idle : LcdIdle s) : lcdResume s = s := by
  unfold lcdResume
  split
  · rfl
  · rw [idle.indet, if_neg Bool.false_ne_true, idle.next]
    dsimp only
    unfold startPending
    rw [idle.pend]

theorem lcdResume_stopped (stopped : lcdMayStart s = false) : lcdResume s = s :=
  if_pos (.inr (by rw [stopped]; rfl))

theorem lcdEdge_begins {p : LcdPending} (next : s.lcd.next = some p) (free : s.lcd.upd = none) (known : s.lcd.indet = false)
    (may : lcdMayStart s = true) :
    lcdEdge s = beginUpdate p.image .draw p.full p.flight s.now (modLcd (fun l => { l with next := none }) s) := by
  unfold lcdEdge
  rw [if_pos (by rw [next, known]; rfl)]
  unfold lcdResume
  rw [if_neg (by rw [free, may]; simp), known, if_neg Bool.false_ne_true, next]

/-! ### Phases (R362, R364) -/

/-- A phase of the running update has run its time. -/
structure PhaseDue (u : LcdUpdate) (s : State) : Prop where
  upd : s.lcd.upd = some u
  held0 : s.rst.held0 = false
  discharge : s.lcd.discharge = none
  due : u.phaseEnd ≤ s.now

/-- The next phase of an update begins. -/
def phaseBegins (u : LcdUpdate) (ph : LcdPhase) (ms : Nat) (s : State) : State :=
  modLcd (fun l => { l with upd := some { u with phase := ph, phaseEnd := u.phaseEnd + msTicks ms }, drive := u.drive ph }) s

theorem lcdPhaseEnd_due (due : PhaseDue u s) :
    exec .lcdPhaseEnd s = .next (match nextPhase u u.wave with
      | none => if (phaseDone u s).lcd.stopping then startDischarge (endUpdate u (phaseDone u s)) else endUpdate u (phaseDone u s)
      | some (ph, ms) => if (phaseDone u s).lcd.stopping then startDischarge (phaseDone u s) else phaseBegins u ph ms (phaseDone u s)) := by
  have acts : phaseEnd s = (match nextPhase u u.wave with
      | none => if (phaseDone u s).lcd.stopping then startDischarge (endUpdate u (phaseDone u s)) else endUpdate u (phaseDone u s)
      | some (ph, ms) => if (phaseDone u s).lcd.stopping then startDischarge (phaseDone u s) else phaseBegins u ph ms (phaseDone u s)) := by
    unfold phaseEnd
    rw [due.upd]
    exact if_neg (by rw [due.held0]; simpa using due.due)
  exact congrArg Host.Outcome.next ((if_neg (by rw [due.discharge]; exact Bool.false_ne_true)).trans acts)

theorem phaseDone_reset (reset : u.phase = .reset) : phaseDone u s = s := by
  unfold phaseDone
  rw [reset]

theorem phaseDone_settle (settle : u.phase = .settle) : phaseDone u s = s := by
  unfold phaseDone
  rw [settle]

theorem nextPhase_reset (reset : u.phase = .reset) (some_ : u.commons ≠ []) : nextPhase u u.wave = some (.select 0, u.wave.ts) := by
  unfold nextPhase
  rw [reset]
  dsimp only
  rw [if_neg (by simpa using some_)]

theorem nextPhase_select {i : Nat} (select : u.phase = .select i) :
    nextPhase u u.wave = some (if i + 1 < u.commons.length then (.select (i + 1), u.wave.ts) else (.settle, u.wave.te)) := by
  unfold nextPhase
  rw [select]

theorem nextPhase_settle (settle : u.phase = .settle) : nextPhase u u.wave = none := by
  unfold nextPhase
  rw [settle]

section
variable (due : PhaseDue u s)
include due

theorem lcdPhaseEnd_reset (runs : s.lcd.stopping = false) (reset : u.phase = .reset) (some_ : u.commons ≠ []) :
    exec .lcdPhaseEnd s = .next (phaseBegins u (.select 0) u.wave.ts s) := by
  refine (lcdPhaseEnd_due due).trans (congrArg Host.Outcome.next ?_)
  rw [nextPhase_reset reset some_, phaseDone_reset reset]
  exact if_neg (by rw [runs]; exact Bool.false_ne_true)

theorem lcdPhaseEnd_select (runs : s.lcd.stopping = false) {i : Nat} (select : u.phase = .select i) :
    ∃ ph ms, exec .lcdPhaseEnd s = .next (phaseBegins u ph ms (selectDone u i s)) ∧ (i + 1 = u.commons.length → ph = .settle) := by
  have done : phaseDone u s = selectDone u i s := by
    unfold phaseDone
    rw [select]
  have run := lcdPhaseEnd_due due
  rw [nextPhase_select select, done] at run
  generalize next : (if i + 1 < u.commons.length then (LcdPhase.select (i + 1), u.wave.ts) else (.settle, u.wave.te)) = x at run
  obtain ⟨ph, ms⟩ := x
  refine ⟨ph, ms, run.trans (congrArg Host.Outcome.next (if_neg (c := (selectDone u i s).lcd.stopping = true) ?_)), fun last => ?_⟩
  · show ¬ s.lcd.stopping = true
    rw [runs]
    exact Bool.false_ne_true
  · rw [if_neg (by omega)] at next
    exact (congrArg Prod.fst next).symm

/-- With the last phase the update is over. -/
theorem lcdPhaseEnd_settle (settle : u.phase = .settle) :
    exec .lcdPhaseEnd s = .next (if s.lcd.stopping then startDischarge (endUpdate u s) else endUpdate u s) := by
  have run := lcdPhaseEnd_due due
  rw [nextPhase_settle settle, phaseDone_settle settle] at run
  exact run

theorem lcdPhaseEnd_stops (stops : s.lcd.stopping = true) (reset : u.phase = .reset) : exec .lcdPhaseEnd s = .next (startDischarge s) := by
  have more : ∃ x, nextPhase u u.wave = some x := by
    unfold nextPhase
    rw [reset]
    exact ⟨_, rfl⟩
  obtain ⟨⟨ph, ms⟩, next⟩ := more
  have run := lcdPhaseEnd_due due
  rw [next, phaseDone_reset reset] at run
  exact run.trans (congrArg Host.Outcome.next (if_pos stops))
end

/-- The lines are released and the update is over, its mark cleared. -/
def updateOver (s : State) : State := modLcd (fun l => { l with upd := none, mark := false, drive := .highZ }) s

/-- The descriptor of an update completes. -/
def updateDone (u : LcdUpdate) (s : State) : State :=
  match u.flight with
  | some q => completeSeq q .ok 0 ([BitVec.ofNat 8 u.commons.length, BitVec.ofNat 8 u.band] ++ leBytes 2 u.duration) none s
  | none => s

theorem updateDone_frame (u : LcdUpdate) (s : State) : HostAndJournalOnly s (updateDone u s) := by
  unfold updateDone
  split
  · exact completeSeq_frame _ _ _ _ _ s
  · rfl

theorem endUpdate_draw (draw : u.why = .draw) (s : State) : endUpdate u s = lcdResume (updateDone u (updateOver s)) := by
  unfold endUpdate
  dsimp only
  rw [draw]
  rfl

theorem lcdMayStart_of_frame {v w : State} (frame : HostAndJournalOnly v w) : lcdMayStart w = lcdMayStart v := by
  unfold lcdMayStart
  rw [HostAndJournalOnly.lcd frame, HostAndJournalOnly.rst frame]

theorem lcdPhaseEnd_over (due : PhaseDue u s) (runs : s.lcd.stopping = false) (settle : u.phase = .settle) (draw : u.why = .draw)
    (idle : LcdIdle s) :
    ∃ t, exec .lcdPhaseEnd s = .next t ∧ t.lcd = { s.lcd with upd := none, mark := false, drive := .highZ } ∧
      HostAndJournalOnly { s with lcd := t.lcd } t := by
  have frame := updateDone_frame u (updateOver s)
  have lcd := HostAndJournalOnly.lcd frame
  have rest : lcdResume (updateDone u (updateOver s)) = updateDone u (updateOver s) :=
    lcdResume_idle ⟨by rw [lcd]; exact idle.indet, by rw [lcd]; exact idle.pend, by rw [lcd]; exact idle.next⟩
  have run := lcdPhaseEnd_settle due settle
  rw [runs, if_neg Bool.false_ne_true, endUpdate_draw draw, rest] at run
  refine ⟨_, run, lcd, ?_⟩
  rw [lcd]
  exact frame

theorem lcdPhaseEnd_overStopping (due : PhaseDue u s) (stops : s.lcd.stopping = true) (settle : u.phase = .settle) (draw : u.why = .draw) :
    ∃ t, exec .lcdPhaseEnd s = .next t ∧ t.lcd.upd = none ∧ t.lcd.mark = false ∧ t.lcd.discharge = some (s.now + 640) ∧
      t.lcd.drive = .ground := by
  have frame := updateDone_frame u (updateOver s)
  have lcd := HostAndJournalOnly.lcd frame
  have stopped : lcdMayStart (updateOver s) = false := by
    show (s.lcd.en && !s.lcd.stopping && s.lcd.discharge.isNone && !s.rst.pfw) = false
    rw [stops]
    simp
  have rest : lcdResume (updateDone u (updateOver s)) = updateDone u (updateOver s) :=
    lcdResume_stopped ((lcdMayStart_of_frame frame).trans stopped)
  have run := lcdPhaseEnd_settle due settle
  rw [stops, if_pos rfl, endUpdate_draw draw, rest] at run
  have now : (updateDone u (updateOver s)).now = s.now := (HostAndJournalOnly.aside frame).now
  have tick := congrArg (fun t => some (t + 640)) now
  exact ⟨_, run, congrArg Lcd.upd lcd, congrArg Lcd.mark lcd, tick, rfl⟩

/-- The lines are released after a discharge, and no update stands. -/
def discharged (s : State) : State := modLcd (fun l => { l with discharge := none, stopping := false, upd := none, drive := .highZ }) s

/-- The draw of an update that was cut completes. -/
def cutDone (q : Option Nat) (s : State) : State :=
  match q with
  | some n => completeSeq n .aborted 0 [] none s
  | none => s

theorem cutDone_frame (q : Option Nat) (s : State) : HostAndJournalOnly s (cutDone q s) := by
  cases q with
  | some n => exact completeSeq_frame _ _ _ _ _ s
  | none => rfl

theorem dischargeEnd_due {t0 : Tick} (runs : s.lcd.discharge = some t0) (due : t0 ≤ s.now) (up : s.rst.held0 = false) :
    dischargeEnd s = lcdResume (cutDone (s.lcd.upd.bind fun u => u.flight) (discharged s)) := by
  unfold dischargeEnd
  rw [runs]
  exact if_neg (by rw [up]; simpa using due)

theorem lcdDischargeEnd_releases {t0 : Tick} (runs : s.lcd.discharge = some t0) (due : t0 ≤ s.now) (up : s.rst.held0 = false) (idle : LcdIdle s) :
    ∃ t, exec .lcdDischargeEnd s = .next t ∧
      t.lcd = { s.lcd with discharge := none, stopping := false, upd := none, drive := .highZ } ∧ HostAndJournalOnly { s with lcd := t.lcd } t := by
  have frame := cutDone_frame (s.lcd.upd.bind fun u => u.flight) (discharged s)
  have acts := dischargeEnd_due runs due up
  generalize cutDone (s.lcd.upd.bind fun u => u.flight) (discharged s) = v at frame acts
  have lcd : v.lcd = (discharged s).lcd := HostAndJournalOnly.lcd frame
  have rest : lcdResume v = v :=
    lcdResume_idle ⟨by rw [lcd]; exact idle.indet, by rw [lcd]; exact idle.pend, by rw [lcd]; exact idle.next⟩
  refine ⟨v, congrArg Host.Outcome.next (acts.trans rest), lcd, ?_⟩
  rw [lcd]
  exact frame

/-! ### Configuration and crack checks (R364, R366) -/

theorem lcdCfgWrite_rejects (v : W32) (up : LinkUp s) (why : s.lcd.upd.isSome = true ∨ 20 < signed 8 (bitsOf v.toNat 8 8)) :
    exec (.lcdCfgWrite v) s = .next { s with lcd := { s.lcd with cfgReject := true } } :=
  congrArg Host.Outcome.next ((hostAcc_up _ up).trans (if_pos (why.imp_right fun high => .inr high)))

theorem lcdCfgWrite_takes (v : W32) (up : LinkUp s) (free : s.lcd.upd = none) (high : signed 8 (bitsOf v.toNat 8 8) ≤ 20)
    (low : -20 ≤ signed 8 (bitsOf v.toNat 8 8)) (stays : bitAt v.toNat 0 = true ∨ s.lcd.en = false) :
    exec (.lcdCfgWrite v) s = .next (lcdResume { s with lcd := { s.lcd with
      en := bitAt v.toNat 0, crackEn := bitAt v.toNat 1, tofs := signed 8 (bitsOf v.toNat 8 8) } }) := by
  refine congrArg Host.Outcome.next ((hostAcc_up _ up).trans ((if_neg ?_).trans (if_neg ?_)))
  · rintro (runs | below | above)
    · rw [free] at runs
      exact Bool.noConfusion runs
    · exact absurd below (Int.not_lt.mpr low)
    · exact absurd above (Int.not_lt.mpr high)
  · rcases stays with on | off
    · rw [on, Bool.not_true, Bool.and_false]
      exact Bool.false_ne_true
    · rw [off, Bool.false_and]
      exact Bool.false_ne_true

/-- A failed check is counted. -/
def crackCounted (n : Nat) (l : Lcd) : Lcd := { l with crackBad := n, crackGood := 0, crack := l.crack || decide (n = 2) }

theorem crackCounted_one (l : Lcd) : crackCounted 1 l = { l with crackBad := 1, crackGood := 0 } := by
  have same : (l.crack || decide (1 = 2)) = l.crack := Bool.or_false _
  rw [crackCounted, same]

theorem crackCheck_early (a b : Nat) {t0 : Tick} (last : s.lcd.crackTick = some t0) (early : s.now < t0 + 6400) :
    exec (.crackCheck a b) s = .next s := by
  refine congrArg Host.Outcome.next (if_neg ?_)
  rintro ⟨_, _, due⟩
  unfold crackDue at due
  rw [last] at due
  exact absurd early (Nat.not_lt.mpr (of_decide_eq_true due))

section
variable {a b : Nat} (ready : s.isReady 9 = true) (en : s.lcd.crackEn = true) (due : crackDue s = true)
include ready en due

theorem crackCheck_due : exec (.crackCheck a b) s = .next (crackCheck a b (modLcd (fun l => { l with crackTick := some s.now }) s)) :=
  congrArg Host.Outcome.next (if_pos ⟨ready, en, due⟩)

theorem crackCheck_second (fails : crackFails a b = true) (first : s.lcd.crackBad = 1) :
    ∃ t, exec (.crackCheck a b) s = .next t ∧ t.lcd.crack = true := by
  refine ⟨_, crackCheck_due ready en due, ?_⟩
  unfold crackCheck
  rw [if_pos fails]
  have shown : (s.lcd.crack || decide (min 2 (s.lcd.crackBad + 1) = 2)) = true := by rw [first]; simp
  dsimp only
  split <;> exact shown

theorem crackCheck_tenth (passes : crackFails a b = false) (nine : s.lcd.crackGood = 9) :
    ∃ t, exec (.crackCheck a b) s = .next t ∧ t.lcd.crack = false := by
  refine ⟨_, crackCheck_due ready en due, ?_⟩
  unfold crackCheck
  rw [if_neg (by rw [passes]; exact Bool.false_ne_true)]
  have cleared : (s.lcd.crack && decide (min 10 (s.lcd.crackGood + 1) ≠ 10)) = false := by rw [nine]; simp
  dsimp only
  split <;> exact cleared

theorem crackCheck_first (fails : crackFails a b = true) (none_ : s.lcd.crackBad = 0) :
    exec (.crackCheck a b) s = .next { s with lcd := { s.lcd with crackBad := 1, crackGood := 0, crackTick := some s.now } } := by
  refine (crackCheck_due ready en due).trans (congrArg Host.Outcome.next ((if_pos fails).trans ((if_neg ?_).trans ?_)))
  · show ¬ (min 2 (s.lcd.crackBad + 1) = 2 ∧ _)
    rw [none_]
    exact fun h => absurd h.1 (by decide)
  · show modLcd (crackCounted (min 2 (s.lcd.crackBad + 1))) (modLcd (fun l => { l with crackTick := some s.now }) s) = _
    rw [none_]
    exact congrArg (fun l : Lcd => { s with lcd := l }) (crackCounted_one { s.lcd with crackTick := some s.now })
end

/-- Settles O49. -/
theorem displayUpdates : Obligations.DisplayUpdates := by
  unfold Obligations.DisplayUpdates
  intro s f
  refine ⟨?_, ?_, ?_, ?_, ?_, ?_, ?_, lcdCfgWrite_rejects, lcdCfgWrite_takes, fun a b t0 => crackCheck_early a b, ?_⟩
  · rintro image front mode en rfl
    refine ⟨fun upd next indet needed => lcdDraw_next front mode en ⟨upd, next, indet⟩ needed, fun upd next indet partial_ shown _ => ?_, fun busy => ?_⟩
    · have frame := completeSeq_frame f.seq .ok 0 [0, BitVec.ofNat 8 ((storedImage f s).lcd.band.getD 0), 0, 0] none (storedImage f s)
      have lcd := HostAndJournalOnly.lcd frame
      refine ⟨_, lcdDraw_shown front mode en ⟨upd, next, indet⟩ partial_ shown, lcd, ?_⟩
      show HostAndJournalOnly { s with lcd := (completeSeq f.seq .ok 0 _ none (storedImage f s)).lcd } _
      rw [lcd]
      exact HostAndJournalOnly.trans (keepRunning_frame f _) frame
    · exact ⟨_, lcdDraw_enabled front mode en, drawImage_busy (s := storedImage f s) busy⟩
  · intro p next free known may
    rw [lcdEdge_begins next free known may]
    exact ⟨_, rfl, rfl, rfl, rfl, rfl, rfl, rfl, rfl, rfl, rfl, rfl, rfl⟩
  · intro front mode
    exact (exec_front (act := lcdDraw) front rfl).trans (congrArg Host.Outcome.next (if_pos mode))
  · intro front mode off
    exact (exec_front (act := lcdDraw) front rfl).trans
      (congrArg Host.Outcome.next ((if_neg (Nat.not_lt.mpr mode)).trans (if_pos (by rw [off]; rfl))))
  · intro u upd held0 discharge ends runs
    have due : PhaseDue u s := ⟨upd, held0, discharge, ends⟩
    refine ⟨lcdPhaseEnd_reset due runs, fun i c select common small => ?_, fun settle draw indet pend next =>
      lcdPhaseEnd_over due runs settle draw ⟨indet, pend, next⟩⟩
    obtain ⟨ph, ms, run, last⟩ := lcdPhaseEnd_select due runs select
    refine ⟨_, run, ?_, fun d among other => ?_, fun final => ?_⟩
    · exact (selectDone_bits (s := s) common small small).trans (if_pos rfl)
    · exact (selectDone_bits (s := s) common small among).trans (if_neg other)
    · rw [last final]
      exact ⟨rfl, _, rfl, rfl⟩
  · intro u upd held0 discharge ends stops
    have due : PhaseDue u s := ⟨upd, held0, discharge, ends⟩
    exact ⟨lcdPhaseEnd_stops due stops, lcdPhaseEnd_overStopping due stops⟩
  · intro t0 runs due up pend next indet
    exact lcdDischargeEnd_releases runs due up ⟨indet, pend, next⟩
  · intro a b ready en due
    exact ⟨crackCheck_second ready en due, crackCheck_tenth ready en due, crackCheck_first ready en due⟩

end Sys2Proof.Proofs

end

section
set_option Elab.async false -- one theorem after another, which keeps Lean within its memory
/-! The tables of the display and the lamps (R359, R361, R367 to R370). -/

namespace Sys2Proof.Proofs

open Sys2Proof Sys2Proof.Machine Sys2Proof.Safety Sys2Proof.Laws

variable {s : State} {f : Flight}

/-! ### Legend and waveforms (R359, R361) -/

theorem lcdLegendWrite_front (front : Front 0x0901 f s) : exec .lcdLegendWrite s = .next (lcdLegendWrite f s) :=
  exec_front (act := lcdLegendWrite) front rfl

theorem lcdWaveWrite_front (front : Front 0x0902 f s) : exec .lcdWaveWrite s = .next (lcdWaveWrite f s) :=
  exec_front (act := lcdWaveWrite) front rfl

theorem lcdWaveWrite_invalid {b : Nat} (front : Front 0x0902 f s) (small : b < 6) (bad : Wave.ofBytes (slice f.inBuf (16 * b) 16) = none) :
    exec .lcdWaveWrite s = .next (completeSt f .invalid s) := by
  refine (lcdWaveWrite_front front).trans (congrArg Host.Outcome.next (if_pos ?_))
  exact List.any_eq_true.mpr ⟨none, List.mem_map.mpr ⟨b, List.mem_range.mpr small, bad⟩, rfl⟩

/-- The six entries of a table that is in range. -/
theorem waves_read {w : Vector Wave 6} (good : ∀ b : Fin 6, Wave.ofBytes (slice f.inBuf (16 * b.val) 16) = some w[b.val]) :
    (List.range 6).map (fun b => Wave.ofBytes (slice f.inBuf (16 * b) 16)) = w.toList.map some := by
  apply List.ext_getElem
  · simp
  · intro i low high
    have small : i < 6 := by simpa using low
    rw [List.getElem_map, List.getElem_map, List.getElem_range, Vector.getElem_toList]
    exact good ⟨i, small⟩

theorem lcdWaveWrite_takes (w : Vector Wave 6) (front : Front 0x0902 f s)
    (good : ∀ b : Fin 6, Wave.ofBytes (slice f.inBuf (16 * b.val) 16) = some w[b.val]) :
    exec .lcdWaveWrite s = .next (completeSt f .ok { s with lcd := { s.lcd with wave := w } }) := by
  have read := waves_read good
  have all : ((w.toList.map some).any fun x => x.isNone) = false := by
    rw [List.any_map, List.any_eq_false]
    exact fun _ _ => Bool.false_ne_true
  have listed : (w.toList.map some).filterMap id = w.toList := by
    rw [List.filterMap_map]
    exact List.filterMap_some
  have table : toVec 6 (waveOf s 5) w.toList = w := by
    apply Vector.ext
    intro i small
    rw [toVec, Vector.getElem_ofFn, List.getD_eq_getElem _ _ (by simpa using small), Vector.getElem_toList]
  refine (lcdWaveWrite_front front).trans (congrArg Host.Outcome.next ?_)
  unfold lcdWaveWrite
  dsimp only
  rw [read, all, if_neg Bool.false_ne_true, listed, table]
  rfl

/-! ### Gamma tables and LMP_SET (R368, R369) -/

theorem lmpGammaWrite_takes {r g b : Vector Nat 64} (front : Front 0x0A01 f s) (red : gammaTable (slice f.inBuf 0 128) = some r)
    (green : gammaTable (slice f.inBuf 128 128) = some g) (blue : gammaTable (slice f.inBuf 256 128) = some b) :
    exec .lmpGammaWrite s = .next (completeSt f .ok { s with lmp := { s.lmp with gamma := #v[r, g, b] } }) := by
  refine (exec_front (act := lmpGammaWrite) front rfl).trans (congrArg Host.Outcome.next ?_)
  unfold lmpGammaWrite
  rw [red, green, blue]

theorem lmpGammaWrite_invalid (front : Front 0x0A01 f s) (red : gammaTable (slice f.inBuf 0 128) = none) :
    exec .lmpGammaWrite s = .next (completeSt f .invalid s) := by
  refine (exec_front (act := lmpGammaWrite) front rfl).trans (congrArg Host.Outcome.next ?_)
  unfold lmpGammaWrite
  rw [red]

theorem lmpSet_invalid {i : Nat} (front : Front 0x0A02 f s) (small : i < 6) (above : 4095 < f.p (16 + 2 * i) 2) :
    exec .lmpSet s = .next (completeSt f .invalid s) :=
  (exec_front (act := lmpSet) front rfl).trans (congrArg Host.Outcome.next
    (if_pos (List.any_eq_true.mpr ⟨i, List.mem_range.mpr small, decide_eq_true above⟩)))

/-- The lamp that LMP_SET asks for. -/
def lampAsked (f : Flight) (s : State) : Lamp :=
  { isSet := true, c1 := lampDrive f 16 s, c2 := lampDrive f 22 s, on := f.p 28 1, off := f.p 29 1, since := s.now }

theorem lampDrive_get (f : Flight) (o : Nat) (s : State) (c : Fin 3) :
    (lampDrive f o s)[c.val] = gammaOf (s.lmp.gamma[c.val]) (f.p (o + 2 * c.val) 2) := Vector.getElem_ofFn _

theorem lmpSet_waits (front : Front 0x0A02 f s) (inRange : ∀ i, i < 6 → f.p (16 + 2 * i) 2 ≤ 4095) :
    ∃ t, exec .lmpSet s = .next t ∧ t.lmp = { s.lmp with pend := s.lmp.pend.set f.outlet.val (some (lampAsked f s)) } ∧
      HostAndJournalOnly { s with lmp := t.lmp } t := by
  have small : ((List.range 6).any fun i => decide (4095 < f.p (16 + 2 * i) 2)) = false := by
    rw [List.any_eq_false]
    intro i mem
    simpa using inRange i (List.mem_range.mp mem)
  have frame := complete_frame f .ok 0 (leBytes 2 (lampDrive f 16 s)[0]) none
    { s with lmp := { s.lmp with pend := s.lmp.pend.set f.outlet.val (some (lampAsked f s)) } }
  have lmp := HostAndJournalOnly.lmp frame
  refine ⟨_, (exec_front (act := lmpSet) front rfl).trans (congrArg Host.Outcome.next (if_neg (by rw [small]; exact Bool.false_ne_true))), lmp, ?_⟩
  show HostAndJournalOnly { s with lmp := (complete f .ok 0 (leBytes 2 (lampDrive f 16 s)[0]) none
    { s with lmp := { s.lmp with pend := s.lmp.pend.set f.outlet.val (some (lampAsked f s)) } }).lmp } _
  rw [lmp]
  exact frame

/-! ### The edge of a PWM period (R367, R369, R370) -/

/-- What the lamps take leaves everything but the lamps and what waits for them. -/
structure LampsOnly (s t : State) : Prop where
  now : t.now = s.now
  fs : t.lmp.fs = s.lmp.fs
  sink : t.lmp.sink = s.lmp.sink

theorem lampTake_only (n : Outlet8) (s : State) : LampsOnly s (lampTake n s) := by
  unfold lampTake
  split
  · split <;> exact ⟨rfl, rfl, rfl⟩
  · exact ⟨rfl, rfl, rfl⟩

theorem lampsTaken_only (s : State) : LampsOnly s (forFin 8 lampTake s) :=
  List.foldlRecOn (motive := LampsOnly s) _ _ ⟨rfl, rfl, rfl⟩ fun _ h n _ =>
    ⟨(lampTake_only n _).now.trans h.now, (lampTake_only n _).fs.trans h.fs, (lampTake_only n _).sink.trans h.sink⟩

theorem lampTake_other {n m : Outlet8} (other : m ≠ n) (s : State) :
    (lampTake m s).lmp.lamp[n.val] = s.lmp.lamp[n.val] ∧ (lampTake m s).lmp.pend[n.val] = s.lmp.pend[n.val] := by
  have apart : m.val ≠ n.val := fun e => other (Fin.ext e)
  unfold lampTake
  split
  · split
    · exact ⟨Vector.getElem_set_ne m.isLt n.isLt apart, Vector.getElem_set_ne m.isLt n.isLt apart⟩
    · exact ⟨rfl, rfl⟩
  · exact ⟨rfl, rfl⟩

/-- An outlet's lamp and what waits for it. -/
def lampOf (n : Outlet8) (s : State) : Lamp × Option Lamp := (s.lmp.lamp[n.val], s.lmp.pend[n.val])

/-- The lamps of the outlets take their settings one by one, and none of them another's. -/
theorem lampsTaken_lamp (n : Outlet8) (s : State) (Q : Lamp × Option Lamp → Prop)
    (takes : ∀ t : State, t.now = s.now → lampOf n t = lampOf n s → Q (lampOf n (lampTake n t))) : Q (lampOf n (forFin 8 lampTake s)) := by
  refine forFin_one (s := s) (n := n) (P := fun t => t.now = s.now ∧ lampOf n t = lampOf n s) (Q := fun t => Q (lampOf n t))
    (fun m t other h => ?_) (fun t h => takes t h.1 h.2) (fun m t other h => ?_) ⟨rfl, rfl⟩
  · obtain ⟨lamp, pend⟩ := lampTake_other other t
    exact ⟨(lampTake_only m t).now.trans h.1, (Prod.ext lamp pend : lampOf n (lampTake m t) = lampOf n t).trans h.2⟩
  · obtain ⟨lamp, pend⟩ := lampTake_other other t
    have same : lampOf n (lampTake m t) = lampOf n t := Prod.ext lamp pend
    rw [same]
    exact h

/-- The sinks of all channels. -/
def withSinks (v : Vector (Nat × Nat) 24) (s : State) : State := { s with lmp := { s.lmp with sink := v } }

theorem withSinks_lampOf (n : Outlet8) (v : Vector (Nat × Nat) 24) (t : State) : lampOf n (withSinks v t) = lampOf n t := rfl

theorem withSinks_lamps (v : Vector (Nat × Nat) 24) (t : State) : (withSinks v t).lmp.lamp = t.lmp.lamp := rfl

theorem withSinks_sink (v : Vector (Nat × Nat) 24) (t : State) : (withSinks v t).lmp.sink = v := rfl

/-- The sink that each channel takes. -/
def sinksNext (s : State) : Vector (Nat × Nat) 24 := Vector.ofFn (sinkNext s)

theorem sinksNext_get (s : State) (j : Fin 24) : (sinksNext s)[j.val] = sinkNext s j := Vector.getElem_ofFn _

theorem lampEdge_withSinks (s : State) : lampEdge s = withSinks (sinksNext (forFin 8 lampTake s)) (forFin 8 lampTake s) := by
  unfold lampEdge withSinks sinksNext
  dsimp only

theorem lampOf_parts {n : Outlet8} {t : State} {l : Lamp} {o : Option Lamp} (is : lampOf n t = (l, o)) :
    t.lmp.lamp[n.val] = l ∧ t.lmp.pend[n.val] = o := Prod.ext_iff.mp is

theorem lampEdge_lampOf (n : Outlet8) (s : State) : lampOf n (lampEdge s) = lampOf n (forFin 8 lampTake s) :=
  (congrArg (lampOf n) (lampEdge_withSinks s)).trans (withSinks_lampOf n _ _)

theorem lampEdge_takes (n : Outlet8) {l : Lamp} (waits : s.lmp.pend[n.val] = some l) (began : pwmBegan s.now (3 * n.val) = true) :
    (lampEdge s).lmp.lamp[n.val] = { l with since := s.now } ∧ (lampEdge s).lmp.pend[n.val] = none := by
  suffices taken : lampOf n (forFin 8 lampTake s) = ({ l with since := s.now }, none) by
    exact lampOf_parts ((lampEdge_lampOf n s).trans taken)
  refine lampsTaken_lamp n s (fun x => x = ({ l with since := s.now }, none)) fun t now same => ?_
  have pend : t.lmp.pend[n.val] = some l := (congrArg Prod.snd same).trans waits
  have taken : lampTake n t = { t with lmp := { t.lmp with lamp := t.lmp.lamp.set n.val { l with since := t.now }, pend := t.lmp.pend.set n.val none } } := by
    unfold lampTake
    rw [pend]
    exact if_pos (by rw [now]; exact began)
  rw [taken, ← now]
  exact Prod.ext (Vector.getElem_set_self n.isLt) (Vector.getElem_set_self n.isLt)

theorem lampEdge_keeps (n : Outlet8) (between : pwmBegan s.now (3 * n.val) = false) :
    (lampEdge s).lmp.lamp[n.val] = s.lmp.lamp[n.val] ∧ (lampEdge s).lmp.pend[n.val] = s.lmp.pend[n.val] := by
  suffices kept : lampOf n (forFin 8 lampTake s) = lampOf n s by
    exact lampOf_parts ((lampEdge_lampOf n s).trans kept)
  refine lampsTaken_lamp n s (fun x => x = lampOf n s) fun t now same => ?_
  have kept : lampTake n t = t := by
    unfold lampTake
    split
    · refine if_neg ?_
      rw [now]
      exact fun began => Bool.false_ne_true (between.symm.trans began)
    · rfl
  rw [kept]
  exact same

/-- Reading a vector at equal places. -/
theorem getElem_at {α : Type} {k : Nat} (v : Vector α k) {i j : Nat} (hi : i < k) (hj : j < k) (same : i = j) : v[i] = v[j] := by
  subst same
  rfl

/-- A channel's sink takes full scale and drive value where its period begins (R367, R370). -/
theorem lampEdge_sink (n : Outlet8) (c : Fin 3) (j : Fin 24) (channel : j.val = 3 * n.val + c.val) :
    ((lampEdge s).lmp.sink)[j.val] =
      if pwmBegan s.now j.val then (s.lmp.fs[c.val], ((((lampEdge s).lmp.lamp)[n.val]).shows)[c.val]) else s.lmp.sink[j.val] := by
  obtain ⟨now, fs, sink⟩ := lampsTaken_only s
  have colour : j.val % 3 = c.val := by omega
  have outlet : j.val / 3 = n.val := by omega
  rw [lampEdge_withSinks, withSinks_lamps, withSinks_sink, sinksNext_get]
  generalize forFin 8 lampTake s = t at now fs sink
  unfold sinkNext
  rw [now]
  split
  · refine Prod.ext ?_ ?_
    · exact (getElem_at t.lmp.fs (Nat.mod_lt _ (by decide)) c.isLt colour).trans (congrArg (fun v : Vector Nat 3 => v[c.val]) fs)
    · have lamp := getElem_at t.lmp.lamp (Nat.div_lt_of_lt_mul j.isLt) n.isLt outlet
      dsimp only
      rw [lamp]
      exact getElem_at _ (Nat.mod_lt _ (by decide)) c.isLt colour
  · exact congrArg (fun v : Vector (Nat × Nat) 24 => v[j.val]) sink

/-! ### Patterns (R369) -/

theorem lampBlinkPhase_blinks (n : Outlet8) {l : Lamp} (is : l = s.lmp.lamp[n.val]) (shown : l.isSet = true) (pattern : l.on ≠ 0)
    (due : l.since + 640 * (if l.second then l.off else l.on) ≤ s.now) :
    exec (.lampBlinkPhase n) s = .next { s with lmp := { s.lmp with
      lamp := s.lmp.lamp.set n.val { l with second := !l.second, since := l.since + 640 * (if l.second then l.off else l.on) } } } := by
  have ticks : ∀ x, msTicks (10 * x) = 640 * x := fun x => by unfold msTicks; omega
  have blinked : Lamp.blink s.now s.lmp.lamp[n.val] = { l with second := !l.second, since := l.since + 640 * (if l.second then l.off else l.on) } := by
    rw [← is]
    unfold Lamp.blink
    rw [ticks]
    exact if_pos ⟨shown, pattern, due⟩
  exact congrArg (fun x => Host.Outcome.next { s with lmp := { s.lmp with lamp := s.lmp.lamp.set n.val x } }) blinked

/-- Settles O50. -/
theorem tablesAndLamps : Obligations.TablesAndLamps := by
  unfold Obligations.TablesAndLamps
  intro s f
  refine ⟨?_, ?_, ?_, fun b => lcdWaveWrite_invalid, lcdWaveWrite_takes, fun r g b => lmpGammaWrite_takes, lmpGammaWrite_invalid,
    fun i => lmpSet_invalid, ?_, fun n => ⟨fun l => lampEdge_takes n, lampEdge_keeps n⟩, lampEdge_sink, ?_⟩
  · intro front busy
    exact (lcdLegendWrite_front front).trans (congrArg Host.Outcome.next (if_pos busy))
  · intro front upd pend next bad
    exact (lcdLegendWrite_front front).trans (congrArg Host.Outcome.next
      ((if_neg (by rw [upd, pend, next]; simp)).trans (if_pos (by rw [bad]; rfl))))
  · intro front upd pend next good
    exact (lcdLegendWrite_front front).trans (congrArg Host.Outcome.next
      ((if_neg (by rw [upd, pend, next]; simp)).trans (if_neg (by rw [good]; exact Bool.false_ne_true))))
  · intro front inRange
    obtain ⟨t, runs, lmp, frame⟩ := lmpSet_waits front inRange
    exact ⟨t, lampAsked f s, runs, lmp, rfl, rfl, rfl, rfl, fun c => ⟨lampDrive_get f 16 s c, lampDrive_get f 22 s c⟩, frame⟩
  · intro n l is shown pattern
    refine ⟨fun first due => ?_, fun second due => ?_⟩
    · have blinks := lampBlinkPhase_blinks n is shown pattern (by rw [first]; exact due)
      rw [first] at blinks
      exact blinks
    · have blinks := lampBlinkPhase_blinks n is shown pattern (by rw [second]; exact due)
      rw [second] at blinks
      exact blinks

end Sys2Proof.Proofs

end

section
set_option Elab.async false -- one theorem after another, which keeps Lean within its memory
/-! The channels of the load switches: what each operation changes of them. -/

namespace Sys2Proof.Proofs

open Sys2Proof Sys2Proof.Machine Sys2Proof.Safety Sys2Proof.Laws

variable {s t u : State} {k j : Fin 24}

theorem chOf_modCh_other (other : j ≠ k) (g : Channel → Channel) (s : State) : chOf (modCh k g s) j = chOf s j :=
  vmod_other _ _ _ _ other.symm

theorem chOf_of_lsw (same : t.lsw = s.lsw) (k : Fin 24) : chOf t k = chOf s k := congrArg (fun l : Lsw => l.ch[k.val]) same

/-! ### Operations that leave the channels alone -/

@[simp] theorem postLsw_lsw (k : Fin 24) (cause : Nat) (s : State) : (postLsw k cause s).lsw = s.lsw := by
  unfold postLsw
  dsimp only
  split <;> rfl

@[simp] theorem postLsw_now (k : Fin 24) (cause : Nat) (s : State) : (postLsw k cause s).now = s.now := by
  unfold postLsw
  dsimp only
  split <;> rfl

@[simp] theorem postSupply_lsw (cause input : Nat) (s : State) : (postSupply cause input s).lsw = s.lsw := by
  unfold postSupply
  split <;> rfl

@[simp] theorem postSupply_now (cause input : Nat) (s : State) : (postSupply cause input s).now = s.now := by
  unfold postSupply
  split <;> rfl

@[simp] theorem bridgeFault_lsw (k : Fin 24) (s : State) : (bridgeFault k s).lsw = s.lsw := by
  unfold bridgeFault
  dsimp only
  split <;> rfl

@[simp] theorem bridgeFault_now (k : Fin 24) (s : State) : (bridgeFault k s).now = s.now := by
  unfold bridgeFault
  dsimp only
  split <;> rfl

theorem postLsw_chOf (k j : Fin 24) (cause : Nat) (s : State) : chOf (postLsw k cause s) j = chOf s j := chOf_of_lsw (postLsw_lsw ..) j

theorem bridgeFault_chOf (k j : Fin 24) (s : State) : chOf (bridgeFault k s) j = chOf s j := chOf_of_lsw (bridgeFault_lsw ..) j

/-! ### Operations on channels -/

/-- Of the load switches a step changes at most channels. -/
structure ChannelsOnly (s t : State) : Prop where
  lsw : t.lsw = { s.lsw with ch := t.lsw.ch }
  now : t.now = s.now

namespace ChannelsOnly

theorem refl (s : State) : ChannelsOnly s s := ⟨rfl, rfl⟩

theorem trans (first : ChannelsOnly s t) (second : ChannelsOnly t u) : ChannelsOnly s u :=
  ⟨second.lsw.trans (congrArg (fun l : Lsw => { l with ch := u.lsw.ch }) first.lsw), second.now.trans first.now⟩

theorem of_lsw (same : t.lsw = s.lsw) (now : t.now = s.now) : ChannelsOnly s t := by
  refine ⟨?_, now⟩
  rw [same]

variable (h : ChannelsOnly s t)
include h

theorem pwm : t.lsw.pwm = s.lsw.pwm := (congrArg Lsw.pwm h.lsw :)
theorem temp : t.lsw.temp = s.lsw.temp := (congrArg Lsw.temp h.lsw :)
theorem folds : t.lsw.folds = s.lsw.folds := (congrArg Lsw.folds h.lsw :)
theorem uv : t.lsw.uv = s.lsw.uv := (congrArg Lsw.uv h.lsw :)
theorem ov : t.lsw.ov = s.lsw.ov := (congrArg Lsw.ov h.lsw :)
theorem vaux : t.lsw.vaux = s.lsw.vaux := (congrArg Lsw.vaux h.lsw :)

end ChannelsOnly

theorem modCh_channelsOnly (k : Fin 24) (g : Channel → Channel) (s : State) : ChannelsOnly s (modCh k g s) := ⟨rfl, rfl⟩

theorem postLsw_channelsOnly (k : Fin 24) (cause : Nat) (s : State) : ChannelsOnly s (postLsw k cause s) :=
  .of_lsw (postLsw_lsw ..) (postLsw_now ..)

theorem turnOn_channelsOnly (tick : Tick) (k : Fin 24) (s : State) : ChannelsOnly s (turnOn tick k s) := by
  unfold turnOn
  split <;> exact modCh_channelsOnly _ _ _

/-- A list of steps that each change at most channels. -/
theorem channelsOnly_foldl {α : Type} {step : State → α → State} (each : ∀ s a, ChannelsOnly s (step s a)) (l : List α) (s : State) :
    ChannelsOnly s (l.foldl step s) := List.foldlRecOn (motive := ChannelsOnly s) _ _ (.refl s) fun _ h _ _ => h.trans (each _ _)

theorem turnOn_other (other : j ≠ k) (tick : Tick) (s : State) : chOf (turnOn tick k s) j = chOf s j := by
  unfold turnOn
  split <;> exact chOf_modCh_other other _ _

/-- The time stamps of a channel that a turn-on sets. -/
def retimed (c : Channel) (blankEnd : Tick) (onSince : Option Tick) (limit : Bool) : Channel :=
  { c with blankEnd := blankEnd, onSince := onSince, limit := limit }

/-- A turn-on changes of its channel the blanking, the time since which it is on, and LIMIT. -/
theorem turnOn_self (tick : Tick) (k : Fin 24) (s : State) : ∃ b o l, chOf (turnOn tick k s) k = retimed (chOf s k) b o l := by
  unfold turnOn
  split
  · exact ⟨_, _, (chOf s k).limit, chOf_modCh_self _ _ _⟩
  · exact ⟨(chOf s k).blankEnd, none, false, chOf_modCh_self _ _ _⟩

/-- A channel whose protection keeps it off does not conduct. -/
theorem chOn_of_blocked (blocked : (chOf s k).blocked = true) : chOn s k = false := by
  unfold chOn sideOn
  rw [if_pos blocked]
  rfl

theorem blocked_of_oc {c : Channel} (latched : c.oc = true) : c.blocked = true := by simp [Channel.blocked, latched]
theorem blocked_of_th {c : Channel} (latched : c.th = true) : c.blocked = true := by simp [Channel.blocked, latched]
theorem blocked_of_dipped {c : Channel} (dip : c.dipped = true) : c.blocked = true := by simp [Channel.blocked, dip]

end Sys2Proof.Proofs

end

section
set_option Elab.async false -- one theorem after another, which keeps Lean within its memory
/-! The commands and the PWM inputs of the load switches (R373, R375 to R377, R381, R388, R389). -/

namespace Sys2Proof.Proofs

open Sys2Proof Sys2Proof.Machine Sys2Proof.Safety Sys2Proof.Laws

variable {s : State} {f : Flight} {k : Fin 24}

/-! ### LSW_SET (R375, R376, R381) -/

theorem lswSet_front (front : Front 0x0B01 f s) : exec .lswSet s = .next (lswSet f s) := exec_front (act := lswSet) front rfl

theorem modeOfNum_off {m : Nat} (small : m ≤ 5) : modeOfNum m = .off ↔ m = 0 := by
  match m, small with
  | 0, _ => decide
  | 1, _ => decide
  | 2, _ => decide
  | 3, _ => decide
  | 4, _ => decide
  | 5, _ => decide

/-- The mode that a channel has or waits for. -/
def modeBefore (c : Channel) : LswMode := match c.pendMode with | some (p, _, _) => p | none => c.mode

/-- A change of mode waits, or lies less than 10 ms back (R376). -/
def modeSoon (c : Channel) (now : Tick) : Bool :=
  (match c.pendMode with | some (p, _, _) => decide (p ≠ c.mode) | none => false) ||
    (match c.modeTick with | some t => decide (now < t + 640) | none => false)

/-- The descriptors that wait for a change of mode. -/
def modeWaiters (c : Channel) : List Nat := match c.pendMode with | some (_, _, l) => l | none => []

/-- LSW_SET with its fields in range. -/
def setAsked (f : Flight) (k : Fin 24) (mode : LswMode) (j : Fin 4) (s : State) : State :=
  if owned s k ∨ (((chOf s k).oc || (chOf s k).th) ∧ mode ≠ .off) then completeSt f .denied s
  else if mode ≠ modeBefore (chOf s k) ∧ modeSoon (chOf s k) s.now then completeSt f .busy s
  else keepRunning f (modCh k (fun c => { c with pendMode := some (mode, j, modeWaiters (chOf s k) ++ [f.seq]) }) s)

/-- The fields of LSW_SET name a channel, a mode and an input. -/
structure SetFields (f : Flight) (k : Fin 24) (m : Nat) (j : Fin 4) : Prop where
  channel : f.p 16 1 = k.val
  mode : f.p 17 1 = m
  input : f.p 18 1 = j.val
  small : m ≤ 5
  plain : m ≤ 2 → j = 0

theorem lswSet_asked {m : Nat} {j : Fin 4} (front : Front 0x0B01 f s) (fields : SetFields f k m j) :
    exec .lswSet s = .next (setAsked f k (modeOfNum m) j s) := by
  obtain ⟨channel, mode, input, small, plain⟩ := fields
  refine (lswSet_front front).trans (congrArg Host.Outcome.next ((if_neg ?_).trans ?_))
  · rw [channel, mode, input]
    have zero : m ≤ 2 → j.val = 0 := fun low => congrArg Fin.val (plain low)
    omega
  · rw [channel, mode, input, Fin.ofNat_val_eq_self k, Fin.ofNat_val_eq_self j]
    rfl

variable {m : Nat} {j : Fin 4}

theorem lswSet_denied (front : Front 0x0B01 f s) (fields : SetFields f k m j)
    (held : owned s k = true ∨ (((chOf s k).oc = true ∨ (chOf s k).th = true) ∧ m ≠ 0)) : exec .lswSet s = .next (completeSt f .denied s) := by
  refine (lswSet_asked front fields).trans (congrArg Host.Outcome.next (if_pos ?_))
  rw [Bool.or_eq_true, Ne, modeOfNum_off fields.small]
  exact held

/-- The channel takes a mode: it is the host's, and not latched. -/
def TakesMode (s : State) (k : Fin 24) (m : Nat) : Prop := owned s k = false ∧ (((chOf s k).oc = false ∧ (chOf s k).th = false) ∨ m = 0)

theorem TakesMode.not_denied (takes : TakesMode s k m) (small : m ≤ 5) :
    ¬ (owned s k ∨ (((chOf s k).oc || (chOf s k).th) ∧ modeOfNum m ≠ .off)) := by
  obtain ⟨free, clear⟩ := takes
  rw [free, Ne, modeOfNum_off small]
  rintro (held | ⟨latched, nonzero⟩)
  · exact Bool.false_ne_true held
  · obtain ⟨oc, th⟩ := clear.resolve_right nonzero
    rw [oc, th] at latched
    exact Bool.false_ne_true latched

theorem lswSet_busy (front : Front 0x0B01 f s) (fields : SetFields f k m j) (takes : TakesMode s k m)
    (differs : modeOfNum m ≠ modeBefore (chOf s k)) (soon : modeSoon (chOf s k) s.now = true) :
    exec .lswSet s = .next (completeSt f .busy s) :=
  (lswSet_asked front fields).trans (congrArg Host.Outcome.next ((if_neg (takes.not_denied fields.small)).trans (if_pos ⟨differs, soon⟩)))

theorem lswSet_taken {l : List Nat} (front : Front 0x0B01 f s) (fields : SetFields f k m j) (takes : TakesMode s k m)
    (waiters : modeWaiters (chOf s k) = l) (may : modeOfNum m = modeBefore (chOf s k) ∨ modeSoon (chOf s k) s.now = false) :
    exec .lswSet s = .next (keepRunning f (modCh k (fun c => { c with pendMode := some (modeOfNum m, j, l ++ [f.seq]) }) s)) := by
  subst waiters
  refine (lswSet_asked front fields).trans (congrArg Host.Outcome.next ((if_neg (takes.not_denied fields.small)).trans (if_neg ?_)))
  rintro ⟨differs, soon⟩
  rcases may with same | late
  · exact differs same
  · exact Bool.false_ne_true (late.symm.trans soon)

theorem modeBefore_none {c : Channel} (none : c.pendMode = none) : modeBefore c = c.mode := by
  unfold modeBefore
  rw [none]

theorem modeBefore_some {c : Channel} {p i l} (waits : c.pendMode = some (p, i, l)) : modeBefore c = p := by
  unfold modeBefore
  rw [waits]

theorem modeWaiters_none {c : Channel} (none : c.pendMode = none) : modeWaiters c = [] := by
  unfold modeWaiters
  rw [none]

theorem modeWaiters_some {c : Channel} {p i l} (waits : c.pendMode = some (p, i, l)) : modeWaiters c = l := by
  unfold modeWaiters
  rw [waits]

/-- No change of mode waits, and the last one lies 10 ms back. -/
theorem modeSoon_late {c : Channel} {now : Tick} (waits : c.pendMode = none ∨ ∃ i l, c.pendMode = some (c.mode, i, l))
    (late : ∀ t0, c.modeTick = some t0 → t0 + 640 ≤ now) : modeSoon c now = false := by
  refine Bool.or_eq_false_iff.mpr ⟨?_, ?_⟩
  · rcases waits with none | ⟨i, l, same⟩
    · rw [none]
    · rw [same]
      exact decide_eq_false fun differs => differs rfl
  · split
    · next t0 is => exact decide_eq_false (Nat.not_lt.mpr (late t0 is))
    · rfl

theorem modeSoon_recent {c : Channel} {now t0 : Tick} (last : c.modeTick = some t0) (recent : now < t0 + 640) : modeSoon c now = true := by
  refine Bool.or_eq_true_iff.mpr (.inr ?_)
  rw [last]
  exact decide_eq_true recent

theorem modeSoon_waits {c : Channel} {now : Tick} {p i l} (waits : c.pendMode = some (p, i, l)) (changes : p ≠ c.mode) :
    modeSoon c now = true := by
  refine Bool.or_eq_true_iff.mpr (.inl ?_)
  rw [waits]
  exact decide_eq_true changes

/-! ### LSW_CLEAR (R381, R382) -/

theorem lswClear_front (front : Front 0x0B02 f s) : exec .lswClear s = .next (lswClear f s) := exec_front (act := lswClear) front rfl

theorem channels_of_mask : ∀ k : Fin 24, (allFin 24).filter (fun i => bitAt (2 ^ k.val) i.val) = [k] := by decide

/-- LSW_CLEAR of one channel. -/
def clearedOne (f : Flight) (k : Fin 24) (s : State) : State :=
  complete f .ok (b2n (clearCh k s).1.2) (leBytes 3 (if (clearCh k s).1.1 then 2 ^ k.val else 0)) none (clearCh k s).2

/-- An outlet in states 1 to 9 holds the channel in its lock bridge. -/
def bridgeBusy (s : State) (k : Fin 24) : Bool :=
  owned s k && decide (1 ≤ (outOf s (bridgeOutlet k)).state.num ∧ (outOf s (bridgeOutlet k)).state.num ≤ 9)

theorem lswClear_one (mask : f.p 16 3 = 2 ^ k.val) : lswClear f s = if bridgeBusy s k then completeSt f .denied s else clearedOne f k s := by
  unfold lswClear
  dsimp only
  rw [mask, channels_of_mask, List.any_cons, List.any_nil, Bool.or_false]
  refine if_congr Iff.rfl rfl ?_
  rw [List.foldl_cons, List.foldl_nil]
  dsimp only
  rw [Nat.zero_add, Bool.false_or]
  rfl

/-- What is left of a channel's latches. -/
def latchesCleared (c : Channel) : Channel :=
  { c with oc := false, th := c.th && decide (150 ≤ c.hot), retries := if c.th then c.retries else 0 }

/-- The channel with its latches cleared as far as they may be. -/
def latchesTaken (k : Fin 24) (s : State) : State :=
  modCh k (fun c => { c with oc := false, th := (chOf s k).th && decide (150 ≤ (chOf s k).hot), retries := if c.th then c.retries else 0 }) s

theorem latchesTaken_self (k : Fin 24) (s : State) : chOf (latchesTaken k s) k = latchesCleared (chOf s k) := chOf_modCh_self _ _ _

theorem clearCh_state (k : Fin 24) (s : State) :
    (clearCh k s).2 = if ((chOf s k).oc || (chOf s k).th) && !((chOf s k).th && decide (150 ≤ (chOf s k).hot)) then
      setMode .off 0 k (latchesTaken k s) else latchesTaken k s := rfl

/-- One channel is set OFF: it keeps its latches, and no other channel changes. -/
structure SetOff (k : Fin 24) (s t : State) : Prop where
  oc : (chOf t k).oc = (chOf s k).oc
  th : (chOf t k).th = (chOf s k).th
  others : ∀ j, j ≠ k → chOf t j = chOf s j

theorem SetOff.trans {t u : State} (first : SetOff k s t) (second : SetOff k t u) : SetOff k s u :=
  ⟨second.oc.trans first.oc, second.th.trans first.th, fun j other => (second.others j other).trans (first.others j other)⟩

theorem modCh_setOff {g : Channel → Channel} (oc : ∀ c, (g c).oc = c.oc) (th : ∀ c, (g c).th = c.th) (k : Fin 24) (s : State) :
    SetOff k s (modCh k g s) :=
  ⟨(congrArg Channel.oc (chOf_modCh_self k g s)).trans (oc _), (congrArg Channel.th (chOf_modCh_self k g s)).trans (th _),
    fun _ other => chOf_modCh_other other g s⟩

theorem turnOn_setOff (tick : Tick) (k : Fin 24) (s : State) : SetOff k s (turnOn tick k s) := by
  unfold turnOn
  split <;> exact modCh_setOff (fun _ => by rfl) (fun _ => by rfl) k s

/-- A channel that leaves the fold list. -/
theorem unfold_setOff (k : Fin 24) (s : State) : SetOff k s (Machine.unfold k s) :=
  .trans (t := { s with lsw := { s.lsw with folds := s.lsw.folds.map fun l => l.filter fun x => decide (x ≠ k) } }) ⟨rfl, rfl, fun _ _ => rfl⟩
    (modCh_setOff (fun _ => by rfl) (fun _ => by rfl) k _)

/-- The channel as `setMode` finds it, with no fold where it goes OFF. -/
def leftFolds (mode : LswMode) (k : Fin 24) (s : State) : State := if mode = .off ∧ (chOf s k).folded then Machine.unfold k s else s

theorem leftFolds_setOff (mode : LswMode) (k : Fin 24) (s : State) : SetOff k s (leftFolds mode k s) := by
  unfold leftFolds
  split
  · exact unfold_setOff k s
  · exact ⟨rfl, rfl, fun _ _ => rfl⟩

theorem setMode_setOff (mode : LswMode) (i : Fin 4) (k : Fin 24) (s : State) : SetOff k s (setMode mode i k s) := by
  refine .trans (leftFolds_setOff mode k s) ?_
  show SetOff k (leftFolds mode k s) (if mode = (chOf s k).mode then modCh k (fun c => { c with input := i }) (leftFolds mode k s) else
    turnOn (leftFolds mode k s).now k
      (modCh k (fun c => { c with mode := mode, input := i, modeTick := some (leftFolds mode k s).now, retryAt := none }) (leftFolds mode k s)))
  split
  · exact modCh_setOff (fun _ => by rfl) (fun _ => by rfl) k _
  · exact .trans (modCh_setOff (fun _ => by rfl) (fun _ => by rfl) k _) (turnOn_setOff _ k _)

theorem leftFolds_mode (mode : LswMode) (k : Fin 24) (s : State) : (chOf (leftFolds mode k s) k).mode = (chOf s k).mode := by
  unfold leftFolds
  split
  · unfold Machine.unfold
    dsimp only
    rw [chOf_modCh_self]
    rfl
  · rfl

/-- The mode that is set stands. -/
theorem setMode_mode (mode : LswMode) (i : Fin 4) (k : Fin 24) (s : State) : (chOf (setMode mode i k s) k).mode = mode := by
  show (chOf (if mode = (chOf s k).mode then modCh k (fun c => { c with input := i }) (leftFolds mode k s) else
    turnOn (leftFolds mode k s).now k
      (modCh k (fun c => { c with mode := mode, input := i, modeTick := some (leftFolds mode k s).now, retryAt := none })
        (leftFolds mode k s))) k).mode = mode
  split
  · next same =>
    exact (congrArg Channel.mode (chOf_modCh_self k _ _)).trans ((leftFolds_mode mode k s).trans same.symm)
  · obtain ⟨b, o, l, timed⟩ := turnOn_self (leftFolds mode k s).now k
      (modCh k (fun c => { c with mode := mode, input := i, modeTick := some (leftFolds mode k s).now, retryAt := none }) (leftFolds mode k s))
    rw [timed, chOf_modCh_self]
    rfl

theorem clearedOne_chOf (f : Flight) (k i : Fin 24) (s : State) : chOf (clearedOne f k s) i = chOf (clearCh k s).2 i :=
  chOf_of_lsw (complete_lsw ..) i

/-- A clear turns a latched channel that is not hot off. -/
theorem clearedOne_off (latched : (chOf s k).oc = true ∨ (chOf s k).th = true) (cool : (chOf s k).th = true → (chOf s k).hot < 150) :
    (chOf (clearedOne f k s) k).oc = false ∧ (chOf (clearedOne f k s) k).th = false ∧ (chOf (clearedOne f k s) k).mode = .off ∧
      ∀ i, i ≠ k → chOf (clearedOne f k s) i = chOf s i := by
  have gone : ((chOf s k).th && decide (150 ≤ (chOf s k).hot)) = false := by
    rw [Bool.and_eq_false_imp]
    exact fun hot => decide_eq_false (Int.not_le.mpr (cool hot))
  have state : (clearCh k s).2 = setMode .off 0 k (latchesTaken k s) := by
    rw [clearCh_state, gone]
    exact if_pos (by rw [Bool.not_false, Bool.and_true, Bool.or_eq_true]; exact latched)
  obtain ⟨oc, th, others⟩ := setMode_setOff .off 0 k (latchesTaken k s)
  simp only [clearedOne_chOf, state]
  refine ⟨oc.trans ?_, th.trans ?_, setMode_mode .off 0 k _, fun i other => (others i other).trans (chOf_modCh_other other _ s)⟩
  · rw [latchesTaken_self]
    rfl
  · rw [latchesTaken_self]
    exact gone

/-- A clear leaves TH_LATCH and RETRIES of a hot channel. -/
theorem clearedOne_hot (latched : (chOf s k).th = true) (hot : 150 ≤ (chOf s k).hot) :
    (chOf (clearedOne f k s) k).oc = false ∧ (chOf (clearedOne f k s) k).th = true ∧
      (chOf (clearedOne f k s) k).retries = (chOf s k).retries := by
  have stays : ((chOf s k).th && decide (150 ≤ (chOf s k).hot)) = true := by
    rw [latched, decide_eq_true hot]
    rfl
  have state : (clearCh k s).2 = latchesTaken k s := by
    rw [clearCh_state, stays]
    exact if_neg (by rw [Bool.not_true, Bool.and_false]; exact Bool.false_ne_true)
  rw [clearedOne_chOf, state, latchesTaken_self]
  exact ⟨rfl, stays, if_pos latched⟩

/-! ### LSW_CHCFGk (R388) -/

theorem lswChcfgWrite_runs (up : LinkUp s) (k : Fin 24) (v : W32) :
    exec (.lswChcfgWrite k v) s = .next (writeLswChcfg k v.toNat s) := congrArg Host.Outcome.next (hostAcc_up _ up)

/-! ### The PWM inputs (R376, R377) -/

variable {i : Fin 4} {us : Nat}

/-- An input that follows an edge. -/
def edged (us : Nat) (old p : PwmIn) : PwmIn :=
  let high := !old.high
  let edges := if high then us :: old.edges.filter (fun e => decide (us < e + 1000)) else old.edges
  { p with high := high, edges := edges, edgeAt := none, fastUs := if high && decide (4 < edges.length) then us else old.fastUs,
           fast := p.fast || (high && decide (5 < edges.length)) }

theorem edgeCh_channelsOnly (us : Nat) (k : Fin 24) (before : Option Bool) (s : State) : ChannelsOnly s (edgeCh us k before s) := by
  unfold edgeCh
  split
  · split
    · exact .refl s
    · exact modCh_channelsOnly ..
  · exact modCh_channelsOnly ..

theorem pwmEdge_pwm (i : Fin 4) (us : Nat) (s : State) : (pwmEdge i us s).lsw.pwm = (modPwm i (edged us s.lsw.pwm[i.val]) s).lsw.pwm := by
  unfold pwmEdge
  extract_lets ks before old high edges n fastUs fast s1 s2
  have followed : s2.lsw.pwm = s1.lsw.pwm := (channelsOnly_foldl (fun s (kb : Fin 24 × Option Bool) => edgeCh_channelsOnly us kb.1 kb.2 s) _ s1).pwm
  split
  · rw [postSupply_lsw]
    exact followed
  · exact followed

theorem pwmEdge_edged (i : Fin 4) (us : Nat) (s : State) :
    (pwmEdge i us s).lsw.pwm[i.val] = edged us s.lsw.pwm[i.val] s.lsw.pwm[i.val] :=
  (congrArg (fun v : Vector PwmIn 4 => v[i.val]) (pwmEdge_pwm i us s)).trans (vmod_self _ _ _)

theorem edged_rises {p : PwmIn} (low : p.high = false) : (edged us p p).edges = us :: p.edges.filter (fun e => decide (us < e + 1000)) ∧
    (edged us p p).fast = (p.fast || decide (5 < (us :: p.edges.filter (fun e => decide (us < e + 1000))).length)) := by
  unfold edged
  rw [low]
  exact ⟨rfl, rfl⟩

theorem edged_falls {p : PwmIn} (high : p.high = true) : (edged us p p).edges = p.edges ∧ (edged us p p).fast = p.fast := by
  unfold edged
  rw [high]
  exact ⟨rfl, Bool.or_false _⟩

theorem pwmFastClear_clears (fast : s.lsw.pwm[i.val].fast = true) (quiet : 64 * (s.lsw.pwm[i.val].fastUs + 10000) ≤ 1000 * s.now) :
    ∃ t, exec (.pwmFastClear i) s = .next t ∧ (t.lsw.pwm[i.val]).fast = false := by
  refine ⟨_, congrArg Host.Outcome.next (if_pos ⟨fast, quiet⟩), ?_⟩
  have followed := (channelsOnly_foldl (fun s k => turnOn_channelsOnly s.now k s)
    (followers (postSupply 4 i.val (modPwm i (fun p => { p with fast := false }) s)) i)
    (postSupply 4 i.val (modPwm i (fun p => { p with fast := false }) s))).pwm
  refine (congrArg (fun v : Vector PwmIn 4 => v[i.val].fast) followed).trans ?_
  rw [postSupply_lsw]
  exact congrArg PwmIn.fast (vmod_self s.lsw.pwm i fun p => { p with fast := false })

theorem pwmInputEdge_held (held : s.rst.held0 = true) (h : Bool) :
    exec (.pwmInputEdge i h us) s = .next (modPwm i (fun p => { p with high := h, edgeAt := none }) s) :=
  congrArg Host.Outcome.next (if_pos held)

theorem pwmInputEdge_first (running : s.rst.held0 = false) (none : s.lsw.pwm[i.val].edgeAt = none) (h : Bool) :
    exec (.pwmInputEdge i h us) s = .next (if s.lsw.pwm[i.val].high = h then s else modPwm i (fun p => { p with edgeAt := some us }) s) := by
  refine congrArg Host.Outcome.next ((if_neg (by rw [running]; exact Bool.false_ne_true)).trans ?_)
  rw [none]

theorem pwmInputEdge_next {t0 : Nat} (running : s.rst.held0 = false) (some : s.lsw.pwm[i.val].edgeAt = some t0) (h : Bool) :
    exec (.pwmInputEdge i h us) s = .next (if s.lsw.pwm[i.val].high ≠ h then s
      else if us < t0 + 2 then modPwm i (fun p => { p with edgeAt := none }) s
      else modPwm i (fun p => { p with edgeAt := .some us }) (pwmEdge i t0 s)) := by
  refine congrArg Host.Outcome.next ((if_neg (by rw [running]; exact Bool.false_ne_true)).trans ?_)
  rw [some]

theorem settlePwm_settles {t0 : Nat} (waits : s.lsw.pwm[i.val].edgeAt = some t0) (lasted : 64 * (t0 + 2) ≤ 1000 * s.now) :
    settlePwm i s = pwmEdge i t0 s := by
  unfold settlePwm
  rw [waits]
  exact if_pos lasted

/-- Settles O51. -/
theorem loadSwitchCommands : Obligations.LoadSwitchCommands := by
  unfold Obligations.LoadSwitchCommands
  intro s f
  refine ⟨?_, ?_, ?_, ?_, ?_, ?_⟩
  · intro front bad
    exact (lswSet_front front).trans (congrArg Host.Outcome.next (if_pos bad))
  · intro k j m c front channel mode small input plain is
    subst is
    have fields : SetFields f k m j := ⟨channel, mode, input, small, plain⟩
    refine ⟨lswSet_denied front fields, fun free clear none => ⟨fun late => ?_, fun t0 last recent differs => ?_⟩,
      fun p i l free clear waits => ⟨fun changes differs => ?_, fun may => ?_⟩⟩
    · exact lswSet_taken front fields ⟨free, clear⟩ (modeWaiters_none none) (.inr (modeSoon_late (.inl none) late))
    · exact lswSet_busy front fields ⟨free, clear⟩ (by rw [modeBefore_none none]; exact differs) (modeSoon_recent last recent)
    · exact lswSet_busy front fields ⟨free, clear⟩ (by rw [modeBefore_some waits]; exact differs) (modeSoon_waits waits changes)
    · refine lswSet_taken front fields ⟨free, clear⟩ (modeWaiters_some waits) (may.imp (fun same => ?_) fun kept => ?_)
      · rw [modeBefore_some waits]
        exact same
      · obtain ⟨same, late⟩ := kept
        exact modeSoon_late (.inr ⟨i, l, by rw [← same]; exact waits⟩) late
  · intro k front mask
    have runs := (lswClear_front front).trans (congrArg Host.Outcome.next (lswClear_one mask))
    have frees : owned s k = false → exec .lswClear s = .next (clearedOne f k s) := fun free =>
      runs.trans (congrArg Host.Outcome.next (if_neg (by unfold bridgeBusy; rw [free]; exact Bool.false_ne_true)))
    refine ⟨fun held low high => ?_, fun free latched cool => ⟨_, frees free, clearedOne_off latched cool⟩,
      fun free latched hot => ⟨_, frees free, clearedOne_hot latched hot⟩⟩
    exact runs.trans (congrArg Host.Outcome.next (if_pos (by unfold bridgeBusy; rw [held, decide_eq_true ⟨low, high⟩]; rfl)))
  · exact fun front => exec_front (act := lswRead) front rfl
  · intro k v up
    refine ⟨fun good may => ?_, fun bad => ?_⟩
    · have taken := (lswChcfgWrite_runs up k v).trans (congrArg Host.Outcome.next (if_pos ?_))
      · rw [BitVec.ofNat_toNat, BitVec.setWidth_eq] at taken
        exact taken
      · rw [good, Bool.true_and, Bool.or_eq_true, Bool.not_eq_true']
        exact may
    · exact (lswChcfgWrite_runs up k v).trans (congrArg Host.Outcome.next (if_neg (by rw [bad]; exact Bool.false_ne_true)))
  · intro i p us is
    subst is
    refine ⟨fun running none => ⟨?_, ?_⟩, fun t0 running waits => ⟨?_, fun short => ?_, fun long => ?_, settlePwm_settles waits⟩,
      fun h held => pwmInputEdge_held held h, ?_, pwmFastClear_clears⟩
    · exact (pwmInputEdge_first running none _).trans (congrArg Host.Outcome.next (if_pos rfl))
    · exact (pwmInputEdge_first running none _).trans (congrArg Host.Outcome.next (if_neg (Bool.not_ne_self _).symm))
    · exact (pwmInputEdge_next running waits _).trans (congrArg Host.Outcome.next (if_pos (Bool.not_ne_self _).symm))
    · exact (pwmInputEdge_next running waits _).trans (congrArg Host.Outcome.next ((if_neg fun differs => differs rfl).trans (if_pos short)))
    · exact (pwmInputEdge_next running waits _).trans (congrArg Host.Outcome.next
        ((if_neg fun differs => differs rfl).trans (if_neg (Nat.not_lt.mpr long))))
    · intro q e q_is e_is
      rw [pwmEdge_edged] at q_is
      subst q_is e_is
      exact ⟨rfl, rfl, edged_rises, edged_falls⟩

end Sys2Proof.Proofs

end

section
set_option Elab.async false -- one theorem after another, which keeps Lean within its memory
/-! The protection of the load switches (R379, R380, R383 to R386). -/

namespace Sys2Proof.Proofs

open Sys2Proof Sys2Proof.Machine Sys2Proof.Safety Sys2Proof.Laws

variable {s : State} {k : Fin 24} {g : Fin 4} {dv : Nat}

/-! ### Overcurrent, retries and the hot spot (R379, R380) -/

/-- The channel that an overcurrent has turned off. -/
def tripped (k : Fin 24) (s : State) : State := modCh k (fun c => { c with limit := false, onSince := none }) (bridgeFault k s)

theorem tripped_self (k : Fin 24) (s : State) : chOf (tripped k s) k = { chOf s k with limit := false, onSince := none } := by
  unfold tripped
  rw [chOf_modCh_self, bridgeFault_chOf]

theorem tripped_now (k : Fin 24) (s : State) : (tripped k s).now = s.now := bridgeFault_now k s

theorem lswOvercurrent_trips (on : chOn s k = true) (unblanked : blanking s k = false) :
    exec (.lswOvercurrent k) s = .next (overcurrent k s) :=
  congrArg Host.Outcome.next (if_pos (by rw [on, unblanked]; rfl))

theorem lswOvercurrent_ignored (off : chOn s k = false ∨ blanking s k = true) : exec (.lswOvercurrent k) s = .next s := by
  refine congrArg Host.Outcome.next (if_neg ?_)
  rcases off with off | blank
  · rw [off]
    exact Bool.false_ne_true
  · rw [blank, Bool.not_true, Bool.and_false]
    exact Bool.false_ne_true

theorem overcurrent_retries (left : (chOf s k).retries < (chOf s k).retryMax) :
    chOf (overcurrent k s) k = { chOf (tripped k s) k with
      retries := (chOf (tripped k s) k).retries + 1, retryAt := some ((tripped k s).now + 640 * ((chOf (tripped k s) k).retryDly + 1)) } := by
  have state : overcurrent k s = postLsw k 0 (modCh k (fun c => { c with
      retries := c.retries + 1, retryAt := some ((tripped k s).now + 640 * (c.retryDly + 1)) }) (tripped k s)) := if_pos (decide_eq_true left)
  rw [state, postLsw_chOf, chOf_modCh_self]

theorem overcurrent_latches (spent : (chOf s k).retryMax ≤ (chOf s k).retries) :
    chOf (overcurrent k s) k = { chOf (tripped k s) k with oc := true } := by
  have state : overcurrent k s = postLsw k 1 (modCh k (fun c => { c with oc := true }) (tripped k s)) :=
    if_neg (by rw [decide_eq_false (Nat.not_lt.mpr spent)]; exact Bool.false_ne_true)
  rw [state, postLsw_chOf, chOf_modCh_self]

theorem lswRetry_turnsOn {t0 : Tick} (waits : (chOf s k).retryAt = some t0) (due : t0 ≤ s.now) (supplied : (chOf s k).dipped = false) :
    exec (.lswRetry k) s = .next (turnOn s.now k (modCh k (fun c => { c with retryAt := none }) s)) := by
  refine congrArg Host.Outcome.next ?_
  unfold retry
  rw [waits, supplied]
  exact if_pos ⟨due, rfl⟩

theorem retried_chOf (k : Fin 24) (s : State) : ∃ b o l, chOf (turnOn s.now k (modCh k (fun c => { c with retryAt := none }) s)) k =
    retimed { chOf s k with retryAt := none } b o l := by
  obtain ⟨b, o, l, is⟩ := turnOn_self s.now k (modCh k (fun c => { c with retryAt := none }) s)
  rw [chOf_modCh_self] at is
  exact ⟨b, o, l, is⟩

theorem lswRetriesReset_resets {t0 : Tick} (since : (chOf s k).onSince = some t0) (on : chOn s k = true) (long : t0 + 64000 ≤ s.now) :
    exec (.lswRetriesReset k) s = .next (modCh k (fun c => { c with retries := 0 }) s) := by
  have runs : execLswRetriesReset k s = .next (modCh k (fun c => { c with retries := 0 }) s) := by
    unfold execLswRetriesReset
    rw [since]
    exact congrArg Host.Outcome.next (if_pos ⟨on, long⟩)
  exact runs

theorem lswThermalLatch_latches (running : s.rst.held0 = false) (cool : (chOf s k).th = false) :
    exec (.lswThermalLatch k) s = .next (thermalLatch k s) ∧ chOf (thermalLatch k s) k =
      { chOf s k with th := true, retryAt := none, limit := false, onSince := none, hot := max 170 (chOf s k).hot } := by
  refine ⟨congrArg Host.Outcome.next (if_neg (by rw [running]; exact Bool.false_ne_true)), ?_⟩
  unfold thermalLatch
  dsimp only
  rw [if_neg (by rw [cool]; exact Bool.false_ne_true), postLsw_chOf, chOf_modCh_self, bridgeFault_chOf]

/-! ### Fold-back (R383) -/

theorem lswFoldBack_runs (running : s.rst.held0 = false) : exec (.lswFoldBack g) s = .next (foldBack g s) :=
  congrArg Host.Outcome.next (if_neg (by rw [running]; exact Bool.false_ne_true))

theorem lswFoldBack_cool (cool : s.lsw.temp[g.val] < 2320) : exec (.lswFoldBack g) s = .next s := by
  refine congrArg Host.Outcome.next ?_
  split
  · rfl
  · exact if_neg fun hot => Int.not_le.mpr cool hot.1

theorem foldBack_folds (hot : 2320 ≤ s.lsw.temp[g.val]) (paced : foldPaced g 64 s = true) (next : foldNext s g = some k) :
    foldBack g s = postLsw k 5 (modCh k (fun c => { c with folded := true, limit := false, onSince := none })
      (setFolds g (k :: s.lsw.folds[g.val]) s)) := by
  unfold foldBack
  rw [next]
  exact if_pos ⟨hot, paced⟩

theorem lswFoldRestore_runs (running : s.rst.held0 = false) : exec (.lswFoldRestore g) s = .next (foldRestore g s) :=
  congrArg Host.Outcome.next (if_neg (by rw [running]; exact Bool.false_ne_true))

theorem foldRestore_restores {l : List (Fin 24)} (cool : s.lsw.temp[g.val] < 2080) (paced : foldPaced g 640 s = true)
    (folded : s.lsw.folds[g.val] = k :: l) :
    foldRestore g s = postLsw k 6 (turnOn s.now k (modCh k (fun c => { c with folded := false }) (setFolds g l s))) := by
  unfold foldRestore
  rw [folded]
  exact if_pos ⟨cool, paced⟩

theorem setFolds_chOf (g : Fin 4) (l : List (Fin 24)) (s : State) (k : Fin 24) : chOf (setFolds g l s) k = chOf s k := rfl

theorem setFolds_folds (g : Fin 4) (l : List (Fin 24)) (s : State) : (setFolds g l s).lsw.folds = s.lsw.folds.set g.val l := rfl

theorem foldBack_effect (hot : 2320 ≤ s.lsw.temp[g.val]) (paced : foldPaced g 64 s = true) (next : foldNext s g = some k) :
    (chOf (foldBack g s) k).folded = true ∧ (foldBack g s).lsw.folds = s.lsw.folds.set g.val (k :: s.lsw.folds[g.val]) ∧
      ∀ j, j ≠ k → chOf (foldBack g s) j = chOf s j := by
  rw [foldBack_folds hot paced next]
  refine ⟨?_, congrArg Lsw.folds (postLsw_lsw ..), fun j other => ?_⟩
  · rw [postLsw_chOf, chOf_modCh_self]
  · rw [postLsw_chOf, chOf_modCh_other other, setFolds_chOf]

theorem foldRestore_effect {l : List (Fin 24)} (cool : s.lsw.temp[g.val] < 2080) (paced : foldPaced g 640 s = true)
    (folded : s.lsw.folds[g.val] = k :: l) : (chOf (foldRestore g s) k).folded = false ∧
      (foldRestore g s).lsw.folds = s.lsw.folds.set g.val l ∧ ∀ j, j ≠ k → chOf (foldRestore g s) j = chOf s j := by
  rw [foldRestore_restores cool paced folded]
  refine ⟨?_, ?_, fun j other => ?_⟩
  · obtain ⟨b, o, m, is⟩ := turnOn_self s.now k (modCh k (fun c => { c with folded := false }) (setFolds g l s))
    rw [postLsw_chOf, is, chOf_modCh_self]
    rfl
  · rw [postLsw_lsw, (turnOn_channelsOnly ..).folds, (modCh_channelsOnly ..).folds, setFolds_folds]
  · rw [postLsw_chOf, turnOn_other other, chOf_modCh_other other, setFolds_chOf]

/-! ### Measurement (R372, R384) -/

/-- What a measurement says of a channel's current, LIMIT and hot spot. -/
structure Measured (ma : Nat) (lim : Bool) (hot : Int) (c : Channel) : Prop where
  current : c.current = min 4095 ma
  hot : c.hot = hot
  limit : c.limit = true → lim = true

theorem openLoad_measured {ma : Nat} {lim : Bool} {hot : Int} {c : Channel} (h : Measured ma lim hot c) : Measured ma lim hot (openLoad c).1 := by
  unfold openLoad
  extract_lets low lowered high raised
  split
  · split <;> exact ⟨h.current, h.hot, h.limit⟩
  · split <;> exact ⟨h.current, h.hot, h.limit⟩

/-- A step that changes at most one channel, which ends as measured. -/
structure MeasuredChannel (k : Fin 24) (ma : Nat) (lim : Bool) (hot : Int) (s t : State) : Prop where
  only : ChannelsOnly s t
  others : ∀ j, j ≠ k → chOf t j = chOf s j
  measured : Measured ma lim hot (chOf t k)

namespace MeasuredChannel

variable {ma : Nat} {lim : Bool} {hot : Int} {t : State}

theorem modCh (h : MeasuredChannel k ma lim hot s t) {g : Channel → Channel} (good : Measured ma lim hot (g (chOf t k))) :
    MeasuredChannel k ma lim hot s (Machine.modCh k g t) := by
  refine ⟨h.only.trans (modCh_channelsOnly ..), fun j other => (chOf_modCh_other other g t).trans (h.others j other), ?_⟩
  rw [chOf_modCh_self]
  exact good

theorem postLsw (h : MeasuredChannel k ma lim hot s t) (cause : Nat) : MeasuredChannel k ma lim hot s (Machine.postLsw k cause t) := by
  refine ⟨h.only.trans (postLsw_channelsOnly ..), fun j other => (postLsw_chOf k j cause t).trans (h.others j other), ?_⟩
  rw [postLsw_chOf]
  exact h.measured

end MeasuredChannel

theorem measureCh_measures (k : Fin 24) (ma : Nat) (lim : Bool) (hot : Int) (whole : Bool) (s : State) :
    MeasuredChannel k ma lim hot s (measureCh k ma lim hot whole s) := by
  unfold measureCh
  extract_lets on blank followed bad since s1 c
  have first : MeasuredChannel k ma lim hot s s1 := by
    refine ⟨modCh_channelsOnly .., fun j other => chOf_modCh_other other _ s, ?_⟩
    rw [show chOf s1 k = _ from chOf_modCh_self k _ s]
    exact ⟨rfl, rfl, fun both => ((Bool.and_eq_true ..).mp both).1⟩
  split
  · dsimp only
    have judged := first.modCh (g := fun _ => (openLoad c).1) (openLoad_measured first.measured)
    split
    · exact judged.postLsw _
    · exact judged
  · exact first

/-- The supply and the group temperatures of a measurement. -/
def supplyMeasured (grp : List Int) (vaux : Nat) (s : State) : State :=
  { s with lsw := { s.lsw with temp := Vector.ofFn fun g => grp.getD g.val 0, vaux := vaux } }

/-- The channels of a measurement. -/
def channelsMeasured (ma : List Nat) (lim : BitVec 24) (hot : List Int) (whole : BitVec 24) (s : State) : State :=
  forFin 24 (fun k s => measureCh k (ma.getD k.val 0) (lim.getLsbD k.val) (hot.getD k.val 0) (whole.getLsbD k.val) s) s

theorem lswMeasurement_runs (running : s.rst.held0 = false) (ma : List Nat) (lim : BitVec 24) (hot grp : List Int) (whole : BitVec 24)
    (vaux : Nat) : exec (.lswMeasurement ma lim hot grp whole vaux) s =
      .next (channelsMeasured ma lim hot whole (supplyMeasured grp vaux s)) :=
  congrArg Host.Outcome.next (if_neg (by rw [running]; exact Bool.false_ne_true))

theorem channelsMeasured_only (ma : List Nat) (lim : BitVec 24) (hot : List Int) (whole : BitVec 24) (s : State) :
    ChannelsOnly s (channelsMeasured ma lim hot whole s) := channelsOnly_foldl (fun _ _ => (measureCh_measures ..).only) _ s

/-- Each channel ends as its own measurement says, for no other's touches it. -/
theorem channelsMeasured_each (ma : List Nat) (lim : BitVec 24) (hot : List Int) (whole : BitVec 24) (k : Fin 24) (s : State) :
    Measured (ma.getD k.val 0) (lim.getLsbD k.val) (hot.getD k.val 0) (chOf (channelsMeasured ma lim hot whole s) k) := by
  refine forFin_one (n := k) (P := fun _ => True) (Q := fun t => Measured (ma.getD k.val 0) (lim.getLsbD k.val) (hot.getD k.val 0) (chOf t k))
    (fun _ _ _ _ => trivial) (fun t _ => (measureCh_measures ..).measured) (fun m t other h => ?_) trivial
  have same : chOf (measureCh m (ma.getD m.val 0) (lim.getLsbD m.val) (hot.getD m.val 0) (whole.getLsbD m.val) t) k = chOf t k :=
    (measureCh_measures ..).others k other.symm
  rw [same]
  exact h

/-! ### VAUX (R385, R386) -/

/-- The flags of VAUX and its last value. -/
def withSupply (uv ov : Bool) (vaux : Nat) (s : State) : State := { s with lsw := { s.lsw with uv := uv, ov := ov, vaux := vaux } }

theorem dipAll_chOf (k : Fin 24) (s : State) : chOf (dipAll s) k = { chOf s k with dipped := true, limit := false, onSince := none } :=
  Vector.getElem_map ..

theorem dipped_off (cause : Nat) (uv ov : Bool) (vaux : Nat) (k : Fin 24) (s : State) :
    chOn (postSupply cause 0 (withSupply uv ov vaux (dipAll s))) k = false := by
  refine chOn_of_blocked (blocked_of_dipped ?_)
  rw [chOf_of_lsw (postSupply_lsw ..)]
  exact congrArg Channel.dipped (dipAll_chOf k s)

theorem vauxUndervoltage_dips (running : s.rst.held0 = false) (inRange : s.lsw.uv = false) (low : dv < 60) :
    exec (.vauxUndervoltage dv) s = .next (postSupply 0 0 (withSupply true s.lsw.ov dv (dipAll s))) := by
  refine congrArg Host.Outcome.next (if_neg ?_)
  rw [running, inRange]
  simpa using low

theorem vauxOvervoltage_dips (running : s.rst.held0 = false) (inRange : s.lsw.ov = false) (high : 340 < dv) :
    exec (.vauxOvervoltage dv) s = .next (postSupply 2 0 (withSupply s.lsw.uv true dv (dipAll s))) := by
  refine congrArg Host.Outcome.next (if_neg ?_)
  rw [running, inRange]
  simpa using high

theorem vauxRestore_stays (out : vauxBack s.lsw dv = false) : exec (.vauxRestore dv) s = .next s :=
  congrArg Host.Outcome.next (if_pos (by rw [out, Bool.not_false, Bool.or_true]))

theorem vauxBack_out (out : dv < 60 ∨ 340 < dv ∨ (s.lsw.uv = true ∧ dv ≤ 65) ∨ (s.lsw.ov = true ∧ 330 ≤ dv)) :
    vauxBack s.lsw dv = false := by
  unfold vauxBack
  rcases out with low | high | ⟨uv, low⟩ | ⟨ov, high⟩
  · rw [decide_eq_false (p := 60 ≤ dv ∧ dv ≤ 340) (by omega), Bool.and_false, Bool.false_and, Bool.false_and]
  · rw [decide_eq_false (p := 60 ≤ dv ∧ dv ≤ 340) (by omega), Bool.and_false, Bool.false_and, Bool.false_and]
  · rw [uv, decide_eq_false (p := 65 < dv) (by omega), Bool.not_true, Bool.or_false, Bool.and_false, Bool.false_and]
  · rw [ov, decide_eq_false (p := dv < 330) (by omega), Bool.not_true, Bool.or_false, Bool.and_false]

theorem vauxBack_in (out : s.lsw.uv = true ∨ s.lsw.ov = true) (low : 60 ≤ dv) (high : dv ≤ 340) (uv : s.lsw.uv = true → 65 < dv)
    (ov : s.lsw.ov = true → dv < 330) : vauxBack s.lsw dv = true := by
  simp only [vauxBack, Bool.and_eq_true, Bool.or_eq_true, Bool.not_eq_true', decide_eq_true_eq]
  refine ⟨⟨⟨out, low, high⟩, ?_⟩, ?_⟩
  · exact (Bool.eq_false_or_eq_true s.lsw.uv).symm.imp_right uv
  · exact (Bool.eq_false_or_eq_true s.lsw.ov).symm.imp_right ov

/-- A channel in its restoration slot. -/
theorem restoreCh_effect (acc : Nat × State) (k : Fin 24) :
    ChannelsOnly acc.2 (restoreCh acc k).2 ∧ (∀ j, j ≠ k → chOf (restoreCh acc k).2 j = chOf acc.2 j) ∧
      (chOf (restoreCh acc k).2 k).dipped = false ∧ (chOf (restoreCh acc k).2 k).oc = (chOf acc.2 k).oc := by
  obtain ⟨n, s⟩ := acc
  unfold restoreCh
  dsimp -zeta only
  extract_lets tick due s1
  have self : chOf s1 k = { chOf s k with dipped := false, retryAt := due (chOf s k) } := chOf_modCh_self ..
  have others : ∀ j, j ≠ k → chOf s1 j = chOf s j := fun j other => chOf_modCh_other other _ s
  have only : ChannelsOnly s s1 := modCh_channelsOnly ..
  split
  · obtain ⟨b, o, l, is⟩ := turnOn_self tick k s1
    refine ⟨only.trans (turnOn_channelsOnly ..), fun j other => (turnOn_other other tick s1).trans (others j other), ?_, ?_⟩
    · rw [is, self]
      rfl
    · rw [is, self]
      rfl
  · refine ⟨only, others, ?_, ?_⟩ <;> rw [self]

/-- A pass over the channels keeps OC_LATCH of each, and ends the dip of those it has come to. -/
theorem restoreList_effect (l : List (Fin 24)) (acc : Nat × State) (k : Fin 24) :
    (chOf (l.foldl restoreCh acc).2 k).oc = (chOf acc.2 k).oc ∧
      ((k ∈ l ∨ (chOf acc.2 k).dipped = false) → (chOf (l.foldl restoreCh acc).2 k).dipped = false) := by
  induction l generalizing acc with
  | nil => exact ⟨rfl, fun h => h.resolve_left List.not_mem_nil⟩
  | cons m l ih =>
    obtain ⟨oc, dipped⟩ := ih (restoreCh acc m)
    obtain ⟨_, others, ends, keeps⟩ := restoreCh_effect acc m
    by_cases own : k = m
    · subst own
      exact ⟨oc.trans keeps, fun _ => dipped (.inr ends)⟩
    · refine ⟨oc.trans (congrArg Channel.oc (others k own)), fun h => dipped ?_⟩
      rw [others k own]
      exact h.imp_left fun mem => (List.mem_cons.mp mem).resolve_left own

theorem restoreList_vaux (l : List (Fin 24)) (acc : Nat × State) : (l.foldl restoreCh acc).2.lsw.vaux = acc.2.lsw.vaux :=
  List.foldlRecOn (motive := fun x : Nat × State => x.2.lsw.vaux = acc.2.lsw.vaux) _ _ rfl
    fun x h k _ => (restoreCh_effect x k).1.vaux.trans h

/-- UV and OV clear after the last slot of a restoration. -/
def supplyBack (acc : Nat × State) : State :=
  let (_, s) := acc
  postSupply 1 0 { s with lsw := { s.lsw with uv := false, ov := false } }

theorem supplyBack_lsw (acc : Nat × State) : (supplyBack acc).lsw = { acc.2.lsw with uv := false, ov := false } := postSupply_lsw ..

theorem supplyBack_chOf (acc : Nat × State) (k : Fin 24) : chOf (supplyBack acc) k = chOf acc.2 k :=
  (congrArg (fun l : Lsw => l.ch[k.val]) (supplyBack_lsw acc) :)

theorem vauxRestore_restores (running : s.rst.held0 = false) (back : vauxBack s.lsw dv = true) :
    exec (.vauxRestore dv) s = .next (supplyBack ((allFin 24).foldl restoreCh (0, { s with lsw := { s.lsw with vaux := dv } }))) := by
  show execVauxRestore dv s = _
  unfold execVauxRestore
  rw [if_neg (by rw [running, back]; exact Bool.false_ne_true)]
  generalize (allFin 24).foldl restoreCh (0, { s with lsw := { s.lsw with vaux := dv } }) = acc
  exact congrArg Host.Outcome.next (Eq.refl (supplyBack acc))

/-- What a restoration leaves. -/
theorem supplyBack_effect (l : List (Fin 24)) (all : ∀ k, k ∈ l) (s : State) (dv : Nat) (k : Fin 24) :
    (chOf (supplyBack (l.foldl restoreCh (0, { s with lsw := { s.lsw with vaux := dv } }))) k).dipped = false ∧
      (chOf (supplyBack (l.foldl restoreCh (0, { s with lsw := { s.lsw with vaux := dv } }))) k).oc = (chOf s k).oc := by
  obtain ⟨oc, dipped⟩ := restoreList_effect l (0, { s with lsw := { s.lsw with vaux := dv } }) k
  rw [supplyBack_chOf]
  exact ⟨dipped (.inl (all k)), oc⟩

theorem supplyBack_flags (l : List (Fin 24)) (s : State) (dv : Nat) :
    (supplyBack (l.foldl restoreCh (0, { s with lsw := { s.lsw with vaux := dv } }))).lsw.uv = false ∧
      (supplyBack (l.foldl restoreCh (0, { s with lsw := { s.lsw with vaux := dv } }))).lsw.ov = false ∧
      (supplyBack (l.foldl restoreCh (0, { s with lsw := { s.lsw with vaux := dv } }))).lsw.vaux = dv := by
  rw [supplyBack_lsw]
  exact ⟨rfl, rfl, restoreList_vaux l _⟩

/-- Settles O52. -/
theorem loadSwitchProtection : Obligations.LoadSwitchProtection := by
  unfold Obligations.LoadSwitchProtection
  intro s
  refine ⟨?_, fun k => lswOvercurrent_ignored, ?_, fun k t0 => lswRetriesReset_resets, ?_, ?_, fun g => lswFoldBack_cool, ?_, ?_, ?_, ?_,
    fun dv out => vauxRestore_stays (vauxBack_out out), ?_⟩
  · intro k c is on unblanked
    subst is
    refine ⟨fun left => ⟨_, lswOvercurrent_trips on unblanked, ?_⟩, fun spent => ⟨_, lswOvercurrent_trips on unblanked, ?_⟩⟩
    · rw [overcurrent_retries left, tripped_self, tripped_now]
      exact ⟨rfl, rfl, rfl⟩
    · have latched := congrArg Channel.oc (overcurrent_latches spent)
      exact ⟨latched, chOn_of_blocked (blocked_of_oc latched)⟩
  · intro k t0 waits due supplied
    refine ⟨_, lswRetry_turnsOn waits due supplied, ?_⟩
    obtain ⟨b, o, l, is⟩ := retried_chOf k s
    rw [is]
    exact ⟨rfl, rfl⟩
  · intro k running cool
    obtain ⟨runs, is⟩ := lswThermalLatch_latches running cool
    refine ⟨_, runs, ?_, ?_, ?_, chOn_of_blocked (blocked_of_th ?_)⟩ <;> rw [is]
  · intro g k running hot paced next
    exact ⟨_, lswFoldBack_runs running, foldBack_effect hot paced next⟩
  · intro g k l running cool paced folded
    exact ⟨_, lswFoldRestore_runs running, foldRestore_effect cool paced folded⟩
  · intro ma lim hot grp whole vaux running
    have only := channelsMeasured_only ma lim hot whole (supplyMeasured grp vaux s)
    refine ⟨_, lswMeasurement_runs running .., only.vaux, fun g => ?_, fun k => ?_⟩
    · exact (congrArg (fun v : Vector Int 4 => v[g.val]) only.temp).trans (Vector.getElem_ofFn g.isLt)
    · obtain ⟨current, hot, limit⟩ := channelsMeasured_each ma lim hot whole k (supplyMeasured grp vaux s)
      exact ⟨current, hot, limit⟩
  · intro dv running inRange low
    exact ⟨_, vauxUndervoltage_dips running inRange low, congrArg Lsw.uv (postSupply_lsw ..), congrArg Lsw.vaux (postSupply_lsw ..),
      fun k => dipped_off ..⟩
  · intro dv running inRange high
    exact ⟨_, vauxOvervoltage_dips running inRange high, congrArg Lsw.ov (postSupply_lsw ..), congrArg Lsw.vaux (postSupply_lsw ..),
      fun k => dipped_off ..⟩
  · intro dv running out low high uv ov
    obtain ⟨uvClear, ovClear, supply⟩ := supplyBack_flags (allFin 24) s dv
    exact ⟨_, vauxRestore_restores running (vauxBack_in out low high uv ov), uvClear, ovClear, supply,
      fun k => supplyBack_effect (allFin 24) List.mem_finRange s dv k⟩

end Sys2Proof.Proofs

end

section
set_option Elab.async false -- one theorem after another, which keeps Lean within its memory
/-! The key slots: what each operation writes to them (R393 to R399). -/

namespace Sys2Proof.Proofs

open Sys2Proof Sys2Proof.Machine Sys2Proof.Safety Sys2Proof.Laws

variable {s t u : State} {k j : Fin 32}

/-! ### One slot takes a record (R394, R396) -/

theorem putKey_self (k : Fin 32) (r : KeyRec) (s : State) :
    (putKey k r s).key.slot[k.val] = KeySlot.put s.key.root r s.key.slot[k.val] := vmod_self _ _ _

theorem putKey_other (other : k ≠ j) (r : KeyRec) (s : State) : (putKey j r s).key.slot[k.val] = s.key.slot[k.val] :=
  vmod_other _ _ _ _ other.symm

/-- A slot holds a record, but for its generation and the root it is wrapped under, and no other slot has changed. -/
structure Filled (k : Fin 32) (r : KeyRec) (s t : State) : Prop where
  holds : ∃ gen root, (t.key.slot[k.val]).rec_ = { r with gen := gen, under := root }
  usable : (t.key.slot[k.val]).unusable = false
  others : ∀ j : Fin 32, j ≠ k → t.key.slot[j.val] = s.key.slot[j.val]

theorem putKey_filled (k : Fin 32) (r : KeyRec) (s : State) : Filled k r s (putKey k r s) := by
  refine ⟨?_, ?_, fun j other => putKey_other other r s⟩ <;> rw [putKey_self]
  · exact ⟨_, _, rfl⟩
  · rfl

/-- What happens outside the key engine leaves a filled slot. -/
theorem Filled.after {r : KeyRec} (h : Filled k r s t) (same : u.key.slot = t.key.slot) : Filled k r s u := by
  have each : ∀ j : Fin 32, u.key.slot[j.val] = t.key.slot[j.val] := fun j => congrArg (fun v : Vector KeySlot 32 => v[j.val]) same
  refine ⟨?_, ?_, fun j other => (each j).trans (h.others j other)⟩
  · rw [each]
    exact h.holds
  · rw [each]
    exact h.usable

theorem Filled.before {r : KeyRec} (h : Filled k r s t) (same : s.key.slot = u.key.slot) : Filled k r u t :=
  ⟨h.holds, h.usable, fun j other => (h.others j other).trans (congrArg (fun v : Vector KeySlot 32 => v[j.val]) same)⟩

/-! ### Steps over a mask of slots -/

/-- A list of steps, each on one part of the state by `R`: what becomes of one part. -/
theorem parts_foldl {n : Nat} {α : Type} {part : Fin n → State → α} {step : State → Fin n → State} {R : α → α → Prop}
    (own : ∀ s i, R (part i s) (part i (step s i))) (other : ∀ s (j i : Fin n), i ≠ j → part i (step s j) = part i s)
    (l : List (Fin n)) (once : l.Nodup) (s : State) (i : Fin n) :
    (i ∈ l → R (part i s) (part i (l.foldl step s))) ∧ (i ∉ l → part i (l.foldl step s) = part i s) := by
  induction l generalizing s with
  | nil => exact ⟨fun mem => absurd mem List.not_mem_nil, fun _ => rfl⟩
  | cons m l ih =>
    obtain ⟨absent, once⟩ := List.nodup_cons.mp once
    obtain ⟨among, outside⟩ := ih once (step s m)
    refine ⟨fun mem => ?_, fun absent => ?_⟩
    · by_cases first : i = m
      · subst first
        rw [List.foldl_cons, outside absent]
        exact own s i
      · have kept := other s m i first
        rw [List.foldl_cons, ← kept]
        exact among ((List.mem_cons.mp mem).resolve_left first)
    · obtain ⟨first, rest⟩ := not_or.mp fun mem => absent (List.mem_cons.mpr mem)
      exact (outside rest).trans (other s m i first)

theorem mem_slotMask {f : Flight} : k ∈ f.slotMask ↔ bitAt (f.p 16 4) k.val = true :=
  ⟨fun mem => (List.mem_filter.mp mem).2, fun bit => List.mem_filter.mpr ⟨List.mem_finRange k, bit⟩⟩

theorem slotMask_nodup (f : Flight) : f.slotMask.Nodup := (List.nodup_finRange 32).filter _

/-- What a fold over the slots of a descriptor's mask leaves of each slot. -/
theorem slotMask_foldl {step : State → Fin 32 → State} {R : KeySlot → KeySlot → Prop} {f : Flight}
    (own : ∀ s k, R s.key.slot[k.val] (step s k).key.slot[k.val])
    (other : ∀ s (j k : Fin 32), k ≠ j → (step s j).key.slot[k.val] = s.key.slot[k.val]) (s : State) (k : Fin 32) :
    (bitAt (f.p 16 4) k.val = true → R s.key.slot[k.val] (f.slotMask.foldl step s).key.slot[k.val]) ∧
      (bitAt (f.p 16 4) k.val = false → (f.slotMask.foldl step s).key.slot[k.val] = s.key.slot[k.val]) := by
  obtain ⟨among, outside⟩ := parts_foldl (part := fun k s => s.key.slot[k.val]) own other f.slotMask (slotMask_nodup f) s k
  exact ⟨fun bit => among (mem_slotMask.mpr bit), fun clear => outside fun mem => Bool.false_ne_true (clear.symm.trans (mem_slotMask.mp mem))⟩

/-! ### The handshakes that end with slot 1 (R398, R400) -/

theorem closeLink_slots (n : Outlet8) (s : State) : (closeLink n s).key.slot = s.key.slot := by
  unfold closeLink keepMirror
  dsimp only
  split <;> rfl

theorem release_slots (n : Outlet8) (digital : Bool) (s : State) : (release n digital s).key.slot = s.key.slot := by
  unfold release
  dsimp only
  split <;> rfl

theorem endV2g_slots (n : Outlet8) (cause : Nat) (s : State) : (endV2g n cause s).key.slot = s.key.slot := by
  unfold endV2g
  extract_lets ended
  have closed : ended.key.slot = s.key.slot := (closeLink_slots n (postV2g n 1 cause s)).trans rfl
  split
  · split
    · split <;> exact closed
    · split
      · exact closed
      · exact (release_slots n false ended).trans closed
  · exact closeLink_slots n s

theorem tlsFail_slots (n : Outlet8) (s : State) : (tlsFail n s).key.slot = s.key.slot := by
  unfold tlsFail
  split
  · exact endV2g_slots n 2 (say n .tcpClose s)
  · rfl

theorem dropWaits_slots (s : State) : (dropWaits s).key.slot = s.key.slot :=
  List.foldlRecOn (motive := fun t : State => t.key.slot = s.key.slot) _ _ rfl fun t h n _ => (tlsFail_slots n t).trans h

end Sys2Proof.Proofs

end

section
set_option Elab.async false -- one theorem after another, which keeps Lean within its memory
/-! The descriptors of the key slots (R393 to R399, R401, R402). -/

namespace Sys2Proof.Proofs

open Sys2Proof Sys2Proof.Machine Sys2Proof.Safety Sys2Proof.Laws

variable {s : State} {f : Flight} {ty : KeyType} {u : Nat} {st : Status}

/-! ### The form of a key (R9, R393, R402) -/

theorem usageOk_le (ok : usageOk ty u = true) : u ≤ 16 := by
  cases ty
  · exact absurd ok Bool.false_ne_true
  · have := of_decide_eq_true ok
    omega
  all_goals exact (of_decide_eq_true ok).trans_le (by decide)

theorem keyForm_none (out : 31 < f.p 16 1 ∨ 31 < f.p 18 1 ∨ 1 < f.p 19 1) : f.keyForm = none := by
  unfold Flight.keyForm
  split
  · refine if_neg ?_
    rintro ⟨ok, flags, slot⟩
    have usage := usageOk_le ok
    omega
  · rfl

theorem keyFault_invalid (out : 31 < f.p 16 1 ∨ 31 < f.p 18 1 ∨ 1 < f.p 19 1) : f.keyFault = .invalid := if_pos out

theorem keyFault_unsupported (slot : f.p 16 1 ≤ 31) (usage : f.p 18 1 ≤ 31) (flags : f.p 19 1 ≤ 1) : f.keyFault = .unsupported :=
  if_neg (by omega)

/-! ### KEY_GENERATE (R395, R402) -/

theorem keyGenerate_front (front : Front 0x0C01 f s) : exec .keyGenerate s = .next (keyGenerate f s) :=
  exec_front (act := keyGenerate) front rfl

theorem keyGenerate_formless (front : Front 0x0C01 f s) (form : f.keyForm = none) :
    exec .keyGenerate s = .next (completeSt f f.keyFault s) := by
  refine (keyGenerate_front front).trans (congrArg Host.Outcome.next ?_)
  unfold keyGenerate
  rw [form]

theorem keyGenerate_pub (front : Front 0x0C01 f s) (form : f.keyForm = some (.pub, u)) :
    exec .keyGenerate s = .next (completeSt f .invalid s) := by
  refine (keyGenerate_front front).trans (congrArg Host.Outcome.next ?_)
  unfold keyGenerate
  rw [form]
  exact if_pos rfl

theorem keyGenerate_refused (front : Front 0x0C01 f s) (form : f.keyForm = some (ty, u)) (secret : ty ≠ .pub)
    (refused : fillCheck f.slot ty u false s = some st) : exec .keyGenerate s = .next (completeSt f st s) := by
  refine (keyGenerate_front front).trans (congrArg Host.Outcome.next ?_)
  unfold keyGenerate
  rw [form]
  dsimp only
  rw [refused]
  exact if_neg secret

/-- A key as KEY_GENERATE draws it. -/
def drawnKey (f : Flight) (ty : KeyType) (u : Nat) (b : List Byte) : KeyRec :=
  { type := ty, usage := BitVec.ofNat 5 u, origin := 1, volatile := bitAt (f.p 19 1) 0, secret := b }

/-- The slot takes a key and the descriptor completes with its attributes. -/
def keyTaken (f : Flight) (r : KeyRec) (s : State) : State :=
  complete f .ok 0 (leBytes 4 (keyAttrWord (putKey f.slot r s) f.slot)) none (putKey f.slot r s)

theorem keyTaken_filled (f : Flight) (r : KeyRec) (s : State) : Filled f.slot r s (keyTaken f r s) :=
  (putKey_filled f.slot r s).after (congrArg Key.slot (complete_key ..))

/-- KEY_GENERATE for a slot that it may fill. -/
theorem keyGenerate_asked (front : Front 0x0C01 f s) (form : f.keyForm = some (ty, u)) (secret : ty ≠ .pub)
    (free : fillCheck f.slot ty u false s = none) : exec .keyGenerate s = .next (if s.key.rngFail then completeSt f .integrity s
      else if ty = .pair then askLong f .generate 75 (.flight f.seq) [f.slot] s
      else keyTaken f (drawnKey f ty u (freeBytes ty.secretLen s).1) (freeBytes ty.secretLen s).2) := by
  refine (keyGenerate_front front).trans (congrArg Host.Outcome.next ?_)
  unfold keyGenerate
  rw [form]
  dsimp only
  rw [free]
  exact if_neg secret

theorem keyGenerate_entropy (front : Front 0x0C01 f s) (form : f.keyForm = some (ty, u)) (secret : ty ≠ .pub)
    (free : fillCheck f.slot ty u false s = none) (failed : s.key.rngFail = true) :
    exec .keyGenerate s = .next (completeSt f .integrity s) :=
  (keyGenerate_asked front form secret free).trans (congrArg Host.Outcome.next (if_pos failed))

theorem keyGenerate_pair (front : Front 0x0C01 f s) (form : f.keyForm = some (ty, u)) (secret : ty ≠ .pub)
    (free : fillCheck f.slot ty u false s = none) (entropy : s.key.rngFail = false) (pair : ty = .pair) :
    exec .keyGenerate s = .next (askLong f .generate 75 (.flight f.seq) [f.slot] s) :=
  (keyGenerate_asked front form secret free).trans (congrArg Host.Outcome.next
    ((if_neg (by rw [entropy]; exact Bool.false_ne_true)).trans (if_pos pair)))

theorem keyGenerate_draws (front : Front 0x0C01 f s) (form : f.keyForm = some (ty, u)) (secret : ty ≠ .pub)
    (free : fillCheck f.slot ty u false s = none) (entropy : s.key.rngFail = false) (single : ty ≠ .pair) :
    exec .keyGenerate s = .next (keyTaken f (drawnKey f ty u (freeBytes ty.secretLen s).1) (freeBytes ty.secretLen s).2) :=
  (keyGenerate_asked front form secret free).trans (congrArg Host.Outcome.next
    ((if_neg (by rw [entropy]; exact Bool.false_ne_true)).trans (if_neg single)))

theorem freeBytes_length (n : Nat) (s : State) : (freeBytes n s).1.length = n := (List.length_map _).trans List.length_range

/-! ### KEY_IMPORT (R395, R402) -/

theorem keyImport_front (front : Front 0x0C02 f s) : exec .keyImport s = .next (keyImport f s) := exec_front (act := keyImport) front rfl

theorem keyImport_formless (front : Front 0x0C02 f s) (form : f.keyForm = none) : exec .keyImport s = .next (completeSt f f.keyFault s) := by
  refine (keyImport_front front).trans (congrArg Host.Outcome.next ?_)
  unfold keyImport
  rw [form]

theorem keyImport_pair (front : Front 0x0C02 f s) (form : f.keyForm = some (.pair, u)) :
    exec .keyImport s = .next (completeSt f .invalid s) := by
  refine (keyImport_front front).trans (congrArg Host.Outcome.next ?_)
  unfold keyImport
  rw [form]
  exact if_pos (.inl rfl)

/-- The types of a secret that is imported. -/
def Symmetric (ty : KeyType) : Prop := ty = .aes128 ∨ ty = .aes256 ∨ ty = .hmac

theorem Symmetric.not_pair (h : Symmetric ty) : ty ≠ .pair := by
  rcases h with is | is | is <;> rw [is] <;> decide

theorem Symmetric.not_pub (h : Symmetric ty) : ty ≠ .pub := by
  rcases h with is | is | is <;> rw [is] <;> decide

/-- A key as KEY_IMPORT takes it. -/
def importedKey (f : Flight) (ty : KeyType) (u : Nat) : KeyRec :=
  { type := ty, usage := BitVec.ofNat 5 u, origin := 2, volatile := bitAt (f.p 19 1) 0, secret := slice f.inBuf 0 ty.secretLen }

theorem keyImport_length (front : Front 0x0C02 f s) (form : f.keyForm = some (ty, u)) (symmetric : Symmetric ty)
    (other : f.bufLen ≠ ty.secretLen) : exec .keyImport s = .next (completeSt f .invalid s) := by
  refine (keyImport_front front).trans (congrArg Host.Outcome.next ?_)
  unfold keyImport
  rw [form]
  dsimp only
  rw [if_neg symmetric.not_pub]
  exact if_pos (.inr other)

theorem keyImport_refused (front : Front 0x0C02 f s) (form : f.keyForm = some (ty, u)) (symmetric : Symmetric ty)
    (length : f.bufLen = ty.secretLen) (refused : fillCheck f.slot ty u true s = some st) :
    exec .keyImport s = .next (completeSt f st s) := by
  refine (keyImport_front front).trans (congrArg Host.Outcome.next ?_)
  unfold keyImport
  rw [form]
  dsimp only
  rw [if_neg symmetric.not_pub, refused, if_neg (not_or.mpr ⟨symmetric.not_pair, not_not.mpr length⟩)]
  exact if_neg fun point => symmetric.not_pub point.1

theorem keyImport_takes (front : Front 0x0C02 f s) (form : f.keyForm = some (ty, u)) (symmetric : Symmetric ty)
    (length : f.bufLen = ty.secretLen) (free : fillCheck f.slot ty u true s = none) :
    exec .keyImport s = .next (keyTaken f (importedKey f ty u) s) := by
  refine (keyImport_front front).trans (congrArg Host.Outcome.next ?_)
  unfold keyImport
  rw [form]
  dsimp only
  rw [if_neg symmetric.not_pub, free, if_neg (not_or.mpr ⟨symmetric.not_pair, not_not.mpr length⟩),
    if_neg fun point => symmetric.not_pub point.1]
  dsimp only
  rw [if_neg symmetric.not_pub, if_neg symmetric.not_pub]
  exact Eq.refl (keyTaken f (importedKey f ty u) s)

/-! ### KEY_PUBLIC_READ (R402) -/

theorem keyPublicRead_front (front : Front 0x0C03 f s) : exec .keyPublicRead s = .next (keyPublicRead f s) :=
  exec_front (act := keyPublicRead) front rfl

theorem keyPublicRead_usable (front : Front 0x0C03 f s) (small : f.p 16 1 ≤ 31) (root : s.key.rootFail = false)
    (usable : (s.key.slot[f.slot.val]).unusable = false) : exec .keyPublicRead s = .next
      (if (s.key.slot[f.slot.val]).rec_.type = .pair ∨ (s.key.slot[f.slot.val]).rec_.type = .pub then
        complete f .ok 0 [] (some (slice (s.key.slot[f.slot.val]).rec_.pub 0 65)) s
      else completeSt f .denied s) :=
  (keyPublicRead_front front).trans (congrArg Host.Outcome.next ((if_neg (Nat.not_lt.mpr small)).trans
    (if_neg (by rw [root, usable]; simp))))

/-! ### KEY_DESTROY and KEY_LOCK (R398, R399) -/

theorem keyDestroy_front (front : Front 0x0C0B f s) : exec .keyDestroy s = .next (keyDestroy f s) := exec_front (act := keyDestroy) front rfl

/-- The state in which a slot is destroyed: with slot 1 go the handshakes that wait. -/
def waitsDropped (k : Fin 32) (s : State) : State := if k = 1 then dropWaits s else s

theorem waitsDropped_slots (k : Fin 32) (s : State) : (waitsDropped k s).key.slot = s.key.slot := by
  unfold waitsDropped
  split
  · exact dropWaits_slots s
  · rfl

theorem destroyKey_slots (k : Fin 32) (s : State) : (destroyKey k s).key.slot = vmod s.key.slot k KeySlot.destroy := by
  rw [← waitsDropped_slots k s]
  exact congrArg Key.slot (post_key ..)

/-- The slots of the mask are empty, with what LOCKED leaves of them. -/
theorem destroyed_slots (s : State) (k : Fin 32) :
    (bitAt (f.p 16 4) k.val = true → (f.slotMask.foldl (fun s k => destroyKey k s) s).key.slot[k.val] = KeySlot.destroy s.key.slot[k.val]) ∧
      (bitAt (f.p 16 4) k.val = false → (f.slotMask.foldl (fun s k => destroyKey k s) s).key.slot[k.val] = s.key.slot[k.val]) := by
  refine slotMask_foldl (R := fun a b => b = KeySlot.destroy a) (fun s k => ?_) (fun s j k other => ?_) s k
  · exact (congrArg (fun v : Vector KeySlot 32 => v[k.val]) (destroyKey_slots k s)).trans (vmod_self ..)
  · exact (congrArg (fun v : Vector KeySlot 32 => v[k.val]) (destroyKey_slots j s)).trans (vmod_other _ _ _ _ other.symm)

theorem keyDestroy_destroys (front : Front 0x0C0B f s) (some : f.p 16 4 ≠ 0) (notRoot : bitAt (f.p 16 4) 0 = false) :
    exec .keyDestroy s = .next (complete f .ok 0 (leBytes 4 (f.p 16 4)) none (f.slotMask.foldl (fun s k => destroyKey k s) s)) :=
  (keyDestroy_front front).trans (congrArg Host.Outcome.next ((if_neg (by rw [notRoot]; simpa using some)).trans
    (if_neg (by rw [notRoot]; simp))))

theorem keyLock_front (front : Front 0x0C0C f s) : exec .keyLock s = .next (keyLock f s) := exec_front (act := keyLock) front rfl

/-- The slot has taken LOCKED and keeps its secret. -/
def Locks (a b : KeySlot) : Prop := b.rec_.locked = true ∧ b.rec_.secret = a.rec_.secret

theorem lock_locks (root : BitVec 256) (a : KeySlot) : Locks a (KeySlot.lock root a) := by
  unfold KeySlot.lock
  dsimp only
  split <;> exact ⟨rfl, rfl⟩

/-- One slot is locked. -/
def lockKey (s : State) (k : Fin 32) : State := { s with key := { s.key with slot := vmod s.key.slot k (KeySlot.lock s.key.root) } }

theorem locked_slots (s : State) (k : Fin 32) :
    (bitAt (f.p 16 4) k.val = true → Locks s.key.slot[k.val] (f.slotMask.foldl lockKey s).key.slot[k.val]) ∧
      (bitAt (f.p 16 4) k.val = false → (f.slotMask.foldl lockKey s).key.slot[k.val] = s.key.slot[k.val]) := by
  refine slotMask_foldl (fun s k => ?_) (fun s j k other => vmod_other _ _ _ _ other.symm) s k
  have own : (lockKey s k).key.slot[k.val] = KeySlot.lock s.key.root s.key.slot[k.val] := vmod_self ..
  rw [own]
  exact lock_locks _ _

theorem keyLock_locks (front : Front 0x0C0C f s) (some : f.p 16 4 ≠ 0) (root : s.key.rootFail = false) :
    exec .keyLock s = .next (complete f .ok 0 (leBytes 4 (f.p 16 4)) none (f.slotMask.foldl lockKey s)) :=
  (keyLock_front front).trans (congrArg Host.Outcome.next ((if_neg some).trans (if_neg (by rw [root]; exact Bool.false_ne_true))))

/-! ### KEY_RANDOM, KEY_HASH and KEY_HMAC (R400 to R402) -/

theorem keyRandom_front (front : Front 0x0C0A f s) : exec .keyRandom s = .next (keyRandom f s) := exec_front (act := keyRandom) front rfl

theorem keyHash_front (front : Front 0x0C09 f s) : exec .keyHash s = .next (keyHash f s) := exec_front (act := keyHash) front rfl

theorem hashSteps_short {l : Nat} (short : l ≤ 4128) : hashSteps (l - 32) = 0 := if_pos (by omega)

/-- A hash or HMAC over at most 4,096 bytes is done at dispatch (R400). -/
theorem longOrNow_now {kind : OpKind} {steps : Nat} {slots : List (Fin 32)} (none : steps = 0) :
    longOrNow kind steps slots f s = keyDone kind f s := if_pos none

theorem keyHash_short (front : Front 0x0C09 f s) (sha : f.p 16 1 = 0) (short : f.bufLen ≤ 4128) : exec .keyHash s = .next (hashDone f s) :=
  (keyHash_front front).trans (congrArg Host.Outcome.next ((if_neg (not_not.mpr sha)).trans (longOrNow_now (hashSteps_short short))))

/-- An operation with a usable slot. -/
theorem useKey_acts {bit : Nat} {act : Flight → State → State} (first : 1 ≤ f.p 16 1) (last : f.p 16 1 ≤ 31)
    (usable : slotCheck f.slot bit s = none) : useKey bit act f s = act f s := by
  unfold useKey
  rw [if_neg (Nat.not_lt.mpr last), usable]
  exact if_neg (Nat.ne_of_gt first)

theorem useKey_refused {bit : Nat} {act : Flight → State → State} (last : f.p 16 1 ≤ 31)
    (refused : slotCheck f.slot bit s = some st) : useKey bit act f s = completeSt f st s := by
  unfold useKey
  rw [if_neg (Nat.not_lt.mpr last), refused]

theorem keyHmac_short (front : Front 0x0C08 f s) (first : 1 ≤ f.p 16 1) (last : f.p 16 1 ≤ 31) (usable : slotCheck f.slot 4 s = none)
    (short : f.bufLen ≤ 4128) : exec .keyHmac s = .next (hmacDone f s) :=
  (exec_front (act := keyHmac) front rfl).trans (congrArg Host.Outcome.next
    ((useKey_acts first last usable).trans (longOrNow_now (hashSteps_short short))))

/-- Settles O53. -/
theorem keySlots : Obligations.KeySlots := by
  unfold Obligations.KeySlots
  intro s f
  refine ⟨?_, ?_, ?_, fun ty u st => keyGenerate_refused, fun u => keyImport_pair, ?_, ?_, ?_, ?_, ?_, ?_, ?_, ?_, ?_,
    fun u => keyGenerate_pub, ?_, ?_, ?_, ?_, ?_, ?_, ?_, ?_⟩
  · intro out
    rw [← keyFault_invalid out]
    exact ⟨fun front => keyGenerate_formless front (keyForm_none out), fun front => keyImport_formless front (keyForm_none out)⟩
  · intro slot usage flags form
    rw [← keyFault_unsupported slot usage flags]
    exact ⟨fun front => keyGenerate_formless front form, fun front => keyImport_formless front form⟩
  · intro ty u front form secret free entropy
    refine ⟨fun pair room => ?_, fun single => ⟨_, keyGenerate_draws front form secret free entropy single, ?_⟩⟩
    · exact (keyGenerate_pair front form secret free entropy pair).trans (congrArg Host.Outcome.next (askLong_room room))
    · obtain ⟨⟨gen, root, holds⟩, usable, others⟩ := (keyTaken_filled f (drawnKey f ty u (freeBytes ty.secretLen s).1)
        (freeBytes ty.secretLen s).2).before rfl
      rw [holds]
      exact ⟨rfl, rfl, rfl, freeBytes_length _ s, usable, others⟩
  · intro ty u front form symmetric length free
    obtain ⟨⟨gen, root, holds⟩, _, others⟩ := keyTaken_filled f (importedKey f ty u) s
    refine ⟨_, keyImport_takes front form symmetric length free, ?_⟩
    rw [holds]
    exact ⟨rfl, rfl, rfl, others⟩
  · intro r front small root usable is
    subst is
    have runs := keyPublicRead_usable front small root usable
    exact ⟨fun readable => runs.trans (congrArg Host.Outcome.next (if_pos readable)),
      fun notPair notPub => runs.trans (congrArg Host.Outcome.next (if_neg (not_or.mpr ⟨notPair, notPub⟩)))⟩
  · exact fun front none => (keyDestroy_front front).trans (congrArg Host.Outcome.next (if_pos (.inl none)))
  · intro front some notRoot
    refine ⟨_, keyDestroy_destroys front some notRoot, fun k => ?_⟩
    obtain ⟨among, outside⟩ := destroyed_slots (f := f) s k
    rw [complete_key]
    refine ⟨fun bit => ?_, outside⟩
    rw [among bit]
    exact ⟨rfl, rfl, rfl, fun locked => Bool.or_eq_true_iff.mpr (.inl locked)⟩
  · intro front some root
    refine ⟨_, keyLock_locks front some root, fun k => ?_⟩
    rw [complete_key]
    exact locked_slots s k
  · exact fun front failed => (keyRandom_front front).trans (congrArg Host.Outcome.next (if_pos failed))
  · intro front entropy
    refine ⟨_, (freeBytes f.bufLen s).1, (keyRandom_front front).trans (congrArg Host.Outcome.next
      (if_neg (by rw [entropy]; exact Bool.false_ne_true))), freeBytes_length _ s, ?_⟩
    rw [complete_free]
    rfl
  · intro msg front sha short is
    subst is
    exact keyHash_short front sha short
  · intro msg front first last usable short is
    subst is
    exact keyHmac_short front first last usable short
  · intro ty u front form secret free
    refine ⟨keyGenerate_entropy front form secret free, fun entropy pair full => ?_⟩
    exact (keyGenerate_pair front form secret free entropy pair).trans (congrArg Host.Outcome.next (askLong_full full))
  · exact fun ty u st front form symmetric => ⟨keyImport_length front form symmetric, keyImport_refused front form symmetric⟩
  · exact fun front above => (keyPublicRead_front front).trans (congrArg Host.Outcome.next (if_pos above))
  · exact fun front small failed => (keyPublicRead_front front).trans (congrArg Host.Outcome.next
      ((if_neg (Nat.not_lt.mpr small)).trans (if_pos failed)))
  · intro front bit
    refine ⟨fun wrong => ?_, fun right waits => ?_⟩
    · exact (keyDestroy_front front).trans (congrArg Host.Outcome.next (if_pos (.inr ⟨bit, wrong⟩)))
    · have some : f.p 16 4 ≠ 0 := fun none => by
        rw [none] at bit
        exact absurd bit (by decide)
      exact (keyDestroy_front front).trans (congrArg Host.Outcome.next
        ((if_neg (not_or.mpr ⟨some, fun h => h.2 right⟩)).trans (if_pos ⟨bit, waits⟩)))
  · exact fun front none => (keyLock_front front).trans (congrArg Host.Outcome.next (if_pos none))
  · exact fun front some failed => (keyLock_front front).trans (congrArg Host.Outcome.next ((if_neg some).trans (if_pos failed)))
  · exact fun front other => (keyHash_front front).trans (congrArg Host.Outcome.next (if_pos other))

end Sys2Proof.Proofs

end

section
set_option Elab.async false -- one theorem after another, which keeps Lean within its memory
/-! The long operations of the key engine and its health (R56, R57, R392, R400 to R402). -/

namespace Sys2Proof.Proofs

open Sys2Proof Sys2Proof.Machine Sys2Proof.Safety Sys2Proof.Laws

variable {s : State} {f : Flight} {st : Status}

/-! ### Asking for an operation (R400, R402) -/

theorem keySign_front (front : Front 0x0C04 f s) : exec .keySign s = .next (keySign f s) := exec_front (act := keySign) front rfl

/-- KEY_SIGN with a usable slot. -/
theorem keySign_usable (front : Front 0x0C04 f s) (first : 1 ≤ f.p 16 1) (last : f.p 16 1 ≤ 31) (usable : slotCheck f.slot 0 s = none) :
    exec .keySign s = .next (if s.key.rngFail then completeSt f .integrity s else askLong f .sign 77 (.flight f.seq) [f.slot] s) :=
  (keySign_front front).trans (congrArg Host.Outcome.next (useKey_acts first last usable))

theorem keySign_asks (front : Front 0x0C04 f s) (first : 1 ≤ f.p 16 1) (last : f.p 16 1 ≤ 31) (usable : slotCheck f.slot 0 s = none)
    (entropy : s.key.rngFail = false) : exec .keySign s = .next (askLong f .sign 77 (.flight f.seq) [f.slot] s) :=
  (keySign_usable front first last usable).trans (congrArg Host.Outcome.next (if_neg (by rw [entropy]; exact Bool.false_ne_true)))

theorem keyVerify_asks (front : Front 0x0C05 f s) (first : 1 ≤ f.p 16 1) (last : f.p 16 1 ≤ 31) (usable : slotCheck f.slot 1 s = none) :
    exec .keyVerify s = .next (askLong f .verify 131 (.flight f.seq) [f.slot] s) :=
  (exec_front (act := keyVerify) front rfl).trans (congrArg Host.Outcome.next (useKey_acts first last usable))

theorem keyEcdh_front (front : Front 0x0C06 f s) : exec .keyEcdh s = .next (keyEcdh f s) := exec_front (act := keyEcdh) front rfl

theorem keyTypeOf_le {n : Nat} {ty : KeyType} (is : keyTypeOf n = some ty) : n ≤ 5 := by
  match n with
  | 0 | 1 | 2 | 3 | 4 | 5 => decide
  | n + 6 => exact absurd is.symm (Option.some_ne_none ty)

theorem keyEcdh_asks {k : Fin 32} {ty : KeyType} (front : Front 0x0C06 f s) (first : 1 ≤ f.p 16 1) (last : f.p 16 1 ≤ 31)
    (usable : slotCheck f.slot 2 s = none) (target : f.p 17 1 = k.val) (type : keyTypeOf (f.p 18 1) = some ty) (secret : 3 ≤ f.p 18 1)
    (usage : usageOk ty (f.p 19 1) = true) (flags : f.p 20 1 ≤ 1) (point : (decodePoint (f.inBuf.take 65)).isSome = true)
    (free : fillCheck k ty (f.p 19 1) false s = none) :
    exec .keyEcdh s = .next (askLong f .ecdh 73 (.flight f.seq) [f.slot, k] s) := by
  have inRange : ¬ (31 < f.p 16 1 ∨ 31 < f.p 17 1 ∨ 31 < f.p 19 1 ∨ 1 < f.p 20 1 ∨ f.p 18 1 < 3 ∨ 5 < f.p 18 1) := by
    have usage := usageOk_le usage
    have type := keyTypeOf_le type
    have slot := k.isLt
    omega
  refine (keyEcdh_front front).trans (congrArg Host.Outcome.next ((if_neg inRange).trans ?_))
  rw [type, target, Fin.ofNat_val_eq_self k]
  dsimp only
  rw [usage, if_neg (by decide), if_neg (by rw [Option.isNone_eq_false_iff.mpr point]; exact Bool.false_ne_true),
    useKey_acts first last usable, free]

theorem keyEcdh_unlisted {ty : KeyType} (front : Front 0x0C06 f s) (source : f.p 16 1 ≤ 31) (target : f.p 17 1 ≤ 31) (usage : f.p 19 1 ≤ 31)
    (flags : f.p 20 1 ≤ 1) (type : keyTypeOf (f.p 18 1) = some ty) (secret : 3 ≤ f.p 18 1) (unlisted : usageOk ty (f.p 19 1) = false) :
    exec .keyEcdh s = .next (completeSt f .unsupported s) := by
  have inRange : ¬ (31 < f.p 16 1 ∨ 31 < f.p 17 1 ∨ 31 < f.p 19 1 ∨ 1 < f.p 20 1 ∨ f.p 18 1 < 3 ∨ 5 < f.p 18 1) := by
    have type := keyTypeOf_le type
    omega
  refine (keyEcdh_front front).trans (congrArg Host.Outcome.next ((if_neg inRange).trans ?_))
  rw [type]
  exact if_pos (by rw [unlisted]; rfl)

theorem keyAesGcm_front (front : Front 0x0C07 f s) : exec .keyAesGcm s = .next (keyAesGcm f s) := exec_front (act := keyAesGcm) front rfl

theorem keyAesGcm_asks (front : Front 0x0C07 f s) (first : 1 ≤ f.p 16 1) (last : f.p 16 1 ≤ 31) (usable : slotCheck f.slot 3 s = none)
    (way : f.p 17 1 ≤ 1) (body : f.p 20 2 + 16 < f.bufLen) : exec .keyAesGcm s =
      .next (askLong f .gcm ((f.bufLen - f.p 20 2 - 16 + 4095) / 4096) (.flight f.seq) [f.slot] s) :=
  (keyAesGcm_front front).trans (congrArg Host.Outcome.next ((if_neg (by omega)).trans
    ((useKey_acts first last usable).trans (if_neg (by omega)))))

/-! ### Delivery (R56) -/

/-- The oldest result is that of a descriptor in flight, and its last step ran in an earlier tick. -/
structure Delivers (f : Flight) (s : State) (o : LongOp) (rest : List LongOp) : Prop where
  reached : Reached .host s
  up : s.rst.msdUp = true
  first : s.key.done = o :: rest
  earlier : o.doneAt.getD 0 < s.now
  whole : o.dropped = false
  requester : o.req = .flight f.seq
  inFlight : flight? f.seq s = some f

/-- The state with the oldest result taken. -/
def resultTaken (rest : List LongOp) (s : State) : State := { s with key := { s.key with done := rest } }

variable {o : LongOp} {rest : List LongOp}

theorem longOperationDone_runs (reached : Reached .host s) : exec .longOperationDone s = runLongOperationDone s := exec_reached reached rfl

theorem Delivers.runs (h : Delivers f s o rest) : exec .longOperationDone s = .next (keyDone o.kind f (resultTaken rest s)) := by
  refine (longOperationDone_runs h.reached).trans (congrArg Host.Outcome.next ?_)
  rw [h.first]
  dsimp only
  rw [if_pos ⟨h.up, h.earlier⟩, if_neg (by rw [h.whole]; exact Bool.false_ne_true)]
  unfold deliverLong
  have found : flight? f.seq (resultTaken rest s) = some f := h.inFlight
  rw [h.requester]
  dsimp only
  rw [show flight? f.seq { s with key := { s.key with done := rest } } = some f from found]
  exact Eq.refl (keyDone o.kind f (resultTaken rest s))

theorem keyDone_sign (f : Flight) (s : State) : keyDone .sign f s = signDone f s := rfl

theorem keyDone_generate (f : Flight) (s : State) : keyDone .generate f s = generateDone f s := rfl

theorem Delivers.of_kind {kind : OpKind} (h : Delivers f s o rest) (is : o.kind = kind) :
    exec .longOperationDone s = .next (keyDone kind f (resultTaken rest s)) := by
  rw [← is]
  exact h.runs

theorem longOperationDone_waits (reached : Reached .host s) (first : s.key.done = o :: rest) (sameTick : o.doneAt = some s.now) :
    exec .longOperationDone s = .next s := by
  refine (longOperationDone_runs reached).trans (congrArg Host.Outcome.next ?_)
  rw [first]
  exact if_neg fun h => Nat.lt_irrefl s.now (by have earlier := h.2; rw [sameTick] at earlier; exact earlier)

theorem verifyDone_status (f : Flight) (s : State) : keyDone .verify f s = completeSt f
    (if ecdsaVerify (s.key.slot[f.slot.val]).rec_.pub (slice f.param 8 32) (slice f.inBuf 0 64) then .ok else .integrity) s := rfl

theorem Delivers.verifies (h : Delivers f s o rest) (is : o.kind = .verify) : exec .longOperationDone s = .next (completeSt f
    (if ecdsaVerify (s.key.slot[f.slot.val]).rec_.pub (slice f.param 8 32) (slice f.inBuf 0 64) then .ok else .integrity)
    (resultTaken rest s)) := (h.of_kind is).trans (congrArg Host.Outcome.next (verifyDone_status f (resultTaken rest s)))

/-- A signature that no nonce gives is asked for anew. -/
def signatureGiven (f : Flight) (r : Option (List Byte) × State) : State :=
  match r.1 with
  | some b => complete f .ok 0 [] (some b) r.2
  | none => requestLong .sign 77 (.flight f.seq) [f.slot] r.2

theorem signDone_given {r : Option (List Byte) × State} (entropy : s.key.rngFail = false)
    (drawn : r = signDigest (beNat (s.key.slot[f.slot.val]).rec_.secret) (slice f.param 8 32) s) : signDone f s = signatureGiven f r := by
  unfold signDone
  rw [if_neg (by rw [entropy]; exact Bool.false_ne_true)]
  split
  next sig t is =>
    have same : r = (sig, t) := drawn.trans is
    subst same
    exact Eq.refl (signatureGiven f (sig, t))

theorem signDigest_state (d : Nat) (digest : List Byte) (s : State) :
    (signDigest d digest s).2 = { s with free := (signDigest d digest s).2.free } := rfl

theorem Delivers.signs {r : Option (List Byte) × State} (h : Delivers f s o rest) (is : o.kind = .sign) (entropy : s.key.rngFail = false)
    (drawn : r = signDigest (beNat (s.key.slot[f.slot.val]).rec_.secret) (slice f.param 8 32) (resultTaken rest s)) :
    r.2 = { resultTaken rest s with free := r.2.free } ∧ exec .longOperationDone s = .next (signatureGiven f r) := by
  refine ⟨?_, (h.of_kind is).trans (congrArg Host.Outcome.next ((keyDone_sign f _).trans (signDone_given entropy drawn)))⟩
  rw [drawn]
  exact signDigest_state ..

theorem generateDone_shut (shutSlot : shut f.slot s = true) : generateDone f s = completeSt f .denied s := if_pos shutSlot

/-- A generated pair. -/
def pairKey (f : Flight) (d : Nat) : KeyRec :=
  { type := .pair, usage := BitVec.ofNat 5 (f.p 18 1), origin := 1, volatile := bitAt (f.p 19 1) 0, secret := beBytes 32 d, pub := publicOf d }

theorem pairKey_fields {d gen : Nat} {root : BitVec 256} {r : KeyRec} (holds : r = { pairKey f d with gen := gen, under := root }) :
    r.type = .pair ∧ r.secret = beBytes 32 d ∧ r.pub = publicOf d := by
  subst holds
  exact ⟨rfl, rfl, rfl⟩

/-- The slot takes the pair of a scalar. -/
def pairGiven (f : Flight) (r : Nat × State) : State := keyTaken f (pairKey f r.1) r.2

theorem pairGiven_fields (f : Flight) (r : Nat × State) : (((pairGiven f r).key.slot[f.slot.val]).rec_).type = .pair ∧
    (((pairGiven f r).key.slot[f.slot.val]).rec_).secret = beBytes 32 r.1 ∧
    (((pairGiven f r).key.slot[f.slot.val]).rec_).pub = publicOf r.1 := by
  obtain ⟨gen, root, holds⟩ := (keyTaken_filled f (pairKey f r.1) r.2).holds
  exact pairKey_fields holds

theorem generateDone_takes (open_ : shut f.slot s = false) (entropy : s.key.rngFail = false) :
    generateDone f s = pairGiven f (drawScalar s) := by
  unfold generateDone
  rw [if_neg (by rw [open_]; exact Bool.false_ne_true), if_neg (by rw [entropy]; exact Bool.false_ne_true)]
  generalize drawScalar s = r
  obtain ⟨d, t⟩ := r
  exact Eq.refl (pairGiven f (d, t))

theorem Delivers.denied (h : Delivers f s o rest) (is : o.kind = .generate) (shutSlot : shut f.slot s = true) :
    exec .longOperationDone s = .next (completeSt f .denied (resultTaken rest s)) :=
  (h.of_kind is).trans (congrArg Host.Outcome.next ((keyDone_generate f _).trans (generateDone_shut (s := resultTaken rest s) shutSlot)))

theorem Delivers.generates (h : Delivers f s o rest) (is : o.kind = .generate) (open_ : shut f.slot s = false)
    (entropy : s.key.rngFail = false) : exec .longOperationDone s =
      .next (pairGiven f (drawScalar (resultTaken rest s))) :=
  (h.of_kind is).trans (congrArg Host.Outcome.next
    ((keyDone_generate f _).trans (generateDone_takes (s := resultTaken rest s) open_ entropy)))

theorem drawScalar_range (s : State) : 1 ≤ (drawScalar s).1 ∧ (drawScalar s).1 < p256n := by
  have below : beNat (freeBytes 32 s).1 % (p256n - 1) < p256n - 1 := Nat.mod_lt _ (by decide)
  exact ⟨Nat.le_add_left 1 _, Nat.add_lt_of_lt_sub below⟩

/-! ### The health of the engine (R392, R401) -/

/-- Failing reads of the bank in a row. -/
def badRun (m run : Nat) : Nat := if 9 < m then min 255 (run + 1) else 0

/-- What a read of the bank leaves. -/
def bankRead (m : Nat) (s : State) : State :=
  { s with key := { s.key with monErr := min 255 m, monRun := badRun m s.key.monRun, monDown := none } }

/-- A check of the bank takes place in the first PUF tick 2 ms after it was powered down. -/
theorem pufHealthCheck_runs {err : List Nat} {t0 : Tick} (reached : Reached .back s) (down : s.key.monDown = some t0)
    (ready : s.isReady 12 = true) (rested : t0 + 128 ≤ s.now) (tick : 0x3E ≤ s.now % 64) :
    exec (.pufHealthCheck err) s = .next (if badRun (err.foldl max 0) s.key.monRun = 3 then
      postKey 2 0 (bankRead (err.foldl max 0) s).key.monErr (setReplace 2 (bankRead (err.foldl max 0) s))
    else bankRead (err.foldl max 0) s) := by
  refine (exec_reached (act := runPufHealthCheck err) reached rfl).trans (congrArg Host.Outcome.next ?_)
  rw [down]
  exact if_pos ⟨ready, rested, tick⟩

/-- Either way the engine holds what the read left. -/
theorem bankReported_key (report : Prop) [Decidable report] (m : Nat) (s : State) :
    (if report then postKey 2 0 (bankRead m s).key.monErr (setReplace 2 (bankRead m s)) else bankRead m s).key = (bankRead m s).key := by
  split
  · exact (post_key ..).trans (setReplace_key ..)
  · rfl

theorem entropyFailure_fails (ready : s.isReady 12 = true) :
    exec (.entropyFailure true) s = .next (postKey 4 0 0 { s with key := { s.key with rngFail := true } }) :=
  congrArg Host.Outcome.next ((if_neg (by rw [ready]; exact Bool.false_ne_true)).trans (if_pos rfl))

theorem entropyFailure_ends (ready : s.isReady 12 = true) (failed : s.key.rngFail = true) :
    exec (.entropyFailure false) s = .next (postKey 5 0 0 { s with key := { s.key with rngFail := false } }) :=
  congrArg Host.Outcome.next ((if_neg (by rw [ready]; exact Bool.false_ne_true)).trans ((if_neg Bool.false_ne_true).trans (if_pos failed)))

/-- An event of the engine leaves it as it stands. -/
theorem postKey_reports (cause : Nat) (k : Key) (s : State) : (postKey cause 0 0 { s with key := k }).key = k ∧
    HostOnly { s with key := (postKey cause 0 0 { s with key := k }).key } (postKey cause 0 0 { s with key := k }) := by
  have same : (postKey cause 0 0 { s with key := k }).key = k := post_key ..
  rw [same]
  exact ⟨rfl, post_hostOnly ..⟩

/-- Settles O54. -/
theorem longKeyOperations : Obligations.LongKeyOperations := by
  unfold Obligations.LongKeyOperations
  intro s f
  refine ⟨?_, ?_, ?_, ?_, fun o rest => longOperationDone_waits, ?_, ?_, ?_, ?_, ?_, ?_⟩
  · intro first last room
    refine ⟨fun front usable entropy => ?_, fun front usable => ?_, fun k ty front usable target type secret usage flags point free => ?_,
      fun front usable way body => ?_⟩
    · exact (keySign_asks front first last usable entropy).trans (congrArg Host.Outcome.next (askLong_room room))
    · exact (keyVerify_asks front first last usable).trans (congrArg Host.Outcome.next (askLong_room room))
    · exact (keyEcdh_asks front first last usable target type secret usage flags point free).trans
        (congrArg Host.Outcome.next (askLong_room room))
    · exact (keyAesGcm_asks front first last usable way body).trans (congrArg Host.Outcome.next (askLong_room room))
  · exact fun front out => (keyEcdh_front front).trans (congrArg Host.Outcome.next (if_pos (.inr (.inr (.inr (.inr out))))))
  · exact fun st front last refused => (keySign_front front).trans (congrArg Host.Outcome.next (useKey_refused last refused))
  · intro o rest t0 reached up first last earlier whole requester inFlight
    have delivers : Delivers f s o rest := ⟨reached, up, first, by rw [last]; exact earlier, whole, requester, inFlight⟩
    refine ⟨delivers.verifies, fun r sign entropy is => ?_, fun generate shutSlot => ?_,
      fun generate entropy open_ => ?_⟩
    · exact delivers.signs sign entropy is
    · exact delivers.denied generate shutSlot
    · obtain ⟨low, high⟩ := drawScalar_range (resultTaken rest s)
      exact ⟨_, _, delivers.generates generate open_ entropy, low, high, pairGiven_fields f _⟩
  · intro err t0 reached down ready rested tick
    refine ⟨_, pufHealthCheck_runs reached down ready rested tick, ?_, ?_, fun good => ?_, fun bad run => ?_⟩
    · rw [bankReported_key]
      rfl
    · rw [bankReported_key]
      rfl
    · have zero : badRun (err.foldl max 0) s.key.monRun = 0 := if_neg (Nat.not_lt.mpr good)
      rw [bankReported_key, zero]
      exact ⟨zero, rfl⟩
    · have third : badRun (err.foldl max 0) s.key.monRun = 3 := by
        rw [run]
        exact if_pos bad
      rw [bankReported_key, third]
      refine ⟨third, ?_⟩
      rw [if_pos rfl]
      exact (congrArg (fun g : Gen => g.replace.getLsbD 2) (post_gen ..)).trans (setReplace_effect (cause := 2)).2.2
  · intro ready
    exact ⟨_, entropyFailure_fails ready, postKey_reports ..⟩
  · intro ready failed
    exact ⟨_, entropyFailure_ends ready failed, postKey_reports ..⟩
  · intro front first last usable
    refine ⟨fun failed => ?_, fun entropy full => ?_⟩
    · exact (keySign_usable front first last usable).trans (congrArg Host.Outcome.next (if_pos failed))
    · exact (keySign_asks front first last usable entropy).trans (congrArg Host.Outcome.next (askLong_full full))
  · exact fun front source target usage flags ty type secret unlisted =>
      keyEcdh_unlisted front source target usage flags type secret unlisted
  · exact fun front out => (keyAesGcm_front front).trans (congrArg Host.Outcome.next (if_pos out))

end Sys2Proof.Proofs

end

section
set_option Elab.async false -- one theorem after another, which keeps Lean within its memory
/-! The seal and the writes of the metering configuration (R92 to R95, R118, R119, R127). -/

namespace Sys2Proof.Proofs

open Sys2Proof Sys2Proof.Machine Sys2Proof.Safety Sys2Proof.Laws

variable {s : State} {k : Fin 72} {n : Outlet8} {v : W32}

theorem bitsOf_low (v w : Nat) : bitsOf v 0 w = v % 2 ^ w := by rw [bitsOf, pow_zero, Nat.div_one]

/-! ### MTR_CHCFG and MTR_GCFG (R92 to R94) -/

theorem writeChcfg_runs (up : LinkUp s) : exec (.mtrChcfgWrite k v) s = .next (writeChcfg k v.toNat s) :=
  exec_up (act := writeChcfg k v.toNat) up rfl

theorem writeChcfg_rejects (no : s.adc.sealed = true ∨ ownerAtRest k s = false ∨ typeAllowed s k (v.toNat % 8) = false) :
    writeChcfg k v.toNat s = mtrReject s := by
  refine if_pos ?_
  rw [bitsOf_low]
  rcases no with is | is | is
  · rw [is]
    rfl
  · rw [is, Bool.not_false, Bool.or_true]
    rfl
  · rw [show typeAllowed s k (v.toNat % 2 ^ 3) = false from is, Bool.not_false, Bool.or_true]

theorem writeChcfg_takes (unsealed : s.adc.sealed = false) (rest : ownerAtRest k s = true) (allowed : typeAllowed s k (v.toNat % 8) = true) :
    writeChcfg k v.toNat s = { s with adc := { s.adc with
      pendCfg := s.adc.pendCfg ++ [(k, { type := v.toNat % 8, inv := v.getLsbD 3 })] } } := by
  unfold writeChcfg
  dsimp only
  rw [bitsOf_low, bitAt_toNat]
  exact if_neg (by rw [unsealed, rest, show typeAllowed s k (v.toNat % 2 ^ 3) = true from allowed]; exact Bool.false_ne_true)

theorem writeGcfg_runs (up : LinkUp s) : exec (.mtrGcfgWrite v) s = .next (writeGcfg v.toNat s) :=
  exec_up (act := writeGcfg v.toNat) up rfl

theorem writeGcfg_rejects (no : s.adc.sealed = true ∨ allAtRest s = false) : writeGcfg v.toNat s = mtrReject s := by
  refine if_pos ?_
  rcases no with is | is
  · rw [is]
    rfl
  · rw [is, Bool.not_false, Bool.or_true]

theorem writeGcfg_takes (unsealed : s.adc.sealed = false) (rest : allAtRest s = true) :
    writeGcfg v.toNat s = { s with adc := { s.adc with pendNomF := some (v.getLsbD 0) } } := by
  rw [← bitAt_toNat]
  exact if_neg (by rw [unsealed, rest]; exact Bool.false_ne_true)

/-! ### MTR_PHMAP (R118, R119) -/

theorem writePhmap_runs (up : LinkUp s) : exec (.mtrPhmapWrite n v) s = .next (writePhmap n v.toNat s) :=
  exec_up (act := writePhmap n v.toNat) up rfl

/-- The stored delay of a phase stays in range under a map of its outlet. -/
def phaseFits (n : Outlet8) (m : PhMap) (s : State) (p : Fin 3) : Bool :=
  delaysOk { s with nrg := { s.nrg with phmap := s.nrg.phmap.set n.val m } } ⟨8 * n.val + p.val, by omega⟩
    (storedCorr s ⟨8 * n.val + p.val, by omega⟩)

theorem writePhmap_map {m : PhMap} (vsel : parsePerm v.toNat 0 = some m.vsel) (site : parsePerm v.toNat 8 = some m.site) :
    writePhmap n v.toNat s = if s.adc.sealed || !(s.ses.out[n.val]).atRest || !((allFin 3).all (phaseFits n m s)) then mtrReject s
      else { s with nrg := { s.nrg with pendMap := s.nrg.pendMap ++ [(n, m)] } } := by
  unfold writePhmap
  rw [vsel, site]
  rfl

theorem writePhmap_noMap (no : parsePerm v.toNat 0 = none ∨ parsePerm v.toNat 8 = none) : writePhmap n v.toNat s = mtrReject s := by
  unfold writePhmap
  split
  next vs st vsel site =>
    rcases no with is | is
    · exact absurd (vsel.symm.trans is) (Option.some_ne_none vs)
    · exact absurd (site.symm.trans is) (Option.some_ne_none st)
  · rfl

/-- A write of two permutations, or of something else. -/
theorem permutations (v : W32) : (∃ m : PhMap, parsePerm v.toNat 0 = some m.vsel ∧ parsePerm v.toNat 8 = some m.site) ∨
    (parsePerm v.toNat 0 = none ∨ parsePerm v.toNat 8 = none) := by
  cases vsel : parsePerm v.toNat 0 with
  | none => exact .inr (.inl rfl)
  | some vs =>
    cases site : parsePerm v.toNat 8 with
    | none => exact .inr (.inr rfl)
    | some st => exact .inl ⟨⟨vs, st⟩, rfl, rfl⟩

theorem writePhmap_rejects (no : s.adc.sealed = true ∨ (s.ses.out[n.val]).atRest = false) : writePhmap n v.toNat s = mtrReject s := by
  rcases permutations v with ⟨m, vsel, site⟩ | none
  · refine (writePhmap_map vsel site).trans (if_pos ?_)
    rcases no with is | is
    · rw [is]
      rfl
    · rw [is, Bool.not_false, Bool.or_true]
      rfl
  · exact writePhmap_noMap none

theorem writePhmap_unfit {m : PhMap} {p : Fin 3} (vsel : parsePerm v.toNat 0 = some m.vsel) (site : parsePerm v.toNat 8 = some m.site)
    (unfit : phaseFits n m s p = false) : writePhmap n v.toNat s = mtrReject s := by
  refine (writePhmap_map vsel site).trans (if_pos ?_)
  have some_ : (allFin 3).all (phaseFits n m s) = false := List.all_eq_false.mpr ⟨p, List.mem_finRange p, by rw [unfit]; exact Bool.false_ne_true⟩
  rw [some_, Bool.not_false, Bool.or_true]

theorem writePhmap_takes {m : PhMap} (unsealed : s.adc.sealed = false) (rest : (s.ses.out[n.val]).atRest = true)
    (vsel : parsePerm v.toNat 0 = some m.vsel) (site : parsePerm v.toNat 8 = some m.site) (fits : ∀ p : Fin 3, phaseFits n m s p = true) :
    writePhmap n v.toNat s = { s with nrg := { s.nrg with pendMap := s.nrg.pendMap ++ [(n, m)] } } := by
  refine (writePhmap_map vsel site).trans (if_neg ?_)
  rw [unsealed, rest, List.all_eq_true.mpr fun p _ => fits p]
  exact Bool.false_ne_true

/-! ### MTR_PULSE (R127) -/

theorem writePulse_runs (up : LinkUp s) : exec (.mtrPulseWrite n v) s = .next (writePulse n v.toNat s) :=
  exec_up (act := writePulse n v.toNat) up rfl

/-- CONST or SRC of a pulse output moves. -/
def pulseMoved (n : Outlet8) (v : Nat) (s : State) : Bool :=
  decide (v % 2 ^ 17 ≠ (s.nrg.pulse[n.val]).const ∨ bitsOf v 17 2 ≠ (s.nrg.pulse[n.val]).src)

/-- A field of MTR_PULSE is out of range. -/
def pulseBad (v : Nat) : Bool :=
  decide (v % 2 ^ 17 < 100 ∨ 100000 < v % 2 ^ 17 ∨ 1000000 % (v % 2 ^ 17) ≠ 0 ∨ bitsOf v 20 8 = 0 ∨ 160 < bitsOf v 20 8 ∨ bitsOf v 17 2 = 3)

/-- A pulse output as MTR_PULSE sets it. -/
def pulseSet (n : Outlet8) (v : Nat) (s : State) : Pulse :=
  let p := s.nrg.pulse[n.val]
  { p with const := v % 2 ^ 17, src := bitsOf v 17 2, pol := bitAt v 19, width := bitsOf v 20 8, en := bitAt v 28,
           part := if pulseMoved n v s then 0 else p.part, active := p.active && bitAt v 28,
           idleTick := if p.active && !bitAt v 28 then some s.now else p.idleTick }

/-- The state with one pulse output set. -/
def withPulse (n : Outlet8) (p : Pulse) (s : State) : State := { s with nrg := { s.nrg with pulse := s.nrg.pulse.set n.val p } }

theorem withPulse_self (n : Outlet8) (p : Pulse) (s : State) : (withPulse n p s).nrg.pulse[n.val] = p := Vector.getElem_set_self n.isLt

theorem writePulse_cases (n : Outlet8) (v : W32) (s : State) : writePulse n v.toNat s =
    if s.adc.sealed || !(s.ses.out[n.val]).atRest || pulseBad v.toNat || (pulseMoved n v.toNat s && decide (0 < (s.nrg.pulse[n.val]).pending))
    then mtrReject s else withPulse n (pulseSet n v.toNat s) s := by
  unfold writePulse
  dsimp only
  rw [bitsOf_low]
  rfl

theorem pulseBad_iff {v : Nat} : pulseBad v = true ↔ v % 2 ^ 17 < 100 ∨ 100000 < v % 2 ^ 17 ∨ 1000000 % (v % 2 ^ 17) ≠ 0 ∨
    bitsOf v 20 8 = 0 ∨ 160 < bitsOf v 20 8 ∨ bitsOf v 17 2 = 3 := decide_eq_true_iff

theorem pulseMoved_iff {v : Nat} : pulseMoved n v s = true ↔
    v % 2 ^ 17 ≠ (s.nrg.pulse[n.val]).const ∨ bitsOf v 17 2 ≠ (s.nrg.pulse[n.val]).src := decide_eq_true_iff

theorem pulseMoved_false_iff {v : Nat} : pulseMoved n v s = false ↔
    v % 2 ^ 17 = (s.nrg.pulse[n.val]).const ∧ bitsOf v 17 2 = (s.nrg.pulse[n.val]).src := by
  rw [← Bool.not_eq_true, pulseMoved_iff, not_or, not_not, not_not]

theorem writePulse_rejects (no : s.adc.sealed = true ∨ (s.ses.out[n.val]).atRest = false ∨ pulseBad v.toNat = true ∨
    (0 < (s.nrg.pulse[n.val]).pending ∧ pulseMoved n v.toNat s = true)) : writePulse n v.toNat s = mtrReject s := by
  refine (writePulse_cases n v s).trans (if_pos ?_)
  rcases no with is | is | is | ⟨spills, moves⟩
  · rw [is]
    rfl
  · rw [is, Bool.not_false, Bool.or_true]
    rfl
  · rw [is, Bool.or_true]
    rfl
  · rw [decide_eq_true spills, moves, Bool.and_true, Bool.or_true]

theorem writePulse_sets (unsealed : s.adc.sealed = false) (rest : (s.ses.out[n.val]).atRest = true) (good : pulseBad v.toNat = false)
    (may : (s.nrg.pulse[n.val]).pending = 0 ∨ pulseMoved n v.toNat s = false) :
    writePulse n v.toNat s = withPulse n (pulseSet n v.toNat s) s := by
  refine (writePulse_cases n v s).trans (if_neg ?_)
  have held : (pulseMoved n v.toNat s && decide (0 < (s.nrg.pulse[n.val]).pending)) = false := by
    rcases may with none | stays
    · rw [none]
      exact Bool.and_false _
    · rw [stays]
      rfl
  rw [unsealed, rest, good, held]
  exact Bool.false_ne_true

theorem pulseSet_part {v : Nat} : (pulseSet n v s).part =
    if v % 2 ^ 17 = (s.nrg.pulse[n.val]).const ∧ bitsOf v 17 2 = (s.nrg.pulse[n.val]).src then (s.nrg.pulse[n.val]).part else 0 := by
  show (if pulseMoved n v s then 0 else (s.nrg.pulse[n.val]).part) = _
  cases moved : pulseMoved n v s with
  | false => exact ((if_neg Bool.false_ne_true).trans (if_pos (pulseMoved_false_iff.mp moved)).symm)
  | true =>
    refine (if_pos rfl).trans (if_neg fun same => ?_).symm
    exact Bool.false_ne_true ((pulseMoved_false_iff.mpr same).symm.trans moved)

/-! ### The statement -/

theorem sealed_rejects (up : LinkUp s) (is : s.adc.sealed = true) (k : Fin 72) (n : Outlet8) (v : W32) :
    exec (.mtrChcfgWrite k v) s = .next (mtrReject s) ∧ exec (.mtrGcfgWrite v) s = .next (mtrReject s) ∧
      exec (.mtrPhmapWrite n v) s = .next (mtrReject s) ∧ exec (.mtrPulseWrite n v) s = .next (mtrReject s) :=
  ⟨(writeChcfg_runs up).trans (congrArg Host.Outcome.next (writeChcfg_rejects (.inl is))),
    (writeGcfg_runs up).trans (congrArg Host.Outcome.next (writeGcfg_rejects (.inl is))),
    (writePhmap_runs up).trans (congrArg Host.Outcome.next (writePhmap_rejects (.inl is))),
    (writePulse_runs up).trans (congrArg Host.Outcome.next (writePulse_rejects (.inl is)))⟩

/-- Settles O17. -/
theorem meteringConfiguration : Obligations.MeteringConfiguration := by
  unfold Obligations.MeteringConfiguration
  refine ⟨fun s k n v up is => sealed_rejects up is k n v, fun s v up => ⟨exec_up (act := fun s => { s with adc := { s.adc with sealed := true } }) up rfl,
    fun unsealed => ⟨fun k rest allowed => ?_, fun rest => ?_, fun n m rest vsel site fits => ?_, ?_⟩⟩, ?_⟩
  · exact (writeChcfg_runs up).trans (congrArg Host.Outcome.next (writeChcfg_takes unsealed rest allowed))
  · exact (writeGcfg_runs up).trans (congrArg Host.Outcome.next (writeGcfg_takes unsealed rest))
  · exact (writePhmap_runs up).trans (congrArg Host.Outcome.next (writePhmap_takes unsealed rest vsel site fits))
  · intro n rest may low whole high source short long
    have good : pulseBad v.toNat = false := by
      rw [← Bool.not_eq_true, pulseBad_iff]
      omega
    have runs := (writePulse_runs up).trans (congrArg Host.Outcome.next
      (writePulse_sets unsealed rest good (may.imp_right pulseMoved_false_iff.mpr)))
    refine ⟨_, runs, ?_⟩
    rw [withPulse_self, ← bitAt_toNat, ← bitAt_toNat]
    exact ⟨rfl, rfl, rfl, rfl, rfl, rfl, rfl, pulseSet_part, rfl⟩
  · intro s k n v r up is
    subst is
    refine ⟨fun no => ?_, fun no => ?_, fun no => ?_, fun m p vsel site unfit => ?_, fun no => ?_⟩
    · exact (writeChcfg_runs up).trans (congrArg Host.Outcome.next (writeChcfg_rejects (.inr no)))
    · exact (writeGcfg_runs up).trans (congrArg Host.Outcome.next (writeGcfg_rejects (.inr no)))
    · exact (writePhmap_runs up).trans (congrArg Host.Outcome.next
        (no.elim (fun busy => writePhmap_rejects (.inr busy)) writePhmap_noMap))
    · exact (writePhmap_runs up).trans (congrArg Host.Outcome.next (writePhmap_unfit vsel site unfit))
    · refine (writePulse_runs up).trans (congrArg Host.Outcome.next (writePulse_rejects (.inr ?_)))
      rw [pulseBad_iff, pulseMoved_iff]
      rcases no with busy | low | high | part | source | short | long | ⟨spills, moves⟩
      · exact .inl busy
      · exact .inr (.inl (.inl low))
      · exact .inr (.inl (.inr (.inl high)))
      · exact .inr (.inl (.inr (.inr (.inl part))))
      · exact .inr (.inl (.inr (.inr (.inr (.inr (.inr source))))))
      · exact .inr (.inl (.inr (.inr (.inr (.inl short)))))
      · exact .inr (.inl (.inr (.inr (.inr (.inr (.inl long))))))
      · exact .inr (.inr ⟨spills, moves⟩)

end Sys2Proof.Proofs

end

section
set_option Elab.async false -- one theorem after another, which keeps Lean within its memory
/-! The clock and billing descriptors (R152, R161, R163, R170 to R173). -/

namespace Sys2Proof.Proofs

open Sys2Proof Sys2Proof.Machine Sys2Proof.Safety Sys2Proof.Laws

variable {s : State} {f : Flight} {n : Outlet8}

/-! ### BIL_TIME_SET (R161) -/

theorem bilTimeSet_front (front : Front 0x0205 f s) : exec .bilTimeSet s = .next (bilTimeSet f s) :=
  exec_front (act := bilTimeSet) front rfl

/-- The time set less that of the clock, in ms. -/
def timeDelta (f : Flight) (s : State) : Int := ((f.p 16 8 : Int) - s.clk.sec) * 1000 + f.p 24 2 - s.rtcMs

/-- The difference lies within STEP_LIMIT. -/
def timeNear (f : Flight) (s : State) : Bool :=
  decide (-(s.clk.stepLimit * 1000 : Int) ≤ timeDelta f s ∧ timeDelta f s ≤ s.clk.stepLimit * 1000)

/-- The clock slews by the difference. -/
def slewing (f : Flight) (s : State) : State := { s with clk := { s.clk with slew := some (timeDelta f s), slewDelta := timeDelta f s } }

/-- The descriptors that wait for a step of the clock. -/
def stepWaiters (s : State) : List (Nat × Int) := match s.clk.stepPend with | some p => p.flights | none => []

/-- The clock waits for a step by the difference. -/
def stepAsked (f : Flight) (s : State) : State := { s with clk := { s.clk with
  slew := none, stepPend := some { delta := timeDelta f s, tick := s.now, flights := stepWaiters s ++ [(f.seq, timeDelta f s)] } } }

theorem bilTimeSet_cases (f : Flight) (s : State) : bilTimeSet f s =
    if 999 < f.p 24 2 ∨ 2 < f.p 26 1 then completeSt f .invalid s
    else if f.p 26 1 = 2 ∧ (s.clk.unsynced ∨ !timeNear f s) then completeSt f .denied s
    else if f.p 26 1 ≠ 1 ∧ timeNear f s ∧ !s.clk.unsynced then
      complete f .ok 0 (timeSetData (timeDelta f s) false false) none (postClock 0 (timeDelta f s) (slewing f s))
    else keepRunning f (stepAsked f s) := rfl

theorem bilTimeSet_invalid (out : 999 < f.p 24 2 ∨ 2 < f.p 26 1) : bilTimeSet f s = completeSt f .invalid s := if_pos out

theorem timeNear_false (far : timeDelta f s < -(s.clk.stepLimit * 1000 : Int) ∨ s.clk.stepLimit * 1000 < timeDelta f s) :
    timeNear f s = false := decide_eq_false (by omega)

/-- The clock is not synchronised, or the difference is beyond STEP_LIMIT. -/
def TimeFar (f : Flight) (s : State) : Prop :=
  s.clk.unsynced = true ∨ timeDelta f s < -(s.clk.stepLimit * 1000 : Int) ∨ s.clk.stepLimit * 1000 < timeDelta f s

theorem bilTimeSet_slews (ms : f.p 24 2 ≤ 999) (mode : f.p 26 1 = 0 ∨ f.p 26 1 = 2) (synced : s.clk.unsynced = false)
    (low : -(s.clk.stepLimit * 1000 : Int) ≤ timeDelta f s) (high : timeDelta f s ≤ s.clk.stepLimit * 1000) :
    bilTimeSet f s = complete f .ok 0 (timeSetData (timeDelta f s) false false) none (postClock 0 (timeDelta f s) (slewing f s)) := by
  have near : timeNear f s = true := decide_eq_true ⟨low, high⟩
  rw [bilTimeSet_cases, if_neg (by omega), if_neg (by rw [synced, near]; simp), if_pos ⟨by omega, near, by rw [synced]; rfl⟩]

theorem slews_frame (f : Flight) (s : State) (data : List Byte) :
    (complete f .ok 0 data none (postClock 0 (timeDelta f s) (slewing f s))).clk = (slewing f s).clk ∧
      HostAndJournalOnly { s with clk := (slewing f s).clk } (complete f .ok 0 data none (postClock 0 (timeDelta f s) (slewing f s))) :=
  ⟨(complete_clk ..).trans (post_clk ..), HostAndJournalOnly.trans (HostOnly.journal (post_hostOnly ..)) (complete_frame ..)⟩

theorem bilTimeSet_steps (ms : f.p 24 2 ≤ 999) (mode : f.p 26 1 = 1 ∨ (f.p 26 1 = 0 ∧ TimeFar f s)) :
    bilTimeSet f s = keepRunning f (stepAsked f s) := by
  rw [bilTimeSet_cases, if_neg (by omega), if_neg (by omega), if_neg]
  rintro ⟨notStep, near, synced⟩
  rcases mode with step | ⟨_, unsynced | far⟩
  · exact notStep step
  · rw [unsynced] at synced
    exact Bool.false_ne_true synced
  · exact Bool.false_ne_true ((timeNear_false far).symm.trans near)

theorem bilTimeSet_denied (ms : f.p 24 2 ≤ 999) (mode : f.p 26 1 = 2) (far : TimeFar f s) : bilTimeSet f s = completeSt f .denied s := by
  rw [bilTimeSet_cases, if_neg (by omega), if_pos]
  refine ⟨mode, far.imp_right fun far => ?_⟩
  rw [timeNear_false far]
  rfl

/-! ### The billing reads (R170, R171) -/

theorem bilRegRead_front (front : Front 0x0201 f s) : exec .bilRegRead s = .next (bilRegRead f s) := exec_front (act := bilRegRead) front rfl

theorem bilShortRead_front (front : Front 0x0202 f s) : exec .bilShortRead s = .next (bilShortRead f s) :=
  exec_front (act := bilShortRead) front rfl

/-- A commit keeps the registers of its outlet and what every other outlet holds. -/
theorem commitBill_regs (n : Outlet8) (s : State) : ((commitBill n s).bill[n.val]).regs = (s.bill[n.val]).regs := by
  unfold commitBill
  extract_lets b q c img b'
  have self : (s.bill.set n.val b')[n.val] = b' := Vector.getElem_set_self n.isLt
  refine (congrArg Bill.regs self).trans ?_
  unfold b'
  split <;> rfl

theorem commitBill_other {m : Outlet8} (other : m ≠ n) (s : State) : (commitBill n s).bill[m.val] = s.bill[m.val] :=
  Vector.getElem_set_ne n.isLt m.isLt fun e => other (Fin.ext e.symm)

/-- Views that are cleared read 0. -/
theorem cleared_wraps (l : List (Fin 23)) (w : Vector Nat 23) (i : Fin 23) (h : i ∈ l ∨ w[i.val] = 0) :
    (l.foldl (fun w i => w.set i.val 0) w)[i.val] = 0 := by
  induction l generalizing w with
  | nil => exact h.resolve_left List.not_mem_nil
  | cons m l ih =>
    refine ih (w.set m.val 0) ?_
    by_cases own : m = i
    · subst own
      exact .inr (Vector.getElem_set_self m.isLt)
    · refine h.imp (fun mem => (List.mem_cons.mp mem).resolve_left fun e => own e.symm) fun zero => ?_
      exact (Vector.getElem_set_ne m.isLt i.isLt fun e => own (Fin.ext e)).trans zero

/-- The views that BIL_SHORT_READ names. -/
def viewsNamed (f : Flight) : List (Fin 23) := (allFin 23).filter fun i => bitAt (f.p 16 4) i.val

/-- The wrap counts of the views read start anew. -/
def wrapsCleared (f : Flight) (s : State) : State :=
  commitBill f.outlet (modBill f.outlet (fun b => { b with regs := { b.regs with
    wraps := (viewsNamed f).foldl (fun w i => w.set i.val 0) b.regs.wraps } }) s)

theorem wrapsCleared_zero (f : Flight) (s : State) (i : Fin 23) (named : bitAt (f.p 16 4) i.val = true) :
    ((wrapsCleared f s).bill[f.outlet.val]).regs.wraps[i.val] = 0 := by
  unfold wrapsCleared
  rw [commitBill_regs, modBill_bill, vmod_self]
  exact cleared_wraps _ _ i (.inl (List.mem_filter.mpr ⟨List.mem_finRange i, named⟩))

/-- BIL_SHORT_READ of an outlet that is not frozen names at least one view and its buffer holds them. -/
structure ShortRead (f : Flight) : Prop where
  some : f.p 16 4 ≠ 0
  small : f.p 16 4 < 2 ^ 23
  room : f.bufLen = 8 * (viewsNamed f).length

theorem bilShortRead_invalid (bad : f.p 16 4 = 0 ∨ 2 ^ 23 ≤ f.p 16 4 ∨ f.bufLen ≠ 8 * (viewsNamed f).length) :
    bilShortRead f s = completeSt f .invalid s := if_pos bad

theorem ShortRead.bytes (h : ShortRead f) : f.bufLen / 8 = (viewsNamed f).length := by
  rw [h.room]
  exact Nat.mul_div_cancel_left _ (by decide)

theorem bilShortRead_frozen (h : ShortRead f) (frozen : (s.bill[f.outlet.val]).frozen = true) :
    ∃ data, bilShortRead f s = complete f .frozen 0 (leBytes 1 (f.bufLen / 8)) (some data) s := by
  rw [h.bytes]
  exact ⟨_, (if_neg (by rw [not_or, not_or, not_not]; exact ⟨h.some, Nat.not_le.mpr h.small, h.room⟩)).trans (if_pos frozen)⟩

theorem bilShortRead_live (h : ShortRead f) (live : (s.bill[f.outlet.val]).frozen = false) :
    ∃ data, bilShortRead f s = complete f .ok 0 (leBytes 1 (f.bufLen / 8)) (some data) (wrapsCleared f s) := by
  rw [h.bytes]
  exact ⟨_, (if_neg (by rw [not_or, not_or, not_not]; exact ⟨h.some, Nat.not_le.mpr h.small, h.room⟩)).trans
    (if_neg (by rw [live]; exact Bool.false_ne_true))⟩

/-! ### The calendar (R152, R173) -/

theorem bilCalendarWrite_front (front : Front 0x0207 f s) : exec .bilCalendarWrite s = .next (bilCalendarWrite f s) :=
  exec_front (act := bilCalendarWrite) front rfl

theorem bilCalendarWrite_takes (length : f.bufLen = 768) (good : calendarOk f.inBuf = true) : bilCalendarWrite f s =
    complete f .ok 0 (slice f.inBuf 8 4) none { s with clk := { s.clk with passive := some f.inBuf } } :=
  if_neg (by rw [length, good]; simp)

theorem bilCalendarWrite_invalid (bad : f.bufLen ≠ 768 ∨ calendarOk f.inBuf = false) : bilCalendarWrite f s = completeSt f .invalid s :=
  if_pos (bad.imp_right fun bad => by rw [bad]; rfl)

theorem bilCalendarRead_front (front : Front 0x0208 f s) : exec .bilCalendarRead s = .next (bilCalendarRead f s) :=
  exec_front (act := bilCalendarRead) front rfl

theorem bilCalendarRead_invalid (bad : 1 < f.p 16 1 ∨ f.bufLen ≠ 768) : bilCalendarRead f s = completeSt f .invalid s := if_pos bad

theorem bilCalendarRead_some {c : List Byte} (length : f.bufLen = 768) (small : f.p 16 1 ≤ 1)
    (stands : (if f.p 16 1 = 0 then s.clk.active else s.clk.passive) = some c) :
    bilCalendarRead f s = complete f .ok 0 (leBytes 1 (f.p 16 1)) (some c) s := by
  unfold bilCalendarRead
  dsimp only
  rw [if_neg (by omega), stands]

theorem bilCalendarRead_none (length : f.bufLen = 768) (small : f.p 16 1 ≤ 1)
    (absent : (if f.p 16 1 = 0 then s.clk.active else s.clk.passive) = none) : bilCalendarRead f s = completeSt f .conflict s := by
  unfold bilCalendarRead
  dsimp only
  rw [if_neg (by omega), absent]

/-! ### BIL_MD_RESET (R173) -/

theorem bilMdReset_front (front : Front 0x0209 f s) : exec .bilMdReset s = .next (bilMdReset f s) := exec_front (act := bilMdReset) front rfl

/-- The maxima of an outlet have been reset. -/
structure MdReset (a b : Bill) : Prop where
  imp : b.regs.mdImp = Vector.replicate 8 (0, 0)
  exp : b.regs.mdExp = Vector.replicate 8 (0, 0)
  count : b.regs.mdResets = a.regs.mdResets + 1

theorem resetMd_self (n : Outlet8) (s : State) : MdReset s.bill[n.val] (resetMd n s).bill[n.val] := by
  unfold resetMd
  refine ⟨?_, ?_, ?_⟩ <;> rw [commitBill_regs, modBill_bill, vmod_self]

theorem resetMd_other {m : Outlet8} (other : m ≠ n) (s : State) : (resetMd n s).bill[m.val] = s.bill[m.val] :=
  (commitBill_other other _).trans (vmod_other _ _ _ _ other.symm)

/-- The outlets that TARGET names, and those of them that are not frozen. -/
def mdChosen (f : Flight) : List Outlet8 := (allFin 8).filter fun n => decide (f.target = 0xFF) || decide (n = f.outlet)
def mdLive (f : Flight) (s : State) : List Outlet8 := (mdChosen f).filter fun n => !(s.bill[n.val]).frozen

/-- The maxima of a list of outlets are reset, one after the other. -/
def mdsReset (l : List Outlet8) (s : State) : State := l.foldl (fun s n => resetMd n s) s

theorem bilMdReset_cases (f : Flight) (s : State) : bilMdReset f s =
    complete f (if (mdLive f s).length = (mdChosen f).length then .ok else .frozen) 0
      (leBytes 1 ((mdLive f s).foldl (fun m n => m + 2 ^ n.val) 0)) none (mdsReset (mdLive f s) s) := rfl

theorem mdsReset_each {l : List Outlet8} (once : l.Nodup) (s : State) (n : Outlet8) :
    (n ∈ l → MdReset s.bill[n.val] (mdsReset l s).bill[n.val]) ∧ (n ∉ l → (mdsReset l s).bill[n.val] = s.bill[n.val]) :=
  parts_foldl (part := fun n s => s.bill[n.val]) (fun s n => resetMd_self n s) (fun s _ _ other => resetMd_other other s) l once s n

/-- The mask of the outlets of a run of consecutive numbers. -/
theorem mask_foldl (b : Outlet8 → Bool) (l : List Outlet8) (a c : Nat) (run : l.map Fin.val = List.range' a l.length) :
    (l.filter b).foldl (fun m n => m + 2 ^ n.val) c = c + 2 ^ a * maskOf (l.map b) := by
  induction l generalizing a c with
  | nil => rfl
  | cons n l ih =>
    rw [List.map_cons, List.length_cons, List.range'_succ] at run
    obtain ⟨first, rest⟩ := List.cons.inj run
    rw [List.map_cons, maskOf, List.filter_cons]
    split
    · next set =>
      rw [List.foldl_cons, ih (a + 1) _ rest, first, set, pow_succ]
      show _ = c + 2 ^ a * (1 + 2 * maskOf (l.map b))
      ring
    · next clear =>
      rw [ih (a + 1) _ rest, Bool.not_eq_true _ |>.mp clear, pow_succ]
      show _ = c + 2 ^ a * (0 + 2 * maskOf (l.map b))
      ring

theorem mdChosen_all (all : f.target = 0xFF) : mdChosen f = allFin 8 :=
  List.filter_eq_self.mpr fun _ _ => by rw [decide_eq_true all]; rfl

theorem named_alone : ∀ n : Outlet8, ((allFin 8).filter fun m => decide (m = n)) = [n] := by decide

theorem mdChosen_one (named : f.target.toNat = n.val) : mdChosen f = [n] := by
  have outlet : f.outlet = n := by
    unfold Flight.outlet
    rw [named]
    exact Fin.ofNat_val_eq_self n
  have notAll : f.target ≠ 0xFF := fun all => by
    rw [all] at named
    have small := n.isLt
    rw [← named] at small
    exact absurd small (by decide)
  unfold mdChosen
  rw [decide_eq_false notAll, outlet]
  exact named_alone n

theorem mdLive_one (named : f.target.toNat = n.val) : mdLive f s = if (s.bill[n.val]).frozen then [] else [n] := by
  unfold mdLive
  rw [mdChosen_one named]
  cases frozen : (s.bill[n.val]).frozen <;> simp [frozen]

/-- With TARGET 0xFF the status and the mask tell which outlets are frozen. -/
theorem mdLive_status (all : f.target = 0xFF) : (if (mdLive f s).length = (mdChosen f).length then Status.ok else .frozen) =
    if (allFin 8).any fun n => (s.bill[n.val]).frozen then .frozen else .ok := by
  have whole : (mdLive f s).length = (mdChosen f).length ↔ ∀ n : Outlet8, (s.bill[n.val]).frozen = false := by
    refine List.length_filter_eq_length_iff.trans ?_
    rw [mdChosen_all all]
    exact ⟨fun h n => (Bool.not_eq_true' _).mp (h n (List.mem_finRange n)), fun h n _ => (Bool.not_eq_true' _).mpr (h n)⟩
  by_cases none : ∀ n : Outlet8, (s.bill[n.val]).frozen = false
  · have any : ((allFin 8).any fun n => (s.bill[n.val]).frozen) = false :=
      List.any_eq_false.mpr fun n _ => by rw [none n]; exact Bool.false_ne_true
    rw [if_pos (whole.mpr none), any]
    rfl
  · have any : ((allFin 8).any fun n => (s.bill[n.val]).frozen) = true := by
      obtain ⟨n, frozen⟩ := not_forall.mp none
      exact List.any_eq_true.mpr ⟨n, List.mem_finRange n, (Bool.not_eq_false _).mp frozen⟩
    rw [if_neg (mt whole.mp none), any]
    rfl

theorem mdLive_mask (all : f.target = 0xFF) : (mdLive f s).foldl (fun m n => m + 2 ^ n.val) 0 =
    maskOf ((allFin 8).map fun n => !(s.bill[n.val]).frozen) := by
  unfold mdLive
  rw [mdChosen_all all, mask_foldl _ _ 0 0 (by decide), Nat.zero_add, pow_zero, Nat.one_mul]

theorem mem_mdLive (all : f.target = 0xFF) : n ∈ mdLive f s ↔ (s.bill[n.val]).frozen = false := by
  unfold mdLive
  rw [mdChosen_all all, List.mem_filter, Bool.not_eq_true']
  exact ⟨fun h => h.2, fun h => ⟨List.mem_finRange n, h⟩⟩

theorem mdLive_nodup (f : Flight) (s : State) : (mdLive f s).Nodup := ((List.nodup_finRange 8).filter _).filter _

/-! ### BIL_CFG -/

theorem bilCfgWrite_runs {v : W32} (up : LinkUp s) : exec (.bilCfgWrite v) s = .next (writeBilCfg v.toNat s) :=
  exec_up (act := writeBilCfg v.toNat) up rfl

theorem writeBilCfg_takes {v : Nat} (small : v % 8 < 5) : writeBilCfg v s = { s with clk := { s.clk with ivl := v % 8 } } := by
  unfold writeBilCfg
  dsimp only
  rw [bitsOf_low]
  exact if_neg (Nat.not_le.mpr small)

theorem writeBilCfg_rejects {v : Nat} (large : 5 ≤ v % 8) : writeBilCfg v s = { s with clk := { s.clk with cfgReject := true } } := by
  unfold writeBilCfg
  dsimp only
  rw [bitsOf_low]
  exact if_pos large

/-- Settles O24. -/
theorem clockAndBillingCommands : Obligations.ClockAndBillingCommands := by
  unfold Obligations.ClockAndBillingCommands
  refine ⟨?_, fun s v up => ⟨fun small => ?_, fun large => ?_⟩, ?_, ?_⟩
  · intro s f delta is ms
    change delta = timeDelta f s at is
    subst is
    refine ⟨fun front => (exec_front front rfl).trans rfl, fun front mode synced low high => ?_, fun front mode l is => ?_,
      fun front mode far => ?_, fun front out => ?_⟩
    · obtain ⟨clk, frame⟩ := slews_frame f s (timeSetData (timeDelta f s) false false)
      refine ⟨_, (bilTimeSet_front front).trans (congrArg Host.Outcome.next (bilTimeSet_slews ms mode synced low high)), clk, ?_⟩
      rw [clk]
      exact frame
    · subst is
      exact (bilTimeSet_front front).trans (congrArg Host.Outcome.next (bilTimeSet_steps ms mode))
    · exact (bilTimeSet_front front).trans (congrArg Host.Outcome.next (bilTimeSet_denied ms mode far))
    · exact (bilTimeSet_front front).trans (congrArg Host.Outcome.next (bilTimeSet_invalid (.inr out)))
  · exact (bilCfgWrite_runs up).trans (congrArg Host.Outcome.next (writeBilCfg_takes small))
  · exact (bilCfgWrite_runs up).trans (congrArg Host.Outcome.next (writeBilCfg_rejects large))
  · intro s f
    refine ⟨fun front length => ?_, fun front some small room => ?_, fun front => (exec_front front rfl).trans rfl,
      fun front => (exec_front front rfl).trans rfl, fun front length good => ?_, fun front bad => ?_,
      fun c front length small stands => ?_, fun n front named live => ?_, fun n front named frozen => ?_⟩
    · exact ⟨_, (bilRegRead_front front).trans (congrArg Host.Outcome.next (if_neg (not_not.mpr length)))⟩
    · have read : ShortRead f := ⟨some, small, room⟩
      cases frozen : (s.bill[f.outlet.val]).frozen with
      | true =>
        obtain ⟨data, runs⟩ := bilShortRead_frozen read frozen
        exact ⟨data, _, _, (bilShortRead_front front).trans (congrArg Host.Outcome.next runs), fun _ => ⟨rfl, rfl⟩,
          fun live => absurd live.symm Bool.false_ne_true⟩
      | false =>
        obtain ⟨data, runs⟩ := bilShortRead_live read frozen
        exact ⟨data, _, _, (bilShortRead_front front).trans (congrArg Host.Outcome.next runs), fun held => absurd held Bool.false_ne_true,
          fun _ => ⟨rfl, wrapsCleared_zero f s⟩⟩
    · exact (bilCalendarWrite_front front).trans (congrArg Host.Outcome.next (bilCalendarWrite_takes length good))
    · exact (bilCalendarWrite_front front).trans (congrArg Host.Outcome.next (bilCalendarWrite_invalid (.inr bad)))
    · exact (bilCalendarRead_front front).trans (congrArg Host.Outcome.next (bilCalendarRead_some length small stands))
    · have one : mdLive f s = [n] := (mdLive_one named).trans (if_neg (by rw [live]; exact Bool.false_ne_true))
      refine ⟨_, (bilMdReset_front front).trans (congrArg Host.Outcome.next (bilMdReset_cases f s)), ?_⟩
      rw [complete_bill, one]
      obtain ⟨imp, exp, count⟩ := resetMd_self n s
      exact ⟨imp, exp, count, fun m other => resetMd_other other s⟩
    · have none : mdLive f s = [] := (mdLive_one named).trans (if_pos frozen)
      refine (bilMdReset_front front).trans (congrArg Host.Outcome.next ((bilMdReset_cases f s).trans ?_))
      rw [none, mdChosen_one named]
      rfl
  · intro s f
    refine ⟨fun front out => ?_, fun front other => ?_, fun front bad => ?_, fun front other => ?_, fun front bad => ?_,
      fun front length small absent => ?_, fun front all => ⟨mdsReset (mdLive f s) s, ?_, fun n => ?_⟩⟩
    · exact (bilTimeSet_front front).trans (congrArg Host.Outcome.next (bilTimeSet_invalid (.inl out)))
    · exact (bilRegRead_front front).trans (congrArg Host.Outcome.next (if_pos other))
    · exact (bilShortRead_front front).trans (congrArg Host.Outcome.next (bilShortRead_invalid bad))
    · exact (bilCalendarWrite_front front).trans (congrArg Host.Outcome.next (bilCalendarWrite_invalid (.inl other)))
    · exact (bilCalendarRead_front front).trans (congrArg Host.Outcome.next (bilCalendarRead_invalid bad))
    · exact (bilCalendarRead_front front).trans (congrArg Host.Outcome.next (bilCalendarRead_none length small absent))
    · refine (bilMdReset_front front).trans (congrArg Host.Outcome.next ((bilMdReset_cases f s).trans ?_))
      rw [mdLive_status all, mdLive_mask all]
    · obtain ⟨among, outside⟩ := mdsReset_each (mdLive_nodup f s) s n
      refine ⟨fun live => ?_, fun frozen => outside fun mem => ?_⟩
      · obtain ⟨imp, exp, count⟩ := among ((mem_mdLive all).mpr live)
        exact ⟨imp, exp, count⟩
      · exact Bool.false_ne_true (((mem_mdLive all).mp mem).symm.trans frozen)

end Sys2Proof.Proofs

end
